-- ==== Sys2Proof/Word.lean ====
section
/-! DEFINITION. The word types the model's values come from, and their plainest arithmetic. -/

namespace Sys2Proof

/-- One byte of a memory, a frame or a message. -/
abbrev Byte := BitVec 8

/-- A 32-bit register word as it travels on the host's bus. -/
abbrev Word := BitVec 32

/-- R8: a number kept in `w` bits, read as two's complement. -/
def signedOf (w n : Nat) : Int :=
  if n % 2 ^ w < 2 ^ (w - 1) then (n % 2 ^ w : Nat) else (n % 2 ^ w : Nat) - (2 ^ w : Nat)

/-- The low `w` bits of an integer, as the two's-complement code that a field holds. -/
def codeOf (w : Nat) (i : Int) : Nat := (i % ((2 ^ w : Nat) : Int)).toNat

end Sys2Proof
end

