-- ==== Sys2Proof/Syntax.lean ====
section
/-! DEFINITION. The commands of the PX9616, one constructor per row of the opcode table, and the types of their operands.

An operand carries what reaches the device from outside at the step: a written word, a received frame, a measured
value, or the choice the spec leaves to the device. Everything else a step needs is in the state.
-/

namespace Sys2Proof

/-- The three variants of the die (00_scope, Variants). -/
inductive Variant where
  | x | m | b
deriving DecidableEq, Repr

/-- Who writes a register: the PCIe host, the SPI port, or a grove core with the task it runs (R480). -/
inductive Writer where
  | host | spi
  | core (unit task : Nat)
deriving DecidableEq, Repr

/-- R735: the fault classes. -/
inductive FaultClass where
  | clk | pwr | mem | bus | core | sched | lane | ring | cell | intlk | sc | gdrv | loop | time | canopy | net
  | safe | sec | config | adc | pos | age
deriving DecidableEq, Repr

/-- R733: how the raising rule names the level of an event. -/
inductive LevelReq where
  | l0 | base
  | atLeast (l : Nat)
deriving DecidableEq, Repr

/-- R732: an event on its way to the fault collector. `group` names the status return an SC event belongs to (R165);
`standing` says that its cause lasts (R744); `fences` that the raising rule fences the unit at every level from L2 upwards (R239 to
R241, R269, R360); `src` is the source of the word of an encoder's INTLK event (R157): 0 the rank engine or the encoder path, 1 the
host, and 2 + t task t; of a lost stream's or subscription's event its number (R549, R554). -/
structure Event where
  cls      : FaultClass
  unit     : Nat
  glade    : Bool := false
  req      : LevelReq := .base
  aux      : Nat := 0
  group    : Option Nat := none
  standing : Bool := false
  fences   : Bool := false
  src      : Nat := 0
deriving DecidableEq, Repr

/-- R14, R15: what a clock monitor watches: a glade's clock or the backup oscillator. -/
inductive ClockSource where
  | glade (g : Nat)
  | backup
deriving DecidableEq, Repr

/-- R769: what the header of an image slot carries, as the root of trust reads it from the header's layout, which is open: FORMAT, SVN, the
length of the body, the key slot, the digest of the body, the public modulus and the signature. -/
structure ImageHeader where
  format  : Nat
  svn     : Nat
  bodyLen : Nat
  keySlot : Nat
  digest  : List (BitVec 8)
  modulus : List (BitVec 8)
  sig     : List (BitVec 8)
deriving DecidableEq, Repr, Inhabited

/-- R832: what a protected memory word shows when it is read. -/
inductive EccResult where
  | clean | corrected | uncorrectable
deriving DecidableEq, Repr

/-- R481: where a buffer may live. -/
inductive BufKind where
  | placed | scratch
  | fixed (addr : Nat)
deriving DecidableEq, Repr

/-- R482: the memory that holds a placed buffer: grove memory, device memory, or one core's local SRAM. -/
inductive BufLoc where
  | grove (g : Nat) (ofs : Nat)
  | device (ofs : Nat)
  | sram (unit : Nat) (ofs : Nat)
deriving DecidableEq, Repr

/-- R481, R632: one buffer of the task set; `ckpt` marks a firmware checkpoint buffer. -/
structure BufDecl where
  handle : Nat
  size   : Nat
  kind   : BufKind
  ckpt   : Bool
  loc    : BufLoc
deriving DecidableEq, Repr

/-- R465: how a task becomes ready. -/
inductive Readiness where
  | any (mask : Nat)
  | all (mask : Nat)
  | matched (tagBase tagCnt opMask : Nat)
deriving DecidableEq, Repr

/-- R465: the declaration of one task. The class is `none` when the task set leaves it undeclared (R29). Bounds are in
10 ns steps. -/
structure TaskDecl where
  num      : Nat
  entry    : Nat
  prio     : Nat
  classP   : Option Bool
  ready    : Readiness
  tb       : Nat
  rb       : Nat
  bufs     : List (Nat × Nat × Bool)
  pages    : List (Nat × Bool)
  enabled  : Bool
deriving DecidableEq, Repr

/-- R546: one sampled-value stream of the image. -/
structure StreamDecl where
  num      : Nat
  dst      : Nat
  appid    : Nat
  svid     : List Byte
  ports    : Nat
  entries  : Nat
  synchReq : Nat
  tmoUs    : Nat
  crit     : Bool
  rate     : Nat
deriving DecidableEq, Repr

/-- R546: one sampled-value channel of the image. -/
structure ChannelDecl where
  num     : Nat
  stream  : Nat
  entry   : Nat
  mul     : Int
  postOp  : Bool
  tag     : Nat
  opIdx   : Nat
  postEvt : Bool
  flag    : Nat
deriving DecidableEq, Repr

/-- R550: one GOOSE publication of the image. -/
structure PubDecl where
  num     : Nat
  ports   : Nat
  dst     : Nat
  appid   : Nat
  gocbRef : List Byte
  datSet  : List Byte
  goID    : List Byte
  confRev : Nat
deriving DecidableEq, Repr

/-- R554: one GOOSE subscription of the image. -/
structure SubDecl where
  num     : Nat
  dst     : Nat
  appid   : Nat
  gocbRef : List Byte
  datSet  : List Byte
  confRev : Nat
  pos     : Nat
  action  : Nat
  flag    : Nat
  failBlk : Bool
deriving DecidableEq, Repr

/-- R618: one session of the image. `tag` is the matching-store tag in OPERAND mode; `island` names the Garnet
connection that the session is bound to (R704). -/
structure SessDecl where
  num      : Nat
  peer     : Nat
  peerSess : Nat
  operand  : Bool
  txBuf    : Nat
  rxBuf    : Nat
  tag      : Nat
  flag     : Option Nat
  rtoUs    : Nat
  island   : Option Nat
deriving DecidableEq, Repr

/-- R686: what a safety input is used for. -/
inductive SafeFunc where
  | unused | estop | guard | ossd | twohand
deriving DecidableEq, Repr

/-- R686: the parameters of safety input i. Times in µs. -/
structure SafeInputCfg where
  func     : SafeFunc
  antiv    : Bool
  tpA      : Option Nat
  tpB      : Option Nat
  auto     : Bool
  discUs   : Nat
  ossdUs   : Nat
deriving DecidableEq, Repr

/-- R686: the parameters of safety output k. -/
structure SafeOutputCfg where
  funcs   : List Nat
  remote  : List (Nat × Nat)
  edmOnUs : Nat
  edmOffUs : Nat
  blkArm  : Bool
deriving DecidableEq, Repr

/-- R705: the parameters of Garnet connection c. `ethPorts` = 0 with `sess` when the medium is a Canopy session. -/
structure SafeConnCfg where
  cid      : Nat
  ethPorts : Nat
  peerMac  : Nat
  sess     : Option Nat
  perUs    : Nat
  wdUs     : Nat
  errLim   : Nat
  txMap    : List Nat
deriving DecidableEq, Repr

/-- R685, R686: the safety parameter set. -/
structure SafePset where
  ident   : Nat
  crc     : Nat
  crcOk   : Bool
  inputs  : List SafeInputCfg
  outputs : List SafeOutputCfg
  conns   : List (Nat × SafeConnCfg)
  tpwUs   : Nat
  tppUs   : Nat
  irqMask : Nat
deriving DecidableEq, Repr

/-- R870: what the register-settings section expects on a BRD bus. -/
structure BoardExpect where
  bus   : Nat
  btype : Nat
  first : Nat
  cnt   : Nat
deriving DecidableEq, Repr

/-- R556: the members of the PTP default data set that the image supplies. -/
structure ClockDecl where
  clkClass : Nat := 0
  accuracy : Nat := 0
  variance : Nat := 0
  identity : Nat := 0
deriving DecidableEq, Repr

/-- R768, R868: the sections of a booted image. -/
structure Image where
  clock    : ClockDecl
  codeSize : Nat
  tasks    : List TaskDecl
  buffers  : List BufDecl
  regs     : List (Nat × Nat)
  streams  : List StreamDecl
  channels : List ChannelDecl
  pubs     : List PubDecl
  subs     : List SubDecl
  sessions : List SessDecl
  pset     : Option SafePset
  boards   : List BoardExpect
deriving DecidableEq, Repr

/-- R22: what is lost with a link: the writes in flight or queued on it, and whether a read of the host is among them. -/
structure LinkLoss where
  writes : Nat
  read   : Bool
deriving DecidableEq, Repr

/-- R744: what a cause is told by: the unit and the AUX of its event, and its source where one unit has several causes of one AUX
(`Event.src`). -/
structure CauseOf where
  unit : Nat
  aux  : Nat
  src  : Nat := 0
deriving DecidableEq, Repr

/-- R22, R831: a transfer on a link: the unit that sends it, and the address of a host access that it carries. -/
structure Transfer where
  unit : Nat
  host : Option Nat := none
deriving DecidableEq, Repr

/-- R831, R839: a burst read: its bytes, and whether it passes parity. -/
structure BurstRead where
  len      : Nat
  parityOk : Bool
deriving DecidableEq, Repr

/-- R831, R839: a burst write: its bytes, and whether it passes parity. -/
structure BurstWrite where
  bytes    : List (BitVec 8)
  parityOk : Bool
deriving DecidableEq, Repr

/-- R831, R835: an SPI frame that carries bytes to the device: its first byte, the bytes behind it, and whether it passes parity. -/
structure SpiFrame where
  opcode   : Nat
  bytes    : List (BitVec 8)
  parityOk : Bool
deriving DecidableEq, Repr

/-- R781: a unit with a wear monitor, or a row of the unit's SRAM. -/
structure WearUnit where
  unit : Nat
  row  : Bool
deriving DecidableEq, Repr

/-- R781: what a wear monitor measures: the path-delay slack in percent, or the corrected errors of 24 h. -/
structure Wear where
  what    : WearUnit
  measure : Nat
deriving DecidableEq, Repr

/-- R213, R214: the header of a frame: H0 [55:0] and H1. -/
structure RxHeader where
  h0 : Nat
  h1 : Nat
deriving DecidableEq, Repr

/-- R211 to R219: a frame from its header on: the blocks after H1, the CRC block (`none` where the frame is truncated), and its round
trip in ps. -/
structure RxBody where
  body : List Nat
  crc  : Option Nat
  rtPs : Nat
deriving DecidableEq, Repr

/-- R211 to R219: a ring frame as it comes back. -/
structure RxFrame extends RxHeader, RxBody
deriving DecidableEq, Repr

/-- R233: what one end has met in PROBE: the round trips of its probes and the far end's turnaround, in 1/8 ns, and the far end's
probe sets. -/
structure ProbeRun where
  rts    : List Nat
  turn   : Nat
  probes : List Nat
deriving DecidableEq, Repr

/-- R206, R639: the coded blocks that a repeating lane receives, each a sync header and a payload. -/
structure RepeatedFrame where
  lane   : Nat
  blocks : List (Nat × Nat)
deriving DecidableEq, Repr

/-- R298, R299: an invalid block of a lane, and whether it is its block type that is invalid. -/
structure BadBlock where
  lane      : Nat
  blockType : Bool
deriving DecidableEq, Repr

/-- R276: one alignment marker as a Canopy lane receives it; `at8` is its arrival in blocks of 6.4 ns. -/
structure Marker where
  lane   : Nat
  port   : Nat
  device : Nat
  seq    : Nat
  atBlk  : Nat
deriving DecidableEq, Repr

/-- R613, R615: a Canopy message as it is received or sent; `mcrc` is the check that its last block carries (R614). -/
structure CMsg where
  mtype   : Nat
  dst     : Nat
  src     : Nat
  hops    : Nat
  sess    : Nat
  seq     : Nat
  tag     : Nat
  aux     : Nat
  payload : List Byte
  mcrc    : Nat := 0
deriving DecidableEq, Repr

/-- R543: the redundancy information of an Ethernet frame. -/
inductive RedTag where
  | none
  | prp (seq lan : Nat)
  | hsr (seq : Nat)
deriving DecidableEq, Repr

/-- R539: an Ethernet frame as a port receives it. -/
structure EthFrame where
  size   : Nat
  etype  : Nat
  fcsOk  : Bool
  srcMac : Nat
  red    : RedTag
deriving DecidableEq, Repr

/-- R545, R547: one ASDU: smpCnt, smpSynch, and its dataset entries as value and quality. -/
structure Asdu where
  smpCnt  : Nat
  synch   : Nat
  entries : List (Int × Nat)
deriving DecidableEq, Repr

/-- R545: a sampled-value frame after the Ethernet port; `srcMac` and `red` tell its copies (R544). -/
structure SvFrame where
  port  : Nat
  srcMac : Nat
  red   : RedTag
  dst   : Nat
  appid : Nat
  svid  : List Byte
  sim   : Bool
  asdus : List Asdu
deriving DecidableEq, Repr

/-- R554: a GOOSE frame after the Ethernet port; a member that is not BOOLEAN is `none`, and `srcMac` and `red` tell its copies (R544). -/
structure GooseFrame where
  port    : Nat
  srcMac  : Nat
  red     : RedTag
  dst     : Nat
  appid   : Nat
  gocbRef : List Byte
  datSet  : List Byte
  confRev : Nat
  ndsCom  : Bool
  sim     : Bool
  test    : Bool
  stNum   : Nat
  sqNum   : Nat
  talMs   : Nat
  members : List (Option Bool)
deriving DecidableEq, Repr

/-- R543, R556: what heads a PTP message: the port it comes in on, the source address and redundancy information that tell its copies (R544), its domain, and the port
that sent it. -/
structure PtpHead where
  port   : Nat
  srcMac : Nat
  red    : RedTag
  domain : Nat
  sender : Nat
deriving DecidableEq, Repr

/-- R556: the data set of an Announce message, in the order in which the default BMCA compares it. -/
structure AnnounceData where
  prio1    : Nat
  clkClass : Nat
  accuracy : Nat
  variance : Nat
  prio2    : Nat
  identity : Nat
  steps    : Nat
  utcOfs   : Int
deriving DecidableEq, Repr

/-- R556, R557: a PTP message other than Sync; the four times of a peer-delay exchange are in 2^-16 ns, t1 and t4 the device's own. -/
inductive PtpMsg where
  | announce (d : AnnounceData)
  | pdelayReq
  | pdelayResp (t1 t2 t3 t4 : Int)
deriving DecidableEq, Repr

/-- R556: what a PTP port sends at the end of an interval. -/
inductive PtpSend where
  | sync | announce | pdelay
deriving DecidableEq, Repr

/-- R684, R685, R709: the self-checks of one logic cycle of the safety island, the check of its working parameter set among
them, and the levels it reads back: bit k of `readA`, `readB` and `edm` belongs to output k. -/
structure SafeChecks where
  lockstepOk : Bool
  oscOk      : Bool
  vsafeOk    : Bool
  memOk      : Bool
  psetOk     : Bool
  readA      : Nat
  readB      : Nat
  edm        : Nat
deriving DecidableEq, Repr

/-- The commands: one constructor per row of the opcode table, in the table's order. -/
inductive Instr where
  | powerOnReset (lowNs : Nat) (vsafeLow : Bool)
  | porRelease
  | pllLocked
  | gladeResetExit (g : Nat)
  | bootVerifyComplete (modeAck : Bool) (mode : Nat) (cmdAck : Bool)
  | imageApply (img : Image)
  | boardIdentify (bus : Nat) (bytes : List Byte)
  | sfpIdentify (port : Nat) (byte0 : Option Nat)
  | clkEdgeTimeout (src : ClockSource)
  | clkFreqWindow (src : ClockSource) (khz : Nat)
  | linkRxTimeout (src dst : Nat) (lost : LinkLoss)
  | linkAckTimeout (src dst : Nat) (lost : LinkLoss)
  | linkParityError (src dst : Nat) (t : Transfer) (isRead : Bool)
  | supplyExcursion (rail : Nat)
  | tjLimitExceeded (g : Nat) (tj : Int)
  | faultEvent (e : Option Event)
  | faultCauseCleared (cls : FaultClass) (unit : CauseOf)
  | rwtVoteDisagree (addr lo c0 c1 c2 : Nat)
  | faultAck (mask : Nat)
  | unfence (task : Bool) (id : Nat) (clkGood1ms : Bool)
  | histClr
  | recIdxWrite (v : Nat)
  | registerWrite (w : Writer) (addr v byteEn : Nat) (parityOk : Bool)
  | statusRead (addr : Nat) (parityOk : Bool)
  | unlockWrite (w : Writer) (v : Nat)
  | unlockArmExpired
  | eoi0
  | eoi1
  | pcieReset (flr : Bool)
  | spiRead (ofs words : Nat) (parityOk : Bool)
  | spiWrite (ofs : Nat) (bytes : List Byte) (parityOk : Bool)
  | spiDread (r : BurstRead)
  | spiDwrite (f : SpiFrame)
  | spiStatus
  | dpAddrWrite (v : Nat)
  | dpDataRead
  | dpDataWrite (v : Nat)
  | dpBurstRead (r : BurstRead)
  | dpBurstWrite (w : BurstWrite)
  | memoryScrub (addr : Nat) (r : EccResult)
  | cycleStart (notReady : List Nat)
  | selectionStart (selNs : Nat)
  | commit
  | blockFrameSend (ring : Nat)
  | goOff
  | goCharge
  | goRun
  | goBlock
  | cycLenWrite (v : Nat)
  | execOfsWrite (v : Nat)
  | cycPhaseWrite (v : Nat)
  | refSlopeWrite (v : Nat)
  | statusSlotReceived (ring slot : Nat) (h : RxHeader) (s0 s1 s2 s3 : Nat)
  | frameReturn (ring : Nat) (f : RxFrame)
  | recordAgeLimit (i : Nat)
  | keySave
  | keySaveDone
  | smIdxWrite (v : Nat)
  | dcmdPost (w : Writer) (v : Nat)
  | hold (i : Nat)
  | release (i : Nat)
  | fbpClr (i : Nat)
  | fire (i : Nat)
  | holdInfoWrite (v : Nat)
  | holdBlkReached (i : Nat)
  | leakRoundStart
  | leakResultTimeout (i : Nat)
  | fbpTimeout (i : Nat)
  | ringEnSet (ring : Nat)
  | ringEnClear (ring : Nat)
  | ringAdmitWrite (ring : Nat)
  | ringAdmission (ring : Nat)
  | probeComplete (ring : Nat) (p : ProbeRun)
  | probeTimeout (ring : Nat)
  | enumFrameReturn (ring : Nat) (h : RxHeader) (b : RxBody)
  | enumTimeout (ring : Nat)
  | serviceAccessStart (ring v : Nat)
  | serviceFrameSend (ring : Nat)
  | serviceFrameReturn (ring : Nat) (f : RxFrame)
  | ringForeignFrame (ring dir : Nat)
  | repeatFrameStart (f : RepeatedFrame)
  | laneEnable (lane : Nat)
  | laneDisable (lane : Nat)
  | laneCalDone (lane : Nat)
  | laneSignalAcquired (lane ppm : Nat)
  | laneAcqTimeout (lane : Nat)
  | laneAdaptDone (lane rxEq : Nat)
  | laneBlockLock (lane : Nat)
  | laneSyncTimeout (lane : Nat)
  | laneLossOfLock (lane : Nat) (hiBer : Bool)
  | laneSignalLost (lane : Nat)
  | lolWindowEnd (lane : Nat)
  | readapt (lane : Nat)
  | readaptDone (lane taps : Nat)
  | txEqWrite (lane v : Nat)
  | elasticRecentre (lane : Nat)
  | alignMarkerSend (port : Nat)
  | markerSetReceived (port : Nat) (ms : List Marker)
  | prbsError (lane : Nat)
  | esGo (lane v : Nat)
  | esStop (lane : Nat)
  | esFree (lane : Nat)
  | eyeScanStart (lane : Nat)
  | eyeScanPointDone (lane err : Nat)
  | crossScanDue (lane : Nat)
  | crossScanDone (lane : Nat) (hErrs vErrs : List Nat)
  | loopTrigger (unit : Nat)
  | loopSample (unit : Nat)
  | loopEnable (unit : Nat)
  | loopDisable (unit : Nat)
  | uSpWrite (unit v : Nat)
  | uIntHiWrite (unit v : Nat)
  | uIntLoRead (unit : Nat)
  | loopAllOff (page : Nat)
  | pwmPeriodStart (ch : Nat)
  | pwmTurnOff (ch : Nat)
  | chPerWrite (ch v : Nat)
  | chCmpWrite (ch v : Nat)
  | pwmEnable (ch : Nat)
  | syncPulse (ch : Nat)
  | syncInEdge
  | xdeadWaitEnd (ch : Nat)
  | gdFltAssert (ch : Nat)
  | blankEnd (ch : Nat) (asserted : Bool)
  | fltClr (ch : Nat) (asserted : Bool)
  | gsLow (ch : Nat)
  | gsHigh (ch : Nat)
  | resume
  | pwmAllOff
  | safeLvlWrite (v : Nat)
  | xpairWrite (v : Nat)
  | posCountEdge (i : Nat) (edgeA edgeB bLevel : Bool) (gap : Nat)
  | posIndexEdge (i : Nat)
  | posWindowEnd (i : Nat)
  | posEnable (i : Nat)
  | cmpArm (i : Nat)
  | idxArm (i : Nat)
  | posWrite (i v : Nat)
  | cmpPosWrite (i v : Nat)
  | spdnetRead (i : Nat)
  | emuEnable (i : Nat)
  | emuOutputStep (i : Nat)
  | adcGo (c : Nat)
  | adcTrigger (c : Nat)
  | adcLastSample (c : Nat)
  | adcBurstDone (c : Nat) (codes : List Nat)
  | adcStop (c : Nat)
  | calNow (c : Nat)
  | adcCalDue (c : Nat)
  | adcRecalStart (c waitNs : Nat)
  | adcRecalDone (c : Nat) (ofsCodes gainCodes : Int)
  | adcCalRetry (c waitNs : Nat)
  | pxMulq16 (core rd rs1 rs2 : Nat)
  | pxMacq16 (core rd rs1 rs2 : Nat)
  | pxMulq24 (core rd rs1 rs2 : Nat)
  | pxMacq24 (core rd rs1 rs2 : Nat)
  | pxPoste (core rs1 : Nat)
  | pxPosto (core rd rs1 rs2 idx : Nat)
  | pxOpget (core rd idx : Nat)
  | pxEndw (core : Nat)
  | workItemAbort (core cause pc tval : Nat)
  | runBoundExpired (core pc : Nat)
  | flagPost (flags : Nat)
  | operandPost (tag idx v : Nat)
  | operandStallTimeout
  | dispatch (task core : Nat)
  | stagingDone (core : Nat)
  | taskEnable
  | taskDisable
  | taskIdxWrite (v : Nat)
  | hostFlagPost (v : Nat)
  | hopValWrite (v : Nat)
  | bufferMoveStart (handle : Nat) (dest : BufLoc)
  | bufferMoveDone (handle : Nat)
  | traceSnap
  | coreDebugHalt (core : Nat)
  | coreDebugResume (core : Nat)
  | nowLoRead
  | timeSet
  | incNsWrite (v : Nat)
  | tcmpTgtWrite (c v : Nat)
  | timeCompareFire (c : Nat)
  | servoOffset (src : Nat) (offQ16 : Int)
  | holdoverTimeout
  | srvSrcWrite (v : Nat)
  | ppsInEdge
  | ppsMissTimeout
  | ppsOutRise
  | ppsOutFall
  | ethFrameReceived (port : Nat) (f : EthFrame)
  | prpEntryExpired (pair srcMac seq : Nat)
  | ethLinkDown (port : Nat)
  | anRestart (port : Nat)
  | sfpRead (port v : Nat)
  | sfpReadDone (port result data : Nat)
  | prpSupervisionSend (pair : Nat)
  | svFrameReceived (f : SvFrame)
  | svStreamTimeout (j : Nat)
  | gooseNewState (pub : Nat)
  | gooseRepeat (pub : Nat)
  | gpDataWrite (v : Nat)
  | gooseFrameReceived (f : GooseFrame)
  | gooseSubTimeout (j : Nat)
  | ptpSyncReceived (h : PtpHead) (t1 corr t2 : Int)
  | ptpMessageReceived (h : PtpHead) (m : PtpMsg)
  | ptpIntervalSend (port : Nat) (k : PtpSend)
  | svsInfoWrite (v : Nat)
  | svcInfoWrite (v : Nat)
  | gsInfoWrite (v : Nat)
  | canopyPortUp (port : Nat)
  | canopyPortDown (port : Nat)
  | devidWrite (v : Nat)
  | canopyMessageReceived (port : Nat) (lanes : List (List (Nat × Nat)))
  | canopyTxNext (port : Nat)
  | canopySend (s v : Nat)
  | sessionRto (s : Nat)
  | sessionDeadline (s : Nat)
  | sessEnable
  | sessDisable
  | rxRel
  | sessIdxWrite (v : Nat)
  | dataReceived (port : Nat) (m : CMsg)
  | ackReceived (port : Nat) (m : CMsg)
  | treqSend (port : Nat)
  | treqReceived (port : Nat) (m : CMsg) (t2 t3 : Nat)
  | trespReceived (port : Nat) (m : CMsg) (t1 t4 : Int)
  | hbReceived (port : Nat) (m : CMsg)
  | ckptReceived (port : Nat) (m : CMsg)
  | staticReceived (port : Nat) (m : CMsg)
  | handoverReceived (port : Nat) (m : CMsg)
  | withdrawReceived (port : Nat) (m : CMsg)
  | heartbeatTimeout
  | checkpointCapture
  | checkpointBufferCopy (handle : Nat)
  | ungateComplete (g : Nat)
  | ungateTimeout (g : Nat)
  | takeoverRestore (restoreNs : Nat)
  | handover
  | warmSupEnd
  | roleAssignment
  | safeStartDone (selfTestOk : Bool)
  | safeInputSample (a b : Nat) (pulse : Option Nat) (settled : Bool) (rst : Bool)
  | safeLogicCycle (c : SafeChecks)
  | testPulse (j : Nat)
  | discTimeout (i : Nat)
  | twohandSyncTimeout (pair : Nat)
  | safeRstRelease (heldUs : Nat) (selfTestOk : Bool)
  | edmOnTimeout (k : Nat) (edmHigh : Bool)
  | edmOffTimeout (k : Nat) (edmHigh : Bool)
  | outputTestPulse (k : Nat) (channelB : Bool) (pulseSeen : Bool)
  | garnetPduReceived (c : Nat) (pdu : List Byte)
  | garnetPduSend (c : Nat)
  | garnetWatchdog (c : Nat)
  | garnetFailedEnd (c : Nat)
  | garnetErrWindowEnd (c : Nat)
  | quote
  | quoteDone
  | dbgChal (challenge : List Byte)
  | dbgAuth
  | dbgClose
  | commitSvn
  | retArmWrite (v : Nat)
  | retArmExpired
  | returnPrep
  | returnPrepDone
  | store (part : Nat)
  | storeDone (readBackOk : Bool)
  | reload
  | imgCommit
  | bootPrefWrite (v : Nat)
  | nvmRefresh (sector : Nat) (r : EccResult)
  | pathSlackLow (g slack : Nat) (ack : Bool)
  | avsStepWaitEnd (g slack : Nat)
  | marginHigh24h (ack : Bool)
  | groveClockStep (g : Nat)
  | budgetWindowEnd
  | wearThreshold (unit : Wear)
  | spareBringIn (unit : WearUnit)
  | blockFrameRepeat
  | serviceReplyTimeout (ring : Nat)
  | ptpAnnounceReceiptTimeout (port : Nat)
  | autoNegotiationDone (port : Nat) (fullDuplex : Bool)
  | invalidSyncHeader (e : BadBlock)
  | imageVerifyDone (slot : Nat)
  | pcieLinkUp (speed width : Nat)
  | pcieLinkDown (refclkLost : Bool)
  | operatingHour
deriving DecidableEq, Repr

end Sys2Proof
end

