-- ==== Sys2Proof/Decode.lean ====
section
/-! DEFINITION. The commands of this block come from its interfaces and engines; the opcode table gives no row any bits, so no
word spells a command. The grove cores' Xpx instructions have words of their own (R459); the machine takes them as commands, and
their words are read here. -/

namespace Sys2Proof

/-- The command that a word spells by the opcode table's bits: the table gives no row bits. -/
def decodeTableWord (_nbits _w : Nat) : Option Instr := none

/-- A field of a 32-bit instruction word. -/
def wordField (w lo n : Nat) : Nat := w / 2 ^ lo % 2 ^ n

/-- R458, R459: the Xpx instruction that a word on the custom-0 opcode spells, at a core; `none`: an illegal instruction. -/
def decodeXpx (core w : Nat) : Option Instr :=
  let f7 := wordField w 25 7
  let rs2 := wordField w 20 5
  let rs1 := wordField w 15 5
  let f3 := wordField w 12 3
  let rd := wordField w 7 5
  if wordField w 0 7 ≠ 0x0B ∨ 2 ^ 32 ≤ w then none
  else if f3 = 0 then
    if f7 = 0 then some (.pxMulq16 core rd rs1 rs2) else if f7 = 1 then some (.pxMacq16 core rd rs1 rs2) else none
  else if f3 = 1 then
    if f7 = 0 then some (.pxMulq24 core rd rs1 rs2) else if f7 = 1 then some (.pxMacq24 core rd rs1 rs2) else none
  else if f3 = 2 then
    if f7 = 0 ∧ rs2 = 0 ∧ rd = 0 then some (.pxPoste core rs1) else none
  else if f3 = 3 then
    if f7 < 8 then some (.pxPosto core rd rs1 rs2 f7) else none
  else if f3 = 4 then
    if f7 = 0 ∧ rs2 < 8 ∧ rs1 = 0 then some (.pxOpget core rd rs2) else none
  else if f3 = 7 then
    if f7 = 0 ∧ rs2 = 0 ∧ rs1 = 0 ∧ rd = 0 then some (.pxEndw core) else none
  else none

end Sys2Proof
end

