-- ==== Sys2Proof/Config.lean ====
section
/-! DEFINITION. What an implementation or a part number fixes: the unit counts of the three variants, and the values
that the spec leaves open, as constants without a body. -/

namespace Sys2Proof

/-- Cell lanes and rings present (00_scope, Variants). -/
def Variant.rings : Variant → Nat
  | .x => 96
  | .m => 64
  | .b => 32

/-- Groves present. -/
def Variant.groves : Variant → Nat
  | .x => 3
  | .m => 2
  | .b => 1

/-- Loop units present. -/
def Variant.loops : Variant → Nat
  | .x => 32
  | .m => 32
  | .b => 16

/-- Sub-modules per arm at most. -/
def Variant.smMax (v : Variant) : Nat := 16 * v.rings

/-- Position interfaces present: -X only. -/
def Variant.hasPos : Variant → Bool
  | .x => true
  | .m => false
  | .b => false

/-- Safety island and redundant pair present: -X and -M. -/
def Variant.hasPair : Variant → Bool
  | .x => true
  | .m => true
  | .b => false

/-- R5: the VARIANT code. -/
def Variant.code : Variant → Nat
  | .x => 0
  | .m => 1
  | .b => 2

/-- R849: the 16-byte device serial, fixed at manufacture. -/
opaque Config.serial : Nat

/-- R769: the OTP hash of an image key slot, none where the slot is not programmed. -/
opaque Config.imageKey (slot : Nat) : Option (List Byte)

/-- R776: the OTP hash of the settings key, if programmed. -/
opaque Config.settingsKey : Option (List Byte)

/-- R773: the OTP hash of the debug key, if programmed. -/
opaque Config.debugKey : Option (List Byte)

/-- R233: the constant turnaround of a lane that answers a probe, in 1/8 ns. -/
opaque Config.laneTurn : Nat

/-- R209, R265: the register of a lane's scrambler at an elapsed time (its state at power-up is open). -/
opaque Config.scrambler (lane elapsed : Nat) : BitVec 58

/-- R279: the register of a lane's PRBS31 generator at an elapsed time. -/
opaque Config.prbsReg (lane elapsed : Nat) : BitVec 31

/-- R458: mtvec of every core, which names the scheduler's abort entry. -/
opaque Config.abortEntry : Nat

/-- The free values: a value of `w` bits that the spec leaves open, one for each use counted in `State.free`. -/
opaque Config.freeValue (w k : Nat) : BitVec w


/-- R637: the recorded identity of one slot in the static part. -/
structure StaticSlot where
  serial : Nat
  full   : Bool
  capUf  : Nat
deriving DecidableEq, Repr

/-- R637: one admitted ring in the static part. -/
structure StaticRing where
  ring  : Nat
  nc    : Nat
  rt    : Nat
  dly   : Nat
  slots : List StaticSlot
deriving DecidableEq, Repr

/-- R637: the byte layout of the static part, which the spec leaves open. -/
opaque Config.staticBytes : List StaticRing → List Byte
/-- R637: what a receiver reads from those bytes. -/
opaque Config.staticParse : List Byte → List StaticRing

/-- R772: the end of the quote body, of SVN, slot, boot count and device serial (its layout is open). -/
opaque Config.quoteTail (svn slot boots serial : Nat) : List (BitVec 8)
/-- R772: the device key's signature over a quote body. -/
opaque Config.quoteSig : List (BitVec 8) → List (BitVec 8)
/-- R768, R868: the code image in an image slot's cells (the layout of the image body is open). -/
opaque Config.codeImage : List (Nat × BitVec 8) → List (BitVec 8)
/-- R772: the device certificate. -/
opaque Config.devCert : List (BitVec 8)
/-- R769: the exponent 65,537 as it follows the modulus in the digest of a key (its form is open). -/
opaque Config.exponentBytes : List (BitVec 8)
/-- R768: the stored form of boot configuration, of BOOT.PREF and the store sequence. -/
opaque Config.bootBytes (pref seq : Nat) : List (BitVec 8)
/-- R788: the return record, of device time, boot count, store sequence, wear counts and the last quote body. -/
opaque Config.returnRecord (timeNs boots seq : Nat) (wear imgWear : List (Nat × Nat)) (quote : List (BitVec 8)) : List (BitVec 8)

/-- R782, R883: a voltage in mV as a LINEAR16 word with the exponent that VOUT_MODE gives (how it rounds is open). -/
opaque Config.linear16 (exponent mV : Nat) : BitVec 16
/-- R769: what the first 4 KiB of an image slot carry as its header (the layout is open). -/
opaque Config.headerOf : List (BitVec 8) → ImageHeader
/-- R776: the initial values of RWT fields, by address and lowest bit, that the cells of a stored settings P hold (the layout is open). -/
opaque Config.settingsP : List (Nat × BitVec 8) → List (Nat × Nat × Nat)
/-- R868: the pairs of offset and value that the cells of a stored settings U hold (the layout is open). -/
opaque Config.settingsU : List (Nat × BitVec 8) → List (Nat × Nat)

/-- R738, R768: the cells of the fault-history partition after a dump, by offset, from those before it and the words of the
queue and of the open records (the layout is open). -/
opaque Config.histDump (old : List (Nat × BitVec 8)) (words : List Nat) : List (Nat × BitVec 8)

end Sys2Proof
end

