-- ==== Sys2Proof/Machine/Bits.lean ====
section
/-! DEFINITION. Bit fields of words, byte order, checksums, sorted sparse tables and byte memories: the helpers that
every chapter's meanings use. A table is a list of (key, value) pairs with strictly rising keys. -/

namespace Sys2Proof.Machine

/-- The `w`-bit field of `v` that starts at bit `lo`. -/
def bits (v lo w : Nat) : Nat := v / 2 ^ lo % 2 ^ w

/-- Bit `j` of `v`. -/
def bitOf (v j : Nat) : Bool := v / 2 ^ j % 2 = 1

/-- 1 for true, 0 for false. -/
def b2n (b : Bool) : Nat := if b then 1 else 0

/-- `v` with bit `j` set. -/
def setBitN (v j : Nat) : Nat := if bitOf v j then v else v + 2 ^ j

/-- `v` with bit `j` clear. -/
def clrBitN (v j : Nat) : Nat := if bitOf v j then v - 2 ^ j else v

/-- The bits of `v` below `n` that are set, in ascending order. -/
def bitList (n v : Nat) : List Nat := (List.range n).filter (fun j => bitOf v j)

/-- The word whose bit `j` is set for each `j` of the list. -/
def maskOf (l : List Nat) : Nat := l.foldl setBitN 0

/-- Number of set bits of `v` below `n`. -/
def popCount (n v : Nat) : Nat := (bitList n v).length

/-- `n` limited to `m`: a saturating value. -/
def satTo (m n : Nat) : Nat := if n ≤ m then n else m

/-- `i` limited to `lo … hi`. -/
def clampInt (lo hi i : Int) : Int := if i < lo then lo else if hi < i then hi else i

/-- Little-endian value of bytes. -/
def leNat : List Byte → Nat
  | [] => 0
  | b :: bs => b.toNat + 256 * leNat bs

/-- The `n` little-endian bytes of `v`. -/
def leBytes : Nat → Nat → List Byte
  | 0, _ => []
  | n + 1, v => BitVec.ofNat 8 v :: leBytes n (v / 256)

/-- Big-endian value of bytes. -/
def beNat (bs : List Byte) : Nat := bs.foldl (fun a b => 256 * a + b.toNat) 0

/-- One bit of a left-shifting CRC of width `w` and polynomial `p`. -/
def crcBit (w p c : Nat) (b : Bool) : Nat :=
  let c2 := c * 2 % 2 ^ w
  if (bitOf c (w - 1)) != b then Nat.xor c2 p else c2

/-- One byte of that CRC, most significant bit first. -/
def crcByte (w p c : Nat) (x : Nat) : Nat :=
  [7, 6, 5, 4, 3, 2, 1, 0].foldl (fun a j => crcBit w p a (bitOf x j)) c

/-- One bit of a right-shifting (reflected) CRC of polynomial `p`. -/
def crcBitR (p c : Nat) (b : Bool) : Nat :=
  if (bitOf c 0) != b then Nat.xor (c / 2) p else c / 2

/-- One byte of that CRC, least significant bit first. -/
def crcByteR (p c : Nat) (x : Nat) : Nat :=
  [0, 1, 2, 3, 4, 5, 6, 7].foldl (fun a j => crcBitR p a (bitOf x j)) c

/-- Castagnoli CRC-32C: reflected, initial value and final inversion all ones. -/
def crc32c (bs : List Byte) : Nat :=
  Nat.xor (bs.foldl (fun c b => crcByteR 0x82F63B78 c b.toNat) 0xFFFFFFFF) 0xFFFFFFFF

/-- The value that a sorted table holds at a key. -/
def lookupKey {α : Type} : List (Nat × α) → Nat → Option α
  | [], _ => none
  | (k, v) :: t, n => if n = k then some v else lookupKey t n

/-- A sorted table with the key set to a value. -/
def insertKey {α : Type} (n : Nat) (v : α) : List (Nat × α) → List (Nat × α)
  | [] => [(n, v)]
  | (k, w) :: t => if n < k then (n, v) :: (k, w) :: t else if n = k then (n, v) :: t else (k, w) :: insertKey n v t

/-- A sorted table without a key. -/
def eraseKey {α : Type} (n : Nat) : List (Nat × α) → List (Nat × α)
  | [] => []
  | (k, w) :: t => if n = k then t else (k, w) :: eraseKey n t

/-- The keys of a table rise strictly, and all lie above `n` where `n` is given. -/
def keysRise {α : Type} : Option Nat → List (Nat × α) → Bool
  | _, [] => true
  | p, (k, _) :: t => (match p with | none => true | some n => decide (n < k)) && keysRise (some k) t

/-- A sparse table: every key that is not listed holds the default. -/
abbrev Tab (α : Type) := List (Nat × α)

/-- The value at key `k`, `d` where it is not listed. -/
def tget {α : Type} (d : α) (t : Tab α) (k : Nat) : α := (lookupKey t k).getD d

/-- The table with key `k` at `v`; the default is never listed. -/
def tset {α : Type} [DecidableEq α] (d : α) (t : Tab α) (k : Nat) (v : α) : Tab α :=
  if v = d then eraseKey k t else insertKey k v t

/-- The canonical form: keys rise strictly and no entry is the default. -/
def Tab.wf {α : Type} [DecidableEq α] (d : α) (t : Tab α) : Bool :=
  keysRise none t && t.all (fun e => decide (e.2 ≠ d))

/-- A byte-addressed memory: strictly rising addresses, no entry equal to 0, which is what an unlisted address
reads as (DESIGN CHOICE, notes/assumptions/4.md). -/
abbrev Memory := List Host.Cell

/-- The canonical form of a memory. -/
def Memory.wf (m : Memory) : Bool := Tab.wf (0 : Byte) m

/-- One byte. -/
def Memory.read (m : Memory) (a : Nat) : Byte := tget 0 m a

/-- The memory with one byte written. -/
def Memory.write (m : Memory) (a : Nat) (b : Byte) : Memory := tset 0 m a b

/-- `n` bytes from address `a` upwards. -/
def Memory.readN (m : Memory) (a : Nat) : Nat → List Byte
  | 0 => []
  | n + 1 => Memory.read m a :: Memory.readN m (a + 1) n

/-- The memory with the bytes written from address `a` upwards. -/
def Memory.writeN (m : Memory) (a : Nat) : List Byte → Memory
  | [] => m
  | b :: bs => Memory.writeN (Memory.write m a b) (a + 1) bs

/-- The memory with `n` bytes from `a` cleared to zero. -/
def Memory.zeroN (m : Memory) (a n : Nat) : Memory := m.filter (fun c => c.1 < a || a + n ≤ c.1)

/-- `n` bytes of a memory copied from one address to another. -/
def Memory.copyN (m : Memory) (src n dst : Nat) : Memory :=
  (m.filter (fun c => decide (src ≤ c.1 ∧ c.1 < src + n))).foldl (fun a c => Memory.write a (c.1 - src + dst) c.2) (Memory.zeroN m dst n)

/-- A sorted list of numbers with `n` in it. -/
def addKey (n : Nat) : List Nat → List Nat
  | [] => [n]
  | k :: t => if n < k then n :: k :: t else if n = k then k :: t else k :: addKey n t

/-- The list without `n`. -/
def dropKey (n : Nat) (l : List Nat) : List Nat := l.filter (fun k => k != n)

end Sys2Proof.Machine
end

