-- ==== Sys2Proof/Machine/RegTable.lean ====
section
/-! DEFINITION. The register fields of every page (R819), one definition per field of the spec's register tables.

A field is named PAGE_REGISTER_FIELD (U_... for a loop unit, CH_... for a PWM channel) and carries its word address
in BAR0, its lowest bit, its width, its reset value and its access code (R9). Where the table says `variant`, `stored`
or per-page, the value is a view over the state (Machine/Views.lean) or named in notes/assumptions.
-/

namespace Sys2Proof.Machine

/-- Access codes of register fields (R9). -/
inductive Access where
  | rw | ro | rc | w1 | wo | rwl | rwt
deriving DecidableEq, Repr

/-- One field of a register: word address, lowest bit, width, reset value, access code. -/
structure Field where
  addr : Nat
  lo   : Nat
  w    : Nat
  rst  : Nat
  acc  : Access
deriving DecidableEq, Repr

/-- The key of a field in the register store: 32 bit positions per word address. -/
def Field.key (F : Field) : Nat := 32 * F.addr + F.lo

/-- R735: reset base level of a fault class, by class code. -/
def resetBase (c : Nat) : Nat :=
  if c = 1 then 2 else if c = 2 then 3 else if c = 5 then 2 else 1

namespace R

/-- R5. Number of loop units present: 32 or 16 -/
def SYS_CAP_LOOPS : Field := ⟨0x4, 24, 6, 0, .ro⟩
/-- R5. Number of spare grove cores: 3, 2 or 1 -/
def SYS_CAP_SPARES : Field := ⟨0x4, 21, 2, 0, .ro⟩
/-- R5. Number of usable grove cores: 24, 16 or 8 -/
def SYS_CAP_CORES : Field := ⟨0x4, 16, 5, 0, .ro⟩
/-- R5. Number of cell lanes present: 96, 64 or 32 -/
def SYS_CAP_LANES : Field := ⟨0x4, 8, 7, 0, .ro⟩
/-- R5. 1: both position interfaces present -/
def SYS_CAP_POS : Field := ⟨0x4, 5, 1, 0, .ro⟩
/-- R5. 1: redundant-pair operation available -/
def SYS_CAP_AMBER : Field := ⟨0x4, 4, 1, 0, .ro⟩
/-- R5. 1: safety island present -/
def SYS_CAP_SAFE : Field := ⟨0x4, 3, 1, 0, .ro⟩
/-- R5. 1: every RC/RO bit is clear-on-read; 0: condition bits follow their conditions and ... -/
def SYS_CAP_STSEM : Field := ⟨0x4, 2, 1, 0, .ro⟩
/-- R5. 0: -X; 1: -M; 2: -B; 3: reserved -/
def SYS_CAP_VARIANT : Field := ⟨0x4, 0, 2, 0, .ro⟩
/-- R58. Arm cycle T in 10 ns units, 200 to 5,000 -/
def ARM_CYC_LEN_LEN : Field := ⟨0x71040, 0, 13, 500, .rwl⟩
/-- R59. Execution-window offset in 10 ns units -/
def ARM_EXEC_OFS_OFS : Field := ⟨0x71044, 0, 13, 0, .rwl⟩
/-- R60. Request BLOCKED -/
def ARM_ARM_CMD_GO_BLOCK : Field := ⟨0x71048, 3, 1, 0, .w1⟩
/-- R60. Request RUN -/
def ARM_ARM_CMD_GO_RUN : Field := ⟨0x71048, 2, 1, 0, .w1⟩
/-- R60. Request CHARGE -/
def ARM_ARM_CMD_GO_CHARGE : Field := ⟨0x71048, 1, 1, 0, .w1⟩
/-- R60. Request OFF -/
def ARM_ARM_CMD_GO_OFF : Field := ⟨0x71048, 0, 1, 0, .w1⟩
/-- R61. Code of the last refused command (R53); 0: none since reset -/
def ARM_ARM_STATE_REFUSE : Field := ⟨0x7104C, 4, 4, 0, .ro⟩
/-- R61. 0: OFF; 1: CHARGE; 2: BLOCKED; 3: RUN; 4: DEBUG_HALT; others reserved -/
def ARM_ARM_STATE_STATE : Field := ⟨0x7104C, 0, 3, 0, .ro⟩
/-- R62. Incremented at each cycle start; wraps -/
def ARM_CYC_CNT_COUNT : Field := ⟨0x71050, 0, 32, 0, .ro⟩
/-- R63. Ring with the largest D_RT -/
def ARM_RT_MAX_RING : Field := ⟨0x71054, 16, 7, 0, .ro⟩
/-- R63. RT_MAX in ns over unfenced admitted rings -/
def ARM_RT_MAX_RT : Field := ⟨0x71054, 0, 16, 0, .ro⟩
/-- R64. Slack of the last cycle (R46), signed, in 10 ns units, rounded towards minus infinity -/
def ARM_SEL_DL_SLACK : Field := ⟨0x71058, 16, 16, 0, .ro⟩
/-- R64. SEL_DL in ns from cycle start; follows CYC_LEN -/
def ARM_SEL_DL_DL : Field := ⟨0x71058, 0, 16, 4050, .ro⟩
/-- R65. 1: controlled charging in CHARGE (R51) -/
def ARM_NRUN_CCHG : Field := ⟨0x7105C, 16, 1, 0, .rw⟩
/-- R65. Selectable sub-modules required for RUN, 1 to 1,536; 0: all present not in FAILED_BYPASS -/
def ARM_NRUN_MIN : Field := ⟨0x7105C, 0, 11, 0, .rw⟩
/-- R66. Consecutive cycles without a delivered reference -/
def ARM_REF_MISS_MISS_CNT : Field := ⟨0x71060, 8, 8, 0, .ro⟩
/-- R66. Misses that block the arm, 1 to 8; other values are ignored and record a CONFIG event ... -/
def ARM_REF_MISS_LIMIT : Field := ⟨0x71060, 0, 4, 2, .rwt⟩
/-- R67. Block frames sent (R55) -/
def ARM_CYC_STAT_BLOCKFRM : Field := ⟨0x71064, 5, 1, 0, .rc⟩
/-- R67. Cycle starts off their aligned instants (R38) -/
def ARM_CYC_STAT_REALIGN : Field := ⟨0x71064, 4, 1, 0, .rc⟩
/-- R67. A state command was refused -/
def ARM_CYC_STAT_REFUSED : Field := ⟨0x71064, 3, 1, 0, .rc⟩
/-- R67. Budget of R44 found open -/
def ARM_CYC_STAT_BUDGET : Field := ⟨0x71064, 2, 1, 0, .rc⟩
/-- R67. A ring's status missed SEL_DL -/
def ARM_CYC_STAT_STAT_LATE : Field := ⟨0x71064, 1, 1, 0, .rc⟩
/-- R67. Reference extrapolated (R48) -/
def ARM_CYC_STAT_REF_LATE : Field := ⟨0x71064, 0, 1, 0, .rc⟩
/-- R68. Cycle phase in ns; less than T -/
def ARM_CYC_PHASE_PHASE : Field := ⟨0x71068, 0, 16, 0, .rwl⟩
/-- R106. Block type: arm -/
def ARM_PAGE_ID_TYPE : Field := ⟨0x71000, 16, 16, 0x0A21, .ro⟩
/-- R106. Instance -/
def ARM_PAGE_ID_INST : Field := ⟨0x71000, 8, 8, 0, .ro⟩
/-- R106. Block revision -/
def ARM_PAGE_ID_REV : Field := ⟨0x71000, 0, 8, 0x01, .ro⟩
/-- R107. Rings present: 96, 64 or 32 -/
def ARM_CAP_RINGS : Field := ⟨0x71004, 16, 7, 0, .ro⟩
/-- R107. Sub-modules at most: 1,536, 1,024 or 512 -/
def ARM_CAP_SM_MAX : Field := ⟨0x71004, 0, 11, 0, .ro⟩
/-- R108. 1: invert the routed arm current (R72) -/
def ARM_CTRL_I_NEG : Field := ⟨0x71008, 17, 1, 0, .rwl⟩
/-- R108. 0: I_ARM written by firmware; 1: routed sampled-value channel -/
def ARM_CTRL_I_SRC : Field := ⟨0x71008, 16, 1, 0, .rwl⟩
/-- R108. Loop unit delivering the reference when REF_SRC = 1 -/
def ARM_CTRL_REF_LOOP : Field := ⟨0x71008, 8, 5, 0, .rwl⟩
/-- R108. 0: reference from REF_VAL and REF_SLOPE; 1: from a loop unit (R71) -/
def ARM_CTRL_REF_SRC : Field := ⟨0x71008, 0, 1, 0, .rwl⟩
/-- R109. A write to a locked field was ignored -/
def ARM_STATUS_LOCKV : Field := ⟨0x7100C, 0, 1, 0, .rc⟩
/-- R110. Bit j enables an interrupt for CYC_STAT bit j -/
def ARM_IRQ_EN_EN : Field := ⟨0x71010, 0, 6, 0, .rw⟩
/-- R111. Bit j: CYC_STAT bit j set while EN bit j is set -/
def ARM_IRQ_STAT_PEND : Field := ⟨0x71014, 0, 6, 0, .rc⟩
/-- R112. Writing 1 locks the page's RWL fields; writing 0 is ignored; cleared only by the ... -/
def ARM_LOCK_LOCK : Field := ⟨0x71018, 0, 1, 0, .rw⟩
/-- R113. 0 while the arm glade runs; 0xFFFF_FFFF while it is fenced (R23) -/
def ARM_FENCE_FENCE : Field := ⟨0x7101C, 0, 32, 0, .ro⟩
/-- R114. Reference value at window start, signed, in 0.01 V (R69) -/
def ARM_REF_VAL_VAL : Field := ⟨0x7106C, 0, 32, 0, .rw⟩
/-- R115. Reference slope, Q16.16 V/µs; a write delivers the reference (R69) -/
def ARM_REF_SLOPE_SLOPE : Field := ⟨0x71070, 0, 32, 0, .rw⟩
/-- R116. Arm current, Q16.16 A (R72); with I_SRC = 1 hardware-owned, and writes are ignored -/
def ARM_I_ARM_I : Field := ⟨0x71074, 0, 32, 0, .rw⟩
/-- R117. Level at the end of the last committed window, signed -/
def ARM_LVL_N_END : Field := ⟨0x71078, 16, 12, 0, .ro⟩
/-- R117. Level at the start of the last committed window, signed -/
def ARM_LVL_N_START : Field := ⟨0x71078, 0, 12, 0, .ro⟩
/-- R118. UNKNOWN sub-modules on admitted rings -/
def ARM_SETCNT_N_UNK : Field := ⟨0x7107C, 16, 11, 0, .ro⟩
/-- R118. N, the size of S, at the last selection -/
def ARM_SETCNT_N_SEL : Field := ⟨0x7107C, 0, 11, 0, .ro⟩
/-- R119. Sub-modules in FAILED_BYPASS -/
def ARM_SETCNT_FB_N_FBP : Field := ⟨0x71080, 16, 11, 0, .ro⟩
/-- R119. Full-bridge members of S at the last selection -/
def ARM_SETCNT_FB_N_FB : Field := ⟨0x71080, 0, 11, 0, .ro⟩
/-- R120. V_LVL at the last selection, in mV, truncated -/
def ARM_V_LVL_V : Field := ⟨0x71084, 0, 32, 0, .ro⟩
/-- R121. V_LVL_FB at the last selection, in mV, truncated; 0 with NEG_EN = 0 -/
def ARM_V_LVL_FB_V : Field := ⟨0x71088, 0, 32, 0, .ro⟩
/-- R122. V_SUM at the last selection, in 0.1 V, truncated -/
def ARM_V_SUM_SUM : Field := ⟨0x7108C, 0, 32, 0, .ro⟩
/-- R123. Level edges in the last committed window, 0 to 256 -/
def ARM_EDGES_COUNT : Field := ⟨0x71090, 0, 9, 0, .ro⟩
/-- R124. Block type: rank engine -/
def RANK_PAGE_ID_TYPE : Field := ⟨0x70000, 16, 16, 0x0A20, .ro⟩
/-- R124. Instance -/
def RANK_PAGE_ID_INST : Field := ⟨0x70000, 8, 8, 0, .ro⟩
/-- R124. Block revision -/
def RANK_PAGE_ID_REV : Field := ⟨0x70000, 0, 8, 0x01, .ro⟩
/-- R125. Negative levels supported -/
def RANK_CAP_NEG : Field := ⟨0x70004, 1, 1, 1, .ro⟩
/-- R125. 1: spare slice present and unused (R99) -/
def RANK_CAP_SPARE : Field := ⟨0x70004, 0, 1, 1, .ro⟩
/-- R126. 1: stress tracker runs (R101) -/
def RANK_CTRL_KEY_EN : Field := ⟨0x70008, 2, 1, 1, .rw⟩
/-- R126. 1: observer runs (R89) -/
def RANK_CTRL_OBS_EN : Field := ⟨0x70008, 1, 1, 1, .rw⟩
/-- R126. 1: negative levels allowed (R75); outside OFF it behaves as under LOCK -/
def RANK_CTRL_NEG_EN : Field := ⟨0x70008, 0, 1, 0, .rwl⟩
/-- R127. Stress-key save in progress (R102) -/
def RANK_STATUS_KEY_BUSY : Field := ⟨0x7000C, 2, 1, 0, .ro⟩
/-- R127. Spare slice in use (R99) -/
def RANK_STATUS_SPARE_IN : Field := ⟨0x7000C, 1, 1, 0, .ro⟩
/-- R127. A write to a locked field was ignored -/
def RANK_STATUS_LOCKV : Field := ⟨0x7000C, 0, 1, 0, .rc⟩
/-- R128. Bit j enables an interrupt for RANK.STAT bit j -/
def RANK_IRQ_EN_EN : Field := ⟨0x70010, 0, 9, 0, .rw⟩
/-- R129. Bit j: RANK.STAT bit j set while EN bit j is set -/
def RANK_IRQ_STAT_PEND : Field := ⟨0x70014, 0, 9, 0, .rc⟩
/-- R130. Writing 1 locks the page's RWL fields; writing 0 is ignored; cleared only by the ... -/
def RANK_LOCK_LOCK : Field := ⟨0x70018, 0, 1, 0, .rw⟩
/-- R131. 0 while the arm glade runs; 0xFFFF_FFFF while it is fenced (R23) -/
def RANK_FENCE_FENCE : Field := ⟨0x7001C, 0, 32, 0, .ro⟩
/-- R132. Bin width 0.1 V × 2^SHIFT, 0 to 4 (R85) -/
def RANK_BIN_CFG_SHIFT : Field := ⟨0x70040, 16, 3, 4, .rwl⟩
/-- R132. Voltage of bin 0, in 0.1 V -/
def RANK_BIN_CFG_BASE : Field := ⟨0x70040, 0, 16, 0, .rwl⟩
/-- R133. Minimum dwell in windows; 0: none (R92) -/
def RANK_SWAP_DWELL : Field := ⟨0x70044, 16, 8, 2, .rw⟩
/-- R133. Swap band in bins (R93) -/
def RANK_SWAP_BAND : Field := ⟨0x70044, 0, 12, 4, .rw⟩
/-- R134. Dead-band half-width, unsigned 15.16 A (R91); 5 A after reset -/
def RANK_I_DEAD_DEAD : Field := ⟨0x70048, 0, 31, 0x00050000, .rw⟩
/-- R135. Windows without a valid report before UNKNOWN, 1 to 255 (R83) -/
def RANK_OBS_LIMIT : Field := ⟨0x7004C, 0, 8, 8, .rw⟩
/-- R136. Write stress keys to identity memories (R102) -/
def RANK_KEY_CFG_SAVE : Field := ⟨0x70050, 16, 1, 0, .w1⟩
/-- R136. Width of a weight band, in 0.0625 °C -/
def RANK_KEY_CFG_STEP : Field := ⟨0x70050, 8, 8, 80, .rw⟩
/-- R136. Reversal hysteresis, in 0.0625 °C -/
def RANK_KEY_CFG_HYST : Field := ⟨0x70050, 0, 8, 32, .rw⟩
/-- R137. Weight WT[2m + 1] added per half-cycle -/
def RANK_KEY_WT_WT_ODD (m : Nat) : Field := ⟨0x70000 + 0x54 + 4 * m, 16, 16, 0, .rw⟩
/-- R137. Weight WT[2m] added per half-cycle -/
def RANK_KEY_WT_WT_EVEN (m : Nat) : Field := ⟨0x70000 + 0x54 + 4 * m, 0, 16, 0, .rw⟩
/-- R138. Stress-key save finished -/
def RANK_STAT_KEY_DONE : Field := ⟨0x70074, 8, 1, 0, .rc⟩
/-- R138. Selection made in the dead band -/
def RANK_STAT_NEUTRAL : Field := ⟨0x70074, 7, 1, 0, .rc⟩
/-- R138. Band filled beyond its start state (R94) -/
def RANK_STAT_BAND_FILL : Field := ⟨0x70074, 6, 1, 0, .rc⟩
/-- R138. A sub-module returned to UNKNOWN (R83) -/
def RANK_STAT_UNK_REVERT : Field := ⟨0x70074, 5, 1, 0, .rc⟩
/-- R138. Ring fenced after selection start (R104) -/
def RANK_STAT_FENCE_MID : Field := ⟨0x70074, 4, 1, 0, .rc⟩
/-- R138. Pinned sub-module moved by n (R96) -/
def RANK_STAT_DWELL_OVR : Field := ⟨0x70074, 3, 1, 0, .rc⟩
/-- R138. Crossings merged into one edge (R78) -/
def RANK_STAT_EDGE_MERGE : Field := ⟨0x70074, 2, 1, 0, .rc⟩
/-- R138. Level change limited to 256 (R79) -/
def RANK_STAT_REF_CLAMP : Field := ⟨0x70074, 1, 1, 0, .rc⟩
/-- R138. Level limited by the set (R75) -/
def RANK_STAT_REF_SAT : Field := ⟨0x70074, 0, 1, 0, .rc⟩
/-- R139. Sign of the last selection as decided for the positive part (R91); the negative part ... -/
def RANK_SEL_INFO_SIGN : Field := ⟨0x70078, 31, 1, 0, .ro⟩
/-- R139. 1: sign held in the dead band -/
def RANK_SEL_INFO_HELD : Field := ⟨0x70078, 30, 1, 0, .ro⟩
/-- R139. Bin b of the last core member (R85), without the swap-band offset of R93. In a window ... -/
def RANK_SEL_INFO_THR_BIN : Field := ⟨0x70078, 16, 12, 0, .ro⟩
/-- R139. Duration of the last selection, in ns -/
def RANK_SEL_INFO_SEL_NS : Field := ⟨0x70078, 0, 10, 0, .ro⟩
/-- R140. Longest selection since reset, in ns -/
def RANK_SEL_MAX_MAX : Field := ⟨0x7007C, 0, 10, 0, .ro⟩
/-- R141. Balancing swaps (R96); wraps -/
def RANK_CNT_SWAP_COUNT : Field := ⟨0x70080, 0, 32, 0, .rw⟩
/-- R142. Sub-module changes commanded by selection (R96); wraps -/
def RANK_CNT_SW_COUNT : Field := ⟨0x70084, 0, 32, 0, .rw⟩
/-- R143. Returns to UNKNOWN (R83); wraps -/
def RANK_CNT_EVT_UNK_REV : Field := ⟨0x70088, 16, 16, 0, .rw⟩
/-- R143. Pinned sub-modules moved (R96); wraps -/
def RANK_CNT_EVT_DWELL_OVR : Field := ⟨0x70088, 0, 16, 0, .rw⟩
/-- R144. Sub-module index (R81) -/
def RANK_SM_IDX_IDX : Field := ⟨0x7008C, 0, 11, 0, .rw⟩
/-- R145. Last reported voltage, 0.1 V -/
def RANK_SM_REC0_V_REP : Field := ⟨0x70090, 16, 16, 0, .ro⟩
/-- R145. Record voltage, integer part, 0.1 V -/
def RANK_SM_REC0_V_EST : Field := ⟨0x70090, 0, 16, 0, .ro⟩
/-- R146. Stress key (R100) -/
def RANK_SM_REC1_KEY : Field := ⟨0x70094, 0, 32, 0, .ro⟩
/-- R147. Last hottest junction temperature, signed, 0.0625 °C -/
def RANK_SM_REC2_TJ : Field := ⟨0x70098, 16, 16, 0, .ro⟩
/-- R147. Windows since last change (R92) -/
def RANK_SM_REC2_DWELL : Field := ⟨0x70098, 8, 8, 0, .ro⟩
/-- R147. Windows since last valid report (R83), saturating at 255 -/
def RANK_SM_REC2_AGE : Field := ⟨0x70098, 0, 8, 0, .ro⟩
/-- R148. Histogram bin b -/
def RANK_SM_REC3_BIN : Field := ⟨0x7009C, 20, 12, 0, .ro⟩
/-- R148. 0: absent; 1: half-bridge; 2: full-bridge; others reserved -/
def RANK_SM_REC3_TYPE : Field := ⟨0x7009C, 12, 4, 0, .ro⟩
/-- R148. Valid reports, saturating at 2 (R82) -/
def RANK_SM_REC3_RCNT : Field := ⟨0x7009C, 8, 2, 0, .ro⟩
/-- R148. 0: BLOCK; 1: BYPASS; 2: INSERT or INSERT_POS; 3: INSERT_NEG; 4: FAILED_BYPASS; 5: ... -/
def RANK_SM_REC3_STATE : Field := ⟨0x7009C, 5, 3, 0, .ro⟩
/-- R148. Group of R93 at the last selection -/
def RANK_SM_REC3_GROUP : Field := ⟨0x7009C, 3, 2, 0, .ro⟩
/-- R148. Held out of S by power-stage protection -/
def RANK_SM_REC3_HELD : Field := ⟨0x7009C, 2, 1, 0, .ro⟩
/-- R148. Commanded inserted at the end of the last committed window -/
def RANK_SM_REC3_INS : Field := ⟨0x7009C, 1, 1, 0, .ro⟩
/-- R148. Member of S at the last selection -/
def RANK_SM_REC3_SEL : Field := ⟨0x7009C, 0, 1, 0, .ro⟩
/-- R149. Level after the edge, signed -/
def RANK_EDGE_N_AFTER (e : Nat) : Field := ⟨0x70000 + 0x400 + 4 * e, 16, 12, 0, .ro⟩
/-- R149. Edge offset from the window start, in 10 ns units (R77) -/
def RANK_EDGE_OFS (e : Nat) : Field := ⟨0x70000 + 0x400 + 4 * e, 0, 13, 0, .ro⟩
/-- R184. Block type: command encoder -/
def CMDENC_PAGE_ID_TYPE : Field := ⟨0x72000, 16, 16, 0x0A22, .ro⟩
/-- R184. Instance -/
def CMDENC_PAGE_ID_INST : Field := ⟨0x72000, 8, 8, 0, .ro⟩
/-- R184. Block revision -/
def CMDENC_PAGE_ID_REV : Field := ⟨0x72000, 0, 8, 0x01, .ro⟩
/-- R185. Leakage checks supported -/
def CMDENC_CAP_LEAK : Field := ⟨0x72004, 8, 1, 1, .ro⟩
/-- R185. Direct-command entries per window -/
def CMDENC_CAP_DCMD_DEPTH : Field := ⟨0x72004, 0, 8, 64, .ro⟩
/-- R186. 1: host may post direct commands (R158) -/
def CMDENC_CTRL_HOST_DCMD : Field := ⟨0x72008, 2, 1, 0, .rw⟩
/-- R186. 1: HOLD_BLK expiry requests FIRE_BYPASS (R173) -/
def CMDENC_CTRL_AUTO_FBP : Field := ⟨0x72008, 1, 1, 0, .rwt⟩
/-- R186. Full-bridge BYPASS: 0: S2 and S4; 1: S1 and S3 (R151) -/
def CMDENC_CTRL_FB_BYP : Field := ⟨0x72008, 0, 1, 0, .rwl⟩
/-- R187. A leakage round is open -/
def CMDENC_STATUS_LEAK_BUSY : Field := ⟨0x7200C, 2, 1, 0, .ro⟩
/-- R187. Host direct commands closed by escalation (R157) -/
def CMDENC_STATUS_HOSTOFF : Field := ⟨0x7200C, 1, 1, 0, .ro⟩
/-- R187. A write to a locked field was ignored -/
def CMDENC_STATUS_LOCKV : Field := ⟨0x7200C, 0, 1, 0, .rc⟩
/-- R188. Bit j enables an interrupt for STAT bit j -/
def CMDENC_IRQ_EN_EN : Field := ⟨0x72010, 0, 12, 0, .rw⟩
/-- R189. Bit j: STAT bit j set while EN bit j is set -/
def CMDENC_IRQ_STAT_PEND : Field := ⟨0x72014, 0, 12, 0, .rc⟩
/-- R190. Writing 1 locks the page's RWL fields; writing 0 is ignored; cleared only by the ... -/
def CMDENC_LOCK_LOCK : Field := ⟨0x72018, 0, 1, 0, .rw⟩
/-- R191. 0 while the arm glade runs; 0xFFFF_FFFF while it is fenced (R23) -/
def CMDENC_FENCE_FENCE : Field := ⟨0x7201C, 0, 32, 0, .ro⟩
/-- R192. Dead time in 10 ns units, 0 to 1,000 (R154) -/
def CMDENC_TIMING_DEAD : Field := ⟨0x72040, 16, 10, 200, .rwt⟩
/-- R192. Blanking time in 10 ns units, 20 to 1,000 (R161) -/
def CMDENC_TIMING_BLANK : Field := ⟨0x72040, 0, 10, 150, .rwt⟩
/-- R193. Bypass confirmation timeout in ms, 1 to 255 (R179) -/
def CMDENC_PROT_FBP_TMO : Field := ⟨0x72044, 24, 8, 10, .rwt⟩
/-- R193. Held BLOCK windows before action; 0: disabled (R173) -/
def CMDENC_PROT_HOLD_BLK : Field := ⟨0x72044, 16, 8, 0, .rwt⟩
/-- R193. Clean reports that drop a UV reason; 0: only RELEASE (R168) -/
def CMDENC_PROT_UV_CLR : Field := ⟨0x72044, 8, 8, 16, .rwt⟩
/-- R193. New desaturation reports per cycle that block the arm, 1 to 63 (R164) -/
def CMDENC_PROT_SC_ARM_LIMIT : Field := ⟨0x72044, 0, 6, 2, .rwt⟩
/-- R194. CLEAR_FAULT not accepted by the cell (R171) -/
def CMDENC_STAT_CLR_FAIL : Field := ⟨0x72048, 11, 1, 0, .rc⟩
/-- R194. Direct command dropped (R159) -/
def CMDENC_STAT_DCMD_DROP : Field := ⟨0x72048, 10, 1, 0, .rc⟩
/-- R194. Held BLOCK count reached (R173) -/
def CMDENC_STAT_HOLD_BLK : Field := ⟨0x72048, 9, 1, 0, .rc⟩
/-- R194. Bypass not confirmed in time (R179) -/
def CMDENC_STAT_FBP_TMO : Field := ⟨0x72048, 8, 1, 0, .rc⟩
/-- R194. FAILED_BYPASS reported -/
def CMDENC_STAT_FBP_DONE : Field := ⟨0x72048, 7, 1, 0, .rc⟩
/-- R194. Leakage round ended (R174) -/
def CMDENC_STAT_LEAK_DONE : Field := ⟨0x72048, 6, 1, 0, .rc⟩
/-- R194. Leakage check failed (R177) -/
def CMDENC_STAT_LEAK_FAIL : Field := ⟨0x72048, 5, 1, 0, .rc⟩
/-- R194. A UV hold reason stands for some sub-module (R168, R902) -/
def CMDENC_STAT_UV : Field := ⟨0x72048, 4, 1, 0, .rc⟩
/-- R194. Both legs of a full-bridge desaturated (R166) -/
def CMDENC_STAT_FB_2LEG : Field := ⟨0x72048, 3, 1, 0, .rc⟩
/-- R194. SC_ARM_LIMIT reached (R164) -/
def CMDENC_STAT_SC_ARM : Field := ⟨0x72048, 2, 1, 0, .rc⟩
/-- R194. New desaturation report (R163) -/
def CMDENC_STAT_DESAT : Field := ⟨0x72048, 1, 1, 0, .rc⟩
/-- R194. Interlock conflict (R156) -/
def CMDENC_STAT_INTLK : Field := ⟨0x72048, 0, 1, 0, .rc⟩
/-- R195. Interlock conflicts; wraps -/
def CMDENC_CNT_INTLK : Field := ⟨0x7204C, 16, 16, 0, .rw⟩
/-- R195. New desaturation reports; wraps -/
def CMDENC_CNT_DESAT : Field := ⟨0x7204C, 0, 16, 0, .rw⟩
/-- R196. Request FIRE_BYPASS (R178) -/
def CMDENC_HOLD_CMD_FIRE : Field := ⟨0x72050, 19, 1, 0, .w1⟩
/-- R196. Clear the FAILED_BYPASS latch (R180) -/
def CMDENC_HOLD_CMD_FBP_CLR : Field := ⟨0x72050, 18, 1, 0, .w1⟩
/-- R196. Release hold reasons (R171) -/
def CMDENC_HOLD_CMD_RELEASE : Field := ⟨0x72050, 17, 1, 0, .w1⟩
/-- R196. Set the FW reason -/
def CMDENC_HOLD_CMD_HOLD : Field := ⟨0x72050, 16, 1, 0, .w1⟩
/-- R196. Sub-module index (R81) -/
def CMDENC_HOLD_CMD_IDX : Field := ⟨0x72050, 0, 11, 0, .rw⟩
/-- R197. FAILED_BYPASS latched -/
def CMDENC_HOLD_INFO_FBP : Field := ⟨0x72054, 31, 1, 0, .ro⟩
/-- R197. FIRE_BYPASS request pending -/
def CMDENC_HOLD_INFO_FIRE_PEND : Field := ⟨0x72054, 30, 1, 0, .ro⟩
/-- R197. FW reason -/
def CMDENC_HOLD_INFO_FW : Field := ⟨0x72054, 29, 1, 0, .ro⟩
/-- R197. Held command is BLOCK (R170) -/
def CMDENC_HOLD_INFO_BLK : Field := ⟨0x72054, 28, 1, 0, .ro⟩
/-- R197. Switches with a LEAK reason -/
def CMDENC_HOLD_INFO_LEAK_SW : Field := ⟨0x72054, 24, 4, 0, .ro⟩
/-- R197. Switches with a UV reason -/
def CMDENC_HOLD_INFO_UV_SW : Field := ⟨0x72054, 20, 4, 0, .ro⟩
/-- R197. Latched desaturation set as recorded -/
def CMDENC_HOLD_INFO_DESAT_SW : Field := ⟨0x72054, 16, 4, 0, .ro⟩
/-- R197. Sub-module index -/
def CMDENC_HOLD_INFO_IDX : Field := ⟨0x72054, 0, 11, 0, .rw⟩
/-- R198. Offset from the window start in 10 ns units -/
def CMDENC_DCMD_OFS : Field := ⟨0x72058, 16, 13, 0, .rw⟩
/-- R198. Switch word (R150) -/
def CMDENC_DCMD_SW : Field := ⟨0x72058, 12, 4, 0, .rw⟩
/-- R198. Sub-module index -/
def CMDENC_DCMD_IDX : Field := ⟨0x72058, 0, 11, 0, .rw⟩
/-- R199. Dropped entries; wraps -/
def CMDENC_DCMD_STAT_DROP : Field := ⟨0x7205C, 16, 16, 0, .rw⟩
/-- R199. Entries waiting for the next window, 0 to 64 -/
def CMDENC_DCMD_STAT_FILL : Field := ⟨0x7205C, 0, 7, 0, .ro⟩
/-- R200. Failure threshold in 5 nA units (R177) -/
def CMDENC_LEAK_CTRL_LIM : Field := ⟨0x72060, 16, 8, 40, .rwt⟩
/-- R200. Checks requested per commit at most -/
def CMDENC_LEAK_CTRL_PER_CYC : Field := ⟨0x72060, 8, 8, 8, .rw⟩
/-- R200. Begin a round -/
def CMDENC_LEAK_CTRL_START : Field := ⟨0x72060, 2, 1, 0, .w1⟩
/-- R200. 1: begin the next round when one ends -/
def CMDENC_LEAK_CTRL_CONT : Field := ⟨0x72060, 1, 1, 0, .rw⟩
/-- R200. 1: requests issued -/
def CMDENC_LEAK_CTRL_EN : Field := ⟨0x72060, 0, 1, 0, .rw⟩
/-- R201. Completed rounds; wraps -/
def CMDENC_LEAK_STAT_ROUND : Field := ⟨0x72064, 20, 12, 0, .ro⟩
/-- R201. Failed switches in the open round, saturating at 255; cleared at round start -/
def CMDENC_LEAK_STAT_FAILS : Field := ⟨0x72064, 12, 8, 0, .ro⟩
/-- R201. Index of the last member requested -/
def CMDENC_LEAK_STAT_POS : Field := ⟨0x72064, 0, 11, 0, .ro⟩
/-- R202. Desaturation set of the last new report -/
def CMDENC_DESAT_LAST_SW : Field := ⟨0x72068, 16, 4, 0, .ro⟩
/-- R202. Sub-module of the last new report -/
def CMDENC_DESAT_LAST_IDX : Field := ⟨0x72068, 0, 11, 0, .ro⟩
/-- R203. Cell time stamp of the last new report (R161) -/
def CMDENC_DESAT_TS_TS : Field := ⟨0x7206C, 0, 32, 0, .ro⟩
/-- R204. 0: rank engine or encoder path; 1: task; 2: host; 3: reserved -/
def CMDENC_INTLK_LAST_SRC : Field := ⟨0x72070, 30, 2, 0, .ro⟩
/-- R204. Task identifier when SRC = 1 -/
def CMDENC_INTLK_LAST_TASK : Field := ⟨0x72070, 21, 9, 0, .ro⟩
/-- R204. Offending switch word -/
def CMDENC_INTLK_LAST_SW : Field := ⟨0x72070, 16, 4, 0, .ro⟩
/-- R204. Sub-module index -/
def CMDENC_INTLK_LAST_IDX : Field := ⟨0x72070, 0, 11, 0, .ro⟩
/-- R244. Block type: ring -/
def RING_PAGE_ID_TYPE (n : Nat) : Field := ⟨0x10000 + 0x1000 * n + 0x0, 16, 16, 0x0A10, .ro⟩
/-- R244. Ring number -/
def RING_PAGE_ID_INST (n : Nat) : Field := ⟨0x10000 + 0x1000 * n + 0x0, 8, 8, n, .ro⟩
/-- R244. Block revision -/
def RING_PAGE_ID_REV (n : Nat) : Field := ⟨0x10000 + 0x1000 * n + 0x0, 0, 8, 0x01, .ro⟩
/-- R245. 1: dual-homing available (-X, -M) -/
def RING_CAP_DUAL_OK (n : Nat) : Field := ⟨0x10000 + 0x1000 * n + 0x4, 8, 1, 0, .ro⟩
/-- R245. Slots per ring -/
def RING_CAP_SLOTS (n : Nat) : Field := ⟨0x10000 + 0x1000 * n + 0x4, 0, 5, 16, .ro⟩
/-- R246. 1: admit the ring from READY (R232) -/
def RING_CTRL_ADMIT (n : Nat) : Field := ⟨0x10000 + 0x1000 * n + 0x8, 1, 1, 0, .rw⟩
/-- R246. 1: bring the ring up and keep it up; 0: take it down (R232) -/
def RING_CTRL_EN (n : Nat) : Field := ⟨0x10000 + 0x1000 * n + 0x8, 0, 1, 0, .rw⟩
/-- R247. 0 DOWN; 1 PROBE; 2 ENUM; 3 IDENT; 4 TSYNC; 5 READY; 6 ADMITTED; 7 FENCED -/
def RING_STATUS_STATE (n : Nat) : Field := ⟨0x10000 + 0x1000 * n + 0xC, 4, 3, 0, .ro⟩
/-- R247. 1: lane repeating as standby (R206) -/
def RING_STATUS_REPEAT (n : Nat) : Field := ⟨0x10000 + 0x1000 * n + 0xC, 1, 1, 0, .ro⟩
/-- R247. A write to a locked field was ignored -/
def RING_STATUS_LOCKV (n : Nat) : Field := ⟨0x10000 + 0x1000 * n + 0xC, 0, 1, 0, .rc⟩
/-- R248. Bit j enables an interrupt for RING.STAT bit j -/
def RING_IRQ_EN_EN (n : Nat) : Field := ⟨0x10000 + 0x1000 * n + 0x10, 0, 16, 0, .rw⟩
/-- R249. Bit j: STAT bit j set while EN bit j is set -/
def RING_IRQ_STAT_PEND (n : Nat) : Field := ⟨0x10000 + 0x1000 * n + 0x14, 0, 16, 0, .rc⟩
/-- R250. Writing 1 locks the page's RWL fields; writing 0 is ignored; cleared only by the ... -/
def RING_LOCK_LOCK (n : Nat) : Field := ⟨0x10000 + 0x1000 * n + 0x18, 0, 1, 0, .rw⟩
/-- R251. 0: ring running; 0x0000_0001: ring unit fenced; 0xFFFF_FFFF: its ring glade fenced (R23) -/
def RING_FENCE_FENCE (n : Nat) : Field := ⟨0x10000 + 0x1000 * n + 0x1C, 0, 32, 0, .ro⟩
/-- R252. Consecutive misses that fence the ring, 1 to 255 (R240) -/
def RING_CFG_LOSS_LIM (n : Nat) : Field := ⟨0x10000 + 0x1000 * n + 0x40, 16, 8, 3, .rwt⟩
/-- R252. Cell loss timeout in µs, 1 to 255 (R230, R231) -/
def RING_CFG_LOSS (n : Nat) : Field := ⟨0x10000 + 0x1000 * n + 0x40, 8, 8, 50, .rwt⟩
/-- R252. End of the chain this device attaches to (R242) -/
def RING_CFG_END (n : Nat) : Field := ⟨0x10000 + 0x1000 * n + 0x40, 1, 1, 0, .rwl⟩
/-- R252. 1: ring dual-homed; 0 with CAP.DUAL_OK = 0 -/
def RING_CFG_DUAL (n : Nat) : Field := ⟨0x10000 + 0x1000 * n + 0x40, 0, 1, 0, .rwl⟩
/-- R253. A cell reported LOSS_BLK -/
def RING_STAT_LOSS_BLK (n : Nat) : Field := ⟨0x10000 + 0x1000 * n + 0x44, 15, 1, 0, .rc⟩
/-- R253. A cell reported TLOCK = 0 after TSYNC -/
def RING_STAT_TLOSS (n : Nat) : Field := ⟨0x10000 + 0x1000 * n + 0x44, 14, 1, 0, .rc⟩
/-- R253. Host service access finished -/
def RING_STAT_SVC_DONE (n : Nat) : Field := ⟨0x10000 + 0x1000 * n + 0x44, 13, 1, 0, .rc⟩
/-- R253. A cell reported DIRCHG -/
def RING_STAT_DIRCHG (n : Nat) : Field := ⟨0x10000 + 0x1000 * n + 0x44, 12, 1, 0, .rc⟩
/-- R253. LOSS below its bound (R231) -/
def RING_STAT_LOSS_SHORT (n : Nat) : Field := ⟨0x10000 + 0x1000 * n + 0x44, 11, 1, 0, .rc⟩
/-- R253. Live round trip above EXEC_OFS (R241) -/
def RING_STAT_RT_DRIFT (n : Nat) : Field := ⟨0x10000 + 0x1000 * n + 0x44, 10, 1, 0, .rc⟩
/-- R253. Identity refused (R236) -/
def RING_STAT_IDENT_ERR (n : Nat) : Field := ⟨0x10000 + 0x1000 * n + 0x44, 9, 1, 0, .rc⟩
/-- R253. Probe, enumeration or HOPS failure -/
def RING_STAT_TOPO (n : Nat) : Field := ⟨0x10000 + 0x1000 * n + 0x44, 8, 1, 0, .rc⟩
/-- R253. A cell reported LATE -/
def RING_STAT_CELL_LATE (n : Nat) : Field := ⟨0x10000 + 0x1000 * n + 0x44, 7, 1, 0, .rc⟩
/-- R253. A cell reported CMD_ERR -/
def RING_STAT_CMD_ERR (n : Nat) : Field := ⟨0x10000 + 0x1000 * n + 0x44, 6, 1, 0, .rc⟩
/-- R253. Invalid status slot -/
def RING_STAT_SLOT_ERR (n : Nat) : Field := ⟨0x10000 + 0x1000 * n + 0x44, 5, 1, 0, .rc⟩
/-- R253. Frame check failed -/
def RING_STAT_FCRC (n : Nat) : Field := ⟨0x10000 + 0x1000 * n + 0x44, 4, 1, 0, .rc⟩
/-- R253. Returned header check failed -/
def RING_STAT_HCRC (n : Nat) : Field := ⟨0x10000 + 0x1000 * n + 0x44, 3, 1, 0, .rc⟩
/-- R253. Frame lost or late (R239) -/
def RING_STAT_LOST (n : Nat) : Field := ⟨0x10000 + 0x1000 * n + 0x44, 2, 1, 0, .rc⟩
/-- R253. Frame not sent (RING_SKIP) -/
def RING_STAT_SKIP (n : Nat) : Field := ⟨0x10000 + 0x1000 * n + 0x44, 1, 1, 0, .rc⟩
/-- R253. Ring fails a timing condition of its admission (R224, R902) -/
def RING_STAT_BUDGET (n : Nat) : Field := ⟨0x10000 + 0x1000 * n + 0x44, 0, 1, 0, .rc⟩
/-- R254. Cells enumerated, 0 to 16 -/
def RING_TOPO_NC (n : Nat) : Field := ⟨0x10000 + 0x1000 * n + 0x48, 16, 5, 0, .ro⟩
/-- R254. D_RT at bring-up in ns, rounded up to 10 ns (R224) -/
def RING_TOPO_RT (n : Nat) : Field := ⟨0x10000 + 0x1000 * n + 0x48, 0, 16, 0, .ro⟩
/-- R255. Largest live round trip since admission, ns -/
def RING_RT_LIVE_MAX (n : Nat) : Field := ⟨0x10000 + 0x1000 * n + 0x4C, 16, 16, 0, .ro⟩
/-- R255. Last live round trip, ns, truncated -/
def RING_RT_LIVE_LAST (n : Nat) : Field := ⟨0x10000 + 0x1000 * n + 0x4C, 0, 16, 0, .ro⟩
/-- R256. Lost or late frames; wraps -/
def RING_CNT_LOST (n : Nat) : Field := ⟨0x10000 + 0x1000 * n + 0x50, 16, 16, 0, .rw⟩
/-- R256. Frames not sent; wraps -/
def RING_CNT_SKIP (n : Nat) : Field := ⟨0x10000 + 0x1000 * n + 0x50, 0, 16, 0, .rw⟩
/-- R257. HCRC and FCRC failures; wraps -/
def RING_CNT_ERR_CRC (n : Nat) : Field := ⟨0x10000 + 0x1000 * n + 0x54, 16, 16, 0, .rw⟩
/-- R257. Invalid status slots; wraps -/
def RING_CNT_ERR_SLOT (n : Nat) : Field := ⟨0x10000 + 0x1000 * n + 0x54, 0, 16, 0, .rw⟩
/-- R258. ERR_HOP of the last frame with an FCRC failure -/
def RING_ERR_LOC_ERR_HOP (n : Nat) : Field := ⟨0x10000 + 0x1000 * n + 0x58, 24, 8, 0xFF, .ro⟩
/-- R258. HOPS of the last returned frame -/
def RING_ERR_LOC_HOPS (n : Nat) : Field := ⟨0x10000 + 0x1000 * n + 0x58, 16, 8, 0, .ro⟩
/-- R258. Consecutive misses (R240), saturating at 255 -/
def RING_ERR_LOC_MISS (n : Nat) : Field := ⟨0x10000 + 0x1000 * n + 0x58, 0, 8, 0, .ro⟩
/-- R259. Bit s: a cell occupies slot s -/
def RING_SLOTS_PRESENT (n : Nat) : Field := ⟨0x10000 + 0x1000 * n + 0x5C, 16, 16, 0, .ro⟩
/-- R259. Bit s: slot s valid in the last returned frame -/
def RING_SLOTS_VALID (n : Nat) : Field := ⟨0x10000 + 0x1000 * n + 0x5C, 0, 16, 0, .ro⟩
/-- R260. Access in progress -/
def RING_SVC_CMD_BUSY (n : Nat) : Field := ⟨0x10000 + 0x1000 * n + 0x60, 31, 1, 0, .ro⟩
/-- R260. Start the access (R243) -/
def RING_SVC_CMD_GO (n : Nat) : Field := ⟨0x10000 + 0x1000 * n + 0x60, 30, 1, 0, .w1⟩
/-- R260. 1: write; 0: read -/
def RING_SVC_CMD_WR (n : Nat) : Field := ⟨0x10000 + 0x1000 * n + 0x60, 29, 1, 0, .rw⟩
/-- R260. 0 OK; 1 PROTECTED; 2 ERROR; 3 NO_REPLY (R219) -/
def RING_SVC_CMD_RESULT (n : Nat) : Field := ⟨0x10000 + 0x1000 * n + 0x60, 27, 2, 0, .ro⟩
/-- R260. Addressed slot -/
def RING_SVC_CMD_SLOT (n : Nat) : Field := ⟨0x10000 + 0x1000 * n + 0x60, 20, 4, 0, .rw⟩
/-- R260. Identity word address (R235) -/
def RING_SVC_CMD_WADDR (n : Nat) : Field := ⟨0x10000 + 0x1000 * n + 0x60, 0, 8, 0, .rw⟩
/-- R261. Bits [31:0] of the word; write data before GO, read data after BUSY drops -/
def RING_SVC_LO_DATA (n : Nat) : Field := ⟨0x10000 + 0x1000 * n + 0x64, 0, 32, 0, .rw⟩
/-- R262. Bits [63:32] of the word -/
def RING_SVC_HI_DATA (n : Nat) : Field := ⟨0x10000 + 0x1000 * n + 0x68, 0, 32, 0, .rw⟩
/-- R263. Delay of the link from this device to its first cell, in 1/8 ns (R233) -/
def RING_LINK_DLY (n : Nat) : Field := ⟨0x10000 + 0x1000 * n + 0x6C, 0, 16, 0, .ro⟩
/-- R286. Block type: serial lane -/
def LANE_PAGE_ID_TYPE (n : Nat) : Field := ⟨0x100000 + 0x1000 * n + 0x0, 16, 16, 0x0A30, .ro⟩
/-- R286. Lane number -/
def LANE_PAGE_ID_INST (n : Nat) : Field := ⟨0x100000 + 0x1000 * n + 0x0, 8, 8, n, .ro⟩
/-- R286. Block revision -/
def LANE_PAGE_ID_REV (n : Nat) : Field := ⟨0x100000 + 0x1000 * n + 0x0, 0, 8, 0x01, .ro⟩
/-- R288. 0: cell; 1: Canopy; 2: Ethernet (R264) -/
def LANE_CAP_CLASS (n : Nat) : Field := ⟨0x100000 + 0x1000 * n + 0x4, 16, 2, 0, .ro⟩
/-- R288. Eye scan present -/
def LANE_CAP_ESCAN (n : Nat) : Field := ⟨0x100000 + 0x1000 * n + 0x4, 8, 1, 1, .ro⟩
/-- R288. 1: 1.25 Gb/s supported (lanes 112 to 115) -/
def LANE_CAP_RATE1G (n : Nat) : Field := ⟨0x100000 + 0x1000 * n + 0x4, 0, 1, 0, .ro⟩
/-- R289. Request re-adaptation (R273) -/
def LANE_CTRL_READAPT (n : Nat) : Field := ⟨0x100000 + 0x1000 * n + 0x8, 2, 1, 0, .w1⟩
/-- R289. 1: transmitter at electrical idle -/
def LANE_CTRL_TX_OFF (n : Nat) : Field := ⟨0x100000 + 0x1000 * n + 0x8, 1, 1, 0, .rw⟩
/-- R289. 1: bring the lane up (R268); a write of 0 follows R287 -/
def LANE_CTRL_EN (n : Nat) : Field := ⟨0x100000 + 0x1000 * n + 0x8, 0, 1, 0, .rw⟩
/-- R290. Repeat mode (R267) -/
def LANE_STATUS_REPEAT (n : Nat) : Field := ⟨0x100000 + 0x1000 * n + 0xC, 7, 1, 0, .ro⟩
/-- R290. 0 OFF; 1 CAL; 2 ACQ; 3 ADAPT; 4 SYNC; 5 LOCKED; 6 to 7 reserved -/
def LANE_STATUS_STATE (n : Nat) : Field := ⟨0x100000 + 0x1000 * n + 0xC, 4, 3, 0, .ro⟩
/-- R290. Canopy port aligned (R277); 0 on other lanes -/
def LANE_STATUS_ALIGNED (n : Nat) : Field := ⟨0x100000 + 0x1000 * n + 0xC, 3, 1, 0, .ro⟩
/-- R290. Full scan running or waiting for a slot -/
def LANE_STATUS_ES_BUSY (n : Nat) : Field := ⟨0x100000 + 0x1000 * n + 0xC, 2, 1, 0, .ro⟩
/-- R290. State is LOCKED -/
def LANE_STATUS_LOCK (n : Nat) : Field := ⟨0x100000 + 0x1000 * n + 0xC, 1, 1, 0, .ro⟩
/-- R290. A write to a locked field was ignored -/
def LANE_STATUS_LOCKV (n : Nat) : Field := ⟨0x100000 + 0x1000 * n + 0xC, 0, 1, 0, .rc⟩
/-- R291. Bit j enables an interrupt for LANE.STAT bit j -/
def LANE_IRQ_EN_EN (n : Nat) : Field := ⟨0x100000 + 0x1000 * n + 0x10, 0, 10, 0, .rw⟩
/-- R292. Bit j: STAT bit j set while EN bit j is set -/
def LANE_IRQ_STAT_PEND (n : Nat) : Field := ⟨0x100000 + 0x1000 * n + 0x14, 0, 10, 0, .rc⟩
/-- R293. Writing 1 locks the page's RWL fields; writing 0 is ignored; cleared only by the ... -/
def LANE_LOCK_LOCK (n : Nat) : Field := ⟨0x100000 + 0x1000 * n + 0x18, 0, 1, 0, .rw⟩
/-- R294. 0: lane running; 0x0000_0001: lane unit fenced; 0xFFFF_FFFF: its glade fenced (R23) -/
def LANE_FENCE_FENCE (n : Nat) : Field := ⟨0x100000 + 0x1000 * n + 0x1C, 0, 32, 0, .ro⟩
/-- R295. Losses of lock per 1.0 s window that fence the lane; 0: never (R269) -/
def LANE_CFG_LOL_LIM (n : Nat) : Field := ⟨0x100000 + 0x1000 * n + 0x40, 24, 8, 16, .rw⟩
/-- R295. Receive equaliser mode (R272) -/
def LANE_CFG_ADAPT (n : Nat) : Field := ⟨0x100000 + 0x1000 * n + 0x40, 18, 2, 1, .rwl⟩
/-- R295. 0: none; 1: near-end serial loopback (R279); 2 to 3 reserved -/
def LANE_CFG_LOOP (n : Nat) : Field := ⟨0x100000 + 0x1000 * n + 0x40, 16, 2, 0, .rwl⟩
/-- R295. 1: invert receive polarity -/
def LANE_CFG_RX_INV (n : Nat) : Field := ⟨0x100000 + 0x1000 * n + 0x40, 3, 1, 0, .rwl⟩
/-- R295. 1: invert transmit polarity -/
def LANE_CFG_TX_INV (n : Nat) : Field := ⟨0x100000 + 0x1000 * n + 0x40, 2, 1, 0, .rwl⟩
/-- R295. 0: 10.3125 Gb/s 64b/66b; 1: 1.25 Gb/s 8b/10b -/
def LANE_CFG_RATE (n : Nat) : Field := ⟨0x100000 + 0x1000 * n + 0x40, 0, 1, 0, .rwl⟩
/-- R296. Output swing step, 0 to 7; levels in "Electrical, Thermal and Package Data" -/
def LANE_TX_EQ_SWING (n : Nat) : Field := ⟨0x100000 + 0x1000 * n + 0x44, 16, 3, 5, .rwl⟩
/-- R296. Main cursor, 32 to 63 -/
def LANE_TX_EQ_MAIN (n : Nat) : Field := ⟨0x100000 + 0x1000 * n + 0x44, 10, 6, 48, .rw⟩
/-- R296. Post-cursor, 0 to 31 -/
def LANE_TX_EQ_POST (n : Nat) : Field := ⟨0x100000 + 0x1000 * n + 0x44, 5, 5, 8, .rw⟩
/-- R296. Pre-cursor, 0 to 15 -/
def LANE_TX_EQ_PRE (n : Nat) : Field := ⟨0x100000 + 0x1000 * n + 0x44, 0, 5, 4, .rw⟩
/-- R297. CTLE peaking code, 0 to 15 -/
def LANE_RX_EQ_CTLE (n : Nat) : Field := ⟨0x100000 + 0x1000 * n + 0x48, 26, 4, 8, .rw⟩
/-- R297. DFE tap 1, signed, −32 to +31 -/
def LANE_RX_EQ_T1 (n : Nat) : Field := ⟨0x100000 + 0x1000 * n + 0x48, 20, 6, 0, .rw⟩
/-- R297. DFE tap 2, signed, −16 to +15 -/
def LANE_RX_EQ_T2 (n : Nat) : Field := ⟨0x100000 + 0x1000 * n + 0x48, 15, 5, 0, .rw⟩
/-- R297. DFE tap 3, signed, −16 to +15 -/
def LANE_RX_EQ_T3 (n : Nat) : Field := ⟨0x100000 + 0x1000 * n + 0x48, 10, 5, 0, .rw⟩
/-- R297. DFE tap 4, signed, −16 to +15 -/
def LANE_RX_EQ_T4 (n : Nat) : Field := ⟨0x100000 + 0x1000 * n + 0x48, 5, 5, 0, .rw⟩
/-- R297. DFE tap 5, signed, −16 to +15 -/
def LANE_RX_EQ_T5 (n : Nat) : Field := ⟨0x100000 + 0x1000 * n + 0x48, 0, 5, 0, .rw⟩
/-- R298. Cross scan below limits after re-adaptation (R284) -/
def LANE_STAT_MARGIN (n : Nat) : Field := ⟨0x100000 + 0x1000 * n + 0x4C, 9, 1, 0, .rc⟩
/-- R298. Full scan aborted (R282) -/
def LANE_STAT_ES_ABORT (n : Nat) : Field := ⟨0x100000 + 0x1000 * n + 0x4C, 8, 1, 0, .rc⟩
/-- R298. Full scan complete -/
def LANE_STAT_ES_DONE (n : Nat) : Field := ⟨0x100000 + 0x1000 * n + 0x4C, 7, 1, 0, .rc⟩
/-- R298. Canopy port alignment lost (R277) -/
def LANE_STAT_DESKEW (n : Nat) : Field := ⟨0x100000 + 0x1000 * n + 0x4C, 6, 1, 0, .rc⟩
/-- R298. Elastic buffer recentred (R266) -/
def LANE_STAT_ELASTIC (n : Nat) : Field := ⟨0x100000 + 0x1000 * n + 0x4C, 5, 1, 0, .rc⟩
/-- R298. hi_ber caused a loss of lock -/
def LANE_STAT_HIBER (n : Nat) : Field := ⟨0x100000 + 0x1000 * n + 0x4C, 4, 1, 0, .rc⟩
/-- R298. Loss of lock (R269) -/
def LANE_STAT_LOL (n : Nat) : Field := ⟨0x100000 + 0x1000 * n + 0x4C, 3, 1, 0, .rc⟩
/-- R298. Acquisition timed out (R268) -/
def LANE_STAT_ACQ_FAIL (n : Nat) : Field := ⟨0x100000 + 0x1000 * n + 0x4C, 2, 1, 0, .rc⟩
/-- R298. PRBS31 checker error (R279) -/
def LANE_STAT_PRBS_ERR (n : Nat) : Field := ⟨0x100000 + 0x1000 * n + 0x4C, 1, 1, 0, .rc⟩
/-- R298. Invalid sync header, block type or code group received -/
def LANE_STAT_CODE_ERR (n : Nat) : Field := ⟨0x100000 + 0x1000 * n + 0x4C, 0, 1, 0, .rc⟩
/-- R299. Losses of lock; wraps -/
def LANE_CNT_LOL (n : Nat) : Field := ⟨0x100000 + 0x1000 * n + 0x50, 24, 8, 0, .rw⟩
/-- R299. Losses in the present 1.0 s window (R269) -/
def LANE_CNT_LOL_WIN (n : Nat) : Field := ⟨0x100000 + 0x1000 * n + 0x50, 16, 8, 0, .ro⟩
/-- R299. Invalid sync headers or code groups; wraps -/
def LANE_CNT_HDR_ERR (n : Nat) : Field := ⟨0x100000 + 0x1000 * n + 0x50, 0, 16, 0, .rw⟩
/-- R300. PRBS31 bit errors, saturating at 0xFFFF -/
def LANE_TEST_ERRS (n : Nat) : Field := ⟨0x100000 + 0x1000 * n + 0x54, 16, 16, 0, .rw⟩
/-- R300. Checker synchronised -/
def LANE_TEST_SYNC (n : Nat) : Field := ⟨0x100000 + 0x1000 * n + 0x54, 2, 1, 0, .ro⟩
/-- R300. 1: PRBS31 checker on -/
def LANE_TEST_CHK (n : Nat) : Field := ⟨0x100000 + 0x1000 * n + 0x54, 1, 1, 0, .rwl⟩
/-- R300. 1: PRBS31 generator replaces user data -/
def LANE_TEST_GEN (n : Nat) : Field := ⟨0x100000 + 0x1000 * n + 0x54, 0, 1, 0, .rwl⟩
/-- R301. Start a full scan (R282) -/
def LANE_ES_CTRL_GO (n : Nat) : Field := ⟨0x100000 + 0x1000 * n + 0x58, 31, 1, 0, .w1⟩
/-- R301. End the running scan -/
def LANE_ES_CTRL_STOP (n : Nat) : Field := ⟨0x100000 + 0x1000 * n + 0x58, 30, 1, 0, .w1⟩
/-- R301. Release the lane's map slot -/
def LANE_ES_CTRL_FREE (n : Nat) : Field := ⟨0x100000 + 0x1000 * n + 0x58, 29, 1, 0, .w1⟩
/-- R301. 2^(16 + 2 × DWELL) bits per point (R280) -/
def LANE_ES_CTRL_DWELL (n : Nat) : Field := ⟨0x100000 + 0x1000 * n + 0x58, 24, 3, 2, .rw⟩
/-- R301. Phase step code -/
def LANE_ES_CTRL_H_STEP (n : Nat) : Field := ⟨0x100000 + 0x1000 * n + 0x58, 18, 2, 0, .rw⟩
/-- R301. Threshold step code -/
def LANE_ES_CTRL_V_STEP (n : Nat) : Field := ⟨0x100000 + 0x1000 * n + 0x58, 16, 2, 0, .rw⟩
/-- R302. Map slot held, 0 to 7 -/
def LANE_ES_STAT_SLOT (n : Nat) : Field := ⟨0x100000 + 0x1000 * n + 0x5C, 29, 3, 0, .ro⟩
/-- R302. Points written -/
def LANE_ES_STAT_PTS_DONE (n : Nat) : Field := ⟨0x100000 + 0x1000 * n + 0x5C, 16, 13, 0, .ro⟩
/-- R302. 0: none; 1: complete; 2: stopped; 3: aborted -/
def LANE_ES_STAT_RESULT (n : Nat) : Field := ⟨0x100000 + 0x1000 * n + 0x5C, 14, 2, 0, .ro⟩
/-- R302. Points in the scan (R281) -/
def LANE_ES_STAT_PTS_TOTAL (n : Nat) : Field := ⟨0x100000 + 0x1000 * n + 0x5C, 0, 13, 0, .ro⟩
/-- R303. Data-port address of the slot held; 0 when none -/
def LANE_ES_ADDR_ADDR (n : Nat) : Field := ⟨0x100000 + 0x1000 * n + 0x60, 0, 32, 0, .ro⟩
/-- R304. Eye width of the last cross scan, in 1/64 UI (R283) -/
def LANE_EYE_MON_W (n : Nat) : Field := ⟨0x100000 + 0x1000 * n + 0x64, 16, 7, 0, .ro⟩
/-- R304. Eye height of the last cross scan, in V codes -/
def LANE_EYE_MON_H (n : Nat) : Field := ⟨0x100000 + 0x1000 * n + 0x64, 0, 7, 0, .ro⟩
/-- R305. Seconds between cross scans, 1 to 255; 0: off -/
def LANE_MCHK_PERIOD (n : Nat) : Field := ⟨0x100000 + 0x1000 * n + 0x68, 24, 8, 60, .rw⟩
/-- R305. Width limit in 1/64 UI (R284) -/
def LANE_MCHK_W_MIN (n : Nat) : Field := ⟨0x100000 + 0x1000 * n + 0x68, 16, 7, 16, .rw⟩
/-- R305. Height limit in V codes -/
def LANE_MCHK_H_MIN (n : Nat) : Field := ⟨0x100000 + 0x1000 * n + 0x68, 0, 7, 20, .rw⟩
/-- R306. Logical lane carried by this lane (R277) -/
def LANE_DESKEW_LLANE (n : Nat) : Field := ⟨0x100000 + 0x1000 * n + 0x6C, 30, 2, 0, .ro⟩
/-- R306. Peer's Canopy port -/
def LANE_DESKEW_PPORT (n : Nat) : Field := ⟨0x100000 + 0x1000 * n + 0x6C, 28, 2, 0, .ro⟩
/-- R306. Peer's device identity -/
def LANE_DESKEW_PEER (n : Nat) : Field := ⟨0x100000 + 0x1000 * n + 0x6C, 18, 10, 0, .ro⟩
/-- R306. Arrival after the port's earliest lane, in blocks of 6.4 ns, 0 to 10 -/
def LANE_DESKEW_SKEW (n : Nat) : Field := ⟨0x100000 + 0x1000 * n + 0x6C, 0, 4, 0, .ro⟩
/-- R323. Block type: loop engine -/
def LOOP_PAGE_ID_TYPE (n : Nat) : Field := ⟨0x80000 + 0x1000 * n + 0x0, 16, 16, 0x0A40, .ro⟩
/-- R323. Page number, 0 or 1 -/
def LOOP_PAGE_ID_INST (n : Nat) : Field := ⟨0x80000 + 0x1000 * n + 0x0, 8, 8, n, .ro⟩
/-- R323. Block revision -/
def LOOP_PAGE_ID_REV (n : Nat) : Field := ⟨0x80000 + 0x1000 * n + 0x0, 0, 8, 0x01, .ro⟩
/-- R324. Units on this page -/
def LOOP_CAP_UNITS (n : Nat) : Field := ⟨0x80000 + 0x1000 * n + 0x4, 0, 5, 16, .ro⟩
/-- R325. Clear EN of every unit of the page (R320) -/
def LOOP_CTRL_ALL_OFF (n : Nat) : Field := ⟨0x80000 + 0x1000 * n + 0x8, 0, 1, 0, .w1⟩
/-- R326. A write to a locked field was ignored -/
def LOOP_STATUS_LOCKV (n : Nat) : Field := ⟨0x80000 + 0x1000 * n + 0xC, 0, 1, 0, .rc⟩
/-- R327. Bit j enables an interrupt for unit j of the page -/
def LOOP_IRQ_EN_EN (n : Nat) : Field := ⟨0x80000 + 0x1000 * n + 0x10, 0, 16, 0, .rw⟩
/-- R328. Bit j: a bit of U_STAT [5:0] of unit j set while EN bit j is set -/
def LOOP_IRQ_STAT_PEND (n : Nat) : Field := ⟨0x80000 + 0x1000 * n + 0x14, 0, 16, 0, .rc⟩
/-- R329. Writing 1 locks the page's RWL fields; writing 0 is ignored; cleared only by the ... -/
def LOOP_LOCK_LOCK (n : Nat) : Field := ⟨0x80000 + 0x1000 * n + 0x18, 0, 1, 0, .rw⟩
/-- R330. Bit j: unit j of the page fenced; 0xFFFF_FFFF: loop glade fenced (R23) -/
def LOOP_FENCE_FENCE (n : Nat) : Field := ⟨0x80000 + 0x1000 * n + 0x1C, 0, 32, 0, .ro⟩
/-- R331. 0: STEP; 1: RAMP (R318) -/
def U_CTRL_SP_MODE (k : Nat) : Field := ⟨0x80400 + 0x1000 * (k / 16) + 0x80 * (k % 16) + 0x0, 1, 1, 0, .rw⟩
/-- R331. 1: unit samples on its triggers (R318, R320) -/
def U_CTRL_EN (k : Nat) : Field := ⟨0x80400 + 0x1000 * (k / 16) + 0x80 * (k % 16) + 0x0, 0, 1, 0, .rw⟩
/-- R332. 1: phase unit (R310) -/
def U_CFG_PHASE (k : Nat) : Field := ⟨0x80400 + 0x1000 * (k / 16) + 0x80 * (k % 16) + 0x4, 31, 1, 0, .rwl⟩
/-- R332. 1: post out as an operand (R317) -/
def U_CFG_POST_OP (k : Nat) : Field := ⟨0x80400 + 0x1000 * (k / 16) + 0x80 * (k % 16) + 0x4, 30, 1, 0, .rwl⟩
/-- R332. 1: post event flag EVT at completion -/
def U_CFG_POST_EVT (k : Nat) : Field := ⟨0x80400 + 0x1000 * (k / 16) + 0x80 * (k % 16) + 0x4, 29, 1, 0, .rwl⟩
/-- R332. Event flag posted, 0 to 31 -/
def U_CFG_EVT (k : Nat) : Field := ⟨0x80400 + 0x1000 * (k / 16) + 0x80 * (k % 16) + 0x4, 24, 5, 0, .rwl⟩
/-- R332. Measurement source (R316) -/
def U_CFG_IN_SEL (k : Nat) : Field := ⟨0x80400 + 0x1000 * (k / 16) + 0x80 * (k % 16) + 0x4, 20, 2, 0, .rwl⟩
/-- R332. Sampled-value channel when IN_SEL = 1 -/
def U_CFG_SV_CH (k : Nat) : Field := ⟨0x80400 + 0x1000 * (k / 16) + 0x80 * (k % 16) + 0x4, 8, 8, 0, .rwl⟩
/-- R333. Trigger source (R312) -/
def U_TRIG_SRC (k : Nat) : Field := ⟨0x80400 + 0x1000 * (k / 16) + 0x80 * (k % 16) + 0x8, 30, 2, 0, .rwl⟩
/-- R333. Sample on every (DIV + 1)-th phase trigger (R313) -/
def U_TRIG_DIV (k : Nat) : Field := ⟨0x80400 + 0x1000 * (k / 16) + 0x80 * (k % 16) + 0x8, 22, 8, 0, .rwl⟩
/-- R333. Trigger flag when SRC = 2 -/
def U_TRIG_EVT_IN (k : Nat) : Field := ⟨0x80400 + 0x1000 * (k / 16) + 0x80 * (k % 16) + 0x8, 16, 5, 0, .rwl⟩
/-- R333. Trigger phase from cycle start, in 10 ns units -/
def U_TRIG_PH (k : Nat) : Field := ⟨0x80400 + 0x1000 * (k / 16) + 0x80 * (k % 16) + 0x8, 0, 13, 0, .rwl⟩
/-- R334. Matching-store tag of the posted operand -/
def U_OPTAG_TAG (k : Nat) : Field := ⟨0x80400 + 0x1000 * (k / 16) + 0x80 * (k % 16) + 0xC, 16, 10, 0, .rw⟩
/-- R334. Operand index, 0 to 7 -/
def U_OPTAG_OPIDX (k : Nat) : Field := ⟨0x80400 + 0x1000 * (k / 16) + 0x80 * (k % 16) + 0xC, 0, 3, 0, .rw⟩
/-- R335. Gain, Q8.24 (R308) -/
def U_KP_GAIN (k : Nat) : Field := ⟨0x80400 + 0x1000 * (k / 16) + 0x80 * (k % 16) + 0x10, 0, 32, 0, .rw⟩
/-- R335. Gain, Q8.24 (R308) -/
def U_KI_GAIN (k : Nat) : Field := ⟨0x80400 + 0x1000 * (k / 16) + 0x80 * (k % 16) + 0x14, 0, 32, 0, .rw⟩
/-- R335. Gain, Q8.24 (R308) -/
def U_KD_GAIN (k : Nat) : Field := ⟨0x80400 + 0x1000 * (k / 16) + 0x80 * (k % 16) + 0x18, 0, 32, 0, .rw⟩
/-- R336. Feed-forward, Q16.16 -/
def U_FF_FF (k : Nat) : Field := ⟨0x80400 + 0x1000 * (k / 16) + 0x80 * (k % 16) + 0x1C, 0, 32, 0, .rw⟩
/-- R337. Target set-point, Q16.16; a write in RAMP mode starts a ramp (R318) -/
def U_SP_SP (k : Nat) : Field := ⟨0x80400 + 0x1000 * (k / 16) + 0x80 * (k % 16) + 0x20, 0, 32, 0, .rw⟩
/-- R338. Ramp step per sample, unsigned 15.16; 1.0 after reset -/
def U_RATE_RATE (k : Nat) : Field := ⟨0x80400 + 0x1000 * (k / 16) + 0x80 * (k % 16) + 0x24, 0, 31, 0x00010000, .rw⟩
/-- R339. Measurement, Q16.16; with IN_SEL = 1 hardware-owned, and writes are ignored (R316) -/
def U_MEAS_Y (k : Nat) : Field := ⟨0x80400 + 0x1000 * (k / 16) + 0x80 * (k % 16) + 0x28, 0, 32, 0, .rw⟩
/-- R340. Working set-point of the last sample -/
def U_SPW_SPW (k : Nat) : Field := ⟨0x80400 + 0x1000 * (k / 16) + 0x80 * (k % 16) + 0x2C, 0, 32, 0, .ro⟩
/-- R341. Output of the last sample, Q16.16 -/
def U_OUT_OUT (k : Nat) : Field := ⟨0x80400 + 0x1000 * (k / 16) + 0x80 * (k % 16) + 0x30, 0, 32, 0, .ro⟩
/-- R342. Integrator bits [31:0] -/
def U_INT_LO_INT (k : Nat) : Field := ⟨0x80400 + 0x1000 * (k / 16) + 0x80 * (k % 16) + 0x34, 0, 32, 0, .rw⟩
/-- R343. Integrator bits [47:32] -/
def U_INT_HI_INT (k : Nat) : Field := ⟨0x80400 + 0x1000 * (k / 16) + 0x80 * (k % 16) + 0x38, 0, 16, 0, .rw⟩
/-- R344. Measurement of the last sample -/
def U_Y_PREV_Y (k : Nat) : Field := ⟨0x80400 + 0x1000 * (k / 16) + 0x80 * (k % 16) + 0x3C, 0, 32, 0, .ro⟩
/-- R345. EN = 1 and unit not fenced -/
def U_STAT_ACTIVE (k : Nat) : Field := ⟨0x80400 + 0x1000 * (k / 16) + 0x80 * (k % 16) + 0x40, 9, 1, 0, .ro⟩
/-- R345. Ramp running (R318) -/
def U_STAT_RAMPING (k : Nat) : Field := ⟨0x80400 + 0x1000 * (k / 16) + 0x80 * (k % 16) + 0x40, 8, 1, 0, .ro⟩
/-- R345. Trigger phase at or beyond T (R313) -/
def U_STAT_NOTRIG (k : Nat) : Field := ⟨0x80400 + 0x1000 * (k / 16) + 0x80 * (k % 16) + 0x40, 5, 1, 0, .rc⟩
/-- R345. Sample used a held sampled value (R316) -/
def U_STAT_STALE (k : Nat) : Field := ⟨0x80400 + 0x1000 * (k / 16) + 0x80 * (k % 16) + 0x40, 4, 1, 0, .rc⟩
/-- R345. Trigger dropped (R315) -/
def U_STAT_OVERRUN (k : Nat) : Field := ⟨0x80400 + 0x1000 * (k / 16) + 0x80 * (k % 16) + 0x40, 3, 1, 0, .rc⟩
/-- R345. Ramp reached its target -/
def U_STAT_RAMP_DONE (k : Nat) : Field := ⟨0x80400 + 0x1000 * (k / 16) + 0x80 * (k % 16) + 0x40, 2, 1, 0, .rc⟩
/-- R345. Output wrapped with PHASE = 0 (R311) -/
def U_STAT_OUT_WRAP (k : Nat) : Field := ⟨0x80400 + 0x1000 * (k / 16) + 0x80 * (k % 16) + 0x40, 1, 1, 0, .rc⟩
/-- R345. Integrator wrapped with PHASE = 0 (R311) -/
def U_STAT_INT_WRAP (k : Nat) : Field := ⟨0x80400 + 0x1000 * (k / 16) + 0x80 * (k % 16) + 0x40, 0, 1, 0, .rc⟩
/-- R346. Output wraps, in every mode; wraps -/
def U_WRAPCNT_OUT (k : Nat) : Field := ⟨0x80400 + 0x1000 * (k / 16) + 0x80 * (k % 16) + 0x44, 16, 16, 0, .rw⟩
/-- R346. Integrator wraps, in every mode; wraps -/
def U_WRAPCNT_INT (k : Nat) : Field := ⟨0x80400 + 0x1000 * (k / 16) + 0x80 * (k % 16) + 0x44, 0, 16, 0, .rw⟩
/-- R347. Completed samples; wraps -/
def U_SCNT_SAMPLES (k : Nat) : Field := ⟨0x80400 + 0x1000 * (k / 16) + 0x80 * (k % 16) + 0x48, 8, 24, 0, .rw⟩
/-- R347. Dropped triggers (R315); wraps -/
def U_SCNT_OVR (k : Nat) : Field := ⟨0x80400 + 0x1000 * (k / 16) + 0x80 * (k % 16) + 0x48, 0, 8, 0, .rw⟩
/-- R367. Block type: PWM -/
def PWM_PAGE_ID_TYPE : Field := ⟨0x90000, 16, 16, 0x0A50, .ro⟩
/-- R367. Instance -/
def PWM_PAGE_ID_INST : Field := ⟨0x90000, 8, 8, 0, .ro⟩
/-- R367. Block revision -/
def PWM_PAGE_ID_REV : Field := ⟨0x90000, 0, 8, 0x01, .ro⟩
/-- R368. Exclusion pairs -/
def PWM_CAP_PAIRS : Field := ⟨0x90004, 8, 4, 8, .ro⟩
/-- R368. Channels -/
def PWM_CAP_CHANNELS : Field := ⟨0x90004, 0, 5, 16, .ro⟩
/-- R369. Release the hold latch (R364) -/
def PWM_CTRL_RESUME : Field := ⟨0x90008, 1, 1, 0, .w1⟩
/-- R369. Clear EN of every channel on one clock edge -/
def PWM_CTRL_ALL_OFF : Field := ⟨0x90008, 0, 1, 0, .w1⟩
/-- R370. L3 or L4 record unacknowledged (R364) -/
def PWM_STATUS_BLK : Field := ⟨0x9000C, 3, 1, 0, .ro⟩
/-- R370. A grove core is halted -/
def PWM_STATUS_HALT : Field := ⟨0x9000C, 2, 1, 0, .ro⟩
/-- R370. Hold latch engaged (R363) -/
def PWM_STATUS_HELD : Field := ⟨0x9000C, 1, 1, 0, .ro⟩
/-- R370. A write to a locked field was ignored -/
def PWM_STATUS_LOCKV : Field := ⟨0x9000C, 0, 1, 0, .rc⟩
/-- R371. Bit c enables an interrupt for channel c -/
def PWM_IRQ_EN_EN : Field := ⟨0x90010, 0, 16, 0, .rw⟩
/-- R372. Bit c: a bit of CH_STAT [4:0] of channel c set while EN bit c is set -/
def PWM_IRQ_STAT_PEND : Field := ⟨0x90014, 0, 16, 0, .rc⟩
/-- R373. Writing 1 locks the page's RWL fields; writing 0 is ignored; cleared only by the ... -/
def PWM_LOCK_LOCK : Field := ⟨0x90018, 0, 1, 0, .rw⟩
/-- R374. Bit c: channel c fenced; 0xFFFF_FFFF: local-drive glade fenced (R23) -/
def PWM_FENCE_FENCE : Field := ⟨0x9001C, 0, 32, 0, .ro⟩
/-- R375. Pair dead time in 2 ns ticks, 0 to 4,095 (R356) -/
def PWM_XPAIR_XDEAD : Field := ⟨0x90040, 16, 12, 500, .rwt⟩
/-- R375. Bit p: channels 2p and 2p + 1 form a pair -/
def PWM_XPAIR_PAIR_EN : Field := ⟨0x90040, 0, 8, 0, .rwt⟩
/-- R376. Bit c: safe level of GD_OUT[c] (R363) -/
def PWM_SAFE_LVL_LVL : Field := ⟨0x90044, 0, 16, 0, .rwt⟩
/-- R377. Clear the fault latch (R359) -/
def CH_CTRL_FLT_CLR (c : Nat) : Field := ⟨0x90080 + 0x100 * c + 0x0, 1, 1, 0, .w1⟩
/-- R377. 1: channel runs; the landing tick of a 1 is a period start -/
def CH_CTRL_EN (c : Nat) : Field := ⟨0x90080 + 0x100 * c + 0x0, 0, 1, 0, .rw⟩
/-- R378. Split window in 100 ns units; 0: off (R353) -/
def CH_CFG_PAIR_WIN (c : Nat) : Field := ⟨0x90080 + 0x100 * c + 0x4, 8, 8, 10, .rwl⟩
/-- R378. 1: incoming sync pulses load the counter (R355) -/
def CH_CFG_SYNC_EN (c : Nat) : Field := ⟨0x90080 + 0x100 * c + 0x4, 1, 1, 0, .rwl⟩
/-- R378. 0: COT; 1: COFF (R350) -/
def CH_CFG_MODE (c : Nat) : Field := ⟨0x90080 + 0x100 * c + 0x4, 0, 1, 0, .rwl⟩
/-- R379. GS_OK filter in 2 ns ticks, 1 to 255 (R361) -/
def CH_PROT_GS_FILT (c : Nat) : Field := ⟨0x90080 + 0x100 * c + 0x8, 16, 8, 25, .rwt⟩
/-- R379. Blanking in 2 ns ticks, 0 to 4,095 (R358) -/
def CH_PROT_BLANK (c : Nat) : Field := ⟨0x90080 + 0x100 * c + 0x8, 0, 12, 500, .rwt⟩
/-- R380. Period in 2 ns ticks (R349) -/
def CH_PER_PER (c : Nat) : Field := ⟨0x90080 + 0x100 * c + 0xC, 0, 20, 1000, .rw⟩
/-- R381. On-time (COT) or off-time (COFF) in 2 ns ticks (R350, R351) -/
def CH_CMP_CMP (c : Nat) : Field := ⟨0x90080 + 0x100 * c + 0x10, 0, 20, 0, .rw⟩
/-- R382. Counter value loaded by a sync pulse (R355) -/
def CH_SYNC_PH_PH (c : Nat) : Field := ⟨0x90080 + 0x100 * c + 0x14, 0, 20, 0, .rw⟩
/-- R383. Present counter value -/
def CH_CNT_COUNT (c : Nat) : Field := ⟨0x90080 + 0x100 * c + 0x18, 0, 20, 0, .ro⟩
/-- R384. GD_FLT_N[c] asserted at present -/
def CH_STAT_FLT_IN (c : Nat) : Field := ⟨0x90080 + 0x100 * c + 0x1C, 11, 1, 0, .ro⟩
/-- R384. GS_OK[c] high after its filter -/
def CH_STAT_GS (c : Nat) : Field := ⟨0x90080 + 0x100 * c + 0x1C, 10, 1, 0, .ro⟩
/-- R384. Fault latched (R358) -/
def CH_STAT_FLT_LAT (c : Nat) : Field := ⟨0x90080 + 0x100 * c + 0x1C, 9, 1, 0, .ro⟩
/-- R384. Present level of GD_OUT[c] -/
def CH_STAT_OUT (c : Nat) : Field := ⟨0x90080 + 0x100 * c + 0x1C, 8, 1, 0, .ro⟩
/-- R384. Pair fenced by a double fault (R360) -/
def CH_STAT_PAIRFLT (c : Nat) : Field := ⟨0x90080 + 0x100 * c + 0x1C, 4, 1, 0, .rc⟩
/-- R384. Pair held low (R357) -/
def CH_STAT_XBLOCK (c : Nat) : Field := ⟨0x90080 + 0x100 * c + 0x1C, 3, 1, 0, .rc⟩
/-- R384. Gate supply low (R361) -/
def CH_STAT_UV (c : Nat) : Field := ⟨0x90080 + 0x100 * c + 0x1C, 2, 1, 0, .rc⟩
/-- R384. Fault confirmed (R358) -/
def CH_STAT_DESAT (c : Nat) : Field := ⟨0x90080 + 0x100 * c + 0x1C, 1, 1, 0, .rc⟩
/-- R384. PER and CMP written in different periods (R353) -/
def CH_STAT_SPLIT (c : Nat) : Field := ⟨0x90080 + 0x100 * c + 0x1C, 0, 1, 0, .rc⟩
/-- R385. Pair holds (R357); wraps -/
def CH_FCNT_XBLOCK (c : Nat) : Field := ⟨0x90080 + 0x100 * c + 0x20, 16, 16, 0, .rw⟩
/-- R385. Confirmed faults (R358); wraps -/
def CH_FCNT_DESAT (c : Nat) : Field := ⟨0x90080 + 0x100 * c + 0x20, 0, 16, 0, .rw⟩
/-- R386. Period starts (R349); wraps -/
def CH_PCNT_PERIODS (c : Nat) : Field := ⟨0x90080 + 0x100 * c + 0x24, 0, 32, 0, .rw⟩
/-- R401. Block type: position interface -/
def POS_PAGE_ID_TYPE (n : Nat) : Field := ⟨0x91000 + 0x1000 * n + 0x0, 16, 16, 0x0A52, .ro⟩
/-- R401. Interface number -/
def POS_PAGE_ID_INST (n : Nat) : Field := ⟨0x91000 + 0x1000 * n + 0x0, 8, 8, n, .ro⟩
/-- R401. Block revision -/
def POS_PAGE_ID_REV (n : Nat) : Field := ⟨0x91000 + 0x1000 * n + 0x0, 0, 8, 0x01, .ro⟩
/-- R402. Encoder emulation present -/
def POS_CAP_EMU (n : Nat) : Field := ⟨0x91000 + 0x1000 * n + 0x4, 0, 1, 1, .ro⟩
/-- R403. Arm the compare (R395) -/
def POS_CTRL_CMP_ARM (n : Nat) : Field := ⟨0x91000 + 0x1000 * n + 0x8, 3, 1, 0, .w1⟩
/-- R403. Arm a ONCE index load (R391) -/
def POS_CTRL_IDX_ARM (n : Nat) : Field := ⟨0x91000 + 0x1000 * n + 0x8, 2, 1, 0, .w1⟩
/-- R403. 1: encoder emulation runs (R397) -/
def POS_CTRL_EMU_EN (n : Nat) : Field := ⟨0x91000 + 0x1000 * n + 0x8, 1, 1, 0, .rw⟩
/-- R403. 1: interface counts; a write of 1 starts the windows (R392) -/
def POS_CTRL_EN (n : Nat) : Field := ⟨0x91000 + 0x1000 * n + 0x8, 0, 1, 0, .rw⟩
/-- R404. Compare armed -/
def POS_STATUS_CMP_ARMED (n : Nat) : Field := ⟨0x91000 + 0x1000 * n + 0xC, 11, 1, 0, .ro⟩
/-- R404. ONCE index load armed -/
def POS_STATUS_IDX_ARMED (n : Nat) : Field := ⟨0x91000 + 0x1000 * n + 0xC, 10, 1, 0, .ro⟩
/-- R404. Direction of the last counted edge; 0: up; 1: down -/
def POS_STATUS_DIR (n : Nat) : Field := ⟨0x91000 + 0x1000 * n + 0xC, 9, 1, 0, .ro⟩
/-- R404. A counted edge since EN was set -/
def POS_STATUS_MOVED (n : Nat) : Field := ⟨0x91000 + 0x1000 * n + 0xC, 8, 1, 0, .ro⟩
/-- R404. Window completed (R392) -/
def POS_STATUS_SPD_NEW (n : Nat) : Field := ⟨0x91000 + 0x1000 * n + 0xC, 6, 1, 0, .rc⟩
/-- R404. Emulation backlog discarded (R398) -/
def POS_STATUS_EMU_OVF (n : Nat) : Field := ⟨0x91000 + 0x1000 * n + 0xC, 5, 1, 0, .rc⟩
/-- R404. Compare written behind (R396) -/
def POS_STATUS_BEHIND (n : Nat) : Field := ⟨0x91000 + 0x1000 * n + 0xC, 4, 1, 0, .rc⟩
/-- R404. Compare fired (R395) -/
def POS_STATUS_CMP (n : Nat) : Field := ⟨0x91000 + 0x1000 * n + 0xC, 3, 1, 0, .rc⟩
/-- R404. Index load (R391) -/
def POS_STATUS_INDEX (n : Nat) : Field := ⟨0x91000 + 0x1000 * n + 0xC, 2, 1, 0, .rc⟩
/-- R404. Edge faster than MIN_GAP (R389) -/
def POS_STATUS_EDGE_FLT (n : Nat) : Field := ⟨0x91000 + 0x1000 * n + 0xC, 1, 1, 0, .rc⟩
/-- R404. A write to a locked field was ignored -/
def POS_STATUS_LOCKV (n : Nat) : Field := ⟨0x91000 + 0x1000 * n + 0xC, 0, 1, 0, .rc⟩
/-- R405. Bit j enables an interrupt for STATUS bit j -/
def POS_IRQ_EN_EN (n : Nat) : Field := ⟨0x91000 + 0x1000 * n + 0x10, 0, 7, 0, .rw⟩
/-- R406. Bit j: STATUS bit j set while EN bit j is set -/
def POS_IRQ_STAT_PEND (n : Nat) : Field := ⟨0x91000 + 0x1000 * n + 0x14, 0, 7, 0, .rc⟩
/-- R407. Writing 1 locks the page's RWL fields; writing 0 is ignored; cleared only by the ... -/
def POS_LOCK_LOCK (n : Nat) : Field := ⟨0x91000 + 0x1000 * n + 0x18, 0, 1, 0, .rw⟩
/-- R408. 0: running; 0x0000_0001: interface fenced (R399); 0xFFFF_FFFF: local-drive glade ... -/
def POS_FENCE_FENCE (n : Nat) : Field := ⟨0x91000 + 0x1000 * n + 0x1C, 0, 32, 0, .ro⟩
/-- R409. Event flag posted at a compare firing -/
def POS_CFG_CMP_EVT (n : Nat) : Field := ⟨0x91000 + 0x1000 * n + 0x40, 27, 5, 0, .rwl⟩
/-- R409. Event flag posted at a window end -/
def POS_CFG_WIN_EVT (n : Nat) : Field := ⟨0x91000 + 0x1000 * n + 0x40, 22, 5, 0, .rwl⟩
/-- R409. 1: post CMP_EVT (R395) -/
def POS_CFG_POST_CMP (n : Nat) : Field := ⟨0x91000 + 0x1000 * n + 0x40, 21, 1, 0, .rwl⟩
/-- R409. 1: post WIN_EVT (R392) -/
def POS_CFG_POST_WIN (n : Nat) : Field := ⟨0x91000 + 0x1000 * n + 0x40, 20, 1, 0, .rwl⟩
/-- R409. Index mode (R391) -/
def POS_CFG_IDX_MODE (n : Nat) : Field := ⟨0x91000 + 0x1000 * n + 0x40, 18, 2, 0, .rwl⟩
/-- R409. 1: invert direction (R388) -/
def POS_CFG_DIR_INV (n : Nat) : Field := ⟨0x91000 + 0x1000 * n + 0x40, 17, 1, 0, .rwl⟩
/-- R409. 0: STEP_DIR; 1: UP_DOWN -/
def POS_CFG_MODE (n : Nat) : Field := ⟨0x91000 + 0x1000 * n + 0x40, 16, 1, 0, .rwl⟩
/-- R409. Minimum edge spacing in 2 ns ticks, 1 to 65,535 (R389) -/
def POS_CFG_MIN_GAP (n : Nat) : Field := ⟨0x91000 + 0x1000 * n + 0x40, 0, 16, 50, .rwl⟩
/-- R410. Position, signed; wraps (R390) -/
def POS_POS_COUNT (n : Nat) : Field := ⟨0x91000 + 0x1000 * n + 0x44, 0, 32, 0, .rw⟩
/-- R411. Value loaded at an index edge (R391) -/
def POS_IDX_LOAD_VAL (n : Nat) : Field := ⟨0x91000 + 0x1000 * n + 0x48, 0, 32, 0, .rw⟩
/-- R412. Position just before the last index load -/
def POS_IDX_POS_POS (n : Nat) : Field := ⟨0x91000 + 0x1000 * n + 0x4C, 0, 32, 0, .ro⟩
/-- R413. Window length in µs, 1 to 65,535 -/
def POS_SPD_CFG_WIN (n : Nat) : Field := ⟨0x91000 + 0x1000 * n + 0x50, 0, 16, 1000, .rwl⟩
/-- R414. Speed scale per count per window, Q16.16 -/
def POS_SPD_K_K (n : Nat) : Field := ⟨0x91000 + 0x1000 * n + 0x54, 0, 32, 0x00010000, .rw⟩
/-- R415. A full window has completed (R392) -/
def POS_SPDNET_VALID (n : Nat) : Field := ⟨0x91000 + 0x1000 * n + 0x58, 31, 1, 0, .ro⟩
/-- R415. First motion after standstill (R393) -/
def POS_SPDNET_START (n : Nat) : Field := ⟨0x91000 + 0x1000 * n + 0x58, 30, 1, 0, .ro⟩
/-- R415. Direction change in the window (R393) -/
def POS_SPDNET_REV (n : Nat) : Field := ⟨0x91000 + 0x1000 * n + 0x58, 29, 1, 0, .ro⟩
/-- R415. Up minus down edges in the last window, signed -/
def POS_SPDNET_NET (n : Nat) : Field := ⟨0x91000 + 0x1000 * n + 0x58, 0, 25, 0, .ro⟩
/-- R416. NET × K of the window latched by the last SPDNET read, Q16.16 -/
def POS_SPEED_SPD (n : Nat) : Field := ⟨0x91000 + 0x1000 * n + 0x5C, 0, 32, 0, .ro⟩
/-- R417. 0: either direction; 1: up only; 2: down only -/
def POS_CMP_CFG_CDIR (n : Nat) : Field := ⟨0x91000 + 0x1000 * n + 0x60, 1, 2, 0, .rw⟩
/-- R417. 1: stay armed after firing -/
def POS_CMP_CFG_CONT (n : Nat) : Field := ⟨0x91000 + 0x1000 * n + 0x60, 0, 1, 0, .rw⟩
/-- R418. Compare position, signed (R395, R396) -/
def POS_CMP_POS_VAL (n : Nat) : Field := ⟨0x91000 + 0x1000 * n + 0x64, 0, 32, 0, .rw⟩
/-- R419. Device time of the last firing, low 32 ns bits -/
def POS_CMP_TS_TS (n : Nat) : Field := ⟨0x91000 + 0x1000 * n + 0x68, 0, 32, 0, .ro⟩
/-- R420. Output counts per Z mark; 0: Z low -/
def POS_EMU_CFG_Z_PER (n : Nat) : Field := ⟨0x91000 + 0x1000 * n + 0x6C, 16, 16, 0, .rwl⟩
/-- R420. Minimum ticks between output steps, 1 to 65,535 -/
def POS_EMU_CFG_OUT_GAP (n : Nat) : Field := ⟨0x91000 + 0x1000 * n + 0x6C, 0, 16, 25, .rwl⟩
/-- R421. Output counts per input count, unsigned 16.16 -/
def POS_EMU_RATIO_RATIO (n : Nat) : Field := ⟨0x91000 + 0x1000 * n + 0x70, 0, 32, 0x00010000, .rwl⟩
/-- R422. Output counts behind the target (R398) -/
def POS_EMU_STAT_LAG (n : Nat) : Field := ⟨0x91000 + 0x1000 * n + 0x74, 16, 16, 0, .ro⟩
/-- R422. Present (A, B) output state, A in [1] -/
def POS_EMU_STAT_QSTATE (n : Nat) : Field := ⟨0x91000 + 0x1000 * n + 0x74, 0, 2, 0, .ro⟩
/-- R423. Uncounted edges (R389); wraps -/
def POS_CNT_EDGE_FAULT (n : Nat) : Field := ⟨0x91000 + 0x1000 * n + 0x78, 16, 16, 0, .rw⟩
/-- R423. Index loads (R391); wraps -/
def POS_CNT_INDEX (n : Nat) : Field := ⟨0x91000 + 0x1000 * n + 0x78, 0, 16, 0, .rw⟩
/-- R438. Block type: ADC -/
def ADC_PAGE_ID_TYPE (n : Nat) : Field := ⟨0x93000 + 0x1000 * n + 0x0, 16, 16, 0x0A54, .ro⟩
/-- R438. Core number -/
def ADC_PAGE_ID_INST (n : Nat) : Field := ⟨0x93000 + 0x1000 * n + 0x0, 8, 8, n, .ro⟩
/-- R438. Block revision -/
def ADC_PAGE_ID_REV (n : Nat) : Field := ⟨0x93000 + 0x1000 * n + 0x0, 0, 8, 0x01, .ro⟩
/-- R439. Samples per burst at most -/
def ADC_CAP_BURST (n : Nat) : Field := ⟨0x93000 + 0x1000 * n + 0x4, 16, 13, 4096, .ro⟩
/-- R439. Inputs on the multiplexer -/
def ADC_CAP_INPUTS (n : Nat) : Field := ⟨0x93000 + 0x1000 * n + 0x4, 0, 5, 16, .ro⟩
/-- R440. Make a recalibration due (R434) -/
def ADC_CTRL_CAL_NOW (n : Nat) : Field := ⟨0x93000 + 0x1000 * n + 0x8, 3, 1, 0, .w1⟩
/-- R440. End the running request and discard the waiting one (R431) -/
def ADC_CTRL_STOP (n : Nat) : Field := ⟨0x93000 + 0x1000 * n + 0x8, 2, 1, 0, .w1⟩
/-- R440. Trigger a request (R426) -/
def ADC_CTRL_GO (n : Nat) : Field := ⟨0x93000 + 0x1000 * n + 0x8, 1, 1, 0, .w1⟩
/-- R440. 1: triggers accepted -/
def ADC_CTRL_EN (n : Nat) : Field := ⟨0x93000 + 0x1000 * n + 0x8, 0, 1, 0, .rw⟩
/-- R441. First calibration done since reset (R434) -/
def ADC_STATUS_CALD (n : Nat) : Field := ⟨0x93000 + 0x1000 * n + 0xC, 11, 1, 0, .ro⟩
/-- R441. Core powered -/
def ADC_STATUS_PWR (n : Nat) : Field := ⟨0x93000 + 0x1000 * n + 0xC, 10, 1, 0, .ro⟩
/-- R441. A request waits -/
def ADC_STATUS_WAIT (n : Nat) : Field := ⟨0x93000 + 0x1000 * n + 0xC, 9, 1, 0, .ro⟩
/-- R441. A request or a recalibration runs -/
def ADC_STATUS_BUSY (n : Nat) : Field := ⟨0x93000 + 0x1000 * n + 0xC, 8, 1, 0, .ro⟩
/-- R441. Unbiased burst held code 0 or 16,383 (R433) -/
def ADC_STATUS_SAT (n : Nat) : Field := ⟨0x93000 + 0x1000 * n + 0xC, 6, 1, 0, .rc⟩
/-- R441. Recalibration postponed for duty (R435) -/
def ADC_STATUS_DUTY (n : Nat) : Field := ⟨0x93000 + 0x1000 * n + 0xC, 5, 1, 0, .rc⟩
/-- R441. Correction beyond DRIFT_LIM (R436) -/
def ADC_STATUS_CAL_ERR (n : Nat) : Field := ⟨0x93000 + 0x1000 * n + 0xC, 4, 1, 0, .rc⟩
/-- R441. Open wire detected (R433) -/
def ADC_STATUS_OPEN (n : Nat) : Field := ⟨0x93000 + 0x1000 * n + 0xC, 3, 1, 0, .rc⟩
/-- R441. Trigger dropped (R427) -/
def ADC_STATUS_OVERRUN (n : Nat) : Field := ⟨0x93000 + 0x1000 * n + 0xC, 2, 1, 0, .rc⟩
/-- R441. Burst completed (R428) -/
def ADC_STATUS_DONE (n : Nat) : Field := ⟨0x93000 + 0x1000 * n + 0xC, 1, 1, 0, .rc⟩
/-- R441. A write to a locked field was ignored -/
def ADC_STATUS_LOCKV (n : Nat) : Field := ⟨0x93000 + 0x1000 * n + 0xC, 0, 1, 0, .rc⟩
/-- R442. Bit j enables an interrupt for STATUS bit j -/
def ADC_IRQ_EN_EN (n : Nat) : Field := ⟨0x93000 + 0x1000 * n + 0x10, 0, 7, 0, .rw⟩
/-- R443. Bit j: STATUS bit j set while EN bit j is set -/
def ADC_IRQ_STAT_PEND (n : Nat) : Field := ⟨0x93000 + 0x1000 * n + 0x14, 0, 7, 0, .rc⟩
/-- R444. Writing 1 locks the page's RWL fields; writing 0 is ignored; cleared only by the ... -/
def ADC_LOCK_LOCK (n : Nat) : Field := ⟨0x93000 + 0x1000 * n + 0x18, 0, 1, 0, .rw⟩
/-- R445. 0: running; 0x0000_0001: core fenced; 0xFFFF_FFFF: local-drive or analog glade fenced ... -/
def ADC_FENCE_FENCE (n : Nat) : Field := ⟨0x93000 + 0x1000 * n + 0x1C, 0, 32, 0, .ro⟩
/-- R446. 0: none; 1: pull-up; 2: pull-down (R432) -/
def ADC_REQ_BIAS (n : Nat) : Field := ⟨0x93000 + 0x1000 * n + 0x40, 30, 2, 0, .rw⟩
/-- R446. 0: mean only; 1: RAW to the buffer as well (R429) -/
def ADC_REQ_MODE (n : Nat) : Field := ⟨0x93000 + 0x1000 * n + 0x40, 29, 1, 0, .rw⟩
/-- R446. Samples in the burst, less 1 -/
def ADC_REQ_COUNT (n : Nat) : Field := ⟨0x93000 + 0x1000 * n + 0x40, 16, 12, 0, .rw⟩
/-- R446. Input converted -/
def ADC_REQ_CH (n : Nat) : Field := ⟨0x93000 + 0x1000 * n + 0x40, 0, 4, 0, .rw⟩
/-- R447. 0: GO only; 1: event flag; 2: arm-cycle phase (R426) -/
def ADC_TRIG_SRC (n : Nat) : Field := ⟨0x93000 + 0x1000 * n + 0x44, 30, 2, 0, .rwl⟩
/-- R447. Trigger flag when SRC = 1 -/
def ADC_TRIG_EVT_IN (n : Nat) : Field := ⟨0x93000 + 0x1000 * n + 0x44, 16, 5, 0, .rwl⟩
/-- R447. Trigger phase from cycle start, in 10 ns units -/
def ADC_TRIG_PH (n : Nat) : Field := ⟨0x93000 + 0x1000 * n + 0x44, 0, 13, 0, .rwl⟩
/-- R448. 1: post AVG as an operand (R430) -/
def ADC_POST_POST_OP (n : Nat) : Field := ⟨0x93000 + 0x1000 * n + 0x48, 31, 1, 0, .rwl⟩
/-- R448. 1: post EVT at completion -/
def ADC_POST_POST_EVT (n : Nat) : Field := ⟨0x93000 + 0x1000 * n + 0x48, 30, 1, 0, .rwl⟩
/-- R448. Event flag posted -/
def ADC_POST_EVT (n : Nat) : Field := ⟨0x93000 + 0x1000 * n + 0x48, 24, 5, 0, .rwl⟩
/-- R448. Matching-store tag -/
def ADC_POST_TAG (n : Nat) : Field := ⟨0x93000 + 0x1000 * n + 0x48, 10, 10, 0, .rwl⟩
/-- R448. Operand index, 0 to 7 -/
def ADC_POST_OPIDX (n : Nat) : Field := ⟨0x93000 + 0x1000 * n + 0x48, 0, 3, 0, .rwl⟩
/-- R449. Seconds between recalibrations; 0: none (R434) -/
def ADC_CFG_CAL_PER (n : Nat) : Field := ⟨0x93000 + 0x1000 * n + 0x4C, 24, 8, 10, .rw⟩
/-- R449. Correction change limit in codes (R436) -/
def ADC_CFG_DRIFT_LIM (n : Nat) : Field := ⟨0x93000 + 0x1000 * n + 0x4C, 16, 8, 8, .rw⟩
/-- R449. Open-wire margin in codes (R433) -/
def ADC_CFG_OW_LIM (n : Nat) : Field := ⟨0x93000 + 0x1000 * n + 0x4C, 0, 14, 16, .rw⟩
/-- R450. Mean code of the last burst, unsigned 14.16 (R429) -/
def ADC_AVG_AVG (n : Nat) : Field := ⟨0x93000 + 0x1000 * n + 0x50, 0, 30, 0, .ro⟩
/-- R451. Input of the last burst -/
def ADC_LAST_CH (n : Nat) : Field := ⟨0x93000 + 0x1000 * n + 0x54, 28, 4, 0, .ro⟩
/-- R451. COUNT of the last burst -/
def ADC_LAST_COUNT (n : Nat) : Field := ⟨0x93000 + 0x1000 * n + 0x54, 16, 12, 0, .ro⟩
/-- R451. Last sample's code -/
def ADC_LAST_CODE (n : Nat) : Field := ⟨0x93000 + 0x1000 * n + 0x54, 0, 14, 0, .ro⟩
/-- R452. Device time of the last burst's first sample, low 32 ns bits -/
def ADC_TS_TS (n : Nat) : Field := ⟨0x93000 + 0x1000 * n + 0x58, 0, 32, 0, .ro⟩
/-- R453. Data-port address of the core's 8 KiB burst buffer (R429) -/
def ADC_BUF_ADDR_ADDR (n : Nat) : Field := ⟨0x93000 + 0x1000 * n + 0x5C, 0, 32, 0xD00000 + 0x2000 * n, .ro⟩
/-- R454. Completed bursts; wraps -/
def ADC_CNT_BURSTS (n : Nat) : Field := ⟨0x93000 + 0x1000 * n + 0x60, 8, 24, 0, .rw⟩
/-- R454. Dropped triggers (R427); wraps -/
def ADC_CNT_OVR (n : Nat) : Field := ⟨0x93000 + 0x1000 * n + 0x60, 0, 8, 0, .rw⟩
/-- R493. Block type: scheduler -/
def SCHED_PAGE_ID_TYPE : Field := ⟨0x5000, 16, 16, 0x0A23, .ro⟩
/-- R493. Instance -/
def SCHED_PAGE_ID_INST : Field := ⟨0x5000, 8, 8, 0, .ro⟩
/-- R493. Block revision -/
def SCHED_PAGE_ID_REV : Field := ⟨0x5000, 0, 8, 0x01, .ro⟩
/-- R494. Operand-store entries -/
def SCHED_CAP_STORE : Field := ⟨0x5004, 21, 11, 1024, .ro⟩
/-- R494. Matched tasks at most -/
def SCHED_CAP_MATCHED : Field := ⟨0x5004, 16, 5, 16, .ro⟩
/-- R494. Event flags -/
def SCHED_CAP_FLAGS : Field := ⟨0x5004, 10, 6, 32, .ro⟩
/-- R494. Task contexts -/
def SCHED_CAP_TASKS : Field := ⟨0x5004, 0, 10, 512, .ro⟩
/-- R495. 1: ready tasks are dispatched -/
def SCHED_CTRL_DISPATCH : Field := ⟨0x5008, 0, 1, 0, .rw⟩
/-- R496. A buffer move runs (R484) -/
def SCHED_STATUS_MOVING : Field := ⟨0x500C, 3, 1, 0, .ro⟩
/-- R496. Trace writing -/
def SCHED_STATUS_TRACE_ON : Field := ⟨0x500C, 2, 1, 0, .ro⟩
/-- R496. A task set is loaded (R466) -/
def SCHED_STATUS_TSET : Field := ⟨0x500C, 1, 1, 0, .ro⟩
/-- R496. A write to a locked field was ignored -/
def SCHED_STATUS_LOCKV : Field := ⟨0x500C, 0, 1, 0, .rc⟩
/-- R497. Bit j enables an interrupt for STAT bit j -/
def SCHED_IRQ_EN_EN : Field := ⟨0x5010, 0, 12, 0, .rw⟩
/-- R498. Bit j: STAT bit j set while EN bit j is set -/
def SCHED_IRQ_STAT_PEND : Field := ⟨0x5014, 0, 12, 0, .rc⟩
/-- R499. Writing 1 locks the page's RWL fields; writing 0 is ignored; cleared only by the ... -/
def SCHED_LOCK_LOCK : Field := ⟨0x5018, 0, 1, 0, .rw⟩
/-- R500. 0 while the arm glade runs; 0xFFFF_FFFF while it is fenced (R23) -/
def SCHED_FENCE_FENCE : Field := ⟨0x501C, 0, 32, 0, .ro⟩
/-- R501. 1: class C buffers migrate in every arm state (R483) -/
def SCHED_CFG_MIG_C : Field := ⟨0x5040, 16, 1, 1, .rw⟩
/-- R501. 1: post CYC_FLAG at each cycle start (R468) -/
def SCHED_CFG_CYC_EN : Field := ⟨0x5040, 8, 1, 0, .rwl⟩
/-- R501. Cycle-start flag -/
def SCHED_CFG_CYC_FLAG : Field := ⟨0x5040, 0, 5, 0, .rwl⟩
/-- R502. Bit j: post flag j from the host (R468) -/
def SCHED_FLAG_POST_FLAGS : Field := ⟨0x5044, 0, 32, 0, .w1⟩
/-- R503. Tag of the host operand -/
def SCHED_HOP_TAG_TAG : Field := ⟨0x5048, 16, 10, 0, .rw⟩
/-- R503. Operand index -/
def SCHED_HOP_TAG_OPIDX : Field := ⟨0x5048, 0, 3, 0, .rw⟩
/-- R504. A write posts VAL under HOP_TAG; a read returns the last value written -/
def SCHED_HOP_VAL_VAL : Field := ⟨0x504C, 0, 32, 0, .rw⟩
/-- R505. A grove core was fenced (R489) -/
def SCHED_STAT_CORE_FENCE : Field := ⟨0x5050, 11, 1, 0, .rc⟩
/-- R505. Trace entries dropped (R487) -/
def SCHED_STAT_TRACE_DROP : Field := ⟨0x5050, 10, 1, 0, .rc⟩
/-- R505. A spare core was brought in (R488) -/
def SCHED_STAT_SPARE_IN : Field := ⟨0x5050, 9, 1, 0, .rc⟩
/-- R505. A response bound was missed (R476) -/
def SCHED_STAT_RESP_LATE : Field := ⟨0x5050, 8, 1, 0, .rc⟩
/-- R505. A buffer was re-created after a fence (R485) -/
def SCHED_STAT_BUF_LOST : Field := ⟨0x5050, 7, 1, 0, .rc⟩
/-- R505. A task was fenced (R478) -/
def SCHED_STAT_TFENCE : Field := ⟨0x5050, 6, 1, 0, .rc⟩
/-- R505. A work item was aborted (R477) -/
def SCHED_STAT_ABORT : Field := ⟨0x5050, 5, 1, 0, .rc⟩
/-- R505. A run bound was reached (R476) -/
def SCHED_STAT_TBOUND : Field := ⟨0x5050, 4, 1, 0, .rc⟩
/-- R505. An operand replaced a held one (R472) -/
def SCHED_STAT_DUP : Field := ⟨0x5050, 3, 1, 0, .rc⟩
/-- R505. An operand had no owner (R472) -/
def SCHED_STAT_ORPHAN : Field := ⟨0x5050, 2, 1, 0, .rc⟩
/-- R505. A poster stalled on the full store (R471) -/
def SCHED_STAT_MATCH_STALL : Field := ⟨0x5050, 1, 1, 0, .rc⟩
/-- R505. An operand was dropped (R471) -/
def SCHED_STAT_MATCH_OVF : Field := ⟨0x5050, 0, 1, 0, .rc⟩
/-- R506. Items running -/
def SCHED_LOAD_RUN : Field := ⟨0x5054, 27, 5, 0, .ro⟩
/-- R506. Items staged -/
def SCHED_LOAD_STAGED : Field := ⟨0x5054, 22, 5, 0, .ro⟩
/-- R506. Tasks ready, 0 to 512 -/
def SCHED_LOAD_READY : Field := ⟨0x5054, 0, 10, 0, .ro⟩
/-- R507. Largest occupancy since reset -/
def SCHED_MATCH_FILL_MAX : Field := ⟨0x5058, 16, 11, 0, .ro⟩
/-- R507. Store entries occupied, 0 to 1,024 -/
def SCHED_MATCH_FILL_FILL : Field := ⟨0x5058, 0, 11, 0, .ro⟩
/-- R508. Dropped operands (R471); wraps -/
def SCHED_MATCH_CNT_OVF : Field := ⟨0x505C, 24, 8, 0, .rw⟩
/-- R508. Replaced operands (R472); wraps -/
def SCHED_MATCH_CNT_DUP : Field := ⟨0x505C, 12, 12, 0, .rw⟩
/-- R508. Operands without owner (R472); wraps -/
def SCHED_MATCH_CNT_ORPHAN : Field := ⟨0x505C, 0, 12, 0, .rw⟩
/-- R509. Task number -/
def SCHED_TASK_IDX_IDX : Field := ⟨0x5060, 0, 9, 0, .rw⟩
/-- R510. Task enabled -/
def SCHED_TASK_INFO_EN : Field := ⟨0x5064, 31, 1, 0, .ro⟩
/-- R510. Task fenced (R478) -/
def SCHED_TASK_INFO_FENCED : Field := ⟨0x5064, 30, 1, 0, .ro⟩
/-- R510. 0: idle; 1: ready; 2: staged; 3: running -/
def SCHED_TASK_INFO_STATE : Field := ⟨0x5064, 28, 2, 0, .ro⟩
/-- R510. Matched task -/
def SCHED_TASK_INFO_MATCHED : Field := ⟨0x5064, 27, 1, 0, .ro⟩
/-- R510. 0: ANY; 1: ALL -/
def SCHED_TASK_INFO_RULE : Field := ⟨0x5064, 26, 1, 0, .ro⟩
/-- R510. 0: P; 1: C -/
def SCHED_TASK_INFO_CLASS : Field := ⟨0x5064, 25, 1, 0, .ro⟩
/-- R510. Priority, 0 highest -/
def SCHED_TASK_INFO_PRIO : Field := ⟨0x5064, 23, 2, 0, .ro⟩
/-- R510. Buffers declared, 0 to 16 -/
def SCHED_TASK_INFO_NBUF : Field := ⟨0x5064, 16, 5, 0, .ro⟩
/-- R510. Unit of the core that ran or runs the last item; 0 if none -/
def SCHED_TASK_INFO_CORE : Field := ⟨0x5064, 0, 16, 0, .ro⟩
/-- R511. Flag mask; 0 for a matched task -/
def SCHED_TASK_MASK_MASK : Field := ⟨0x5068, 0, 32, 0, .ro⟩
/-- R512. Pending flags (R467); for a matched task, bit j set while tag TAG_BASE + j has a ready ... -/
def SCHED_TASK_PEND_PEND : Field := ⟨0x506C, 0, 32, 0, .ro⟩
/-- R513. For a matched task, bit j set while tag TAG_BASE + 32 + j has a ready instance, for j ... -/
def SCHED_TASK_PEND_HI_PEND_HI : Field := ⟨0x50A0, 0, 32, 0, .ro⟩
/-- R514. First tag owned (R469) -/
def SCHED_TASK_MATCH_TAG_BASE : Field := ⟨0x5070, 16, 10, 0, .ro⟩
/-- R514. Tags owned, 1 to 64 -/
def SCHED_TASK_MATCH_TAG_CNT : Field := ⟨0x5070, 8, 7, 0, .ro⟩
/-- R514. Operand indices required -/
def SCHED_TASK_MATCH_OPMASK : Field := ⟨0x5070, 0, 8, 0, .ro⟩
/-- R515. Run bound in 10 ns units (R476) -/
def SCHED_TASK_TIME_TB : Field := ⟨0x5074, 16, 16, 0, .ro⟩
/-- R515. Response bound in 10 ns units -/
def SCHED_TASK_TIME_RB : Field := ⟨0x5074, 0, 16, 0, .ro⟩
/-- R516. Run time of the last item, 10 ns units, saturating -/
def SCHED_TASK_LAST_RUN : Field := ⟨0x5078, 16, 16, 0, .ro⟩
/-- R516. Response time of the last item, 10 ns units, saturating -/
def SCHED_TASK_LAST_RESP : Field := ⟨0x5078, 0, 16, 0, .ro⟩
/-- R517. Items dispatched; wraps -/
def SCHED_TASK_CNT_DISP : Field := ⟨0x507C, 16, 16, 0, .ro⟩
/-- R517. Items aborted; wraps -/
def SCHED_TASK_CNT_ABORT : Field := ⟨0x507C, 0, 16, 0, .ro⟩
/-- R518. Disable the task; readiness and, for a matched task, its operands cleared -/
def SCHED_TASK_CTRL_DISABLE : Field := ⟨0x5080, 1, 1, 0, .w1⟩
/-- R518. Enable the task with PEND empty -/
def SCHED_TASK_CTRL_ENABLE : Field := ⟨0x5080, 0, 1, 0, .w1⟩
/-- R519. Cause code (R477) -/
def SCHED_ABORT_LAST_CAUSE : Field := ⟨0x5084, 28, 4, 0, .ro⟩
/-- R519. Task of the aborted item -/
def SCHED_ABORT_LAST_TASK : Field := ⟨0x5084, 16, 9, 0, .ro⟩
/-- R519. Core that ran it -/
def SCHED_ABORT_LAST_UNIT : Field := ⟨0x5084, 0, 16, 0, .ro⟩
/-- R520. mepc of the last abort -/
def SCHED_ABORT_PC_PC : Field := ⟨0x5088, 0, 32, 0, .ro⟩
/-- R521. mtval of the last abort -/
def SCHED_ABORT_TVAL_TVAL : Field := ⟨0x508C, 0, 32, 0, .ro⟩
/-- R522. 1: trace written (R487) -/
def SCHED_TRACE_CTRL_EN : Field := ⟨0x5090, 31, 1, 0, .rw⟩
/-- R522. Write BUF entries at the next cycle boundary -/
def SCHED_TRACE_CTRL_SNAP : Field := ⟨0x5090, 30, 1, 0, .w1⟩
/-- R522. 1: ABORT entries written -/
def SCHED_TRACE_CTRL_T_ABORT : Field := ⟨0x5090, 2, 1, 1, .rw⟩
/-- R522. 1: BUF and MOVE entries written -/
def SCHED_TRACE_CTRL_T_BUF : Field := ⟨0x5090, 1, 1, 1, .rw⟩
/-- R522. 1: ITEM entries written -/
def SCHED_TRACE_CTRL_T_ITEM : Field := ⟨0x5090, 0, 1, 1, .rw⟩
/-- R523. Data-port address of the 256 KiB trace ring (R486) -/
def SCHED_TRACE_ADDR_ADDR : Field := ⟨0x5094, 0, 32, 0xC80000, .ro⟩
/-- R524. Dropped entries; wraps -/
def SCHED_TRACE_WR_DROP : Field := ⟨0x5098, 16, 16, 0, .rw⟩
/-- R524. The ring has wrapped since EN was set -/
def SCHED_TRACE_WR_WRAPPED : Field := ⟨0x5098, 15, 1, 0, .ro⟩
/-- R524. Index of the next entry written -/
def SCHED_TRACE_WR_IDX : Field := ⟨0x5098, 0, 14, 0, .ro⟩
/-- R525. Posts that reached an already ready task (R467); wraps -/
def SCHED_CNT_COAL_COUNT : Field := ⟨0x509C, 0, 32, 0, .rw⟩
/-- R561. 0x0A60 TIME; 0x0A70 ETH; 0x0A71 NETSV -/
def TIME_PAGE_ID_TYPE : Field := ⟨0x4000, 16, 16, 0x0A60, .ro⟩
/-- R561. Port number n for ETH; 0 otherwise -/
def TIME_PAGE_ID_INST : Field := ⟨0x4000, 8, 8, 0, .ro⟩
/-- R561. Block revision -/
def TIME_PAGE_ID_REV : Field := ⟨0x4000, 0, 8, 0x01, .ro⟩
/-- R561. 0x0A60 TIME; 0x0A70 ETH; 0x0A71 NETSV -/
def ETH_PAGE_ID_TYPE (n : Nat) : Field := ⟨0xA0000 + 0x1000 * n + 0x0, 16, 16, 0x0A70, .ro⟩
/-- R561. Port number n for ETH; 0 otherwise -/
def ETH_PAGE_ID_INST (n : Nat) : Field := ⟨0xA0000 + 0x1000 * n + 0x0, 8, 8, n, .ro⟩
/-- R561. Block revision -/
def ETH_PAGE_ID_REV (n : Nat) : Field := ⟨0xA0000 + 0x1000 * n + 0x0, 0, 8, 0x01, .ro⟩
/-- R561. 0x0A60 TIME; 0x0A70 ETH; 0x0A71 NETSV -/
def NETSV_PAGE_ID_TYPE : Field := ⟨0xA4000, 16, 16, 0x0A71, .ro⟩
/-- R561. Port number n for ETH; 0 otherwise -/
def NETSV_PAGE_ID_INST : Field := ⟨0xA4000, 8, 8, 0, .ro⟩
/-- R561. Block revision -/
def NETSV_PAGE_ID_REV : Field := ⟨0xA4000, 0, 8, 0x01, .ro⟩
/-- R562. Bit j enables an interrupt for bit j of TSTAT, PSTAT or NSTAT -/
def TIME_IRQ_EN_EN : Field := ⟨0x4010, 0, 6, 0, .rw⟩
/-- R562. Bit j enables an interrupt for bit j of TSTAT, PSTAT or NSTAT -/
def ETH_IRQ_EN_EN (n : Nat) : Field := ⟨0xA0000 + 0x1000 * n + 0x10, 0, 7, 0, .rw⟩
/-- R562. Bit j enables an interrupt for bit j of TSTAT, PSTAT or NSTAT -/
def NETSV_IRQ_EN_EN : Field := ⟨0xA4010, 0, 10, 0, .rw⟩
/-- R563. Bit j: status bit j set while EN bit j is set -/
def TIME_IRQ_STAT_PEND : Field := ⟨0x4014, 0, 6, 0, .rc⟩
/-- R563. Bit j: status bit j set while EN bit j is set -/
def ETH_IRQ_STAT_PEND (n : Nat) : Field := ⟨0xA0000 + 0x1000 * n + 0x14, 0, 7, 0, .rc⟩
/-- R563. Bit j: status bit j set while EN bit j is set -/
def NETSV_IRQ_STAT_PEND : Field := ⟨0xA4014, 0, 10, 0, .rc⟩
/-- R564. Writing 1 locks the page's RWL fields; writing 0 is ignored; cleared only by the ... -/
def TIME_LOCK_LOCK : Field := ⟨0x4018, 0, 1, 0, .rw⟩
/-- R564. Writing 1 locks the page's RWL fields; writing 0 is ignored; cleared only by the ... -/
def ETH_LOCK_LOCK (n : Nat) : Field := ⟨0xA0000 + 0x1000 * n + 0x18, 0, 1, 0, .rw⟩
/-- R564. Writing 1 locks the page's RWL fields; writing 0 is ignored; cleared only by the ... -/
def NETSV_LOCK_LOCK : Field := ⟨0xA4018, 0, 1, 0, .rw⟩
/-- R565. 0: running; 0x0000_0001: ETH port fenced; 0xFFFF_FFFF: the page's glade fenced (R23) -/
def TIME_FENCE_FENCE : Field := ⟨0x401C, 0, 32, 0, .ro⟩
/-- R565. 0: running; 0x0000_0001: ETH port fenced; 0xFFFF_FFFF: the page's glade fenced (R23) -/
def ETH_FENCE_FENCE (n : Nat) : Field := ⟨0xA0000 + 0x1000 * n + 0x1C, 0, 32, 0, .ro⟩
/-- R565. 0: running; 0x0000_0001: ETH port fenced; 0xFFFF_FFFF: the page's glade fenced (R23) -/
def NETSV_FENCE_FENCE : Field := ⟨0xA401C, 0, 32, 0, .ro⟩
/-- R566. Compare channels -/
def TIME_CAP_TCMP : Field := ⟨0x4004, 16, 4, 4, .ro⟩
/-- R566. PPS output present -/
def TIME_CAP_PPS_OUT : Field := ⟨0x4004, 1, 1, 1, .ro⟩
/-- R566. PPS input present -/
def TIME_CAP_PPS_IN : Field := ⟨0x4004, 0, 1, 1, .ro⟩
/-- R567. Load SET_HI and SET_LO (R528) -/
def TIME_CTRL_SET : Field := ⟨0x4008, 0, 1, 0, .w1⟩
/-- R568. Time set or stepped since reset -/
def TIME_STATUS_VALID : Field := ⟨0x400C, 4, 1, 0, .ro⟩
/-- R568. Step withheld in RUN (R535) -/
def TIME_STATUS_STEP_HELD : Field := ⟨0x400C, 3, 1, 0, .ro⟩
/-- R568. No offset for HOLD_TMO (R536) -/
def TIME_STATUS_HOLDOVER : Field := ⟨0x400C, 2, 1, 0, .ro⟩
/-- R568. Servo locked (R536) -/
def TIME_STATUS_LOCKED : Field := ⟨0x400C, 1, 1, 0, .ro⟩
/-- R568. A write to a locked field was ignored -/
def TIME_STATUS_LOCKV : Field := ⟨0x400C, 0, 1, 0, .rc⟩
/-- R569. ns bits [31:0], ns bits [63:32], and fraction, respectively -/
def TIME_NOW_LO_VAL : Field := ⟨0x4040, 0, 32, 0, .ro⟩
/-- R569. ns bits [31:0], ns bits [63:32], and fraction, respectively -/
def TIME_NOW_HI_VAL : Field := ⟨0x4044, 0, 32, 0, .ro⟩
/-- R569. ns bits [31:0], ns bits [63:32], and fraction, respectively -/
def TIME_NOW_FR_VAL : Field := ⟨0x4048, 0, 32, 0, .ro⟩
/-- R570. ns bits [31:0] and [63:32] loaded by SET -/
def TIME_SET_LO_VAL : Field := ⟨0x404C, 0, 32, 0, .rw⟩
/-- R570. ns bits [31:0] and [63:32] loaded by SET -/
def TIME_SET_HI_VAL : Field := ⟨0x4050, 0, 32, 0, .rw⟩
/-- R571. TIME_INC fraction in 2^−32 ns -/
def TIME_INC_FR_FR : Field := ⟨0x4054, 0, 32, 0, .rw⟩
/-- R572. TIME_INC whole ns -/
def TIME_INC_NS_NS : Field := ⟨0x4058, 0, 8, 2, .rw⟩
/-- R573. Seconds without an offset before holdover -/
def TIME_SRV_CFG_HOLD_TMO : Field := ⟨0x405C, 24, 8, 3, .rw⟩
/-- R573. Lock threshold in ns -/
def TIME_SRV_CFG_LOCK_THR : Field := ⟨0x405C, 16, 8, 100, .rw⟩
/-- R573. 1: steps applied in RUN (R535) -/
def TIME_SRV_CFG_STEP_RUN : Field := ⟨0x405C, 4, 1, 0, .rwt⟩
/-- R573. Offset source (R533) -/
def TIME_SRV_CFG_SRC : Field := ⟨0x405C, 0, 2, 0, .rw⟩
/-- R574. ppb per ns, unsigned 4.12; 0.7 after reset -/
def TIME_SRV_GAIN_KP : Field := ⟨0x4060, 16, 16, 2867, .rw⟩
/-- R574. ppb per ns per offset, unsigned 0.16; 0.3 after reset -/
def TIME_SRV_GAIN_KI : Field := ⟨0x4060, 0, 16, 19661, .rw⟩
/-- R575. Step threshold in ns (R534) -/
def TIME_STEP_THR_THR : Field := ⟨0x4064, 0, 32, 1000, .rw⟩
/-- R576. Last offset in ns, signed, saturating -/
def TIME_OFFSET_OFF : Field := ⟨0x4068, 0, 32, 0, .ro⟩
/-- R577. Present correction, signed, in 0.001 ppb -/
def TIME_RATE_RATE : Field := ⟨0x406C, 0, 32, 0, .ro⟩
/-- R578. Steps applied; wraps -/
def TIME_TSTAT_STEPS : Field := ⟨0x4070, 16, 16, 0, .rw⟩
/-- R578. A compare channel fired -/
def TIME_TSTAT_FIRE : Field := ⟨0x4070, 5, 1, 0, .rc⟩
/-- R578. Rate limited (R534) -/
def TIME_TSTAT_CLAMP : Field := ⟨0x4070, 4, 1, 0, .rc⟩
/-- R578. No PPS_IN edge for 1.1 s (R537) -/
def TIME_TSTAT_PPS_MISS : Field := ⟨0x4070, 3, 1, 0, .rc⟩
/-- R578. Holdover entered -/
def TIME_TSTAT_HOLD : Field := ⟨0x4070, 2, 1, 0, .rc⟩
/-- R578. A compare fired late (R530) -/
def TIME_TSTAT_LATE : Field := ⟨0x4070, 1, 1, 0, .rc⟩
/-- R578. Step applied -/
def TIME_TSTAT_STEP : Field := ⟨0x4070, 0, 1, 0, .rc⟩
/-- R579. 1: PPS_OUT driven (R538) -/
def TIME_PPS_CFG_OUT_EN : Field := ⟨0x4074, 31, 1, 0, .rw⟩
/-- R579. 1: PPS_IN edges captured (R537) -/
def TIME_PPS_CFG_IN_EN : Field := ⟨0x4074, 30, 1, 0, .rw⟩
/-- R579. Pulse width in ms -/
def TIME_PPS_CFG_OUT_W : Field := ⟨0x4074, 16, 8, 100, .rw⟩
/-- R579. PPS_IN path delay in ns -/
def TIME_PPS_CFG_IN_DLY : Field := ⟨0x4074, 0, 16, 0, .rw⟩
/-- R580. Last accepted PPS_IN edge, low 32 ns bits (R537) -/
def TIME_PPS_TS_TS : Field := ⟨0x4078, 0, 32, 0, .ro⟩
/-- R581. Target, low 32 ns bits; a write arms (R532) -/
def TIME_TCMP_TGT_TGT (c : Nat) : Field := ⟨0x4000 + 0x80 + 8 * c, 0, 32, 0, .rw⟩
/-- R582. Channel armed -/
def TIME_TCMP_CFG_ARMED (c : Nat) : Field := ⟨0x4000 + 0x84 + 8 * c, 31, 1, 0, .ro⟩
/-- R582. Last firing late -/
def TIME_TCMP_CFG_LATE (c : Nat) : Field := ⟨0x4000 + 0x84 + 8 * c, 30, 1, 0, .rc⟩
/-- R582. 1: post FLAG on firing -/
def TIME_TCMP_CFG_POST (c : Nat) : Field := ⟨0x4000 + 0x84 + 8 * c, 9, 1, 0, .rw⟩
/-- R582. 1: TGT writes arm -/
def TIME_TCMP_CFG_EN (c : Nat) : Field := ⟨0x4000 + 0x84 + 8 * c, 8, 1, 0, .rw⟩
/-- R582. Event flag posted -/
def TIME_TCMP_CFG_FLAG (c : Nat) : Field := ⟨0x4000 + 0x84 + 8 * c, 0, 5, 0, .rw⟩
/-- R583. 1000BASE-X supported -/
def ETH_CAP_RATE1G (n : Nat) : Field := ⟨0xA0000 + 0x1000 * n + 0x4, 1, 1, 1, .ro⟩
/-- R583. 1 on ports 0 and 2 -/
def ETH_CAP_PAIR_LEAD (n : Nat) : Field := ⟨0xA0000 + 0x1000 * n + 0x4, 0, 1, 0, .ro⟩
/-- R584. Restart clause 37 auto-negotiation -/
def ETH_CTRL_AN_RESTART (n : Nat) : Field := ⟨0xA0000 + 0x1000 * n + 0x8, 1, 1, 0, .w1⟩
/-- R584. 1: port enabled; the lane's user (R287) -/
def ETH_CTRL_EN (n : Nat) : Field := ⟨0xA0000 + 0x1000 * n + 0x8, 0, 1, 0, .rw⟩
/-- R585. Port in an active pair -/
def ETH_STATUS_PAIRED (n : Nat) : Field := ⟨0xA0000 + 0x1000 * n + 0xC, 3, 1, 0, .ro⟩
/-- R585. Auto-negotiation complete -/
def ETH_STATUS_AN_DONE (n : Nat) : Field := ⟨0xA0000 + 0x1000 * n + 0xC, 2, 1, 0, .ro⟩
/-- R585. Link up -/
def ETH_STATUS_LINK (n : Nat) : Field := ⟨0xA0000 + 0x1000 * n + 0xC, 1, 1, 0, .ro⟩
/-- R585. A write to a locked field was ignored -/
def ETH_STATUS_LOCKV (n : Nat) : Field := ⟨0xA0000 + 0x1000 * n + 0xC, 0, 1, 0, .rc⟩
/-- R586. 1: published frames tagged -/
def ETH_CFG_PUB_VLAN (n : Nat) : Field := ⟨0xA0000 + 0x1000 * n + 0x40, 31, 1, 0, .rwl⟩
/-- R586. Priority of the tag -/
def ETH_CFG_PUB_PCP (n : Nat) : Field := ⟨0xA0000 + 0x1000 * n + 0x40, 28, 3, 4, .rwl⟩
/-- R586. VLAN identifier -/
def ETH_CFG_PUB_VID (n : Nat) : Field := ⟨0xA0000 + 0x1000 * n + 0x40, 16, 12, 0, .rwl⟩
/-- R586. 0: none; 1: PRP; 2: HSR (R543) -/
def ETH_CFG_PAIR (n : Nat) : Field := ⟨0xA0000 + 0x1000 * n + 0x40, 4, 2, 0, .rwl⟩
/-- R586. 1: clause 37 auto-negotiation (R540) -/
def ETH_CFG_AN_EN (n : Nat) : Field := ⟨0xA0000 + 0x1000 * n + 0x40, 0, 1, 1, .rwl⟩
/-- R587. Source address: MAC_LO holds octets 2 to 5, octet 5 in [7:0]; MAC_HI [15:0] holds ... -/
def ETH_MAC_LO_MAC (n : Nat) : Field := ⟨0xA0000 + 0x1000 * n + 0x44, 0, 32, 0, .rwl⟩
/-- R587. Source address: MAC_LO holds octets 2 to 5, octet 5 in [7:0]; MAC_HI [15:0] holds ... -/
def ETH_MAC_HI_MAC (n : Nat) : Field := ⟨0xA0000 + 0x1000 * n + 0x48, 0, 16, 0, .rwl⟩
/-- R588. Frame seen on one LAN only (R544) -/
def ETH_PSTAT_UNPAIRED (n : Nat) : Field := ⟨0xA0000 + 0x1000 * n + 0x4C, 6, 1, 0, .rc⟩
/-- R588. PRP trailer names the other LAN -/
def ETH_PSTAT_WRONG_LAN (n : Nat) : Field := ⟨0xA0000 + 0x1000 * n + 0x4C, 5, 1, 0, .rc⟩
/-- R588. Frame of another Ethertype dropped (R539) -/
def ETH_PSTAT_TYPE_DROP (n : Nat) : Field := ⟨0xA0000 + 0x1000 * n + 0x4C, 4, 1, 0, .rc⟩
/-- R588. Frame outside 64 to 1,522 bytes -/
def ETH_PSTAT_SIZE (n : Nat) : Field := ⟨0xA0000 + 0x1000 * n + 0x4C, 3, 1, 0, .rc⟩
/-- R588. FCS error -/
def ETH_PSTAT_FCS (n : Nat) : Field := ⟨0xA0000 + 0x1000 * n + 0x4C, 2, 1, 0, .rc⟩
/-- R588. Auto-negotiation failed (R540) -/
def ETH_PSTAT_AN_FAIL (n : Nat) : Field := ⟨0xA0000 + 0x1000 * n + 0x4C, 1, 1, 0, .rc⟩
/-- R588. Link went down (R541) -/
def ETH_PSTAT_LINK_DN (n : Nat) : Field := ⟨0xA0000 + 0x1000 * n + 0x4C, 0, 1, 0, .rc⟩
/-- R589. Frames accepted; wraps -/
def ETH_RX_CNT_FRAMES (n : Nat) : Field := ⟨0xA0000 + 0x1000 * n + 0x50, 0, 32, 0, .rw⟩
/-- R590. FCS errors; wraps -/
def ETH_ERR_CNT_FCS (n : Nat) : Field := ⟨0xA0000 + 0x1000 * n + 0x54, 16, 16, 0, .rw⟩
/-- R590. Frames dropped by type or size; wraps -/
def ETH_ERR_CNT_DROP (n : Nat) : Field := ⟨0xA0000 + 0x1000 * n + 0x54, 0, 16, 0, .rw⟩
/-- R591. Duplicates discarded; wraps -/
def ETH_PAIR_CNT_DUP (n : Nat) : Field := ⟨0xA0000 + 0x1000 * n + 0x58, 16, 16, 0, .rw⟩
/-- R591. Frames seen on one LAN only; wraps -/
def ETH_PAIR_CNT_UNPAIRED (n : Nat) : Field := ⟨0xA0000 + 0x1000 * n + 0x58, 0, 16, 0, .rw⟩
/-- R592. Start a one-byte read (R542) -/
def ETH_SFP_CMD_GO (n : Nat) : Field := ⟨0xA0000 + 0x1000 * n + 0x5C, 31, 1, 0, .w1⟩
/-- R592. Read in progress -/
def ETH_SFP_CMD_BUSY (n : Nat) : Field := ⟨0xA0000 + 0x1000 * n + 0x5C, 30, 1, 0, .ro⟩
/-- R592. 0: OK; 1: no acknowledge; 2 to 3 reserved -/
def ETH_SFP_CMD_RESULT (n : Nat) : Field := ⟨0xA0000 + 0x1000 * n + 0x5C, 28, 2, 0, .ro⟩
/-- R592. 0: address 0xA0; 1: address 0xA2 -/
def ETH_SFP_CMD_DEV (n : Nat) : Field := ⟨0xA0000 + 0x1000 * n + 0x5C, 24, 1, 0, .rw⟩
/-- R592. Byte address -/
def ETH_SFP_CMD_ADDR (n : Nat) : Field := ⟨0xA0000 + 0x1000 * n + 0x5C, 8, 8, 0, .rw⟩
/-- R592. Byte read -/
def ETH_SFP_CMD_DATA (n : Nat) : Field := ⟨0xA0000 + 0x1000 * n + 0x5C, 0, 8, 0, .ro⟩
/-- R593. Sampled-value streams -/
def NETSV_CAP_STREAMS : Field := ⟨0xA4004, 25, 7, 64, .ro⟩
/-- R593. GOOSE subscriptions -/
def NETSV_CAP_GSUBS : Field := ⟨0xA4004, 17, 8, 128, .ro⟩
/-- R593. Sampled-value channels -/
def NETSV_CAP_CHANNELS : Field := ⟨0xA4004, 8, 9, 256, .ro⟩
/-- R593. GOOSE publications -/
def NETSV_CAP_GPUBS : Field := ⟨0xA4004, 4, 3, 4, .ro⟩
/-- R594. 1: subscriptions evaluated -/
def NETSV_CTRL_GS_EN : Field := ⟨0xA4008, 2, 1, 0, .rw⟩
/-- R594. 1: publications sent -/
def NETSV_CTRL_GP_EN : Field := ⟨0xA4008, 1, 1, 0, .rw⟩
/-- R594. 1: subscriber runs -/
def NETSV_CTRL_SV_EN : Field := ⟨0xA4008, 0, 1, 0, .rw⟩
/-- R595. A PTP port is in SLAVE -/
def NETSV_STATUS_PTP_SLAVE : Field := ⟨0xA400C, 2, 1, 0, .ro⟩
/-- R595. Publication 0's TRIP is TRUE (R551) -/
def NETSV_STATUS_TRIP : Field := ⟨0xA400C, 1, 1, 0, .ro⟩
/-- R595. A write to a locked field was ignored -/
def NETSV_STATUS_LOCKV : Field := ⟨0xA400C, 0, 1, 0, .rc⟩
/-- R596. 1: simulated frames accepted (R545, R554) -/
def NETSV_SV_CFG_SIM_OK : Field := ⟨0xA4040, 8, 1, 0, .rwl⟩
/-- R596. Channel routed to ARM.I_ARM (R548) -/
def NETSV_SV_CFG_ARM_CH : Field := ⟨0xA4040, 0, 8, 0, .rwl⟩
/-- R597. Bit j enables stream j (LO) or stream 32 + j (HI) -/
def NETSV_SVS_EN_LO_EN : Field := ⟨0xA4044, 0, 32, 0, .rw⟩
/-- R597. Bit j enables stream j (LO) or stream 32 + j (HI) -/
def NETSV_SVS_EN_HI_EN : Field := ⟨0xA4048, 0, 32, 0, .rw⟩
/-- R598. Stream lost (R549) -/
def NETSV_SVS_INFO_LOST : Field := ⟨0xA404C, 31, 1, 0, .ro⟩
/-- R598. Critical stream -/
def NETSV_SVS_INFO_CRIT : Field := ⟨0xA404C, 30, 1, 0, .ro⟩
/-- R598. Last smpSynch -/
def NETSV_SVS_INFO_SYNCH : Field := ⟨0xA404C, 28, 2, 0, .ro⟩
/-- R598. Last smpCnt accepted -/
def NETSV_SVS_INFO_SMPCNT : Field := ⟨0xA404C, 12, 16, 0, .ro⟩
/-- R598. Stream number -/
def NETSV_SVS_INFO_IDX : Field := ⟨0xA404C, 0, 6, 0, .rw⟩
/-- R599. Missing samples of the latched stream; wraps -/
def NETSV_SVS_CNT_MISS : Field := ⟨0xA4050, 16, 16, 0, .ro⟩
/-- R599. ASDUs not delivered for quality or synch; wraps -/
def NETSV_SVS_CNT_QBAD : Field := ⟨0xA4050, 0, 16, 0, .ro⟩
/-- R600. No value yet, or stream lost -/
def NETSV_SVC_INFO_STALE : Field := ⟨0xA4054, 31, 1, 0, .ro⟩
/-- R600. Last ASDU not delivered (R547) -/
def NETSV_SVC_INFO_QBAD : Field := ⟨0xA4054, 30, 1, 0, .ro⟩
/-- R600. Source stream -/
def NETSV_SVC_INFO_STREAM : Field := ⟨0xA4054, 16, 6, 0, .ro⟩
/-- R600. Source entry -/
def NETSV_SVC_INFO_ENTRY : Field := ⟨0xA4054, 8, 8, 0, .ro⟩
/-- R600. Channel number -/
def NETSV_SVC_INFO_IDX : Field := ⟨0xA4054, 0, 8, 0, .rw⟩
/-- R601. Newest value of the latched channel, Q16.16 -/
def NETSV_SVC_VAL_VAL : Field := ⟨0xA4058, 0, 32, 0, .ro⟩
/-- R602. Heartbeat interval in ms (R552) -/
def NETSV_GP_CFG_MAX_T : Field := ⟨0xA405C, 16, 16, 1000, .rwt⟩
/-- R602. Bit k: publication k sent -/
def NETSV_GP_CFG_PUB_EN : Field := ⟨0xA405C, 12, 4, 0, .rwt⟩
/-- R602. First repeat in 0.1 ms -/
def NETSV_GP_CFG_MIN_T : Field := ⟨0xA405C, 0, 12, 10, .rwt⟩
/-- R603. Byte k − 1: the 8 BOOLEAN members of publication k (R550) -/
def NETSV_GP_DATA_DATA : Field := ⟨0xA4060, 0, 24, 0, .rw⟩
/-- R604. Bit j enables subscription 32m + j -/
def NETSV_GS_EN_EN (m : Nat) : Field := ⟨0xA4000 + 0x64 + 4 * m, 0, 32, 0, .rw⟩
/-- R605. Subscription lost (R554) -/
def NETSV_GS_INFO_LOST : Field := ⟨0xA4074, 31, 1, 0, .ro⟩
/-- R605. Member value last accepted -/
def NETSV_GS_INFO_VAL : Field := ⟨0xA4074, 30, 1, 0, .ro⟩
/-- R605. Last frame ignored for confRev or member type -/
def NETSV_GS_INFO_CONFREV : Field := ⟨0xA4074, 29, 1, 0, .ro⟩
/-- R605. Last accepted frame had test TRUE -/
def NETSV_GS_INFO_TEST : Field := ⟨0xA4074, 28, 1, 0, .ro⟩
/-- R605. stNum last accepted, low 16 bits -/
def NETSV_GS_INFO_STNUM : Field := ⟨0xA4074, 8, 16, 0, .ro⟩
/-- R605. Subscription number -/
def NETSV_GS_INFO_IDX : Field := ⟨0xA4074, 0, 7, 0, .rw⟩
/-- R606. 1: PTP engine runs -/
def NETSV_PTP_CFG_EN : Field := ⟨0xA4078, 31, 1, 0, .rw⟩
/-- R606. 1: boundary clock (R558) -/
def NETSV_PTP_CFG_BC : Field := ⟨0xA4078, 30, 1, 0, .rwl⟩
/-- R606. 1: no port enters MASTER -/
def NETSV_PTP_CFG_SLAVE_ONLY : Field := ⟨0xA4078, 29, 1, 1, .rwl⟩
/-- R606. First PTP port -/
def NETSV_PTP_CFG_PORT_A : Field := ⟨0xA4078, 26, 2, 0, .rwl⟩
/-- R606. Second PTP port when BC = 1 -/
def NETSV_PTP_CFG_PORT_B : Field := ⟨0xA4078, 24, 2, 1, .rwl⟩
/-- R606. domainNumber -/
def NETSV_PTP_CFG_DOMAIN : Field := ⟨0xA4078, 16, 8, 0, .rwl⟩
/-- R606. priority1 -/
def NETSV_PTP_CFG_PRIO1 : Field := ⟨0xA4078, 8, 8, 128, .rwl⟩
/-- R606. priority2 -/
def NETSV_PTP_CFG_PRIO2 : Field := ⟨0xA4078, 0, 8, 128, .rwl⟩
/-- R607. State of PORT_A -/
def NETSV_PTP_STAT_STATE_A : Field := ⟨0xA407C, 28, 4, 0, .ro⟩
/-- R607. State of PORT_B; 0 when BC = 0 -/
def NETSV_PTP_STAT_STATE_B : Field := ⟨0xA407C, 24, 4, 0, .ro⟩
/-- R607. currentUtcOffset in s, signed (R557) -/
def NETSV_PTP_STAT_UTC_OFS : Field := ⟨0xA407C, 0, 16, 0, .ro⟩
/-- R608. meanLinkDelay of the slave port, unsigned 28.4 ns -/
def NETSV_PTP_MPD_MPD : Field := ⟨0xA4080, 0, 32, 0, .ro⟩
/-- R609. PTP parent changed (R558) -/
def NETSV_NSTAT_PTP_PARENT : Field := ⟨0xA4084, 9, 1, 0, .rc⟩
/-- R609. A PTP port went FAULTY -/
def NETSV_NSTAT_PTP_FAULT : Field := ⟨0xA4084, 8, 1, 0, .rc⟩
/-- R609. TRIP published TRUE (R553) -/
def NETSV_NSTAT_TRIP_PUB : Field := ⟨0xA4084, 7, 1, 0, .rc⟩
/-- R609. Subscribed trip received (R555) -/
def NETSV_NSTAT_GS_TRIP : Field := ⟨0xA4084, 6, 1, 0, .rc⟩
/-- R609. GOOSE frame ignored for confRev or type -/
def NETSV_NSTAT_GS_CONFREV : Field := ⟨0xA4084, 5, 1, 0, .rc⟩
/-- R609. Subscription lost -/
def NETSV_NSTAT_GS_LOST : Field := ⟨0xA4084, 4, 1, 0, .rc⟩
/-- R609. smpSynch below requirement (R549) -/
def NETSV_NSTAT_SV_SYNCH : Field := ⟨0xA4084, 3, 1, 0, .rc⟩
/-- R609. ASDU not delivered for quality (R547) -/
def NETSV_NSTAT_SV_QBAD : Field := ⟨0xA4084, 2, 1, 0, .rc⟩
/-- R609. Samples missing -/
def NETSV_NSTAT_SV_MISS : Field := ⟨0xA4084, 1, 1, 0, .rc⟩
/-- R609. Stream lost -/
def NETSV_NSTAT_SV_LOST : Field := ⟨0xA4084, 0, 1, 0, .rc⟩
/-- R651. 0x0A80 CANOPY; 0x0A81 AMBER -/
def CANOPY_PAGE_ID_TYPE (n : Nat) : Field := ⟨0xB0000 + 0x1000 * n + 0x0, 16, 16, 0x0A80, .ro⟩
/-- R651. Port n for CANOPY; 0 for AMBER -/
def CANOPY_PAGE_ID_INST (n : Nat) : Field := ⟨0xB0000 + 0x1000 * n + 0x0, 8, 8, n, .ro⟩
/-- R651. Block revision -/
def CANOPY_PAGE_ID_REV (n : Nat) : Field := ⟨0xB0000 + 0x1000 * n + 0x0, 0, 8, 0x01, .ro⟩
/-- R651. 0x0A80 CANOPY; 0x0A81 AMBER -/
def AMBER_PAGE_ID_TYPE : Field := ⟨0xB4000, 16, 16, 0x0A81, .ro⟩
/-- R651. Port n for CANOPY; 0 for AMBER -/
def AMBER_PAGE_ID_INST : Field := ⟨0xB4000, 8, 8, 0, .ro⟩
/-- R651. Block revision -/
def AMBER_PAGE_ID_REV : Field := ⟨0xB4000, 0, 8, 0x01, .ro⟩
/-- R652. Bit j enables an interrupt for bit j of PSTAT or ASTAT -/
def CANOPY_IRQ_EN_EN (n : Nat) : Field := ⟨0xB0000 + 0x1000 * n + 0x10, 0, 12, 0, .rw⟩
/-- R652. Bit j enables an interrupt for bit j of PSTAT or ASTAT -/
def AMBER_IRQ_EN_EN : Field := ⟨0xB4010, 0, 11, 0, .rw⟩
/-- R653. Bit j: status bit j set while EN bit j is set -/
def CANOPY_IRQ_STAT_PEND (n : Nat) : Field := ⟨0xB0000 + 0x1000 * n + 0x14, 0, 12, 0, .rc⟩
/-- R653. Bit j: status bit j set while EN bit j is set -/
def AMBER_IRQ_STAT_PEND : Field := ⟨0xB4014, 0, 11, 0, .rc⟩
/-- R654. Writing 1 locks the page's RWL fields; writing 0 is ignored; cleared only by the ... -/
def CANOPY_LOCK_LOCK (n : Nat) : Field := ⟨0xB0000 + 0x1000 * n + 0x18, 0, 1, 0, .rw⟩
/-- R654. Writing 1 locks the page's RWL fields; writing 0 is ignored; cleared only by the ... -/
def AMBER_LOCK_LOCK : Field := ⟨0xB4018, 0, 1, 0, .rw⟩
/-- R655. 0: running; 0x0000_0001: port or checkpoint engine (unit 0x0620) fenced; 0xFFFF_FFFF: ... -/
def CANOPY_FENCE_FENCE (n : Nat) : Field := ⟨0xB0000 + 0x1000 * n + 0x1C, 0, 32, 0, .ro⟩
/-- R655. 0: running; 0x0000_0001: port or checkpoint engine (unit 0x0620) fenced; 0xFFFF_FFFF: ... -/
def AMBER_FENCE_FENCE : Field := ⟨0xB401C, 0, 32, 0, .ro⟩
/-- R656. Sessions -/
def CANOPY_CAP_SESSIONS (n : Nat) : Field := ⟨0xB0000 + 0x1000 * n + 0x4, 16, 9, 256, .ro⟩
/-- R656. Outstanding messages per session -/
def CANOPY_CAP_OUTST (n : Nat) : Field := ⟨0xB0000 + 0x1000 * n + 0x4, 12, 4, 8, .ro⟩
/-- R656. Lanes per port -/
def CANOPY_CAP_LANES (n : Nat) : Field := ⟨0xB0000 + 0x1000 * n + 0x4, 8, 4, 4, .ro⟩
/-- R656. Time exchange supported -/
def CANOPY_CAP_TIME (n : Nat) : Field := ⟨0xB0000 + 0x1000 * n + 0x4, 0, 1, 1, .ro⟩
/-- R657. 1: port enabled (R610, R611) -/
def CANOPY_CTRL_EN (n : Nat) : Field := ⟨0xB0000 + 0x1000 * n + 0x8, 0, 1, 0, .rw⟩
/-- R658. Port is the pair's checkpoint port -/
def CANOPY_STATUS_AMBER (n : Nat) : Field := ⟨0xB0000 + 0x1000 * n + 0xC, 2, 1, 0, .ro⟩
/-- R658. Port up (R610) -/
def CANOPY_STATUS_UP (n : Nat) : Field := ⟨0xB0000 + 0x1000 * n + 0xC, 1, 1, 0, .ro⟩
/-- R658. A write to a locked field was ignored -/
def CANOPY_STATUS_LOCKV (n : Nat) : Field := ⟨0xB0000 + 0x1000 * n + 0xC, 0, 1, 0, .rc⟩
/-- R659. TREQ interval in µs, 16 to 65,535 -/
def CANOPY_CFG_TIME_PER (n : Nat) : Field := ⟨0xB0000 + 0x1000 * n + 0x40, 16, 16, 125, .rwl⟩
/-- R659. 1: answer TREQ (R623) -/
def CANOPY_CFG_TDN (n : Nat) : Field := ⟨0xB0000 + 0x1000 * n + 0x40, 1, 1, 0, .rwl⟩
/-- R659. 1: send TREQ; the servo's Canopy source -/
def CANOPY_CFG_TUP (n : Nat) : Field := ⟨0xB0000 + 0x1000 * n + 0x40, 0, 1, 0, .rwl⟩
/-- R660. Peer known from markers -/
def CANOPY_PEER_VALID (n : Nat) : Field := ⟨0xB0000 + 0x1000 * n + 0x44, 31, 1, 0, .ro⟩
/-- R660. Peer's port -/
def CANOPY_PEER_PORT (n : Nat) : Field := ⟨0xB0000 + 0x1000 * n + 0x44, 12, 2, 0, .ro⟩
/-- R660. Peer's device identity -/
def CANOPY_PEER_DEV (n : Nat) : Field := ⟨0xB0000 + 0x1000 * n + 0x44, 0, 10, 0, .ro⟩
/-- R661. DATA refused for full RX slots (R621) -/
def CANOPY_PSTAT_RXFULL (n : Nat) : Field := ⟨0xB0000 + 0x1000 * n + 0x48, 11, 1, 0, .rc⟩
/-- R661. ACK STANDBY received (R620) -/
def CANOPY_PSTAT_PEER_STBY (n : Nat) : Field := ⟨0xB0000 + 0x1000 * n + 0x48, 10, 1, 0, .rc⟩
/-- R661. Message abandoned -/
def CANOPY_PSTAT_ABANDON (n : Nat) : Field := ⟨0xB0000 + 0x1000 * n + 0x48, 9, 1, 0, .rc⟩
/-- R661. Send refused (R619) -/
def CANOPY_PSTAT_BUSY (n : Nat) : Field := ⟨0xB0000 + 0x1000 * n + 0x48, 8, 1, 0, .rc⟩
/-- R661. DATA delivered after its deadline (R622) -/
def CANOPY_PSTAT_LATE (n : Nat) : Field := ⟨0xB0000 + 0x1000 * n + 0x48, 7, 1, 0, .rc⟩
/-- R661. DATA without a matching session -/
def CANOPY_PSTAT_ORPHAN (n : Nat) : Field := ⟨0xB0000 + 0x1000 * n + 0x48, 6, 1, 0, .rc⟩
/-- R661. Peer reports own identity -/
def CANOPY_PSTAT_DUPID (n : Nat) : Field := ⟨0xB0000 + 0x1000 * n + 0x48, 5, 1, 0, .rc⟩
/-- R661. TRESP not valid -/
def CANOPY_PSTAT_T_NV (n : Nat) : Field := ⟨0xB0000 + 0x1000 * n + 0x48, 4, 1, 0, .rc⟩
/-- R661. Message dropped at HOPS 0 -/
def CANOPY_PSTAT_HOPS0 (n : Nat) : Field := ⟨0xB0000 + 0x1000 * n + 0x48, 3, 1, 0, .rc⟩
/-- R661. Message dropped without route -/
def CANOPY_PSTAT_NOROUTE (n : Nat) : Field := ⟨0xB0000 + 0x1000 * n + 0x48, 2, 1, 0, .rc⟩
/-- R661. Message check failed -/
def CANOPY_PSTAT_MCRC (n : Nat) : Field := ⟨0xB0000 + 0x1000 * n + 0x48, 1, 1, 0, .rc⟩
/-- R661. Port went down -/
def CANOPY_PSTAT_DOWN (n : Nat) : Field := ⟨0xB0000 + 0x1000 * n + 0x48, 0, 1, 0, .rc⟩
/-- R662. Messages sent or received, forwarded ones included; wraps -/
def CANOPY_TX_CNT_COUNT (n : Nat) : Field := ⟨0xB0000 + 0x1000 * n + 0x4C, 0, 32, 0, .rw⟩
/-- R662. Messages sent or received, forwarded ones included; wraps -/
def CANOPY_RX_CNT_COUNT (n : Nat) : Field := ⟨0xB0000 + 0x1000 * n + 0x50, 0, 32, 0, .rw⟩
/-- R663. Message check failures; wraps -/
def CANOPY_ERR_CNT_MCRC (n : Nat) : Field := ⟨0xB0000 + 0x1000 * n + 0x54, 16, 16, 0, .rw⟩
/-- R663. Messages dropped by route, hops or type; wraps -/
def CANOPY_ERR_CNT_DROP (n : Nat) : Field := ⟨0xB0000 + 0x1000 * n + 0x54, 0, 16, 0, .rw⟩
/-- R664. Link delay of the last exchange, in 0.5 ns (R623) -/
def CANOPY_TDLY_DLY (n : Nat) : Field := ⟨0xB0000 + 0x1000 * n + 0x58, 0, 32, 0, .ro⟩
/-- R665. DEVID written since reset -/
def CANOPY_DEVID_SET : Field := ⟨0xB0100, 31, 1, 0, .ro⟩
/-- R665. Device identity (R611) -/
def CANOPY_DEVID_ID : Field := ⟨0xB0100, 0, 10, 0, .wo⟩
/-- R666. Session number -/
def CANOPY_SESS_IDX_IDX : Field := ⟨0xB0104, 0, 8, 0, .rw⟩
/-- R667. Release the oldest delivered RX slot (R621) -/
def CANOPY_SESS_CTRL_RX_REL : Field := ⟨0xB0108, 2, 1, 0, .w1⟩
/-- R667. Disable; outstanding messages abandoned -/
def CANOPY_SESS_CTRL_DISABLE : Field := ⟨0xB0108, 1, 1, 0, .w1⟩
/-- R667. Enable with SEQ 0 -/
def CANOPY_SESS_CTRL_ENABLE : Field := ⟨0xB0108, 0, 1, 0, .w1⟩
/-- R668. Session enabled -/
def CANOPY_SESS_INFO_EN : Field := ⟨0xB010C, 31, 1, 0, .ro⟩
/-- R668. Peer answered STANDBY (R620) -/
def CANOPY_SESS_INFO_PEER_STBY : Field := ⟨0xB010C, 30, 1, 0, .ro⟩
/-- R668. 0: BUFFER; 1: OPERAND -/
def CANOPY_SESS_INFO_MODE : Field := ⟨0xB010C, 29, 1, 0, .ro⟩
/-- R668. Unacknowledged messages, 0 to 8 -/
def CANOPY_SESS_INFO_OUT : Field := ⟨0xB010C, 24, 4, 0, .ro⟩
/-- R668. Delivered, unreleased RX slots, 0 to 8 -/
def CANOPY_SESS_INFO_RXFILL : Field := ⟨0xB010C, 20, 4, 0, .ro⟩
/-- R668. Peer device -/
def CANOPY_SESS_INFO_PEER : Field := ⟨0xB010C, 8, 10, 0, .ro⟩
/-- R668. Next SEQ to send -/
def CANOPY_SESS_INFO_SEQ : Field := ⟨0xB010C, 0, 8, 0, .ro⟩
/-- R669. Refused sends; wraps -/
def CANOPY_SESS_CNT_BUSY : Field := ⟨0xB0110, 24, 8, 0, .ro⟩
/-- R669. Abandoned messages; wraps -/
def CANOPY_SESS_CNT_ABANDON : Field := ⟨0xB0110, 16, 8, 0, .ro⟩
/-- R669. Messages resent; wraps -/
def CANOPY_SESS_CNT_RETX : Field := ⟨0xB0110, 8, 8, 0, .ro⟩
/-- R669. Late deliveries; wraps -/
def CANOPY_SESS_CNT_LATE : Field := ⟨0xB0110, 0, 8, 0, .ro⟩
/-- R670. Deadline after the send, in µs -/
def CANOPY_SEND_DL (s : Nat) : Field := ⟨0xB0400 + 4 * s, 16, 16, 0, .rw⟩
/-- R670. Last send refused for 8 outstanding -/
def CANOPY_SEND_BUSY (s : Nat) : Field := ⟨0xB0400 + 4 * s, 15, 1, 0, .ro⟩
/-- R670. Last send refused; session not enabled -/
def CANOPY_SEND_DOWN (s : Nat) : Field := ⟨0xB0400 + 4 * s, 14, 1, 0, .ro⟩
/-- R670. Unit of DL: 0: 1 µs; 1: 16 µs (R619) -/
def CANOPY_SEND_DL_U (s : Nat) : Field := ⟨0xB0400 + 4 * s, 13, 1, 0, .rw⟩
/-- R670. Free TX slots, 0 to 8 -/
def CANOPY_SEND_FREE (s : Nat) : Field := ⟨0xB0400 + 4 * s, 9, 4, 8, .ro⟩
/-- R670. Payload length in bytes -/
def CANOPY_SEND_LEN (s : Nat) : Field := ⟨0xB0400 + 4 * s, 0, 9, 0, .rw⟩
/-- R671. Route for device 8w + j valid (R616) -/
def CANOPY_ROUTE_VALID (w : Nat) (j : Nat) : Field := ⟨0xB0800 + 4 * w, 4 * j + 3, 1, 0, .rw⟩
/-- R671. Port towards device 8w + j -/
def CANOPY_ROUTE_PORT (w : Nat) (j : Nat) : Field := ⟨0xB0800 + 4 * w, 4 * j, 2, 0, .rw⟩
/-- R672. Region size at most, in bytes -/
def AMBER_CAP_RGN_MAX : Field := ⟨0xB4004, 0, 17, 65536, .ro⟩
/-- R673. Request a planned handover (R647) -/
def AMBER_CTRL_HANDOVER : Field := ⟨0xB4008, 0, 1, 0, .w1⟩
/-- R674. Frame start on a repeating lane within 2T (R639) -/
def AMBER_STATUS_FRAMES_SEEN : Field := ⟨0xB400C, 7, 1, 0, .ro⟩
/-- R674. Valid HB within 2T (R631) -/
def AMBER_STATUS_PEER_SEEN : Field := ⟨0xB400C, 6, 1, 0, .ro⟩
/-- R674. Peer's last HB shows READY -/
def AMBER_STATUS_PEER_READY : Field := ⟨0xB400C, 5, 1, 0, .ro⟩
/-- R674. This device ready to take over (R638) -/
def AMBER_STATUS_READY : Field := ⟨0xB400C, 4, 1, 0, .ro⟩
/-- R674. 0 NONE; 1 ACTIVE; 2 STANDBY; 3 TAKEOVER; 4 WARM; 5 to 7 reserved -/
def AMBER_STATUS_ROLE : Field := ⟨0xB400C, 1, 3, 0, .ro⟩
/-- R674. A write to a locked field was ignored -/
def AMBER_STATUS_LOCKV : Field := ⟨0xB400C, 0, 1, 0, .rc⟩
/-- R675. 1: pair operation -/
def AMBER_CFG_EN : Field := ⟨0xB4040, 31, 1, 0, .rwt⟩
/-- R675. Preferred role at start-up: 0 active; 1 standby -/
def AMBER_CFG_PREF : Field := ⟨0xB4040, 30, 1, 0, .rwt⟩
/-- R675. 1: RUN resumes after a missed-heartbeat takeover (R643) -/
def AMBER_CFG_HB_RUN : Field := ⟨0xB4040, 29, 1, 0, .rwt⟩
/-- R675. Checkpoint port (R625) -/
def AMBER_CFG_PORT : Field := ⟨0xB4040, 26, 2, 0, .rwt⟩
/-- R675. Servo source written at takeover (R645) -/
def AMBER_CFG_TSRC : Field := ⟨0xB4040, 24, 2, 1, .rwt⟩
/-- R675. Heartbeat margin in 100 ns units, 1 to 255 -/
def AMBER_CFG_HB_MARGIN : Field := ⟨0xB4040, 16, 8, 10, .rwt⟩
/-- R675. Peer device identity -/
def AMBER_CFG_PEER : Field := ⟨0xB4040, 0, 10, 0, .rwt⟩
/-- R676. Bit c: a WITHDRAW of class code c lets RUN resume (R643) -/
def AMBER_RUN_CLS_CLS : Field := ⟨0xB4044, 0, 32, 0, .rwt⟩
/-- R677. Warm supervision after a handover, in ms; 0: none (R648) -/
def AMBER_SUP_SUP_MS : Field := ⟨0xB4048, 0, 16, 1000, .rw⟩
/-- R678. Header, globals, loop units and rings, in 8-byte units -/
def AMBER_REGION_HW8 : Field := ⟨0xB404C, 20, 12, 0, .ro⟩
/-- R678. Region size R in bytes (R633) -/
def AMBER_REGION_SIZE : Field := ⟨0xB404C, 0, 17, 0, .ro⟩
/-- R679. SEQ, and ARM.CYC_CNT at capture, of the last checkpoint sent (ACTIVE) or complete ... -/
def AMBER_CK_SEQ_VAL : Field := ⟨0xB4050, 0, 32, 0, .ro⟩
/-- R679. SEQ, and ARM.CYC_CNT at capture, of the last checkpoint sent (ACTIVE) or complete ... -/
def AMBER_CK_CYC_VAL : Field := ⟨0xB4054, 0, 32, 0, .ro⟩
/-- R680. Hours since the device last left ACTIVE or WARM, saturating (R649) -/
def AMBER_HO_AGE_HOURS : Field := ⟨0xB4058, 0, 16, 0, .ro⟩
/-- R681. Takeover found nothing to restore (R630) -/
def AMBER_ASTAT_TK_FAIL : Field := ⟨0xB405C, 10, 1, 0, .rc⟩
/-- R681. Peer or cycle configuration mismatch -/
def AMBER_ASTAT_CFG_MIS : Field := ⟨0xB405C, 9, 1, 0, .rc⟩
/-- R681. Arm taken back from WARM (R648) -/
def AMBER_ASTAT_TAKEBACK : Field := ⟨0xB405C, 8, 1, 0, .rc⟩
/-- R681. No valid HB for 2T + HB_MARGIN -/
def AMBER_ASTAT_PEER_LOST : Field := ⟨0xB405C, 7, 1, 0, .rc⟩
/-- R681. Active role yielded (R639) -/
def AMBER_ASTAT_YIELD : Field := ⟨0xB405C, 6, 1, 0, .rc⟩
/-- R681. Heartbeats missing while frames are seen -/
def AMBER_ASTAT_SPLIT : Field := ⟨0xB405C, 5, 1, 0, .rc⟩
/-- R681. Region over its limit (R633) -/
def AMBER_ASTAT_SIZE : Field := ⟨0xB405C, 4, 1, 0, .rc⟩
/-- R681. Incomplete checkpoint discarded -/
def AMBER_ASTAT_CK_BAD : Field := ⟨0xB405C, 3, 1, 0, .rc⟩
/-- R681. Stream abandoned at the next capture point -/
def AMBER_ASTAT_CK_LATE : Field := ⟨0xB405C, 2, 1, 0, .rc⟩
/-- R681. Planned handover performed -/
def AMBER_ASTAT_HANDOVER : Field := ⟨0xB405C, 1, 1, 0, .rc⟩
/-- R681. Takeover performed -/
def AMBER_ASTAT_TAKEOVER : Field := ⟨0xB405C, 0, 1, 0, .rc⟩
/-- R682. t_D to first time-tagged commands of the last takeover, in 10 ns units -/
def AMBER_TK_LAST_TK : Field := ⟨0xB4060, 16, 16, 0, .ro⟩
/-- R682. Restore time of the last takeover, in 10 ns units -/
def AMBER_TK_LAST_RST : Field := ⟨0xB4060, 0, 16, 0, .ro⟩
/-- R714. Block type: safety island -/
def SAFE_PAGE_ID_TYPE : Field := ⟨0xC0000, 16, 16, 0x0A90, .ro⟩
/-- R714. Instance -/
def SAFE_PAGE_ID_INST : Field := ⟨0xC0000, 8, 8, 0, .ro⟩
/-- R714. Block revision -/
def SAFE_PAGE_ID_REV : Field := ⟨0xC0000, 0, 8, 0x01, .ro⟩
/-- R715. Garnet connections -/
def SAFE_CAP_CONN : Field := ⟨0xC0004, 24, 6, 32, .ro⟩
/-- R715. Safety outputs -/
def SAFE_CAP_OUTPUTS : Field := ⟨0xC0004, 16, 4, 4, .ro⟩
/-- R715. Dual-channel inputs -/
def SAFE_CAP_INPUTS : Field := ⟨0xC0004, 8, 4, 12, .ro⟩
/-- R715. Test-pulse sources -/
def SAFE_CAP_TPS : Field := ⟨0xC0004, 0, 3, 4, .ro⟩
/-- R717. Present level of SAFE_RST -/
def SAFE_STATUS_RST_IN : Field := ⟨0xC000C, 7, 1, 0, .ro⟩
/-- R717. Permanent lock-out (R687) -/
def SAFE_STATUS_PERM : Field := ⟨0xC000C, 6, 1, 0, .ro⟩
/-- R717. 0 START; 1 LOCKOUT; 2 RUN; 3 STOPPED -/
def SAFE_STATUS_STATE : Field := ⟨0xC000C, 4, 2, 0, .ro⟩
/-- R717. Parameter set valid (R686) -/
def SAFE_STATUS_PSET_OK : Field := ⟨0xC000C, 3, 1, 0, .ro⟩
/-- R717. A write to the page was ignored (R703) -/
def SAFE_STATUS_LOCKV : Field := ⟨0xC000C, 0, 1, 0, .rc⟩
/-- R718. Bit j enables an interrupt for SSTAT bit j; loaded from the parameter set -/
def SAFE_IRQ_EN_EN : Field := ⟨0xC0010, 0, 10, 0, .ro⟩
/-- R719. Bit j: SSTAT bit j set while EN bit j is set -/
def SAFE_IRQ_STAT_PEND : Field := ⟨0xC0014, 0, 10, 0, .rc⟩
/-- R720. Always 1: the page takes no writes -/
def SAFE_LOCK_LOCK : Field := ⟨0xC0018, 0, 1, 1, .ro⟩
/-- R721. 0: running; 0xFFFF_FFFF: safety glade fenced (R23) -/
def SAFE_FENCE_FENCE : Field := ⟨0xC001C, 0, 32, 0, .ro⟩
/-- R722. Identifier, and CRC-32C, of the loaded parameter set (R685) -/
def SAFE_PSET_ID_VAL : Field := ⟨0xC0040, 0, 32, 0, .ro⟩
/-- R722. Identifier, and CRC-32C, of the loaded parameter set (R685) -/
def SAFE_PSET_CRC_VAL : Field := ⟨0xC0044, 0, 32, 0, .ro⟩
/-- R723. Bit i: input i waits for reset -/
def SAFE_IN_STATE_WAIT : Field := ⟨0xC0048, 16, 12, 0, .ro⟩
/-- R723. Bit i: function of input i released -/
def SAFE_IN_STATE_REL : Field := ⟨0xC0048, 0, 12, 0, .ro⟩
/-- R724. Bit i: level of SAFE_IN_B[i] -/
def SAFE_IN_LEVEL_B : Field := ⟨0xC004C, 16, 12, 0, .ro⟩
/-- R724. Bit i: level of SAFE_IN_A[i] -/
def SAFE_IN_LEVEL_A : Field := ⟨0xC004C, 0, 12, 0, .ro⟩
/-- R725. Bit i: input i named in a standing cause 6 or 7 -/
def SAFE_IN_FAULT_FLT : Field := ⟨0xC0050, 0, 12, 0, .ro⟩
/-- R726. Bit k: output k named in a standing cause 8 or 9 -/
def SAFE_OUT_STATE_FLT : Field := ⟨0xC0054, 16, 4, 0, .ro⟩
/-- R726. Bit k: level of SAFE_EDM[k] -/
def SAFE_OUT_STATE_EDM : Field := ⟨0xC0054, 12, 4, 0, .ro⟩
/-- R726. Bit k: ON_k holds (R696) -/
def SAFE_OUT_STATE_ON_REQ : Field := ⟨0xC0054, 8, 4, 0, .ro⟩
/-- R726. Bit k: read-back level of SAFE_OUT_B[k] -/
def SAFE_OUT_STATE_B : Field := ⟨0xC0054, 4, 4, 0, .ro⟩
/-- R726. Bit k: read-back level of SAFE_OUT_A[k] -/
def SAFE_OUT_STATE_A : Field := ⟨0xC0054, 0, 4, 0, .ro⟩
/-- R727. Bit c: connection c in RUN; and, respectively, waiting for reset (R707) -/
def SAFE_CONN_RUN_BITS : Field := ⟨0xC0058, 0, 32, 0, .ro⟩
/-- R727. Bit c: connection c in RUN; and, respectively, waiting for reset (R707) -/
def SAFE_CONN_WAIT_BITS : Field := ⟨0xC005C, 0, 32, 0, .ro⟩
/-- R728. First standing cause (R708) -/
def SAFE_LOCK_CAUSE_CAUSE : Field := ⟨0xC0060, 24, 8, 0, .ro⟩
/-- R728. Input or output of that cause -/
def SAFE_LOCK_CAUSE_INDEX : Field := ⟨0xC0060, 16, 8, 0, .ro⟩
/-- R728. Lock-outs since power-on, saturating -/
def SAFE_LOCK_CAUSE_COUNT : Field := ⟨0xC0060, 0, 16, 0, .ro⟩
/-- R729. Reset press over 5 s ignored (R693) -/
def SAFE_SSTAT_RST_LONG : Field := ⟨0xC0064, 9, 1, 0, .rc⟩
/-- R729. Valid reset acted on (R694) -/
def SAFE_SSTAT_RST_ACC : Field := ⟨0xC0064, 8, 1, 0, .rc⟩
/-- R729. PDU discarded for CHK or CID (R706) -/
def SAFE_SSTAT_CONN_CHK : Field := ⟨0xC0064, 7, 1, 0, .rc⟩
/-- R729. A connection failed (R707) -/
def SAFE_SSTAT_CONN_FAIL : Field := ⟨0xC0064, 6, 1, 0, .rc⟩
/-- R729. Cause 9 arose -/
def SAFE_SSTAT_EDM : Field := ⟨0xC0064, 5, 1, 0, .rc⟩
/-- R729. Cause 8 arose -/
def SAFE_SSTAT_OUT_TEST : Field := ⟨0xC0064, 4, 1, 0, .rc⟩
/-- R729. Cause 7 arose -/
def SAFE_SSTAT_TP : Field := ⟨0xC0064, 3, 1, 0, .rc⟩
/-- R729. Cause 6 arose -/
def SAFE_SSTAT_DISC : Field := ⟨0xC0064, 2, 1, 0, .rc⟩
/-- R729. A function was demanded -/
def SAFE_SSTAT_DEMAND : Field := ⟨0xC0064, 1, 1, 0, .rc⟩
/-- R729. LOCKOUT entered from RUN -/
def SAFE_SSTAT_LOCKOUT : Field := ⟨0xC0064, 0, 1, 0, .rc⟩
/-- R730. Device time, low 32 ns bits, of the last demand recognised, and of the last output ... -/
def SAFE_DEM_TS_TS : Field := ⟨0xC0068, 0, 32, 0, .ro⟩
/-- R730. Device time, low 32 ns bits, of the last demand recognised, and of the last output ... -/
def SAFE_OFF_TS_TS : Field := ⟨0xC006C, 0, 32, 0, .ro⟩
/-- R731. PDUs discarded for CHK or CID; wraps -/
def SAFE_CONN_CNT_CHK (c : Nat) : Field := ⟨0xC0000 + 0x100 + 4 * c, 16, 16, 0, .ro⟩
/-- R731. Watchdog expiries and ERR_LIM failures; wraps -/
def SAFE_CONN_CNT_WDX (c : Nat) : Field := ⟨0xC0000 + 0x100 + 4 * c, 0, 16, 0, .ro⟩
/-- R748. Block type: fault collector -/
def FLT_PAGE_ID_TYPE : Field := ⟨0x1000, 16, 16, 0x0A01, .ro⟩
/-- R748. Instance -/
def FLT_PAGE_ID_INST : Field := ⟨0x1000, 8, 8, 0, .ro⟩
/-- R748. Block revision -/
def FLT_PAGE_ID_REV : Field := ⟨0x1000, 0, 8, 0x01, .ro⟩
/-- R749. Fault classes -/
def FLT_CAP_CLASSES : Field := ⟨0x1004, 16, 5, 22, .ro⟩
/-- R749. History entries -/
def FLT_CAP_HIST : Field := ⟨0x1004, 0, 5, 16, .ro⟩
/-- R750. Clear the history queue (R745) -/
def FLT_CTRL_HIST_CLR : Field := ⟨0x1008, 0, 1, 0, .w1⟩
/-- R751. History frozen at L4 (R738) -/
def FLT_STATUS_FROZEN : Field := ⟨0x100C, 6, 1, 0, .ro⟩
/-- R751. An L3 or L4 record is open -/
def FLT_STATUS_BLK : Field := ⟨0x100C, 5, 1, 0, .ro⟩
/-- R751. Highest level among open records -/
def FLT_STATUS_LEVEL : Field := ⟨0x100C, 2, 3, 0, .ro⟩
/-- R751. An acknowledgement was refused (R741) -/
def FLT_STATUS_ACK_REF : Field := ⟨0x100C, 1, 1, 0, .rc⟩
/-- R751. A write to a locked field was ignored -/
def FLT_STATUS_LOCKV : Field := ⟨0x100C, 0, 1, 0, .rc⟩
/-- R752. Bit c enables the host interrupt for events of class c at L1 or above -/
def FLT_IRQ_EN_EN : Field := ⟨0x1010, 1, 22, 0x3FFFFF, .rwt⟩
/-- R753. Bit c: event of class c at L1 or above while EN bit c is set -/
def FLT_IRQ_STAT_PEND : Field := ⟨0x1014, 1, 22, 0, .rc⟩
/-- R754. Writing 1 locks the page's RWL fields; writing 0 is ignored; cleared only by the ... -/
def FLT_LOCK_LOCK : Field := ⟨0x1018, 0, 1, 0, .rw⟩
/-- R755. Always 0 -/
def FLT_FENCE_FENCE : Field := ⟨0x101C, 0, 32, 0, .ro⟩
/-- R756. Base level of class c, 0 to 4 (R736) -/
def FLT_BASE_LVL (c : Nat) : Field := ⟨0x1040 + 4 * ((c - 1) / 8), 4 * ((c - 1) % 8), 3, resetBase c, .rwt⟩
/-- R757. 1: post EVT at L1 and above (R737) -/
def FLT_CFG_EVT_EN : Field := ⟨0x104C, 31, 1, 0, .rwt⟩
/-- R757. Event flag posted -/
def FLT_CFG_EVT : Field := ⟨0x104C, 24, 5, 0, .rwt⟩
/-- R757. Lowest level written to the history, 0 to 4 (R745) -/
def FLT_CFG_HIST_MIN : Field := ⟨0x104C, 0, 3, 1, .rwt⟩
/-- R758. Bit c: acknowledge class c (R741) -/
def FLT_ACK_ACK : Field := ⟨0x1050, 1, 22, 0, .w1⟩
/-- R759. Bit c: record of class c open -/
def FLT_OPEN_OPEN : Field := ⟨0x1054, 1, 22, 0, .ro⟩
/-- R760. Request the return (R742) -/
def FLT_UNFENCE_GO : Field := ⟨0x1058, 31, 1, 0, .w1⟩
/-- R760. 1: ID is a task number; 0: a unit identifier -/
def FLT_UNFENCE_TASK : Field := ⟨0x1058, 30, 1, 0, .rw⟩
/-- R760. Outcome of the last request (R742) -/
def FLT_UNFENCE_RESULT : Field := ⟨0x1058, 28, 2, 0, .ro⟩
/-- R760. Unit identifier or task number -/
def FLT_UNFENCE_ID : Field := ⟨0x1058, 0, 16, 0, .rw⟩
/-- R761. Class code (R735) -/
def FLT_REC_IDX_CLASS : Field := ⟨0x105C, 0, 5, 0, .rw⟩
/-- R762. Word 0 to 3 of the latched record (R744) -/
def FLT_REC_WORD (m : Nat) : Field := ⟨0x1000 + 0x60 + 4 * m, 0, 32, 0, .ro⟩
/-- R763. Entries overwritten; wraps -/
def FLT_HIST_WR_OVWR : Field := ⟨0x1070, 16, 16, 0, .ro⟩
/-- R763. The queue has wrapped since it was last cleared -/
def FLT_HIST_WR_WRAPPED : Field := ⟨0x1070, 4, 1, 0, .ro⟩
/-- R763. Index of the next entry written -/
def FLT_HIST_WR_IDX : Field := ⟨0x1070, 0, 4, 0, .ro⟩
/-- R764. Events of every level; wraps -/
def FLT_CNT_EVENTS : Field := ⟨0x1074, 16, 16, 0, .rw⟩
/-- R764. Votes corrected by scrubbing (R746); wraps -/
def FLT_CNT_SCRUB : Field := ⟨0x1074, 0, 16, 0, .rw⟩
/-- R765. Class of the last L0 event -/
def FLT_L0_LAST_CLASS : Field := ⟨0x1078, 27, 5, 0, .ro⟩
/-- R765. Unit of the last L0 event -/
def FLT_L0_LAST_UNIT : Field := ⟨0x1078, 0, 16, 0, .ro⟩
/-- R766. AUX of the last L0 event, such as the offending address of an ignored write -/
def FLT_L0_AUX_AUX : Field := ⟨0x107C, 0, 32, 0, .ro⟩
/-- R767. Word w of history entry e (R744) -/
def FLT_HIST_WORD (e : Nat) (w : Nat) : Field := ⟨0x1000 + 0x100 + 16 * e + 4 * w, 0, 32, 0, .ro⟩
/-- R791. 0x0A02 SEC; 0x0A03 NVM; 0x0A04 AGE -/
def SEC_PAGE_ID_TYPE : Field := ⟨0x2000, 16, 16, 0x0A02, .ro⟩
/-- R791. Instance -/
def SEC_PAGE_ID_INST : Field := ⟨0x2000, 8, 8, 0, .ro⟩
/-- R791. Block revision -/
def SEC_PAGE_ID_REV : Field := ⟨0x2000, 0, 8, 0x01, .ro⟩
/-- R791. 0x0A02 SEC; 0x0A03 NVM; 0x0A04 AGE -/
def NVM_PAGE_ID_TYPE : Field := ⟨0x3000, 16, 16, 0x0A03, .ro⟩
/-- R791. Instance -/
def NVM_PAGE_ID_INST : Field := ⟨0x3000, 8, 8, 0, .ro⟩
/-- R791. Block revision -/
def NVM_PAGE_ID_REV : Field := ⟨0x3000, 0, 8, 0x01, .ro⟩
/-- R791. 0x0A02 SEC; 0x0A03 NVM; 0x0A04 AGE -/
def AGE_PAGE_ID_TYPE : Field := ⟨0x7000, 16, 16, 0x0A04, .ro⟩
/-- R791. Instance -/
def AGE_PAGE_ID_INST : Field := ⟨0x7000, 8, 8, 0, .ro⟩
/-- R791. Block revision -/
def AGE_PAGE_ID_REV : Field := ⟨0x7000, 0, 8, 0x01, .ro⟩
/-- R792. Bit j enables an interrupt for bit j of EVT, NSTAT or ASTAT -/
def SEC_IRQ_EN_EN : Field := ⟨0x2010, 0, 6, 0, .rw⟩
/-- R792. Bit j enables an interrupt for bit j of EVT, NSTAT or ASTAT -/
def NVM_IRQ_EN_EN : Field := ⟨0x3010, 0, 6, 0, .rw⟩
/-- R792. Bit j enables an interrupt for bit j of EVT, NSTAT or ASTAT -/
def AGE_IRQ_EN_EN : Field := ⟨0x7010, 0, 7, 0, .rw⟩
/-- R793. Bit j: status bit j set while EN bit j is set -/
def SEC_IRQ_STAT_PEND : Field := ⟨0x2014, 0, 6, 0, .rc⟩
/-- R793. Bit j: status bit j set while EN bit j is set -/
def NVM_IRQ_STAT_PEND : Field := ⟨0x3014, 0, 6, 0, .rc⟩
/-- R793. Bit j: status bit j set while EN bit j is set -/
def AGE_IRQ_STAT_PEND : Field := ⟨0x7014, 0, 7, 0, .rc⟩
/-- R794. Writing 1 locks the page's RWL fields; writing 0 is ignored; cleared only by the ... -/
def SEC_LOCK_LOCK : Field := ⟨0x2018, 0, 1, 0, .rw⟩
/-- R794. Writing 1 locks the page's RWL fields; writing 0 is ignored; cleared only by the ... -/
def NVM_LOCK_LOCK : Field := ⟨0x3018, 0, 1, 0, .rw⟩
/-- R794. Writing 1 locks the page's RWL fields; writing 0 is ignored; cleared only by the ... -/
def AGE_LOCK_LOCK : Field := ⟨0x7018, 0, 1, 0, .rw⟩
/-- R795. Always 0; these glades are never fenced (R739) -/
def SEC_FENCE_FENCE : Field := ⟨0x201C, 0, 32, 0, .ro⟩
/-- R795. Always 0; these glades are never fenced (R739) -/
def NVM_FENCE_FENCE : Field := ⟨0x301C, 0, 32, 0, .ro⟩
/-- R795. Always 0; these glades are never fenced (R739) -/
def AGE_FENCE_FENCE : Field := ⟨0x701C, 0, 32, 0, .ro⟩
/-- R796. Highest rollback count -/
def SEC_CAP_SVN_MAX : Field := ⟨0x2004, 8, 6, 63, .ro⟩
/-- R796. Image key slots -/
def SEC_CAP_KEYSLOTS : Field := ⟨0x2004, 0, 4, 4, .ro⟩
/-- R797. Prepare for return (R788) -/
def SEC_CTRL_RETURN_PREP : Field := ⟨0x2008, 5, 1, 0, .w1⟩
/-- R797. Raise the rollback counter (R771) -/
def SEC_CTRL_COMMIT_SVN : Field := ⟨0x2008, 4, 1, 0, .w1⟩
/-- R797. Close debug access -/
def SEC_CTRL_DBG_CLOSE : Field := ⟨0x2008, 3, 1, 0, .w1⟩
/-- R797. Verify the debug signature (R773) -/
def SEC_CTRL_DBG_AUTH : Field := ⟨0x2008, 2, 1, 0, .w1⟩
/-- R797. Issue a debug challenge -/
def SEC_CTRL_DBG_CHAL : Field := ⟨0x2008, 1, 1, 0, .w1⟩
/-- R797. Sign a quote (R772) -/
def SEC_CTRL_QUOTE : Field := ⟨0x2008, 0, 1, 0, .w1⟩
/-- R798. SVN of the booted image -/
def SEC_STATUS_SVN : Field := ⟨0x200C, 16, 6, 0, .ro⟩
/-- R798. OTP rollback counter -/
def SEC_STATUS_CNT : Field := ⟨0x200C, 10, 6, 0, .ro⟩
/-- R798. Return preparation done (R789) -/
def SEC_STATUS_RETURNED : Field := ⟨0x200C, 9, 1, 0, .ro⟩
/-- R798. Debug attempts exhausted -/
def SEC_STATUS_DBG_LOCKED : Field := ⟨0x200C, 8, 1, 0, .ro⟩
/-- R798. Debug authenticated -/
def SEC_STATUS_DBG_OPEN : Field := ⟨0x200C, 7, 1, 0, .ro⟩
/-- R798. Quote, verification or return preparation running -/
def SEC_STATUS_BUSY : Field := ⟨0x200C, 6, 1, 0, .ro⟩
/-- R798. Booted slot: 0 A; 1 B; 2 none -/
def SEC_STATUS_SLOT : Field := ⟨0x200C, 4, 2, 2, .ro⟩
/-- R798. Booted from the slot not preferred (R770) -/
def SEC_STATUS_FALLBACK : Field := ⟨0x200C, 3, 1, 0, .ro⟩
/-- R798. A write to a locked field was ignored -/
def SEC_STATUS_LOCKV : Field := ⟨0x200C, 0, 1, 0, .rc⟩
/-- R799. Return preparation finished -/
def SEC_EVT_RET_DONE : Field := ⟨0x2040, 5, 1, 0, .rc⟩
/-- R799. Protected STORE refused (R776) -/
def SEC_EVT_STORE_SIG : Field := ⟨0x2040, 4, 1, 0, .rc⟩
/-- R799. Slot refused for its SVN -/
def SEC_EVT_ROLLBACK : Field := ⟨0x2040, 3, 1, 0, .rc⟩
/-- R799. Slot failed verification -/
def SEC_EVT_SIG_FAIL : Field := ⟨0x2040, 2, 1, 0, .rc⟩
/-- R799. Debug authentication failed -/
def SEC_EVT_DBG_FAIL : Field := ⟨0x2040, 1, 1, 0, .rc⟩
/-- R799. Quote written -/
def SEC_EVT_QUOTE_DONE : Field := ⟨0x2040, 0, 1, 0, .rc⟩
/-- R800. Bits [31:1] of the arming value written (R788); reads 0 -/
def SEC_RET_ARM_KEY : Field := ⟨0x2044, 1, 31, 0, .w1⟩
/-- R800. Taken from bit 0 of a correct arming value; reads 1 while RETURN_PREP is armed with ... -/
def SEC_RET_ARM_IMG : Field := ⟨0x2044, 0, 1, 0, .rw⟩
/-- R801. Data-port address of the 4 KiB buffer (R772), the RAM copy (R775), the writable slot ... -/
def SEC_QBUF_ADDR_ADDR : Field := ⟨0x2048, 0, 32, 0xD04000, .ro⟩
/-- R801. Data-port address of the 4 KiB buffer (R772), the RAM copy (R775), the writable slot ... -/
def NVM_RAM_ADDR_ADDR : Field := ⟨0x3050, 0, 32, 0xC00000, .ro⟩
/-- R801. Data-port address of the 4 KiB buffer (R772), the RAM copy (R775), the writable slot ... -/
def NVM_IMG_ADDR_ADDR : Field := ⟨0x3054, 0, 32, 0, .ro⟩
/-- R801. Data-port address of the 4 KiB buffer (R772), the RAM copy (R775), the writable slot ... -/
def NVM_HIST_ADDR_ADDR : Field := ⟨0x3058, 0, 32, 0xC0710000, .ro⟩
/-- R801. Data-port address of the 4 KiB buffer (R772), the RAM copy (R775), the writable slot ... -/
def NVM_RET_ADDR_ADDR : Field := ⟨0x305C, 0, 32, 0xC07C0000, .ro⟩
/-- R801. Data-port address of the 4 KiB buffer (R772), the RAM copy (R775), the writable slot ... -/
def AGE_LOG_ADDR_ADDR : Field := ⟨0x7050, 0, 32, 0xC0780000, .ro⟩
/-- R802. NVM size in KiB -/
def NVM_CAP_SIZE : Field := ⟨0x3004, 16, 16, 8192, .ro⟩
/-- R802. Sector size in KiB -/
def NVM_CAP_SECTOR : Field := ⟨0x3004, 0, 16, 4, .ro⟩
/-- R803. STORE partition: 0 U; 1 P; 2 boot configuration (R775) -/
def NVM_CTRL_PART : Field := ⟨0x3008, 8, 2, 0, .rw⟩
/-- R803. Verify the written slot (R780) -/
def NVM_CTRL_IMG_COMMIT : Field := ⟨0x3008, 2, 1, 0, .w1⟩
/-- R803. Reload the RAM copy -/
def NVM_CTRL_RELOAD : Field := ⟨0x3008, 1, 1, 0, .w1⟩
/-- R803. Store partition PART -/
def NVM_CTRL_STORE : Field := ⟨0x3008, 0, 1, 0, .w1⟩
/-- R804. A sector passed 90,000 erases (R778) -/
def NVM_STATUS_ENDUR_WARN : Field := ⟨0x300C, 5, 1, 0, .ro⟩
/-- R804. Refresh running -/
def NVM_STATUS_REFRESHING : Field := ⟨0x300C, 4, 1, 0, .ro⟩
/-- R804. STORE or image write running -/
def NVM_STATUS_BUSY : Field := ⟨0x300C, 3, 1, 0, .ro⟩
/-- R804. RAM copy of P differs from NVM -/
def NVM_STATUS_DIRTY_P : Field := ⟨0x300C, 2, 1, 0, .ro⟩
/-- R804. RAM copy of U differs from NVM -/
def NVM_STATUS_DIRTY_U : Field := ⟨0x300C, 1, 1, 0, .ro⟩
/-- R804. A write to a locked field was ignored -/
def NVM_STATUS_LOCKV : Field := ⟨0x300C, 0, 1, 0, .rc⟩
/-- R805. Uncorrectable word found (R779) -/
def NVM_NSTAT_REFRESH_ERR : Field := ⟨0x3040, 5, 1, 0, .rc⟩
/-- R805. STORE refused for endurance -/
def NVM_NSTAT_ENDUR : Field := ⟨0x3040, 4, 1, 0, .rc⟩
/-- R805. Written slot failed verification -/
def NVM_NSTAT_IMG_BAD : Field := ⟨0x3040, 3, 1, 0, .rc⟩
/-- R805. Written slot verified -/
def NVM_NSTAT_IMG_OK : Field := ⟨0x3040, 2, 1, 0, .rc⟩
/-- R805. STORE failed -/
def NVM_NSTAT_STORE_FAIL : Field := ⟨0x3040, 1, 1, 0, .rc⟩
/-- R805. STORE completed -/
def NVM_NSTAT_STORE_DONE : Field := ⟨0x3040, 0, 1, 0, .rc⟩
/-- R806. Preferred slot: 0 A; 1 B (R770) -/
def NVM_BOOT_PREF : Field := ⟨0x3044, 0, 1, 0, .rw⟩
/-- R807. Outcome of the last STORE (R777) -/
def NVM_RESULT_CODE : Field := ⟨0x3048, 0, 4, 0, .ro⟩
/-- R808. Accepted protected stores (R776) -/
def NVM_SEQ_STORE_SEQ : Field := ⟨0x304C, 0, 32, 0, .ro⟩
/-- R809. Refresh passes completed; wraps -/
def NVM_WEAR_REFRESH : Field := ⟨0x3060, 24, 8, 0, .ro⟩
/-- R809. Highest erase count of a settings or boot sector (R778) -/
def NVM_WEAR_MAX : Field := ⟨0x3060, 0, 17, 0, .ro⟩
/-- R810. Reserved history area unused -/
def AGE_CAP_HIST_SPARE : Field := ⟨0x7004, 8, 1, 1, .ro⟩
/-- R810. Spare rank-engine slice unused -/
def AGE_CAP_RANK_SPARE : Field := ⟨0x7004, 4, 1, 1, .ro⟩
/-- R810. Repair rows per SRAM macro -/
def AGE_CAP_ROWS : Field := ⟨0x7004, 0, 4, 4, .ro⟩
/-- R811. 1: grove clock steps also in RUN and in CHARGE with CCHG = 1 (R783) -/
def AGE_CTRL_RUN_REPLAN : Field := ⟨0x7008, 1, 1, 0, .rw⟩
/-- R811. 1: monitors act; 0: they measure only -/
def AGE_CTRL_EN : Field := ⟨0x7008, 0, 1, 1, .rw⟩
/-- R812. A re-planning step is waiting or running -/
def AGE_STATUS_REPLAN : Field := ⟨0x700C, 1, 1, 0, .ro⟩
/-- R812. A write to a locked field was ignored -/
def AGE_STATUS_LOCKV : Field := ⟨0x700C, 0, 1, 0, .rc⟩
/-- R813. A grove reached 900 MHz -/
def AGE_ASTAT_CLK_MIN : Field := ⟨0x7040, 6, 1, 0, .rc⟩
/-- R813. VDD reached 0.85 V -/
def AGE_ASTAT_AVS_MAX : Field := ⟨0x7040, 5, 1, 0, .rc⟩
/-- R813. Regulator did not acknowledge -/
def AGE_ASTAT_AVS_FAIL : Field := ⟨0x7040, 4, 1, 0, .rc⟩
/-- R813. BUDGET record written (R784, R785) -/
def AGE_ASTAT_BUDGET : Field := ⟨0x7040, 3, 1, 0, .rc⟩
/-- R813. MARGIN record written -/
def AGE_ASTAT_MARGIN : Field := ⟨0x7040, 2, 1, 0, .rc⟩
/-- R813. Wear threshold crossed without a spare (R781) -/
def AGE_ASTAT_NOSPARE : Field := ⟨0x7040, 1, 1, 0, .rc⟩
/-- R813. A spare was brought in -/
def AGE_ASTAT_SPARE_IN : Field := ⟨0x7040, 0, 1, 0, .rc⟩
/-- R814. Slack limit in 10 ns units (R785) -/
def AGE_CFG_BUD_MIN : Field := ⟨0x7044, 24, 8, 20, .rw⟩
/-- R814. Slack in % above which VDD may fall -/
def AGE_CFG_MAR_HI : Field := ⟨0x7044, 16, 8, 15, .rw⟩
/-- R814. Slack in % that starts a step (R782) -/
def AGE_CFG_MAR_LO : Field := ⟨0x7044, 8, 8, 8, .rw⟩
/-- R815. PMBus address of the VDD regulator -/
def AGE_AVS_ADDR : Field := ⟨0x7048, 24, 7, 0x40, .rwl⟩
/-- R815. VDD requested, in mV -/
def AGE_AVS_VDD : Field := ⟨0x7048, 0, 12, 750, .ro⟩
/-- R816. Last measured slack in % -/
def AGE_CLK_SLACK (g : Nat) : Field := ⟨0x7000 + 0x4C + 0x10 * g, 24, 8, 0, .ro⟩
/-- R816. Planned grove clock in MHz -/
def AGE_CLK_MHZ (g : Nat) : Field := ⟨0x7000 + 0x4C + 0x10 * g, 0, 11, 1200, .ro⟩
/-- R817. The log has wrapped -/
def AGE_LOG_WR_WRAPPED : Field := ⟨0x7054, 16, 1, 0, .ro⟩
/-- R817. Index of the next record written (R787) -/
def AGE_LOG_WR_IDX : Field := ⟨0x7054, 0, 13, 0, .ro⟩
/-- R818. Operating hours since manufacture; saturating -/
def AGE_HOURS_HOURS : Field := ⟨0x7058, 0, 32, 0, .ro⟩
/-- R841. Block type: system -/
def SYS_PAGE_ID_TYPE : Field := ⟨0x0, 16, 16, 0x0A00, .ro⟩
/-- R841. Instance -/
def SYS_PAGE_ID_INST : Field := ⟨0x0, 8, 8, 0, .ro⟩
/-- R841. Block revision -/
def SYS_PAGE_ID_REV : Field := ⟨0x0, 0, 8, 0x01, .ro⟩
/-- R842. Re-send vector 1 if its summary is 1 (R833) -/
def SYS_CTRL_EOI1 : Field := ⟨0x8, 1, 1, 0, .w1⟩
/-- R842. Re-send vector 0 if its summary is 1 -/
def SYS_CTRL_EOI0 : Field := ⟨0x8, 0, 1, 0, .w1⟩
/-- R843. 0: no link; 1: 2.5 GT/s; 2: 5 GT/s; 3: 8 GT/s -/
def SYS_STATUS_SPEED : Field := ⟨0xC, 7, 2, 0, .ro⟩
/-- R843. Link width in lanes, 0 to 4 -/
def SYS_STATUS_WIDTH : Field := ⟨0xC, 4, 3, 0, .ro⟩
/-- R843. PCIe held in reset; SPI only (R836) -/
def SYS_STATUS_STANDALONE : Field := ⟨0xC, 2, 1, 0, .ro⟩
/-- R843. First unlock key accepted (R827) -/
def SYS_STATUS_UNLK_ARMED : Field := ⟨0xC, 1, 1, 0, .ro⟩
/-- R843. A write to a locked field was ignored -/
def SYS_STATUS_LOCKV : Field := ⟨0xC, 0, 1, 0, .rc⟩
/-- R844. Bit j enables an interrupt for HSTAT bit j -/
def SYS_IRQ_EN_EN : Field := ⟨0x10, 0, 4, 0, .rw⟩
/-- R845. Bit j: HSTAT bit j set while EN bit j is set -/
def SYS_IRQ_STAT_PEND : Field := ⟨0x14, 0, 4, 0, .rc⟩
/-- R846. Writing 1 locks the page's RWL fields; writing 0 is ignored; cleared only by the ... -/
def SYS_LOCK_LOCK : Field := ⟨0x18, 0, 1, 0, .rw⟩
/-- R847. Unlock key, then page index (R827) -/
def SYS_UNLOCK_KEY : Field := ⟨0x40, 0, 32, 0, .w1⟩
/-- R848. Bit n: glade n (LO) or glade 32 + n (HI) holds a pending IRQ_STAT bit (R833) -/
def SYS_IRQ_GLADE_LO_GLADE : Field := ⟨0x44, 0, 32, 0, .ro⟩
/-- R848. Bit n: glade n (LO) or glade 32 + n (HI) holds a pending IRQ_STAT bit (R833) -/
def SYS_IRQ_GLADE_HI_GLADE : Field := ⟨0x48, 0, 32, 0, .ro⟩
/-- R849. Bytes 4m to 4m + 3 of the 16-byte device serial, little-endian, for SERIALm -/
def SYS_SERIAL_BYTES (m : Nat) : Field := ⟨0x0 + 0x4C + 4 * m, 0, 32, 0, .ro⟩
/-- R850. Power-on resets since manufacture; saturating -/
def SYS_BOOT_CNT_COUNT : Field := ⟨0x5C, 0, 32, 0, .ro⟩
/-- R851. Unlock sequence refused (R827) -/
def SYS_HSTAT_UNLK_REF : Field := ⟨0x60, 3, 1, 0, .rc⟩
/-- R851. Parity error on a host transfer (R831) -/
def SYS_HSTAT_HPAR : Field := ⟨0x60, 2, 1, 0, .rc⟩
/-- R851. Partial-word write ignored (R821) -/
def SYS_HSTAT_PARTIAL : Field := ⟨0x60, 1, 1, 0, .rc⟩
/-- R851. Unmapped offset accessed (R822) -/
def SYS_HSTAT_ADDR_ERR : Field := ⟨0x60, 0, 1, 0, .rc⟩
/-- R852. BAR0 offset of the last access that set an HSTAT bit -/
def SYS_ERR_ADDR_ADDR : Field := ⟨0x64, 0, 32, 0, .ro⟩
/-- R853. Block type: data port -/
def DPORT_PAGE_ID_TYPE : Field := ⟨0x6000, 16, 16, 0x0A05, .ro⟩
/-- R853. Instance -/
def DPORT_PAGE_ID_INST : Field := ⟨0x6000, 8, 8, 0, .ro⟩
/-- R853. Block revision -/
def DPORT_PAGE_ID_REV : Field := ⟨0x6000, 0, 8, 0x01, .ro⟩
/-- R854. DP_WINDOW size in bytes -/
def DPORT_CAP_WINDOW : Field := ⟨0x6004, 16, 16, 4096, .ro⟩
/-- R854. Element sizes supported: 1, 4 and 8 bytes -/
def DPORT_CAP_STRIDES : Field := ⟨0x6004, 0, 3, 0x7, .ro⟩
/-- R855. Written data still on its way (R839) -/
def DPORT_STATUS_BUSY : Field := ⟨0x600C, 2, 1, 0, .ro⟩
/-- R855. An access waits for a buffer move (R36) -/
def DPORT_STATUS_MOVEWAIT : Field := ⟨0x600C, 1, 1, 0, .ro⟩
/-- R855. A write to a locked field was ignored -/
def DPORT_STATUS_LOCKV : Field := ⟨0x600C, 0, 1, 0, .rc⟩
/-- R856. Interrupt for DP_STAT.ERR; pending while ERR and EN are set -/
def DPORT_IRQ_EN_EN : Field := ⟨0x6010, 0, 1, 0, .rw⟩
/-- R856. Interrupt for DP_STAT.ERR; pending while ERR and EN are set -/
def DPORT_IRQ_STAT_PEND : Field := ⟨0x6014, 0, 1, 0, .rc⟩
/-- R857. Writing 1 locks the page's RWL fields; writing 0 is ignored; cleared only by the ... -/
def DPORT_LOCK_LOCK : Field := ⟨0x6018, 0, 1, 0, .rw⟩
/-- R858. Data-port address (R837); advanced by accesses (R838, R839) -/
def DPORT_DP_ADDR_ADDR : Field := ⟨0x6040, 0, 32, 0, .rw⟩
/-- R859. Element at DP_ADDR, or its bytes 4 to 7 (R838) -/
def DPORT_DP_DATA_DATA : Field := ⟨0x6044, 0, 32, 0, .rw⟩
/-- R859. Element at DP_ADDR, or its bytes 4 to 7 (R838) -/
def DPORT_DP_DATA_HI_DATA : Field := ⟨0x6048, 0, 32, 0, .rw⟩
/-- R860. 1: DP_ADDR advances -/
def DPORT_DP_CTRL_INC : Field := ⟨0x604C, 4, 1, 1, .rw⟩
/-- R860. 0: 1 byte; 1: 4 bytes; 2: 8 bytes -/
def DPORT_DP_CTRL_STRIDE : Field := ⟨0x604C, 0, 2, 1, .rw⟩
/-- R861. Failed accesses; wraps -/
def DPORT_DP_STAT_ERRCNT : Field := ⟨0x6050, 16, 16, 0, .rw⟩
/-- R861. Code of the last failure (R840); 0: none -/
def DPORT_DP_STAT_CODE : Field := ⟨0x6050, 4, 4, 0, .ro⟩
/-- R861. An access failed -/
def DPORT_DP_STAT_ERR : Field := ⟨0x6050, 0, 1, 0, .rc⟩
/-- R862. Data-port address of the last failed access -/
def DPORT_DP_ERRADDR_ADDR : Field := ⟨0x6054, 0, 32, 0, .ro⟩
/-- R885. Highest reading of any sensor since power-on reset, signed, 0.0625 °C -/
def AGE_TJ_MAX : Field := ⟨0x7070, 16, 16, 0x8000, .ro⟩
/-- R885. Highest present reading over all sensors, signed, 0.0625 °C -/
def AGE_TJ_NOW : Field := ⟨0x7070, 0, 16, 0x8000, .ro⟩

/-- The fields of this page or block, in the order of the spec's tables. -/
def sysFields : List Field :=
  [SYS_CAP_LOOPS, SYS_CAP_SPARES, SYS_CAP_CORES, SYS_CAP_LANES, SYS_CAP_POS, SYS_CAP_AMBER, SYS_CAP_SAFE, SYS_CAP_STSEM] ++
  [SYS_CAP_VARIANT, SYS_PAGE_ID_TYPE, SYS_PAGE_ID_INST, SYS_PAGE_ID_REV, SYS_CTRL_EOI1, SYS_CTRL_EOI0, SYS_STATUS_SPEED, SYS_STATUS_WIDTH] ++
  [SYS_STATUS_STANDALONE, SYS_STATUS_UNLK_ARMED, SYS_STATUS_LOCKV, SYS_IRQ_EN_EN, SYS_IRQ_STAT_PEND, SYS_LOCK_LOCK, SYS_UNLOCK_KEY, SYS_IRQ_GLADE_LO_GLADE] ++
  [SYS_IRQ_GLADE_HI_GLADE, SYS_SERIAL_BYTES 0, SYS_SERIAL_BYTES 1, SYS_SERIAL_BYTES 2, SYS_SERIAL_BYTES 3, SYS_BOOT_CNT_COUNT, SYS_HSTAT_UNLK_REF, SYS_HSTAT_HPAR] ++
  [SYS_HSTAT_PARTIAL, SYS_HSTAT_ADDR_ERR, SYS_ERR_ADDR_ADDR]

/-- The fields of this page or block, in the order of the spec's tables. -/
def armFields : List Field :=
  [ARM_CYC_LEN_LEN, ARM_EXEC_OFS_OFS, ARM_ARM_CMD_GO_BLOCK, ARM_ARM_CMD_GO_RUN, ARM_ARM_CMD_GO_CHARGE, ARM_ARM_CMD_GO_OFF, ARM_ARM_STATE_REFUSE, ARM_ARM_STATE_STATE] ++
  [ARM_CYC_CNT_COUNT, ARM_RT_MAX_RING, ARM_RT_MAX_RT, ARM_SEL_DL_SLACK, ARM_SEL_DL_DL, ARM_NRUN_CCHG, ARM_NRUN_MIN, ARM_REF_MISS_MISS_CNT] ++
  [ARM_REF_MISS_LIMIT, ARM_CYC_STAT_BLOCKFRM, ARM_CYC_STAT_REALIGN, ARM_CYC_STAT_REFUSED, ARM_CYC_STAT_BUDGET, ARM_CYC_STAT_STAT_LATE, ARM_CYC_STAT_REF_LATE, ARM_CYC_PHASE_PHASE] ++
  [ARM_PAGE_ID_TYPE, ARM_PAGE_ID_INST, ARM_PAGE_ID_REV, ARM_CAP_RINGS, ARM_CAP_SM_MAX, ARM_CTRL_I_NEG, ARM_CTRL_I_SRC, ARM_CTRL_REF_LOOP] ++
  [ARM_CTRL_REF_SRC, ARM_STATUS_LOCKV, ARM_IRQ_EN_EN, ARM_IRQ_STAT_PEND, ARM_LOCK_LOCK, ARM_FENCE_FENCE, ARM_REF_VAL_VAL, ARM_REF_SLOPE_SLOPE] ++
  [ARM_I_ARM_I, ARM_LVL_N_END, ARM_LVL_N_START, ARM_SETCNT_N_UNK, ARM_SETCNT_N_SEL, ARM_SETCNT_FB_N_FBP, ARM_SETCNT_FB_N_FB, ARM_V_LVL_V] ++
  [ARM_V_LVL_FB_V, ARM_V_SUM_SUM, ARM_EDGES_COUNT]

/-- The fields of this page or block, in the order of the spec's tables. -/
def rankFields : List Field :=
  [RANK_PAGE_ID_TYPE, RANK_PAGE_ID_INST, RANK_PAGE_ID_REV, RANK_CAP_NEG, RANK_CAP_SPARE, RANK_CTRL_KEY_EN, RANK_CTRL_OBS_EN, RANK_CTRL_NEG_EN] ++
  [RANK_STATUS_KEY_BUSY, RANK_STATUS_SPARE_IN, RANK_STATUS_LOCKV, RANK_IRQ_EN_EN, RANK_IRQ_STAT_PEND, RANK_LOCK_LOCK, RANK_FENCE_FENCE, RANK_BIN_CFG_SHIFT] ++
  [RANK_BIN_CFG_BASE, RANK_SWAP_DWELL, RANK_SWAP_BAND, RANK_I_DEAD_DEAD, RANK_OBS_LIMIT, RANK_KEY_CFG_SAVE, RANK_KEY_CFG_STEP, RANK_KEY_CFG_HYST] ++
  [RANK_KEY_WT_WT_ODD 0, RANK_KEY_WT_WT_ODD 1, RANK_KEY_WT_WT_ODD 2, RANK_KEY_WT_WT_ODD 3, RANK_KEY_WT_WT_ODD 4, RANK_KEY_WT_WT_ODD 5, RANK_KEY_WT_WT_ODD 6, RANK_KEY_WT_WT_ODD 7] ++
  [RANK_KEY_WT_WT_EVEN 0, RANK_KEY_WT_WT_EVEN 1, RANK_KEY_WT_WT_EVEN 2, RANK_KEY_WT_WT_EVEN 3, RANK_KEY_WT_WT_EVEN 4, RANK_KEY_WT_WT_EVEN 5, RANK_KEY_WT_WT_EVEN 6, RANK_KEY_WT_WT_EVEN 7] ++
  [RANK_STAT_KEY_DONE, RANK_STAT_NEUTRAL, RANK_STAT_BAND_FILL, RANK_STAT_UNK_REVERT, RANK_STAT_FENCE_MID, RANK_STAT_DWELL_OVR, RANK_STAT_EDGE_MERGE, RANK_STAT_REF_CLAMP] ++
  [RANK_STAT_REF_SAT, RANK_SEL_INFO_SIGN, RANK_SEL_INFO_HELD, RANK_SEL_INFO_THR_BIN, RANK_SEL_INFO_SEL_NS, RANK_SEL_MAX_MAX, RANK_CNT_SWAP_COUNT, RANK_CNT_SW_COUNT] ++
  [RANK_CNT_EVT_UNK_REV, RANK_CNT_EVT_DWELL_OVR, RANK_SM_IDX_IDX, RANK_SM_REC0_V_REP, RANK_SM_REC0_V_EST, RANK_SM_REC1_KEY, RANK_SM_REC2_TJ, RANK_SM_REC2_DWELL] ++
  [RANK_SM_REC2_AGE, RANK_SM_REC3_BIN, RANK_SM_REC3_TYPE, RANK_SM_REC3_RCNT, RANK_SM_REC3_STATE, RANK_SM_REC3_GROUP, RANK_SM_REC3_HELD, RANK_SM_REC3_INS] ++
  [RANK_SM_REC3_SEL]

/-- The fields of this page or block, in the order of the spec's tables. -/
def edgeFields (e : Nat) : List Field :=
  [RANK_EDGE_N_AFTER e, RANK_EDGE_OFS e]

/-- The fields of this page or block, in the order of the spec's tables. -/
def cmdencFields : List Field :=
  [CMDENC_PAGE_ID_TYPE, CMDENC_PAGE_ID_INST, CMDENC_PAGE_ID_REV, CMDENC_CAP_LEAK, CMDENC_CAP_DCMD_DEPTH, CMDENC_CTRL_HOST_DCMD, CMDENC_CTRL_AUTO_FBP, CMDENC_CTRL_FB_BYP] ++
  [CMDENC_STATUS_LEAK_BUSY, CMDENC_STATUS_HOSTOFF, CMDENC_STATUS_LOCKV, CMDENC_IRQ_EN_EN, CMDENC_IRQ_STAT_PEND, CMDENC_LOCK_LOCK, CMDENC_FENCE_FENCE, CMDENC_TIMING_DEAD] ++
  [CMDENC_TIMING_BLANK, CMDENC_PROT_FBP_TMO, CMDENC_PROT_HOLD_BLK, CMDENC_PROT_UV_CLR, CMDENC_PROT_SC_ARM_LIMIT, CMDENC_STAT_CLR_FAIL, CMDENC_STAT_DCMD_DROP, CMDENC_STAT_HOLD_BLK] ++
  [CMDENC_STAT_FBP_TMO, CMDENC_STAT_FBP_DONE, CMDENC_STAT_LEAK_DONE, CMDENC_STAT_LEAK_FAIL, CMDENC_STAT_UV, CMDENC_STAT_FB_2LEG, CMDENC_STAT_SC_ARM, CMDENC_STAT_DESAT] ++
  [CMDENC_STAT_INTLK, CMDENC_CNT_INTLK, CMDENC_CNT_DESAT, CMDENC_HOLD_CMD_FIRE, CMDENC_HOLD_CMD_FBP_CLR, CMDENC_HOLD_CMD_RELEASE, CMDENC_HOLD_CMD_HOLD, CMDENC_HOLD_CMD_IDX] ++
  [CMDENC_HOLD_INFO_FBP, CMDENC_HOLD_INFO_FIRE_PEND, CMDENC_HOLD_INFO_FW, CMDENC_HOLD_INFO_BLK, CMDENC_HOLD_INFO_LEAK_SW, CMDENC_HOLD_INFO_UV_SW, CMDENC_HOLD_INFO_DESAT_SW, CMDENC_HOLD_INFO_IDX] ++
  [CMDENC_DCMD_OFS, CMDENC_DCMD_SW, CMDENC_DCMD_IDX, CMDENC_DCMD_STAT_DROP, CMDENC_DCMD_STAT_FILL, CMDENC_LEAK_CTRL_LIM, CMDENC_LEAK_CTRL_PER_CYC, CMDENC_LEAK_CTRL_START] ++
  [CMDENC_LEAK_CTRL_CONT, CMDENC_LEAK_CTRL_EN, CMDENC_LEAK_STAT_ROUND, CMDENC_LEAK_STAT_FAILS, CMDENC_LEAK_STAT_POS, CMDENC_DESAT_LAST_SW, CMDENC_DESAT_LAST_IDX, CMDENC_DESAT_TS_TS] ++
  [CMDENC_INTLK_LAST_SRC, CMDENC_INTLK_LAST_TASK, CMDENC_INTLK_LAST_SW, CMDENC_INTLK_LAST_IDX]

/-- The fields of this page or block, in the order of the spec's tables. -/
def ringFields (n : Nat) : List Field :=
  [RING_PAGE_ID_TYPE n, RING_PAGE_ID_INST n, RING_PAGE_ID_REV n, RING_CAP_DUAL_OK n, RING_CAP_SLOTS n, RING_CTRL_ADMIT n, RING_CTRL_EN n, RING_STATUS_STATE n] ++
  [RING_STATUS_REPEAT n, RING_STATUS_LOCKV n, RING_IRQ_EN_EN n, RING_IRQ_STAT_PEND n, RING_LOCK_LOCK n, RING_FENCE_FENCE n, RING_CFG_LOSS_LIM n, RING_CFG_LOSS n] ++
  [RING_CFG_END n, RING_CFG_DUAL n, RING_STAT_LOSS_BLK n, RING_STAT_TLOSS n, RING_STAT_SVC_DONE n, RING_STAT_DIRCHG n, RING_STAT_LOSS_SHORT n, RING_STAT_RT_DRIFT n] ++
  [RING_STAT_IDENT_ERR n, RING_STAT_TOPO n, RING_STAT_CELL_LATE n, RING_STAT_CMD_ERR n, RING_STAT_SLOT_ERR n, RING_STAT_FCRC n, RING_STAT_HCRC n, RING_STAT_LOST n] ++
  [RING_STAT_SKIP n, RING_STAT_BUDGET n, RING_TOPO_NC n, RING_TOPO_RT n, RING_RT_LIVE_MAX n, RING_RT_LIVE_LAST n, RING_CNT_LOST n, RING_CNT_SKIP n] ++
  [RING_CNT_ERR_CRC n, RING_CNT_ERR_SLOT n, RING_ERR_LOC_ERR_HOP n, RING_ERR_LOC_HOPS n, RING_ERR_LOC_MISS n, RING_SLOTS_PRESENT n, RING_SLOTS_VALID n, RING_SVC_CMD_BUSY n] ++
  [RING_SVC_CMD_GO n, RING_SVC_CMD_WR n, RING_SVC_CMD_RESULT n, RING_SVC_CMD_SLOT n, RING_SVC_CMD_WADDR n, RING_SVC_LO_DATA n, RING_SVC_HI_DATA n, RING_LINK_DLY n]

/-- The fields of this page or block, in the order of the spec's tables. -/
def laneFields (n : Nat) : List Field :=
  [LANE_PAGE_ID_TYPE n, LANE_PAGE_ID_INST n, LANE_PAGE_ID_REV n, LANE_CAP_CLASS n, LANE_CAP_ESCAN n, LANE_CAP_RATE1G n, LANE_CTRL_READAPT n, LANE_CTRL_TX_OFF n] ++
  [LANE_CTRL_EN n, LANE_STATUS_REPEAT n, LANE_STATUS_STATE n, LANE_STATUS_ALIGNED n, LANE_STATUS_ES_BUSY n, LANE_STATUS_LOCK n, LANE_STATUS_LOCKV n, LANE_IRQ_EN_EN n] ++
  [LANE_IRQ_STAT_PEND n, LANE_LOCK_LOCK n, LANE_FENCE_FENCE n, LANE_CFG_LOL_LIM n, LANE_CFG_ADAPT n, LANE_CFG_LOOP n, LANE_CFG_RX_INV n, LANE_CFG_TX_INV n] ++
  [LANE_CFG_RATE n, LANE_TX_EQ_SWING n, LANE_TX_EQ_MAIN n, LANE_TX_EQ_POST n, LANE_TX_EQ_PRE n, LANE_RX_EQ_CTLE n, LANE_RX_EQ_T1 n, LANE_RX_EQ_T2 n] ++
  [LANE_RX_EQ_T3 n, LANE_RX_EQ_T4 n, LANE_RX_EQ_T5 n, LANE_STAT_MARGIN n, LANE_STAT_ES_ABORT n, LANE_STAT_ES_DONE n, LANE_STAT_DESKEW n, LANE_STAT_ELASTIC n] ++
  [LANE_STAT_HIBER n, LANE_STAT_LOL n, LANE_STAT_ACQ_FAIL n, LANE_STAT_PRBS_ERR n, LANE_STAT_CODE_ERR n, LANE_CNT_LOL n, LANE_CNT_LOL_WIN n, LANE_CNT_HDR_ERR n] ++
  [LANE_TEST_ERRS n, LANE_TEST_SYNC n, LANE_TEST_CHK n, LANE_TEST_GEN n, LANE_ES_CTRL_GO n, LANE_ES_CTRL_STOP n, LANE_ES_CTRL_FREE n, LANE_ES_CTRL_DWELL n] ++
  [LANE_ES_CTRL_H_STEP n, LANE_ES_CTRL_V_STEP n, LANE_ES_STAT_SLOT n, LANE_ES_STAT_PTS_DONE n, LANE_ES_STAT_RESULT n, LANE_ES_STAT_PTS_TOTAL n, LANE_ES_ADDR_ADDR n, LANE_EYE_MON_W n] ++
  [LANE_EYE_MON_H n, LANE_MCHK_PERIOD n, LANE_MCHK_W_MIN n, LANE_MCHK_H_MIN n, LANE_DESKEW_LLANE n, LANE_DESKEW_PPORT n, LANE_DESKEW_PEER n, LANE_DESKEW_SKEW n]

/-- The fields of this page or block, in the order of the spec's tables. -/
def loopFields (n : Nat) : List Field :=
  [LOOP_PAGE_ID_TYPE n, LOOP_PAGE_ID_INST n, LOOP_PAGE_ID_REV n, LOOP_CAP_UNITS n, LOOP_CTRL_ALL_OFF n, LOOP_STATUS_LOCKV n, LOOP_IRQ_EN_EN n, LOOP_IRQ_STAT_PEND n] ++
  [LOOP_LOCK_LOCK n, LOOP_FENCE_FENCE n]

/-- The fields of this page or block, in the order of the spec's tables. -/
def unitFields (k : Nat) : List Field :=
  [U_CTRL_SP_MODE k, U_CTRL_EN k, U_CFG_PHASE k, U_CFG_POST_OP k, U_CFG_POST_EVT k, U_CFG_EVT k, U_CFG_IN_SEL k, U_CFG_SV_CH k] ++
  [U_TRIG_SRC k, U_TRIG_DIV k, U_TRIG_EVT_IN k, U_TRIG_PH k, U_OPTAG_TAG k, U_OPTAG_OPIDX k, U_KP_GAIN k, U_KI_GAIN k] ++
  [U_KD_GAIN k, U_FF_FF k, U_SP_SP k, U_RATE_RATE k, U_MEAS_Y k, U_SPW_SPW k, U_OUT_OUT k, U_INT_LO_INT k] ++
  [U_INT_HI_INT k, U_Y_PREV_Y k, U_STAT_ACTIVE k, U_STAT_RAMPING k, U_STAT_NOTRIG k, U_STAT_STALE k, U_STAT_OVERRUN k, U_STAT_RAMP_DONE k] ++
  [U_STAT_OUT_WRAP k, U_STAT_INT_WRAP k, U_WRAPCNT_OUT k, U_WRAPCNT_INT k, U_SCNT_SAMPLES k, U_SCNT_OVR k]

/-- The fields of this page or block, in the order of the spec's tables. -/
def pwmFields : List Field :=
  [PWM_PAGE_ID_TYPE, PWM_PAGE_ID_INST, PWM_PAGE_ID_REV, PWM_CAP_PAIRS, PWM_CAP_CHANNELS, PWM_CTRL_RESUME, PWM_CTRL_ALL_OFF, PWM_STATUS_BLK] ++
  [PWM_STATUS_HALT, PWM_STATUS_HELD, PWM_STATUS_LOCKV, PWM_IRQ_EN_EN, PWM_IRQ_STAT_PEND, PWM_LOCK_LOCK, PWM_FENCE_FENCE, PWM_XPAIR_XDEAD] ++
  [PWM_XPAIR_PAIR_EN, PWM_SAFE_LVL_LVL]

/-- The fields of this page or block, in the order of the spec's tables. -/
def chFields (c : Nat) : List Field :=
  [CH_CTRL_FLT_CLR c, CH_CTRL_EN c, CH_CFG_PAIR_WIN c, CH_CFG_SYNC_EN c, CH_CFG_MODE c, CH_PROT_GS_FILT c, CH_PROT_BLANK c, CH_PER_PER c] ++
  [CH_CMP_CMP c, CH_SYNC_PH_PH c, CH_CNT_COUNT c, CH_STAT_FLT_IN c, CH_STAT_GS c, CH_STAT_FLT_LAT c, CH_STAT_OUT c, CH_STAT_PAIRFLT c] ++
  [CH_STAT_XBLOCK c, CH_STAT_UV c, CH_STAT_DESAT c, CH_STAT_SPLIT c, CH_FCNT_XBLOCK c, CH_FCNT_DESAT c, CH_PCNT_PERIODS c]

/-- The fields of this page or block, in the order of the spec's tables. -/
def posFields (n : Nat) : List Field :=
  [POS_PAGE_ID_TYPE n, POS_PAGE_ID_INST n, POS_PAGE_ID_REV n, POS_CAP_EMU n, POS_CTRL_CMP_ARM n, POS_CTRL_IDX_ARM n, POS_CTRL_EMU_EN n, POS_CTRL_EN n] ++
  [POS_STATUS_CMP_ARMED n, POS_STATUS_IDX_ARMED n, POS_STATUS_DIR n, POS_STATUS_MOVED n, POS_STATUS_SPD_NEW n, POS_STATUS_EMU_OVF n, POS_STATUS_BEHIND n, POS_STATUS_CMP n] ++
  [POS_STATUS_INDEX n, POS_STATUS_EDGE_FLT n, POS_STATUS_LOCKV n, POS_IRQ_EN_EN n, POS_IRQ_STAT_PEND n, POS_LOCK_LOCK n, POS_FENCE_FENCE n, POS_CFG_CMP_EVT n] ++
  [POS_CFG_WIN_EVT n, POS_CFG_POST_CMP n, POS_CFG_POST_WIN n, POS_CFG_IDX_MODE n, POS_CFG_DIR_INV n, POS_CFG_MODE n, POS_CFG_MIN_GAP n, POS_POS_COUNT n] ++
  [POS_IDX_LOAD_VAL n, POS_IDX_POS_POS n, POS_SPD_CFG_WIN n, POS_SPD_K_K n, POS_SPDNET_VALID n, POS_SPDNET_START n, POS_SPDNET_REV n, POS_SPDNET_NET n] ++
  [POS_SPEED_SPD n, POS_CMP_CFG_CDIR n, POS_CMP_CFG_CONT n, POS_CMP_POS_VAL n, POS_CMP_TS_TS n, POS_EMU_CFG_Z_PER n, POS_EMU_CFG_OUT_GAP n, POS_EMU_RATIO_RATIO n] ++
  [POS_EMU_STAT_LAG n, POS_EMU_STAT_QSTATE n, POS_CNT_EDGE_FAULT n, POS_CNT_INDEX n]

/-- The fields of this page or block, in the order of the spec's tables. -/
def adcFields (n : Nat) : List Field :=
  [ADC_PAGE_ID_TYPE n, ADC_PAGE_ID_INST n, ADC_PAGE_ID_REV n, ADC_CAP_BURST n, ADC_CAP_INPUTS n, ADC_CTRL_CAL_NOW n, ADC_CTRL_STOP n, ADC_CTRL_GO n] ++
  [ADC_CTRL_EN n, ADC_STATUS_CALD n, ADC_STATUS_PWR n, ADC_STATUS_WAIT n, ADC_STATUS_BUSY n, ADC_STATUS_SAT n, ADC_STATUS_DUTY n, ADC_STATUS_CAL_ERR n] ++
  [ADC_STATUS_OPEN n, ADC_STATUS_OVERRUN n, ADC_STATUS_DONE n, ADC_STATUS_LOCKV n, ADC_IRQ_EN_EN n, ADC_IRQ_STAT_PEND n, ADC_LOCK_LOCK n, ADC_FENCE_FENCE n] ++
  [ADC_REQ_BIAS n, ADC_REQ_MODE n, ADC_REQ_COUNT n, ADC_REQ_CH n, ADC_TRIG_SRC n, ADC_TRIG_EVT_IN n, ADC_TRIG_PH n, ADC_POST_POST_OP n] ++
  [ADC_POST_POST_EVT n, ADC_POST_EVT n, ADC_POST_TAG n, ADC_POST_OPIDX n, ADC_CFG_CAL_PER n, ADC_CFG_DRIFT_LIM n, ADC_CFG_OW_LIM n, ADC_AVG_AVG n] ++
  [ADC_LAST_CH n, ADC_LAST_COUNT n, ADC_LAST_CODE n, ADC_TS_TS n, ADC_BUF_ADDR_ADDR n, ADC_CNT_BURSTS n, ADC_CNT_OVR n]

/-- The fields of this page or block, in the order of the spec's tables. -/
def schedFields : List Field :=
  [SCHED_PAGE_ID_TYPE, SCHED_PAGE_ID_INST, SCHED_PAGE_ID_REV, SCHED_CAP_STORE, SCHED_CAP_MATCHED, SCHED_CAP_FLAGS, SCHED_CAP_TASKS, SCHED_CTRL_DISPATCH] ++
  [SCHED_STATUS_MOVING, SCHED_STATUS_TRACE_ON, SCHED_STATUS_TSET, SCHED_STATUS_LOCKV, SCHED_IRQ_EN_EN, SCHED_IRQ_STAT_PEND, SCHED_LOCK_LOCK, SCHED_FENCE_FENCE] ++
  [SCHED_CFG_MIG_C, SCHED_CFG_CYC_EN, SCHED_CFG_CYC_FLAG, SCHED_FLAG_POST_FLAGS, SCHED_HOP_TAG_TAG, SCHED_HOP_TAG_OPIDX, SCHED_HOP_VAL_VAL, SCHED_STAT_CORE_FENCE] ++
  [SCHED_STAT_TRACE_DROP, SCHED_STAT_SPARE_IN, SCHED_STAT_RESP_LATE, SCHED_STAT_BUF_LOST, SCHED_STAT_TFENCE, SCHED_STAT_ABORT, SCHED_STAT_TBOUND, SCHED_STAT_DUP] ++
  [SCHED_STAT_ORPHAN, SCHED_STAT_MATCH_STALL, SCHED_STAT_MATCH_OVF, SCHED_LOAD_RUN, SCHED_LOAD_STAGED, SCHED_LOAD_READY, SCHED_MATCH_FILL_MAX, SCHED_MATCH_FILL_FILL] ++
  [SCHED_MATCH_CNT_OVF, SCHED_MATCH_CNT_DUP, SCHED_MATCH_CNT_ORPHAN, SCHED_TASK_IDX_IDX, SCHED_TASK_INFO_EN, SCHED_TASK_INFO_FENCED, SCHED_TASK_INFO_STATE, SCHED_TASK_INFO_MATCHED] ++
  [SCHED_TASK_INFO_RULE, SCHED_TASK_INFO_CLASS, SCHED_TASK_INFO_PRIO, SCHED_TASK_INFO_NBUF, SCHED_TASK_INFO_CORE, SCHED_TASK_MASK_MASK, SCHED_TASK_PEND_PEND, SCHED_TASK_PEND_HI_PEND_HI] ++
  [SCHED_TASK_MATCH_TAG_BASE, SCHED_TASK_MATCH_TAG_CNT, SCHED_TASK_MATCH_OPMASK, SCHED_TASK_TIME_TB, SCHED_TASK_TIME_RB, SCHED_TASK_LAST_RUN, SCHED_TASK_LAST_RESP, SCHED_TASK_CNT_DISP] ++
  [SCHED_TASK_CNT_ABORT, SCHED_TASK_CTRL_DISABLE, SCHED_TASK_CTRL_ENABLE, SCHED_ABORT_LAST_CAUSE, SCHED_ABORT_LAST_TASK, SCHED_ABORT_LAST_UNIT, SCHED_ABORT_PC_PC, SCHED_ABORT_TVAL_TVAL] ++
  [SCHED_TRACE_CTRL_EN, SCHED_TRACE_CTRL_SNAP, SCHED_TRACE_CTRL_T_ABORT, SCHED_TRACE_CTRL_T_BUF, SCHED_TRACE_CTRL_T_ITEM, SCHED_TRACE_ADDR_ADDR, SCHED_TRACE_WR_DROP, SCHED_TRACE_WR_WRAPPED] ++
  [SCHED_TRACE_WR_IDX, SCHED_CNT_COAL_COUNT]

/-- The fields of this page or block, in the order of the spec's tables. -/
def timeFields : List Field :=
  [TIME_PAGE_ID_TYPE, TIME_PAGE_ID_INST, TIME_PAGE_ID_REV, TIME_IRQ_EN_EN, TIME_IRQ_STAT_PEND, TIME_LOCK_LOCK, TIME_FENCE_FENCE, TIME_CAP_TCMP] ++
  [TIME_CAP_PPS_OUT, TIME_CAP_PPS_IN, TIME_CTRL_SET, TIME_STATUS_VALID, TIME_STATUS_STEP_HELD, TIME_STATUS_HOLDOVER, TIME_STATUS_LOCKED, TIME_STATUS_LOCKV] ++
  [TIME_NOW_LO_VAL, TIME_NOW_HI_VAL, TIME_NOW_FR_VAL, TIME_SET_LO_VAL, TIME_SET_HI_VAL, TIME_INC_FR_FR, TIME_INC_NS_NS, TIME_SRV_CFG_HOLD_TMO] ++
  [TIME_SRV_CFG_LOCK_THR, TIME_SRV_CFG_STEP_RUN, TIME_SRV_CFG_SRC, TIME_SRV_GAIN_KP, TIME_SRV_GAIN_KI, TIME_STEP_THR_THR, TIME_OFFSET_OFF, TIME_RATE_RATE] ++
  [TIME_TSTAT_STEPS, TIME_TSTAT_FIRE, TIME_TSTAT_CLAMP, TIME_TSTAT_PPS_MISS, TIME_TSTAT_HOLD, TIME_TSTAT_LATE, TIME_TSTAT_STEP, TIME_PPS_CFG_OUT_EN] ++
  [TIME_PPS_CFG_IN_EN, TIME_PPS_CFG_OUT_W, TIME_PPS_CFG_IN_DLY, TIME_PPS_TS_TS, TIME_TCMP_TGT_TGT 0, TIME_TCMP_TGT_TGT 1, TIME_TCMP_TGT_TGT 2, TIME_TCMP_TGT_TGT 3] ++
  [TIME_TCMP_CFG_ARMED 0, TIME_TCMP_CFG_ARMED 1, TIME_TCMP_CFG_ARMED 2, TIME_TCMP_CFG_ARMED 3, TIME_TCMP_CFG_LATE 0, TIME_TCMP_CFG_LATE 1, TIME_TCMP_CFG_LATE 2, TIME_TCMP_CFG_LATE 3] ++
  [TIME_TCMP_CFG_POST 0, TIME_TCMP_CFG_POST 1, TIME_TCMP_CFG_POST 2, TIME_TCMP_CFG_POST 3, TIME_TCMP_CFG_EN 0, TIME_TCMP_CFG_EN 1, TIME_TCMP_CFG_EN 2, TIME_TCMP_CFG_EN 3] ++
  [TIME_TCMP_CFG_FLAG 0, TIME_TCMP_CFG_FLAG 1, TIME_TCMP_CFG_FLAG 2, TIME_TCMP_CFG_FLAG 3]

/-- The fields of this page or block, in the order of the spec's tables. -/
def ethFields (n : Nat) : List Field :=
  [ETH_PAGE_ID_TYPE n, ETH_PAGE_ID_INST n, ETH_PAGE_ID_REV n, ETH_IRQ_EN_EN n, ETH_IRQ_STAT_PEND n, ETH_LOCK_LOCK n, ETH_FENCE_FENCE n, ETH_CAP_RATE1G n] ++
  [ETH_CAP_PAIR_LEAD n, ETH_CTRL_AN_RESTART n, ETH_CTRL_EN n, ETH_STATUS_PAIRED n, ETH_STATUS_AN_DONE n, ETH_STATUS_LINK n, ETH_STATUS_LOCKV n, ETH_CFG_PUB_VLAN n] ++
  [ETH_CFG_PUB_PCP n, ETH_CFG_PUB_VID n, ETH_CFG_PAIR n, ETH_CFG_AN_EN n, ETH_MAC_LO_MAC n, ETH_MAC_HI_MAC n, ETH_PSTAT_UNPAIRED n, ETH_PSTAT_WRONG_LAN n] ++
  [ETH_PSTAT_TYPE_DROP n, ETH_PSTAT_SIZE n, ETH_PSTAT_FCS n, ETH_PSTAT_AN_FAIL n, ETH_PSTAT_LINK_DN n, ETH_RX_CNT_FRAMES n, ETH_ERR_CNT_FCS n, ETH_ERR_CNT_DROP n] ++
  [ETH_PAIR_CNT_DUP n, ETH_PAIR_CNT_UNPAIRED n, ETH_SFP_CMD_GO n, ETH_SFP_CMD_BUSY n, ETH_SFP_CMD_RESULT n, ETH_SFP_CMD_DEV n, ETH_SFP_CMD_ADDR n, ETH_SFP_CMD_DATA n]

/-- The fields of this page or block, in the order of the spec's tables. -/
def netsvFields : List Field :=
  [NETSV_PAGE_ID_TYPE, NETSV_PAGE_ID_INST, NETSV_PAGE_ID_REV, NETSV_IRQ_EN_EN, NETSV_IRQ_STAT_PEND, NETSV_LOCK_LOCK, NETSV_FENCE_FENCE, NETSV_CAP_STREAMS] ++
  [NETSV_CAP_GSUBS, NETSV_CAP_CHANNELS, NETSV_CAP_GPUBS, NETSV_CTRL_GS_EN, NETSV_CTRL_GP_EN, NETSV_CTRL_SV_EN, NETSV_STATUS_PTP_SLAVE, NETSV_STATUS_TRIP] ++
  [NETSV_STATUS_LOCKV, NETSV_SV_CFG_SIM_OK, NETSV_SV_CFG_ARM_CH, NETSV_SVS_EN_LO_EN, NETSV_SVS_EN_HI_EN, NETSV_SVS_INFO_LOST, NETSV_SVS_INFO_CRIT, NETSV_SVS_INFO_SYNCH] ++
  [NETSV_SVS_INFO_SMPCNT, NETSV_SVS_INFO_IDX, NETSV_SVS_CNT_MISS, NETSV_SVS_CNT_QBAD, NETSV_SVC_INFO_STALE, NETSV_SVC_INFO_QBAD, NETSV_SVC_INFO_STREAM, NETSV_SVC_INFO_ENTRY] ++
  [NETSV_SVC_INFO_IDX, NETSV_SVC_VAL_VAL, NETSV_GP_CFG_MAX_T, NETSV_GP_CFG_PUB_EN, NETSV_GP_CFG_MIN_T, NETSV_GP_DATA_DATA, NETSV_GS_EN_EN 0, NETSV_GS_EN_EN 1] ++
  [NETSV_GS_EN_EN 2, NETSV_GS_EN_EN 3, NETSV_GS_INFO_LOST, NETSV_GS_INFO_VAL, NETSV_GS_INFO_CONFREV, NETSV_GS_INFO_TEST, NETSV_GS_INFO_STNUM, NETSV_GS_INFO_IDX] ++
  [NETSV_PTP_CFG_EN, NETSV_PTP_CFG_BC, NETSV_PTP_CFG_SLAVE_ONLY, NETSV_PTP_CFG_PORT_A, NETSV_PTP_CFG_PORT_B, NETSV_PTP_CFG_DOMAIN, NETSV_PTP_CFG_PRIO1, NETSV_PTP_CFG_PRIO2] ++
  [NETSV_PTP_STAT_STATE_A, NETSV_PTP_STAT_STATE_B, NETSV_PTP_STAT_UTC_OFS, NETSV_PTP_MPD_MPD, NETSV_NSTAT_PTP_PARENT, NETSV_NSTAT_PTP_FAULT, NETSV_NSTAT_TRIP_PUB, NETSV_NSTAT_GS_TRIP] ++
  [NETSV_NSTAT_GS_CONFREV, NETSV_NSTAT_GS_LOST, NETSV_NSTAT_SV_SYNCH, NETSV_NSTAT_SV_QBAD, NETSV_NSTAT_SV_MISS, NETSV_NSTAT_SV_LOST]

/-- The fields of this page or block, in the order of the spec's tables. -/
def canopyFields (n : Nat) : List Field :=
  [CANOPY_PAGE_ID_TYPE n, CANOPY_PAGE_ID_INST n, CANOPY_PAGE_ID_REV n, CANOPY_IRQ_EN_EN n, CANOPY_IRQ_STAT_PEND n, CANOPY_LOCK_LOCK n, CANOPY_FENCE_FENCE n, CANOPY_CAP_SESSIONS n] ++
  [CANOPY_CAP_OUTST n, CANOPY_CAP_LANES n, CANOPY_CAP_TIME n, CANOPY_CTRL_EN n, CANOPY_STATUS_AMBER n, CANOPY_STATUS_UP n, CANOPY_STATUS_LOCKV n, CANOPY_CFG_TIME_PER n] ++
  [CANOPY_CFG_TDN n, CANOPY_CFG_TUP n, CANOPY_PEER_VALID n, CANOPY_PEER_PORT n, CANOPY_PEER_DEV n, CANOPY_PSTAT_RXFULL n, CANOPY_PSTAT_PEER_STBY n, CANOPY_PSTAT_ABANDON n] ++
  [CANOPY_PSTAT_BUSY n, CANOPY_PSTAT_LATE n, CANOPY_PSTAT_ORPHAN n, CANOPY_PSTAT_DUPID n, CANOPY_PSTAT_T_NV n, CANOPY_PSTAT_HOPS0 n, CANOPY_PSTAT_NOROUTE n, CANOPY_PSTAT_MCRC n] ++
  [CANOPY_PSTAT_DOWN n, CANOPY_TX_CNT_COUNT n, CANOPY_RX_CNT_COUNT n, CANOPY_ERR_CNT_MCRC n, CANOPY_ERR_CNT_DROP n, CANOPY_TDLY_DLY n]

/-- The fields of this page or block, in the order of the spec's tables. -/
def amberFields : List Field :=
  [AMBER_PAGE_ID_TYPE, AMBER_PAGE_ID_INST, AMBER_PAGE_ID_REV, AMBER_IRQ_EN_EN, AMBER_IRQ_STAT_PEND, AMBER_LOCK_LOCK, AMBER_FENCE_FENCE, AMBER_CAP_RGN_MAX] ++
  [AMBER_CTRL_HANDOVER, AMBER_STATUS_FRAMES_SEEN, AMBER_STATUS_PEER_SEEN, AMBER_STATUS_PEER_READY, AMBER_STATUS_READY, AMBER_STATUS_ROLE, AMBER_STATUS_LOCKV, AMBER_CFG_EN] ++
  [AMBER_CFG_PREF, AMBER_CFG_HB_RUN, AMBER_CFG_PORT, AMBER_CFG_TSRC, AMBER_CFG_HB_MARGIN, AMBER_CFG_PEER, AMBER_RUN_CLS_CLS, AMBER_SUP_SUP_MS] ++
  [AMBER_REGION_HW8, AMBER_REGION_SIZE, AMBER_CK_SEQ_VAL, AMBER_CK_CYC_VAL, AMBER_HO_AGE_HOURS, AMBER_ASTAT_TK_FAIL, AMBER_ASTAT_CFG_MIS, AMBER_ASTAT_TAKEBACK] ++
  [AMBER_ASTAT_PEER_LOST, AMBER_ASTAT_YIELD, AMBER_ASTAT_SPLIT, AMBER_ASTAT_SIZE, AMBER_ASTAT_CK_BAD, AMBER_ASTAT_CK_LATE, AMBER_ASTAT_HANDOVER, AMBER_ASTAT_TAKEOVER] ++
  [AMBER_TK_LAST_TK, AMBER_TK_LAST_RST]

/-- The fields of this page or block, in the order of the spec's tables. -/
def canopy0Fields : List Field :=
  [CANOPY_DEVID_SET, CANOPY_DEVID_ID, CANOPY_SESS_IDX_IDX, CANOPY_SESS_CTRL_RX_REL, CANOPY_SESS_CTRL_DISABLE, CANOPY_SESS_CTRL_ENABLE, CANOPY_SESS_INFO_EN, CANOPY_SESS_INFO_PEER_STBY] ++
  [CANOPY_SESS_INFO_MODE, CANOPY_SESS_INFO_OUT, CANOPY_SESS_INFO_RXFILL, CANOPY_SESS_INFO_PEER, CANOPY_SESS_INFO_SEQ, CANOPY_SESS_CNT_BUSY, CANOPY_SESS_CNT_ABANDON, CANOPY_SESS_CNT_RETX] ++
  [CANOPY_SESS_CNT_LATE]

/-- The fields of this page or block, in the order of the spec's tables. -/
def sendFields (s : Nat) : List Field :=
  [CANOPY_SEND_DL s, CANOPY_SEND_BUSY s, CANOPY_SEND_DOWN s, CANOPY_SEND_DL_U s, CANOPY_SEND_FREE s, CANOPY_SEND_LEN s]

/-- The fields of this page or block, in the order of the spec's tables. -/
def routeFields (w : Nat) : List Field :=
  [CANOPY_ROUTE_VALID w 0, CANOPY_ROUTE_PORT w 0, CANOPY_ROUTE_VALID w 1, CANOPY_ROUTE_PORT w 1, CANOPY_ROUTE_VALID w 2, CANOPY_ROUTE_PORT w 2, CANOPY_ROUTE_VALID w 3, CANOPY_ROUTE_PORT w 3] ++
  [CANOPY_ROUTE_VALID w 4, CANOPY_ROUTE_PORT w 4, CANOPY_ROUTE_VALID w 5, CANOPY_ROUTE_PORT w 5, CANOPY_ROUTE_VALID w 6, CANOPY_ROUTE_PORT w 6, CANOPY_ROUTE_VALID w 7, CANOPY_ROUTE_PORT w 7]

/-- The fields of this page or block, in the order of the spec's tables. -/
def safeFields : List Field :=
  [SAFE_PAGE_ID_TYPE, SAFE_PAGE_ID_INST, SAFE_PAGE_ID_REV, SAFE_CAP_CONN, SAFE_CAP_OUTPUTS, SAFE_CAP_INPUTS, SAFE_CAP_TPS, SAFE_STATUS_RST_IN] ++
  [SAFE_STATUS_PERM, SAFE_STATUS_STATE, SAFE_STATUS_PSET_OK, SAFE_STATUS_LOCKV, SAFE_IRQ_EN_EN, SAFE_IRQ_STAT_PEND, SAFE_LOCK_LOCK, SAFE_FENCE_FENCE] ++
  [SAFE_PSET_ID_VAL, SAFE_PSET_CRC_VAL, SAFE_IN_STATE_WAIT, SAFE_IN_STATE_REL, SAFE_IN_LEVEL_B, SAFE_IN_LEVEL_A, SAFE_IN_FAULT_FLT, SAFE_OUT_STATE_FLT] ++
  [SAFE_OUT_STATE_EDM, SAFE_OUT_STATE_ON_REQ, SAFE_OUT_STATE_B, SAFE_OUT_STATE_A, SAFE_CONN_RUN_BITS, SAFE_CONN_WAIT_BITS, SAFE_LOCK_CAUSE_CAUSE, SAFE_LOCK_CAUSE_INDEX] ++
  [SAFE_LOCK_CAUSE_COUNT, SAFE_SSTAT_RST_LONG, SAFE_SSTAT_RST_ACC, SAFE_SSTAT_CONN_CHK, SAFE_SSTAT_CONN_FAIL, SAFE_SSTAT_EDM, SAFE_SSTAT_OUT_TEST, SAFE_SSTAT_TP] ++
  [SAFE_SSTAT_DISC, SAFE_SSTAT_DEMAND, SAFE_SSTAT_LOCKOUT, SAFE_DEM_TS_TS, SAFE_OFF_TS_TS]

/-- The fields of this page or block, in the order of the spec's tables. -/
def connCntFields (c : Nat) : List Field :=
  [SAFE_CONN_CNT_CHK c, SAFE_CONN_CNT_WDX c]

/-- The fields of this page or block, in the order of the spec's tables. -/
def fltFields : List Field :=
  [FLT_PAGE_ID_TYPE, FLT_PAGE_ID_INST, FLT_PAGE_ID_REV, FLT_CAP_CLASSES, FLT_CAP_HIST, FLT_CTRL_HIST_CLR, FLT_STATUS_FROZEN, FLT_STATUS_BLK] ++
  [FLT_STATUS_LEVEL, FLT_STATUS_ACK_REF, FLT_STATUS_LOCKV, FLT_IRQ_EN_EN, FLT_IRQ_STAT_PEND, FLT_LOCK_LOCK, FLT_FENCE_FENCE, FLT_BASE_LVL 1] ++
  [FLT_BASE_LVL 2, FLT_BASE_LVL 3, FLT_BASE_LVL 4, FLT_BASE_LVL 5, FLT_BASE_LVL 6, FLT_BASE_LVL 7, FLT_BASE_LVL 8, FLT_BASE_LVL 9] ++
  [FLT_BASE_LVL 10, FLT_BASE_LVL 11, FLT_BASE_LVL 12, FLT_BASE_LVL 13, FLT_BASE_LVL 14, FLT_BASE_LVL 15, FLT_BASE_LVL 16, FLT_BASE_LVL 17] ++
  [FLT_BASE_LVL 18, FLT_BASE_LVL 19, FLT_BASE_LVL 20, FLT_BASE_LVL 21, FLT_BASE_LVL 22, FLT_CFG_EVT_EN, FLT_CFG_EVT, FLT_CFG_HIST_MIN] ++
  [FLT_ACK_ACK, FLT_OPEN_OPEN, FLT_UNFENCE_GO, FLT_UNFENCE_TASK, FLT_UNFENCE_RESULT, FLT_UNFENCE_ID, FLT_REC_IDX_CLASS, FLT_REC_WORD 0] ++
  [FLT_REC_WORD 1, FLT_REC_WORD 2, FLT_REC_WORD 3, FLT_HIST_WR_OVWR, FLT_HIST_WR_WRAPPED, FLT_HIST_WR_IDX, FLT_CNT_EVENTS, FLT_CNT_SCRUB] ++
  [FLT_L0_LAST_CLASS, FLT_L0_LAST_UNIT, FLT_L0_AUX_AUX]

/-- The fields of this page or block, in the order of the spec's tables. -/
def histFields (e : Nat) (w : Nat) : List Field :=
  [FLT_HIST_WORD e w]

/-- The fields of this page or block, in the order of the spec's tables. -/
def secFields : List Field :=
  [SEC_PAGE_ID_TYPE, SEC_PAGE_ID_INST, SEC_PAGE_ID_REV, SEC_IRQ_EN_EN, SEC_IRQ_STAT_PEND, SEC_LOCK_LOCK, SEC_FENCE_FENCE, SEC_CAP_SVN_MAX] ++
  [SEC_CAP_KEYSLOTS, SEC_CTRL_RETURN_PREP, SEC_CTRL_COMMIT_SVN, SEC_CTRL_DBG_CLOSE, SEC_CTRL_DBG_AUTH, SEC_CTRL_DBG_CHAL, SEC_CTRL_QUOTE, SEC_STATUS_SVN] ++
  [SEC_STATUS_CNT, SEC_STATUS_RETURNED, SEC_STATUS_DBG_LOCKED, SEC_STATUS_DBG_OPEN, SEC_STATUS_BUSY, SEC_STATUS_SLOT, SEC_STATUS_FALLBACK, SEC_STATUS_LOCKV] ++
  [SEC_EVT_RET_DONE, SEC_EVT_STORE_SIG, SEC_EVT_ROLLBACK, SEC_EVT_SIG_FAIL, SEC_EVT_DBG_FAIL, SEC_EVT_QUOTE_DONE, SEC_RET_ARM_KEY, SEC_RET_ARM_IMG] ++
  [SEC_QBUF_ADDR_ADDR]

/-- The fields of this page or block, in the order of the spec's tables. -/
def nvmFields : List Field :=
  [NVM_PAGE_ID_TYPE, NVM_PAGE_ID_INST, NVM_PAGE_ID_REV, NVM_IRQ_EN_EN, NVM_IRQ_STAT_PEND, NVM_LOCK_LOCK, NVM_FENCE_FENCE, NVM_RAM_ADDR_ADDR] ++
  [NVM_IMG_ADDR_ADDR, NVM_HIST_ADDR_ADDR, NVM_RET_ADDR_ADDR, NVM_CAP_SIZE, NVM_CAP_SECTOR, NVM_CTRL_PART, NVM_CTRL_IMG_COMMIT, NVM_CTRL_RELOAD] ++
  [NVM_CTRL_STORE, NVM_STATUS_ENDUR_WARN, NVM_STATUS_REFRESHING, NVM_STATUS_BUSY, NVM_STATUS_DIRTY_P, NVM_STATUS_DIRTY_U, NVM_STATUS_LOCKV, NVM_NSTAT_REFRESH_ERR] ++
  [NVM_NSTAT_ENDUR, NVM_NSTAT_IMG_BAD, NVM_NSTAT_IMG_OK, NVM_NSTAT_STORE_FAIL, NVM_NSTAT_STORE_DONE, NVM_BOOT_PREF, NVM_RESULT_CODE, NVM_SEQ_STORE_SEQ] ++
  [NVM_WEAR_REFRESH, NVM_WEAR_MAX]

/-- The fields of this page or block, in the order of the spec's tables. -/
def ageFields : List Field :=
  [AGE_PAGE_ID_TYPE, AGE_PAGE_ID_INST, AGE_PAGE_ID_REV, AGE_IRQ_EN_EN, AGE_IRQ_STAT_PEND, AGE_LOCK_LOCK, AGE_FENCE_FENCE, AGE_LOG_ADDR_ADDR] ++
  [AGE_CAP_HIST_SPARE, AGE_CAP_RANK_SPARE, AGE_CAP_ROWS, AGE_CTRL_RUN_REPLAN, AGE_CTRL_EN, AGE_STATUS_REPLAN, AGE_STATUS_LOCKV, AGE_ASTAT_CLK_MIN] ++
  [AGE_ASTAT_AVS_MAX, AGE_ASTAT_AVS_FAIL, AGE_ASTAT_BUDGET, AGE_ASTAT_MARGIN, AGE_ASTAT_NOSPARE, AGE_ASTAT_SPARE_IN, AGE_CFG_BUD_MIN, AGE_CFG_MAR_HI] ++
  [AGE_CFG_MAR_LO, AGE_AVS_ADDR, AGE_AVS_VDD, AGE_CLK_SLACK 0, AGE_CLK_SLACK 1, AGE_CLK_SLACK 2, AGE_CLK_MHZ 0, AGE_CLK_MHZ 1] ++
  [AGE_CLK_MHZ 2, AGE_LOG_WR_WRAPPED, AGE_LOG_WR_IDX, AGE_HOURS_HOURS, AGE_TJ_MAX, AGE_TJ_NOW]

/-- The fields of this page or block, in the order of the spec's tables. -/
def dportFields : List Field :=
  [DPORT_PAGE_ID_TYPE, DPORT_PAGE_ID_INST, DPORT_PAGE_ID_REV, DPORT_CAP_WINDOW, DPORT_CAP_STRIDES, DPORT_STATUS_BUSY, DPORT_STATUS_MOVEWAIT, DPORT_STATUS_LOCKV] ++
  [DPORT_IRQ_EN_EN, DPORT_IRQ_STAT_PEND, DPORT_LOCK_LOCK, DPORT_DP_ADDR_ADDR, DPORT_DP_DATA_DATA, DPORT_DP_DATA_HI_DATA, DPORT_DP_CTRL_INC, DPORT_DP_CTRL_STRIDE] ++
  [DPORT_DP_STAT_ERRCNT, DPORT_DP_STAT_CODE, DPORT_DP_STAT_ERR, DPORT_DP_ERRADDR_ADDR]

end R

end Sys2Proof.Machine
end

