-- ==== Sys2Proof/Machine/Parts.lean ====
section
/-! DEFINITION. The parts of the machine's state, one group per chapter: what the spec gives each block beyond the
fields of its register page (which Machine/RegTable.lean lists and State.regs holds). Every field is plain data. -/

namespace Sys2Proof.Machine

/-! ## Architecture (chapter 01) -/

/-- One glade (R12 to R17, R21): held in reset, stopped by L4, its clock lost, at which elapsed time (R742), and the fault class that
fenced it (0: not fenced). -/
structure GladeSt where
  inReset  : Bool := true
  stopped  : Bool := false
  clkBad   : Bool := false
  badAt    : Nat := 0
  fencedBy : Nat := 0
  gated    : Bool := false
deriving DecidableEq, Repr

/-- What status bits, and the IRQ_STAT bits that serve them, were before they were raised, and the messages that the raising sent: for a
same-edge rule that takes it back. -/
structure BitsBack where
  bits : List (Field × Bool × Bool) := []
  sent : Nat := 0
deriving DecidableEq, Repr

/-- A status bit and an event that an elapsed instant has brought, for a same-edge rule that takes them back. -/
structure RaiseBack where
  at_  : Nat
  bits : BitsBack
  ev   : Event
deriving DecidableEq, Repr

/-- What the post of an event flag leaves to take back by a same-edge rule (R492, R560): the instant, the flag, which tasks held it and were
ready before it, and what COAL has counted for it. -/
structure FlagBack where
  at_   : Nat
  flag  : Option Nat
  tasks : List (Nat × Bool × Bool)
  coal  : Nat
deriving DecidableEq, Repr

/-! ## Faults (chapter 15) -/

/-- R743, R744: one record or history entry. `tsNs` is device time in ns at the decision, `tsEl` the elapsed time then
and `endNs` that at which the cause went away, from which DUR is taken; `standing` is its OPEN bit, `src` tells causes of one unit and AUX
apart (`Event.src`). -/
structure FaultRec where
  used     : Bool := false
  cls      : Nat := 0
  level    : Nat := 0
  esc      : Bool := false
  standing : Bool := false
  fenced   : Bool := false
  glade    : Bool := false
  unit     : Nat := 0
  tsNs     : Nat := 0
  tsEl     : Nat := 0
  endNs    : Nat := 0
  aux      : Nat := 0
  rep      : Nat := 0
  group    : Option Nat := none
  src      : Nat := 0
deriving DecidableEq, Repr

/-- The fault collector beyond the FLT page: events that wait, with the elapsed times of their arrival beside them, the class records by class code, the history entries,
the fences of units and tasks with the class that set them, the device's L4, the freezing of the history with its elapsed
time in ns, and the rails whose excursion stands (R882). -/
structure FltSt where
  inbox   : List Event := []
  inboxAt : List Nat := []
  recs    : Tab FaultRec := []
  hist    : Tab FaultRec := []
  units   : Tab Nat := []
  tasks   : Tab Nat := []
  l4      : Bool := false
  frozen  : Bool := false
  frozeNs : Nat := 0
  rails   : List Nat := []
deriving DecidableEq, Repr

/-! ## Host access (chapter 17) and start-up (chapter 18) -/

/-- R866: how far start-up has come. -/
inductive StartPhase where
  | reset | released | locked | verified | stopped | applied
deriving DecidableEq, Repr

/-- The host interface beyond the SYS and DPORT pages. `rdata` holds the words or bytes of the last read, `readErr`
an error completion; `unlk` the writer that armed the unlock sequence; `dpWait` the bytes (handle, offset, value) that wait for
a buffer move and `dpNext` the DP_ADDR that waits behind them (R36, R839); `setP` the initial values of RWT fields by address and lowest bit (R776); `msix0`, `msix1` count the messages sent; `vsafeLow`
says that VSAFE lies below the threshold of the power-on reset circuit (R864, R882). -/
structure HostSt where
  rdata    : List Nat := []
  readErr  : Bool := false
  spiErr   : Bool := false
  unlk     : Option Writer := none
  msix0    : Nat := 0
  msix1    : Nat := 0
  dpWait   : List (Nat × Nat × Byte) := []
  dpNext   : Option Nat := none
  links    : List (Nat × Nat) := []
  setP     : List (Nat × Nat × Nat) := []
  discards : Tab Nat := []
  phase    : StartPhase := .reset
  sfpBad   : List Nat := []
  laneHeld : List Nat := []
  boards   : List BoardExpect := []
  vsafeLow : Bool := false
deriving DecidableEq, Repr

/-! ## The arm cycle (chapter 02) -/

/-- R61: the arm states. -/
inductive ArmMode where
  | off | charge | blocked | run | debugHalt
deriving DecidableEq, Repr

/-- R52: a state command that waits for a commit. -/
inductive ArmReq where
  | off | charge | run
deriving DecidableEq, Repr

/-- R69, R71: a reference as exact numbers: the value at the window start in 1/65,536,000 V, and the slope per ns in
the same unit as `dval / den`. -/
structure Reference where
  val  : Int := 0
  dval : Int := 0
  den  : Nat := 1
deriving DecidableEq, Repr

/-- The arm cycle beyond the ARM page. `cycStart` and `nextTk` are device time in units of 2^-32 ns, `cycEl` the elapsed time of the
cycle start and `cycNo` its number; the arrivals `freshAt`, `nextAt` and `lastStat` (by ring) are device
time since the cycle start, and `selEl` is the elapsed time of the selection start, `selWas` what it found in the counters and bits that it moves on. `pend` waits for a commit and
`pendLate` says that it was written after SEL_DL (R54); `stepped` marks a cycle start at which time was stepped (R874); `last` is the previous reference, `fresh` the one delivered for
the cycle in progress and `nextRef` one that counts for the next cycle (R47). `nextAt` is the time of its delivery. `used` is the last
delivered reference, which no extrapolation changes; `refCyc` and `planCyc` are the cycle counts of the selection that used it and of the last
commit (R635). -/
structure ArmSt where
  mode      : ArmMode := .off
  prev      : ArmMode := .off
  pend      : Option ArmReq := none
  pendLate  : Bool := false
  cycStart  : Nat := 0
  nextTk    : Nat := 0
  running   : Bool := false
  selDone   : Bool := false
  selAtDl   : Bool := false
  selMode   : Bool := false
  committed : Bool := false
  last      : Reference := {}
  fresh     : Option Reference := none
  freshAt   : Int := 0
  nextRef   : Option Reference := none
  loopFirst : Bool := true
  loopPrev  : Int := 0
  lastStat  : Tab Nat := []
  selRings  : List Nat := []
  stepped   : Bool := false
  used      : Reference := {}
  refCyc    : Nat := 0
  nextAt    : Int := 0
  planCyc   : Nat := 0
  cycEl     : Nat := 0
  cycNo     : Nat := 0
  selEl     : Nat := 0
  selWas    : List Nat := []
deriving DecidableEq, Repr

/-! ## Level timing and selection (chapter 03) -/

/-- R105, R82 to R101: the record of one sub-module: identity constants, report counts, the observer's voltage in 1/256
of 0.1 V, and the stress tracker. `ins` is its commanded polarity at the end of the last committed window: 0 not
inserted, 1 inserted, 2 inserted negatively. `sw0` is the switch word held before the changes in `sws`, each at its
device time in ns (R87). `await` is a
record restored at a takeover that waits for its first valid report (R642). -/
structure SmRec where
  present : Bool := false
  full    : Bool := false
  capUf   : Nat := 0
  serial  : Nat := 0
  rcnt    : Nat := 0
  age     : Nat := 0
  vFix    : Nat := 0
  vRep    : Nat := 0
  seen    : Bool := false
  basis   : Nat := 0
  tj      : Nat := 0
  dwell   : Nat := 255
  key     : Nat := 0
  tracked : Bool := false
  tp      : Int := 0
  ext     : Int := 0
  rising  : Bool := true
  ins     : Nat := 0
  endSw   : Nat := 0
  group   : Nat := 0
  sel     : Bool := false
  sw0     : Nat := 0
  sws     : List (Nat × Nat) := []
  await   : Bool := false
deriving DecidableEq, Repr

/-- R74 to R97: a plan computed at the selection start: levels, edges (offset in 10 ns units, level after), and per
member its start word state and its edge, as polarity codes of `SmRec.ins`. -/
structure Plan where
  nStart : Int := 0
  nEnd   : Int := 0
  edges  : List (Nat × Int) := []
  moves  : List (Nat × Nat × Option (Nat × Nat)) := []
deriving DecidableEq, Repr

/-- The rank engine beyond the RANK page. `discharge` is the held sign; `decided` says that it was decided outside the dead
band since reset (R91, R635). -/
structure RankSt where
  recs      : Tab SmRec := []
  discharge : Bool := false
  decided   : Bool := false
  plan      : Option Plan := none
  keySave   : List Nat := []
deriving DecidableEq, Repr

/-! ## Commands and switch protection (chapter 04) -/

/-- R183: the reasons that a RELEASE has just cleared, and the elapsed time at which it did. -/
structure Released where
  at_  : Nat
  fw   : Bool
  uv   : Nat
  leak : Nat
deriving DecidableEq, Repr

/-- R169 to R180: the protection state of one sub-module. `seen` is the desaturation set recorded since the last release (R163),
`scAt` the elapsed time of the last new report and `rel` the last RELEASE, for the same-edge rows of R183;
`uvClean` counts clean reports per switch (four bytes),
`clr` is a CLEAR_FAULT to send, `clrSent` one that the next valid report judges; `blkCnt` counts BLOCK windows;
`blkDue` holds the action of R173 from the count's arrival at HOLD_BLK until it is taken;
`fireNs` is the elapsed time of the bypass request in ns. -/
structure SmProt where
  fw       : Bool := false
  desat    : Nat := 0
  seen     : Nat := 0
  scAt     : Option Nat := none
  rel      : Option Released := none
  uv       : Nat := 0
  uvClean  : Nat := 0
  uvPrev   : Nat := 0
  leak     : Nat := 0
  fire     : Bool := false
  fireTmo  : Bool := false
  fireNs   : Nat := 0
  fbp      : Bool := false
  repFbp   : Bool := false
  repDesat : Nat := 0
  clr      : Bool := false
  clrSent  : Bool := false
  blkCnt   : Nat := 0
  blkDue   : Bool := false
  lkPend   : Bool := false
  lkReq    : Bool := false
deriving DecidableEq, Repr

/-- R152, R215: the command slot of one cell: start entry, edge entry and action. Tags are the low 32 bits of device
time in ns; `sAt` and `eAt` are the full times. -/
structure SlotCmd where
  sValid  : Bool := false
  sTagged : Bool := false
  sSw     : Nat := 0
  sAt     : Nat := 0
  eValid  : Bool := false
  eTagged : Bool := false
  eSw     : Nat := 0
  eAt     : Nat := 0
  act     : Nat := 0
deriving DecidableEq, Repr

/-- R158: one direct command waiting. `src` is 1 for a task, 2 for the host. -/
structure Dcmd where
  idx  : Nat
  sw   : Nat
  ofs  : Nat
  src  : Nat
  task : Nat
  at_  : Nat
deriving DecidableEq, Repr

/-- The command encoder beyond the CMDENC page: protection states and the planned slots by sub-module index, the
direct commands that wait, the sub-modules with a new desaturation report in the cycle, and the open leakage round. -/
structure EncSt where
  prot    : Tab SmProt := []
  slots   : Tab SlotCmd := []
  blockAll : Bool := true
  dcmds   : List Dcmd := []
  scList  : List Nat := []
  lkOpen  : Bool := false
deriving DecidableEq, Repr

/-! ## Cell rings (chapter 05) -/

/-- R247: the ring states. -/
inductive RingMode where
  | down | probe | enum | ident | tsync | ready | admitted | fenced
deriving DecidableEq, Repr

/-- R235, R236: what IDENT keeps of one cell's identity memory. -/
structure CellIdent where
  full   : Bool := false
  capUf  : Nat := 0
  serial : Nat := 0
  stress : Nat := 0
  fbpRec : Bool := false
deriving DecidableEq, Repr

/-- Who asked for a service access. -/
inductive SvcSrc where
  | ident | keySave | host
deriving DecidableEq, Repr

/-- R219: one service access: its target word, its data, the sends made, whether its frame is under way, and that frame's SEQ. -/
structure SvcAcc where
  src    : SvcSrc
  slot   : Nat
  wr     : Bool
  waddr  : Nat
  data   : Nat
  sends  : Nat := 0
  flying : Bool := false
  seq    : Nat := 0
deriving DecidableEq, Repr

/-- R212 to R219: a frame as it leaves the device; `sv` holds SV0 and SV1 of a SERVICE frame. -/
structure RingFrame where
  ftype  : Nat
  dir    : Nat
  nc     : Nat
  seq    : Nat
  blank  : Nat
  dead   : Nat
  loss   : Nat
  tvalid : Bool
  time   : Nat
  corr   : Nat
  slots  : List SlotCmd
  sv     : List Nat := []
deriving DecidableEq, Repr

/-- One ring beyond its page. `sent`, `hdr`, `got`, `judged` follow the per-cycle frame of the cycle in progress (R239); `got` is
the mask of the slots that have arrived, `back` says that its CRC block has, `cut` that it lost blocks at the receiver (R266), `late`
that its header had not come back at SEL_DL. `blkSeqs` and `blkOld` hold the SEQ of the arm glade's BLOCK frames sent between cycle
starts since the last cycle start and in the cycle before, `seqOut` the SEQ of the NORMAL frames that have not come back, the newest
first (R241); `txEnd` is the elapsed time at which the last block of the last frame leaves, `outAt` that at which its first block leaves,
and `outWas` the frame before it, which may still be in transmission until then (R243). -/
structure RingSt where
  mode     : RingMode := .down
  lastHops : Option Nat := none
  idents   : Tab CellIdent := []
  idSlot   : Nat := 0
  idWords  : List Nat := []
  idBad    : Bool := false
  serials  : Tab Nat := []
  tsync    : Tab Nat := []
  seq      : Nat := 0
  frameSeq : Nat := 0
  sent     : Bool := false
  hdr      : Bool := false
  got      : Nat := 0
  judged   : Bool := true
  miss     : Bool := false
  svc      : Option SvcAcc := none
  svcHost  : Option SvcAcc := none
  svcKeys  : List (Nat × Nat) := []
  blkWait  : Bool := false
  admitDue : Bool := false
  budgetEv : Bool := false
  lossEv   : Bool := false
  back     : Bool := false
  cut      : Bool := false
  blkSeqs  : List Nat := []
  blkOld   : List Nat := []
  late     : Bool := false
  seqOut   : List Nat := []
  txEnd    : Nat := 0
  timing   : Nat × Nat × Nat := (150, 200, 50)
  out      : Option RingFrame := none
  outWas   : Option RingFrame := none
  outAt    : Nat := 0
deriving DecidableEq, Repr

/-! ## Serial lanes (chapter 06) -/

/-- R290: the lane states. -/
inductive LaneMode where
  | off | cal | acq | adapt | sync | locked
deriving DecidableEq, Repr

/-- R282: a lane's full scan: none, waiting for a slot or for a cross scan, or running. -/
inductive ScanMode where
  | none | waiting | running
deriving DecidableEq, Repr

/-- One lane beyond its page. `rep` is repeat mode (R267); `win` says that the 1.0 s windows run (R269); `cross` that a cross scan runs and
`second` that it is the repeat of R284; `defer` is a re-adaptation that waits for a scan's end (R285). `trackAt` is the elapsed time at
which the taps last stood still (R272), `prbs` a checker that has synchronised (R279), `rptOut` the coded blocks repeated last (R267),
`ansOut` the answers to the far end's probes that the lane sent last (R233), `eqAt` the elapsed time of the last write to RX_EQ (R275). -/
structure LaneSt where
  mode     : LaneMode := .off
  win      : Bool := false
  readapt  : Bool := false
  defer    : Bool := false
  scan     : ScanMode := .none
  point    : Nat := 0
  vStep    : Nat := 0
  hStep    : Nat := 0
  slot     : Option Nat := none
  rep      : Bool := false
  cross    : Bool := false
  second   : Bool := false
  trackAt  : Nat := 0
  prbs     : Bool := false
  rptOut   : List (Nat × Nat) := []
  ansOut   : List Nat := []
  eqAt     : Option Nat := none
deriving DecidableEq, Repr

/-- R209, R265, R267, R279, R295: what a lane's transmitter carries: nothing at all, 64 bits of the test pattern, coded blocks as they
stand on the wire, each a sync header and its scrambled payload, or what an Ethernet port sends, and whether in the other polarity. -/
inductive LaneLine where
  | quiet
  | prbs (bits : Nat)
  | wire (blocks : List (Nat × Nat))
  | packets (inv : Bool)
deriving DecidableEq, Repr

/-! ## The closed-loop engine (chapter 07) -/

/-- R318, R320, R321: what a sample takes at its trigger edge: measurement, gains, feed-forward, set-point and ramp step as register
words, a ramp start, and a ramp under way, with the words of U_CFG and U_OPTAG; `step` says that a set-point in STEP mode has been
written since. -/
structure LoopSnap where
  y       : Nat := 0
  kp      : Nat := 0
  ki      : Nat := 0
  kd      : Nat := 0
  ff      : Nat := 0
  sp      : Nat := 0
  rate    : Nat := 0
  pend    : Bool := false
  ramping : Bool := false
  step    : Bool := false
  cfg     : Nat := 0
  optag   : Nat := 0
  news    : List Nat := []
deriving DecidableEq, Repr

/-- One loop unit beyond its block: the 48-bit integrator, the staged and latched halves of R319, the ramp state of
R318, the phase-trigger count of R313, the sample that waits with what it took at its trigger edge (R315), the sampled-value channels
that have brought a value since the previous sample (R316), the posts of its flag whose trigger has not reached it, the elapsed time of the
last of them, and the last phase trigger: the number of its cycle and its PH (R312). For the ties of R321, in elapsed time: the trigger
edge of the waiting sample, the last EN write of 0, the last ALL_OFF, a trigger edge that met EN = 0, and the last sample with its di. -/
structure LoopSt where
  int      : Nat := 0
  stage    : Nat := 0
  latch    : Nat := 0
  rampPend : Bool := false
  ramping  : Bool := false
  phase    : Nat := 0
  waiting  : Bool := false
  snap     : LoopSnap := {}
  news     : List Nat := []
  trigs    : Nat := 0
  trigAt   : Option Nat := none
  trigCyc  : Option (Nat × Nat) := none
  edgeAt   : Option Nat := none
  offAt    : Option Nat := none
  allAt    : Option Nat := none
  missed   : Option Nat := none
  di       : Option (Nat × Int) := none
deriving DecidableEq, Repr

/-! ## Device time (chapter 12) -/

/-- R560: what a servo step has changed on its tick, so that a SET on the same tick takes it back: the elapsed time, the change of device
time in ns, TSTAT.STEP, LOCKED and STEP_HELD before it, and the run of small offsets. -/
structure StepDone where
  at_    : Nat
  dNs    : Int
  flag   : BitsBack
  locked : Bool
  held   : Bool
  cnt    : Nat
deriving DecidableEq, Repr

/-- R560: a compare channel that has fired, so that a new target or a step on the same tick takes it back: the elapsed time, the channel,
whether it fired late, its bits before, and its flag's post. -/
structure FireBack where
  at_  : Nat
  ch   : Nat
  late : Bool
  bits : BitsBack
  flag : Option FlagBack
deriving DecidableEq, Repr

/-- R560: what an offset has changed on its tick, so that an SRC write on the same tick takes it back: the elapsed time, register fields,
TSTAT.CLAMP, and the servo's state. -/
structure OffsetBack where
  at_  : Nat
  regs : List (Field × Nat)
  clamp : BitsBack
  inc  : Nat
  acc  : Int
  rate : Int
  pend : Option Int
  cnt  : Nat
deriving DecidableEq, Repr

/-- The time glade beyond its page (R526 to R538): TIME_INC in 2^-32 ns, the servo's integrator and rate in 2^-16 ppb, the
pending step in 2^-16 ns, the run of small offsets, and PPS_OUT. In elapsed time: the last accepted PPS_IN edge, the write that set IN_EN,
the rise of PPS_OUT, and the last SET. `done`, `fired` (the newest first) and `took` are what a same-tick rule of R560 may take back. -/
structure ServoSt where
  inc     : Nat := 0x200000000
  acc     : Int := 0
  rate    : Int := 0
  pend    : Option Int := none
  lockCnt : Nat := 0
  ppsAt   : Option Nat := none
  ppsFrom : Nat := 0
  ppsOut  : Bool := false
  ppsRise : Nat := 0
  setAt   : Option Nat := none
  done    : Option StepDone := none
  fired   : List FireBack := []
  took    : Option OffsetBack := none
deriving DecidableEq, Repr

/-! ## The station network (chapter 12) -/

/-- R543, R544: one entry of a pair's duplicate table, with the LANs that have shown the frame (bit 0: LAN A), and the LAN of the
first copy. -/
structure DupEntry where
  srcMac : Nat
  seq    : Nat
  lans   : Nat
  first  : Nat
deriving DecidableEq, Repr

/-- R549: one sampled-value stream. `seen` holds the sample counts accepted of late (R545). -/
structure StreamSt where
  decl : StreamDecl
  lost : Bool := false
  synch : Nat := 0
  last : Option Nat := none
  seen : List Nat := []
  miss : Nat := 0
  qbad : Nat := 0
deriving DecidableEq, Repr

/-- R547: one sampled-value channel. -/
structure ChanSt where
  decl : ChannelDecl
  val  : Nat := 0
  got  : Bool := false
  qbad : Bool := false
deriving DecidableEq, Repr

/-- R550 to R553: one GOOSE publication: the members last published, its counters, the present repeat interval and the
time since the new state in 0.1 ms units, and timeAllowedtoLive of the frame last sent in the same unit. -/
structure PubSt where
  decl    : PubDecl
  members : Option (List Nat) := none
  stNum   : Nat := 0
  sqNum   : Nat := 0
  ivl     : Nat := 0
  since   : Nat := 0
  tal     : Nat := 0
  frames  : Nat := 0
deriving DecidableEq, Repr

/-- R554, R555: one GOOSE subscription. `eff` is the member as the action sees it, LOST with FAILBLK included. -/
structure SubSt where
  decl    : SubDecl
  lost    : Bool := false
  val     : Bool := false
  eff     : Bool := false
  confRev : Bool := false
  test    : Bool := false
  nums    : Option (Nat × Nat) := none
  talMs   : Nat := 0
deriving DecidableEq, Repr

/-- R556: a PTP message of the device: Sync in two steps, whose Follow_Up carries its origin; Announce with its data set; and the peer-delay
messages, with the receive and the send time of a response. Times are in 2^-16 ns. -/
inductive PtpTx where
  | sync (domain : Nat)
  | followUp (domain : Nat) (origin : Int)
  | announce (d : AnnounceData)
  | pdelayReq
  | pdelayResp (t2 : Int)
  | pdelayFollowUp (t3 : Int)
deriving DecidableEq, Repr

/-- R556 to R558: one PTP port: its portState, the Announce data sets it holds and the best of them, each with the port that sent it, meanLinkDelay in 2^-4 ns, t3 and t4
of the last peer-delay exchange, the messages sent, and those of the last sending. -/
structure PtpPort where
  st   : Nat := 4
  best : Option (Nat × AnnounceData) := none
  heard : List (Nat × AnnounceData) := []
  mld  : Nat := 0
  prev : Option (Int × Int) := none
  syncs : Nat := 0
  anns : Nat := 0
  pdls : Nat := 0
  resps : Nat := 0
  out  : List PtpTx := []
deriving DecidableEq, Repr

/-- R551 to R554: what a GOOSE frame carries: its identifiers, timeAllowedtoLive in 0.1 ms, the two numbers, and the members. -/
structure GooseTx where
  appid   : Nat
  gocbRef : List Byte
  datSet  : List Byte
  goID    : List Byte
  confRev : Nat
  tal     : Nat
  stNum   : Nat
  sqNum   : Nat
  members : List Nat
deriving DecidableEq, Repr

/-- What an Ethernet frame of the device carries: a publication (R550), a supervision frame (R543), a PTP message (R556), a Garnet PDU (R704), or a frame of the HSR ring that is passed on (R543). -/
inductive EthBody where
  | goose (g : GooseTx)
  | supervision
  | ptp (m : PtpTx)
  | garnet (pdu : List Byte)
  | forward (f : EthFrame)
deriving DecidableEq, Repr

/-- R543, R586, R587, R704: a frame as a port sends it: addresses, VLAN tag (PCP and VID), redundancy information, Ethertype, content, and
the zero bytes behind it. -/
structure EthTx where
  dst   : Nat
  src   : Nat
  vlan  : Option (Nat × Nat)
  red   : RedTag
  etype : Nat
  body  : EthBody
  pad   : Nat := 0
deriving DecidableEq, Repr

/-- The network glade beyond its pages. By pair (0 or 1): the duplicate tables, the supervision frames sent and the next sequence number
of its own frames (R543), and by port the frames forwarded in an HSR ring and the frame sent last. `parent` is the port that the PTP
parent sends from, `clock` the image's part of the PTP data set (R556). -/
structure NetSt where
  clock   : ClockDecl := {}
  txSeq   : Tab Nat := []
  sentOn  : Tab (Option EthTx) := []
  dups    : Tab (List DupEntry) := []
  supers  : Tab Nat := []
  fwd     : Tab Nat := []
  streams : Tab StreamSt := []
  chans   : Tab ChanSt := []
  pubs    : Tab PubSt := []
  subs    : Tab SubSt := []
  ptp     : Tab PtpPort := []
  parent  : Option Nat := none
deriving DecidableEq, Repr

/-! ## Local drive (chapter 08) -/

/-- R353: which of CH_PER and CH_CMP was written last, for the split check. -/
inductive SplitReg where
  | per | cmp
deriving DecidableEq, Repr

/-- One PWM channel beyond its block: counter, command, pin level, the single turn-off of the period (R352), the
fault latch and inputs (R358, R361), the XDEAD wait (R356) and the last write of R353. Times are elapsed times. `perNo` counts
period starts for that check; `pulse` is a sync pulse on its way to the channel (R354); `dropped` says that the command has turned off
on the tick in progress, and `fellBlank` that the last fall ended blanking (R366). `perAt` is the elapsed time of the last period start, with
whether the next channel's pulse stood before it, and `loadAt` that of the last sync load above 0, for R366's tie of the two. -/
structure ChSt where
  cnt      : Nat := 0
  cmd      : Bool := false
  out      : Bool := false
  fltLat   : Bool := false
  fltIn    : Bool := false
  gs       : Bool := false
  supLow   : Bool := false
  waitPer  : Bool := false
  xwait    : Bool := false
  heldLow  : Bool := false
  blanking : Bool := false
  xhold    : Bool := false
  lowAt    : Nat := 0
  everHigh : Bool := false
  wrReg    : Option SplitReg := none
  wrAt     : Nat := 0
  wrPer    : Nat := 0
  perNo    : Nat := 0
  pulse    : Bool := false
  dropped  : Bool := false
  fellBlank : Bool := false
  perAt    : Option (Nat × Bool) := none
  loadAt   : Option Nat := none
deriving DecidableEq, Repr

/-- R366: a pair hold as it can be taken back on its tick: the elapsed time, the pair, and its two XBLOCK bits before it. -/
structure HoldBack where
  at_  : Nat
  pair : Nat
  bits : BitsBack
deriving DecidableEq, Repr

/-- R366: a RESUME as a cause on its tick takes it back: the elapsed time, the channels and the pulses sent before it, the PCNT of each
channel, and the pair holds that it made. -/
structure ResumeBack where
  at_   : Nat
  chs   : Tab ChSt
  out   : Nat
  pcnt  : List Nat
  holds : List HoldBack
deriving DecidableEq, Repr

/-- The PWM page's hidden state: the channels, the hold latch of R363, and the pulses sent on SYNC_OUT; for the ties of R366 the pair holds
made last and the last RESUME that released the latch. -/
structure PwmSt where
  chs     : Tab ChSt := []
  held    : Bool := false
  syncOut : Nat := 0
  holds   : List HoldBack := []
  resumed : Option ResumeBack := none
deriving DecidableEq, Repr

/-! ## Position interfaces (chapter 09) -/

/-- R400: a compare that has fired, so that it can be judged again on its tick: its bit and CMP_TS before, and its flag's post. -/
structure PosFire where
  bits : BitsBack
  ts   : Nat
  flag : Option FlagBack
deriving DecidableEq, Repr

/-- R400: the last counted edge: its elapsed time and direction, POS before it, the CMP_POS that it is judged against, and the firing. -/
structure CountBack where
  at_  : Nat
  up   : Bool
  pos  : Nat
  cmp  : Nat
  fire : Option PosFire
deriving DecidableEq, Repr

/-- R392, R393: a speed window in progress: the net count, a counted edge in it, standstill before it, START and REV. -/
structure PosWin where
  net     : Int := 0
  counted : Bool := false
  still   : Bool := true
  start   : Bool := false
  rev     : Bool := false
deriving DecidableEq, Repr

/-- R400: a CMP_POS write: its elapsed time, the value before it, and BEHIND before it. -/
structure CmpBack where
  at_  : Nat
  cmp  : Nat
  bits : BitsBack
deriving DecidableEq, Repr

/-- One position interface beyond its page: the window in progress (R392, R393), the last direction since EN (R396), the direction of
the previous counted edge whenever it was (R393), the speed of the last window, and the emulated encoder: position with 16 fraction bits and output count (R397). For the ties of R400: the last counted edge, the
elapsed time of the last index edge and whether it loaded, the last CMP_POS write, the last window's end with the window that ended,
and the elapsed time at which EN went to 0. -/
structure PosSt where
  win     : PosWin := {}
  dir     : Option Bool := none
  prev    : Option Bool := none
  speed   : Nat := 0
  emuPos  : Int := 0
  emuOut  : Int := 0
  edge    : Option CountBack := none
  idx     : Option (Nat × Bool) := none
  cmpWas  : Option CmpBack := none
  ended   : Option (Nat × PosWin) := none
  offAt   : Option Nat := none
deriving DecidableEq, Repr

/-! ## Analog converters (chapter 10) -/

/-- R426: one accepted request: the elapsed time and the source of its trigger (0 GO, 1 an event flag, 2 the phase), and, once it has
started, the elapsed time of its first sample instant and device time there in 2^-32 ns. -/
structure AdcReq where
  ch    : Nat
  raw   : Bool
  count : Nat
  bias  : Nat
  ts    : Nat := 0
  at_   : Nat := 0
  trig  : Nat := 0
  src   : Nat := 0
deriving DecidableEq, Repr

/-- R437: an OVERRUN as it can be taken back: its elapsed time, the bit and the IRQ_STAT bit before it, and the messages it sent. -/
structure AdcOvr where
  at_  : Nat
  bit  : Bool
  pend : Bool
  sent : Nat
deriving DecidableEq, Repr

/-- One ADC core beyond its page: the running and the waiting request; `fin`, a burst whose samples are taken and whose
results are not yet written; a recalibration running, due, or postponed (R434, R435); and the last correction. In elapsed time: the
start of the recalibration, the moment of its postponement, the spans in which the core was powered, the last sample instant, the last
trigger with its source, the last STOP and the last OVERRUN (R428, R434, R435, R437). The posts of its flag whose
trigger has not reached it, and the last phase trigger: the number of its cycle and its PH (R426). -/
structure AdcSt where
  run    : Option AdcReq := none
  wait   : Option AdcReq := none
  fin    : Option AdcReq := none
  recal  : Bool := false
  calDue : Bool := false
  retry  : Bool := false
  ofs    : Int := 0
  gain   : Int := 0
  recalAt : Nat := 0
  dutyAt : Nat := 0
  pwrAt  : Option Nat := none
  pwrLog : List (Nat × Nat) := []
  endAt  : Option Nat := none
  trigAt : Option (Nat × Nat) := none
  stopAt : Option Nat := none
  ovrAt  : Option AdcOvr := none
  trigs  : Nat := 0
  trigCyc : Option (Nat × Nat) := none
deriving DecidableEq, Repr

/-! ## Cores and the scheduler (chapter 11) -/

/-- R469: a completed instance of a matched task: its tag, its operands by index, when it became ready, and whether its
operands still occupy the store. -/
structure TagInst where
  tag  : Nat
  ops  : Tab Nat
  at_  : Nat
  held : Bool := true
deriving DecidableEq, Repr

/-- One declared task. `longest` is the longest run in ns on each grove since that grove's last clock step (R784); `lateAt` and `late`
are the last instant in ns at which a post reached a task ready before it, and the flags of that instant (R492). -/
structure TaskSt where
  decl     : TaskDecl
  enabled  : Bool
  pend     : Nat := 0
  ready    : Bool := false
  readyAt  : Nat := 0
  insts    : List TagInst := []
  core     : Nat := 0
  run      : Nat := 0
  resp     : Nat := 0
  disp     : Nat := 0
  aborts   : Nat := 0
  longest  : Tab Nat := []
  lateAt   : Nat := 0
  late     : Nat := 0
deriving DecidableEq, Repr

/-- A work item staged or running (R473, R474): its readiness and its start in elapsed time, `start` also in device time (R486), and the
elapsed instants of its assignment and of the end of its staging (R492). -/
structure WorkItem where
  task    : Nat
  inst    : Option TagInst := none
  readyAt : Nat := 0
  start   : Nat := 0
  startE  : Nat := 0
  cyc     : Nat := 0
  haltNs  : Nat := 0
  asgAt   : Nat := 0
  stgAt   : Option Nat := none
deriving DecidableEq, Repr

/-- R457, R479: one range of a core's addresses that PMP grants. -/
structure Grant where
  base  : Nat
  size  : Nat
  read  : Bool
  write : Bool
  exec  : Bool
deriving DecidableEq, Repr

/-- One grove core, the spare among them: its two work slots, whether staging has completed, the debug halt, whether it is worn and
leaves dispatch, whether a spare is in use, whether it is in machine mode, its trap registers with the privilege that mstatus.MPP
holds, its PMP, its pc, its integer registers, and its F registers with fcsr (R455, R456, R458, R474, R479, R488, R490). -/
structure CoreSt where
  run    : Option WorkItem := none
  staged : Option WorkItem := none
  done   : Bool := false
  halted : Bool := false
  haltAt : Nat := 0
  worn   : Bool := false
  inUse  : Bool := false
  machine : Bool := true
  mpp    : Bool := true
  mepc   : Nat := 0
  mtval  : Nat := 0
  pmp    : List Grant := []
  pc     : Nat := 0
  mcause : Nat := 0
  mscratch : Nat := 0
  fcsr   : Nat := 0
  regs   : Tab Nat := []
  fregs  : Tab Nat := []
deriving DecidableEq, Repr

/-- R471: an operand that waits for a free entry of the store; `dest` is the core and register of a waiting PX.POSTO, `sess` the
session whose DATA message carried it, `at_` the elapsed time at which the stall began. -/
structure Stalled where
  dest : Option (Nat × Nat)
  tag  : Nat
  idx  : Nat
  val  : Nat
  sess : Option Nat := none
  at_  : Nat := 0
deriving DecidableEq, Repr

/-- R471, R621: a DATA message some of whose words wait for the store, how many, and whether the others were accepted. -/
structure HeldMsg where
  msg  : CMsg
  left : Nat
  ok   : Bool
deriving DecidableEq, Repr

/-- R492: what an abort at TB leaves to take back where ENDW meets it on its edge: the elapsed instant, the core, the item, the registers,
status bits and trace entry as they were. -/
structure BoundBack where
  at_    : Nat
  u      : Nat
  item   : WorkItem
  kept   : List Nat
  bits   : BitsBack
  traceN : Nat
  bytes  : List Byte
deriving DecidableEq, Repr

/-- R492: what the drop of a stalled operand leaves to take back where an entry is freed on the edge of its limit. -/
structure DropBack where
  at_  : Nat
  op   : Stalled
  bits : BitsBack
  ev   : Event
  held : Option HeldMsg
deriving DecidableEq, Repr

/-- A buffer as it stands: its declaration with its present location, a move under way, and whether it was lost with
its memory and awaits its new location (R483, R485). -/
structure BufSt where
  decl : BufDecl
  move : Option BufLoc := none
  lost : Bool := false
deriving DecidableEq, Repr

/-- The scheduler, the matching store and the cores. `fill` holds the filling instance of each tag; `snap` a snapshot
due at the next cycle boundary; `traceUs`, `traceN` count trace entries in one microsecond. `bound`, `drop` and `cycWas` are what the
same-edge rules of R492 may take back. -/
structure SchedSt where
  tasks   : Tab TaskSt := []
  fill    : Tab (Tab Nat) := []
  cores   : Tab CoreSt := []
  stalls  : List Stalled := []
  bufs    : List BufSt := []
  snap    : Bool := false
  traceUs : Nat := 0
  traceN  : Nat := 0
  bound   : Option BoundBack := none
  drop    : Option DropBack := none
  cycWas  : Option FlagBack := none
deriving DecidableEq, Repr

/-! ## Security, settings and service life (chapter 16) -/

/-- The root of trust beyond the SEC page: what is running, the quote's nonce, the open challenge and the attempts
failed, the arming of RETURN_PREP, the IMG of a return preparation under way, and what OTP holds beside the rollback counter: whether RETURN_PREP
has revoked every key slot, and the boot count (the hashes of the keys are part of Config); `imgLen` is the length of the booted
image's body. -/
structure SecSt where
  nonce    : Option (List Byte) := none
  quote    : List Byte := []
  chal     : Option (List Byte) := none
  dbgFails : Nat := 0
  armed    : Bool := false
  retImg   : Option Bool := none
  revoked  : Bool := false
  boots    : Nat := 0
  imgLen   : Nat := 0
deriving DecidableEq, Repr

/-- The NVM controller: the STORE under way (partition and copy), the newest copy and the erase counts by partition and
copy and of the image slots' sectors, the image write and its verification under way, the image sectors erased since the last IMG_COMMIT, and the
stored boot preference. `badCopy` lists the copies (2 p + c) whose last STORE failed its read-back; `refreshAt` is the elapsed time of the
last retention refresh (R804), `dumpDue` a history dump that waits for a STORE (R790). -/
structure NvmSt where
  store   : Option (Nat × Nat) := none
  newest  : Tab Nat := []
  wear    : Tab Nat := []
  imgWear : Tab Nat := []
  imgWr   : Bool := false
  verify  : Bool := false
  erased  : List Nat := []
  pref    : Nat := 0
  prefNew : Nat := 0
  badCopy : List Nat := []
  refreshAt : Option Nat := none
  dumpDue : Bool := false
deriving DecidableEq, Repr

/-- The ageing monitor: the 10 ms wait of R782, the groves with a clock step requested, the worn units whose spare
waits for a cycle boundary, each with what was measured, the spares used, the smallest slack of the window of R785, and what was last
requested at the AVS port: the regulator’s address, the command byte and the data word (R782). `vout` is the exponent that VOUT_MODE gave at
boot, none before and where the regulator gave none (R863, R883); `spareAt` the elapsed time, by grove, at which a spare last came in
(R790), and `tjs` the last reading of each glade's junction sensor (R885). -/
structure AgeSt where
  wait    : Bool := false
  hourAt  : Nat := 0
  clkReq  : List Nat := []
  due     : List (WearUnit × Nat) := []
  used    : Tab Nat := []
  slack   : Option Int := none
  avs     : Option (Nat × Nat × Nat) := none
  vout    : Option Nat := none
  spareAt : Tab (Option Nat) := []
  tjs     : Tab (Option Int) := []
deriving DecidableEq, Repr

/-! ## Device fabric (chapter 13) -/

/-- One Canopy port beyond its page: its marker sequence and the marker words last sent (R276), the run of good and of bad
marker sets (R277), the messages that wait with their class of R617, the message in transmission, the blocks that the port's
sequence last gained, or its last marker set (each its logical lane, its sync header and its payload), and the logical lane of its next block (R612). -/
structure PortSt where
  mseq   : Nat := 0
  marker : List Nat := []
  good   : Nat := 0
  bad    : Nat := 0
  up     : Bool := false
  queue  : List (Nat × CMsg) := []
  out    : Option CMsg := none
  line   : List (Nat × Nat × Nat) := []
  lane   : Nat := 0
deriving DecidableEq, Repr

/-- R619: one unacknowledged message of a session, with its full deadline in device time and the elapsed time of its last sending, in ns. -/
structure OutMsg where
  seq  : Nat
  len  : Nat
  dead : Nat
  tag  : Nat
  at_  : Nat
deriving DecidableEq, Repr

/-- R650: the messages that a deadline at an elapsed instant has abandoned, and what SKIP and PSTAT.ABANDON were before. -/
structure GoneMsgs where
  at_  : Nat
  seqs : List Nat
  skip : Bool
  bits : BitsBack
deriving DecidableEq, Repr

/-- R650: a SEND refused for 8 outstanding at an elapsed instant, its word, and what PSTAT.BUSY was before. -/
structure RefusedSend where
  at_  : Nat
  word : Nat
  bits : BitsBack
deriving DecidableEq, Repr

/-- One session of the image (R618 to R622); `held` is the delivery that waits for the store, `gone` and `refused` what an ACK of the same
instant undoes (R650). -/
structure SessSt where
  decl    : SessDecl
  enabled : Bool := false
  seq     : Nat := 0
  out     : List OutMsg := []
  skip    : Bool := false
  expSeq  : Nat := 0
  rxFill  : Nat := 0
  rxCnt   : Nat := 0
  stby    : Bool := false
  abandon : Nat := 0
  retx    : Nat := 0
  late    : Nat := 0
  held    : Option HeldMsg := none
  gone    : Option GoneMsgs := none
  refused : Option RefusedSend := none
deriving DecidableEq, Repr

/-- The Canopy glade beyond its pages; `busy` counts the refused sends of each session number (R669). -/
structure CanopySt where
  ports : Tab PortSt := []
  sess  : Tab SessSt := []
  busy  : Tab Nat := []
deriving DecidableEq, Repr

/-! ## Redundant pairs (chapter 13) -/

/-- The roles of AMBER.STATUS.ROLE. -/
inductive AmberRole where
  | none | active | standby | takeover | warm
deriving DecidableEq, Repr

/-- R631: what the last valid heartbeat carried, with its arrival in elapsed ns. -/
structure HbInfo where
  at_     : Nat
  role    : Nat
  arm     : Nat
  level   : Nat
  ready   : Bool
  statSeq : Nat
  ckSeq   : Nat
  cycLen  : Nat
  execOfs : Nat
  phase   : Nat
deriving DecidableEq, Repr

/-- R633: a checkpoint stream under way: the bytes of the region that are ready, the firmware buffers not yet copied, and
the messages posted. -/
structure CkStream where
  seq   : Nat
  cyc   : Nat
  size  : Nat
  bytes : List Byte
  bufs  : List Nat
  next  : Nat
deriving DecidableEq, Repr

/-- R637, R638: messages being received: the sequence, the next index, and for a static part its bytes. -/
structure RxPart where
  seq   : Nat
  next  : Nat
  bytes : List Byte := []
deriving DecidableEq, Repr

/-- R639: what triggers a takeover. -/
inductive TakeTrigger where
  | missed
  | withdraw (cls : Nat)
  | handover
deriving DecidableEq, Repr

/-- R650: what the decision at t_D replaces, for a heartbeat or a frame start of the same instant: the entry to the role, the silence of
R639, the start of HO_AGE, the checkpoint of a HANDOVER, two register fields, publication 0 and the frames last sent. -/
structure TakeBack where
  roleAt   : Nat := 0
  quiet    : Nat := 0
  split    : Bool := false
  leftAt   : Option Nat := none
  hoSeq    : Option Nat := none
  holdover : Nat := 0
  takeback : Nat := 0
  pub      : Option PubSt := none
  sentOn   : Tab (Option EthTx) := []
  txSeq    : Tab Nat := []
deriving DecidableEq, Repr

/-- R641: a takeover: the decision instant in elapsed ns, its trigger, W in ns, whether the device was WARM, whether the restore has
completed, and what the decision replaced. -/
structure TakeOver where
  tD       : Nat
  trig     : TakeTrigger
  w        : Nat
  warm     : Bool
  restored : Bool := false
  back     : TakeBack := {}
deriving DecidableEq, Repr

/-- The checkpoint engine beyond the AMBER page. Times are elapsed times in ns. `quiet` is the start of the silence of R631 and R639,
`lost` and `split` what that silence has already raised; `frameAt` is the last frame start on a repeating lane; `roleAt` the
entry to the present role; `ckSeq` the sequence of the last checkpoint begun and `statSeq` the static sequence; `img` is the
last complete checkpoint (image, SEQ and size) and `stat` the last complete static part; `hoSeq` a checkpoint that a HANDOVER
names; `waking` the glades that are being ungated; `hoStage` the progress of a planned handover (R647); `hold` the hold
cycle (R642); `blkAgain` the block frames owed again after an L4 (R640); `badCk` the sequence of the checkpoint last discarded (R638);
`leftAt` when the device last left ACTIVE or WARM (R649); `hoAt` when a HANDOVER write was accepted; `preCommit` what a commit replaced, with
its instant, for a capture of the same instant (R650), and `alarm` the silence raised last, for a heartbeat of the same instant. -/
structure AmberSt where
  role     : AmberRole := .none
  roleAt   : Nat := 0
  hb       : Option HbInfo := none
  quiet    : Nat := 0
  lost     : Bool := false
  split    : Bool := false
  frameAt  : Option Nat := none
  ckSeq    : Nat := 0
  statSeq  : Nat := 0
  stream   : Option CkStream := none
  rxCk     : Option RxPart := none
  rxStat   : Option RxPart := none
  img      : Option (Nat × Nat × Nat) := none
  stat     : Option (Nat × List Byte) := none
  hoSeq    : Option Nat := none
  hoStage  : Nat := 0
  take     : Option TakeOver := none
  waking   : List Nat := []
  hold     : Bool := false
  blkAgain : Bool := false
  l4At     : Nat := 0
  overSize : Bool := false
  badCk    : Option Nat := none
  leftAt   : Option Nat := none
  hoAt     : Nat := 0
  preCommit : Option (Nat × ArmSt × RankSt × EncSt) := none
  alarm    : Option RaiseBack := none
deriving DecidableEq, Repr

/-! ## The safety island (chapter 14) -/

/-- R687: the island's states. -/
inductive SafeMode where
  | start | lockout | run | stopped
deriving DecidableEq, Repr

/-- R688, R689: what the island has judged of one input channel: it demands; it went low in its own source's pulse; it went
low in another source's pulse that is not yet judged; it has yet to follow the pulse under way; samples low in a row. -/
structure SafeChan where
  dem    : Bool := false
  lowOwn : Bool := false
  cand   : Bool := false
  due    : Bool := false
  lows   : Nat := 0
deriving DecidableEq, Repr

/-- R690: the states of an input; `locked` is the LOCKOUT of its own DISC rows. -/
inductive SafeInMode where
  | released | demand | demandBoth | waitRst | locked
deriving DecidableEq, Repr

/-- One input: its channels, its state, whether its DISC timer runs, and the samples since its last test-pulse error. -/
structure SafeIn where
  a     : SafeChan := {}
  b     : SafeChan := {}
  mode  : SafeInMode := .waitRst
  disc  : Bool := false
  clean : Nat := 0
deriving DecidableEq, Repr

/-- R692: the states of a two-hand pair; `one` names the button actuated first (0 or 1). -/
inductive SafePair where
  | idle
  | one (w : Nat)
  | active
  | blocked
deriving DecidableEq, Repr

/-- R697: one output: ON, its EDM_ON timer, and its pins as last read. -/
structure SafeOut where
  on    : Bool := false
  edmOn : Bool := false
  rdA   : Bool := false
  rdB   : Bool := false
  edm   : Bool := false
deriving DecidableEq, Repr

/-- R707: the states of a connection. -/
inductive ConnMode where
  | opening | run | failed
deriving DecidableEq, Repr

/-- R704 to R707: one connection. `sent` holds the SEQ and elapsed time in ns of PDUs sent less than WD ago, `lastRx` the last valid
SEQ received since it opened, `gotData` a valid DATA PDU since it entered RUN, `rx` the bits last received, `errs` the check
failures of the window, `last` the last PDU sent. -/
structure SafeConn where
  mode    : ConnMode := .opening
  wait    : Bool := false
  seq     : Nat := 0
  sent    : List (Nat × Nat) := []
  lastRx  : Option Nat := none
  gotData : Bool := false
  rx      : Nat := 0
  errs    : Nat := 0
  last    : List Byte := []
deriving DecidableEq, Repr

/-- The safety island beyond its counters and SSTAT. `causes` are the standing causes as code and index, the first one first;
`fresh` says that one arose in the logic cycle in progress; `cnt5` counts the lock-outs of causes 1 to 5 and `locks` all;
`rstArm` says that SAFE_RST has been low since START; `pulse` is the test pulse under way. -/
structure SafeSt where
  mode   : SafeMode := .start
  perm   : Bool := false
  psetOk : Bool := false
  pset   : Option SafePset := none
  causes : List (Nat × Nat) := []
  fresh  : Bool := false
  cnt5   : Nat := 0
  locks  : Nat := 0
  rstLvl : Bool := false
  rstArm : Bool := false
  pulse  : Option Nat := none
  lvlA   : Nat := 0
  lvlB   : Nat := 0
  ins    : Tab SafeIn := []
  pairs  : Tab SafePair := []
  outs   : Tab SafeOut := []
  conns  : Tab SafeConn := []
deriving DecidableEq, Repr

end Sys2Proof.Machine
end

