-- ==== Sys2Proof/Machine/State.lean ====
section
/-! DEFINITION. The whole state of the block, its stops, and the state right after reset. -/

namespace Sys2Proof.Machine

/-- Why a step stops with a fault. -/
inductive Fault where
  /-- No command of this model raises it: the spec gives every command an effect. Safe. -/
  | none
deriving DecidableEq, Repr

/-- Why a command is refused. -/
inductive Refusal where
  /-- The arm of a command that has no meaning yet answers it, with the table's mnemonic. Safe. -/
  | notModelled (mnemonic : String)
deriving DecidableEq, Repr

/-- The state of the PX9616. `regs` holds every register field of Machine/RegTable.lean by its key (`Field.key`); a
field that is not listed stands at its reset value. `conds` lists the condition bits of R902 whose condition stands.
`time` is device time in units of 2^-32 ns (R8); `elapsed` counts the same unit in ticks of 2 ns of the 500 MHz clock, so that no step or rate of
device time moves it. `mem` holds the bytes of device memory, grove memory and NVM at their
data-port addresses (R837) and of the cores' local SRAM above 2^32; `memBad` the 64-bit words with an uncorrectable
error. `free` counts the free values used (Config.freeValue). `pending` is the queue of commands. -/
structure State where
  pending : List Instr := []
  variant : Variant := .x
  regs    : List (Nat × Nat) := []
  conds   : List Nat := []
  mem     : Memory := []
  memBad  : List Nat := []
  time    : Nat := 0
  elapsed : Nat := 0
  free    : Nat := 0
  glades  : Tab GladeSt := []
  flt     : FltSt := {}
  host    : HostSt := {}
  arm     : ArmSt := {}
  rank    : RankSt := {}
  enc     : EncSt := {}
  rings   : Tab RingSt := []
  lanes   : Tab LaneSt := []
  loops   : Tab LoopSt := []
  servo   : ServoSt := {}
  net     : NetSt := {}
  pwm     : PwmSt := {}
  poss    : Tab PosSt := []
  adcs    : Tab AdcSt := []
  sched   : SchedSt := {}
  sec     : SecSt := {}
  nvm     : NvmSt := {}
  age     : AgeSt := {}
  canopy  : CanopySt := {}
  amber   : AmberSt := {}
  safe    : SafeSt := {}
deriving DecidableEq, Repr

/-- The machine right after reset: POR_N has reset every glade and start-up has not begun (R16, R864). -/
def State.reset : State := {}

end Sys2Proof.Machine
end

