-- ==== Sys2Proof/Machine/Ops.lean ====
section
/-! DEFINITION. The named operations over the state that every chapter's meanings use: register fields, glades and
units, events to the collector, status bits with their interrupts, and device time. -/

namespace Sys2Proof.Machine

/-! ## Register fields -/

/-- The value a field holds. -/
def State.get (s : State) (F : Field) : Nat := (lookupKey s.regs F.key).getD F.rst

/-- A field holds a value other than 0. -/
def State.on (s : State) (F : Field) : Bool := decide (s.get F ≠ 0)

/-- The value a field holds, read as two's complement. -/
def State.getS (s : State) (F : Field) : Int := signedOf F.w (s.get F)

/-- A field set to the low bits of a value. The store lists a field only away from its reset value. -/
def State.put (F : Field) (v : Nat) (s : State) : State :=
  { s with regs := if v % 2 ^ F.w = F.rst then eraseKey F.key s.regs else insertKey F.key (v % 2 ^ F.w) s.regs }

/-- A field set to a two's-complement number. -/
def State.putS (F : Field) (i : Int) (s : State) : State := s.put F (codeOf F.w i)

/-- A wrapping counter moved on by `n`. -/
def State.addTo (F : Field) (n : Nat) (s : State) : State := s.put F (s.get F + n)

/-- A saturating counter moved on by `n`. -/
def State.addSat (F : Field) (n : Nat) (s : State) : State := s.put F (satTo (2 ^ F.w - 1) (s.get F + n))

/-- Several fields set to values. -/
def State.putAll : List (Field × Nat) → State → State
  | [], s => s
  | (F, v) :: t, s => State.putAll t (s.put F v)

/-- An effect repeated for each number of a list, in order. -/
def forAll (l : List Nat) (f : Nat → State → State) (s : State) : State := l.foldl (fun a n => f n a) s

/-! ## Time (R8) -/

/-- Device time in whole ns. -/
def State.nowNs (s : State) : Nat := s.time / 2 ^ 32
/-- Elapsed time in ns: what intervals are counted in (log entry 6). -/
def State.elNs (s : State) : Nat := s.elapsed / 2 ^ 32

/-- A time tag: the low 32 bits of device time in ns (R8). -/
def tag32 (ns : Nat) : Nat := ns % 2 ^ 32

/-- The full time in ns, near `now`, of a 32-bit time tag: a signed difference within ±2.147 s (R8). -/
def untag (now tag : Nat) : Nat := ((now : Int) + signedOf 32 ((tag + 2 ^ 32 - now % 2 ^ 32) % 2 ^ 32)).toNat

/-- The elapsed time in which device time advances by `d`: 2 ns for each TIME_INC (R526). -/
def State.ticksOf (s : State) (d : Nat) : Nat := if s.servo.inc = 0 then d else d * 2 ^ 33 / s.servo.inc

/-- How far device time advances in an elapsed time: the inverse of `ticksOf`. -/
def State.devOf (s : State) (e : Nat) : Nat := if s.servo.inc = 0 then e else e * s.servo.inc / 2 ^ 33

/-- Device time moved on by `d`; it wraps at 64 bits of ns (R8). -/
def State.forward (d : Nat) (s : State) : State :=
  { s with time := (s.time + d) % 2 ^ 96, elapsed := s.elapsed + s.ticksOf d }

/-- Device time moved on to an instant that a command names, if it lies ahead (DESIGN CHOICE,
notes/assumptions/6.md). -/
def State.reach (t : Nat) (s : State) : State := s.forward (t - s.time)

/-- Device time counted on from the start of the cycle in progress, past a wrap of the counter (R8). -/
def State.cycTime (s : State) : Nat :=
  if s.arm.running && decide (s.time < s.arm.cycStart) then s.time + 2 ^ 96 else s.time

/-- Device time since the start of the cycle in progress. -/
def State.cycOfs (s : State) : Nat := s.cycTime - s.arm.cycStart

/-- SEL_DL of the cycle in progress as device time since its start, in units of 2^-32 ns (R42, R64). -/
def State.selDl (s : State) : Nat := s.get R.ARM_SEL_DL_DL * 2 ^ 32

/-- Device time moved on to `ofs` after the start of the cycle in progress, if that lies ahead. -/
def State.reachOfs (ofs : Nat) (s : State) : State := s.forward (s.arm.cycStart + ofs - s.cycTime)

/-- R312, R426: a cycle runs whose instant at phase `ph` has not triggered yet: the last phase trigger, with the number of its cycle, lies
in another cycle or before it. -/
def State.phaseDue (s : State) (last : Option (Nat × Nat)) (ph : Nat) : Bool :=
  s.arm.running && (match last with | none => true | some (c, p) => decide (c ≠ s.arm.cycNo) || decide (p < ph))

/-- R30, R35, R783: a cycle boundary stands: a cycle has just started, or none runs. -/
def State.atBoundary (s : State) : Bool := !s.arm.running || decide (s.time = s.arm.cycStart)

/-- Nanoseconds in the units of elapsed time. -/
def el (ns : Nat) : Nat := ns * 2 ^ 32

/-! ## Glades, pages and units (R12, R13, R819) -/

/-- The glade exists in the variant (R12). -/
def gladePresent (v : Variant) (g : Nat) : Bool :=
  decide (g ≤ 10) || decide (16 ≤ g ∧ g < 16 + v.groves) || decide (32 ≤ g ∧ g < 32 + v.rings / 8)

/-- One glade's state. -/
def State.glade (s : State) (g : Nat) : GladeSt := tget {} s.glades g

/-- One glade's state replaced. -/
def State.setGlade (g : Nat) (x : GladeSt) (s : State) : State := { s with glades := tset {} s.glades g x }

/-- A glade is fenced (R17). -/
def State.gladeFenced (s : State) (g : Nat) : Bool := decide ((s.glade g).fencedBy ≠ 0)

/-- A glade runs: present, out of reset, not fenced, not stopped by L4, not power-gated, with its clock. -/
def State.up (s : State) (g : Nat) : Bool :=
  gladePresent s.variant g && !(s.glade g).inReset && !s.gladeFenced g && !(s.glade g).stopped && !(s.glade g).gated && !(s.glade g).clkBad

/-- Time passes up to an elapsed instant that lies ahead: device time counts on where the time glade runs (log entry 6). -/
def State.pass (e : Nat) (s : State) : State :=
  { s with elapsed := max s.elapsed e, time := if s.up 4 then (s.time + (e - s.elapsed) * s.servo.inc / 2 ^ 33) % 2 ^ 96 else s.time }

/-- A unit is fenced on its own (R740). -/
def State.unitFenced (s : State) (u : Nat) : Bool := decide (tget 0 s.flt.units u ≠ 0)

/-- A unit works: its glade runs and the unit is not fenced. -/
def State.unitUp (s : State) (u : Nat) : Bool := s.up (u / 256) && !s.unitFenced u

/-- Unit identifiers (R13). -/
def ringUnit (n : Nat) : Nat := 256 * (32 + n / 8) + n % 8
/-- The unit of lane l (R264). -/
def laneUnit (l : Nat) : Nat :=
  if l < 96 then 256 * (32 + l / 8) + 8 + l % 8 else if l < 112 then 0x0600 + 8 + (l - 96) else 0x0700 + 8 + (l - 112)
/-- The unit of loop unit k (R307). -/
def loopUnit (k : Nat) : Nat := 0x0800 + k
/-- The unit of PWM channel c (R348). -/
def chUnit (c : Nat) : Nat := 0x0900 + c
/-- The unit of position interface i (R387). -/
def posUnit (i : Nat) : Nat := 0x0910 + i
/-- The unit of ADC core c (R424). -/
def adcUnit (c : Nat) : Nat := 0x0A00 + c
/-- The unit of grove core u, where u = 9 g + k and k = 8 is the grove's spare. -/
def coreUnit (u : Nat) : Nat := 256 * (16 + u / 9) + u % 9

/-- The page base of a word address. -/
def pageOf (addr : Nat) : Nat := addr / 0x1000 * 0x1000

/-- The glade whose pages hold an address (R12); `none` outside every page of R819. -/
def pageGlade (addr : Nat) : Option Nat :=
  let p := addr / 0x1000
  if p = 0 then some 0 else if p = 1 then some 1 else if p = 2 then some 2 else if p = 3 then some 2
  else if p = 4 then some 4 else if p = 5 then some 5 else if p = 6 then some 0 else if p = 7 then some 1
  else if 0x10 ≤ p ∧ p < 0x70 then some (32 + (p - 0x10) / 8)
  else if p = 0x70 ∨ p = 0x71 ∨ p = 0x72 then some 5
  else if p = 0x80 ∨ p = 0x81 then some 8
  else if 0x90 ≤ p ∧ p ≤ 0x94 then some 9
  else if 0xA0 ≤ p ∧ p ≤ 0xA4 then some 7
  else if 0xB0 ≤ p ∧ p ≤ 0xB4 then some 6
  else if p = 0xC0 then some 3
  else if 0x100 ≤ p ∧ p < 0x160 then some (32 + (p - 0x100) / 8)
  else if 0x160 ≤ p ∧ p < 0x170 then some 6
  else if 0x170 ≤ p ∧ p < 0x174 then some 7
  else none

/-- The unit that owns an address (R13), for events that name it (DEDUCED, notes/assumptions/10.md). -/
def addrUnit (addr : Nat) : Nat :=
  let p := addr / 0x1000
  let o := addr % 0x1000
  if p = 0 then 0x0000 else if p = 1 then 0x0100 else if p = 2 then 0x0200 else if p = 3 then 0x0201
  else if p = 4 then 0x0400 else if p = 5 then 0x0504 else if p = 6 then 0x0002 else if p = 7 then 0x0100
  else if 0x10 ≤ p ∧ p < 0x70 then ringUnit (p - 0x10)
  else if p = 0x70 then 0x0500 else if p = 0x71 then 0x0502 else if p = 0x72 then 0x0503
  else if p = 0x80 ∨ p = 0x81 then loopUnit (16 * (p - 0x80) + if o < 0x400 then 0 else (o - 0x400) / 0x80)
  else if p = 0x90 then (if o < 0x80 then 0x0900 else chUnit ((o - 0x80) / 0x100))
  else if p = 0x91 ∨ p = 0x92 then posUnit (p - 0x91)
  else if p = 0x93 ∨ p = 0x94 then 0x0912
  else if 0xA0 ≤ p ∧ p < 0xA4 then 0x0700 + (p - 0xA0)
  else if p = 0xA4 then 0x0710
  else if 0xB0 ≤ p ∧ p < 0xB4 then 0x0600 + (p - 0xB0)
  else if p = 0xB4 then 0x0620
  else if p = 0xC0 then 0x0300
  else if 0x100 ≤ p ∧ p < 0x174 then laneUnit (p - 0x100)
  else 0x0000

/-- The page is absent in the variant (R1). -/
def pageAbsent (v : Variant) (addr : Nat) : Bool :=
  let p := addr / 0x1000
  decide (0x10 ≤ p ∧ p < 0x70 ∧ p ≥ 0x10 + v.rings) || decide (0x100 ≤ p ∧ p < 0x160 ∧ p ≥ 0x100 + v.rings)
    || decide (p = 0x81 ∧ v.loops ≤ 16) || (decide (p = 0x91 ∨ p = 0x92) && !v.hasPos)
    || (decide (p = 0xC0 ∨ p = 0xB4) && !v.hasPair)

/-! ## Events (R732) -/

/-- R735: the code of a fault class. -/
def classCode : FaultClass → Nat
  | .clk => 1 | .pwr => 2 | .mem => 3 | .bus => 4 | .core => 5 | .sched => 6 | .lane => 7 | .ring => 8 | .cell => 9
  | .intlk => 10 | .sc => 11 | .gdrv => 12 | .loop => 13 | .time => 14 | .canopy => 15 | .net => 16 | .safe => 17
  | .sec => 18 | .config => 19 | .adc => 20 | .pos => 21 | .age => 22

/-- An event on its way to the collector, which decides events in the order of their arrival. -/
def State.post (e : Event) (s : State) : State :=
  { s with flt := { s.flt with inbox := s.flt.inbox ++ [e], inboxAt := s.flt.inboxAt ++ [s.elapsed] } }

/-- An event that waits is taken back. -/
def State.unpost (e : Event) (s : State) : State :=
  let k := s.flt.inbox.idxOf e
  { s with flt := { s.flt with inbox := s.flt.inbox.eraseIdx k, inboxAt := s.flt.inboxAt.eraseIdx k } }

/-- An event at the base level of its class. -/
def State.event (c : FaultClass) (unit aux : Nat) (s : State) : State := s.post { cls := c, unit := unit, aux := aux }

/-- An event at the base level of its class whose cause lasts (R744). -/
def State.eventOpen (c : FaultClass) (unit aux : Nat) (s : State) : State :=
  s.post { cls := c, unit := unit, aux := aux, standing := true }

/-- An event at least at a level. -/
def State.eventAt (c : FaultClass) (unit aux l : Nat) (s : State) : State :=
  s.post { cls := c, unit := unit, aux := aux, req := .atLeast l }

/-- An event at least at L2 whose rule fences the unit at a higher level too. -/
def State.eventFence (c : FaultClass) (unit : Nat) (s : State) : State :=
  s.post { cls := c, unit := unit, req := .atLeast 2, fences := true }

/-- An event at L0. -/
def State.event0 (c : FaultClass) (unit aux : Nat) (s : State) : State :=
  s.post { cls := c, unit := unit, aux := aux, req := .l0 }

/-- A CONFIG event at L0 with the offending address in AUX (R732). -/
def State.config (addr : Nat) (s : State) : State := s.event0 .config (addrUnit addr) addr

/-- R903: a refused write that began in `s0` records one CONFIG event, however many of its parts have been refused. -/
def State.configOnce (s0 : State) (addr : Nat) (s : State) : State :=
  if (s.flt.inbox.drop s0.flt.inbox.length).any (fun e => decide (e.cls = .config ∧ e.aux = addr)) then s else s.config addr

/-! ## Which software writes reach a page (R2, R23, R626, R738, R770, R789, R868) -/

/-- R789: the part is prepared for return. -/
def State.returned (s : State) : Bool := s.on R.SEC_STATUS_RETURNED

/-- R770, R780, R789: the pages that the host reaches in a device that has booted no image or is prepared for return: with the data
port, which the windows named there need (DESIGN CHOICE, notes/assumptions/36.md). -/
def State.hostReaches (s : State) (addr : Nat) : Bool :=
  let p := addr / 0x1000
  if s.returned then decide (p ≤ 2 ∨ p = 6)
  else match s.host.phase with
    | .stopped => decide (p ≤ 3 ∨ p = 6)
    | .reset => true
    | .released => true
    | .locked => true
    | .verified => true
    | .applied => true

/-- R868: until the image is applied, host writes reach only the SEC and NVM pages. -/
def State.hostMayWrite (s : State) (addr : Nat) : Bool :=
  s.hostReaches addr &&
    (match s.host.phase with
     | .stopped => true
     | .applied => true
     | .reset => decide (addr / 0x1000 = 2 ∨ addr / 0x1000 = 3)
     | .released => decide (addr / 0x1000 = 2 ∨ addr / 0x1000 = 3)
     | .locked => decide (addr / 0x1000 = 2 ∨ addr / 0x1000 = 3)
     | .verified => decide (addr / 0x1000 = 2 ∨ addr / 0x1000 = 3))

/-- R2, R23, R626: what a page's glade makes of a write: one to an absent page, to a page of a fenced glade or to a page of a
clock-gated glade is ignored with a CONFIG event, and a glade that runs takes it. -/
def State.takenBy (g addr : Nat) (deliver : State → State) (s : State) : State :=
  if !gladePresent s.variant g || pageAbsent s.variant addr || s.gladeFenced g || (s.glade g).gated then s.config addr
  else if s.up g then deliver s
  else s

/-! ## Links (R19 to R22) -/

/-- The glade that a writer's accesses come from (R19). -/
def writerGlade : Writer → Nat
  | .host => 0
  | .spi => 0
  | .core u _ => u / 256

/-- R22: the link between two glades is fenced in either direction. -/
def State.linkCut (s : State) (a b : Nat) : Bool := s.host.links.contains (a, b) || s.host.links.contains (b, a)

/-- R22: `n` writes of glade `g` are discarded on a fenced link, and their sender counts them. -/
def State.discardWrites (g n : Nat) (s : State) : State :=
  { s with host := { s.host with discards := tset 0 s.host.discards g (tget 0 s.host.discards g + n) } }

/-- R20, R22: a post or a write of glade `a` to glade `b`, which a fenced link discards. -/
def State.overLink (a b : Nat) (deliver : State → State) (s : State) : State :=
  if s.linkCut a b then s.discardWrites a 1 else deliver s

/-- R2, R22, R23: a write of glade `a` on its way to a page of glade `g`. -/
def State.gatedWrite (a addr g : Nat) (deliver : State → State) (s : State) : State :=
  if s.linkCut a g && !s.gladeFenced g then s.discardWrites a 1 else s.takenBy g addr deliver

/-- A write with an action of its own from glade `a`, as the interface takes it (R22, R738, R868). -/
def State.commandedFrom (a addr : Nat) (deliver : State → State) (s : State) : State :=
  if s.flt.l4 then s
  else if !s.hostMayWrite addr then (if s.up 0 then s.config addr else s)
  else match pageGlade addr with
    | none => s
    | some g => s.gatedWrite a addr g deliver

/-- A write with an action of its own whose command names no writer: it comes from the host glade (log entry 57). -/
def State.commanded (addr : Nat) (deliver : State → State) (s : State) : State := s.commandedFrom 0 addr deliver

end Sys2Proof.Machine
end

