-- ==== Sys2Proof/Machine/Flags.lean ====
section
/-! DEFINITION. Status bits: setting them, the condition bits of R902, the interrupts that serve them (R4), the MSI-X
summaries (R833), and what a read clears (R829). -/

namespace Sys2Proof.Machine

/-! ## Status bits and interrupts (R4, R833, R902) -/

/-- The bit at position `j` of the word at `addr`, for fields of one bit. -/
def State.bitAt (s : State) (addr j : Nat) : Bool := decide (lookupKey s.regs (32 * addr + j) = some 1)

/-- The word that IRQ_EN of a page serves, as an offset in the page. -/
def servedOfs (addr : Nat) : Nat :=
  let p := addr / 0x1000
  if p = 0 then 0x60 else if p = 2 ∨ p = 3 ∨ p = 7 then 0x40 else if p = 4 then 0x70 else if p = 5 then 0x50
  else if p = 6 then 0x50 else if 0x10 ≤ p ∧ p < 0x70 then 0x44 else if p = 0x70 then 0x74 else if p = 0x71 then 0x64
  else if p = 0x72 then 0x48 else if 0x91 ≤ p ∧ p ≤ 0x94 then 0x0C else if 0xA0 ≤ p ∧ p < 0xA4 then 0x4C
  else if p = 0xA4 then 0x84 else if 0xB0 ≤ p ∧ p < 0xB4 then 0x48 else if p = 0xB4 then 0x5C else if p = 0xC0 then 0x64
  else 0x4C

/-- The IRQ_EN bit of the page that serves a status bit: the bit's own number, or the number of its loop unit or
PWM channel (R328, R372). -/
def servedBit (F : Field) : Option Nat :=
  let p := F.addr / 0x1000
  let o := F.addr % 0x1000
  if p = 0x80 ∨ p = 0x81 then (if o ≥ 0x400 ∧ (o - 0x400) % 0x80 = 0x40 ∧ F.lo < 6 then some ((o - 0x400) / 0x80) else none)
  else if p = 0x90 then (if o ≥ 0x80 ∧ (o - 0x80) % 0x100 = 0x1C ∧ F.lo < 5 then some ((o - 0x80) / 0x100) else none)
  else if p = 1 then none
  else if o = servedOfs F.addr then some F.lo else none

/-- The served status bit `j` of a page stands. -/
def State.servedOn (s : State) (page j : Nat) : Bool :=
  let p := page / 0x1000
  if p = 0x80 ∨ p = 0x81 then (List.range 6).any (fun b => s.bitAt (page + 0x400 + 0x80 * j + 0x40) b)
  else if p = 0x90 then (List.range 5).any (fun b => s.bitAt (page + 0x80 + 0x100 * j + 0x1C) b)
  else s.bitAt (page + servedOfs page) j

/-- The IRQ_EN word of a page other than FLT. -/
def State.irqEn (s : State) (page : Nat) : Nat := (lookupKey s.regs (32 * (page + 0x10))).getD 0

/-- The IRQ_STAT word of a page other than FLT (R4): latched in -X, and otherwise the served bits that stand while
their enables are 1. -/
def State.irqStat (s : State) (page : Nat) : Nat :=
  match s.variant with
  | .x => (lookupKey s.regs (32 * (page + 0x14))).getD 0
  | _ => maskOf ((bitList 32 (s.irqEn page)).filter (fun j => s.servedOn page j))

/-- The page answers for itself: present, and its glade not fenced. -/
def State.pageLive (s : State) (addr : Nat) : Bool :=
  match pageGlade addr with
  | none => false
  | some g => gladePresent s.variant g && !pageAbsent s.variant addr && !s.gladeFenced g

/-- R833: the summary of vector 1. -/
def State.vec1 (s : State) : Bool :=
  s.regs.any (fun e =>
    let a := e.1 / 32
    decide (a / 0x1000 ≠ 1) && s.pageLive a &&
      (match s.variant with
       | .x => decide (a % 0x1000 = 0x14) && decide (e.2 ≠ 0)
       | _ => decide (a % 0x1000 = 0x10) && decide (s.irqStat (pageOf a) ≠ 0)))

/-- R833: the summary of vector 0. -/
def State.vec0 (s : State) : Bool := s.on ⟨0x1014, 1, 22, 0, .rc⟩

/-- R833: the MSI-X messages owed when the summaries have gone from those of `old` to those of the state. -/
def State.signal (s old : State) : State :=
  { s with host := { s.host with
      msix0 := s.host.msix0 + b2n (s.vec0 && !old.vec0)
      msix1 := s.host.msix1 + b2n (s.vec1 && !old.vec1) } }

/-- R4: a status bit is set, and with it the IRQ_STAT bit that serves it where its enable is 1. -/
def State.raise (F : Field) (s : State) : State :=
  let s1 := s.put F 1
  match servedBit F with
  | none => s1
  | some j =>
    if bitOf (s.irqEn (pageOf F.addr)) j then
      let s2 := match s.variant with
        | .x => s1.put ⟨pageOf F.addr + 0x14, 0, 32, 0, .rc⟩ (setBitN (s1.irqStat (pageOf F.addr)) j)
        | _ => s1
      s2.signal s
    else s1
/-- R437: in -X, the IRQ_STAT bit that a status bit has set is taken back. -/
def State.unpend (F : Field) (s : State) : State :=
  match s.variant, servedBit F with
  | .x, some j => s.put ⟨pageOf F.addr + 0x14, 0, 32, 0, .rc⟩ (clrBitN (s.irqStat (pageOf F.addr)) j)
  | _, _ => s

/-- The IRQ_STAT bit that serves a status bit stands. -/
def State.pends (s : State) (F : Field) : Bool :=
  match servedBit F with
  | some j => bitOf (s.irqStat (pageOf F.addr)) j
  | none => false

/-- What the bits were in a state from which `after` has come. -/
def State.bitsBack (fs : List Field) (s after : State) : BitsBack :=
  { bits := fs.map (fun F => (F, s.on F, s.pends F)), sent := after.host.msix1 - s.host.msix1 }

/-- Status bits raised on this very edge are taken back, with their interrupts. -/
def State.unraise (b : BitsBack) (s : State) : State :=
  let s1 := b.bits.foldl (fun a e => if e.2.2 then a.put e.1 (b2n e.2.1) else (a.put e.1 (b2n e.2.1)).unpend e.1) s
  { s1 with host := { s1.host with msix1 := s1.host.msix1 - b.sent } }

/-- A status bit raised and an event posted, as they can be taken back. -/
def State.raiseWith (F : Field) (e : Event) (s : State) : RaiseBack × State :=
  let s1 := s.raise F
  ({ at_ := s.elapsed, bits := s.bitsBack [F] s1, ev := e }, s1.post e)

/-- What this very edge has raised is taken back. -/
def State.unraiseWith (b : RaiseBack) (s : State) : State := (s.unraise b.bits).unpost b.ev

/-- An event bit that is raised where a condition holds. -/
def State.flagIf (b : Bool) (F : Field) (s : State) : State := if b then s.raise F else s

/-- R4, R902: a condition arises or ends. In -X its bit is set when it arises; otherwise the bit follows it. -/
def State.cond (F : Field) (b : Bool) (s : State) : State :=
  if b then
    if s.conds.contains F.key then s else (State.raise F { s with conds := addKey F.key s.conds })
  else
    let s1 := { s with conds := dropKey F.key s.conds }
    match s.variant with
    | .x => s1
    | _ => s1.put F 0

/-- R902: the bit at `lo` of the word at `addr` is a condition bit. -/
def isCondBit (addr lo : Nat) : Bool :=
  let p := addr / 0x1000
  let o := addr % 0x1000
  (decide (p = 0x71 ∧ o = 0x64) && decide (lo = 4 ∨ lo = 2)) || (decide (p = 0x72 ∧ o = 0x48) && decide (lo = 4 ∨ lo = 9))
    || (decide (0x10 ≤ p ∧ p < 0x70 ∧ o = 0x44) && decide (lo = 0 ∨ lo = 11))
    || (decide ((p = 0x80 ∨ p = 0x81) ∧ 0x400 ≤ o ∧ (o - 0x400) % 0x80 = 0x40) && decide (lo = 5))
    || (decide (p = 0x90 ∧ 0x80 ≤ o ∧ (o - 0x80) % 0x100 = 0x1C) && decide (lo = 2))
    || (decide (p = 4 ∧ o = 0x70) && decide (lo = R.TIME_TSTAT_PPS_MISS.lo))
    || (decide (p = 0xB4 ∧ o = 0x5C) && decide (lo = R.AMBER_ASTAT_SIZE.lo))

/-- R829: whether a read clears the RC/RO bits of a word in the variant, bit by bit. -/
def readClears (v : Variant) (addr lo : Nat) : Bool :=
  match v with
  | .x => true
  | _ => !(isCondBit addr lo) && (decide (addr % 0x1000 ≠ 0x14) || decide (addr / 0x1000 = 1))

end Sys2Proof.Machine
end

