-- ==== Sys2Proof/Machine/Level.lean ====
section
/-! DEFINITION. Level timing and selection (R74 to R97) as functions of the selection snapshot. Voltages are exact
numbers in units of 1/65,536,000 V, in which a REF_VAL step is 655,360, a record voltage step 25,600, and a slope of
one Q16.16 V/µs step is 1 per ns. -/

namespace Sys2Proof.Machine

/-- R74: the sizes and voltage sums of S and S_FB, in 1/256 of 0.1 V. -/
structure LevelSets where
  n     : Nat
  w     : Nat
  nFb   : Nat
  wFb   : Nat
  negEn : Bool
deriving DecidableEq, Repr

/-- R75, R76: the level at the voltage `num / den`, and whether it differs from the level asked for. -/
def levelAt (S : LevelSets) (num : Int) (den : Nat) : Int × Bool :=
  if num = 0 then (0, false)
  else
    let a := num.natAbs
    let neg := decide (num < 0)
    let useFb := neg && S.negEn
    let n := if useFb then S.nFb else S.n
    let v := if useFb then 25600 * S.wFb else 25600 * S.w
    -- the magnitude asked for, none where it lies beyond any limit
    let want : Option Nat := if n = 0 ∨ v = 0 then none else some ((2 * a * n + den * v) / (2 * den * v))
    let got : Nat :=
      if S.n = 0 then 0
      else if neg && !S.negEn then 0
      else if n = 0 then 0
      else match want with
        | none => n
        | some m => satTo n m
    (if neg then -(got : Int) else (got : Int), match want with | none => true | some m => decide (m ≠ got))

/-- R76, R77: the offset in 10 ns units at which the reference crosses the boundary below level `upper`, rounded to
the nearest with an exact half rounded later. -/
def crossOfs (S : LevelSets) (r : Reference) (upper : Int) : Int :=
  let bn : Int := if 1 ≤ upper then (2 * upper - 1) * (25600 * S.w : Nat) else -((1 - 2 * upper) * (25600 * S.wFb : Nat))
  let bd : Int := if 1 ≤ upper then 2 * S.n else 2 * S.nFb
  let tn := (bn - r.val * bd) * r.den
  let td := bd * r.dval
  let tn' := if td < 0 then -tn else tn
  let td' := if td < 0 then -td else td
  if td' = 0 then 0 else (2 * tn' + 10 * td') / (20 * td')

/-- R77 to R80: the result of level timing. `mNeg` is M_neg of a window that changes sign. -/
structure Levels where
  nStart : Int
  nEnd   : Int
  mNeg   : Nat := 0
  edges  : List (Nat × Int) := []
  sat    : Bool := false
  clamp  : Bool := false
  merge  : Bool := false
deriving DecidableEq, Repr

/-- R77, R78: the walk from level `m` towards `goal`; `acc` holds the edges so far, latest first. -/
def walkLevels (S : LevelSets) (r : Reference) (t10 : Nat) (goal : Int) : Nat → Int → Levels → Levels
  | 0, _, l => { l with edges := l.edges.reverse }
  | k + 1, m, l =>
    if m = goal then { l with edges := l.edges.reverse }
    else
      let nxt := if m < goal then m + 1 else m - 1
      let ofs := crossOfs S r (if m < nxt then nxt else m)
      if ofs ≤ 0 then walkLevels S r t10 goal k nxt { l with nStart := nxt, nEnd := nxt }
      else if (t10 : Int) ≤ ofs then { l with nEnd := m, edges := l.edges.reverse }
      else
        match l.edges with
        | (o, _) :: t =>
          if (o : Int) = ofs then walkLevels S r t10 goal k nxt { l with nEnd := nxt, edges := (o, nxt) :: t, merge := true }
          else walkLevels S r t10 goal k nxt { l with nEnd := nxt, edges := (ofs.toNat, nxt) :: l.edges }
        | [] => walkLevels S r t10 goal k nxt { l with nEnd := nxt, edges := [(ofs.toNat, nxt)] }

/-- R75 to R80: levels and edges of a window of `t10` steps of 10 ns. -/
def levelTiming (S : LevelSets) (r : Reference) (t10 : Nat) : Levels :=
  let endNum := r.val * r.den + r.dval * (10 * t10 : Nat)
  let a := levelAt S r.val 1
  let b := levelAt S endNum r.den
  if r.dval = 0 then { nStart := a.1, nEnd := a.1, sat := a.2 }
  else
    let split := S.negEn && ((decide (0 < r.val) && decide (endNum < 0)) || (decide (r.val < 0) && decide (0 < endNum)))
    -- R80: the positive part carries at most N − M_neg
    let mNeg := if split then min (min a.1 b.1) 0 else 0
    let cap : Int := S.n + mNeg
    let n0 := if split && decide (cap < a.1) then cap else a.1
    let n1 := if split && decide (cap < b.1) then cap else b.1
    let sat := a.2 || b.2 || decide (n0 ≠ a.1) || decide (n1 ≠ b.1)
    let far := decide (256 < (n1 - n0).natAbs)
    let goal := if far then (if n0 < n1 then n0 + 256 else n0 - 256) else n1
    let l := walkLevels S r t10 goal 257 n0 { nStart := n0, nEnd := n0 }
    { l with sat := sat, clamp := far, mNeg := mNeg.natAbs }

/-! ## Selection (R91 to R97) -/

/-- One member of S as the order sees it. -/
structure Cand where
  idx    : Nat
  full   : Bool
  bin    : Nat
  pol    : Nat
  pinned : Bool
  key    : Nat
  vFix   : Nat
deriving DecidableEq, Repr

/-- One entry of the order L: the keys of R93 and the member. -/
structure Ranked where
  group : Nat
  eff   : Int
  ins   : Bool
  tie   : Int
  idx   : Nat
  bin   : Nat
deriving DecidableEq, Repr

/-- R93: the order of two entries. -/
def Ranked.before (a b : Ranked) : Bool :=
  if a.group ≠ b.group then decide (a.group < b.group)
  else if a.eff ≠ b.eff then decide (a.eff < b.eff)
  else if a.ins ≠ b.ins then a.ins
  else if a.tie ≠ b.tie then decide (a.tie < b.tie)
  else decide (a.idx < b.idx)

/-- One entry put into a list kept in the order. -/
def insertRanked (x : Ranked) : List Ranked → List Ranked
  | [] => [x]
  | y :: t => if x.before y then x :: y :: t else y :: insertRanked x t

/-- R93, R905: the order L for one part of the window, whose members insert in polarity `pol`. -/
def orderL (pol : Nat) (discharging dead : Bool) (band : Nat) (cs : List Cand) : List Ranked :=
  cs.foldl (fun acc c =>
    let ins := decide (c.pol = pol)
    let g := if c.pinned then (if ins then 0 else 3) else if dead && !ins then 2 else 1
    let e : Int := if discharging then 4095 - (c.bin : Int) else c.bin
    let e := if ins && !dead then e - band else e
    insertRanked ⟨g, e, ins, if ins then -(c.key : Int) else c.key, c.idx, c.bin⟩ acc) []

/-- One member's part in a window: its index, its polarity from the window start, and its edge. -/
abbrev Move := Nat × Nat × Option (Nat × Nat)

/-- R94 to R96: one part of a window: the core, the band in take order, whether the band was filled, and the members that the
part takes (R80). -/
structure PartSel where
  core : List Ranked := []
  band : List Ranked := []
  fill : Bool := false
  took : List Nat := []
deriving DecidableEq, Repr

/-- R94: core and band from the magnitudes at the part's ends. The part takes `mx` members where that is more than its levels
use, in the same order (R80). `falling` says that n falls. -/
def selectPart (L : List Ranked) (m0 m1 mx : Nat) (falling : Bool) : PartSel :=
  let lo := min m0 m1
  let hi := max m0 m1
  let rest := L.drop lo
  let first := rest.filter (fun x => x.ins == falling)
  let order := first ++ rest.filter (fun x => x.ins != falling)
  { core := L.take lo, band := order.take (hi - lo), fill := decide (first.length < hi - lo)
    took := (L.take lo ++ order.take (max hi mx - lo)).map (·.idx) }

/-- The offset of each single level change of a part, in order (R78, R95). -/
def stepOfs : Nat → List (Nat × Nat) → List Nat
  | _, [] => []
  | p, (o, a) :: t => List.replicate (if p < a then a - p else p - a) o ++ stepOfs a t

/-- R95, R96: what each member of one part does: its start polarity and its edge. -/
def partMoves (pol m0 m1 : Nat) (edges : List (Nat × Nat)) (p : PartSel) : List Move :=
  let offs := stepOfs m0 edges
  let falling := decide (m1 < m0)
  let band := if falling then p.band.reverse else p.band
  (p.core.map (fun x => (x.idx, pol, none)))
    ++ ((band.zip offs).map (fun e => (e.1.idx, if falling then pol else 0, some (e.2, if falling then 0 else pol))))
    ++ ((band.drop offs.length).map (fun x => (x.idx, if falling then pol else 0, none)))

/-- R96, R905: the balancing swaps of one part of the window: the smaller of the members that enter the part's polarity at the
window start and those that leave it. A window that changes sign adds up its two parts (DESIGN CHOICE, notes/assumptions/59.md). -/
def partSwaps (pol : Nat) (before : Nat → Nat) (all : List Move) : Nat :=
  min (all.filter (fun m => decide (m.2.1 = pol ∧ before m.1 ≠ pol))).length
    (all.filter (fun m => decide (m.2.1 ≠ pol ∧ before m.1 = pol))).length

/-- What a selection leaves for the status bits and registers. -/
structure SelResult where
  plan   : Plan
  levels : Levels
  fill   : Bool
  ovr    : List Nat
  thr    : Nat
  groups : List (Nat × Nat)
  swaps  : Nat
  moves  : Nat
deriving DecidableEq, Repr

/-- R91 to R97: the whole selection. `discharging` is the sign decided for the positive part. DWELL_OVR counts the pinned members
whose commanded state the window changes, in whichever polarity they stand (R96); GROUP of a full-bridge that stands in the
order of both parts is its group in the negative part (DESIGN CHOICE, notes/assumptions/59.md). -/
def runSelection (S : LevelSets) (r : Reference) (t10 band : Nat) (discharging dead : Bool) (cs : List Cand) : SelResult :=
  let lv := levelTiming S r t10
  let pos (i : Int) : Nat := i.toNat
  let neg (i : Int) : Nat := (-i).toNat
  let q0 := neg lv.nStart
  let q1 := neg lv.nEnd
  let p0 := pos lv.nStart
  let p1 := pos lv.nEnd
  let hasNeg := decide (max (max q0 q1) lv.mNeg ≠ 0)
  let ln := if hasNeg then orderL 2 (!discharging) dead band (cs.filter (·.full)) else []
  let pn := selectPart ln q0 q1 lv.mNeg (decide (q1 < q0))
  let pool := cs.filter (fun c => !(pn.took.contains c.idx))
  let lp := orderL 1 discharging dead band pool
  let pp := selectPart lp p0 p1 0 (decide (p1 < p0))
  let mv := partMoves 2 q0 q1 (lv.edges.map (fun e => (e.1, neg e.2))) pn
    ++ partMoves 1 p0 p1 (lv.edges.map (fun e => (e.1, pos e.2))) pp
  let taken := mv.map (·.1)
  let all : List Move := mv ++ ((cs.filter (fun c => !(taken.contains c.idx))).map (fun c => (c.idx, 0, none)))
  let polBefore : Nat → Nat := fun i => ((cs.find? (fun c => decide (c.idx = i))).map (·.pol)).getD 0
  let moved := fun (m : Move) => decide (polBefore m.1 ≠ m.2.1) || m.2.2.isSome
  let chg := (all.filter (fun (m : Move) => decide (polBefore m.1 ≠ m.2.1))).length + (all.filter (fun (m : Move) => m.2.2.isSome)).length
  let lastCore := if lv.nEnd < 0 then pn.core.getLast? else pp.core.getLast?
  { plan := ⟨lv.nStart, lv.nEnd, lv.edges, all⟩, levels := lv, fill := pn.fill || pp.fill
    ovr := (all.filter (fun m => moved m && cs.any (fun c => decide (c.idx = m.1) && c.pinned))).map (·.1)
    thr := match lastCore with | some x => x.bin | none => 0
    groups := (ln ++ lp).map (fun x => (x.idx, x.group))
    swaps := (if hasNeg then partSwaps 2 polBefore all else 0)
      + (if decide (p0 ≠ 0 ∨ p1 ≠ 0) || !hasNeg then partSwaps 1 polBefore all else 0)
    moves := chg }

end Sys2Proof.Machine
end

