-- ==== Sys2Proof/Machine/Operands.lean ====
section
/-! DEFINITION. The operand forms that the commands carry: switch words and their check, command slots and ring frames
as blocks of bits with their checks (chapters 04, 05), status slots, and fixed-point products (R8). -/

namespace Sys2Proof.Machine

/-! ## Fixed point (R8) -/

/-- floor(a · b / 2^n) of two signed numbers. -/
def mulShift (n : Nat) (a b : Int) : Int := a * b / (2 ^ n : Nat)

/-! ## Switch words (R150, R151, R155) -/

/-- R151: the switch word of BYPASS. `fbByp` is CMDENC.CTRL.FB_BYP. -/
def swBypass (full fbByp : Bool) : Nat := if full then (if fbByp then 0x5 else 0xA) else 0x2

/-- R151: the switch word of a polarity: 1 INSERT or INSERT_POS, 2 INSERT_NEG, 0 BYPASS. -/
def swOf (full fbByp : Bool) (pol : Nat) : Nat :=
  if pol = 1 then (if full then 0x9 else 0x1) else if pol = 2 then 0x6 else swBypass full fbByp

/-- R155: a switch word in conflict. -/
def swConflict (full : Bool) (sw : Nat) : Bool :=
  (bitOf sw 0 && bitOf sw 1) || (if full then bitOf sw 2 && bitOf sw 3 else bitOf sw 2 || bitOf sw 3)

/-- The polarity that a switch word inserts in: 1, 2, or 0 for neither. -/
def polOf (full : Bool) (sw : Nat) : Nat :=
  if sw = (if full then 0x9 else 0x1) then 1 else if full && decide (sw = 0x6) then 2 else 0

/-- R87: σ of a switch word: +1, 0 or −1, from the words and the sign of the current. -/
def sigmaOf (full : Bool) (sw : Nat) (i : Int) : Int :=
  let a : Int := if bitOf sw 0 || (!bitOf sw 0 && !bitOf sw 1 && decide (0 < i)) then 1 else 0
  let b : Int := if full && (bitOf sw 2 || (!bitOf sw 2 && !bitOf sw 3 && decide (i < 0))) then 1 else 0
  a - b

/-! ## Checks (R218) -/

/-- A field of `n` bytes, most significant byte first. -/
def msBytes (n v : Nat) : List Byte := (leBytes n v).reverse

/-- R218: HCRC over H0 [55:0] and TIME. -/
def hcrc (h0 time : Nat) : Nat := (msBytes 7 h0 ++ msBytes 4 time).foldl (fun c b => crcByte 8 0x07 c b.toNat) 0xFF

/-- CRC-16 with polynomial 0x1021 and initial value 0xFFFF. -/
def crc16 (bs : List Byte) : Nat := bs.foldl (fun c b => crcByte 16 0x1021 c b.toNat) 0xFFFF

/-- R218: CCRC over RING, SEQ, C0 and C1 [63:16]. -/
def ccrc (ring seq c0 c1hi : Nat) : Nat := crc16 (msBytes 1 ring ++ msBytes 1 seq ++ msBytes 8 c0 ++ msBytes 6 c1hi)

/-- R218: SCRC over RING, SEQ, S0 to S2 and S3 [63:16]. -/
def scrc (ring seq s0 s1 s2 s3 : Nat) : Nat :=
  crc16 (msBytes 1 ring ++ msBytes 1 seq ++ msBytes 8 s0 ++ msBytes 8 s1 ++ msBytes 8 s2 ++ msBytes 6 (s3 / 2 ^ 16))

/-- R218: FCRC over H0 [55:0] and the blocks that follow it up to the CRC block. -/
def fcrc (h0 : Nat) (rest : List Nat) : Nat := crc32c (msBytes 7 h0 ++ rest.flatMap (msBytes 8))

/-! ## Ring frames that come back (R213 to R219, R222) -/

/-- SEQ of the header. -/
def seqOf (h0 : Nat) : Nat := bits h0 32 8
/-- R222: HCRC is correct. -/
def hcrcOk (h0 h1 : Nat) : Bool := decide (bits h1 0 8 = hcrc h0 (bits h1 32 32))
/-- R222: the header is the ring's own, with a correct HCRC; its SEQ is judged apart. -/
def headerOk (ring h0 h1 : Nat) : Bool := hcrcOk h0 h1 && decide (bits h0 49 7 = ring)

end Sys2Proof.Machine

namespace Sys2Proof

/-- FTYPE of the header. -/
def RxFrame.ftype (f : RxFrame) : Nat := Machine.bits f.h0 45 3
/-- The CRC block of a frame; 0 stands in for a truncated frame's. -/
def RxFrame.tail (f : RxFrame) : Nat := f.crc.getD 0
/-- R217: FCRC of a whole frame is wrong. -/
def RxFrame.fcrcBad (f : RxFrame) : Bool := f.crc.any (fun c => decide (Machine.bits c 32 32 ≠ Machine.fcrc f.h0 (f.h1 :: f.body)))
/-- R217: ERR_HOP. -/
def RxFrame.errHop (f : RxFrame) : Nat := Machine.bits f.tail 24 8
/-- R217: HOPS. -/
def RxFrame.hops (f : RxFrame) : Nat := Machine.bits f.tail 16 8
/-- R222, R239: the frame is whole and its header is the ring's own. -/
def RxFrame.good (ring : Nat) (f : RxFrame) : Bool := Machine.headerOk ring f.h0 f.h1 && f.crc.isSome
/-- R219: the SERVICE frame carries a reply. -/
def RxFrame.reply (ring : Nat) (f : RxFrame) : Bool :=
  f.good ring && !f.fcrcBad && decide (f.errHop = 0xFF) && Machine.bitOf (f.body.getD 0 0) 58
/-- R219: RESULT of SV0. -/
def RxFrame.result (f : RxFrame) : Nat := Machine.bits (f.body.getD 0 0) 56 2

end Sys2Proof

namespace Sys2Proof.Machine

/-! ## Status slots (R216) -/

/-- What a valid status slot reports. -/
structure Report where
  vcap    : Nat
  tj      : Int
  ts      : Nat
  desatTs : Nat
  desat   : Nat
  uv      : Nat
  fbp     : Bool
  cmdErr  : Bool
  late    : Bool
  tlock   : Bool
  dirchg  : Bool
  lossBlk : Bool
  qovf    : Bool
  swApp   : Nat
  tjs     : List Int
  lk      : List Nat
  lkr     : List Nat
deriving DecidableEq, Repr

/-- R222: the slot is valid: SCRC correct, FILLED set, SLOT echoed. -/
def slotValid (ring seq slot s0 s1 s2 s3 : Nat) : Bool :=
  decide (bits s3 0 16 = scrc ring seq s0 s1 s2 s3) && bitOf s1 19 && decide (bits s1 8 4 = slot)

/-- R216: the fields of a status slot; `tjs`, `lk` and `lkr` begin with S1. -/
def parseSlot (s0 s1 s2 s3 : Nat) : Report where
  vcap := bits s0 48 16
  tj := signedOf 16 (bits s0 32 16)
  ts := bits s0 0 32
  desatTs := bits s1 32 32
  desat := bits s1 28 4
  uv := bits s1 24 4
  fbp := bitOf s1 18
  cmdErr := bitOf s1 17
  late := bitOf s1 16
  tlock := bitOf s1 15
  dirchg := bitOf s1 14
  lossBlk := bitOf s1 13
  qovf := bitOf s1 12
  tjs := [0, 16, 32, 48].map (fun b => signedOf 16 (bits s2 b 16))
  swApp := bits s1 20 4
  lk := [bits s3 32 8, bits s3 40 8, bits s3 48 8, bits s3 56 8]
  lkr := [bits s3 24 2, bits s3 26 2, bits s3 28 2, bits s3 30 2]

end Sys2Proof.Machine
end

