-- ==== Sys2Proof/Machine/Records.lean ====
section
/-! DEFINITION. Sub-module records: membership, the voltage observer, reports, the stress key, and the record commands
(R81 to R102, R144). -/

namespace Sys2Proof.Machine

/-! ## Access -/

/-- The record of sub-module i. -/
def State.smRec (s : State) (i : Nat) : SmRec := tget {} s.rank.recs i
/-- The record replaced. -/
def State.setRec (i : Nat) (r : SmRec) (s : State) : State :=
  { s with rank := { s.rank with recs := tset {} s.rank.recs i r } }
/-- The protection state of sub-module i. -/
def State.prot (s : State) (i : Nat) : SmProt := tget {} s.enc.prot i
/-- The protection state replaced. -/
def State.setProt (i : Nat) (p : SmProt) (s : State) : State :=
  { s with enc := { s.enc with prot := tset {} s.enc.prot i p } }
/-- One ring. -/
def State.ring (s : State) (n : Nat) : RingSt := tget {} s.rings n
/-- One ring replaced. -/
def State.setRing (n : Nat) (r : RingSt) (s : State) : State := { s with rings := tset {} s.rings n r }

/-- The rings of the variant. -/
def State.ringList (s : State) : List Nat := List.range s.variant.rings

/-- A ring runs: its glade and its unit are not fenced and not in reset. -/
def State.ringUp (s : State) (n : Nat) : Bool := decide (n < s.variant.rings) && s.unitUp (ringUnit n)

/-- An admitted and unfenced ring. -/
def State.admitted (s : State) (n : Nat) : Bool := decide ((s.ring n).mode = .admitted) && s.ringUp n

/-- The admitted and unfenced rings. -/
def State.admittedRings (s : State) : List Nat := s.ringList.filter s.admitted

/-- The sub-modules recorded on the admitted and unfenced rings. -/
def State.liveSms (s : State) : List Nat :=
  (s.rank.recs.filter (fun e => e.2.present && s.admitted (e.1 / 16))).map (·.1)

/-- R51: frames carry BLOCK to every cell. -/
def State.blockAll (s : State) : Bool :=
  match s.arm.mode with
  | .run => false
  | .charge => !(s.on R.ARM_NRUN_CCHG)
  | _ => true

/-- R90, R648: selection runs. -/
def State.selecting (s : State) : Bool :=
  !s.blockAll && !(s.on R.AMBER_CFG_EN && decide (s.amber.role = .warm ∨ s.amber.role = .standby ∨ s.amber.role = .takeover))

/-- A cell occupies the slot of sub-module i. -/
def State.slotPresent (s : State) (i : Nat) : Bool :=
  decide (i < s.variant.smMax) && bitOf (s.get (R.RING_SLOTS_PRESENT (i / 16))) (i % 16)

/-- R169, R172: the sub-module is held out of S. -/
def SmProt.held (p : SmProt) : Bool :=
  p.fw || decide (p.desat ≠ 0) || decide (p.uv ≠ 0) || decide (p.leak ≠ 0) || p.fire || decide (p.repDesat ≠ 0)

/-- R74, R183, R642: the member belongs to S; one released at the instant of a selection start joins the next selection. -/
def State.inS (s : State) (i : Nat) : Bool :=
  !((s.prot i).rel.any (fun r => decide (r.at_ = if s.arm.selDone then s.arm.selEl else s.elapsed))) && decide (2 ≤ (s.smRec i).rcnt) && !(s.smRec i).await && !(s.prot i).fbp && !(s.prot i).held

/-- R74: S, in index order. -/
def State.selectable (s : State) : List Nat := s.liveSms.filter s.inS

/-- R81: the sub-modules present on any ring. -/
def State.presentSms (s : State) : List Nat := (s.rank.recs.filter (fun e => e.2.present)).map (·.1)

/-- R85: the histogram bin of a record. -/
def State.binOf (s : State) (i : Nat) : Nat :=
  satTo 4095 (((s.smRec i).vFix / 256 - s.get R.RANK_BIN_CFG_BASE) / 2 ^ s.get R.RANK_BIN_CFG_SHIFT)

/-! ## The observer (R87 to R89) -/

/-- R87: the sum of σ · τ over an interval from `t` to `b`, with the switch-word changes in it. -/
def sigmaSum (full : Bool) (i : Int) (b : Nat) : Nat → Nat → List (Nat × Nat) → Int
  | t, sw, [] => sigmaOf full sw i * ((b : Int) - t)
  | t, sw, (t1, s1) :: rest =>
    if t1 ≤ t then sigmaSum full i b t s1 rest
    else if t1 < b then sigmaOf full sw i * ((t1 : Int) - t) + sigmaSum full i b t1 s1 rest
    else sigmaOf full sw i * ((b : Int) - t)

/-- The switch-word history with every change up to `t` folded into the held word. -/
def foldWords (t : Nat) : Nat → List (Nat × Nat) → Nat × List (Nat × Nat)
  | sw, [] => (sw, [])
  | sw, (t1, s1) :: rest => if t1 ≤ t then foldWords t s1 rest else (sw, (t1, s1) :: rest)

/-- R87: the increase of the record voltage, in 1/256 of 0.1 V, rounded towards minus infinity. -/
def observerDelta (r : SmRec) (fbp : Bool) (iArm : Int) (b : Nat) : Int :=
  if fbp || decide (r.capUf = 0) || decide (b ≤ r.basis) then 0
  else 256 * iArm * sigmaSum r.full iArm b r.basis r.sw0 r.sws / (6553600 * r.capUf : Nat)

/-- R87 to R89: the observer step of one record at time `tk`, with the AGE and DWELL counts of R83 and R92. -/
def stepRec (obs : Bool) (iArm : Int) (tk : Nat) (fbp : Bool) (r : SmRec) : SmRec :=
  let d := if obs && r.seen then observerDelta r fbp iArm tk else 0
  let w := foldWords (tk - 2000) r.sw0 r.sws
  { r with
    vFix := (clampInt 0 (65535 * 256) ((r.vFix : Int) + d)).toNat
    basis := max r.basis tk
    sw0 := w.1
    sws := w.2
    age := satTo 255 (r.age + 1)
    dwell := satTo 255 (r.dwell + 1) }

/-- R87: the observer step of every present record at a cycle start. -/
def State.observe (tk : Nat) (s : State) : State :=
  forAll ((s.rank.recs.filter (fun e => e.2.present)).map (·.1))
    (fun i a => a.setRec i (stepRec (a.on R.RANK_CTRL_OBS_EN) (a.getS R.ARM_I_ARM_I) tk (a.prot i).fbp (a.smRec i))) s

/-! ## Reports (R82, R88, R101) -/

/-- R101: the weight of a half-cycle of amplitude `a`. -/
def State.weight (s : State) (a : Int) : Nat :=
  let k := satTo 15 (if s.get R.RANK_KEY_CFG_STEP = 0 then 15 else a.toNat / s.get R.RANK_KEY_CFG_STEP)
  if k % 2 = 0 then s.get (R.RANK_KEY_WT_WT_EVEN (k / 2)) else s.get (R.RANK_KEY_WT_WT_ODD (k / 2))

/-- R101: the stress tracker. -/
def State.track (s : State) (tj : Int) (r : SmRec) : SmRec :=
  let hyst : Int := s.get R.RANK_KEY_CFG_HYST
  if !r.tracked then { r with tracked := true, tp := tj, ext := tj, rising := true }
  else if r.rising then
    if r.ext ≤ tj then { r with ext := tj }
    else if hyst ≤ r.ext - tj then
      { r with key := satTo 0xFFFFFFFF (r.key + s.weight (r.ext - r.tp)), tp := r.ext, ext := tj, rising := false }
    else r
  else
    if tj ≤ r.ext then { r with ext := tj }
    else if hyst ≤ tj - r.ext then
      { r with key := satTo 0xFFFFFFFF (r.key + s.weight (r.tp - r.ext)), tp := r.ext, ext := tj, rising := true }
    else r

/-- R82, R88, R90, R101, R642: a valid report enters the record; one that gives the commanded state after a takeover counts as not
inserted while frames carry BLOCK. Its sample time becomes the basis time even where it lies before the last
observer step (DEDUCED, notes/assumptions/53.md). -/
def State.takeReport (i : Nat) (rep : Report) (s : State) : State :=
  let r := s.smRec i
  let r1 := { r with
    rcnt := satTo 2 (r.rcnt + 1), age := 0, vRep := rep.vcap, vFix := 256 * rep.vcap, seen := true
    basis := untag s.nowNs rep.ts, tj := codeOf 16 rep.tj
    ins := if !r.await then r.ins else if s.blockAll && !s.amber.hold then 0 else polOf r.full rep.swApp
    endSw := if r.await then rep.swApp else r.endSw
    sw0 := if r.await then rep.swApp else r.sw0, await := false }
  s.setRec i (if s.on R.RANK_CTRL_KEY_EN then s.track rep.tj r1 else r1)

/-! ## Commands -/

/-- RECORD_AGE_LIMIT (R83). -/
def ageLimitEffect (i : Nat) (s : State) : State :=
  let r := s.smRec i
  if s.up 5 && r.present && decide (s.get R.RANK_OBS_LIMIT ≤ r.age) then
    let s1 := s.setRec i { r with rcnt := 0 }
    if r.rcnt = 2 then (s1.addTo R.RANK_CNT_EVT_UNK_REV 1).raise R.RANK_STAT_UNK_REVERT else s1
  else s

/-- RECORD_AGE_LIMIT: a record's AGE has reached OBS.LIMIT (R83). -/
def execRecordAgeLimit (i : Nat) (s : State) : Host.Outcome State Fault Refusal := .next (ageLimitEffect i s)

/-- R102: the service write of one stress key: word 128 with the key and its check. -/
def keyWord (k : Nat) : Nat := k + 2 ^ 32 * crc32c (leBytes 4 k)

/-- KEY_SAVE (R102): each admitted ring is given the write of word 128 of each of its sub-modules. -/
def keySaveEffect (s : State) : State :=
  if !(s.up 5) || s.on R.RANK_STATUS_KEY_BUSY then s
  else
    let rs := s.admittedRings
    let s1 := forAll rs (fun n a =>
      let sms := (List.range 16).filter (fun k => (a.smRec (16 * n + k)).present)
      a.setRing n { a.ring n with svcKeys := sms.map (fun k => (k, keyWord (a.smRec (16 * n + k)).key)) }) s
    { s1 with rank := { s1.rank with keySave := rs } }.put R.RANK_STATUS_KEY_BUSY 1

/-- KEY_SAVE: a write of 1 to RANK.KEY_CFG.SAVE (R102). -/
def execKeySave (s : State) : Host.Outcome State Fault Refusal := .next (s.commanded 0x70050 keySaveEffect)

/-- R102: a ring has no key left to write. -/
def RingSt.keysOut (r : RingSt) : Bool := r.svcKeys.isEmpty && (match r.svc with | some a => decide (a.src ≠ .keySave) | none => true)

/-- KEY_SAVE_DONE (R102). -/
def keySaveDoneEffect (s : State) : State :=
  if s.up 5 && s.on R.RANK_STATUS_KEY_BUSY && s.rank.keySave.all (fun n => (s.ring n).keysOut) then
    ({ s with rank := { s.rank with keySave := [] } }.put R.RANK_STATUS_KEY_BUSY 0).raise R.RANK_STAT_KEY_DONE
  else s

/-- KEY_SAVE_DONE: every admitted ring has finished (R102). -/
def execKeySaveDone (s : State) : Host.Outcome State Fault Refusal := .next (keySaveDoneEffect s)

/-- R148: the STATE code of a record. FENCED goes before FAILED_BYPASS, and a direct word outside the states of R151 shows as BLOCK
(DESIGN CHOICE, notes/assumptions/59.md). -/
def State.smStateCode (s : State) (i : Nat) : Nat :=
  let r := s.smRec i
  if !(s.slotPresent i) then 7
  else if s.unitFenced (ringUnit (i / 16)) || s.gladeFenced (32 + i / 128) then 5
  else if (s.prot i).fbp then 4
  else if r.ins = 1 then 2 else if r.ins = 2 then 3
  else if r.endSw = swBypass r.full false ∨ (r.full = true ∧ r.endSw = swBypass true true) then 1 else 0

/-- R144 to R148: latching a record into SM_REC0 to SM_REC3. A present slot whose ring has never been admitted has a record of
zeros (DEDUCED, notes/assumptions/47.md). -/
def State.latchRec (i : Nat) (s : State) : State :=
  let s := s.put R.RANK_SM_IDX_IDX i
  if !(s.slotPresent i) then
    s.putAll [(R.RANK_SM_REC0_V_EST, 0), (R.RANK_SM_REC0_V_REP, 0), (R.RANK_SM_REC1_KEY, 0), (R.RANK_SM_REC2_TJ, 0),
      (R.RANK_SM_REC2_DWELL, 0), (R.RANK_SM_REC2_AGE, 0), (R.RANK_SM_REC3_BIN, 0), (R.RANK_SM_REC3_TYPE, 0),
      (R.RANK_SM_REC3_RCNT, 0), (R.RANK_SM_REC3_STATE, 7), (R.RANK_SM_REC3_GROUP, 0), (R.RANK_SM_REC3_HELD, 0),
      (R.RANK_SM_REC3_INS, 0), (R.RANK_SM_REC3_SEL, 0)]
  else
    let r := s.smRec i
    s.putAll [(R.RANK_SM_REC0_V_EST, r.vFix / 256), (R.RANK_SM_REC0_V_REP, r.vRep), (R.RANK_SM_REC1_KEY, r.key),
      (R.RANK_SM_REC2_TJ, r.tj), (R.RANK_SM_REC2_DWELL, if r.present then r.dwell else 0), (R.RANK_SM_REC2_AGE, r.age),
      (R.RANK_SM_REC3_BIN, s.binOf i), (R.RANK_SM_REC3_TYPE, if !r.present then 0 else if r.full then 2 else 1), (R.RANK_SM_REC3_RCNT, r.rcnt),
      (R.RANK_SM_REC3_STATE, s.smStateCode i), (R.RANK_SM_REC3_GROUP, r.group), (R.RANK_SM_REC3_HELD, b2n (s.prot i).held),
      (R.RANK_SM_REC3_INS, b2n (decide (r.ins ≠ 0))), (R.RANK_SM_REC3_SEL, b2n r.sel)]

/-- SM_IDX_WRITE (R144). -/
def smIdxEffect (v : Nat) (s : State) : State := if s.up 5 then s.latchRec (bits v 0 11) else s

/-- SM_IDX_WRITE: a write to RANK.SM_IDX (R144). -/
def execSmIdxWrite (v : Nat) (s : State) : Host.Outcome State Fault Refusal := .next (s.commanded 0x7008C (smIdxEffect v))

end Sys2Proof.Machine
end

