-- ==== Sys2Proof/Machine/Fabric.lean ====
section
/-! DEFINITION. Canopy ports, routes and sessions as the other chapters use them: what waits on a port, where a message leaves,
and the answer to a DATA message (R610, R615 to R620, R625). -/

namespace Sys2Proof.Machine

/-! ## Ports -/

/-- One Canopy port. -/
def State.port (s : State) (p : Nat) : PortSt := tget {} s.canopy.ports p
/-- A Canopy port replaced. -/
def State.setPort (p : Nat) (x : PortSt) (s : State) : State :=
  { s with canopy := { s.canopy with ports := tset {} s.canopy.ports p x } }
/-- The Canopy port runs: its glade and unit are unfenced and it is enabled. -/
def State.portRuns (s : State) (p : Nat) : Bool := decide (p < 4) && s.unitUp (0x0600 + p) && s.on (R.CANOPY_CTRL_EN p)
/-- R610: the port is up. -/
def State.portUp (s : State) (p : Nat) : Bool := s.portRuns p && (s.port p).up
/-- R617: a message waits on a port in its class. -/
def State.enqueue (p cls : Nat) (m : CMsg) (s : State) : State :=
  s.setPort p { s.port p with queue := (s.port p).queue ++ [(cls, m)] }

/-- R625: pair operation is enabled. -/
def State.pairOp (s : State) : Bool := s.variant.hasPair && s.on R.AMBER_CFG_EN
/-- R625: the pair's checkpoint port. -/
def State.isCkPort (s : State) (p : Nat) : Bool := s.pairOp && decide (s.get R.AMBER_CFG_PORT = p)

/-! ## Routes and sessions -/

/-- R616: the port that the route to a device names, where it may carry the message. -/
def State.routeTo (s : State) (dev : Nat) : Option Nat :=
  let p := s.get (R.CANOPY_ROUTE_PORT (dev / 8) (dev % 8))
  if s.on (R.CANOPY_ROUTE_VALID (dev / 8) (dev % 8)) && s.portUp p && !s.isCkPort p then some p else none

/-- A message of this device to another, in a class, where there is a route. -/
def State.sendMsg (cls : Nat) (m : CMsg) (s : State) : State :=
  match s.routeTo m.dst with
  | some p => s.enqueue p cls m
  | none => s

/-- One session. -/
def State.sess (s : State) (k : Nat) : Option SessSt := lookupKey s.canopy.sess k
/-- A session replaced, with SEND s.FREE following it (R670). -/
def State.setSess (k : Nat) (x : SessSt) (s : State) : State :=
  ({ s with canopy := { s.canopy with sess := insertKey k x s.canopy.sess } }).put (R.CANOPY_SEND_FREE k) (8 - x.out.length)
/-- R615, R620: the ACK of a DATA message: 0 OK, 1 FULL, 2 NO_SESSION, 3 STANDBY. -/
def State.ackOf (s : State) (m : CMsg) (res : Nat) : CMsg :=
  { mtype := 1, dst := m.src, src := s.get R.CANOPY_DEVID_ID, hops := 15, sess := m.aux % 256, seq := m.seq, tag := 0, aux := res, payload := [] }
/-- R620: the ACK is sent. -/
def State.ackMsg (m : CMsg) (res : Nat) (s : State) : State := s.sendMsg 4 (s.ackOf m res)
/-- R492: an ACK that has not left yet is taken back. -/
def State.unAck (m : CMsg) (res : Nat) (s : State) : State :=
  match s.routeTo m.src with
  | some p => s.setPort p { s.port p with queue := ((s.port p).queue.reverse.erase (4, s.ackOf m res)).reverse }
  | none => s

/-- R530: the signed 32-bit difference of a target and the time, both in ns. -/
def timeDiff (target now : Nat) : Int := signedOf 32 ((target % 2 ^ 32 + 2 ^ 32 - now % 2 ^ 32) % 2 ^ 32)

/-- R622: the message's tag has been reached. -/
def State.isLate (s : State) (tag : Nat) : Bool := decide (signedOf 32 (tag + 2 ^ 32 - s.nowNs % 2 ^ 32) ≤ 0)

end Sys2Proof.Machine
end

