-- ==== Sys2Proof/Machine/SchedOps.lean ====
section
/-! DEFINITION. The scheduler's shared operations: tasks, event flags, the operand-matching store, the placement trace,
and the ends of work items (R467 to R478, R487). -/

namespace Sys2Proof.Machine

/-! ## Access -/

/-- The scheduler unit (R13). -/
def schedUnit : Nat := 0x0504
/-- The operand-matching store's unit (R13). -/
def storeUnit : Nat := 0x0505

/-- The next free value, as a number below 2^w. -/
def State.freeNat (s : State) (w : Nat) : Nat := (Config.freeValue w s.free).toNat
/-- `n` free values have been used. -/
def State.useFree (n : Nat) (s : State) : State := { s with free := s.free + n }

/-- The declared task t. -/
def State.task (s : State) (t : Nat) : Option TaskSt := lookupKey s.sched.tasks t
/-- A task replaced. -/
def State.setTask (t : Nat) (x : TaskSt) (s : State) : State :=
  { s with sched := { s.sched with tasks := insertKey t x s.sched.tasks } }
/-- A declared task changed. -/
def State.modTask (t : Nat) (f : TaskSt → TaskSt) (s : State) : State :=
  match s.task t with
  | some x => s.setTask t (f x)
  | none => s
/-- Core u = 9 g + k of grove g, k = 8 for the spare. -/
def State.core (s : State) (u : Nat) : CoreSt := tget {} s.sched.cores u
/-- A core replaced. -/
def State.setCore (u : Nat) (c : CoreSt) (s : State) : State :=
  { s with sched := { s.sched with cores := tset {} s.sched.cores u c } }
/-- The filling instance of a tag replaced. -/
def State.setFill (tag : Nat) (ops : Tab Nat) (s : State) : State :=
  { s with sched := { s.sched with fill := tset [] s.sched.fill tag ops } }
/-- The stalled operands replaced. -/
def State.setStalls (l : List Stalled) (s : State) : State := { s with sched := { s.sched with stalls := l } }
/-- The buffers replaced. -/
def State.setBufs (l : List BufSt) (s : State) : State := { s with sched := { s.sched with bufs := l } }

/-- The cores of the variant. -/
def State.coreList (s : State) : List Nat := List.range (9 * s.variant.groves)

/-- The task is matched (R465). -/
def taskMatched (d : TaskDecl) : Bool :=
  match d.ready with
  | .matched _ _ _ => true
  | .any _ => false
  | .all _ => false

/-- The task owns a tag (R469). -/
def taskOwns (d : TaskDecl) (tag : Nat) : Bool :=
  match d.ready with
  | .matched b n _ => decide (b ≤ tag ∧ tag < b + n)
  | .any _ => false
  | .all _ => false

/-- Operand mask of a matched task. -/
def taskOpMask (d : TaskDecl) : Nat :=
  match d.ready with
  | .matched _ _ m => m
  | .any _ => 0
  | .all _ => 0

/-- A task is fenced (R478). -/
def State.taskFenced (s : State) (t : Nat) : Bool := decide (tget 0 s.flt.tasks t ≠ 0)

/-- A SCHED event that names a task in AUX (R477, R732). -/
def State.taskEvent (t : Nat) (s : State) : State := s.event .sched schedUnit t

/-! ## Event flags (R467) -/

/-- R467: the flags that reach the task's pending set. -/
def taskMask (d : TaskDecl) : Nat :=
  match d.ready with
  | .any m => m
  | .all m => m
  | .matched _ _ _ => 0

/-- R467: the task's rule holds of a pending set. -/
def taskReady (d : TaskDecl) (p : Nat) : Bool :=
  match d.ready with
  | .any _ => decide (p ≠ 0)
  | .all m => decide (p = m)
  | .matched _ _ _ => false

/-- R467, R492: the flags of a post that reach a task's pending set, and whether they reached a ready task. One that became ready before
this instant may be dispatched on the edge of the post, so the flags are kept apart. -/
def postTask (f now : Nat) (x : TaskSt) : TaskSt × Bool :=
  let g := Nat.land f (taskMask x.decl)
  let p := Nat.lor x.pend g
  if g = 0 then (x, false)
  else if x.ready then
    (if x.readyAt < now then { x with pend := p, late := if x.lateAt = now then Nat.lor x.late g else g, lateAt := now }
     else { x with pend := p }, true)
  else if taskReady x.decl p then ({ x with pend := p, ready := true, readyAt := now }, false)
  else ({ x with pend := p }, false)

/-- R467, R492: the work item of an unmatched task is dispatched: PEND is cleared, but for what was posted on this same edge. -/
def taskTaken (now : Nat) (x : TaskSt) : TaskSt :=
  let p := if x.readyAt < now ∧ x.lateAt = now then x.late else 0
  { x with pend := p, ready := taskReady x.decl p, readyAt := if taskReady x.decl p then now else x.readyAt }

/-- One task takes a post of flags. -/
def State.postFlagsTo (f t : Nat) (s : State) : State :=
  match s.task t with
  | none => s
  | some x =>
    if x.enabled && !s.taskFenced t then
      let r := postTask f s.elNs x
      let s1 := s.setTask t r.1
      if r.2 then s1.addTo R.SCHED_CNT_COAL_COUNT 1 else s1
    else s

/-- R312: a post of flags sends a trigger to a loop unit whose EVT_IN is among them; whether the unit is enabled counts where it arrives. -/
def State.postToLoop (f k : Nat) (s : State) : State :=
  if s.get (R.U_TRIG_SRC k) = 2 ∧ bitOf f (s.get (R.U_TRIG_EVT_IN k)) = true then
    let x := tget {} s.loops k
    { s with loops := tset {} s.loops k { x with trigs := x.trigs + 1, trigAt := some s.elapsed } }
  else s
/-- R426: a post of flags triggers an enabled ADC core whose EVT_IN is among them. -/
def State.postToAdc (f c : Nat) (s : State) : State :=
  if s.on (R.ADC_CTRL_EN c) && decide (s.get (R.ADC_TRIG_SRC c) = 1) && bitOf f (s.get (R.ADC_TRIG_EVT_IN c)) then
    let x := tget {} s.adcs c
    { s with adcs := tset {} s.adcs c { x with trigs := x.trigs + 1 } }
  else s

/-- R312, R426, R467, R468: a post of a flag set reaches the scheduler, and with it the units that it triggers. -/
def State.postFlags (f : Nat) (s : State) : State :=
  if s.up 5 then
    (forAll [0, 1] (State.postToAdc f) (forAll (List.range s.variant.loops) (State.postToLoop f)
      (forAll (s.sched.tasks.map (·.1)) (State.postFlagsTo f) s)))
  else s

/-- R468: one flag posted by the arm glade itself. -/
def State.postFlag (j : Nat) (s : State) : State := s.postFlags (2 ^ j)

/-- R492: the tasks as the post of a flag finds them. -/
def State.flagWas (s : State) (j : Nat) : List (Nat × Bool × Bool) := s.sched.tasks.map (fun e => (e.1, bitOf e.2.pend j, e.2.ready))

/-- R492: a flag that has been posted on this very edge is taken back. -/
def State.unpostFlag (b : FlagBack) (s : State) : State :=
  match b.flag with
  | none => s
  | some j =>
    let s1 := b.tasks.foldl (fun a e =>
      a.modTask e.1 (fun x =>
        if e.2.1 then x
        else
          let p := clrBitN x.pend j
          { x with pend := p, late := clrBitN x.late j, ready := e.2.2 || taskReady x.decl p })) s
    let back (t on : Bool) (n : Nat) : Nat := if t && on then n - 1 else n
    let s2 := forAll (List.range s1.variant.loops) (fun k a =>
      let x := tget {} a.loops k
      { a with loops := tset {} a.loops k { x with
          trigs := back true (decide (a.get (R.U_TRIG_SRC k) = 2 ∧ a.get (R.U_TRIG_EVT_IN k) = j)) x.trigs } }) s1
    let s3 := forAll [0, 1] (fun c a =>
      let x := tget {} a.adcs c
      { a with adcs := tset {} a.adcs c { x with
          trigs := back (a.on (R.ADC_CTRL_EN c)) (decide (a.get (R.ADC_TRIG_SRC c) = 1 ∧ a.get (R.ADC_TRIG_EVT_IN c) = j)) x.trigs } }) s2
    s3.addTo R.SCHED_CNT_COAL_COUNT (2 ^ R.SCHED_CNT_COAL_COUNT.w - b.coal)

/-- R492: what the post of flag `j` in `s`, which has led to `s1`, leaves to take back. -/
def State.flagBack (j : Nat) (s s1 : State) : FlagBack where
  at_ := s.elapsed
  flag := some j
  tasks := s.flagWas j
  coal := (s1.get R.SCHED_CNT_COAL_COUNT + 2 ^ R.SCHED_CNT_COAL_COUNT.w - s.get R.SCHED_CNT_COAL_COUNT) % 2 ^ R.SCHED_CNT_COAL_COUNT.w

/-- R468, R492: the cycle-start flag of the arm glade, with what its post finds. -/
def State.postCycleFlag (s : State) : State :=
  if s.on R.SCHED_CFG_CYC_EN then
    let j := s.get R.SCHED_CFG_CYC_FLAG
    let s1 := s.postFlag j
    let b : FlagBack := State.flagBack j s s1
    { s1 with sched := { s1.sched with cycWas := some b } }
  else { s with sched := { s.sched with cycWas := some { at_ := s.elapsed, flag := none, tasks := [], coal := 0 } } }

/-- R492: a CYC_FLAG written on the edge of a cycle start is the one that is posted. -/
def State.cycleFlagAgain (s : State) : State :=
  match s.sched.cycWas with
  | none => s
  | some b => if b.at_ = s.elapsed then (s.unpostFlag b).postCycleFlag else s

/-- R19, R22, R468: one flag posted by glade g, whose post a fenced link discards. -/
def State.postFlagFrom (g j : Nat) (s : State) : State := s.overLink g 5 (State.postFlag j)

/-! ## Deliveries of DATA messages (R621, R622) -/

/-- R621, R622: what every delivery does: the expected SEQ, lateness, the event flag and the ACK. -/
def State.delivered (k : Nat) (x : SessSt) (m : CMsg) (s : State) : State :=
  let late := s.isLate m.tag
  let s1 := (s.setSess k { x with expSeq := (m.seq + 1) % 256, late := (x.late + b2n late) % 256 }).flagIf late (R.CANOPY_PSTAT_LATE 0)
  let s2 := match x.decl.flag with | some j => s1.postFlagFrom 6 j | none => s1
  s2.ackMsg m 0

/-- R471, R621: a word of a held delivery has been accepted or dropped; the last one decides its answer. -/
def State.heldWord (k : Nat) (ok : Bool) (s : State) : State :=
  match s.sess k with
  | none => s
  | some x =>
    match x.held with
    | none => s
    | some h =>
      let all := h.ok && ok
      if 1 < h.left then s.setSess k { x with held := some { h with left := h.left - 1, ok := all } }
      else if all then s.delivered k { x with held := none } h.msg
      else (s.setSess k { x with held := none }).ackMsg h.msg 1

/-! ## The operand store (R469 to R472) -/

/-- Entries that one instance occupies. -/
def TagInst.entries (i : TagInst) : Nat := if i.held then i.ops.length else 0

/-- The entries a task occupies: filling and ready instances, and an instance in staging. -/
def State.entriesOf (s : State) (t : Nat) : Nat :=
  match s.task t with
  | none => 0
  | some x =>
    ((s.sched.fill.filter (fun e => taskOwns x.decl e.1)).map (fun e => e.2.length)).sum + (x.insts.map TagInst.entries).sum
      + (s.sched.cores.map (fun e =>
          match e.2.staged with
          | some w => if w.task = t then (match w.inst with | some i => i.entries | none => 0) else 0
          | none => 0)).sum

/-- R507: entries occupied. -/
def State.storeFill (s : State) : Nat := (s.sched.tasks.map (fun e => s.entriesOf e.1)).sum

/-- R507: MATCH_FILL follows the store. -/
def State.fillUpdate (s : State) : State :=
  (s.put R.SCHED_MATCH_FILL_FILL s.storeFill).put R.SCHED_MATCH_FILL_MAX (max s.storeFill (s.get R.SCHED_MATCH_FILL_MAX))

/-- The enabled and unfenced matched task that owns a tag. -/
def State.tagOwner (s : State) (tag : Nat) : Option (Nat × TaskSt) :=
  s.sched.tasks.find? (fun e => taskOwns e.2.decl tag && e.2.enabled && !s.taskFenced e.1)

/-- What became of a posted operand. -/
inductive PostResult where
  | accepted | dropped | stalled
deriving DecidableEq, Repr

/-- R469: an operand enters a filling instance, which completes when every index of the mask has arrived. -/
def State.fillOperand (t : Nat) (x : TaskSt) (tag idx v : Nat) (s : State) : State :=
  let ops := insertKey idx v (tget [] s.sched.fill tag)
  if (bitList 8 (taskOpMask x.decl)).all (fun j => (lookupKey ops j).isSome) then
    ((s.setFill tag []).setTask t { x with insts := x.insts ++ [{ tag := tag, ops := ops, at_ := s.elNs }] }).fillUpdate
  else (s.setFill tag ops).fillUpdate

/-- R469 to R472: an operand reaches the store. `again` marks one that has already stalled. -/
def State.postOperandAt (again : Bool) (o : Stalled) (s : State) : State × PostResult :=
  match s.tagOwner o.tag with
  | none =>
    (((s.addTo R.SCHED_MATCH_CNT_ORPHAN 1).raise R.SCHED_STAT_ORPHAN).event0 .sched storeUnit 0, .dropped)
  | some (t, x) =>
    if !bitOf (taskOpMask x.decl) o.idx then
      (((s.addTo R.SCHED_MATCH_CNT_ORPHAN 1).raise R.SCHED_STAT_ORPHAN).event0 .sched storeUnit 0, .dropped)
    else if (lookupKey (tget [] s.sched.fill o.tag) o.idx).isSome then
      (((s.setFill o.tag (insertKey o.idx o.val (tget [] s.sched.fill o.tag))).addTo R.SCHED_MATCH_CNT_DUP 1).raise R.SCHED_STAT_DUP, .accepted)
    else if 1024 ≤ s.storeFill then
      let s1 := s.setStalls (s.sched.stalls ++ [if again then o else { o with at_ := s.elapsed }])
      (if again then s1 else s1.raise R.SCHED_STAT_MATCH_STALL, .stalled)
    else (s.fillOperand t x o.tag o.idx o.val, .accepted)

/-- A core's register written; x0 discards. -/
def State.setX (u r v : Nat) (s : State) : State :=
  if r % 32 = 0 then s else s.setCore u { s.core u with regs := tset 0 (s.core u).regs (r % 32) (v % 2 ^ 32) }

/-- A core's register. -/
def State.getX (s : State) (u r : Nat) : Nat := tget 0 (s.core u).regs (r % 32)

/-- R462: the outcome of a post returns to the PX.POSTO that made it. -/
def State.postReply (dest : Option (Nat × Nat)) (r : PostResult) (s : State) : State :=
  match dest, r with
  | some (u, rd), .accepted => s.setX u rd 0
  | some (u, rd), .dropped => s.setX u rd 1
  | some _, .stalled => s
  | none, _ => s

/-- R462, R471, R621: what a poster learns of its operand. -/
def State.postAnswer (o : Stalled) (r : PostResult) (s : State) : State :=
  match o.sess, r with
  | some k, .accepted => (s.postReply o.dest r).heldWord k true
  | some k, .dropped => (s.postReply o.dest r).heldWord k false
  | some _, .stalled => s
  | none, _ => s.postReply o.dest r

/-- An operand posted, with its answer. -/
def State.postStalled (again : Bool) (o : Stalled) (s : State) : State :=
  let r := s.postOperandAt again o
  r.1.postAnswer o r.2

/-- An operand posted by a hardware poster or the host. -/
def State.postOperand (tag idx v : Nat) (s : State) : State :=
  if s.up 5 then s.postStalled false { dest := none, tag := tag, idx := idx, val := v } else s

/-- R19, R22: an operand posted by glade g, whose post a fenced link discards. -/
def State.postOperandFrom (g tag idx v : Nat) (s : State) : State := s.overLink g 5 (State.postOperand tag idx v)

/-- R471: the matched task with the most entries, the lower number on a tie. -/
def State.mostEntries (s : State) : Nat :=
  (s.sched.tasks.foldl (fun b e => if b.1 < s.entriesOf e.1 then (s.entriesOf e.1, e.1) else b) (0, 0)).2

/-- R471: a stalled operand is dropped. -/
def State.dropOperand (o : Stalled) (s : State) : State :=
  let s1 := (s.postAnswer o .dropped).addTo R.SCHED_MATCH_CNT_OVF 1
  let s2 := s1.raise R.SCHED_STAT_MATCH_OVF
  let e : Event := { cls := .sched, unit := storeUnit, aux := s1.mostEntries, req := .atLeast 2 }
  let back : DropBack := { at_ := s.elapsed, op := o, bits := s1.bitsBack [R.SCHED_STAT_MATCH_OVF] s2, ev := e, held := (o.sess.bind s.sess).bind (·.held) }
  (State.post e { s2 with sched := { s2.sched with drop := some back } })

/-- R471, R492: the answer to a dropped word of a held delivery is taken back. -/
def State.unheld (d : DropBack) (s : State) : State :=
  match d.op.sess, d.held with
  | some k, some h =>
    let s1 := if h.left ≤ 1 then s.unAck h.msg 1 else s
    (match s1.sess k with | some x => s1.setSess k { x with held := some h } | none => s1)
  | some _, none => s
  | none, _ => s

/-- R492: the drop of an operand whose limit falls on the edge on which an entry is freed is taken back: it waits in front. -/
def State.undrop (s : State) : State :=
  match s.sched.drop with
  | none => s
  | some d =>
    if d.at_ = s.elapsed then
      let s1 := (((s.unpost d.ev).unraise d.bits).put R.SCHED_MATCH_CNT_OVF (s.get R.SCHED_MATCH_CNT_OVF + 2 ^ R.SCHED_MATCH_CNT_OVF.w - 1)).unheld d
      { s1 with sched := { s1.sched with stalls := d.op :: s1.sched.stalls, drop := none } }
    else s

/-- R471, R492: entries have been freed, so stalled operands are tried again in order; one that has waited more than 1 µs has been
dropped. -/
def State.drainStalls (s0 : State) : State :=
  let s := s0.undrop
  s.sched.stalls.foldl (fun a o => if o.at_ + el 1000 < a.elapsed then a.dropOperand o else a.postStalled true o) (s.setStalls []) |>.fillUpdate

/-! ## Memory under SECDED (R832) -/

/-- The unit of the memory at an address (R13). -/
def memUnit (a : Nat) : Nat :=
  if 2 ^ 32 ≤ a then coreUnit ((a - 2 ^ 32) / 2 ^ 16)
  else if 0xC0000000 ≤ a then 0x0201
  else if 2 ^ 30 ≤ a then 0x1010 + 0x100 * bits a 28 2
  else 0x0003

/-- R768, R832: the 64-bit words from `a` to `a + n` that hold an uncorrectable error. -/
def State.badIn (s : State) (a n : Nat) : List Nat := s.memBad.filter (fun w => decide (a < 8 * w + 8 ∧ 8 * w < a + n))
/-- R832: words written whole hold no error. -/
def State.clearBad (a n : Nat) (s : State) : State :=
  { s with memBad := s.memBad.filter (fun w => !decide (a ≤ 8 * w ∧ 8 * w + 8 ≤ a + n)) }
/-- R832: a hardware read of `n` bytes posts a MEM event for each word with an uncorrectable error. -/
def State.eccRead (a n unit : Nat) (s : State) : State := (s.badIn a n).foldl (fun t _ => t.event .mem unit 0) s
/-- R832: a hardware write of bytes. A word written whole holds no error; a narrower write to a word that cannot be corrected is
discarded, with a MEM event. -/
def State.writeBytes (a : Nat) (bs : List Byte) (s : State) : State :=
  let s1 := s.clearBad a bs.length
  match s1.badIn a bs.length with
  | [] => { s1 with mem := Memory.writeN s1.mem a bs }
  | w :: ws =>
    let keep := (bs.zip (List.range bs.length)).filter (fun e => !((w :: ws).contains ((a + e.2) / 8)))
    (w :: ws).foldl (fun t _ => t.event .mem (memUnit a) 0) { s1 with mem := keep.foldl (fun m e => Memory.write m (a + e.2) e.1) s1.mem }
/-- A word list written to memory, four little-endian bytes each. -/
def State.writeWords (a : Nat) (ws : List Nat) (s : State) : State := s.writeBytes a (ws.flatMap (leBytes 4))
/-- R22, R832: a write of bytes by glade `g`, which a fenced link on the way to the memory discards. -/
def State.writeFrom (g a : Nat) (bs : List Byte) (s : State) : State := s.overLink g (memUnit a / 256) (State.writeBytes a bs)
/-- R832: the bytes that a hardware read gives: what a word that cannot be corrected delivers is open: free values. -/
def State.readEcc (a n : Nat) (s : State) : List Byte × State :=
  match s.badIn a n with
  | [] => (Memory.readN s.mem a n, s)
  | w :: ws =>
    ((List.range n).map (fun k => if (w :: ws).contains ((a + k) / 8) then BitVec.ofNat 8 (Config.freeValue 8 (s.free + k)).toNat else Memory.read s.mem (a + k)),
      (s.eccRead a n (memUnit a)).useFree n)
/-- R22, R832: a hardware read by glade `g`, which completes with all ones over a fenced link. -/
def State.readFrom (g a n : Nat) (s : State) : List Byte × State :=
  if s.linkCut g (memUnit a / 256) then (List.replicate n 0xFF, s) else s.readEcc a n
/-- `n` zero bytes written. -/
def State.zeroMem (a n : Nat) (s : State) : State := ({ s with mem := Memory.zeroN s.mem a n }).clearBad a n
/-- R768, R832: a hardware copy of `n` bytes; what a word that cannot be corrected leaves in the copy is open: a free value. -/
def State.eccCopy (src n dst unit : Nat) (s : State) : State :=
  let s1 := ({ s with mem := Memory.copyN s.mem src n dst }).clearBad dst n
  ((s.badIn src n).filter (fun w => decide (src ≤ 8 * w ∧ 8 * w + 8 ≤ src + n))).foldl (fun t w => (t.writeBytes (dst + (8 * w - src)) (leBytes 8 (t.freeNat 64))).useFree 1) (s1.eccRead src n unit)

/-! ## The placement trace (R486, R487) -/

/-- R22, R487: one entry is written, over the link to device memory, or dropped beyond 64 in one microsecond of device time. -/
def State.traceWrite (ws : List Nat) (s : State) : State :=
  if s.on R.SCHED_TRACE_CTRL_EN then
    let us := s.elNs / 1000
    let n := if s.sched.traceUs = us then s.sched.traceN else 0
    if 64 ≤ n then (s.addTo R.SCHED_TRACE_WR_DROP 1).raise R.SCHED_STAT_TRACE_DROP
    else
      let i := s.get R.SCHED_TRACE_WR_IDX
      let s1 := ({ s with sched := { s.sched with traceUs := us, traceN := n + 1 } }).writeFrom 5 (0xC80000 + 16 * i) (ws.flatMap (leBytes 4))
      let s2 := s1.put R.SCHED_TRACE_WR_IDX (i + 1)
      if i = 16383 then s2.put R.SCHED_TRACE_WR_WRAPPED 1 else s2
  else s

/-- R486: the tag field of an item's word 3. -/
def WorkItem.tag (w : WorkItem) : Nat := match w.inst with | some i => i.tag | none => 0

/-- R486: an ITEM or ABORT entry. -/
def State.traceItem (typ u hi : Nat) (w : WorkItem) (s : State) : State :=
  s.traceWrite [typ * 2 ^ 28 + w.task * 2 ^ 16 + coreUnit u, w.cyc, tag32 w.start, hi + w.tag]

/-- R486: the unit of a placed buffer's memory. -/
def locUnit : BufLoc → Nat
  | .grove g _ => 0x1010 + 0x100 * g
  | .device _ => 0x0003
  | .sram u _ => coreUnit u

/-- The memory address of a placed buffer's byte 0: the data-port form of grove and device memory, and the cores' local
SRAM above 2^32. -/
def locBase : BufLoc → Nat
  | .grove g o => 2 ^ 30 + g * 2 ^ 28 + o
  | .device o => o
  | .sram u o => 2 ^ 32 + u * 2 ^ 16 + o

/-- R481, R486: the location unit of a declared buffer as core u reaches it: that of its placement, device memory for a fixed region, and
the core's own local SRAM for scratch. -/
def bufUnitFor (b : BufDecl) (u : Nat) : Nat :=
  match b.kind with
  | .placed => locUnit b.loc
  | .fixed _ => 0x0003
  | .scratch => coreUnit u

/-- R486: the location unit of a declared buffer; that of a scratch buffer is the core that runs an item of a task which declares it, or 0
(DEDUCED, notes/assumptions/61.md). -/
def State.bufUnit (s : State) (b : BufDecl) : Nat :=
  let uses (t : Nat) : Bool := (s.task t).any (fun x => x.decl.bufs.any (fun e => decide (e.1 = b.handle)))
  match b.kind with
  | .placed => bufUnitFor b 0
  | .fixed _ => bufUnitFor b 0
  | .scratch => ((s.coreList.find? (fun u => (s.core u).run.any (fun w => uses w.task))).map (bufUnitFor b)).getD 0

/-- R487: a BUF entry for each declared buffer. -/
def State.traceBufs (s : State) : State :=
  if s.on R.SCHED_TRACE_CTRL_T_BUF then
    s.sched.bufs.foldl (fun a b =>
      a.traceWrite [2 * 2 ^ 28 + b.decl.handle, a.get R.ARM_CYC_CNT_COUNT, a.bufUnit b.decl, b.decl.size]) s
  else s

/-- R487: a snapshot that is due at a cycle boundary is written. -/
def State.traceBoundary (s : State) : State :=
  if s.sched.snap && s.on R.SCHED_TRACE_CTRL_EN then
    { s with sched := { s.sched with snap := false } }.traceBufs
  else s

/-! ## Items end and start (R464, R475 to R477, R488) -/

/-- R457, R479: the fixed regions: the PLACE_TRACE ring, the eye-scan map slots and the ADC burst buffers. -/
def fixedGrants : List Grant :=
  [⟨0xC0C80000, 0x40000, true, true, false⟩, ⟨0xC0CC0000, 0x40000, true, true, false⟩, ⟨0xC0D00000, 0x4000, true, true, false⟩]

/-- R457, R479, R481: what PMP grants an item of a task: local SRAM, the code region, the windows of its buffers, and the register
space with the fixed regions, or the pages it declares. -/
def State.grantsOf (s : State) (d : TaskDecl) : List Grant :=
  let size (h : Nat) : Nat := match s.sched.bufs.find? (fun b => decide (b.decl.handle = h)) with | some b => b.decl.size | none => 0
  [⟨0, 0x10000, true, true, false⟩, ⟨0x20000000, 0x80000, true, false, true⟩]
    ++ d.bufs.map (fun b => ⟨0x80000000 + 0x100000 * b.2.1, size b.1, true, b.2.2, false⟩)
    ++ (if taskMatched d then ⟨0x40000000, 0x1000000, true, true, false⟩ :: fixedGrants
        else d.pages.map (fun p => ⟨0x40000000 + 0x1000 * p.1, 0x1000, true, p.2, false⟩))

/-- R479: the range holds an address of a core. -/
def Grant.covers (g : Grant) (a : Nat) : Bool := decide (g.base ≤ a ∧ a < g.base + g.size)

/-- R475, R479: a core takes up an item: its entry point, its mode and its PMP. What its registers hold at the start is open: free
values. -/
def State.beginItem (s : State) (w : WorkItem) (c : CoreSt) : CoreSt :=
  let d := (s.task w.task).map (fun x => x.decl)
  let fv (k : Nat) : Nat := (Config.freeValue 32 (s.free + k)).toNat
  { c with
    run := some { w with start := s.nowNs, startE := s.elNs, cyc := s.get R.ARM_CYC_CNT_COUNT, haltNs := 0 }
    staged := none, done := false
    regs := (List.range 31).foldl (fun t k => tset 0 t (k + 1) (fv k)) []
    fregs := (List.range 32).foldl (fun t k => tset 0 t k (fv (31 + k))) []
    fcsr := fv 63 % 2 ^ 8
    mscratch := fv 64
    pc := (d.map (fun x => x.entry)).getD 0
    machine := d.any taskMatched
    pmp := (d.map s.grantsOf).getD [] }

/-- R475: the staged item starts once staging is complete and the core is idle. -/
def State.startItem (u : Nat) (s : State) : State :=
  let c := s.core u
  match c.run, c.staged with
  | none, some w =>
    if c.done && !c.halted then
      ((s.setCore u (s.beginItem w c)).useFree 65).modTask w.task (fun x => { x with core := coreUnit u })
    else s
  | some _, _ => s
  | none, none => s

/-- A staged item returns to ready with its readiness time and its operand frame (R489). -/
def State.returnStaged (u : Nat) (s : State) : State :=
  let c := s.core u
  match c.staged with
  | none => s
  | some w =>
    (s.setCore u { c with staged := none, done := false }).modTask w.task (fun x =>
      match w.inst with
      | some i => { x with insts := i :: x.insts }
      | none => { x with ready := true, readyAt := w.readyAt })

/-- R485: the first task that declares a buffer. -/
def State.firstUser (s : State) (h : Nat) : Nat :=
  match s.sched.tasks.find? (fun e => e.2.decl.bufs.any (fun b => decide (b.1 = h))) with
  | some e => e.1
  | none => 0

/-- R832, R840: data-port bytes for a word that cannot be corrected are discarded as they land; `ofs` is the first of them. -/
def State.dpLost (h ofs unit : Nat) (s : State) : State :=
  let s1 := ((s.put R.DPORT_DP_STAT_CODE 4).put R.DPORT_DP_ERRADDR_ADDR (2 ^ 31 + h * 2 ^ 20 + ofs)).addTo R.DPORT_DP_STAT_ERRCNT 1
  (s1.raise R.DPORT_DP_STAT_ERR).event .mem unit 0

/-- R36, R832, R839: the data-port bytes that waited for a buffer's move land in it, and a DP_ADDR behind them takes effect. -/
def State.dpLand (h : Nat) (dest : BufLoc) (s : State) : State :=
  let l := (s.host.dpWait.filter (fun e => decide (e.1 = h))).map (fun e => (locBase dest + e.2.1, e.2))
  let whole (w : Nat) : Bool := (List.range 8).all (fun k => l.any (fun e => decide (e.1 = 8 * w + k)))
  let bad := s.memBad.filter (fun w => !whole w && l.any (fun e => decide (e.1 / 8 = w)))
  let s0 : State := { s with
    mem := (l.filter (fun e => !bad.contains (e.1 / 8))).foldl (fun m e => Memory.write m e.1 e.2.2) s.mem
    memBad := s.memBad.filter (fun w => !whole w)
    host := { s.host with dpWait := s.host.dpWait.filter (fun e => decide (e.1 ≠ h)) } }
  let s1 := bad.foldl (fun a w => a.dpLost h (((l.find? (fun e => decide (e.1 / 8 = w))).map (fun e => e.2.1)).getD 0) (memUnit (8 * w))) s0
  match s1.host.dpWait, s1.host.dpNext with
  | [], some a => { s1.put R.DPORT_DP_ADDR_ADDR a with host := { s1.host with dpNext := none } }
  | _, _ => s1

/-- R36, R485: the placed buffers in a fenced memory are lost until they are re-created; a move into it ends without effect, and what
waited for it lands where the buffer lies. -/
def State.loseBuffers (unit : Nat) (s : State) : State :=
  let hit (b : BufSt) : Bool := decide (b.decl.kind = .placed) && decide ((locUnit b.decl.loc) = unit) && !b.lost
  let back (b : BufSt) : Bool := !hit b && decide ((b.move.map locUnit) = some unit)
  let s1 := s.setBufs (s.sched.bufs.map (fun b =>
    if hit b then { b with lost := true, move := none } else if back b then { b with move := none } else b))
  (s.sched.bufs.filter back).foldl (fun a b => a.dpLand b.decl.handle b.decl.loc) s1

/-- R488: a worn core whose running item has ended is fenced, and the grove's spare takes its place. -/
def State.retireWorn (u : Nat) (s : State) : State :=
  if (s.core u).worn && (s.core u).run.isNone then
    let sp := 9 * (u / 9) + 8
    let s1 := s.returnStaged u
    let s2 := { s1 with flt := { s1.flt with units := tset 0 s1.flt.units (coreUnit u) (classCode .age) } }
    ((s2.setCore sp { s2.core sp with inUse := true }).raise R.SCHED_STAT_CORE_FENCE).loseBuffers (coreUnit u)
  else s

/-- An operand that core u posted waits for a store entry: the core stalls in PX.POSTO (R471). -/
def postedBy (u : Nat) (o : Stalled) : Bool :=
  match o.dest with
  | some d => decide (d.1 = u)
  | none => false

/-- Core u stalls in PX.POSTO (R471). -/
def State.coreStalled (s : State) (u : Nat) : Bool := s.sched.stalls.any (postedBy u)

/-- The item of a core ends: its slot is free, and the staged item starts. An operand of it that still waits for the store
has left the core (R462) and answers nobody. -/
def State.endItem (u : Nat) (s : State) : State :=
  let s1 := s.setStalls (s.sched.stalls.map (fun o => if postedBy u o then { o with dest := none } else o))
  ((s1.setCore u { s1.core u with run := none }).retireWorn u).startItem u

/-- R458, R477: the causes of R477 that an exception of the item itself brings. -/
def exceptionCause (c : Nat) : Bool := decide (c = 1 ∨ c = 2 ∨ c = 3 ∨ c = 4 ∨ c = 5 ∨ c = 8)

/-- R455, R458: an exception traps to machine mode at the abort entry, with the pc in mepc; `cause` of R477 settles mcause for an illegal
instruction and leaves it open otherwise. -/
def State.trap (u cause pc tval : Nat) (s : State) : State :=
  if exceptionCause cause then
    let c := s.core u
    (s.setCore u { c with
      mepc := pc, mtval := tval, mcause := if cause = 1 then 2 else s.freeNat 32, mpp := c.machine, machine := true
      pc := Config.abortEntry }).useFree (if cause = 1 then 0 else 1)
  else s

/-- R457, R477: the memory whose word a core reads at an address: its own local SRAM, that of the buffer behind a window of the item's
task, device memory, or the grove memory with the code region. -/
def State.memUnitAt (s : State) (u : Nat) (w : WorkItem) (a : Nat) : Nat :=
  if a < 0x10000 then coreUnit u
  else if 0xC0000000 ≤ a then 0x0003
  else if 0x80000000 ≤ a then
    match (s.task w.task).bind (fun x => x.decl.bufs.find? (fun b => decide (b.2.1 = bits a 20 4))) with
    | some e => ((s.sched.bufs.find? (fun b => decide (b.decl.handle = e.1))).map (fun b => bufUnitFor b.decl u)).getD (0x1010 + 0x100 * (u / 9))
    | none => 0x1010 + 0x100 * (u / 9)
  else 0x1010 + 0x100 * (u / 9)

/-- R477: the running item of core u is aborted with a cause. -/
def State.abortItem (u cause pc tval : Nat) (s : State) : State :=
  match (s.core u).run with
  | none => s
  | some w =>
    let s1 := s.putAll [(R.SCHED_ABORT_LAST_CAUSE, cause), (R.SCHED_ABORT_LAST_TASK, w.task),
      (R.SCHED_ABORT_LAST_UNIT, coreUnit u), (R.SCHED_ABORT_PC_PC, pc), (R.SCHED_ABORT_TVAL_TVAL, tval)]
    let s2 := (s1.raise R.SCHED_STAT_ABORT).modTask w.task (fun x => { x with aborts := (x.aborts + 1) % 65536 })
    let s3 := if s2.on R.SCHED_TRACE_CTRL_T_ABORT then s2.traceItem 4 u (cause * 2 ^ 28) w else s2
    let s4 := if cause = 0 then (s3.raise R.SCHED_STAT_TBOUND).taskEvent w.task
      else if cause = 1 ∨ cause = 2 ∨ cause = 3 ∨ cause = 8 then s3.taskEvent w.task
      else if cause = 5 then s3.event .mem (s3.memUnitAt u w tval) 0
      else s3
    (s4.trap u cause pc tval).endItem u

/-- R477: an abort that no exception caused; pc and tval are open: free values. -/
def State.abortFree (u cause : Nat) (s : State) : State :=
  ((s.abortItem u cause (s.freeNat 32) (Config.freeValue 32 (s.free + 1)).toNat)).useFree 2

/-- R457, R479: the core's PMP grants a write to a register page, which its map puts at 0x4000_0000 plus the BAR0 offset. The writer
names the core and the task of the item it runs. -/
def State.pageGranted (s : State) (w : Writer) (addr : Nat) : Bool :=
  match w with
  | .core unit t =>
    let u := 9 * (unit / 256 - 16) + unit % 256
    match (s.core u).run with
    | some k => decide (k.task ≠ t) || (s.core u).pmp.any (fun g => g.covers (0x40000000 + addr) && g.write)
    | none => true
  | .host => true
  | .spi => true

/-- R457, R477: the store takes an access fault: the item aborts with cause 3. -/
def State.pageFault (w : Writer) (s : State) : State :=
  match w with
  | .core unit _ => s.abortFree (9 * (unit / 256 - 16) + unit % 256) 3
  | .host => s
  | .spi => s

/-- R479: a write that PMP judges before it leaves the core. -/
def State.granted (w : Writer) (addr : Nat) (f : State → State) (s : State) : State :=
  if s.pageGranted w addr then f s else s.pageFault w

/-! ## Fences (R478, R489) -/

/-- R455, R456, R458: what core u reads in a CSR; the counters of its clock and of its instructions are free values. -/
def State.csr (s : State) (u n : Nat) : Nat :=
  let c := s.core u
  if n = 0x001 then c.fcsr % 2 ^ 5
  else if n = 0x002 then c.fcsr / 2 ^ 5
  else if n = 0x003 then c.fcsr
  else if n = 0x300 then (if c.mpp then 0x1800 else 0)
  else if n = 0x304 ∨ n = 0x344 then 0
  else if n = 0x305 then Config.abortEntry
  else if n = 0x340 then c.mscratch
  else if n = 0x341 then c.mepc
  else if n = 0x342 then c.mcause
  else if n = 0x343 then c.mtval
  else if n = 0xC01 then s.nowNs % 2 ^ 32
  else if n = 0xC81 then s.nowNs / 2 ^ 32 % 2 ^ 32
  else if n = 0xF14 then 16 * (u / 9) + u % 9
  else s.freeNat 32

/-- R478, R492: the staged items of a task are discarded; one assigned on this very edge has not been dispatched. -/
def State.dropStaged (t : Nat) (ok : WorkItem → Bool) (s : State) : State :=
  forAll s.coreList (fun u a =>
    let c := a.core u
    match c.staged with
    | some w =>
      if w.task = t && ok w then
        let a1 := a.setCore u { c with staged := none, done := false }
        if w.asgAt = a.elapsed then a1.modTask t (fun x => { x with disp := (x.disp + 65535) % 65536 }) else a1
      else a
    | none => a) s

/-- R478: a task is fenced by an event of class `cls`: from then on nobody owns its tags, and an operand that stalled for one of them finds
no owner. -/
def State.fenceTask (cls t : Nat) (s0 : State) : State :=
  let s : State := { s0 with flt := { s0.flt with tasks := tset 0 s0.flt.tasks t cls } }
  match s.task t with
  | none => s
  | some x =>
    let s1 := s.setTask t { x with pend := 0, ready := false, insts := [] }
    let s2 := { s1 with sched := { s1.sched with fill := s1.sched.fill.filter (fun e => !taskOwns x.decl e.1) } }
    let s3 := forAll s2.coreList (fun u a =>
      match (a.core u).run with
      | some w => if w.task = t then a.abortFree u 6 else a
      | none => a) (s2.dropStaged t (fun _ => true))
    (s3.raise R.SCHED_STAT_TFENCE).drainStalls

/-- R478: a task is unfenced: enabled, with nothing pending. -/
def State.unfenceTask (t : Nat) (s : State) : State :=
  s.modTask t (fun x => { x with enabled := true, pend := 0, ready := false, insts := [] })

/-- R492: an item whose staging has completed on this very edge counts as staged still. -/
def State.unstart (u : Nat) (s : State) : State :=
  let c := s.core u
  match c.run, c.staged with
  | some w, none => if w.stgAt = some s.elapsed then s.setCore u { c with run := none, staged := some w } else s
  | some _, some _ => s
  | none, _ => s

/-- R489, R492: a core is fenced. -/
def State.fenceCore (u : Nat) (s : State) : State :=
  let s1 := ((s.unstart u).returnStaged u).abortFree u 7
  let s2 := s1.setCore u { regs := [], worn := (s1.core u).worn, inUse := (s1.core u).inUse, halted := (s1.core u).halted }
  (s2.raise R.SCHED_STAT_CORE_FENCE).loseBuffers (coreUnit u)

end Sys2Proof.Machine
end

