-- ==== Sys2Proof/Machine/LifeLog.lean ====
section
/-! DEFINITION. The service-life log of the ageing monitor (R787), and the data-port addresses of the NVM partitions
(R768, R837): the partitions lie in the order of R768 from NVM offset 0 (DESIGN CHOICE, notes/assumptions/11.md). -/

namespace Sys2Proof.Machine

/-- The NVM window of the data port (R837). -/
def nvmBase : Nat := 0xC0000000
/-- Image slot k. -/
def slotBase (k : Nat) : Nat := nvmBase + 0x300000 * k
/-- Size of one copy of settings partition p. -/
def partSize (p : Nat) : Nat := if p = 0 then 0x60000 else if p = 1 then 0x20000 else 0x8000
/-- Copy c of partition p (0 settings U, 1 settings P, 2 boot configuration). -/
def copyBase (p c : Nat) : Nat :=
  nvmBase + (if p = 0 then 0x600000 else if p = 1 then 0x6C0000 else 0x700000) + c * partSize p
/-- The fault history. -/
def histBase : Nat := nvmBase + 0x710000
/-- The service-life log. -/
def logBase : Nat := nvmBase + 0x780000
/-- The return record. -/
def retBase : Nat := nvmBase + 0x7C0000
/-- The settings RAM copy (R837). -/
def ramBase : Nat := 0xC00000
/-- Offset of a partition's mirror in the RAM copy (R775). -/
def ramOfs (p : Nat) : Nat := if p = 0 then 0 else 0x60000

/-- Types of service-life records (R787). -/
inductive LifeType where
  | spare | margin | noSpare | budget | refresh | ret
deriving DecidableEq, Repr

/-- R787: the TYPE code. -/
def LifeType.code : LifeType → Nat
  | .spare => 1 | .margin => 2 | .noSpare => 3 | .budget => 4 | .refresh => 5 | .ret => 6

/-- R787, R813: a record is written, and ASTAT shows it. -/
def State.lifeRecord (t : LifeType) (measure unit before after : Nat) (s : State) : State :=
  let i := s.get R.AGE_LOG_WR_IDX
  let ws := [t.code * 2 ^ 28 + measure * 2 ^ 24 + unit % 65536, s.nowNs % 2 ^ 32, s.nowNs / 2 ^ 32 % 2 ^ 32,
    s.get R.ARM_CYC_CNT_COUNT, s.get R.AGE_HOURS_HOURS, before % 2 ^ 32, after % 2 ^ 32]
  let s1 := (s.writeWords (logBase + 32 * i) (ws ++ [crc32c (ws.flatMap (leBytes 4))])).put R.AGE_LOG_WR_IDX (i + 1)
  let s2 := if i = 8191 then s1.put R.AGE_LOG_WR_WRAPPED 1 else s1
  match t with
  | .spare => s2.raise R.AGE_ASTAT_SPARE_IN
  | .margin => s2.raise R.AGE_ASTAT_MARGIN
  | .noSpare => s2.raise R.AGE_ASTAT_NOSPARE
  | .budget => s2.raise R.AGE_ASTAT_BUDGET
  | .refresh => s2
  | .ret => s2

end Sys2Proof.Machine
end

