-- ==== Sys2Proof/Machine/Frames.lean ====
section
/-! DEFINITION. Ring frames as the 64-bit block payloads that leave a lane (R211 to R220), and the coding of the lane (R209). -/

namespace Sys2Proof.Machine

/-- R213: H0 [55:0]. -/
def RingFrame.h0 (ring : Nat) (f : RingFrame) : Nat :=
  ring * 2 ^ 49 + f.dir * 2 ^ 48 + f.ftype * 2 ^ 45 + f.nc * 2 ^ 40 + f.seq * 2 ^ 32 + f.blank * 2 ^ 22 + f.dead * 2 ^ 12
    + f.loss * 2 ^ 4 + b2n f.tvalid * 2 ^ 3

/-- R214: H1. -/
def RingFrame.h1 (ring : Nat) (f : RingFrame) : Nat :=
  f.time * 2 ^ 32 + f.corr * 2 ^ 8 + hcrc (f.h0 ring) f.time

/-- R215: C0 of a slot. -/
def SlotCmd.c0 (slot : Nat) (c : SlotCmd) : Nat :=
  (if c.sTagged then c.sAt % 2 ^ 32 else 0) * 2 ^ 32 + b2n c.sValid * 2 ^ 31 + b2n c.sTagged * 2 ^ 30 + c.sSw * 2 ^ 26
    + c.act * 2 ^ 23 + slot * 2 ^ 19

/-- R215: C1 of a slot, with its CCRC. -/
def SlotCmd.c1 (ring seq slot : Nat) (c : SlotCmd) : Nat :=
  let hi := (if c.eTagged then c.eAt % 2 ^ 32 else 0) * 2 ^ 16 + b2n c.eValid * 2 ^ 15 + b2n c.eTagged * 2 ^ 14 + c.eSw * 2 ^ 10
  hi * 2 ^ 16 + ccrc ring seq (c.c0 slot) hi

/-- R212: the slot blocks, in slot order. -/
def slotBlocks (ring seq : Nat) : Nat → List SlotCmd → List Nat
  | _, [] => []
  | n, c :: t => [c.c0 n, c.c1 ring seq n, 0, 0, 0, 0] ++ slotBlocks ring seq (n + 1) t

/-- R219: SV0 of an access. -/
def SvcAcc.sv0 (a : SvcAcc) : Nat := a.slot * 2 ^ 60 + b2n a.wr * 2 ^ 59 + a.waddr * 2 ^ 48
/-- R219: SV1 of an access: the data of a write. -/
def SvcAcc.sv1 (a : SvcAcc) : Nat := if a.wr then a.data else 0

/-- R212, R217, R219, R234: the block payloads of a frame as the device sends it; H0 as the control block with type 0x78. -/
def RingFrame.blocks (ring : Nat) (f : RingFrame) : List Nat :=
  let body := f.h1 ring :: (slotBlocks ring f.seq 0 f.slots ++ f.sv)
  (f.h0 ring * 2 ^ 8 + 0x78) :: (body ++ [fcrc (f.h0 ring) body * 2 ^ 32 + 0xFF * 2 ^ 24])

/-- R211: how long a frame lasts on the wire, 6.4 ns for each block, in units of 2^-32 ns. -/
def RingFrame.lasts (f : RingFrame) : Nat := (3 + 6 * f.slots.length + f.sv.length) * 64 * 2 ^ 32 / 10

/-! ## Coding on the lane (R209, R233, R265, R276) -/

/-- R209: the payload of an idle control block. -/
def idleBlock : Nat := 0x1E
/-- R233: a probe ordered set, a control block of type 0x4B. -/
def probeBlock (ans : Bool) (idx turn : Nat) : Nat :=
  (b2n ans * 2 ^ 55 + idx * 2 ^ 47 + turn * 2 ^ 32 + 0xA * 2 ^ 28) * 2 ^ 8 + 0x4B
/-- R233: the 256 probes of one end, in the order in which they leave. -/
def probeSets : List Nat := (List.range 256).map (fun k => probeBlock false k 0)
/-- R233: the answer of a lane, in every role, to a probe set that arrives. -/
def probeAnswer (x : Nat) : Option Nat :=
  if bits x 0 8 = 0x4B ∧ bits x 36 4 = 0xA ∧ bitOf x 63 = false then some (probeBlock true (bits x 55 8) Config.laneTurn) else none

/-- R209: the 2-bit sync header of a block: 1 for a data block, 2 for a control block. -/
def syncHeader (control : Bool) : Nat := if control then 2 else 1
/-- R209: the coded idle block. -/
def idleCoded : Nat × Nat := (syncHeader true, idleBlock)
/-- R233: the 256 probes of one end on its lane, one every 16 blocks, with the answers `ans` to the far end's probes in the block periods
right behind them. -/
def probeCoded (ans : List Nat) : List (Nat × Nat) :=
  (List.range 256).flatMap (fun k =>
    (syncHeader true, probeBlock false k 0) :: ((ans[k]?).map (fun a => (syncHeader true, a))).getD idleCoded :: List.replicate 14 idleCoded)
/-- R233, R267: a repeating lane sends every block as it comes, but for a probe, in whose place its answer leaves (DEDUCED,
notes/assumptions/61.md). -/
def repeatedBlock (b : Nat × Nat) : Nat × Nat := if b.1 = syncHeader true then (b.1, (probeAnswer b.2).getD b.2) else b
/-- R276: a coded block is an alignment marker. -/
def isMarker (b : Nat × Nat) : Bool := decide (b.1 = syncHeader true ∧ bits b.2 0 8 = 0x4B ∧ bits b.2 36 4 = 0xC)
/-- R276: the payloads of one lane as its port sees them: the receiver has removed the markers. -/
def unmarked (bs : List (Nat × Nat)) : List Nat := (bs.filter (fun b => !isMarker b)).map (·.2)
/-- R209: a frame as the coded blocks of the lane, each a sync header and a payload: only its first is a control block. -/
def RingFrame.coded (ring : Nat) (f : RingFrame) : List (Nat × Nat) :=
  match f.blocks ring with
  | [] => []
  | h :: t => (syncHeader true, h) :: t.map (fun b => (syncHeader false, b))

/-- R209: one bit of the self-synchronising scrambler x^58 + x^39 + 1: the bit that leaves, and the register after it. -/
def scrambleBit (reg : Nat) (b : Bool) : Bool × Nat :=
  let o := b != (bitOf reg 57 != bitOf reg 38)
  (o, (reg * 2 + b2n o) % 2 ^ 58)
/-- R209, R210: a payload scrambled from bit 0 upwards: the 64 bits that leave, and the register after them. -/
def scramble (reg payload : Nat) : Nat × Nat :=
  (List.range 64).foldl (fun a j => let r := scrambleBit a.2 (bitOf payload j); (a.1 + b2n r.1 * 2 ^ j, r.2)) (0, reg)
/-- R209, R265: coded blocks as they stand on the wire from a register of the scrambler on; the sync headers are not scrambled. -/
def wireBlocks : Nat → List (Nat × Nat) → List (Nat × Nat)
  | _, [] => []
  | reg, b :: t => (b.1, (scramble reg b.2).1) :: wireBlocks (scramble reg b.2).2 t
/-- R279: the PRBS31 pattern of clause 49, x^31 + x^28 + 1 inverted, from a register on: `n` bits, the first in bit 0 (PRESUMED,
notes/assumptions/62.md). -/
def prbsBits : Nat → Nat → Nat
  | 0, _ => 0
  | n + 1, reg =>
    let o := bitOf reg 30 != bitOf reg 27
    b2n (!o) + 2 * prbsBits n ((reg * 2 + b2n o) % 2 ^ 31)
/-- R295: blocks of the other polarity. -/
def invertBlocks (bs : List (Nat × Nat)) : List (Nat × Nat) := bs.map (fun b => (3 - b.1, 2 ^ 64 - 1 - b.2))

end Sys2Proof.Machine
end

