-- ==== Sys2Proof/Machine/PairLink.lean ====
section
/-! DEFINITION. What the other chapters share with Canopy and Amber: port queues, the roles of a redundant pair, the
checkpoint region's size and the static part (R613, R617, R625, R626, R632 to R637). -/

namespace Sys2Proof.Machine

/-- A payload padded to whole blocks of eight bytes (R613). -/
def padBlocks (bs : List Byte) : List Byte := bs ++ List.replicate ((8 - bs.length % 8) % 8) 0

/-! ## The block sequence (R612 to R614) -/

/-- R613: the payload blocks of a message. -/
def payloadBlocks : Nat → List Byte → List Nat
  | 0, _ => []
  | n + 1, bs => leNat (bs.take 8) :: payloadBlocks n (bs.drop 8)
end Sys2Proof.Machine

namespace Sys2Proof

open Machine

/-- R613: NBLK. -/
def CMsg.nblk (m : CMsg) : Nat := (m.payload.length + 7) / 8
/-- R613: block 0 [55:0] with its HOPS. -/
def CMsg.b0 (m : CMsg) (hops : Nat) : Nat :=
  m.mtype * 2 ^ 52 + m.dst * 2 ^ 42 + m.src * 2 ^ 32 + hops * 2 ^ 28 + m.sess * 2 ^ 20 + m.seq * 2 ^ 12 + m.nblk * 2 ^ 6
/-- R613: the blocks between block 0 and the last. -/
def CMsg.inner (m : CMsg) : List Nat := (m.tag * 2 ^ 32 + m.aux) :: payloadBlocks m.nblk (padBlocks m.payload)
/-- R614: MCRC, with HOPS taken as 0. -/
def CMsg.mcrcOf (m : CMsg) : Nat := fcrc (m.b0 0) m.inner
/-- R614: the MCRC that a message carries is right. -/
def CMsg.mcrcOk (m : CMsg) : Bool := decide (m.mcrc = m.mcrcOf)
/-- R614: the MCRC with which a message leaves: a forwarded message whose own failed carries it inverted. -/
def CMsg.mcrcSent (fwd : Bool) (m : CMsg) : Nat := if fwd && !m.mcrcOk then 2 ^ 32 - 1 - m.mcrcOf else m.mcrcOf
/-- R613: the 3 + NBLK blocks of a message, each its sync header and its payload. -/
def CMsg.blocks (fwd : Bool) (m : CMsg) : List (Nat × Nat) :=
  (syncHeader true, m.b0 m.hops * 2 ^ 8 + 0x78) :: (m.inner ++ [m.mcrcSent fwd * 2 ^ 32]).map (fun b => (syncHeader false, b))
end Sys2Proof

namespace Sys2Proof.Machine

/-- R612: idle blocks up to the next block on logical lane 0. -/
def idlesFrom (lane : Nat) : List (Nat × Nat) := List.replicate ((4 - lane % 4) % 4) (syncHeader true, idleBlock)
/-- R612: blocks that join the port's sequence at a logical lane: the j-th goes on lane j mod 4. -/
def onLanes (lane : Nat) (bs : List (Nat × Nat)) : List (Nat × Nat × Nat) :=
  (bs.zip (List.range bs.length)).map (fun e => ((lane + e.2) % 4, e.1.1, e.1.2))
/-- R612: the port's sequence gains a message after 0 to 3 idle blocks, or idle blocks alone. -/
def PortSt.carry (m : Option (Bool × CMsg)) (x : PortSt) : PortSt :=
  let bs := idlesFrom x.lane ++ (match m with | some (fwd, c) => c.blocks fwd | none => [])
  { x with line := onLanes x.lane bs, lane := (x.lane + bs.length) % 4 }
/-- The port's unit (R13). -/
def canopyUnit (p : Nat) : Nat := 0x0600 + p
/-- R610: a port goes down. -/
def State.portDown (p : Nat) (s : State) : State :=
  if (s.port p).up then
    let s1 := (s.setPort p (PortSt.carry none { s.port p with up := false, out := none })).put (R.CANOPY_PEER_VALID p) 0
    (s1.raise (R.CANOPY_PSTAT_DOWN p)).eventOpen .canopy (canopyUnit p) 0
  else s
/-- R610, R625: PEER follows the marker identity of the port's peer; the device's own identity, and on the checkpoint port one that is not
the peer's, are flagged. -/
def State.portPeer (p : Nat) (s : State) : State :=
  let dev := s.get (R.LANE_DESKEW_PEER (96 + 4 * p))
  let s1 := s.putAll [(R.CANOPY_PEER_VALID p, 1), (R.CANOPY_PEER_PORT p, s.get (R.LANE_DESKEW_PPORT (96 + 4 * p))), (R.CANOPY_PEER_DEV p, dev)]
  (s1.flagIf (decide (dev = s.get R.CANOPY_DEVID_ID)) (R.CANOPY_PSTAT_DUPID p)).flagIf
    (s1.isCkPort p && decide (dev ≠ s.get R.AMBER_CFG_PEER)) R.AMBER_ASTAT_CFG_MIS
/-- R610: the peer's markers carry the device's own identity. -/
def State.ownPeer (s : State) (p : Nat) : Bool := decide (s.get (R.LANE_DESKEW_PEER (96 + 4 * p)) = s.get R.CANOPY_DEVID_ID)
/-- R610: a port that is up goes by what its peer's markers say now. -/
def State.peerAgain (p : Nat) (s : State) : State :=
  if (s.port p).up && (s.ownPeer p || decide (s.get (R.LANE_DESKEW_PEER (96 + 4 * p)) ≠ s.get (R.CANOPY_PEER_DEV p)
      ∨ s.get (R.LANE_DESKEW_PPORT (96 + 4 * p)) ≠ s.get (R.CANOPY_PEER_PORT p))) then
    (if s.ownPeer p then (s.portPeer p).portDown p else s.portPeer p)
  else s
/-- R612: the sequence of blocks that a receiver puts together from the four logical lanes after deskew. -/
def reassemble (lanes : List (List Nat)) : List Nat :=
  (List.range (lanes.map List.length).sum).map (fun j => (lanes.getD (j % 4) []).getD (j / 4) idleBlock)
/-- R613: the message whose block 0 begins a sequence of blocks, where they are a whole message. -/
def msgOf (bs : List Nat) : Option CMsg :=
  match bs with
  | b :: c :: t =>
    let h := b / 2 ^ 8
    let n := bits h 6 6
    if b % 2 ^ 8 = 0x78 ∧ n ≤ 32 ∧ n < t.length then
      some { mtype := bits h 52 4, dst := bits h 42 10, src := bits h 32 10, hops := bits h 28 4, sess := bits h 20 8, seq := bits h 12 8
             tag := bits c 32 32, aux := bits c 0 32, payload := (t.take n).flatMap (leBytes 8), mcrc := bits (t.getD n 0) 32 32 }
    else none
  | [_] => none
  | [] => none

/-- Bytes cut into payloads of at most 256 bytes. `fuel` bounds the number of pieces. -/
def pieces : Nat → List Byte → List (List Byte)
  | 0, _ => []
  | n + 1, bs => if bs.length ≤ 256 then [bs] else bs.take 256 :: pieces n (bs.drop 256)

/-! ## Roles (R625 to R630) -/

/-- R625: the checkpoint port carries pair traffic: its peer's identity is the one configured. -/
def State.pairLink (s : State) (p : Nat) : Bool :=
  s.isCkPort p && s.portUp p && decide (s.get (R.CANOPY_PEER_DEV p) = s.get R.AMBER_CFG_PEER)
/-- The checkpoint engine's unit (R13). -/
def amberUnit : Nat := 0x0620
/-- The checkpoint engine runs. -/
def State.amberUp (s : State) : Bool := s.pairOp && s.unitUp amberUnit

/-- R626, R648: the device commands no cells: it is in STANDBY, WARM or TAKEOVER. -/
def State.passive (s : State) : Bool :=
  s.pairOp && (match s.amber.role with
    | .standby => true
    | .warm => true
    | .takeover => true
    | .none => false
    | .active => false)

/-- R625: a message of this device to its peer on the checkpoint port. -/
def State.pairMsg (s : State) (mtype tag aux : Nat) (payload : List Byte) : CMsg where
  mtype := mtype
  dst := s.get R.AMBER_CFG_PEER
  src := s.get R.CANOPY_DEVID_ID
  hops := 15
  sess := 0
  seq := 0
  tag := tag
  aux := aux
  payload := payload

/-- A pair message waits on the checkpoint port while the checkpoint engine runs and the port carries pair traffic. -/
def State.pairSend (cls : Nat) (m : CMsg) (s : State) : State :=
  if s.amberUp && s.pairLink (s.get R.AMBER_CFG_PORT) then s.enqueue (s.get R.AMBER_CFG_PORT) cls m else s

/-! ## Register words -/

/-- The word that the fields of a list at an address make. -/
def State.fieldsWord (s : State) (fs : List Field) (addr : Nat) : Nat :=
  ((fs.filter (fun F => decide (F.addr = addr))).map (fun F => s.get F * 2 ^ F.lo)).sum

/-- The fields of a list at an address take the bits of a word. -/
def State.putWord (fs : List Field) (addr v : Nat) (s : State) : State :=
  s.putAll ((fs.filter (fun F => decide (F.addr = addr))).map (fun F => (F, bits v F.lo F.w)))

/-! ## Buffers -/

/-- The memory address of byte 0 of a buffer by handle. -/
def State.bufAddr (s : State) (h : Nat) : Option Nat :=
  match s.sched.bufs.find? (fun b => decide (b.decl.handle = h)) with
  | none => none
  | some b =>
    match b.decl.kind with
    | .placed => some (locBase b.decl.loc)
    | .fixed a => some a
    | .scratch => none

/-- R632: the firmware checkpoint buffers, in ascending handle order. -/
def State.ckBufs (s : State) : List (Nat × BufSt) :=
  s.sched.bufs.foldl (fun t b => if b.decl.ckpt then insertKey b.decl.handle b t else t) []

/-- R634: a size padded to a multiple of 8 bytes. -/
def pad8 (n : Nat) : Nat := (n + 7) / 8 * 8

/-- R632: an item that declares one of the buffers read-write is not staged until the buffer's copy ends. -/
def State.ckHolds (s : State) (d : TaskDecl) : Bool :=
  match s.amber.stream with
  | none => false
  | some c => d.bufs.any (fun b => b.2.2 && c.bufs.contains b.1)

/-! ## The region's size (R633, R634) -/

/-- R634: the size of the hardware part with its header. -/
def State.hwSize (s : State) : Nat := 320 + 64 * s.variant.loops + 136 * s.admittedRings.length
/-- R634: the region's size. -/
def State.regionSize (s : State) : Nat := s.hwSize + (s.ckBufs.map (fun e => pad8 e.2.decl.size)).sum + 8
/-- R633: the region is over its limit. -/
def State.regionOver (s : State) : Bool :=
  decide (4096 * (10 * s.get R.ARM_CYC_LEN_LEN) < 1000 * s.regionSize) || decide (65536 < s.regionSize)

/-- R633, R678: the size is checked again. -/
def State.regionCheck (s : State) : State :=
  if s.pairOp then
    let big := s.regionOver
    let s1 := (s.putAll [(R.AMBER_REGION_HW8, s.hwSize / 8), (R.AMBER_REGION_SIZE, s.regionSize)]).cond R.AMBER_ASTAT_SIZE big
    let s2 : State := { s1 with amber := { s1.amber with overSize := big } }
    if big && !s.amber.overSize then s2.eventOpen .canopy amberUnit 0 else s2
  else s

/-! ## The static part (R637) -/

/-- R637: what the static part carries. -/
def State.staticRings (s : State) : List StaticRing :=
  s.admittedRings.map (fun n =>
    { ring := n, nc := s.get (R.RING_TOPO_NC n), rt := s.get (R.RING_TOPO_RT n), dly := s.get (R.RING_LINK_DLY n)
      slots := (List.range (s.get (R.RING_TOPO_NC n))).map (fun k =>
        { serial := (s.smRec (16 * n + k)).serial, full := (s.smRec (16 * n + k)).full, capUf := (s.smRec (16 * n + k)).capUf }) })

/-- R615, R637: the STATIC messages of the static part. -/
def State.staticMsgs (s : State) : List CMsg :=
  let ps := pieces 65536 (padBlocks (Config.staticBytes s.staticRings))
  (ps.zip (List.range ps.length)).map (fun e =>
    s.pairMsg 6 s.amber.statSeq ((if e.2 + 1 = ps.length then 2 ^ 31 else 0) + e.2) e.1)

/-- R637: the active device sends the static part. -/
def State.sendStatic (s : State) : State :=
  if decide (s.amber.role = .active) then s.staticMsgs.foldl (fun a m => a.pairSend 5 m) s else s

/-- R633, R637: a ring has been admitted, fenced or unfenced; STATIC_SEQ counts whether pair operation is enabled or not. -/
def State.topologyChanged (s : State) : State :=
  if s.variant.hasPair then
    ({ s with amber := { s.amber with statSeq := (s.amber.statSeq + 1) % 65536 } }).regionCheck.sendStatic
  else s

/-! ## The stream on the port (R633, R637, R679) -/

/-- R679: the last message of a checkpoint has left: the stream has ended. -/
def State.ckSent (p : Nat) (s : State) : State :=
  match (s.port p).out, s.amber.stream with
  | some m, some c =>
    if s.isCkPort p && decide (m.mtype = 5) && decide (m.tag = c.seq) && bitOf m.aux 31 then
      ({ s with amber := { s.amber with stream := none } }).putAll [(R.AMBER_CK_SEQ_VAL, c.seq), (R.AMBER_CK_CYC_VAL, c.cyc)]
    else s
  | some _, none => s
  | none, _ => s

/-- R637: the static part is repeated when the checkpoint port has nothing else to send. -/
def State.staticAgain (p : Nat) (s : State) : State :=
  if s.isCkPort p && (s.port p).queue.isEmpty then s.sendStatic else s

end Sys2Proof.Machine
end

