-- ==== Sys2Proof/Machine/Select.lean ====
section
/-! DEFINITION. The selection of a cycle over the sub-module records (R74 to R97). -/

namespace Sys2Proof.Machine

/-- R74: the sets that level timing works on. -/
def State.levelSets (s : State) : LevelSets :=
  let m := s.selectable
  let fb := m.filter (fun i => (s.smRec i).full)
  { n := m.length, w := (m.map (fun i => (s.smRec i).vFix)).sum, nFb := fb.length, wFb := (fb.map (fun i => (s.smRec i).vFix)).sum
    negEn := s.on R.RANK_CTRL_NEG_EN }

/-- R91: the arm current lies in the dead band. -/
def State.inDead (s : State) : Bool := decide ((s.getS R.ARM_I_ARM_I).natAbs ≤ s.get R.RANK_I_DEAD_DEAD)

/-- R91: the sign is decided, or held in the dead band. -/
def State.decideSign (s : State) : State :=
  if s.inDead then s
  else { s with rank := { s.rank with discharge := decide (s.getS R.ARM_I_ARM_I < 0), decided := true } }

/-- R92, R93: the members of S as the order sees them. -/
def State.cands (s : State) : List Cand :=
  let d := s.get R.RANK_SWAP_DWELL
  s.selectable.map (fun i =>
    let r := s.smRec i
    { idx := i, full := r.full, bin := s.binOf i, pol := r.ins, pinned := decide (d ≠ 0 ∧ r.dwell < d), key := r.key, vFix := r.vFix })

/-- R118 to R122, R139: what a selection reports. NEG_EN is judged at the selection; a change of it in between leaves the last
report (DESIGN CHOICE, notes/assumptions/60.md). -/
def State.selReport (S : LevelSets) (r : SelResult) (dead : Bool) (s : State) : State :=
  let ns := s.freeNat 10 % 501
  let mv (w n : Nat) : Nat := if n = 0 then 0 else w * 100 / (256 * n)
  let s1 := (s.useFree 1).putAll [(R.ARM_SETCNT_N_SEL, S.n), (R.ARM_SETCNT_FB_N_FB, S.nFb), (R.ARM_V_LVL_V, mv S.w S.n),
    (R.ARM_V_LVL_FB_V, if S.negEn then mv S.wFb S.nFb else 0), (R.ARM_V_SUM_SUM, S.w / 256), (R.RANK_SEL_INFO_SIGN, b2n s.rank.discharge),
    (R.RANK_SEL_INFO_HELD, b2n dead), (R.RANK_SEL_INFO_THR_BIN, r.thr), (R.RANK_SEL_INFO_SEL_NS, ns),
    (R.RANK_SEL_MAX_MAX, max ns (s.get R.RANK_SEL_MAX_MAX))]
  let s2 := ((s1.addTo R.RANK_CNT_SWAP_COUNT r.swaps).addTo R.RANK_CNT_SW_COUNT r.moves).addTo R.RANK_CNT_EVT_DWELL_OVR r.ovr.length
  (((((s2.flagIf r.levels.sat R.RANK_STAT_REF_SAT).flagIf r.levels.clamp R.RANK_STAT_REF_CLAMP).flagIf r.levels.merge R.RANK_STAT_EDGE_MERGE).flagIf
    r.fill R.RANK_STAT_BAND_FILL).flagIf (!r.ovr.isEmpty) R.RANK_STAT_DWELL_OVR).flagIf dead R.RANK_STAT_NEUTRAL

/-- R85, R905: the two counts of bin `b`: the free members of S commanded inserted in a polarity, and the free members not so
commanded. -/
def State.binCounts (s : State) (pol b : Nat) : Nat × Nat :=
  let m := s.cands.filter (fun c => !c.pinned && decide (c.bin = b))
  ((m.filter (fun c => decide (c.pol = pol))).length, (m.filter (fun c => decide (c.pol ≠ pol))).length)

/-- R148: the group and the membership of S that the record window shows; a sub-module outside S shows group 0 (DESIGN CHOICE,
notes/assumptions/59.md). -/
def State.markRecs (groups : List (Nat × Nat)) (s : State) : State :=
  forAll ((s.rank.recs.filter (fun e => e.2.present)).map (·.1)) (fun i a =>
    let g := (groups.find? (fun e => decide (e.1 = i))).map (·.2)
    a.setRec i { a.smRec i with group := g.getD 0, sel := a.admitted (i / 16) && a.inS i }) s

/-- What a selection counts or leaves standing, with the interrupts that its status bits raise. -/
def selKept : List Field :=
  [R.RANK_CNT_SWAP_COUNT, R.RANK_CNT_SW_COUNT, R.RANK_CNT_EVT_DWELL_OVR, R.RANK_SEL_MAX_MAX, R.RANK_STAT_REF_SAT, R.RANK_STAT_REF_CLAMP,
   R.RANK_STAT_EDGE_MERGE, R.RANK_STAT_BAND_FILL, R.RANK_STAT_DWELL_OVR, R.RANK_STAT_NEUTRAL, R.RANK_IRQ_STAT_PEND]

/-- R74 to R97: the selection over the present records. -/
def State.select (s : State) : State :=
  let S := s.levelSets
  let dead := s.inDead
  let s1 := s.decideSign
  let r := runSelection S s1.arm.last (s1.get R.ARM_CYC_LEN_LEN) (s1.get R.RANK_SWAP_BAND) s1.rank.discharge dead s1.cands
  let s2 := (s1.selReport S r dead).markRecs r.groups
  { s2 with rank := { s2.rank with plan := some r.plan } }

/-- R105, R183: something that the selection of this very instant has to see has come behind it: the selection is made anew, and what the
first one counted is taken back. -/
def State.selAgain (s : State) : State :=
  if s.arm.selDone && s.arm.selMode && !s.arm.committed && s.rank.plan.isSome && decide (s.elapsed = s.arm.selEl) then
    (s.putAll (selKept.zip s.arm.selWas)).select
  else s

end Sys2Proof.Machine
end

