-- ==== Sys2Proof/Machine/Protect.lean ====
section
/-! DEFINITION. Power-stage protection and the command encoder: desaturation, under-voltage, holds, leakage rounds,
bypass requests, direct commands, and the encoding of a committed plan (R150 to R183). -/

namespace Sys2Proof.Machine

/-! ## Helpers -/

/-- The CMDENC unit (R13). -/
def encUnit : Nat := 0x0503

/-- The identity that IDENT read for sub-module i is a full-bridge. -/
def State.isFull (s : State) (i : Nat) : Bool := (tget {} (s.ring (i / 16)).idents (i % 16)).full

/-- R902: CMDENC.STAT.UV and CMDENC.STAT.HOLD_BLK follow the holds. -/
def State.protConds (s : State) : State :=
  let lim := s.get R.CMDENC_PROT_HOLD_BLK
  let s1 := s.cond R.CMDENC_STAT_UV (s.enc.prot.any (fun e => decide (e.2.uv ≠ 0)))
  s1.cond R.CMDENC_STAT_HOLD_BLK (decide (lim ≠ 0) && s1.enc.prot.any (fun e => decide (lim ≤ e.2.blkCnt) && e.2.held))

/-- R178, R179: a FIRE_BYPASS request. -/
def State.requestFire (i : Nat) (s : State) : State :=
  let p := s.prot i
  if p.fire || p.fbp then s else s.setProt i { p with fire := true, fireTmo := false, fireNs := s.elNs }

/-! ## Leakage rounds (R174, R177) -/

/-- The members that a round may hold (R174). -/
def State.leakPool (s : State) : List Nat := s.liveSms.filter (fun i => !(s.prot i).fbp)

/-- R174: a round begins. -/
def State.leakBegin (s : State) : State :=
  let pool := s.leakPool
  let s1 := forAll (s.enc.prot.map (·.1)) (fun i a => a.setProt i { a.prot i with lkPend := false }) s
  let s2 := forAll pool (fun i a => a.setProt i { a.prot i with lkPend := true }) s1
  ({ s2 with enc := { s2.enc with lkOpen := true } }.put R.CMDENC_LEAK_STAT_FAILS 0).put R.CMDENC_STATUS_LEAK_BUSY 1

/-- The members still pending and still eligible for the round (R174). -/
def State.leakPending (s : State) : List Nat := s.leakPool.filter (fun i => (s.prot i).lkPend)

/-- R174: the round ends when its pending set is empty; with CONT the next begins. With CONT and no member that a round could
hold, no next round begins (DESIGN CHOICE, notes/assumptions/60.md). -/
def State.leakCheckEnd (s : State) : State :=
  if s.enc.lkOpen && s.leakPending.isEmpty then
    let s1 := ((({ s with enc := { s.enc with lkOpen := false } }).addTo R.CMDENC_LEAK_STAT_ROUND 1).raise
      R.CMDENC_STAT_LEAK_DONE).put R.CMDENC_STATUS_LEAK_BUSY 0
    if s1.on R.CMDENC_LEAK_CTRL_CONT && !s1.leakPool.isEmpty then s1.leakBegin else s1
  else s

/-- R177: one switch's leakage result. -/
def State.leakResult (i k res code : Nat) (s : State) : State :=
  if decide (res = 1) && decide (s.get R.CMDENC_LEAK_CTRL_LIM ≤ code) then
    (((s.setProt i { s.prot i with leak := setBitN (s.prot i).leak k }).event .gdrv (ringUnit (i / 16)) i).raise
      R.CMDENC_STAT_LEAK_FAIL).addSat R.CMDENC_LEAK_STAT_FAILS 1
  else s

/-- R177: the leakage results of a valid report. -/
def State.leakReport (i : Nat) (full : Bool) (rep : Report) (s : State) : State :=
  let n := if full then 4 else 2
  let res := (rep.lkr.take n)
  if res.all (fun r => decide (r = 0)) then s
  else
    let s1 := forAll (List.range n) (fun k a => a.leakResult i k (rep.lkr.getD k 0) (rep.lk.getD k 0)) s
    let done := res.all (fun r => decide (r = 1) || decide (r = 2))
    (s1.setProt i { s1.prot i with lkReq := false, lkPend := (s1.prot i).lkPend && !done }).leakCheckEnd

/-! ## Reports (R163 to R168, R171, R179) -/

/-- R174: the sub-modules of ring n leave the pending set of the round. -/
def State.leakLeave (n : Nat) (s : State) : State :=
  (forAll (List.range 16) (fun k a =>
    if (a.prot (16 * n + k)).lkPend then a.setProt (16 * n + k) { a.prot (16 * n + k) with lkPend := false } else a) s).leakCheckEnd

/-- R174, R179: the FAILED_BYPASS bit of a report. -/
def State.fbpReport (i : Nat) (rep : Report) (s : State) : State :=
  let p := s.prot i
  if rep.fbp then
    let s1 := s.setProt i { p with repFbp := true, fire := false, fbp := true, lkPend := false }
    if p.fbp then s1 else (s1.raise R.CMDENC_STAT_FBP_DONE).leakCheckEnd
  else s.setProt i { p with repFbp := false }

/-- R171: the judgement of a CLEAR_FAULT that has been sent: the switches of the latch that still show stay a reason; a switch that was
not in it is a new report of its own. -/
def State.clearReport (i : Nat) (rep : Report) (s : State) : State :=
  let p := s.prot i
  if p.clrSent then
    let kept := Nat.land p.desat rep.desat
    let s1 := s.setProt i { p with clrSent := false, desat := kept, seen := kept }
    if kept = 0 then s1 else s1.raise R.CMDENC_STAT_CLR_FAIL
  else s

/-- R183: a RELEASE on the same clock edge has no effect. -/
def SmProt.unrelease (now : Nat) (p : SmProt) : SmProt :=
  match p.rel with
  | some r => if r.at_ = now then { p with fw := r.fw, uv := r.uv, leak := r.leak, rel := none } else p
  | none => p

/-- R166: the latched set of a full-bridge covers both legs. -/
def bothLegs (full : Bool) (sw : Nat) : Bool := full && decide (bits sw 0 2 ≠ 0) && decide (bits sw 2 2 ≠ 0)

/-- R166: FIRE_BYPASS for a sub-module whose latched set covers both legs. -/
def State.legsFire (i : Nat) (full : Bool) (s : State) : State :=
  if bothLegs full (s.prot i).desat then (s.raise R.CMDENC_STAT_FB_2LEG).requestFire i else s

/-- R163 to R166, R183: a new desaturation report of sub-module i. -/
def State.newDesat (i : Nat) (full : Bool) (rep : Report) (s : State) : State :=
  let p := (s.prot i).unrelease s.elapsed
  let grp := some (s.get R.ARM_CYC_CNT_COUNT)
  let s1 := s.setProt i { p with desat := Nat.lor p.desat rep.desat, seen := Nat.lor p.seen rep.desat, scAt := some s.elapsed
                                 clr := false, repDesat := rep.desat }
  let s2 := s1.post { cls := .sc, unit := ringUnit (i / 16), aux := i, group := grp, standing := true }
  let s3 := (s2.raise R.CMDENC_STAT_DESAT).addTo R.CMDENC_CNT_DESAT 1
  let s4 := s3.putAll [(R.CMDENC_DESAT_LAST_SW, rep.desat), (R.CMDENC_DESAT_LAST_IDX, i), (R.CMDENC_DESAT_TS_TS, rep.desatTs)]
  let l := addKey i s4.enc.scList
  let s5 := { s4 with enc := { s4.enc with scList := l } }
  let s6 := if l.length = s5.get R.CMDENC_PROT_SC_ARM_LIMIT ∧ l.length ≠ s4.enc.scList.length then
      (s5.raise R.CMDENC_STAT_SC_ARM).post { cls := .sc, unit := encUnit, aux := i, req := .atLeast 3, group := grp }
    else s5
  s6.legsFire i full

/-- R163: the desaturation set of a valid report. -/
def State.desatReport (i : Nat) (full : Bool) (rep : Report) (s : State) : State :=
  if (bitList 4 rep.desat).any (fun k => !bitOf (s.prot i).seen k) then s.newDesat i full rep
  else s.setProt i { s.prot i with repDesat := rep.desat }

/-- R168: the under-voltage bit of one switch: its reason, and its count of clean reports (one byte of `uvClean`). -/
def uvSwitch (lim uv k : Nat) (p : SmProt) : SmProt :=
  let cnt := bits p.uvClean (8 * k) 8
  let set (v : Nat) : Nat := p.uvClean - cnt * 2 ^ (8 * k) + v * 2 ^ (8 * k)
  if bitOf uv k then
    if bitOf p.uvPrev k then { p with uvClean := set 0 } else { p with uv := setBitN p.uv k, uvClean := set 0 }
  else if bitOf p.uv k then
    let c := satTo 255 (cnt + 1)
    if lim ≠ 0 ∧ lim ≤ c then { p with uv := clrBitN p.uv k, uvClean := set 0 } else { p with uvClean := set c }
  else p

/-- R168: the under-voltage set of a valid report. -/
def State.uvReport (i : Nat) (rep : Report) (s : State) : State :=
  let p := s.prot i
  let rise := (bitList 4 rep.uv).any (fun k => !bitOf p.uvPrev k)
  let p1 := (List.range 4).foldl (fun a k => uvSwitch (s.get R.CMDENC_PROT_UV_CLR) rep.uv k a) p
  let s1 := s.setProt i { p1 with uvPrev := rep.uv }
  (if rise then s1.post { cls := .gdrv, unit := ringUnit (i / 16), aux := i, standing := true } else s1).protConds

/-- R166, R642: in a hold cycle the reported sets become hold reasons, without events. -/
def State.holdReport (i : Nat) (full : Bool) (rep : Report) (s : State) : State :=
  let p := s.prot i
  let s1 := s.setProt i { p with desat := Nat.lor p.desat rep.desat, seen := Nat.lor p.seen rep.desat, repDesat := rep.desat
                                 uv := Nat.lor p.uv rep.uv, uvPrev := rep.uv }
  (if (bitList 4 rep.desat).any (fun k => !bitOf p.seen k) then s1.legsFire i full else s1).protConds

/-- R232: what protection takes from a valid report of a ring in TSYNC, READY or ADMITTED. -/
def State.protReport (i : Nat) (rep : Report) (s : State) : State :=
  let full := s.isFull i
  let s1 := (s.fbpReport i rep).clearReport i rep
  (if s.amber.hold then s1.holdReport i full rep else (s1.desatReport i full rep).uvReport i rep).leakReport i full rep

/-! ## Encoding (R151 to R160, R170 to R175) -/

/-- R170: the held command is BLOCK. -/
def heldBlock (full fbByp : Bool) (p : SmProt) : Bool :=
  decide (p.desat ≠ 0) || decide (p.repDesat ≠ 0) || p.fire || decide (Nat.land p.uv (swBypass full fbByp) ≠ 0)

/-- R170: the held command's switch word. -/
def heldSw (full fbByp : Bool) (p : SmProt) : Nat := if heldBlock full fbByp p then 0 else swBypass full fbByp

/-- One planned entry of a window: its offset in 10 ns units, its word, and where the word comes from. -/
structure Entry where
  ofs  : Nat
  sw   : Nat
  src  : Nat := 0
  task : Nat := 0
deriving DecidableEq, Repr

/-- What a window commands one sub-module: the start and edge entries, whether they are tagged, the word held at the
window's end, and whether the word stays the same for the whole window. -/
structure Window where
  start  : Option Entry := none
  edge   : Option Entry := none
  tagged : Bool := true
  endSw  : Nat := 0
  steady : Bool := false
  drops  : Nat := 0
deriving DecidableEq, Repr

/-- R160: the window of a held sub-module, from its direct commands in posting order. Of two entries at offset 0 the first posted takes
the start entry and the second the edge entry, with the same tag (DESIGN CHOICE, notes/assumptions/59.md). -/
def heldWindow (full fbByp : Bool) (p : SmProt) (endSw : Nat) (ds : List Dcmd) : Window :=
  let h := heldSw full fbByp p
  let es := ds.map (fun d => (⟨d.ofs, d.sw, d.src, d.task⟩ : Entry))
  let es := match es with
    | [a, b] => if a.ofs ≤ b.ofs then [a, b] else [b, a]
    | l => l
  match es with
  | [] => { start := some ⟨0, h, 0, 0⟩, endSw := h, steady := decide (h = endSw) }
  | [a] =>
    if a.ofs = 0 then { start := some a, endSw := a.sw }
    else if h = endSw then { edge := some a, endSw := a.sw }
    else { start := some ⟨0, h, 0, 0⟩, edge := some a, endSw := a.sw }
  | a :: b :: _ =>
    if a.ofs = 0 ∨ h = endSw then { start := some a, edge := some b, endSw := b.sw }
    else { start := some ⟨0, h, 0, 0⟩, edge := some a, endSw := a.sw, drops := 1 }

/-- R51: sub-module i receives the BLOCK of an UNKNOWN one, with no action. -/
def State.unknownBlock (s : State) (i : Nat) : Bool := !s.blockAll && decide ((s.smRec i).rcnt < 2)

/-- R51, R94, R160, R642: the window that a commit gives sub-module i. An UNKNOWN sub-module receives BLOCK whether it is held
or not (DEDUCED, notes/assumptions/53.md). A direct command of a sub-module that is UNKNOWN or not admitted at its commit is
discarded without DROP (DESIGN CHOICE, notes/assumptions/60.md), and one that is neither held nor in the plan, because it was released
after the selection start, receives BLOCK at offset 0 (DESIGN CHOICE, notes/assumptions/63.md). -/
def State.windowOf (s : State) (plan : Option Plan) (i : Nat) : Window :=
  let r := s.smRec i
  let p := s.prot i
  let fbByp := s.on R.CMDENC_CTRL_FB_BYP
  if s.blockAll then { start := some ⟨0, 0, 0, 0⟩, tagged := false, endSw := 0, steady := true }
  else if r.await then { endSw := r.endSw }
  else if p.fbp || s.unknownBlock i then { start := some ⟨0, 0, 0, 0⟩, endSw := 0 }
  else if p.held then heldWindow r.full fbByp p r.endSw (s.enc.dcmds.filter (fun d => decide (d.idx = i)))
  else
    match plan.bind (fun pl => (pl.moves.find? (fun m => decide (m.1 = i)))) with
    | none => { start := some ⟨0, 0, 0, 0⟩, endSw := 0, steady := decide (r.endSw = 0) }
    | some (_, p0, e) =>
      let w0 := swOf r.full fbByp p0
      let st : Option Entry := if w0 = r.endSw then none else some ⟨0, w0, 0, 0⟩
      match e with
      | none => { start := st, endSw := w0, steady := st.isNone && decide (p0 = 0) }
      | some (o, p1) => { start := st, edge := some ⟨o, swOf r.full fbByp p1, 0, 0⟩, endSw := swOf r.full fbByp p1 }

/-- R155: the first entry of a window whose word is in conflict. Of two words in conflict in one window the first alone is
reacted to and counted (DESIGN CHOICE, notes/assumptions/60.md). -/
def Window.bad (full : Bool) (w : Window) : Option Entry :=
  match w.start.filter (fun e => swConflict full e.sw) with
  | some e => some e
  | none => w.edge.filter (fun e => swConflict full e.sw)

/-- R156: the encoder's reaction to a word in conflict. -/
def State.interlock (i : Nat) (e : Entry) (s : State) : State :=
  ((s.putAll [(R.CMDENC_INTLK_LAST_SRC, e.src), (R.CMDENC_INTLK_LAST_TASK, if e.src = 1 then e.task else 0),
      (R.CMDENC_INTLK_LAST_SW, e.sw), (R.CMDENC_INTLK_LAST_IDX, i)]).raise R.CMDENC_STAT_INTLK).addTo R.CMDENC_CNT_INTLK 1
    |>.post { cls := .intlk, unit := encUnit, aux := i, req := .atLeast 1, src := if e.src = 0 then 0 else if e.src = 2 then 1 else 2 + e.task }

/-- R153: the action of a slot: FIRE_BYPASS first, then CLEAR_FAULT, then LEAK_CHECK. -/
def actOf (p : SmProt) (leak : Bool) : Nat :=
  if p.fbp then 0 else if p.fire then 3 else if p.clr then 2 else if leak then 1 else 0

/-- The command slot of a window that starts at `win` ns. -/
def Window.slot (win act : Nat) (w : Window) : SlotCmd where
  sValid := w.start.isSome
  sTagged := w.start.isSome && w.tagged
  sSw := match w.start with | some e => e.sw | none => 0
  sAt := match w.start with | some e => win + 10 * e.ofs | none => 0
  eValid := w.edge.isSome
  eTagged := w.edge.isSome
  eSw := match w.edge with | some e => e.sw | none => 0
  eAt := match w.edge with | some e => win + 10 * e.ofs | none => 0
  act := act

/-- R92, R905: going from one switch word to another changes the commanded state between inserted and not inserted, or the polarity;
a change to or from BLOCK does not count. -/
def dwellCounts (full : Bool) (a b : Nat) : Bool := decide (polOf full a ≠ polOf full b) && decide (a ≠ 0) && decide (b ≠ 0)

/-- R92, R96: the record after a committed window: DWELL restarts at a change at the window start or at the edge. -/
def commitRec (w : Window) (r : SmRec) : SmRec :=
  let st := match w.start with | some e => e.sw | none => r.endSw
  let counts := dwellCounts r.full r.endSw st || (match w.edge with | some e => dwellCounts r.full st e.sw | none => false)
  { r with ins := polOf r.full w.endSw, endSw := w.endSw, dwell := if counts then 0 else r.dwell }

/-- R90: the record of a sub-module to which frames carry BLOCK, or none at all. -/
def blockedRec (r : SmRec) : SmRec := { r with ins := 0, endSw := 0 }

/-- The planned slot of a sub-module replaced. -/
def State.setSlot (i : Nat) (c : SlotCmd) (s : State) : State :=
  { s with enc := { s.enc with slots := insertKey i c s.enc.slots } }

/-- R155 to R160, R173: one sub-module encoded into the window that starts at `win`. -/
def State.encodeOne (plan : Option Plan) (win i : Nat) (s : State) : State :=
  let r := s.smRec i
  let p := s.prot i
  let w0 := s.windowOf plan i
  let bad := w0.bad r.full
  let w := if bad.isSome then { start := some ⟨0, 0, 0, 0⟩, endSw := 0, drops := w0.drops : Window } else w0
  let s1 := match bad with | some e => s.interlock i e | none => s
  let blocked := (match w.start with | some e => decide (e.sw = 0) | none => decide (r.endSw = 0))
    && (match w.edge with | some e => decide (e.sw = 0) | none => true)
  let cnt := if s.blockAll || !p.held || s.get R.CMDENC_PROT_HOLD_BLK = 0 then 0 else if blocked then satTo 256 (p.blkCnt + 1) else 0
  let due := decide (cnt ≠ 0) && (p.blkDue || (decide (s.get R.CMDENC_PROT_HOLD_BLK ≤ cnt) && decide (p.blkCnt < s.get R.CMDENC_PROT_HOLD_BLK)))
  let s2 := (s1.setProt i { s1.prot i with blkCnt := cnt, blkDue := due }).setRec i (commitRec w r)
  let act := if s.unknownBlock i then 0 else actOf p false
  let s3 := (if act = 2 then s2.setProt i { s2.prot i with seen := p.desat } else s2).setSlot i (w.slot win act)
  if w.drops = 0 then s3 else (s3.addTo R.CMDENC_DCMD_STAT_DROP w.drops).raise R.CMDENC_STAT_DCMD_DROP

/-- R175: the member keeps BYPASS or BLOCK for the whole window that was just encoded. -/
def leakQuiet (w : Window) (block : Bool) (p : SmProt) : Bool := (block || w.steady) && !p.fire && !p.lkReq

/-- R174: leakage requests of a commit, from the eligible members in index order after POS. -/
def State.leakRequests (ok : List Nat) (s : State) : State :=
  if s.enc.lkOpen && s.on R.CMDENC_LEAK_CTRL_EN then
    let pos := s.get R.CMDENC_LEAK_STAT_POS
    let pend := s.leakPending.filter (fun i => ok.contains i)
    let order := pend.filter (fun i => decide (pos < i)) ++ pend.filter (fun i => decide (i ≤ pos))
    forAll (order.take (s.get R.CMDENC_LEAK_CTRL_PER_CYC)) (fun i a =>
      let c := tget {} a.enc.slots i
      let a1 := a.setSlot i { c with act := actOf (a.prot i) true }
      if actOf (a.prot i) true = 1 then
        (a1.setProt i { a1.prot i with lkReq := true }).put R.CMDENC_LEAK_STAT_POS i
      else a1) s
  else s

/-- R159: a waiting direct command still passes at the commit that takes it. -/
def State.dcmdPasses (s : State) (d : Dcmd) : Bool :=
  (s.prot d.idx).held && !(s.prot d.idx).fire && !(s.prot d.idx).fbp && !s.blockAll
    && !(decide (d.src = 2) && !(s.on R.CMDENC_CTRL_HOST_DCMD))

/-- R158, R159: the direct commands that no longer pass are dropped at the commit. -/
def State.dropDcmds (s : State) : State :=
  let keep := s.enc.dcmds.filter s.dcmdPasses
  let n := s.enc.dcmds.length - keep.length
  let s1 := { s with enc := { s.enc with dcmds := keep } }
  if n = 0 then s1 else (s1.addTo R.CMDENC_DCMD_STAT_DROP n).raise R.CMDENC_STAT_DCMD_DROP

/-- R43, R155 to R177: the command blocks of a commit for the window that starts at `win`. Direct commands posted on the edge of the
commit wait for the next (R158, R183). -/
def State.encode (plan : Option Plan) (win : Nat) (s : State) : State :=
  let late := s.enc.dcmds.filter (fun d => decide (s.elapsed ≤ d.at_))
  let s0 := State.dropDcmds { s with enc := { s.enc with dcmds := s.enc.dcmds.filter (fun d => decide (d.at_ < s.elapsed)) } }
  let sms := s0.liveSms
  let quiet := sms.filter (fun i => !s0.unknownBlock i && leakQuiet (s0.windowOf plan i) s0.blockAll (s0.prot i))
  let s1 := forAll (s0.presentSms.filter (fun i => !s0.admitted (i / 16))) (fun i a => a.setRec i (blockedRec (a.smRec i)))
    { s0 with enc := { s0.enc with slots := [], blockAll := s0.blockAll } }
  let s2 := forAll sms (fun i a => a.encodeOne plan win i) s1
  let s3 := s2.leakCheckEnd.leakRequests quiet
  ({ s3 with enc := { s3.enc with dcmds := late } }.put R.CMDENC_DCMD_STAT_FILL late.length).protConds

/-- R55, R181: every planned slot becomes BLOCK, untagged, with FIRE_BYPASS where it is pending. -/
def State.blockSlots (s : State) : State :=
  let sms := s.liveSms
  let s1 := forAll sms (fun i a =>
    a.setSlot i { sValid := true, act := if (a.prot i).fire then 3 else 0 }) { s with enc := { s.enc with slots := [], blockAll := true } }
  forAll s.presentSms (fun i a => a.setRec i (blockedRec (a.smRec i))) s1

/-! ## Commands -/

/-- R196, R903: an index at or above SM_MAX, or of an absent slot, is ignored with a CONFIG event; the action then acts on the sub-module
that IDX has named before. -/
def State.onSlot (i : Nat) (f : Nat → State → State) (s : State) : State :=
  if !(s.up 5) then s
  else if s.slotPresent i then f i (s.put R.CMDENC_HOLD_CMD_IDX i)
  else
    let j := s.get R.CMDENC_HOLD_CMD_IDX
    State.configOnce s 0x72050 (if s.slotPresent j then f j s else s)

/-- HOLD (R169). -/
def holdEffect (i : Nat) (s : State) : State :=
  s.onSlot i (fun j a => (a.setProt j { a.prot j with fw := true }).protConds.selAgain)

/-- HOLD: HOLD_CMD.HOLD on sub-module i (R169). -/
def execHold (i : Nat) (s : State) : Host.Outcome State Fault Refusal := .next (s.commanded 0x72050 (holdEffect i))

/-- R171, R183: RELEASE of one sub-module; on the clock edge of a new desaturation report it has no effect. -/
def State.release (i : Nat) (s : State) : State :=
  let p := s.prot i
  if p.fire || p.fbp then s.config 0x72050
  else if p.scAt = some s.elapsed then s
  else
    (s.setProt i { p with fw := false, leak := 0, clr := decide (p.desat ≠ 0), seen := 0, rel := some ⟨s.elapsed, p.fw, p.uv, p.leak⟩
                          uv := if s.get R.CMDENC_PROT_UV_CLR = 0 then 0 else p.uv }).protConds

/-- RELEASE (R171). -/
def releaseEffect (i : Nat) (s : State) : State := s.onSlot i State.release

/-- RELEASE: HOLD_CMD.RELEASE on sub-module i (R171). -/
def execRelease (i : Nat) (s : State) : Host.Outcome State Fault Refusal := .next (s.commanded 0x72050 (releaseEffect i))

/-- R180: FBP_CLR of one sub-module. -/
def State.fbpClear (i : Nat) (s : State) : State :=
  let p := s.prot i
  if decide (s.arm.mode = .off) && p.fbp && !p.repFbp then
    (s.setProt i { p with fbp := false, fw := true }).setRec i { s.smRec i with rcnt := 0 }
  else s.config 0x72050

/-- FBP_CLR (R180). -/
def fbpClrEffect (i : Nat) (s : State) : State := s.onSlot i State.fbpClear

/-- FBP_CLR: HOLD_CMD.FBP_CLR on sub-module i (R180). -/
def execFbpClr (i : Nat) (s : State) : Host.Outcome State Fault Refusal := .next (s.commanded 0x72050 (fbpClrEffect i))

/-- FIRE (R178). -/
def fireEffect (i : Nat) (s : State) : State := s.onSlot i State.requestFire

/-- FIRE: HOLD_CMD.FIRE on sub-module i (R178). -/
def execFire (i : Nat) (s : State) : Host.Outcome State Fault Refusal := .next (s.commanded 0x72050 (fireEffect i))

/-- HOLD_INFO_WRITE (R197): the hold state of the named sub-module; an index that names no sub-module is taken, with what its record holds
(DESIGN CHOICE, notes/assumptions/63.md). -/
def holdInfoEffect (v : Nat) (s : State) : State :=
  if !(s.up 5) then s
  else
    let i := bits v 0 11
    let p := s.prot i
    s.putAll [(R.CMDENC_HOLD_INFO_IDX, i), (R.CMDENC_HOLD_INFO_FBP, b2n p.fbp), (R.CMDENC_HOLD_INFO_FIRE_PEND, b2n p.fire),
      (R.CMDENC_HOLD_INFO_FW, b2n p.fw),
      (R.CMDENC_HOLD_INFO_BLK, b2n (p.held && heldBlock (s.smRec i).full (s.on R.CMDENC_CTRL_FB_BYP) p)),
      (R.CMDENC_HOLD_INFO_LEAK_SW, p.leak), (R.CMDENC_HOLD_INFO_UV_SW, p.uv), (R.CMDENC_HOLD_INFO_DESAT_SW, p.desat)]

/-- HOLD_INFO_WRITE: a write to CMDENC.HOLD_INFO (R197). -/
def execHoldInfoWrite (v : Nat) (s : State) : Host.Outcome State Fault Refusal := .next (s.commanded 0x72054 (holdInfoEffect v))

/-- HOLD_BLK_REACHED (R173): the actions occur once for each time the count reaches HOLD_BLK. -/
def holdBlkEffect (i : Nat) (s : State) : State :=
  if s.up 5 && (s.prot i).blkDue && (s.prot i).held then
    let s1 := (s.setProt i { s.prot i with blkDue := false }).protConds
    if s1.on R.CMDENC_CTRL_AUTO_FBP then s1.requestFire i
    else s1.post { cls := .cell, unit := ringUnit (i / 16), aux := i, standing := true }
  else s

/-- HOLD_BLK_REACHED: a held sub-module's count of BLOCK windows reaches HOLD_BLK (R173). -/
def execHoldBlkReached (i : Nat) (s : State) : Host.Outcome State Fault Refusal := .next (holdBlkEffect i s)

/-- LEAK_ROUND_START (R174). -/
def leakRoundEffect (s : State) : State := if s.up 5 then s.leakBegin.leakCheckEnd else s

/-- LEAK_ROUND_START: a write of 1 to LEAK_CTRL.START (R174). -/
def execLeakRoundStart (s : State) : Host.Outcome State Fault Refusal := .next (s.commanded 0x72060 leakRoundEffect)

/-- LEAK_RESULT_TIMEOUT (R177). -/
def leakTimeoutEffect (i : Nat) (s : State) : State :=
  if s.up 5 && (s.prot i).lkReq then s.setProt i { s.prot i with lkReq := false } else s

/-- LEAK_RESULT_TIMEOUT: four cycles have passed without a result (R177). -/
def execLeakResultTimeout (i : Nat) (s : State) : Host.Outcome State Fault Refusal := .next (leakTimeoutEffect i s)

/-- FBP_TIMEOUT (R179): device time comes to PROT.FBP_TMO ms after the request. -/
def fbpTimeoutEffect (i : Nat) (s : State) : State :=
  let p := s.prot i
  if s.up 5 && p.fire && !p.fireTmo then
    (((s.pass (el (p.fireNs + 10 ^ 6 * s.get R.CMDENC_PROT_FBP_TMO))).setProt i { p with fireTmo := true }).raise R.CMDENC_STAT_FBP_TMO).eventAt .cell (ringUnit (i / 16)) i 3
  else s

/-- FBP_TIMEOUT: the bypass timer reaches PROT.FBP_TMO (R179). -/
def execFbpTimeout (i : Nat) (s : State) : Host.Outcome State Fault Refusal := .next (fbpTimeoutEffect i s)

/-- R158: source and task of a writer of DCMD. -/
def dcmdSrc : Writer → Nat × Nat
  | .host => (2, 0)
  | .spi => (2, 0)
  | .core _ t => (1, t)

/-- R158, R159: one direct command posted. -/
def State.postDcmd (w : Writer) (v : Nat) (s : State) : State :=
  let d : Dcmd := ⟨bits v 0 11, bits v 12 4, bits v 16 13, (dcmdSrc w).1, (dcmdSrc w).2, s.elapsed⟩
  let s1 := s.putAll [(R.CMDENC_DCMD_IDX, d.idx), (R.CMDENC_DCMD_SW, d.sw), (R.CMDENC_DCMD_OFS, d.ofs)]
  let ok := s1.dcmdPasses d && decide (d.ofs < s1.get R.ARM_CYC_LEN_LEN) && decide (s1.enc.dcmds.length < 64)
    && decide ((s1.enc.dcmds.filter (fun e => decide (e.idx = d.idx))).length < 2)
  if ok then
    { s1 with enc := { s1.enc with dcmds := s1.enc.dcmds ++ [d] } }.put R.CMDENC_DCMD_STAT_FILL (s1.enc.dcmds.length + 1)
  else (s1.addTo R.CMDENC_DCMD_STAT_DROP 1).raise R.CMDENC_STAT_DCMD_DROP

/-- DCMD_POST (R158). -/
def dcmdPostEffect (w : Writer) (v : Nat) (s : State) : State := if s.up 5 then s.postDcmd w v else s

/-- DCMD_POST: a write to CMDENC.DCMD (R158). -/
def execDcmdPost (w : Writer) (v : Nat) (s : State) : Host.Outcome State Fault Refusal := 
  .next (s.granted w 0x72058 (fun a => a.commandedFrom (writerGlade w) 0x72058 (dcmdPostEffect w v)))

end Sys2Proof.Machine
end

