-- ==== Sys2Proof/Machine/Rings.lean ====
section
/-! DEFINITION. Cell rings: frames sent and returned, service accesses, bring-up and admission, misses (R205 to R243,
R906), and the arm-cycle budget that rests on the rings' round trips (R44). -/

namespace Sys2Proof.Machine

/-- One lane. -/
def State.lane (s : State) (l : Nat) : LaneSt := tget {} s.lanes l
/-- One lane replaced. -/
def State.setLane (l : Nat) (x : LaneSt) (s : State) : State := { s with lanes := tset {} s.lanes l x }

/-- The arm cycle T in ns (R37). -/
def State.tNs (s : State) : Nat := 10 * s.get R.ARM_CYC_LEN_LEN
/-- EXEC_OFS in ns (R59). -/
def State.execNs (s : State) : Nat := 10 * s.get R.ARM_EXEC_OFS_OFS

/-! ## Budgets (R44, R63, R224, R231) -/

/-- R63: RT_MAX over the unfenced admitted rings, with its ring: the lowest where several share it. -/
def State.rtMax (s : State) : Nat × Nat :=
  s.admittedRings.foldl (fun b n => if b.1 < s.get (R.RING_TOPO_RT n) then (s.get (R.RING_TOPO_RT n), n) else b) (0, 0)

/-- R224: the ring budget, D_RT at most 0.8 T. -/
def State.ringC1 (s : State) (n : Nat) : Bool := decide (10 * s.get (R.RING_TOPO_RT n) ≤ 8 * s.tNs)

/-- R224: the three timing conditions of an admission. -/
def State.ringTiming (s : State) (n : Nat) : Bool :=
  s.ringC1 n && decide (s.get (R.RING_TOPO_RT n) ≤ s.execNs) && decide (s.get (R.RING_TOPO_RT n) + 980 ≤ s.tNs)

/-- R231: LOSS is at or above its bound, where RT_MAX of the admitted rings is `rtMax` and the ring itself counts too (DEDUCED,
notes/assumptions/47.md). -/
def State.lossAbove (rtMax n : Nat) (s : State) : Bool :=
  let own := match (s.ring n).mode with
    | .ready => s.get (R.RING_TOPO_RT n)
    | _ => 0
  let rt := max rtMax own
  let need := if s.on (R.RING_CFG_DUAL n) then 4 * s.tNs + 15000 + rt else 2 * s.tNs + rt
  decide ((need + 999) / 1000 ≤ s.get (R.RING_CFG_LOSS n))

/-- R231: LOSS is at or above its bound. -/
def State.lossOk (s : State) (n : Nat) : Bool := s.lossAbove s.rtMax.1 n

/-- R44: the round trip of a ring has been measured in the bring-up that stands: C1 is asked of every such ring that is not fenced. -/
def hasRt : RingMode → Bool
  | .ident => true
  | .tsync => true
  | .ready => true
  | .admitted => true
  | .down => false
  | .probe => false
  | .enum => false
  | .fenced => false

/-- R44: the arm-cycle budget closes. -/
def State.budgetOk (s : State) : Bool :=
  s.ringList.all (fun n => !hasRt (s.ring n).mode || s.ringC1 n) && decide (s.rtMax.1 + 980 ≤ s.tNs) && decide (s.rtMax.1 ≤ s.execNs ∧ s.execNs < s.tNs)
    && decide (s.get R.ARM_CYC_PHASE_PHASE < s.tNs)

/-- R45, R67: the budget evaluated, with CYC_STAT.BUDGET following it. -/
def State.budgetCheck (s : State) : State := s.cond R.ARM_CYC_STAT_BUDGET (!s.budgetOk)

/-- R224: STAT.BUDGET of a ring follows its timing conditions; a newly found failure posts a RING event. -/
def State.ringBudget (n : Nat) (s : State) : State :=
  let r := s.ring n
  let bad := match r.mode with
    | .ready => !(s.ringTiming n)
    | .admitted => !(s.ringC1 n)
    | _ => false
  let s1 := s.cond (R.RING_STAT_BUDGET n) bad
  let s2 := s1.setRing n { s1.ring n with budgetEv := bad }
  if bad && !r.budgetEv then s2.eventOpen .ring (ringUnit n) 0 else s2

/-- R231, R902: STAT.LOSS_SHORT of a ring stands while its LOSS lies below the bound. A shortfall newly found on a ring in READY or
admitted posts a CONFIG event (DEDUCED, notes/assumptions/47.md). -/
def State.ringLoss (rtMax n : Nat) (s : State) : State :=
  let short := !(s.lossAbove rtMax n)
  let ev := short && decide ((s.ring n).mode = .ready ∨ (s.ring n).mode = .admitted)
  let s1 := s.cond (R.RING_STAT_LOSS_SHORT n) short
  let s2 := if ev = (s.ring n).lossEv then s1 else s1.setRing n { s1.ring n with lossEv := ev }
  if ev && !(s.ring n).lossEv then s2.config (0x10000 + 0x1000 * n + 0x40) else s2

/-- R902: LOSS_SHORT of every ring, after a change of T, of RT_MAX or of a LOSS. -/
def State.ringsLoss (s : State) : State := forAll s.ringList (State.ringLoss s.rtMax.1) s

/-- R224, R243: every ring in READY, and every admitted ring, checked again. -/
def State.ringsRecheck (s : State) : State := (forAll s.ringList State.ringBudget s).ringsLoss

/-- R44, R174, R231, R633: a ring is no longer admitted: its members leave the leakage round, and what rests on the admitted rings is
judged again. -/
def State.ringOut (n : Nat) (s : State) : State := (s.leakLeave n).budgetCheck.ringsLoss.regionCheck

/-! ## Host service accesses end (R906) -/

/-- A host access completes with a result. -/
def State.svcHostDone (n res : Nat) (s : State) : State :=
  ((s.put (R.RING_SVC_CMD_RESULT n) res).put (R.RING_SVC_CMD_BUSY n) 0).raise (R.RING_STAT_SVC_DONE n)

/-- R906: a waiting or flying host access ends with NO_REPLY. -/
def State.svcAbort (n : Nat) (s : State) : State :=
  let r := s.ring n
  let busy := r.svcHost.isSome || (match r.svc with | some a => decide (a.src = .host) | none => false)
  let s1 := s.setRing n { r with svc := none, svcHost := none, svcKeys := [] }
  if busy then s1.svcHostDone n 3 else s1

/-! ## Ring states (R232) -/

/-- A ring's own part as it falls to DOWN: frames stop and bring-up is forgotten. -/
def RingSt.down (r : RingSt) : RingSt :=
  { r with mode := .down, lastHops := none, idWords := [], idSlot := 0, tsync := [], sent := false, judged := true, hdr := false
           got := 0, blkWait := false, blkSeqs := [], blkOld := [], seqOut := [], late := false, admitDue := false, lossEv := false }

/-- A ring falls to DOWN: frames stop, accesses end. -/
def State.ringDown (n : Nat) (s : State) : State :=
  let was := decide ((s.ring n).mode = .admitted)
  let s1 := s.svcAbort n
  let s2 := (s1.setRing n (s1.ring n).down).cond (R.RING_STAT_BUDGET n) false
  if was then s2.ringOut n else (s2.ringLoss s2.rtMax.1 n).budgetCheck

/-- R876: the device brings rings up. -/
def State.bringsUp (s : State) : Bool := !(s.on R.AMBER_CFG_EN) || decide (s.amber.role = .active)

/-- R232: DOWN with EN = 1 and the lane locked goes to PROBE; a ring held by a refused identity waits. -/
def State.ringTryStart (n : Nat) (s : State) : State :=
  let r := s.ring n
  if s.ringUp n && decide (r.mode = .down) && s.on (R.RING_CTRL_EN n) && decide ((s.lane n).mode = .locked) && !r.idBad && s.bringsUp
  then (s.setRing n { r with mode := .probe }).setLane n { s.lane n with prbs := false, ansOut := [] } else s

/-- R232: bring-up fails: STAT.TOPO, a RING event, and DOWN. -/
def State.ringTopoFail (n : Nat) (s : State) : State :=
  ((s.ringDown n).raise (R.RING_STAT_TOPO n)).event .ring (ringUnit n) 0

/-- RING_EN_SET (R232). -/
def ringEnSetEffect (n : Nat) (s : State) : State :=
  if !(s.up (32 + n / 8)) then s
  else
    let r := s.ring n
    let s1 := if s.on (R.RING_CTRL_EN n) then s else s.setRing n { r with idBad := false }
    (s1.put (R.RING_CTRL_EN n) 1).ringTryStart n

/-- RING_EN_SET: a write of 1 to RING.CTRL.EN (R232). -/
def execRingEnSet (n : Nat) (s : State) : Host.Outcome State Fault Refusal := .next (s.commanded (0x10008 + 0x1000 * n) (ringEnSetEffect n))

/-- RING_EN_CLEAR (R232): locked for an admitted ring outside OFF. -/
def ringEnClearEffect (n : Nat) (s : State) : State :=
  if !(s.up (32 + n / 8)) then s
  else if (s.ring n).mode = .admitted ∧ s.arm.mode ≠ .off then
    (s.raise (R.RING_STATUS_LOCKV n)).config (0x10000 + 0x1000 * n + 8)
  else
    let s1 := s.put (R.RING_CTRL_EN n) 0
    match (s.ring n).mode with
    | .fenced => s1
    | .down => s1
    | _ => s1.ringDown n

/-- RING_EN_CLEAR: a write of 0 to RING.CTRL.EN (R232). -/
def execRingEnClear (n : Nat) (s : State) : Host.Outcome State Fault Refusal := .next (s.commanded (0x10008 + 0x1000 * n) (ringEnClearEffect n))

/-- R45, R224, R231: the checks of an admission request; they set the conditions and post the events. -/
def State.admitCheck (n : Nat) (s : State) : State :=
  let s1 := (s.ringBudget n).ringLoss s.rtMax.1 n
  s1.setRing n { s1.ring n with admitDue := s1.ringTiming n && s1.lossOk n }

/-- RING_ADMIT_WRITE (R246). -/
def ringAdmitEffect (n : Nat) (s : State) : State :=
  if !(s.up (32 + n / 8)) then s
  else
    let s1 := s.put (R.RING_CTRL_ADMIT n) 1
    if (s1.ring n).mode = .ready then s1.admitCheck n else s1

/-- RING_ADMIT_WRITE: a write of 1 to RING.CTRL.ADMIT (R246). -/
def execRingAdmitWrite (n : Nat) (s : State) : Host.Outcome State Fault Refusal := .next (s.commanded (0x10008 + 0x1000 * n) (ringAdmitEffect n))

/-- R100, R180, R238: one slot at the admission of its ring. GROUP and SEL read 0 from the admission to the next selection
(DESIGN CHOICE, notes/assumptions/60.md). -/
def State.admitSlot (n k : Nat) (s : State) : State :=
  let id := tget {} (s.ring n).idents k
  let i := 16 * n + k
  let known := tget 0 (s.ring n).serials k
  let p := s.prot i
  let fbp := if id.fbpRec then true else if decide (known ≠ id.serial) then false else p.fbp
  let s1 := s.setRec i { present := true, full := id.full, capUf := id.capUf, serial := id.serial, key := id.stress
                         basis := s.nowNs }
  let s2 := s1.setProt i { p with fbp := fbp, lkPend := false, lkReq := false }
  s2.setRing n { s2.ring n with serials := tset 0 (s2.ring n).serials k id.serial }

/-- R238: the slots from `nc` on hold no cell. -/
def State.clearSlots (n nc : Nat) (s : State) : State :=
  forAll (List.range (16 - nc)) (fun k a => a.setRec (16 * n + nc + k) {}) s

/-- RING_ADMISSION (R232, R238, R874). -/
def ringAdmissionEffect (n : Nat) (s : State) : State :=
  if s.ringUp n && decide ((s.ring n).mode = .ready) && s.on (R.RING_CTRL_ADMIT n) && !s.arm.stepped then
    let s1 := s.admitCheck n
    if (s1.ring n).admitDue then
      let s2 := forAll (List.range (s1.get (R.RING_TOPO_NC n))) (fun k a => a.admitSlot n k) (s1.clearSlots n (s1.get (R.RING_TOPO_NC n)))
      let s3 := s2.setRing n { s2.ring n with mode := .admitted, admitDue := false, miss := false, budgetEv := false }
      (s3.put (R.RING_RT_LIVE_MAX n) 0).budgetCheck.ringsLoss.topologyChanged
    else s1
  else s

/-- RING_ADMISSION: at a cycle boundary a READY ring is admitted (R232). -/
def execRingAdmission (n : Nat) (s : State) : Host.Outcome State Fault Refusal := .next (ringAdmissionEffect n s)

/-- R225: the transmitter of a ring is idle. -/
def State.txIdle (s : State) (n : Nat) : Bool := decide ((s.ring n).txEnd ≤ s.elapsed)

/-- R55, R239: the device time at which a frame that is due now leaves: directly after a frame in transmission. -/
def State.txAt (s : State) (n : Nat) : Nat := s.time + ((s.ring n).txEnd - s.elapsed)

/-- R213, R214: a frame of the ring that leaves at device time `t` (in 2^-32 ns). TVALID stands in every type of frame while the arm and
time glades run (DESIGN CHOICE, notes/assumptions/59.md). -/
def State.mkFrame (s : State) (n ftype t : Nat) (slots : List SlotCmd) : RingFrame :=
  let live := s.up 4 && s.up 5
  let tm := if live then (s.get R.CMDENC_TIMING_BLANK, s.get R.CMDENC_TIMING_DEAD, s.get (R.RING_CFG_LOSS n)) else (s.ring n).timing
  { ftype := ftype, dir := if ftype = 3 then 0 else s.get (R.RING_CFG_END n), nc := if ftype = 3 then 0 else s.get (R.RING_TOPO_NC n)
    seq := ((s.ring n).seq + 1) % 256
    blank := tm.1, dead := tm.2.1, loss := tm.2.2, tvalid := live, time := if live then tag32 (t / 2 ^ 32) else 0
    corr := if live then t % 2 ^ 32 / 2 ^ 29 else 0, slots := slots }

/-- A frame leaves: the ring's sequence, the timing values it repeats, and how long its transmitter is busy. -/
def RingSt.sends (f : RingFrame) (at_ : Nat) (r : RingSt) : RingSt :=
  { r with seq := f.seq, timing := (f.blank, f.dead, f.loss), out := some f, outWas := r.out, outAt := at_, txEnd := at_ + f.lasts }

/-- R234, R629: an ENUM frame leaves; a repeating lane sends none. -/
def State.sendEnum (n : Nat) (s : State) : State :=
  if (s.lane n).rep then s
  else
    let f := s.mkFrame n 3 (s.txAt n) []
    let r := (s.ring n).sends f (max s.elapsed (s.ring n).txEnd)
    s.setRing n { r with frameSeq := f.seq }

/-- R232, R876: a ring goes on with its bring-up: it is in the state named, and this device brings rings up on a lane that does not
repeat. -/
def State.bringUpIn (s : State) (n : Nat) (m : RingMode) : Bool :=
  s.ringUp n && decide ((s.ring n).mode = m) && s.bringsUp && !(s.lane n).rep

/-- R233: the link delay in 1/8 ns of the round trips of 256 probes and the far end's turnaround: half of the mean round trip less the
turnaround, rounded down (DEDUCED, notes/assumptions/54.md). -/
def linkDelay (rts : List Nat) (turn : Nat) : Nat := (rts.sum - turn * rts.length) / (2 * max 1 rts.length)

/-- PROBE_COMPLETE (R233): the lane has answered the far end's probes among its own. LINK.DLY keeps the low 16 bits of a delay that does
not fit (DESIGN CHOICE, notes/assumptions/63.md). -/
def probeCompleteEffect (n : Nat) (p : ProbeRun) (s : State) : State :=
  if s.bringUpIn n .probe then
    let s1 := s.setLane n { s.lane n with ansOut := p.probes.filterMap probeAnswer }
    ((s1.put (R.RING_LINK_DLY n) (linkDelay p.rts p.turn)).setRing n { s.ring n with mode := .enum, lastHops := none }).sendEnum n
  else s

/-- PROBE_COMPLETE: every port of the ring has a link delay (R233). -/
def execProbeComplete (n : Nat) (p : ProbeRun) (s : State) : Host.Outcome State Fault Refusal :=
  .next (probeCompleteEffect n p s)

/-- PROBE_TIMEOUT (R232). -/
def probeTimeoutEffect (n : Nat) (s : State) : State :=
  if s.ringUp n && decide ((s.ring n).mode = .probe) then s.ringTopoFail n else s

/-- PROBE_TIMEOUT: PROBE has not completed within 1 ms (R232). -/
def execProbeTimeout (n : Nat) (s : State) : Host.Outcome State Fault Refusal := .next (probeTimeoutEffect n s)

/-- The identity access for word number `k` of the 34 of a cell (R236). -/
def identAcc (slot k : Nat) : SvcAcc :=
  { src := .ident, slot := slot, wr := false, waddr := if k < 32 then k else 96 + k, data := 0 }

/-- R239, R257, R258: the checks of a frame of any type that comes back: HCRC and FCRC with their count, ERR_HOP, and HOPS. -/
def State.rxCheck (n : Nat) (f : RxFrame) (s : State) : State :=
  if hcrcOk f.h0 f.h1 then
    if f.good n then
      let s1 := if f.fcrcBad then
          ((s.raise (R.RING_STAT_FCRC n)).addTo (R.RING_CNT_ERR_CRC n) 1).put (R.RING_ERR_LOC_ERR_HOP n) f.errHop
        else s
      s1.put (R.RING_ERR_LOC_HOPS n) f.hops
    else s
  else (s.raise (R.RING_STAT_HCRC n)).addTo (R.RING_CNT_ERR_CRC n) 1

/-- R224, R254, R259: two successive ENUM frames have found `hops` cells; the ENUM frame of 3 blocks took `rtPs`, a NORMAL frame lasts
6 blocks a cell longer (DEDUCED, notes/assumptions/54.md). A time above what TOPO.RT can show reads as its largest value, which no
cycle length meets. -/
def State.enumDone (n hops rtPs : Nat) (s : State) : State :=
  ((s.putAll [(R.RING_TOPO_NC n, hops), (R.RING_TOPO_RT n, satTo 65535 ((rtPs + 38400 * hops + 9999) / 10000 * 10)),
    (R.RING_SLOTS_PRESENT n, 2 ^ hops - 1), (R.RING_SLOTS_VALID n, 0)]).setRing n
    { s.ring n with mode := .ident, idSlot := 0, idWords := [], idents := [], svc := some (identAcc 0 0) }).budgetCheck

/-- ENUM_FRAME_RETURN (R224, R234): a damaged frame has not returned; the next ENUM frame follows. -/
def enumReturnEffect (n : Nat) (f : RxFrame) (s : State) : State :=
  if s.bringUpIn n .enum then
    let s1 := s.rxCheck n f
    if f.good n && !f.fcrcBad && decide (f.ftype = 3 ∧ seqOf f.h0 = (s.ring n).frameSeq) then
      if f.hops = 0 ∨ 16 < f.hops then s1.ringTopoFail n
      else if (s.ring n).lastHops = some f.hops then s1.enumDone n f.hops f.rtPs
      else (s1.setRing n { s1.ring n with lastHops := some f.hops }).sendEnum n
    else s1.sendEnum n
  else s

/-- ENUM_FRAME_RETURN: an ENUM frame returns (R234). -/
def execEnumFrameReturn (n : Nat) (h : RxHeader) (b : RxBody) (s : State) : Host.Outcome State Fault Refusal := .next (enumReturnEffect n ⟨h, b⟩ s)

/-- ENUM_TIMEOUT (R232). -/
def enumTimeoutEffect (n : Nat) (s : State) : State :=
  if s.ringUp n && decide ((s.ring n).mode = .enum) then s.ringTopoFail n else s

/-- ENUM_TIMEOUT: no ENUM frame has returned within 1 ms (R232). -/
def execEnumTimeout (n : Nat) (s : State) : Host.Outcome State Fault Refusal := .next (enumTimeoutEffect n s)

/-! ## Identity and service accesses (R219, R235, R236) -/

/-- R236: the identity that 34 words carry, where it is accepted, and whether STRESS_CHK is wrong. -/
def parseIdent (ws : List Nat) : Option (CellIdent × Bool) :=
  let bs := (ws.take 32).flatMap (leBytes 8)
  let fld (o n : Nat) : Nat := leNat ((bs.drop o).take n)
  let typ := fld 2 1
  let nsw := fld 3 1
  let w128 := ws.getD 32 0
  let stress := w128 % 2 ^ 32
  let okS := decide (w128 / 2 ^ 32 = crc32c (leBytes 4 stress))
  if fld 0xFC 4 = crc32c (bs.take 0xFC) ∧ fld 0 2 = 1 ∧ ((typ = 1 ∧ nsw = 2) ∨ (typ = 2 ∧ nsw = 4)) ∧ fld 4 4 ≠ 0 then
    some ({ full := decide (typ = 2), capUf := fld 4 4, serial := fld 0x10 16, stress := if okS then stress else 0
            fbpRec := bitOf (ws.getD 33 0) 0 }, !okS)
  else none

/-- R236: an identity is refused, and the ring is held in IDENT. -/
def State.identRefuse (n : Nat) (s : State) : State :=
  ((s.setRing n { s.ring n with svc := none, idBad := true }).raise (R.RING_STAT_IDENT_ERR n)).event .cell (ringUnit n) (16 * n + (s.ring n).idSlot)

/-- R236: one more identity word has been read. -/
def State.identWord (n w : Nat) (s : State) : State :=
  let r := s.ring n
  let ws := r.idWords ++ [w]
  if ws.length < 34 then s.setRing n { r with idWords := ws, svc := some (identAcc r.idSlot ws.length) }
  else
    match parseIdent ws with
    | none => s.identRefuse n
    | some (id, badStress) =>
      let s1 := if badStress then s.event0 .cell (ringUnit n) (16 * n + r.idSlot) else s
      let r1 := { r with idents := tset {} r.idents r.idSlot id, idWords := [], idSlot := r.idSlot + 1 }
      if r.idSlot + 1 < s.get (R.RING_TOPO_NC n) then s1.setRing n { r1 with svc := some (identAcc (r.idSlot + 1) 0) }
      else s1.setRing n { r1 with svc := none, mode := .tsync, tsync := [] }

/-- R219: an access completes with a result and, for a read with result 0, its data. An identity access that ends with another result
is a refused identity (DESIGN CHOICE, notes/assumptions/63.md). -/
def State.svcComplete (n : Nat) (a : SvcAcc) (res data : Nat) (s : State) : State :=
  match a.src with
  | .ident => if res = 0 then s.identWord n data else s.identRefuse n
  | .keySave => s.setRing n { s.ring n with svc := none }
  | .host =>
    let s1 := s.setRing n { s.ring n with svc := none }
    let s2 := if res = 0 ∧ a.wr = false then (s1.put (R.RING_SVC_LO_DATA n) data).put (R.RING_SVC_HI_DATA n) (data / 2 ^ 32) else s1
    s2.svcHostDone n res

/-- R219: an access ends without a reply or with BUSY: it is repeated at most three times. -/
def State.svcRetry (n : Nat) (s : State) : State :=
  match (s.ring n).svc with
  | none => s
  | some a =>
    if a.flying then
      if a.sends < 4 then s.setRing n { s.ring n with svc := some { a with flying := false } }
      else s.svcComplete n a 3 0
    else s

/-- A host service access runs in the ring's state (R906). -/
def svcRuns : RingMode → Bool
  | .ident => true
  | .tsync => true
  | .ready => true
  | .admitted => true
  | .down => false
  | .probe => false
  | .enum => false
  | .fenced => false

/-- SERVICE_ACCESS_START (R260, R906). -/
def svcStartEffect (n v : Nat) (s : State) : State :=
  if !(s.up (32 + n / 8)) then s
  else
    let slot := bits v 20 4
    let wr := bits v 29 1
    let s1 := s.putAll [(R.RING_SVC_CMD_WR n, wr), (R.RING_SVC_CMD_SLOT n, slot), (R.RING_SVC_CMD_WADDR n, bits v 0 8)]
    if s.on (R.RING_SVC_CMD_BUSY n) then s1.config (0x10000 + 0x1000 * n + 0x60)
    else if !svcRuns (s.ring n).mode then s1.svcHostDone n 3
    else if !(bitOf (s.get (R.RING_SLOTS_PRESENT n)) slot) then s1.svcHostDone n 2
    else
      (s1.put (R.RING_SVC_CMD_BUSY n) 1).setRing n { s1.ring n with
        svcHost := some { src := .host, slot := slot, wr := decide (wr = 1), waddr := bits v 0 8
                          data := s.get (R.RING_SVC_LO_DATA n) + 2 ^ 32 * s.get (R.RING_SVC_HI_DATA n) } }

/-- SERVICE_ACCESS_START: a write of SVC_CMD with GO = 1 (R906). -/
def execServiceAccessStart (n v : Nat) (s : State) : Host.Outcome State Fault Refusal :=
  .next (s.commanded (0x10060 + 0x1000 * n) (svcStartEffect n v))

/-- R243: the access that leaves next: the one in hand, then the key save's, then the host's. -/
def nextSvc (r : RingSt) : RingSt :=
  match r.svc with
  | some _ => r
  | none =>
    match r.svcKeys with
    | (k, w) :: t => { r with svc := some { src := .keySave, slot := k, wr := true, waddr := 128, data := w }, svcKeys := t }
    | [] => { r with svc := r.svcHost, svcHost := none }

/-- R225: a SERVICE frame of 5 blocks sent now has left 50 ns before the next cycle start. -/
def State.svcFits (s : State) : Bool := !s.arm.running || decide (s.cycTime + (32 + 50) * 2 ^ 32 ≤ s.arm.nextTk)

/-- SERVICE_FRAME_SEND (R219, R225): a SERVICE frame leaves. -/
def svcSendEffect (n : Nat) (s : State) : State :=
  if s.ringUp n && !(s.lane n).rep && svcRuns (s.ring n).mode && decide ((s.lane n).mode = .locked) && s.txIdle n && s.svcFits then
    let r := nextSvc (s.ring n)
    match r.svc with
    | none => s
    | some a =>
      if a.flying then s
      else
        let f := { s.mkFrame n 2 s.time [] with sv := [a.sv0, a.sv1] }
        s.setRing n { r.sends f s.elapsed with svc := some { a with flying := true, sends := a.sends + 1, seq := f.seq } }
  else s

/-- SERVICE_FRAME_SEND: a pending service access leaves (R225). -/
def execServiceFrameSend (n : Nat) (s : State) : Host.Outcome State Fault Refusal := .next (svcSendEffect n s)

/-- SERVICE_FRAME_RETURN (R219). -/
def svcReturnEffect (n : Nat) (f : RxFrame) (s : State) : State :=
  if !(s.ringUp n) then s
  else
    let s1 := s.rxCheck n f
    match (s1.ring n).svc with
    | none => s1
    | some a =>
      if !a.flying then s1
      else if f.reply n && decide (f.ftype = 2 ∧ seqOf f.h0 = a.seq) && decide (f.result ≠ 3) then s1.svcComplete n a f.result (f.body.getD 1 0)
      else s1.svcRetry n

/-- SERVICE_FRAME_RETURN: a SERVICE frame returns (R219). -/
def execServiceFrameReturn (n : Nat) (f : RxFrame) (s : State) : Host.Outcome State Fault Refusal := .next (svcReturnEffect n f s)

/-- SERVICE_REPLY_TIMEOUT (R219). -/
def svcTimeoutEffect (n : Nat) (s : State) : State := if s.ringUp n then s.svcRetry n else s

/-- SERVICE_REPLY_TIMEOUT: a SERVICE frame never returns (R219). -/
def execServiceReplyTimeout (n : Nat) (s : State) : Host.Outcome State Fault Refusal := .next (svcTimeoutEffect n s)

/-! ## Frames leaving (R213, R220, R225, R239) -/

/-- A held word changes at a time; a change at the same time as earlier ones comes last (R229). -/
def addWord (t sw : Nat) : List (Nat × Nat) → List (Nat × Nat)
  | [] => [(t, sw)]
  | (a, b) :: r => if a ≤ t then (a, b) :: addWord t sw r else (t, sw) :: (a, b) :: r

/-- R87, R229: the record's word history after a slot has been sent at time `now`. -/
def applySlot (now : Nat) (c : SlotCmd) (r : SmRec) : SmRec :=
  let w1 := if c.sValid then
      if c.sTagged then addWord (max c.sAt now) c.sSw r.sws
      else addWord now c.sSw (r.sws.filter (fun e => decide (e.1 ≤ now)))
    else r.sws
  let w2 := if c.eValid then addWord (max c.eAt now) c.eSw w1 else w1
  { r with sws := w2 }

/-- The ring states in which NORMAL frames run (R232). -/
def frameRuns : RingMode → Bool
  | .tsync => true
  | .ready => true
  | .admitted => true
  | .down => false
  | .probe => false
  | .enum => false
  | .ident => false
  | .fenced => false

/-- BLOCK, untagged, with the FIRE_BYPASS that is pending (R51, R220). -/
def State.blockSlot (s : State) (i : Nat) : SlotCmd := { sValid := true, act := if (s.prot i).fire then 3 else 0 }

/-- R171, R232: BLOCK, untagged, with the action that is pending, for a ring in TSYNC or READY. -/
def State.waitSlot (s : State) (i : Nat) : SlotCmd := { sValid := true, act := actOf (s.prot i) false }

/-- A frame leaves the ring at device time `t` (in 2^-32 ns) and elapsed time `at_`: the ring's sequence, and what the slots do to the
records and to a CLEAR_FAULT (R171, R183). -/
def State.sendFrame (n : Nat) (f : RingFrame) (t at_ : Nat) (s : State) : State :=
  let s1 := s.setRing n ((s.ring n).sends f at_)
  forAll (List.range f.nc) (fun k a =>
    let i := 16 * n + k
    let c := f.slots.getD k {}
    let a1 := if (a.smRec i).present then a.setRec i (applySlot (t / 2 ^ 32) c (a.smRec i)) else a
    if c.act = 2 then a1.setProt i { a1.prot i with clr := false, clrSent := true, seen := (a1.prot i).desat } else a1) s1

/-- R240: a cycle's miss is counted, or the count returns to 0; at LOSS_LIM a RING event at L2. -/
def State.countMiss (n : Nat) (miss : Bool) (s : State) : State :=
  if miss then
    let s1 := s.addSat (R.RING_ERR_LOC_MISS n) 1
    if s1.get (R.RING_CFG_LOSS_LIM n) ≤ s1.get (R.RING_ERR_LOC_MISS n) then s1.eventFence .ring (ringUnit n) else s1
  else s.put (R.RING_ERR_LOC_MISS n) 0

/-- R239: the per-cycle frame of a ring is not sent. -/
def State.skipCycle (n : Nat) (s : State) : State :=
  let r := s.ring n
  (((s.setRing n { r with sent := false, hdr := false, got := 0, judged := false, back := false, cut := false, late := false, blkOld := r.blkSeqs, blkSeqs := [] }).raise
    (R.RING_STAT_SKIP n)).addTo (R.RING_CNT_SKIP n) 1).countMiss n true

/-- R39, R55, R220, R232: the slots of a per-cycle frame: those of the commit on an admitted ring, else BLOCK. -/
def State.cycleSlots (s : State) (n : Nat) : List SlotCmd :=
  let r := s.ring n
  (List.range (s.get (R.RING_TOPO_NC n))).map (fun k =>
    let i := 16 * n + k
    if r.blkWait then s.blockSlot i else if r.mode = .admitted then tget (s.blockSlot i) s.enc.slots i else s.waitSlot i)

/-- R225, R239: the per-cycle frame of a ring at the cycle start `tk`; a BLOCK frame where the ring owes one (R55). A ring that runs no
frames has a cycle that is no miss (R240). The frame leaves at `tk` although a BLOCK frame may still be in transmission (DESIGN CHOICE,
notes/assumptions/63.md). -/
def State.cycleFrame (tk n : Nat) (s : State) : State :=
  let r := s.ring n
  if !(s.up (32 + n / 8)) then s
  else if !(s.ringUp n) || !(frameRuns r.mode) || (s.lane n).rep then s.put (R.RING_ERR_LOC_MISS n) 0
  else if (s.lane n).mode ≠ .locked then s.skipCycle n
  else
    let f := s.mkFrame n (b2n r.blkWait) tk (s.cycleSlots n)
    let s1 := s.sendFrame n f tk s.elapsed
    let s2 := s1.setRing n { s1.ring n with
      sent := true, hdr := false, got := 0, judged := false, back := false, cut := false, late := false, blkWait := false, frameSeq := f.seq
      blkOld := r.blkSeqs, blkSeqs := [], seqOut := if r.blkWait then r.seqOut else (f.seq :: r.seqOut).take 128 }
    if r.blkWait then s2.raise R.ARM_CYC_STAT_BLOCKFRM else s2

/-- R50, R239, R240: the per-cycle frame of a ring judged at SEL_DL; a frame that was not sent has been counted at t_k.
STAT_LATE is of an admitted ring: the missing status of a TSYNC or READY ring sets none (DESIGN CHOICE,
notes/assumptions/60.md). -/
def State.judgeRing (n : Nat) (s : State) : State :=
  let r := s.ring n
  if !r.judged && frameRuns r.mode then
    let ok := r.sent && r.hdr && decide (r.got = 2 ^ s.get (R.RING_TOPO_NC n) - 1)
    let s1 := s.setRing n { r with judged := true, late := r.sent && !r.hdr }
    let s2 := if !ok && s1.admitted n then s1.raise R.ARM_CYC_STAT_STAT_LATE else s1
    if !r.sent then s2
    else (if ok then s2 else (s2.raise (R.RING_STAT_LOST n)).addTo (R.RING_CNT_LOST n) 1).countMiss n (!ok)
  else s

/-- R43: every status slot of a ring has arrived. -/
def State.ringComplete (s : State) (n : Nat) : Bool :=
  (s.ring n).hdr && decide ((s.ring n).got = 2 ^ s.get (R.RING_TOPO_NC n) - 1)

/-- A ring owes a block frame that it can still send. -/
def State.owesBlock (s : State) (n : Nat) : Bool :=
  s.ringUp n && (s.ring n).blkWait && !(s.lane n).rep && decide ((s.lane n).mode = .locked)

/-- R640, R738: under L4 a ring glade stops once its block frames have left. -/
def State.ringGladeStop (g : Nat) (s : State) : State :=
  if s.flt.l4 && !s.amber.blkAgain && decide (32 ≤ g) && !((List.range 8).any (fun k => s.owesBlock (8 * (g - 32) + k))) then
    s.setGlade g { s.glade g with stopped := true }
  else s

/-- R25, R55: the ring states in which a block frame reaches the cells: they have been enumerated. -/
def blockRuns (m : RingMode) : Bool := frameRuns m || decide (m = .ident)

/-- BLOCK_FRAME_SEND (R25, R55, R181, R220): it leaves at once, or directly after a frame in transmission. Under L4 the arm glade has
stopped, so the frame carries no action (DESIGN CHOICE, notes/assumptions/63.md). -/
def blockFrameEffect (n : Nat) (s : State) : State :=
  let r := s.ring n
  if s.ringUp n && r.blkWait && !(s.lane n).rep && blockRuns r.mode && decide ((s.lane n).mode = .locked) then
    let act := s.up 5
    let slots := (List.range (s.get (R.RING_TOPO_NC n))).map (fun k =>
      if act then s.blockSlot (16 * n + k) else { sValid := true })
    let f := s.mkFrame n 1 (s.txAt n) slots
    let s1 := s.sendFrame n f (s.txAt n) (max s.elapsed r.txEnd)
    let s2 := s1.setRing n { s1.ring n with blkWait := false, blkSeqs := if act then f.seq :: r.blkSeqs else r.blkSeqs }
    (if act then s2.raise R.ARM_CYC_STAT_BLOCKFRM else s2).ringGladeStop (32 + n / 8)
  else s

/-- BLOCK_FRAME_SEND: a ring glade sends its block frame (R55). -/
def execBlockFrameSend (n : Nat) (s : State) : Host.Outcome State Fault Refusal := .next (blockFrameEffect n s)

/-- R25, R55: every ring whose cells are known owes a block frame. -/
def State.askBlockFrames (s : State) : State :=
  forAll s.ringList (fun n a =>
    if a.ringUp n && !(a.lane n).rep && blockRuns (a.ring n).mode then a.setRing n { a.ring n with blkWait := true } else a) s

/-! ## Status returning (R222, R232, R239, R241) -/

/-- R232: TSYNC counts successive valid frames with TLOCK = 1; READY once every cell has 16. An invalid slot starts the count anew, a lost
or skipped frame leaves it (DESIGN CHOICE, notes/assumptions/63.md). -/
def State.tsyncCount (n slot : Nat) (lock : Bool) (s : State) : State :=
  let r := s.ring n
  if r.mode = .tsync then
    let t := tset 0 r.tsync slot (if lock then tget 0 r.tsync slot + 1 else 0)
    if (List.range (s.get (R.RING_TOPO_NC n))).all (fun k => decide (16 ≤ tget 0 t k)) then
      ((s.setRing n { r with mode := .ready, tsync := [], budgetEv := false }).ringBudget n).ringLoss s.rtMax.1 n
    else s.setRing n { r with tsync := t }
  else s

/-- R232, R239: what a report does in the arm glade: a record, and protection. -/
def State.armReport (i : Nat) (admitted : Bool) (rep : Report) (s : State) : State :=
  ((if admitted && (s.smRec i).present then s.takeReport i rep else s).protReport i rep).selAgain

/-- A valid report of a slot (R222, R232, R239); the ring glade's link to the arm glade carries it there (R22). -/
def State.slotReport (n slot : Nat) (rep : Report) (s : State) : State :=
  let i := 16 * n + slot
  let m := (s.ring n).mode
  let s1 := (((s.flagIf rep.cmdErr (R.RING_STAT_CMD_ERR n)).flagIf rep.dirchg (R.RING_STAT_DIRCHG n)).flagIf rep.lossBlk
    (R.RING_STAT_LOSS_BLK n)).flagIf (!rep.tlock && decide (m ≠ .tsync)) (R.RING_STAT_TLOSS n)
  let s2 := if rep.late then (s1.raise (R.RING_STAT_CELL_LATE n)).event .ring (ringUnit n) 0 else s1
  (s2.overLink (32 + n / 8) 5 (State.armReport i (decide (m = .admitted)) rep)).tsyncCount n slot rep.tlock

/-- R50, R239: SEL_DL has passed and the ring's frame of the cycle has not been judged: it is judged before anything else reaches it. -/
def State.judgeDue (n : Nat) (s : State) : State :=
  if s.arm.running && decide (s.selDl < s.cycOfs) then s.judgeRing n else s

/-- R222, R239: SEQ is that of the ring's frame of the cycle, which has lost no block. -/
def RingSt.isOwn (r : RingSt) (h0 : Nat) : Bool := r.sent && !r.cut && decide (seqOf h0 = r.frameSeq)
/-- R239: SEQ is that of a BLOCK frame which the arm glade sent between cycle starts. -/
def RingSt.isBlk (r : RingSt) (h0 : Nat) : Bool := r.blkSeqs.contains (seqOf h0) || r.blkOld.contains (seqOf h0)

/-- R211, R212, R239: the header of the frame whose slot arrives now came back by SEL_DL: its last block lies 6 blocks of 6.4 ns for each
slot since before this instant. -/
def State.headInTime (s : State) (slot : Nat) : Bool := decide (10 * s.cycOfs ≤ 10 * s.selDl + (slot + 1) * 384 * 2 ^ 32)

/-- STATUS_SLOT_RECEIVED (R222, R239): a slot of a frame whose header is not good or came back after SEL_DL, or that is not evaluated, is
no report. An invalid slot of a BLOCK frame sent between cycle starts counts nowhere. -/
def slotReceivedEffect (n slot h0 h1 s0 s1 s2 s3 : Nat) (s : State) : State :=
  let r := s.ring n
  let own := r.isOwn h0
  if s.ringUp n && !(s.lane n).rep && frameRuns r.mode && headerOk n h0 h1 && (own || r.isBlk h0)
      && decide (slot < s.get (R.RING_TOPO_NC n)) then
    let j := s.judgeDue n
    if own && (j.ring n).late && !s.headInTime slot then j
    else
      let a := if own then j.setRing n { j.ring n with hdr := true, got := setBitN r.got slot, late := false } else j
      let v := s.get (R.RING_SLOTS_VALID n)
      let b := if slotValid n (seqOf h0) slot s0 s1 s2 s3 then (a.put (R.RING_SLOTS_VALID n) (setBitN v slot)).slotReport n slot (parseSlot s0 s1 s2 s3)
        else
          let c := a.put (R.RING_SLOTS_VALID n) (clrBitN v slot)
          (if own then (c.raise (R.RING_STAT_SLOT_ERR n)).addTo (R.RING_CNT_ERR_SLOT n) 1 else c).tsyncCount n slot false
      if own && !b.linkCut (32 + n / 8) 5 then { b with arm := { b.arm with lastStat := insertKey n s.cycOfs b.arm.lastStat } } else b
  else s

/-- STATUS_SLOT_RECEIVED: a returned status slot is judged (R222). -/
def execStatusSlotReceived (n slot : Nat) (h : RxHeader) (s0 s1 s2 s3 : Nat) (s : State) : Host.Outcome State Fault Refusal :=
  .next (slotReceivedEffect n slot h.h0 h.h1 s0 s1 s2 s3 s)

/-- R241: the live round trip of a returning NORMAL frame; one that has been measured is not measured again. -/
def State.roundTrip (n seq rtPs : Nat) (s : State) : State :=
  let s0 := s.setRing n { s.ring n with seqOut := (s.ring n).seqOut.filter (fun x => decide (x ≠ seq)) }
  let s1 := (s0.put (R.RING_RT_LIVE_LAST n) (satTo 65535 (rtPs / 1000))).put (R.RING_RT_LIVE_MAX n)
    (max (s.get (R.RING_RT_LIVE_MAX n)) (satTo 65535 (rtPs / 1000)))
  if s1.admitted n && decide (1000 * s1.execNs < rtPs) then
    (s1.raise (R.RING_STAT_RT_DRIFT n)).eventFence .ring (ringUnit n)
  else s1

/-- R239: HOPS of the returned frame of a cycle. -/
def State.hopsJudge (n hops : Nat) (s : State) : State :=
  if hops = s.get (R.RING_TOPO_NC n) then s
  else (s.raise (R.RING_STAT_TOPO n)).eventFence .ring (ringUnit n)

/-- R241: a frame is a NORMAL frame of the ring that has not come back yet, in this cycle or from an earlier one. -/
def RingSt.isNormal (r : RingSt) (f : RxFrame) : Bool := decide (f.ftype = 0) && r.seqOut.contains (seqOf f.h0)

/-- FRAME_RETURN (R239, R241, R259): a NORMAL or BLOCK frame. The frame of the cycle is judged by the table of R239; a NORMAL frame that
comes back after its cycle is measured alone; of another frame sent between cycle starts HOPS alone is taken, and BLOCK frames of R25 are
not evaluated. What comes back with a damaged header, or truncated, is the frame of the cycle while that has not come back. -/
def frameReturnEffect (n : Nat) (f : RxFrame) (s : State) : State :=
  let r := s.ring n
  if s.ringUp n && !(s.lane n).rep && frameRuns r.mode then
    let j := s.judgeDue n
    let head := headerOk n f.h0 f.h1
    let m (a : State) : State := if r.isNormal f then a.roundTrip n (seqOf f.h0) f.rtPs else a
    if f.good n && r.isOwn f.h0 then
      let k := j.rxCheck n f
      (m (k.setRing n { k.ring n with back := true })).hopsJudge n f.hops
    else if f.good n && (r.isBlk f.h0 || r.isNormal f) then m (j.put (R.RING_ERR_LOC_HOPS n) f.hops)
    else if head && !r.isOwn f.h0 && decide (f.ftype = 1) then j
    else if r.sent && !r.back then
      let k := (j.rxCheck n f).put (R.RING_SLOTS_VALID n) 0
      k.setRing n { k.ring n with hdr := false }
    else j
  else s

/-- FRAME_RETURN: a ring frame's CRC block returns (R239). -/
def execFrameReturn (n : Nat) (f : RxFrame) (s : State) : Host.Outcome State Fault Refusal := .next (frameReturnEffect n f s)

/-! ## Fences (R104, R232, R739) -/

/-- A ring is fenced: it sends nothing more (R104). Its host access ends (R906), but one that is lost with its ring glade leaves no
result. -/
def State.fenceRing (n : Nat) (lost : Bool) (s : State) : State :=
  let mid := s.arm.selDone && s.arm.selMode && s.arm.selRings.contains n
  let s1 := if lost then s.setRing n { s.ring n with svc := none, svcHost := none, svcKeys := [] } else s.svcAbort n
  let s2 := s1.setRing n { s1.ring n with mode := .fenced, blkWait := false, admitDue := false, sent := false, lossEv := false }
  let s3 := (s2.cond (R.RING_STAT_BUDGET n) false).ringOut n
  (if !mid then s3 else if s.elapsed = s.arm.selEl then s3.selAgain else s3.raise R.RANK_STAT_FENCE_MID).topologyChanged

/-- A ring is unfenced: it restarts from DOWN, and its sub-modules are UNKNOWN (R82, R232). -/
def State.unfenceRing (n : Nat) (s : State) : State :=
  let s1 := s.ringDown n
  let s2 := forAll (List.range 16) (fun k a =>
    if (a.smRec (16 * n + k)).present then a.setRec (16 * n + k) { a.smRec (16 * n + k) with rcnt := 0 } else a) s1
  (s2.setRing n { s2.ring n with idBad := false }).topologyChanged

end Sys2Proof.Machine
end

