-- ==== Sys2Proof/Machine/Lanes.lean ====
section
/-! DEFINITION. Serial lanes: lane states, loss of lock, equalisation, alignment markers, test patterns and eye scans
(R264 to R306). -/

namespace Sys2Proof.Machine

/-! ## Users and states (R264, R268, R287) -/

/-- R640: a lane goes on repeating while its ring glade is stopped under L4. -/
def State.repeatsOn (s : State) (l : Nat) : Bool :=
  let g := laneUnit l / 256
  (s.lane l).rep && (s.glade g).stopped && gladePresent s.variant g && !(s.glade g).inReset && !s.gladeFenced g && !(s.glade g).gated
    && !s.unitFenced (laneUnit l)

/-- The lane is present and neither it nor its glade is fenced. -/
def State.laneUp (s : State) (l : Nat) : Bool :=
  decide (l < 116) && (decide (96 ≤ l) || decide (l < s.variant.rings)) && (s.unitUp (laneUnit l) || s.repeatsOn l)

/-- The lane is present and its glade runs: its page takes writes, fenced or not (notes/assumptions/50.md). -/
def State.laneHere (s : State) (l : Nat) : Bool :=
  decide (l < 116) && (decide (96 ≤ l) || decide (l < s.variant.rings)) && s.up (laneUnit l / 256)

/-- R287: the lane's user is enabled. -/
def State.laneUsed (s : State) (l : Nat) : Bool :=
  if l < 96 then decide ((s.ring l).mode ≠ .down)
  else if l < 112 then s.on (R.CANOPY_CTRL_EN ((l - 96) / 4))
  else s.on (R.ETH_CTRL_EN (l - 112))

/-- A lane's page base. -/
def lanePage (l : Nat) : Nat := 0x100000 + 0x1000 * l

/-- What follows the end of a full scan: a deferred re-adaptation, then a cross scan that is to be repeated (R285). -/
def LaneSt.afterScan (x : LaneSt) : LaneSt :=
  if x.defer then { x with defer := false, readapt := true }
  else if x.second && !x.cross && !x.readapt then { x with cross := true } else x

/-- R282: a full scan that runs or waits ends with RESULT 3. -/
def State.scanAbort (l : Nat) (s : State) : State :=
  let x := s.lane l
  if x.scan = .none then s
  else ((s.setLane l { x with scan := .none }).put (R.LANE_ES_STAT_RESULT l) 3).raise (R.LANE_STAT_ES_ABORT l)

/-- R277, R610: the port of a Canopy lane loses its alignment and goes down. -/
def State.alignLost (p : Nat) (s : State) : State :=
  if s.on (R.LANE_STATUS_ALIGNED (96 + 4 * p)) then
    ((forAll [0, 1, 2, 3] (fun q a =>
      (a.put (R.LANE_STATUS_ALIGNED (96 + 4 * p + q)) 0).raise (R.LANE_STAT_DESKEW (96 + 4 * p + q))) s).event .lane (laneUnit (96 + 4 * p)) 0).portDown p
  else s

/-- R275, R297: hardware adaptation writes the DFE taps. -/
def State.putTaps (l v : Nat) (s : State) : State :=
  s.putAll [(R.LANE_RX_EQ_T1 l, bits v 20 6), (R.LANE_RX_EQ_T2 l, bits v 15 5), (R.LANE_RX_EQ_T3 l, bits v 10 5),
    (R.LANE_RX_EQ_T4 l, bits v 5 5), (R.LANE_RX_EQ_T5 l, bits v 0 5)]

/-- R272: a tap of `w` bits that has stood at `old` and may have moved by `n` codes; `v` is where it would stand. -/
def trackTap (w n old v : Nat) : Nat :=
  codeOf w (clampInt (max (-(2 ^ (w - 1) : Nat)) (signedOf w old - n)) (min ((2 ^ (w - 1) : Nat) - 1) (signedOf w old + n)) (signedOf w v))

/-- R272: with ADAPT = 2 the taps keep tracking in LOCKED, each by at most one code in a microsecond; where they stand within that bound
is open (notes/assumptions/49.md). -/
def State.trackTaps (l : Nat) (s : State) : State :=
  if (s.lane l).mode = .locked ∧ s.get (R.LANE_CFG_ADAPT l) = 2 then
    let n := (s.elapsed - (s.lane l).trackAt) / (1000 * 2 ^ 32)
    let v := s.freeNat 26
    let mv (F : Field) (lo : Nat) : Field × Nat := (F, trackTap F.w n (s.get F) (bits v lo F.w))
    ((s.putAll [mv (R.LANE_RX_EQ_T1 l) 20, mv (R.LANE_RX_EQ_T2 l) 15, mv (R.LANE_RX_EQ_T3 l) 10, mv (R.LANE_RX_EQ_T4 l) 5,
      mv (R.LANE_RX_EQ_T5 l) 0]).setLane l { s.lane l with trackAt := s.elapsed }).useFree 1
  else s

/-- R272, R275: tracking goes on from where the taps stand now. -/
def State.trackAgain (l : Nat) (s : State) : State :=
  if (s.lane l).mode = .locked then s.setLane l { s.lane l with trackAt := s.elapsed } else s

/-- The lane leaves LOCKED: scans and re-adaptation end (R282, R285), and a Canopy port loses alignment (R277). -/
def State.laneUnlock (l : Nat) (dst : LaneMode) (s : State) : State :=
  let s1 := (s.trackTaps l).scanAbort l
  let s2 := s1.setLane l { s1.lane l with mode := dst, readapt := false, defer := false, cross := false, second := false
                                          prbs := (s1.lane l).prbs && decide (dst = .sync) }
  if 96 ≤ l ∧ l < 112 then
    let p := (l - 96) / 4
    (s2.setPort p { s2.port p with good := 0, bad := 0 }).alignLost p
  else s2

/-- R268: a lane goes to OFF. -/
def State.laneOff (l : Nat) (s : State) : State := s.laneUnlock l .off

/-- LANE_ENABLE (R268, R870): a lane whose board was refused takes the write as one to a locked field. -/
def laneEnableEffect (l : Nat) (s : State) : State :=
  if s.host.laneHeld.contains l then (s.raise (R.LANE_STATUS_LOCKV l)).config (lanePage l + 8)
  else if s.laneHere l then
    let s1 := s.put (R.LANE_CTRL_EN l) 1
    if s.laneUp l && decide ((s1.lane l).mode = .off) then s1.setLane l { s1.lane l with mode := .cal } else s1
  else s
/-- LANE_ENABLE: a write of 1 to LANE.CTRL.EN (R268). -/
def execLaneEnable (l : Nat) (s : State) : Host.Outcome State Fault Refusal := .next (s.commanded (0x100008 + 0x1000 * l) (laneEnableEffect l))

/-- LANE_DISABLE (R268, R287): locked while the lane's user is enabled. -/
def laneDisableEffect (l : Nat) (s : State) : State :=
  if s.laneHere l then
    if s.laneUsed l then (s.raise (R.LANE_STATUS_LOCKV l)).config (lanePage l + 8)
    else (s.put (R.LANE_CTRL_EN l) 0).laneOff l
  else s
/-- LANE_DISABLE: a write of 0 to LANE.CTRL.EN (R268). -/
def execLaneDisable (l : Nat) (s : State) : Host.Outcome State Fault Refusal := .next (s.commanded (0x100008 + 0x1000 * l) (laneDisableEffect l))

/-- A lane in one state goes to another. -/
def State.laneGo (l : Nat) (old new : LaneMode) (s : State) : State :=
  if s.laneUp l && decide ((s.lane l).mode = old) then s.setLane l { s.lane l with mode := new } else s

/-- LANE_CAL_DONE (R268). -/
def laneCalEffect (l : Nat) (s : State) : State := s.laneGo l .cal .acq
/-- LANE_CAL_DONE: offset calibration completes (R268). -/
def execLaneCalDone (l : Nat) (s : State) : Host.Outcome State Fault Refusal := .next (laneCalEffect l s)

/-- LANE_SIGNAL_ACQUIRED (R268, R272): with ADAPT = 0, ADAPT ends at once. -/
def laneAcquiredEffect (l ppm : Nat) (s : State) : State :=
  if ppm ≤ 300 then s.laneGo l .acq (if s.get (R.LANE_CFG_ADAPT l) = 0 then .sync else .adapt) else s
/-- LANE_SIGNAL_ACQUIRED: a signal is detected and recovered (R268). -/
def execLaneSignalAcquired (l ppm : Nat) (s : State) : Host.Outcome State Fault Refusal := .next (laneAcquiredEffect l ppm s)

/-- LANE_ACQ_TIMEOUT (R268). -/
def laneAcqTimeoutEffect (l : Nat) (s : State) : State :=
  if s.laneUp l && decide ((s.lane l).mode = .acq) then (s.raise (R.LANE_STAT_ACQ_FAIL l)).event0 .lane (laneUnit l) 0 else s
/-- LANE_ACQ_TIMEOUT: 10 ms pass in ACQ (R268). -/
def execLaneAcqTimeout (l : Nat) (s : State) : Host.Outcome State Fault Refusal := .next (laneAcqTimeoutEffect l s)

/-- R275, R830: software has written RX_EQ at this instant: its value stands. -/
def State.eqWritten (s : State) (l : Nat) : Bool := decide ((s.lane l).eqAt = some s.elapsed)

/-- LANE_ADAPT_DONE (R268, R272, R275). -/
def laneAdaptEffect (l rxEq : Nat) (s : State) : State :=
  if s.laneUp l && decide ((s.lane l).mode = .adapt) then
    (if s.eqWritten l then s else (s.put (R.LANE_RX_EQ_CTLE l) (bits rxEq 26 4)).putTaps l rxEq).laneGo l .adapt .sync
  else s
/-- LANE_ADAPT_DONE: adaptation converges (R268). -/
def execLaneAdaptDone (l rxEq : Nat) (s : State) : Host.Outcome State Fault Refusal := .next (laneAdaptEffect l rxEq s)

/-- R268, R272: ADAPT ends at once when CFG.ADAPT is written 0. -/
def State.adaptOff (l : Nat) (s : State) : State := if s.get (R.LANE_CFG_ADAPT l) = 0 then s.laneGo l .adapt .sync else s

/-- LANE_BLOCK_LOCK (R232, R268, R269): a cell lane that locks lets its ring start. -/
def laneLockEffect (l : Nat) (s : State) : State :=
  if s.laneUp l && decide ((s.lane l).mode = .sync) then
    let s1 := s.setLane l { s.lane l with mode := .locked, win := true, trackAt := s.elapsed }
    if l < 96 then s1.ringTryStart l else s1
  else s
/-- LANE_BLOCK_LOCK: block lock or clause 36 sync is acquired (R268). -/
def execLaneBlockLock (l : Nat) (s : State) : Host.Outcome State Fault Refusal := .next (laneLockEffect l s)

/-- LANE_SYNC_TIMEOUT (R268). -/
def laneSyncTimeoutEffect (l : Nat) (s : State) : State :=
  if s.laneUp l && decide ((s.lane l).mode = .sync) then (s.laneGo l .sync .acq).raise (R.LANE_STAT_ACQ_FAIL l) else s
/-- LANE_SYNC_TIMEOUT: 1 ms passes in SYNC (R268). -/
def execLaneSyncTimeout (l : Nat) (s : State) : Host.Outcome State Fault Refusal := .next (laneSyncTimeoutEffect l s)

/-- R269: a loss of lock is counted; at LOL_LIM in one window the LANE event is at L2. -/
def State.lossOfLock (l : Nat) (hiBer : Bool) (dst : LaneMode) (s : State) : State :=
  let s1 := (s.raise (R.LANE_STAT_LOL l)).flagIf hiBer (R.LANE_STAT_HIBER l)
  let s2 := (s1.addTo (R.LANE_CNT_LOL l) 1).addSat (R.LANE_CNT_LOL_WIN l) 1
  let lim := s2.get (R.LANE_CFG_LOL_LIM l)
  let s3 := if lim ≠ 0 ∧ lim ≤ s2.get (R.LANE_CNT_LOL_WIN l) then s2.eventFence .lane (laneUnit l) else s2.event .lane (laneUnit l) 0
  s3.laneUnlock l dst

/-- LANE_LOSS_OF_LOCK (R268, R269). -/
def laneLossEffect (l : Nat) (hiBer : Bool) (s : State) : State :=
  if s.laneUp l && decide ((s.lane l).mode = .locked) then s.lossOfLock l hiBer .sync else s
/-- LANE_LOSS_OF_LOCK: block lock is lost or hi_ber rises (R269). -/
def execLaneLossOfLock (l : Nat) (hiBer : Bool) (s : State) : Host.Outcome State Fault Refusal := .next (laneLossEffect l hiBer s)

/-- LANE_SIGNAL_LOST (R268, R269). -/
def laneSignalLostEffect (l : Nat) (s : State) : State :=
  if s.laneUp l && decide ((s.lane l).mode = .locked) then s.lossOfLock l false .acq else s
/-- LANE_SIGNAL_LOST: signal detect or the frequency is lost in LOCKED (R268). -/
def execLaneSignalLost (l : Nat) (s : State) : Host.Outcome State Fault Refusal := .next (laneSignalLostEffect l s)

/-- LOL_WINDOW_END (R269): the windows run on while the lane is fenced. -/
def lolWindowEffect (l : Nat) (s : State) : State :=
  if s.laneHere l && (s.lane l).win then s.put (R.LANE_CNT_LOL_WIN l) 0 else s
/-- LOL_WINDOW_END: a 1.0 s loss-of-lock window ends (R269). -/
def execLolWindowEnd (l : Nat) (s : State) : Host.Outcome State Fault Refusal := .next (lolWindowEffect l s)

/-! ## Equalisation (R272 to R275) -/

/-- R273, R285: re-adaptation starts, or waits for the end of a running full scan. -/
def State.startReadapt (l : Nat) (s : State) : State :=
  if (s.lane l).scan = .running then s.setLane l { s.lane l with defer := true } else s.setLane l { s.lane l with readapt := true }

/-- R273, R903: READAPT in a write that began in `s0`. -/
def State.readaptIn (s0 : State) (l : Nat) (s : State) : State :=
  if s.laneHere l then
    if s.get (R.LANE_CFG_ADAPT l) = 0 ∨ (s.lane l).mode ≠ .locked then State.configOnce s0 (lanePage l + 8) s
    else if s.get (R.LANE_CFG_ADAPT l) = 1 then s.startReadapt l
    else s
  else s
/-- READAPT (R273). -/
def readaptEffect (l : Nat) (s : State) : State := State.readaptIn s l s
/-- READAPT: a write of 1 to CTRL.READAPT (R273). -/
def execReadapt (l : Nat) (s : State) : Host.Outcome State Fault Refusal := .next (s.commanded (0x100008 + 0x1000 * l) (readaptEffect l))

/-- READAPT_DONE (R272, R273, R284): the taps freeze, where ADAPT = 0 has not frozen them before, and a margin check repeats its cross
scan. -/
def readaptDoneEffect (l taps : Nat) (s : State) : State :=
  if s.laneUp l && (s.lane l).readapt then
    let s1 := if s.get (R.LANE_CFG_ADAPT l) = 0 ∨ s.eqWritten l = true then s else s.putTaps l taps
    let x : LaneSt := { s1.lane l with readapt := false }
    s1.setLane l (if x.scan = .running then x else x.afterScan)
  else s
/-- READAPT_DONE: the 1 ms re-adaptation ends (R273). -/
def execReadaptDone (l taps : Nat) (s : State) : Host.Outcome State Fault Refusal := .next (readaptDoneEffect l taps s)

/-- TX_EQ_WRITE (R274, R296, R825): refused whole, or applied at once; SWING is locked like every RWL field. -/
def txEqEffect (l v : Nat) (s : State) : State :=
  if s.laneHere l then
    let pre := bits v 0 5
    let post := bits v 5 5
    let main := bits v 10 6
    let bad := decide (63 < pre + main + post ∨ 15 < pre ∨ main < 32)
    let locked := s.on (R.LANE_LOCK_LOCK l) || s.laneUsed l
    let s1 := if bad then s else s.putAll [(R.LANE_TX_EQ_PRE l, pre), (R.LANE_TX_EQ_POST l, post), (R.LANE_TX_EQ_MAIN l, main)]
    let s2 := if bad || locked then s1 else s1.put (R.LANE_TX_EQ_SWING l) (bits v 16 3)
    let s3 := if locked then s2.raise (R.LANE_STATUS_LOCKV l) else s2
    if bad || locked then s3.config (lanePage l + 0x44) else s3
  else s
/-- TX_EQ_WRITE: a write to TX_EQ (R274). -/
def execTxEqWrite (l v : Nat) (s : State) : Host.Outcome State Fault Refusal := .next (s.commanded (0x100044 + 0x1000 * l) (txEqEffect l v))

/-! ## Elastic buffer, markers, test patterns (R266, R276 to R279, R298) -/

/-- R266: the frame of a ring whose header has come back and whose CRC block has not loses blocks: it counts as truncated. -/
def RingSt.lose (r : RingSt) : RingSt := if r.sent && r.hdr && !r.back then { r with hdr := false, cut := true } else r

/-- ELASTIC_RECENTRE (R266). -/
def elasticEffect (l : Nat) (s : State) : State :=
  if s.laneUp l then
    let s1 := s.raise (R.LANE_STAT_ELASTIC l)
    if l < 96 ∧ (s.ring l).lose ≠ s.ring l then s1.setRing l (s.ring l).lose else s1
  else s
/-- ELASTIC_RECENTRE: the elastic buffer overflows or underflows (R266). -/
def execElasticRecentre (l : Nat) (s : State) : Host.Outcome State Fault Refusal := .next (elasticEffect l s)

/-- R276: the marker of a set that leaves on a logical lane, a control block of type 0x4B. -/
def markerWord (lane port dev seq : Nat) : Nat :=
  (lane * 2 ^ 54 + port * 2 ^ 52 + dev * 2 ^ 42 + seq * 2 ^ 34 + 0xC * 2 ^ 28) * 2 ^ 8 + 0x4B

/-- ALIGN_MARKER_SEND (R276). -/
def markerSendEffect (p : Nat) (s : State) : State :=
  if s.portRuns p then
    let x := s.port p
    let seq := x.mseq
    let ms := (List.range 4).map (fun q => markerWord q p (s.get R.CANOPY_DEVID_ID) seq)
    s.setPort p { x with mseq := (seq + 1) % 256, marker := ms
                         line := (List.range 4).map (fun q => (q, syncHeader true, ms.getD q 0)) }
  else s
/-- ALIGN_MARKER_SEND: a Canopy transmitter sends a marker on all four lanes (R276). -/
def execAlignMarkerSend (p : Nat) (s : State) : Host.Outcome State Fault Refusal := .next (markerSendEffect p s)

/-- The earliest arrival of a set. -/
def firstArrival (ms : List Marker) : Nat := ms.foldl (fun a m => min a m.atBlk) ((ms.head?.map (·.atBlk)).getD 0)

/-- R277: a set of markers is good. The four markers stand in the order of the physical lanes. -/
def goodSet (ms : List Marker) : Bool :=
  decide (ms.length = 4) && (match ms with
    | m :: rest => rest.all (fun x => decide (x.seq = m.seq ∧ x.port = m.port ∧ x.device = m.device))
    | [] => false)
    && [0, 1, 2, 3].all (fun q => ms.any (fun m => decide (m.lane = q)))
    && ms.all (fun m => decide (m.atBlk ≤ firstArrival ms + 10))

/-- R306: DESKEW of the port's lanes describes a good set. -/
def State.putDeskew (p : Nat) (ms : List Marker) (s : State) : State :=
  forAll [0, 1, 2, 3] (fun q a =>
    match ms[q]? with
    | some m => a.putAll [(R.LANE_DESKEW_LLANE (96 + 4 * p + q), m.lane), (R.LANE_DESKEW_PPORT (96 + 4 * p + q), m.port),
        (R.LANE_DESKEW_PEER (96 + 4 * p + q), m.device), (R.LANE_DESKEW_SKEW (96 + 4 * p + q), m.atBlk - firstArrival ms)]
    | none => a) s

/-- MARKER_SET_RECEIVED (R277, R278, R610): markers are judged only while all four lanes are LOCKED. -/
def markerSetEffect (p : Nat) (ms : List Marker) (s : State) : State :=
  if decide (p < 4) && [0, 1, 2, 3].all (fun q => s.laneUp (96 + 4 * p + q) && decide ((s.lane (96 + 4 * p + q)).mode = .locked)) then
    let x := s.port p
    if goodSet ms then
      let s1 := ((s.setPort p { x with good := satTo 2 (x.good + 1), bad := 0 }).putDeskew p ms).peerAgain p
      if 1 ≤ x.good then forAll [0, 1, 2, 3] (fun q a => a.put (R.LANE_STATUS_ALIGNED (96 + 4 * p + q)) 1) s1 else s1
    else
      let s1 := s.setPort p { x with good := 0, bad := satTo 3 (x.bad + 1) }
      if x.bad = 2 then s1.alignLost p else s1
  else s
/-- MARKER_SET_RECEIVED: a set of alignment markers is judged (R277). -/
def execMarkerSetReceived (p : Nat) (ms : List Marker) (s : State) : Host.Outcome State Fault Refusal := .next (markerSetEffect p ms s)

/-- R279, R287: TEST.GEN, TEST.CHK and CFG.LOOP of a lane apply. -/
def State.testApplies (s : State) (l : Nat) : Bool := !s.on (R.LANE_CFG_RATE l) && !s.laneUsed l

/-- PRBS_ERROR (R279): counted while the checker is on, on a lane at 10.3125 Gb/s that is not OFF and whose user is disabled. -/
def prbsEffect (l : Nat) (s : State) : State :=
  if s.laneUp l && decide ((s.lane l).mode ≠ .off) && s.on (R.LANE_TEST_CHK l) && s.testApplies l then
    let first := decide (s.get (R.LANE_TEST_ERRS l) = 0)
    ((s.setLane l { s.lane l with prbs := true }).addSat (R.LANE_TEST_ERRS l) 1).flagIf first (R.LANE_STAT_PRBS_ERR l)
  else s
/-- PRBS_ERROR: the PRBS31 checker counts a bit error (R279). -/
def execPrbsError (l : Nat) (s : State) : Host.Outcome State Fault Refusal := .next (prbsEffect l s)

/-- INVALID_SYNC_HEADER (R298, R299): an invalid block type is no invalid sync header or code group. -/
def badHeaderEffect (l : Nat) (blockType : Bool) (s : State) : State :=
  if s.laneUp l && decide ((s.lane l).mode ≠ .off) then
    let s1 := s.raise (R.LANE_STAT_CODE_ERR l)
    if blockType then s1 else s1.addTo (R.LANE_CNT_HDR_ERR l) 1
  else s
/-- INVALID_SYNC_HEADER: an invalid sync header, block type or code group arrives (R298). -/
def execInvalidSyncHeader (e : BadBlock) (s : State) : Host.Outcome State Fault Refusal := .next (badHeaderEffect e.lane e.blockType s)

/-! ## What a lane sends (R209, R233, R267, R268, R279, R289) -/

/-- R243, R640: the ring of a cell lane has been fenced while its frame is in transmission, or the fabric glade is in the 200 ns of its
WITHDRAW: the frame completes. -/
def State.laneFinishes (s : State) (l : Nat) : Bool :=
  decide (96 ≤ l) && decide (l < 112) && s.isCkPort ((l - 96) / 4) && (s.port ((l - 96) / 4)).out.any (fun m => decide (m.mtype = 8))
    && (s.glade 6).stopped && decide (s.elNs < s.amber.l4At + 200) && !s.on (R.LANE_CTRL_TX_OFF l)
  || decide (l < 96) && decide ((s.ring l).mode = .fenced) && decide (s.elapsed < (s.ring l).txEnd) && s.up (laneUnit l / 256)
    && !(s.lane l).rep && !s.on (R.LANE_CTRL_TX_OFF l)

/-- R267, R268, R289: the transmitter stands at electrical idle. -/
def State.laneSilent (s : State) (l : Nat) : Bool :=
  !s.laneUp l || s.on (R.LANE_CTRL_TX_OFF l) || decide ((s.lane l).mode = .off) || ((s.lane l).rep && decide ((s.lane l).mode ≠ .locked))

/-- R209, R233, R243, R265, R276: the coded blocks that a lane at 10.3125 Gb/s sends now, before its scrambler: those it repeats, the probes
of PROBE, the frame in transmission with one that waits for its end, what its Canopy port's sequence last gained, or idle blocks. The answers
among the probes are known once the command that ends PROBE has brought the far end's probes (notes/assumptions/61.md). -/
def State.laneCoded (s : State) (l : Nat) : List (Nat × Nat) :=
  let x := s.lane l
  let r := s.ring l
  if x.rep then x.rptOut
  else if 96 ≤ l then
    (match ((s.port ((l - 96) / 4)).line.filter (fun e => decide (e.1 = (l - 96) % 4))).map (·.2) with
     | [] => [idleCoded]
     | bs => bs)
  else if r.mode = .probe then probeCoded x.ansOut
  else if r.txEnd ≤ s.elapsed then [idleCoded]
  else
    (if s.elapsed < r.outAt then (r.outWas.map (RingFrame.coded l)).getD [] else []) ++ (r.out.map (RingFrame.coded l)).getD [idleCoded]

/-- What the lane's transmitter carries (R209, R265, R279, R295). -/
def State.laneLine (s : State) (l : Nat) : LaneLine :=
  let inv := s.on (R.LANE_CFG_TX_INV l)
  if s.laneSilent l && !s.laneFinishes l then .quiet
  else if s.on (R.LANE_TEST_GEN l) && s.testApplies l && !(s.lane l).rep then
    let w := prbsBits 64 (Config.prbsReg l s.elapsed).toNat
    .prbs (if inv then 2 ^ 64 - 1 - w else w)
  else if 112 ≤ l then .packets inv
  else
    let bs := wireBlocks (Config.scrambler l s.elapsed).toNat (s.laneCoded l)
    .wire (if inv then invertBlocks bs else bs)

/-- R279: the lane's receiver sees its own transmitter's serial output. -/
def State.laneLoops (s : State) (l : Nat) : Bool := decide (s.get (R.LANE_CFG_LOOP l) = 1) && s.testApplies l

/-- R268, R279: the lane's receiver has recovered its clock. -/
def clocked : LaneMode → Bool
  | .adapt => true
  | .sync => true
  | .locked => true
  | .off => false
  | .cal => false
  | .acq => false

/-- R279, R295, R300: TEST.SYNC. A checker that has counted an error has synchronised, and so has one that sees the lane's own generator
in the polarity it expects; without a loop the far end decides, and the bit is open (notes/assumptions/55.md). -/
def State.prbsSync (s : State) (l : Nat) : Nat :=
  if s.laneUp l && s.testApplies l && s.on (R.LANE_TEST_CHK l) && clocked (s.lane l).mode then
    (if (s.lane l).prbs then 1
     else if s.laneLoops l then
       b2n (s.on (R.LANE_TEST_GEN l) && !s.laneSilent l && (s.on (R.LANE_CFG_TX_INV l) == s.on (R.LANE_CFG_RX_INV l)))
     else s.freeNat 1)
  else 0

/-! ## Eye scans (R280 to R285) -/

/-- The points of one axis: `n` codes in steps of 2^k (R281). -/
def axisPoints (n k : Nat) : Nat := (n + 2 ^ k - 1) / 2 ^ k

/-- R281: the points of a full scan. -/
def scanPoints (v h : Nat) : Nat := axisPoints 127 v * axisPoints 64 h

/-- Data-port address of map slot k (R837). -/
def eyeBase (k : Nat) : Nat := 0xCC0000 + 0x8000 * k

/-- R282: the slot a scan takes: the one held, else the lowest free one. -/
def State.eyeSlot (s : State) (l : Nat) : Option Nat :=
  match (s.lane l).slot with
  | some k => some k
  | none => (List.range 8).find? (fun k => s.lanes.all (fun e => decide (e.2.slot ≠ some k)))

/-- R282, R285: a waiting scan takes its slot and begins, unless a cross scan runs. -/
def State.scanBegin (l : Nat) (s : State) : State :=
  let x := s.lane l
  if x.scan = .waiting ∧ x.cross = false then
    match s.eyeSlot l with
    | none => s
    | some k =>
      (s.setLane l { x with scan := .running, slot := some k, point := 0 }).putAll
        [(R.LANE_ES_STAT_SLOT l, k), (R.LANE_ES_ADDR_ADDR l, eyeBase k)]
  else s

/-- ES_STOP (R282). -/
def esStopEffect (l : Nat) (s : State) : State :=
  if s.laneHere l && decide ((s.lane l).scan ≠ .none) then
    (s.setLane l ({ s.lane l with scan := .none } : LaneSt).afterScan).put (R.LANE_ES_STAT_RESULT l) 2
  else s
/-- ES_STOP: ES_CTRL.STOP ends the running scan (R282). -/
def execEsStop (l : Nat) (s : State) : Host.Outcome State Fault Refusal := .next (s.commanded (0x100058 + 0x1000 * l) (esStopEffect l))

/-- ES_FREE (R282): ignored with a CONFIG event while a scan runs. -/
def esFreeEffect (l : Nat) (s : State) : State :=
  if s.laneHere l then
    if (s.lane l).scan = .running then s.config (lanePage l + 0x58)
    else (s.setLane l { s.lane l with slot := none }).putAll [(R.LANE_ES_STAT_SLOT l, 0), (R.LANE_ES_ADDR_ADDR l, 0)]
  else s
/-- ES_FREE: ES_CTRL.FREE releases the lane's map slot (R282). -/
def execEsFree (l : Nat) (s : State) : Host.Outcome State Fault Refusal := .next (s.commanded (0x100058 + 0x1000 * l) (esFreeEffect l))

/-- R282, R903: a full scan is requested in a write that began in `s0`. -/
def State.scanRequest (s0 : State) (l : Nat) (s : State) : State :=
  if (s.lane l).scan = .none then
    let v := s.get (R.LANE_ES_CTRL_V_STEP l)
    let h := s.get (R.LANE_ES_CTRL_H_STEP l)
    ((s.setLane l { s.lane l with scan := .waiting, point := 0, vStep := v, hStep := h }).putAll
      [(R.LANE_ES_STAT_PTS_DONE l, 0), (R.LANE_ES_STAT_RESULT l, 0), (R.LANE_ES_STAT_PTS_TOTAL l, scanPoints v h)]).scanBegin l
  else State.configOnce s0 (lanePage l + 0x58) s

/-- ES_GO (R282, R285, R301, R903): the whole written word, with GO = 1; FREE acts first, and STOP governs GO. -/
def esGoEffect (l v : Nat) (s : State) : State :=
  if s.laneHere l then
    let s1 := s.putAll [(R.LANE_ES_CTRL_DWELL l, bits v 24 3), (R.LANE_ES_CTRL_H_STEP l, bits v 18 2), (R.LANE_ES_CTRL_V_STEP l, bits v 16 2)]
    let s2 := if bitOf v 29 then esFreeEffect l s1 else s1
    if bitOf v 30 then esStopEffect l s2 else State.scanRequest s l s2
  else s
/-- ES_GO: ES_CTRL.GO requests a full eye scan (R282). -/
def execEsGo (l v : Nat) (s : State) : Host.Outcome State Fault Refusal := .next (s.commanded (0x100058 + 0x1000 * l) (esGoEffect l v))

/-- EYE_SCAN_START (R282). -/
def eyeStartEffect (l : Nat) (s : State) : State := if s.laneUp l then s.scanBegin l else s
/-- EYE_SCAN_START: a requested scan takes its map slot and begins (R282). -/
def execEyeScanStart (l : Nat) (s : State) : Host.Outcome State Fault Refusal := .next (eyeStartEffect l s)

/-- R281: the entry of scan point number `k`: ERR, V and H. -/
def eyeEntry (v h k err : Nat) : Nat :=
  let cols := axisPoints 64 h
  let vv : Int := 63 - (2 ^ v * (k / cols) : Nat)
  let hh : Int := -32 + (2 ^ h * (k % cols) : Nat)
  satTo 65535 err * 65536 + codeOf 8 vv * 256 + codeOf 8 hh

/-- EYE_SCAN_POINT_DONE (R280 to R282). -/
def eyePointEffect (l err : Nat) (s : State) : State :=
  let x := s.lane l
  match x.slot with
  | none => s
  | some k =>
    if s.laneUp l && decide (x.scan = .running) then
      let s1 := (s.writeFrom (laneUnit l / 256) (eyeBase k + 4 * x.point) (leBytes 4 (eyeEntry x.vStep x.hStep x.point err))).put (R.LANE_ES_STAT_PTS_DONE l) (x.point + 1)
      if x.point + 1 = scanPoints x.vStep x.hStep then
        ((s1.setLane l ({ x with point := x.point + 1, scan := .none } : LaneSt).afterScan).put (R.LANE_ES_STAT_RESULT l) 1).raise
          (R.LANE_STAT_ES_DONE l)
      else s1.setLane l { x with point := x.point + 1 }
    else s
/-- EYE_SCAN_POINT_DONE: a scan point's entry is written to the map (R280). -/
def execEyeScanPointDone (l err : Nat) (s : State) : Host.Outcome State Fault Refusal := .next (eyePointEffect l err s)

/-- CROSS_SCAN_DUE (R283, R285). -/
def crossDueEffect (l : Nat) (s : State) : State :=
  let x := s.lane l
  if s.laneUp l && decide (x.mode = .locked) && s.on (R.LANE_MCHK_PERIOD l) && decide (x.scan = .none) && !x.cross && !x.second then
    s.setLane l { x with cross := true }
  else s
/-- CROSS_SCAN_DUE: MCHK.PERIOD elapses (R283). -/
def execCrossScanDue (l : Nat) (s : State) : Host.Outcome State Fault Refusal := .next (crossDueEffect l s)

/-- R284: a figure lies below its limit. -/
def State.marginLow (s : State) (l w h : Nat) : Bool :=
  decide (w < s.get (R.LANE_MCHK_W_MIN l)) || decide (h < s.get (R.LANE_MCHK_H_MIN l))

/-- R284, R786: the margin finding: the figures before and after the re-adaptation go to the ageing monitor. -/
def State.marginFound (l w0 h0 w h : Nat) (s : State) : State :=
  ((s.raise (R.LANE_STAT_MARGIN l)).event .age (laneUnit l) 0).lifeRecord .margin 3 (laneUnit l) (w0 * 65536 + h0) (w * 65536 + h)

/-- R284: the first scan found a low margin: re-adaptation, then the cross scan once more. -/
def State.crossAgain (l : Nat) (s : State) : State :=
  if s.get (R.LANE_CFG_ADAPT l) = 1 then (s.setLane l { s.lane l with cross := false, second := true }).startReadapt l
  else s.setLane l { s.lane l with cross := true, second := true }

/-- R283: the length of the unbroken error-free run through point `c` of an axis. -/
def eyeRun (errs : List Nat) (c : Nat) : Nat :=
  1 + ((errs.drop (c + 1)).takeWhile (fun e => decide (e = 0))).length + ((errs.take c).reverse.takeWhile (fun e => decide (e = 0))).length

/-- R283: W and H of a cross scan: the 64 points from H = -32 at V = 0, and the 127 points from V = -63 at H = 0. -/
def eyeFigures (hErrs vErrs : List Nat) : Nat × Nat :=
  if hErrs.getD 32 1 = 0 ∧ vErrs.getD 63 1 = 0 then (eyeRun hErrs 32, eyeRun vErrs 63) else (0, 0)

/-- R283, R284: a cross scan has found its figures. -/
def State.crossFigures (l w h : Nat) (s : State) : State :=
  let x := s.lane l
  let w0 := s.get (R.LANE_EYE_MON_W l)
  let h0 := s.get (R.LANE_EYE_MON_H l)
  let s1 := s.putAll [(R.LANE_EYE_MON_W l, w), (R.LANE_EYE_MON_H l, h)]
  if s1.marginLow l w h then
    if x.second then
      ((s1.setLane l { x with cross := false, second := false }).marginFound l w0 h0 w h).scanBegin l
    else (s1.crossAgain l).scanBegin l
  else (s1.setLane l { x with cross := false, second := false }).scanBegin l

/-- CROSS_SCAN_DONE (R283, R284). -/
def crossDoneEffect (l : Nat) (hErrs vErrs : List Nat) (s : State) : State :=
  if s.laneUp l && (s.lane l).cross then s.crossFigures l (eyeFigures hErrs vErrs).1 (eyeFigures hErrs vErrs).2 else s
/-- CROSS_SCAN_DONE: a cross scan completes (R284). -/
def execCrossScanDone (l : Nat) (hErrs vErrs : List Nat) (s : State) : Host.Outcome State Fault Refusal :=
  .next (crossDoneEffect l hErrs vErrs s)

/-! ## Fences (R268, R271) -/

/-- A lane is fenced: it goes to OFF; slot and map are kept. -/
def State.fenceLane (l : Nat) (s : State) : State := s.laneOff l

/-- A lane is unfenced: it restarts at CAL where it is enabled. -/
def State.unfenceLane (l : Nat) (s : State) : State :=
  s.setLane l { s.lane l with mode := if s.on (R.LANE_CTRL_EN l) then .cal else .off, win := (s.lane l).win }

end Sys2Proof.Machine
end

