-- ==== Sys2Proof/Machine/ArmRef.lean ====
section
/-! DEFINITION. The delivery of the arm reference: by firmware's REF_SLOPE write and by a loop unit (R47, R48, R69, R71). -/

namespace Sys2Proof.Machine

/-- R54: SEL_DL of the cycle in progress has passed: selection has started at the deadline, or time lies beyond it. -/
def State.dlPassed (s : State) : Bool := s.arm.running && (s.arm.selAtDl || decide (s.selDl < s.cycOfs))

/-- R47, R48: a reference is delivered. It counts for the present cycle up to SEL_DL, and for the next after it. One that comes after an
early selection start and by SEL_DL is the cycle's reference, and the plan made from the earlier one stands (DESIGN CHOICE,
notes/assumptions/63.md). -/
def State.deliverRef (r : Reference) (s : State) : State :=
  let s1 := s.put R.ARM_REF_MISS_MISS_CNT 0
  if s1.dlPassed then { s1 with arm := { s1.arm with nextRef := some r, nextAt := s.cycOfs } }
  else if s1.arm.selDone then { s1 with arm := { s1.arm with fresh := some r, freshAt := s.cycOfs, last := r, used := r } }
  else { s1 with arm := { s1.arm with fresh := some r, freshAt := s.cycOfs } }

/-- R69: the pair of REF_VAL and REF_SLOPE, in units of 1/65,536,000 V and per ns. -/
def firmwareRef (val slope : Nat) : Reference :=
  { val := signedOf 32 val * 655360, dval := signedOf 32 slope, den := 1 }

/-- REF_SLOPE_WRITE (R69, R71). -/
def refSlopeEffect (v : Nat) (s : State) : State :=
  if s.up 5 && !s.on R.ARM_CTRL_REF_SRC then
    (s.put R.ARM_REF_SLOPE_SLOPE v).deliverRef (firmwareRef (s.get R.ARM_REF_VAL_VAL) (v % 2 ^ 32))
  else s
/-- REF_SLOPE_WRITE: a write to ARM.REF_SLOPE delivers the reference (R69). -/
def execRefSlopeWrite (v : Nat) (s : State) : Host.Outcome State Fault Refusal := .next (s.commanded 0x71070 (refSlopeEffect v))

/-- R71: the reference that a loop unit's output makes. -/
def loopRef (first : Bool) (prev out : Int) (tNs : Nat) : Reference :=
  { val := out * 1000000, dval := if first then 0 else (out - prev) * 1000000, den := if first then 1 else tNs }

/-- R71: the arm glade takes a reference from a loop unit. -/
def State.takeLoopRef (o : Int) (s : State) : State :=
  let s1 := s.deliverRef (loopRef s.arm.loopFirst s.arm.loopPrev o s.tNs)
  { s1 with arm := { s1.arm with loopFirst := false, loopPrev := o } }

/-- R22, R71, R317: a completed sample of loop unit k delivers the reference when the arm takes it from there. -/
def State.loopDeliver (k out : Nat) (s : State) : State :=
  if s.up 5 && s.on R.ARM_CTRL_REF_SRC && decide (s.get R.ARM_CTRL_REF_LOOP = k) then s.overLink 8 5 (State.takeLoopRef (signedOf 32 out)) else s

end Sys2Proof.Machine
end

