-- ==== Sys2Proof/Machine/Loops.lean ====
section
/-! DEFINITION. Loop units: triggers, the control law, ramps, enable and the integrator registers (R307 to R347). -/

namespace Sys2Proof.Machine

/-- One loop unit. -/
def State.loop (s : State) (k : Nat) : LoopSt := tget {} s.loops k
/-- A loop unit replaced. -/
def State.setLoop (k : Nat) (x : LoopSt) (s : State) : State := { s with loops := tset {} s.loops k x }

/-- The unit exists in the variant and neither it nor its glade is fenced. -/
def State.loopUp (s : State) (k : Nat) : Bool := decide (k < s.variant.loops) && s.unitUp (loopUnit k)

/-- The unit exists and its glade runs: its block takes writes, fenced or not (notes/assumptions/50.md). -/
def State.loopHere (s : State) (k : Nat) : Bool := decide (k < s.variant.loops) && s.up 8

/-- R313: U_STAT.NOTRIG follows its condition. -/
def State.loopCond (k : Nat) (s : State) : State :=
  s.cond (R.U_STAT_NOTRIG k) (s.on (R.U_CTRL_EN k) && decide (s.get (R.U_TRIG_SRC k) = 1)
    && decide (s.get R.ARM_CYC_LEN_LEN ≤ s.get (R.U_TRIG_PH k)))

/-- R313: the condition of every unit, after a write to CYC_LEN. -/
def State.loopConds (s : State) : State := forAll (List.range s.variant.loops) State.loopCond s

/-! ## Triggers (R312, R313, R315, R316) -/

/-- R321: what a sample of unit k takes at a trigger edge now. -/
def State.loopSnap (s : State) (k : Nat) : LoopSnap :=
  { y := s.get (R.U_MEAS_Y k), kp := s.get (R.U_KP_GAIN k), ki := s.get (R.U_KI_GAIN k), kd := s.get (R.U_KD_GAIN k), ff := s.get (R.U_FF_FF k)
    sp := s.get (R.U_SP_SP k), rate := s.get (R.U_RATE_RATE k), pend := (s.loop k).rampPend, ramping := (s.loop k).ramping
    cfg := s.fieldsWord (R.unitFields k) (R.U_CFG_EVT k).addr, optag := s.fieldsWord (R.unitFields k) (R.U_OPTAG_TAG k).addr
    news := (s.loop k).news }

/-- The trigger edge of a unit: the sample takes its values and waits (notes/assumptions/48.md). -/
def State.loopLatch (k : Nat) (s : State) : State :=
  s.setLoop k { s.loop k with waiting := true, snap := s.loopSnap k, edgeAt := some s.elapsed, rampPend := false, news := [] }

/-- R321: what is written, or arrives, on the trigger edge of the sample that waits is used by it. -/
def State.loopAgain (k : Nat) (s : State) : State :=
  let x := s.loop k
  if x.waiting ∧ x.edgeAt = some s.elapsed then
    s.setLoop k { x with snap := { s.loopSnap k with pend := x.snap.pend || x.rampPend, news := x.snap.news ++ x.news }, rampPend := false, news := [] }
  else s

/-- R315: a trigger edge at a unit: a sample that still waits or runs drops it. -/
def State.loopEdge (k : Nat) (s : State) : State :=
  if (s.loop k).waiting then (s.raise (R.U_STAT_OVERRUN k)).addTo (R.U_SCNT_OVR k) 1 else s.loopLatch k

/-- R313, R315: a phase trigger: DIV of them lie between two samples, a dropped one not counted. -/
def State.loopPhase (k : Nat) (s : State) : State :=
  let x := s.loop k
  if x.waiting then s.loopEdge k
  else if x.phase ≠ 0 then s.setLoop k { x with phase := x.phase - 1 }
  else (s.setLoop k { x with phase := s.get (R.U_TRIG_DIV k) }).loopEdge k

/-- R320, R321: a trigger edge at a unit that is enabled, or whose EN goes to 0 on this very edge. Elsewhere it is ignored, unless EN goes to
1 on this edge. -/
def State.loopTrig (k : Nat) (s : State) : State :=
  let x := s.loop k
  if s.on (R.U_CTRL_EN k) || decide (x.offAt = some s.elapsed) then
    if s.get (R.U_TRIG_SRC k) = 1 then s.loopPhase k else s.loopEdge k
  else s.setLoop k { x with missed := some s.elapsed }

/-- LOOP_TRIGGER (R312, R313, R315): the trigger of a flag that has been posted, or the phase trigger of the running cycle, to whose
instant device time comes. -/
def loopTriggerEffect (k : Nat) (s : State) : State :=
  let x := s.loop k
  let src := s.get (R.U_TRIG_SRC k)
  let ph := s.get (R.U_TRIG_PH k)
  if s.loopUp k then
    if src = 2 then
      match x.trigs with
      | 0 => s
      | n + 1 => (s.setLoop k { x with trigs := n }).loopTrig k
    else if src = 1 ∧ ph < s.get R.ARM_CYC_LEN_LEN ∧ s.phaseDue x.trigCyc ph = true then
      ((s.reachOfs (el (10 * ph))).setLoop k { x with trigCyc := some (s.arm.cycNo, ph) }).loopTrig k
    else s
  else s
/-- LOOP_TRIGGER: a phase trigger or an event flag reaches a loop unit (R312). -/
def execLoopTrigger (k : Nat) (s : State) : Host.Outcome State Fault Refusal := .next (loopTriggerEffect k s)

/-! ## The law (R309 to R311, R317, R318) -/

/-- R318: what the ramp step leaves: working set-point, previous measurement, ramping, and RAMP_DONE set. -/
structure RampOut where
  spw   : Int
  yPrev : Int
  ramping : Bool
  done  : Bool
deriving DecidableEq, Repr

/-- R318: the ramp step. -/
def rampStep (pend ramping : Bool) (sp spw y yPrev rate : Int) : RampOut :=
  if pend then ⟨y, y, decide (y ≠ sp), false⟩
  else if ramping then
    if (sp - spw).natAbs ≤ rate.natAbs then ⟨sp, yPrev, false, true⟩
    else ⟨if sp < spw then spw - rate else spw + rate, yPrev, true, false⟩
  else ⟨sp, yPrev, false, false⟩

/-- R309: the result of one sample: integrator, output, the integrator's step, and the two wraps. -/
structure LawOut where
  int : Nat
  out : Nat
  di  : Int
  iw  : Bool
  ow  : Bool
deriving DecidableEq, Repr

/-- R309: the control law on exact numbers. -/
def loopLaw (kp ki kd ff spw y yPrev int : Int) : LawOut :=
  let e := spw - y
  let di := ki * e / 2 ^ 24
  let x := int + di
  let n := codeOf 48 x
  let o := kp * e / 2 ^ 24 + signedOf 48 n + kd * (yPrev - y) / 2 ^ 24 + ff
  { int := n, out := codeOf 32 o, di := di
    iw := decide (x < -2 ^ 47 ∨ 2 ^ 47 - 1 < x), ow := decide (o < -2 ^ 31 ∨ 2 ^ 31 - 1 < o) }

/-- R320: a one-bit field of U_CFG as a sample took it. -/
def LoopSnap.holds (p : LoopSnap) (F : Field) : Bool := bitOf p.cfg F.lo

/-- R310, R311: wraps counted, and reported where the unit is no phase unit. -/
def State.loopReport (k : Nat) (iw ow : Bool) (s : State) : State :=
  let s1 := (s.addTo (R.U_WRAPCNT_INT k) (b2n iw)).addTo (R.U_WRAPCNT_OUT k) (b2n ow)
  if (s.loop k).snap.holds (R.U_CFG_PHASE k) then s1
  else
    let s2 := (s1.flagIf iw (R.U_STAT_INT_WRAP k)).flagIf ow (R.U_STAT_OUT_WRAP k)
    if iw || ow then s2.event .loop (loopUnit k) 0 else s2

/-- R317: the deliveries of a completed sample. -/
def State.loopOutput (k out : Nat) (s : State) : State :=
  let s1 := (s.put (R.U_OUT_OUT k) out).addTo (R.U_SCNT_SAMPLES k) 1
  let p := (s.loop k).snap
  let s2 := if p.holds (R.U_CFG_POST_OP k) then
      s1.postOperandFrom 8 (bits p.optag (R.U_OPTAG_TAG k).lo (R.U_OPTAG_TAG k).w) (bits p.optag (R.U_OPTAG_OPIDX k).lo (R.U_OPTAG_OPIDX k).w) out
    else s1
  let s3 := if p.holds (R.U_CFG_POST_EVT k) then s2.postFlagFrom 8 (bits p.cfg (R.U_CFG_EVT k).lo (R.U_CFG_EVT k).w) else s2
  s3.loopDeliver k out

/-- R314: the datapath takes waiting units in ascending order. -/
def State.loopTurn (s : State) (k : Nat) : Bool := (List.range k).all (fun j => !(s.loopUp j && (s.loop j).waiting))

/-- R316: the sample holds a value that its channel had brought before the previous one. -/
def LoopSnap.stale (p : LoopSnap) (k : Nat) : Bool :=
  decide (bits p.cfg (R.U_CFG_IN_SEL k).lo (R.U_CFG_IN_SEL k).w = 1)
    && !p.news.contains (bits p.cfg (R.U_CFG_SV_CH k).lo (R.U_CFG_SV_CH k).w)

/-- R314: device time comes to the end of the sample, 10 ns after its trigger edge at the earliest. -/
def State.sampleTime (k : Nat) (s : State) : State :=
  match (s.loop k).edgeAt with
  | some t => s.pass (t + el 10)
  | none => s

/-- One sample of unit k is computed and delivered (R309). -/
def State.loopCompute (k : Nat) (s : State) : State :=
  let x := s.loop k
  let p := x.snap
  let y := signedOf 32 p.y
  let r := rampStep p.pend p.ramping (signedOf 32 p.sp) (s.getS (R.U_SPW_SPW k)) y (s.getS (R.U_Y_PREV_Y k)) (p.rate : Nat)
  let w := loopLaw (signedOf 32 p.kp) (signedOf 32 p.ki) (signedOf 32 p.kd) (signedOf 32 p.ff) r.spw y r.yPrev (signedOf 48 x.int)
  let s1 := s.setLoop k { x with int := w.int, waiting := false, ramping := r.ramping && !p.step, di := some (s.elapsed, w.di) }
  let s2 := ((s1.putS (R.U_SPW_SPW k) r.spw).put (R.U_Y_PREV_Y k) p.y).flagIf r.done (R.U_STAT_RAMP_DONE k)
  ((s2.flagIf (p.stale k) (R.U_STAT_STALE k)).loopReport k w.iw w.ow).loopOutput k w.out

/-- LOOP_SAMPLE (R309, R314). -/
def loopSampleEffect (k : Nat) (s : State) : State :=
  if s.loopUp k && (s.loop k).waiting && s.loopTurn k then (s.sampleTime k).loopCompute k else s
/-- LOOP_SAMPLE: the datapath computes one sample (R309). -/
def execLoopSample (k : Nat) (s : State) : Host.Outcome State Fault Refusal := .next (loopSampleEffect k s)

/-! ## Enable, set-point, integrator (R318 to R320) -/

/-- R312: a trigger by event flag is still on its way to the unit, at most 30 ns after its post. -/
def LoopSt.onWay (x : LoopSt) (now : Nat) : Bool := match x.trigAt with | some t => decide (now ≤ t + el 30) | none => false

/-- LOOP_ENABLE (R318, R321): ALL_OFF on the same edge governs, and a trigger edge on it finds the unit enabled. -/
def loopEnableEffect (k : Nat) (s : State) : State :=
  let x := s.loop k
  if s.loopUp k && !s.on (R.U_CTRL_EN k) && !decide (x.allAt = some s.elapsed) then
    let s1 := ((s.put (R.U_CTRL_EN k) 1).setLoop k
      { x with rampPend := true, phase := 0, trigs := if x.onWay s.elapsed then x.trigs else 0, missed := none }).loopCond k
    if x.missed = some s.elapsed then s1.loopTrig k else s1
  else s
/-- LOOP_ENABLE: U_CTRL.EN goes to 1 (R318). -/
def execLoopEnable (k : Nat) (s : State) : Host.Outcome State Fault Refusal := .next (s.commanded (R.U_CTRL_EN k).addr (loopEnableEffect k))

/-- R320: EN of a unit goes to 0. -/
def State.loopOff (k : Nat) (s : State) : State :=
  ((s.put (R.U_CTRL_EN k) 0).setLoop k { s.loop k with offAt := if s.on (R.U_CTRL_EN k) then some s.elapsed else (s.loop k).offAt }).loopCond k

/-- LOOP_DISABLE (R320): a waiting sample still completes. -/
def loopDisableEffect (k : Nat) (s : State) : State :=
  if s.loopHere k then s.loopOff k else s
/-- LOOP_DISABLE: U_CTRL.EN goes to 0 (R320). -/
def execLoopDisable (k : Nat) (s : State) : Host.Outcome State Fault Refusal := .next (s.commanded (R.U_CTRL_EN k).addr (loopDisableEffect k))

/-- U_SP_WRITE (R318). -/
def uSpEffect (k v : Nat) (s : State) : State :=
  if s.loopHere k then
    let s1 := s.put (R.U_SP_SP k) v
    (if s.on (R.U_CTRL_SP_MODE k) then s1.setLoop k { s.loop k with rampPend := true }
     else s1.setLoop k { s.loop k with ramping := false, snap := { (s.loop k).snap with step := true } }).loopAgain k
  else s
/-- U_SP_WRITE: a write to U_SP (R318). -/
def execUSpWrite (k v : Nat) (s : State) : Host.Outcome State Fault Refusal := .next (s.commanded (R.U_SP_SP k).addr (uSpEffect k v))

/-- R321: the integrator after a load: a sample that has written it on this very edge still adds its di. -/
def LoopSt.loaded (x : LoopSt) (now v : Nat) : Nat :=
  match x.di with
  | some (t, d) => if t = now then codeOf 48 (v + d) else v
  | none => v

/-- U_INT_HI_WRITE (R319). -/
def uIntHiEffect (k v : Nat) (s : State) : State :=
  if s.loopHere k then
    s.setLoop k { s.loop k with int := (s.loop k).loaded s.elapsed (v % 2 ^ 16 * 2 ^ 32 + (s.loop k).stage) }
  else s
/-- U_INT_HI_WRITE: a write to U_INT_HI loads the integrator (R319). -/
def execUIntHiWrite (k v : Nat) (s : State) : Host.Outcome State Fault Refusal := .next (s.commanded (R.U_INT_HI_INT k).addr (uIntHiEffect k v))

/-- The words that a read returned. -/
def State.readData (l : List Nat) (s : State) : State := { s with host := { s.host with rdata := l, readErr := false } }

/-- U_INT_LO_READ (R319). -/
def uIntLoEffect (k : Nat) (s : State) : State :=
  if s.loopHere k then
    (s.setLoop k { s.loop k with latch := (s.loop k).int / 2 ^ 32 }).readData [(s.loop k).int % 2 ^ 32]
  else s

/-- LOOP_ALL_OFF (R320). -/
def loopAllOffEffect (page : Nat) (s : State) : State :=
  if s.up 8 && decide (page < 2) && decide (16 * page < s.variant.loops) then
    forAll (List.range 16) (fun j a =>
      let b := a.loopOff (16 * page + j)
      b.setLoop (16 * page + j) { b.loop (16 * page + j) with allAt := some s.elapsed }) s
  else s
/-- LOOP_ALL_OFF: LOOP.CTRL.ALL_OFF (R320). -/
def execLoopAllOff (page : Nat) (s : State) : Host.Outcome State Fault Refusal :=
  .next (s.commanded (0x80008 + 0x1000 * page) (loopAllOffEffect page))

/-- R320: a fenced unit is disabled, and a waiting sample is discarded. -/
def State.fenceLoop (k : Nat) (s : State) : State :=
  ((s.put (R.U_CTRL_EN k) 0).setLoop k { s.loop k with waiting := false }).loopCond k

/-- R316: a sampled value reaches the units that read its channel, and is new to every unit, whose channel may change before it samples. -/
def State.svToLoops (ch v : Nat) (s : State) : State :=
  forAll (List.range s.variant.loops) (fun k a =>
    if a.up 8 then
      let b := if a.get (R.U_CFG_IN_SEL k) = 1 ∧ a.get (R.U_CFG_SV_CH k) = ch then a.put (R.U_MEAS_Y k) v else a
      (b.setLoop k { b.loop k with news := addKey ch (b.loop k).news }).loopAgain k
    else a) s

end Sys2Proof.Machine
end

