-- ==== Sys2Proof/Machine/Pwm.lean ====
section
/-! DEFINITION. PWM channels: periods, turn-off, sync pulses, exclusion pairs, driver faults and the hold latch (R348 to
R386). An effect that a rule places on the next tick is applied within the step (notes/assumptions/12.md). -/

namespace Sys2Proof.Machine

/-! ## Access -/

/-- One channel. -/
def State.ch (s : State) (c : Nat) : ChSt := tget {} s.pwm.chs c
/-- A channel replaced. -/
def State.setCh (c : Nat) (x : ChSt) (s : State) : State := { s with pwm := { s.pwm with chs := tset {} s.pwm.chs c x } }

/-- The channel exists and neither it nor its glade is fenced. -/
def State.chUp (s : State) (c : Nat) : Bool := decide (c < 16) && s.unitUp (chUnit c)
/-- The channel exists and its glade runs: its block takes writes, fenced or not (notes/assumptions/50.md). -/
def State.chHere (s : State) (c : Nat) : Bool := decide (c < 16) && s.up 9
/-- The channel runs. -/
def State.chRuns (s : State) (c : Nat) : Bool := s.chUp c && s.on (R.CH_CTRL_EN c)
/-- R356: pair p is enabled. -/
def State.pairOn (s : State) (p : Nat) : Bool := bitOf (s.get R.PWM_XPAIR_PAIR_EN) p
/-- The other channel of a pair. -/
def partner (c : Nat) : Nat := if c % 2 = 0 then c + 1 else c - 1
/-- R363: the safe level of a pin. -/
def State.safeLvl (s : State) (c : Nat) : Bool := bitOf (s.get R.PWM_SAFE_LVL_LVL) c

/-- R350, R351: the tick of the turn-off, none where the period has none. -/
def chTurnOff (mode per cmp : Nat) : Option Nat :=
  if per ≤ cmp then none
  else if mode = 0 then some cmp
  else if cmp = 0 then none else some (per - cmp)

/-- R350: the level at counter value k. -/
def chLevel (mode per cmp k : Nat) : Bool :=
  match chTurnOff mode per cmp with
  | none => true
  | some t => decide (k < t)

/-- The level that the channel's registers give at counter value k. -/
def State.chLevelAt (s : State) (c k : Nat) : Bool := chLevel (s.get (R.CH_CFG_MODE c)) (s.get (R.CH_PER_PER c)) (s.get (R.CH_CMP_CMP c)) k

/-! ## Pins (R356, R357, R358, R362) -/

/-- R358: a pin takes a level: blanking starts at a rise, and a fall is timed. -/
def State.setPin (c : Nat) (b : Bool) (s : State) : State :=
  let x := s.ch c
  if x.out = b then s
  else if b then s.setCh c { x with out := true, blanking := s.on (R.CH_PROT_BLANK c) }
  else s.setCh c { x with out := false, lowAt := s.elapsed, everHigh := true, blanking := false, fellBlank := x.blanking }

/-- R366: the pin has fallen on the tick in progress. -/
def State.fellNow (s : State) (c : Nat) : Bool := !(s.ch c).out && (s.ch c).everHigh && decide ((s.ch c).lowAt = s.elapsed)

/-- R362, second row: what keeps the pin low whatever its command. -/
def State.pinLow (s : State) (c : Nat) : Bool :=
  let x := s.ch c
  !(s.chRuns c) || x.fltLat || x.supLow || x.waitPer

/-- R356: the XDEAD time after the partner's fall still runs, or the partner is high. -/
def State.pinWaits (s : State) (c : Nat) : Bool :=
  let y := s.ch (partner c)
  s.pairOn (c / 2) && (y.out || y.everHigh && decide (s.elapsed < y.lowAt + el (2 * s.get R.PWM_XPAIR_XDEAD)))

/-- R362: what the channel asks for, before the pair's wait. -/
def State.pinWants (s : State) (c : Nat) : Bool :=
  let x := s.ch c
  if s.pwm.held then s.safeLvl c && !x.heldLow else x.cmd && !s.pinLow c && !(x.xhold && s.pairOn (c / 2))

/-- A pin that must go low goes low. -/
def State.pinFall (c : Nat) (s : State) : State := if s.pinWants c then s else (s.setPin c false).setCh c { (s.setPin c false).ch c with xwait := false }

/-- A pin that may go high goes high, or waits. -/
def State.pinRise (c : Nat) (s : State) : State :=
  if s.pinWants c then
    if s.pwm.held || (s.ch c).out then s.setPin c true
    else if s.pinWaits c then s.setCh c { s.ch c with xwait := true }
    else ((s.setCh c { s.ch c with xwait := false })).setPin c true
  else s

/-- R357: both commands of an enabled pair are 1, or no longer. -/
def State.pairHold (p : Nat) (s : State) : State :=
  let a := 2 * p
  let b := 2 * p + 1
  if s.pairOn p && (s.ch a).cmd && (s.ch b).cmd then
    if (s.ch a).xhold && (s.ch b).xhold then s
    else
      let s1 := ((s.setCh a { s.ch a with xhold := true }).setCh b { s.ch b with xhold := true })
      let s2 := (s1.raise (R.CH_STAT_XBLOCK a)).raise (R.CH_STAT_XBLOCK b)
      let k : HoldBack := { at_ := s.elapsed, pair := p, bits := s1.bitsBack [R.CH_STAT_XBLOCK a, R.CH_STAT_XBLOCK b] s2 }
      let s3 : State := { s2 with pwm := { s2.pwm with holds := k :: s2.pwm.holds.filter (fun h => decide (h.at_ = s.elapsed)) } }
      ((s3.addTo (R.CH_FCNT_XBLOCK a) 1).addTo (R.CH_FCNT_XBLOCK b) 1).event .intlk (chUnit a) 0
  else (s.setCh a { s.ch a with xhold := false }).setCh b { s.ch b with xhold := false }

/-- R366: one pair hold is taken back. -/
def State.unhold (h : HoldBack) (s : State) : State :=
  let a := 2 * h.pair
  let b := 2 * h.pair + 1
  let s1 := (s.setCh a { s.ch a with xhold := false }).setCh b { s.ch b with xhold := false }
  let s2 := ((s1.unraise h.bits).addTo (R.CH_FCNT_XBLOCK a) (2 ^ (R.CH_FCNT_XBLOCK a).w - 1)).addTo (R.CH_FCNT_XBLOCK b) (2 ^ (R.CH_FCNT_XBLOCK b).w - 1)
  let s3 : State := { s2 with pwm := { s2.pwm with holds := s2.pwm.holds.filter (fun x => decide (x ≠ h)) } }
  s3.unpost { cls := .intlk, unit := chUnit a, aux := 0 }

/-- R366: the pair holds made on this very tick. -/
def State.holdsNow (s : State) : List HoldBack := s.pwm.holds.filter (fun h => decide (h.at_ = s.elapsed))

/-- R366: a command of a pair drops on the tick on which the other has risen: the two were not both 1. -/
def State.dropHold (p : Nat) (s : State) : State :=
  if (s.ch (2 * p)).cmd && (s.ch (2 * p + 1)).cmd then s else (s.holdsNow.filter (fun h => decide (h.pair = p))).foldl (fun a h => a.unhold h) s

/-- R357: a pin of a pair whose two commands have come to 1 on this tick: a pin that is high falls on the next one, unless something else
takes it low now. -/
def State.pinHolds (c : Nat) (s : State) : State := if (s.ch c).out && !s.pwm.held && !s.pinLow c then s else s.pinFall c

/-- R357: both commands of pair p have come to 1 on the tick in progress. -/
def State.holdsFresh (s : State) (p : Nat) : Bool :=
  s.pairOn p && (s.ch (2 * p)).cmd && (s.ch (2 * p + 1)).cmd
    && (!((s.ch (2 * p)).xhold && (s.ch (2 * p + 1)).xhold) || s.holdsNow.any (fun h => decide (h.pair = p)))

/-- R356, R357, R362: the two pins of pair p follow their conditions, falls first. -/
def State.pairUpdate (p : Nat) (s : State) : State :=
  let fall (c : Nat) (a : State) : State := if s.holdsFresh p then a.pinHolds c else a.pinFall c
  ((fall (2 * p + 1) (fall (2 * p) ((s.dropHold p).pairHold p))).pinRise (2 * p)).pinRise (2 * p + 1)

/-- Every pin follows its conditions. -/
def State.pinsUpdate (s : State) : State := forAll (List.range 8) State.pairUpdate s

/-! ## Periods (R349 to R355) -/

/-- R354: a sync pulse leaves channel c. -/
def State.sendSync (c : Nat) (s : State) : State :=
  if c < 15 then s.setCh (c + 1) { s.ch (c + 1) with pulse := true }
  else { s with pwm := { s.pwm with syncOut := s.pwm.syncOut + 1 } }

/-- R354: the pulse that a channel's period start has sent on this tick is taken back. -/
def State.unsendSync (c : Nat) (was : Bool) (s : State) : State :=
  if c < 15 then s.setCh (c + 1) { s.ch (c + 1) with pulse := was }
  else { s with pwm := { s.pwm with syncOut := s.pwm.syncOut - 1 } }

/-- R366: channel c has started a period on this very tick. -/
def State.perNow (s : State) (c : Nat) : Option Bool :=
  match (s.ch c).perAt with
  | some (t, was) => if t = s.elapsed then some was else none
  | none => none

/-- A period starts, without the pins (R349, R350, R354). On one tick a channel starts one period (R366). -/
def State.periodBegin (c : Nat) (s : State) : State :=
  let x := s.ch c
  match s.perNow c with
  | some _ => s.setCh c { x with cnt := 0, cmd := s.chLevelAt c 0, dropped := false, waitPer := false }
  | none =>
    let s1 := s.setCh c { x with
      cnt := 0, cmd := s.chLevelAt c 0, dropped := false, waitPer := false, perNo := x.perNo + 1
      perAt := some (s.elapsed, decide (c < 15) && (s.ch (c + 1)).pulse) }
    (s1.addTo (R.CH_PCNT_PERIODS c) 1).sendSync c

/-- R366: the counter's own wrap on the tick of a sync load above 0: one period start, and the load governs the counter. -/
def State.periodLoaded (c : Nat) (s : State) : State :=
  (s.setCh c { s.ch c with waitPer := false, perNo := (s.ch c).perNo + 1, loadAt := none }).addTo (R.CH_PCNT_PERIODS c) 1

/-- A period starts (R349). -/
def State.periodStart (c : Nat) (s : State) : State := (s.periodBegin c).pairUpdate (c / 2)

/-- PWM_PERIOD_START (R349, R366). -/
def periodStartEffect (c : Nat) (s : State) : State :=
  if s.chRuns c then
    if (s.ch c).loadAt = some s.elapsed then (s.periodLoaded c).pairUpdate (c / 2) else s.periodStart c
  else s
/-- PWM_PERIOD_START: the counter reaches 0 (R349). -/
def execPwmPeriodStart (c : Nat) (s : State) : Host.Outcome State Fault Refusal := .next (periodStartEffect c s)

/-- The command goes to 0 at counter value k (R350). -/
def State.turnOff (c k : Nat) (s : State) : State :=
  (s.setCh c { s.ch c with cnt := k, cmd := false, dropped := (s.ch c).cmd }).pairUpdate (c / 2)

/-- PWM_TURN_OFF (R350): the counter reaches the turn-off point that the registers give. -/
def turnOffEffect (c : Nat) (s : State) : State :=
  match chTurnOff (s.get (R.CH_CFG_MODE c)) (s.get (R.CH_PER_PER c)) (s.get (R.CH_CMP_CMP c)) with
  | none => s
  | some t => if s.chRuns c then s.turnOff c t else s
/-- PWM_TURN_OFF: the output turns off (R350). -/
def execPwmTurnOff (c : Nat) (s : State) : Host.Outcome State Fault Refusal := .next (turnOffEffect c s)

/-- R352, R366: what a changed PER or CMP does at once: on the tick of a period start it applies to the period that begins there, and on
the tick of the old turn-off it decides the turn-off. On any other tick it acts from the next tick on. -/
def State.chRewrite (c : Nat) (s : State) : State :=
  let x := s.ch c
  if s.chRuns c then
    if x.cnt = 0 then (s.setCh c { x with cmd := s.chLevelAt c 0 }).pairUpdate (c / 2)
    else if x.dropped && s.chLevelAt c x.cnt then (s.setCh c { x with cmd := true, dropped := false }).pairUpdate (c / 2)
    else s
  else s

/-- R353: the split check of a write to one of the two registers. -/
def State.splitCheck (c : Nat) (r : SplitReg) (s : State) : State :=
  let x := s.ch c
  let win := el (100 * s.get (R.CH_CFG_PAIR_WIN c))
  let other := match x.wrReg with | none => false | some q => decide (q ≠ r)
  let split := decide (0 < win) && other && decide (s.elapsed ≤ x.wrAt + win) && decide (x.wrPer < x.perNo)
  (s.setCh c { x with wrReg := some r, wrAt := s.elapsed, wrPer := x.perNo }).flagIf split (R.CH_STAT_SPLIT c)

/-- CH_PER_WRITE (R352, R353, R380). -/
def chPerEffect (c v : Nat) (s : State) : State :=
  if s.chHere c then
    if v % 2 ^ 20 < 4 then s.config (R.CH_PER_PER c).addr
    else ((s.splitCheck c .per).put (R.CH_PER_PER c) v).chRewrite c
  else s
/-- CH_PER_WRITE: a write to CH_PER (R352). -/
def execChPerWrite (c v : Nat) (s : State) : Host.Outcome State Fault Refusal := .next (s.commanded (R.CH_PER_PER c).addr (chPerEffect c v))

/-- CH_CMP_WRITE (R352, R353). -/
def chCmpEffect (c v : Nat) (s : State) : State :=
  if s.chHere c then ((s.splitCheck c .cmp).put (R.CH_CMP_CMP c) v).chRewrite c else s
/-- CH_CMP_WRITE: a write to CH_CMP (R352). -/
def execChCmpWrite (c v : Nat) (s : State) : Host.Outcome State Fault Refusal := .next (s.commanded (R.CH_CMP_CMP c).addr (chCmpEffect c v))

/-- PWM_ENABLE (R377). -/
def pwmEnableEffect (c : Nat) (s : State) : State :=
  if s.chUp c && !s.on (R.CH_CTRL_EN c) then (s.put (R.CH_CTRL_EN c) 1).periodStart c else s
/-- PWM_ENABLE: CH_CTRL.EN goes to 1 (R377). -/
def execPwmEnable (c : Nat) (s : State) : Host.Outcome State Fault Refusal := .next (s.commanded (R.CH_CTRL_EN c).addr (pwmEnableEffect c))

/-- R362: channel c is disabled: its command and its pin go low. -/
def State.chOff (c : Nat) (s : State) : State :=
  let s1 := s.put (R.CH_CTRL_EN c) 0
  (s1.setCh c { s1.ch c with cmd := false, waitPer := false }).pairUpdate (c / 2)

/-- R355, R366: a sync pulse at a channel, without the pins. A load at or above PER lets the next tick start the period. On the tick of a
period start a load above 0 governs: the counter does not take 0, and no pulse leaves. -/
def State.syncLoad (c : Nat) (s : State) : State :=
  let ph := s.get (R.CH_SYNC_PH_PH c)
  let s1 := s.setCh c { s.ch c with pulse := false }
  if s.chRuns c && s.on (R.CH_CFG_SYNC_EN c) then
    if ph = 0 then s1.periodBegin c
    else
      let s2 := match s1.perNow c with
        | some was => (s1.setCh c { s1.ch c with perAt := none }).unsendSync c was
        | none => s1.setCh c { s1.ch c with loadAt := some s1.elapsed }
      if s.get (R.CH_PER_PER c) ≤ ph then s2.setCh c { s2.ch c with cnt := ph, dropped := false }
      else s2.setCh c { s2.ch c with cnt := ph, cmd := s.chLevelAt c ph, dropped := false }
  else s1

/-- SYNC_PULSE (R355). -/
def syncPulseEffect (c : Nat) (s : State) : State := if s.chHere c then (s.syncLoad c).pairUpdate (c / 2) else s
/-- SYNC_PULSE: a sync pulse arrives at a channel (R355). -/
def execSyncPulse (c : Nat) (s : State) : Host.Outcome State Fault Refusal := .next (syncPulseEffect c s)

/-- SYNC_IN_EDGE (R354). -/
def syncInEffect (s : State) : State := if s.up 9 then s.setCh 0 { s.ch 0 with pulse := true } else s
/-- SYNC_IN_EDGE: a rising edge at SYNC_IN (R354). -/
def execSyncInEdge (s : State) : Host.Outcome State Fault Refusal := .next (syncInEffect s)

/-- XDEAD_WAIT_END (R356): time comes to the end of the wait. -/
def xdeadEffect (c : Nat) (s : State) : State :=
  if s.chHere c && (s.ch c).xwait then
    (s.pass ((s.ch (partner c)).lowAt + el (2 * s.get R.PWM_XPAIR_XDEAD))).pairUpdate (c / 2)
  else s
/-- XDEAD_WAIT_END: an exclusion pair's wait ends (R356). -/
def execXdeadWaitEnd (c : Nat) (s : State) : Host.Outcome State Fault Refusal := .next (xdeadEffect c s)

/-! ## Driver faults and gate supply (R358 to R361) -/

/-- R360: both faults of an enabled pair are latched. -/
def State.pairFault (s : State) (c : Nat) : Bool := s.pairOn (c / 2) && (s.ch c).fltLat && (s.ch (partner c)).fltLat

/-- R358, R360: a fault of channel c is confirmed. -/
def State.confirmFault (c : Nat) (s : State) : State :=
  let s1 := ((s.setCh c { s.ch c with fltLat := true }).raise (R.CH_STAT_DESAT c)).addTo (R.CH_FCNT_DESAT c) 1
  let s2 := (s1.eventOpen .sc (chUnit c) 0).pairUpdate (c / 2)
  if s2.pairFault c then
    ((s2.raise (R.CH_STAT_PAIRFLT c)).raise (R.CH_STAT_PAIRFLT (partner c))).eventFence .sc (chUnit (c / 2 * 2))
  else s2

/-- R363: a pin held at safe level 1 goes low until the latch releases. -/
def State.heldDrop (c : Nat) (s : State) : State :=
  if s.pwm.held then s.setCh c { s.ch c with heldLow := true } else s

/-- R363: the latch, which the backup oscillator clocks, takes a held pin low though the glade has stopped. -/
def State.latchDrop (c : Nat) (x : ChSt) (s : State) : State :=
  if s.pwm.held then ((s.setCh c x).heldDrop c).pairUpdate (c / 2) else s

/-- R359, R384: the level of GD_FLT_N now. No command says when it has been released, so an assertion may have ended: a free value. -/
def State.fltPin (s : State) (c k : Nat) : Bool := (s.ch c).fltIn && bitOf (Config.freeValue 1 (s.free + k)).toNat 0

/-- GD_FLT_ASSERT (R358, R363, R366): a pin that EN = 0 has taken low on this same tick counts as high. -/
def gdFltEffect (c : Nat) (s : State) : State :=
  if s.chHere c then
    let x := s.ch c
    let s1 := (s.setCh c { x with fltIn := true }).heldDrop c
    if x.out && !x.blanking || s.fellNow c && !x.fellBlank && !s.on (R.CH_CTRL_EN c) then s1.confirmFault c else s1.pairUpdate (c / 2)
  else if c < 16 then s.latchDrop c { s.ch c with fltIn := true }
  else s
/-- GD_FLT_ASSERT: GD_FLT_N of a channel asserts (R358). -/
def execGdFltAssert (c : Nat) (s : State) : Host.Outcome State Fault Refusal := .next (gdFltEffect c s)

/-- BLANK_END (R358, R366): the sample is taken though the pin has fallen on this same tick. -/
def blankEndEffect (c : Nat) (asserted : Bool) (s : State) : State :=
  let x := s.ch c
  let fell := s.fellNow c && x.fellBlank
  if s.chHere c && (x.blanking || fell) then
    let s1 := s.setCh c { x with blanking := false, fellBlank := false, fltIn := asserted }
    if asserted && (x.out || fell) then (s1.heldDrop c).confirmFault c else s1
  else s
/-- BLANK_END: blanking ends and GD_FLT_N is sampled once (R358). -/
def execBlankEnd (c : Nat) (asserted : Bool) (s : State) : Host.Outcome State Fault Refusal := .next (blankEndEffect c asserted s)

/-- FLT_CLR (R359). -/
def fltClrEffect (c : Nat) (asserted : Bool) (s : State) : State :=
  if s.chHere c then
    let x := s.ch c
    if !asserted && x.fltLat then (s.setCh c { x with fltIn := false, fltLat := false, waitPer := s.on (R.CH_CTRL_EN c) }).pairUpdate (c / 2)
    else s.setCh c { x with fltIn := asserted }
  else s
/-- FLT_CLR: CH_CTRL.FLT_CLR is written with GD_FLT_N at a level (R359). -/
def execFltClr (c : Nat) (asserted : Bool) (s : State) : Host.Outcome State Fault Refusal :=
  .next (s.commanded (R.CH_CTRL_EN c).addr (fltClrEffect c asserted))

/-- GS_LOW (R361). -/
def gsLowEffect (c : Nat) (s : State) : State :=
  if s.chHere c && !(s.ch c).supLow then
    let s1 := ((s.setCh c { s.ch c with gs := false, supLow := true }).heldDrop c).pairUpdate (c / 2)
    (s1.eventOpen .gdrv (chUnit c) 0).cond (R.CH_STAT_UV c) true
  else if c < 16 ∧ s.chHere c = false then
    let s1 := s.latchDrop c { s.ch c with gs := false, supLow := true }
    if (s.glade 9).gated then s1.cond (R.CH_STAT_UV c) true else s1
  else s
/-- GS_LOW: GS_OK has been low for the filter time (R361). -/
def execGsLow (c : Nat) (s : State) : Host.Outcome State Fault Refusal := .next (gsLowEffect c s)

/-- GS_HIGH (R361). -/
def gsHighEffect (c : Nat) (s : State) : State :=
  if s.chHere c then
    let x := s.ch c
    ((s.setCh c { x with gs := true, supLow := false, waitPer := x.waitPer || x.supLow && s.on (R.CH_CTRL_EN c) }).pairUpdate (c / 2)).cond
      (R.CH_STAT_UV c) false
  else s
/-- GS_HIGH: GS_OK has been high for the filter time (R361). -/
def execGsHigh (c : Nat) (s : State) : Host.Outcome State Fault Refusal := .next (gsHighEffect c s)

/-! ## Hold latch and page (R363 to R365, R369) -/

/-- R366: a RESUME of this very instant is taken back by a new cause: it is ignored, with its CONFIG event. -/
def State.unresume (s : State) : State :=
  match s.pwm.resumed with
  | none => s
  | some r =>
    if r.at_ = s.elapsed then
      let s1 := (s.holdsNow.filter (fun h => !r.holds.contains h)).foldl (fun a h => a.unhold h) s
      let s2 := s1.putAll ((List.range 16).map (fun c => (R.CH_PCNT_PERIODS c, r.pcnt.getD c 0)))
      let s3 : State := { s2 with pwm := { s2.pwm with chs := r.chs, syncOut := r.out, held := true, resumed := none } }
      s3.config R.PWM_CTRL_RESUME.addr
    else s

/-- R363, R366: the hold latch engages. -/
def State.engageLatch (s0 : State) : State :=
  let s := s0.unresume
  if s.pwm.held then s
  else
    let s1 := (forAll (List.range 16) (fun c a => a.setCh c { a.ch c with heldLow := a.fltPin c c || (a.ch c).supLow }) s).useFree
      (if (List.range 16).any (fun c => (s.ch c).fltIn) then 16 else 0)
    { s1 with pwm := { s1.pwm with held := true } }.pinsUpdate

/-- R364: a grove core is halted. -/
def State.anyHalted (s : State) : Bool := s.sched.cores.any (fun e => e.2.halted)
/-- R364: an L3 or L4 record is unacknowledged. -/
def State.openL3 (s : State) : Bool := s.flt.recs.any (fun e => e.2.used && decide (3 ≤ e.2.level))

/-- RESUME (R364). -/
def resumeEffect (s : State) : State :=
  if s.up 9 then
    if s.anyHalted || s.openL3 then s.config R.PWM_CTRL_RESUME.addr
    else if s.pwm.held then
      let r : ResumeBack := { at_ := s.elapsed, chs := s.pwm.chs, out := s.pwm.syncOut
                              pcnt := (List.range 16).map (fun c => s.get (R.CH_PCNT_PERIODS c)), holds := s.pwm.holds }
      let s1 : State := { s with pwm := { s.pwm with held := false, resumed := some r } }
      (forAll ((List.range 16).filter s.chRuns) State.periodBegin s1).pinsUpdate
    else s
  else s
/-- RESUME: PWM.CTRL.RESUME is written (R364). -/
def execResume (s : State) : Host.Outcome State Fault Refusal := .next (s.commanded 0x90008 resumeEffect)

/-- PWM_ALL_OFF (R369): on one edge. -/
def pwmAllOffEffect (s : State) : State :=
  if s.up 9 then
    (forAll (List.range 16) (fun c a => (a.put (R.CH_CTRL_EN c) 0).setCh c { a.ch c with cmd := false, waitPer := false }) s).pinsUpdate
  else s
/-- PWM_ALL_OFF: EN of every channel is cleared (R369). -/
def execPwmAllOff (s : State) : Host.Outcome State Fault Refusal := .next (s.commanded 0x90008 pwmAllOffEffect)

/-- R365: some pair of the mask has both safe levels 1. -/
def bothHigh (pairs lvl : Nat) : Bool := (List.range 8).any (fun p => bitOf pairs p && bitOf lvl (2 * p) && bitOf lvl (2 * p + 1))

/-- SAFE_LVL_WRITE (R365). -/
def safeLvlEffect (v : Nat) (s : State) : State :=
  if s.up 9 then
    if bothHigh (s.get R.PWM_XPAIR_PAIR_EN) (v % 2 ^ 16) then s.config R.PWM_SAFE_LVL_LVL.addr
    else (s.put R.PWM_SAFE_LVL_LVL v).pinsUpdate
  else s
/-- SAFE_LVL_WRITE: a write to PWM.SAFE_LVL (R365). -/
def execSafeLvlWrite (v : Nat) (s : State) : Host.Outcome State Fault Refusal := .next (s.commanded 0x90044 (safeLvlEffect v))

/-- XPAIR_WRITE (R365, R903): while a channel is enabled the register is locked (R825); a refused PAIR_EN keeps its value alone. -/
def xpairEffect (v : Nat) (s : State) : State :=
  if s.up 9 then
    if (List.range 16).any (fun c => s.on (R.CH_CTRL_EN c)) then (s.raise R.PWM_STATUS_LOCKV).config R.PWM_XPAIR_XDEAD.addr
    else if bothHigh (v % 2 ^ 8) (s.get R.PWM_SAFE_LVL_LVL) then (s.put R.PWM_XPAIR_XDEAD (bits v 16 12)).config R.PWM_XPAIR_XDEAD.addr
    else ((s.put R.PWM_XPAIR_PAIR_EN v).put R.PWM_XPAIR_XDEAD (bits v 16 12)).pinsUpdate
  else s
/-- XPAIR_WRITE: a write to PWM.XPAIR (R365). -/
def execXpairWrite (v : Nat) (s : State) : Host.Outcome State Fault Refusal := .next (s.commanded 0x90040 (xpairEffect v))

/-- R360, R739: a channel is fenced. -/
def State.fenceCh (c : Nat) (s : State) : State := s.chOff c

/-- R360: unfencing clears the fault latches of the channel and of an enabled pair. -/
def State.unfenceCh (c : Nat) (s : State) : State :=
  let s1 := s.setCh c { s.ch c with fltLat := false }
  if s.pairOn (c / 2) then s1.setCh (partner c) { s1.ch (partner c) with fltLat := false } else s1

/-! ## The tick (R349, R354, R356) -/

/-- R349: the counter's own step, without the pins. -/
def State.countTick (c : Nat) (s : State) : State :=
  let x := s.ch c
  if s.get (R.CH_PER_PER c) ≤ x.cnt + 1 then s.periodBegin c
  else
    let on := x.cmd && s.chLevelAt c (x.cnt + 1)
    s.setCh c { x with cnt := x.cnt + 1, cmd := on, dropped := x.cmd && !on }

/-- R355, R366: a sync load above 0 on the tick of the counter's own wrap: one period start, and the load governs. A load at or above PER
leaves that one start to the next tick. -/
def State.loadTick (c : Nat) (s : State) : State :=
  let ph := s.get (R.CH_SYNC_PH_PH c)
  let wrap := decide (s.get (R.CH_PER_PER c) ≤ (s.ch c).cnt + 1) && decide (ph ≠ 0) && decide (ph < s.get (R.CH_PER_PER c))
  if wrap then (s.syncLoad c).periodLoaded c else s.syncLoad c

/-- One 2 ns tick of channel c, without the pins. -/
def State.chTick (pulsed : List Nat) (c : Nat) (s : State) : State :=
  if pulsed.contains c && s.chRuns c && s.on (R.CH_CFG_SYNC_EN c) then s.loadTick c
  else
    let s0 := if pulsed.contains c then s.setCh c { s.ch c with pulse := false } else s
    if s0.chRuns c then s0.countTick c else s0

/-- R354, R357: one tick of the page: pulses sent before it arrive in it, and the pins follow once every command stands. -/
def State.pwmTick (s : State) : State :=
  if s.up 9 then
    let pulsed := (List.range 16).filter (fun c => (s.ch c).pulse)
    forAll (List.range 8) State.pairUpdate (forAll (List.range 16).reverse (State.chTick pulsed) s)
  else s

end Sys2Proof.Machine
end

