-- ==== Sys2Proof/Machine/Pos.lean ====
section
/-! DEFINITION. Position interfaces: counting, index, speed windows, compare and encoder emulation (R387 to R423). -/

namespace Sys2Proof.Machine

/-- One interface. -/
def State.pos (s : State) (i : Nat) : PosSt := tget {} s.poss i
/-- An interface replaced. -/
def State.setPos (i : Nat) (x : PosSt) (s : State) : State := { s with poss := tset {} s.poss i x }

/-- The interface exists in the variant and neither it nor its glade is fenced (R387). -/
def State.posUp (s : State) (i : Nat) : Bool := s.variant.hasPos && decide (i < 2) && s.unitUp (posUnit i)

/-- The interface exists and its glade runs: its page takes writes, fenced or not (notes/assumptions/50.md). -/
def State.posHere (s : State) (i : Nat) : Bool := s.variant.hasPos && decide (i < 2) && s.up 9

/-! ## Emulated encoder (R397, R398) -/

/-- R397: the target count. -/
def PosSt.target (x : PosSt) : Int := x.emuPos / 2 ^ 16

/-- R397: (A, B) of an output count, A in bit 1. -/
def quadState (n : Int) : Nat :=
  let k := n % 4
  if k = 0 then 0 else if k = 1 then 2 else if k = 2 then 3 else 1

/-- R397: the level of POS_OUT_Z. -/
def State.posZ (s : State) (i : Nat) : Bool :=
  s.on (R.POS_CTRL_EMU_EN i) && s.on (R.POS_EMU_CFG_Z_PER i) && decide ((s.pos i).emuOut % (s.get (R.POS_EMU_CFG_Z_PER i) : Nat) = 0)

/-- R397, R398, R422: EMU_STAT follows the emulated encoder. -/
def State.emuUpdate (i : Nat) (s : State) : State :=
  let x := s.pos i
  if s.on (R.POS_CTRL_EMU_EN i) then
    (s.put (R.POS_EMU_STAT_LAG i) (x.target - x.emuOut).natAbs).put (R.POS_EMU_STAT_QSTATE i) (quadState x.emuOut)
  else (s.put (R.POS_EMU_STAT_LAG i) 0).put (R.POS_EMU_STAT_QSTATE i) 0

/-- R397, R398: a counted edge moves the emulated position. -/
def State.emuEdge (i : Nat) (up : Bool) (s : State) : State :=
  if s.on (R.POS_CTRL_EMU_EN i) then
    let x := s.pos i
    let r : Int := s.get (R.POS_EMU_RATIO_RATIO i)
    let x1 := { x with emuPos := signedOf 48 (codeOf 48 (if up then x.emuPos + r else x.emuPos - r)) }
    if 65535 < (x1.target - x1.emuOut).natAbs then
      (((s.setPos i { x1 with emuOut := x1.target }).emuUpdate i).raise (R.POS_STATUS_EMU_OVF i)).event .pos (posUnit i) 0
    else (s.setPos i x1).emuUpdate i
  else s

/-! ## Counting and compare (R388 to R390, R395) -/

/-- R388: the direction of an edge: counted up, counted down, or a rise on both inputs. -/
inductive PosEdge where
  | up | down | both
deriving DecidableEq, Repr

/-- R388, R389: what the recognised edges are in the mode; none where no counting input rose. -/
def posEdge (mode : Nat) (inv edgeA edgeB bLevel : Bool) : Option PosEdge :=
  if mode = 0 then (if edgeA then some (if bLevel != inv then .down else .up) else none)
  else
    let u := if inv then edgeB else edgeA
    let d := if inv then edgeA else edgeB
    if u && d then some .both else if u then some .up else if d then some .down else none

/-- R395: a counted edge fires the compare: POS has come to the position that it is judged against, in a direction that CDIR passes. -/
def State.posFires (s : State) (i : Nat) (b : CountBack) : Bool :=
  let c := s.get (R.POS_CMP_CFG_CDIR i)
  s.on (R.POS_STATUS_CMP_ARMED i) && decide (s.get (R.POS_POS_COUNT i) = b.cmp)
    && (decide (c = 0) || decide (c = 1) && b.up || decide (c = 2) && !b.up)

/-- R395: the compare fires. -/
def State.posFire (i : Nat) (s : State) : PosFire × State :=
  let s1 := s.raise (R.POS_STATUS_CMP i)
  let s2 := s1.put (R.POS_CMP_TS_TS i) (tag32 s.nowNs)
  let j := s.get (R.POS_CFG_CMP_EVT i)
  let posts := s.on (R.POS_CFG_POST_CMP i)
  let s3 := if posts then s2.postFlagFrom 9 j else s2
  ({ bits := s.bitsBack [R.POS_STATUS_CMP i] s1, ts := s.get (R.POS_CMP_TS_TS i)
     flag := if posts && !s.linkCut 9 5 then some (State.flagBack j s2 s3) else none },
    if s.on (R.POS_CMP_CFG_CONT i) then s3 else s3.put (R.POS_STATUS_CMP_ARMED i) 0)

/-- R395: the compare is judged after a counted edge, which is kept. -/
def State.posJudge (i : Nat) (b : CountBack) (s : State) : State :=
  if s.posFires i b then
    let r := s.posFire i
    r.2.setPos i { r.2.pos i with edge := some { b with fire := some r.1 } }
  else s.setPos i { s.pos i with edge := some { b with fire := none } }

/-- R400: the firing of an edge of this very tick is taken back, to be judged again. -/
def State.posUnfire (i : Nat) (b : CountBack) (s : State) : State :=
  match b.fire with
  | none => s
  | some r =>
    let s1 := (match r.flag with | some f => s.unpostFlag f | none => s).unraise r.bits
    (s1.put (R.POS_CMP_TS_TS i) r.ts).put (R.POS_STATUS_CMP_ARMED i) 1

/-- R390: the position one counted edge on. -/
def edgeOn (up : Bool) (v : Nat) : Nat := codeOf 32 (signedOf 32 v + if up then 1 else -1)

/-- R400: the counted edge of this very tick, if there is one. -/
def State.edgeNow (s : State) (i : Nat) : Option CountBack := (s.pos i).edge.filter (fun b => decide (b.at_ = s.elapsed))

/-- R390, R391, R400: POS is loaded; a count on the same edge is applied to the loaded value, and the compare judged after it. -/
def State.posLoad (i v : Nat) (s : State) : State :=
  match s.edgeNow i with
  | none => s.put (R.POS_POS_COUNT i) v
  | some b => ((s.posUnfire i b).put (R.POS_POS_COUNT i) (edgeOn b.up v)).posJudge i { b with pos := v % 2 ^ 32 }

/-- R392, R393: a counted edge in a window; `prev` is the direction of the edge counted before it. -/
def PosWin.count (w : PosWin) (up : Bool) (prev : Option Bool) : PosWin :=
  { net := if up then w.net + 1 else w.net - 1, counted := true, still := false, start := w.start || w.still
    rev := w.rev || (match prev with | none => false | some d => d != up) }

/-- R392, R393: the results of a window that ends, and the window that begins there. -/
def State.posResults (i : Nat) (w : PosWin) (s : State) : State :=
  let s1 := s.setPos i { s.pos i with
    win := { still := !w.counted }, ended := some (s.elapsed, w), speed := codeOf 32 (w.net * (s.get (R.POS_SPD_K_K i) : Nat)) }
  (s1.putS (R.POS_SPDNET_NET i) w.net).putAll
    [(R.POS_SPDNET_VALID i, 1), (R.POS_SPDNET_START i, b2n w.start), (R.POS_SPDNET_REV i, b2n w.rev)]

/-- R392, R400: an edge counts in the window in progress, or in the window that ends on this very tick. -/
def State.posInWindow (i : Nat) (up : Bool) (s : State) : State :=
  let x := s.pos i
  match x.ended with
  | some (t, w) => if t = s.elapsed then s.posResults i (w.count up x.prev) else s.setPos i { x with win := x.win.count up x.prev }
  | none => s.setPos i { x with win := x.win.count up x.prev }

/-- R396: a compare position is behind the present one, judged against the last direction. -/
def cmpBehind (dir : Option Bool) (cmp pos : Int) : Bool :=
  match dir with
  | some true => decide (cmp ≤ pos)
  | some false => decide (pos ≤ cmp)
  | none => decide (cmp = pos)

/-- R396: BEHIND is judged for the position in CMP_POS. -/
def State.judgeBehind (i : Nat) (s : State) : State :=
  s.flagIf (cmpBehind (s.pos i).dir (s.getS (R.POS_CMP_POS_VAL i)) (s.getS (R.POS_POS_COUNT i))) (R.POS_STATUS_BEHIND i)

/-- R400: the CMP_POS write of this very tick, if there is one. -/
def State.cmpNow (s : State) (i : Nat) : Option CmpBack := (s.pos i).cmpWas.filter (fun b => decide (b.at_ = s.elapsed))

/-- R390, R393, R400: a counted edge. After a CMP_POS write on its tick it is judged against the old value, and BEHIND after it. -/
def State.posCount (i : Nat) (up : Bool) (s : State) : State :=
  let s0 := s.posInWindow i up
  let v := s.get (R.POS_POS_COUNT i)
  let s1 := (s0.setPos i { s0.pos i with dir := some up, prev := some up }).put (R.POS_POS_COUNT i) (edgeOn up v)
  let s2 := (s1.put (R.POS_STATUS_MOVED i) 1).put (R.POS_STATUS_DIR i) (b2n !up)
  let b : CountBack := { at_ := s.elapsed, up := up, pos := v, cmp := s.get (R.POS_CMP_POS_VAL i), fire := none }
  (match s.cmpNow i with
   | none => s2.posJudge i b
   | some w => ((s2.unraise w.bits).judgeBehind i).posJudge i { b with cmp := w.cmp }).emuEdge i up

/-- R389: an edge that is not counted. -/
def State.posEdgeFault (i : Nat) (s : State) : State :=
  ((s.addTo (R.POS_CNT_EDGE_FAULT i) 1).raise (R.POS_STATUS_EDGE_FLT i)).event .pos (posUnit i) 0

/-- POS_COUNT_EDGE (R388 to R390, R393, R395, R397). -/
def posCountEdgeEffect (i : Nat) (edgeA edgeB bLevel : Bool) (gap : Nat) (s : State) : State :=
  if s.posUp i && (s.on (R.POS_CTRL_EN i) || decide ((s.pos i).offAt = some s.elapsed)) then
    match posEdge (s.get (R.POS_CFG_MODE i)) (s.on (R.POS_CFG_DIR_INV i)) edgeA edgeB bLevel with
    | none => s
    | some .both => s.posEdgeFault i
    | some .up => if gap < s.get (R.POS_CFG_MIN_GAP i) then s.posEdgeFault i else s.posCount i true
    | some .down => if gap < s.get (R.POS_CFG_MIN_GAP i) then s.posEdgeFault i else s.posCount i false
  else s
/-- POS_COUNT_EDGE: a counting edge is recognised, `gap` ticks after the previous one (R388). -/
def execPosCountEdge (i : Nat) (edgeA edgeB bLevel : Bool) (gap : Nat) (s : State) : Host.Outcome State Fault Refusal :=
  .next (posCountEdgeEffect i edgeA edgeB bLevel gap s)

/-- R391, R400: an index load: the load comes before a count on its edge. -/
def State.indexLoad (i : Nat) (s : State) : State :=
  let before := match s.edgeNow i with | some b => b.pos | none => s.get (R.POS_POS_COUNT i)
  let s1 := (s.put (R.POS_IDX_POS_POS i) before).posLoad i (s.get (R.POS_IDX_LOAD_VAL i))
  (s1.raise (R.POS_STATUS_INDEX i)).addTo (R.POS_CNT_INDEX i) 1

/-- R400: the elapsed time of an index edge and whether it has loaded are kept. -/
def State.noteIndex (i : Nat) (loaded : Bool) (s : State) : State := s.setPos i { s.pos i with idx := some (s.elapsed, loaded) }

/-- POS_INDEX_EDGE (R391). -/
def posIndexEffect (i : Nat) (s : State) : State :=
  if s.posUp i then
    if s.get (R.POS_CFG_IDX_MODE i) = 1 then (s.indexLoad i).noteIndex i true
    else if s.get (R.POS_CFG_IDX_MODE i) = 2 ∧ s.on (R.POS_STATUS_IDX_ARMED i) = true then
      ((s.indexLoad i).put (R.POS_STATUS_IDX_ARMED i) 0).noteIndex i true
    else s.noteIndex i false
  else s
/-- POS_INDEX_EDGE: a rising edge of Z is recognised (R391). -/
def execPosIndexEdge (i : Nat) (s : State) : Host.Outcome State Fault Refusal := .next (posIndexEffect i s)

/-! ## Speed (R392 to R394) -/

/-- POS_WINDOW_END (R392, R393). -/
def posWindowEffect (i : Nat) (s : State) : State :=
  if s.posUp i && s.on (R.POS_CTRL_EN i) then
    let s1 := (s.posResults i (s.pos i).win).raise (R.POS_STATUS_SPD_NEW i)
    if s1.on (R.POS_CFG_POST_WIN i) then s1.postFlagFrom 9 (s1.get (R.POS_CFG_WIN_EVT i)) else s1
  else s
/-- POS_WINDOW_END: a speed window ends (R392). -/
def execPosWindowEnd (i : Nat) (s : State) : Host.Outcome State Fault Refusal := .next (posWindowEffect i s)

/-- POS_ENABLE (R392, R393). -/
def posEnableEffect (i : Nat) (s : State) : State :=
  if s.posUp i && !s.on (R.POS_CTRL_EN i) then
    let s1 := s.setPos i { s.pos i with win := {}, ended := none, dir := none, speed := 0, offAt := none }
    s1.putAll [(R.POS_CTRL_EN i, 1), (R.POS_STATUS_MOVED i, 0), (R.POS_SPDNET_NET i, 0), (R.POS_SPDNET_VALID i, 0),
      (R.POS_SPDNET_START i, 0), (R.POS_SPDNET_REV i, 0), (R.POS_SPEED_SPD i, 0)]
  else s
/-- POS_ENABLE: POS.CTRL.EN goes to 1 (R392). -/
def execPosEnable (i : Nat) (s : State) : Host.Outcome State Fault Refusal := .next (s.commanded (0x91008 + 0x1000 * i) (posEnableEffect i))

/-- R400: EN goes to 0; an edge of this very tick is still counted. -/
def State.posOff (i : Nat) (s : State) : State :=
  (s.put (R.POS_CTRL_EN i) 0).setPos i { s.pos i with offAt := if s.on (R.POS_CTRL_EN i) then some s.elapsed else (s.pos i).offAt }

/-- CMP_ARM (R395, R400): a crossing on the same tick fires. -/
def cmpArmEffect (i : Nat) (s : State) : State :=
  if s.posHere i then
    match s.edgeNow i with
    | none => s.put (R.POS_STATUS_CMP_ARMED i) 1
    | some b => if b.fire.isSome then s else (s.put (R.POS_STATUS_CMP_ARMED i) 1).posJudge i b
  else s
/-- CMP_ARM: CTRL.CMP_ARM is written (R395). -/
def execCmpArm (i : Nat) (s : State) : Host.Outcome State Fault Refusal := .next (s.commanded (0x91008 + 0x1000 * i) (cmpArmEffect i))

/-- IDX_ARM (R391, R400): an index edge on the same tick loads and clears IDX_ARMED. -/
def idxArmEffect (i : Nat) (s : State) : State :=
  if s.posHere i then
    match (s.pos i).idx.filter (fun e => decide (e.1 = s.elapsed)) with
    | none => s.put (R.POS_STATUS_IDX_ARMED i) 1
    | some (_, loaded) =>
      if s.get (R.POS_CFG_IDX_MODE i) = 2 then (if loaded then s else (s.indexLoad i).noteIndex i true)
      else s.put (R.POS_STATUS_IDX_ARMED i) 1
  else s
/-- IDX_ARM: CTRL.IDX_ARM is written (R391). -/
def execIdxArm (i : Nat) (s : State) : Host.Outcome State Fault Refusal := .next (s.commanded (0x91008 + 0x1000 * i) (idxArmEffect i))

/-- POS_WRITE (R390). -/
def posWriteEffect (i v : Nat) (s : State) : State := if s.posHere i then s.posLoad i v else s
/-- POS_WRITE: a write to POS loads the counter (R390). -/
def execPosWrite (i v : Nat) (s : State) : Host.Outcome State Fault Refusal := .next (s.commanded (0x91044 + 0x1000 * i) (posWriteEffect i v))

/-- CMP_POS_WRITE (R396, R400); of two writes on one tick the first one's old value is kept. -/
def cmpPosEffect (i v : Nat) (s : State) : State :=
  if s.posHere i then
    let s1 := (s.put (R.POS_CMP_POS_VAL i) v).judgeBehind i
    let w : CmpBack := { at_ := s.elapsed, cmp := s.get (R.POS_CMP_POS_VAL i), bits := s.bitsBack [R.POS_STATUS_BEHIND i] s1 }
    s1.setPos i { s1.pos i with cmpWas := some ((s.cmpNow i).getD w) }
  else s
/-- CMP_POS_WRITE: a write to CMP_POS (R396). -/
def execCmpPosWrite (i v : Nat) (s : State) : Host.Outcome State Fault Refusal := .next (s.commanded (0x91064 + 0x1000 * i) (cmpPosEffect i v))

/-- R415: the SPDNET word. -/
def State.spdnetWord (s : State) (i : Nat) : Nat :=
  s.get (R.POS_SPDNET_VALID i) * 2 ^ 31 + s.get (R.POS_SPDNET_START i) * 2 ^ 30 + s.get (R.POS_SPDNET_REV i) * 2 ^ 29
    + s.get (R.POS_SPDNET_NET i)

/-- SPDNET_READ (R394). -/
def spdnetReadEffect (i : Nat) (s : State) : State :=
  if s.posHere i then (s.put (R.POS_SPEED_SPD i) (s.pos i).speed).readData [s.spdnetWord i] else s

/-- EMU_ENABLE (R397). -/
def emuEnableEffect (i : Nat) (s : State) : State :=
  if s.posUp i && !s.on (R.POS_CTRL_EMU_EN i) then
    ((s.put (R.POS_CTRL_EMU_EN i) 1).setPos i { s.pos i with emuPos := 0, emuOut := 0 }).emuUpdate i
  else s
/-- EMU_ENABLE: EMU_EN goes to 1 (R397). -/
def execEmuEnable (i : Nat) (s : State) : Host.Outcome State Fault Refusal := .next (s.commanded (0x91008 + 0x1000 * i) (emuEnableEffect i))

/-- EMU_OUTPUT_STEP (R397). -/
def emuStepEffect (i : Nat) (s : State) : State :=
  let x := s.pos i
  if s.posUp i && s.on (R.POS_CTRL_EMU_EN i) && decide (x.target ≠ x.emuOut) then
    (s.setPos i { x with emuOut := if x.emuOut < x.target then x.emuOut + 1 else x.emuOut - 1 }).emuUpdate i
  else s
/-- EMU_OUTPUT_STEP: the output count moves one step towards the target (R397). -/
def execEmuOutputStep (i : Nat) (s : State) : Host.Outcome State Fault Refusal := .next (emuStepEffect i s)

/-- R397: emulation is switched off. -/
def State.emuOff (i : Nat) (s : State) : State := (s.put (R.POS_CTRL_EMU_EN i) 0).emuUpdate i

/-- R399: an interface is fenced: its outputs go low, and the other values of its page stand. -/
def State.fencePos (i : Nat) (s : State) : State := s.putAll [(R.POS_CTRL_EN i, 0), (R.POS_CTRL_EMU_EN i, 0), (R.POS_EMU_STAT_QSTATE i, 0)]

end Sys2Proof.Machine
end

