-- ==== Sys2Proof/Machine/Adc.lean ====
section
/-! DEFINITION. Analog converters: requests, bursts, open-wire detection and calibration (R424 to R454). -/

namespace Sys2Proof.Machine

/-- One core. -/
def State.adc (s : State) (c : Nat) : AdcSt := tget {} s.adcs c
/-- A core replaced. -/
def State.setAdc (c : Nat) (x : AdcSt) (s : State) : State := { s with adcs := tset {} s.adcs c x }

/-- The core and its control run (R424). -/
def State.adcUp (s : State) (c : Nat) : Bool := decide (c < 2) && s.unitUp (adcUnit c) && s.unitUp 0x0912

/-- R428, R435: the core is powered: a request or a recalibration runs. -/
def AdcSt.powered (x : AdcSt) : Bool := x.run.isSome || x.recal

/-- R435: the spans of power follow the core; those that ended more than 10 ms ago are forgotten. -/
def AdcSt.power (now : Nat) (x : AdcSt) : AdcSt :=
  match x.pwrAt with
  | none => if x.powered then { x with pwrAt := some now } else x
  | some a =>
    if x.powered then x
    else { x with pwrAt := none, pwrLog := (x.pwrLog ++ [(a, now)]).filter (fun e => decide (now < e.2 + el 10000000)) }

/-- R435: the powered time of the last 10 ms. -/
def AdcSt.poweredIn (now : Nat) (x : AdcSt) : Nat :=
  let all := x.pwrLog ++ (match x.pwrAt with | some a => [(a, now)] | none => [])
  (all.map (fun e => e.2 - max e.1 (now - el 10000000))).sum

/-- R441: PWR, WAIT and BUSY follow the core, and its powered time with them. -/
def State.adcShow (c : Nat) (s : State) : State :=
  let x := (s.adc c).power s.elapsed
  (s.setAdc c x).putAll [(R.ADC_STATUS_PWR c, b2n x.powered), (R.ADC_STATUS_WAIT c, b2n x.wait.isSome),
    (R.ADC_STATUS_BUSY c, b2n (x.run.isSome || x.fin.isSome || x.recal))]

/-- R426: the request that REQ gives at a trigger. -/
def State.adcReq (s : State) (c : Nat) : AdcReq where
  ch := s.get (R.ADC_REQ_CH c)
  raw := s.on (R.ADC_REQ_MODE c)
  count := s.get (R.ADC_REQ_COUNT c)
  bias := s.get (R.ADC_REQ_BIAS c)

/-- R434: the core is calibrated: CALD stands, or the start-up of its first request is over. -/
def State.adcCald (s : State) (c : Nat) : Bool :=
  s.on (R.ADC_STATUS_CALD c) || (s.adc c).run.any (fun r => decide (r.at_ ≤ s.elapsed))

/-- R428: T_SU in ns. -/
def State.adcSetup (s : State) (c : Nat) (waited : Bool) : Nat :=
  if s.adcCald c then (if waited then 200 else 1200) else 60000

/-- R428: the last sample instant of a request that has started, in elapsed time. -/
def AdcReq.lastAt (r : AdcReq) : Nat := r.at_ + el (4 * r.count)

/-- R428, R429: a request starts now; TS is device time at its first sample, which a step before then moves (R535). -/
def State.adcStart (c : Nat) (waited : Bool) (r : AdcReq) (s : State) : State :=
  let d := el (s.adcSetup c waited)
  (s.setAdc c { s.adc c with run := some { r with ts := (s.time + s.devOf d) % 2 ^ 96, at_ := s.elapsed + d } }).adcShow c

/-- R426: the request of a trigger now. -/
def State.adcReqNow (s : State) (c src : Nat) : AdcReq := { s.adcReq c with trig := s.elapsed, src := src }

/-- R427: a trigger is dropped with OVERRUN. -/
def State.adcOverrun (c : Nat) (s : State) : State :=
  let F := R.ADC_STATUS_OVERRUN c
  let s1 := (s.raise F).addTo (R.ADC_CNT_OVR c) 1
  s1.setAdc c { s.adc c with
    ovrAt := some { at_ := s.elapsed, bit := s.on F, pend := bitOf (s.irqStat (pageOf F.addr)) F.lo, sent := s1.host.msix1 - s.host.msix1 } }

/-- R437: a trigger of another source has come on this edge. -/
def State.adcTwin (s : State) (c src : Nat) : Bool :=
  match (s.adc c).trigAt with
  | some (e, k) => decide (e = s.elapsed ∧ k ≠ src)
  | none => false

/-- R426 to R428, R437: a trigger by its source. On the edge of a STOP it is dropped; on the edge on which a
recalibration has started it sends the recalibration back; on the edge of a last sample the core has stayed powered. -/
def State.adcTrig (c src : Nat) (s0 : State) : State :=
  let y := s0.adc c
  if y.stopAt = some s0.elapsed then s0
  else if s0.adcTwin c src then s0.adcOverrun c
  else
    let s := s0.setAdc c { y with
      trigAt := some (s0.elapsed, src), recal := y.recal && decide (y.recalAt ≠ s0.elapsed), calDue := y.calDue || y.recal && decide (y.recalAt = s0.elapsed) }
    let x := s.adc c
    if x.run.isNone && x.wait.isNone && !x.recal then s.adcStart c (decide (x.endAt = some s.elapsed)) (s.adcReqNow c src)
    else if x.wait.isNone then (s.setAdc c { x with wait := some (s.adcReqNow c src) }).adcShow c
    else s.adcOverrun c

/-- R437: what a trigger has done on the edge of a STOP is undone: its request goes, and so does its OVERRUN with its interrupt. -/
def State.adcUndo (c : Nat) (s : State) : State :=
  let x := s.adc c
  let stays (r : AdcReq) : Bool := !(decide (r.src ≠ 0) && decide (r.trig = s.elapsed))
  let s1 := (s.setAdc c { x with run := x.run.filter stays, wait := x.wait.filter stays, ovrAt := none }).adcShow c
  match x.ovrAt with
  | some o =>
    if o.at_ = s.elapsed then
      let F := R.ADC_STATUS_OVERRUN c
      let s2 := (s1.put F (b2n o.bit)).put (R.ADC_CNT_OVR c) (s.get (R.ADC_CNT_OVR c) + 2 ^ (R.ADC_CNT_OVR c).w - 1)
      let s3 := if o.pend then s2 else s2.unpend F
      { s3 with host := { s3.host with msix1 := s3.host.msix1 - o.sent } }
    else s1
  | none => s1

/-- R437: a REQ write on the edge of a trigger from elsewhere: the request uses the written value. -/
def State.adcRewrite (c : Nat) (s : State) : State :=
  let x := s.adc c
  let w := s.adcReq c
  let f (r : AdcReq) : AdcReq :=
    if r.src ≠ 0 ∧ r.trig = s.elapsed then { r with ch := w.ch, raw := w.raw, count := w.count, bias := w.bias } else r
  s.setAdc c { x with run := x.run.map f, wait := x.wait.map f }

/-- ADC_GO (R426). -/
def adcGoEffect (c : Nat) (s : State) : State := if s.adcUp c && s.on (R.ADC_CTRL_EN c) then s.adcTrig c 0 else s
/-- ADC_GO: ADC.CTRL.GO is written (R426). -/
def execAdcGo (c : Nat) (s : State) : Host.Outcome State Fault Refusal := .next (s.commanded (0x93008 + 0x1000 * c) (adcGoEffect c))

/-- ADC_TRIGGER (R426): the trigger of a flag that has been posted, or the phase trigger of the running cycle, to whose instant device
time comes. -/
def adcTriggerEffect (c : Nat) (s : State) : State :=
  let x := s.adc c
  let src := s.get (R.ADC_TRIG_SRC c)
  let ph := s.get (R.ADC_TRIG_PH c)
  if s.adcUp c && s.on (R.ADC_CTRL_EN c) then
    if src = 1 then
      match x.trigs with
      | 0 => s
      | n + 1 => (s.setAdc c { x with trigs := n }).adcTrig c 1
    else if src = 2 ∧ ph < s.get R.ARM_CYC_LEN_LEN ∧ s.phaseDue x.trigCyc ph = true then
      ((s.reachOfs (el (10 * ph))).setAdc c { x with trigCyc := some (s.arm.cycNo, ph) }).adcTrig c 2
    else s
  else s
/-- ADC_TRIGGER: an event flag or a phase trigger reaches a core (R426). -/
def execAdcTrigger (c : Nat) (s : State) : Host.Outcome State Fault Refusal := .next (adcTriggerEffect c s)

/-- R434: the start-up of the first request calibrates the core. The correction that it finds is open: free values. -/
def State.adcFirstCal (c : Nat) (s : State) : State :=
  if s.on (R.ADC_STATUS_CALD c) then s
  else
    let o := signedOf 14 (s.freeNat 14)
    let g := signedOf 14 (Config.freeValue 14 (s.free + 1)).toNat
    ((s.useFree 2).setAdc c { s.adc c with ofs := o, gain := g }).put (R.ADC_STATUS_CALD c) 1

/-- R428: the waiting request, if there is one, starts. -/
def State.adcNext (c : Nat) (s : State) : State :=
  match (s.adc c).wait with
  | none => s.adcShow c
  | some w => (s.setAdc c { s.adc c with wait := none }).adcStart c true w

/-- ADC_LAST_SAMPLE (R428): time comes to the last sample instant. -/
def adcLastEffect (c : Nat) (s : State) : State :=
  match (s.adc c).run with
  | none => s
  | some r =>
    if s.adcUp c then
      let s1 := (s.pass r.lastAt).adcFirstCal c
      (s1.setAdc c { s1.adc c with run := none, fin := some r, endAt := some s1.elapsed }).adcNext c
    else s
/-- ADC_LAST_SAMPLE: the last sample of the running request is taken (R428). -/
def execAdcLastSample (c : Nat) (s : State) : Host.Outcome State Fault Refusal := .next (adcLastEffect c s)

/-- R429: the burst buffer of core c. -/
def adcBuf (c : Nat) : Nat := 0xD00000 + 0x2000 * c

/-- R429: the mean code, 14.16. -/
def adcMean (n : Nat) (codes : List Nat) : Nat := codes.sum * 2 ^ 16 / n

/-- R433: open wire and saturation. -/
def State.adcJudge (c : Nat) (r : AdcReq) (avg : Nat) (codes : List Nat) (s : State) : State :=
  let lim := s.get (R.ADC_CFG_OW_LIM c)
  if r.bias = 1 ∧ (16383 - lim) * 2 ^ 16 ≤ avg ∨ r.bias = 2 ∧ avg ≤ lim * 2 ^ 16 then
    (s.raise (R.ADC_STATUS_OPEN c)).event .adc (adcUnit c) r.ch
  else if r.bias = 0 ∧ codes.any (fun k => decide (k = 0 ∨ k = 16383)) = true then s.raise (R.ADC_STATUS_SAT c)
  else s

/-- R430: the posts of a burst. -/
def State.adcPost (c avg : Nat) (s : State) : State :=
  let s1 := if s.on (R.ADC_POST_POST_OP c) then s.postOperandFrom 10 (s.get (R.ADC_POST_TAG c)) (s.get (R.ADC_POST_OPIDX c)) avg else s
  if s1.on (R.ADC_POST_POST_EVT c) then s1.postFlagFrom 10 (s1.get (R.ADC_POST_EVT c)) else s1

/-- R22, R429: the codes of a RAW burst go to device memory over the link. -/
def State.adcWrite (c : Nat) (codes : List Nat) (s : State) : State := s.writeFrom 10 (adcBuf c) (codes.flatMap (leBytes 2))

/-- R429: the results of a burst. -/
def State.adcResults (c : Nat) (r : AdcReq) (codes : List Nat) (s : State) : State :=
  let avg := adcMean (r.count + 1) codes
  let s1 := if r.raw then s.adcWrite c codes else s
  let s2 := s1.putAll [(R.ADC_AVG_AVG c, avg), (R.ADC_LAST_CH c, r.ch), (R.ADC_LAST_COUNT c, r.count),
    (R.ADC_LAST_CODE c, codes.getLast?.getD 0), (R.ADC_TS_TS c, tag32 (r.ts / 2 ^ 32))]
  (((s2.raise (R.ADC_STATUS_DONE c)).addTo (R.ADC_CNT_BURSTS c) 1).adcJudge c r avg codes).adcPost c avg

/-- ADC_BURST_DONE: time comes to 44 ns after the last sample (R425, R428 to R430, R433): the codes are those of the request's COUNT + 1 samples; full scale reads 16,383. -/
def adcDoneEffect (c : Nat) (codes : List Nat) (s : State) : State :=
  match (s.adc c).fin with
  | none => s
  | some r =>
    if s.adcUp c && decide (codes.length = r.count + 1) then
      (((s.pass (r.lastAt + el 44)).setAdc c { s.adc c with fin := none }).adcShow c).adcResults c r (codes.map (fun k => min k 16383))
    else s
/-- ADC_BURST_DONE: the results of a burst are written (R428). -/
def execAdcBurstDone (c : Nat) (codes : List Nat) (s : State) : Host.Outcome State Fault Refusal := .next (adcDoneEffect c codes s)

/-- R431: the samples of a RAW burst already written when it ends early, 44 ns after each; their codes are open: free values. -/
def State.adcPartial (c : Nat) (r : AdcReq) (s : State) : State :=
  if r.raw && decide (r.at_ + el 44 ≤ s.elapsed) then
    let n := min (r.count + 1) ((s.elapsed - r.at_ - el 44) / el 4 + 1)
    let ws := (List.range n).map (fun k => (Config.freeValue 14 (s.free + k)).toNat)
    (s.adcWrite c ws).useFree n
  else s

/-- R431: STOP of a core. -/
def State.adcStop (c : Nat) (s : State) : State :=
  let x := s.adc c
  let s0 := match x.fin with | some r => s.adcPartial c r | none => s
  let s1 := match x.run with
    | some r => (if r.at_ ≤ s0.elapsed then s0.adcFirstCal c else s0).adcPartial c r
    | none => s0
  (s1.setAdc c { s1.adc c with run := none, wait := none, fin := none, stopAt := some s1.elapsed }).adcShow c

/-- ADC_STOP (R431, R437). -/
def adcStopEffect (c : Nat) (s : State) : State := if s.adcUp c then (s.adcUndo c).adcStop c else s
/-- ADC_STOP: ADC.CTRL.STOP is written (R431). -/
def execAdcStop (c : Nat) (s : State) : Host.Outcome State Fault Refusal := .next (s.commanded (0x93008 + 0x1000 * c) (adcStopEffect c))

/-! ## Calibration (R434 to R436) -/

/-- CAL_NOW (R434). -/
def calNowEffect (c : Nat) (s : State) : State := if s.adcUp c then s.setAdc c { s.adc c with calDue := true } else s
/-- CAL_NOW: ADC.CTRL.CAL_NOW makes a recalibration due (R434). -/
def execCalNow (c : Nat) (s : State) : Host.Outcome State Fault Refusal := .next (s.commanded (0x93008 + 0x1000 * c) (calNowEffect c))

/-- ADC_CAL_DUE (R434). -/
def adcCalDueEffect (c : Nat) (s : State) : State :=
  if s.adcUp c && s.on (R.ADC_CFG_CAL_PER c) && s.adcCald c then s.setAdc c { s.adc c with calDue := true } else s
/-- ADC_CAL_DUE: CAL_PER seconds have passed (R434). -/
def execAdcCalDue (c : Nat) (s : State) : Host.Outcome State Fault Refusal := .next (adcCalDueEffect c s)

/-- R434, R435: a due recalibration starts on an idle core, or is postponed where the core was powered for more than a quarter of the
last 10 ms. -/
def State.adcRecal (c : Nat) (s : State) : State :=
  let x := s.adc c
  if x.calDue && x.run.isNone && x.wait.isNone && !x.recal && !x.retry then
    if x.poweredIn s.elapsed ≤ el 2500000 then (s.setAdc c { x with recal := true, calDue := false, recalAt := s.elapsed }).adcShow c
    else (s.setAdc c { x with retry := true, dutyAt := s.elapsed }).raise (R.ADC_STATUS_DUTY c)
  else s

/-- ADC_RECAL_START (R434, R435): time passes up to the moment at which the core is looked at. -/
def adcRecalStartEffect (c waitNs : Nat) (s : State) : State := if s.adcUp c then (s.pass (s.elapsed + el waitNs)).adcRecal c else s
/-- ADC_RECAL_START: a due recalibration meets an idle core (R434). -/
def execAdcRecalStart (c waitNs : Nat) (s : State) : Host.Outcome State Fault Refusal := .next (adcRecalStartEffect c waitNs s)

/-- ADC_CAL_RETRY (R435): time passes, and comes at least to 1 ms after the postponement. -/
def adcRetryEffect (c waitNs : Nat) (s : State) : State :=
  if s.adcUp c && (s.adc c).retry then
    ((s.pass (max (s.elapsed + el waitNs) ((s.adc c).dutyAt + el 1000000))).setAdc c { s.adc c with retry := false }).adcRecal c
  else s
/-- ADC_CAL_RETRY: a postponed recalibration is tried again (R435). -/
def execAdcCalRetry (c waitNs : Nat) (s : State) : Host.Outcome State Fault Refusal := .next (adcRetryEffect c waitNs s)

/-- ADC_RECAL_DONE (R434, R436): time comes to 20 µs after its start. -/
def adcRecalDoneEffect (c : Nat) (ofs gain : Int) (s : State) : State :=
  let x := s.adc c
  if s.adcUp c && x.recal then
    let lim := s.get (R.ADC_CFG_DRIFT_LIM c)
    let far := decide (lim < (ofs - x.ofs).natAbs) || decide (lim < (gain - x.gain).natAbs)
    let s1 := ((s.pass (x.recalAt + el 20000)).setAdc c { x with recal := false, ofs := ofs, gain := gain }).adcShow c
    let s2 := if far then (s1.raise (R.ADC_STATUS_CAL_ERR c)).event .adc (adcUnit c) 0 else s1
    s2.adcNext c
  else s
/-- ADC_RECAL_DONE: a recalibration completes with its corrections in codes (R436). -/
def execAdcRecalDone (c : Nat) (ofs gain : Int) (s : State) : Host.Outcome State Fault Refusal := .next (adcRecalDoneEffect c ofs gain s)

/-- R431: a fence of the core acts as STOP and clears EN; the next request is again the first after reset. The time for which the core has
been powered stands (R435). -/
def State.fenceAdc (c : Nat) (s : State) : State :=
  let s1 := (s.adcStop c).putAll [(R.ADC_CTRL_EN c, 0), (R.ADC_STATUS_CALD c, 0)]
  (s1.setAdc c { pwrLog := (s1.adc c).pwrLog }).adcShow c

end Sys2Proof.Machine
end

