-- ==== Sys2Proof/Machine/TimeBase.lean ====
section
/-! DEFINITION. Device time: the counter and its steps, compare channels, the servo and PPS (R526 to R538, R38). -/

namespace Sys2Proof.Machine

/-- The time glade runs. -/
def State.timeUp (s : State) : Bool := s.up 4
/-- The time-glade part replaced. -/
def State.setServo (x : ServoSt) (s : State) : State := { s with servo := x }

/-! ## Cycle instants (R37, R38) -/

/-- R37: the first instant at or after `lo` (in 2^-32 ns) at which device time minus CYC_PHASE is a multiple of T. -/
def gridFrom (tNs phase lo : Nat) : Nat :=
  let u := 2 ^ 32
  let k : Int := ((lo : Int) - (phase * u : Nat) + (tNs * u : Nat) - 1) / (tNs * u : Nat)
  ((phase * u : Nat) + k * (tNs * u : Nat)).toNat

/-- R8, R37: the same past a wrap of the counter, which begins the multiples anew; the result counts on beyond 2^96. -/
def gridAt (tNs phase lo : Nat) : Nat :=
  if lo < 2 ^ 96 then
    (if gridFrom tNs phase lo < 2 ^ 96 then gridFrom tNs phase lo else 2 ^ 96 + gridFrom tNs phase 0)
  else 2 ^ 96 + gridFrom tNs phase (lo - 2 ^ 96)

/-- R38: the device time at `e` of elapsed time after the start of the cycle in progress, or now where that has passed. -/
def State.cycleEnd (s : State) (e : Nat) : Nat := s.cycTime + s.devOf (s.arm.cycEl + e - s.elapsed)

/-- R38, first row: the end of the cycle in progress when the arm is not in RUN: 0.5 T are elapsed time. -/
def State.realigned (s : State) : Nat := gridAt s.tNs (s.get R.ARM_CYC_PHASE_PHASE) (s.cycleEnd (s.tNs * 2 ^ 31))

/-- R38: how far an instant lies after an instant of R37, in the units of device time; less than T. -/
def State.offGrid (s : State) (t : Nat) : Nat :=
  (((t % 2 ^ 96 : Nat) : Int) - (s.get R.ARM_CYC_PHASE_PHASE * 2 ^ 32 : Nat)) % (max 1 s.tNs * 2 ^ 32 : Nat) |>.toNat

/-- R560, R874: device time has been SET at this very instant. -/
def State.setHere (s : State) : Bool := decide (s.servo.setAt = some s.elapsed)

/-- R38, second row: the end of the cycle in progress in RUN: T of the arm glade's own clock, with up to 10 ns of the misalignment taken
up, towards the nearer instant and at exactly half of T by shortening (DESIGN CHOICE, notes/assumptions/63.md). -/
def State.runEnd (s : State) : Nat :=
  let t := s.tNs * 2 ^ 32
  let n := s.cycleEnd t
  let m := s.offGrid n
  let lim := s.devOf (10 * 2 ^ 32)
  if m = 0 then n else if 2 * m ≤ t then n - min lim m else n + min lim (t - m)

/-- R38: where the cycle in progress ends. -/
def State.planEnd (s : State) : State :=
  { s with arm := { s.arm with nextTk := if s.arm.mode = .run then s.runEnd else s.realigned } }

/-- R38, R902: CYC_STAT.REALIGN stands while the start of the cycle in progress lies off its instant. -/
def State.realignCond (s : State) : State :=
  s.cond R.ARM_CYC_STAT_REALIGN (s.arm.running && decide (s.offGrid s.arm.cycStart ≠ 0))

/-- R38, R535: device time changes by `d`; the elapsed time of the cycle in progress does not, and its end is planned anew. -/
def State.shiftCycle (d : Int) (s : State) : State :=
  if s.arm.running then
    ({ s with arm := { s.arm with cycStart := (((s.arm.cycStart : Int) + d) % 2 ^ 96).toNat } }).planEnd.realignCond
  else s

/-! ## Compares (R530 to R532) -/

/-- R530: d of a compare channel. -/
def State.tcmpD (s : State) (c : Nat) : Int := signedOf 32 ((s.get (R.TIME_TCMP_TGT_TGT c) + 2 ^ 32 - s.nowNs % 2 ^ 32) % 2 ^ 32)

/-- R560: a channel has fired on this tick; what it has changed is kept. -/
def State.noteFire (b : FireBack) (s : State) : State :=
  { s with servo := { s.servo with fired := b :: s.servo.fired.filter (fun x => decide (x.at_ = s.elapsed)) } }

/-- R530, R532: a channel fires. -/
def State.tcmpFire (c : Nat) (late : Bool) (s : State) : State :=
  let s1 := (s.put (R.TIME_TCMP_CFG_ARMED c) 0).raise R.TIME_TSTAT_FIRE
  let s2 := if late then (s1.raise (R.TIME_TCMP_CFG_LATE c)).raise R.TIME_TSTAT_LATE else s1
  let bits := s.bitsBack (if late then [R.TIME_TSTAT_FIRE, R.TIME_TCMP_CFG_LATE c, R.TIME_TSTAT_LATE] else [R.TIME_TSTAT_FIRE]) s2
  let j := s2.get (R.TIME_TCMP_CFG_FLAG c)
  if s2.on (R.TIME_TCMP_CFG_POST c) then
    let s3 := s2.postFlagFrom 4 j
    s3.noteFire { at_ := s.elapsed, ch := c, late := late, bits := bits, flag := if s2.linkCut 4 5 then none else some (State.flagBack j s2 s3) }
  else s2.noteFire { at_ := s.elapsed, ch := c, late := late, bits := bits, flag := none }

/-- R560: a firing is taken back, and the channel is armed again. -/
def State.unfire (b : FireBack) (s : State) : State :=
  let s1 := match b.flag with | some f => s.unpostFlag f | none => s
  (s1.unraise b.bits).put (R.TIME_TCMP_CFG_ARMED b.ch) 1

/-- R560: the firings of this tick are taken back, but for those of the channels kept. -/
def State.unfireAll (keep : Nat → Bool) (s : State) : State :=
  let l := s.servo.fired.filter (fun b => decide (b.at_ = s.elapsed))
  let s1 : State := { s with servo := { s.servo with fired := [] } }
  (l.reverse.filter (fun b => keep b.ch)).foldl (fun a b => a.tcmpFire b.ch b.late) (l.foldl (fun a b => a.unfire b) s1)

/-- R531: an armed channel is judged at once. -/
def State.tcmpJudge (c : Nat) (s : State) : State :=
  if s.on (R.TIME_TCMP_CFG_ARMED c) && decide (s.tcmpD c ≤ 0) then s.tcmpFire c true else s

/-- R429, R528, R529: TS of an ADC request that has not yet sampled is the device time at which it will. -/
def State.retimeAdc (s : State) : State :=
  { s with adcs := s.adcs.map (fun e => (e.1, { e.2 with
      run := e.2.run.map (fun r => if s.elapsed < r.at_ then { r with ts := (s.time + s.devOf (r.at_ - s.elapsed)) % 2 ^ 96 } else r) })) }

/-- R535: the tags of committed commands that have not been sent move by `dNs`. -/
def State.shiftSlots (dNs : Int) (s : State) : State :=
  let mv (n : Nat) : Nat := (((n : Int) + dNs) % 2 ^ 64).toNat
  { s with enc := { s.enc with slots := s.enc.slots.map (fun e =>
      (e.1, { e.2 with sAt := if e.2.sTagged then mv e.2.sAt else e.2.sAt, eAt := if e.2.eTagged then mv e.2.eAt else e.2.eAt })) } }

/-- R528, R531, R535, R560: device time becomes `t`; every compare falling due on this tick is judged against it. -/
def State.stepTo (t : Nat) (s0 : State) : State :=
  let s := s0.unfireAll (fun _ => false)
  let d := (t : Int) - s.time
  let s1 : State := { s with time := t % 2 ^ 96 }
  forAll [0, 1, 2, 3] State.tcmpJudge ((s1.shiftCycle d).retimeAdc.put R.TIME_STATUS_VALID 1)

/-- NOW_LO_READ (R527). -/
def nowLoEffect (s : State) : State :=
  if s.timeUp then
    ((s.put R.TIME_NOW_HI_VAL (s.nowNs / 2 ^ 32)).put R.TIME_NOW_FR_VAL (s.time % 2 ^ 32)).readData [s.nowNs % 2 ^ 32]
  else s

/-- R560: a servo step applied on this tick is taken back, since a SET on the same tick governs. -/
def State.undoStep (s : State) : State :=
  match s.servo.done with
  | none => s
  | some d =>
    if d.at_ = s.elapsed then
      let e : Event := { cls := .time, unit := 0x0401, req := .l0 }
      let s1 := (s.shiftSlots (-d.dNs)).unpost e
      (({ s1 with servo := { s1.servo with done := none, lockCnt := d.cnt } }.putAll
          [(R.TIME_STATUS_LOCKED, b2n d.locked), (R.TIME_STATUS_STEP_HELD, b2n d.held)]).unraise d.flag).addTo
        R.TIME_TSTAT_STEPS (2 ^ R.TIME_TSTAT_STEPS.w - 1)
    else s

/-- R560: a servo step falls due on this tick. -/
def State.stepDue (s : State) : Bool := s.arm.running && decide (s.arm.nextTk ≤ s.cycTime)

/-- TIME_SET (R528, R560, R874). -/
def timeSetEffect (s0 : State) : State :=
  if s0.timeUp then
    let s2 := s0.undoStep
    let s : State := if s2.stepDue then { s2 with servo := { s2.servo with pend := none } } else s2
    let s1 := s.stepTo ((s.get R.TIME_SET_HI_VAL * 2 ^ 32 + s.get R.TIME_SET_LO_VAL) * 2 ^ 32)
    { s1 with
      servo := { s1.servo with setAt := some s.elapsed }
      arm := { s1.arm with stepped := s.arm.stepped || s.arm.running && decide (s.time = s.arm.cycStart) } }
  else s0
/-- TIME_SET: TIME.CTRL.SET loads the counter (R528). -/
def execTimeSet (s : State) : Host.Outcome State Fault Refusal := .next (s.commanded 0x4008 timeSetEffect)

/-- R38, R529, R534: TIME_INC takes a value, and the slewed time moves the end of the cycle in progress. -/
def State.setInc (inc : Nat) (s : State) : State :=
  let s1 := (({ s with servo := { s.servo with inc := inc } }).put R.TIME_INC_NS_NS (inc / 2 ^ 32)).put R.TIME_INC_FR_FR inc
  (if s1.arm.running then s1.planEnd else s1).retimeAdc

/-- INC_NS_WRITE (R529). -/
def incNsEffect (v : Nat) (s : State) : State :=
  if s.timeUp && !s.on R.TIME_SRV_CFG_SRC then s.setInc (v % 256 * 2 ^ 32 + s.get R.TIME_INC_FR_FR) else s
/-- INC_NS_WRITE: a write to INC_NS loads TIME_INC (R529). -/
def execIncNsWrite (v : Nat) (s : State) : Host.Outcome State Fault Refusal := .next (s.commanded 0x4058 (incNsEffect v))

/-- TCMP_TGT_WRITE (R530, R532, R560). -/
def tcmpTgtEffect (c v : Nat) (s : State) : State :=
  if s.timeUp && decide (c < 4) then
    let s0 := if s.servo.fired.any (fun b => decide (b.at_ = s.elapsed ∧ b.ch = c)) then (s.unfireAll (fun k => decide (k ≠ c))).put (R.TIME_TCMP_CFG_ARMED c) 0 else s
    let s1 := s0.put (R.TIME_TCMP_TGT_TGT c) v
    if s1.on (R.TIME_TCMP_CFG_EN c) then (s1.put (R.TIME_TCMP_CFG_ARMED c) 1).tcmpJudge c else s1
  else s
/-- TCMP_TGT_WRITE: a write to TCMP_TGT arms a channel (R532). -/
def execTcmpTgtWrite (c v : Nat) (s : State) : Host.Outcome State Fault Refusal := .next (s.commanded (0x4080 + 8 * c) (tcmpTgtEffect c v))

/-- TIME_COMPARE_FIRE (R530): device time comes to the target. A channel that d has found at or past its target when it was armed, or on
the tick of a step, has fired then, and late; this one fires on its tick. -/
def tcmpFireEffect (c : Nat) (s : State) : State :=
  if s.timeUp && decide (c < 4) && s.on (R.TIME_TCMP_CFG_ARMED c) then
    let d := s.tcmpD c
    (s.reach ((s.nowNs + d.toNat) * 2 ^ 32)).tcmpFire c false
  else s
/-- TIME_COMPARE_FIRE: a compare channel fires (R530). -/
def execTimeCompareFire (c : Nat) (s : State) : Host.Outcome State Fault Refusal := .next (tcmpFireEffect c s)

/-! ## The servo (R533 to R536) -/

/-- The servo unit (R13). -/
def servoUnit : Nat := 0x0401
/-- R534: the rate limit, 250,000 ppb in 2^-16 ppb. -/
def rateLimit : Int := 250000 * 2 ^ 16

/-- R534: TIME_INC of a rate in 2^-16 ppb, rounded to nearest with an exact half upwards. -/
def incOf (rate : Int) : Nat :=
  let den : Int := 2 ^ 16 * 10 ^ 9
  ((2 * (2 ^ 33 * (den + rate)) + den) / (2 * den)).toNat

/-- R534, R577: the rate takes a value. -/
def State.applyRate (rate : Int) (s : State) : State :=
  ((({ s with servo := { s.servo with rate := rate } }).putS R.TIME_RATE_RATE (rate * 1000 / 2 ^ 16))).setInc (incOf rate)

/-- R536: the next offset ends holdover, and the run of small offsets locks the servo. -/
def State.offsetLock (off : Int) (s : State) : State :=
  let s1 := s.put R.TIME_STATUS_HOLDOVER 0
  if off.natAbs ≤ s.get R.TIME_SRV_CFG_LOCK_THR * 2 ^ 16 then
    let n := satTo 8 (s.servo.lockCnt + 1)
    let s2 : State := { s1 with servo := { s1.servo with lockCnt := n } }
    if n = 8 then s2.put R.TIME_STATUS_LOCKED 1 else s2
  else ({ s1 with servo := { s1.servo with lockCnt := 0 } }).put R.TIME_STATUS_LOCKED 0

/-- R534: the servo's computation of one offset in 2^-16 ns. -/
def State.servoCompute (off : Int) (s : State) : State :=
  let acc := s.servo.acc + (s.get R.TIME_SRV_GAIN_KI : Nat) * off / 2 ^ 16
  let r := (s.get R.TIME_SRV_GAIN_KP : Nat) * off / 2 ^ 12 + acc
  let s1 : State := { s with servo := { s.servo with acc := acc } }
  (s1.flagIf (decide (rateLimit < r ∨ r < -rateLimit)) R.TIME_TSTAT_CLAMP).applyRate (clampInt (-rateLimit) rateLimit r)

/-- R534 to R536: an offset in 2^-16 ns reaches the servo. -/
def State.servoTake (off : Int) (s : State) : State :=
  let small := decide (off.natAbs ≤ s.get R.TIME_STEP_THR_THR * 2 ^ 16)
  let s1 := (s.putS R.TIME_OFFSET_OFF (clampInt (-2 ^ 31) (2 ^ 31 - 1) (off / 2 ^ 16))).offsetLock off
  let s2 := if small then s1.put R.TIME_STATUS_STEP_HELD 0 else s1
  if s2.servo.pend.isSome || !s2.on R.TIME_STATUS_VALID || !small then { s2 with servo := { s2.servo with pend := some off } }
  else s2.servoCompute off

/-- R560: the register fields that an offset may change. -/
def offsetFields : List Field :=
  [R.TIME_OFFSET_OFF, R.TIME_STATUS_HOLDOVER, R.TIME_STATUS_LOCKED, R.TIME_STATUS_STEP_HELD, R.TIME_RATE_RATE]

/-- R560: what an offset taken in `s` leaves to take back in `s1`. -/
def State.offsetBack (s s1 : State) : OffsetBack where
  at_ := s.elapsed
  regs := offsetFields.map (fun F => (F, s.get F))
  clamp := s.bitsBack [R.TIME_TSTAT_CLAMP] s1
  inc := s.servo.inc
  acc := s.servo.acc
  rate := s.servo.rate
  pend := s.servo.pend
  cnt := s.servo.lockCnt

/-- R560: an offset of this tick is taken back. -/
def State.offsetUndo (s : State) : State :=
  match s.servo.took with
  | none => s
  | some b =>
    if b.at_ = s.elapsed then
      let s1 := ((s.putAll b.regs).unraise b.clamp).setInc b.inc
      { s1 with servo := { s1.servo with acc := b.acc, rate := b.rate, pend := b.pend, lockCnt := b.cnt, took := none } }
    else s

/-- An offset from source `src`, taken where the servo runs on that source (R533). -/
def State.servoOffset (src : Nat) (off : Int) (s : State) : State :=
  if s.timeUp && !s.unitFenced servoUnit && decide (src ≠ 0) && decide (s.get R.TIME_SRV_CFG_SRC = src) then
    let s1 := s.servoTake off
    { s1 with servo := { s1.servo with took := some (State.offsetBack s s1) } }
  else s

/-- SERVO_OFFSET (R534). -/
def servoOffsetEffect (src : Nat) (off : Int) (s : State) : State := s.servoOffset src off
/-- SERVO_OFFSET: an offset in 2^-16 ns reaches the servo (R534). -/
def execServoOffset (src : Nat) (off : Int) (s : State) : Host.Outcome State Fault Refusal := .next (servoOffsetEffect src off s)

/-- R535: a servo step is applied. -/
def State.servoStep (off : Int) (s : State) : State :=
  let t := (((s.time : Int) + off * 2 ^ 16) % 2 ^ 96).toNat
  let dNs := ((s.time : Int) + off * 2 ^ 16) / 2 ^ 32 - s.nowNs
  let s1 := (s.stepTo t).shiftSlots dNs
  let s2 := (s1.putAll [(R.TIME_STATUS_LOCKED, 0), (R.TIME_STATUS_STEP_HELD, 0)]).raise R.TIME_TSTAT_STEP
  let b : StepDone := { at_ := s.elapsed, dNs := dNs, flag := s1.bitsBack [R.TIME_TSTAT_STEP] s2, locked := s.on R.TIME_STATUS_LOCKED
                        held := s.on R.TIME_STATUS_STEP_HELD, cnt := s.servo.lockCnt }
  let s3 : State := { s2 with servo := { s2.servo with lockCnt := 0, done := some b }, arm := { s2.arm with stepped := true } }
  (s3.addTo R.TIME_TSTAT_STEPS 1).event0 .time servoUnit 0

/-- R534, R535, R560: a pending step is applied at a cycle start, or withheld while selection commands the cells; a SET on the same
tick discards it. -/
def State.stepAtCycle (s : State) : State :=
  match s.servo.pend with
  | none => s
  | some off =>
    if s.timeUp then
      let s1 : State := { s with servo := { s.servo with pend := none } }
      if s.setHere then s1
      else if s.selecting && !s.on R.TIME_SRV_CFG_STEP_RUN then
        (s1.put R.TIME_STATUS_STEP_HELD 1).applyRate (if 0 < off then rateLimit else if off < 0 then -rateLimit else 0)
      else s1.servoStep off
    else s

/-- HOLDOVER_TIMEOUT (R536). -/
def holdoverEffect (s : State) : State :=
  if s.timeUp && !s.unitFenced servoUnit && s.on R.TIME_SRV_CFG_SRC && !s.on R.TIME_STATUS_HOLDOVER then
    ((s.put R.TIME_STATUS_HOLDOVER 1).raise R.TIME_TSTAT_HOLD).eventOpen .time servoUnit 0
  else s
/-- HOLDOVER_TIMEOUT: HOLD_TMO passes without an offset (R536). -/
def execHoldoverTimeout (s : State) : Host.Outcome State Fault Refusal := .next (holdoverEffect s)

/-- SRV_SRC_WRITE (R534, R536, R560, R627): the integrator and the rate are kept, and an offset of the old source on this tick is
discarded; in STANDBY and WARM the write is ignored. -/
def srvSrcEffect (v : Nat) (s : State) : State :=
  if s.variant.hasPair && s.on R.AMBER_CFG_EN && decide (s.amber.role = .standby ∨ s.amber.role = .warm) then s.config R.TIME_SRV_CFG_SRC.addr
  else if s.timeUp then
    let s1 := (if v % 4 = s.get R.TIME_SRV_CFG_SRC then s else s.offsetUndo).put R.TIME_SRV_CFG_SRC v
    if v % 4 = 0 then s1.put R.TIME_STATUS_HOLDOVER 0 else s1
  else s
/-- SRV_SRC_WRITE: a write to SRV_CFG.SRC (R536). -/
def execSrvSrcWrite (v : Nat) (s : State) : Host.Outcome State Fault Refusal := .next (s.commanded 0x405C (srvSrcEffect v))

/-! ## PPS (R537, R538) -/

/-- R537: the offset of an edge at time `u` in 2^-32 ns, in 2^-16 ns. -/
def ppsOffset (u : Int) : Int :=
  let sec : Int := 10 ^ 9 * 2 ^ 32
  ((u + sec / 2) / sec * sec - u) / 2 ^ 16

/-- PPS_IN_EDGE (R537). -/
def ppsInEffect (s : State) : State :=
  if s.timeUp && s.on R.TIME_PPS_CFG_IN_EN then
    let early := match s.servo.ppsAt with | none => false | some p => decide (s.elapsed < p + el 900000000)
    if early then s
    else
      let s1 := (({ s with servo := { s.servo with ppsAt := some s.elapsed } }).put R.TIME_PPS_TS_TS (tag32 s.nowNs)).cond R.TIME_TSTAT_PPS_MISS false
      s1.servoOffset 3 (ppsOffset ((s.time : Int) - (s.get R.TIME_PPS_CFG_IN_DLY * 2 ^ 32 : Nat)))
  else s
/-- PPS_IN_EDGE: a rising edge at PPS_IN (R537). -/
def execPpsInEdge (s : State) : Host.Outcome State Fault Refusal := .next (ppsInEffect s)

/-- R537: the elapsed time from which PPS_IN is awaited: the last accepted edge, or the write that set IN_EN. -/
def State.ppsAwaited (s : State) : Nat := max (s.servo.ppsAt.getD 0) s.servo.ppsFrom

/-- PPS_MISS_TIMEOUT (R537, R902): time comes to 1.1 s after that instant. -/
def ppsMissEffect (s : State) : State :=
  if s.timeUp && s.on R.TIME_PPS_CFG_IN_EN then (s.pass (s.ppsAwaited + el 1100000000)).cond R.TIME_TSTAT_PPS_MISS true else s
/-- PPS_MISS_TIMEOUT: no PPS_IN edge has been accepted for 1.1 s (R537). -/
def execPpsMissTimeout (s : State) : Host.Outcome State Fault Refusal := .next (ppsMissEffect s)

/-- PPS_OUT_RISE (R538): device time comes to the next multiple of 10^9 ns. -/
def ppsRiseEffect (s : State) : State :=
  if s.timeUp && s.on R.TIME_PPS_CFG_OUT_EN && s.on R.TIME_STATUS_VALID then
    let s1 := s.reach ((s.nowNs + 999999999) / 10 ^ 9 * 10 ^ 9 * 2 ^ 32)
    { s1 with servo := { s1.servo with ppsOut := true, ppsRise := s1.elapsed } }
  else s
/-- PPS_OUT_RISE: the ns count becomes a multiple of 10^9 (R538). -/
def execPpsOutRise (s : State) : Host.Outcome State Fault Refusal := .next (ppsRiseEffect s)

/-- PPS_OUT_FALL (R538): OUT_W ms have passed since the rise. -/
def ppsFallEffect (s : State) : State :=
  if s.timeUp && s.servo.ppsOut then
    let s1 := s.pass (s.servo.ppsRise + el (s.get R.TIME_PPS_CFG_OUT_W * 10 ^ 6))
    { s1 with servo := { s1.servo with ppsOut := false } }
  else s
/-- PPS_OUT_FALL: PPS_OUT falls (R538). -/
def execPpsOutFall (s : State) : Host.Outcome State Fault Refusal := .next (ppsFallEffect s)

/-- One tick of the 500 MHz clock: device time adds TIME_INC (R526). -/
def State.timeTick (s : State) : State :=
  let s1 : State := { s with elapsed := s.elapsed + 2 ^ 33 }
  if s.timeUp then { s1 with time := (s.time + s.servo.inc) % 2 ^ 96 } else s1

end Sys2Proof.Machine
end

