-- ==== Sys2Proof/Machine/ArmOps.lean ====
section
/-! DEFINITION. Changes of the arm state that several chapters make: entry to BLOCKED and DEBUG_HALT, and GO_BLOCK (R49,
R52, R54, R55). -/

namespace Sys2Proof.Machine

/-- The subscriber's unit (R13). -/
def subUnit : Nat := 0x0710
/-- Bit `j` of the stream enables (R597). -/
def State.streamOn (s : State) (j : Nat) : Bool :=
  if j < 32 then bitOf (s.get R.NETSV_SVS_EN_LO_EN) j else bitOf (s.get R.NETSV_SVS_EN_HI_EN) (j - 32)

/-- R549: the loss of the stream blocks the arm: it is critical, or it carries ARM_CH. -/
def State.streamKey (s : State) (j : Nat) (x : StreamSt) : Bool :=
  x.decl.crit || s.net.chans.any (fun e => decide (e.1 = s.get R.NETSV_SV_CFG_ARM_CH) && decide (e.2.decl.stream = j))

/-- R560: the arm leaves OFF while critical streams are LOST. -/
def State.leaveOff (s : State) : State :=
  (s.net.streams.filter (fun e => e.2.lost && s.streamOn e.1 && s.streamKey e.1 e.2)).foldl
    (fun a e => a.post { cls := .net, unit := subUnit, req := .atLeast 3, standing := true, src := e.1 }) s

/-- R90: ARM.LVL reads 0 while no selection runs. -/
def State.lvlShow (s : State) : State :=
  if s.selecting then s else s.putAll [(R.ARM_LVL_N_START, 0), (R.ARM_LVL_N_END, 0)]

/-- The arm takes a state at a commit (R52, R71, R560). -/
def State.setArmMode (m : ArmMode) (s : State) : State :=
  let off := decide (s.arm.mode = .off) && decide (m ≠ .off)
  let s1 := ({ s with arm := { s.arm with mode := m, loopFirst := s.arm.loopFirst || off } }).lvlShow
  if off then s1.leaveOff else s1

/-- R52, R55: an immediate entry to BLOCKED or DEBUG_HALT. -/
def State.armImmediate (m : ArmMode) (s : State) : State :=
  let s1 : State := { s with
    arm := { s.arm with mode := m, prev := if m = .debugHalt then s.arm.mode else s.arm.prev }
    rank := { s.rank with plan := none } }
  s1.lvlShow.blockSlots.askBlockFrames

/-- R52: the arm enters BLOCKED from CHARGE or RUN. -/
def State.armBlock (s : State) : State :=
  match s.arm.mode with
  | .charge => s.armImmediate .blocked
  | .run => s.armImmediate .blocked
  | .off => s
  | .blocked => s
  | .debugHalt => s

/-- R52: L3 or L4 reaches the arm. In DEBUG_HALT it makes the arm leave for BLOCKED, at the first commit at which no core is halted
(DEDUCED, notes/assumptions/53.md). -/
def State.armFault (s : State) : State :=
  if s.arm.mode = .debugHalt then { s with arm := { s.arm with prev := .blocked } } else s.armBlock

/-- R52: a debug halt reaches the arm. -/
def State.armHalt (s : State) : State :=
  match s.arm.mode with
  | .charge => s.armImmediate .debugHalt
  | .run => s.armImmediate .debugHalt
  | .blocked => s.armImmediate .debugHalt
  | .off => s
  | .debugHalt => s

/-- R53, R54: GO_BLOCK. A state command that waits is dropped with it. -/
def State.goBlock (s : State) : State :=
  if s.up 5 then
    match s.arm.mode with
    | .charge => ({ s with arm := { s.arm with pend := none, pendLate := false } }).armBlock
    | .run => ({ s with arm := { s.arm with pend := none, pendLate := false } }).armBlock
    | .off => s
    | .blocked => s
    | .debugHalt => s
  else s

/-- R24: a sampled-value subscription is enabled. -/
def State.svSubs (s : State) : Bool :=
  s.on R.NETSV_CTRL_SV_EN && (s.on R.NETSV_SVS_EN_LO_EN || s.on R.NETSV_SVS_EN_HI_EN)
/-- R24: a PWM channel or a position interface is enabled. -/
def State.driveUsed (s : State) : Bool :=
  (List.range 16).any (fun c => s.on (R.CH_CTRL_EN c)) || [0, 1].any (fun i => s.on (R.POS_CTRL_EN i))
/-- R24: the least level of the loss of a glade. -/
def State.lossLevel (s : State) (g : Nat) : Nat :=
  if 16 ≤ g ∧ g < 32 then
    (if (List.range s.variant.groves).any (fun k => decide (16 + k ≠ g) && !s.gladeFenced (16 + k)) then 2 else 4)
  else if 32 ≤ g then 2
  else if g = 10 then 2
  else if g = 6 then (if s.pairOp && decide (s.amber.role = .active) then 4 else 2)
  else if g = 7 then (if s.svSubs then 3 else 2)
  else if g = 9 then (if s.driveUsed then 3 else 2)
  else if g = 8 ∨ g = 3 then 3
  else 4
/-- R24, R732: the event of the loss of a glade. -/
def State.gladeLoss (g : Nat) (s : State) : State :=
  s.post { cls := .clk, unit := 256 * g, glade := true, req := .atLeast (s.lossLevel g), standing := true }

/-- R61: the STATE code. -/
def armCode : ArmMode → Nat
  | .off => 0
  | .charge => 1
  | .blocked => 2
  | .run => 3
  | .debugHalt => 4

end Sys2Proof.Machine
end

