-- ==== Sys2Proof/Machine/Net.lean ====
section
/-! DEFINITION. Ethernet ports, PRP and HSR, sampled values and GOOSE (R539 to R555). -/

namespace Sys2Proof.Machine

/-- The network part changed. -/
def State.modNet (f : NetSt → NetSt) (s : State) : State := { s with net := f s.net }

/-! ## Ports (R539 to R542) -/

/-- The port's unit (R13). -/
def ethUnit (p : Nat) : Nat := 0x0700 + p
/-- The port exists and neither it nor its glade is fenced. -/
def State.ethUp (s : State) (p : Nat) : Bool := decide (p < 4) && s.unitUp (ethUnit p)
/-- The even port of a port's pair. -/
def pairLead (p : Nat) : Nat := p / 2 * 2
/-- R543: the mode of a port's pair: 0 none, 1 PRP, 2 HSR. -/
def State.pairMode (s : State) (p : Nat) : Nat := s.get (R.ETH_CFG_PAIR (pairLead p))
/-- R540: the port runs 1000BASE-X with auto-negotiation. -/
def State.anRuns (s : State) (p : Nat) : Bool := s.on (R.ETH_CFG_AN_EN p) && s.on (R.LANE_CFG_RATE (112 + p))

/-- R540, R541: the link is up. -/
def State.linkUp (s : State) (p : Nat) : Bool :=
  s.ethUp p && s.on (R.ETH_CTRL_EN p) && decide ((s.lane (112 + p)).mode = .locked) && (!s.anRuns p || s.on (R.ETH_STATUS_AN_DONE p))

/-- R539: the Ethertypes that a port passes on; 0x88B5 is the Garnet channel's (R705). -/
def ethTypes : List Nat := [0x88BA, 0x88B8, 0x88F7, 0x88FB, 0x892F, 0x88B5]

/-- R543: a frame's duplicate key, where it carries one that the pair's mode uses. -/
def dupKey (mode : Nat) : RedTag → Option Nat
  | .none => none
  | .prp q _ => if mode = 1 then some q else none
  | .hsr q => if mode = 2 then some q else none

/-- R543, R544: a frame with a duplicate key meets the pair's table. -/
def State.pairJudge (p q : Nat) (f : EthFrame) (s : State) : State :=
  let k := p / 2
  let bit := if p % 2 = 0 then 1 else 2
  let t := tget [] s.net.dups k
  if t.any (fun e => decide (e.srcMac = f.srcMac ∧ e.seq = q)) then
    let t1 := t.map (fun e => if e.srcMac = f.srcMac ∧ e.seq = q then { e with lans := Nat.lor e.lans bit } else e)
    (s.modNet (fun n => { n with dups := tset [] n.dups k t1 })).addTo (R.ETH_PAIR_CNT_DUP (pairLead p)) 1
  else s.modNet (fun n => { n with dups := tset [] n.dups k ((⟨f.srcMac, q, bit, bit⟩ :: t).take 1024) })

/-- R587: the source address of a port. -/
def State.portMac (s : State) (p : Nat) : Nat := s.get (R.ETH_MAC_HI_MAC p) * 2 ^ 32 + s.get (R.ETH_MAC_LO_MAC p)

/-- R543: an HSR pair meets a frame that this device has sent: it carries the address of one of its ports (R587). -/
def State.isOwn (s : State) (p srcMac : Nat) (red : RedTag) : Bool :=
  (match red with | .hsr _ => decide (s.pairMode p = 2) | .none => false | .prp _ _ => false)
    && decide (srcMac = s.portMac p ∨ srcMac = s.portMac (partner p))

/-- R543, R544: the pair has discarded this frame: its first copy came in on the other port, or this device has sent it. -/
def State.isCopy (s : State) (p srcMac : Nat) (red : RedTag) : Bool :=
  s.isOwn p srcMac red || match dupKey (s.pairMode p) red with
  | none => false
  | some q => (tget [] s.net.dups (p / 2)).any (fun e =>
      decide (e.srcMac = srcMac ∧ e.seq = q ∧ e.first ≠ if p % 2 = 0 then 1 else 2))

/-! ## Frames that leave (R543, R586, R587) -/

/-- R543: the ports on which a frame for a set of ports leaves: a pair sends a copy on each of its two. -/
def State.sendPorts (s : State) (mask : Nat) : List Nat :=
  [0, 1, 2, 3].filter (fun p => bitOf mask p || decide (s.pairMode p ≠ 0) && bitOf mask (partner p))

/-- R543: the redundancy information of a frame that leaves on a port. -/
def State.redOf (s : State) (p : Nat) : RedTag :=
  let q := tget 0 s.net.txSeq (p / 2)
  if s.pairMode p = 1 then .prp q (0xA + p % 2) else if s.pairMode p = 2 then .hsr q else .none

/-- R704: the zero bytes that bring a frame to the 64-byte minimum: addresses, Ethertype and FCS take 18 bytes, a VLAN tag 4, a PRP trailer
or HSR tag 6. -/
def ethPad (vlan : Option (Nat × Nat)) (red : RedTag) : EthBody → Nat
  | .garnet pdu => 64 - (18 + (if vlan.isSome then 4 else 0) + (match red with | .none => 0 | .prp _ _ => 6 | .hsr _ => 6) + pdu.length)
  | .goose _ => 0
  | .supervision => 0
  | .ptp _ => 0
  | .forward _ => 0

/-- R543, R586: one port sends a frame where its link is up. -/
def State.portSend (dst etype : Nat) (tagged : Bool) (body : EthBody) (p : Nat) (s : State) : State :=
  if s.linkUp p then
    let vlan := if tagged && s.on (R.ETH_CFG_PUB_VLAN p) then some (s.get (R.ETH_CFG_PUB_PCP p), s.get (R.ETH_CFG_PUB_VID p)) else none
    let f : EthTx := { dst := dst, src := s.portMac p, vlan := vlan, red := s.redOf p, etype := etype, body := body, pad := ethPad vlan (s.redOf p) body }
    s.modNet (fun n => { n with sentOn := tset none n.sentOn p (some f) })
  else s

/-- R543: a frame leaves on a set of ports; a pair numbers it once for both of its copies. -/
def State.ethSend (mask dst etype : Nat) (tagged : Bool) (body : EthBody) (s : State) : State :=
  let ps := s.sendPorts mask
  let s1 := forAll ps (State.portSend dst etype tagged body) s
  forAll ([0, 1].filter (fun k => decide (s.pairMode (2 * k) ≠ 0) && ps.contains (2 * k))) (fun k a =>
    a.modNet (fun n => { n with txSeq := tset 0 n.txSeq k ((tget 0 n.txSeq k + 1) % 65536) })) s1

/-- R543: the PRP trailer names the other LAN. -/
def wrongLan (mode p : Nat) : RedTag → Bool
  | .none => false
  | .prp _ lan => decide (mode = 1) && decide (lan ≠ 0xA + p % 2)
  | .hsr _ => false

/-- R543: a frame of the HSR ring is passed on at the partner's port, as it came. -/
def State.hsrForward (q : Nat) (f : EthFrame) (s : State) : State :=
  let g : EthTx := { dst := 0, src := f.srcMac, vlan := none, red := f.red, etype := f.etype, body := .forward f }
  s.modNet (fun n => { n with
    fwd := tset 0 n.fwd q (tget 0 n.fwd q + 1), sentOn := if s.linkUp q then tset none n.sentOn q (some g) else n.sentOn })

/-- R543, R544: what a pair does with an accepted frame. -/
def State.pairTake (p : Nat) (f : EthFrame) (s : State) : State :=
  let mode := s.pairMode p
  let s1 := s.flagIf (wrongLan mode p f.red) (R.ETH_PSTAT_WRONG_LAN p)
  if s.isOwn p f.srcMac f.red then s1
  else
    let s2 := match f.red with
      | .hsr _ => if mode = 2 then s1.hsrForward (partner p) f else s1
      | .none => s1
      | .prp _ _ => s1
    match dupKey mode f.red with
    | none => s2
    | some q => s2.pairJudge p q f

/-- ETH_FRAME_RECEIVED (R539, R543, R544). -/
def ethFrameEffect (p : Nat) (f : EthFrame) (s : State) : State :=
  if s.ethUp p && s.on (R.ETH_CTRL_EN p) then
    if !f.fcsOk then (s.addTo (R.ETH_ERR_CNT_FCS p) 1).raise (R.ETH_PSTAT_FCS p)
    else if f.size < 64 ∨ 1522 < f.size then (s.addTo (R.ETH_ERR_CNT_DROP p) 1).raise (R.ETH_PSTAT_SIZE p)
    else if !ethTypes.contains f.etype then (s.addTo (R.ETH_ERR_CNT_DROP p) 1).raise (R.ETH_PSTAT_TYPE_DROP p)
    else (s.addTo (R.ETH_RX_CNT_FRAMES p) 1).pairTake p f
  else s
/-- ETH_FRAME_RECEIVED: an Ethernet port receives a frame (R539). -/
def execEthFrameReceived (p : Nat) (f : EthFrame) (s : State) : Host.Outcome State Fault Refusal := .next (ethFrameEffect p f s)

/-- PRP_ENTRY_EXPIRED (R543, R544). -/
def prpExpiredEffect (k srcMac q : Nat) (s : State) : State :=
  let t := tget [] s.net.dups k
  match t.find? (fun e => decide (e.srcMac = srcMac ∧ e.seq = q)) with
  | none => s
  | some e =>
    if s.up 7 then
      let s1 := s.modNet (fun n => { n with dups := tset [] n.dups k (t.filter (fun x => !decide (x.srcMac = srcMac ∧ x.seq = q))) })
      if e.lans = 3 then s1 else (s1.addTo (R.ETH_PAIR_CNT_UNPAIRED (2 * k)) 1).raise (R.ETH_PSTAT_UNPAIRED (2 * k))
    else s
/-- PRP_ENTRY_EXPIRED: a duplicate-table entry is 400 ms old (R544). -/
def execPrpEntryExpired (k srcMac q : Nat) (s : State) : Host.Outcome State Fault Refusal := .next (prpExpiredEffect k srcMac q s)

/-- R543: the multicast address of supervision frames (PRESUMED: the default of IEC 62439-3, notes/assumptions/62.md). -/
def superMac : Nat := 0x01154E000100

/-- PRP_SUPERVISION_SEND (R543). -/
def prpSuperEffect (k : Nat) (s : State) : State :=
  if s.up 7 && decide (k < 2) && decide (s.get (R.ETH_CFG_PAIR (2 * k)) ≠ 0) then
    (s.modNet (fun n => { n with supers := tset 0 n.supers k (tget 0 n.supers k + 1) })).ethSend (2 ^ (2 * k)) superMac 0x88FB false .supervision
  else s
/-- PRP_SUPERVISION_SEND: a pair sends a supervision frame (R543). -/
def execPrpSupervisionSend (k : Nat) (s : State) : Host.Outcome State Fault Refusal := .next (prpSuperEffect k s)

/-- AUTO_NEGOTIATION_DONE (R540). -/
def anDoneEffect (p : Nat) (full : Bool) (s : State) : State :=
  if s.ethUp p && s.on (R.ETH_CTRL_EN p) && s.anRuns p then
    if full then s.put (R.ETH_STATUS_AN_DONE p) 1 else s.raise (R.ETH_PSTAT_AN_FAIL p)
  else s
/-- AUTO_NEGOTIATION_DONE: clause 37 auto-negotiation completes (R540). -/
def execAutoNegotiationDone (p : Nat) (full : Bool) (s : State) : Host.Outcome State Fault Refusal := .next (anDoneEffect p full s)

/-- SFP_READ (R542, R592). -/
def sfpReadEffect (p v : Nat) (s : State) : State :=
  if s.ethUp p then
    let s1 := (s.put (R.ETH_SFP_CMD_DEV p) (bits v 24 1)).put (R.ETH_SFP_CMD_ADDR p) (bits v 8 8)
    if s.on (R.ETH_SFP_CMD_BUSY p) then s1.config (R.ETH_SFP_CMD_GO p).addr else s1.put (R.ETH_SFP_CMD_BUSY p) 1
  else s
/-- SFP_READ: SFP_CMD.GO starts a one-byte read (R542). -/
def execSfpRead (p v : Nat) (s : State) : Host.Outcome State Fault Refusal := .next (s.commanded (0xA005C + 0x1000 * p) (sfpReadEffect p v))

/-- SFP_READ_DONE (R542): a read that is not acknowledged brings no byte. -/
def sfpDoneEffect (p res data : Nat) (s : State) : State :=
  if s.ethUp p && s.on (R.ETH_SFP_CMD_BUSY p) then
    let s1 := (s.put (R.ETH_SFP_CMD_BUSY p) 0).put (R.ETH_SFP_CMD_RESULT p) res
    if res = 0 then s1.put (R.ETH_SFP_CMD_DATA p) data else s1
  else s
/-- SFP_READ_DONE: the SFP byte read completes (R542). -/
def execSfpReadDone (p res data : Nat) (s : State) : Host.Outcome State Fault Refusal := .next (sfpDoneEffect p res data s)

/-! ## Sampled values (R545 to R549) -/

/-- R626: the role is STANDBY. -/
def State.isStandby (s : State) : Bool := s.pairOp && decide (s.amber.role = .standby)
/-- The subscriber runs. -/
def State.svUp (s : State) : Bool := s.unitUp subUnit && !s.isStandby && s.on R.NETSV_CTRL_SV_EN

/-- A stream replaced. -/
def State.setStream (j : Nat) (x : StreamSt) (s : State) : State := s.modNet (fun n => { n with streams := insertKey j x n.streams })
/-- A channel replaced. -/
def State.setChan (c : Nat) (x : ChanSt) (s : State) : State := s.modNet (fun n => { n with chans := insertKey c x n.chans })

/-- R546: the frame belongs to the stream. -/
def streamMatch (d : StreamDecl) (f : SvFrame) : Bool :=
  decide (d.dst = f.dst ∧ d.appid = f.appid ∧ d.svid = f.svid) && bitOf d.ports f.port

/-- R547: the ASDU with the highest smpCnt. -/
def topAsdu : List Asdu → Option Asdu
  | [] => none
  | a :: t =>
    match topAsdu t with
    | none => some a
    | some b => if a.smpCnt < b.smpCnt then some b else some a

/-- R547: the value of a channel from an entry. -/
def svValue (v mul : Int) : Nat := codeOf 32 ((v * mul + 2 ^ 39) / 2 ^ 40)

/-- R547: the quality allows the entry. -/
def svGood (q : Nat) : Bool := decide (q % 4 = 0) && !bitOf q 11

/-- R72, R548: the routed channel becomes the arm current. The spec states no inverse of the most negative word: a free value (DESIGN
CHOICE, log entry 58). -/
def State.armCurrent (v : Nat) (s : State) : State :=
  if s.on R.ARM_CTRL_I_SRC && s.up 5 then
    if s.on R.ARM_CTRL_I_NEG then
      if v % 2 ^ 32 = 2 ^ 31 then (s.put R.ARM_I_ARM_I (s.freeNat 32)).useFree 1 else s.putS R.ARM_I_ARM_I (-signedOf 32 v)
    else s.putS R.ARM_I_ARM_I (signedOf 32 v)
  else s

/-- R22, R72, R548: the channel that SV_CFG routes goes over the link to the arm glade. -/
def State.routeArm (c v : Nat) (s : State) : State :=
  if c = s.get R.NETSV_SV_CFG_ARM_CH then s.overLink 7 5 (State.armCurrent v) else s

/-- R22, R548: an updated channel is delivered. -/
def State.svDeliver (c v : Nat) (d : ChannelDecl) (s : State) : State :=
  let s1 := (s.overLink 7 8 (State.svToLoops c v)).routeArm c v
  let s2 := if d.postOp then s1.postOperandFrom 7 d.tag d.opIdx v else s1
  if d.postEvt then s2.postFlagFrom 7 d.flag else s2

/-- R547, R549: one channel of an accepted ASDU. -/
def State.svChannel (bad : Bool) (a : Asdu) (c : Nat) (x : ChanSt) (s : State) : State :=
  match a.entries[x.decl.entry]? with
  | none => s.setChan c { x with qbad := true }
  | some (v, q) =>
    if bad || !svGood q then s.setChan c { x with qbad := true }
    else
      let w := svValue v x.decl.mul
      (s.setChan c { x with val := w, got := true, qbad := false }).svDeliver c w x.decl

/-- R547: some channel of the stream is not delivered. -/
def svAnyBad (a : Asdu) (cs : List (Nat × ChanSt)) : Bool :=
  cs.any (fun e => match a.entries[e.2.decl.entry]? with | none => true | some (_, q) => !svGood q)

/-- R549: the samples between the last accepted one and the newest of a frame that the frame does not carry, counted modulo the rate. -/
def svGap (rate : Nat) (last : Option Nat) (top : Nat) (cnts : List Nat) : Nat :=
  match last with
  | none => 0
  | some l =>
    let ahead (c : Nat) : Nat := (((c : Int) - l) % (max 1 rate : Nat)).toNat
    ahead top - (cnts.eraseDups.filter (fun c => decide (0 < ahead c ∧ ahead c ≤ ahead top))).length

/-- R545: an ASDU in the form of its stream: its entries, at most 32 of them, each an INT32 value with a 32-bit quality. -/
def asduOk (d : StreamDecl) (a : Asdu) : Bool :=
  decide (a.entries.length = d.entries ∧ a.entries.length ≤ 32)
    && a.entries.all (fun e => decide (-2 ^ 31 ≤ e.1 ∧ e.1 < 2 ^ 31) && decide (e.2 < 2 ^ 32))

/-- R547, R549: an accepted ASDU of stream j, from a frame with the sample counts `cnts`. -/
def State.svTake (j : Nat) (x : StreamSt) (cnts : List Nat) (a : Asdu) (s : State) : State :=
  let cs := s.net.chans.filter (fun e => decide (e.2.decl.stream = j))
  let gap := svGap x.decl.rate x.last a.smpCnt cnts
  let bad := decide (a.synch < x.decl.synchReq)
  let q := bad || svAnyBad a cs
  let x1 := { x with
    lost := false, synch := a.synch % 4, last := some a.smpCnt
    seen := (a.smpCnt :: x.seen).take (max 1 (x.decl.rate / 2))
    miss := (x.miss + gap) % 65536, qbad := (x.qbad + b2n q) % 65536 }
  let s1 := ((s.setStream j x1).flagIf (decide (0 < gap)) R.NETSV_NSTAT_SV_MISS).flagIf bad R.NETSV_NSTAT_SV_SYNCH
  cs.foldl (fun acc e => acc.svChannel bad a e.1 e.2) (s1.flagIf q R.NETSV_NSTAT_SV_QBAD)

/-- SV_FRAME_RECEIVED (R544 to R549). -/
def svFrameEffect (f : SvFrame) (s : State) : State :=
  if s.svUp && s.ethUp f.port && !s.isCopy f.port f.srcMac f.red && (!f.sim || s.on R.NETSV_SV_CFG_SIM_OK) && decide (1 ≤ f.asdus.length ∧ f.asdus.length ≤ 8) then
    match s.net.streams.find? (fun e => streamMatch e.2.decl f && s.streamOn e.1), topAsdu f.asdus with
    | some (j, x), some a =>
      if x.seen.contains a.smpCnt || !f.asdus.all (asduOk x.decl) then s else s.svTake j x (f.asdus.map (·.smpCnt)) a
    | some _, none => s
    | none, _ => s
  else s
/-- SV_FRAME_RECEIVED: the subscriber decodes a sampled-value frame (R547). -/
def execSvFrameReceived (f : SvFrame) (s : State) : Host.Outcome State Fault Refusal := .next (svFrameEffect f s)

/-- SV_STREAM_TIMEOUT (R549). -/
def svTimeoutEffect (j : Nat) (s : State) : State :=
  match lookupKey s.net.streams j with
  | none => s
  | some x =>
    if s.svUp && s.streamOn j && !x.lost then
      let s1 := (s.setStream j { x with lost := true, seen := [] }).raise R.NETSV_NSTAT_SV_LOST
      if s.streamKey j x && decide (s.arm.mode ≠ .off) then s1.post { cls := .net, unit := subUnit, req := .atLeast 3, standing := true, src := j }
      else s1.post { cls := .net, unit := subUnit, standing := true, src := j }
    else s
/-- SV_STREAM_TIMEOUT: a stream has no accepted frame for TMO (R549). -/
def execSvStreamTimeout (j : Nat) (s : State) : Host.Outcome State Fault Refusal := .next (svTimeoutEffect j s)

/-- SVS_INFO_WRITE (R598). -/
def svsInfoEffect (v : Nat) (s : State) : State :=
  if s.up 7 then
    let j := v % 64
    let s1 := s.put R.NETSV_SVS_INFO_IDX j
    match lookupKey s.net.streams j with
    | none => s1.putAll [(R.NETSV_SVS_INFO_LOST, 0), (R.NETSV_SVS_INFO_CRIT, 0), (R.NETSV_SVS_INFO_SYNCH, 0), (R.NETSV_SVS_INFO_SMPCNT, 0),
        (R.NETSV_SVS_CNT_MISS, 0), (R.NETSV_SVS_CNT_QBAD, 0)]
    | some x => s1.putAll [(R.NETSV_SVS_INFO_LOST, b2n x.lost), (R.NETSV_SVS_INFO_CRIT, b2n x.decl.crit), (R.NETSV_SVS_INFO_SYNCH, x.synch),
        (R.NETSV_SVS_INFO_SMPCNT, x.last.getD 0), (R.NETSV_SVS_CNT_MISS, x.miss), (R.NETSV_SVS_CNT_QBAD, x.qbad)]
  else s
/-- SVS_INFO_WRITE: a write to SVS_INFO.IDX latches a stream's state (R598). -/
def execSvsInfoWrite (v : Nat) (s : State) : Host.Outcome State Fault Refusal := .next (s.commanded 0xA404C (svsInfoEffect v))

/-- SVC_INFO_WRITE (R600, R601). -/
def svcInfoEffect (v : Nat) (s : State) : State :=
  if s.up 7 then
    let c := v % 256
    let s1 := s.put R.NETSV_SVC_INFO_IDX c
    match lookupKey s.net.chans c with
    | none => s1.putAll [(R.NETSV_SVC_INFO_STALE, 1), (R.NETSV_SVC_INFO_QBAD, 0), (R.NETSV_SVC_INFO_STREAM, 0), (R.NETSV_SVC_INFO_ENTRY, 0),
        (R.NETSV_SVC_VAL_VAL, 0)]
    | some x =>
      let lost := match lookupKey s.net.streams x.decl.stream with | none => false | some y => y.lost
      s1.putAll [(R.NETSV_SVC_INFO_STALE, b2n (!x.got || lost)), (R.NETSV_SVC_INFO_QBAD, b2n x.qbad), (R.NETSV_SVC_INFO_STREAM, x.decl.stream),
        (R.NETSV_SVC_INFO_ENTRY, x.decl.entry), (R.NETSV_SVC_VAL_VAL, x.val)]
  else s
/-- SVC_INFO_WRITE: a write to SVC_INFO.IDX latches a channel (R600). -/
def execSvcInfoWrite (v : Nat) (s : State) : Host.Outcome State Fault Refusal := .next (s.commanded 0xA4054 (svcInfoEffect v))

/-! ## GOOSE (R550 to R555) -/

/-- The GOOSE engine's unit (R13). -/
def gooseUnit : Nat := 0x0711

/-- R551: the highest unacknowledged level. -/
def State.openLevel (s : State) : Nat := s.flt.recs.foldl (fun m e => if e.2.used then max m e.2.level else m) 0
/-- R551: the class of the newest L3 or L4 record. -/
def State.newestL3 (s : State) : Nat :=
  (s.flt.recs.foldl (fun m e => if e.2.used && decide (3 ≤ e.2.level) && decide (m.1 ≤ e.2.tsEl) then (e.2.tsEl, e.2.cls) else m) (0, 0)).2
/-- R551: the ROLE member. -/
def State.roleCode (s : State) : Nat :=
  if s.on R.AMBER_CFG_EN then
    match s.amber.role with
    | .none => 0
    | .active => 1
    | .takeover => 1
    | .standby => 2
    | .warm => 2
  else 0

/-- R550, R551: the members that a publication carries: the device's own data set, or 8 BOOLEAN members, the lowest bit first. -/
def State.pubMembers (s : State) (k : Nat) : List Nat :=
  if k = 0 then [b2n s.openL3, s.openLevel, armCode s.arm.mode, s.roleCode, s.newestL3]
  else (List.range 8).map (fun j => bits (s.get R.NETSV_GP_DATA_DATA) (8 * (k - 1) + j) 1)

/-- R550: a publication is sent. -/
def State.pubOn (s : State) (k : Nat) : Bool :=
  s.unitUp gooseUnit && s.on R.NETSV_CTRL_GP_EN && bitOf (s.get R.NETSV_GP_CFG_PUB_EN) k && (decide (k = 0) || !s.isStandby)

/-- A publication replaced. -/
def State.setPub (k : Nat) (x : PubSt) (s : State) : State := s.modNet (fun n => { n with pubs := insertKey k x n.pubs })

/-- R550, R552, R586: a publication's frame leaves on its ports. -/
def State.pubSend (k : Nat) (x : PubSt) (s : State) : State :=
  let d := x.decl
  (s.setPub k x).ethSend d.ports d.dst 0x88B8 true (.goose
    { appid := d.appid, gocbRef := d.gocbRef, datSet := d.datSet, goID := d.goID, confRev := d.confRev, tal := x.tal
      stNum := x.stNum, sqNum := x.sqNum, members := x.members.getD [] })

/-- R552, R553: a publication whose members have changed sends a new state. -/
def State.pubNew (k : Nat) (s : State) : State :=
  match lookupKey s.net.pubs k with
  | none => s
  | some x =>
    let m := s.pubMembers k
    if s.pubOn k && decide (x.members ≠ some m) then
      let i := s.get R.NETSV_GP_CFG_MIN_T
      (s.pubSend k { x with members := some m, stNum := x.stNum + 1, sqNum := 0, ivl := i, since := 0, tal := 2 * i, frames := x.frames + 1 }).flagIf
        (decide (k = 0) && decide (m.head? = some 1)) R.NETSV_NSTAT_TRIP_PUB
    else s

/-- GOOSE_NEW_STATE (R552). -/
def gooseNewEffect (k : Nat) (s : State) : State := s.pubNew k
/-- GOOSE_NEW_STATE: a member of a publication has changed (R552). -/
def execGooseNewState (k : Nat) (s : State) : Host.Outcome State Fault Refusal := .next (gooseNewEffect k s)

/-- R553: under L4 the network glade stops after the repeat at 31 MIN_T. -/
def State.gooseStop (k since : Nat) (s : State) : State :=
  if s.flt.l4 && decide (k = 0) && decide (31 * s.get R.NETSV_GP_CFG_MIN_T ≤ since) then s.setGlade 7 { s.glade 7 with stopped := true } else s

/-- GOOSE_REPEAT (R552, R553). -/
def gooseRepeatEffect (k : Nat) (s : State) : State :=
  match lookupKey s.net.pubs k with
  | none => s
  | some x =>
    if s.pubOn k && x.members.isSome then
      if x.members = some (s.pubMembers k) then
        let i := min (2 * x.ivl) (10 * s.get R.NETSV_GP_CFG_MAX_T)
        (s.pubSend k { x with sqNum := x.sqNum + 1, since := x.since + x.ivl, ivl := i, tal := 2 * i, frames := x.frames + 1 }).gooseStop k
          (x.since + x.ivl)
      else s.pubNew k
    else s
/-- GOOSE_REPEAT: a publication's repeat interval ends (R552). -/
def execGooseRepeat (k : Nat) (s : State) : Host.Outcome State Fault Refusal := .next (gooseRepeatEffect k s)

/-- GP_DATA_WRITE (R603). -/
def gpDataEffect (v : Nat) (s : State) : State :=
  if s.up 7 then
    let ks := [1, 2, 3].filter (fun k => decide (bits v (8 * (k - 1)) 8 ≠ bits (s.get R.NETSV_GP_DATA_DATA) (8 * (k - 1)) 8))
    forAll ks State.pubNew (s.put R.NETSV_GP_DATA_DATA v)
  else s
/-- GP_DATA_WRITE: a write to GP_DATA (R603). -/
def execGpDataWrite (v : Nat) (s : State) : Host.Outcome State Fault Refusal := .next (s.commanded 0xA4060 (gpDataEffect v))

/-- R604: subscription j is enabled and evaluated. -/
def State.subOn (s : State) (j : Nat) : Bool :=
  s.unitUp gooseUnit && !s.isStandby && s.on R.NETSV_CTRL_GS_EN && bitOf (s.get (R.NETSV_GS_EN_EN (j / 32))) (j % 32)

/-- A subscription replaced. -/
def State.setSub (j : Nat) (x : SubSt) (s : State) : State := s.modNet (fun n => { n with subs := insertKey j x n.subs })

/-- R555: the member of a subscription has become TRUE (DEDUCED for a test frame, notes/assumptions/52.md). -/
def State.subAct (d : SubDecl) (test : Bool) (s : State) : State :=
  if d.action = 1 then s.postFlagFrom 7 d.flag
  else if d.action = 2 ∧ test = false then (s.goBlock.raise R.NETSV_NSTAT_GS_TRIP).event .net gooseUnit 0
  else s

/-- R554: the numbers are newer than those last accepted. -/
def newerNums (last : Option (Nat × Nat)) (st sq : Nat) : Bool :=
  match last with
  | none => true
  | some (a, b) => decide (a < st) || decide (a = st) && decide (b < sq)

/-- R554, R555, R605: a frame meets one subscription; GS_INFO.CONFREV tells of the last frame. -/
def State.subTake (f : GooseFrame) (j : Nat) (s : State) : State :=
  match lookupKey s.net.subs j with
  | none => s
  | some x =>
    let d := x.decl
    if s.subOn j && decide (d.dst = f.dst ∧ d.appid = f.appid ∧ d.gocbRef = f.gocbRef ∧ d.datSet = f.datSet) then
      match (if d.confRev = f.confRev then (f.members[d.pos]?).join else none) with
      | none => ((s.setSub j { x with confRev := true }).raise R.NETSV_NSTAT_GS_CONFREV).event0 .net gooseUnit 0
      | some b =>
        if !f.ndsCom && (!f.sim || s.on R.NETSV_SV_CFG_SIM_OK) && newerNums x.nums f.stNum f.sqNum then
          let s1 := s.setSub j { x with
            lost := false, val := b, eff := b, confRev := false, test := f.test, nums := some (f.stNum, f.sqNum), talMs := f.talMs }
          if b && !x.eff then s1.subAct d f.test else s1
        else if x.confRev then s.setSub j { x with confRev := false }
        else s
    else s

/-- GOOSE_FRAME_RECEIVED (R544, R554, R555). -/
def gooseFrameEffect (f : GooseFrame) (s : State) : State :=
  if s.isCopy f.port f.srcMac f.red then s else forAll (s.net.subs.map (·.1)) (State.subTake f) s
/-- GOOSE_FRAME_RECEIVED: a GOOSE frame meets the subscriptions (R554). -/
def execGooseFrameReceived (f : GooseFrame) (s : State) : Host.Outcome State Fault Refusal := .next (gooseFrameEffect f s)

/-- GOOSE_SUB_TIMEOUT (R554, R555). -/
def gooseSubTimeoutEffect (j : Nat) (s : State) : State :=
  match lookupKey s.net.subs j with
  | none => s
  | some x =>
    if s.subOn j && !x.lost then
      let s1 := ((s.setSub j { x with lost := true, eff := x.eff || x.decl.failBlk }).raise R.NETSV_NSTAT_GS_LOST).post { cls := .net, unit := gooseUnit, standing := true, src := j }
      if x.decl.failBlk && !x.eff then s1.subAct x.decl false else s1
    else s
/-- GOOSE_SUB_TIMEOUT: a subscription has no accepted frame within timeAllowedtoLive (R554). -/
def execGooseSubTimeout (j : Nat) (s : State) : Host.Outcome State Fault Refusal := .next (gooseSubTimeoutEffect j s)

/-- GS_INFO_WRITE (R605). -/
def gsInfoEffect (v : Nat) (s : State) : State :=
  if s.up 7 then
    let j := v % 128
    let s1 := s.put R.NETSV_GS_INFO_IDX j
    match lookupKey s.net.subs j with
    | none => s1.putAll [(R.NETSV_GS_INFO_LOST, 0), (R.NETSV_GS_INFO_VAL, 0), (R.NETSV_GS_INFO_CONFREV, 0), (R.NETSV_GS_INFO_TEST, 0),
        (R.NETSV_GS_INFO_STNUM, 0)]
    | some x => s1.putAll [(R.NETSV_GS_INFO_LOST, b2n x.lost), (R.NETSV_GS_INFO_VAL, b2n x.val), (R.NETSV_GS_INFO_CONFREV, b2n x.confRev),
        (R.NETSV_GS_INFO_TEST, b2n x.test), (R.NETSV_GS_INFO_STNUM, match x.nums with | none => 0 | some n => n.1)]
  else s
/-- GS_INFO_WRITE: a write to GS_INFO.IDX latches a subscription's state (R605). -/
def execGsInfoWrite (v : Nat) (s : State) : Host.Outcome State Fault Refusal := .next (s.commanded 0xA4074 (gsInfoEffect v))

end Sys2Proof.Machine
end

