-- ==== Sys2Proof/Machine/Ptp.lean ====
section
/-! DEFINITION. The PTP engine (R556 to R559) and the loss of an Ethernet link (R541). Port states are the portState codes
of IEEE 1588-2019, to which R607 refers: 2 FAULTY, 4 LISTENING, 6 MASTER, 7 PASSIVE, 9 SLAVE (notes/assumptions/19.md). -/

namespace Sys2Proof.Machine

/-- The engine's unit (R13). -/
def ptpUnit : Nat := 0x0712
/-- The engine runs. -/
def State.ptpUp (s : State) : Bool := s.unitUp ptpUnit && s.on R.NETSV_PTP_CFG_EN

/-- R558: the Ethernet ports that the engine uses; none on an HSR pair (R544). -/
def State.ptpPorts (s : State) : List Nat :=
  let a := s.get R.NETSV_PTP_CFG_PORT_A
  let b := s.get R.NETSV_PTP_CFG_PORT_B
  (if s.on R.NETSV_PTP_CFG_BC ∧ a ≠ b then [a, b] else [a]).filter (fun p => decide (s.pairMode p ≠ 2))

/-- One PTP port. -/
def State.ptpPort (s : State) (p : Nat) : PtpPort := tget {} s.net.ptp p
/-- A PTP port replaced. -/
def State.setPtp (p : Nat) (x : PtpPort) (s : State) : State := s.modNet (fun n => { n with ptp := tset {} n.ptp p x })

/-- R556: the device's own data set. -/
def State.ptpOwn (s : State) : AnnounceData where
  prio1 := s.get R.NETSV_PTP_CFG_PRIO1
  clkClass := s.net.clock.clkClass
  accuracy := s.net.clock.accuracy
  variance := s.net.clock.variance
  prio2 := s.get R.NETSV_PTP_CFG_PRIO2
  identity := s.net.clock.identity
  steps := 0
  utcOfs := s.getS R.NETSV_PTP_STAT_UTC_OFS

/-- The order key of a data set (R556, the default BMCA). -/
def announceKey (d : AnnounceData) : List Nat := [d.prio1, d.clkClass, d.accuracy, d.variance, d.prio2, d.identity, d.steps]

/-- One list of keys comes before another. -/
def keysBefore : List Nat → List Nat → Bool
  | a :: as, b :: bs => decide (a < b) || decide (a = b) && keysBefore as bs
  | [], _ => false
  | _ :: _, [] => false

/-- The best announced data set over the ports, with its port and its sender. -/
def State.ptpBest (s : State) : Option (Nat × Nat × AnnounceData) :=
  s.ptpPorts.foldl (fun b p =>
    match (s.ptpPort p).best, b with
    | none, _ => b
    | some d, none => some (p, d)
    | some d, some (q, e) => if keysBefore (announceKey d.2) (announceKey e.2) then some (p, d) else some (q, e)) none

/-- R556, R558: the state that the default BMCA gives port p. With no Announce known a port listens, and one that a timeout has made
MASTER stays it. -/
def State.ptpDecide (s : State) (p : Nat) : Nat :=
  let own := s.ptpOwn
  let master := if s.on R.NETSV_PTP_CFG_SLAVE_ONLY then 4 else 6
  let better (e : AnnounceData) : Bool := keysBefore (announceKey own) (announceKey e)
  if own.clkClass ≤ 127 ∧ s.get R.NETSV_PTP_CFG_SLAVE_ONLY = 0 then
    match (s.ptpPort p).best with
    | none => master
    | some e => if better e.2 then master else 7
  else
    match s.ptpBest with
    | none => if (s.ptpPort p).st = 6 then master else 4
    | some (q, _, e) =>
      if better e && !s.on R.NETSV_PTP_CFG_SLAVE_ONLY then master
      else if q = p then 9
      else
        match (s.ptpPort p).best with
        | none => master
        | some d => if announceKey d.2 = announceKey e then 7 else master

/-- R557: the data set of the parent, where a port is SLAVE, with that port and the parent's own. -/
def State.ptpParent (s : State) : Option (Nat × Nat × AnnounceData) := s.ptpBest.filter (fun b => decide ((s.ptpPort b.1).st = 9))

/-- R557, R558: the states of the ports follow the BMCA; a change of parent is flagged. -/
def State.ptpRun (s : State) : State :=
  let s1 := forAll s.ptpPorts (fun p a => a.setPtp p { a.ptpPort p with st := s.ptpDecide p }) s
  let par := s1.ptpParent.map (fun b => b.2.1)
  let s2 := s1.modNet (fun n => { n with parent := par })
  let s3 := if par ≠ s.net.parent then s2.raise R.NETSV_NSTAT_PTP_PARENT else s2
  match s3.ptpParent with
  | some (p, _, d) => (s3.putS R.NETSV_PTP_STAT_UTC_OFS d.utcOfs).put R.NETSV_PTP_MPD_MPD (s3.ptpPort p).mld
  | none => s3

/-- R558: the port is the slave port. -/
def State.ptpSlave (s : State) (p : Nat) : Bool :=
  s.ptpUp && s.ptpPorts.contains p && s.linkUp p && decide ((s.ptpPort p).st = 9)

/-- R557: the offset of a Sync in 2^-16 ns; meanLinkDelay is kept in 2^-4 ns. -/
def syncOffset (t1 corr t2 : Int) (mld : Nat) : Int := t1 + corr - t2 + (mld * 2 ^ 12 : Nat)

/-- R544, R556: the engine takes a message of its domain; a pair delivers each frame once. -/
def State.ptpTakes (s : State) (h : PtpHead) (anyDomain : Bool) : Bool :=
  !s.isCopy h.port h.srcMac h.red && (anyDomain || decide (h.domain = s.get R.NETSV_PTP_CFG_DOMAIN))

/-- PTP_SYNC_RECEIVED (R544, R556, R557). -/
def ptpSyncEffect (h : PtpHead) (t1 corr t2 : Int) (s : State) : State :=
  if s.ptpSlave h.port && s.ptpTakes h false then s.servoOffset 1 (syncOffset t1 corr t2 (s.ptpPort h.port).mld) else s
/-- PTP_SYNC_RECEIVED: a Sync with its Follow_Up, its times in 2^-16 ns (R557). -/
def execPtpSyncReceived (h : PtpHead) (t1 corr t2 : Int) (s : State) : Host.Outcome State Fault Refusal := .next (ptpSyncEffect h t1 corr t2 s)

/-- R556: the address of peer-delay messages. -/
def pdelayMac : Nat := 0x0180C200000E

/-- R556: the Announce data sets of a port with one more, which replaces that of the same sender. -/
def hearAnnounce (sender : Nat) (d : AnnounceData) (l : List (Nat × AnnounceData)) : List (Nat × AnnounceData) :=
  l.filter (fun e => decide (e.1 ≠ sender)) ++ [(sender, d)]

/-- R556: the best of the data sets. -/
def bestOf : List (Nat × AnnounceData) → Option (Nat × AnnounceData)
  | [] => none
  | d :: t =>
    match bestOf t with
    | none => some d
    | some e => if keysBefore (announceKey e.2) (announceKey d.2) then some e else some d

/-- R556, R557: meanLinkDelay in 2^-4 ns from the four times of an exchange in 2^-16 ns. The neighbour rate ratio is that of the neighbour's
clock to the device's own over the time since the exchange before (PRESUMED: the formula of IEEE 1588-2019, notes/assumptions/62.md). -/
def meanDelay (prev : Option (Int × Int)) (t1 t2 t3 t4 : Int) : Nat :=
  let turn := match prev with
    | none => t4 - t1
    | some (p3, p4) => if p4 < t4 then (t4 - t1) * (t3 - p3) / (t4 - p4) else t4 - t1
  ((turn - (t3 - t2)) / 2 ^ 13).toNat % 2 ^ 32

/-- R556: the address of Sync and Announce (PRESUMED: that of IEEE 1588-2019, notes/assumptions/62.md). -/
def ptpMac : Nat := 0x011B19000000

/-- R559: device time as a timestamp in 2^-16 ns. -/
def State.stamp (s : State) : Int := (s.time / 2 ^ 16 : Nat)

/-- R556: the address of a PTP message. -/
def PtpTx.mac : PtpTx → Nat
  | .sync _ => ptpMac
  | .followUp _ _ => ptpMac
  | .announce _ => ptpMac
  | .pdelayReq => pdelayMac
  | .pdelayResp _ => pdelayMac
  | .pdelayFollowUp _ => pdelayMac

/-- R556: PTP messages leave a port one after the other. -/
def State.ptpOut (p : Nat) (l : List PtpTx) (s : State) : State :=
  l.foldl (fun a m => a.ethSend (2 ^ p) m.mac 0x88F7 false (.ptp m)) (s.setPtp p { s.ptpPort p with out := l })

/-- R556: the data set that the device announces: its parent's, one step on, or its own. -/
def State.ptpAnnounced (s : State) : AnnounceData :=
  match s.ptpParent with
  | some (_, _, d) => { d with steps := d.steps + 1 }
  | none => s.ptpOwn

/-- PTP_MESSAGE_RECEIVED (R544, R556, R557). -/
def ptpMessageEffect (h : PtpHead) (m : PtpMsg) (s : State) : State :=
  let p := h.port
  if s.ptpUp && s.ptpPorts.contains p && s.linkUp p && s.ptpTakes h (match m with | .announce _ => false | .pdelayReq => true | .pdelayResp _ _ _ _ => true) then
    let x := s.ptpPort p
    match m with
    | .announce d => (s.setPtp p { x with heard := hearAnnounce h.sender d x.heard, best := bestOf (hearAnnounce h.sender d x.heard) }).ptpRun
    | .pdelayReq => (s.setPtp p { x with resps := x.resps + 1 }).ptpOut p [.pdelayResp s.stamp, .pdelayFollowUp s.stamp]
    | .pdelayResp t1 t2 t3 t4 =>
      let m := meanDelay x.prev t1 t2 t3 t4
      let s1 := s.setPtp p { x with mld := m, prev := some (t3, t4) }
      if x.st = 9 then s1.put R.NETSV_PTP_MPD_MPD m else s1
  else s
/-- PTP_MESSAGE_RECEIVED: an Announce or a Pdelay message (R556). -/
def execPtpMessageReceived (h : PtpHead) (m : PtpMsg) (s : State) : Host.Outcome State Fault Refusal := .next (ptpMessageEffect h m s)

/-- PTP_INTERVAL_SEND (R556): Sync in two steps and Announce leave a port in MASTER. -/
def ptpSendEffect (p : Nat) (k : PtpSend) (s : State) : State :=
  if s.ptpUp && s.ptpPorts.contains p && s.linkUp p then
    let x := s.ptpPort p
    let dom := s.get R.NETSV_PTP_CFG_DOMAIN
    match k with
    | .sync => if x.st = 6 then (s.setPtp p { x with syncs := x.syncs + 1 }).ptpOut p [.sync dom, .followUp dom s.stamp] else s
    | .announce => if x.st = 6 then (s.setPtp p { x with anns := x.anns + 1 }).ptpOut p [.announce s.ptpAnnounced] else s
    | .pdelay => (s.setPtp p { x with pdls := x.pdls + 1 }).ptpOut p [.pdelayReq]
  else s
/-- PTP_INTERVAL_SEND: a 1 s interval ends (R556). -/
def execPtpIntervalSend (p : Nat) (k : PtpSend) (s : State) : Host.Outcome State Fault Refusal := .next (ptpSendEffect p k s)

/-- PTP_ANNOUNCE_RECEIPT_TIMEOUT (R556, R558): with no Announce left, a port that may be MASTER becomes it. -/
def ptpTimeoutEffect (p : Nat) (s : State) : State :=
  if s.ptpUp && s.ptpPorts.contains p && s.linkUp p then
    let s1 := (s.setPtp p { s.ptpPort p with best := none, heard := [] }).ptpRun
    if s1.ptpBest.isNone && !s1.on R.NETSV_PTP_CFG_SLAVE_ONLY then s1.setPtp p { s1.ptpPort p with st := 6 } else s1
  else s
/-- PTP_ANNOUNCE_RECEIPT_TIMEOUT: no Announce arrives within the timeout (R556). -/
def execPtpAnnounceReceiptTimeout (p : Nat) (s : State) : Host.Outcome State Fault Refusal := .next (ptpTimeoutEffect p s)

/-- R558: the portState code of port p. -/
def State.ptpState (s : State) (p : Nat) : Nat :=
  if !s.on R.NETSV_PTP_CFG_EN then 0 else if s.linkUp p then (s.ptpPort p).st else 2

/-- R541, R558: PTP on a port whose link is down becomes FAULTY. -/
def State.ptpFault (p : Nat) (s : State) : State :=
  if s.ptpUp && s.ptpPorts.contains p then
    let s1 := (s.setPtp p { s.ptpPort p with best := none, heard := [], prev := none, st := 4 }).ptpRun
    (s1.raise R.NETSV_NSTAT_PTP_FAULT).event .net ptpUnit 0
  else s

/-- R541: the link of a port goes down. -/
def State.linkDown (p : Nat) (s : State) : State :=
  (((s.put (R.ETH_STATUS_AN_DONE p) 0).raise (R.ETH_PSTAT_LINK_DN p)).eventOpen .net (ethUnit p) 0).ptpFault p

/-- R558: the ports of the engine that are FAULTY. -/
def State.ptpFaulty (s : State) : List Nat := if s.ptpUp then s.ptpPorts.filter (fun p => !s.linkUp p) else []

/-- R558: ports that a change of the engine's configuration has made FAULTY. -/
def State.ptpFaults (old s : State) : State :=
  forAll (s.ptpFaulty.filter (fun p => !old.ptpFaulty.contains p)) (fun _ a => (a.raise R.NETSV_NSTAT_PTP_FAULT).event .net ptpUnit 0) s

/-- AN_RESTART (R540, R541): the link is down until auto-negotiation is done again. -/
def anRestartEffect (p : Nat) (s : State) : State :=
  if s.ethUp p && s.on (R.ETH_CTRL_EN p) && s.anRuns p then
    if s.linkUp p then s.linkDown p else s.put (R.ETH_STATUS_AN_DONE p) 0
  else s
/-- AN_RESTART: ETH.CTRL.AN_RESTART is written (R540). -/
def execAnRestart (p : Nat) (s : State) : Host.Outcome State Fault Refusal := .next (s.commanded (0xA0008 + 0x1000 * p) (anRestartEffect p))

/-- ETH_LINK_DOWN (R541). -/
def ethLinkDownEffect (p : Nat) (s : State) : State := if s.ethUp p && s.on (R.ETH_CTRL_EN p) then s.linkDown p else s
/-- ETH_LINK_DOWN: an Ethernet link goes down (R541). -/
def execEthLinkDown (p : Nat) (s : State) : Host.Outcome State Fault Refusal := .next (ethLinkDownEffect p s)

end Sys2Proof.Machine
end

