-- ==== Sys2Proof/Machine/Canopy.lean ====
section
/-! DEFINITION. Canopy ports, messages, sessions and the fabric time exchange (R610 to R624). -/

namespace Sys2Proof.Machine

/-! ## Access -/

/-- R625: the port is up and, where it is the checkpoint port, carries pair traffic. -/
def State.portTalks (s : State) (p : Nat) : Bool := s.portUp p && (!s.isCkPort p || s.pairLink p)

/-- R627: TUP of a port as it acts. -/
def State.tup (s : State) (p : Nat) : Bool :=
  if s.isCkPort p then
    match s.amber.role with
    | .standby => true
    | .warm => true
    | .none => false
    | .active => false
    | .takeover => false
  else s.on (R.CANOPY_CFG_TUP p)

/-- R627: TDN of a port as it acts. -/
def State.tdn (s : State) (p : Nat) : Bool :=
  if s.isCkPort p then
    match s.amber.role with
    | .active => true
    | .takeover => true
    | .none => false
    | .standby => false
    | .warm => false
  else s.on (R.CANOPY_CFG_TDN p)

/-- R627: while the checkpoint port has TUP = 1, it alone sends TREQs. -/
def State.sendsTreq (s : State) (p : Nat) : Bool :=
  s.tup p && (s.isCkPort p || !(s.pairOp && s.tup (s.get R.AMBER_CFG_PORT)))

/-! ## Ports (R610, R611) -/

/-- CANOPY_PORT_UP (R610, R625). -/
def canopyUpEffect (p : Nat) (s : State) : State :=
  if s.portRuns p && [0, 1, 2, 3].all (fun q => s.on (R.LANE_STATUS_ALIGNED (96 + 4 * p + q))) && !(s.port p).up then
    (if s.ownPeer p then s.portPeer p else (s.setPort p { s.port p with up := true }).portPeer p)
  else s
/-- CANOPY_PORT_UP: the lanes are aligned and the peer is known (R610). -/
def execCanopyPortUp (p : Nat) (s : State) : Host.Outcome State Fault Refusal := .next (canopyUpEffect p s)

/-- CANOPY_PORT_DOWN (R610). -/
def canopyDownEffect (p : Nat) (s : State) : State := if decide (p < 4) && s.up 6 then s.portDown p else s
/-- CANOPY_PORT_DOWN: a port goes down (R610). -/
def execCanopyPortDown (p : Nat) (s : State) : Host.Outcome State Fault Refusal := .next (canopyDownEffect p s)

/-- DEVID_WRITE (R611, R826): the identity is written once; a later write is one to a locked field. -/
def devidEffect (v : Nat) (s : State) : State :=
  if s.up 6 then
    if s.on R.CANOPY_DEVID_SET then (s.raise (R.CANOPY_STATUS_LOCKV 0)).config R.CANOPY_DEVID_ID.addr
    else forAll (List.range 4) State.peerAgain ((s.put R.CANOPY_DEVID_ID v).put R.CANOPY_DEVID_SET 1)
  else s
/-- DEVID_WRITE: a write to CANOPY 0 DEVID (R611). -/
def execDevidWrite (v : Nat) (s : State) : Host.Outcome State Fault Refusal := .next (s.commanded 0xB0100 (devidEffect v))

/-! ## Messages (R615 to R617) -/

/-- R625: the message types that the checkpoint port carries. -/
def pairType (t : Nat) : Bool := decide (2 ≤ t ∧ t ≤ 8)

/-- R616: a message is dropped and counted. -/
def State.dropMsg (p : Nat) (flag : Option Field) (s : State) : State :=
  let s1 := s.addTo (R.CANOPY_ERR_CNT_DROP p) 1
  match flag with
  | some F => s1.raise F
  | none => s1

/-- R614: every message with a wrong MCRC is counted. -/
def State.judgeMcrc (p : Nat) (m : CMsg) (s : State) : State :=
  if m.mcrcOk then s else (s.addTo (R.CANOPY_ERR_CNT_MCRC p) 1).raise (R.CANOPY_PSTAT_MCRC p)

/-- R614 to R616, R625: what a port does with a message. -/
def canopyMsgEffect (p : Nat) (m : CMsg) (s : State) : State :=
  if s.portUp p then
    let s1 := (s.addTo (R.CANOPY_RX_CNT_COUNT p) 1).judgeMcrc p m
    if 9 ≤ m.mtype then s1.dropMsg p none
    else if m.dst = s.get R.CANOPY_DEVID_ID then
      if s.isCkPort p && !pairType m.mtype then s1.dropMsg p none else s1
    else if s.isCkPort p then s1.dropMsg p (some (R.CANOPY_PSTAT_NOROUTE p))
    else
      match s.routeTo m.dst with
      | none => s1.dropMsg p (some (R.CANOPY_PSTAT_NOROUTE p))
      | some q => if m.hops = 0 then s1.dropMsg p (some (R.CANOPY_PSTAT_HOPS0 p)) else s1.enqueue q 3 { m with hops := m.hops - 1 }
  else s
/-- CANOPY_MESSAGE_RECEIVED (R276, R612 to R616): the coded blocks of the four logical lanes, after deskew, from block 0 on. -/
def canopyRxEffect (p : Nat) (lanes : List (List (Nat × Nat))) (s : State) : State :=
  match msgOf (reassemble (lanes.map unmarked)) with
  | some m => canopyMsgEffect p m s
  | none => s
/-- CANOPY_MESSAGE_RECEIVED: a message is taken locally, forwarded or dropped (R616). -/
def execCanopyMessageReceived (p : Nat) (lanes : List (List (Nat × Nat))) (s : State) : Host.Outcome State Fault Refusal := .next (canopyRxEffect p lanes s)

/-- R617: the class of the next message. -/
def nextClass (q : List (Nat × CMsg)) : Option Nat :=
  q.foldl (fun b e => match b with | none => some e.1 | some c => some (min c e.1)) none

/-- The first message of a class, and the queue without it. -/
def takeClass (c : Nat) : List (Nat × CMsg) → Option CMsg × List (Nat × CMsg)
  | [] => (none, [])
  | e :: t => if e.1 = c then (some e.2, t) else ((takeClass c t).1, e :: (takeClass c t).2)

/-- CANOPY_TX_NEXT (R612 to R614, R617, R637, R679): the message leaves with its check; log entry 56. -/
def canopyTxEffect (p : Nat) (s0 : State) : State :=
  if s0.portUp p then
    let s := (s0.ckSent p).staticAgain p
    let x := s.port p
    match nextClass x.queue with
    | none => s.setPort p (PortSt.carry none { x with out := none })
    | some c =>
      let r := takeClass c x.queue
      (s.setPort p (PortSt.carry (r.1.map (fun m => (decide (c = 3), m))) { x with out := r.1, queue := r.2 })).addTo (R.CANOPY_TX_CNT_COUNT p) 1
  else s0
/-- CANOPY_TX_NEXT: a port chooses its next message (R617). -/
def execCanopyTxNext (p : Nat) (s : State) : Host.Outcome State Fault Refusal := .next (canopyTxEffect p s)

/-! ## Sessions (R618 to R622) -/

/-- R619, R832: the DATA message of an outstanding entry, read from its slot. -/
def State.dataMsg (k : Nat) (x : SessSt) (skip : Bool) (o : OutMsg) (s : State) : CMsg × State :=
  let r := match s.bufAddr x.decl.txBuf with
    | some a => s.readFrom 6 (a + 256 * (o.seq % 8)) o.len
    | none => ([], s)
  ({ mtype := 0, dst := x.decl.peer, src := s.get R.CANOPY_DEVID_ID, hops := 15, sess := x.decl.peerSess, seq := o.seq, tag := o.tag
     aux := b2n skip * 2 ^ 17 + o.len * 2 ^ 8 + k, payload := padBlocks r.1 }, r.2)

/-- R619: the DATA message of an entry is sent. -/
def State.sendEntry (k : Nat) (x : SessSt) (skip : Bool) (o : OutMsg) (s : State) : State :=
  let r := s.dataMsg k x skip o
  r.2.sendMsg 4 r.1

/-- R620: every unacknowledged message of a session is sent again, the first with SKIP where one was abandoned. -/
def State.resend (k : Nat) (x : SessSt) (s : State) : State :=
  let r := x.out.foldl (fun (a : State × Bool) o => (a.1.sendEntry k x a.2 o, false)) (s, x.skip)
  r.1.setSess k { x with
    out := x.out.map (fun o => { o with at_ := s.elNs }), skip := x.skip && x.out.isEmpty, retx := (x.retx + x.out.length) % 256 }

/-- R620: `n` messages of a session are abandoned, leaving `out`. -/
def State.abandon (k n : Nat) (out : List OutMsg) (x : SessSt) (s : State) : State :=
  (s.setSess k { x with out := out, skip := x.skip || decide (0 < n), abandon := (x.abandon + n) % 256 }).flagIf (decide (0 < n))
    (R.CANOPY_PSTAT_ABANDON 0)

/-- R669: `n` added to the count of refused sends of a session number. -/
def State.addBusy (k n : Nat) (s : State) : State :=
  { s with canopy := { s.canopy with busy := tset 0 s.canopy.busy k ((tget 0 s.canopy.busy k + n) % 256) } }

/-- R619: a refused send. -/
def State.refuseSend (k : Nat) (down : Bool) (s : State) : State :=
  ((s.putAll [(R.CANOPY_SEND_BUSY k, b2n !down), (R.CANOPY_SEND_DOWN k, b2n down)]).addBusy k 1).raise (R.CANOPY_PSTAT_BUSY 0)

/-- R704: the session belongs to the safety island. -/
def State.islandSess (s : State) (k : Nat) : Bool :=
  match s.sess k with
  | none => false
  | some x => x.decl.island.isSome

/-- R619, R670, R903: a write to SEND s; with a DL or LEN out of range the whole word is refused. -/
def State.sendData (k v : Nat) (s : State) : State :=
  if s.up 6 && decide (k < 256) then
    let dl := bits v 16 16
    let len := bits v 0 9
    if dl = 0 ∨ len = 0 ∨ 256 < len then s.config (R.CANOPY_SEND_DL k).addr
    else
      let s1 := s.putAll [(R.CANOPY_SEND_DL k, dl), (R.CANOPY_SEND_DL_U k, bits v 13 1), (R.CANOPY_SEND_LEN k, len)]
      match s.sess k with
      | none => s1.refuseSend k true
      | some x =>
        if !x.enabled then s1.refuseSend k true
        else if 8 ≤ x.out.length then
          let s2 := s1.refuseSend k false
          s2.setSess k { x with refused := some ⟨s.elapsed, v, s1.bitsBack [R.CANOPY_PSTAT_BUSY 0] s2⟩ }
        else
          let dead := s.nowNs + (if bitOf v 13 then 16000 else 1000) * dl
          let o : OutMsg := { seq := x.seq, len := len, dead := dead, tag := tag32 dead, at_ := s.elNs }
          let s2 := (s1.putAll [(R.CANOPY_SEND_BUSY k, 0), (R.CANOPY_SEND_DOWN k, 0)]).sendEntry k x x.skip o
          s2.setSess k { x with seq := (x.seq + 1) % 256, out := x.out ++ [o], skip := false }
  else s
/-- CANOPY_SEND (R619, R670, R704). -/
def canopySendEffect (k v : Nat) (s : State) : State :=
  if s.up 6 && s.islandSess k then s.config (R.CANOPY_SEND_DL k).addr else s.sendData k v
/-- CANOPY_SEND: a write to SEND s (R619). -/
def execCanopySend (k v : Nat) (s : State) : Host.Outcome State Fault Refusal := .next (s.commanded (0xB0400 + 4 * k) (canopySendEffect k v))

/-- SESSION_RTO (R620): device time comes to RTO after the oldest message was last sent. -/
def sessionRtoEffect (k : Nat) (s : State) : State :=
  match s.sess k with
  | none => s
  | some x =>
    match x.out with
    | [] => s
    | o :: _ => if s.up 6 && x.enabled then (s.pass (el (o.at_ + 1000 * x.decl.rtoUs))).resend k x else s
/-- SESSION_RTO: a session resends (R620). -/
def execSessionRto (k : Nat) (s : State) : Host.Outcome State Fault Refusal := .next (sessionRtoEffect k s)

/-- R530, R620: the messages left once those whose deadline has passed have gone, oldest first. -/
def dropDead (now : Nat) : List OutMsg → List OutMsg
  | [] => []
  | o :: t => if timeDiff o.dead now ≤ 0 then dropDead now t else o :: t

/-- SESSION_DEADLINE (R620): device time comes to the deadline of the oldest message. -/
def sessionDeadlineEffect (k : Nat) (s : State) : State :=
  match s.sess k with
  | none => s
  | some x =>
    match x.out with
    | [] => s
    | o :: _ =>
      if s.up 6 && x.enabled then
        let s1 := s.reach ((s.nowNs + (timeDiff o.dead s.nowNs).toNat) * 2 ^ 32)
        let rest := dropDead s1.nowNs x.out
        let n := x.out.length - rest.length
        let s2 := s1.abandon k n rest x
        (match s2.sess k with
         | some y => s2.setSess k { y with gone := some ⟨s1.elapsed, (x.out.take n).map (·.seq), x.skip, s1.bitsBack [R.CANOPY_PSTAT_ABANDON 0] s2⟩ }
         | none => s2)
      else s
/-- SESSION_DEADLINE: the oldest unacknowledged message is abandoned (R620). -/
def execSessionDeadline (k : Nat) (s : State) : Host.Outcome State Fault Refusal := .next (sessionDeadlineEffect k s)

/-- The session that SESS_CTRL acts on (R666). -/
def State.sessNow (s : State) : Nat := s.get R.CANOPY_SESS_IDX_IDX

/-- R667: a session is enabled. -/
def State.enableSess (k : Nat) (s : State) : State :=
  match s.sess k with
  | none => s
  | some x =>
    if s.up 6 && !x.enabled then
      (s.setSess k { x with enabled := true, seq := 0, out := [], skip := false, expSeq := 0, rxFill := 0, rxCnt := 0, stby := false, held := none }).putAll
        [(R.CANOPY_SEND_BUSY k, 0), (R.CANOPY_SEND_DOWN k, 0)]
    else s
/-- R704: a write to SESS_CTRL for a session of the island is ignored. -/
def State.sessWrite (s : State) (f : State → State) : State :=
  if s.up 6 && s.islandSess s.sessNow then s.config R.CANOPY_SESS_CTRL_ENABLE.addr else f s
/-- SESS_ENABLE (R667, R704). -/
def sessEnableEffect (s : State) : State := s.sessWrite (State.enableSess s.sessNow)
/-- SESS_ENABLE: SESS_CTRL.ENABLE is written (R667). -/
def execSessEnable (s : State) : Host.Outcome State Fault Refusal := .next (s.commanded 0xB0108 sessEnableEffect)

/-- R667: the session in SESS_IDX is disabled. -/
def State.disableNow (s : State) : State :=
  match s.sess s.sessNow with
  | none => s
  | some x => if s.up 6 && x.enabled then s.abandon s.sessNow x.out.length [] { x with enabled := false, held := none } else s
/-- SESS_DISABLE (R667, R704). -/
def sessDisableEffect (s : State) : State := s.sessWrite State.disableNow
/-- SESS_DISABLE: SESS_CTRL.DISABLE is written (R667). -/
def execSessDisable (s : State) : Host.Outcome State Fault Refusal := .next (s.commanded 0xB0108 sessDisableEffect)

/-- R621: the oldest RX slot of a session is released. -/
def State.releaseRx (k : Nat) (s : State) : State :=
  match s.sess k with
  | none => s
  | some x => if s.up 6 then s.setSess k { x with rxFill := x.rxFill - 1 } else s
/-- RX_REL (R621, R704). -/
def rxRelEffect (s : State) : State := s.sessWrite (State.releaseRx s.sessNow)
/-- RX_REL: SESS_CTRL.RX_REL is written (R621). -/
def execRxRel (s : State) : Host.Outcome State Fault Refusal := .next (s.commanded 0xB0108 rxRelEffect)

/-- SESS_IDX_WRITE (R666, R668, R669). -/
def sessIdxEffect (v : Nat) (s : State) : State :=
  if s.up 6 then
    let k := v % 256
    let s1 := s.put R.CANOPY_SESS_IDX_IDX k
    match s.sess k with
    | none => s1.putAll [(R.CANOPY_SESS_INFO_EN, 0), (R.CANOPY_SESS_INFO_PEER_STBY, 0), (R.CANOPY_SESS_INFO_MODE, 0), (R.CANOPY_SESS_INFO_OUT, 0),
        (R.CANOPY_SESS_INFO_RXFILL, 0), (R.CANOPY_SESS_INFO_PEER, 0), (R.CANOPY_SESS_INFO_SEQ, 0), (R.CANOPY_SESS_CNT_BUSY, tget 0 s.canopy.busy k),
        (R.CANOPY_SESS_CNT_ABANDON, 0), (R.CANOPY_SESS_CNT_RETX, 0), (R.CANOPY_SESS_CNT_LATE, 0)]
    | some x => s1.putAll [(R.CANOPY_SESS_INFO_EN, b2n x.enabled), (R.CANOPY_SESS_INFO_PEER_STBY, b2n x.stby), (R.CANOPY_SESS_INFO_MODE, b2n x.decl.operand),
        (R.CANOPY_SESS_INFO_OUT, x.out.length), (R.CANOPY_SESS_INFO_RXFILL, x.rxFill), (R.CANOPY_SESS_INFO_PEER, x.decl.peer),
        (R.CANOPY_SESS_INFO_SEQ, x.seq), (R.CANOPY_SESS_CNT_BUSY, tget 0 s.canopy.busy k), (R.CANOPY_SESS_CNT_ABANDON, x.abandon), (R.CANOPY_SESS_CNT_RETX, x.retx),
        (R.CANOPY_SESS_CNT_LATE, x.late)]
  else s
/-- SESS_IDX_WRITE: a write to SESS_IDX latches a session's state (R666). -/
def execSessIdxWrite (v : Nat) (s : State) : Host.Outcome State Fault Refusal := .next (s.commanded 0xB0104 (sessIdxEffect v))

/-- R646: DATA is answered STANDBY. -/
def State.answersStandby (s : State) : Bool :=
  s.pairOp && (match s.amber.role with
    | .standby => true
    | .warm => true
    | .takeover => true
    | .none => false
    | .active => false)

/-- R621: the descriptor and the payload as an RX slot holds them. -/
def State.rxSlot (s : State) (m : CMsg) (len : Nat) : List Byte :=
  [b2n (s.isLate m.tag) * 2 ^ 15 + len, tag32 s.nowNs, m.tag, m.src].flatMap (leBytes 4) ++ m.payload.take len

/-- R621: delivery into a buffer. -/
def State.takeBuffer (k : Nat) (x : SessSt) (m : CMsg) (s : State) : State :=
  if 8 ≤ x.rxFill then (s.raise (R.CANOPY_PSTAT_RXFULL 0)).ackMsg m 1
  else
    let s1 : State := match s.bufAddr x.decl.rxBuf with
      | some a => s.writeFrom 6 (a + 272 * (x.rxCnt % 8)) (s.rxSlot m (bits m.aux 8 9))
      | none => s
    s1.delivered k { x with rxFill := x.rxFill + 1, rxCnt := x.rxCnt + 1 } m

/-- R621: the words of a message of session k posted as operands, with what became of each. -/
def State.postWords (k tag : Nat) : Nat → List Nat → State → State × List PostResult
  | _, [], s => (s, [])
  | i, w :: ws, s =>
    let r := s.postOperandAt false { dest := none, tag := tag, idx := i, val := w, sess := some k }
    let q := State.postWords k tag (i + 1) ws r.1
    (q.1, r.2 :: q.2)

/-- The little-endian 32-bit words of bytes. -/
def wordsOf : Nat → List Byte → List Nat
  | 0, _ => []
  | n + 1, bs => leNat (bs.take 4) :: wordsOf n (bs.drop 4)

/-- R22, R471, R621: delivery as operands. The answer waits for words that wait for the store; without the arm glade no word reaches it. -/
def State.takeOperands (k : Nat) (x : SessSt) (m : CMsg) (s : State) : State :=
  let len := bits m.aux 8 9
  if len % 4 ≠ 0 ∨ 32 < len then (s.setSess k { x with expSeq := (m.seq + 1) % 256 }).ackMsg m 2
  else if s.linkCut 6 5 then (s.discardWrites 6 (len / 4)).ackMsg m 1
  else if !s.up 5 then s.ackMsg m 1
  else
    let r := s.postWords k x.decl.tag 0 (wordsOf (len / 4) m.payload)
    let ok := r.2.all (fun e => decide (e ≠ .dropped))
    let left := (r.2.filter (fun e => decide (e = .stalled))).length
    if 0 < left then r.1.setSess k { x with held := some ⟨m, left, ok⟩ }
    else if ok then r.1.delivered k x m
    else r.1.ackMsg m 1

/-- R621: a DATA message meets its session by sequence number; while a delivery of the session waits for the store, no other is taken
(DEDUCED, log entry 56). -/
def State.takeData (k : Nat) (x : SessSt) (m : CMsg) (s : State) : State :=
  let d := (m.seq + 256 - x.expSeq % 256) % 256
  if d = 0 ∨ bitOf m.aux 17 = true ∧ d ≤ 7 then
    if s.sched.stalls.any (fun o => decide (o.sess = some k)) then s
    else if x.decl.operand then s.takeOperands k x m
    else s.takeBuffer k x m
  else if 128 ≤ d then s.ackMsg m 0
  else s

/-- DATA_RECEIVED (R620 to R622, R646). -/
def dataReceivedEffect (p : Nat) (m : CMsg) (s : State) : State :=
  if s.portUp p && m.mcrcOk && decide (m.mtype = 0) && decide (m.dst = s.get R.CANOPY_DEVID_ID) && !s.isCkPort p then
    if s.answersStandby then s.ackMsg m 3
    else
      match s.sess m.sess with
      | none => ((s.ackMsg m 2).raise (R.CANOPY_PSTAT_ORPHAN 0)).event0 .canopy (canopyUnit p) 0
      | some x =>
        if x.enabled && decide (x.decl.peer = m.src) then s.takeData m.sess x m
        else ((s.ackMsg m 2).raise (R.CANOPY_PSTAT_ORPHAN 0)).event0 .canopy (canopyUnit p) 0
  else s
/-- DATA_RECEIVED: a DATA message for this device (R621). -/
def execDataReceived (p : Nat) (m : CMsg) (s : State) : Host.Outcome State Fault Refusal := .next (dataReceivedEffect p m s)

/-- R650: an ACK OK governs over the deadline of its message at the same instant: that message is not abandoned. -/
def State.ackUndo (k seq : Nat) (x : SessSt) (s : State) : State :=
  match x.gone with
  | none => s.setSess k x
  | some g =>
    if g.at_ = s.elapsed ∧ g.seqs.contains seq then
      let left := dropKey seq g.seqs
      let s1 := s.setSess k { x with
        abandon := (x.abandon + 255) % 256, skip := if left.isEmpty then g.skip else x.skip, gone := some { g with seqs := left } }
      if left.isEmpty then s1.unraise g.bits else s1
    else s.setSess k x

/-- R650: an ACK that frees a slot comes before a SEND of the same instant: a send refused for 8 outstanding is accepted. -/
def State.sendAgain (k : Nat) (s : State) : State :=
  match s.sess k with
  | none => s
  | some x =>
    match x.refused with
    | none => s
    | some r =>
      if r.at_ = s.elapsed ∧ x.out.length < 8 then
        (((s.setSess k { x with refused := none }).addBusy k 255).unraise r.bits).sendData k r.word
      else s

/-- R620: an ACK by its RESULT. -/
def State.takeAck (k : Nat) (x : SessSt) (m : CMsg) (s : State) : State :=
  let rest := x.out.filter (fun o => decide (o.seq ≠ m.seq))
  let res := m.aux % 4
  if res = 0 then (s.ackUndo k m.seq { x with out := rest, stby := false }).sendAgain k
  else if res = 1 then (if x.out.any (fun o => decide (o.seq = m.seq)) then s.resend k x else s)
  else if res = 2 then (s.abandon k (x.out.length - rest.length) rest x).sendAgain k
  else ((s.abandon k x.out.length [] { x with stby := true }).raise (R.CANOPY_PSTAT_PEER_STBY 0)).sendAgain k

/-- ACK_RECEIVED (R620). -/
def ackReceivedEffect (p : Nat) (m : CMsg) (s : State) : State :=
  match s.sess m.sess with
  | none => s
  | some x =>
    if s.portUp p && m.mcrcOk && decide (m.mtype = 1) && decide (m.dst = s.get R.CANOPY_DEVID_ID) && !s.isCkPort p && x.enabled
        && decide (x.decl.peer = m.src) then s.takeAck m.sess x m
    else s
/-- ACK_RECEIVED: an ACK for this device (R620). -/
def execAckReceived (p : Nat) (m : CMsg) (s : State) : Host.Outcome State Fault Refusal := .next (ackReceivedEffect p m s)

/-! ## Time over the fabric (R623) -/

/-- R615: a message of this device to the port's peer. -/
def State.peerMsg (s : State) (p mtype tag aux : Nat) (payload : List Byte) : CMsg where
  mtype := mtype
  dst := s.get (R.CANOPY_PEER_DEV p)
  src := s.get R.CANOPY_DEVID_ID
  hops := 15
  sess := 0
  seq := 0
  tag := tag
  aux := aux
  payload := payload

/-- TREQ_SEND (R623). -/
def treqSendEffect (p : Nat) (s : State) : State :=
  if s.portTalks p && s.sendsTreq p then s.enqueue p 1 (s.peerMsg p 2 0 0 []) else s
/-- TREQ_SEND: a port with TUP = 1 sends a TREQ (R623). -/
def execTreqSend (p : Nat) (s : State) : Host.Outcome State Fault Refusal := .next (treqSendEffect p s)

/-- TREQ_RECEIVED (R623). -/
def treqReceivedEffect (p : Nat) (m : CMsg) (t2 t3 : Nat) (s : State) : State :=
  if s.portTalks p && m.mcrcOk && decide (m.mtype = 2) && s.tdn p then
    s.enqueue p 1 { s.peerMsg p 3 0 (s.get R.TIME_STATUS_VALID) (leBytes 8 t2 ++ leBytes 8 t3) with dst := m.src }
  else s
/-- TREQ_RECEIVED: a TREQ is answered with its times in ns (R623). -/
def execTreqReceived (p : Nat) (m : CMsg) (t2 t3 : Nat) (s : State) : Host.Outcome State Fault Refusal := .next (treqReceivedEffect p m t2 t3 s)

/-- TRESP_RECEIVED (R623, R664). -/
def trespReceivedEffect (p : Nat) (m : CMsg) (t1 t4 : Int) (s : State) : State :=
  if s.portTalks p && m.mcrcOk && decide (m.mtype = 3) && s.tup p then
    if bitOf m.aux 0 then
      let t2 : Int := leNat (m.payload.take 8)
      let t3 : Int := leNat ((m.payload.drop 8).take 8)
      (s.putS (R.CANOPY_TDLY_DLY p) ((t2 - t1) + (t4 - t3))).servoOffset 2 (((t2 - t1) - (t4 - t3)) * 2 ^ 15)
    else s.raise (R.CANOPY_PSTAT_T_NV p)
  else s
/-- TRESP_RECEIVED: a TRESP yields an offset; t1 and t4 in ns (R623). -/
def execTrespReceived (p : Nat) (m : CMsg) (t1 t4 : Int) (s : State) : Host.Outcome State Fault Refusal := .next (trespReceivedEffect p m t1 t4 s)

end Sys2Proof.Machine
end

