-- ==== Sys2Proof/Machine/Region.lean ====
section
/-! DEFINITION. The checkpoint region: how the hardware part is built (R634 to R636) and how a takeover restores it (R642,
R643). -/

namespace Sys2Proof.Machine

/-- `n` zero bytes. -/
def zeroBytes (n : Nat) : List Byte := List.replicate n 0

/-! ## Building (R634 to R636) -/

/-- R635: the header. -/
def State.regionHeader (s : State) (seq : Nat) : List Byte :=
  leBytes 2 1 ++ leBytes 2 (s.hwSize / 8) ++ leBytes 4 seq ++ leBytes 4 (s.get R.ARM_CYC_CNT_COUNT) ++ leBytes 4 s.arm.planCyc
    ++ leBytes 8 s.nowNs ++ leBytes 4 s.regionSize ++ leBytes 2 s.amber.statSeq ++ leBytes 1 (armCode s.arm.mode)
    ++ leBytes 1 (b2n s.openL3) ++ leBytes 1 s.variant.loops ++ leBytes 1 s.admittedRings.length ++ leBytes 2 s.ckBufs.length
    ++ leBytes 2 (s.get R.ARM_CYC_LEN_LEN) ++ leBytes 2 (s.get R.ARM_EXEC_OFS_OFS) ++ leBytes 2 (s.get R.ARM_CYC_PHASE_PHASE) ++ zeroBytes 22

/-- R635: the last delivered reference in the formats of R69. A reference from a loop unit that these formats do not hold
exactly gives open values: free values. -/
def State.regionRef (s : State) : Nat × Nat :=
  let r := s.arm.used
  (if r.val % 655360 = 0 then codeOf 32 (r.val / 655360) else s.freeNat 32,
    if r.dval % (r.den : Int) = 0 then codeOf 32 (r.dval / (r.den : Int)) else (Config.freeValue 32 (s.free + 1)).toNat)

/-- R635: the arm globals. -/
def State.regionGlobals (s : State) : List Byte :=
  let pend := maskOf s.leakPending
  leBytes 1 (b2n s.rank.discharge + 2 * b2n s.rank.decided) ++ leBytes 1 (s.get R.ARM_REF_MISS_MISS_CNT) ++ zeroBytes 2
    ++ leBytes 4 s.regionRef.1 ++ leBytes 4 s.regionRef.2 ++ leBytes 4 s.arm.refCyc
    ++ leBytes 4 (s.fieldsWord R.cmdencFields R.CMDENC_LEAK_STAT_POS.addr)
    ++ leBytes 4 (s.get R.CMDENC_LEAK_CTRL_EN + 2 * s.get R.CMDENC_LEAK_CTRL_CONT + 4 * b2n s.enc.lkOpen) ++ zeroBytes 8
    ++ leBytes 192 (if s.enc.lkOpen then pend else 0) ++ zeroBytes 32

/-- R635: the thirteen registers of a loop-unit entry, as addresses in order. -/
def loopWords (k : Nat) : List Nat :=
  [(R.U_CTRL_EN k).addr, (R.U_CFG_EVT k).addr, (R.U_TRIG_SRC k).addr, (R.U_OPTAG_TAG k).addr, (R.U_KP_GAIN k).addr, (R.U_KI_GAIN k).addr,
    (R.U_KD_GAIN k).addr, (R.U_FF_FF k).addr, (R.U_SP_SP k).addr, (R.U_RATE_RATE k).addr, (R.U_MEAS_Y k).addr, (R.U_SPW_SPW k).addr,
    (R.U_OUT_OUT k).addr]

/-- R635: one loop-unit entry. -/
def State.regionLoop (s : State) (k : Nat) : List Byte :=
  let x := s.loop k
  (loopWords k).flatMap (fun a => leBytes 4 (s.fieldsWord (R.unitFields k) a)) ++ leBytes 4 x.int
    ++ leBytes 4 (x.int / 2 ^ 32 % 2 ^ 16 + x.phase % 256 * 2 ^ 16 + b2n x.ramping * 2 ^ 24 + b2n (x.rampPend || x.waiting && x.snap.pend) * 2 ^ 25
      + b2n (s.unitFenced (loopUnit k)) * 2 ^ 26)
    ++ leBytes 4 (s.get (R.U_Y_PREV_Y k))

/-- R636: one sub-module record. Its layout has no place for the stress tracker and the dwell count that R105 names, and R642 restarts
both (DEDUCED, log entry 53). -/
def State.regionRec (s : State) (i : Nat) : Nat :=
  let r := s.smRec i
  let p := s.prot i
  if r.present then
    r.vFix % 2 ^ 24 * 2 ^ 40 + r.key * 2 ^ 8 + min r.rcnt 2 * 2 ^ 6 + b2n (decide (r.ins ≠ 0)) * 2 ^ 5 + b2n (decide (r.ins = 2)) * 2 ^ 4
      + b2n p.fw * 2 ^ 3 + b2n (decide (p.leak ≠ 0)) * 2 ^ 2 + b2n p.fire * 2 + b2n p.fbp
  else 0

/-- R635: one ring: its word and its sixteen records. -/
def State.regionRing (s : State) (n : Nat) : List Byte :=
  leBytes 8 (n + 2 ^ 7 * b2n (s.admitted n) + s.get (R.RING_TOPO_NC n) * 2 ^ 8 + s.get (R.RING_SLOTS_PRESENT n) * 2 ^ 16)
    ++ (List.range 16).flatMap (fun k => leBytes 8 (s.regionRec (16 * n + k)))

/-- R634: the hardware part with its header. -/
def State.regionHw (s : State) (seq : Nat) : List Byte :=
  s.regionHeader seq ++ s.regionGlobals ++ (List.range s.variant.loops).flatMap s.regionLoop ++ s.admittedRings.flatMap s.regionRing

/-- R634: the trailer over the bytes before it. -/
def regionTrailer (seq : Nat) (bs : List Byte) : List Byte := leBytes 8 (seq + crc32c bs * 2 ^ 32)

/-! ## Restoring (R642, R643) -/

/-- `n` bytes at an address as a little-endian number. -/
def State.rd (s : State) (a n : Nat) : Nat := leNat (Memory.readN s.mem a n)

/-- R48, R635: the arm globals restored from the image at `b`. The previous reference stands where the misses since the last delivered one had
brought it (DEDUCED, notes/assumptions/61.md). -/
def State.restoreGlobals (b : Nat) (s : State) : State :=
  let g := b + 64
  let sign := s.rd g 1
  let run := s.rd (g + 20) 4
  let ref := firmwareRef (s.rd (g + 4) 4) (s.rd (g + 8) 4)
  let s1 : State := { s with
    rank := { s.rank with discharge := bitOf sign 0, decided := bitOf sign 1, plan := none }
    arm := { s.arm with
      last := { ref with val := ref.val + ref.dval * (s.tNs * s.rd (g + 1) 1) }, used := ref, refCyc := s.rd (g + 12) 4, planCyc := s.rd (b + 12) 4
      fresh := none, nextRef := none, pend := none, pendLate := false, selDone := false, committed := false }
    enc := { s.enc with lkOpen := bitOf run 2, dcmds := [] } }
  (s1.putWord R.cmdencFields R.CMDENC_LEAK_STAT_POS.addr (s.rd (g + 16) 4)).putAll
    [(R.ARM_REF_MISS_MISS_CNT, s.rd (g + 1) 1), (R.CMDENC_LEAK_CTRL_EN, bits run 0 1), (R.CMDENC_LEAK_CTRL_CONT, bits run 1 1),
      (R.CMDENC_STATUS_LEAK_BUSY, bits run 2 1), (R.CMDENC_DCMD_STAT_FILL, 0)]

/-- One loop unit restored: EN without a ramp start. -/
def State.restoreLoop (b k : Nat) (s : State) : State :=
  let o := b + 320 + 64 * k
  let x := s.rd (o + 56) 4
  let s1 := ((loopWords k).zip (List.range 13)).foldl (fun a e => a.putWord (R.unitFields k) e.1 (s.rd (o + 4 * e.2) 4)) s
  let s2 := (s1.put (R.U_Y_PREV_Y k) (s.rd (o + 60) 4)).setLoop k
    { int := s.rd (o + 52) 4 + 2 ^ 32 * bits x 0 16, phase := bits x 16 8, ramping := bitOf x 24, rampPend := bitOf x 25 }
  let s3 : State := if bitOf x 26 then { s2 with flt := { s2.flt with units := tset 0 s2.flt.units (loopUnit k) (classCode .loop) } } else s2
  s3.loopCond k

/-- One record restored from its eight bytes, which hold neither GROUP nor SEL: both read 0 until the next selection (DESIGN CHOICE,
notes/assumptions/63.md). -/
def State.restoreRec (i w : Nat) (sl : StaticSlot) (pend : Bool) (s : State) : State :=
  let ins := if bitOf w 4 then 2 else if bitOf w 5 then 1 else 0
  let sw := swOf sl.full (s.on R.CMDENC_CTRL_FB_BYP) ins
  (s.setRec i { present := true, full := sl.full, capUf := sl.capUf, serial := sl.serial, rcnt := bits w 6 2, vFix := bits w 40 24
                key := bits w 8 32, basis := s.nowNs, ins := ins, endSw := sw, sw0 := sw, await := true }).setProt i
    { fw := bitOf w 3, leak := if bitOf w 2 then (if sl.full then 15 else 3) else 0, fire := bitOf w 1, fireNs := s.elNs, fbp := bitOf w 0
      lkPend := pend }

/-- One ring restored with its static topology. -/
def State.restoreRing (b o : Nat) (st : List StaticRing) (s : State) : State :=
  let w := s.rd o 8
  let n := bits w 0 7
  let pres := bits w 16 16
  match st.find? (fun e => decide (e.ring = n)) with
  | none => s
  | some e =>
    let slot (k : Nat) : StaticSlot := e.slots.getD k ⟨0, false, 0⟩
    let s1 := s.putAll [(R.RING_TOPO_NC n, bits w 8 8), (R.RING_TOPO_RT n, e.rt), (R.RING_LINK_DLY n, e.dly), (R.RING_SLOTS_PRESENT n, pres),
      (R.RING_ERR_LOC_MISS n, 0)]
    let s2 := forAll (bitList 16 pres) (fun k a =>
      a.restoreRec (16 * n + k) (s.rd (o + 8 + 8 * k) 8) (slot k) (bitOf (s.rd (b + 96 + (16 * n + k) / 8) 1) ((16 * n + k) % 8))) s1
    s2.setRing n { s2.ring n with
      mode := if (s2.ring n).mode = .fenced then .fenced else if bitOf w 7 then .admitted else .down
      idents := (bitList 16 pres).map (fun k => (k, { full := (slot k).full, capUf := (slot k).capUf, serial := (slot k).serial }))
      serials := (bitList 16 pres).map (fun k => (k, (slot k).serial)) }

/-- The rings restored; a ring that the checkpoint does not hold is not admitted, and its accesses end (R906). -/
def State.restoreRings (b : Nat) (st : List StaticRing) (s : State) : State :=
  let o := b + 320 + 64 * s.rd (b + 32) 1
  let s0 := forAll s.admittedRings State.ringDown s
  forAll (List.range (s.rd (b + 33) 1)) (fun j a => a.restoreRing b (o + 136 * j) st)
    { s0 with rank := { s0.rank with recs := [] }, enc := { s0.enc with prot := [], slots := [] } }

/-- The firmware checkpoint buffers restored by handle; `o` is the address of the first. -/
def State.restoreBufs : Nat → List (Nat × BufSt) → State → State
  | _, [], s => s
  | o, (h, x) :: t, s =>
    let s1 : State := match s.bufAddr h with
      | some a => s.overLink 6 (memUnit a / 256) (State.eccCopy o x.decl.size a 0x0003)
      | none => s
    State.restoreBufs (o + pad8 x.decl.size) t s1

/-- R642, R646: what a takeover does not restore starts empty, and the sessions start from SEQ 0 in both directions. -/
def State.restoreSched (s : State) : State :=
  let s1 : State := { s with sched := { s.sched with
    tasks := s.sched.tasks.map (fun e => (e.1, { e.2 with pend := 0, ready := false, insts := [] }))
    fill := [], stalls := []
    cores := s.sched.cores.map (fun e => (e.1, { e.2 with run := none, staged := none, done := false })) } }
  (s1.canopy.sess.foldl (fun a e => a.setSess e.1 { e.2 with seq := 0, out := [], skip := false, expSeq := 0, rxFill := 0, rxCnt := 0, held := none, gone := none, refused := none }) s1).fillUpdate

/-- R643: the arm state after a takeover, from the code and the BLK flag of the checkpoint. -/
def State.takeoverMode (s : State) (t : TakeTrigger) (code : Nat) (blk : Bool) : ArmMode :=
  if code = 0 then .off
  else if code = 1 then .charge
  else if code = 3 ∧ blk = false then
    match t with
    | .missed => if s.on R.AMBER_CFG_HB_RUN then .run else .blocked
    | .withdraw c => if bitOf (s.get R.AMBER_RUN_CLS_CLS) c then .run else .blocked
    | .handover => .run
  else .blocked

/-- R641 to R643: the whole restore from the image at `b`; what rests on the restored state is judged again (R902). -/
def State.restoreAll (b : Nat) (st : List StaticRing) (t : TakeTrigger) (s : State) : State :=
  let bufs := b + 8 * s.rd (b + 2) 2
  let mode := s.takeoverMode t (s.rd (b + 30) 1) (bitOf (s.rd (b + 31) 1) 0)
  let s1 := (s.restoreGlobals b).restoreRings b st
  let s2 := forAll (List.range (min (s.rd (b + 32) 1) s.variant.loops)) (fun k a => a.restoreLoop b k) s1
  let s3 := (s2.restoreBufs bufs s2.ckBufs).restoreSched
  let s4 : State := { s3 with
    arm := { s3.arm with mode := mode }, amber := { s3.amber with ckSeq := s.rd (b + 4) 4, statSeq := s.rd (b + 28) 2 } }
  s4.lvlShow.protConds.budgetCheck.ringsRecheck.regionCheck

end Sys2Proof.Machine
end

