-- ==== Sys2Proof/Machine/Amber.lean ====
section
/-! DEFINITION. Redundant pairs: roles, heartbeats, checkpoints, takeover and planned handover (R625 to R650, R875). -/

namespace Sys2Proof.Machine

/-- The checkpoint engine's part replaced. -/
def State.modAmber (f : AmberSt → AmberSt) (s : State) : State := { s with amber := f s.amber }

/-! ## Roles (R626 to R630, R639) -/

/-- R649: the role is one whose end starts HO_AGE anew. -/
def roleLeads (r : AmberRole) : Bool :=
  match r with
  | .active => true
  | .warm => true
  | .none => false
  | .standby => false
  | .takeover => false

/-- R630, R649, R551: the role changes, and publication 0 reports it. -/
def State.setRole (r : AmberRole) (s : State) : State :=
  (s.modAmber (fun a => { a with role := r, roleAt := s.elNs, quiet := s.elNs, lost := false, split := false
                                 leftAt := if roleLeads a.role then some s.elNs else a.leftAt })).pubNew 0
/-- R649, R680: the whole hours since the device last left ACTIVE or WARM, saturating. -/
def State.hoAge (s : State) : Nat :=
  match s.amber.leftAt with
  | none => 0
  | some t => satTo 65535 ((s.elNs - t) / (3600 * 10 ^ 9))

/-- The rings whose cells both devices reach (R625). -/
def State.dualRings (s : State) : List Nat := s.ringList.filter (fun n => s.on (R.RING_CFG_DUAL n))

/-- R267: the dual-homed cell lanes enter or leave repeat mode. -/
def State.setRepeat (b : Bool) (s : State) : State := forAll s.dualRings (fun n a => a.setLane n { a.lane n with rep := b }) s

/-- R267, R875: the role of the device has the lane of ring n repeat. -/
def State.repeats (s : State) (n : Nat) : Bool := s.pairOp && s.on (R.RING_CFG_DUAL n) && decide (s.amber.role ≠ .active)

/-- R626: the glades that are clock-gated in STANDBY. -/
def State.gateList (s : State) : List Nat := [5, 8, 9, 10] ++ (List.range s.variant.groves).map (fun g => 16 + g)

/-- R628: the clock-gated glades stop, with the gate outputs held first (R363). -/
def State.gateGlades (s : State) : State :=
  let s1 := forAll (s.gateList.filter s.up) (fun g a => a.setGlade g { a.glade g with gated := true }) s.engageLatch
  s1.modAmber (fun a => { a with waking := [] })

/-- R628, R641: the gated glades are asked to run again. -/
def State.wakeGlades (s : State) : State :=
  s.modAmber (fun a => { a with waking := s.gateList.filter (fun g => (s.glade g).gated) })

/-- R232, R626, R627, R630: the device enters STANDBY; a fenced ring stays FENCED. -/
def State.enterStandby (s : State) : State :=
  let s1 := ((s.setRole .standby).put R.TIME_SRV_CFG_SRC 2).setRepeat true
  (forAll (s1.ringList.filter (fun n => decide ((s1.ring n).mode ≠ .fenced))) State.ringDown (s1.modAmber (fun a => { a with take := none, hoSeq := none, hoStage := 0, hold := false }))).gateGlades

/-- R876: only an active device brings rings up: those that are being brought up fall to DOWN. -/
def State.endBringUp (s : State) : State :=
  forAll (s.ringList.filter (fun n => match (s.ring n).mode with
    | .probe => true
    | .enum => true
    | .ident => true
    | .tsync => true
    | .ready => true
    | .down => false
    | .admitted => false
    | .fenced => false)) State.ringDown s

/-- R639, R876: an active device yields. -/
def State.yieldRole (s : State) : State :=
  let s1 := (((s.setRole .none).endBringUp).setRepeat true).modAmber (fun a => { a with stream := none, hoStage := 0, hold := false, take := none })
  (s1.raise R.AMBER_ASTAT_YIELD).eventAt .canopy amberUnit 0 1

/-- R674: a frame start has arrived on a repeating lane within 2 T. -/
def State.framesSeen (s : State) : Bool :=
  match s.amber.frameAt with
  | none => false
  | some t => decide (s.elNs ≤ t + 2 * s.tNs)

/-- R674: a valid heartbeat has arrived within 2 T. -/
def State.peerSeen (s : State) : Bool :=
  match s.amber.hb with
  | none => false
  | some h => decide (s.elNs ≤ h.at_ + 2 * s.tNs)

/-- R674: the peer's last heartbeat shows READY. -/
def State.peerReady (s : State) : Bool := match s.amber.hb with | none => false | some h => h.ready

/-- R638: the cycle values of a heartbeat equal the device's own. -/
def State.hbAgrees (s : State) (h : HbInfo) : Bool :=
  decide (h.cycLen = s.get R.ARM_CYC_LEN_LEN ∧ h.execOfs = s.get R.ARM_EXEC_OFS_OFS ∧ h.phase = s.get R.ARM_CYC_PHASE_PHASE)

/-- The device is a sink of checkpoints (R638). -/
def State.isSink (s : State) : Bool := s.amberUp && decide (s.amber.role = .standby ∨ s.amber.role = .warm)

/-- R638: STATUS.READY. -/
def State.amberReady (s : State) : Bool :=
  s.isSink && s.on R.SCHED_STATUS_TSET &&
    (match s.amber.hb, s.amber.stat, s.amber.img with
     | some h, some (q, _), some (_, seq, _) =>
       decide (q = h.statSeq) && decide (signedOf 32 (h.ckSeq + 2 ^ 32 - seq) ≤ 2) && s.hbAgrees h
     | _, _, _ => false)

/-- ROLE_ASSIGNMENT (R875): the first holding condition in NONE. Device time comes to the end of the silence that the
condition names. -/
def roleAssignmentEffect (s : State) : State :=
  if s.amberUp && decide (s.amber.role = .none) && !s.flt.l4 && decide (s.host.phase = .applied) then
    let hbNow := match s.amber.hb with | none => false | some h => decide (h.role = 1 ∧ s.amber.roleAt ≤ h.at_)
    let anyHb := match s.amber.hb with | none => false | some h => decide (s.amber.roleAt ≤ h.at_)
    let pref := s.on R.AMBER_CFG_PREF
    let s1 := s.pass (el (s.amber.roleAt + (if pref then 2 * 10 ^ 9 else 10 ^ 7)))
    if hbNow then s.enterStandby
    else if !anyHb && s.framesSeen then
      (if s.amber.split then s else (s.modAmber (fun a => { a with split := true })).raise R.AMBER_ASTAT_SPLIT)
    else if (pref || s.portUp (s.get R.AMBER_CFG_PORT)) && !s1.framesSeen then
      (forAll s1.ringList State.ringTryStart ((s1.setRole .active).setRepeat false)).sendStatic
    else s
  else s
/-- ROLE_ASSIGNMENT: in NONE the device takes a role (R875). -/
def execRoleAssignment (s : State) : Host.Outcome State Fault Refusal := .next (roleAssignmentEffect s)

/-! ## Heartbeats (R631) -/

/-- R631: the payload of a heartbeat. -/
def State.hbPayload (s : State) : List Byte :=
  let role := match s.amber.role with | .none => 0 | .active => 1 | .standby => 2 | .takeover => 3 | .warm => 4
  leBytes 8 (role * 2 ^ 61 + armCode s.arm.mode * 2 ^ 58 + s.openLevel * 2 ^ 55 + b2n s.amberReady * 2 ^ 54 + s.amber.statSeq * 2 ^ 32
      + s.get R.AMBER_CK_SEQ_VAL)
    ++ leBytes 8 (s.get R.ARM_CYC_LEN_LEN * 2 ^ 51 + s.get R.ARM_EXEC_OFS_OFS * 2 ^ 38 + s.get R.ARM_CYC_PHASE_PHASE * 2 ^ 16)

/-- R631: a heartbeat leaves at the cycle start `tk` in ns. -/
def State.sendHb (tk : Nat) (s : State) : State :=
  match s.amber.role with
  | .active => s.pairSend 2 (s.pairMsg 4 (tag32 tk) (s.get R.ARM_CYC_CNT_COUNT) s.hbPayload)
  | .standby => s.pairSend 2 (s.pairMsg 4 (tag32 tk) (s.get R.ARM_CYC_CNT_COUNT) s.hbPayload)
  | .warm => s.pairSend 2 (s.pairMsg 4 (tag32 tk) (s.get R.ARM_CYC_CNT_COUNT) s.hbPayload)
  | .none => s
  | .takeover => s

/-- R631: what a heartbeat carries, at time `now`. -/
def parseHb (now : Nat) (pl : List Byte) : HbInfo :=
  let a := leNat (pl.take 8)
  let b := leNat ((pl.drop 8).take 8)
  { at_ := now, role := bits a 61 3, arm := bits a 58 3, level := bits a 55 3, ready := bitOf a 54, statSeq := bits a 32 16
    ckSeq := bits a 0 32, cycLen := bits b 51 13, execOfs := bits b 38 13, phase := bits b 16 16 }

/-- R625, R631: a message of the pair that counts: its check and its sender are right. -/
def State.pairValid (s : State) (p : Nat) (m : CMsg) (t : Nat) : Bool :=
  s.pairLink p && s.amberUp && m.mcrcOk && decide (m.mtype = t) && decide (m.src = s.get R.AMBER_CFG_PEER)

/-! ## The decision to take over (R639, R641, R645) -/

/-- R650: what t_D is about to replace. -/
def State.takeBack (s : State) : TakeBack where
  roleAt := s.amber.roleAt
  quiet := s.amber.quiet
  split := s.amber.split
  leftAt := s.amber.leftAt
  hoSeq := s.amber.hoSeq
  holdover := s.get R.TIME_STATUS_HOLDOVER
  takeback := s.get R.AMBER_ASTAT_TAKEBACK
  pub := lookupKey s.net.pubs 0
  sentOn := s.net.sentOn
  txSeq := s.net.txSeq

/-- R641: W in ns. -/
def takeWait (warm handover : Bool) : Nat := if warm || handover then 10000 else 15000

/-- R641, R645, R648: t_D. -/
def State.takeOver (t : TakeTrigger) (s : State) : State :=
  let warm := decide (s.amber.role = .warm)
  let w := takeWait warm (decide (t = .handover))
  let s1 := (s.setRole .takeover).modAmber (fun a => { a with take := some ⟨s.elNs, t, w, warm, false, s.takeBack⟩, hoSeq := none })
  let s2 := (srvSrcEffect (s.get R.AMBER_CFG_TSRC) s1).wakeGlades
  s2.flagIf warm R.AMBER_ASTAT_TAKEBACK

/-- R650: the takeover under way was decided for silence at this very instant, and nothing has been restored. -/
def State.takenNow (s : State) : Bool :=
  match s.amber.take with
  | none => false
  | some t => decide (s.amber.role = .takeover ∧ t.trig = .missed ∧ t.tD = s.elNs) && !t.restored

/-- R650: a heartbeat or a frame start at the instant of the timeout: there is no takeover. -/
def State.untake (s : State) : State :=
  match s.amber.take with
  | none => s
  | some t =>
    if s.takenNow then
      let b := t.back
      let s1 := s.modAmber (fun a => { a with role := if t.warm then .warm else .standby, roleAt := b.roleAt, quiet := b.quiet, split := b.split
                                              leftAt := b.leftAt, hoSeq := b.hoSeq, take := none, waking := [] })
      let s2 := (s1.modNet (fun n => { n with
        pubs := match b.pub with | some x => insertKey 0 x n.pubs | none => n.pubs
        sentOn := b.sentOn, txSeq := b.txSeq })).putAll
          [(R.TIME_SRV_CFG_SRC, 2), (R.TIME_STATUS_HOLDOVER, b.holdover), (R.AMBER_ASTAT_TAKEBACK, b.takeback)]
      if t.warm then s2 else s2.gateGlades
    else s

/-- R639: the silence of the peer raises a bit of ASTAT and its event. -/
def State.silence (F : Field) (s : State) : State :=
  let r := s.raiseWith F { cls := .canopy, unit := amberUnit }
  r.2.modAmber (fun a => { a with alarm := some r.1 })

/-- R639: heartbeats are missing but frames are seen. -/
def State.splitSeen (s : State) : State :=
  if s.amber.split then s else (s.modAmber (fun a => { a with split := true })).silence R.AMBER_ASTAT_SPLIT

/-- R650: a heartbeat at the instant of the timeout counts: the silence has raised nothing. -/
def State.unalarm (s : State) : State :=
  match s.amber.alarm with
  | none => s
  | some b => if b.at_ = s.elapsed then (s.unraiseWith b).modAmber (fun a => { a with alarm := none }) else s

/-- R647, R650: PEER_READY drops at the instant of a HANDOVER write: the write is refused. -/
def State.handoverRefused (h : HbInfo) (s : State) : State :=
  if s.amber.hoStage = 1 ∧ s.amber.hoAt = s.elNs ∧ h.ready = false then
    (s.modAmber (fun a => { a with hoStage := 0 })).config R.AMBER_CTRL_HANDOVER.addr
  else s

/-- R875: the device has taken ACTIVE from NONE at this very instant. -/
def State.activeNow (s : State) : Bool := decide (s.amber.role = .active ∧ s.amber.roleAt = s.elNs) && !s.amber.hold

/-- HB_RECEIVED (R631, R638, R639, R650, R875). -/
def hbReceivedEffect (p : Nat) (m : CMsg) (s : State) : State :=
  if s.pairValid p m 4 then
    let h := parseHb s.elNs m.payload
    let s1 := (s.untake.unalarm.handoverRefused h).modAmber (fun a => { a with hb := some h, quiet := s.elNs, lost := false, split := false })
    let s2 := s1.flagIf (s1.isSink && !s1.hbAgrees h) R.AMBER_ASTAT_CFG_MIS
    if s2.activeNow ∧ h.role = 1 then s2.enterStandby.modAmber (fun a => { a with leftAt := s.amber.leftAt })
    else if s2.amber.role = .active ∧ h.role = 1 ∧ s2.get R.AMBER_CFG_PEER < s2.get R.CANOPY_DEVID_ID then s2.yieldRole else s2
  else s
/-- HB_RECEIVED: a valid heartbeat arrives (R631). -/
def execHbReceived (p : Nat) (m : CMsg) (s : State) : Host.Outcome State Fault Refusal := .next (hbReceivedEffect p m s)

/-- HEARTBEAT_TIMEOUT (R631, R639, R650): device time comes to the end of the silence. -/
def heartbeatTimeoutEffect (s : State) : State :=
  if s.amberUp then
    let s1 := s.pass (el (s.amber.quiet + 2 * s.tNs + 100 * s.get R.AMBER_CFG_HB_MARGIN))
    match s.amber.role with
    | .active =>
      if s.amber.lost then s
      else (s1.modAmber (fun a => { a with lost := true })).silence R.AMBER_ASTAT_PEER_LOST
    | .standby => if s1.framesSeen then s1.splitSeen else s1.takeOver .missed
    | .warm => if s1.framesSeen then s1.splitSeen else s1.takeOver .missed
    | .none => s
    | .takeover => s
  else s
/-- HEARTBEAT_TIMEOUT: no valid heartbeat for 2 T + HB_MARGIN (R639). -/
def execHeartbeatTimeout (s : State) : Host.Outcome State Fault Refusal := .next (heartbeatTimeoutEffect s)

/-- R650: a WITHDRAW that meets t_D of a planned handover governs it. -/
def State.withdrawGoverns (cls : Nat) (s : State) : State :=
  match s.amber.take with
  | some t =>
    if t.trig = .handover ∧ t.tD = s.elNs then
      s.modAmber (fun a => { a with take := some { t with trig := .withdraw cls, w := takeWait t.warm false } })
    else s
  | none => s

/-- WITHDRAW_RECEIVED (R639, R650). -/
def withdrawEffect (p : Nat) (m : CMsg) (s : State) : State :=
  if s.pairValid p m 8 then (if s.isSink then s.takeOver (.withdraw (bits m.aux 0 5)) else s.withdrawGoverns (bits m.aux 0 5)) else s
/-- WITHDRAW_RECEIVED: a WITHDRAW triggers a takeover (R639). -/
def execWithdrawReceived (p : Nat) (m : CMsg) (s : State) : Host.Outcome State Fault Refusal := .next (withdrawEffect p m s)

/-- The last complete checkpoint is the one that a HANDOVER names (R639). -/
def State.handoverDue (s : State) : Bool :=
  match s.amber.hoSeq, s.amber.img with
  | some q, some (_, seq, _) => decide (q = seq)
  | some _, none => false
  | none, _ => false

/-- HANDOVER_RECEIVED (R639, R647). -/
def handoverReceivedEffect (p : Nat) (m : CMsg) (s : State) : State :=
  if s.pairValid p m 7 && s.isSink then
    let s1 := (s.modAmber (fun a => { a with hoSeq := some m.tag })).wakeGlades
    if s1.handoverDue then s1.takeOver .handover else s1
  else s
/-- HANDOVER_RECEIVED: a HANDOVER wakes the glades and names the checkpoint to restore (R639). -/
def execHandoverReceived (p : Nat) (m : CMsg) (s : State) : Host.Outcome State Fault Refusal := .next (handoverReceivedEffect p m s)

/-! ## The sink (R637, R638) -/

/-- R837: the data-port address of sink image k. -/
def imgBase (k : Nat) : Nat := 0xD10000 + 0x10000 * k

/-- The image that does not hold the last complete checkpoint (R638). -/
def State.sinkImage (s : State) : Nat := match s.amber.img with | some (0, _, _) => 1 | some _ => 0 | none => 0

/-- R638: the checkpoint of a sequence is discarded, once. -/
def State.ckBad (seq : Nat) (s : State) : State :=
  if s.amber.badCk = some seq then s.modAmber (fun a => { a with rxCk := none })
  else (s.modAmber (fun a => { a with rxCk := none, badCk := some seq })).raise R.AMBER_ASTAT_CK_BAD

/-- R638: the reception in progress is discarded. -/
def State.ckDiscard (s : State) : State :=
  match s.amber.rxCk with
  | some r => s.ckBad r.seq
  | none => s

/-- R638: the last message of a checkpoint has been written: the trailer is judged. -/
def State.ckJudge (seq size : Nat) (s : State) : State :=
  let b := imgBase s.sinkImage
  let ok := decide (8 ≤ size) && decide (s.rd (b + size - 8) 4 = seq)
    && decide (s.rd (b + size - 4) 4 = crc32c (Memory.readN s.mem b (size - 8)))
  if ok then
    let s1 := (s.modAmber (fun a => { a with rxCk := none, img := some (s.sinkImage, seq, size) })).putAll
      [(R.AMBER_CK_SEQ_VAL, seq), (R.AMBER_CK_CYC_VAL, s.rd (b + 8) 4)]
    if s1.handoverDue then s1.takeOver .handover else s1
  else s.ckDiscard

/-- R638: one CKPT message enters the sink. -/
def State.ckTake (m : CMsg) (s : State) : State :=
  let idx := bits m.aux 0 16
  let s1 := if idx = 0 then (s.ckDiscard).modAmber (fun a => { a with rxCk := some { seq := m.tag, next := 0 }, badCk := none }) else s
  match s1.amber.rxCk with
  | none => s1.ckBad m.tag
  | some r =>
    if r.seq = m.tag ∧ r.next = idx ∧ 256 * idx + m.payload.length ≤ 65536 then
      let s2 := s1.writeFrom 6 (imgBase s1.sinkImage + 256 * idx) m.payload
      if bitOf m.aux 31 then s2.ckJudge m.tag (256 * idx + m.payload.length)
      else s2.modAmber (fun a => { a with rxCk := some { seq := r.seq, next := idx + 1 } })
    else s1.ckDiscard

/-- R650: a checkpoint that completes at t_D is the one restored. -/
def State.sinkAtTd (s : State) : Bool :=
  match s.amber.take with
  | none => false
  | some t => decide (s.amber.role = .takeover ∧ t.tD = s.elNs) && !t.restored

/-- CKPT_RECEIVED (R638, R650). -/
def ckptReceivedEffect (p : Nat) (m : CMsg) (s : State) : State :=
  if s.pairValid p m 5 && (s.isSink || s.sinkAtTd) then s.ckTake m else s
/-- CKPT_RECEIVED: a CKPT message enters the sink (R638). -/
def execCkptReceived (p : Nat) (m : CMsg) (s : State) : Host.Outcome State Fault Refusal := .next (ckptReceivedEffect p m s)

/-- R637, R638: one STATIC message enters the static part being received. -/
def State.statTake (m : CMsg) (s : State) : State :=
  let idx := bits m.aux 0 16
  let r : RxPart := if idx = 0 then { seq := m.tag, next := 0 } else s.amber.rxStat.getD { seq := 0, next := 0 }
  if r.seq = m.tag ∧ r.next = idx then
    let bs := r.bytes ++ m.payload
    if bitOf m.aux 31 then s.modAmber (fun a => { a with rxStat := none, stat := some (m.tag % 65536, bs), statSeq := m.tag % 65536 })
    else s.modAmber (fun a => { a with rxStat := some { seq := m.tag, next := idx + 1, bytes := bs } })
  else s.modAmber (fun a => { a with rxStat := none })

/-- STATIC_RECEIVED (R637). -/
def staticReceivedEffect (p : Nat) (m : CMsg) (s : State) : State :=
  if s.pairValid p m 6 && s.isSink then s.statTake m else s
/-- STATIC_RECEIVED: a STATIC message updates the static part (R637). -/
def execStaticReceived (p : Nat) (m : CMsg) (s : State) : Host.Outcome State Fault Refusal := .next (staticReceivedEffect p m s)

/-! ## Checkpoints sent (R632, R633) -/

/-- R632, R633: what is ready of the region goes to the port in whole messages; the last buffer's copy brings the trailer. -/
def State.streamOn2 (c : CkStream) (s : State) : State :=
  let all := c.bufs.isEmpty
  let bs := if all then c.bytes ++ regionTrailer c.seq c.bytes else c.bytes
  let n := if all then (bs.length + 255) / 256 else bs.length / 256
  let s1 := forAll ((List.range n).drop c.next) (fun i a =>
    a.pairSend 5 (a.pairMsg 5 c.seq ((if all && decide (i + 1 = n) then 2 ^ 31 else 0) + i) ((bs.drop (256 * i)).take 256))) s
  s1.modAmber (fun a => { a with stream := some { c with bytes := c.bytes, next := max c.next n } })

/-- R633: a stream that has not ended is abandoned. -/
def State.streamAbandon (s : State) : State :=
  if s.amber.stream.isSome then
    let p := s.get R.AMBER_CFG_PORT
    let x := s.port p
    ((s.setPort p { x with queue := x.queue.filter (fun e => decide (e.2.mtype ≠ 5)) }).modAmber (fun a => { a with stream := none })).raise
      R.AMBER_ASTAT_CK_LATE
  else s

/-- R650: the state as a capture sees it: a commit of the same instant is not in it. -/
def State.beforeCommit (s : State) : State :=
  match s.amber.preCommit with
  | none => s
  | some (e, a, r, c) => if e = s.elapsed then { s with arm := a, rank := r, enc := c } else s

/-- CHECKPOINT_CAPTURE (R632, R633, R650): device time comes to t_k + 0.6 T; samples in progress complete first. -/
def checkpointCaptureEffect (s : State) : State :=
  if s.amberUp && s.up 5 && decide (s.amber.role = .active) && s.arm.running then
    let s1 := (s.reachOfs (el (6 * s.get R.ARM_CYC_LEN_LEN))).streamAbandon
    let s2 := forAll ((s1.loops.filter (fun e => e.2.waiting)).map (·.1)) loopSampleEffect s1
    if s2.regionOver then s2
    else
      let seq := (s2.amber.ckSeq + 1) % 2 ^ 32
      let s3 := s2.modAmber (fun a => { a with ckSeq := seq })
      (s3.useFree 2).streamOn2
        { seq := seq, cyc := s3.get R.ARM_CYC_CNT_COUNT, size := s3.regionSize, bytes := s3.beforeCommit.regionHw seq, bufs := s3.ckBufs.map (·.1), next := 0 }
  else s
/-- CHECKPOINT_CAPTURE: the hardware part is captured and the stream begins (R632). -/
def execCheckpointCapture (s : State) : Host.Outcome State Fault Refusal := .next (checkpointCaptureEffect s)

/-- R632: no item that declares the buffer read-write is staged or running. -/
def State.bufQuiet (s : State) (h : Nat) : Bool :=
  let writes (w : Option WorkItem) : Bool := match w with
    | none => false
    | some i => match s.task i.task with | none => false | some x => x.decl.bufs.any (fun b => decide (b.1 = h) && b.2.2)
  s.sched.cores.all (fun e => !writes e.2.run && !writes e.2.staged)

/-- CHECKPOINT_BUFFER_COPY (R632): the buffers are copied in ascending handle order. -/
def checkpointBufferEffect (h : Nat) (s : State) : State :=
  match s.amber.stream with
  | none => s
  | some c =>
    match c.bufs with
    | [] => s
    | k :: rest =>
      if s.amberUp && decide (k = h) && s.bufQuiet h then
        match s.bufAddr h, lookupKey s.ckBufs h with
        | some a, some b =>
          let r := s.readFrom 6 a b.decl.size
          r.2.streamOn2 { c with bytes := c.bytes ++ padBlocks r.1, bufs := rest }
        | some _, none => s
        | none, _ => s
      else s
/-- CHECKPOINT_BUFFER_COPY: a firmware checkpoint buffer is copied (R632). -/
def execCheckpointBufferCopy (h : Nat) (s : State) : Host.Outcome State Fault Refusal := .next (checkpointBufferEffect h s)

/-! ## Ungating and restoring (R628, R641, R642) -/

/-- UNGATE_COMPLETE (R628). -/
def ungateCompleteEffect (g : Nat) (s : State) : State :=
  if s.amber.waking.contains g then
    (s.setGlade g { s.glade g with gated := false }).modAmber (fun a => { a with waking := dropKey g a.waking })
  else s
/-- UNGATE_COMPLETE: an ungated glade runs again (R628). -/
def execUngateComplete (g : Nat) (s : State) : Host.Outcome State Fault Refusal := .next (ungateCompleteEffect g s)

/-- UNGATE_TIMEOUT (R24, R628). -/
def ungateTimeoutEffect (g : Nat) (s : State) : State :=
  if s.amber.waking.contains g then (s.modAmber (fun a => { a with waking := dropKey g a.waking })).gladeLoss g else s
/-- UNGATE_TIMEOUT: a clock or link is not good 2 µs after the request (R628). -/
def execUngateTimeout (g : Nat) (s : State) : Host.Outcome State Fault Refusal := .next (ungateTimeoutEffect g s)

/-- TAKEOVER_RESTORE (R630, R641, R642): the restore has taken `restoreNs`. -/
def takeoverRestoreEffect (restoreNs : Nat) (s : State) : State :=
  match s.amber.take with
  | none => s
  | some t =>
    if s.amberUp && decide (s.amber.role = .takeover) && !t.restored && s.amber.waking.isEmpty then
      match s.amber.img, s.amber.stat with
      | some (k, _, _), some (_, bs) =>
        ((s.restoreAll (imgBase k) (Config.staticParse bs) t.trig).modAmber (fun a => { a with take := some { t with restored := true } })).put
          R.AMBER_TK_LAST_RST (satTo 65535 (restoreNs / 10))
      | some _, none => (s.enterStandby.raise R.AMBER_ASTAT_TK_FAIL).eventAt .canopy amberUnit 0 1
      | none, _ => (s.enterStandby.raise R.AMBER_ASTAT_TK_FAIL).eventAt .canopy amberUnit 0 1
    else s
/-- TAKEOVER_RESTORE: the restore completes or fails (R641). -/
def execTakeoverRestore (restoreNs : Nat) (s : State) : Host.Outcome State Fault Refusal := .next (takeoverRestoreEffect restoreNs s)

/-- R641, R642: a cycle start that is t_a: hold frames are due on every admitted ring, and the role becomes ACTIVE. -/
def State.holdStart (s : State) : State :=
  match s.amber.take with
  | none => s
  | some t =>
    if s.pairOp && decide (s.amber.role = .takeover) && t.restored && decide (t.tD + t.w ≤ s.elNs) then
      let s1 := ((s.setRepeat false).setRole .active).modAmber (fun a => { a with hold := true })
      let s2 := forAll s1.liveSms (fun i a => a.setSlot i { act := if (a.prot i).fire then 3 else 0 }) s1
      (s2.raise R.AMBER_ASTAT_TAKEOVER).budgetCheck.regionCheck.sendStatic
    else s

/-- R641: the first commands after a hold cycle leave at a cycle start. -/
def State.holdEnd (s : State) : State :=
  if s.amber.hold then
    let n := match s.amber.take with | some t => (s.elNs - t.tD) / 10 | none => 0
    (s.modAmber (fun a => { a with hold := false, take := none })).put R.AMBER_TK_LAST_TK (satTo 65535 n)
  else s

/-! ## Planned handover (R647, R648) -/

/-- HANDOVER (R647, R650). -/
def handoverEffect (s : State) : State :=
  if s.up 6 && s.variant.hasPair then
    if s.amberUp && decide (s.amber.role = .active) && s.peerReady && decide (s.arm.mode ≠ .debugHalt) && !s.openL3 then
      (if s.amber.hoStage = 0 then s.modAmber (fun a => { a with hoStage := 1, hoAt := s.elNs }) else s)
    else s.config R.AMBER_CTRL_HANDOVER.addr
  else s
/-- HANDOVER: AMBER.CTRL.HANDOVER is written (R647). -/
def execHandover (s : State) : Host.Outcome State Fault Refusal := .next (s.commanded 0xB4008 handoverEffect)

/-- R647: a cycle start after an accepted handover: first HANDOVER is sent, then the device becomes WARM. -/
def State.handoverStep (s : State) : State :=
  if s.amber.hoStage = 1 ∧ s.amber.role = .active then
    ((s.pairSend 2 (s.pairMsg 7 ((s.amber.ckSeq + 1) % 2 ^ 32) (s.get R.ARM_CYC_CNT_COUNT) [])).modAmber (fun a => { a with hoStage := 2 })).raise
      R.AMBER_ASTAT_HANDOVER
  else if s.amber.hoStage = 2 ∧ s.amber.role = .active then
    let s1 := (((s.setRole .warm).put R.TIME_SRV_CFG_SRC 2).setRepeat true).modAmber (fun a => { a with hoStage := 0 })
    if s1.get R.AMBER_SUP_SUP_MS = 0 then s1.enterStandby else s1
  else s

/-- WARM_SUP_END (R648): device time comes to the end of the supervision. -/
def warmSupEffect (s : State) : State :=
  if s.amberUp && decide (s.amber.role = .warm) then
    (s.pass (el (s.amber.roleAt + s.get R.AMBER_SUP_SUP_MS * 10 ^ 6))).enterStandby
  else s
/-- WARM_SUP_END: SUP_MS elapses in WARM (R648). -/
def execWarmSupEnd (s : State) : Host.Outcome State Fault Refusal := .next (warmSupEffect s)

/-! ## Frames on the cell lanes (R626, R639, R640) -/

/-- RING_FOREIGN_FRAME (R639). -/
def foreignFrameEffect (n dir : Nat) (s : State) : State :=
  if s.pairOp && s.ringUp n && decide (s.amber.role = .active) && !(s.lane n).rep && decide (dir % 2 ≠ s.get (R.RING_CFG_END n)) then s.yieldRole
  else s
/-- RING_FOREIGN_FRAME: an active device receives a frame of the other direction (R639). -/
def execRingForeignFrame (n dir : Nat) (s : State) : Host.Outcome State Fault Refusal := .next (foreignFrameEffect n dir s)

/-- REPEAT_FRAME_START (R626, R650). -/
def repeatFrameEffect (l : Nat) (blocks : List (Nat × Nat)) (s : State) : State :=
  if s.pairOp && decide (l < 96) && s.laneUp l && (s.lane l).rep then
    let s1 := s.setLane l { s.lane l with rptOut := blocks.map repeatedBlock }
    if s.on (R.RING_CFG_DUAL l) then
      let s2 := s1.modAmber (fun a => { a with frameAt := some s.elNs })
      if s2.takenNow then s2.untake.splitSeen else s2
    else s1
  else s
/-- REPEAT_FRAME_START: a frame start on a repeating cell lane (R626). -/
def execRepeatFrameStart (f : RepeatedFrame) (s : State) : Host.Outcome State Fault Refusal := .next (repeatFrameEffect f.lane f.blocks s)

/-- R640: the WITHDRAW leaves before the fabric glade stops: within 200 ns, behind the message in transmission. -/
def State.sendWithdraw (cls : Nat) (s : State) : State :=
  let p := s.get R.AMBER_CFG_PORT
  if s.amberUp && s.pairLink p then
    let m := s.pairMsg 8 0 cls []
    (s.setPort p (PortSt.carry (some (false, m)) { s.port p with out := some m })).addTo (R.CANOPY_TX_CNT_COUNT p) 1
  else s

/-- R630, R640: an L4 of class `cls` reaches the pair. -/
def State.amberL4 (cls : Nat) (s : State) : State :=
  if s.pairOp then
    match s.amber.role with
    | .active =>
      ((s.sendWithdraw cls).setRole .none).modAmber (fun a => { a with blkAgain := true, l4At := s.elNs, hoStage := 0, stream := none, hold := false, take := none })
    | .standby => (s.setRole .none).setRepeat false
    | .warm => (s.setRole .none).setRepeat false
    | .takeover => (s.setRole .none).setRepeat false
    | .none => s
  else s

/-- BLOCK_FRAME_REPEAT (R640): device time comes to T after the decision; the block frames leave again, and the cell lanes
go into repeat mode. -/
def blockRepeatEffect (s : State) : State :=
  if s.amber.blkAgain then
    let s1 := ((s.pass (el (s.amber.l4At + s.tNs))).askBlockFrames).modAmber (fun a => { a with blkAgain := false })
    let s2 := (forAll s1.ringList blockFrameEffect s1).setRepeat true
    forAll ((List.range (s2.variant.rings / 8)).map (fun k => 32 + k)) State.ringGladeStop s2
  else s
/-- BLOCK_FRAME_REPEAT: the block frames of an L4 leave again (R640). -/
def execBlockFrameRepeat (s : State) : Host.Outcome State Fault Refusal := .next (blockRepeatEffect s)

end Sys2Proof.Machine
end

