-- ==== Sys2Proof/Machine/EventLevel.lean ====
section
/-! DEFINITION. The level at which the collector takes an event (R24, R733, R739), and what taking it leaves in the record of its class
(R743, R744). -/

namespace Sys2Proof.Machine

/-! ## Units -/

/-- What kind of unit an identifier names, among those that can be fenced on their own (R13, R739). -/
inductive UnitKind where
  | core (u : Nat)
  | ring (n : Nat)
  | lane (l : Nat)
  | port (p : Nat)
  | checkpoint
  | eth (p : Nat)
  | ptp
  | servo
  | loop (k : Nat)
  | channel (c : Nat)
  | pos (i : Nat)
  | adc (c : Nat)
  | other
deriving DecidableEq, Repr

/-- R13: the kind of a unit in a variant. -/
def unitKind (v : Variant) (u : Nat) : UnitKind :=
  let g := u / 256
  let i := u % 256
  if 16 ≤ g ∧ g < 16 + v.groves ∧ i ≤ 8 then .core (9 * (g - 16) + i)
  else if 32 ≤ g ∧ g < 32 + v.rings / 8 ∧ i < 8 then .ring (8 * (g - 32) + i)
  else if 32 ≤ g ∧ g < 32 + v.rings / 8 ∧ i < 16 then .lane (8 * (g - 32) + (i - 8))
  else if g = 6 ∧ i < 4 then .port i
  else if g = 6 ∧ 8 ≤ i ∧ i < 24 then .lane (96 + (i - 8))
  else if u = 0x0620 then .checkpoint
  else if g = 7 ∧ i < 4 then .eth i
  else if g = 7 ∧ 8 ≤ i ∧ i < 12 then .lane (112 + (i - 8))
  else if u = 0x0712 then .ptp
  else if u = 0x0401 then .servo
  else if g = 8 ∧ i < v.loops then .loop i
  else if g = 9 ∧ i < 16 then .channel i
  else if (u = 0x0910 ∨ u = 0x0911) ∧ v.hasPos = true then .pos (i - 16)
  else if g = 10 ∧ i < 2 then .adc i
  else .other

/-! ## Fence targets (R739) -/

/-- R739: what an L2 fences. -/
inductive Target where
  | glade (g : Nat)
  | units (l : List Nat)
  | task (t : Nat)
  | hostDcmd
  | notFenceable
deriving DecidableEq, Repr

/-- R24, R739: a glade, where its loss alone stays at L2. -/
def State.gladeTarget (s : State) (g : Nat) : Target := if s.lossLevel g ≤ 2 then .glade g else .notFenceable

/-- A unit, where it can be fenced on its own. -/
def State.unitTarget (s : State) (u : Nat) : Target := match unitKind s.variant u with | .other => .notFenceable | _ => .units [u]

/-- R739: a unit of one of the named kinds. -/
def State.targetIf (s : State) (ok : UnitKind → Bool) (u : Nat) : Target :=
  if ok (unitKind s.variant u) then s.unitTarget u else .notFenceable

/-- Both channels of the pair that a channel belongs to (R357, R360). -/
def pairUnits (c : Nat) : List Nat := [chUnit (2 * (c / 2)), chUnit (2 * (c / 2) + 1)]

/-- R360, R739: the ring named, or the PWM channel, or its pair where both channels' faults are latched. -/
def State.ringOrChannel (s : State) (pair : Bool) (u : Nat) : Target :=
  match unitKind s.variant u with
  | .ring _ => .units [u]
  | .channel c => if pair || s.pairFault c then .units (pairUnits c) else .units [u]
  | _ => .notFenceable

/-- R157, R357: the source of the interlock conflict that an event reports. -/
def State.intlkTarget (s : State) (e : Event) : Target :=
  match unitKind s.variant e.unit with
  | .channel c => .units (pairUnits c)
  | _ => if e.unit ≠ encUnit ∨ e.src = 0 then .notFenceable else if e.src = 1 then .hostDcmd else .task (e.src - 2)

/-- R739, R828: the memory named, or the unit whose triplicated field is lost. -/
def State.memTarget (s : State) (u : Nat) : Target :=
  if 16 ≤ u / 256 ∧ u / 256 < 32 ∧ u % 256 = 16 then .glade (u / 256) else s.unitTarget u

/-- R739: the fence target of an event. -/
def State.fenceTarget (s : State) (e : Event) : Target :=
  match e.cls with
  | .clk => if e.glade then s.gladeTarget (e.unit / 256) else .notFenceable
  | .pwr => if e.glade then s.gladeTarget (e.unit / 256) else .notFenceable
  | .mem => s.memTarget e.unit
  | .bus => s.unitTarget e.unit
  | .core => s.targetIf (fun k => match k with | .core _ => true | _ => false) e.unit
  | .sched => if e.unit = schedUnit ∨ e.unit = storeUnit then .task e.aux else .notFenceable
  | .lane => s.targetIf (fun k => match k with | .lane _ => true | _ => false) e.unit
  | .ring => s.targetIf (fun k => match k with | .ring _ => true | _ => false) e.unit
  | .cell => s.ringOrChannel e.fences e.unit
  | .sc => s.ringOrChannel e.fences e.unit
  | .gdrv => s.ringOrChannel e.fences e.unit
  | .intlk => s.intlkTarget e
  | .loop => s.targetIf (fun k => match k with | .loop _ => true | _ => false) e.unit
  | .time => s.targetIf (fun k => match k with | .servo => true | _ => false) e.unit
  | .canopy => s.targetIf (fun k => match k with | .port _ => true | .checkpoint => true | _ => false) e.unit
  | .net => s.targetIf (fun k => match k with | .eth _ => true | .ptp => true | _ => false) e.unit
  | .adc => s.targetIf (fun k => match k with | .adc _ => true | _ => false) e.unit
  | .pos => s.targetIf (fun k => match k with | .pos _ => true | _ => false) e.unit
  | .safe => .notFenceable
  | .sec => .notFenceable
  | .config => .notFenceable
  | .age => .notFenceable

/-! ## Records (R743, R744) -/

/-- The record of a class by its code; `used` is false where it is closed. -/
def State.record (s : State) (c : Nat) : FaultRec := tget {} s.flt.recs c
/-- The collector's part replaced. -/
def State.modFlt (f : FltSt → FltSt) (s : State) : State := { s with flt := f s.flt }
end Sys2Proof.Machine

namespace Sys2Proof

/-- R24, R732: the event is the loss of a glade other than the collector's. -/
def Event.losesGlade (e : Event) : Bool := decide (e.cls = .clk) && e.glade && decide (e.unit / 256 ≠ 1)

/-- R24, R739: the event has something fenced at a level: at L2 its target, and from L3 upwards the glade that it loses or the unit
that its rule fences. -/
def Event.fencesAt (e : Event) (lvl : Nat) : Bool := decide (lvl = 2) || (decide (3 ≤ lvl) && (e.fences || e.losesGlade))

end Sys2Proof

namespace Sys2Proof.Machine

/-- R744: the entry of an event taken at level E. -/
def eventRec (s : State) (e : Event) (lvl : Nat) (esc : Bool) : FaultRec where
  used := true
  cls := classCode e.cls
  level := lvl
  esc := esc
  standing := e.standing
  fenced := e.fencesAt lvl
  glade := e.glade
  unit := e.unit
  tsNs := s.nowNs
  tsEl := s.elNs
  endNs := s.elNs
  aux := e.aux
  group := e.group
  src := e.src

/-- R743: the record of the event's class is opened, or takes a further event. -/
def State.updateRecord (e : Event) (lvl : Nat) (esc : Bool) (s : State) : State :=
  let c := classCode e.cls
  let r := s.record c
  let x : FaultRec :=
    if r.used then { r with level := max r.level lvl, rep := satTo 255 (r.rep + 1), fenced := r.fenced || e.fencesAt lvl }
    else eventRec s e lvl esc
  s.modFlt (fun f => { f with recs := tset {} f.recs c x })

/-! ## Levels (R733) -/

/-- R24, R733: the level of an event before escalation; the loss of a glade has its own least level. -/
def State.rawLevel (s : State) (e : Event) : Nat :=
  let base := s.get (R.FLT_BASE_LVL (classCode e.cls))
  let least := if e.cls = .clk ∧ e.glade = true then s.lossLevel (e.unit / 256) else 0
  match e.req with
  | .l0 => 0
  | .base => max least base
  | .atLeast l => max least (max l base)

/-- R165, R733: an open record escalates the event. -/
def State.escalates (s : State) (e : Event) : Bool :=
  let r := s.record (classCode e.cls)
  decide (1 ≤ s.rawLevel e) && r.used && !(e.group.isSome && decide (r.group = e.group))

/-- R733: the level at which an event is taken. -/
def State.takenLevel (s : State) (e : Event) : Nat :=
  let l := if s.escalates e then min (s.rawLevel e + 1) 4 else s.rawLevel e
  if l = 2 ∧ s.fenceTarget e = .notFenceable then 3 else l

/-! ## The order in which waiting events are decided (R734) -/

/-- R734, R747: the place of the event that the collector decides next: among those of the instant of the first, the lowest unit. -/
def State.nextEvent (s : State) : Nat :=
  let l := (s.flt.inbox.zip s.flt.inboxAt).takeWhile (fun e => decide (e.2 = s.flt.inboxAt.headD 0))
  l.findIdx (fun e => l.all (fun x => decide (e.1.unit ≤ x.1.unit)))

/-- Its place in the inbox. -/
def State.nextPlace (s : State) : Nat := if s.nextEvent < s.flt.inbox.length then s.nextEvent else 0

/-- R734: the event that the collector decides next, and the state without it. -/
def State.popEvent (s : State) : Option (Event × State) :=
  let k := s.nextPlace
  (s.flt.inbox[k]?).map (fun e => (e, s.modFlt (fun f => { f with inbox := f.inbox.eraseIdx k, inboxAt := f.inboxAt.eraseIdx k })))

/-- R56, R733: one of the next `n` events on their way to the collector will be taken at L3 or L4. -/
def State.l3Coming : Nat → State → Bool
  | 0, _ => false
  | n + 1, s =>
    match s.popEvent with
    | none => false
    | some (e, s1) =>
      let l := s1.takenLevel e
      decide (3 ≤ l) || State.l3Coming n (if 1 ≤ l then s1.updateRecord e l (s1.escalates e) else s1)

end Sys2Proof.Machine
end

