-- ==== Sys2Proof/Machine/Sched.lean ====
section
/-! DEFINITION. Xpx instructions, work items, event flags and operands, dispatch, task control, buffer moves and the
placement trace (R460 to R488, R502 to R518). -/

namespace Sys2Proof.Machine

/-- Core u runs an item and is not halted: what an end of the item needs. -/
def State.coreItem (s : State) (u : Nat) : Bool :=
  decide (u < 9 * s.variant.groves) && s.unitUp (coreUnit u) && (s.core u).run.isSome && !(s.core u).halted

/-- Core u runs an item and does not stall in PX.POSTO (R471): what an instruction of it needs. -/
def State.coreRuns (s : State) (u : Nat) : Bool := s.coreItem u && !s.coreStalled u

/-! ## Xpx arithmetic (R460) -/

/-- R460: the signed product of two registers, reduced by 2^q with a floor. -/
def mulFloor (q a b : Nat) : Int := signedOf 32 a * signedOf 32 b / 2 ^ q

/-- R460: the result kept to 32 bits. -/
def word32 (i : Int) : Nat := codeOf 32 i

/-- R460: a multiplication, with the accumulator added where there is one. -/
def xpxArith (q : Nat) (acc : Bool) (u rd rs1 rs2 : Nat) (s : State) : State :=
  if s.coreRuns u then
    s.setX u rd (word32 ((if acc then signedOf 32 (s.getX u rd) else 0) + mulFloor q (s.getX u rs1) (s.getX u rs2)))
  else s

/-- PX.MULQ16 (R460). -/
def pxMulq16Effect (u rd rs1 rs2 : Nat) (s : State) : State := xpxArith 16 false u rd rs1 rs2 s
/-- PX_MULQ16: a Q16.16 multiplication into rd (R460). -/
def execPxMulq16 (u rd rs1 rs2 : Nat) (s : State) : Host.Outcome State Fault Refusal := .next (pxMulq16Effect u rd rs1 rs2 s)

/-- PX.MACQ16 (R460). -/
def pxMacq16Effect (u rd rs1 rs2 : Nat) (s : State) : State := xpxArith 16 true u rd rs1 rs2 s
/-- PX_MACQ16: a Q16.16 multiply-accumulate into rd (R460). -/
def execPxMacq16 (u rd rs1 rs2 : Nat) (s : State) : Host.Outcome State Fault Refusal := .next (pxMacq16Effect u rd rs1 rs2 s)

/-- PX.MULQ24 (R460). -/
def pxMulq24Effect (u rd rs1 rs2 : Nat) (s : State) : State := xpxArith 24 false u rd rs1 rs2 s
/-- PX_MULQ24: a Q16.16 by Q8.24 multiplication into rd (R460). -/
def execPxMulq24 (u rd rs1 rs2 : Nat) (s : State) : Host.Outcome State Fault Refusal := .next (pxMulq24Effect u rd rs1 rs2 s)

/-- PX.MACQ24 (R460). -/
def pxMacq24Effect (u rd rs1 rs2 : Nat) (s : State) : State := xpxArith 24 true u rd rs1 rs2 s
/-- PX_MACQ24: a Q16.16 by Q8.24 multiply-accumulate into rd (R460). -/
def execPxMacq24 (u rd rs1 rs2 : Nat) (s : State) : Host.Outcome State Fault Refusal := .next (pxMacq24Effect u rd rs1 rs2 s)

/-! ## Posts (R461 to R463, R467, R469, R471, R502, R504) -/

/-- PX.POSTE (R461). -/
def pxPosteEffect (u rs1 : Nat) (s : State) : State :=
  if s.coreRuns u then s.overLink (16 + u / 9) 5 (State.postFlags (s.getX u rs1)) else s
/-- PX_POSTE: the flags of rs1 are posted (R461). -/
def execPxPoste (u rs1 : Nat) (s : State) : Host.Outcome State Fault Refusal := .next (pxPosteEffect u rs1 s)

/-- PX.POSTO (R462): the reply comes at once, or when a stalled operand is accepted or dropped. -/
def pxPostoEffect (u rd rs1 rs2 idx : Nat) (s : State) : State :=
  if s.coreRuns u && s.up 5 then
    s.overLink (16 + u / 9) 5 <| State.postStalled false { dest := some (u, rd), tag := s.getX u rs1 % 1024, idx := idx % 8, val := s.getX u rs2 }
  else s
/-- PX_POSTO: an operand is posted under a tag (R462). -/
def execPxPosto (u rd rs1 rs2 idx : Nat) (s : State) : Host.Outcome State Fault Refusal := .next (pxPostoEffect u rd rs1 rs2 idx s)

/-- R463: operand idx of the running item's instance; 0 where it has none. -/
def itemOperand (w : Option WorkItem) (idx : Nat) : Nat :=
  match w.bind (fun w => w.inst) with
  | some i => tget 0 i.ops idx
  | none => 0

/-- PX.OPGET (R463). -/
def pxOpgetEffect (u rd idx : Nat) (s : State) : State :=
  if s.coreRuns u then s.setX u rd (itemOperand (s.core u).run (idx % 8)) else s
/-- PX_OPGET: an operand of the running item's instance goes to rd (R463). -/
def execPxOpget (u rd idx : Nat) (s : State) : Host.Outcome State Fault Refusal := .next (pxOpgetEffect u rd idx s)

/-- FLAG_POST (R467). -/
def flagPostEffect (flags : Nat) (s : State) : State := s.postFlags flags
/-- FLAG_POST: a post of flags reaches the scheduler (R467). -/
def execFlagPost (flags : Nat) (s : State) : Host.Outcome State Fault Refusal := .next (flagPostEffect flags s)

/-- OPERAND_POST (R469). -/
def operandPostEffect (tag idx v : Nat) (s : State) : State := s.postOperand (tag % 1024) (idx % 8) (v % 2 ^ 32)
/-- OPERAND_POST: an operand reaches the matching store (R469). -/
def execOperandPost (tag idx v : Nat) (s : State) : Host.Outcome State Fault Refusal := .next (operandPostEffect tag idx v s)

/-- OPERAND_STALL_TIMEOUT (R471): time comes to 1 µs after the stall of the operand that stalled first, and it is dropped. -/
def stallTimeoutEffect (s : State) : State :=
  match s.sched.stalls with
  | [] => s
  | o :: rest => ((s.pass (o.at_ + el 1000)).setStalls rest).dropOperand o
/-- OPERAND_STALL_TIMEOUT: a stalled operand found no entry within 1 µs (R471). -/
def execOperandStallTimeout (s : State) : Host.Outcome State Fault Refusal := .next (stallTimeoutEffect s)

/-- HOST_FLAG_POST (R502). -/
def hostFlagPostEffect (v : Nat) (s : State) : State := s.postFlags (v % 2 ^ 32)
/-- HOST_FLAG_POST: a write to SCHED.FLAG_POST (R502). -/
def execHostFlagPost (v : Nat) (s : State) : Host.Outcome State Fault Refusal := .next (s.commanded 0x5044 (hostFlagPostEffect v))

/-- HOP_VAL_WRITE (R504). -/
def hopValEffect (v : Nat) (s : State) : State :=
  if s.up 5 then (s.put R.SCHED_HOP_VAL_VAL v).postOperand (s.get R.SCHED_HOP_TAG_TAG) (s.get R.SCHED_HOP_TAG_OPIDX) (v % 2 ^ 32) else s
/-- HOP_VAL_WRITE: a write to SCHED.HOP_VAL (R504). -/
def execHopValWrite (v : Nat) (s : State) : Host.Outcome State Fault Refusal := .next (s.commanded 0x504C (hopValEffect v))

/-! ## Dispatch (R473 to R475) -/

/-- An item of the task is staged or running (R473). -/
def State.taskBusy (s : State) (t : Nat) : Bool :=
  s.sched.cores.any (fun e =>
    (match e.2.run with | some w => decide (w.task = t) | none => false)
      || (match e.2.staged with | some w => decide (w.task = t) | none => false))

/-- A buffer that the task declares is in migration or awaits its new location (R483, R485). -/
def State.bufsWait (s : State) (d : TaskDecl) : Bool :=
  s.sched.bufs.any (fun b => (b.move.isSome || b.lost) && d.bufs.any (fun x => decide (x.1 = b.decl.handle)))

/-- The time since which the task has been ready, if it can be dispatched (R473, R474, R632). -/
def State.dispatchable (s : State) (t : Nat) (x : TaskSt) : Option Nat :=
  if x.enabled && !s.taskFenced t && !s.taskBusy t && !s.bufsWait x.decl && !s.ckHolds x.decl then
    (if taskMatched x.decl then x.insts.head?.map (fun i => i.at_) else if x.ready then some x.readyAt else none)
  else none

/-- R32, R474: the order in which ready tasks are taken: priority, class P first, readiness, number; once a core has been lost to a
fence, class P comes first of all. -/
def dispatchKey (lost : Bool) (t : Nat) (x : TaskSt) (rdy : Nat) : Nat × Nat × Nat × Nat :=
  let c := if x.decl.classP = some true then 0 else 1
  if lost then (c, x.decl.prio, rdy, t) else (x.decl.prio, c, rdy, t)

/-- One order key comes before another. -/
def keyBefore (a b : Nat × Nat × Nat × Nat) : Bool :=
  decide (a.1 < b.1) || decide (a.1 = b.1) && (decide (a.2.1 < b.2.1) || decide (a.2.1 = b.2.1) &&
    (decide (a.2.2.1 < b.2.2.1) || decide (a.2.2.1 = b.2.2.1) && decide (a.2.2.2 ≤ b.2.2.2)))

/-- R28, R482: a buffer of the task lies where core u does not reach it: in another core's local SRAM or in another grove's memory. -/
def State.boundElsewhere (s : State) (d : TaskDecl) (u : Nat) : Bool :=
  s.sched.bufs.any (fun b => d.bufs.any (fun x => decide (x.1 = b.decl.handle)) && decide (b.decl.kind = .placed) &&
    (match b.decl.loc with | .sram v _ => decide (v ≠ u) | .grove g _ => decide (g ≠ u / 9) | .device _ => false))

/-- R32: a core of grove g has been lost to a fence: with its glade, on its own, or as the spare in use. -/
def State.coreLost (s : State) (g : Nat) : Bool :=
  s.gladeFenced (16 + g) || (List.range 8).any (fun k => s.unitFenced (coreUnit (9 * g + k)))
    || s.unitFenced (coreUnit (9 * g + 8)) && (s.core (9 * g + 8)).inUse

/-- R474: task t comes first among the dispatchable tasks that may go to core u; a task that only another core may take does
not hold core u’s slot (notes/assumptions/51.md). -/
def State.isNext (s : State) (u t : Nat) (x : TaskSt) (rdy : Nat) : Bool :=
  s.sched.tasks.all (fun e =>
    match s.dispatchable e.1 e.2 with
    | none => true
    | some r => s.boundElsewhere e.2.decl u
      || (let lost := (List.range s.variant.groves).any s.coreLost
          keyBefore (dispatchKey lost t x rdy) (dispatchKey lost e.1 e.2 r)))

/-- The core takes staged items of a task: present, unfenced, not worn, and for the spare, in use, or serving class P after a
fence (R32, R474, R488). -/
def State.takesItems (s : State) (classP : Bool) (u : Nat) : Bool :=
  decide (u < 9 * s.variant.groves) && s.unitUp (coreUnit u) && !(s.core u).worn
    && (decide (u % 9 < 8) || (s.core u).inUse || classP && s.coreLost (u / 9)) && (s.core u).staged.isNone

/-- R32: class P work goes to the unused spare of a grove that has lost a core before it goes to the others. First among the
cores of its own grove only (DESIGN CHOICE, notes/assumptions/60.md). -/
def State.spareFirst (s : State) (classP : Bool) (u : Nat) : Bool :=
  let sp := 9 * (u / 9) + 8
  !(classP && decide (u ≠ sp) && s.coreLost (u / 9) && !(s.core sp).inUse && (s.core sp).run.isNone && s.takesItems true sp)

/-- DISPATCH (R32, R474, R632, R648): the task's item is assigned to a staging slot. Which core is the device's choice (R34). -/
def dispatchEffect (t u : Nat) (s : State) : State :=
  match s.task t with
  | none => s
  | some x =>
    match s.dispatchable t x with
    | none => s
    | some rdy =>
      if s.up 5 && s.on R.SCHED_CTRL_DISPATCH && !s.passive && s.takesItems (decide (x.decl.classP = some true)) u && s.spareFirst (decide (x.decl.classP = some true)) u
          && !s.boundElsewhere x.decl u && s.isNext u t x rdy then
        let w : WorkItem := { task := t, inst := x.insts.head?, readyAt := rdy, asgAt := s.elapsed }
        let x1 := if taskMatched x.decl then { x with insts := x.insts.drop 1 } else taskTaken s.elNs x
        (s.setTask t { x1 with disp := (x.disp + 1) % 65536 }).setCore u { s.core u with staged := some w, done := false }
      else s
/-- DISPATCH: a ready task is assigned to a free staging slot of a chosen core (R474). -/
def execDispatch (t u : Nat) (s : State) : Host.Outcome State Fault Refusal := .next (dispatchEffect t u s)

/-- The item with its operands copied to its frame, so that they leave the store (R470). -/
def WorkItem.copied (w : WorkItem) : WorkItem := { w with inst := w.inst.map (fun i => { i with held := false }) }

/-- STAGING_DONE (R470, R475). -/
def stagingDoneEffect (u : Nat) (s : State) : State :=
  match (s.core u).staged with
  | none => s
  | some w =>
    if (s.core u).done || !s.up 5 then s
    else ((s.setCore u { s.core u with staged := some { w.copied with stgAt := some s.elapsed }, done := true }).drainStalls).startItem u
/-- STAGING_DONE: staging completes, and the item starts on an idle core (R475). -/
def execStagingDone (u : Nat) (s : State) : Host.Outcome State Fault Refusal := .next (stagingDoneEffect u s)

/-- Units of 10 ns, saturating at 16 bits. -/
def units10 (ns : Nat) : Nat := satTo 65535 (ns / 10)

/-- R475, R476, R784: the run and response times of an item that ends now. -/
def State.measure (u : Nat) (w : WorkItem) (s : State) : State :=
  let run := s.elNs - w.startE - w.haltNs
  let resp := s.elNs - w.readyAt
  let late := match s.task w.task with | some x => decide (10 * x.decl.rb < resp) | none => false
  let s1 := s.modTask w.task (fun x => { x with
    run := units10 run, resp := units10 resp
    longest := tset 0 x.longest (u / 9) (max run (tget 0 x.longest (u / 9))) })
  let s2 := if s1.on R.SCHED_TRACE_CTRL_T_ITEM then s1.traceItem 1 u (units10 run * 2 ^ 16) w else s1
  if late then (s2.raise R.SCHED_STAT_RESP_LATE).taskEvent w.task else s2

/-- R492: what an abort at TB moves that ENDW on its edge takes back. -/
def boundKept : List Field :=
  [R.SCHED_ABORT_LAST_CAUSE, R.SCHED_ABORT_LAST_TASK, R.SCHED_ABORT_LAST_UNIT, R.SCHED_ABORT_PC_PC, R.SCHED_ABORT_TVAL_TVAL]
/-- R492: the trace writer's registers. -/
def traceKept : List Field := [R.SCHED_TRACE_WR_IDX, R.SCHED_TRACE_WR_WRAPPED, R.SCHED_TRACE_WR_DROP]

/-- R492: the item that an abort at TB has ended on this very edge, and the state without that abort: the item has ended all the same. -/
def State.unbound (s : State) (u : Nat) : Option (WorkItem × State) :=
  match s.sched.bound with
  | none => none
  | some b =>
    if b.u = u ∧ b.at_ = s.elapsed then
      let e : Event := { cls := .sched, unit := schedUnit, aux := b.item.task }
      let s1 := (((s.unpost e).putAll (boundKept.zip b.kept)).unraise b.bits).modTask b.item.task (fun x => { x with aborts := (x.aborts + 65535) % 65536 })
      let s2 := if s1.on R.SCHED_TRACE_CTRL_T_ABORT then
          ({ s1 with sched := { s1.sched with traceN := b.traceN }
                     mem := Memory.writeN s1.mem (0xC80000 + 16 * b.kept.getD 5 0) b.bytes }).putAll (traceKept.zip (b.kept.drop 5))
        else s1
      some (b.item, { s2 with sched := { s2.sched with bound := none } })
    else none

/-- PX.ENDW (R464, R476, R492). -/
def pxEndwEffect (u : Nat) (s : State) : State :=
  match s.unbound u with
  | some r => r.2.measure u r.1
  | none =>
    if s.coreRuns u then
      match (s.core u).run with
      | none => s
      | some w => (s.measure u w).endItem u
    else s
/-- PX_ENDW: the work item ends and the staged item starts (R464). -/
def execPxEndw (u : Nat) (s : State) : Host.Outcome State Fault Refusal := .next (pxEndwEffect u s)

/-- WORK_ITEM_ABORT (R458, R477). -/
def itemAbortEffect (u cause pc tval : Nat) (s : State) : State :=
  if s.coreItem u && exceptionCause cause then s.abortItem u cause pc tval else s
/-- WORK_ITEM_ABORT: an exception ends the work item (R477). -/
def execWorkItemAbort (u cause pc tval : Nat) (s : State) : Host.Outcome State Fault Refusal :=
  .next (itemAbortEffect u cause pc tval s)

/-- RUN_BOUND_EXPIRED (R476, R492): time comes to TB after the start of the running item, halts apart, where it lies ahead. mtval is open,
a free value. -/
def runBoundEffect (u pc : Nat) (s : State) : State :=
  match s.coreItem u, (s.core u).run with
  | true, some w =>
    let tb := ((s.task w.task).map (fun x => x.decl.tb)).getD 0
    let s1 := s.pass (el (w.startE + w.haltNs + 10 * tb))
    let s2 := (s1.abortItem u 0 pc (s1.freeNat 32)).useFree 1
    let b : BoundBack := { at_ := s1.elapsed, u := u, item := w, kept := (boundKept ++ traceKept).map s1.get
                           bits := s1.bitsBack [R.SCHED_STAT_ABORT, R.SCHED_STAT_TBOUND, R.SCHED_STAT_TRACE_DROP] s2, traceN := s1.sched.traceN
                           bytes := Memory.readN s1.mem (0xC80000 + 16 * s1.get R.SCHED_TRACE_WR_IDX) 16 }
    { s2 with sched := { s2.sched with bound := some b } }
  | true, none => s
  | false, _ => s
/-- RUN_BOUND_EXPIRED: an item reaches TB (R476). -/
def execRunBoundExpired (u pc : Nat) (s : State) : Host.Outcome State Fault Refusal := .next (runBoundEffect u pc s)

/-! ## Task control and the task window (R509 to R518) -/

/-- TASK_ENABLE (R518): PEND is empty, and so the task is not ready (DEDUCED, notes/assumptions/61.md). -/
def taskEnableEffect (s : State) : State :=
  if s.up 5 then
    let t := s.get R.SCHED_TASK_IDX_IDX
    if s.taskFenced t then s.config 0x5080 else s.modTask t (fun x => { x with enabled := true, pend := 0, ready := false })
  else s
/-- TASK_ENABLE: TASK_CTRL.ENABLE (R518). -/
def execTaskEnable (s : State) : Host.Outcome State Fault Refusal := .next (s.commanded 0x5080 taskEnableEffect)

/-- TASK_DISABLE (R492, R518): readiness and operands are cleared, and an item dispatched on this very edge is not. -/
def taskDisableEffect (s : State) : State :=
  if s.up 5 then
    let t := s.get R.SCHED_TASK_IDX_IDX
    if s.taskFenced t then s.config 0x5080
    else
      match s.task t with
      | none => s
      | some x =>
        let s1 := (s.setTask t { x with enabled := false, pend := 0, ready := false, insts := [] }).dropStaged t (fun w => decide (w.asgAt = s.elapsed))
        ({ s1 with sched := { s1.sched with fill := s1.sched.fill.filter (fun e => !taskOwns x.decl e.1) } }).drainStalls
  else s
/-- TASK_DISABLE: TASK_CTRL.DISABLE (R518). -/
def execTaskDisable (s : State) : Host.Outcome State Fault Refusal := .next (s.commanded 0x5080 taskDisableEffect)

/-- R510: idle, ready, staged or running. -/
def State.taskState (s : State) (t : Nat) (x : TaskSt) : Nat :=
  if s.sched.cores.any (fun e => match e.2.run with | some w => decide (w.task = t) | none => false) then 3
  else if s.sched.cores.any (fun e => match e.2.staged with | some w => decide (w.task = t) | none => false) then 2
  else if x.ready || !x.insts.isEmpty then 1 else 0

/-- R512, R513: the tags with a ready instance, as a mask from the task's first tag. -/
def instMask (base : Nat) (x : TaskSt) : Nat := maskOf (x.insts.map (fun i => i.tag - base))

/-- R510 to R517: the window registers of a declared task. -/
def State.taskWindow (s : State) (t : Nat) (x : TaskSt) : List (Field × Nat) :=
  let m := match x.decl.ready with
    | .matched b n o => (b, n, o, true)
    | .any _ => (0, 0, 0, false)
    | .all _ => (0, 0, 0, false)
  let f := match x.decl.ready with
    | .matched _ _ _ => (0, 0)
    | .any k => (k, 0)
    | .all k => (k, 1)
  let pend := if m.2.2.2 then instMask m.1 x else x.pend
  [(R.SCHED_TASK_INFO_EN, b2n x.enabled), (R.SCHED_TASK_INFO_FENCED, b2n (s.taskFenced t)),
    (R.SCHED_TASK_INFO_STATE, s.taskState t x), (R.SCHED_TASK_INFO_MATCHED, b2n m.2.2.2), (R.SCHED_TASK_INFO_RULE, f.2),
    (R.SCHED_TASK_INFO_CLASS, if x.decl.classP = some true then 0 else 1), (R.SCHED_TASK_INFO_PRIO, x.decl.prio),
    (R.SCHED_TASK_INFO_NBUF, x.decl.bufs.length), (R.SCHED_TASK_INFO_CORE, x.core), (R.SCHED_TASK_MASK_MASK, f.1),
    (R.SCHED_TASK_PEND_PEND, pend), (R.SCHED_TASK_PEND_HI_PEND_HI, if m.2.2.2 then pend / 2 ^ 32 else 0),
    (R.SCHED_TASK_MATCH_TAG_BASE, m.1), (R.SCHED_TASK_MATCH_TAG_CNT, m.2.1), (R.SCHED_TASK_MATCH_OPMASK, m.2.2.1),
    (R.SCHED_TASK_TIME_TB, x.decl.tb), (R.SCHED_TASK_TIME_RB, x.decl.rb), (R.SCHED_TASK_LAST_RUN, x.run),
    (R.SCHED_TASK_LAST_RESP, x.resp), (R.SCHED_TASK_CNT_DISP, x.disp), (R.SCHED_TASK_CNT_ABORT, x.aborts)]

/-- The window registers of an undeclared task: all 0. -/
def emptyWindow : List (Field × Nat) :=
  [R.SCHED_TASK_INFO_EN, R.SCHED_TASK_INFO_FENCED, R.SCHED_TASK_INFO_STATE, R.SCHED_TASK_INFO_MATCHED, R.SCHED_TASK_INFO_RULE,
    R.SCHED_TASK_INFO_CLASS, R.SCHED_TASK_INFO_PRIO, R.SCHED_TASK_INFO_NBUF, R.SCHED_TASK_INFO_CORE, R.SCHED_TASK_MASK_MASK,
    R.SCHED_TASK_PEND_PEND, R.SCHED_TASK_PEND_HI_PEND_HI, R.SCHED_TASK_MATCH_TAG_BASE, R.SCHED_TASK_MATCH_TAG_CNT,
    R.SCHED_TASK_MATCH_OPMASK, R.SCHED_TASK_TIME_TB, R.SCHED_TASK_TIME_RB, R.SCHED_TASK_LAST_RUN, R.SCHED_TASK_LAST_RESP,
    R.SCHED_TASK_CNT_DISP, R.SCHED_TASK_CNT_ABORT].map (fun F => (F, 0))

/-- TASK_IDX_WRITE (R509). -/
def taskIdxEffect (v : Nat) (s : State) : State :=
  if s.up 5 then
    let t := v % 512
    let s1 := s.put R.SCHED_TASK_IDX_IDX t
    match s1.task t with
    | some x => s1.putAll (s1.taskWindow t x)
    | none => s1.putAll emptyWindow
  else s
/-- TASK_IDX_WRITE: a write to TASK_IDX latches the task's state registers (R509). -/
def execTaskIdxWrite (v : Nat) (s : State) : Host.Outcome State Fault Refusal := .next (s.commanded 0x5060 (taskIdxEffect v))

/-! ## Buffer moves (R483 to R485) -/

/-- The memory range of a location: its first byte, and whether `size` bytes from it lie in placement space of a present
and unfenced memory (R482). -/
def State.locFits (s : State) (size : Nat) : BufLoc → Bool
  | .grove g o => decide (g < s.variant.groves) && !s.gladeFenced (16 + g) && decide (o + size ≤ 0x180000)
  | .device o => decide (o + size ≤ 0xC00000)
  | .sram u o => decide (u < 9 * s.variant.groves) && !s.unitFenced (coreUnit u) && decide (o + size ≤ 0x8000)

/-- The range is free of every other buffer. -/
def State.locFree (s : State) (h size : Nat) (l : BufLoc) : Bool :=
  s.sched.bufs.all (fun b =>
    decide (b.decl.handle = h) || decide (b.decl.kind ≠ .placed) || b.lost
      || ((b.decl.loc :: b.move.toList).all (fun o => decide (locBase o + b.decl.size ≤ locBase l ∨ locBase l + size ≤ locBase o))))

/-- The tasks that declare a buffer. -/
def State.bufUsers (s : State) (h : Nat) : List (Nat × TaskSt) :=
  s.sched.tasks.filter (fun e => e.2.decl.bufs.any (fun b => decide (b.1 = h)))

/-- R483: the arm lets buffers of class P and matched tasks migrate. -/
def State.armQuiet (s : State) : Bool :=
  match s.arm.mode with
  | .off => true
  | .blocked => true
  | .debugHalt => true
  | .charge => !(s.on R.ARM_NRUN_CCHG)
  | .run => false

/-- Only class C tasks declare a buffer (R483). -/
def State.onlyC (s : State) (h : Nat) : Bool :=
  (s.bufUsers h).all (fun e => decide (e.2.decl.classP = some false) && !taskMatched e.2.decl)

/-- R35, R482, R483, R485: the buffer may migrate to a location now, or be re-created there: lost buffers of class P and matched
tasks before those of class C tasks. -/
def State.mayMove (s : State) (b : BufSt) (dest : BufLoc) : Bool :=
  let us := s.bufUsers b.decl.handle
  let allC := s.onlyC b.decl.handle
  decide (b.decl.kind = .placed) && b.move.isNone && s.locFits b.decl.size dest && s.locFree b.decl.handle b.decl.size dest
    && us.all (fun e => !s.taskBusy e.1)
    && (match dest with | .sram _ _ => allC | .grove _ _ => true | .device _ => true)
    && !(b.lost && allC && s.sched.bufs.any (fun e => e.lost && !s.onlyC e.decl.handle))
    && (b.lost || s.atBoundary && (if allC then s.on R.SCHED_CFG_MIG_C || s.armQuiet else s.armQuiet))

/-- One buffer replaced. -/
def State.setBuf (h : Nat) (f : BufSt → BufSt) (s : State) : State :=
  s.setBufs (s.sched.bufs.map (fun b => if b.decl.handle = h then f b else b))

/-- R486: the MOVE entry of a buffer. -/
def State.traceMove (b : BufSt) (dest : BufLoc) (s : State) : State :=
  if s.on R.SCHED_TRACE_CTRL_T_BUF then
    s.traceWrite [3 * 2 ^ 28 + b.decl.handle, s.get R.ARM_CYC_CNT_COUNT, (locUnit b.decl.loc) * 2 ^ 16 + locUnit dest, b.decl.size]
  else s

/-- R485: a lost buffer is re-created zero-filled, with STAT.BUF_LOST and a SCHED event that names its first task. -/
def State.recreate (b : BufSt) (dest : BufLoc) (s : State) : State :=
  let h := b.decl.handle
  let s1 := State.dpLand h dest ((s.setBuf h (fun x => { x with decl := { x.decl with loc := dest }, lost := false })).zeroMem (locBase dest) b.decl.size)
  (s1.raise R.SCHED_STAT_BUF_LOST).taskEvent (s1.firstUser h)

/-- BUFFER_MOVE_START (R483, R485): a move begins, or a lost buffer is re-created zero-filled. -/
def bufMoveEffect (h : Nat) (dest : BufLoc) (s : State) : State :=
  match s.sched.bufs.find? (fun b => decide (b.decl.handle = h)) with
  | none => s
  | some b =>
    if s.up 5 && s.mayMove b dest then
      let s1 := s.traceMove b dest
      if b.lost then s1.recreate b dest
      else s1.setBuf h (fun x => { x with move := some dest })
    else s
/-- BUFFER_MOVE_START: an eligible placed buffer begins to migrate (R483). -/
def execBufferMoveStart (h : Nat) (dest : BufLoc) (s : State) : Host.Outcome State Fault Refusal := .next (bufMoveEffect h dest s)

/-- BUFFER_MOVE_DONE (R35, R36, R484, R832). -/
def bufMoveDoneEffect (h : Nat) (s : State) : State :=
  match s.sched.bufs.find? (fun b => decide (b.decl.handle = h)) with
  | none => s
  | some b =>
    match b.move with
    | none => s
    | some dest =>
      State.dpLand h dest ((s.setBuf h (fun x => { x with decl := { x.decl with loc := dest }, move := none })).eccCopy (locBase b.decl.loc) b.decl.size
        (locBase dest) (locUnit b.decl.loc))
/-- BUFFER_MOVE_DONE: a buffer move completes (R484). -/
def execBufferMoveDone (h : Nat) (s : State) : Host.Outcome State Fault Refusal := .next (bufMoveDoneEffect h s)

/-- TRACE_SNAP (R487). -/
def traceSnapEffect (s : State) : State := if s.up 5 then { s with sched := { s.sched with snap := true } } else s
/-- TRACE_SNAP: TRACE_CTRL.SNAP asks for BUF entries at the next cycle boundary (R487). -/
def execTraceSnap (s : State) : Host.Outcome State Fault Refusal := .next (s.commanded 0x5090 traceSnapEffect)

end Sys2Proof.Machine
end

