-- ==== Sys2Proof/Machine/ArmCycle.lean ====
section
/-! DEFINITION. The arm cycle: cycle starts, selection, commit, the state commands, the cycle timing and the debug halt (R37
to R58, R90 to R97, R490). -/

namespace Sys2Proof.Machine

/-! ## The next cycle start (R37, R38) -/

/-- One ns in the units of device time. -/
def nsU : Nat := 2 ^ 32

/-- R37: the cycle start that comes next, counted on past a wrap of device time. -/
def State.nextStart (s : State) : Nat :=
  if s.arm.running && decide (s.cycTime ≤ s.arm.nextTk) then s.arm.nextTk else gridAt (max 1 s.tNs) (s.get R.ARM_CYC_PHASE_PHASE) s.cycTime

/-- Device time comes to the next cycle start. -/
def State.reachStart (s : State) : State := s.forward (s.nextStart - s.cycTime)

/-! ## CYCLE_START (R37 to R39, R62, R87, R225, R468, R535, R631, R641, R647) -/

/-- R239: a frame that is not ready at the cycle start is not sent. -/
def State.skipFrame (n : Nat) (s : State) : State :=
  if s.ringUp n && frameRuns (s.ring n).mode && !(s.lane n).rep then s.skipCycle n else s

/-- R39, R225: the frames of a cycle start. -/
def State.sendFrames (tk : Nat) (notReady : List Nat) (s : State) : State :=
  forAll s.ringList (fun n a => if notReady.contains n then a.skipFrame n else a.cycleFrame tk n) s

/-- The arm's part of a new cycle that starts at device time `tk` and elapsed time `e`: a reference that counts for this cycle is taken
over (R47), and `stepped` says that device time has been set at this very instant (R874). -/
def newCycle (tk e : Nat) (stepped : Bool) (a : ArmSt) : ArmSt :=
  { a with
    cycStart := tk % 2 ^ 96, cycEl := e, cycNo := a.cycNo + 1, running := true, selDone := false, selAtDl := false, selMode := false
    committed := false, stepped := stepped
    fresh := a.nextRef, freshAt := if a.nextRef.isSome then a.nextAt - ((tk - a.cycStart : Nat) : Int) else a.freshAt, nextRef := none
    pendLate := false, selRings := [], lastStat := [] }

/-- R468, R487: the cycle-start flag and a due snapshot. -/
def State.cycleFlag (s : State) : State :=
  s.postCycleFlag.traceBoundary

/-- What the arm glade does at a cycle start, from the frames judged at SEL_DL of the last cycle to the new frames. -/
def State.cycleBody (tk : Nat) (notReady : List Nat) (s : State) : State :=
  let s1 := forAll s.ringList State.judgeRing s
  let s2 : State := { s1 with arm := newCycle tk s1.elapsed s1.setHere s1.arm, enc := { s1.enc with scList := [] } }
  let s3 := (s2.stepAtCycle.planEnd.realignCond).addTo R.ARM_CYC_CNT_COUNT 1
  let t := s3.arm.cycStart
  let s4 := ((s3.observe (t / nsU)).handoverStep.holdEnd).holdStart
  let s5 := s4.sendFrames t notReady
  (forAll s5.ringList State.ringTryStart s5).cycleFlag

/-- CYCLE_START: device time comes to the next cycle start. In STANDBY only the step, the alignment and the heartbeat are due, and no
cycle is a miss (R38, R240, R626, R631). -/
def cycleStartEffect (notReady : List Nat) (s : State) : State :=
  if s.timeUp then
    let tk := s.nextStart
    if s.up 5 then
      let s1 := s.reachStart.cycleBody tk notReady
      s1.sendHb (s1.arm.cycStart / nsU)
    else if s.isSink then
      let s1 := s.reachStart
      let s2 := ({ forAll s1.ringList (fun n a => a.put (R.RING_ERR_LOC_MISS n) 0) s1 with arm := { s1.arm with
        cycStart := tk % 2 ^ 96, cycEl := s1.elapsed, cycNo := s1.arm.cycNo + 1, running := true, stepped := s1.setHere } }).stepAtCycle
      let s3 := s2.planEnd.realignCond
      s3.sendHb (s3.arm.cycStart / nsU)
    else s
  else s
/-- CYCLE_START: frames leave every ring, but for the rings named as not ready (R37, R225, R239). -/
def execCycleStart (notReady : List Nat) (s : State) : Host.Outcome State Fault Refusal := .next (cycleStartEffect notReady s)

/-! ## State commands (R52 to R56) -/

/-- R52: where a state command leads from a state. -/
def armTarget (m : ArmMode) (r : ArmReq) : Option ArmMode :=
  match m, r with
  | .off, .charge => some .charge
  | .charge, .run => some .run
  | .charge, .off => some .off
  | .blocked, .run => some .run
  | .blocked, .charge => some .charge
  | .blocked, .off => some .off
  | .off, .off => none
  | .off, .run => none
  | .charge, .charge => none
  | .run, .off => none
  | .run, .charge => none
  | .run, .run => none
  | .debugHalt, .off => none
  | .debugHalt, .charge => none
  | .debugHalt, .run => none

/-- R81: the sub-modules whose slots hold a cell, on any ring. -/
def State.slotSms (s : State) : List Nat :=
  s.ringList.flatMap (fun n => (bitList 16 (s.get (R.RING_SLOTS_PRESENT n))).map (fun k => 16 * n + k))

/-- R53: the sub-module is selectable: recorded on an admitted and unfenced ring, and in S. -/
def State.selectableSm (s : State) (i : Nat) : Bool := (s.smRec i).present && s.admitted (i / 16) && s.inS i

/-- R53, code 2: enough sub-modules are selectable; with MIN = 0, every present one that is not in FAILED_BYPASS. -/
def State.enoughSms (s : State) : Bool :=
  let m := s.get R.ARM_NRUN_MIN
  if m = 0 then s.slotSms.all (fun i => (s.prot i).fbp || s.selectableSm i) else decide (m ≤ s.selectable.length)

/-- R53, R56, code 3: an L3 or L4 fault is unacknowledged, or on its way to the collector. -/
def State.l3Standing (s : State) : Bool :=
  s.openL3 || s.flt.l4 || State.l3Coming s.flt.inbox.length s

/-- R53: the refusal code of a state command, 0 where it is accepted. A transition that R52 does not allow is code 6 before any
other (DEDUCED, notes/assumptions/13.md). -/
def State.judgeReq (s : State) (r : ArmReq) : Nat :=
  match armTarget s.arm.mode r with
  | none => 6
  | some _ =>
    match r with
    | .off => 0
    | .charge => if !s.budgetOk then 1 else if s.l3Standing then 3 else if s.admittedRings.isEmpty then 5 else 0
    | .run =>
      if !s.budgetOk then 1 else if !s.enoughSms then 2 else if s.l3Standing then 3 else if s.arm.fresh.isNone then 4
      else if s.admittedRings.isEmpty then 5 else 0

/-- R52, R90: the command leads to a state in which selection runs. -/
def State.reqSelects (s : State) (r : ArmReq) : Bool :=
  match armTarget s.arm.mode r with
  | some .run => true
  | some .charge => s.on R.ARM_NRUN_CCHG
  | some .off => false
  | some .blocked => false
  | some .debugHalt => false
  | none => false

/-- R53: a refusal. -/
def State.armRefuse (code : Nat) (s : State) : State :=
  ((s.put R.ARM_ARM_STATE_REFUSE code).raise R.ARM_CYC_STAT_REFUSED).config R.ARM_ARM_CMD_GO_OFF.addr

/-- R45, R54: a state command waits for the commit that judges it. -/
def State.armRequest (r : ArmReq) (s : State) : State :=
  if s.up 5 then
    let s1 := match r with | .off => s | .charge => s.budgetCheck | .run => s.budgetCheck
    { s1 with arm := { s1.arm with pend := some r, pendLate := s1.dlPassed } }
  else s

/-- GO_OFF (R53). -/
def goOffEffect (s : State) : State := s.armRequest .off
/-- GO_OFF: ARM_CMD.GO_OFF (R53). -/
def execGoOff (s : State) : Host.Outcome State Fault Refusal := .next (s.commanded 0x71048 goOffEffect)

/-- GO_CHARGE (R53). -/
def goChargeEffect (s : State) : State := s.armRequest .charge
/-- GO_CHARGE: ARM_CMD.GO_CHARGE (R53). -/
def execGoCharge (s : State) : Host.Outcome State Fault Refusal := .next (s.commanded 0x71048 goChargeEffect)

/-- GO_RUN (R53). -/
def goRunEffect (s : State) : State := s.armRequest .run
/-- GO_RUN: ARM_CMD.GO_RUN (R53). -/
def execGoRun (s : State) : Host.Outcome State Fault Refusal := .next (s.commanded 0x71048 goRunEffect)

/-- GO_BLOCK (R52, R54). -/
def goBlockEffect (s : State) : State := s.goBlock
/-- GO_BLOCK: ARM_CMD.GO_BLOCK (R52). -/
def execGoBlock (s : State) : Host.Outcome State Fault Refusal := .next (s.commanded 0x71048 goBlockEffect)

/-! ## Selection (R43, R47 to R50, R90 to R97) -/

/-- The level-timing unit (R13). -/
def levelUnit : Nat := 0x0502

/-- R43: every status slot of the admitted rings has arrived, and the reference is delivered. A ring in TSYNC or READY does not
delay the selection (DESIGN CHOICE, notes/assumptions/60.md). -/
def State.allIn (s : State) : Bool := s.admittedRings.all s.ringComplete && s.arm.fresh.isSome

/-- R90, R52: selection runs in this cycle: in the present state, or because the waiting command will be accepted and a reference has
been delivered for its first window (DEDUCED, notes/assumptions/13.md). -/
def State.willSelect (s : State) : Bool :=
  s.selecting || (!s.passive && !s.arm.pendLate && s.arm.fresh.isSome &&
    (match s.arm.pend with | some r => s.reqSelects r && decide (s.judgeReq r = 0) | none => false))

/-- R48: the extrapolated reference. -/
def Reference.next (r : Reference) (tNs : Nat) : Reference := { r with val := r.val + r.dval * tNs / r.den }

/-- R47, R48: the reference of the selection. -/
def State.takeRef (mode : Bool) (s : State) : State :=
  let c := s.get R.ARM_CYC_CNT_COUNT
  match s.arm.fresh with
  | some r => { s with arm := { s.arm with last := r, used := r, refCyc := c } }
  | none =>
    if mode then
      (({ s with arm := { s.arm with last := s.arm.last.next s.tNs } }).raise R.ARM_CYC_STAT_REF_LATE).addSat R.ARM_REF_MISS_MISS_CNT 1
    else s

/-- R49: the misses have reached their limit. -/
def State.missLimit (s : State) : Bool := s.arm.fresh.isNone && decide (s.get R.ARM_REF_MISS_LIMIT ≤ s.get R.ARM_REF_MISS_MISS_CNT)

/-- R49, R90: the selection of the cycle, or none. -/
def State.selectOrBlock (mode : Bool) (s : State) : State :=
  if mode then
    let s1 : State := { s with arm := { s.arm with selMode := true, selWas := selKept.map s.get } }
    if s.missLimit then (s1.eventAt .sched levelUnit 0 3).armBlock else s1.select
  else ({ s with rank := { s.rank with plan := none } }).put R.ARM_REF_MISS_MISS_CNT 0

/-- SELECTION_START (R43): at `selNs` after the cycle start, or at SEL_DL. -/
def selectionStartEffect (selNs : Nat) (s : State) : State :=
  if s.up 5 && s.arm.running && !s.arm.selDone && !s.passive then
    let early := s.allIn && decide (selNs < s.get R.ARM_SEL_DL_DL)
    let s1 := s.reachOfs (if early then el selNs else s.selDl)
    let s2 := if early then forAll s1.admittedRings State.judgeRing s1 else forAll s1.ringList State.judgeRing s1
    let s3 : State := { s2 with arm := { s2.arm with selDone := true, selAtDl := !early, selRings := s2.admittedRings, selEl := s2.elapsed } }
    let mode := s3.willSelect
    (s3.takeRef mode).selectOrBlock mode
  else s
/-- SELECTION_START: selection begins (R43). -/
def execSelectionStart (selNs : Nat) (s : State) : Host.Outcome State Fault Refusal := .next (selectionStartEffect selNs s)

/-! ## Commit (R43, R46, R52, R53) -/

/-- R52, R53: the waiting command is judged. An accepted one takes effect although no selection has run for it: the window that
follows then carries BLOCK (DEDUCED, notes/assumptions/13.md). -/
def State.judgePending (s : State) : State :=
  match s.arm.pend with
  | none => s
  | some r =>
    if s.arm.pendLate then s
    else
      let s1 : State := { s with arm := { s.arm with pend := none } }
      let c := s.judgeReq r
      if c = 0 then (match armTarget s.arm.mode r with | some m => s1.setArmMode m | none => s1) else s1.armRefuse c

/-- R52: with no grove core halted the arm leaves DEBUG_HALT. -/
def State.leaveHalt (s : State) : State :=
  if s.arm.mode = .debugHalt ∧ s.anyHalted = false then
    s.setArmMode (match s.arm.prev with | .charge => .charge | .run => .blocked | .blocked => .blocked | .off => .blocked | .debugHalt => .blocked)
  else s

/-- R117, R123, R149: the levels and edges of the committed window. -/
def State.showPlan (p : Option Plan) (s : State) : State :=
  let es := match p with | some x => x.edges | none => []
  let n := max (s.get R.ARM_EDGES_COUNT) es.length
  let s1 := forAll (List.range n) (fun e a =>
    match es[e]? with
    | some (o, l) => a.putAll [(R.RANK_EDGE_OFS e, o), (R.RANK_EDGE_N_AFTER e, codeOf 12 l)]
    | none => a.putAll [(R.RANK_EDGE_OFS e, 0), (R.RANK_EDGE_N_AFTER e, 0)]) s
  s1.putAll [(R.ARM_EDGES_COUNT, es.length), (R.ARM_LVL_N_START, match p with | some x => codeOf 12 x.nStart | none => 0),
    (R.ARM_LVL_N_END, match p with | some x => codeOf 12 x.nEnd | none => 0)]

/-- R42, R43, R46: elapsed time comes to the commit point: the time that the selection took, and up to 300 ns of encoding, which is
open: a free value. -/
def State.commitPoint (s : State) : State :=
  (s.pass (s.arm.selEl + el ((if s.arm.selMode then s.get R.RANK_SEL_INFO_SEL_NS else 0) + 1 + s.freeNat 10 % 300))).useFree 1

/-- R46: the instants that the slack looks at, at a commit now, from the cycle start: of every unfenced admitted ring the last status
slot, and the reference. What has not arrived counts as arriving now, and so does a reference that came after SEL_DL, which the next cycle
has as arriving before its start (DESIGN CHOICE, notes/assumptions/63.md). -/
def State.slackParts (s : State) : List Int :=
  s.admittedRings.map (fun n => if s.ringComplete n then ((tget s.cycOfs s.arm.lastStat n : Nat) : Int) else s.cycOfs)
    ++ (if s.arm.selMode then [if s.arm.fresh.isSome then s.arm.freshAt else s.cycOfs] else [])

/-- R46, R785: the slack of the cycle, with the smallest of the window of R785. -/
def State.recordSlack (s : State) : State :=
  match s.slackParts with
  | [] => s
  | x :: l =>
    let q := clampInt (-32768) 32767 (((s.selDl : Int) - l.foldl max x) / (10 * nsU : Nat))
    let s1 := s.putS R.ARM_SEL_DL_SLACK q
    { s1 with age := { s1.age with slack := some (match s1.age.slack with | some x => min x q | none => q) } }

/-- COMMIT (R43): the plan is fixed and the command blocks of the next window are encoded. -/
def commitEffect (s : State) : State :=
  if s.up 5 && s.arm.selDone && !s.arm.committed && !s.passive then
    let s1 := s.commitPoint.judgePending.leaveHalt
    let plan := if s1.selecting then s1.rank.plan else none
    let s2 := (s1.showPlan plan).encode plan (s1.arm.nextTk / nsU + s1.execNs)
    let s3 := s2.recordSlack
    { s3 with arm := { s3.arm with committed := true, planCyc := s3.get R.ARM_CYC_CNT_COUNT }
              amber := { s3.amber with preCommit := if s.pairOp then some (s3.elapsed, s.arm, s.rank, s.enc) else none } }
  else s
/-- COMMIT: selection and encoding are complete (R43). -/
def execCommit (s : State) : Host.Outcome State Fault Refusal := .next (commitEffect s)

/-! ## Cycle timing (R38, R45, R57) -/

/-- R57: a cycle-timing field is locked. -/
def State.timingLocked (s : State) : Bool := decide (s.arm.mode ≠ .off) || s.on R.ARM_LOCK_LOCK

/-- R57, R825: a write to a locked field of the ARM page. -/
def State.armLockV (addr : Nat) (s : State) : State := (s.raise R.ARM_STATUS_LOCKV).config addr

/-- R45: the budget after a write. -/
def State.timingCheck (addr : Nat) (s : State) : State :=
  let s1 := s.budgetCheck
  if s1.budgetOk then s1 else s1.config addr

/-- R38: the cycles are realigned after a write. -/
def State.realignNow (s : State) : State :=
  if s.arm.running then s.planEnd.realignCond else s

/-- CYC_LEN_WRITE (R38, R45, R57, R64, R224, R313, R633). -/
def cycLenEffect (v : Nat) (s : State) : State :=
  if s.up 5 then
    let n := v % 8192
    if s.timingLocked then s.armLockV R.ARM_CYC_LEN_LEN.addr
    else if n < 200 ∨ 5000 < n then s.config R.ARM_CYC_LEN_LEN.addr
    else
      let s1 := ((s.put R.ARM_CYC_LEN_LEN n).put R.ARM_SEL_DL_DL (10 * n - 950)).loopConds.ringsRecheck
      (s1.timingCheck R.ARM_CYC_LEN_LEN.addr).regionCheck.realignNow
  else s
/-- CYC_LEN_WRITE: a write to ARM.CYC_LEN (R57). -/
def execCycLenWrite (v : Nat) (s : State) : Host.Outcome State Fault Refusal := .next (s.commanded 0x71040 (cycLenEffect v))

/-- EXEC_OFS_WRITE (R45, R57, R224). -/
def execOfsEffect (v : Nat) (s : State) : State :=
  if s.up 5 then
    if s.timingLocked then s.armLockV R.ARM_EXEC_OFS_OFS.addr
    else (s.put R.ARM_EXEC_OFS_OFS v).ringsRecheck.timingCheck R.ARM_EXEC_OFS_OFS.addr
  else s
/-- EXEC_OFS_WRITE: a write to ARM.EXEC_OFS (R45). -/
def execExecOfsWrite (v : Nat) (s : State) : Host.Outcome State Fault Refusal := .next (s.commanded 0x71044 (execOfsEffect v))

/-- CYC_PHASE_WRITE (R38, R45, R57). -/
def cycPhaseEffect (v : Nat) (s : State) : State :=
  if s.up 5 then
    if s.timingLocked then s.armLockV R.ARM_CYC_PHASE_PHASE.addr
    else ((s.put R.ARM_CYC_PHASE_PHASE v).timingCheck R.ARM_CYC_PHASE_PHASE.addr).realignNow
  else s
/-- CYC_PHASE_WRITE: a write to ARM.CYC_PHASE (R38). -/
def execCycPhaseWrite (v : Nat) (s : State) : Host.Outcome State Fault Refusal := .next (s.commanded 0x71068 (cycPhaseEffect v))

/-! ## Debug halt (R52, R363, R490) -/

/-- CORE_DEBUG_HALT (R490): debug access is open. -/
def coreHaltEffect (u : Nat) (s : State) : State :=
  if decide (u < 9 * s.variant.groves) && s.unitUp (coreUnit u) && s.on R.SEC_STATUS_DBG_OPEN && !(s.core u).halted then
    (s.setCore u { s.core u with halted := true, haltAt := s.elNs }).armHalt.engageLatch
  else s
/-- CORE_DEBUG_HALT: a grove core halts in debug (R490). -/
def execCoreDebugHalt (u : Nat) (s : State) : Host.Outcome State Fault Refusal := .next (coreHaltEffect u s)

/-- CORE_DEBUG_RESUME (R52, R476, R490): the halted time does not count towards TB. -/
def coreResumeEffect (u : Nat) (s : State) : State :=
  let c := s.core u
  if c.halted then
    (s.setCore u { c with halted := false, run := c.run.map (fun w => { w with haltNs := w.haltNs + (s.elNs - c.haltAt) }) }).startItem u
  else s
/-- CORE_DEBUG_RESUME: a halted core resumes (R52). -/
def execCoreDebugResume (u : Nat) (s : State) : Host.Outcome State Fault Refusal := .next (coreResumeEffect u s)

end Sys2Proof.Machine
end

