-- ==== Sys2Proof/Machine/Age.lean ====
section
/-! DEFINITION. The ageing monitor (R781 to R787, R811 to R818): supply and clock steps, spares, and the budget window. -/

namespace Sys2Proof.Machine

/-- The ageing part replaced. -/
def State.modAge (f : AgeSt → AgeSt) (s : State) : State := { s with age := f s.age }
/-- The monitors act: the collector glade runs and CTRL.EN is 1 (R811). -/
def State.ageActs (s : State) : Bool := s.up 1 && s.on R.AGE_CTRL_EN
/-- The collector's unit (R13). -/
def fltUnit : Nat := 0x0100

/-! ## Margins (R782) -/

/-- R816: the last measured slack of a grove glade. -/
def State.noteSlack (g slack : Nat) (s : State) : State := if 16 ≤ g ∧ g < 19 then s.put (R.AGE_CLK_SLACK (g - 16)) slack else s

/-- R790, R882: a VDD fault stands (rail code 1): its excursion lasts, or its event waits or stands in the PWR record. -/
def State.vddFault (s : State) : Bool :=
  let r := tget {} s.flt.recs 2
  s.flt.rails.contains 1 || s.flt.inbox.any (fun e => decide (e.cls = .pwr ∧ e.aux = 1)) || (r.used && r.standing && decide (r.aux = 1))

/-- R782: the PMBus command byte of VOUT_COMMAND (PRESUMED, notes/assumptions/62.md). -/
def voutCommand : Nat := 0x21

/-- R782, R883: a VDD value is requested at the regulator of AVS.ADDR, with the exponent of VOUT_MODE. -/
def State.avsRequest (e v : Nat) (s : State) : State :=
  s.modAge (fun x => { x with avs := some (s.get R.AGE_AVS_ADDR, voutCommand, (Config.linear16 e v).toNat) })

/-- R782, R815: a step of VDD is requested and recorded, or the regulator does not acknowledge. Before the device has booted, and with a
regulator that gave no exponent, VDD stays (R863, R883). -/
def State.avsStep (unit v : Nat) (ack : Bool) (s : State) : State :=
  match s.age.vout with
  | none => s
  | some e =>
    let s1 := s.avsRequest e v
    if ack then
      ((s1.put R.AGE_AVS_VDD v).lifeRecord .margin 1 unit (s.get R.AGE_AVS_VDD) v).modAge (fun x => { x with wait := true })
    else (s1.raise R.AGE_ASTAT_AVS_FAIL).event .age unit 0

/-- R782: the next step of a glade whose slack is low. -/
def State.slackStep (g : Nat) (ack : Bool) (s : State) : State :=
  if s.get R.AGE_AVS_VDD < 850 then
    if s.vddFault then s
    else
      let s1 := s.avsStep (256 * g) (s.get R.AGE_AVS_VDD + 10) ack
      if s1.get R.AGE_AVS_VDD = 850 then s1.raise R.AGE_ASTAT_AVS_MAX else s1
  else
    let s1 := s.raise R.AGE_ASTAT_AVS_MAX
    if 16 ≤ g ∧ g < 19 then
      if s.get (R.AGE_CLK_MHZ (g - 16)) ≤ 900 then s1.raise R.AGE_ASTAT_CLK_MIN
      else s1.modAge (fun x => { x with clkReq := addKey (g - 16) x.clkReq })
    else s1

/-- PATH_SLACK_LOW (R782, R787, R815, R816). -/
def pathSlackEffect (g slack : Nat) (ack : Bool) (s : State) : State :=
  if s.up 1 && gladePresent s.variant g then
    let s1 := s.noteSlack g slack
    if s.on R.AGE_CTRL_EN && decide (slack < s.get R.AGE_CFG_MAR_LO) && !s.age.wait then s1.slackStep g ack else s1
  else s
/-- PATH_SLACK_LOW: a glade's slack falls below MAR_LO (R782). -/
def execPathSlackLow (g slack : Nat) (ack : Bool) (s : State) : Host.Outcome State Fault Refusal := .next (pathSlackEffect g slack ack s)

/-- AVS_STEP_WAIT_END (R782). -/
def avsWaitEffect (g slack : Nat) (s : State) : State :=
  if s.up 1 && s.age.wait then (s.noteSlack g slack).modAge (fun x => { x with wait := false }) else s
/-- AVS_STEP_WAIT_END: 10 ms after a step the slack is measured again (R782). -/
def execAvsStepWaitEnd (g slack : Nat) (s : State) : Host.Outcome State Fault Refusal := .next (avsWaitEffect g slack s)

/-- MARGIN_HIGH_24H (R782). -/
def marginHighEffect (ack : Bool) (s : State) : State :=
  if s.ageActs && !s.age.wait && decide (700 < s.get R.AGE_AVS_VDD) && !s.vddFault then s.avsStep fltUnit (s.get R.AGE_AVS_VDD - 10) ack else s
/-- MARGIN_HIGH_24H: every glade's slack has exceeded MAR_HI for 24 h (R782). -/
def execMarginHigh24h (ack : Bool) (s : State) : Host.Outcome State Fault Refusal := .next (marginHighEffect ack s)

/-! ## Grove clock steps (R783, R784) -/

/-- R783: the arm state lets a grove clock step be applied. -/
def State.stepAllowed (s : State) : Bool :=
  s.on R.AGE_CTRL_RUN_REPLAN || (match s.arm.mode with
    | .off => true
    | .blocked => true
    | .debugHalt => true
    | .charge => !s.on R.ARM_NRUN_CCHG
    | .run => false)

/-- R784: the tasks that a step of grove g from f to f' would take beyond TB, with their scaled longest runs in ns; TB is in
10 ns units. -/
def State.overBudget (s : State) (g f f' : Nat) : List (Nat × Nat × Bool) :=
  s.sched.tasks.filterMap (fun e =>
    let l := tget 0 e.2.longest g
    let hard := decide (e.2.decl.classP = some true) || (match e.2.decl.ready with | .matched _ _ _ => true | .any _ => false | .all _ => false)
    if 0 < l ∧ 10 * e.2.decl.tb * f' < l * f then some (e.1, l * f / f', hard) else none)

/-- R784, R787: the BUDGET records of a step and their events. The value after is a free value. -/
def State.budgetRecords (g : Nat) (l : List (Nat × Nat × Bool)) (s : State) : State :=
  l.foldl (fun a e => ((a.lifeRecord .budget 5 e.1 e.2.1 (a.freeNat 32)).useFree 1).event .age (256 * (16 + g)) 0) s

/-- R783: a grove clock step is applied. -/
def State.stepClock (g f' : Nat) (s : State) : State :=
  let s1 := (s.put (R.AGE_CLK_MHZ g) f').lifeRecord .margin 2 (256 * (16 + g)) (s.get (R.AGE_CLK_MHZ g)) f'
  let s2 : State := { s1 with
    sched := { s1.sched with tasks := s1.sched.tasks.map (fun e => (e.1, { e.2 with longest := eraseKey g e.2.longest })) }
    age := { s1.age with wait := true } }
  if f' ≤ 900 then s2.raise R.AGE_ASTAT_CLK_MIN else s2

/-- GROVE_CLOCK_STEP (R31, R783, R784, R790, R811). -/
def groveStepEffect (g : Nat) (s : State) : State :=
  if s.ageActs && s.age.clkReq.contains g && s.stepAllowed && s.atBoundary && !s.age.wait
      && !(s.age.due.any (fun u => decide (u.1.unit / 256 = 16 + g))) && decide (tget none s.age.spareAt g ≠ some s.elapsed) then
    let f := s.get (R.AGE_CLK_MHZ g)
    let f' := f - 25
    let l := s.overBudget g f f'
    let s1 := (s.modAge (fun x => { x with clkReq := dropKey g x.clkReq })).budgetRecords g l
    if l.any (fun e => e.2.2) then s1 else s1.stepClock g f'
  else s
/-- GROVE_CLOCK_STEP: at a cycle boundary a grove clock step is checked and applied or withheld (R783). -/
def execGroveClockStep (g : Nat) (s : State) : Host.Outcome State Fault Refusal := .next (groveStepEffect g s)

/-! ## The arm-cycle budget (R785) -/

/-- BUDGET_WINDOW_END (R31, R785, R787). No task is named: the unit field and the value after are free values. -/
def budgetWindowEffect (s : State) : State :=
  if s.up 1 then
    let s0 := s.modAge (fun x => { x with slack := none })
    match s.age.slack with
    | none => s0
    | some q =>
      if s.on R.AGE_CTRL_EN && decide (q < s.get R.AGE_CFG_BUD_MIN) then
        ((s0.lifeRecord .budget 0 (s.freeNat 16) (codeOf 32 q) (Config.freeValue 32 (s.free + 1)).toNat).useFree 2).event .age fltUnit 0
      else s0
  else s
/-- BUDGET_WINDOW_END: a window of 65,536 cycles ends (R785). -/
def execBudgetWindowEnd (s : State) : Host.Outcome State Fault Refusal := .next (budgetWindowEffect s)

/-! ## Spares (R781) -/

/-- R781: what carries a class P unit's spare. -/
inductive SpareKind where
  | core (g k : Nat)
  | rank
  | history
  | row
deriving DecidableEq, Repr

/-- R781: the kind of a unit, or of a row of its SRAM. -/
def spareKind (w : WearUnit) : SpareKind :=
  if w.unit = fltUnit then .history
  else if w.row then .row
  else if 16 ≤ w.unit / 256 ∧ w.unit / 256 < 19 ∧ w.unit % 256 ≤ 8 then .core (w.unit / 256 - 16) (w.unit % 256)
  else if w.unit = 0x0500 then .rank
  else .row

/-- R781: the spare’s unit of a worn unit. -/
def spareUnit (w : WearUnit) : Nat :=
  match spareKind w with
  | .core g _ => 256 * (16 + g) + 8
  | .rank => 0x0501
  | .history => 0x0101
  | .row => w.unit

/-- R781, R787: the measure code of a worn unit’s record. -/
def spareMeasure (w : WearUnit) : Nat :=
  match spareKind w with
  | .core _ _ => 0
  | .rank => 0
  | .history => 4
  | .row => 4

/-- R781: what is measured of a unit has crossed its threshold: the slack lies below MAR_LO, for a core with VDD at its ceiling, or
there were three corrected errors. -/
def State.wornBy (s : State) (w : Wear) : Bool :=
  match spareKind w.what with
  | .core _ _ => decide (w.measure < s.get R.AGE_CFG_MAR_LO) && decide (850 ≤ s.get R.AGE_AVS_VDD)
  | .rank => decide (w.measure < s.get R.AGE_CFG_MAR_LO)
  | .history => decide (3 ≤ w.measure)
  | .row => decide (3 ≤ w.measure)

/-- R781: how many spares a unit has, by the key under which their uses are counted: one per grove, one slice, one history
area, and four rows. -/
def spareKey (w : WearUnit) : Nat := match spareKind w with | .row => w.unit + 2 ^ 16 | _ => spareUnit w
/-- R781: the number of those spares. -/
def spareCount (w : WearUnit) : Nat := match spareKind w with | .row => 4 | _ => 1

/-- R781: a spare of the unit is free; a spare core must not be fenced or be the worn unit. -/
def State.spareFree (s : State) (w : WearUnit) : Bool :=
  decide (tget 0 s.age.used (spareKey w) < spareCount w) && (match spareKind w with
    | .core g k => decide (k < 8) && !s.unitFenced (256 * (16 + g) + 8)
    | .rank => true
    | .history => true
    | .row => true)

/-- R781: the spare of a unit waits for a cycle boundary. -/
def State.spareDue (s : State) (w : WearUnit) : Bool := s.age.due.any (fun e => decide (e.1 = w))

/-- WEAR_THRESHOLD (R781, R787). The value after of a NOSPARE record is a free value. -/
def wearEffect (w : Wear) (s : State) : State :=
  if s.ageActs && gladePresent s.variant (w.what.unit / 256) && s.wornBy w then
    if s.spareDue w.what && spareCount w.what = 1 then s
    else if s.spareFree w.what then
      s.modAge (fun x => { x with
        due := x.due ++ [(w.what, w.measure)]
        used := tset 0 x.used (spareKey w.what) (tget 0 x.used (spareKey w.what) + 1) })
    else
      ((s.lifeRecord .noSpare (spareMeasure w.what) w.what.unit w.measure (s.freeNat 32)).useFree 1).event .age w.what.unit 0
  else s
/-- WEAR_THRESHOLD: a class P unit crosses its wear threshold (R781). -/
def execWearThreshold (unit : Wear) (s : State) : Host.Outcome State Fault Refusal := .next (wearEffect unit s)

/-- R99, R488, R781, R810: the spare of a unit takes its place. -/
def State.bringIn (w : WearUnit) (s : State) : State :=
  match spareKind w with
  | .core g k =>
    let u := 9 * g + k
    ((s.setCore u { s.core u with worn := true }).retireWorn u).raise R.SCHED_STAT_SPARE_IN
  | .rank => s.putAll [(R.RANK_STATUS_SPARE_IN, 1), (R.RANK_CAP_SPARE, 0), (R.AGE_CAP_RANK_SPARE, 0)]
  | .history => s.put R.AGE_CAP_HIST_SPARE 0
  | .row => s

/-- SPARE_BRING_IN (R30, R781, R787, R790, R811): at a cycle boundary. -/
def spareEffect (w : WearUnit) (s : State) : State :=
  match s.age.due.find? (fun e => decide (e.1 = w)) with
  | none => s
  | some e =>
    if s.ageActs && s.atBoundary then
      let s1 := (s.modAge (fun x => { x with due := x.due.erase e, spareAt := if 16 ≤ w.unit / 256 then tset none x.spareAt (w.unit / 256 - 16) (some s.elapsed) else x.spareAt })).bringIn w
      (s1.lifeRecord .spare (spareMeasure w) w.unit e.2 (spareUnit w)).event0 .age w.unit 0
    else s
/-- SPARE_BRING_IN: at a cycle boundary a spare replaces a worn unit (R781). -/
def execSpareBringIn (unit : WearUnit) (s : State) : Host.Outcome State Fault Refusal := .next (spareEffect unit s)

/-- OPERATING_HOUR (R818): time comes to an hour after the last mark. -/
def operatingHourEffect (s : State) : State :=
  let mark := s.age.hourAt + 3600 * el (10 ^ 9)
  let s1 := s.pass mark
  let s2 : State := { s1 with age := { s1.age with hourAt := mark } }
  if s2.up 1 then s2.addSat R.AGE_HOURS_HOURS 1 else s2
/-- OPERATING_HOUR: an operating hour has passed (R818). -/
def execOperatingHour (s : State) : Host.Outcome State Fault Refusal := .next (operatingHourEffect s)

end Sys2Proof.Machine
end

