-- ==== Sys2Proof/Machine/FieldMap.lean ====
section
/-! DEFINITION. The register map: which fields the word at an address holds (R819), from the lists of Machine/RegTable.lean. -/

namespace Sys2Proof.Machine

/-- The fields that may stand in the word at an address: those of its page, or of its block in the page. -/
def blockFields (addr : Nat) : List Field :=
  let p := addr / 0x1000
  let o := addr % 0x1000
  if p = 0 then R.sysFields
  else if p = 1 then (if o < 0x100 then R.fltFields else if o < 0x200 then R.histFields ((o - 0x100) / 16) ((o - 0x100) % 16 / 4) else [])
  else if p = 2 then R.secFields
  else if p = 3 then R.nvmFields
  else if p = 4 then R.timeFields
  else if p = 5 then R.schedFields
  else if p = 6 then R.dportFields
  else if p = 7 then R.ageFields
  else if 0x10 ≤ p ∧ p < 0x70 then R.ringFields (p - 0x10)
  else if p = 0x70 then (if o < 0x400 then R.rankFields else if o < 0x800 then R.edgeFields ((o - 0x400) / 4) else [])
  else if p = 0x71 then R.armFields
  else if p = 0x72 then R.cmdencFields
  else if p = 0x80 ∨ p = 0x81 then
    (if o < 0x400 then R.loopFields (p - 0x80) else if o < 0xC00 then R.unitFields (16 * (p - 0x80) + (o - 0x400) / 0x80) else [])
  else if p = 0x90 then (if o < 0x80 then R.pwmFields else R.chFields ((o - 0x80) / 0x100))
  else if p = 0x91 ∨ p = 0x92 then R.posFields (p - 0x91)
  else if p = 0x93 ∨ p = 0x94 then R.adcFields (p - 0x93)
  else if 0xA0 ≤ p ∧ p < 0xA4 then R.ethFields (p - 0xA0)
  else if p = 0xA4 then R.netsvFields
  else if p = 0xB0 then
    (if o < 0x400 then R.canopyFields 0 ++ R.canopy0Fields else if o < 0x800 then R.sendFields ((o - 0x400) / 4)
     else if o < 0xA00 then R.routeFields ((o - 0x800) / 4) else [])
  else if 0xB0 < p ∧ p < 0xB4 then R.canopyFields (p - 0xB0)
  else if p = 0xB4 then R.amberFields
  else if p = 0xC0 then (if o < 0x100 then R.safeFields else if o < 0x180 then R.connCntFields ((o - 0x100) / 4) else [])
  else if 0x100 ≤ p ∧ p < 0x174 then R.laneFields (p - 0x100)
  else []

/-- The fields of the word at an address. -/
def fieldsAt (addr : Nat) : List Field := (blockFields addr).filter (fun F => F.addr == addr)

/-- The field at a bit of the word at an address. -/
def fieldAt (addr lo : Nat) : Option Field := (fieldsAt addr).find? (fun F => F.lo == lo)

end Sys2Proof.Machine
end

