-- ==== Sys2Proof/Machine/SafeIsland.lean ====
section
/-! DEFINITION. The safety island, Garnet (chapter 14): its parameter set, inputs, two-hand control, reset, outputs, and its
connections. The island is the safety glade, glade 3. -/

namespace Sys2Proof.Machine

/-- The island's unit (R683). -/
def safeUnit : Nat := 0x0300
/-- One input's state. -/
def State.sIn (s : State) (i : Nat) : SafeIn := tget {} s.safe.ins i
/-- One input's state replaced. -/
def State.setIn (i : Nat) (x : SafeIn) (s : State) : State := { s with safe := { s.safe with ins := tset {} s.safe.ins i x } }
/-- One two-hand pair's state. -/
def State.sPair (s : State) (m : Nat) : SafePair := tget .blocked s.safe.pairs m
/-- One two-hand pair's state replaced. -/
def State.setPair (m : Nat) (x : SafePair) (s : State) : State := { s with safe := { s.safe with pairs := tset .blocked s.safe.pairs m x } }
/-- One output's state. -/
def State.sOut (s : State) (k : Nat) : SafeOut := tget {} s.safe.outs k
/-- One output's state replaced. -/
def State.setOut (k : Nat) (x : SafeOut) (s : State) : State := { s with safe := { s.safe with outs := tset {} s.safe.outs k x } }
/-- One connection's state. -/
def State.sConn (s : State) (c : Nat) : SafeConn := tget {} s.safe.conns c
/-- One connection's state replaced. -/
def State.setConn (c : Nat) (x : SafeConn) (s : State) : State := { s with safe := { s.safe with conns := tset {} s.safe.conns c x } }
/-- The parameters of input i; the island works only with a valid set. -/
def State.inCfg (s : State) (i : Nat) : Option SafeInputCfg := s.safe.pset.bind (fun p => p.inputs[i]?)
/-- The parameters of output k. -/
def State.outCfg (s : State) (k : Nat) : Option SafeOutputCfg := s.safe.pset.bind (fun p => p.outputs[k]?)
/-- The parameters of connection c. -/
def State.connCfg (s : State) (c : Nat) : Option SafeConnCfg := s.safe.pset.bind (fun p => lookupKey p.conns c)

/-- The island runs its logic: in LOCKOUT or in RUN (R687). -/
def State.safeRuns (s : State) : Bool :=
  s.up 3 && (match s.safe.mode with
    | .lockout => true
    | .run => true
    | .start => false
    | .stopped => false)

/-! ## The parameter set (R685, R686, R705) -/

/-- A value lies from `lo` to `hi` in steps. -/
def inSteps (lo hi step v : Nat) : Bool := decide (lo ≤ v ∧ v ≤ hi ∧ v % step = 0)

/-- R686: a test-pulse source of a channel is 0 to 3 or NONE. -/
def tpOk : Option Nat → Bool
  | none => true
  | some j => decide (j < 4)

/-- R686: the input is a button of a two-hand device, ANTIV. -/
def handOk (x : Option SafeInputCfg) : Bool :=
  match x with
  | none => false
  | some c => decide (c.func = .twohand) && c.antiv

/-- R686: one input's parameters are in range and keep the set's rules. -/
def inputOk (l : List SafeInputCfg) (i : Nat) : Bool :=
  match l[i]? with
  | none => false
  | some c =>
    inSteps 10000 3000000 10000 c.discUs && inSteps 0 800 50 c.ossdUs && tpOk c.tpA && tpOk c.tpB
      && (if c.tpA.isSome || c.tpB.isSome then c.tpA.isSome && c.tpB.isSome && decide (c.tpA ≠ c.tpB) else true)
      && (if c.func = .ossd then !c.antiv && c.tpA.isNone && c.tpB.isNone else true)
      && (if c.func = .twohand then handOk l[i / 2 * 2]? && handOk l[i / 2 * 2 + 1]? else true)

/-- R686: one output's parameters are in range. -/
def outputOk (c : SafeOutputCfg) : Bool :=
  c.funcs.all (fun i => decide (i < 12)) && decide (c.remote.length ≤ 8) && c.remote.all (fun r => decide (r.1 < 32 ∧ r.2 < 16))
    && inSteps 10000 1000000 10000 c.edmOnUs && inSteps 10000 1000000 10000 c.edmOffUs

/-- R705: the code of a source of a DATA bit. -/
def txOk (t : Nat) : Bool := decide (t ≤ 12) || decide (16 ≤ t ∧ t ≤ 19)

/-- R705: one connection's parameters are in range. -/
def connOk (e : Nat × SafeConnCfg) : Bool :=
  let c := e.2
  decide (e.1 < 32) && decide (c.cid < 2 ^ 32) && (if c.sess.isSome then decide (c.ethPorts = 0) else decide (0 < c.ethPorts ∧ c.ethPorts < 16))
    && inSteps 500 100000 500 c.perUs && inSteps 500 1000000 500 c.wdUs && decide (2 * c.perUs ≤ c.wdUs)
    && decide (1 ≤ c.errLim ∧ c.errLim ≤ 255) && decide (c.txMap.length = 16) && c.txMap.all txOk

/-- R685, R686, R705: the set is valid. -/
def psetValid (p : SafePset) : Bool :=
  p.crcOk && decide (p.inputs.length = 12) && (List.range 12).all (inputOk p.inputs) && decide (p.outputs.length = 4)
    && p.outputs.all outputOk && keysRise none p.conns && p.conns.all connOk
    && inSteps 100 500 50 p.tpwUs && inSteps 20000 1000000 10000 p.tppUs

/-- SAFE_START_DONE (R685, R686, R687, R704, R707). -/
def safeStartEffect (selfTestOk : Bool) (s : State) : State :=
  match s.safe.pset with
  | none => s
  | some p =>
    if s.up 3 && decide (s.safe.mode = .start) then
      let ok := psetValid p
      let s1 := ({ s with safe := { s.safe with psetOk := ok } }).putAll
        [(R.SAFE_PSET_ID_VAL, p.ident), (R.SAFE_PSET_CRC_VAL, p.crc), (R.SAFE_IRQ_EN_EN, p.irqMask)]
      if ok && selfTestOk then
        let s2 : State := { s1 with safe := { s1.safe with mode := .lockout, causes := [(0, 0)], rstArm := !s.safe.rstLvl } }
        forAll (p.conns.filterMap (fun e => e.2.sess)) State.enableSess s2
      else s1
    else s
/-- SAFE_START_DONE: the island leaves START for LOCKOUT with cause 0 (R687). -/
def execSafeStartDone (selfTestOk : Bool) (s : State) : Host.Outcome State Fault Refusal := .next (safeStartEffect selfTestOk s)

/-! ## Outputs and lock-outs (R687, R696, R702, R709) -/

/-- R703, R730: the time stamp of an event of the island; its register reads 0 while time is not valid. -/
def State.safeStamp (s : State) : Nat := tag32 s.nowNs

/-- R697, R702: an output goes from ON to OFF. -/
def State.outOff (k : Nat) (s : State) : State :=
  if (s.sOut k).on then
    let s1 := (s.setOut k { s.sOut k with on := false, edmOn := false }).put R.SAFE_OFF_TS_TS s.safeStamp
    match s.outCfg k with
    | none => s1
    | some c => if c.blkArm then s1.goBlock else s1
  else s

/-- Every output off (R687). -/
def State.outsOff (s : State) : State := forAll [0, 1, 2, 3] State.outOff s

/-- R729: the SSTAT bit of a cause. -/
def causeBit (code : Nat) : Option Field :=
  if code = 6 then some R.SAFE_SSTAT_DISC else if code = 7 then some R.SAFE_SSTAT_TP
  else if code = 8 then some R.SAFE_SSTAT_OUT_TEST else if code = 9 then some R.SAFE_SSTAT_EDM else none

/-- R687, R709: RUN goes to LOCKOUT. The third lock-out of a cause from 1 to 5 is permanent. -/
def State.lockOut (code idx : Nat) (s : State) : State :=
  let n := if 1 ≤ code ∧ code ≤ 5 then s.safe.cnt5 + 1 else s.safe.cnt5
  let perm := s.safe.perm || decide (3 ≤ n)
  let s1 : State := { s with safe := { s.safe with
    mode := .lockout, causes := [(code, idx)], cnt5 := n, perm := perm, locks := satTo 65535 (s.safe.locks + 1) } }
  (s1.outsOff.raise R.SAFE_SSTAT_LOCKOUT).post { cls := .safe, unit := safeUnit, req := if perm then .atLeast 3 else .base }

/-- R709: a lock-out cause arises. -/
def State.safeCause (code idx : Nat) (s : State) : State :=
  let flag (t : State) : State := match causeBit code with | some F => t.raise F | none => t
  let mark (t : State) : State := { t with safe := { t.safe with fresh := true } }
  match s.safe.mode with
  | .run => mark ((flag s).lockOut code idx)
  | .lockout =>
    if s.safe.causes.contains (code, idx) then mark s
    else mark (flag { s with safe := { s.safe with causes := s.safe.causes ++ [(code, idx)] } })
  | .start => s
  | .stopped => s

/-- A cause arises where a condition holds. -/
def State.causeIf (b : Bool) (code idx : Nat) (s : State) : State := if b then s.safeCause code idx else s

/-- R690, R692: a function is demanded. -/
def State.demanded (s : State) : State :=
  ((s.raise R.SAFE_SSTAT_DEMAND).put R.SAFE_DEM_TS_TS s.safeStamp).event0 .safe safeUnit 0

/-! ## Inputs (R688 to R692) -/

/-- R688, R689: one sample of a channel: the channel after it, and whether it shows a test-pulse error. `pulse` is the source
low at the sample, `settled` says that 100 µs have passed since the last pulse ended. -/
def chanSample (restHigh : Bool) (tp : Option Nat) (ossd : Option Nat) (pulse : Option Nat) (settled high : Bool) (x : SafeChan) :
    SafeChan × Bool :=
  match ossd with
  | some filt =>
    let n := if high then 0 else x.lows + 1
    ({ x with lows := satTo 32 n, dem := decide (filt < 50 * n) }, false)
  | none =>
    match tp with
    | none => ({ x with dem := high != restHigh }, false)
    | some j =>
      if restHigh then
        let own := decide (pulse = some j)
        let missed := x.due && !own && !x.dem
        let crossed := x.cand && pulse.isNone && high
        let x1 : SafeChan := { x with due := x.due && own && high }
        if high then ({ x1 with dem := false, lowOwn := false, cand := x.cand && pulse.isSome }, missed || crossed)
        else if x.dem then (x1, false)
        else if own then ({ x1 with lowOwn := true }, false)
        else if x.lowOwn then ({ x1 with dem := settled }, missed)
        else
          match pulse with
          | some _ => ({ x1 with cand := true }, missed)
          | none => ({ x1 with dem := true, cand := false }, missed)
      else if high then ({ x with dem := true, lowOwn := false }, false)
      else if x.dem && decide (pulse = some j) then ({ x with lowOwn := true }, false)
      else if x.dem && x.lowOwn && !settled && pulse.isNone then (x, false)
      else ({ x with dem := false, lowOwn := false }, false)

/-- R690: one sample of the state machine of an ESTOP, GUARD or OSSD input. -/
def State.inputStep (i : Nat) (c : SafeInputCfg) (s : State) : State :=
  let x := s.sIn i
  let both := x.a.dem && x.b.dem
  let any := x.a.dem || x.b.dem
  let enter : State := if any then (s.setIn i { x with mode := if both then .demandBoth else .demand, disc := !both }).demanded else s
  match x.mode with
  | .released => enter
  | .waitRst => enter
  | .demand => if both then s.setIn i { x with mode := .demandBoth, disc := false } else s
  | .demandBoth =>
    if both then s.setIn i { x with disc := false }
    else if any then s.setIn i { x with disc := true }
    else s.setIn i { x with mode := if c.auto && (decide (c.func = .guard) || decide (c.func = .ossd)) then .released else .waitRst, disc := false }
  | .locked => s

/-- R691: a button is actuated. -/
def SafeIn.pressed (x : SafeIn) : Bool := x.a.dem && x.b.dem
/-- R691: a button is at rest. -/
def SafeIn.atRest (x : SafeIn) : Bool := !x.a.dem && !x.b.dem

/-- R692: one sample of a two-hand pair. -/
def State.pairStep (m : Nat) (s : State) : State :=
  let p := (s.sIn (2 * m)).pressed
  let q := (s.sIn (2 * m + 1)).pressed
  match s.sPair m with
  | .idle => if p && q then s.setPair m .active else if p then s.setPair m (.one 0) else if q then s.setPair m (.one 1) else s
  | .one w =>
    if p && q then s.setPair m .active
    else if (if w = 0 then p else q) then s else (s.setPair m .blocked).raise R.SAFE_SSTAT_DEMAND
  | .active => if p && q then s else (s.setPair m .blocked).demanded
  | .blocked => if (s.sIn (2 * m)).atRest && (s.sIn (2 * m + 1)).atRest then s.setPair m .idle else s

/-- R688 to R691: one sample of an input. -/
def State.sampleIn (a b : Nat) (pulse : Option Nat) (settled : Bool) (i : Nat) (s : State) : State :=
  match s.inCfg i with
  | none => s
  | some c =>
    if c.func = .unused then s
    else
      let filt := if c.func = .ossd then some c.ossdUs else none
      let x := s.sIn i
      let ra := chanSample true c.tpA filt pulse settled (bitOf a i) x.a
      let rb := chanSample (!c.antiv) c.tpB filt pulse settled (bitOf b i) x.b
      let err := ra.2 || rb.2
      let hand := decide (c.func = .twohand)
      let x1 : SafeIn := { x with
        a := ra.1, b := rb.1, clean := if err then 0 else satTo 20000 (x.clean + 1)
        disc := if hand then ra.1.dem != rb.1.dem else x.disc }
      let s1 := (s.setIn i x1).causeIf err 7 i
      if hand then s1 else s1.inputStep i c

/-- SAFE_INPUT_SAMPLE (R684, R688 to R693, R713). -/
def safeSampleEffect (a b : Nat) (pulse : Option Nat) (settled rst : Bool) (s : State) : State :=
  if s.up 3 && decide (s.safe.mode ≠ .stopped) then
    let s1 : State := { s with safe := { s.safe with
      lvlA := a % 4096, lvlB := b % 4096, rstLvl := rst, rstArm := s.safe.rstArm || (s.safeRuns && !rst), pulse := pulse } }
    if s.safeRuns then
      forAll ((List.range 6).filter (fun m => handOk (s.inCfg (2 * m)))) State.pairStep
        (forAll (List.range 12) (State.sampleIn a b pulse settled) s1)
    else s1
  else s
/-- SAFE_INPUT_SAMPLE: the island samples its inputs (R684, R688). -/
def execSafeInputSample (a b : Nat) (pulse : Option Nat) (settled rst : Bool) (s : State) : Host.Outcome State Fault Refusal :=
  .next (safeSampleEffect a b pulse settled rst s)

/-- R688: the channels of an input that a pulse of source `j` tests have yet to follow it. -/
def State.pulseStart (j i : Nat) (s : State) : State :=
  match s.inCfg i with
  | none => s
  | some c =>
    let x := s.sIn i
    s.setIn i { x with
      a := { x.a with due := x.a.due || (decide (c.tpA = some j) && !x.a.dem) }
      b := { x.b with due := x.b.due || (decide (c.tpB = some j) && !c.antiv && !x.b.dem) } }

/-- TEST_PULSE (R688). -/
def testPulseEffect (j : Nat) (s : State) : State :=
  if s.safeRuns && decide (j < 4) then
    forAll (List.range 12) (State.pulseStart j) { s with safe := { s.safe with pulse := some j } }
  else s
/-- TEST_PULSE: source j goes low for TPW (R688). -/
def execTestPulse (j : Nat) (s : State) : Host.Outcome State Fault Refusal := .next (testPulseEffect j s)

/-- DISC_TIMEOUT (R690, R691). -/
def discTimeoutEffect (i : Nat) (s : State) : State :=
  let x := s.sIn i
  match s.inCfg i with
  | none => s
  | some c =>
    if s.safeRuns && x.disc then
      (s.setIn i { x with disc := false, mode := if c.func = .twohand then x.mode else .locked }).safeCause 6 i
    else s
/-- DISC_TIMEOUT: the discrepancy time of an input elapses (R690, R691). -/
def execDiscTimeout (i : Nat) (s : State) : Host.Outcome State Fault Refusal := .next (discTimeoutEffect i s)

/-- TWOHAND_SYNC_TIMEOUT (R692). -/
def twohandEffect (m : Nat) (s : State) : State :=
  match s.sPair m with
  | .one _ => if s.safeRuns && handOk (s.inCfg (2 * m)) then (s.setPair m .blocked).raise R.SAFE_SSTAT_DEMAND else s
  | .idle => s
  | .active => s
  | .blocked => s
/-- TWOHAND_SYNC_TIMEOUT: 500 ms elapse with one button actuated (R692). -/
def execTwohandSyncTimeout (m : Nat) (s : State) : Host.Outcome State Fault Refusal := .next (twohandEffect m s)

/-! ## Reset (R693 to R695, R710) -/

/-- R710: a standing cause is gone. -/
def State.causeGone (s : State) (selfTestOk : Bool) (e : Nat × Nat) : Bool :=
  if e.1 = 0 then true
  else if e.1 ≤ 5 then selfTestOk
  else if e.1 = 6 then decide ((s.sIn e.2).a.dem = (s.sIn e.2).b.dem)
  else if e.1 = 7 then decide ((s.safe.pset.map (fun p => p.tppUs)).getD 0 ≤ 50 * (s.sIn e.2).clean)
  else if e.1 = 8 then decide ((s.sOut e.2).rdA = (s.sOut e.2).on) && decide ((s.sOut e.2).rdB = (s.sOut e.2).on)
  else (s.sOut e.2).edm

/-- R687, R694: an input restarts at a reset. -/
def SafeIn.restart (x : SafeIn) : SafeIn :=
  match x.mode with
  | .waitRst => if x.atRest then { x with mode := .released } else x
  | .locked => { x with mode := if x.atRest then .released else .demandBoth, disc := !x.atRest && !x.pressed }
  | .released => x
  | .demand => x
  | .demandBoth => x

/-- R694: a valid reset releases every input and every connection that waits for one. -/
def State.restartAll (s : State) : State :=
  let s1 := forAll (List.range 12) (fun i t => t.setIn i (t.sIn i).restart) s
  forAll (s1.safe.conns.map (·.1)) (fun c t => t.setConn c { t.sConn c with wait := false }) s1

/-- R694, R713: a valid reset. -/
def State.validReset (selfTestOk : Bool) (s : State) : State :=
  match s.safe.mode with
  | .lockout =>
    if !s.safe.perm && !s.safe.fresh && s.safe.causes.all (s.causeGone selfTestOk) then
      (({ s with safe := { s.safe with mode := .run, causes := [] } }).restartAll).raise R.SAFE_SSTAT_RST_ACC
    else s
  | .run => s.restartAll.raise R.SAFE_SSTAT_RST_ACC
  | .start => s
  | .stopped => s

/-- SAFE_RST_RELEASE (R693, R694). -/
def safeRstEffect (heldUs : Nat) (selfTestOk : Bool) (s : State) : State :=
  if s.safeRuns then
    let s1 : State := { s with safe := { s.safe with rstLvl := false, rstArm := true } }
    if !s.safe.rstArm then s1
    else if 5000000 < heldUs then s1.raise R.SAFE_SSTAT_RST_LONG
    else if heldUs < 50000 then s1
    else s1.validReset selfTestOk
  else s
/-- SAFE_RST_RELEASE: the falling edge of SAFE_RST (R693). -/
def execSafeRstRelease (heldUs : Nat) (selfTestOk : Bool) (s : State) : Host.Outcome State Fault Refusal :=
  .next (safeRstEffect heldUs selfTestOk s)

/-! ## The logic cycle (R684, R696, R697) -/

/-- R690, R692: the function of input i is released. -/
def State.funcReleased (s : State) (i : Nat) : Bool :=
  match s.inCfg i with
  | none => false
  | some c =>
    if c.func = .unused then false
    else if c.func = .twohand then decide (s.sPair (i / 2) = .active)
    else decide ((s.sIn i).mode = .released)

/-- R690, R692, R723: input i waits for a reset; a two-hand button never does. -/
def State.inputWaits (s : State) (i : Nat) : Bool :=
  match s.inCfg i with
  | none => false
  | some c => decide (c.func ≠ .unused) && decide (c.func ≠ .twohand) && decide (s.safe.mode ≠ .start) && decide ((s.sIn i).mode = .waitRst)

/-- R696, R707: bit b of connection c counts as 1. -/
def State.remoteOn (s : State) (e : Nat × Nat) : Bool :=
  let x := s.sConn e.1
  decide (x.mode = .run) && !x.wait && bitOf x.rx e.2

/-- R696: ON_k holds. -/
def State.onReq (s : State) (k : Nat) : Bool :=
  match s.outCfg k with
  | none => false
  | some c => decide (s.safe.mode = .run) && c.funcs.all s.funcReleased && c.remote.all s.remoteOn

/-- R697, R726: the island reads back both channel pins and SAFE_EDM of one output. -/
def State.readPins (c : SafeChecks) (k : Nat) (s : State) : State :=
  s.setOut k { s.sOut k with rdA := bitOf c.readA k, rdB := bitOf c.readB k, edm := bitOf c.edm k }

/-- R697: the pins of an output read back other levels than it is commanded. -/
def SafeOut.wrong (x : SafeOut) : Bool := decide (x.rdA ≠ x.on) || decide (x.rdB ≠ x.on)

/-- R697: one output in a logic cycle. -/
def State.outStep (k : Nat) (s : State) : State :=
  let x := s.sOut k
  if s.onReq k then (if !x.on && x.edm then s.setOut k { x with on := true, edmOn := true } else s) else s.outOff k

/-- SAFE_LOGIC_CYCLE (R684, R685, R687, R696, R697, R702, R709, R713): the pins are judged by what was commanded when they were read; in START
they are only read. -/
def safeLogicEffect (c : SafeChecks) (s : State) : State :=
  let r := forAll [0, 1, 2, 3] (State.readPins c) s
  if s.safeRuns then
    let s1 := ((((r.causeIf (!c.lockstepOk) 1 0).causeIf (!c.oscOk) 2 0).causeIf (!c.vsafeOk) 3 0).causeIf (!c.psetOk) 4 0).causeIf (!c.memOk) 5 0
    let s2 := forAll [0, 1, 2, 3] State.outStep (forAll [0, 1, 2, 3] (fun k a => a.causeIf (r.sOut k).wrong 8 k) s1)
    { s2 with safe := { s2.safe with fresh := false } }
  else if s.up 3 && decide (s.safe.mode = .start) then r
  else s
/-- SAFE_LOGIC_CYCLE: a 250 µs logic cycle of the island (R684). -/
def execSafeLogicCycle (c : SafeChecks) (s : State) : Host.Outcome State Fault Refusal := .next (safeLogicEffect c s)

/-- EDM_ON_TIMEOUT (R697). -/
def edmOnEffect (k : Nat) (edmHigh : Bool) (s : State) : State :=
  let x := s.sOut k
  if s.safeRuns && x.on && x.edmOn then
    (s.setOut k { x with edmOn := false, edm := edmHigh }).causeIf edmHigh 9 k
  else s
/-- EDM_ON_TIMEOUT: EDM_ON has elapsed since switch-on (R697). -/
def execEdmOnTimeout (k : Nat) (edmHigh : Bool) (s : State) : Host.Outcome State Fault Refusal := .next (edmOnEffect k edmHigh s)

/-- EDM_OFF_TIMEOUT (R697). -/
def edmOffEffect (k : Nat) (edmHigh : Bool) (s : State) : State :=
  let x := s.sOut k
  if s.safeRuns && decide (k < 4) && !x.on then (s.setOut k { x with edm := edmHigh }).causeIf (!edmHigh) 9 k else s
/-- EDM_OFF_TIMEOUT: SAFE_EDM has been low longer than EDM_OFF in OFF, unless it is high (R697). -/
def execEdmOffTimeout (k : Nat) (edmHigh : Bool) (s : State) : Host.Outcome State Fault Refusal := .next (edmOffEffect k edmHigh s)

/-- OUTPUT_TEST_PULSE (R698). -/
def outputTestEffect (k : Nat) (channelB pulseSeen : Bool) (s : State) : State :=
  let x := s.sOut k
  if s.safeRuns && x.on then
    (s.setOut k (if channelB then { x with rdB := !pulseSeen } else { x with rdA := !pulseSeen })).causeIf (!pulseSeen) 8 k
  else s
/-- OUTPUT_TEST_PULSE: a channel of an ON output is pulsed low (R698). -/
def execOutputTestPulse (k : Nat) (channelB pulseSeen : Bool) (s : State) : Host.Outcome State Fault Refusal :=
  .next (outputTestEffect k channelB pulseSeen s)

/-! ## The Garnet channel (R704 to R707) -/

/-- R704: the CHK of a PDU, over its bytes 0 to 11. -/
def garnetChk (bs : List Byte) : Nat := (bs.take 12).foldl (fun c b => crcByte 32 0x741B8CD7 c b.toNat) 0xFFFFFFFF

/-- R704: a PDU. -/
def garnetPdu (ptype : Nat) (failed : Bool) (seq echo data cid : Nat) : List Byte :=
  let h := msBytes 1 (16 + ptype) ++ msBytes 1 (b2n failed) ++ msBytes 2 seq ++ msBytes 2 echo ++ msBytes 2 data ++ msBytes 4 cid
  h ++ msBytes 4 (garnetChk h)

/-- R705: one bit of the TX map. -/
def State.txBit (s : State) (t : Nat) : Bool :=
  if 1 ≤ t ∧ t ≤ 12 then s.funcReleased (t - 1) else if 16 ≤ t ∧ t ≤ 19 then (s.sOut (t - 16)).on else false

/-- R704, R705: the DATA word of connection c. -/
def State.txData (s : State) (m : List Nat) : Nat := maskOf ((List.range 16).filter (fun b => s.txBit (m.getD b 0)))

/-- R704: the SEND word of a Garnet session: LEN 16 and the deadline WD. -/
def garnetSend (wdUs : Nat) : Nat :=
  if wdUs ≤ 65535 then wdUs * 2 ^ 16 + 16 else (wdUs + 15) / 16 * 2 ^ 16 + 2 ^ 13 + 16

/-- R704, R705: a PDU goes out on the connection's medium: in a frame to its peer on its Ethernet ports, or on a Canopy session, where it is
written to the TX slot of the next SEQ. -/
def State.garnetOut (c : SafeConnCfg) (pdu : List Byte) (s : State) : State :=
  match c.sess with
  | none => s.ethSend c.ethPorts c.peerMac 0x88B5 true (.garnet pdu)
  | some k =>
    match s.sess k with
    | none => s
    | some x =>
      match s.bufAddr x.decl.txBuf with
      | none => s
      | some a => (s.writeFrom 3 (a + 256 * (x.seq % 8)) pdu).sendData k (garnetSend c.wdUs)

/-- R704, R707: one PDU of connection c. -/
def State.sendPdu (c : Nat) (cfg : SafeConnCfg) (failed : Bool) (s : State) : State :=
  let x := s.sConn c
  let start := decide (x.mode = .opening)
  let data := if start || failed then 0 else s.txData cfg.txMap
  let pdu := garnetPdu (b2n (!start)) failed x.seq (x.lastRx.getD x.seq) data cfg.cid
  let kept := x.sent.filter (fun e => decide (s.elNs < e.2 + 1000 * cfg.wdUs))
  (s.setConn c { x with seq := (x.seq + 1) % 65536, sent := kept ++ [(x.seq, s.elNs)], last := pdu }).garnetOut cfg pdu

/-- GARNET_PDU_SEND (R704, R705, R707). -/
def garnetSendEffect (c : Nat) (s : State) : State :=
  match s.connCfg c with
  | none => s
  | some cfg =>
    if s.safeRuns && decide ((s.sConn c).mode ≠ .failed) then s.sendPdu c cfg (decide (s.safe.mode ≠ .run)) else s
/-- GARNET_PDU_SEND: PER has elapsed on a connection (R707). -/
def execGarnetPduSend (c : Nat) (s : State) : Host.Outcome State Fault Refusal := .next (garnetSendEffect c s)

/-- R707: a connection fails; `count` where CONN_CNT.WDX counts it. -/
def State.connFail (c : Nat) (count : Bool) (s : State) : State :=
  let s1 := (s.setConn c { s.sConn c with mode := .failed, wait := false, rx := 0 }).raise R.SAFE_SSTAT_CONN_FAIL
  let s2 := if count then s1.addTo (R.SAFE_CONN_CNT_WDX c) 1 else s1
  s2.event .safe safeUnit 0

/-- R706, R707: a PDU with a wrong CHK or CID. -/
def State.checkFail (c : Nat) (cfg : SafeConnCfg) (s : State) : State :=
  let x := s.sConn c
  let s1 := ((s.setConn c { x with errs := satTo 255 (x.errs + 1) }).addTo (R.SAFE_CONN_CNT_CHK c) 1).raise R.SAFE_SSTAT_CONN_CHK
  if decide (x.mode = .run) && decide (cfg.errLim ≤ x.errs + 1) then s1.connFail c true else s1

/-- R706: the rules of SEQ and ECHO; `ptype` is 0 for START. -/
def State.pduFresh (s : State) (x : SafeConn) (cfg : SafeConnCfg) (ptype seq echo : Nat) : Bool :=
  (match x.lastRx with
   | none => true
   | some l => decide (1 ≤ (seq + 65536 - l) % 65536 ∧ (seq + 65536 - l) % 65536 ≤ 32767))
    && (decide (ptype = 0) || x.sent.any (fun e => decide (e.1 = echo) && decide (s.elNs < e.2 + 1000 * cfg.wdUs)))

/-- R707: a valid PDU. -/
def State.pduValid (c : Nat) (ptype seq data : Nat) (failed : Bool) (s : State) : State :=
  let x := s.sConn c
  let rx := if decide (ptype = 0) || failed then 0 else data
  match x.mode with
  | .opening => s.setConn c { x with mode := .run, wait := true, lastRx := some seq, gotData := decide (ptype = 1), rx := rx }
  | .run =>
    let s1 := s.setConn c { x with lastRx := some seq, gotData := x.gotData || decide (ptype = 1), rx := rx }
    if decide (ptype = 0) && x.gotData then s1.connFail c false else s1
  | .failed => s

/-- R706, R707: the judgement of a received PDU. -/
def State.judgePdu (c : Nat) (cfg : SafeConnCfg) (pdu : List Byte) (s : State) : State :=
  let b := pdu.take 16
  let f (o n : Nat) : Nat := beNat ((b.drop o).take n)
  let x := s.sConn c
  if b.length ≠ 16 ∨ f 12 4 ≠ garnetChk b ∨ f 8 4 ≠ cfg.cid then s.checkFail c cfg
  else if f 0 1 / 16 = 1 ∧ f 0 1 % 16 ≤ 1 ∧ x.mode ≠ .failed ∧ s.pduFresh x cfg (f 0 1 % 16) (f 2 2) (f 4 2) = true then
    s.pduValid c (f 0 1 % 16) (f 2 2) (f 6 2) (bitOf (f 1 1) 0)
  else s

/-- GARNET_PDU_RECEIVED (R704, R706, R707). -/
def garnetRxEffect (c : Nat) (pdu : List Byte) (s : State) : State :=
  match s.connCfg c with
  | none => s
  | some cfg =>
    if s.safeRuns then
      let s1 := s.judgePdu c cfg pdu
      match cfg.sess with
      | none => s1
      | some k => s1.releaseRx k
    else s
/-- GARNET_PDU_RECEIVED: a PDU arrives on a connection's medium (R706). -/
def execGarnetPduReceived (c : Nat) (pdu : List Byte) (s : State) : Host.Outcome State Fault Refusal := .next (garnetRxEffect c pdu s)

/-- GARNET_WATCHDOG (R707, R713). -/
def garnetWdEffect (c : Nat) (s : State) : State :=
  if s.safeRuns && (s.connCfg c).isSome && decide ((s.sConn c).mode = .run) then s.connFail c true else s
/-- GARNET_WATCHDOG: WD has elapsed since the last valid PDU of a connection in RUN (R707). -/
def execGarnetWatchdog (c : Nat) (s : State) : Host.Outcome State Fault Refusal := .next (garnetWdEffect c s)

/-- GARNET_FAILED_END (R707). -/
def garnetReopenEffect (c : Nat) (s : State) : State :=
  let x := s.sConn c
  if s.safeRuns && decide (x.mode = .failed) then s.setConn c { x with mode := .opening, lastRx := none, gotData := false } else s
/-- GARNET_FAILED_END: WD has elapsed in FAILED (R707). -/
def execGarnetFailedEnd (c : Nat) (s : State) : Host.Outcome State Fault Refusal := .next (garnetReopenEffect c s)

/-- GARNET_ERR_WINDOW_END (R705, R707). -/
def garnetWindowEffect (c : Nat) (s : State) : State :=
  if s.safeRuns then s.setConn c { s.sConn c with errs := 0 } else s
/-- GARNET_ERR_WINDOW_END: a connection's 1.0 s window ends (R705). -/
def execGarnetErrWindowEnd (c : Nat) (s : State) : Host.Outcome State Fault Refusal := .next (garnetWindowEffect c s)

/-! ## STOPPED (R687, R713) -/

/-- R687: the island stops: every output off, and one frame with FAIL on each running connection. -/
def State.safeStop (s : State) : State :=
  if s.safeRuns then
    let s1 := s.outsOff
    let s2 := forAll ((s1.safe.conns.filter (fun e => decide (e.2.mode = .run))).map (·.1))
      (fun c t => match t.connCfg c with | some cfg => t.sendPdu c cfg true | none => t) s1
    { s2 with safe := { s2.safe with mode := .stopped, causes := [] } }
  else { s with safe := { s.safe with mode := .stopped } }

end Sys2Proof.Machine
end

