-- ==== Sys2Proof/Machine/Crypto.lean ====
section
/-! DEFINITION. The checks that the root of trust runs: SHA-512 of FIPS 180-4, and RSASSA-PSS of RFC 8017 with SHA-512, MGF1 with SHA-512, a
salt of 64 bytes and public exponent 65,537 (R769, R772, R773, R776). -/

namespace Sys2Proof.Machine

/-! ## SHA-512 -/

/-- The round constants. -/
def shaKs : List (BitVec 64) :=
  [0x428A2F98D728AE22, 0x7137449123EF65CD, 0xB5C0FBCFEC4D3B2F, 0xE9B5DBA58189DBBC,
   0x3956C25BF348B538, 0x59F111F1B605D019, 0x923F82A4AF194F9B, 0xAB1C5ED5DA6D8118,
   0xD807AA98A3030242, 0x12835B0145706FBE, 0x243185BE4EE4B28C, 0x550C7DC3D5FFB4E2,
   0x72BE5D74F27B896F, 0x80DEB1FE3B1696B1, 0x9BDC06A725C71235, 0xC19BF174CF692694,
   0xE49B69C19EF14AD2, 0xEFBE4786384F25E3, 0x0FC19DC68B8CD5B5, 0x240CA1CC77AC9C65] ++
  [0x2DE92C6F592B0275, 0x4A7484AA6EA6E483, 0x5CB0A9DCBD41FBD4, 0x76F988DA831153B5,
   0x983E5152EE66DFAB, 0xA831C66D2DB43210, 0xB00327C898FB213F, 0xBF597FC7BEEF0EE4,
   0xC6E00BF33DA88FC2, 0xD5A79147930AA725, 0x06CA6351E003826F, 0x142929670A0E6E70,
   0x27B70A8546D22FFC, 0x2E1B21385C26C926, 0x4D2C6DFC5AC42AED, 0x53380D139D95B3DF,
   0x650A73548BAF63DE, 0x766A0ABB3C77B2A8, 0x81C2C92E47EDAEE6, 0x92722C851482353B] ++
  [0xA2BFE8A14CF10364, 0xA81A664BBC423001, 0xC24B8B70D0F89791, 0xC76C51A30654BE30,
   0xD192E819D6EF5218, 0xD69906245565A910, 0xF40E35855771202A, 0x106AA07032BBD1B8,
   0x19A4C116B8D2D0C8, 0x1E376C085141AB53, 0x2748774CDF8EEB99, 0x34B0BCB5E19B48A8,
   0x391C0CB3C5C95A63, 0x4ED8AA4AE3418ACB, 0x5B9CCA4F7763E373, 0x682E6FF3D6B2B8A3,
   0x748F82EE5DEFB2FC, 0x78A5636F43172F60, 0x84C87814A1F0AB72, 0x8CC702081A6439EC] ++
  [0x90BEFFFA23631E28, 0xA4506CEBDE82BDE9, 0xBEF9A3F7B2C67915, 0xC67178F2E372532B,
   0xCA273ECEEA26619C, 0xD186B8C721C0C207, 0xEADA7DD6CDE0EB1E, 0xF57D4F7FEE6ED178,
   0x06F067AA72176FBA, 0x0A637DC5A2C898A6, 0x113F9804BEF90DAE, 0x1B710B35131C471B,
   0x28DB77F523047D84, 0x32CAAB7B40C72493, 0x3C9EBE0A15C9BEBC, 0x431D67C49C100D4C,
   0x4CC5D4BECB3E42B6, 0x597F299CFC657E2A, 0x5FCB6FAB3AD6FAEC, 0x6C44198C4A475817]

/-- The eight working words. -/
structure ShaWords where
  a : BitVec 64
  b : BitVec 64
  c : BitVec 64
  d : BitVec 64
  e : BitVec 64
  f : BitVec 64
  g : BitVec 64
  h : BitVec 64
deriving DecidableEq, Repr

/-- The initial hash value. -/
def shaInit : ShaWords :=
  ⟨0x6A09E667F3BCC908, 0xBB67AE8584CAA73B, 0x3C6EF372FE94F82B, 0xA54FF53A5F1D36F1,
   0x510E527FADE682D1, 0x9B05688C2B3E6C1F, 0x1F83D9ABFB41BD6B, 0x5BE0CD19137E2179⟩

/-- The words added one by one. -/
def ShaWords.add (x y : ShaWords) : ShaWords :=
  ⟨x.a + y.a, x.b + y.b, x.c + y.c, x.d + y.d, x.e + y.e, x.f + y.f, x.g + y.g, x.h + y.h⟩

/-- One round with the schedule's word and the round constant. -/
def ShaWords.round (x : ShaWords) (w k : BitVec 64) : ShaWords :=
  let s1 := x.e.rotateRight 14 ^^^ x.e.rotateRight 18 ^^^ x.e.rotateRight 41
  let ch := (x.e &&& x.f) ^^^ (~~~x.e &&& x.g)
  let t1 := x.h + s1 + ch + k + w
  let s0 := x.a.rotateRight 28 ^^^ x.a.rotateRight 34 ^^^ x.a.rotateRight 39
  let maj := (x.a &&& x.b) ^^^ (x.a &&& x.c) ^^^ (x.b &&& x.c)
  ⟨t1 + (s0 + maj), x.a, x.b, x.c, x.d + t1, x.e, x.f, x.g⟩

/-- The schedule's window of sixteen words, moved on by one. -/
def shaNext (w : List (BitVec 64)) : List (BitVec 64) :=
  let g (i : Nat) : BitVec 64 := w.getD i 0
  let s0 := (g 1).rotateRight 1 ^^^ (g 1).rotateRight 8 ^^^ g 1 >>> 7
  let s1 := (g 14).rotateRight 19 ^^^ (g 14).rotateRight 61 ^^^ g 14 >>> 6
  w.drop 1 ++ [s1 + g 9 + s0 + g 0]

/-- One block of sixteen words into the hash value. -/
def shaBlock (h : ShaWords) (w : List (BitVec 64)) : ShaWords :=
  h.add (shaKs.foldl (fun a k => (a.1.round (a.2.getD 0 0) k, shaNext a.2)) (h, w)).1

/-- Bytes cut into `n` pieces of `k`. -/
def chunks (k : Nat) : Nat → List Byte → List (List Byte)
  | 0, _ => []
  | n + 1, bs => bs.take k :: chunks k n (bs.drop k)

/-- A message padded to whole blocks of 128 bytes. -/
def shaPad (m : List Byte) : List Byte :=
  m ++ [0x80] ++ List.replicate ((239 - m.length % 128) % 128) 0 ++ msBytes 16 (8 * m.length)

/-- SHA-512. -/
def sha512 (m : List Byte) : List Byte :=
  let p := shaPad m
  let h := (chunks 128 (p.length / 128) p).foldl (fun h b => shaBlock h ((chunks 8 16 b).map (fun w => BitVec.ofNat 64 (beNat w)))) shaInit
  [h.a, h.b, h.c, h.d, h.e, h.f, h.g, h.h].flatMap (fun w => msBytes 8 w.toNat)

/-! ## RSASSA-PSS -/

/-- MGF1 with SHA-512: a mask of `n` bytes. -/
def mgf1 (seed : List Byte) (n : Nat) : List Byte :=
  ((List.range ((n + 63) / 64)).flatMap (fun k => sha512 (seed ++ msBytes 4 k))).take n

/-- RSAVP1 with the exponent 65,537 = 2^16 + 1. -/
def rsaOpen (n s : Nat) : Nat := (List.range 16).foldl (fun x _ => x * x % n) (s % n) * s % n

/-- The first byte of a list kept to its `k` lowest bits. -/
def lowFirst (k : Nat) : List Byte → List Byte
  | [] => []
  | b :: t => BitVec.ofNat 8 (b.toNat % 2 ^ k) :: t

/-- EMSA-PSS-VERIFY: the data block of an encoded message: zeros, a one, the salt; where it is well formed, the salt. -/
def pssSalt (db : List Byte) : Option (List Byte) :=
  let z := db.length - 65
  if (db.take z).all (fun b => decide (b.toNat = 0)) ∧ leNat ((db.drop z).take 1) = 1 then some (db.drop (z + 1)) else none

/-- EMSA-PSS-VERIFY: the encoded message of `bits` bits holds for the message. -/
def pssHolds (bits : Nat) (msg em : List Byte) : Bool :=
  let n := em.length - 65
  let k := bits - 8 * (em.length - 1)
  let h := (em.drop n).take 64
  let db := lowFirst k (List.zipWith (fun x y => BitVec.ofNat 8 (x.toNat ^^^ y.toNat)) (em.take n) (mgf1 h n))
  if em.length < 130 ∨ leNat (em.drop (n + 64)) ≠ 0xBC ∨ 2 ^ k ≤ leNat (em.take 1) then false
  else
    match pssSalt db with
    | none => false
    | some salt => decide (sha512 (List.replicate 8 0 ++ sha512 msg ++ salt) = h)

/-- R769: a signature holds over a message under a public modulus. -/
def pssOk (modulus msg sig : List Byte) : Bool :=
  let n := beNat modulus
  let s := beNat sig
  let bits := Nat.log2 n
  let len := (bits + 7) / 8
  let m := rsaOpen n s
  decide (sig.length = modulus.length) && decide (s < n) && decide (m < 2 ^ (8 * len)) && pssHolds bits msg (msBytes len m)

end Sys2Proof.Machine
end

