-- ==== Sys2Proof/Machine/Security.lean ====
section
/-! DEFINITION. The root of trust and the NVM controller (R768 to R780, R788, R789, R800): quotes, debug authentication, return
preparation, the settings partitions, images and the retention refresh. -/

namespace Sys2Proof.Machine

/-! ## Shared -/

/-- The root of trust's unit (R13). -/
def onyxUnit : Nat := 0x0200
/-- The NVM controller's unit (R13). -/
def nvmUnit : Nat := 0x0201
/-- The data-port address of the root of trust's buffer (R772, R837). -/
def qbuf : Nat := 0xD04000

/-- Writes to the SEC and NVM pages take effect: the security glade runs and the device is not in L4 (R738). -/
def State.secUp (s : State) : Bool := s.up 2 && !s.flt.l4

/-- The listed cells of a region, by their offset in it. -/
def State.cells (s : State) (a n : Nat) : List (Nat × Byte) :=
  (s.mem.filter (fun c => decide (a ≤ c.1 ∧ c.1 < a + n))).map (fun c => (c.1 - a, c.2))

/-- `n` bytes: the front of a list, filled up with zeros. -/
def fixBytes (n : Nat) (l : List Byte) : List Byte := (l ++ List.replicate n 0).take n

/-- The security part replaced. -/
def State.modSec (f : SecSt → SecSt) (s : State) : State := { s with sec := f s.sec }
/-- The NVM part replaced. -/
def State.modNvm (f : NvmSt → NvmSt) (s : State) : State := { s with nvm := f s.nvm }
/-! ## Verifying (R769, R773, R776) -/

/-- R769, R788: a modulus belongs to an OTP key: the key is programmed and not revoked, and the digest of modulus and exponent is its hash. -/
def State.keyIs (s : State) (key : Option (List Byte)) (modulus : List Byte) : Bool :=
  !s.sec.revoked && (match key with
    | none => false
    | some h => decide (sha512 (modulus ++ Config.exponentBytes) = h))

/-- The bytes of the device serial. -/
def serialBytes : List Byte := leBytes 16 Config.serial

/-- R769: the size of an image: its header and its body. -/
def imageSize (h : ImageHeader) : Nat := 4096 + h.bodyLen

/-- R769: the header of the image that a slot stores. -/
def State.slotHeader (s : State) (slot : Nat) : ImageHeader := Config.headerOf (Memory.readN s.mem (slotBase slot) 4096)

/-- R769: a slot verifies but for its SVN: key, signature over the header's first 1,024 bytes, and digest of the body. -/
def State.slotSigned (s : State) (slot : Nat) : Bool :=
  let a := slotBase slot
  let h := s.slotHeader slot
  s.keyIs (Config.imageKey h.keySlot) h.modulus && decide (h.keySlot < 4 ∧ h.svn < 64) && pssOk h.modulus (Memory.readN s.mem a 1024) h.sig
    && decide (imageSize h ≤ 0x300000) && (s.badIn a (imageSize h)).isEmpty && decide (sha512 (Memory.readN s.mem (a + 4096) h.bodyLen) = h.digest)

/-- R769, R770: a slot's verdict: the SVN it verifies with, or the event bit of its failure. -/
def State.slotCheck (s : State) (slot : Nat) : Nat ⊕ Field :=
  let v := (s.slotHeader slot).svn
  if s.slotSigned slot then (if s.get R.SEC_STATUS_CNT ≤ v then .inl v else .inr R.SEC_EVT_ROLLBACK) else .inr R.SEC_EVT_SIG_FAIL

/-- R769, R832: the root of trust reads a slot. -/
def State.readSlot (slot : Nat) (s : State) : State := s.eccRead (slotBase slot) (imageSize (s.slotHeader slot)) nvmUnit

/-- A SEC event at the class's base level from the root of trust. -/
def State.secEvent (s : State) : State := s.event .sec onyxUnit 0

/-! ## Quotes (R772) -/

/-- R770: a slot has booted. -/
def State.booted (s : State) : Bool := decide (s.get R.SEC_STATUS_SLOT < 2)

/-- The newest copy of a partition (R777). -/
def State.newestCopy (s : State) (p : Nat) : Nat := tget 0 s.nvm.newest p
/-- The cells of a partition as stored. -/
def State.storedCells (s : State) (p : Nat) : List (Nat × Byte) := s.cells (copyBase p (s.newestCopy p)) (partSize p)

/-- QUOTE (R772, R797). A quote asked for while one is being signed is ignored (DESIGN CHOICE, notes/assumptions/29.md). -/
def quoteEffect (s : State) : State :=
  if s.secUp then
    (match s.sec.nonce with
     | some _ => s.config R.SEC_CTRL_QUOTE.addr
     | none => (s.readEcc qbuf 64).2.modSec (fun x => { x with nonce := some (s.readEcc qbuf 64).1 }))
  else s
/-- QUOTE: CTRL.QUOTE is written (R772). -/
def execQuote (s : State) : Host.Outcome State Fault Refusal := .next (s.commanded 0x2008 quoteEffect)

/-- R772: the body of a quote over a nonce: the digest of the booted image, that of both settings partitions, and the rest. -/
def State.quoteBody (s : State) (nonce image settings : List Byte) : List Byte :=
  fixBytes 64 nonce ++ sha512 image ++ sha512 settings
    ++ fixBytes 64 (Config.quoteTail (s.get R.SEC_STATUS_SVN) (s.get R.SEC_STATUS_SLOT) s.sec.boots Config.serial)

/-- R772, R832: the root of trust reads a partition as stored. -/
def State.readStored (p : Nat) (s : State) : List Byte × State := s.readEcc (copyBase p (s.newestCopy p)) (partSize p)

/-- QUOTE_DONE (R772, R832). -/
def quoteDoneEffect (s : State) : State :=
  match s.sec.nonce with
  | none => s
  | some n =>
    if s.up 2 then
      let img := if s.booted then s.readEcc (slotBase (s.get R.SEC_STATUS_SLOT)) (4096 + s.sec.imgLen) else ([], s)
      let u := img.2.readStored 0
      let p := u.2.readStored 1
      let body := p.2.quoteBody n img.1 (u.1 ++ p.1)
      let s1 := (p.2.writeBytes (qbuf + 0x40) body).writeBytes (qbuf + 0x200) (fixBytes 512 (Config.quoteSig body))
      (s1.modSec (fun x => { x with nonce := none, quote := body })).raise R.SEC_EVT_QUOTE_DONE
    else s
/-- QUOTE_DONE: the quote and its signature are written (R772). -/
def execQuoteDone (s : State) : Host.Outcome State Fault Refusal := .next (quoteDoneEffect s)

/-! ## Debug authentication (R773) -/

/-- DBG_CHAL (R773): the challenge is drawn by the root of trust. -/
def dbgChalEffect (c : List Byte) (s : State) : State :=
  if s.secUp && !s.on R.SEC_STATUS_DBG_LOCKED then
    (s.writeBytes (qbuf + 0x40) (fixBytes 64 c)).modSec (fun x => { x with chal := some (fixBytes 64 c) })
  else s
/-- DBG_CHAL: CTRL.DBG_CHAL is written (R773). -/
def execDbgChal (c : List Byte) (s : State) : Host.Outcome State Fault Refusal := .next (s.commanded 0x2008 (dbgChalEffect c))

/-- R772: the modulus and the signature that firmware has placed at QBUF. -/
def State.qbufModulus (s : State) : List Byte := Memory.readN s.mem (qbuf + 0x400) 512
/-- R772: the signature to verify. -/
def State.qbufSig (s : State) : List Byte := Memory.readN s.mem (qbuf + 0x600) 512

/-- R832: the root of trust reads modulus and signature at QBUF. -/
def State.readQbuf (s : State) : State := s.eccRead (qbuf + 0x400) 0x400 (memUnit qbuf)
/-- R832: no word of them is beyond correction. -/
def State.qbufGood (s : State) : Bool := (s.badIn (qbuf + 0x400) 0x400).isEmpty

/-- R773, R788: the debug key's signature over challenge and serial stands at QBUF. -/
def State.debugOk (s : State) : Bool :=
  match s.sec.chal with
  | none => false
  | some c => s.keyIs Config.debugKey s.qbufModulus && s.qbufGood && pssOk s.qbufModulus (c ++ serialBytes) s.qbufSig

/-- DBG_AUTH (R773). -/
def dbgAuthEffect (s : State) : State :=
  if s.secUp then
    let s1 := s.readQbuf.modSec (fun x => { x with chal := none })
    if s.debugOk then s1.put R.SEC_STATUS_DBG_OPEN 1
    else
      let n := satTo 3 (s.sec.dbgFails + 1)
      let s2 := ((s1.modSec (fun x => { x with dbgFails := n })).raise R.SEC_EVT_DBG_FAIL).secEvent
      if n = 3 then s2.put R.SEC_STATUS_DBG_LOCKED 1 else s2
  else s
/-- DBG_AUTH: CTRL.DBG_AUTH is written (R773). -/
def execDbgAuth (s : State) : Host.Outcome State Fault Refusal := .next (s.commanded 0x2008 dbgAuthEffect)

/-- DBG_CLOSE (R773). -/
def dbgCloseEffect (s : State) : State := if s.secUp then s.put R.SEC_STATUS_DBG_OPEN 0 else s
/-- DBG_CLOSE: CTRL.DBG_CLOSE is written (R773). -/
def execDbgClose (s : State) : Host.Outcome State Fault Refusal := .next (s.commanded 0x2008 dbgCloseEffect)

/-- COMMIT_SVN (R771). -/
def commitSvnEffect (s : State) : State :=
  if s.secUp && s.booted then s.put R.SEC_STATUS_CNT (max (s.get R.SEC_STATUS_CNT) (s.get R.SEC_STATUS_SVN)) else s
/-- COMMIT_SVN: the rollback counter is raised to the running image's SVN (R771). -/
def execCommitSvn (s : State) : Host.Outcome State Fault Refusal := .next (s.commanded 0x2008 commitSvnEffect)

/-! ## Return to Nalquel (R788, R789, R800) -/

/-- R800: RETURN_PREP is armed with IMG, or disarmed. -/
def State.arming (b img : Bool) (s : State) : State := (s.modSec (fun x => { x with armed := b })).put R.SEC_RET_ARM_IMG (b2n img)

/-- RET_ARM_WRITE (R800). -/
def retArmEffect (v : Nat) (s : State) : State :=
  if s.secUp then
    if v = 0x52455450 then s.arming true false else if v = 0x52455451 then s.arming true true else s.arming false false
  else s
/-- RET_ARM_WRITE: a write to RET_ARM (R800). -/
def execRetArmWrite (v : Nat) (s : State) : Host.Outcome State Fault Refusal := .next (s.commanded 0x2044 (retArmEffect v))

/-- RET_ARM_EXPIRED (R800). -/
def retExpiredEffect (s : State) : State := if s.up 2 && s.sec.armed then s.arming false false else s
/-- RET_ARM_EXPIRED: the 1 s of the arming elapses (R800). -/
def execRetArmExpired (s : State) : Host.Outcome State Fault Refusal := .next (retExpiredEffect s)

/-- R804: a STORE or an image write runs. -/
def State.nvmBusy (s : State) : Bool := s.nvm.store.isSome || s.nvm.imgWr || s.nvm.verify

/-- R788, R790, R903: RETURN_PREP in a write that began in `s0`. -/
def State.returnPrepIn (s0 s : State) : State :=
  if s.secUp then
    if s.sec.armed && decide (s.arm.mode = .off) && !s.nvmBusy then
      (s.modSec (fun x => { x with retImg := some (s.on R.SEC_RET_ARM_IMG) })).arming false false
    else State.configOnce s0 R.SEC_CTRL_RETURN_PREP.addr s
  else s
/-- RETURN_PREP (R788, R790). -/
def returnPrepEffect (s : State) : State := State.returnPrepIn s s
/-- RETURN_PREP: CTRL.RETURN_PREP is written (R788). -/
def execReturnPrep (s : State) : Host.Outcome State Fault Refusal := .next (s.commanded 0x2008 returnPrepEffect)

/-- R778, R788: one erase more of copy `k` = 2 p + c, with its event at 90,000. -/
def State.wearOne (k : Nat) (s : State) : State :=
  let n := tget 0 s.nvm.wear k + 1
  let s1 := s.modNvm (fun x => { x with wear := tset 0 x.wear k n })
  if n = 90000 then s1.event .age nvmUnit 0 else s1

/-- R778: one erase more of each of some image sectors, with the event where one comes to 90,000. -/
def State.wearSectors (l : List Nat) (s : State) : State :=
  let t := l.foldl (fun t k => tset 0 t k (tget 0 t k + 1)) s.nvm.imgWear
  let s1 := s.modNvm (fun x => { x with imgWear := t })
  if l.any (fun k => decide (tget 0 t k = 90000)) then s1.event .age nvmUnit 0 else s1

/-- RETURN_PREP_DONE (R787, R788). The log gains a RETURN record (DEDUCED, notes/assumptions/61.md) whose measure and values are free. -/
def returnDoneEffect (s : State) : State :=
  match s.sec.retImg with
  | none => s
  | some img =>
    if s.up 2 then
      let m1 := Memory.zeroN s.mem (copyBase 0 0) (histBase - copyBase 0 0)
      let m2 := if img then Memory.zeroN m1 (slotBase 0) 0x600000 else m1
      let s0 := (s.clearBad (copyBase 0 0) (histBase - copyBase 0 0)).clearBad (slotBase 0) (if img then 0x600000 else 0)
      let s1 := forAll [0, 1, 2, 3, 4, 5] State.wearOne
        { s0 with mem := m2, nvm := { s.nvm with pref := 0, badCopy := [] }, sec := { s.sec with retImg := none, revoked := true } }
      let s2 := ((if img then s1.wearSectors (List.range 1536) else s1).lifeRecord .ret (s.freeNat 4) onyxUnit (Config.freeValue 32 (s.free + 1)).toNat
        (Config.freeValue 32 (s.free + 2)).toNat).useFree 3
      let r := Config.returnRecord s2.nowNs s2.sec.boots (s2.get R.NVM_SEQ_STORE_SEQ) s2.nvm.wear s2.nvm.imgWear s2.sec.quote
      (((s2.clearBad retBase 0x4000).writeBytes retBase (fixBytes 0x4000 r)).put R.SEC_STATUS_RETURNED 1).raise R.SEC_EVT_RET_DONE
    else s
/-- RETURN_PREP_DONE: return preparation finishes (R788). -/
def execReturnPrepDone (s : State) : Host.Outcome State Fault Refusal := .next (returnDoneEffect s)

/-! ## Persistent settings (R775 to R778) -/

/-- R775: a partition's RAM copy is loaded from its newest valid copy. -/
def State.loadPart (p : Nat) (s : State) : State := s.eccCopy (copyBase p (s.newestCopy p)) (partSize p) (ramBase + ramOfs p) nvmUnit

/-- R776: what the signature of a STORE of settings P covers. -/
def State.settingsMsg (s : State) : List Byte :=
  serialBytes ++ leBytes 4 (s.get R.NVM_SEQ_STORE_SEQ + 1) ++ Memory.readN s.mem (ramBase + ramOfs 1) (partSize 1)

/-- R776: the settings key's signature for a STORE of settings P stands at QBUF. -/
def State.settingsOk (s : State) : Bool :=
  s.keyIs Config.settingsKey s.qbufModulus && s.qbufGood && (s.badIn (ramBase + ramOfs 1) (partSize 1)).isEmpty
    && pssOk s.qbufModulus s.settingsMsg s.qbufSig

/-- R776, R832: the root of trust reads what it checks a STORE of settings P by. -/
def State.readSettings (s : State) : State := s.readQbuf.eccRead (ramBase + ramOfs 1) (partSize 1) (memUnit ramBase)

/-- R775, R777: the bytes of a STORE go into copy c. -/
def State.storeBytes (p c : Nat) (s : State) : State :=
  if p = 2 then (s.clearBad (copyBase 2 c) (partSize 2)).writeBytes (copyBase 2 c) (fixBytes (partSize 2) (Config.bootBytes (s.get R.NVM_BOOT_PREF) (s.get R.NVM_SEQ_STORE_SEQ)))
  else s.eccCopy (ramBase + ramOfs p) (partSize p) (copyBase p c) 0x0003

/-- R777, R778: an accepted STORE begins: the older copy is erased and written. -/
def State.storeBegin (p : Nat) (s : State) : State :=
  let c := 1 - s.newestCopy p
  let k := 2 * p + c
  ((s.wearOne k).modNvm (fun x => { x with store := some (p, c), prefNew := s.get R.NVM_BOOT_PREF, badCopy := dropKey k x.badCopy })).storeBytes p c

/-- STORE (R775 to R778, R790, R803, R807). -/
def storeEffect (p : Nat) (s : State) : State :=
  if s.secUp then
    if 2 < p then s.config R.NVM_CTRL_PART.addr
    else
      let s1 := s.put R.NVM_CTRL_PART p
      if s.nvmBusy then (s1.put R.NVM_RESULT_CODE 4).config R.NVM_CTRL_STORE.addr
      else if p = 1 ∧ s.settingsOk = false then
        (((s1.readSettings.put R.NVM_RESULT_CODE 1).raise R.SEC_EVT_STORE_SIG).raise R.NVM_NSTAT_STORE_FAIL).secEvent
      else if 100000 ≤ tget 0 s.nvm.wear (2 * p + (1 - s.newestCopy p)) + 1 then (s1.put R.NVM_RESULT_CODE 3).raise R.NVM_NSTAT_ENDUR
      else s1.storeBegin p
  else s
/-- STORE: CTRL.STORE is written with CTRL.PART (R775). -/
def execStore (p : Nat) (s : State) : Host.Outcome State Fault Refusal := .next (s.commanded 0x3008 (storeEffect p))

/-! ## The history dump (R738, R744, R768, R790) -/

/-- R744: DUR of an entry, in µs of elapsed time (log entry 18). -/
def State.durOf (s : State) (r : FaultRec) : Nat :=
  satTo 0xFFFFFF (((if r.standing then (if s.flt.frozen then s.flt.frozeNs else s.elNs) else r.endNs) - r.tsEl) / 1000)

/-- R744: the four words of an entry; REPEAT is that of a record. -/
def State.recWords (s : State) (hist : Bool) (r : FaultRec) : List Nat :=
  if r.used then
    [r.cls * 2 ^ 27 + r.level * 2 ^ 24 + b2n r.esc * 2 ^ 23 + b2n r.standing * 2 ^ 22 + b2n r.fenced * 2 ^ 21 + b2n r.glade * 2 ^ 20 + r.unit % 2 ^ 16,
     r.tsNs % 2 ^ 32, r.aux % 2 ^ 32, (if hist then 0 else r.rep) * 2 ^ 24 + s.durOf r]
  else [0, 0, 0, 0]

/-- R738, R768: the history queue and the open records go into the fault-history partition. -/
def State.dumpNow (s : State) : State :=
  let ws := (List.range 16).flatMap (fun i => s.recWords true (tget {} s.flt.hist i)) ++ s.flt.recs.flatMap (fun e => s.recWords false e.2)
  let cs := (Config.histDump (s.cells histBase 0x70000) ws).filter (fun c => decide (c.1 < 0x70000))
  let s1 := s.zeroMem histBase 0x70000
  { s1 with mem := cs.foldl (fun m c => Memory.write m (histBase + c.1) c.2) s1.mem }

/-- R738, R790: the dump of an L4, which follows a STORE that runs. -/
def State.dumpHistory (s : State) : State :=
  if s.up 2 then (if s.nvm.store.isSome then s.modNvm (fun x => { x with dumpDue := true }) else s.dumpNow) else s

/-- R790: a dump that has waited for a STORE follows it. -/
def State.dumpAfter (s : State) : State := if s.nvm.dumpDue then (s.modNvm (fun x => { x with dumpDue := false })).dumpNow else s

/-- STORE_DONE (R776, R777, R790, R807, R808). -/
def storeDoneEffect (ok : Bool) (s : State) : State :=
  match s.nvm.store with
  | none => s
  | some (p, c) =>
    if s.up 2 then
      let s1 := if p = 1 then s.addTo R.NVM_SEQ_STORE_SEQ 1 else s
      let s2 :=
        if ok then
          ((s1.modNvm (fun x => { x with
            store := none, newest := tset 0 x.newest p c, pref := if p = 2 then x.prefNew else x.pref })).put R.NVM_RESULT_CODE 0).raise
            R.NVM_NSTAT_STORE_DONE
        else
          ((s1.modNvm (fun x => { x with store := none, badCopy := addKey (2 * p + c) x.badCopy })).put R.NVM_RESULT_CODE 2).raise
            R.NVM_NSTAT_STORE_FAIL
      s2.dumpAfter
    else s
/-- STORE_DONE: a STORE commits its copy or fails (R777). -/
def execStoreDone (ok : Bool) (s : State) : Host.Outcome State Fault Refusal := .next (storeDoneEffect ok s)

/-- RELOAD (R775). -/
def reloadEffect (s : State) : State := if s.secUp then (s.loadPart 0).loadPart 1 else s
/-- RELOAD: CTRL.RELOAD is written (R775). -/
def execReload (s : State) : Host.Outcome State Fault Refusal := .next (s.commanded 0x3008 reloadEffect)

/-! ## Images (R780) -/

/-- R780: the writable slot. -/
def State.writable (s : State) : Nat := if s.booted then 1 - s.get R.SEC_STATUS_SLOT else s.get R.NVM_BOOT_PREF

/-- IMG_COMMIT (R780). -/
def imgCommitEffect (s : State) : State :=
  if s.secUp && !s.nvm.verify then s.modNvm (fun x => { x with verify := true }) else s
/-- IMG_COMMIT: the verification of the written slot begins (R780). -/
def execImgCommit (s : State) : Host.Outcome State Fault Refusal := .next (s.commanded 0x3008 imgCommitEffect)

/-- IMAGE_VERIFY_DONE (R769, R780): the written slot is judged; a verification is never of another slot. -/
def imgVerifiedEffect (slot : Nat) (s : State) : State :=
  if s.up 2 && s.nvm.verify && decide (slot = s.writable) then
    let F := match s.slotCheck slot with
      | .inl _ => R.NVM_NSTAT_IMG_OK
      | .inr _ => R.NVM_NSTAT_IMG_BAD
    ((s.readSlot slot).modNvm (fun x => { x with verify := false, imgWr := false, erased := [] })).raise F
  else s
/-- IMAGE_VERIFY_DONE: the verification begun by IMG_COMMIT ends (R780). -/
def execImageVerifyDone (slot : Nat) (s : State) : Host.Outcome State Fault Refusal := .next (imgVerifiedEffect slot s)

/-- BOOT_PREF_WRITE (R780, R806). -/
def bootPrefEffect (v : Nat) (s : State) : State :=
  if s.secUp then
    if s.nvm.imgWr || s.nvm.verify then s.config R.NVM_BOOT_PREF.addr else s.put R.NVM_BOOT_PREF v
  else s
/-- BOOT_PREF_WRITE: a write to BOOT.PREF (R780). -/
def execBootPrefWrite (v : Nat) (s : State) : Host.Outcome State Fault Refusal := .next (s.commanded 0x3044 (bootPrefEffect v))

/-! ## Retention refresh (R779) -/

/-- R779, R790: a refresh of a sector must wait for a STORE, an image update or a history dump in its partition. -/
def State.refreshWaits (s : State) (sector : Nat) : Bool :=
  let a := nvmBase + 4096 * sector
  (match s.nvm.store with
   | some (p, _) => decide (copyBase p 0 ≤ a ∧ a < copyBase p 0 + 2 * partSize p)
   | none => false)
  || ((s.nvm.imgWr || s.nvm.verify) && decide (slotBase s.writable ≤ a ∧ a < slotBase s.writable + 0x300000))
  || (s.flt.l4 && decide (histBase ≤ a ∧ a < logBase))

/-- R779, R787, R804: a sector is rewritten. The words of the REFRESH record that the spec leaves open are free values. -/
def State.refreshed (s : State) : State :=
  ((((s.modNvm (fun x => { x with refreshAt := some s.elapsed })).addTo R.NVM_WEAR_REFRESH 1).lifeRecord .refresh (s.freeNat 4) nvmUnit (Config.freeValue 32 (s.free + 1)).toNat
    (Config.freeValue 32 (s.free + 2)).toNat).useFree 3)

/-- NVM_REFRESH (R779, R787, R832). -/
def refreshEffect (sector : Nat) (r : EccResult) (s : State) : State :=
  if s.up 2 && decide (sector < 2048) && !s.refreshWaits sector then
    if r = .uncorrectable ∨ s.badIn (nvmBase + 4096 * sector) 4096 ≠ [] then ((s.modNvm (fun x => { x with refreshAt := some s.elapsed })).raise R.NVM_NSTAT_REFRESH_ERR).event .mem nvmUnit 0
    else if r = .corrected then s.refreshed.event0 .mem nvmUnit 0
    else s.refreshed
  else s
/-- NVM_REFRESH: a retention refresh of a sector (R779). -/
def execNvmRefresh (sector : Nat) (r : EccResult) (s : State) : Host.Outcome State Fault Refusal := .next (refreshEffect sector r s)

end Sys2Proof.Machine
end

