-- ==== Sys2Proof/Machine/Fences.lean ====
section
/-! DEFINITION. Fences (R17, R24, R32, R271, R320, R360, R478, R739, R740, R742): what each target is, how it is fenced and how
it returns; and the loss of a glade. -/

namespace Sys2Proof.Machine

/-! ## Fencing -/

/-- R740: the mark of a fenced unit, with the class that fenced it (0 takes it away). -/
def State.markUnit (u cls : Nat) (s : State) : State := { s with flt := { s.flt with units := tset 0 s.flt.units u cls } }

/-- R271: what a fenced lane takes with it besides its ring. -/
def State.laneUser (l : Nat) (s : State) : State :=
  if l < 96 then s
  else if l < 112 then (if s.portUp ((l - 96) / 4) then s.portDown ((l - 96) / 4) else s)
  else if s.on (R.ETH_CTRL_EN (l - 112)) then s.linkDown (l - 112) else s

/-- R739, R740: a unit is fenced; a cell lane and its ring go together (R271). -/
def State.fenceUnit (cls u : Nat) (s : State) : State :=
  if s.unitFenced u || s.gladeFenced (u / 256) then s
  else
    match unitKind s.variant u with
    | .core k => (s.fenceCore k).markUnit u cls
    | .ring n => ((s.fenceRing n false).fenceLane n).markUnit (laneUnit n) cls |>.markUnit u cls
    | .lane l =>
      if l < 96 then ((s.fenceRing l false).fenceLane l).markUnit (ringUnit l) cls |>.markUnit u cls
      else ((s.fenceLane l).laneUser l).markUnit u cls
    | .port p => (if s.portUp p then s.portDown p else s).markUnit u cls
    | .checkpoint => (s.modAmber (fun a => { a with stream := none })).markUnit u cls
    | .eth p => (if s.on (R.ETH_CTRL_EN p) then s.linkDown p else s).markUnit u cls
    | .ptp => s.markUnit u cls
    | .servo => (s.setServo { s.servo with pend := none }).markUnit u cls
    | .loop k => (s.fenceLoop k).markUnit u cls
    | .channel c => (s.fenceCh c).markUnit u cls
    | .pos i => (s.fencePos i).markUnit u cls
    | .adc c => (s.fenceAdc c).markUnit u cls
    | .other => s

/-- A glade's own effects on being fenced or lost: what it leaves in other glades, and the state of its units (R24, R25, R363). -/
def State.gladeGone (g : Nat) (s : State) : State :=
  if 16 ≤ g ∧ g < 19 then
    (forAll (List.range 9) (fun k a => if a.unitFenced (coreUnit (9 * (g - 16) + k)) then a else a.fenceCore (9 * (g - 16) + k)) s).loseBuffers
      (256 * g + 16)
  else if 32 ≤ g then
    forAll (List.range 8) (fun k a => (a.fenceRing (8 * (g - 32) + k) true).fenceLane (8 * (g - 32) + k)) s
  else if g = 10 then (s.fenceAdc 0).fenceAdc 1
  else if g = 9 then s.engageLatch
  else if g = 3 then s.safeStop
  else s

/-- R17: a glade is fenced and held in reset; the security glade never is (R795). -/
def State.fenceGlade (cls g : Nat) (s : State) : State :=
  if s.gladeFenced g || !gladePresent s.variant g || decide (g = 2) then s
  else (s.gladeGone g).setGlade g { s.glade g with fencedBy := cls }

/-- R739: the fence of an L2 falls on its target. -/
def State.applyFence (cls : Nat) (t : Target) (s : State) : State :=
  match t with
  | .glade g => s.fenceGlade cls g
  | .units l => forAll l (State.fenceUnit cls) s
  | .task t => if s.taskFenced t then s else s.fenceTask cls t
  | .hostDcmd => s.putAll [(R.CMDENC_CTRL_HOST_DCMD, 0), (R.CMDENC_STATUS_HOSTOFF, 1)]
  | .notFenceable => s

/-! ## Return (R742) -/

/-- R742: a fenced unit returns as its chapter states. -/
def State.returnUnit (u : Nat) (s : State) : State :=
  match unitKind s.variant u with
  | .ring n => (((s.markUnit u 0).markUnit (laneUnit n) 0).unfenceRing n).unfenceLane n
  | .lane l =>
    if l < 96 then (((s.markUnit u 0).markUnit (ringUnit l) 0).unfenceRing l).unfenceLane l else (s.markUnit u 0).unfenceLane l
  | .channel c => (s.markUnit u 0).unfenceCh c
  | .adc _ => s.markUnit u 0
  | .core _ => s.markUnit u 0
  | .port _ => s.markUnit u 0
  | .checkpoint => s.markUnit u 0
  | .eth _ => s.markUnit u 0
  | .ptp => State.ptpFaults s (s.markUnit u 0)
  | .servo => s.markUnit u 0
  | .loop _ => s.markUnit u 0
  | .pos _ => s.markUnit u 0
  | .other => s

/-- R17: the registers of a glade's pages stand at their reset values, RWT fields at their protected settings (R776). -/
def State.resetPages (g : Nat) (s : State) : State :=
  let s1 : State := { s with
    regs := s.regs.filter (fun e => pageGlade (e.1 / 32) != some g)
    conds := s.conds.filter (fun k => pageGlade (k / 32) != some g) }
  s1.host.setP.foldl (fun a e =>
    if pageGlade e.1 = some g then (match fieldAt e.1 e.2.1 with | some F => a.put F e.2.2 | none => a) else a) s1

/-- R902: the conditions that rest on configuration, judged again. -/
def State.condsAgain (s : State) : State := s.protConds.budgetCheck.ringsRecheck.regionCheck.loopConds

/-- R17, R742: a glade is released from reset, and the units fenced with it return: its rings from DOWN, its lanes from
OFF; repeat mode is the role's and stays (R267). -/
def State.returnGlade (g : Nat) (s : State) : State :=
  let s1 := (s.resetPages g).setGlade g {inReset := false}
  let s2 : State := { s1 with host := { s1.host with links := s1.host.links.filter (fun e => decide (e.1 ≠ g) && decide (e.2 ≠ g)) } }
  let s3 := if 32 ≤ g then
    forAll (List.range 8) (fun k a =>
      let n := 8 * (g - 32) + k
      if a.unitFenced (ringUnit n) then a else { (a.unfenceRing n) with lanes := tset {} (a.unfenceRing n).lanes n { rep := (a.lane n).rep } }) s2
    else s2
  s3.condsAgain

/-- R742: a glade returns by UNFENCE at all: ring glades, grove glades and the analog glade (R17). -/
def gladeReturns (g : Nat) : Bool := decide (g = 10) || decide (16 ≤ g)

/-! ## Loss of a glade (R21, R24) -/

/-- R21, R24: a glade stops working: its neighbours fence it, and a CLK event is raised at the level of its loss. -/
def State.loseGlade (g : Nat) (s : State) : State :=
  let s1 := (s.gladeLoss g).fenceGlade (classCode .clk) g
  s1.setGlade g { s1.glade g with clkBad := true, badAt := s.elapsed }

end Sys2Proof.Machine
end

