-- ==== Sys2Proof/Machine/Faults.lean ====
section
/-! DEFINITION. The fault collector (chapter 15): how an event is taken, what each level does, records and history, acknowledgement
and unfencing; and the monitors that raise events of whole glades (R14, R15, R21, R22, R882, R884, R828). -/

namespace Sys2Proof.Machine

/-! ## Records and history (R743 to R745) -/

/-- The class whose code is `c` is at least at L1: its IRQ_STAT bit, if enabled, and the host interrupt (R737, R753). -/
def State.fltIrq (c : Nat) (s : State) : State :=
  if bitOf (s.get R.FLT_IRQ_EN_EN) (c - 1) then (s.put R.FLT_IRQ_STAT_PEND (setBitN (s.get R.FLT_IRQ_STAT_PEND) (c - 1))).signal s else s

/-- R745: one history entry. -/
def State.writeHist (e : Event) (lvl : Nat) (esc : Bool) (s : State) : State :=
  let i := s.get R.FLT_HIST_WR_IDX
  let s1 := if (tget {} s.flt.hist i).used then s.addTo R.FLT_HIST_WR_OVWR 1 else s
  let s2 := (s1.modFlt (fun f => { f with hist := tset {} f.hist i (eventRec s e lvl esc) })).put R.FLT_HIST_WR_IDX (i + 1)
  if i = 15 then s2.put R.FLT_HIST_WR_WRAPPED 1 else s2

/-! ## What each level does (R737, R738) -/

/-- R737: the reactions of L3 before its record: the arm, the block frames, the gate outputs. -/
def State.reactL3 (s : State) : State := s.armFault.askBlockFrames.engageLatch

/-- R553, R738, R740: a glade stops its units under L4; the collector and the root of trust run on, the network glade waits for the
last TRIP repeat, the ring glades for their block frames. -/
def State.stopGlade (g : Nat) (s : State) : State :=
  if g = 1 ∨ g = 2 then s
  else if g = 7 ∧ (s.pubOn 0 && (lookupKey s.net.pubs 0).isSome) = true then s
  else if 32 ≤ g then s.ringGladeStop g
  else s.setGlade g { s.glade g with stopped := true }

/-- R738: the safe state of the device, for an event of class code `c`. -/
def State.safeState (c : Nat) (s : State) : State :=
  let s1 := s.modFlt (fun f => { f with l4 := true, frozen := true, frozeNs := s.elNs })
  let s2 := (s1.put R.FLT_STATUS_FROZEN 1).dumpHistory
  let s3 := (s2.safeStop).amberL4 c
  let s4 := s3.putAll [(R.SYS_STATUS_SPEED, 0), (R.SYS_STATUS_WIDTH, 0)]
  forAll ((List.range 44).filter (gladePresent s.variant)) State.stopGlade s4

/-- R24: a fault at glade level, other than the loss of its clock, that fences a whole glade: its loss raises a CLK event. -/
def State.targetLost (t : Target) (s : State) : State :=
  match t with
  | .glade g => if s.gladeFenced g || !gladePresent s.variant g then s else s.gladeLoss g
  | .units _ => s
  | .task _ => s
  | .hostDcmd => s
  | .notFenceable => s

/-- R24, R733, R737, R743, R745: an event taken at a level. -/
def State.takeAt (e : Event) (lvl : Nat) (esc : Bool) (s : State) : State :=
  let c := classCode e.cls
  let s1 := s.addTo R.FLT_CNT_EVENTS 1
  let s2 := if lvl = 0 then s1.putAll [(R.FLT_L0_LAST_CLASS, c), (R.FLT_L0_LAST_UNIT, e.unit), (R.FLT_L0_AUX_AUX, e.aux)] else s1.fltIrq c
  let s3 := if 1 ≤ lvl ∧ s2.on R.FLT_CFG_EVT_EN = true then s2.postFlagFrom 1 (s2.get R.FLT_CFG_EVT) else s2
  let t : Target := if 3 ≤ lvl ∧ e.losesGlade = true then .glade (e.unit / 256) else s3.fenceTarget e
  let s4 := if e.fencesAt lvl then (if e.losesGlade then s3 else s3.targetLost t).applyFence c t else s3
  let s4 := if 3 ≤ lvl then s4.reactL3 else s4
  let s5 := if 1 ≤ lvl then s4.updateRecord e lvl esc else s4
  let s6 := if s.get R.FLT_CFG_HIST_MIN ≤ lvl then s5.writeHist e lvl esc else s5
  let s7 := if 3 ≤ lvl then s6.pubNew 0 else s6
  if lvl = 4 then s7.safeState c else s7

/-- R733: the collector takes an event. Under L4 nothing changes any more (R738). -/
def State.take (e : Event) (s : State) : State := if s.flt.l4 then s else s.takeAt e (s.takenLevel e) (s.escalates e)

/-- R734, R747: waiting events are decided, at most `n` of them, up to the one at place `k` of the inbox. -/
def State.takeUpTo : Nat → Nat → State → State
  | 0, _, s => s
  | n + 1, k, s =>
    match s.popEvent with
    | none => s
    | some (x, s1) =>
      if s.nextPlace = k then s1.take x else State.takeUpTo n (if s.nextPlace < k then k - 1 else k) (s1.take x)

/-- FAULT_EVENT (R733, R734): an event that arrives now, in its order among those that wait, or the next that waits. -/
def faultEventEffect (e : Option Event) (s : State) : State :=
  if s.up 1 then
    match e with
    | some x => (s.post x).takeUpTo (2 * s.flt.inbox.length + 1) s.flt.inbox.length
    | none =>
      match s.popEvent with
      | none => s
      | some (x, s1) => s1.take x
  else s
/-- FAULT_EVENT: the collector decides an event (R733). -/
def execFaultEvent (e : Option Event) (s : State) : Host.Outcome State Fault Refusal := .next (faultEventEffect e s)

/-- R744: the entry is that of a cause. -/
def FaultRec.isOf (r : FaultRec) (cls : Nat) (c : CauseOf) : Bool := decide (r.cls = cls ∧ r.unit = c.unit ∧ r.aux = c.aux ∧ r.src = c.src)

/-- R744: an entry whose cause goes away. -/
def causeEnds (now cls : Nat) (c : CauseOf) (r : FaultRec) : FaultRec :=
  if r.used && r.standing && r.isOf cls c then { r with standing := false, endNs := now } else r

/-- R882: an excursion of a rail that ends. -/
def State.railBack (cls : FaultClass) (c : CauseOf) (s : State) : State :=
  if s.up 1 = true ∧ cls = .pwr ∧ c.unit = fltUnit then s.modFlt (fun f => { f with rails := dropKey c.aux f.rails }) else s

/-- FAULT_CAUSE_CLEARED (R744, R747, R882). -/
def causeClearedEffect (cls : FaultClass) (c : CauseOf) (s0 : State) : State :=
  let s := s0.railBack cls c
  if s.up 1 && !s.flt.frozen then
    let f := causeEnds s.elNs (classCode cls) c
    s.modFlt (fun x => { x with recs := x.recs.map (fun e => (e.1, f e.2)), hist := x.hist.map (fun e => (e.1, f e.2)) })
  else s
/-- FAULT_CAUSE_CLEARED: a standing cause goes away (R744). -/
def execFaultCauseCleared (cls : FaultClass) (unit : CauseOf) (s : State) : Host.Outcome State Fault Refusal :=
  .next (causeClearedEffect cls unit s)

/-! ## The collector's own protection (R15, R746, R828) -/

/-- R746: a fault in the collector's own path. -/
def State.selfFault (e : Event) (s : State) : State := if s.flt.l4 then s else s.takeAt e 4 false

/-- R828: the value on which two of three copies agree. -/
def vote (a b c : Nat) : Option Nat := if a = b ∨ a = c then some a else if b = c then some b else none

/-- R746: the field is a queue pointer or a word of the collector’s records. -/
def collectorRo (F : Field) : Bool := decide (F.addr = R.FLT_HIST_WR_IDX.addr) || decide ((R.FLT_REC_WORD 0).addr ≤ F.addr ∧ F.addr ≤ (R.FLT_REC_WORD 3).addr)

/-- R13, R739, R828: the unit that owns a triplicated field: the servo owns SRV_CFG, the GOOSE engine GP_CFG. -/
def ownerUnit (addr : Nat) : Nat :=
  if addr = R.TIME_SRV_CFG_STEP_RUN.addr then 0x0401 else if addr = R.NETSV_GP_CFG_PUB_EN.addr then 0x0711 else addrUnit addr

/-- R744, R746: word `k` of a record takes a voted value. -/
def FaultRec.setWord (now k v : Nat) (r : FaultRec) : FaultRec :=
  if k = 0 then
    { r with cls := bits v 27 5, level := bits v 24 3, esc := bitOf v 23, standing := bitOf v 22, fenced := bitOf v 21, glade := bitOf v 20, unit := bits v 0 16 }
  else if k = 1 then { r with tsNs := r.tsNs / 2 ^ 32 * 2 ^ 32 + v % 2 ^ 32 }
  else if k = 2 then { r with aux := v % 2 ^ 32 }
  else if r.standing then { r with rep := bits v 24 8, tsEl := now - 1000 * bits v 0 24 }
  else { r with rep := bits v 24 8, endNs := r.tsEl + 1000 * bits v 0 24 }

/-- R746: a voted word of the record that REC_IDX names stands in that record, if it is open. -/
def State.recVoted (F : Field) (v : Nat) (s : State) : State :=
  let c := s.get R.FLT_REC_IDX_CLASS
  let r := s.record c
  match (List.range 4).find? (fun k => decide (F.addr = (R.FLT_REC_WORD k).addr)) with
  | some k => if r.used then s.modFlt (fun f => { f with recs := tset {} f.recs c (r.setWord s.elNs k v) }) else s
  | none => s

/-- RWT_VOTE_DISAGREE (R746, R828). -/
def voteEffect (addr lo c0 c1 c2 : Nat) (s : State) : State :=
  let u := ownerUnit addr
  let own := decide (addr / 0x1000 = 1)
  match fieldAt addr lo with
  | none => s
  | some F =>
    if (F.acc = .rwt ∨ collectorRo F = true) ∧ s.up (u / 256) = true ∧ ¬(c0 = c1 ∧ c1 = c2) then
      match vote c0 c1 c2 with
      | some v =>
        let s1 := ((s.put F v).recVoted F v).event0 .mem u 0
        (if own then s1.addTo R.FLT_CNT_SCRUB 1 else s1).condsAgain
      | none =>
        let s1 := if F.acc = .rwt then s.put F F.rst else s
        (if own then s1.selfFault { cls := .mem, unit := fltUnit } else s1.eventAt .mem u 0 2).condsAgain
    else s
/-- RWT_VOTE_DISAGREE: the copies of a triplicated field disagree (R828). -/
def execRwtVoteDisagree (addr lo c0 c1 c2 : Nat) (s : State) : Host.Outcome State Fault Refusal := .next (voteEffect addr lo c0 c1 c2 s)

/-! ## Acknowledgement (R741) and history (R745, R761) -/

/-- R741: the record of class `c` is acknowledged or the acknowledgement refused. -/
def State.ackClass (c : Nat) (s : State) : State :=
  let r := s.record c
  if !r.used then s
  else if decide (3 ≤ r.level) && r.standing then (s.raise R.FLT_STATUS_ACK_REF).config R.FLT_ACK_ACK.addr
  else s.modFlt (fun f => { f with recs := eraseKey c f.recs })

/-- FAULT_ACK (R741, R747, R758): `mask` is the word written. -/
def faultAckEffect (mask : Nat) (s : State) : State :=
  if s.up 1 && !s.flt.l4 then
    (forAll ((List.range 22).filterMap (fun j => if bitOf mask (j + 1) then some (j + 1) else none)) State.ackClass s).pubNew 0
  else s
/-- FAULT_ACK: a write to FLT.ACK (R741). -/
def execFaultAck (mask : Nat) (s : State) : Host.Outcome State Fault Refusal := .next (s.commanded 0x1050 (faultAckEffect mask))

/-- HIST_CLR (R745). -/
def histClrEffect (s : State) : State :=
  if s.up 1 && !s.flt.l4 then (s.modFlt (fun f => { f with hist := [] })).putAll [(R.FLT_HIST_WR_IDX, 0), (R.FLT_HIST_WR_WRAPPED, 0)] else s
/-- HIST_CLR: CTRL.HIST_CLR is written (R745). -/
def execHistClr (s : State) : Host.Outcome State Fault Refusal := .next (s.commanded 0x1008 histClrEffect)

/-- REC_IDX_WRITE (R761, R762). -/
def recIdxEffect (v : Nat) (s : State) : State :=
  if s.up 1 && !s.flt.l4 then
    let ws := s.recWords false (s.record (v % 32))
    (s.put R.FLT_REC_IDX_CLASS v).putAll [(R.FLT_REC_WORD 0, ws.getD 0 0), (R.FLT_REC_WORD 1, ws.getD 1 0), (R.FLT_REC_WORD 2, ws.getD 2 0),
      (R.FLT_REC_WORD 3, ws.getD 3 0)]
  else s
/-- REC_IDX_WRITE: a write to REC_IDX latches a record (R761). -/
def execRecIdxWrite (v : Nat) (s : State) : Host.Outcome State Fault Refusal := .next (s.commanded 0x105C (recIdxEffect v))

/-! ## Unfencing (R742) -/

/-- R742, R747: the record of the class that set a fence is open, or an event naming the unit waits. -/
def State.fenceHeld (s : State) (cls : Nat) (names : Event → Bool) : Bool := (s.record cls).used || s.flt.inbox.any names

/-- R742: the outcome for a task. -/
def State.taskResult (s : State) (t : Nat) : Nat :=
  let c := tget 0 s.flt.tasks t
  if c = 0 then 1
  else if s.fenceHeld c (fun e => decide (e.cls = .sched) && decide (e.aux = t) && decide (e.unit = schedUnit ∨ e.unit = storeUnit)) then 2 else 0

/-- R742: the outcome for a whole glade. -/
def State.gladeResult (s : State) (g : Nat) (clkGood : Bool) : Nat :=
  if !gladeReturns g then 1
  else if s.fenceHeld (s.glade g).fencedBy (fun e => e.glade && decide (e.unit / 256 = g)) then 2
  else if !clkGood || ((s.glade g).clkBad && decide (s.elapsed < (s.glade g).badAt + el (10 ^ 6))) then 3 else 0

/-- R742: a worn core that a spare has replaced (R488). -/
def State.wornOut (s : State) (u : Nat) : Bool := match unitKind s.variant u with | .core k => (s.core k).worn | _ => false

/-- R742: the outcome for a unit. -/
def State.unitResult (s : State) (u : Nat) : Nat :=
  let c := tget 0 s.flt.units u
  if c = 0 || s.wornOut u then 1 else if s.fenceHeld c (fun e => decide (e.unit = u)) then 2 else 0

/-- R742: a clock that was lost and has been good for 1 ms: at least that long has passed since its loss. -/
def State.clockBack (g : Nat) (clkGood : Bool) (s : State) : State :=
  if clkGood && (s.glade g).clkBad then s.pass ((s.glade g).badAt + el (10 ^ 6)) else s

/-- UNFENCE (R17, R742, R747, R760): the write of ID, judged with the clock's state. -/
def unfenceEffect (task : Bool) (ident : Nat) (clkGood : Bool) (s : State) : State :=
  if s.up 1 && !s.flt.l4 then
    let s1 := s.putAll [(R.FLT_UNFENCE_TASK, b2n task), (R.FLT_UNFENCE_ID, ident)]
    let g := ident / 256
    let r := if task then s.taskResult ident else if s.gladeFenced g then s.gladeResult g clkGood else s.unitResult ident
    let s2 := s1.put R.FLT_UNFENCE_RESULT r
    if r ≠ 0 then s2.config R.FLT_UNFENCE_GO.addr
    else if task then (s2.modFlt (fun f => { f with tasks := tset 0 f.tasks ident 0 })).unfenceTask ident
    else if s.gladeFenced g then s2.returnGlade g
    else s2.returnUnit ident
  else s
/-- UNFENCE: a write to FLT.UNFENCE with GO = 1 (R742). -/
def execUnfence (task : Bool) (ident : Nat) (clkGood : Bool) (s : State) : Host.Outcome State Fault Refusal :=
  .next (((if task then s else s.clockBack (ident / 256) clkGood)).commanded 0x1058 (unfenceEffect task ident clkGood))

/-! ## Clock monitors (R14, R15, R24) -/

/-- R12, R816: the planned frequency of a glade's clock in kHz. -/
def State.planKhz (s : State) (g : Nat) : Nat :=
  if 16 ≤ g ∧ g < 19 then 1000 * s.get (R.AGE_CLK_MHZ (g - 16))
  else if 32 ≤ g then 625000
  else [500000, 200000, 200000, 100000, 500000, 1000000, 625000, 312500, 500000, 500000, 250000].getD g 0

/-- R15: the collector's oscillator or the backup oscillator fails. -/
def State.oscFault (s : State) : State := s.selfFault { cls := .clk, unit := fltUnit, glade := true, standing := true }

/-- R14, R15, R24: a clock is bad. -/
def State.clockBad (src : ClockSource) (s : State) : State :=
  match src with
  | .backup => s.oscFault
  | .glade g =>
    if s.up g then
      if g = 1 then
        let s1 := s.oscFault
        s1.setGlade 1 { s1.glade 1 with clkBad := true, inReset := true }
      else s.loseGlade g
    else s

/-- CLK_EDGE_TIMEOUT (R14, R15, R24, R363). -/
def clkEdgeEffect (src : ClockSource) (s : State) : State := s.clockBad src
/-- CLK_EDGE_TIMEOUT: no edge within five backup-oscillator periods (R14). -/
def execClkEdgeTimeout (src : ClockSource) (s : State) : Host.Outcome State Fault Refusal := .next (clkEdgeEffect src s)

/-- R14: the measured frequency lies more than 10 % from plan. -/
def offPlan (plan khz : Nat) : Bool := decide (plan < 10 * (plan - khz)) || decide (plan < 10 * (khz - plan))

/-- CLK_FREQ_WINDOW (R14, R15, R24). -/
def clkFreqEffect (src : ClockSource) (khz : Nat) (s : State) : State :=
  if offPlan (match src with | .backup => 50000 | .glade g => s.planKhz g) khz then s.clockBad src else s
/-- CLK_FREQ_WINDOW: a measurement window of 64 periods ends (R14). -/
def execClkFreqWindow (src : ClockSource) (khz : Nat) (s : State) : Host.Outcome State Fault Refusal := .next (clkFreqEffect src khz s)

/-! ## Links (R21, R22) -/

/-- R22: a read that fails completes with all ones and an error. -/
def State.readFails (s : State) : State := { s with host := { s.host with rdata := [0xFFFFFFFF], readErr := true } }

/-- R628: the link of a gated glade is parked: neither end expects idle tokens. -/
def State.parked (s : State) (src dst : Nat) : Bool := (s.glade src).gated || (s.glade dst).gated

/-- R21, R22, R628: the link from `src` to `dst` fences itself, unless it is parked; the writes on it are discarded and counted by the sender,
and a read of the host that is in flight or queued on it completes with all ones and an error. -/
def State.fenceLink (src dst writes : Nat) (read : Bool) (s : State) : State :=
  if gladePresent s.variant src && gladePresent s.variant dst && !s.parked src dst then
    let s1 : State := { s with host := { s.host with
      links := if s.host.links.contains (src, dst) then s.host.links else s.host.links ++ [(src, dst)] } }
    let s2 := s1.discardWrites src writes
    if read && (decide (src = 0) || decide (dst = 0)) then s2.readFails else s2
  else s

/-- LINK_RX_TIMEOUT (R21, R22). -/
def linkRxEffect (src dst writes : Nat) (read : Bool) (s : State) : State := s.fenceLink src dst writes read
/-- LINK_RX_TIMEOUT: the receiving side sees nothing for 150 ns (R21). -/
def execLinkRxTimeout (src dst : Nat) (lost : LinkLoss) (s : State) : Host.Outcome State Fault Refusal := .next (linkRxEffect src dst lost.writes lost.read s)
/-- LINK_ACK_TIMEOUT (R21, R22). -/
def linkAckEffect (src dst writes : Nat) (read : Bool) (s : State) : State := s.fenceLink src dst writes read
/-- LINK_ACK_TIMEOUT: the sending side waits 150 ns for an acknowledge (R21). -/
def execLinkAckTimeout (src dst : Nat) (lost : LinkLoss) (s : State) : Host.Outcome State Fault Refusal := .next (linkAckEffect src dst lost.writes lost.read s)

/-- R831, R852: an access of the host whose parity fails inside the device. -/
def State.hostParity (t : Transfer) (isRead : Bool) (s : State) : State :=
  match t.host with
  | none => s
  | some a =>
    let s1 := (s.raise R.SYS_HSTAT_HPAR).put R.SYS_ERR_ADDR_ADDR a
    if isRead then s1.readFails else s1

/-- LINK_PARITY_ERROR (R22, R732, R831). What the collector itself sends travels on its own path (R746; DEDUCED, notes/assumptions/61.md). -/
def linkParityEffect (src dst : Nat) (t : Transfer) (isRead : Bool) (s : State) : State :=
  let s1 := s.hostParity t isRead
  if src = 1 then s1.selfFault { cls := .mem, unit := fltUnit }
  else if s.host.links.contains (src, dst) then
    if isRead then s1 else s1.discardWrites src 1
  else s1.event .bus t.unit 0
/-- LINK_PARITY_ERROR: a transfer arrives with a byte-parity error (R22). -/
def execLinkParityError (src dst : Nat) (t : Transfer) (isRead : Bool) (s : State) : Host.Outcome State Fault Refusal :=
  .next (linkParityEffect src dst t isRead s)

/-! ## Supplies and temperature (R882, R884, R885) -/

/-- SUPPLY_EXCURSION (R882). -/
def supplyEffect (rail : Nat) (s : State) : State :=
  if s.up 1 && decide (1 ≤ rail ∧ rail ≤ 7) then
    if s.flt.rails.contains rail then s
    else (s.modFlt (fun f => { f with rails := addKey rail f.rails })).post { cls := .pwr, unit := fltUnit, glade := true, aux := rail, standing := true }
  else s
/-- SUPPLY_EXCURSION: a rail stays outside its window (R882). -/
def execSupplyExcursion (rail : Nat) (s : State) : Host.Outcome State Fault Refusal := .next (supplyEffect rail s)

/-- R885: a sensor's reading: NOW is the highest of the last readings of all sensors. -/
def State.tjReading (g : Nat) (tj : Int) (s : State) : State :=
  let l := tset none s.age.tjs g (some tj)
  let hi := (l.filterMap (·.2)).foldl max tj
  ((s.modAge (fun x => { x with tjs := l })).putS R.AGE_TJ_NOW hi).putS R.AGE_TJ_MAX (max hi (s.getS R.AGE_TJ_MAX))

/-- TJ_LIMIT_EXCEEDED (R884, R885): `tj` in 0.0625 °C; every reading counts for TJ, and one above the limit posts its event. -/
def tjLimitEffect (g : Nat) (tj : Int) (s : State) : State :=
  if s.up 1 && gladePresent s.variant g then
    let s1 := s.tjReading g tj
    if 1680 < tj then
      s1.post { cls := .pwr, unit := fltUnit, glade := true, aux := 0x100 + g, standing := true, req := if 1840 < tj then .atLeast 4 else .base }
    else s1
  else s
/-- TJ_LIMIT_EXCEEDED: a junction sensor reads above its limit (R884). -/
def execTjLimitExceeded (g : Nat) (tj : Int) (s : State) : Host.Outcome State Fault Refusal := .next (tjLimitEffect g tj s)

end Sys2Proof.Machine
end

