-- ==== Sys2Proof/Machine/Views.lean ====
section
/-! DEFINITION. What a register field reads as where it shows the state of its block instead of a stored value: capabilities,
states, fences, live levels and counts, page by page (R5, R23, R61 to R66, R247, R290, R558, R673, R716 to R729, R748 to R767, ...). -/

namespace Sys2Proof.Machine

/-- The value that a list of views gives a field. -/
def viewIn (F : Field) : List (Field × Nat) → Option Nat
  | [] => none
  | (G, v) :: t => if F = G then some v else viewIn F t

/-- R25, R828: FENCE of a page whose unit is fenced on its own. -/
def State.unitBit (s : State) (u : Nat) : Nat := b2n (s.unitFenced u)

/-- R847, R848: some page of a glade holds a pending interrupt. -/
def State.gladePending (s : State) (g : Nat) : Bool :=
  s.regs.any (fun e =>
    let a := e.1 / 32
    decide (pageGlade a = some g) && s.pageLive a &&
      (if a / 0x1000 = 1 then decide (a % 0x1000 = 0x14) && decide (e.2 ≠ 0)
       else match s.variant with
         | .x => decide (a % 0x1000 = 0x14) && decide (e.2 ≠ 0)
         | _ => decide (a % 0x1000 = 0x10) && decide (s.irqStat (pageOf a) ≠ 0)))

/-- R5, R488: the spare cores that are still spare: a spare that has come in for a worn core no longer counts. -/
def State.sparesLeft (s : State) : Nat :=
  s.variant.groves - ((List.range s.variant.groves).filter (fun g => (List.range 8).any (fun k => (s.core (9 * g + k)).worn))).length
/-- R5, R843, R848 to R850: the SYS page. -/
def State.sysViews (s : State) : List (Field × Nat) :=
  [(R.SYS_CAP_LOOPS, s.variant.loops), (R.SYS_CAP_SPARES, s.sparesLeft), (R.SYS_CAP_CORES, 8 * s.variant.groves),
   (R.SYS_CAP_LANES, s.variant.rings), (R.SYS_CAP_POS, b2n s.variant.hasPos), (R.SYS_CAP_AMBER, b2n s.variant.hasPair),
   (R.SYS_CAP_SAFE, b2n s.variant.hasPair), (R.SYS_CAP_STSEM, b2n (decide (s.variant = .x))), (R.SYS_CAP_VARIANT, s.variant.code),
   (R.SYS_STATUS_UNLK_ARMED, b2n s.host.unlk.isSome),
   (R.SYS_IRQ_GLADE_LO_GLADE, maskOf ((List.range 32).filter s.gladePending)),
   (R.SYS_IRQ_GLADE_HI_GLADE, maskOf ((List.range 32).filter (fun j => s.gladePending (32 + j)))),
   (R.SYS_BOOT_CNT_COUNT, s.sec.boots)] ++
  (List.range 4).map (fun m => (R.SYS_SERIAL_BYTES m, Config.serial / 2 ^ (32 * m) % 2 ^ 32))

/-- R744, R749, R755, R759, R767: the FLT page. -/
def State.fltViews (s : State) : List (Field × Nat) :=
  let op := (List.range 22).filter (fun j => (s.record (j + 1)).used)
  [(R.FLT_STATUS_BLK, b2n s.openL3), (R.FLT_STATUS_LEVEL, s.openLevel), (R.FLT_OPEN_OPEN, maskOf op)]

/-- R834, R901: the identifiers that the PCIe endpoint reports, the sizes of its windows and its MSI-X vectors. -/
structure EndpointId where
  vendor : Nat
  device : Nat
  subsystemVendor : Nat
  subsystem : Nat
  revision : Nat
  classCode : Nat
  bar0Bytes : Nat
  bar2Bytes : Nat
  msixVectors : Nat
  deriving DecidableEq, Repr

/-- R901: they are the same in every variant, and the revision is SYS.PAGE_ID.REV. -/
def State.endpointId (s : State) : EndpointId :=
  { vendor := 0x1FC7, device := 0x9616, subsystemVendor := 0x1FC7, subsystem := 0x0001, revision := s.get R.SYS_PAGE_ID_REV
    classCode := 0x118000, bar0Bytes := 0x1000000, bar2Bytes := 0x1000, msixVectors := 2 }

/-- R744, R767: one word of a history entry. -/
def State.histView (s : State) (e w : Nat) : List (Field × Nat) :=
  [(R.FLT_HIST_WORD e w, (s.recWords true (tget {} s.flt.hist e)).getD w 0)]

/-- R798: SEC.STATUS.BUSY. -/
def State.secBusy (s : State) : Bool :=
  s.sec.nonce.isSome || s.sec.retImg.isSome || s.nvm.verify
    || (match s.host.phase with | .locked => true | .verified => true | .reset => false | .released => false | .stopped => false | .applied => false)

/-- The SEC page. -/
def State.secViews (s : State) : List (Field × Nat) :=
  [(R.SEC_STATUS_BUSY, b2n s.secBusy), (R.SEC_STATUS_SLOT, if s.host.phase = .verified then 2 else s.get R.SEC_STATUS_SLOT),
   (R.SEC_QBUF_ADDR_ADDR, qbuf)]

/-- R775: the RAM copy of a partition differs from NVM. -/
def State.dirty (s : State) (p : Nat) : Bool := decide (s.cells (ramBase + ramOfs p) (partSize p) ≠ s.storedCells p)

/-- R778, R801, R804, R810: the NVM page. -/
def State.nvmViews (s : State) : List (Field × Nat) :=
  [(R.NVM_STATUS_ENDUR_WARN, b2n ((s.nvm.wear ++ s.nvm.imgWear).any (fun e => decide (90000 ≤ e.2)))), (R.NVM_STATUS_REFRESHING, b2n (decide (s.nvm.refreshAt = some s.elapsed))),
   (R.NVM_STATUS_BUSY, b2n s.nvmBusy), (R.NVM_STATUS_DIRTY_P, b2n (s.dirty 1)), (R.NVM_STATUS_DIRTY_U, b2n (s.dirty 0)),
   (R.NVM_RAM_ADDR_ADDR, ramBase), (R.NVM_IMG_ADDR_ADDR, slotBase s.writable), (R.NVM_HIST_ADDR_ADDR, histBase), (R.NVM_RET_ADDR_ADDR, retBase),
   (R.NVM_WEAR_MAX, (s.nvm.wear.map (·.2)).foldl max 0)]

/-- R812, R816: the AGE page. -/
def State.ageViews (s : State) : List (Field × Nat) :=
  [(R.AGE_STATUS_REPLAN, b2n (s.age.wait || !s.age.clkReq.isEmpty)), (R.AGE_LOG_ADDR_ADDR, logBase)]
    ++ ([0, 1, 2].filter (fun g => decide (s.variant.groves ≤ g))).flatMap (fun g => [(R.AGE_CLK_SLACK g, 0), (R.AGE_CLK_MHZ g, 0)])

/-- R527: the TIME page. -/
def State.timeViews (s : State) : List (Field × Nat) := [(R.TIME_NOW_LO_VAL, s.nowNs % 2 ^ 32)]

/-- R496, R506, R523: the SCHED page. -/
def State.schedViews (s : State) : List (Field × Nat) :=
  [(R.SCHED_STATUS_MOVING, b2n (s.sched.bufs.any (fun b => b.move.isSome))), (R.SCHED_STATUS_TRACE_ON, s.get R.SCHED_TRACE_CTRL_EN),
   (R.SCHED_LOAD_RUN, (s.sched.cores.filter (fun e => e.2.run.isSome)).length),
   (R.SCHED_LOAD_STAGED, (s.sched.cores.filter (fun e => e.2.staged.isSome)).length),
   (R.SCHED_LOAD_READY, (s.sched.tasks.filter (fun e => e.2.ready || !e.2.insts.isEmpty)).length),
   (R.SCHED_TRACE_ADDR_ADDR, 0xC80000)]

/-- R36, R839, R855: the DPORT page. -/
def State.dportViews (s : State) : List (Field × Nat) :=
  [(R.DPORT_STATUS_BUSY, b2n (!s.host.dpWait.isEmpty)), (R.DPORT_STATUS_MOVEWAIT, b2n (!s.host.dpWait.isEmpty))]

/-- R247: the STATE code of a ring. -/
def ringCode : RingMode → Nat
  | .down => 0 | .probe => 1 | .enum => 2 | .ident => 3 | .tsync => 4 | .ready => 5 | .admitted => 6 | .fenced => 7

/-- R245, R247, R251: a RING page. -/
def State.ringViews (s : State) (n : Nat) : List (Field × Nat) :=
  [(R.RING_CAP_DUAL_OK n, b2n s.variant.hasPair), (R.RING_STATUS_STATE n, ringCode (s.ring n).mode),
   (R.RING_STATUS_REPEAT n, b2n (s.lane n).rep), (R.RING_FENCE_FENCE n, s.unitBit (ringUnit n))]

/-- R290: the STATE code of a lane. -/
def laneCode : LaneMode → Nat
  | .off => 0 | .cal => 1 | .acq => 2 | .adapt => 3 | .sync => 4 | .locked => 5

/-- R288, R290, R294: a LANE page. -/
def State.laneViews (s : State) (l : Nat) : List (Field × Nat) :=
  let x := s.lane l
  [(R.LANE_CAP_CLASS l, if l < 96 then 0 else if l < 112 then 1 else 2), (R.LANE_CAP_RATE1G l, b2n (decide (112 ≤ l))),
   (R.LANE_STATUS_REPEAT l, b2n x.rep), (R.LANE_STATUS_STATE l, laneCode x.mode), (R.LANE_STATUS_ES_BUSY l, b2n (decide (x.scan ≠ .none))),
   (R.LANE_STATUS_LOCK l, b2n (decide (x.mode = .locked))), (R.LANE_TEST_SYNC l, s.prbsSync l), (R.LANE_FENCE_FENCE l, s.unitBit (laneUnit l))]

/-- R62 to R66, R68: the ARM page. N_FBP counts a kept FAILED_BYPASS latch whose slot holds no cell after a re-admission (DESIGN
CHOICE, notes/assumptions/60.md). -/
def State.armViews (s : State) : List (Field × Nat) :=
  [(R.ARM_ARM_STATE_STATE, armCode s.arm.mode), (R.ARM_RT_MAX_RING, s.rtMax.2), (R.ARM_RT_MAX_RT, s.rtMax.1),
   (R.ARM_CAP_RINGS, s.variant.rings), (R.ARM_CAP_SM_MAX, s.variant.smMax),
   (R.ARM_SETCNT_N_UNK, (s.liveSms.filter (fun i => decide ((s.smRec i).rcnt < 2))).length),
   (R.ARM_SETCNT_FB_N_FBP, (s.enc.prot.filter (fun e => e.2.fbp)).length)]

/-- R330: FENCE of a LOOP page. -/
def State.loopViews (s : State) (n : Nat) : List (Field × Nat) :=
  [(R.LOOP_FENCE_FENCE n, maskOf ((List.range 16).filter (fun j => s.unitFenced (loopUnit (16 * n + j)))))]

/-- R319, R342, R345: a loop unit's block. -/
def State.unitViews (s : State) (k : Nat) : List (Field × Nat) :=
  let x := s.loop k
  [(R.U_STAT_ACTIVE k, b2n (s.on (R.U_CTRL_EN k) && !s.unitFenced (loopUnit k))), (R.U_STAT_RAMPING k, b2n x.ramping),
   (R.U_INT_LO_INT k, x.int % 2 ^ 32), (R.U_INT_HI_INT k, x.latch % 2 ^ 16)]

/-- R370, R374: the PWM page. -/
def State.pwmViews (s : State) : List (Field × Nat) :=
  [(R.PWM_STATUS_BLK, b2n s.openL3), (R.PWM_STATUS_HALT, b2n s.anyHalted), (R.PWM_STATUS_HELD, b2n s.pwm.held),
   (R.PWM_FENCE_FENCE, maskOf ((List.range 16).filter (fun c => s.unitFenced (chUnit c))))]

/-- R383, R384: a PWM channel's block. -/
def State.chViews (s : State) (c : Nat) : List (Field × Nat) :=
  let x := s.ch c
  [(R.CH_CNT_COUNT c, x.cnt), (R.CH_STAT_FLT_IN c, b2n (s.fltPin c 0)), (R.CH_STAT_GS c, b2n x.gs), (R.CH_STAT_FLT_LAT c, b2n x.fltLat),
   (R.CH_STAT_OUT c, b2n x.out)]

/-- R585: an ETH page. -/
def State.ethViews (s : State) (p : Nat) : List (Field × Nat) :=
  [(R.ETH_CAP_PAIR_LEAD p, b2n (decide (p % 2 = 0))), (R.ETH_STATUS_LINK p, b2n (s.linkUp p)),
   (R.ETH_STATUS_PAIRED p, b2n (decide (s.pairMode p ≠ 0) && s.on (R.ETH_CTRL_EN p))), (R.ETH_FENCE_FENCE p, s.unitBit (ethUnit p))]
    ++ (if p % 2 = 1 then [(R.ETH_PAIR_CNT_DUP p, 0), (R.ETH_PAIR_CNT_UNPAIRED p, 0)] else [])

/-- R551, R595, R607: the NETSV page. -/
def State.netsvViews (s : State) : List (Field × Nat) :=
  [(R.NETSV_STATUS_PTP_SLAVE, b2n (s.ptpPorts.any s.ptpSlave)), (R.NETSV_STATUS_TRIP, b2n s.openL3),
   (R.NETSV_PTP_STAT_STATE_A, s.ptpState (s.get R.NETSV_PTP_CFG_PORT_A)),
   (R.NETSV_PTP_STAT_STATE_B, if s.on R.NETSV_PTP_CFG_BC then s.ptpState (s.get R.NETSV_PTP_CFG_PORT_B) else 0)]

/-- R627, R656, R658, R659: a CANOPY page. -/
def State.canopyViews (s : State) (p : Nat) : List (Field × Nat) :=
  [(R.CANOPY_STATUS_UP p, b2n (s.portUp p)), (R.CANOPY_STATUS_AMBER p, b2n (s.isCkPort p)), (R.CANOPY_CFG_TUP p, b2n (s.tup p)),
   (R.CANOPY_CFG_TDN p, b2n (s.tdn p)), (R.CANOPY_FENCE_FENCE p, s.unitBit (canopyUnit p))]

/-- R674: the ROLE code. -/
def amberCode : AmberRole → Nat
  | .none => 0 | .active => 1 | .standby => 2 | .takeover => 3 | .warm => 4

/-- R656, R674: the AMBER page. -/
def State.amberViews (s : State) : List (Field × Nat) :=
  [(R.AMBER_HO_AGE_HOURS, s.hoAge), (R.AMBER_STATUS_FRAMES_SEEN, b2n s.framesSeen), (R.AMBER_STATUS_PEER_SEEN, b2n s.peerSeen), (R.AMBER_STATUS_PEER_READY, b2n s.peerReady),
   (R.AMBER_STATUS_READY, b2n s.amberReady), (R.AMBER_STATUS_ROLE, amberCode s.amber.role), (R.AMBER_FENCE_FENCE, s.unitBit amberUnit)]

/-- R687: the STATE code of the island. -/
def safeCode : SafeMode → Nat
  | .start => 0 | .lockout => 1 | .run => 2 | .stopped => 3

/-- The inputs or outputs that a standing cause of one of the codes names. -/
def State.causeMask (s : State) (codes : List Nat) : Nat := maskOf ((s.safe.causes.filter (fun c => codes.contains c.1)).map (·.2))

/-- R708, R712: CAUSE and INDEX of the first standing cause. -/
def State.firstCause (s : State) : Nat × Nat := s.safe.causes.headD (0, 0)

/-- R703, R717 to R729: the SAFE page. -/
def State.safeViews (s : State) : List (Field × Nat) :=
  let chans (f : Nat → Bool) (n : Nat) : Nat := maskOf ((List.range n).filter f)
  [(R.SAFE_STATUS_RST_IN, b2n s.safe.rstLvl), (R.SAFE_STATUS_PERM, b2n s.safe.perm), (R.SAFE_STATUS_STATE, safeCode s.safe.mode),
   (R.SAFE_STATUS_PSET_OK, b2n s.safe.psetOk), (R.SAFE_IN_STATE_WAIT, chans s.inputWaits 12),
   (R.SAFE_IN_STATE_REL, chans s.funcReleased 12), (R.SAFE_IN_LEVEL_A, s.safe.lvlA), (R.SAFE_IN_LEVEL_B, s.safe.lvlB),
   (R.SAFE_IN_FAULT_FLT, s.causeMask [6, 7]), (R.SAFE_OUT_STATE_FLT, s.causeMask [8, 9]), (R.SAFE_OUT_STATE_EDM, chans (fun k => (s.sOut k).edm) 4),
   (R.SAFE_OUT_STATE_ON_REQ, chans s.onReq 4), (R.SAFE_OUT_STATE_A, chans (fun k => (s.sOut k).rdA) 4),
   (R.SAFE_OUT_STATE_B, chans (fun k => (s.sOut k).rdB) 4), (R.SAFE_CONN_RUN_BITS, chans (fun c => decide ((s.sConn c).mode = .run)) 32),
   (R.SAFE_CONN_WAIT_BITS, chans (fun c => (s.sConn c).wait) 32), (R.SAFE_LOCK_CAUSE_CAUSE, s.firstCause.1),
   (R.SAFE_LOCK_CAUSE_INDEX, s.firstCause.2), (R.SAFE_LOCK_CAUSE_COUNT, satTo 65535 s.safe.locks),
   (R.SAFE_DEM_TS_TS, if s.on R.TIME_STATUS_VALID then s.get R.SAFE_DEM_TS_TS else 0),
   (R.SAFE_OFF_TS_TS, if s.on R.TIME_STATUS_VALID then s.get R.SAFE_OFF_TS_TS else 0)]

/-- The views of the page or block that holds an address. -/
def State.viewsAt (s : State) (addr : Nat) : List (Field × Nat) :=
  let p := addr / 0x1000
  let o := addr % 0x1000
  if p = 0 then s.sysViews
  else if p = 1 then (if o < 0x100 then s.fltViews else s.histView ((o - 0x100) / 16) ((o - 0x100) % 16 / 4))
  else if p = 2 then s.secViews
  else if p = 3 then s.nvmViews
  else if p = 4 then s.timeViews
  else if p = 5 then s.schedViews
  else if p = 6 then s.dportViews
  else if p = 7 then s.ageViews
  else if 0x10 ≤ p ∧ p < 0x70 then s.ringViews (p - 0x10)
  else if p = 0x71 then s.armViews
  else if p = 0x80 ∨ p = 0x81 then (if o < 0x400 then s.loopViews (p - 0x80) else s.unitViews (16 * (p - 0x80) + (o - 0x400) / 0x80))
  else if p = 0x90 then (if o < 0x80 then s.pwmViews else s.chViews ((o - 0x80) / 0x100))
  else if p = 0x91 ∨ p = 0x92 then [(R.POS_FENCE_FENCE (p - 0x91), s.unitBit (posUnit (p - 0x91)))]
  else if p = 0x93 ∨ p = 0x94 then [(R.ADC_STATUS_CALD (p - 0x93), b2n (s.adcCald (p - 0x93))), (R.ADC_FENCE_FENCE (p - 0x93), if s.gladeFenced 10 then 0xFFFFFFFF else s.unitBit (adcUnit (p - 0x93))), (R.ADC_BUF_ADDR_ADDR (p - 0x93), 0xD00000 + 0x2000 * (p - 0x93))]
  else if 0xA0 ≤ p ∧ p < 0xA4 then s.ethViews (p - 0xA0)
  else if p = 0xA4 then s.netsvViews
  else if 0xB0 ≤ p ∧ p < 0xB4 then (if o < 0x100 then s.canopyViews (p - 0xB0) else [])
  else if p = 0xB4 then s.amberViews
  else if p = 0xC0 then s.safeViews
  else if 0x100 ≤ p ∧ p < 0x174 then s.laneViews (p - 0x100)
  else []

/-- R4, R24: the pending bits of a page's IRQ_STAT follow their status bits in -M and -B. -/
def State.irqField (s : State) (F : Field) : Option Nat :=
  if F.addr % 0x1000 = 0x14 ∧ F.addr / 0x1000 ≠ 1 then
    (match s.variant with | .x => none | _ => some (s.irqStat (pageOf F.addr) / 2 ^ F.lo % 2 ^ F.w))
  else none

/-- What a field reads as. -/
def State.view (s : State) (F : Field) : Nat :=
  match viewIn F (s.viewsAt F.addr) with
  | some v => v % 2 ^ F.w
  | none => (s.irqField F).getD (s.get F)

/-- R820, R846, R853 to R855, R857: what the word at a mapped address reads as: its fields, with reserved bits 0 (R823). -/
def State.wordAt (s : State) (addr : Nat) : Nat := ((fieldsAt addr).map (fun F => s.view F * 2 ^ F.lo)).sum

end Sys2Proof.Machine
end

