-- ==== Sys2Proof/Machine/Writes.lean ====
section
/-! DEFINITION. What a register write does to the fields of a word (R9, R823 to R828, R903): the locks that a state of the
block makes, the values that a rule refuses, the fields that hardware owns, and the words that hold no action. -/

namespace Sys2Proof.Machine

/-- R820, R825, R855: the LOCKV bit of a page. -/
def lockvField (addr : Nat) : Field := ⟨pageOf addr + 0x0C, 0, 1, 0, .rc⟩

/-- R825: the page's LOCK bit. -/
def State.pageLocked (s : State) (addr : Nat) : Bool := s.bitAt (pageOf addr + 0x18) 0

/-- The arm is in OFF, or in one more state. -/
def State.armOffOr (s : State) (m : ArmMode) : Bool := decide (s.arm.mode = .off) || decide (s.arm.mode = m)

/-- The loop unit whose block holds an address (R307). -/
def unitAt (addr : Nat) : Nat := 16 * (addr / 0x1000 - 0x80) + (addr % 0x1000 - 0x400) / 0x80
/-- The PWM channel whose block holds an address (R348). -/
def chAt (addr : Nat) : Nat := (addr % 0x1000 - 0x80) / 0x100

/-- R825: the state of its block makes a field behave as under LOCK (R73, R126, R132, R186, R192, R252, R287, R320, R378, R409, R413,
R420, R421, R447, R448, R586, R587, R596, R606, R627, R659). -/
def State.stateLock (s : State) (F : Field) : Bool :=
  let p := F.addr / 0x1000
  let o := F.addr % 0x1000
  let rwl := decide (F.acc = .rwl)
  if p = 0x71 then decide (o = 0x08) && !s.armOffOr .charge
  else if p = 0x70 then rwl && decide (s.arm.mode ≠ .off)
  else if p = 0x72 then (rwl || decide (o = 0x40)) && !s.armOffOr .blocked
  else if 0x10 ≤ p ∧ p < 0x70 then rwl && decide ((s.ring (p - 0x10)).mode ≠ .down)
  else if 0x100 ≤ p ∧ p < 0x174 then rwl && s.laneUsed (p - 0x100)
  else if p = 0x80 ∨ p = 0x81 then rwl && s.on (R.U_CTRL_EN (unitAt F.addr))
  else if p = 0x90 then rwl && decide (0x80 ≤ o) && s.on (R.CH_CTRL_EN (chAt F.addr))
  else if p = 0x91 ∨ p = 0x92 then
    rwl && (if o = 0x6C ∨ o = 0x70 then s.on (R.POS_CTRL_EMU_EN (p - 0x91)) else s.on (R.POS_CTRL_EN (p - 0x91)))
  else if p = 0x93 ∨ p = 0x94 then rwl && s.on (R.ADC_CTRL_EN (p - 0x93))
  else if 0xA0 ≤ p ∧ p < 0xA4 then
    rwl && (s.on (R.ETH_CTRL_EN (p - 0xA0))
      || decide (F = R.ETH_CFG_PAIR (p - 0xA0)) && (s.on (R.ETH_CTRL_EN (pairLead (p - 0xA0))) || s.on (R.ETH_CTRL_EN (pairLead (p - 0xA0) + 1))))
  else if p = 0xA4 then rwl && (if o = 0x40 then s.on R.NETSV_CTRL_SV_EN else s.on R.NETSV_PTP_CFG_EN)
  else if 0xB0 ≤ p ∧ p < 0xB4 then
    decide (o = 0x40) && (s.on (R.CANOPY_CTRL_EN (p - 0xB0))
      || s.isCkPort (p - 0xB0) && decide (F = R.CANOPY_CFG_TUP (p - 0xB0) ∨ F = R.CANOPY_CFG_TDN (p - 0xB0)))
  else false

/-- R825: a field is locked at this moment. -/
def State.lockedField (s : State) (F : Field) : Bool := decide (F.acc = .rwl) && s.pageLocked F.addr || s.stateLock F

/-- R903: the rule of its register refuses a value of a field; `x` is the field's value in the written word. -/
def State.refusedField (s : State) (F : Field) (x : Nat) : Bool :=
  let p := F.addr / 0x1000
  let o := F.addr % 0x1000
  if p = 0x71 then (decide (F = R.ARM_CTRL_REF_LOOP) && decide (s.variant.loops ≤ x)) || (decide (F = R.ARM_REF_MISS_LIMIT) && decide (x = 0 ∨ 8 < x))
  else if p = 0x70 then (decide (F = R.RANK_BIN_CFG_SHIFT) && decide (4 < x)) || (decide (F = R.RANK_OBS_LIMIT ∨ F = R.RANK_KEY_CFG_STEP) && decide (x = 0))
  else if p = 0x72 then
    (decide (F = R.CMDENC_TIMING_BLANK) && decide (x < 20 ∨ 1000 < x)) || (decide (F = R.CMDENC_TIMING_DEAD) && decide (1000 < x))
      || (decide (F = R.CMDENC_PROT_SC_ARM_LIMIT ∨ F = R.CMDENC_PROT_FBP_TMO) && decide (x = 0))
      || (decide (F = R.CMDENC_LEAK_CTRL_PER_CYC) && decide (x = 0 ∨ 64 < x))
  else if 0x10 ≤ p ∧ p < 0x70 then decide (o = 0x40) && decide (F.acc = .rwt) && decide (x = 0)
  else if 0x100 ≤ p ∧ p < 0x174 then
    (decide (F = R.LANE_CFG_RATE (p - 0x100)) && decide (x = 1 ∧ p < 0x170)) || (decide (F = R.LANE_CFG_ADAPT (p - 0x100)) && decide (x = 3))
  else if p = 0x80 ∨ p = 0x81 then
    decide (0x400 ≤ o) && ((decide (F = R.U_CFG_IN_SEL (unitAt F.addr)) && decide (2 ≤ x)) || (decide (F = R.U_TRIG_SRC (unitAt F.addr)) && decide (x = 3))
      || (decide (F = R.U_RATE_RATE (unitAt F.addr)) && decide (x = 0)))
  else if p = 0x90 then decide (0x80 ≤ o) && decide (F = R.CH_PROT_GS_FILT (chAt F.addr)) && decide (x = 0)
  else if p = 0x91 ∨ p = 0x92 then
    (decide (F = R.POS_CFG_IDX_MODE (p - 0x91) ∨ F = R.POS_CMP_CFG_CDIR (p - 0x91)) && decide (x = 3))
      || (decide (F = R.POS_CFG_MIN_GAP (p - 0x91) ∨ F = R.POS_SPD_CFG_WIN (p - 0x91) ∨ F = R.POS_EMU_CFG_OUT_GAP (p - 0x91)) && decide (x = 0))
  else if p = 0x93 ∨ p = 0x94 then decide (F = R.ADC_REQ_BIAS (p - 0x93) ∨ F = R.ADC_TRIG_SRC (p - 0x93)) && decide (x = 3)
  else if p = 4 then
    (decide (F = R.TIME_SRV_CFG_HOLD_TMO ∨ F = R.TIME_PPS_CFG_OUT_W) && decide (x = 0))
      || (decide (F = R.TIME_SRV_CFG_SRC) && s.pairOp && decide (s.amber.role = .standby ∨ s.amber.role = .warm))
  else if 0xA0 ≤ p ∧ p < 0xA4 then decide (F = R.ETH_CFG_PAIR (p - 0xA0)) && (decide (x = 3) || decide (p % 2 = 1))
  else if p = 0xA4 then
    (decide (F = R.NETSV_GP_CFG_MAX_T) && decide (x < 4 ∨ 60000 < x)) || (decide (F = R.NETSV_GP_CFG_MIN_T) && decide (x < 5 ∨ 1000 < x))
  else if 0xB0 ≤ p ∧ p < 0xB4 then
    (decide (F = R.CANOPY_CFG_TIME_PER (p - 0xB0)) && decide (x < 16))
      || (decide (F = R.CANOPY_CFG_TUP (p - 0xB0)) && decide (x = 1) && [0, 1, 2, 3].any (fun q => decide (q ≠ p - 0xB0) && s.tup q))
  else if p = 0xB4 then decide (F = R.AMBER_CFG_HB_MARGIN) && decide (x = 0)
  else if p = 1 then decide (0x40 ≤ o ∧ o ≤ 0x48) && decide (4 < x)
  else if p = 6 then decide (F = R.DPORT_DP_CTRL_STRIDE) && decide (x = 3)
  else false

/-- R830: a field that its chapter makes hardware-owned now, or that is fixed in the variant: it keeps its value without an event
(R71, R72, R252, R316, R529). -/
def State.hwOwned (s : State) (F : Field) : Bool :=
  let p := F.addr / 0x1000
  if p = 0x71 then (decide (F = R.ARM_I_ARM_I) && s.on R.ARM_CTRL_I_SRC) || (decide (F = R.ARM_REF_VAL_VAL) && s.on R.ARM_CTRL_REF_SRC)
  else if p = 0x80 ∨ p = 0x81 then
    decide (0x400 ≤ F.addr % 0x1000) && decide (F = R.U_MEAS_Y (unitAt F.addr)) && decide (s.get (R.U_CFG_IN_SEL (unitAt F.addr)) = 1)
  else if p = 4 then decide (F = R.TIME_INC_FR_FR) && s.on R.TIME_SRV_CFG_SRC
  else if 0x10 ≤ p ∧ p < 0x70 then decide (F = R.RING_CFG_DUAL (p - 0x10)) && !s.variant.hasPair
  else false

/-- The access code lets software write the field (R9). -/
def softWrites (a : Access) : Bool :=
  match a with
  | .rw => true
  | .rwl => true
  | .rwt => true
  | .ro => false
  | .rc => false
  | .w1 => false
  | .wo => false

/-- R823, R825, R903: the field takes its bits of a written word. -/
def State.takesBits (s : State) (v : Nat) (F : Field) : Bool :=
  softWrites F.acc && !s.lockedField F && !s.refusedField F (bits v F.lo F.w) && !s.hwOwned F

/-- R825: a locked field stands in the word at an address. -/
def State.anyLocked (s : State) (addr : Nat) : Bool := (fieldsAt addr).any (fun F => softWrites F.acc && s.lockedField F)

/-- A field of the word at an address is refused. -/
def State.anyRefused (s : State) (addr v : Nat) : Bool := (fieldsAt addr).any (fun F => softWrites F.acc && s.refusedField F (bits v F.lo F.w))

/-- R823, R825, R830, R903: a word written: its fields take their bits, LOCKV is set where a field is locked, and one CONFIG event is
recorded where a field is locked or refused. -/
def State.writeFields (addr v : Nat) (s : State) : State :=
  let s1 := ((fieldsAt addr).filter (s.takesBits v)).foldl (fun a F => a.put F (bits v F.lo F.w)) s
  let s2 := if s.anyLocked addr then s1.raise (lockvField addr) else s1
  if s.anyLocked addr || s.anyRefused addr v then s2.config addr else s2

/-- R820, R4: a word of a page that holds no action. LOCK is only ever set by a write and cleared by the unlock sequence (R827, R846,
R857); outside -X a write to IRQ_EN moves IRQ_STAT at once. -/
def State.writePlain (addr v : Nat) (s : State) : State :=
  if addr % 0x1000 = 0x18 then (if bitOf v 0 then s.put ⟨addr, 0, 1, 0, .rw⟩ 1 else s)
  else if addr % 0x1000 = 0x10 then
    (match s.variant with
     | .x => s.writeFields addr v
     | _ => (s.writeFields addr v).signal s)
  else s.writeFields addr v

/-- R825, R903: a write refused as a whole. -/
def State.refuseWord (addr : Nat) (s : State) : State := s.config addr

/-- An effect that a set bit of the written word asks for. -/
def onBit (v j : Nat) (f : State → State) (s : State) : State := if bitOf v j then f s else s

end Sys2Proof.Machine
end

