-- ==== Sys2Proof/Machine/Router.lean ====
section
/-! DEFINITION. A write to a register of each page: the words with an action of their own go to the meaning of that action, all
others to `State.writePlain` (R824, R903). -/

namespace Sys2Proof.Machine

/-! ## Arm, rank engine, command encoder -/

/-- R53, R54: a write to ARM_CMD. -/
def State.writeArmCmd (v : Nat) (s : State) : State :=
  let n := popCount 3 v
  if bitOf v 3 then goBlockEffect s
  else if n = 0 then s
  else if 1 < n then s.armRefuse 7
  else if bitOf v 0 then goOffEffect s
  else if bitOf v 1 then goChargeEffect s
  else goRunEffect s

/-- R71: after a write to ARM.CTRL, the next delivery of a loop unit is the first where REF_SRC has been set, or the unit changed (the
latter DESIGN CHOICE, notes/assumptions/63.md). -/
def State.writeArmCtrl (v : Nat) (s : State) : State :=
  let s1 := s.writePlain 0x71008 v
  if (s1.on R.ARM_CTRL_REF_SRC && !s.on R.ARM_CTRL_REF_SRC) || decide (s1.get R.ARM_CTRL_REF_LOOP ≠ s.get R.ARM_CTRL_REF_LOOP) then
    { s1 with arm := { s1.arm with loopFirst := true } }
  else s1

/-- A write to the ARM page. -/
def State.writeArm (o v : Nat) (s : State) : State :=
  if o = 0x08 then s.writeArmCtrl v
  else if o = 0x40 then cycLenEffect v s
  else if o = 0x44 then execOfsEffect v s
  else if o = 0x48 then s.writeArmCmd v
  else if o = 0x5C then (s.writePlain 0x7105C v).lvlShow
  else if o = 0x68 then cycPhaseEffect v s
  else if o = 0x70 then refSlopeEffect v s
  else s.writePlain (0x71000 + o) v

/-- A write to the RANK page. -/
def State.writeRank (o v : Nat) (s : State) : State :=
  if o = 0x50 then onBit v 16 keySaveEffect (s.writePlain 0x70050 v)
  else if o = 0x8C then smIdxEffect v s
  else s.writePlain (0x70000 + o) v

/-- R196: a write to HOLD_CMD acts with the one action bit that it sets. -/
def State.writeHoldCmd (v : Nat) (s : State) : State :=
  let i := bits v 0 11
  let n := popCount 20 (v / 2 ^ 16 % 16 * 2 ^ 16)
  if 1 < n then s.refuseWord 0x72050
  else if bitOf v 16 then holdEffect i s
  else if bitOf v 17 then releaseEffect i s
  else if bitOf v 18 then fbpClrEffect i s
  else if bitOf v 19 then fireEffect i s
  else s.onSlot i (fun _ a => a)

/-- A write to the CMDENC page. Writing HOST_DCMD = 1 drops HOSTOFF (R157). -/
def State.writeCmdenc (w : Writer) (o v : Nat) (s : State) : State :=
  if o = 0x08 then onBit v 2 (fun a => a.put R.CMDENC_STATUS_HOSTOFF 0) (s.writePlain 0x72008 v)
  else if o = 0x44 then (s.writePlain 0x72044 v).protConds
  else if o = 0x50 then s.writeHoldCmd v
  else if o = 0x54 then holdInfoEffect v s
  else if o = 0x58 then dcmdPostEffect w v s
  else if o = 0x60 then onBit v 2 leakRoundEffect (s.writePlain 0x72060 v)
  else s.writePlain (0x72000 + o) v

/-! ## Rings and lanes -/

/-- R246: a write to RING.CTRL. -/
def State.writeRingCtrl (n v : Nat) (s : State) : State :=
  let s1 := if bitOf v 0 then ringEnSetEffect n s else ringEnClearEffect n s
  if bitOf v 1 then ringAdmitEffect n s1
  else (s1.put (R.RING_CTRL_ADMIT n) 0).setRing n { s1.ring n with admitDue := false }

/-- R231, R242, R252, R267: a write to RING.CFG; LOSS_SHORT follows LOSS, a READY ring is judged anew, and repeat mode follows DUAL. -/
def State.writeRingCfg (n v : Nat) (s : State) : State :=
  let s0 := s.writePlain (0x10040 + 0x1000 * n) v
  let s1 := s0.setLane n { s0.lane n with rep := if s0.on (R.RING_CFG_DUAL n) = s.on (R.RING_CFG_DUAL n) then (s0.lane n).rep else s0.repeats n }
  let s2 := s1.ringLoss s1.rtMax.1 n
  if decide ((s2.ring n).mode = .ready) && s2.on (R.RING_CTRL_ADMIT n) then s2.admitCheck n else s2

/-- A write to page RING n. -/
def State.writeRing (n o v : Nat) (s : State) : State :=
  if o = 0x08 then s.writeRingCtrl n v
  else if o = 0x40 then s.writeRingCfg n v
  else if o = 0x60 then (if bitOf v 30 then svcStartEffect n v s else s.writePlain (0x10060 + 0x1000 * n) v)
  else s.writePlain (0x10000 + 0x1000 * n + o) v

/-- R279: the pattern that a lane's checker sees changes: it synchronises anew. -/
def State.prbsAgain (l : Nat) (s : State) : State := s.setLane l { s.lane l with prbs := false }

/-- R268, R273, R903: a write to LANE.CTRL. -/
def State.writeLaneCtrl (l v : Nat) (s : State) : State :=
  let s1 := s.put (R.LANE_CTRL_TX_OFF l) (bits v 1 1)
  onBit v 2 (State.readaptIn s l) (if bitOf v 0 then laneEnableEffect l s1 else laneDisableEffect l s1)

/-- R301: a write to ES_CTRL. -/
def State.writeEsCtrl (l v : Nat) (s : State) : State :=
  if bitOf v 31 then esGoEffect l v s
  else onBit v 30 (esStopEffect l) (onBit v 29 (esFreeEffect l) (s.writePlain (lanePage l + 0x58) v))

/-- A write to page LANE l. -/
def State.writeLane (l o v : Nat) (s : State) : State :=
  if o = 0x08 then s.writeLaneCtrl l v
  else if o = 0x40 then
    let s1 := (((s.trackTaps l).writePlain (lanePage l + o) v).trackAgain l).adaptOff l
    if s1.get (R.LANE_CFG_LOOP l) = s.get (R.LANE_CFG_LOOP l) then s1 else s1.prbsAgain l
  else if o = 0x48 then
    let s1 := ((s.trackTaps l).writePlain (lanePage l + o) v).trackAgain l
    s1.setLane l { s1.lane l with eqAt := some s1.elapsed }
  else if o = 0x54 then
    let s1 := s.writePlain (lanePage l + o) v
    if s1.on (R.LANE_TEST_CHK l) && s1.get (R.LANE_TEST_GEN l) == s.get (R.LANE_TEST_GEN l) then s1 else s1.prbsAgain l
  else if o = 0x44 then txEqEffect l v s
  else if o = 0x58 then s.writeEsCtrl l v
  else s.writePlain (lanePage l + o) v

/-! ## Loop engine, local drive, positions, converters -/

/-- R331: a write to U_CTRL. -/
def State.writeUCtrl (k v : Nat) (s : State) : State :=
  let s1 := s.put (R.U_CTRL_SP_MODE k) (bits v 1 1)
  if bitOf v 0 then loopEnableEffect k s1 else if s.on (R.U_CTRL_EN k) then loopDisableEffect k s1 else s1

/-- R316: a write to U_CFG; with IN_SEL = 1 the unit's measurement is the newest sample of its channel. -/
def State.writeUCfg (k addr v : Nat) (s : State) : State :=
  let s1 := s.writePlain addr v
  let c := lookupKey s1.net.chans (s1.get (R.U_CFG_SV_CH k))
  if s1.get (R.U_CFG_IN_SEL k) = 1 ∧ c.any (fun x => x.got) = true then s1.put (R.U_MEAS_Y k) ((c.map (fun x => x.val)).getD 0) else s1

/-- A write to a loop unit's block; a sample whose trigger edge this is uses it (R321). -/
def State.writeUnit (k b addr v : Nat) (s : State) : State :=
  if b = 0x00 then s.writeUCtrl k v
  else if addr = (R.U_CFG_EVT k).addr then (s.writeUCfg k addr v).loopAgain k
  else if b = 0x20 then uSpEffect k v s
  else if b = 0x34 then s.setLoop k { s.loop k with stage := v % 2 ^ 32 }
  else if b = 0x38 then uIntHiEffect k v s
  else (s.writePlain addr v).loopAgain k

/-- A write to LOOP page n. -/
def State.writeLoop (n o v : Nat) (s : State) : State :=
  let addr := 0x80000 + 0x1000 * n + o
  if o = 0x08 then onBit v 0 (loopAllOffEffect n) s
  else if o < 0x400 ∨ 0xC00 ≤ o then s.writePlain addr v
  else s.writeUnit (unitAt addr) ((o - 0x400) % 0x80) addr v

/-- R359, R377: a write to CH_CTRL; FLT_CLR meets the fault input at its present level. -/
def State.writeChCtrl (c v : Nat) (s : State) : State :=
  let s1 := onBit v 1 (fun a => (fltClrEffect c (a.fltPin c 0) a).useFree (b2n (a.ch c).fltIn)) s
  if bitOf v 0 then pwmEnableEffect c s1 else if s1.on (R.CH_CTRL_EN c) then s1.chOff c else s1

/-- A write to the PWM page. -/
def State.writePwm (o v : Nat) (s : State) : State :=
  let addr := 0x90000 + o
  let c := chAt addr
  let b := (o - 0x80) % 0x100
  if o = 0x08 then onBit v 1 resumeEffect (onBit v 0 pwmAllOffEffect s)
  else if o = 0x40 then xpairEffect v s
  else if o = 0x44 then safeLvlEffect v s
  else if o < 0x80 then s.writePlain addr v
  else if b = 0x00 then s.writeChCtrl c v
  else if b = 0x0C then chPerEffect c v s
  else if b = 0x10 then chCmpEffect c v s
  else s.writePlain addr v

/-- R403: a write to POS.CTRL. -/
def State.writePosCtrl (i v : Nat) (s : State) : State :=
  let s1 := if bitOf v 0 then posEnableEffect i s else s.posOff i
  let s2 := if bitOf v 1 then emuEnableEffect i s1 else if s1.on (R.POS_CTRL_EMU_EN i) then s1.emuOff i else s1
  onBit v 3 (cmpArmEffect i) (onBit v 2 (idxArmEffect i) s2)

/-- A write to page POS i. -/
def State.writePos (i o v : Nat) (s : State) : State :=
  if o = 0x08 then s.writePosCtrl i v
  else if o = 0x44 then posWriteEffect i v s
  else if o = 0x64 then cmpPosEffect i v s
  else s.writePlain (0x91000 + 0x1000 * i + o) v

/-- A write to page ADC c. STOP governs GO in one write. -/
def State.writeAdc (c o v : Nat) (s : State) : State :=
  let s0 := s.writePlain (0x93000 + 0x1000 * c + o) v
  let s1 := if s.adcUp c then s0 else s0.put (R.ADC_CTRL_EN c) 0
  if o = 0x40 then s1.adcRewrite c
  else if o = 0x08 then
    let s1 := if s1.on (R.ADC_CTRL_EN c) then s1 else s1.adcUndo c
    let s1 := if s.on (R.ADC_CTRL_EN c) then s1 else s1.setAdc c { s1.adc c with trigs := 0 }
    onBit v 3 (calNowEffect c) (if bitOf v 2 then adcStopEffect c s1 else onBit v 1 (adcGoEffect c) s1)
  else s1

/-! ## Scheduler and device time -/

/-- R518: a write to TASK_CTRL. -/
def State.writeTaskCtrl (v : Nat) (s : State) : State :=
  if bitOf v 0 && bitOf v 1 then s.refuseWord 0x5080
  else if bitOf v 0 then taskEnableEffect s
  else if bitOf v 1 then taskDisableEffect s
  else if s.taskFenced (s.get R.SCHED_TASK_IDX_IDX) then s.config 0x5080
  else s

/-- R487, R524: a write to TRACE_CTRL; EN going to 1 asks for BUF entries at the next cycle boundary, and WRAPPED counts from there. -/
def State.writeTraceCtrl (v : Nat) (s : State) : State :=
  let s1 := s.writePlain 0x5090 v
  let s2 := if s1.on R.SCHED_TRACE_CTRL_EN && !s.on R.SCHED_TRACE_CTRL_EN then traceSnapEffect (s1.put R.SCHED_TRACE_WR_WRAPPED 0) else s1
  onBit v 30 traceSnapEffect s2

/-- A write to the SCHED page. DISPATCH takes 0 in OFF only (R495). -/
def State.writeSched (o v : Nat) (s : State) : State :=
  if o = 0x08 then
    (if !bitOf v 0 && decide (s.arm.mode ≠ .off) then s.raise R.SCHED_STATUS_LOCKV else s.put R.SCHED_CTRL_DISPATCH (v % 2))
  else if o = 0x40 then (s.writePlain 0x5040 v).cycleFlagAgain
  else if o = 0x44 then hostFlagPostEffect v s
  else if o = 0x4C then hopValEffect v s
  else if o = 0x60 then taskIdxEffect v s
  else if o = 0x80 then s.writeTaskCtrl v
  else if o = 0x90 then s.writeTraceCtrl v
  else s.writePlain (0x5000 + o) v

/-- R573, R627: a write to SRV_CFG. -/
def State.writeSrvCfg (v : Nat) (s : State) : State :=
  let s1 := s.writePlain 0x405C v
  if s.refusedField R.TIME_SRV_CFG_SRC (v % 4) then s1 else srvSrcEffect (v % 4) s1

/-- R537, R579: a write to PPS_CFG. -/
def State.writePpsCfg (v : Nat) (s : State) : State :=
  let s1 := s.writePlain 0x4074 v
  if s1.on R.TIME_PPS_CFG_IN_EN then
    (if s.on R.TIME_PPS_CFG_IN_EN then s1 else { s1 with servo := { s1.servo with ppsFrom := s1.elapsed } })
  else s1.cond R.TIME_TSTAT_PPS_MISS false

/-- A write to the TIME page. -/
def State.writeTime (o v : Nat) (s : State) : State :=
  if o = 0x08 then onBit v 0 timeSetEffect s
  else if o = 0x58 then incNsEffect v s
  else if o = 0x5C then s.writeSrvCfg v
  else if o = 0x74 then s.writePpsCfg v
  else if 0x80 ≤ o ∧ o < 0xA0 ∧ o % 8 = 0 then tcmpTgtEffect ((o - 0x80) / 8) v s
  else s.writePlain (0x4000 + o) v

/-! ## Network -/

/-- R558, R584, R871: a write to ETH.CTRL; a disabled port's link is down. A port whose module was refused takes EN = 1 as a locked field. -/
def State.writeEthCtrl (p v : Nat) (s : State) : State :=
  let s1 :=
    if bitOf v 0 && s.host.sfpBad.contains p then (s.raise (R.ETH_STATUS_LOCKV p)).config (0xA0008 + 0x1000 * p)
    else if s.linkUp p && !bitOf v 0 then (s.put (R.ETH_CTRL_EN p) 0).ptpFault p
    else s.put (R.ETH_CTRL_EN p) (v % 2)
  onBit v 1 (anRestartEffect p) s1

/-- A write to page ETH p. -/
def State.writeEth (p o v : Nat) (s : State) : State :=
  if o = 0x08 then s.writeEthCtrl p v
  else if o = 0x5C then (if bitOf v 31 then sfpReadEffect p v s else s.writePlain (0xA005C + 0x1000 * p) v)
  else s.writePlain (0xA0000 + 0x1000 * p + o) v

/-- R552: publications that a write has enabled send their first state. -/
def State.startPubs (old s : State) : State :=
  forAll ([0, 1, 2, 3].filter (fun k => s.pubOn k && !old.pubOn k)) State.pubNew s

/-- R556, R558: EN of the PTP engine changes: its ports begin anew, and the BMCA decides; a port without a link is FAULTY. -/
def State.writePtpCfg (v : Nat) (s : State) : State :=
  let s1 := s.writePlain 0xA4078 v
  let s3 :=
    if s1.get R.NETSV_PTP_CFG_EN = s.get R.NETSV_PTP_CFG_EN then s1
    else
      let s2 := s1.modNet (fun n => { n with ptp := [], parent := none })
      if s2.ptpUp then s2.ptpRun else s2
  State.ptpFaults s s3

/-- R602, R903: a write to GP_CFG; MIN_T counts 0.1 ms and MAX_T counts ms. -/
def State.writeGpCfg (v : Nat) (s : State) : State :=
  if 10 * bits v 16 16 < bits v 0 12 then s.refuseWord 0xA405C else s.startPubs (s.writePlain 0xA405C v)

/-- A write to the NETSV page. -/
def State.writeNetsv (o v : Nat) (s : State) : State :=
  if o = 0x08 then s.startPubs (s.writePlain 0xA4008 v)
  else if o = 0x4C then svsInfoEffect v s
  else if o = 0x54 then svcInfoEffect v s
  else if o = 0x5C then s.writeGpCfg v
  else if o = 0x60 then gpDataEffect v s
  else if o = 0x74 then gsInfoEffect v s
  else if o = 0x78 then s.writePtpCfg v
  else s.writePlain (0xA4000 + o) v

/-! ## Fabric and pairs -/

/-- R611, R657: a write to CANOPY.CTRL. -/
def State.writeCanopyCtrl (p v : Nat) (s : State) : State :=
  if bitOf v 0 then
    (if s.on R.CANOPY_DEVID_SET then s.put (R.CANOPY_CTRL_EN p) 1 else s.config (0xB0008 + 0x1000 * p))
  else (s.portDown p).put (R.CANOPY_CTRL_EN p) 0

/-- R667: a write to SESS_CTRL. -/
def State.writeSessCtrl (v : Nat) (s : State) : State :=
  if 1 < popCount 3 v then s.refuseWord 0xB0108
  else if bitOf v 0 then sessEnableEffect s
  else if bitOf v 1 then sessDisableEffect s
  else if bitOf v 2 then rxRelEffect s
  else s

/-- A write to page CANOPY p. The registers from 0x100 on exist on CANOPY 0 only (R664). -/
def State.writeCanopy (p o v : Nat) (s : State) : State :=
  let addr := 0xB0000 + 0x1000 * p + o
  if o = 0x08 then s.writeCanopyCtrl p v
  else if o < 0x100 then s.writePlain addr v
  else if p ≠ 0 then s.config addr
  else if o = 0x100 then devidEffect v s
  else if o = 0x104 then sessIdxEffect v s
  else if o = 0x108 then s.writeSessCtrl v
  else if 0x400 ≤ o ∧ o < 0x800 then canopySendEffect ((o - 0x400) / 4) v s
  else s.writePlain addr v

/-- R625: pair operation whose port knows of another peer than PEER. -/
def State.peerMis (s : State) : Bool :=
  let p := s.get R.AMBER_CFG_PORT
  s.pairOp && s.portRuns p && s.on (R.CANOPY_PEER_VALID p) && decide (s.get (R.CANOPY_PEER_DEV p) ≠ s.get R.AMBER_CFG_PEER)

/-- R625, R675, R875, R876: a write to AMBER.CFG. Switching pair operation on puts the device into NONE with its cell lanes repeating;
switching it off lets the device bring its rings up. -/
def State.writeAmberCfg (v : Nat) (s : State) : State :=
  if s.amber.role ≠ .none then s.raise R.AMBER_STATUS_LOCKV
  else
    let s0 := s.writePlain 0xB4040 v
    let s1 := s0.flagIf s0.peerMis R.AMBER_ASTAT_CFG_MIS
    if s1.on R.AMBER_CFG_EN && !s.on R.AMBER_CFG_EN then
      ((s1.modAmber (fun a => { a with roleAt := s.elNs, quiet := s.elNs, lost := false, split := false })).setRepeat true).regionCheck
    else if s.on R.AMBER_CFG_EN && !s1.on R.AMBER_CFG_EN then forAll s1.ringList State.ringTryStart ((s1.setRepeat false).cond R.AMBER_ASTAT_SIZE false)
    else s1

/-- A write to the AMBER page. -/
def State.writeAmber (o v : Nat) (s : State) : State :=
  if o = 0x08 then onBit v 0 handoverEffect s
  else if o = 0x40 then s.writeAmberCfg v
  else s.writePlain (0xB4000 + o) v

/-! ## Host, collector, security, settings and ageing -/

/-- R833: EOI0 re-sends vector 0 while its summary stands. -/
def eoi0Effect (s : State) : State := if s.up 0 && s.vec0 then { s with host := { s.host with msix0 := s.host.msix0 + 1 } } else s
/-- EOI0: SYS.CTRL.EOI0 is written (R833). -/
def execEoi0 (s : State) : Host.Outcome State Fault Refusal := .next (s.commanded 0x08 eoi0Effect)

/-- R833: EOI1 re-sends vector 1 while its summary stands. -/
def eoi1Effect (s : State) : State := if s.up 0 && s.vec1 then { s with host := { s.host with msix1 := s.host.msix1 + 1 } } else s
/-- EOI1: SYS.CTRL.EOI1 is written (R833). -/
def execEoi1 (s : State) : Host.Outcome State Fault Refusal := .next (s.commanded 0x08 eoi1Effect)

/-- R827: some page begins at 0x1000 times a number. -/
def pageExists (k : Nat) : Bool := decide (k < 0x1000) && (pageGlade (0x1000 * k)).isSome

/-- R827: the base of the page that a written value names as a second write, and that of SYS where it names none. -/
def unlockBase (v : Nat) : Nat := if 0x80000000 ≤ v ∧ pageExists (v - 0x80000000) = true then 0x1000 * (v - 0x80000000) else 0

/-- R827, R852: a write to SYS.UNLOCK is refused. -/
def State.unlockRefuse (v : Nat) (s : State) : State :=
  ((({ s with host := { s.host with unlk := none } }).raise R.SYS_HSTAT_UNLK_REF).put R.SYS_ERR_ADDR_ADDR 0x40).config (unlockBase v)

/-- R827: two writes come from one writer. -/
def sameWriter : Writer → Writer → Bool
  | .host, .host => true
  | .spi, .spi => true
  | .core u _, .core v _ => decide (u = v)
  | .host, .spi => false
  | .host, .core _ _ => false
  | .spi, .host => false
  | .spi, .core _ _ => false
  | .core _ _, .host => false
  | .core _ _, .spi => false

/-- R827: a second write that names a page clears its LOCK: not SAFE's, and not with the arm in RUN. -/
def State.unlockOk (s : State) (u w : Writer) (v : Nat) : Bool :=
  sameWriter u w && decide (0x80000000 ≤ v) && pageExists (v - 0x80000000) && decide (v ≠ 0x800000C0) && decide (s.arm.mode ≠ .run)

/-- UNLOCK_WRITE (R827). -/
def unlockEffect (w : Writer) (v : Nat) (s : State) : State :=
  if s.up 0 then
    match s.host.unlk with
    | none => if v = 0x554E4C4B then { s with host := { s.host with unlk := some w } } else s.unlockRefuse v
    | some u =>
      if s.unlockOk u w v then
        ({ s with host := { s.host with unlk := none } }).put ⟨0x1000 * (v - 0x80000000) + 0x18, 0, 1, 0, .rw⟩ 0
      else s.unlockRefuse v
  else s
/-- UNLOCK_WRITE: a write to SYS.UNLOCK (R827). -/
def execUnlockWrite (w : Writer) (v : Nat) (s : State) : Host.Outcome State Fault Refusal :=
  .next (s.granted w 0x40 (fun a => a.commandedFrom (writerGlade w) 0x40 (unlockEffect w v)))

/-- UNLOCK_ARM_EXPIRED (R827). -/
def unlockExpiredEffect (s : State) : State := if !s.up 0 then s else { s with host := { s.host with unlk := none } }
/-- UNLOCK_ARM_EXPIRED: 1 µs passes without a second write (R827). -/
def execUnlockArmExpired (s : State) : Host.Outcome State Fault Refusal := .next (unlockExpiredEffect s)

/-- A write to the SYS page. -/
def State.writeSys (w : Writer) (o v : Nat) (s : State) : State :=
  if o = 0x08 then onBit v 1 eoi1Effect (onBit v 0 eoi0Effect s)
  else if o = 0x40 then unlockEffect w v s
  else s.writePlain o v

/-- R760: a write to FLT.UNFENCE. The clock monitor's verdict is the one that stands. -/
def State.writeUnfence (v : Nat) (s : State) : State :=
  if bitOf v 31 then 
    let bad := (s.glade (bits v 8 8)).clkBad
    unfenceEffect (bitOf v 30) (bits v 0 16) (!bad || decide (s.freeNat 1 = 1)) (if bad then s.useFree 1 else s)
  else s.writePlain 0x1058 v

/-- A write to the FLT page. -/
def State.writeFlt (o v : Nat) (s : State) : State :=
  if o = 0x08 then onBit v 0 histClrEffect s
  else if o = 0x50 then faultAckEffect v s
  else if o = 0x58 then s.writeUnfence v
  else if o = 0x5C then recIdxEffect v s
  else s.writePlain (0x1000 + o) v

/-- R773, R790, R797, R903: a write to SEC.CTRL. The challenge that DBG_CHAL draws is open: free values. -/
def State.writeSecCtrl (v : Nat) (s : State) : State :=
  if 1 < popCount 3 v then s.refuseWord 0x2008
  else
    let s1 := onBit v 0 quoteEffect s
    let s2 := onBit v 1 (fun a => (dbgChalEffect ((List.range 64).map (fun k => Config.freeValue 8 (a.free + k))) a).useFree 64) s1
    onBit v 5 (State.returnPrepIn s) (onBit v 4 commitSvnEffect (onBit v 3 dbgCloseEffect (onBit v 2 dbgAuthEffect s2)))

/-- A write to the SEC page. -/
def State.writeSec (o v : Nat) (s : State) : State :=
  if o = 0x08 then s.writeSecCtrl v
  else if o = 0x44 then retArmEffect v s
  else s.writePlain (0x2000 + o) v

/-- A write to the NVM page. -/
def State.writeNvm (o v : Nat) (s : State) : State :=
  if o = 0x08 then
    let s1 := if bitOf v 0 then storeEffect (bits v 8 2) s else s.put R.NVM_CTRL_PART (bits v 8 2)
    onBit v 2 imgCommitEffect (onBit v 1 reloadEffect s1)
  else if o = 0x44 then bootPrefEffect v s
  else s.writePlain (0x3000 + o) v

/-- A write to the AGE page. -/
def State.writeAge (o v : Nat) (s : State) : State :=
  if o = 0x44 ∧ bits v 16 8 ≤ bits v 8 8 then s.refuseWord 0x7044 else s.writePlain (0x7000 + o) v

end Sys2Proof.Machine
end

