-- ==== Sys2Proof/Machine/Access.lean ====
section
/-! DEFINITION. Access to the register space: what the host glade, a fence or the start-up phase lets through, reads with what they
clear and latch, and the data port (R1, R2, R22, R23, R36, R738, R770, R789, R819 to R840, R868). -/

namespace Sys2Proof.Machine

/-! ## Which accesses reach a page -/

/-- The unit that sends an access (R13, R831). -/
def writerUnit : Writer → Nat
  | .host => 0x0000
  | .spi => 0x0001
  | .core u _ => u

/-- R843: the PCIe link is up. -/
def State.pcieUp (s : State) : Bool := s.on R.SYS_STATUS_SPEED

/-- R836: the path of a writer carries accesses: PCIe only with its link up. -/
def State.pathUp (s : State) (w : Writer) : Bool :=
  s.up (writerGlade w) && (match w with | .host => s.pcieUp | .spi => true | .core _ _ => true)

/-- R819: the MSI-X table and pending-bit array, which are no page. -/
def msixArea (addr : Nat) : Bool := decide (0xFF0000 ≤ addr ∧ addr < 0xFF1000) || decide (0xFF8000 ≤ addr ∧ addr < 0xFF9000)

/-- R822, R852: an access to an unmapped offset. -/
def State.unmapped (addr : Nat) (s : State) : State :=
  ((s.raise R.SYS_HSTAT_ADDR_ERR).put R.SYS_ERR_ADDR_ADDR addr).config addr

/-- R831, R852: a transfer whose parity fails. -/
def State.parityFails (addr unit : Nat) (s : State) : State :=
  ((s.raise R.SYS_HSTAT_HPAR).put R.SYS_ERR_ADDR_ADDR addr).event .bus unit 0

/-! ## Writes -/

/-- A write that reaches its page, by page (R819). -/
def State.pageWrite (w : Writer) (addr v : Nat) (s : State) : State :=
  let p := addr / 0x1000
  let o := addr % 0x1000
  if p = 0 then s.writeSys w o v
  else if p = 1 then s.writeFlt o v
  else if p = 2 then s.writeSec o v
  else if p = 3 then s.writeNvm o v
  else if p = 4 then s.writeTime o v
  else if p = 5 then s.writeSched o v
  else if p = 7 then s.writeAge o v
  else if 0x10 ≤ p ∧ p < 0x70 then s.writeRing (p - 0x10) o v
  else if p = 0x70 then s.writeRank o v
  else if p = 0x71 then s.writeArm o v
  else if p = 0x72 then s.writeCmdenc w o v
  else if p = 0x80 ∨ p = 0x81 then s.writeLoop (p - 0x80) o v
  else if p = 0x90 then s.writePwm o v
  else if p = 0x91 ∨ p = 0x92 then s.writePos (p - 0x91) o v
  else if p = 0x93 ∨ p = 0x94 then s.writeAdc (p - 0x93) o v
  else if 0xA0 ≤ p ∧ p < 0xA4 then s.writeEth (p - 0xA0) o v
  else if p = 0xA4 then s.writeNetsv o v
  else if 0xB0 ≤ p ∧ p < 0xB4 then s.writeCanopy (p - 0xB0) o v
  else if p = 0xB4 then s.writeAmber o v
  else if p = 0xC0 then (s.raise R.SAFE_STATUS_LOCKV).config addr
  else if 0x100 ≤ p ∧ p < 0x174 then s.writeLane (p - 0x100) o v
  else s

/-! ## The data port (R36, R837 to R840) -/

/-- Where a data-port byte lies: in memory, in a buffer (with its handle and offset), or nowhere, with the failure code. -/
inductive DpPlace where
  | mem (a : Nat)
  | buf (b : BufSt) (ofs : Nat)
  | bad (code : Nat)
deriving DecidableEq, Repr

/-- R840: the memory of a buffer's location is there. -/
def State.locUp (s : State) : BufLoc → Bool
  | .grove g _ => decide (g < s.variant.groves) && !s.gladeFenced (16 + g)
  | .device _ => true
  | .sram u _ => !s.unitFenced (coreUnit u)

/-- R837, R840: the place of the byte at a data-port address. -/
def State.dpPlace (s : State) (a : Nat) : DpPlace :=
  let sp := bits a 30 2
  if sp = 0 then (if 0xD30000 ≤ a then .bad 1 else .mem a)
  else if sp = 1 then
    (if bits a 21 7 = 0 ∧ s.locUp (.grove (bits a 28 2) 0) = true then .mem a else .bad 1)
  else if sp = 2 then
    match s.sched.bufs.find? (fun b => decide (b.decl.handle = bits a 20 10)) with
    | none => .bad 2
    | some b => if b.decl.size ≤ bits a 0 20 then .bad 2 else .buf b (bits a 0 20)
  else if nvmBase + 0x800000 ≤ a then .bad 1
  else .mem a

/-- R789: the NVM windows that the host of a part prepared for return still reaches. -/
def State.dpReaches (s : State) (a : Nat) : Bool := !s.returned || decide (histBase ≤ a ∧ a < retBase + 0x4000)

/-- R481: the memory address of a byte of a buffer; a SCRATCH buffer has no place of its own between items. -/
def bufByte (b : BufSt) (ofs : Nat) : Option Nat :=
  match b.decl.kind with
  | .placed => some (locBase b.decl.loc + ofs)
  | .fixed a => some (a + ofs)
  | .scratch => none

/-- R777: a copy of a settings partition whose last STORE failed holds open contents. -/
def State.openByte (s : State) (a : Nat) : Bool :=
  s.nvm.badCopy.any (fun k => decide (copyBase (k / 2) (k % 2) ≤ a ∧ a < copyBase (k / 2) (k % 2) + partSize (k / 2)))

/-- A byte as the data port reads it: open contents are free values. -/
def State.readByte (s : State) (a : Nat) : Nat × State :=
  if s.openByte a then (s.freeNat 8, s.useFree 1) else ((Memory.read s.mem a).toNat, s)

/-- R22: the link between the host glade and the grove, or the security glade, whose memory holds an address is fenced. -/
def State.memCut (s : State) (m : Nat) : Bool :=
  if 2 ^ 32 ≤ m then s.linkCut 0 (16 + (m - 2 ^ 32) / 2 ^ 16 / 9)
  else if nvmBase ≤ m then s.linkCut 0 2
  else decide (2 ^ 30 ≤ m) && decide (m < 2 ^ 31) && s.linkCut 0 (16 + bits m 28 2)

/-- R22, R840: one byte read, or the code of its failure; over a fenced link it fails as from a fenced grove (log entry 57). -/
def State.dpReadByte (s : State) (a : Nat) : (Nat × Nat) × State :=
  if !s.dpReaches a then ((0xFF, 1), s)
  else
    let at_ (m : Nat) : (Nat × Nat) × State :=
      if s.memCut m then ((0xFF, 1), s)
      else if s.memBad.contains (m / 8) then ((0xFF, 4), s) else (((s.readByte m).1, 0), (s.readByte m).2)
    match s.dpPlace a with
    | .bad c => ((0xFF, c), s)
    | .mem m => at_ m
    | .buf b o =>
      if b.lost || !s.locUp b.decl.loc then ((0xFF, 1), s)
      else match bufByte b o with | some m => at_ m | none => ((s.freeNat 8, 0), s.useFree 1)

/-- R837: a place in NVM is writable: it lies in the writable slot, with no verification under way. -/
def State.nvmWritable (s : State) (m : Nat) : Bool :=
  s.secUp && !s.nvm.verify && decide (slotBase s.writable ≤ m ∧ m < slotBase s.writable + 0x300000)

/-- R837: writing at a place is allowed now. -/
def State.dpMayWrite (s : State) (m : Nat) : Bool :=
  if nvmBase ≤ m ∧ m < 2 ^ 32 then s.nvmWritable m
  else if 2 ^ 30 ≤ m ∧ m < 2 ^ 32 then !s.on R.SCHED_CTRL_DISPATCH
  else true

/-- R780, R837: the first write into a sector since the last IMG_COMMIT erases it. -/
def State.sectorErase (m : Nat) (s : State) : State :=
  let k := (m - nvmBase) / 4096
  if s.nvm.erased.contains k then s
  else ({ s.clearBad (nvmBase + 4096 * k) 4096 with mem := Memory.zeroN s.mem (nvmBase + 4096 * k) 4096, nvm := { s.nvm with erased := addKey k s.nvm.erased, imgWr := true } }).wearSectors [k]

/-- R832: a byte written; `whole` says that its 64-bit word is written whole, which needs no read of it. -/
def State.memPut (m : Nat) (b : Byte) (whole : Bool) (s : State) : State :=
  let s1 := if nvmBase ≤ m ∧ m < 2 ^ 32 then s.sectorErase m else s
  { s1 with mem := Memory.write s1.mem m b, memBad := if whole then dropKey (m / 8) s1.memBad else s1.memBad }

/-- R840: one byte written, or the code of its failure. A byte for a buffer that moves, or that waits for a new place, waits (R36); one behind a fenced link is discarded (R22). -/
def State.dpWriteByte (a : Nat) (b : Byte) (whole : Bool) (s : State) : Nat × State :=
  if !s.dpReaches a then (3, s)
  else
    match s.dpPlace a with
    | .bad c => (c, s)
    | .mem m =>
      if !s.dpMayWrite m then (3, s) else if s.memCut m then (0, s) else if s.memBad.contains (m / 8) && !whole then (4, s) else (0, s.memPut m b whole)
    | .buf x o =>
      if x.move.isSome || x.lost then (0, { s with host := { s.host with dpWait := s.host.dpWait ++ [(x.decl.handle, o, b)] } })
      else if !s.locUp x.decl.loc then (1, s)
      else
        match bufByte x o with
        | none => (0, s)
        | some m => if s.memCut m then (0, s) else if s.memBad.contains (m / 8) && !whole then (4, s) else (0, s.memPut m b whole)

/-- R840: a failed access: ERR, CODE, DP_ERRADDR, ERRCNT and its event. -/
def State.dpFail (code a : Nat) (s : State) : State :=
  let unit := match s.dpPlace a with
    | .mem m => memUnit m
    | .buf b o => (match bufByte b o with | some m => memUnit m | none => 0x0002)
    | .bad _ => 0x0002
  let s1 := ((s.put R.DPORT_DP_STAT_CODE code).put R.DPORT_DP_ERRADDR_ADDR a).addTo R.DPORT_DP_STAT_ERRCNT 1
  let s2 := s1.raise R.DPORT_DP_STAT_ERR
  if code = 4 then s2.event .mem unit 0 else s2.event0 .config 0x0002 a

/-- R839: the width of the byte-offset field of a data-port address. -/
def ofsWidth (a : Nat) : Nat := if bits a 30 2 = 1 then 21 else if bits a 30 2 = 2 then 20 else 24

/-- R839: the address moved on by `n` in its byte-offset field only. -/
def dpAdvance (a n : Nat) : Nat := a / 2 ^ ofsWidth a * 2 ^ ofsWidth a + (a + n) % 2 ^ ofsWidth a

/-- R839: the address that the next access uses; a written DP_ADDR that waits behind earlier writes is not in effect yet. -/
def State.dpAddr (s : State) : Nat := s.get R.DPORT_DP_ADDR_ADDR

/-- R838, R839: the address moved on. -/
def State.setDpAddr (a : Nat) (s : State) : State := s.put R.DPORT_DP_ADDR_ADDR a

/-- The address of byte `j` of an access at `a`. -/
def dpByteAddr (inc : Bool) (a j : Nat) : Nat := if inc then dpAdvance a j else a

/-- Bytes read one after the other, with the first failure as code and address. -/
def State.dpReadList : List Nat → State → List Nat × Option (Nat × Nat) × State
  | [], s => ([], none, s)
  | a :: t, s =>
    let r := s.dpReadByte a
    let u := State.dpReadList t r.2
    (r.1.1 :: u.1, if r.1.2 = 0 then u.2.1 else some (r.1.2, a), u.2.2)

/-- Bytes written one after the other, with the first failure as code and address. -/
def State.dpWriteList (whole : Nat → Bool) : List (Nat × Byte) → State → Option (Nat × Nat) × State
  | [], s => (none, s)
  | (a, b) :: t, s =>
    let r := s.dpWriteByte a b (whole a)
    let u := State.dpWriteList whole t r.2
    (if r.1 = 0 then u.1 else some (r.1, a), u.2)

/-- R838: the element size that STRIDE gives. -/
def State.dpSize (s : State) : Nat :=
  if s.get R.DPORT_DP_CTRL_STRIDE = 0 then 1 else if s.get R.DPORT_DP_CTRL_STRIDE = 1 then 4 else 8

/-- R839, R840: a read of `len` bytes from DP_ADDR, as an element or a burst that must start at a multiple of `align`. -/
def State.dpRead (len align : Nat) (burst : Bool) (s : State) : List Nat × State :=
  let a := s.dpAddr
  let inc := s.on R.DPORT_DP_CTRL_INC
  let next (x : State) : State := if inc then x.setDpAddr (dpAdvance a len) else x
  if a % align ≠ 0 then (List.replicate len 0xFF, next (s.dpFail 5 a))
  else
    let r := State.dpReadList ((List.range len).map (dpByteAddr (inc || !burst) a)) s
    (r.1, next (match r.2.1 with | some e => r.2.2.dpFail e.1 e.2 | none => r.2.2))

/-- R832: an access at `a` of `len` bytes writes the whole 64-bit word of a byte. -/
def wholeWord (inc : Bool) (a len x : Nat) : Bool := inc && decide (a ≤ x / 8 * 8 ∧ x / 8 * 8 + 8 ≤ a + len)

/-- R22: the access has a byte in memory behind a fenced link: the write to it is discarded. -/
def State.dpCut (s : State) (a : Nat) : Bool :=
  s.dpReaches a && (match s.dpPlace a with
    | .mem m => s.dpMayWrite m && s.memCut m
    | .buf x o => !x.move.isSome && !x.lost && s.locUp x.decl.loc && (bufByte x o).any s.memCut
    | .bad _ => false)

/-- R839, R840: a write of bytes from DP_ADDR. -/
def State.dpWrite (bs : List Byte) (align : Nat) (burst : Bool) (s : State) : State :=
  let a := s.dpAddr
  let inc := s.on R.DPORT_DP_CTRL_INC
  let next (x : State) : State := if inc then x.setDpAddr (dpAdvance a bs.length) else x
  if a % align ≠ 0 then next (s.dpFail 5 a)
  else
    let l := bs.mapIdx (fun j b => (dpByteAddr (inc || !burst) a j, b))
    let s1 := if l.any (fun e => s.dpCut e.1) then s.discardWrites 0 1 else s
    let r := State.dpWriteList (wholeWord (inc || !burst) a bs.length) l s1
    next (match r.1 with | some e => r.2.dpFail e.1 e.2 | none => r.2)

/-- The little-endian value of numbers below 256. -/
def leNats (l : List Nat) : Nat := leNat (l.map (BitVec.ofNat 8))

/-- R838: a read of DP_DATA: the value, and the upper bytes latched at stride 8. -/
def State.dpDataRead (s : State) : Nat × State :=
  let r := s.dpRead s.dpSize s.dpSize false
  (leNats (r.1.take 4), if s.dpSize = 8 then r.2.put R.DPORT_DP_DATA_HI_DATA (leNats (r.1.drop 4)) else r.2)

/-- R838: a write to DP_DATA. -/
def State.dpDataWrite (v : Nat) (s : State) : State :=
  let n := s.dpSize
  s.dpWrite (leBytes n (v % 2 ^ 32 + if n = 8 then 2 ^ 32 * s.get R.DPORT_DP_DATA_HI_DATA else 0)) n false

/-- R839: a write to DP_ADDR waits while earlier data waits. -/
def State.dpAddrWrite (v : Nat) (s : State) : State :=
  if s.host.dpWait.isEmpty then s.put R.DPORT_DP_ADDR_ADDR v else { s with host := { s.host with dpNext := some (v % 2 ^ 32) } }

/-- A write to the DPORT page. -/
def State.writeDport (o v : Nat) (s : State) : State :=
  if o = 0x40 then s.dpAddrWrite v else if o = 0x44 then s.dpDataWrite v else s.writePlain (0x6000 + o) v

/-! ## Register writes and reads as a whole -/

/-- R822, R823: a register write by a writer, as its page's glade takes it. -/
def State.regWrite (w : Writer) (addr v : Nat) (s : State) : State :=
  if msixArea addr then s
  else
    match pageGlade addr with
    | none => s.unmapped addr
    | some g => s.gatedWrite (writerGlade w) addr g (fun a => if addr / 0x1000 = 6 then a.writeDport (addr % 0x1000) v else a.pageWrite w addr v)

/-- R738, R770, R789, R868: a write as the host interface takes it; at L4 it is ignored without an event. -/
def State.busWrite (w : Writer) (addr v : Nat) (s : State) : State :=
  if s.flt.l4 || !s.pathUp w then s
  else if s.hostMayWrite addr then s.regWrite w addr v
  else s.config addr

/-- R829: a read clears the RC/RO bits that it returns, as far as the variant lets it. -/
def State.clearRead (addr : Nat) (s : State) : State :=
  ((fieldsAt addr).filter (fun F => decide (F.acc = .rc) && readClears s.variant addr F.lo)).foldl (fun a F => a.put F 0) s

/-- R319, R394, R527, R838: what a read of a register latches beside its value; DP_DATA gives the value too. -/
def State.readAction (addr : Nat) (s : State) : Nat × State :=
  let p := addr / 0x1000
  let o := addr % 0x1000
  if addr = R.TIME_NOW_LO_VAL.addr then (s.wordAt addr, nowLoEffect s)
  else if (p = 0x91 ∨ p = 0x92) ∧ addr = (R.POS_SPDNET_NET (p - 0x91)).addr then (s.wordAt addr, spdnetReadEffect (p - 0x91) s)
  else if (p = 0x80 ∨ p = 0x81) ∧ 0x400 ≤ o ∧ o < 0xC00 ∧ (o - 0x400) % 0x80 = 0x34 then (s.wordAt addr, uIntLoEffect (unitAt addr) s)
  else if 0x100 ≤ p ∧ p < 0x174 ∧ o = 0x48 then ((s.trackTaps (p - 0x100)).wordAt addr, s.trackTaps (p - 0x100))
  else if 0x100 ≤ p ∧ p < 0x174 ∧ o = 0x54 then (s.wordAt addr, (s.clearRead addr).useFree 1)
  else if p = 0x90 ∧ 0x80 ≤ o ∧ (o - 0x80) % 0x100 = 0x1C then (s.wordAt addr, (s.clearRead addr).useFree 1)
  else if addr = R.DPORT_DP_DATA_DATA.addr then s.dpDataRead
  else (s.wordAt addr, s.clearRead addr)

/-- R1, R23: what the host glade answers for a page that is absent or whose glade is fenced. -/
def State.ghostWord (s : State) (addr : Nat) (absent : Bool) : Nat :=
  let o := addr % 0x1000
  if o = 0 then (if absent then 0xFFFF0000 + s.wordAt addr % 0x10000 else s.wordAt addr)
  else if o = 0x1C ∧ absent = false then 0xFFFFFFFF
  else 0

/-- A read of one register word: its value (`none`: it fails with all ones), and the state after it. The MSI-X structures, and
pages beyond what the host reaches, hold open values. -/
def State.readWord (addr : Nat) (s : State) : Option Nat × State :=
  if s.flt.l4 then (if addr / 0x1000 = 1 then (some (s.wordAt addr), s.clearRead addr) else (some 0xFFFFFFFF, s))
  else if msixArea addr || !s.hostReaches addr then (some (s.freeNat 32), s.useFree 1)
  else
    match pageGlade addr with
    | none => (some 0, s.unmapped addr)
    | some g =>
      if !gladePresent s.variant g || pageAbsent s.variant addr then (some (s.ghostWord addr true), s)
      else if s.gladeFenced g then (some (s.ghostWord addr false), s)
      else if s.linkCut 0 g then (none, s)
      else ((s.readAction addr).map some id)

/-- Words or bytes that a read returned, and whether it failed. -/
def State.answer (l : List Nat) (err : Bool) (s : State) : State := { s with host := { s.host with rdata := l, readErr := err } }

/-! ## Commands of the PCIe host -/

/-- REGISTER_WRITE (R821, R824, R831). -/
def registerWriteEffect (w : Writer) (addr v byteEn : Nat) (parityOk : Bool) (s : State) : State :=
  if s.flt.l4 || !s.pathUp w then s
  else if !s.pageGranted w addr then s.pageFault w
  else if !parityOk then s.parityFails addr (writerUnit w)
  else if byteEn ≠ 15 then ((s.raise R.SYS_HSTAT_PARTIAL).put R.SYS_ERR_ADDR_ADDR addr).config addr
  else s.busWrite w addr v
/-- REGISTER_WRITE: a write to a register (R824). -/
def execRegisterWrite (w : Writer) (addr v byteEn : Nat) (parityOk : Bool) (s : State) : Host.Outcome State Fault Refusal :=
  .next (registerWriteEffect w addr v byteEn parityOk s)

/-- STATUS_READ (R829, R831). -/
def statusReadEffect (addr : Nat) (parityOk : Bool) (s : State) : State :=
  if !s.flt.l4 && !s.up 0 then s
  else if !parityOk then (s.answer [0xFFFFFFFF] true).parityFails addr (addrUnit addr)
  else
    match s.readWord addr with
    | (some x, s1) => s1.answer [x] false
    | (none, s1) => s1.answer [0xFFFFFFFF] true
/-- STATUS_READ: a read of a register (R829). -/
def execStatusRead (addr : Nat) (parityOk : Bool) (s : State) : Host.Outcome State Fault Refusal := .next (statusReadEffect addr parityOk s)

/-- R834: PERST_N resets the endpoint: the link is down, and the SPI port alone is left. A Function Level Reset resets configuration that
the model does not hold. -/
def pcieResetEffect (flr : Bool) (s : State) : State :=
  if flr || s.flt.l4 then s
  else s.putAll [(R.SYS_STATUS_SPEED, 0), (R.SYS_STATUS_WIDTH, 0), (R.SYS_STATUS_STANDALONE, 1)]
/-- PCIE_RESET: PERST_N or a Function Level Reset (R834). -/
def execPcieReset (flr : Bool) (s : State) : Host.Outcome State Fault Refusal := .next (pcieResetEffect flr s)

/-- PCIE_LINK_UP (R834, R836, R843). -/
def pcieUpEffect (speed width : Nat) (s : State) : State :=
  if s.up 0 && decide (1 ≤ speed ∧ speed ≤ 3 ∧ 1 ≤ width ∧ width ≤ 4) then
    s.putAll [(R.SYS_STATUS_SPEED, speed), (R.SYS_STATUS_WIDTH, width), (R.SYS_STATUS_STANDALONE, 0)]
  else s
/-- PCIE_LINK_UP: the PCIe link trains (R834). -/
def execPcieLinkUp (speed width : Nat) (s : State) : Host.Outcome State Fault Refusal := .next (pcieUpEffect speed width s)

/-- PCIE_LINK_DOWN (R836, R843). -/
def pcieDownEffect (refclkLost : Bool) (s : State) : State :=
  if s.flt.l4 then s
  else
    let s1 := (s.put R.SYS_STATUS_SPEED 0).put R.SYS_STATUS_WIDTH 0
    if refclkLost then s1.put R.SYS_STATUS_STANDALONE 1 else s1
/-- PCIE_LINK_DOWN: the PCIe link or its reference clock is lost (R836). -/
def execPcieLinkDown (refclkLost : Bool) (s : State) : Host.Outcome State Fault Refusal := .next (pcieDownEffect refclkLost s)

/-! ## The SPI management port (R835, R836) -/

/-- An offset moved on by words within its 24 bits. -/
def spiOfs (ofs k : Nat) : Nat := (ofs + 4 * k) % 2 ^ 24

/-- The port's ERR bit. -/
def State.setSpiErr (b : Bool) (s : State) : State := { s with host := { s.host with spiErr := b } }

/-- Words read one after the other; the flag says that one failed. -/
def State.spiReadList (ofs : Nat) : Nat → State → List Nat × Bool × State
  | 0, s => ([], false, s)
  | n + 1, s =>
    let r := s.readWord ofs
    let u := State.spiReadList (spiOfs ofs 1) n r.2
    (r.1.getD 0xFFFFFFFF :: u.1, r.1.isNone || u.2.1, u.2.2)

/-- SPI_READ (R831, R835, R836). -/
def spiReadEffect (ofs words : Nat) (parityOk : Bool) (s : State) : State :=
  if !s.flt.l4 && !s.up 0 then s
  else if ofs % 4 ≠ 0 then s.setSpiErr true
  else if !parityOk then ((s.answer (List.replicate words 0xFFFFFFFF) true).setSpiErr true).parityFails ofs (addrUnit ofs)
  else
    let r := s.spiReadList ofs words
    (r.2.2.answer r.1 r.2.1).setSpiErr (r.2.2.host.spiErr || r.2.1)
/-- SPI_READ: a READ frame (R835). -/
def execSpiRead (ofs words : Nat) (parityOk : Bool) (s : State) : Host.Outcome State Fault Refusal := .next (spiReadEffect ofs words parityOk s)

/-- R835: the whole words of a WRITE frame, most significant byte first. -/
def spiWords : List Byte → List Nat
  | a :: b :: c :: d :: t => beNat [a, b, c, d] :: spiWords t
  | _ => []

/-- Words written one after the other. -/
def State.spiWriteList (ofs : Nat) : List Nat → State → State
  | [], s => s
  | v :: t, s => State.spiWriteList (spiOfs ofs 1) t (s.busWrite .spi ofs v)

/-- SPI_WRITE (R831, R835). -/
def spiWriteEffect (ofs : Nat) (bytes : List Byte) (parityOk : Bool) (s : State) : State :=
  if !s.flt.l4 && !s.up 0 then s
  else if ofs % 4 ≠ 0 then s.setSpiErr true
  else if s.flt.l4 then s
  else if !parityOk then s.parityFails ofs 0x0001
  else s.spiWriteList ofs (spiWords bytes)
/-- SPI_WRITE: a WRITE frame (R835). -/
def execSpiWrite (ofs : Nat) (bytes : List Byte) (parityOk : Bool) (s : State) : Host.Outcome State Fault Refusal :=
  .next (spiWriteEffect ofs bytes parityOk s)

/-- R831, R852: a burst whose parity fails; a burst has no BAR0 offset, so what ERR_ADDR shows is open: a free value. -/
def State.burstParity (unit : Nat) (s : State) : State := (s.parityFails (s.freeNat 32) unit).useFree 1

/-- R831, R839: a burst read, from PCIe or SPI. -/
def State.burstRead (len : Nat) (parityOk : Bool) (s : State) : State :=
  if s.flt.l4 then s.answer (List.replicate len 0xFF) false
  else if !s.up 0 then s
  else if !parityOk then (s.answer (List.replicate len 0xFF) true).burstParity 0x0002
  else (s.dpRead len 4 true).2.answer (s.dpRead len 4 true).1 false
/-- R831, R839, R868: a burst write of a unit, from PCIe or SPI. Until the image is applied it is a write beyond SEC and NVM. -/
def State.burstWrite (unit : Nat) (bytes : List Byte) (parityOk : Bool) (s : State) : State :=
  if s.flt.l4 || !s.up 0 then s
  else if !parityOk then s.burstParity unit
  else if s.hostMayWrite 0x6044 then s.dpWrite bytes 4 true
  else s.config 0x6044

/-- SPI_DREAD (R831, R835, R836, R839). -/
def spiDreadEffect (len : Nat) (parityOk : Bool) (s : State) : State :=
  let s1 := s.burstRead len parityOk
  s1.setSpiErr (s1.host.spiErr || (s.up 0 && !s.flt.l4 && !parityOk))
/-- SPI_DREAD: a DREAD frame (R835). -/
def execSpiDread (r : BurstRead) (s : State) : Host.Outcome State Fault Refusal := .next (spiDreadEffect r.len r.parityOk s)

/-- SPI_DWRITE (R831, R835, R836, R839). A frame whose first byte is no opcode comes as this command too (DESIGN CHOICE,
notes/assumptions/61.md): it is ignored and sets ERR. -/
def spiDwriteEffect (f : SpiFrame) (s : State) : State :=
  if f.opcode = 0x0A then s.burstWrite 0x0001 f.bytes f.parityOk
  else if !s.flt.l4 && !s.up 0 then s
  else if f.opcode = 0x03 ∨ f.opcode = 0x02 ∨ f.opcode = 0x0B ∨ f.opcode = 0x05 then s
  else s.setSpiErr true
/-- SPI_DWRITE: a DWRITE frame (R835). -/
def execSpiDwrite (f : SpiFrame) (s : State) : Host.Outcome State Fault Refusal := .next (spiDwriteEffect f s)

/-- R836: the status byte; no written word is still on its way between two commands, so BUSY reads 0. -/
def State.spiStatusByte (s : State) : Nat := 2 * b2n s.host.spiErr + 4 * b2n s.flt.l4 + 8 * b2n s.pcieUp

/-- SPI_STATUS (R836). -/
def spiStatusEffect (s : State) : State :=
  if !s.flt.l4 && !s.up 0 then s else (s.answer [s.spiStatusByte] false).setSpiErr false
/-- SPI_STATUS: a STATUS frame (R836). -/
def execSpiStatus (s : State) : Host.Outcome State Fault Refusal := .next (spiStatusEffect s)

/-! ## Data-port commands -/

/-- DP_ADDR_WRITE (R839). -/
def dpAddrWriteEffect (v : Nat) (s : State) : State := s.busWrite .spi 0x6040 v
/-- DP_ADDR_WRITE: a write to DP_ADDR (R839). -/
def execDpAddrWrite (v : Nat) (s : State) : Host.Outcome State Fault Refusal := .next (dpAddrWriteEffect v s)

/-- DP_DATA_READ (R838). -/
def dpDataReadEffect (s : State) : State := statusReadEffect 0x6044 true s
/-- DP_DATA_READ: a read of DP_DATA (R838). -/
def execDpDataRead (s : State) : Host.Outcome State Fault Refusal := .next (dpDataReadEffect s)

/-- DP_DATA_WRITE (R838). -/
def dpDataWriteEffect (v : Nat) (s : State) : State := s.busWrite .spi 0x6044 v
/-- DP_DATA_WRITE: a write to DP_DATA (R838). -/
def execDpDataWrite (v : Nat) (s : State) : Host.Outcome State Fault Refusal := .next (dpDataWriteEffect v s)

/-- DP_BURST_READ (R839): a TLP needs the PCIe link. -/
def dpBurstReadEffect (len : Nat) (parityOk : Bool) (s : State) : State := if s.pcieUp then s.burstRead len parityOk else s
/-- DP_BURST_READ: a BAR2 read (R839). -/
def execDpBurstRead (r : BurstRead) (s : State) : Host.Outcome State Fault Refusal := .next (dpBurstReadEffect r.len r.parityOk s)

/-- DP_BURST_WRITE (R839). -/
def dpBurstWriteEffect (bytes : List Byte) (parityOk : Bool) (s : State) : State := if s.pcieUp then s.burstWrite 0x0000 bytes parityOk else s
/-- DP_BURST_WRITE: a BAR2 write (R839). -/
def execDpBurstWrite (w : BurstWrite) (s : State) : Host.Outcome State Fault Refusal := .next (dpBurstWriteEffect w.bytes w.parityOk s)

/-! ## Reads with an action of their own -/

/-- NOW_LO_READ: a read of NOW_LO latches NOW_HI and NOW_FR (R527). -/
def execNowLoRead (s : State) : Host.Outcome State Fault Refusal := .next (statusReadEffect R.TIME_NOW_LO_VAL.addr true s)
/-- SPDNET_READ: a read of SPDNET latches SPEED (R394). -/
def execSpdnetRead (i : Nat) (s : State) : Host.Outcome State Fault Refusal := .next (statusReadEffect (R.POS_SPDNET_NET i).addr true s)
/-- U_INT_LO_READ: a read of U_INT_LO latches the high bits (R319). -/
def execUIntLoRead (k : Nat) (s : State) : Host.Outcome State Fault Refusal := .next (statusReadEffect (R.U_INT_LO_INT k).addr true s)

/-! ## The scrubber (R832) -/

/-- MEMORY_SCRUB (R832). -/
def memoryScrubEffect (addr : Nat) (r : EccResult) (s : State) : State :=
  match r with
  | .clean => s
  | .corrected => s.event0 .mem (memUnit addr) 0
  | .uncorrectable => ({ s with memBad := addKey (addr / 8) s.memBad }).event .mem (memUnit addr) 0
/-- MEMORY_SCRUB: the scrubber reads a word (R832). -/
def execMemoryScrub (addr : Nat) (r : EccResult) (s : State) : Host.Outcome State Fault Refusal := .next (memoryScrubEffect addr r s)

end Sys2Proof.Machine
end

