-- ==== Sys2Proof/Machine/Startup.lean ====
section
/-! DEFINITION. Power-on reset and the start-up sequence (R16, R466, R769, R770, R864 to R877). -/

namespace Sys2Proof.Machine

/-! ## Power-on reset (R11, R16, R864, R865) -/

/-- The fields that NVM or OTP holds through a power-on reset, beside BOOT.PREF (R768, R771, R776, R789, R808, R817, R818). -/
def storedFields : List Field :=
  [R.SEC_STATUS_CNT, R.SEC_STATUS_RETURNED, R.NVM_SEQ_STORE_SEQ, R.AGE_LOG_WR_IDX, R.AGE_LOG_WR_WRAPPED,
   R.AGE_HOURS_HOURS]

/-- R11, R864: every glade is reset. What NVM and OTP hold stays, and so do the commands that wait. -/
def State.powerOn (s : State) : State :=
  let s1 : State := {
    pending := s.pending
    variant := s.variant
    free := s.free
    mem := s.mem.filter (fun c => decide (nvmBase ≤ c.1 ∧ c.1 < 2 ^ 32))
    memBad := s.memBad.filter (fun a => decide (nvmBase ≤ 8 * a ∧ 8 * a < 2 ^ 32))
    nvm := { newest := s.nvm.newest, wear := s.nvm.wear, imgWear := s.nvm.imgWear, pref := s.nvm.pref, badCopy := s.nvm.badCopy }
    sec := { revoked := s.sec.revoked, boots := s.sec.boots } }
  s1.putAll ((R.NVM_BOOT_PREF, s.nvm.pref) :: storedFields.map (fun F => (F, s.get F)))

/-- POWER_ON_RESET (R864, R882): a low pulse resets when it lasts at least 10 µs, and VSAFE below its threshold always. `vsafeLow` tells
where VSAFE stands from then on. -/
def powerOnEffect (lowNs : Nat) (vsafeLow : Bool) (s : State) : State :=
  let s1 := if vsafeLow || decide (10000 ≤ lowNs) then s.powerOn else s
  { s1 with host := { s1.host with vsafeLow := vsafeLow } }
/-- POWER_ON_RESET: POR_N held low, or VSAFE below its threshold (R864). -/
def execPowerOnReset (lowNs : Nat) (vsafeLow : Bool) (s : State) : Host.Outcome State Fault Refusal := .next (powerOnEffect lowNs vsafeLow s)

/-! ## Glades leave reset (R16, R866 steps 1 to 3) -/

/-- A present glade leaves reset. -/
def State.gladeOut (g : Nat) (s : State) : State :=
  if gladePresent s.variant g && (s.glade g).inReset && !(s.glade g).clkBad then s.setGlade g { s.glade g with inReset := false } else s

/-- Start-up has come to a step. -/
def State.setPhase (p : StartPhase) (s : State) : State := { s with host := { s.host with phase := p } }

/-- POR_RELEASE (R864, R866 step 1). -/
def porReleaseEffect (s : State) : State :=
  if decide (s.host.phase = .reset) && !s.host.vsafeLow then (forAll [1, 2, 3] State.gladeOut s).setPhase .released else s
/-- POR_RELEASE: the rising edge of POR_N (R866). -/
def execPorRelease (s : State) : Host.Outcome State Fault Refusal := .next (porReleaseEffect s)

/-- PLL_LOCKED (R866 steps 2 and 3). -/
def pllLockedEffect (s : State) : State :=
  if s.host.phase = .released then (forAll (List.range 44) State.gladeOut s).setPhase .locked else s
/-- PLL_LOCKED: every PLL is locked to REFCLK (R866). -/
def execPllLocked (s : State) : Host.Outcome State Fault Refusal := .next (pllLockedEffect s)

/-- GLADE_RESET_EXIT (R16, R864): after the rising edge of POR_N. -/
def gladeExitEffect (g : Nat) (s : State) : State := if decide (s.host.phase = .reset) || s.host.vsafeLow then s else s.gladeOut g
/-- GLADE_RESET_EXIT: a glade leaves reset after 10 µs of good clock (R16). -/
def execGladeResetExit (g : Nat) (s : State) : Host.Outcome State Fault Refusal := .next (gladeExitEffect g s)

/-! ## Boot (R769, R770, R866 steps 4 and 5) -/

/-- R770: a slot that fails. -/
def State.slotFails (F : Field) (s : State) : State := (s.raise F).secEvent

/-- R770, R866: a slot boots. -/
def State.bootSlot (slot svn : Nat) (fallback : Bool) (s : State) : State :=
  (s.putAll [(R.SEC_STATUS_SLOT, slot), (R.SEC_STATUS_SVN, svn), (R.SEC_STATUS_FALLBACK, b2n fallback)]).setPhase .verified

/-- R770: no slot boots. -/
def State.bootNone (s : State) : State := (s.put R.SEC_STATUS_SLOT 2).setPhase .stopped

/-- R770: the preferred slot with verdict `v` boots, then the other with `w`. -/
def State.bootFrom (pref : Nat) (v w : Nat ⊕ Field) (s : State) : State :=
  match v, w with
  | .inl svn, _ => s.bootSlot pref svn false
  | .inr F, .inl svn => (s.slotFails F).bootSlot (1 - pref) svn true
  | .inr F, .inr G => ((s.slotFails F).slotFails G).bootNone

/-- R769, R770: the preferred slot is verified, and the other one if it fails. -/
def State.verifySlots (pref : Nat) (s : State) : State :=
  let s1 := s.readSlot pref
  match s.slotCheck pref with
  | .inl _ => s1
  | .inr _ => s1.readSlot (1 - pref)

/-- R787, R867: the value after of the newest MARGIN record with a measure and, for a clock, a unit; a record with a word beyond correction
is none (DESIGN CHOICE, notes/assumptions/61.md). -/
def State.lastMargin (s : State) (measure : Nat) (unit : Option Nat) : Option Nat :=
  let marks := s.mem.filter (fun c => decide (logBase ≤ c.1 ∧ c.1 < logBase + 0x40000 ∧ c.1 % 32 = 3 ∧ c.2.toNat = 0x20 + measure))
  let ks := (marks.map (fun c => (c.1 - logBase) / 32)).filter (fun k =>
    (s.badIn (logBase + 32 * k) 32).isEmpty
      && (match unit with | none => true | some u => decide (leNat (Memory.readN s.mem (logBase + 32 * k) 2) = u)))
  let age (k : Nat) : Nat := (s.get R.AGE_LOG_WR_IDX + 8191 - k) % 8192
  let best := ks.foldl (fun b k => match b with | none => some k | some j => if age k < age j then some k else some j) none
  best.map (fun k => leNat (Memory.readN s.mem (logBase + 32 * k + 24) 4))

/-- R883: the exponent of a VOUT_MODE byte that selects LINEAR mode (its PMBus layout is PRESUMED, notes/assumptions/62.md). -/
def linearExponent (mode : Nat) : Option Nat := if bits mode 5 3 = 0 then some (bits mode 0 5) else none

/-- R867, R883: VDD is requested at the value of its newest record, with the exponent that VOUT_MODE gave; `ack` says whether the regulator
acknowledges that request, without which VDD stays at its start-up value. -/
def State.vddBack (e : Nat) (ack : Bool) (s : State) : State :=
  match s.lastMargin 1 none with
  | some v =>
    let s1 := s.avsRequest e v
    if ack then (s1.modAge (fun x => { x with vout := some e })).put R.AGE_AVS_VDD v else s1.raise R.AGE_ASTAT_AVS_FAIL
  | none => s.modAge (fun x => { x with vout := some e })

/-- R867, R883: VDD and the grove clocks are restored; `vout` is what the regulator answers to a read of VOUT_MODE. -/
def State.marginsBack (vout : Option Nat) (ack : Bool) (s : State) : State :=
  let s0 := s.eccRead logBase 0x40000 nvmUnit
  let s1 := match vout.bind linearExponent with | some e => s0.vddBack e ack | none => s0.raise R.AGE_ASTAT_AVS_FAIL
  forAll (List.range s.variant.groves) (fun g a =>
    match s.lastMargin 2 (some (256 * (16 + g))) with | some f => a.put (R.AGE_CLK_MHZ g) f | none => a) s1

/-- R772, R775: at boot the settings are loaded into their RAM copy, and the device certificate is placed. -/
def State.bootMemory (s : State) : State :=
  ((s.loadPart 0).loadPart 1).writeBytes (qbuf + 0x800) (fixBytes 0x800 Config.devCert)

/-- BOOT_VERIFY_COMPLETE (R769, R770, R789, R866, R867, R883): `vout` is the VOUT_MODE byte of the regulator, none without an
acknowledge, and `ack` its acknowledge of the VOUT_COMMAND that restores VDD. -/
def bootVerifyEffect (vout : Option Nat) (ack : Bool) (s : State) : State :=
  if s.up 2 && decide (s.host.phase = .locked) then
    let pref := s.get R.NVM_BOOT_PREF
    let s1 := s.modSec (fun x => { x with boots := satTo (2 ^ 32 - 1) (x.boots + 1) })
    let s2 := if s.returned then s1.bootNone
      else (s1.verifySlots pref).bootFrom pref (s.slotCheck pref) (s.slotCheck (1 - pref))
    if s2.host.phase = .verified then
      ((s2.modSec (fun x => { x with imgLen := (s2.slotHeader (s2.get R.SEC_STATUS_SLOT)).bodyLen })).marginsBack vout ack).bootMemory
    else s2
  else s
/-- BOOT_VERIFY_COMPLETE: the root of trust has verified the slots (R770). -/
def execBootVerifyComplete (modeAck : Bool) (mode : Nat) (cmdAck : Bool) (s : State) : Host.Outcome State Fault Refusal :=
  .next (bootVerifyEffect (if modeAck then some mode else none) cmdAck s)

/-! ## The task set (R466) -/

/-- A list holds no value twice. -/
def noDup : List Nat → Bool
  | [] => true
  | a :: t => !t.contains a && noDup t

/-- R466: what one task declares is within its limits. -/
def taskOk (d : TaskDecl) : Bool :=
  d.classP.isSome && decide (d.tb ≤ d.rb) && decide (d.bufs.length ≤ 16) && decide (d.pages.length ≤ 8) && noDup (d.bufs.map (fun b => b.2.1))
    && (match d.ready with
        | .matched base cnt _ => decide (d.num < 16) && decide (cnt ≤ 64) && decide (base + cnt ≤ 1024)
        | .any _ => true
        | .all _ => true)

/-- The tag range of a matched task. -/
def tagRange (d : TaskDecl) : Option (Nat × Nat) :=
  match d.ready with
  | .matched base cnt _ => some (base, cnt)
  | .any _ => none
  | .all _ => none

/-- Ranges, as starts and lengths, of which no two overlap. -/
def noOverlap : List (Nat × Nat) → Bool
  | [] => true
  | r :: t => t.all (fun q => decide (r.1 + r.2 ≤ q.1 ∨ q.1 + q.2 ≤ r.1)) && noOverlap t

/-- R482: a placed buffer lies in placement space; in a core's SRAM only when every task that declares it is of class C. -/
def placeOk (v : Variant) (tasks : List TaskDecl) (b : BufDecl) : Bool :=
  match b.kind with
  | .scratch => true
  | .fixed _ => true
  | .placed =>
    match b.loc with
    | .grove g o => decide (g < v.groves) && decide (o + b.size ≤ 0x180000)
    | .device o => decide (o + b.size ≤ 0xC00000)
    | .sram u o =>
      decide (u < 9 * v.groves) && decide (o + b.size ≤ 0x8000)
        && tasks.all (fun d => !d.bufs.any (fun x => decide (x.1 = b.handle)) || decide (d.classP = some false))

/-- R466, R482: the buffers are within their limits, and the places that the device chose hold them side by side. -/
def buffersOk (v : Variant) (tasks : List TaskDecl) (l : List BufDecl) : Bool :=
  decide (l.length ≤ 1024) && l.all (fun b => decide (b.size ≤ 0x100000)) && l.all (placeOk v tasks)
    && noOverlap ((l.filter (fun b => decide (b.kind = .placed))).map (fun b => (locBase b.loc, b.size)))

/-- R466: the task set is accepted. -/
def taskSetOk (v : Variant) (img : Image) : Bool :=
  decide (img.codeSize ≤ 0x80000) && img.tasks.all taskOk && noOverlap (img.tasks.filterMap tagRange)
    && buffersOk v img.tasks img.buffers

/-- The code region's offset in a grove's memory, behind the placement space of R482 (DESIGN CHOICE, notes/assumptions/37.md). -/
def codeBase (g : Nat) : Nat := 2 ^ 30 + g * 2 ^ 28 + 0x180000

/-- R832, R868: the code image of the booted slot is copied into the code region of every present grove, as far as that holds it. -/
def State.copyCode (n : Nat) (s : State) : State :=
  let a := slotBase (s.get R.SEC_STATUS_SLOT)
  let code := (Config.codeImage (s.cells a 0x300000)).take (min n 0x80000)
  forAll (List.range s.variant.groves) (fun g t => t.writeBytes (codeBase g) code) (s.eccRead a (4096 + s.sec.imgLen) nvmUnit)

/-- R466, R868: the code image is copied, and the task set is loaded, or refused with a CONFIG event at the class's base level. -/
def State.loadTasks (img : Image) (s : State) : State :=
  let s0 := s.copyCode img.codeSize
  if taskSetOk s.variant img then
    let s1 := s0.put R.SCHED_STATUS_TSET 1
    { s1 with sched := { s1.sched with
        tasks := img.tasks.foldl (fun a d => insertKey d.num { decl := d, enabled := d.enabled } a) []
        bufs := img.buffers.map (fun b => { decl := b }) } }
  else (s0.put R.SCHED_STATUS_TSET 0).event .config schedUnit 0

/-! ## The image (R866 step 6, R868) -/

/-- R868: the register-settings section is written in list order, each write as a host write. -/
def State.applyRegs (l : List (Nat × Nat)) (s : State) : State := l.foldl (fun a e => a.regWrite .host e.1 e.2) s

/-- R776: what the stored settings P hold; a partition that stores nothing has none (DESIGN CHOICE, notes/assumptions/61.md). -/
def State.settingsP (s : State) : List (Nat × Nat × Nat) := if s.storedCells 1 = [] then [] else Config.settingsP (s.storedCells 1)
/-- R868: what the stored settings U hold; a partition that stores nothing has none. -/
def State.settingsU (s : State) : List (Nat × Nat) := if s.storedCells 0 = [] then [] else Config.settingsU (s.storedCells 0)

/-- R776, R868: settings P become the initial values of RWT fields. -/
def State.applyP (l : List (Nat × Nat × Nat)) (s : State) : State :=
  l.foldl (fun a e => match fieldAt e.1 e.2.1 with | some F => if F.acc = .rwt then a.put F e.2.2 else a | none => a)
    { s with host := { s.host with setP := l } }

/-- The RWT fields of a word. -/
def rwtFields (addr : Nat) : List Field := (fieldsAt addr).filter (fun F => decide (F.acc = .rwt))

/-- A word with the bits of its RWT fields as they stand. -/
def State.keepRwt (addr v : Nat) (s : State) : Nat :=
  (rwtFields addr).foldl (fun x F => x - bits x F.lo F.w * 2 ^ F.lo + s.get F * 2 ^ F.lo) v

/-- R868: one pair of settings U; its bits for RWT fields are ignored with a CONFIG event. -/
def State.applyU (l : List (Nat × Nat)) (s : State) : State :=
  l.foldl (fun a e =>
    if (rwtFields e.1).isEmpty then a.regWrite .host e.1 e.2 else (a.regWrite .host e.1 (a.keepRwt e.1 e.2)).config e.1) s

/-- R546, R550, R554, R618, R685, R868: the network section and the safety parameter set. -/
def State.applyNet (img : Image) (s : State) : State :=
  { s with
    net := { s.net with
      streams := img.streams.foldl (fun a d => insertKey d.num { decl := d } a) []
      chans := img.channels.foldl (fun a d => insertKey d.num { decl := d } a) []
      clock := img.clock
      pubs := img.pubs.foldl (fun a d => insertKey d.num { decl := d } a) []
      subs := img.subs.foldl (fun a d => insertKey d.num { decl := d } a) [] }
    canopy := { s.canopy with sess := img.sessions.foldl (fun a d => insertKey d.num { decl := d } a) [] }
    safe := { s.safe with pset := if s.variant.hasPair then img.pset else none } }

/-- R868, R875: step 6 has ended. With pair operation on, the device enters NONE with its dual-homed lanes in repeat mode; the
publications that are enabled send their first state (R552). -/
def State.applyEnd (img : Image) (s : State) : State :=
  let s1 := ({ s with host := { s.host with boards := img.boards } }).setPhase .applied
  let s2 := if s1.pairOp then (s1.modAmber (fun a => { a with roleAt := s1.elNs, quiet := s1.elNs })).setRepeat true else s1.setRepeat false
  forAll ([0, 1, 2, 3].filter (fun k => s2.pubOn k)) State.pubNew s2.condsAgain

/-- IMAGE_APPLY (R868). -/
def imageApplyEffect (img : Image) (s : State) : State :=
  if decide (s.host.phase = .verified) && s.up 0 && s.up 2 && !s.flt.l4 then
    (((((s.loadTasks img).applyRegs img.regs).applyP s.settingsP).applyU s.settingsU).applyNet img).applyEnd img
  else s
/-- IMAGE_APPLY: the image sections are applied in order (R868). -/
def execImageApply (img : Image) (s : State) : Host.Outcome State Fault Refusal := .next (imageApplyEffect img s)

/-! ## Boards and modules (R866 step 7, R870, R871) -/

/-- R870: a board answers with what the image expects. -/
def boardMatches (e : BoardExpect) (bytes : List Byte) : Bool :=
  decide (bytes.length = 32) && decide (leNat ((bytes.drop 2).take 2) = e.btype)
    && decide (leNat ((bytes.drop 4).take 1) = e.first) && decide (leNat ((bytes.drop 5).take 1) = e.cnt)
    && decide (leNat (bytes.drop 28) = crc32c (bytes.take 28))

/-- R870: a lane is held OFF until power-on reset. -/
def State.holdLane (l : Nat) (s : State) : State :=
  ({ s with host := { s.host with laneHeld := addKey l s.host.laneHeld } }.put (R.LANE_CTRL_EN l) 0).laneOff l

/-- BOARD_IDENTIFY (R870): the identity memory of a bus has been read; an empty list means no answer. -/
def boardEffect (bus : Nat) (bytes : List Byte) (s : State) : State :=
  if s.up 0 && decide (s.host.phase = .applied) then
    match s.host.boards.find? (fun e => decide (e.bus = bus)) with
    | none => s
    | some e =>
      if boardMatches e bytes then s
      else forAll ((List.range 116).filter (fun l => decide (e.first ≤ l ∧ l < e.first + e.cnt))) State.holdLane (s.event .config 0x0000 bus)
  else s
/-- BOARD_IDENTIFY: the board identity memory on a BRD bus is read (R870). -/
def execBoardIdentify (bus : Nat) (bytes : List Byte) (s : State) : Host.Outcome State Fault Refusal := .next (boardEffect bus bytes s)

/-- R871: a port is held disabled until power-on reset. -/
def State.holdPort (p : Nat) (s : State) : State :=
  let s1 : State := { s with host := { s.host with sfpBad := addKey p s.host.sfpBad } }
  if s1.linkUp p then (s1.put (R.ETH_CTRL_EN p) 0).ptpFault p else s1.put (R.ETH_CTRL_EN p) 0

/-- SFP_IDENTIFY (R871). -/
def sfpEffect (port : Nat) (byte0 : Option Nat) (s : State) : State :=
  if s.ethUp port && decide (port < 4) && decide (s.host.phase = .applied) && s.on (R.ETH_CTRL_EN port) then
    if byte0 = some 0x03 then s else (s.event .net (0x0700 + port) 0).holdPort port
  else s
/-- SFP_IDENTIFY: byte 0 of a port's SFP module is read (R871). -/
def execSfpIdentify (port : Nat) (byte0 : Option Nat) (s : State) : Host.Outcome State Fault Refusal := .next (sfpEffect port byte0 s)

end Sys2Proof.Machine
end

