-- ==== Sys2Proof/Machine/Dispatch.lean ====
section
/-! DEFINITION. The dispatch: one arm per command. -/

namespace Sys2Proof.Machine

/-- The effect of a command on everything but the queue. -/
def exec (i : Instr) (s : State) : Host.Outcome State Fault Refusal :=
  match i with
  | .powerOnReset lowNs vsafeLow => Sys2Proof.Machine.execPowerOnReset lowNs vsafeLow s
  | .porRelease => Sys2Proof.Machine.execPorRelease s
  | .pllLocked => Sys2Proof.Machine.execPllLocked s
  | .gladeResetExit g => Sys2Proof.Machine.execGladeResetExit g s
  | .bootVerifyComplete modeAck mode cmdAck => Sys2Proof.Machine.execBootVerifyComplete modeAck mode cmdAck s
  | .imageApply img => Sys2Proof.Machine.execImageApply img s
  | .boardIdentify bus bytes => Sys2Proof.Machine.execBoardIdentify bus bytes s
  | .sfpIdentify port byte0 => Sys2Proof.Machine.execSfpIdentify port byte0 s
  | .clkEdgeTimeout src => Sys2Proof.Machine.execClkEdgeTimeout src s
  | .clkFreqWindow src khz => Sys2Proof.Machine.execClkFreqWindow src khz s
  | .linkRxTimeout src dst lost => Sys2Proof.Machine.execLinkRxTimeout src dst lost s
  | .linkAckTimeout src dst lost => Sys2Proof.Machine.execLinkAckTimeout src dst lost s
  | .linkParityError src dst t isRead => Sys2Proof.Machine.execLinkParityError src dst t isRead s
  | .supplyExcursion rail => Sys2Proof.Machine.execSupplyExcursion rail s
  | .tjLimitExceeded g tj => Sys2Proof.Machine.execTjLimitExceeded g tj s
  | .faultEvent e => Sys2Proof.Machine.execFaultEvent e s
  | .faultCauseCleared cls unit => Sys2Proof.Machine.execFaultCauseCleared cls unit s
  | .rwtVoteDisagree addr lo c0 c1 c2 => Sys2Proof.Machine.execRwtVoteDisagree addr lo c0 c1 c2 s
  | .faultAck mask => Sys2Proof.Machine.execFaultAck mask s
  | .unfence task id clkGood1ms => Sys2Proof.Machine.execUnfence task id clkGood1ms s
  | .histClr => Sys2Proof.Machine.execHistClr s
  | .recIdxWrite v => Sys2Proof.Machine.execRecIdxWrite v s
  | .registerWrite w addr v byteEn parityOk => Sys2Proof.Machine.execRegisterWrite w addr v byteEn parityOk s
  | .statusRead addr parityOk => Sys2Proof.Machine.execStatusRead addr parityOk s
  | .unlockWrite w v => Sys2Proof.Machine.execUnlockWrite w v s
  | .unlockArmExpired => Sys2Proof.Machine.execUnlockArmExpired s
  | .eoi0 => Sys2Proof.Machine.execEoi0 s
  | .eoi1 => Sys2Proof.Machine.execEoi1 s
  | .pcieReset flr => Sys2Proof.Machine.execPcieReset flr s
  | .spiRead ofs words parityOk => Sys2Proof.Machine.execSpiRead ofs words parityOk s
  | .spiWrite ofs bytes parityOk => Sys2Proof.Machine.execSpiWrite ofs bytes parityOk s
  | .spiDread r => Sys2Proof.Machine.execSpiDread r s
  | .spiDwrite f => Sys2Proof.Machine.execSpiDwrite f s
  | .spiStatus => Sys2Proof.Machine.execSpiStatus s
  | .dpAddrWrite v => Sys2Proof.Machine.execDpAddrWrite v s
  | .dpDataRead => Sys2Proof.Machine.execDpDataRead s
  | .dpDataWrite v => Sys2Proof.Machine.execDpDataWrite v s
  | .dpBurstRead r => Sys2Proof.Machine.execDpBurstRead r s
  | .dpBurstWrite w => Sys2Proof.Machine.execDpBurstWrite w s
  | .memoryScrub addr r => Sys2Proof.Machine.execMemoryScrub addr r s
  | .cycleStart notReady => Sys2Proof.Machine.execCycleStart notReady s
  | .selectionStart selNs => Sys2Proof.Machine.execSelectionStart selNs s
  | .commit => Sys2Proof.Machine.execCommit s
  | .blockFrameSend ring => Sys2Proof.Machine.execBlockFrameSend ring s
  | .goOff => Sys2Proof.Machine.execGoOff s
  | .goCharge => Sys2Proof.Machine.execGoCharge s
  | .goRun => Sys2Proof.Machine.execGoRun s
  | .goBlock => Sys2Proof.Machine.execGoBlock s
  | .cycLenWrite v => Sys2Proof.Machine.execCycLenWrite v s
  | .execOfsWrite v => Sys2Proof.Machine.execExecOfsWrite v s
  | .cycPhaseWrite v => Sys2Proof.Machine.execCycPhaseWrite v s
  | .refSlopeWrite v => Sys2Proof.Machine.execRefSlopeWrite v s
  | .statusSlotReceived ring slot h s0 s1 s2 s3 => Sys2Proof.Machine.execStatusSlotReceived ring slot h s0 s1 s2 s3 s
  | .frameReturn ring f => Sys2Proof.Machine.execFrameReturn ring f s
  | .recordAgeLimit k => Sys2Proof.Machine.execRecordAgeLimit k s
  | .keySave => Sys2Proof.Machine.execKeySave s
  | .keySaveDone => Sys2Proof.Machine.execKeySaveDone s
  | .smIdxWrite v => Sys2Proof.Machine.execSmIdxWrite v s
  | .dcmdPost w v => Sys2Proof.Machine.execDcmdPost w v s
  | .hold k => Sys2Proof.Machine.execHold k s
  | .release k => Sys2Proof.Machine.execRelease k s
  | .fbpClr k => Sys2Proof.Machine.execFbpClr k s
  | .fire k => Sys2Proof.Machine.execFire k s
  | .holdInfoWrite v => Sys2Proof.Machine.execHoldInfoWrite v s
  | .holdBlkReached k => Sys2Proof.Machine.execHoldBlkReached k s
  | .leakRoundStart => Sys2Proof.Machine.execLeakRoundStart s
  | .leakResultTimeout k => Sys2Proof.Machine.execLeakResultTimeout k s
  | .fbpTimeout k => Sys2Proof.Machine.execFbpTimeout k s
  | .ringEnSet ring => Sys2Proof.Machine.execRingEnSet ring s
  | .ringEnClear ring => Sys2Proof.Machine.execRingEnClear ring s
  | .ringAdmitWrite ring => Sys2Proof.Machine.execRingAdmitWrite ring s
  | .ringAdmission ring => Sys2Proof.Machine.execRingAdmission ring s
  | .probeComplete ring p => Sys2Proof.Machine.execProbeComplete ring p s
  | .probeTimeout ring => Sys2Proof.Machine.execProbeTimeout ring s
  | .enumFrameReturn ring h b => Sys2Proof.Machine.execEnumFrameReturn ring h b s
  | .enumTimeout ring => Sys2Proof.Machine.execEnumTimeout ring s
  | .serviceAccessStart ring v => Sys2Proof.Machine.execServiceAccessStart ring v s
  | .serviceFrameSend ring => Sys2Proof.Machine.execServiceFrameSend ring s
  | .serviceFrameReturn ring f => Sys2Proof.Machine.execServiceFrameReturn ring f s
  | .ringForeignFrame ring dir => Sys2Proof.Machine.execRingForeignFrame ring dir s
  | .repeatFrameStart f => Sys2Proof.Machine.execRepeatFrameStart f s
  | .laneEnable lane => Sys2Proof.Machine.execLaneEnable lane s
  | .laneDisable lane => Sys2Proof.Machine.execLaneDisable lane s
  | .laneCalDone lane => Sys2Proof.Machine.execLaneCalDone lane s
  | .laneSignalAcquired lane ppm => Sys2Proof.Machine.execLaneSignalAcquired lane ppm s
  | .laneAcqTimeout lane => Sys2Proof.Machine.execLaneAcqTimeout lane s
  | .laneAdaptDone lane rxEq => Sys2Proof.Machine.execLaneAdaptDone lane rxEq s
  | .laneBlockLock lane => Sys2Proof.Machine.execLaneBlockLock lane s
  | .laneSyncTimeout lane => Sys2Proof.Machine.execLaneSyncTimeout lane s
  | .laneLossOfLock lane hiBer => Sys2Proof.Machine.execLaneLossOfLock lane hiBer s
  | .laneSignalLost lane => Sys2Proof.Machine.execLaneSignalLost lane s
  | .lolWindowEnd lane => Sys2Proof.Machine.execLolWindowEnd lane s
  | .readapt lane => Sys2Proof.Machine.execReadapt lane s
  | .readaptDone lane taps => Sys2Proof.Machine.execReadaptDone lane taps s
  | .txEqWrite lane v => Sys2Proof.Machine.execTxEqWrite lane v s
  | .elasticRecentre lane => Sys2Proof.Machine.execElasticRecentre lane s
  | .alignMarkerSend port => Sys2Proof.Machine.execAlignMarkerSend port s
  | .markerSetReceived port ms => Sys2Proof.Machine.execMarkerSetReceived port ms s
  | .prbsError lane => Sys2Proof.Machine.execPrbsError lane s
  | .esGo lane v => Sys2Proof.Machine.execEsGo lane v s
  | .esStop lane => Sys2Proof.Machine.execEsStop lane s
  | .esFree lane => Sys2Proof.Machine.execEsFree lane s
  | .eyeScanStart lane => Sys2Proof.Machine.execEyeScanStart lane s
  | .eyeScanPointDone lane err => Sys2Proof.Machine.execEyeScanPointDone lane err s
  | .crossScanDue lane => Sys2Proof.Machine.execCrossScanDue lane s
  | .crossScanDone lane hErrs vErrs => Sys2Proof.Machine.execCrossScanDone lane hErrs vErrs s
  | .loopTrigger unit => Sys2Proof.Machine.execLoopTrigger unit s
  | .loopSample unit => Sys2Proof.Machine.execLoopSample unit s
  | .loopEnable unit => Sys2Proof.Machine.execLoopEnable unit s
  | .loopDisable unit => Sys2Proof.Machine.execLoopDisable unit s
  | .uSpWrite unit v => Sys2Proof.Machine.execUSpWrite unit v s
  | .uIntHiWrite unit v => Sys2Proof.Machine.execUIntHiWrite unit v s
  | .uIntLoRead unit => Sys2Proof.Machine.execUIntLoRead unit s
  | .loopAllOff page => Sys2Proof.Machine.execLoopAllOff page s
  | .pwmPeriodStart ch => Sys2Proof.Machine.execPwmPeriodStart ch s
  | .pwmTurnOff ch => Sys2Proof.Machine.execPwmTurnOff ch s
  | .chPerWrite ch v => Sys2Proof.Machine.execChPerWrite ch v s
  | .chCmpWrite ch v => Sys2Proof.Machine.execChCmpWrite ch v s
  | .pwmEnable ch => Sys2Proof.Machine.execPwmEnable ch s
  | .syncPulse ch => Sys2Proof.Machine.execSyncPulse ch s
  | .syncInEdge => Sys2Proof.Machine.execSyncInEdge s
  | .xdeadWaitEnd ch => Sys2Proof.Machine.execXdeadWaitEnd ch s
  | .gdFltAssert ch => Sys2Proof.Machine.execGdFltAssert ch s
  | .blankEnd ch asserted => Sys2Proof.Machine.execBlankEnd ch asserted s
  | .fltClr ch asserted => Sys2Proof.Machine.execFltClr ch asserted s
  | .gsLow ch => Sys2Proof.Machine.execGsLow ch s
  | .gsHigh ch => Sys2Proof.Machine.execGsHigh ch s
  | .resume => Sys2Proof.Machine.execResume s
  | .pwmAllOff => Sys2Proof.Machine.execPwmAllOff s
  | .safeLvlWrite v => Sys2Proof.Machine.execSafeLvlWrite v s
  | .xpairWrite v => Sys2Proof.Machine.execXpairWrite v s
  | .posCountEdge k edgeA edgeB bLevel gap => Sys2Proof.Machine.execPosCountEdge k edgeA edgeB bLevel gap s
  | .posIndexEdge k => Sys2Proof.Machine.execPosIndexEdge k s
  | .posWindowEnd k => Sys2Proof.Machine.execPosWindowEnd k s
  | .posEnable k => Sys2Proof.Machine.execPosEnable k s
  | .cmpArm k => Sys2Proof.Machine.execCmpArm k s
  | .idxArm k => Sys2Proof.Machine.execIdxArm k s
  | .posWrite k v => Sys2Proof.Machine.execPosWrite k v s
  | .cmpPosWrite k v => Sys2Proof.Machine.execCmpPosWrite k v s
  | .spdnetRead k => Sys2Proof.Machine.execSpdnetRead k s
  | .emuEnable k => Sys2Proof.Machine.execEmuEnable k s
  | .emuOutputStep k => Sys2Proof.Machine.execEmuOutputStep k s
  | .adcGo c => Sys2Proof.Machine.execAdcGo c s
  | .adcTrigger c => Sys2Proof.Machine.execAdcTrigger c s
  | .adcLastSample c => Sys2Proof.Machine.execAdcLastSample c s
  | .adcBurstDone c codes => Sys2Proof.Machine.execAdcBurstDone c codes s
  | .adcStop c => Sys2Proof.Machine.execAdcStop c s
  | .calNow c => Sys2Proof.Machine.execCalNow c s
  | .adcCalDue c => Sys2Proof.Machine.execAdcCalDue c s
  | .adcRecalStart c waitNs => Sys2Proof.Machine.execAdcRecalStart c waitNs s
  | .adcRecalDone c ofsCodes gainCodes => Sys2Proof.Machine.execAdcRecalDone c ofsCodes gainCodes s
  | .adcCalRetry c waitNs => Sys2Proof.Machine.execAdcCalRetry c waitNs s
  | .pxMulq16 core rd rs1 rs2 => Sys2Proof.Machine.execPxMulq16 core rd rs1 rs2 s
  | .pxMacq16 core rd rs1 rs2 => Sys2Proof.Machine.execPxMacq16 core rd rs1 rs2 s
  | .pxMulq24 core rd rs1 rs2 => Sys2Proof.Machine.execPxMulq24 core rd rs1 rs2 s
  | .pxMacq24 core rd rs1 rs2 => Sys2Proof.Machine.execPxMacq24 core rd rs1 rs2 s
  | .pxPoste core rs1 => Sys2Proof.Machine.execPxPoste core rs1 s
  | .pxPosto core rd rs1 rs2 idx => Sys2Proof.Machine.execPxPosto core rd rs1 rs2 idx s
  | .pxOpget core rd idx => Sys2Proof.Machine.execPxOpget core rd idx s
  | .pxEndw core => Sys2Proof.Machine.execPxEndw core s
  | .workItemAbort core cause pc tval => Sys2Proof.Machine.execWorkItemAbort core cause pc tval s
  | .runBoundExpired core pc => Sys2Proof.Machine.execRunBoundExpired core pc s
  | .flagPost flags => Sys2Proof.Machine.execFlagPost flags s
  | .operandPost tag idx v => Sys2Proof.Machine.execOperandPost tag idx v s
  | .operandStallTimeout => Sys2Proof.Machine.execOperandStallTimeout s
  | .dispatch task core => Sys2Proof.Machine.execDispatch task core s
  | .stagingDone core => Sys2Proof.Machine.execStagingDone core s
  | .taskEnable => Sys2Proof.Machine.execTaskEnable s
  | .taskDisable => Sys2Proof.Machine.execTaskDisable s
  | .taskIdxWrite v => Sys2Proof.Machine.execTaskIdxWrite v s
  | .hostFlagPost v => Sys2Proof.Machine.execHostFlagPost v s
  | .hopValWrite v => Sys2Proof.Machine.execHopValWrite v s
  | .bufferMoveStart handle dest => Sys2Proof.Machine.execBufferMoveStart handle dest s
  | .bufferMoveDone handle => Sys2Proof.Machine.execBufferMoveDone handle s
  | .traceSnap => Sys2Proof.Machine.execTraceSnap s
  | .coreDebugHalt core => Sys2Proof.Machine.execCoreDebugHalt core s
  | .coreDebugResume core => Sys2Proof.Machine.execCoreDebugResume core s
  | .nowLoRead => Sys2Proof.Machine.execNowLoRead s
  | .timeSet => Sys2Proof.Machine.execTimeSet s
  | .incNsWrite v => Sys2Proof.Machine.execIncNsWrite v s
  | .tcmpTgtWrite c v => Sys2Proof.Machine.execTcmpTgtWrite c v s
  | .timeCompareFire c => Sys2Proof.Machine.execTimeCompareFire c s
  | .servoOffset src offQ16 => Sys2Proof.Machine.execServoOffset src offQ16 s
  | .holdoverTimeout => Sys2Proof.Machine.execHoldoverTimeout s
  | .srvSrcWrite v => Sys2Proof.Machine.execSrvSrcWrite v s
  | .ppsInEdge => Sys2Proof.Machine.execPpsInEdge s
  | .ppsMissTimeout => Sys2Proof.Machine.execPpsMissTimeout s
  | .ppsOutRise => Sys2Proof.Machine.execPpsOutRise s
  | .ppsOutFall => Sys2Proof.Machine.execPpsOutFall s
  | .ethFrameReceived port f => Sys2Proof.Machine.execEthFrameReceived port f s
  | .prpEntryExpired pair srcMac seq => Sys2Proof.Machine.execPrpEntryExpired pair srcMac seq s
  | .ethLinkDown port => Sys2Proof.Machine.execEthLinkDown port s
  | .anRestart port => Sys2Proof.Machine.execAnRestart port s
  | .sfpRead port v => Sys2Proof.Machine.execSfpRead port v s
  | .sfpReadDone port result data => Sys2Proof.Machine.execSfpReadDone port result data s
  | .prpSupervisionSend pair => Sys2Proof.Machine.execPrpSupervisionSend pair s
  | .svFrameReceived f => Sys2Proof.Machine.execSvFrameReceived f s
  | .svStreamTimeout j => Sys2Proof.Machine.execSvStreamTimeout j s
  | .gooseNewState pub => Sys2Proof.Machine.execGooseNewState pub s
  | .gooseRepeat pub => Sys2Proof.Machine.execGooseRepeat pub s
  | .gpDataWrite v => Sys2Proof.Machine.execGpDataWrite v s
  | .gooseFrameReceived f => Sys2Proof.Machine.execGooseFrameReceived f s
  | .gooseSubTimeout j => Sys2Proof.Machine.execGooseSubTimeout j s
  | .ptpSyncReceived h t1 corr t2 => Sys2Proof.Machine.execPtpSyncReceived h t1 corr t2 s
  | .ptpMessageReceived h m => Sys2Proof.Machine.execPtpMessageReceived h m s
  | .ptpIntervalSend port k => Sys2Proof.Machine.execPtpIntervalSend port k s
  | .svsInfoWrite v => Sys2Proof.Machine.execSvsInfoWrite v s
  | .svcInfoWrite v => Sys2Proof.Machine.execSvcInfoWrite v s
  | .gsInfoWrite v => Sys2Proof.Machine.execGsInfoWrite v s
  | .canopyPortUp port => Sys2Proof.Machine.execCanopyPortUp port s
  | .canopyPortDown port => Sys2Proof.Machine.execCanopyPortDown port s
  | .devidWrite v => Sys2Proof.Machine.execDevidWrite v s
  | .canopyMessageReceived port lanes => Sys2Proof.Machine.execCanopyMessageReceived port lanes s
  | .canopyTxNext port => Sys2Proof.Machine.execCanopyTxNext port s
  | .canopySend n v => Sys2Proof.Machine.execCanopySend n v s
  | .sessionRto n => Sys2Proof.Machine.execSessionRto n s
  | .sessionDeadline n => Sys2Proof.Machine.execSessionDeadline n s
  | .sessEnable => Sys2Proof.Machine.execSessEnable s
  | .sessDisable => Sys2Proof.Machine.execSessDisable s
  | .rxRel => Sys2Proof.Machine.execRxRel s
  | .sessIdxWrite v => Sys2Proof.Machine.execSessIdxWrite v s
  | .dataReceived port m => Sys2Proof.Machine.execDataReceived port m s
  | .ackReceived port m => Sys2Proof.Machine.execAckReceived port m s
  | .treqSend port => Sys2Proof.Machine.execTreqSend port s
  | .treqReceived port m t2 t3 => Sys2Proof.Machine.execTreqReceived port m t2 t3 s
  | .trespReceived port m t1 t4 => Sys2Proof.Machine.execTrespReceived port m t1 t4 s
  | .hbReceived port m => Sys2Proof.Machine.execHbReceived port m s
  | .ckptReceived port m => Sys2Proof.Machine.execCkptReceived port m s
  | .staticReceived port m => Sys2Proof.Machine.execStaticReceived port m s
  | .handoverReceived port m => Sys2Proof.Machine.execHandoverReceived port m s
  | .withdrawReceived port m => Sys2Proof.Machine.execWithdrawReceived port m s
  | .heartbeatTimeout => Sys2Proof.Machine.execHeartbeatTimeout s
  | .checkpointCapture => Sys2Proof.Machine.execCheckpointCapture s
  | .checkpointBufferCopy handle => Sys2Proof.Machine.execCheckpointBufferCopy handle s
  | .ungateComplete g => Sys2Proof.Machine.execUngateComplete g s
  | .ungateTimeout g => Sys2Proof.Machine.execUngateTimeout g s
  | .takeoverRestore restoreNs => Sys2Proof.Machine.execTakeoverRestore restoreNs s
  | .handover => Sys2Proof.Machine.execHandover s
  | .warmSupEnd => Sys2Proof.Machine.execWarmSupEnd s
  | .roleAssignment => Sys2Proof.Machine.execRoleAssignment s
  | .safeStartDone selfTestOk => Sys2Proof.Machine.execSafeStartDone selfTestOk s
  | .safeInputSample a b pulse settled rst => Sys2Proof.Machine.execSafeInputSample a b pulse settled rst s
  | .safeLogicCycle c => Sys2Proof.Machine.execSafeLogicCycle c s
  | .testPulse j => Sys2Proof.Machine.execTestPulse j s
  | .discTimeout k => Sys2Proof.Machine.execDiscTimeout k s
  | .twohandSyncTimeout pair => Sys2Proof.Machine.execTwohandSyncTimeout pair s
  | .safeRstRelease heldUs selfTestOk => Sys2Proof.Machine.execSafeRstRelease heldUs selfTestOk s
  | .edmOnTimeout k edmHigh => Sys2Proof.Machine.execEdmOnTimeout k edmHigh s
  | .edmOffTimeout k edmHigh => Sys2Proof.Machine.execEdmOffTimeout k edmHigh s
  | .outputTestPulse k channelB pulseSeen => Sys2Proof.Machine.execOutputTestPulse k channelB pulseSeen s
  | .garnetPduReceived c pdu => Sys2Proof.Machine.execGarnetPduReceived c pdu s
  | .garnetPduSend c => Sys2Proof.Machine.execGarnetPduSend c s
  | .garnetWatchdog c => Sys2Proof.Machine.execGarnetWatchdog c s
  | .garnetFailedEnd c => Sys2Proof.Machine.execGarnetFailedEnd c s
  | .garnetErrWindowEnd c => Sys2Proof.Machine.execGarnetErrWindowEnd c s
  | .quote => Sys2Proof.Machine.execQuote s
  | .quoteDone => Sys2Proof.Machine.execQuoteDone s
  | .dbgChal challenge => Sys2Proof.Machine.execDbgChal challenge s
  | .dbgAuth => Sys2Proof.Machine.execDbgAuth s
  | .dbgClose => Sys2Proof.Machine.execDbgClose s
  | .commitSvn => Sys2Proof.Machine.execCommitSvn s
  | .retArmWrite v => Sys2Proof.Machine.execRetArmWrite v s
  | .retArmExpired => Sys2Proof.Machine.execRetArmExpired s
  | .returnPrep => Sys2Proof.Machine.execReturnPrep s
  | .returnPrepDone => Sys2Proof.Machine.execReturnPrepDone s
  | .store part => Sys2Proof.Machine.execStore part s
  | .storeDone readBackOk => Sys2Proof.Machine.execStoreDone readBackOk s
  | .reload => Sys2Proof.Machine.execReload s
  | .imgCommit => Sys2Proof.Machine.execImgCommit s
  | .bootPrefWrite v => Sys2Proof.Machine.execBootPrefWrite v s
  | .nvmRefresh sector r => Sys2Proof.Machine.execNvmRefresh sector r s
  | .pathSlackLow g slack ack => Sys2Proof.Machine.execPathSlackLow g slack ack s
  | .avsStepWaitEnd g slack => Sys2Proof.Machine.execAvsStepWaitEnd g slack s
  | .marginHigh24h ack => Sys2Proof.Machine.execMarginHigh24h ack s
  | .groveClockStep g => Sys2Proof.Machine.execGroveClockStep g s
  | .budgetWindowEnd => Sys2Proof.Machine.execBudgetWindowEnd s
  | .wearThreshold unit => Sys2Proof.Machine.execWearThreshold unit s
  | .spareBringIn unit => Sys2Proof.Machine.execSpareBringIn unit s
  | .blockFrameRepeat => Sys2Proof.Machine.execBlockFrameRepeat s
  | .serviceReplyTimeout ring => Sys2Proof.Machine.execServiceReplyTimeout ring s
  | .ptpAnnounceReceiptTimeout port => Sys2Proof.Machine.execPtpAnnounceReceiptTimeout port s
  | .autoNegotiationDone port fullDuplex => Sys2Proof.Machine.execAutoNegotiationDone port fullDuplex s
  | .invalidSyncHeader e => Sys2Proof.Machine.execInvalidSyncHeader e s
  | .imageVerifyDone slot => Sys2Proof.Machine.execImageVerifyDone slot s
  | .pcieLinkUp speed width => Sys2Proof.Machine.execPcieLinkUp speed width s
  | .pcieLinkDown refclkLost => Sys2Proof.Machine.execPcieLinkDown refclkLost s
  | .operatingHour => Sys2Proof.Machine.execOperatingHour s

end Sys2Proof.Machine
end

