-- ==== Sys2Proof/Machine/Step.lean ====
section
/-! DEFINITION. One step: the command at the front of the queue takes effect; with no command waiting, one 500 MHz tick passes
(DESIGN CHOICE, notes/assumptions/1.md). -/

namespace Sys2Proof.Machine

/-- R8, R348: one tick of 2 ns: device time advances by TIME_INC, and the PWM channels count. -/
def State.tick (s : State) : State := s.timeTick.pwmTick

/-- One step of the block. -/
def step (s : State) : Host.Outcome State Fault Refusal :=
  match s.pending with
  | [] => .next s.tick
  | c :: rest => exec c { s with pending := rest }

/-- The state with the command that a word spells at the front of its queue; no word spells one. -/
def State.withFetchWord (s : State) (nbits w : Nat) : State :=
  match decodeTableWord nbits w with
  | none => s
  | some c => { s with pending := c :: s.pending }

end Sys2Proof.Machine
end

