-- ==== Sys2Proof/Safety.lean ====
section
/-! DEFINITION. The terms that claims use: the canonical form of the state's stores, a device in service, and what a command
leaves alone. -/

namespace Sys2Proof.Machine

/-- The byte memory and the register store are in their canonical forms. -/
def State.canonical (s : State) : Bool := s.mem.wf && keysRise none s.regs

/-- Every glade of the variant runs (R12, R16, R17). -/
def State.gladesUp (s : State) : Bool := (List.range 44).all (fun g => !gladePresent s.variant g || s.up g)

/-- The device is in service: start-up has applied an image, the part is not prepared for return, no L4 stands, no unit and no
link is fenced, every glade of the variant runs, and the stores are canonical. -/
def State.inService (s : State) : Bool :=
  decide (s.host.phase = .applied) && !s.returned && !s.flt.l4 && s.flt.units.isEmpty && s.host.links.isEmpty && s.gladesUp && s.canonical

/-- The device is in service, and an address stands on a page of a glade that the variant has (R1, R12, R819). -/
def State.takes (s : State) (addr : Nat) : Bool :=
  s.inService && (match pageGlade addr with
    | some g => gladePresent s.variant g && !pageAbsent s.variant addr
    | none => false)

/-- Every register field outside a list holds the same value in both states. -/
def RegsKeptBut (l : List Field) (s t : State) : Prop := ∀ G : Field, (∀ F ∈ l, G.key ≠ F.key) → t.get G = s.get G

/-- A command answers a next state with a property. -/
def Reaches (c : Instr) (s : State) (P : State → Prop) : Prop := ∃ t, exec c s = .next t ∧ P t

/-- R687, R709: the island has just gone from RUN to LOCKOUT for one cause: every output is off, and LOCKOUT is flagged. -/
def LockedOut (code idx : Nat) (t : State) : Prop :=
  t.safe.mode = .lockout ∧ t.safe.causes = [(code, idx)] ∧ (∀ k, k < 4 → (t.sOut k).on = false) ∧ t.get R.SAFE_SSTAT_LOCKOUT = 1

end Sys2Proof.Machine
end

