-- ==== Sys2Proof/WellFormed.lean ====
section
/-! DEFINITION. Well-formed commands: every operand lies within the width that the spec gives the field, the number or the signal it
stands for. The meanings are total and do not rely on it. -/

namespace Sys2Proof

/-! ## Checks of one operand -/

/-- R819, R824: a word. -/
def okWord (v : Nat) : Bool := decide (v < 2 ^ 32)
/-- R209, R612: a block of 64 bits. -/
def okBlock (x : Nat) : Bool := decide (x < 2 ^ 64)
/-- R209: a coded block: its sync header and its payload. -/
def okCoded (b : Nat × Nat) : Bool := decide (b.1 < 4) && okBlock b.2
/-- R13: a unit identifier. -/
def okUnit (u : Nat) : Bool := decide (u < 2 ^ 16)
/-- R12: a glade of the largest variant. -/
def okGlade (g : Nat) : Bool := decide (g ≤ 10) || decide (16 ≤ g ∧ g < 19) || decide (32 ≤ g ∧ g < 44)
/-- R819: the offset of a word in BAR0. -/
def okAddr (a : Nat) : Bool := decide (a < 2 ^ 24) && decide (a % 4 = 0)
/-- R821: the byte enables of a word. -/
def okByteEn (b : Nat) : Bool := decide (b < 16)
/-- R264: a lane. -/
def okLane (l : Nat) : Bool := decide (l < 116)
/-- R12: a ring of the largest variant. -/
def okRing (n : Nat) : Bool := decide (n < 96)
/-- R105: a sub-module, 16 for each ring. -/
def okSm (i : Nat) : Bool := decide (i < 1536)
/-- R212, R465: a slot of a ring, or a window of a task. -/
def okSlot (k : Nat) : Bool := decide (k < 16)
/-- R307: a loop unit. -/
def okLoop (k : Nat) : Bool := decide (k < 32)
/-- R348: a PWM channel. -/
def okChannel (c : Nat) : Bool := decide (c < 16)
/-- R387, R424, R319: one of two. -/
def okPair (i : Nat) : Bool := decide (i < 2)
/-- R539, R610, R870: one of four. -/
def okPort (p : Nat) : Bool := decide (p < 4)
/-- R12, R488: a grove core, the spares among them, numbered 9 g + k. -/
def okCore (u : Nat) : Bool := decide (u < 27)
/-- R459: an integer register field. -/
def okXReg (r : Nat) : Bool := decide (r < 32)
/-- R465: a task. -/
def okTask (t : Nat) : Bool := decide (t < 512)
/-- R481: a buffer handle. -/
def okHandle (h : Nat) : Bool := decide (h < 1024)
/-- R618: a session. -/
def okSess (x : Nat) : Bool := decide (x < 256)
/-- R686: a safety input. -/
def okSafeIn (i : Nat) : Bool := decide (i < 12)
/-- R705: a Garnet connection. -/
def okConn (c : Nat) : Bool := decide (c < 32)
/-- R470: a tag of the matching store and an operand of its instance. -/
def okOperand (tag idx : Nat) : Bool := decide (tag < 1024) && decide (idx < 8)
/-- R545, R546, R554: a stream, channel or subscription number. -/
def okNetNo (j : Nat) : Bool := decide (j < 256)
/-- R768: an NVM sector. -/
def okSector (k : Nat) : Bool := decide (k < 2048)
/-- R775: an NVM partition that STORE names, in the width of CTRL.PART. -/
def okPart (p : Nat) : Bool := decide (p < 4)
/-- R14, R15: what a clock monitor watches. -/
def okSource : ClockSource → Bool
  | .glade g => okGlade g
  | .backup => true
/-- R733: a level. -/
def okLevel : LevelReq → Bool
  | .l0 => true
  | .base => true
  | .atLeast l => decide (l ≤ 4)
/-- R732: an event. -/
def okEvent (e : Event) : Bool := okUnit e.unit && okLevel e.req && okWord e.aux
/-- R480: a writer. -/
def okWriter : Writer → Bool
  | .host => true
  | .spi => true
  | .core u t => okUnit u && okTask t
/-- R482: a place for a buffer. -/
def okLoc : BufLoc → Bool
  | .grove g o => decide (g < 3) && decide (o < 0x200000)
  | .device o => decide (o < 0x1000000)
  | .sram u o => okCore u && decide (o < 0x10000)
/-- R276: an alignment marker. -/
def okMarker (m : Marker) : Bool := decide (m.lane < 4) && okPort m.port && decide (m.device < 1024) && decide (m.seq < 256)
/-- R613: a Canopy message. -/
def okMsg (m : CMsg) : Bool :=
  decide (m.mtype < 16) && decide (m.dst < 1024) && decide (m.src < 1024) && decide (m.hops < 16) && decide (m.sess < 256)
    && decide (m.seq < 256) && okWord m.tag && okWord m.aux && decide (m.payload.length ≤ 256) && okWord m.mcrc
/-- R539: an Ethernet frame. -/
def okFrame (f : EthFrame) : Bool := decide (f.etype < 2 ^ 16) && decide (f.srcMac < 2 ^ 48)
/-- R545: a sampled-value frame. -/
def okSvFrame (f : SvFrame) : Bool :=
  decide (f.dst < 2 ^ 48) && decide (f.srcMac < 2 ^ 48) && decide (f.appid < 2 ^ 16) && f.asdus.all (fun a => decide (a.smpCnt < 2 ^ 16))
/-- R554: a GOOSE frame. -/
def okGoose (f : GooseFrame) : Bool := decide (f.dst < 2 ^ 48) && decide (f.srcMac < 2 ^ 48) && decide (f.appid < 2 ^ 16) && okWord f.confRev && okWord f.stNum && okWord f.sqNum
/-- R556: the head of a PTP message. -/
def okPtpHead (h : PtpHead) : Bool := okPort h.port && decide (h.srcMac < 2 ^ 48) && decide (h.domain < 256) && decide (h.sender < 2 ^ 80)
/-- R213, R214: H0 has 56 bits, H1 is a block. -/
def okHeader (h : RxHeader) : Bool := decide (h.h0 < 2 ^ 56) && okBlock h.h1
/-- R211 to R219: a ring frame that comes back; the longest has 99 blocks. -/
def okRxFrame (f : RxFrame) : Bool :=
  okHeader f.toRxHeader && f.body.all okBlock && decide (f.body.length ≤ 96) && f.crc.all okBlock
/-- R684, R697: what a logic cycle of the safety island reads. -/
def okChecks (c : SafeChecks) : Bool := decide (c.readA < 16) && decide (c.readB < 16) && decide (c.edm < 16)
/-- R465: a task's declaration. -/
def okDecl (d : TaskDecl) : Bool :=
  okTask d.num && decide (d.prio < 4) && decide (d.tb < 2 ^ 16) && decide (d.rb < 2 ^ 16) && d.bufs.all (fun b => okHandle b.1 && okSlot b.2.1)
/-- R481: a buffer's declaration. -/
def okBuf (b : BufDecl) : Bool := okHandle b.handle && decide (8 ≤ b.size) && okLoc b.loc
/-- R870: what the image expects on a bus. -/
def okBoard (b : BoardExpect) : Bool := okPort b.bus && decide (b.btype < 2 ^ 16) && okLane b.first && decide (1 ≤ b.cnt ∧ b.cnt ≤ 116)
/-- R868: the sections of an image. -/
def okImage (img : Image) : Bool :=
  img.tasks.all okDecl && img.buffers.all okBuf && img.boards.all okBoard
    && img.regs.all (fun e => okAddr e.1 && okWord e.2)
    && img.streams.all (fun d => okNetNo d.num) && img.channels.all (fun d => okNetNo d.num) && img.pubs.all (fun d => okPort d.num)
    && img.subs.all (fun d => okNetNo d.num) && img.sessions.all (fun d => okSess d.num)

/-! ## Commands -/

/-- A command is well-formed: each operand passes its check. -/
def Instr.wf : Instr → Bool
  | .powerOnReset _ _ => true
  | .porRelease => true
  | .pllLocked => true
  | .gladeResetExit g => okGlade g
  | .bootVerifyComplete _ mode _ => decide (mode < 256)
  | .imageApply img => okImage img
  | .boardIdentify bus bytes => okPort bus && decide (bytes.length ≤ 32)
  | .sfpIdentify port byte0 => okPort port && byte0.all (fun b => decide (b < 256))
  | .clkEdgeTimeout src => okSource src
  | .clkFreqWindow src _ => okSource src
  | .linkRxTimeout src dst _ => okGlade src && okGlade dst
  | .linkAckTimeout src dst _ => okGlade src && okGlade dst
  | .linkParityError src dst t _ => okGlade src && okGlade dst && okUnit t.unit && t.host.all okAddr
  | .supplyExcursion rail => decide (1 ≤ rail ∧ rail ≤ 7)
  | .tjLimitExceeded g _ => okGlade g
  | .faultEvent e => e.all okEvent
  | .faultCauseCleared _ unit => okUnit unit.unit && okWord unit.aux
  | .rwtVoteDisagree addr lo c0 c1 c2 => okAddr addr && decide (lo < 32) && okWord c0 && okWord c1 && okWord c2
  | .faultAck mask => okWord mask
  | .unfence _ id _ => okUnit id
  | .histClr => true
  | .recIdxWrite v => okWord v
  | .registerWrite w addr v byteEn _ => okWriter w && okAddr addr && okWord v && okByteEn byteEn
  | .statusRead addr _ => okAddr addr
  | .unlockWrite w v => okWriter w && okWord v
  | .unlockArmExpired => true
  | .eoi0 => true
  | .eoi1 => true
  | .pcieReset _ => true
  | .spiRead ofs _ _ => decide (ofs < 2 ^ 24)
  | .spiWrite ofs _ _ => decide (ofs < 2 ^ 24)
  | .spiDread _ => true
  | .spiDwrite f => decide (f.opcode < 256)
  | .spiStatus => true
  | .dpAddrWrite v => okWord v
  | .dpDataRead => true
  | .dpDataWrite v => okWord v
  | .dpBurstRead _ => true
  | .dpBurstWrite _ => true
  | .memoryScrub addr _ => decide (addr < 2 ^ 33)
  | .cycleStart notReady => notReady.all okRing
  | .selectionStart _ => true
  | .commit => true
  | .blockFrameSend ring => okRing ring
  | .goOff => true
  | .goCharge => true
  | .goRun => true
  | .goBlock => true
  | .cycLenWrite v => okWord v
  | .execOfsWrite v => okWord v
  | .cycPhaseWrite v => okWord v
  | .refSlopeWrite v => okWord v
  | .statusSlotReceived ring slot h s0 s1 s2 s3 =>
    okRing ring && okSlot slot && okHeader h && okBlock s0 && okBlock s1 && okBlock s2 && okBlock s3
  | .frameReturn ring f => okRing ring && okRxFrame f
  | .recordAgeLimit i => okSm i
  | .keySave => true
  | .keySaveDone => true
  | .smIdxWrite v => okWord v
  | .dcmdPost w v => okWriter w && okWord v
  | .hold i => okSm i
  | .release i => okSm i
  | .fbpClr i => okSm i
  | .fire i => okSm i
  | .holdInfoWrite v => okWord v
  | .holdBlkReached i => okSm i
  | .leakRoundStart => true
  | .leakResultTimeout i => okSm i
  | .fbpTimeout i => okSm i
  | .ringEnSet ring => okRing ring
  | .ringEnClear ring => okRing ring
  | .ringAdmitWrite ring => okRing ring
  | .ringAdmission ring => okRing ring
  | .probeComplete ring p => okRing ring && decide (p.rts.length = 256) && decide (p.turn < 2 ^ 15) && p.probes.all okBlock
  | .probeTimeout ring => okRing ring
  | .enumFrameReturn ring h b => okRing ring && okRxFrame ⟨h, b⟩
  | .enumTimeout ring => okRing ring
  | .serviceAccessStart ring v => okRing ring && okWord v
  | .serviceFrameSend ring => okRing ring
  | .serviceFrameReturn ring f => okRing ring && okRxFrame f
  | .ringForeignFrame ring dir => okRing ring && decide (dir < 2)
  | .repeatFrameStart f => okLane f.lane && f.blocks.all okCoded
  | .laneEnable lane => okLane lane
  | .laneDisable lane => okLane lane
  | .laneCalDone lane => okLane lane
  | .laneSignalAcquired lane _ => okLane lane
  | .laneAcqTimeout lane => okLane lane
  | .laneAdaptDone lane _ => okLane lane
  | .laneBlockLock lane => okLane lane
  | .laneSyncTimeout lane => okLane lane
  | .laneLossOfLock lane _ => okLane lane
  | .laneSignalLost lane => okLane lane
  | .lolWindowEnd lane => okLane lane
  | .readapt lane => okLane lane
  | .readaptDone lane _ => okLane lane
  | .txEqWrite lane v => okLane lane && okWord v
  | .elasticRecentre lane => okLane lane
  | .alignMarkerSend port => okPort port
  | .markerSetReceived port ms => okPort port && ms.all okMarker
  | .prbsError lane => okLane lane
  | .esGo lane v => okLane lane && okWord v
  | .esStop lane => okLane lane
  | .esFree lane => okLane lane
  | .eyeScanStart lane => okLane lane
  | .eyeScanPointDone lane _ => okLane lane
  | .crossScanDue lane => okLane lane
  | .crossScanDone lane hErrs vErrs => okLane lane && decide (hErrs.length = 64) && decide (vErrs.length = 127)
  | .loopTrigger unit => okLoop unit
  | .loopSample unit => okLoop unit
  | .loopEnable unit => okLoop unit
  | .loopDisable unit => okLoop unit
  | .uSpWrite unit v => okLoop unit && okWord v
  | .uIntHiWrite unit v => okLoop unit && okWord v
  | .uIntLoRead unit => okLoop unit
  | .loopAllOff page => okPair page
  | .pwmPeriodStart ch => okChannel ch
  | .pwmTurnOff ch => okChannel ch
  | .chPerWrite ch v => okChannel ch && okWord v
  | .chCmpWrite ch v => okChannel ch && okWord v
  | .pwmEnable ch => okChannel ch
  | .syncPulse ch => okChannel ch
  | .syncInEdge => true
  | .xdeadWaitEnd ch => okChannel ch
  | .gdFltAssert ch => okChannel ch
  | .blankEnd ch _ => okChannel ch
  | .fltClr ch _ => okChannel ch
  | .gsLow ch => okChannel ch
  | .gsHigh ch => okChannel ch
  | .resume => true
  | .pwmAllOff => true
  | .safeLvlWrite v => okWord v
  | .xpairWrite v => okWord v
  | .posCountEdge i _ _ _ _ => okPair i
  | .posIndexEdge i => okPair i
  | .posWindowEnd i => okPair i
  | .posEnable i => okPair i
  | .cmpArm i => okPair i
  | .idxArm i => okPair i
  | .posWrite i v => okPair i && okWord v
  | .cmpPosWrite i v => okPair i && okWord v
  | .spdnetRead i => okPair i
  | .emuEnable i => okPair i
  | .emuOutputStep i => okPair i
  | .adcGo c => okPair c
  | .adcTrigger c => okPair c
  | .adcLastSample c => okPair c
  | .adcBurstDone c codes => okPair c && codes.all (fun x => decide (x < 2 ^ 16))
  | .adcStop c => okPair c
  | .calNow c => okPair c
  | .adcCalDue c => okPair c
  | .adcRecalStart c _ => okPair c
  | .adcRecalDone c _ _ => okPair c
  | .adcCalRetry c _ => okPair c
  | .pxMulq16 core rd rs1 rs2 => okCore core && okXReg rd && okXReg rs1 && okXReg rs2
  | .pxMacq16 core rd rs1 rs2 => okCore core && okXReg rd && okXReg rs1 && okXReg rs2
  | .pxMulq24 core rd rs1 rs2 => okCore core && okXReg rd && okXReg rs1 && okXReg rs2
  | .pxMacq24 core rd rs1 rs2 => okCore core && okXReg rd && okXReg rs1 && okXReg rs2
  | .pxPoste core rs1 => okCore core && okXReg rs1
  | .pxPosto core rd rs1 rs2 idx => okCore core && okXReg rd && okXReg rs1 && okXReg rs2 && okOperand 0 idx
  | .pxOpget core rd idx => okCore core && okXReg rd && okOperand 0 idx
  | .pxEndw core => okCore core
  | .workItemAbort core _ pc _ => okCore core && okWord pc
  | .runBoundExpired core pc => okCore core && okWord pc
  | .flagPost flags => okWord flags
  | .operandPost tag idx v => okOperand tag idx && okWord v
  | .operandStallTimeout => true
  | .dispatch task core => okTask task && okCore core
  | .stagingDone core => okCore core
  | .taskEnable => true
  | .taskDisable => true
  | .taskIdxWrite v => okWord v
  | .hostFlagPost v => okWord v
  | .hopValWrite v => okWord v
  | .bufferMoveStart handle dest => okHandle handle && okLoc dest
  | .bufferMoveDone handle => okHandle handle
  | .traceSnap => true
  | .coreDebugHalt core => okCore core
  | .coreDebugResume core => okCore core
  | .nowLoRead => true
  | .timeSet => true
  | .incNsWrite v => okWord v
  | .tcmpTgtWrite c v => okPort c && okWord v
  | .timeCompareFire c => okPort c
  | .servoOffset src _ => decide (src < 4)
  | .holdoverTimeout => true
  | .srvSrcWrite v => okWord v
  | .ppsInEdge => true
  | .ppsMissTimeout => true
  | .ppsOutRise => true
  | .ppsOutFall => true
  | .ethFrameReceived port f => okPort port && okFrame f
  | .prpEntryExpired pair srcMac seq => okPair pair && decide (srcMac < 2 ^ 48) && decide (seq < 2 ^ 16)
  | .ethLinkDown port => okPort port
  | .anRestart port => okPort port
  | .sfpRead port v => okPort port && okWord v
  | .sfpReadDone port result data => okPort port && decide (result < 16) && okWord data
  | .prpSupervisionSend pair => okPair pair
  | .svFrameReceived f => okSvFrame f
  | .svStreamTimeout j => okNetNo j
  | .gooseNewState pub => okPort pub
  | .gooseRepeat pub => okPort pub
  | .gpDataWrite v => okWord v
  | .gooseFrameReceived f => okGoose f
  | .gooseSubTimeout j => okNetNo j
  | .ptpSyncReceived h _ _ _ => okPtpHead h
  | .ptpMessageReceived h _ => okPtpHead h
  | .ptpIntervalSend port _ => okPort port
  | .svsInfoWrite v => okWord v
  | .svcInfoWrite v => okWord v
  | .gsInfoWrite v => okWord v
  | .canopyPortUp port => okPort port
  | .canopyPortDown port => okPort port
  | .devidWrite v => okWord v
  | .canopyMessageReceived port lanes => okPort port && decide (lanes.length = 4) && lanes.all (fun l => l.all okCoded && decide (l.length ≤ 10))
  | .canopyTxNext port => okPort port
  | .canopySend n v => okSess n && okWord v
  | .sessionRto n => okSess n
  | .sessionDeadline n => okSess n
  | .sessEnable => true
  | .sessDisable => true
  | .rxRel => true
  | .sessIdxWrite v => okWord v
  | .dataReceived port m => okPort port && okMsg m
  | .ackReceived port m => okPort port && okMsg m
  | .treqSend port => okPort port
  | .treqReceived port m _ _ => okPort port && okMsg m
  | .trespReceived port m _ _ => okPort port && okMsg m
  | .hbReceived port m => okPort port && okMsg m
  | .ckptReceived port m => okPort port && okMsg m
  | .staticReceived port m => okPort port && okMsg m
  | .handoverReceived port m => okPort port && okMsg m
  | .withdrawReceived port m => okPort port && okMsg m
  | .heartbeatTimeout => true
  | .checkpointCapture => true
  | .checkpointBufferCopy handle => okHandle handle
  | .ungateComplete g => okGlade g
  | .ungateTimeout g => okGlade g
  | .takeoverRestore _ => true
  | .handover => true
  | .warmSupEnd => true
  | .roleAssignment => true
  | .safeStartDone _ => true
  | .safeInputSample a b pulse _ _ => decide (a < 2 ^ 12) && decide (b < 2 ^ 12) && pulse.all okPort
  | .safeLogicCycle c => okChecks c
  | .testPulse j => okPort j
  | .discTimeout i => okSafeIn i
  | .twohandSyncTimeout pair => decide (pair < 6)
  | .safeRstRelease _ _ => true
  | .edmOnTimeout k _ => okPort k
  | .edmOffTimeout k _ => okPort k
  | .outputTestPulse k _ _ => okPort k
  | .garnetPduReceived c _ => okConn c
  | .garnetPduSend c => okConn c
  | .garnetWatchdog c => okConn c
  | .garnetFailedEnd c => okConn c
  | .garnetErrWindowEnd c => okConn c
  | .quote => true
  | .quoteDone => true
  | .dbgChal challenge => decide (challenge.length = 64)
  | .dbgAuth => true
  | .dbgClose => true
  | .commitSvn => true
  | .retArmWrite v => okWord v
  | .retArmExpired => true
  | .returnPrep => true
  | .returnPrepDone => true
  | .store part => okPart part
  | .storeDone _ => true
  | .reload => true
  | .imgCommit => true
  | .bootPrefWrite v => okWord v
  | .nvmRefresh sector _ => okSector sector
  | .pathSlackLow g _ _ => okGlade g
  | .avsStepWaitEnd g _ => okGlade g
  | .marginHigh24h _ => true
  | .groveClockStep g => decide (g < 3)
  | .budgetWindowEnd => true
  | .wearThreshold unit => okUnit unit.what.unit
  | .spareBringIn unit => okUnit unit.unit
  | .blockFrameRepeat => true
  | .serviceReplyTimeout ring => okRing ring
  | .ptpAnnounceReceiptTimeout port => okPort port
  | .autoNegotiationDone port _ => okPort port
  | .invalidSyncHeader e => okLane e.lane
  | .imageVerifyDone slot => okPair slot
  | .pcieLinkUp _ _ => true
  | .pcieLinkDown _ => true
  | .operatingHour => true

end Sys2Proof
end

