-- ==== Sys2Proof/Certificates/Slice0/Obligations.lean ====
section
/-! DEFINITION. The statements for the provers. `Reaches c s P` says that the command `c` answers a next state at `s` and that P holds
of it; `s.inService` is a device in service (Safety.lean). -/

open Sys2Proof Sys2Proof.Machine

/-- For every command c, state s and queue rest, a step of s with c at the front of its queue is exec of c on s with the rest of the queue. Every one of the 287 forms completes in every state: a command that is no write of a register answers the state that its effect makes, and one that is such a write does so wherever the device is in service and the register stands on a page of a glade that the variant has. -/
def Obligations.StepRunsFrontCommand : Prop :=
  (∀ (c : Instr) (s : State) (rest : List Instr), step { s with pending := c :: rest } = exec c { s with pending := rest })
    ∧ (∀ s : State,
    ((∀ (lowNs : Nat) (vsafeLow : Bool), exec (.powerOnReset lowNs vsafeLow) s = .next (powerOnEffect lowNs vsafeLow s))
      ∧ (exec .porRelease s = .next (porReleaseEffect s))
      ∧ (exec .pllLocked s = .next (pllLockedEffect s))
      ∧ (∀ (g : Nat), exec (.gladeResetExit g) s = .next (gladeExitEffect g s))
      ∧ (∀ (modeAck : Bool) (mode : Nat) (cmdAck : Bool), exec (.bootVerifyComplete modeAck mode cmdAck) s = .next (bootVerifyEffect (if modeAck then some mode else none) cmdAck s))
      ∧ (∀ (img : Image), exec (.imageApply img) s = .next (imageApplyEffect img s))
      ∧ (∀ (bus : Nat) (bytes : List Byte), exec (.boardIdentify bus bytes) s = .next (boardEffect bus bytes s))
      ∧ (∀ (port : Nat) (byte0 : Option Nat), exec (.sfpIdentify port byte0) s = .next (sfpEffect port byte0 s))
      ∧ (∀ (src : ClockSource), exec (.clkEdgeTimeout src) s = .next (clkEdgeEffect src s))
      ∧ (∀ (src : ClockSource) (khz : Nat), exec (.clkFreqWindow src khz) s = .next (clkFreqEffect src khz s))
      ∧ (∀ (src dst : Nat) (lost : LinkLoss), exec (.linkRxTimeout src dst lost) s = .next (linkRxEffect src dst lost.writes lost.read s))
      ∧ (∀ (src dst : Nat) (lost : LinkLoss), exec (.linkAckTimeout src dst lost) s = .next (linkAckEffect src dst lost.writes lost.read s))
      ∧ (∀ (src dst : Nat) (x : Transfer) (isRead : Bool), exec (.linkParityError src dst x isRead) s = .next (linkParityEffect src dst x isRead s))
      ∧ (∀ (rail : Nat), exec (.supplyExcursion rail) s = .next (supplyEffect rail s))
      ∧ (∀ (g : Nat) (tj : Int), exec (.tjLimitExceeded g tj) s = .next (tjLimitEffect g tj s))
      ∧ (∀ (e : Option Event), exec (.faultEvent e) s = .next (faultEventEffect e s))
      ∧ (∀ (cls : FaultClass) (unit : CauseOf), exec (.faultCauseCleared cls unit) s = .next (causeClearedEffect cls unit s)))
    ∧ ((∀ (addr lo c0 c1 c2 : Nat), exec (.rwtVoteDisagree addr lo c0 c1 c2) s = .next (voteEffect addr lo c0 c1 c2 s))
      ∧ (∀ (w : Writer) (addr v byteEn : Nat) (parityOk : Bool), exec (.registerWrite w addr v byteEn parityOk) s = .next (registerWriteEffect w addr v byteEn parityOk s))
      ∧ (∀ (addr : Nat) (parityOk : Bool), exec (.statusRead addr parityOk) s = .next (statusReadEffect addr parityOk s))
      ∧ (exec .unlockArmExpired s = .next (unlockExpiredEffect s))
      ∧ (∀ (flr : Bool), exec (.pcieReset flr) s = .next (pcieResetEffect flr s))
      ∧ (∀ (ofs words : Nat) (parityOk : Bool), exec (.spiRead ofs words parityOk) s = .next (spiReadEffect ofs words parityOk s))
      ∧ (∀ (ofs : Nat) (bytes : List Byte) (parityOk : Bool), exec (.spiWrite ofs bytes parityOk) s = .next (spiWriteEffect ofs bytes parityOk s))
      ∧ (∀ (len : Nat) (parityOk : Bool), exec (.spiDread ⟨len, parityOk⟩) s = .next (spiDreadEffect len parityOk s))
      ∧ (∀ (f : SpiFrame), exec (.spiDwrite f) s = .next (spiDwriteEffect f s))
      ∧ (exec .spiStatus s = .next (spiStatusEffect s))
      ∧ (∀ (v : Nat), exec (.dpAddrWrite v) s = .next (dpAddrWriteEffect v s))
      ∧ (exec .dpDataRead s = .next (dpDataReadEffect s))
      ∧ (∀ (v : Nat), exec (.dpDataWrite v) s = .next (dpDataWriteEffect v s))
      ∧ (∀ (len : Nat) (parityOk : Bool), exec (.dpBurstRead ⟨len, parityOk⟩) s = .next (dpBurstReadEffect len parityOk s))
      ∧ (∀ (bytes : List Byte) (parityOk : Bool), exec (.dpBurstWrite ⟨bytes, parityOk⟩) s = .next (dpBurstWriteEffect bytes parityOk s))
      ∧ (∀ (addr : Nat) (r : EccResult), exec (.memoryScrub addr r) s = .next (memoryScrubEffect addr r s))
      ∧ (∀ (notReady : List Nat), exec (.cycleStart notReady) s = .next (cycleStartEffect notReady s)))
    ∧ ((∀ (selNs : Nat), exec (.selectionStart selNs) s = .next (selectionStartEffect selNs s))
      ∧ (exec .commit s = .next (commitEffect s))
      ∧ (∀ (n : Nat), exec (.blockFrameSend n) s = .next (blockFrameEffect n s))
      ∧ (∀ (n slot : Nat) (h : RxHeader) (s0 s1 s2 s3 : Nat), exec (.statusSlotReceived n slot h s0 s1 s2 s3) s = .next (slotReceivedEffect n slot h.h0 h.h1 s0 s1 s2 s3 s))
      ∧ (∀ (n : Nat) (f : RxFrame), exec (.frameReturn n f) s = .next (frameReturnEffect n f s))
      ∧ (∀ (i : Nat), exec (.recordAgeLimit i) s = .next (ageLimitEffect i s))
      ∧ (exec .keySaveDone s = .next (keySaveDoneEffect s))
      ∧ (∀ (i : Nat), exec (.holdBlkReached i) s = .next (holdBlkEffect i s))
      ∧ (∀ (i : Nat), exec (.leakResultTimeout i) s = .next (leakTimeoutEffect i s))
      ∧ (∀ (i : Nat), exec (.fbpTimeout i) s = .next (fbpTimeoutEffect i s))
      ∧ (∀ (n : Nat), exec (.ringAdmission n) s = .next (ringAdmissionEffect n s))
      ∧ (∀ (n : Nat) (p : ProbeRun), exec (.probeComplete n p) s = .next (probeCompleteEffect n p s))
      ∧ (∀ (n : Nat), exec (.probeTimeout n) s = .next (probeTimeoutEffect n s))
      ∧ (∀ (n : Nat) (h : RxHeader) (b : RxBody), exec (.enumFrameReturn n h b) s = .next (enumReturnEffect n ⟨h, b⟩ s))
      ∧ (∀ (n : Nat), exec (.enumTimeout n) s = .next (enumTimeoutEffect n s))
      ∧ (∀ (n : Nat), exec (.serviceFrameSend n) s = .next (svcSendEffect n s))
      ∧ (∀ (n : Nat) (f : RxFrame), exec (.serviceFrameReturn n f) s = .next (svcReturnEffect n f s)))
    ∧ ((∀ (n dir : Nat), exec (.ringForeignFrame n dir) s = .next (foreignFrameEffect n dir s))
      ∧ (∀ (f : RepeatedFrame), exec (.repeatFrameStart f) s = .next (repeatFrameEffect f.lane f.blocks s))
      ∧ (∀ (l : Nat), exec (.laneCalDone l) s = .next (laneCalEffect l s))
      ∧ (∀ (l ppm : Nat), exec (.laneSignalAcquired l ppm) s = .next (laneAcquiredEffect l ppm s))
      ∧ (∀ (l : Nat), exec (.laneAcqTimeout l) s = .next (laneAcqTimeoutEffect l s))
      ∧ (∀ (l rxEq : Nat), exec (.laneAdaptDone l rxEq) s = .next (laneAdaptEffect l rxEq s))
      ∧ (∀ (l : Nat), exec (.laneBlockLock l) s = .next (laneLockEffect l s))
      ∧ (∀ (l : Nat), exec (.laneSyncTimeout l) s = .next (laneSyncTimeoutEffect l s))
      ∧ (∀ (l : Nat) (hiBer : Bool), exec (.laneLossOfLock l hiBer) s = .next (laneLossEffect l hiBer s))
      ∧ (∀ (l : Nat), exec (.laneSignalLost l) s = .next (laneSignalLostEffect l s))
      ∧ (∀ (l : Nat), exec (.lolWindowEnd l) s = .next (lolWindowEffect l s))
      ∧ (∀ (l taps : Nat), exec (.readaptDone l taps) s = .next (readaptDoneEffect l taps s))
      ∧ (∀ (l : Nat), exec (.elasticRecentre l) s = .next (elasticEffect l s))
      ∧ (∀ (p : Nat), exec (.alignMarkerSend p) s = .next (markerSendEffect p s))
      ∧ (∀ (p : Nat) (ms : List Marker), exec (.markerSetReceived p ms) s = .next (markerSetEffect p ms s))
      ∧ (∀ (l : Nat), exec (.prbsError l) s = .next (prbsEffect l s))
      ∧ (∀ (l : Nat), exec (.eyeScanStart l) s = .next (eyeStartEffect l s)))
    ∧ ((∀ (l err : Nat), exec (.eyeScanPointDone l err) s = .next (eyePointEffect l err s))
      ∧ (∀ (l : Nat), exec (.crossScanDue l) s = .next (crossDueEffect l s))
      ∧ (∀ (l : Nat) (hErrs vErrs : List Nat), exec (.crossScanDone l hErrs vErrs) s = .next (crossDoneEffect l hErrs vErrs s))
      ∧ (∀ (k : Nat), exec (.loopTrigger k) s = .next (loopTriggerEffect k s))
      ∧ (∀ (k : Nat), exec (.loopSample k) s = .next (loopSampleEffect k s))
      ∧ (∀ (k : Nat), exec (.uIntLoRead k) s = .next (statusReadEffect (R.U_INT_LO_INT k).addr true s))
      ∧ (∀ (c : Nat), exec (.pwmPeriodStart c) s = .next (periodStartEffect c s))
      ∧ (∀ (c : Nat), exec (.pwmTurnOff c) s = .next (turnOffEffect c s))
      ∧ (∀ (c : Nat), exec (.syncPulse c) s = .next (syncPulseEffect c s))
      ∧ (exec .syncInEdge s = .next (syncInEffect s))
      ∧ (∀ (c : Nat), exec (.xdeadWaitEnd c) s = .next (xdeadEffect c s))
      ∧ (∀ (c : Nat), exec (.gdFltAssert c) s = .next (gdFltEffect c s))
      ∧ (∀ (c : Nat) (asserted : Bool), exec (.blankEnd c asserted) s = .next (blankEndEffect c asserted s))
      ∧ (∀ (c : Nat), exec (.gsLow c) s = .next (gsLowEffect c s))
      ∧ (∀ (c : Nat), exec (.gsHigh c) s = .next (gsHighEffect c s))
      ∧ (∀ (i : Nat) (edgeA edgeB bLevel : Bool) (gap : Nat), exec (.posCountEdge i edgeA edgeB bLevel gap) s = .next (posCountEdgeEffect i edgeA edgeB bLevel gap s))
      ∧ (∀ (i : Nat), exec (.posIndexEdge i) s = .next (posIndexEffect i s)))
    ∧ ((∀ (i : Nat), exec (.posWindowEnd i) s = .next (posWindowEffect i s))
      ∧ (∀ (i : Nat), exec (.spdnetRead i) s = .next (statusReadEffect (R.POS_SPDNET_NET i).addr true s))
      ∧ (∀ (i : Nat), exec (.emuOutputStep i) s = .next (emuStepEffect i s))
      ∧ (∀ (c : Nat), exec (.adcTrigger c) s = .next (adcTriggerEffect c s))
      ∧ (∀ (c : Nat), exec (.adcLastSample c) s = .next (adcLastEffect c s))
      ∧ (∀ (c : Nat) (codes : List Nat), exec (.adcBurstDone c codes) s = .next (adcDoneEffect c codes s))
      ∧ (∀ (c : Nat), exec (.adcCalDue c) s = .next (adcCalDueEffect c s))
      ∧ (∀ (c waitNs : Nat), exec (.adcRecalStart c waitNs) s = .next (adcRecalStartEffect c waitNs s))
      ∧ (∀ (c : Nat) (ofs gain : Int), exec (.adcRecalDone c ofs gain) s = .next (adcRecalDoneEffect c ofs gain s))
      ∧ (∀ (c waitNs : Nat), exec (.adcCalRetry c waitNs) s = .next (adcRetryEffect c waitNs s))
      ∧ (∀ (u rd rs1 rs2 : Nat), exec (.pxMulq16 u rd rs1 rs2) s = .next (pxMulq16Effect u rd rs1 rs2 s))
      ∧ (∀ (u rd rs1 rs2 : Nat), exec (.pxMacq16 u rd rs1 rs2) s = .next (pxMacq16Effect u rd rs1 rs2 s))
      ∧ (∀ (u rd rs1 rs2 : Nat), exec (.pxMulq24 u rd rs1 rs2) s = .next (pxMulq24Effect u rd rs1 rs2 s))
      ∧ (∀ (u rd rs1 rs2 : Nat), exec (.pxMacq24 u rd rs1 rs2) s = .next (pxMacq24Effect u rd rs1 rs2 s))
      ∧ (∀ (u rs1 : Nat), exec (.pxPoste u rs1) s = .next (pxPosteEffect u rs1 s))
      ∧ (∀ (u rd rs1 rs2 idx : Nat), exec (.pxPosto u rd rs1 rs2 idx) s = .next (pxPostoEffect u rd rs1 rs2 idx s))
      ∧ (∀ (u rd idx : Nat), exec (.pxOpget u rd idx) s = .next (pxOpgetEffect u rd idx s)))
    ∧ ((∀ (u : Nat), exec (.pxEndw u) s = .next (pxEndwEffect u s))
      ∧ (∀ (u cause pc tval : Nat), exec (.workItemAbort u cause pc tval) s = .next (itemAbortEffect u cause pc tval s))
      ∧ (∀ (u pc : Nat), exec (.runBoundExpired u pc) s = .next (runBoundEffect u pc s))
      ∧ (∀ (flags : Nat), exec (.flagPost flags) s = .next (flagPostEffect flags s))
      ∧ (∀ (tag idx v : Nat), exec (.operandPost tag idx v) s = .next (operandPostEffect tag idx v s))
      ∧ (exec .operandStallTimeout s = .next (stallTimeoutEffect s))
      ∧ (∀ (t u : Nat), exec (.dispatch t u) s = .next (dispatchEffect t u s))
      ∧ (∀ (u : Nat), exec (.stagingDone u) s = .next (stagingDoneEffect u s))
      ∧ (∀ (h : Nat) (dest : BufLoc), exec (.bufferMoveStart h dest) s = .next (bufMoveEffect h dest s))
      ∧ (∀ (h : Nat), exec (.bufferMoveDone h) s = .next (bufMoveDoneEffect h s))
      ∧ (∀ (u : Nat), exec (.coreDebugHalt u) s = .next (coreHaltEffect u s))
      ∧ (∀ (u : Nat), exec (.coreDebugResume u) s = .next (coreResumeEffect u s))
      ∧ (exec .nowLoRead s = .next (statusReadEffect R.TIME_NOW_LO_VAL.addr true s))
      ∧ (∀ (c : Nat), exec (.timeCompareFire c) s = .next (tcmpFireEffect c s))
      ∧ (∀ (src : Nat) (off : Int), exec (.servoOffset src off) s = .next (servoOffsetEffect src off s))
      ∧ (exec .holdoverTimeout s = .next (holdoverEffect s))
      ∧ (exec .ppsInEdge s = .next (ppsInEffect s)))
    ∧ ((exec .ppsMissTimeout s = .next (ppsMissEffect s))
      ∧ (exec .ppsOutRise s = .next (ppsRiseEffect s))
      ∧ (exec .ppsOutFall s = .next (ppsFallEffect s))
      ∧ (∀ (p : Nat) (f : EthFrame), exec (.ethFrameReceived p f) s = .next (ethFrameEffect p f s))
      ∧ (∀ (k srcMac q : Nat), exec (.prpEntryExpired k srcMac q) s = .next (prpExpiredEffect k srcMac q s))
      ∧ (∀ (p : Nat), exec (.ethLinkDown p) s = .next (ethLinkDownEffect p s))
      ∧ (∀ (p res data : Nat), exec (.sfpReadDone p res data) s = .next (sfpDoneEffect p res data s))
      ∧ (∀ (k : Nat), exec (.prpSupervisionSend k) s = .next (prpSuperEffect k s))
      ∧ (∀ (f : SvFrame), exec (.svFrameReceived f) s = .next (svFrameEffect f s))
      ∧ (∀ (j : Nat), exec (.svStreamTimeout j) s = .next (svTimeoutEffect j s))
      ∧ (∀ (k : Nat), exec (.gooseNewState k) s = .next (gooseNewEffect k s))
      ∧ (∀ (k : Nat), exec (.gooseRepeat k) s = .next (gooseRepeatEffect k s))
      ∧ (∀ (f : GooseFrame), exec (.gooseFrameReceived f) s = .next (gooseFrameEffect f s))
      ∧ (∀ (j : Nat), exec (.gooseSubTimeout j) s = .next (gooseSubTimeoutEffect j s))
      ∧ (∀ (h : PtpHead) (t1 corr t2 : Int), exec (.ptpSyncReceived h t1 corr t2) s = .next (ptpSyncEffect h t1 corr t2 s))
      ∧ (∀ (h : PtpHead) (m : PtpMsg), exec (.ptpMessageReceived h m) s = .next (ptpMessageEffect h m s))
      ∧ (∀ (p : Nat) (k : PtpSend), exec (.ptpIntervalSend p k) s = .next (ptpSendEffect p k s)))
    ∧ ((∀ (p : Nat), exec (.canopyPortUp p) s = .next (canopyUpEffect p s))
      ∧ (∀ (p : Nat), exec (.canopyPortDown p) s = .next (canopyDownEffect p s))
      ∧ (∀ (p : Nat) (lanes : List (List (Nat × Nat))), exec (.canopyMessageReceived p lanes) s = .next (canopyRxEffect p lanes s))
      ∧ (∀ (p : Nat), exec (.canopyTxNext p) s = .next (canopyTxEffect p s))
      ∧ (∀ (k : Nat), exec (.sessionRto k) s = .next (sessionRtoEffect k s))
      ∧ (∀ (k : Nat), exec (.sessionDeadline k) s = .next (sessionDeadlineEffect k s))
      ∧ (∀ (p : Nat) (m : CMsg), exec (.dataReceived p m) s = .next (dataReceivedEffect p m s))
      ∧ (∀ (p : Nat) (m : CMsg), exec (.ackReceived p m) s = .next (ackReceivedEffect p m s))
      ∧ (∀ (p : Nat), exec (.treqSend p) s = .next (treqSendEffect p s))
      ∧ (∀ (p : Nat) (m : CMsg) (t2 t3 : Nat), exec (.treqReceived p m t2 t3) s = .next (treqReceivedEffect p m t2 t3 s))
      ∧ (∀ (p : Nat) (m : CMsg) (t1 t4 : Int), exec (.trespReceived p m t1 t4) s = .next (trespReceivedEffect p m t1 t4 s))
      ∧ (∀ (p : Nat) (m : CMsg), exec (.hbReceived p m) s = .next (hbReceivedEffect p m s))
      ∧ (∀ (p : Nat) (m : CMsg), exec (.ckptReceived p m) s = .next (ckptReceivedEffect p m s))
      ∧ (∀ (p : Nat) (m : CMsg), exec (.staticReceived p m) s = .next (staticReceivedEffect p m s))
      ∧ (∀ (p : Nat) (m : CMsg), exec (.handoverReceived p m) s = .next (handoverReceivedEffect p m s))
      ∧ (∀ (p : Nat) (m : CMsg), exec (.withdrawReceived p m) s = .next (withdrawEffect p m s))
      ∧ (exec .heartbeatTimeout s = .next (heartbeatTimeoutEffect s)))
    ∧ ((exec .checkpointCapture s = .next (checkpointCaptureEffect s))
      ∧ (∀ (h : Nat), exec (.checkpointBufferCopy h) s = .next (checkpointBufferEffect h s))
      ∧ (∀ (g : Nat), exec (.ungateComplete g) s = .next (ungateCompleteEffect g s))
      ∧ (∀ (g : Nat), exec (.ungateTimeout g) s = .next (ungateTimeoutEffect g s))
      ∧ (∀ (restoreNs : Nat), exec (.takeoverRestore restoreNs) s = .next (takeoverRestoreEffect restoreNs s))
      ∧ (exec .warmSupEnd s = .next (warmSupEffect s))
      ∧ (exec .roleAssignment s = .next (roleAssignmentEffect s))
      ∧ (∀ (selfTestOk : Bool), exec (.safeStartDone selfTestOk) s = .next (safeStartEffect selfTestOk s))
      ∧ (∀ (a b : Nat) (pulse : Option Nat) (settled rst : Bool), exec (.safeInputSample a b pulse settled rst) s = .next (safeSampleEffect a b pulse settled rst s))
      ∧ (∀ (c : SafeChecks), exec (.safeLogicCycle c) s = .next (safeLogicEffect c s))
      ∧ (∀ (j : Nat), exec (.testPulse j) s = .next (testPulseEffect j s))
      ∧ (∀ (i : Nat), exec (.discTimeout i) s = .next (discTimeoutEffect i s))
      ∧ (∀ (m : Nat), exec (.twohandSyncTimeout m) s = .next (twohandEffect m s))
      ∧ (∀ (heldUs : Nat) (selfTestOk : Bool), exec (.safeRstRelease heldUs selfTestOk) s = .next (safeRstEffect heldUs selfTestOk s))
      ∧ (∀ (k : Nat) (edmHigh : Bool), exec (.edmOnTimeout k edmHigh) s = .next (edmOnEffect k edmHigh s))
      ∧ (∀ (k : Nat) (edmHigh : Bool), exec (.edmOffTimeout k edmHigh) s = .next (edmOffEffect k edmHigh s))
      ∧ (∀ (k : Nat) (channelB pulseSeen : Bool), exec (.outputTestPulse k channelB pulseSeen) s = .next (outputTestEffect k channelB pulseSeen s)))
    ∧ ((∀ (c : Nat) (pdu : List Byte), exec (.garnetPduReceived c pdu) s = .next (garnetRxEffect c pdu s))
      ∧ (∀ (c : Nat), exec (.garnetPduSend c) s = .next (garnetSendEffect c s))
      ∧ (∀ (c : Nat), exec (.garnetWatchdog c) s = .next (garnetWdEffect c s))
      ∧ (∀ (c : Nat), exec (.garnetFailedEnd c) s = .next (garnetReopenEffect c s))
      ∧ (∀ (c : Nat), exec (.garnetErrWindowEnd c) s = .next (garnetWindowEffect c s))
      ∧ (exec .quoteDone s = .next (quoteDoneEffect s))
      ∧ (exec .retArmExpired s = .next (retExpiredEffect s))
      ∧ (exec .returnPrepDone s = .next (returnDoneEffect s))
      ∧ (∀ (ok : Bool), exec (.storeDone ok) s = .next (storeDoneEffect ok s))
      ∧ (∀ (sector : Nat) (r : EccResult), exec (.nvmRefresh sector r) s = .next (refreshEffect sector r s))
      ∧ (∀ (g slack : Nat) (ack : Bool), exec (.pathSlackLow g slack ack) s = .next (pathSlackEffect g slack ack s))
      ∧ (∀ (g slack : Nat), exec (.avsStepWaitEnd g slack) s = .next (avsWaitEffect g slack s))
      ∧ (∀ (ack : Bool), exec (.marginHigh24h ack) s = .next (marginHighEffect ack s))
      ∧ (∀ (g : Nat), exec (.groveClockStep g) s = .next (groveStepEffect g s))
      ∧ (exec .budgetWindowEnd s = .next (budgetWindowEffect s))
      ∧ (∀ (unit : Wear), exec (.wearThreshold unit) s = .next (wearEffect unit s))
      ∧ (∀ (unit : WearUnit), exec (.spareBringIn unit) s = .next (spareEffect unit s)))
    ∧ ((exec .blockFrameRepeat s = .next (blockRepeatEffect s))
      ∧ (∀ (n : Nat), exec (.serviceReplyTimeout n) s = .next (svcTimeoutEffect n s))
      ∧ (∀ (p : Nat), exec (.ptpAnnounceReceiptTimeout p) s = .next (ptpTimeoutEffect p s))
      ∧ (∀ (p : Nat) (full : Bool), exec (.autoNegotiationDone p full) s = .next (anDoneEffect p full s))
      ∧ (∀ (e : BadBlock), exec (.invalidSyncHeader e) s = .next (badHeaderEffect e.lane e.blockType s))
      ∧ (∀ (slot : Nat), exec (.imageVerifyDone slot) s = .next (imgVerifiedEffect slot s))
      ∧ (∀ (speed width : Nat), exec (.pcieLinkUp speed width) s = .next (pcieUpEffect speed width s))
      ∧ (∀ (refclkLost : Bool), exec (.pcieLinkDown refclkLost) s = .next (pcieDownEffect refclkLost s))
      ∧ (exec .operatingHour s = .next (operatingHourEffect s))))
    ∧ (∀ s : State,
    ((∀ (mask : Nat), s.takes 0x1050 = true → exec (.faultAck mask) s = .next (faultAckEffect mask s))
      ∧ (∀ (task : Bool) (ident : Nat) (clkGood : Bool), s.takes 0x1058 = true → exec (.unfence task ident clkGood) s = .next (unfenceEffect task ident clkGood s))
      ∧ (s.takes 0x1008 = true → exec .histClr s = .next (histClrEffect s))
      ∧ (∀ (v : Nat), s.takes 0x105C = true → exec (.recIdxWrite v) s = .next (recIdxEffect v s))
      ∧ (∀ (v : Nat), s.takes 0x40 = true → exec (.unlockWrite .host v) s = .next (unlockEffect .host v s))
      ∧ (s.takes 0x08 = true → exec .eoi0 s = .next (eoi0Effect s))
      ∧ (s.takes 0x08 = true → exec .eoi1 s = .next (eoi1Effect s))
      ∧ (s.takes 0x71048 = true → exec .goOff s = .next (goOffEffect s))
      ∧ (s.takes 0x71048 = true → exec .goCharge s = .next (goChargeEffect s))
      ∧ (s.takes 0x71048 = true → exec .goRun s = .next (goRunEffect s))
      ∧ (s.takes 0x71048 = true → exec .goBlock s = .next (goBlockEffect s))
      ∧ (∀ (v : Nat), s.takes 0x71040 = true → exec (.cycLenWrite v) s = .next (cycLenEffect v s))
      ∧ (∀ (v : Nat), s.takes 0x71044 = true → exec (.execOfsWrite v) s = .next (execOfsEffect v s))
      ∧ (∀ (v : Nat), s.takes 0x71068 = true → exec (.cycPhaseWrite v) s = .next (cycPhaseEffect v s))
      ∧ (∀ (v : Nat), s.takes 0x71070 = true → exec (.refSlopeWrite v) s = .next (refSlopeEffect v s))
      ∧ (s.takes 0x70050 = true → exec .keySave s = .next (keySaveEffect s))
      ∧ (∀ (v : Nat), s.takes 0x7008C = true → exec (.smIdxWrite v) s = .next (smIdxEffect v s)))
    ∧ ((∀ (v : Nat), s.takes 0x72058 = true → exec (.dcmdPost .host v) s = .next (dcmdPostEffect .host v s))
      ∧ (∀ (i : Nat), s.takes 0x72050 = true → exec (.hold i) s = .next (holdEffect i s))
      ∧ (∀ (i : Nat), s.takes 0x72050 = true → exec (.release i) s = .next (releaseEffect i s))
      ∧ (∀ (i : Nat), s.takes 0x72050 = true → exec (.fbpClr i) s = .next (fbpClrEffect i s))
      ∧ (∀ (i : Nat), s.takes 0x72050 = true → exec (.fire i) s = .next (fireEffect i s))
      ∧ (∀ (v : Nat), s.takes 0x72054 = true → exec (.holdInfoWrite v) s = .next (holdInfoEffect v s))
      ∧ (s.takes 0x72060 = true → exec .leakRoundStart s = .next (leakRoundEffect s))
      ∧ (∀ (n : Nat), s.takes (0x10008 + 0x1000 * n) = true → exec (.ringEnSet n) s = .next (ringEnSetEffect n s))
      ∧ (∀ (n : Nat), s.takes (0x10008 + 0x1000 * n) = true → exec (.ringEnClear n) s = .next (ringEnClearEffect n s))
      ∧ (∀ (n : Nat), s.takes (0x10008 + 0x1000 * n) = true → exec (.ringAdmitWrite n) s = .next (ringAdmitEffect n s))
      ∧ (∀ (n v : Nat), s.takes (0x10060 + 0x1000 * n) = true → exec (.serviceAccessStart n v) s = .next (svcStartEffect n v s))
      ∧ (∀ (l : Nat), s.takes (0x100008 + 0x1000 * l) = true → exec (.laneEnable l) s = .next (laneEnableEffect l s))
      ∧ (∀ (l : Nat), s.takes (0x100008 + 0x1000 * l) = true → exec (.laneDisable l) s = .next (laneDisableEffect l s))
      ∧ (∀ (l : Nat), s.takes (0x100008 + 0x1000 * l) = true → exec (.readapt l) s = .next (readaptEffect l s))
      ∧ (∀ (l v : Nat), s.takes (0x100044 + 0x1000 * l) = true → exec (.txEqWrite l v) s = .next (txEqEffect l v s))
      ∧ (∀ (l v : Nat), s.takes (0x100058 + 0x1000 * l) = true → exec (.esGo l v) s = .next (esGoEffect l v s))
      ∧ (∀ (l : Nat), s.takes (0x100058 + 0x1000 * l) = true → exec (.esStop l) s = .next (esStopEffect l s)))
    ∧ ((∀ (l : Nat), s.takes (0x100058 + 0x1000 * l) = true → exec (.esFree l) s = .next (esFreeEffect l s))
      ∧ (∀ (k : Nat), s.takes (R.U_CTRL_EN k).addr = true → exec (.loopEnable k) s = .next (loopEnableEffect k s))
      ∧ (∀ (k : Nat), s.takes (R.U_CTRL_EN k).addr = true → exec (.loopDisable k) s = .next (loopDisableEffect k s))
      ∧ (∀ (k v : Nat), s.takes (R.U_SP_SP k).addr = true → exec (.uSpWrite k v) s = .next (uSpEffect k v s))
      ∧ (∀ (k v : Nat), s.takes (R.U_INT_HI_INT k).addr = true → exec (.uIntHiWrite k v) s = .next (uIntHiEffect k v s))
      ∧ (∀ (page : Nat), s.takes (0x80008 + 0x1000 * page) = true → exec (.loopAllOff page) s = .next (loopAllOffEffect page s))
      ∧ (∀ (c v : Nat), s.takes (R.CH_PER_PER c).addr = true → exec (.chPerWrite c v) s = .next (chPerEffect c v s))
      ∧ (∀ (c v : Nat), s.takes (R.CH_CMP_CMP c).addr = true → exec (.chCmpWrite c v) s = .next (chCmpEffect c v s))
      ∧ (∀ (c : Nat), s.takes (R.CH_CTRL_EN c).addr = true → exec (.pwmEnable c) s = .next (pwmEnableEffect c s))
      ∧ (∀ (c : Nat) (asserted : Bool), s.takes (R.CH_CTRL_EN c).addr = true → exec (.fltClr c asserted) s = .next (fltClrEffect c asserted s))
      ∧ (s.takes 0x90008 = true → exec .resume s = .next (resumeEffect s))
      ∧ (s.takes 0x90008 = true → exec .pwmAllOff s = .next (pwmAllOffEffect s))
      ∧ (∀ (v : Nat), s.takes 0x90044 = true → exec (.safeLvlWrite v) s = .next (safeLvlEffect v s))
      ∧ (∀ (v : Nat), s.takes 0x90040 = true → exec (.xpairWrite v) s = .next (xpairEffect v s))
      ∧ (∀ (i : Nat), s.takes (0x91008 + 0x1000 * i) = true → exec (.posEnable i) s = .next (posEnableEffect i s))
      ∧ (∀ (i : Nat), s.takes (0x91008 + 0x1000 * i) = true → exec (.cmpArm i) s = .next (cmpArmEffect i s))
      ∧ (∀ (i : Nat), s.takes (0x91008 + 0x1000 * i) = true → exec (.idxArm i) s = .next (idxArmEffect i s)))
    ∧ ((∀ (i v : Nat), s.takes (0x91044 + 0x1000 * i) = true → exec (.posWrite i v) s = .next (posWriteEffect i v s))
      ∧ (∀ (i v : Nat), s.takes (0x91064 + 0x1000 * i) = true → exec (.cmpPosWrite i v) s = .next (cmpPosEffect i v s))
      ∧ (∀ (i : Nat), s.takes (0x91008 + 0x1000 * i) = true → exec (.emuEnable i) s = .next (emuEnableEffect i s))
      ∧ (∀ (c : Nat), s.takes (0x93008 + 0x1000 * c) = true → exec (.adcGo c) s = .next (adcGoEffect c s))
      ∧ (∀ (c : Nat), s.takes (0x93008 + 0x1000 * c) = true → exec (.adcStop c) s = .next (adcStopEffect c s))
      ∧ (∀ (c : Nat), s.takes (0x93008 + 0x1000 * c) = true → exec (.calNow c) s = .next (calNowEffect c s))
      ∧ (s.takes 0x5080 = true → exec .taskEnable s = .next (taskEnableEffect s))
      ∧ (s.takes 0x5080 = true → exec .taskDisable s = .next (taskDisableEffect s))
      ∧ (∀ (v : Nat), s.takes 0x5060 = true → exec (.taskIdxWrite v) s = .next (taskIdxEffect v s))
      ∧ (∀ (v : Nat), s.takes 0x5044 = true → exec (.hostFlagPost v) s = .next (hostFlagPostEffect v s))
      ∧ (∀ (v : Nat), s.takes 0x504C = true → exec (.hopValWrite v) s = .next (hopValEffect v s))
      ∧ (s.takes 0x5090 = true → exec .traceSnap s = .next (traceSnapEffect s))
      ∧ (s.takes 0x4008 = true → exec .timeSet s = .next (timeSetEffect s))
      ∧ (∀ (v : Nat), s.takes 0x4058 = true → exec (.incNsWrite v) s = .next (incNsEffect v s))
      ∧ (∀ (c v : Nat), s.takes (0x4080 + 8 * c) = true → exec (.tcmpTgtWrite c v) s = .next (tcmpTgtEffect c v s))
      ∧ (∀ (v : Nat), s.takes 0x405C = true → exec (.srvSrcWrite v) s = .next (srvSrcEffect v s))
      ∧ (∀ (p : Nat), s.takes (0xA0008 + 0x1000 * p) = true → exec (.anRestart p) s = .next (anRestartEffect p s)))
    ∧ ((∀ (p v : Nat), s.takes (0xA005C + 0x1000 * p) = true → exec (.sfpRead p v) s = .next (sfpReadEffect p v s))
      ∧ (∀ (v : Nat), s.takes 0xA4060 = true → exec (.gpDataWrite v) s = .next (gpDataEffect v s))
      ∧ (∀ (v : Nat), s.takes 0xA404C = true → exec (.svsInfoWrite v) s = .next (svsInfoEffect v s))
      ∧ (∀ (v : Nat), s.takes 0xA4054 = true → exec (.svcInfoWrite v) s = .next (svcInfoEffect v s))
      ∧ (∀ (v : Nat), s.takes 0xA4074 = true → exec (.gsInfoWrite v) s = .next (gsInfoEffect v s))
      ∧ (∀ (v : Nat), s.takes 0xB0100 = true → exec (.devidWrite v) s = .next (devidEffect v s))
      ∧ (∀ (k v : Nat), s.takes (0xB0400 + 4 * k) = true → exec (.canopySend k v) s = .next (canopySendEffect k v s))
      ∧ (s.takes 0xB0108 = true → exec .sessEnable s = .next (sessEnableEffect s))
      ∧ (s.takes 0xB0108 = true → exec .sessDisable s = .next (sessDisableEffect s))
      ∧ (s.takes 0xB0108 = true → exec .rxRel s = .next (rxRelEffect s))
      ∧ (∀ (v : Nat), s.takes 0xB0104 = true → exec (.sessIdxWrite v) s = .next (sessIdxEffect v s))
      ∧ (s.takes 0xB4008 = true → exec .handover s = .next (handoverEffect s))
      ∧ (s.takes 0x2008 = true → exec .quote s = .next (quoteEffect s))
      ∧ (∀ (c : List Byte), s.takes 0x2008 = true → exec (.dbgChal c) s = .next (dbgChalEffect c s))
      ∧ (s.takes 0x2008 = true → exec .dbgAuth s = .next (dbgAuthEffect s))
      ∧ (s.takes 0x2008 = true → exec .dbgClose s = .next (dbgCloseEffect s))
      ∧ (s.takes 0x2008 = true → exec .commitSvn s = .next (commitSvnEffect s)))
    ∧ ((∀ (v : Nat), s.takes 0x2044 = true → exec (.retArmWrite v) s = .next (retArmEffect v s))
      ∧ (s.takes 0x2008 = true → exec .returnPrep s = .next (returnPrepEffect s))
      ∧ (∀ (p : Nat), s.takes 0x3008 = true → exec (.store p) s = .next (storeEffect p s))
      ∧ (s.takes 0x3008 = true → exec .reload s = .next (reloadEffect s))
      ∧ (s.takes 0x3008 = true → exec .imgCommit s = .next (imgCommitEffect s))
      ∧ (∀ (v : Nat), s.takes 0x3044 = true → exec (.bootPrefWrite v) s = .next (bootPrefEffect v s))))

/-- Right after reset every glade is held in reset, no slot has booted (SLOT reads 2), TIME_INC is 2.0 ns, the time counter is 0 and not valid, every gate output is low, no command waits and the stores are canonical. With no command waiting, the time glade running and no PWM glade, a step goes to a next state in which device time has advanced by TIME_INC, modulo 2^96, and the queue is empty: that an idle step is one tick is the choice of notes/assumptions/1.md. -/
def Obligations.ResetStateAndIdleStep : Prop :=
  ((∀ g, (State.reset.glade g).inReset = true) ∧ State.reset.get R.SEC_STATUS_SLOT = 2 ∧ State.reset.servo.inc = 2 * 2 ^ 32
    ∧ State.reset.time = 0 ∧ State.reset.get R.TIME_STATUS_VALID = 0 ∧ (∀ c, (State.reset.ch c).out = false)
    ∧ State.reset.pending = [] ∧ State.reset.canonical = true)
  ∧ ∀ s : State, s.pending = [] → s.timeUp = true → s.up 9 = false →
    ∃ t, step s = .next t ∧ t.time = (s.time + s.servo.inc) % 2 ^ 96 ∧ t.pending = [] ∧ t.regs = s.regs ∧ t.mem = s.mem

/-- If the byte memory and the register store are in canonical form and a step answers a next state, they are in canonical form after it. The form is that of notes/assumptions/4.md. -/
def Obligations.StepKeepsCanonicalForm : Prop :=
  ∀ s t : State, s.canonical = true → step s = .next t → t.canonical = true

/-- Whatever command a step runs, it answers a next state, with the queue without its front command and the same variant; an empty queue steps too; so the counts of glades, lanes, cores and loop units that SYS.CAP takes from the variant never change. That an empty queue steps too is the choice of notes/assumptions/1.md. -/
def Obligations.StepTakesExactlyOneCommand : Prop :=
  (∀ s : State, ∃ t, step s = .next t ∧ t.pending = s.pending.tail ∧ t.variant = s.variant)
    ∧ (∀ (c : Instr) (s : State), ∃ t, exec c s = .next t ∧ t.pending = s.pending ∧ t.variant = s.variant)

/-- A low pulse of POR_N of at least 10 µs, or VSAFE below its threshold, puts every glade into reset, empties the collector, turns the arm off and takes device time to 0, and keeps NVM contents, the rollback counter, the store sequence and the log index; a shorter pulse resets nothing. What NVM and OTP keep through the reset, and that the shorter pulse has no effect, are the readings of notes/assumptions/30.md and 38.md; the operand tells where VSAFE stands from then on. -/
def Obligations.PowerOnResetScope : Prop :=
  ∀ (s : State) (lowNs : Nat) (vsafeLow : Bool),
    ((vsafeLow = true ∨ 10000 ≤ lowNs) →
      Reaches (.powerOnReset lowNs vsafeLow) s (fun t =>
        (∀ g, (t.glade g).inReset = true ∧ t.up g = false) ∧ t.host.phase = .reset ∧ t.arm.mode = .off ∧ t.time = 0
          ∧ t.flt.recs = [] ∧ t.flt.hist = [] ∧ t.flt.inbox = []
          ∧ (∀ a, nvmBase ≤ a → a < 2 ^ 32 → t.mem.read a = s.mem.read a)
          ∧ t.get R.SEC_STATUS_CNT = s.get R.SEC_STATUS_CNT % 64 ∧ t.get R.NVM_SEQ_STORE_SEQ = s.get R.NVM_SEQ_STORE_SEQ % 2 ^ 32
          ∧ t.get R.AGE_LOG_WR_IDX = s.get R.AGE_LOG_WR_IDX % 2 ^ 13 ∧ t.get R.SEC_STATUS_SLOT = 2
          ∧ t.sec.boots = s.sec.boots ∧ t.nvm.wear = s.nvm.wear ∧ t.host.vsafeLow = vsafeLow))
    ∧ (vsafeLow = false → lowNs < 10000 →
        exec (.powerOnReset lowNs vsafeLow) s = .next { s with host := { s.host with vsafeLow := false } })

/-- The rising edge of POR_N takes the collector, security and safety glades out of reset and no other; the lock of the PLLs then takes every present glade out, and absent glades stay in reset; a present glade also leaves reset on its own once POR_N is high. While VSAFE stands below its threshold nothing leaves reset. That GLADE_RESET_EXIT acts in every phase but reset is the reading of notes/assumptions/38.md. -/
def Obligations.GladesLeaveReset : Prop :=
  (∀ s : State, s.host.phase = .reset → s.glades = [] → s.host.vsafeLow = false →
      Reaches .porRelease s (fun t => t.host.phase = .released ∧ ∀ g, ((t.glade g).inReset = false ↔ g = 1 ∨ g = 2 ∨ g = 3)))
    ∧ (∀ s : State, s.host.phase = .released → (∀ g, (s.glade g).clkBad = false) →
        Reaches .pllLocked s (fun t => t.host.phase = .locked
          ∧ ∀ g, g < 44 → ((gladePresent s.variant g = true → (t.glade g).inReset = false)
              ∧ (gladePresent s.variant g = false → t.glade g = s.glade g))))
    ∧ (∀ (s : State) (g : Nat), s.host.phase = .reset → s.host.vsafeLow = true →
        exec .porRelease s = .next s ∧ exec (.gladeResetExit g) s = .next s)
    ∧ (∀ (s : State) (g : Nat), s.host.phase ≠ .reset → s.host.vsafeLow = false → gladePresent s.variant g = true → (s.glade g).clkBad = false →
        Reaches (.gladeResetExit g) s (fun t => (t.glade g).inReset = false ∧ ∀ k, k ≠ g → t.glade k = s.glade k))

/-- In boot the device boots the preferred slot if it verifies, else the other with FALLBACK set, else none with SLOT 2; each slot that fails sets SIG_FAIL, or ROLLBACK where only the SVN rule failed, with a SEC event; the boot count goes up by one. A device prepared for return boots none. The verdict of a slot comes from the header and body that the slot stores; that a slot below the rollback counter counts as not verified, and that the returned part boots none, are the readings of notes/assumptions/38.md and 30.md. -/
def Obligations.BootChoosesFirstVerifiedSlot : Prop :=
  ∀ (s : State) (modeAck : Bool) (mode : Nat) (cmdAck : Bool), s.canonical = true → s.memBad = [] → s.up 2 = true → s.host.phase = .locked → s.sec.boots < 2 ^ 32 - 1 →
    Reaches (.bootVerifyComplete modeAck mode cmdAck) s (fun t => t.sec.boots = s.sec.boots + 1
      ∧ (s.returned = true → t.get R.SEC_STATUS_SLOT = 2 ∧ t.host.phase = .stopped)
      ∧ (s.returned = false →
          ∀ pref, pref = (if s.on R.NVM_BOOT_PREF then 1 else 0) →
          match s.slotCheck pref, s.slotCheck (1 - pref) with
          | .inl n, _ => n < 64 → t.get R.SEC_STATUS_SLOT = pref ∧ t.get R.SEC_STATUS_SVN = n ∧ t.get R.SEC_STATUS_FALLBACK = 0
              ∧ t.host.phase = .verified ∧ s.get R.SEC_STATUS_CNT ≤ n ∧ t.sec.imgLen = (s.slotHeader pref).bodyLen ∧ t.flt.inbox = s.flt.inbox
          | .inr F, .inl n => n < 64 → t.get R.SEC_STATUS_SLOT = 1 - pref ∧ t.get R.SEC_STATUS_SVN = n ∧ t.get R.SEC_STATUS_FALLBACK = 1
              ∧ t.get F = 1 ∧ t.host.phase = .verified ∧ s.get R.SEC_STATUS_CNT ≤ n ∧ t.sec.imgLen = (s.slotHeader (1 - pref)).bodyLen
              ∧ t.flt.inbox = s.flt.inbox ++ [{ cls := .sec, unit := 0x0200 }]
          | .inr F, .inr G => t.get R.SEC_STATUS_SLOT = 2 ∧ t.get F = 1 ∧ t.get G = 1 ∧ t.host.phase = .stopped
              ∧ t.flt.inbox = s.flt.inbox ++ [{ cls := .sec, unit := 0x0200 }, { cls := .sec, unit := 0x0200 }]))
    ∧ (∀ k F, s.slotCheck k = .inr F → F = (if s.slotSigned k = true then R.SEC_EVT_ROLLBACK else R.SEC_EVT_SIG_FAIL))

/-- After IMAGE_APPLY the device is past step 6; the network section stands in the subscriber, the session table and the GOOSE engine, and the safety parameter set in the island where the variant has one; with no register settings, an accepted task set sets TSET and stands in the scheduler, and a refused one leaves TSET 0 and the scheduler unchanged, with a CONFIG event at the base level. Which placements of buffers are refused, and that the event names the scheduler, is the choice of notes/assumptions/40.md; that the parameter set loads only where the variant has an island is the reading of 38.md. -/
def Obligations.ImageSectionsApplied : Prop :=
  ∀ (s : State) (img : Image), s.canonical = true → s.host.phase = .verified → s.up 0 = true → s.up 2 = true → s.flt.l4 = false →
    Reaches (.imageApply img) s (fun t => t.host.phase = .applied
      ∧ t.net.streams = img.streams.foldl (fun a d => insertKey d.num { decl := d } a) []
      ∧ t.net.subs = img.subs.foldl (fun a d => insertKey d.num { decl := d } a) []
      ∧ t.canopy.sess = img.sessions.foldl (fun a d => insertKey d.num { decl := d } a) []
      ∧ (∀ k, (lookupKey t.net.pubs k).map (fun x => x.decl)
          = (lookupKey (img.pubs.foldl (fun a d => insertKey d.num { decl := d } a) ([] : Tab PubSt)) k).map (fun x => x.decl))
      ∧ t.safe.pset = (if s.variant.hasPair = true then img.pset else none)
      ∧ (img.regs = [] → s.settingsP = [] → s.settingsU = [] →
          (taskSetOk s.variant img = true → t.get R.SCHED_STATUS_TSET = 1
            ∧ t.sched.tasks = img.tasks.foldl (fun a d => insertKey d.num { decl := d, enabled := d.enabled } a) [])
          ∧ (taskSetOk s.variant img = false → t.get R.SCHED_STATUS_TSET = 0 ∧ t.sched = s.sched
            ∧ { cls := .config, unit := 0x0504 } ∈ t.flt.inbox)))

/-- A board that answers with the TYPE, LANE_FIRST, LANE_CNT and CHK that the image expects changes nothing, and neither does a bus with no board expected; any other answer records one CONFIG event with the bus in AUX and holds every lane of the expected range; byte 0 of an SFP module other than 0x03, or none, posts a NET event naming the port and holds it disabled. The unit of the board event and the cleared EN of the port are the readings of notes/assumptions/39.md. -/
def Obligations.BoardsAndModulesIdentified : Prop :=
  (∀ (s : State) (bus : Nat) (bytes : List Byte), s.up 0 = true → s.host.phase = .applied → (∀ e ∈ s.host.boards, e.bus ≠ bus) →
      exec (.boardIdentify bus bytes) s = .next s)
    ∧ (∀ (s : State) (e : BoardExpect) (bytes : List Byte), s.up 0 = true → s.host.phase = .applied →
        s.host.boards.find? (fun x => decide (x.bus = e.bus)) = some e →
        (boardMatches e bytes = true → exec (.boardIdentify e.bus bytes) s = .next s)
        ∧ (boardMatches e bytes = false →
            Reaches (.boardIdentify e.bus bytes) s (fun t =>
              { cls := .config, unit := 0x0000, aux := e.bus } ∈ t.flt.inbox
                ∧ ∀ l, l < 116 → e.first ≤ l → l < e.first + e.cnt → t.host.laneHeld.contains l = true)))
    ∧ (∀ (s : State) (p : Nat) (b : Option Nat), s.inService = true → p < 4 → s.on (R.ETH_CTRL_EN p) = true →
        (b = some 3 → exec (.sfpIdentify p b) s = .next s)
        ∧ (b ≠ some 3 → Reaches (.sfpIdentify p b) s (fun t =>
            t.get (R.ETH_CTRL_EN p) = 0 ∧ t.host.sfpBad.contains p = true ∧ { cls := .net, unit := 0x0700 + p } ∈ t.flt.inbox)))

/-- An event at L0 is taken at L0 and never escalates; with its class closed an event is taken at the highest of what its rule names, the base level and, for a CLK event of a glade, the level of that glade’s loss; with its class open, at one level more up to L4, unless it belongs to the group that opened the record; and an L2 whose target is not fenceable is taken at L3. -/
def Obligations.EventLevelRule : Prop :=
  ∀ (s : State) (e : Event),
    (e.req = .l0 → s.takenLevel e = 0 ∧ s.escalates e = false)
    ∧ ∀ raw, (e.req = .l0 ∧ raw = 0 ∨ e.req = .base ∧ raw = max (if e.cls = .clk ∧ e.glade = true then s.lossLevel (e.unit / 256) else 0) (s.get (R.FLT_BASE_LVL (classCode e.cls)))
              ∨ ∃ l, e.req = .atLeast l ∧ raw = max (if e.cls = .clk ∧ e.glade = true then s.lossLevel (e.unit / 256) else 0) (max l (s.get (R.FLT_BASE_LVL (classCode e.cls))))) →
      ((s.record (classCode e.cls)).used = false →
          s.takenLevel e = if raw = 2 ∧ s.fenceTarget e = .notFenceable then 3 else raw)
      ∧ (1 ≤ raw → (s.record (classCode e.cls)).used = true → e.group = none →
          s.escalates e = true
            ∧ s.takenLevel e = if min (raw + 1) 4 = 2 ∧ s.fenceTarget e = .notFenceable then 3 else min (raw + 1) 4)
      ∧ (∀ g, e.group = some g → (s.record (classCode e.cls)).group = some g → s.escalates e = false)

/-- Every event taken counts in CNT.EVENTS; an L0 event loads L0_LAST and opens no record; an event at L1 or above opens the record of its class with its level, unit, AUX and time, or raises REPEAT of the open record, up to 255, and its level; at L0 and L1 neither the arm nor memory changes; at L2 the fence target of the event is fenced and the record shows it; an L3 event blocks the arm unless a debug halt stands; an L4 event latches L4 and freezes the history. FAULT_EVENT decides the event that it gives where none waits, and the first that waits where it gives none; of two of one instant the one with the lower unit goes first, a given one among them. That an event waits in an inbox until FAULT_EVENT is the choice of notes/assumptions/9.md, the order of equal instants that of 7.md. -/
def Obligations.FaultEventRecorded : Prop :=
  (∀ (s : State) (e : Event), s.inService = true → s.flt.inbox = [] → keysRise none s.flt.tasks = true → s.canonical = true →
      Reaches (.faultEvent (some e)) s (fun t =>
        t.get R.FLT_CNT_EVENTS = (s.get R.FLT_CNT_EVENTS + 1) % 2 ^ R.FLT_CNT_EVENTS.w
        ∧ (s.takenLevel e = 0 → t.flt.recs = s.flt.recs ∧ t.get R.FLT_L0_LAST_CLASS = classCode e.cls ∧ t.get R.FLT_L0_LAST_UNIT = e.unit % 2 ^ 16
          ∧ t.get R.FLT_L0_AUX_AUX = e.aux % 2 ^ 32 ∧ t.arm = s.arm ∧ t.mem = s.mem)
        ∧ (s.takenLevel e = 1 → t.arm = s.arm ∧ t.mem = s.mem)
        ∧ (s.takenLevel e = 1 → (s.record (classCode e.cls)).used = false →
            (t.record (classCode e.cls)) = ({ used := true, cls := classCode e.cls, level := 1, esc := s.escalates e, standing := e.standing, glade := e.glade, unit := e.unit, tsNs := s.nowNs, tsEl := s.elNs, endNs := s.elNs, aux := e.aux, group := e.group, src := e.src } : FaultRec))
        ∧ (∀ l, s.takenLevel e = l → 1 ≤ l → l ≤ 2 → (s.record (classCode e.cls)).used = true →
            (t.record (classCode e.cls)).rep = min 255 ((s.record (classCode e.cls)).rep + 1)
              ∧ (t.record (classCode e.cls)).level = max (s.record (classCode e.cls)).level l
              ∧ (t.record (classCode e.cls)).unit = (s.record (classCode e.cls)).unit ∧ (t.record (classCode e.cls)).aux = (s.record (classCode e.cls)).aux
              ∧ (t.record (classCode e.cls)).tsNs = (s.record (classCode e.cls)).tsNs)
        ∧ (s.takenLevel e = 2 → (t.record (classCode e.cls)).fenced = true
            ∧ match s.fenceTarget e with
              | .units us => ∀ u ∈ us, unitKind s.variant u ≠ .other → t.unitFenced u = true
              | .task k => t.taskFenced k = true
              | .glade g => gladePresent s.variant g = true → g ≠ 2 → t.gladeFenced g = true ∧ t.up g = false
              | .hostDcmd => t.get R.CMDENC_CTRL_HOST_DCMD = 0 ∧ t.get R.CMDENC_STATUS_HOSTOFF = 1
              | .notFenceable => False)
        ∧ (s.takenLevel e = 3 → s.arm.mode ≠ .debugHalt → s.arm.mode ≠ .off → t.arm.mode = .blocked ∧ t.pwm.held = true)
        ∧ (s.takenLevel e = 4 → t.flt.l4 = true ∧ t.flt.frozen = true)))
    ∧ (∀ s : State, s.flt.inbox = [] → exec (.faultEvent none) s = .next s)
    ∧ (∀ (s : State) (e : Event), s.up 1 = true → s.flt.inbox = [] → s.flt.inboxAt = [] → exec (.faultEvent (some e)) s = .next (s.take e))
    ∧ (∀ (s s1 : State) (e : Event), s.up 1 = true → s.popEvent = some (e, s1) →
        exec (.faultEvent none) s = .next (s1.take e) ∧ e ∈ s.flt.inbox ∧ s1.flt.inbox.length + 1 = s.flt.inbox.length)
    ∧ (∀ (s : State) (a b : Event) (i j : Nat), s.up 1 = true → s.flt.inbox = [a, b] → s.flt.inboxAt = [i, j] →
        exec (.faultEvent none) s = (if i = j ∧ b.unit < a.unit
          then .next (State.take b { s with flt := { s.flt with inbox := [a], inboxAt := [i] } })
          else .next (State.take a { s with flt := { s.flt with inbox := [b], inboxAt := [j] } })))
    ∧ (∀ (s : State) (a e : Event), s.up 1 = true → s.flt.inbox = [a] → s.flt.inboxAt = [s.elapsed] → e.unit < a.unit →
        exec (.faultEvent (some e)) s = .next (s.take e))

/-- A cause that goes away ends in its record, named by class, unit, AUX and source, with the time, and in no other: that causes are told apart so is the reading of notes/assumptions/32.md; an acknowledgement closes a record, unless its level is L3 or more while its cause stands, which sets ACK_REF and keeps it; HIST_CLR empties the history; a REC_IDX write latches the four words of the record named, zeros for a closed one. UNFENCE of a unit that is fenced on its own and whose class has no open record and no waiting event naming it reports RESULT 0 and the unit is no longer fenced, with a cell lane and its ring together; with the class record open it reports 2 with a CONFIG event, and for a unit not fenced or a worn core 1; a fenced task returns so too; a fenced glade that returns only at power-on reset reports 1, with its class record open 2, with its clock good for less than 1 ms 3, and otherwise 0 and runs. -/
def Obligations.RecordsAcknowledgedAndRead : Prop :=
  (∀ (s : State) (cls : FaultClass) (unit : CauseOf), s.up 1 = true → s.flt.frozen = false →
      Reaches (.faultCauseCleared cls unit) s (fun t =>
        (∀ c, (s.record c).used = true → (s.record c).standing = true → (s.record c).cls = classCode cls → (s.record c).unit = unit.unit → (s.record c).aux = unit.aux
            → (s.record c).src = unit.src →
          t.record c = { s.record c with standing := false, endNs := s.elNs })
        ∧ (∀ c, ((s.record c).cls ≠ classCode cls ∨ (s.record c).unit ≠ unit.unit ∨ (s.record c).aux ≠ unit.aux ∨ (s.record c).src ≠ unit.src) →
            t.record c = s.record c) ∧ t.regs = s.regs))
    ∧ (∀ (s : State) (c : Nat), s.inService = true → keysRise none s.flt.recs = true → 1 ≤ c → c ≤ 22 → (s.record c).used = true →
        Reaches (.faultAck (2 ^ c)) s (fun t =>
          ((s.record c).level < 3 ∨ (s.record c).standing = false → (t.record c).used = false)
          ∧ (3 ≤ (s.record c).level → (s.record c).standing = true → t.record c = s.record c ∧ t.get R.FLT_STATUS_ACK_REF = 1)))
    ∧ (∀ s : State, s.inService = true →
        Reaches .histClr s (fun t => t.flt.hist = [] ∧ t.get R.FLT_HIST_WR_IDX = 0 ∧ t.get R.FLT_HIST_WR_WRAPPED = 0 ∧ t.flt.recs = s.flt.recs
          ∧ RegsKeptBut [R.FLT_HIST_WR_IDX, R.FLT_HIST_WR_WRAPPED] s t))
    ∧ (∀ (s : State) (v : Nat), s.inService = true → s.flt.frozen = false →
        Reaches (.recIdxWrite v) s (fun t => t.get R.FLT_REC_IDX_CLASS = v % 32 ∧ t.flt = s.flt
          ∧ ((s.record (v % 32)).used = false → ∀ k, k < 4 → t.get (R.FLT_REC_WORD k) = 0)
          ∧ (∀ r, r = s.record (v % 32) → r.used = true → r.cls < 32 → r.level < 8 → r.unit < 2 ^ 16 → r.rep < 256 →
              t.get (R.FLT_REC_WORD 0) = r.cls * 2 ^ 27 + r.level * 2 ^ 24 + b2n r.esc * 2 ^ 23 + b2n r.standing * 2 ^ 22 + b2n r.fenced * 2 ^ 21
                  + b2n r.glade * 2 ^ 20 + r.unit
              ∧ t.get (R.FLT_REC_WORD 1) = r.tsNs % 2 ^ 32 ∧ t.get (R.FLT_REC_WORD 2) = r.aux % 2 ^ 32
              ∧ t.get (R.FLT_REC_WORD 3) = r.rep * 2 ^ 24 + min 0xFFFFFF (((if r.standing = true then s.elNs else r.endNs) - r.tsEl) / 1000))
          ∧ RegsKeptBut [R.FLT_REC_IDX_CLASS, R.FLT_REC_WORD 0, R.FLT_REC_WORD 1, R.FLT_REC_WORD 2, R.FLT_REC_WORD 3] s t))
    ∧ (∀ (s : State) (good : Bool), s.up 1 = true → s.flt.l4 = false → s.hostMayWrite 0x1058 = true → s.linkCut 0 1 = false → s.canonical = true →
        keysRise none s.flt.units = true → keysRise none s.flt.tasks = true →
        (∀ u, u < 2 ^ 16 → unitKind s.variant u ≠ .other → s.gladeFenced (u / 256) = false → (s.glade (u / 256)).clkBad = false →
          Reaches (.unfence false u good) s (fun t =>
            (s.unitFenced u = true → s.wornOut u = false → (s.record (tget 0 s.flt.units u)).used = false → (∀ e ∈ s.flt.inbox, e.unit ≠ u) →
              t.get R.FLT_UNFENCE_RESULT = 0 ∧ t.unitFenced u = false
                ∧ ∀ w, w ≠ u → (∀ n, ¬(u = ringUnit n ∧ w = laneUnit n) ∧ ¬(u = laneUnit n ∧ w = ringUnit n)) → t.unitFenced w = s.unitFenced w)
            ∧ (s.unitFenced u = true → s.wornOut u = false → (s.record (tget 0 s.flt.units u)).used = true →
              t.get R.FLT_UNFENCE_RESULT = 2 ∧ t.flt.units = s.flt.units ∧ { cls := .config, unit := 0x0100, req := .l0, aux := 0x1058 } ∈ t.flt.inbox)
            ∧ (s.unitFenced u = false ∨ s.wornOut u = true → t.get R.FLT_UNFENCE_RESULT = 1 ∧ t.flt.units = s.flt.units)))
        ∧ (∀ k, k < 512 → s.taskFenced k = true →
          Reaches (.unfence true k good) s (fun t =>
            (s.fenceHeld (tget 0 s.flt.tasks k) (fun e => decide (e.cls = .sched) && decide (e.aux = k) && decide (e.unit = schedUnit ∨ e.unit = storeUnit)) = false →
              t.get R.FLT_UNFENCE_RESULT = 0 ∧ t.taskFenced k = false)
            ∧ ((s.record (tget 0 s.flt.tasks k)).used = true → t.get R.FLT_UNFENCE_RESULT = 2 ∧ t.taskFenced k = true)))
        ∧ (∀ g, g < 44 → s.gladeFenced g = true → (∀ e ∈ s.flt.inbox, e.glade = false) →
          Reaches (.unfence false (256 * g) good) s (fun t =>
            (g ≠ 10 → g < 16 → t.get R.FLT_UNFENCE_RESULT = 1 ∧ t.gladeFenced g = true)
            ∧ (g = 10 ∨ 16 ≤ g → (s.record (s.glade g).fencedBy).used = true → t.get R.FLT_UNFENCE_RESULT = 2 ∧ t.gladeFenced g = true)
            ∧ (g = 10 ∨ 16 ≤ g → (s.record (s.glade g).fencedBy).used = false → good = false →
                t.get R.FLT_UNFENCE_RESULT = 3 ∧ t.gladeFenced g = true)
            ∧ (g = 10 ∨ 16 ≤ g → (s.record (s.glade g).fencedBy).used = false → good = true →
                t.get R.FLT_UNFENCE_RESULT = 0 ∧ t.gladeFenced g = false ∧ (t.glade g).inReset = false))))

/-- A lost clock of a glade other than the collector fences it and raises a standing CLK event at its level; a frequency within 10 % of plan changes nothing and one outside is such a loss; loss of the backup oscillator takes the device to L4; a silent link whose glades are not gated is fenced in both directions at once (notes/assumptions/32.md), the writes on it are counted as discarded by their sender and a read of the host on it completes with all ones and an error, and what is posted or written over a fenced link later is discarded and counted, and a read over it fails with all ones (notes/assumptions/57.md); a parity error on a link that is not fenced and not the collector's own raises a BUS event naming the sender, sets HPAR with the address for an access of the host, and a read of it then fails with all ones (that the collector's own path is treated otherwise is the reading of notes/assumptions/61.md); a rail outside its window posts one PWR event with its code until its cause ends; a junction reading sets TJ.NOW and TJ.MAX, above 105 °C it posts an event, above 115 °C at least at L4; two agreeing copies of a triplicated field win with a MEM event at L0, after which the conditions that rest on such fields are judged again (notes/assumptions/61.md). -/
def Obligations.MonitorsRaiseEvents : Prop :=
  (∀ (s : State) (g : Nat), s.up g = true → g ≠ 1 →
      Reaches (.clkEdgeTimeout (.glade g)) s (fun t => (g ≠ 2 → t.gladeFenced g = true) ∧ (g = 2 → t.gladeFenced g = false) ∧ t.up g = false
        ∧ (t.glade g).clkBad = true
        ∧ { cls := .clk, unit := 256 * g, glade := true, req := .atLeast (s.lossLevel g), standing := true } ∈ t.flt.inbox))
    ∧ (∀ s : State, s.flt.l4 = false → Reaches (.clkEdgeTimeout .backup) s (fun t => t.flt.l4 = true ∧ t.flt.frozen = true))
    ∧ (∀ (s : State) (g khz : Nat), 9 * s.planKhz g ≤ 10 * khz → 10 * khz ≤ 11 * s.planKhz g →
        exec (.clkFreqWindow (.glade g) khz) s = .next s)
    ∧ (∀ (s : State) (g khz : Nat), s.up g = true → g ≠ 1 → (10 * khz < 9 * s.planKhz g ∨ 11 * s.planKhz g < 10 * khz) →
        Reaches (.clkFreqWindow (.glade g) khz) s (fun t => (g ≠ 2 → t.gladeFenced g = true) ∧ t.up g = false ∧ (t.glade g).clkBad = true))
    ∧ (∀ (s : State) (src dst n : Nat) (rd : Bool), gladePresent s.variant src = true → gladePresent s.variant dst = true →
        (s.glade src).gated = false → (s.glade dst).gated = false → keysRise none s.host.discards = true →
        ∀ c, c = Instr.linkRxTimeout src dst ⟨n, rd⟩ ∨ c = Instr.linkAckTimeout src dst ⟨n, rd⟩ →
        Reaches c s (fun t => t.linkCut src dst = true ∧ t.linkCut dst src = true ∧ tget 0 t.host.discards src = tget 0 s.host.discards src + n
          ∧ t.regs = s.regs ∧ t.mem = s.mem ∧ t.flt = s.flt
          ∧ (rd = true → src = 0 ∨ dst = 0 → t.host.rdata = [0xFFFFFFFF] ∧ t.host.readErr = true)
          ∧ (rd = false ∨ src ≠ 0 ∧ dst ≠ 0 → t.host.rdata = s.host.rdata ∧ t.host.readErr = s.host.readErr)))
    ∧ (∀ (s : State) (a b : Nat) (f : State → State), keysRise none s.host.discards = true →
        (s.linkCut a b = true → s.overLink a b f = s.discardWrites a 1
          ∧ tget 0 (s.overLink a b f).host.discards a = tget 0 s.host.discards a + 1)
        ∧ (s.linkCut a b = false → s.overLink a b f = f s))
    ∧ (∀ (s : State) (addr v g : Nat), s.flt.l4 = false → s.up 0 = true → s.hostMayWrite addr = true → msixArea addr = false →
        pageGlade addr = some g → s.gladeFenced g = false → s.linkCut 0 g = true →
        exec (.registerWrite .spi addr v 15 true) s = .next (s.discardWrites 0 1)
          ∧ (gladePresent s.variant g = true → pageAbsent s.variant addr = false →
              Reaches (.statusRead addr true) s (fun t => t.host.rdata = [0xFFFFFFFF] ∧ t.host.readErr = true ∧ t.regs = s.regs ∧ t.mem = s.mem)))
    ∧ (∀ (s : State) (src dst : Nat) (x : Transfer) (isRead : Bool), (src, dst) ∉ s.host.links → src ≠ 1 → s.canonical = true →
        Reaches (.linkParityError src dst x isRead) s (fun t => t.flt.inbox = s.flt.inbox ++ [{ cls := .bus, unit := x.unit }]
          ∧ (x.host = none → t.regs = s.regs ∧ t.host = s.host)
          ∧ (∀ a, x.host = some a → t.get R.SYS_HSTAT_HPAR = 1 ∧ t.get R.SYS_ERR_ADDR_ADDR = a % 2 ^ 32
              ∧ (isRead = true → t.host.rdata = [0xFFFFFFFF] ∧ t.host.readErr = true))))
    ∧ (∀ (s : State) (rail : Nat), s.up 1 = true → 1 ≤ rail → rail ≤ 7 →
        (s.flt.rails.contains rail = true → exec (.supplyExcursion rail) s = .next s)
        ∧ (s.flt.rails.contains rail = false → Reaches (.supplyExcursion rail) s (fun t => t.regs = s.regs
          ∧ t.flt.inbox = s.flt.inbox ++ [{ cls := .pwr, unit := 0x0100, glade := true, aux := rail, standing := true }]
          ∧ exec (.supplyExcursion rail) t = .next t)))
    ∧ (∀ (s : State) (g : Nat) (tj : Int), s.up 1 = true → gladePresent s.variant g = true → s.canonical = true → -32768 ≤ tj → tj < 32768 →
        Reaches (.tjLimitExceeded g tj) s (fun t => RegsKeptBut [R.AGE_TJ_NOW, R.AGE_TJ_MAX] s t
          ∧ (s.age.tjs = [] → t.getS R.AGE_TJ_NOW = tj ∧ t.getS R.AGE_TJ_MAX = max tj (s.getS R.AGE_TJ_MAX)))
        ∧ (tj ≤ 1680 → Reaches (.tjLimitExceeded g tj) s (fun t => t.flt = s.flt))
        ∧ (1680 < tj → Reaches (.tjLimitExceeded g tj) s (fun t => t.flt.inbox = s.flt.inbox ++
            [{ cls := .pwr, unit := 0x0100, glade := true, aux := 0x100 + g, standing := true, req := if 1840 < tj then .atLeast 4 else .base }])))
    ∧ (∀ (s : State) (addr lo c0 c1 c2 v : Nat) (F : Field), s.canonical = true → fieldAt addr lo = some F → F.acc = .rwt →
        s.up (ownerUnit addr / 256) = true → addr / 0x1000 ≠ 1 → ¬(c0 = c1 ∧ c1 = c2) → vote c0 c1 c2 = some v →
        Reaches (.rwtVoteDisagree addr lo c0 c1 c2) s (fun t => t.get F = v % 2 ^ F.w ∧ t.mem = s.mem
          ∧ t = ((s.put F v).event0 .mem (ownerUnit addr) 0).condsAgain
          ∧ { cls := .mem, unit := ownerUnit addr, req := .l0 } ∈ t.flt.inbox))

/-- For the SPI host, and for the PCIe host with its link up: a full word written to a plain register sets its fields and nothing else; a value that the register refuses changes nothing but records a CONFIG event; a locked field keeps its value, sets LOCKV and records a CONFIG event; a PCIe write with fewer than four byte enables is ignored with PARTIAL and a CONFIG event at L0, a write that fails parity with HPAR and a BUS event of its sender, one to an unmapped offset with ADDR_ERR and a CONFIG event at L0, and one to an absent page with a CONFIG event only. Which unit a CONFIG event of an access names is the reading of notes/assumptions/10.md, and that a PCIe access needs the link up that of 34.md. -/
def Obligations.HostWriteRules : Prop :=
  ∀ (s : State) (w : Writer), s.inService = true → (w = .spi ∨ w = .host ∧ s.pcieUp = true) →
    (∀ v : Nat, v % 256 ≠ 0 → Reaches (.registerWrite w 0x7004C v 15 true) s (fun t =>
        t.get R.RANK_OBS_LIMIT = v % 256 ∧ RegsKeptBut [R.RANK_OBS_LIMIT] s t ∧ t.mem = s.mem ∧ t.flt = s.flt))
    ∧ (∀ v : Nat, v % 256 = 0 → Reaches (.registerWrite w 0x7004C v 15 true) s (fun t =>
        (∀ G, t.get G = s.get G) ∧ t.flt.inbox = s.flt.inbox ++ [{ cls := .config, unit := 0x0500, req := .l0, aux := 0x7004C }]))
    ∧ (∀ v : Nat, s.pageLocked 0x7048 = true → Reaches (.registerWrite w 0x7048 v 15 true) s (fun t =>
        t.get R.AGE_AVS_ADDR = s.get R.AGE_AVS_ADDR ∧ t.get R.AGE_AVS_VDD = s.get R.AGE_AVS_VDD ∧ t.get R.AGE_STATUS_LOCKV = 1
          ∧ t.flt.inbox = s.flt.inbox ++ [{ cls := .config, unit := 0x0100, req := .l0, aux := 0x7048 }]))
    ∧ (∀ addr v be : Nat, be ≠ 15 → w = .host → Reaches (.registerWrite w addr v be true) s (fun t =>
        t.get R.SYS_HSTAT_PARTIAL = 1 ∧ t.get R.SYS_ERR_ADDR_ADDR = addr % 2 ^ 32
          ∧ RegsKeptBut [R.SYS_HSTAT_PARTIAL, R.SYS_ERR_ADDR_ADDR, R.SYS_IRQ_STAT_PEND] s t ∧ t.mem = s.mem
          ∧ t.flt.inbox = s.flt.inbox ++ [{ cls := .config, unit := addrUnit addr, req := .l0, aux := addr }]))
    ∧ (∀ addr v be : Nat, Reaches (.registerWrite w addr v be false) s (fun t =>
        t.get R.SYS_HSTAT_HPAR = 1 ∧ RegsKeptBut [R.SYS_HSTAT_HPAR, R.SYS_ERR_ADDR_ADDR, R.SYS_IRQ_STAT_PEND] s t
          ∧ t.get R.SYS_ERR_ADDR_ADDR = addr % 2 ^ 32 ∧ t.mem = s.mem
          ∧ t.flt.inbox = s.flt.inbox ++ [{ cls := .bus, unit := if w = .host then 0x0000 else 0x0001 }]))
    ∧ (∀ addr v : Nat, pageGlade addr = none → msixArea addr = false → Reaches (.registerWrite w addr v 15 true) s (fun t =>
        t.get R.SYS_HSTAT_ADDR_ERR = 1 ∧ t.get R.SYS_ERR_ADDR_ADDR = addr % 2 ^ 32
          ∧ RegsKeptBut [R.SYS_HSTAT_ADDR_ERR, R.SYS_ERR_ADDR_ADDR, R.SYS_IRQ_STAT_PEND] s t ∧ t.mem = s.mem
          ∧ t.flt.inbox = s.flt.inbox ++ [{ cls := .config, unit := addrUnit addr, req := .l0, aux := addr }]))
    ∧ (∀ addr v g : Nat, pageGlade addr = some g → msixArea addr = false → pageAbsent s.variant addr = true →
        exec (.registerWrite w addr v 15 true) s = .next (s.config addr))

/-- SYS.CAP reads as the variant has it, with one spare fewer in SPARES for each grove whose worn core a spare replaces; a read in -X clears every clear-on-read field of the word; an absent page reads 0 but for PAGE_ID; a read that fails parity returns all ones with HPAR set; NOW_LO latches the upper time words, SPDNET the speed, and U_INT_LO the high half of the integrator. That a PCIe access needs the link up, which these reads assume, is the reading of notes/assumptions/34.md. -/
def Obligations.HostReadRules : Prop :=
  (∀ s : State, s.inService = true →
      Reaches (.statusRead 4 true) s (fun t => t.host.readErr = false ∧ t.host.rdata = [match s.variant with
        | .x => 32 * 2 ^ 24 + s.sparesLeft * 2 ^ 21 + 24 * 2 ^ 16 + 96 * 2 ^ 8 + 60
        | .m => 32 * 2 ^ 24 + s.sparesLeft * 2 ^ 21 + 16 * 2 ^ 16 + 64 * 2 ^ 8 + 25
        | .b => 16 * 2 ^ 24 + s.sparesLeft * 2 ^ 21 + 8 * 2 ^ 16 + 32 * 2 ^ 8 + 2] ∧ t.flt = s.flt ∧ t.mem = s.mem))
    ∧ (∀ s : State, ((∀ u, (s.core u).worn = false) → s.sparesLeft = (match s.variant with | .x => 3 | .m => 2 | .b => 1))
        ∧ (∀ g k, g < s.variant.groves → k < 8 → (∀ u, (s.core u).worn = decide (u = 9 * g + k)) →
            s.sparesLeft = (match s.variant with | .x => 2 | .m => 1 | .b => 0)))
    ∧ (∀ (s : State) (addr : Nat) (F : Field), s.takes addr = true → s.variant = .x → msixArea addr = false → F ∈ fieldsAt addr → F.acc = .rc →
        Reaches (.statusRead addr true) s (fun t => t.get F = 0 ∧ t.host.rdata = [s.wordAt addr] ∧ t.mem = s.mem))
    ∧ (∀ s : State, s.inService = true → s.variant = .x →
        Reaches (.statusRead 0x7040 true) s (fun t => t.get R.AGE_ASTAT_SPARE_IN = 0 ∧ t.get R.AGE_ASTAT_AVS_FAIL = 0
          ∧ t.get R.AGE_ASTAT_CLK_MIN = 0 ∧ t.host.rdata = [s.wordAt 0x7040]))
    ∧ (∀ (s : State) (addr g : Nat), s.inService = true → pageGlade addr = some g → msixArea addr = false → pageAbsent s.variant addr = true →
        addr % 0x1000 ≠ 0 → Reaches (.statusRead addr true) s (fun t => t.host.rdata = [0] ∧ t.regs = s.regs))
    ∧ (∀ (s : State) (addr : Nat), s.inService = true →
        Reaches (.statusRead addr false) s (fun t => t.host.rdata = [0xFFFFFFFF] ∧ t.host.readErr = true ∧ t.get R.SYS_HSTAT_HPAR = 1))
    ∧ (∀ s : State, s.inService = true →
        Reaches .nowLoRead s (fun t => t.host.rdata = [s.nowNs % 2 ^ 32] ∧ t.get R.TIME_NOW_HI_VAL = s.nowNs / 2 ^ 32 % 2 ^ 32
          ∧ t.get R.TIME_NOW_FR_VAL = s.time % 2 ^ 32 ∧ t.time = s.time))
    ∧ (∀ (s : State) (i : Nat), s.inService = true → s.variant = .x → i < 2 →
        Reaches (.spdnetRead i) s (fun t => t.get (R.POS_SPEED_SPD i) = (s.pos i).speed % 2 ^ 32 ∧ t.poss = s.poss))
    ∧ (∀ (s : State) (k : Nat), s.inService = true → k < 16 →
        Reaches (.uIntLoRead k) s (fun t => (t.loop k).latch = (s.loop k).int / 2 ^ 32 ∧ (t.loop k).int = (s.loop k).int
          ∧ RegsKeptBut [] s t))

/-- The key written to UNLOCK arms it for its writer; a second write by the same writer that names a page clears the LOCK of that page, except that of SAFE and except in RUN; any other write - another value, a page index of no page, the key again, or a write of another writer - disarms it with UNLK_REF and a CONFIG event at L0, and so is a write other than the key refused while nothing is armed; the arming ends by itself. The unit of that event is the reading of notes/assumptions/10.md. EOI0 and EOI1 send their vector again only while its summary stands. PERST_N and loss of the link leave SPEED and WIDTH 0, a trained link shows its own; a Function Level Reset leaves the registers alone. -/
def Obligations.UnlockAndInterruptMessages : Prop :=
  (∀ (s : State) (w : Writer), s.inService = true → s.pageGranted w 0x40 = true → s.host.unlk = none →
      Reaches (.unlockWrite w 0x554E4C4B) s (fun t => t.host.unlk = some w ∧ t.regs = s.regs)
        ∧ ∀ v, v ≠ 0x554E4C4B → Reaches (.unlockWrite w v) s (fun t => t.host.unlk = none ∧ t.get R.SYS_HSTAT_UNLK_REF = 1
            ∧ RegsKeptBut [R.SYS_HSTAT_UNLK_REF, R.SYS_ERR_ADDR_ADDR, R.SYS_IRQ_STAT_PEND] s t
            ∧ { cls := .config, unit := addrUnit (unlockBase v), req := .l0, aux := unlockBase v } ∈ t.flt.inbox))
    ∧ (∀ (s : State) (u w : Writer) (v : Nat), s.inService = true → s.pageGranted w 0x40 = true → s.host.unlk = some u →
        (sameWriter u w = false ∨ v = 0x554E4C4B ∨ v < 0x80000000 ∨ pageExists (v - 0x80000000) = false) →
        Reaches (.unlockWrite w v) s (fun t => t.host.unlk = none ∧ t.get R.SYS_HSTAT_UNLK_REF = 1
          ∧ RegsKeptBut [R.SYS_HSTAT_UNLK_REF, R.SYS_ERR_ADDR_ADDR, R.SYS_IRQ_STAT_PEND] s t
          ∧ { cls := .config, unit := addrUnit (unlockBase v), req := .l0, aux := unlockBase v } ∈ t.flt.inbox))
    ∧ (∀ (s : State) (w : Writer) (p : Nat), s.inService = true → s.pageGranted w 0x40 = true → s.host.unlk = some w → pageExists p = true →
        (p ≠ 0xC0 → s.arm.mode ≠ .run → Reaches (.unlockWrite w (0x80000000 + p)) s (fun t =>
          t.pageLocked (0x1000 * p) = false ∧ t.host.unlk = none ∧ RegsKeptBut [⟨0x1000 * p + 0x18, 0, 1, 0, .rw⟩] s t))
        ∧ (p = 0xC0 ∨ s.arm.mode = .run → Reaches (.unlockWrite w (0x80000000 + p)) s (fun t =>
          t.host.unlk = none ∧ t.get R.SYS_HSTAT_UNLK_REF = 1 ∧ t.get R.SYS_ERR_ADDR_ADDR = 0x40
            ∧ { cls := .config, unit := addrUnit (0x1000 * p), req := .l0, aux := 0x1000 * p } ∈ t.flt.inbox)))
    ∧ (∀ s : State, s.inService = true →
        Reaches .unlockArmExpired s (fun t => t.host.unlk = none ∧ t.regs = s.regs)
          ∧ Reaches .eoi0 s (fun t => t.host.msix0 = s.host.msix0 + b2n s.vec0 ∧ t.regs = s.regs)
          ∧ Reaches .eoi1 s (fun t => t.host.msix1 = s.host.msix1 + b2n s.vec1 ∧ t.regs = s.regs)
          ∧ Reaches (.pcieReset false) s (fun t => t.get R.SYS_STATUS_SPEED = 0 ∧ t.get R.SYS_STATUS_WIDTH = 0 ∧ t.get R.SYS_STATUS_STANDALONE = 1)
          ∧ exec (.pcieReset true) s = .next s
          ∧ (∀ sp wd, 1 ≤ sp → sp ≤ 3 → 1 ≤ wd → wd ≤ 4 → Reaches (.pcieLinkUp sp wd) s (fun t =>
              t.get R.SYS_STATUS_SPEED = sp ∧ t.get R.SYS_STATUS_WIDTH = wd ∧ t.pcieUp = true))
          ∧ ∀ lost, Reaches (.pcieLinkDown lost) s (fun t => t.get R.SYS_STATUS_SPEED = 0 ∧ t.pcieUp = false
              ∧ (lost = true → t.get R.SYS_STATUS_STANDALONE = 1)))

/-- With INC = 1 and STRIDE = 4 bytes, a write of DP_DATA to device memory stores the four bytes of the word, little-endian, at DP_ADDR and leaves every other byte alone, and a read returns them; DP_ADDR moves on by four; a burst stores its bytes from DP_ADDR upwards and a burst read returns them, from PCIe only with the link up (notes/assumptions/34.md), and one that fails parity moves nothing and sets HPAR; a misaligned access fails with code 5; DP_ADDR takes the word written. -/
def Obligations.DataPortMovesBytes : Prop :=
  ∀ (s : State) (a : Nat), s.inService = true → s.get R.DPORT_DP_CTRL_INC = 1 → s.get R.DPORT_DP_CTRL_STRIDE = 1 → s.host.dpNext = none →
    s.get R.DPORT_DP_ADDR_ADDR = a → s.memBad = [] →
    (∀ v, s.host.dpWait = [] → Reaches (.dpAddrWrite v) s (fun t => t.get R.DPORT_DP_ADDR_ADDR = v % 2 ^ 32 ∧ t.mem = s.mem))
    ∧ (a % 4 = 0 → a + 4 ≤ 0xD00000 →
        (∀ v, Reaches (.dpDataWrite v) s (fun t => (∀ j, j < 4 → (t.mem.read (a + j)).toNat = v / 256 ^ j % 256)
            ∧ (∀ x, x < a ∨ a + 4 ≤ x → t.mem.read x = s.mem.read x) ∧ t.get R.DPORT_DP_ADDR_ADDR = a + 4))
        ∧ Reaches .dpDataRead s (fun t => t.host.rdata = [leNat (Memory.readN s.mem a 4)] ∧ t.mem = s.mem ∧ t.get R.DPORT_DP_ADDR_ADDR = a + 4))
    ∧ (a % 4 ≠ 0 → a < 0xD00000 → ∀ v, Reaches (.dpDataWrite v) s (fun t => t.mem = s.mem ∧ t.get R.DPORT_DP_STAT_CODE = 5
        ∧ t.get R.DPORT_DP_ERRADDR_ADDR = a ∧ t.get R.DPORT_DP_STAT_ERR = 1))
    ∧ (∀ bs : List Byte, a % 4 = 0 → a + bs.length ≤ 0xD00000 →
        Reaches (.spiDwrite ⟨0x0A, bs, true⟩) s (fun t => Memory.readN t.mem a bs.length = bs
            ∧ (∀ x, x < a ∨ a + bs.length ≤ x → t.mem.read x = s.mem.read x) ∧ t.get R.DPORT_DP_ADDR_ADDR = a + bs.length)
        ∧ (s.pcieUp = true → Reaches (.dpBurstWrite ⟨bs, true⟩) s (fun t => Memory.readN t.mem a bs.length = bs
            ∧ (∀ x, x < a ∨ a + bs.length ≤ x → t.mem.read x = s.mem.read x) ∧ t.get R.DPORT_DP_ADDR_ADDR = a + bs.length)) ∧ (s.pcieUp = false → (∀ p, exec (.dpBurstWrite ⟨bs, p⟩) s = .next s ∧ ∀ n, exec (.dpBurstRead ⟨n, p⟩) s = .next s)))
    ∧ (∀ n, a % 4 = 0 → a + n ≤ 0xD00000 →
        Reaches (.spiDread ⟨n, true⟩) s (fun t => t.host.rdata = (Memory.readN s.mem a n).map BitVec.toNat ∧ t.mem = s.mem)
        ∧ (s.pcieUp = true → Reaches (.dpBurstRead ⟨n, true⟩) s (fun t => t.host.rdata = (Memory.readN s.mem a n).map BitVec.toNat ∧ t.mem = s.mem)))
    ∧ (∀ bs c, (c = Instr.spiDwrite ⟨0x0A, bs, false⟩ ∨ c = Instr.dpBurstWrite ⟨bs, false⟩ ∧ s.pcieUp = true) →
        Reaches c s (fun t => t.mem = s.mem ∧ t.get R.SYS_HSTAT_HPAR = 1 ∧ t.get R.DPORT_DP_ADDR_ADDR = s.get R.DPORT_DP_ADDR_ADDR))
    ∧ (∀ n c, (c = Instr.spiDread ⟨n, false⟩ ∨ c = Instr.dpBurstRead ⟨n, false⟩ ∧ s.pcieUp = true) →
        Reaches c s (fun t => t.host.rdata = List.replicate n 0xFF ∧ t.host.readErr = true ∧ t.mem = s.mem ∧ t.get R.SYS_HSTAT_HPAR = 1))

/-- An SPI READ or WRITE frame whose offset is not a multiple of 4 is ignored and sets ERR; a WRITE frame of one word is a register write of that word, most significant byte first, and an incomplete word is dropped; a READ frame of one word returns, clears and changes what a register read of that offset does; the status byte shows and clears ERR, and a frame with an unknown opcode is ignored and sets it (that it comes as SPI_DWRITE is the choice of notes/assumptions/61.md); the scrubber reports a corrected word with a MEM event at L0 and an uncorrectable one at the base level, which the data port then reads with code 4. -/
def Obligations.SpiFramesAndScrubber : Prop :=
  (∀ (s : State) (ofs : Nat) (bs : List Byte), s.inService = true → ofs % 4 ≠ 0 →
      Reaches (.spiWrite ofs bs true) s (fun t => t.host.spiErr = true ∧ t.regs = s.regs ∧ t.mem = s.mem)
        ∧ ∀ n, Reaches (.spiRead ofs n true) s (fun t => t.host.spiErr = true ∧ t.regs = s.regs))
    ∧ (∀ (s : State) (ofs : Nat) (b0 b1 b2 b3 : Byte) (rest : List Byte), s.inService = true → ofs % 4 = 0 → rest.length < 4 →
        exec (.spiWrite ofs (b0 :: b1 :: b2 :: b3 :: rest) true) s =
          exec (.registerWrite .spi ofs (2 ^ 24 * b0.toNat + 2 ^ 16 * b1.toNat + 2 ^ 8 * b2.toNat + b3.toNat) 15 true) s)
    ∧ (∀ s : State, s.inService = true → s.variant = .x →
        Reaches (.spiRead 0x7040 1 true) s (fun t => t.host.rdata = [s.wordAt 0x7040] ∧ t.get R.AGE_ASTAT_MARGIN = 0))
    ∧ (∀ (s : State) (ofs : Nat), s.inService = true → ofs % 4 = 0 →
        ∃ t u, exec (.statusRead ofs true) s = .next t ∧ exec (.spiRead ofs 1 true) s = .next u
          ∧ u.host.rdata = t.host.rdata ∧ u.regs = t.regs ∧ u.mem = t.mem ∧ u.flt = t.flt)
    ∧ (∀ (s : State) (f : SpiFrame), s.inService = true → f.opcode ∉ [0x03, 0x02, 0x0B, 0x0A, 0x05] →
        Reaches (.spiDwrite f) s (fun t => t.host.spiErr = true ∧ t.regs = s.regs ∧ t.mem = s.mem ∧ t.flt = s.flt))
    ∧ (∀ (s : State) (a : Nat), s.inService = true → s.get R.DPORT_DP_CTRL_STRIDE = 1 → s.get R.DPORT_DP_ADDR_ADDR = a → a % 4 = 0 → a + 4 ≤ 0xD00000 →
        s.memBad.contains (a / 8) = true →
        Reaches .dpDataRead s (fun t => t.get R.DPORT_DP_STAT_CODE = 4 ∧ t.get R.DPORT_DP_ERRADDR_ADDR = a ∧ t.host.rdata = [0xFFFFFFFF]
          ∧ t.mem = s.mem ∧ { cls := .mem, unit := 0x0003 } ∈ t.flt.inbox))
    ∧ (∀ s : State, s.inService = true →
        Reaches .spiStatus s (fun t => t.host.spiErr = false ∧ t.host.rdata = [2 * b2n s.host.spiErr + 8 * b2n s.pcieUp] ∧ t.regs = s.regs))
    ∧ (∀ (s : State) (a : Nat), a < 2 ^ 24 →
        exec (.memoryScrub a .clean) s = .next s
        ∧ Reaches (.memoryScrub a .corrected) s (fun t => t.flt.inbox = s.flt.inbox ++ [{ cls := .mem, unit := 0x0003, req := .l0 }] ∧ t.mem = s.mem)
        ∧ Reaches (.memoryScrub a .uncorrectable) s (fun t => t.flt.inbox = s.flt.inbox ++ [{ cls := .mem, unit := 0x0003 }]
            ∧ t.memBad.contains (a / 8) = true ∧ t.mem = s.mem))

/-- A write to a page of a unit or a glade that the variant does not have, by the SPI host, by the PCIe host with its link up or by a core whose glade is up and whose task reaches the page, changes no register, no memory and nothing at the host interface, so no bus error is reported; it records one CONFIG event at L0 with the address in AUX. -/
def Obligations.WriteToAbsentPage : Prop :=
  ∀ (s : State) (w : Writer) (addr v g : Nat), s.inService = true → (w = .spi ∨ w = .host ∧ s.pcieUp = true ∨ ∃ u k, w = .core u k ∧ s.up (u / 256) = true ∧ s.pageGranted w addr = true) →
    pageGlade addr = some g → msixArea addr = false → (gladePresent s.variant g = false ∨ pageAbsent s.variant addr = true) →
    Reaches (.registerWrite w addr v 15 true) s (fun t => t.regs = s.regs ∧ t.mem = s.mem ∧ t.host = s.host
      ∧ t.flt = { s.flt with inbox := s.flt.inbox ++ [{ cls := .config, unit := addrUnit addr, aux := addr, req := .l0 }], inboxAt := s.flt.inboxAt ++ [s.elapsed] })

/-- GO_OFF, GO_CHARGE and GO_RUN wait for the commit that judges them and change neither the arm state nor memory; GO_BLOCK takes the arm from CHARGE or RUN to BLOCKED at once, with a block frame owed by every ring whose cells are known, and changes nothing in OFF, BLOCKED or DEBUG_HALT. When a waiting command is judged and replaced is the reading of notes/assumptions/14.md, and that code 6 goes first that of 13.md. -/
def Obligations.ArmCommandsWaitForCommit : Prop :=
  ∀ s : State, s.inService = true →
    Reaches .goOff s (fun t => t.arm.pend = some .off ∧ t.arm.mode = s.arm.mode ∧ t.regs = s.regs ∧ t.mem = s.mem ∧ t.flt = s.flt)
    ∧ Reaches .goCharge s (fun t => t.arm.pend = some .charge ∧ t.arm.mode = s.arm.mode ∧ t.mem = s.mem)
    ∧ Reaches .goRun s (fun t => t.arm.pend = some .run ∧ t.arm.mode = s.arm.mode ∧ t.mem = s.mem)
    ∧ (s.arm.mode = .charge ∨ s.arm.mode = .run →
        Reaches .goBlock s (fun t => t.arm.mode = .blocked ∧ t.arm.pend = none ∧ t.rank.plan = none ∧ t.mem = s.mem
          ∧ ∀ n ∈ s.ringList, s.ringUp n = true → (s.lane n).rep = false → blockRuns (s.ring n).mode = true → (t.ring n).blkWait = true))
    ∧ (s.arm.mode = .off ∨ s.arm.mode = .blocked ∨ s.arm.mode = .debugHalt → exec .goBlock s = .next s)

/-- At the commit of a cycle, a waiting command that R53 accepts takes the arm to its state; one that it refuses leaves the arm state, sets REFUSE to its code and REFUSED; either way no command waits any more and the cycle is committed. A transition that R52 does not allow has code 6 (notes/assumptions/13.md). -/
def Obligations.CommitJudgesTheCommand : Prop :=
  ∀ (s : State) (r : ArmReq), s.inService = true → s.passive = false → s.arm.selDone = true → s.arm.committed = false → s.arm.pend = some r →
    s.arm.pendLate = false → s.arm.mode ≠ .debugHalt →
    (∀ m, s.judgeReq r = 0 → armTarget s.arm.mode r = some m →
      Reaches .commit s (fun t => t.arm.mode = m ∧ t.arm.pend = none ∧ t.arm.committed = true ∧ t.mem = s.mem))
    ∧ (s.judgeReq r ≠ 0 →
      Reaches .commit s (fun t => t.arm.mode = s.arm.mode ∧ t.arm.pend = none ∧ t.arm.committed = true ∧ t.mem = s.mem
        ∧ t.get R.ARM_ARM_STATE_REFUSE = s.judgeReq r ∧ t.get R.ARM_CYC_STAT_REFUSED = 1))
    ∧ (armTarget s.arm.mode r = none → s.judgeReq r = 6)

/-- A selection start marks the cycle’s selection as done; where the arm is OFF or BLOCKED and no command waits it drops the plan and clears MISS_CNT and leaves the arm state; in RUN without a delivered reference whose miss count reaches LIMIT it blocks the arm with a SCHED event at least at L3; a second start in the cycle changes nothing. That selection runs for a waiting command, and when the counts move, is the reading of notes/assumptions/14.md; which rings delay an early start is the choice of 60.md. -/
def Obligations.SelectionRunsOncePerCycle : Prop :=
  ∀ (s : State) (n : Nat), s.inService = true → s.passive = false → s.arm.running = true →
    (s.arm.selDone = true → exec (.selectionStart n) s = .next s)
    ∧ (s.arm.selDone = false → s.arm.pend = none → (s.arm.mode = .off ∨ s.arm.mode = .blocked) →
        Reaches (.selectionStart n) s (fun t => t.arm.selDone = true ∧ t.arm.mode = s.arm.mode ∧ t.rank.plan = none
          ∧ t.get R.ARM_REF_MISS_MISS_CNT = 0 ∧ t.mem = s.mem))
    ∧ (s.arm.selDone = false → s.arm.pend = none → s.arm.mode = .run → s.arm.fresh = none →
        s.get R.ARM_REF_MISS_LIMIT ≤ s.get R.ARM_REF_MISS_MISS_CNT + 1 → s.get R.ARM_REF_MISS_MISS_CNT < 255 →
        Reaches (.selectionStart n) s (fun t => t.arm.selDone = true ∧ t.arm.mode = .blocked ∧ t.get R.ARM_CYC_STAT_REF_LATE = 1
          ∧ { cls := .sched, unit := 0x0502, req := .atLeast 3 } ∈ t.flt.inbox))

/-- Outside a pair and with no step pending, a cycle start brings device time, modulo 2^96, to the next instant of the grid, clears what the last cycle left (selection, commit, the delivered reference), and takes over a reference delivered after SEL_DL; the arm state stays. That a start which a step has passed goes to the next instant of the grid is the reading of notes/assumptions/15.md. -/
def Obligations.CycleStartBeginsTheCycle : Prop :=
  ∀ (s : State) (l : List Nat), s.inService = true → s.pairOp = false → s.servo.pend = none →
    Reaches (.cycleStart l) s (fun t => t.time = (s.time + (s.nextStart - s.cycTime)) % 2 ^ 96 ∧ t.arm.cycStart = s.nextStart % 2 ^ 96 ∧ t.arm.cycNo = s.arm.cycNo + 1 ∧ t.arm.running = true ∧ t.arm.selDone = false
      ∧ t.arm.committed = false ∧ t.arm.fresh = s.arm.nextRef ∧ t.arm.nextRef = none ∧ t.arm.mode = s.arm.mode)

/-- With no cycle running, the next cycle start is the first instant not before the present time at which device time less CYC_PHASE is a whole multiple of T; where the counter wraps before such an instant, it is the first one of the new round. That the grid lies in device time and a step or SET moves the cycle’s end at once is the reading of notes/assumptions/15.md. -/
def Obligations.GridOfCycleStarts : Prop :=
  ∀ s : State, s.arm.running = false → 0 < s.tNs → s.time < 2 ^ 96 →
    s.time ≤ s.nextStart
      ∧ (s.nextStart < 2 ^ 96 → ((s.nextStart : Int) - (s.get R.ARM_CYC_PHASE_PHASE * 2 ^ 32 : Nat)) % (s.tNs * 2 ^ 32 : Nat) = 0
          ∧ s.nextStart < s.time + s.tNs * 2 ^ 32)
      ∧ (2 ^ 96 ≤ s.nextStart →
          (((s.nextStart - 2 ^ 96 : Nat) : Int) - (s.get R.ARM_CYC_PHASE_PHASE * 2 ^ 32 : Nat)) % (s.tNs * 2 ^ 32 : Nat) = 0
          ∧ s.nextStart < 2 ^ 96 + s.tNs * 2 ^ 32
          ∧ ∀ x : Nat, s.time ≤ x → x < 2 ^ 96 → ((x : Int) - (s.get R.ARM_CYC_PHASE_PHASE * 2 ^ 32 : Nat)) % (s.tNs * 2 ^ 32 : Nat) ≠ 0)

/-- If device time is below 2^96 units of 2^-32 ns and a step answers a next state, it is below 2^96 after the step; it is so right after reset. -/
def Obligations.DeviceTimeStaysInRange : Prop :=
  State.reset.time < 2 ^ 96 ∧ ∀ s t : State, s.time < 2 ^ 96 → step s = .next t → t.time < 2 ^ 96

/-- With the arm OFF and the page unlocked, CYC_LEN from 200 to 5,000 sets LEN and SEL_DL to T - 950 ns, any other value changes nothing but records a CONFIG event, and EXEC_OFS and CYC_PHASE take their value; in any other arm state the field keeps its value and LOCKV is set. A REF_SLOPE write delivers the reference: to this cycle up to SEL_DL, to the next after it, and it clears MISS_CNT. That a write of CYC_LEN or CYC_PHASE moves the cycle’s end at once is the reading of notes/assumptions/15.md. -/
def Obligations.CycleTimingWrites : Prop :=
  ∀ (s : State) (v : Nat), s.inService = true →
    (s.arm.mode = .off → s.on R.ARM_LOCK_LOCK = false →
      (200 ≤ v → v ≤ 5000 → Reaches (.cycLenWrite v) s (fun t => t.get R.ARM_CYC_LEN_LEN = v ∧ t.get R.ARM_SEL_DL_DL = 10 * v - 950 ∧ t.mem = s.mem))
      ∧ (v % 8192 < 200 ∨ 5000 < v % 8192 → Reaches (.cycLenWrite v) s (fun t => t.regs = s.regs
          ∧ t.flt.inbox = s.flt.inbox ++ [{ cls := .config, unit := 0x0502, req := .l0, aux := 0x71040 }]))
      ∧ Reaches (.execOfsWrite v) s (fun t => t.get R.ARM_EXEC_OFS_OFS = v % 2 ^ R.ARM_EXEC_OFS_OFS.w ∧ t.mem = s.mem)
      ∧ Reaches (.cycPhaseWrite v) s (fun t => t.get R.ARM_CYC_PHASE_PHASE = v % 2 ^ R.ARM_CYC_PHASE_PHASE.w ∧ t.mem = s.mem))
    ∧ (s.arm.mode ≠ .off → ∀ c ∈ [Instr.cycLenWrite v, Instr.execOfsWrite v, Instr.cycPhaseWrite v],
        Reaches c s (fun t => t.get R.ARM_STATUS_LOCKV = 1 ∧ RegsKeptBut [R.ARM_STATUS_LOCKV] s t ∧ t.mem = s.mem))
    ∧ (s.on R.ARM_CTRL_REF_SRC = false → v < 2 ^ 32 →
        Reaches (.refSlopeWrite v) s (fun t => t.get R.ARM_REF_SLOPE_SLOPE = v ∧ t.get R.ARM_REF_MISS_MISS_CNT = 0
          ∧ RegsKeptBut [R.ARM_REF_SLOPE_SLOPE, R.ARM_REF_MISS_MISS_CNT] s t ∧ t.mem = s.mem
          ∧ (s.dlPassed = false → t.arm.fresh = some (firmwareRef (s.get R.ARM_REF_VAL_VAL) v))
          ∧ (s.dlPassed = true → t.arm.nextRef = some (firmwareRef (s.get R.ARM_REF_VAL_VAL) v) ∧ t.arm.fresh = s.arm.fresh)))

/-- On a present slot, HOLD sets the FW reason; RELEASE, without a bypass request or latch, drops FW and LEAK, asks for CLEAR_FAULT where a desaturation is latched and drops the under-voltage reasons only where UV_CLR is 0, but does nothing on the clock edge of a new desaturation report; FBP_CLR, with the arm OFF and the latch set and not reported, drops the latch, sets FW and makes the record unknown; FIRE requests FIRE_BYPASS once. A refused form changes no hold reason and posts a CONFIG event; an index of no present slot is refused alone: IDX stays, one CONFIG event is posted, and the action falls on the sub-module that IDX has named before, where that is present. No form changes memory, the arm state or another sub-module. HOLD is stated outside the instant of a selection start, which takes it in (R183). One instant of elapsed time is one edge (notes/assumptions/7.md). -/
def Obligations.HoldCommands : Prop :=
  ∀ (s : State) (i : Nat), s.inService = true → keysRise none s.enc.prot = true → keysRise none s.rank.recs = true → i < 2 ^ 11 →
    (s.slotPresent i = true →
      ((s.arm.selDone = false ∨ s.arm.selEl ≠ s.elapsed) → Reaches (.hold i) s (fun t => t.prot i = { s.prot i with fw := true } ∧ (∀ j, j ≠ i → t.prot j = s.prot j)
        ∧ t.get R.CMDENC_HOLD_CMD_IDX = i ∧ t.mem = s.mem ∧ t.arm = s.arm ∧ t.rank = s.rank
        ∧ RegsKeptBut [R.CMDENC_HOLD_CMD_IDX, R.CMDENC_STAT_UV, R.CMDENC_STAT_HOLD_BLK, R.CMDENC_IRQ_STAT_PEND] s t))
      ∧ ((s.prot i).fire = false → (s.prot i).fbp = false →
          ((s.prot i).scAt ≠ some s.elapsed → Reaches (.release i) s (fun t =>
            t.prot i = { s.prot i with fw := false, leak := 0, clr := decide ((s.prot i).desat ≠ 0), seen := 0
                                       rel := some ⟨s.elapsed, (s.prot i).fw, (s.prot i).uv, (s.prot i).leak⟩
                                       uv := if s.get R.CMDENC_PROT_UV_CLR = 0 then 0 else (s.prot i).uv }
              ∧ (∀ j, j ≠ i → t.prot j = s.prot j) ∧ t.mem = s.mem ∧ t.arm = s.arm))
          ∧ ((s.prot i).scAt = some s.elapsed → Reaches (.release i) s (fun t => t.enc = s.enc ∧ t.flt = s.flt
              ∧ RegsKeptBut [R.CMDENC_HOLD_CMD_IDX] s t ∧ t.mem = s.mem ∧ t.arm = s.arm))
          ∧ Reaches (.fire i) s (fun t => t.prot i = { s.prot i with fire := true, fireTmo := false, fireNs := s.elNs }
              ∧ (∀ j, j ≠ i → t.prot j = s.prot j) ∧ RegsKeptBut [R.CMDENC_HOLD_CMD_IDX] s t ∧ t.mem = s.mem ∧ t.arm = s.arm))
      ∧ (((s.prot i).fire = true ∨ (s.prot i).fbp = true) →
          Reaches (.release i) s (fun t => t.enc = s.enc ∧ t.rank = s.rank ∧ t.arm = s.arm ∧ t.mem = s.mem ∧ RegsKeptBut [R.CMDENC_HOLD_CMD_IDX] s t
            ∧ { cls := .config, unit := 0x0503, req := .l0, aux := 0x72050 } ∈ t.flt.inbox)
          ∧ Reaches (.fire i) s (fun t => t.enc = s.enc ∧ t.flt = s.flt ∧ t.arm = s.arm ∧ t.mem = s.mem ∧ RegsKeptBut [R.CMDENC_HOLD_CMD_IDX] s t))
      ∧ (s.arm.mode = .off → (s.prot i).fbp = true → (s.prot i).repFbp = false →
          Reaches (.fbpClr i) s (fun t => t.prot i = { s.prot i with fbp := false, fw := true } ∧ t.smRec i = { s.smRec i with rcnt := 0 }
            ∧ (∀ j, j ≠ i → t.prot j = s.prot j ∧ t.smRec j = s.smRec j) ∧ t.mem = s.mem ∧ t.arm = s.arm))
      ∧ ((s.arm.mode ≠ .off ∨ (s.prot i).fbp = false ∨ (s.prot i).repFbp = true) →
          Reaches (.fbpClr i) s (fun t => t.enc = s.enc ∧ t.rank = s.rank ∧ t.arm = s.arm ∧ t.mem = s.mem ∧ RegsKeptBut [R.CMDENC_HOLD_CMD_IDX] s t ∧ { cls := .config, unit := 0x0503, req := .l0, aux := 0x72050 } ∈ t.flt.inbox)))
    ∧ (s.slotPresent i = false → s.slotPresent (s.get R.CMDENC_HOLD_CMD_IDX) = true → ∀ j, j = s.get R.CMDENC_HOLD_CMD_IDX →
        ((s.arm.selDone = false ∨ s.arm.selEl ≠ s.elapsed) → Reaches (.hold i) s (fun t => t.prot j = { s.prot j with fw := true } ∧ (∀ k, k ≠ j → t.prot k = s.prot k)
            ∧ t.get R.CMDENC_HOLD_CMD_IDX = j ∧ t.mem = s.mem ∧ t.arm = s.arm ∧ { cls := .config, unit := 0x0503, req := .l0, aux := 0x72050 } ∈ t.flt.inbox))
        ∧ (∀ c ∈ [Instr.release i, .fbpClr i, .fire i], Reaches c s (fun t => (∀ k, k ≠ j → t.prot k = s.prot k ∧ t.smRec k = s.smRec k)
            ∧ t.get R.CMDENC_HOLD_CMD_IDX = j ∧ t.mem = s.mem ∧ t.arm = s.arm ∧ { cls := .config, unit := 0x0503, req := .l0, aux := 0x72050 } ∈ t.flt.inbox)))
    ∧ (s.slotPresent i = false → s.slotPresent (s.get R.CMDENC_HOLD_CMD_IDX) = false → ∀ c ∈ [Instr.hold i, .release i, .fbpClr i, .fire i],
        Reaches c s (fun t => t.enc = s.enc ∧ t.rank = s.rank ∧ t.arm = s.arm ∧ t.mem = s.mem ∧ t.regs = s.regs
          ∧ { cls := .config, unit := 0x0503, req := .l0, aux := 0x72050 } ∈ t.flt.inbox))

/-- A bypass timer runs out FBP_TMO ms after its request and sets FBP_TMO and posts one CELL event at least at L3; a held sub-module whose count has reached HOLD_BLK, once, requests FIRE_BYPASS with AUTO_FBP and otherwise posts a standing CELL event; a leakage round started with eligible members makes all of them pending, clears FAILS and shows LEAK_BUSY; a leakage result that never came is asked for again; where their condition is not met none of them changes anything. That HOLD_BLK acts once when its count arrives at the limit is the reading of notes/assumptions/47.md; that no round without members follows under CONT the choice of 60.md. -/
def Obligations.ProtectionTimers : Prop :=
  ∀ (s : State) (i : Nat), s.inService = true → keysRise none s.enc.prot = true →
    ((s.prot i).fire = true → (s.prot i).fireTmo = false →
      Reaches (.fbpTimeout i) s (fun t => t.prot i = { s.prot i with fireTmo := true } ∧ t.get R.CMDENC_STAT_FBP_TMO = 1
        ∧ t.flt.inbox = s.flt.inbox ++ [{ cls := .cell, unit := ringUnit (i / 16), aux := i, req := .atLeast 3 }]
        ∧ (∀ j, j ≠ i → t.prot j = s.prot j) ∧ RegsKeptBut [R.CMDENC_STAT_FBP_TMO, R.CMDENC_IRQ_STAT_PEND] s t ∧ t.mem = s.mem
        ∧ t.elapsed = max s.elapsed (((s.prot i).fireNs + 10 ^ 6 * s.get R.CMDENC_PROT_FBP_TMO) * 2 ^ 32)))
    ∧ ((s.prot i).fire = false ∨ (s.prot i).fireTmo = true → exec (.fbpTimeout i) s = .next s)
    ∧ ((s.prot i).blkDue = true → (s.prot i).held = true →
        (s.on R.CMDENC_CTRL_AUTO_FBP = true → (s.prot i).fire = false → (s.prot i).fbp = false →
          Reaches (.holdBlkReached i) s (fun t => (t.prot i).fire = true ∧ (t.prot i).fireNs = s.elNs ∧ t.arm = s.arm ∧ t.mem = s.mem))
        ∧ (s.on R.CMDENC_CTRL_AUTO_FBP = false →
          Reaches (.holdBlkReached i) s (fun t => t.prot i = { s.prot i with blkDue := false } ∧ t.flt.inbox = s.flt.inbox ++ [{ cls := .cell, unit := ringUnit (i / 16), aux := i, standing := true }]
            ∧ t.arm = s.arm ∧ t.mem = s.mem)))
    ∧ ((s.prot i).blkDue = false ∨ (s.prot i).held = false → exec (.holdBlkReached i) s = .next s)
    ∧ (s.leakPool ≠ [] →
        Reaches .leakRoundStart s (fun t => t.enc.lkOpen = true ∧ (∀ j ∈ s.leakPool, t.prot j = { s.prot j with lkPend := true })
          ∧ (∀ j, j ∉ s.leakPool → t.prot j = { s.prot j with lkPend := false })
          ∧ t.get R.CMDENC_LEAK_STAT_FAILS = 0 ∧ t.get R.CMDENC_STATUS_LEAK_BUSY = 1 ∧ t.mem = s.mem
          ∧ RegsKeptBut [R.CMDENC_LEAK_STAT_FAILS, R.CMDENC_STATUS_LEAK_BUSY] s t))
    ∧ ((s.prot i).lkReq = true → Reaches (.leakResultTimeout i) s (fun t => t.prot i = { s.prot i with lkReq := false } ∧ t.regs = s.regs ∧ t.mem = s.mem))
    ∧ ((s.prot i).lkReq = false → exec (.leakResultTimeout i) s = .next s)

/-- A present record whose AGE has reached OBS.LIMIT becomes unknown, and only one that was known sets UNK_REVERT and counts; SAVE marks KEY_BUSY and gives each admitted ring the writes of its present sub-modules, and its end sets KEY_DONE; SM_IDX latches STATE 7 and zeros for an absent sub-module and the record otherwise; HOLD_INFO latches the hold state, of any index (notes/assumptions/63.md); a direct command to a held sub-module inside the window is queued with the source of its writer, and one that may not pass is counted as dropped. What STATE, GROUP and DWELL_OVR show where the rules are silent is the choice of notes/assumptions/59.md. -/
def Obligations.RecordsAndDirectCommands : Prop :=
  ∀ s : State, s.inService = true → keysRise none s.rank.recs = true →
    (∀ i, (s.smRec i).present = true → s.get R.RANK_OBS_LIMIT ≤ (s.smRec i).age →
      Reaches (.recordAgeLimit i) s (fun t => t.smRec i = { s.smRec i with rcnt := 0 } ∧ (∀ j, j ≠ i → t.smRec j = s.smRec j) ∧ t.mem = s.mem
        ∧ ((s.smRec i).rcnt = 2 → t.get R.RANK_STAT_UNK_REVERT = 1
            ∧ t.get R.RANK_CNT_EVT_UNK_REV = (s.get R.RANK_CNT_EVT_UNK_REV + 1) % 2 ^ R.RANK_CNT_EVT_UNK_REV.w)
        ∧ ((s.smRec i).rcnt ≠ 2 → t.regs = s.regs)))
    ∧ (s.on R.RANK_STATUS_KEY_BUSY = false → keysRise none s.rings = true →
        Reaches .keySave s (fun t => t.get R.RANK_STATUS_KEY_BUSY = 1 ∧ t.rank.keySave = s.admittedRings ∧ t.mem = s.mem
          ∧ (∀ n ∈ s.admittedRings, (t.ring n).svcKeys =
              ((List.range 16).filter (fun k => (s.smRec (16 * n + k)).present)).map (fun k => (k, keyWord (s.smRec (16 * n + k)).key)))
          ∧ (∀ n, n ∉ s.admittedRings → t.ring n = s.ring n)))
    ∧ (s.on R.RANK_STATUS_KEY_BUSY = true → exec .keySave s = .next s
        ∧ (s.rank.keySave.all (fun n => (s.ring n).keysOut) = true → Reaches .keySaveDone s (fun t => t.get R.RANK_STATUS_KEY_BUSY = 0 ∧ t.get R.RANK_STAT_KEY_DONE = 1 ∧ t.mem = s.mem ∧ t.rings = s.rings)))
    ∧ (∀ v, Reaches (.smIdxWrite v) s (fun t => t.get R.RANK_SM_IDX_IDX = v % 2 ^ 11 ∧ t.rank = s.rank ∧ t.mem = s.mem ∧ t.flt = s.flt
          ∧ (s.slotPresent (v % 2 ^ 11) = false →
              t.get R.RANK_SM_REC3_STATE = 7 ∧ t.get R.RANK_SM_REC1_KEY = 0 ∧ t.get R.RANK_SM_REC0_V_EST = 0 ∧ t.get R.RANK_SM_REC3_HELD = 0)
          ∧ ((s.smRec (v % 2 ^ 11)).present = true → s.slotPresent (v % 2 ^ 11) = true →
              t.get R.RANK_SM_REC0_V_EST = (s.smRec (v % 2 ^ 11)).vFix / 256 % 2 ^ R.RANK_SM_REC0_V_EST.w
                ∧ t.get R.RANK_SM_REC1_KEY = (s.smRec (v % 2 ^ 11)).key % 2 ^ R.RANK_SM_REC1_KEY.w
                ∧ t.get R.RANK_SM_REC3_TYPE = if (s.smRec (v % 2 ^ 11)).full then 2 else 1)))
    ∧ (∀ v, Reaches (.holdInfoWrite v) s (fun t => t.enc = s.enc ∧ t.mem = s.mem ∧ t.get R.CMDENC_HOLD_INFO_IDX = v % 2 ^ 11
          ∧ t.get R.CMDENC_HOLD_INFO_FW = b2n (s.prot (v % 2 ^ 11)).fw ∧ t.get R.CMDENC_HOLD_INFO_FBP = b2n (s.prot (v % 2 ^ 11)).fbp
          ∧ t.get R.CMDENC_HOLD_INFO_DESAT_SW = (s.prot (v % 2 ^ 11)).desat % 2 ^ R.CMDENC_HOLD_INFO_DESAT_SW.w))
    ∧ (∀ i sw ofs, i < 2 ^ 11 → sw < 16 → ofs < 2 ^ 13 → s.enc.dcmds = [] →
        ((s.prot i).held = true → (s.prot i).fire = false → (s.prot i).fbp = false → s.blockAll = false → s.on R.CMDENC_CTRL_HOST_DCMD = true →
          ofs < s.get R.ARM_CYC_LEN_LEN →
          Reaches (.dcmdPost .host (i + 2 ^ 12 * sw + 2 ^ 16 * ofs)) s (fun t =>
            t.enc.dcmds = [{ idx := i, sw := sw, ofs := ofs, src := 2, task := 0, at_ := s.elapsed }] ∧ t.get R.CMDENC_DCMD_STAT_FILL = 1 ∧ t.mem = s.mem))
        ∧ ((s.prot i).held = false →
          Reaches (.dcmdPost .host (i + 2 ^ 12 * sw + 2 ^ 16 * ofs)) s (fun t => t.enc = s.enc ∧ t.get R.CMDENC_STAT_DCMD_DROP = 1 ∧ t.mem = s.mem
            ∧ t.get R.CMDENC_DCMD_STAT_DROP = (s.get R.CMDENC_DCMD_STAT_DROP + 1) % 2 ^ R.CMDENC_DCMD_STAT_DROP.w)))

/-- EN = 1 with the lane locked takes a DOWN ring to PROBE; a completed probe takes it to ENUM with half of the mean round trip less the turnaround as its link delay (of which LINK.DLY keeps 16 bits, notes/assumptions/63.md), its lane has answered the probes that came, and an ENUM frame leaves; two successive undamaged ENUM frames with equal HOPS from 1 to 16 take it to IDENT with NC, the round trip of a full frame and the slots, and after a first or a damaged one the next ENUM frame leaves; a device that brings no rings up, or whose lane repeats, goes on with none of it; HOPS outside that range and both timeouts take it to DOWN with TOPO and a RING event; a ring that has no further condition to meet and whose ADMIT is set is admitted with its cells recorded, and one outside its timing stays in READY; EN = 0 takes a ring to DOWN, but an admitted ring outside OFF keeps EN and sets LOCKV. When a DOWN ring starts again and how a delay is rounded are the readings of notes/assumptions/16.md and 54.md. -/
def Obligations.RingBringUp : Prop :=
  ∀ (s : State) (n : Nat), s.inService = true → n < s.variant.rings → keysRise none s.rings = true →
    ((s.ring n).mode = .down → s.on (R.RING_CTRL_EN n) = false → (s.lane n).mode = .locked → s.bringsUp = true →
      Reaches (.ringEnSet n) s (fun t => (t.ring n).mode = .probe ∧ t.get (R.RING_CTRL_EN n) = 1 ∧ RegsKeptBut [R.RING_CTRL_EN n] s t ∧ t.mem = s.mem
        ∧ ∀ m, m ≠ n → t.ring m = s.ring m))
    ∧ ((s.lane n).mode ≠ .locked → Reaches (.ringEnSet n) s (fun t => (t.ring n).mode = (s.ring n).mode ∧ t.get (R.RING_CTRL_EN n) = 1 ∧ t.mem = s.mem))
    ∧ ((s.ring n).mode = .admitted → s.arm.mode ≠ .off →
        Reaches (.ringEnClear n) s (fun t => t.get (R.RING_STATUS_LOCKV n) = 1 ∧ t.get (R.RING_CTRL_EN n) = s.get (R.RING_CTRL_EN n)
          ∧ t.rings = s.rings ∧ t.mem = s.mem
          ∧ t.flt.inbox = s.flt.inbox ++ [{ cls := .config, unit := ringUnit n, req := .l0, aux := 0x10008 + 0x1000 * n }]))
    ∧ ((s.ring n).mode ≠ .fenced → ((s.ring n).mode ≠ .admitted ∨ s.arm.mode = .off) →
        Reaches (.ringEnClear n) s (fun t => t.get (R.RING_CTRL_EN n) = 0 ∧ (t.ring n).mode = .down ∧ t.mem = s.mem
          ∧ ∀ m, m ≠ n → t.ring m = { s.ring m with lossEv := (t.ring m).lossEv }))
    ∧ ((s.ring n).mode ≠ .ready →
        Reaches (.ringAdmitWrite n) s (fun t => t.get (R.RING_CTRL_ADMIT n) = 1 ∧ t.rings = s.rings ∧ RegsKeptBut [R.RING_CTRL_ADMIT n] s t ∧ t.mem = s.mem))
    ∧ ((s.ring n).mode = .probe →
        (s.bringsUp = true → (s.lane n).rep = false → ∀ rts turn probes, Reaches (.probeComplete n ⟨rts, turn, probes⟩) s (fun t => (t.ring n).mode = .enum ∧ t.mem = s.mem
            ∧ t.get (R.RING_LINK_DLY n) = (rts.sum - turn * rts.length) / (2 * max 1 rts.length) % 2 ^ (R.RING_LINK_DLY n).w
            ∧ (keysRise none s.lanes = true → (t.lane n).ansOut = probes.filterMap probeAnswer)
            ∧ (∃ g, (t.ring n).out = some g ∧ g.ftype = 3 ∧ g.nc = 0 ∧ g.dir = 0 ∧ g.seq = ((s.ring n).seq + 1) % 256)))
        ∧ Reaches (.probeTimeout n) s (fun t => (t.ring n).mode = .down ∧ t.get (R.RING_STAT_TOPO n) = 1 ∧ t.mem = s.mem
            ∧ { cls := .ring, unit := ringUnit n } ∈ t.flt.inbox))
    ∧ ((s.ring n).mode ≠ .probe → (∀ p, exec (.probeComplete n p) s = .next s) ∧ exec (.probeTimeout n) s = .next s)
    ∧ (s.bringsUp = false ∨ (s.lane n).rep = true → (∀ p, exec (.probeComplete n p) s = .next s)
        ∧ ∀ f : RxFrame, exec (.enumFrameReturn n f.toRxHeader f.toRxBody) s = .next s)
    ∧ ((s.ring n).mode = .enum → s.bringsUp = true → (s.lane n).rep = false →
        (∀ f : RxFrame, f.good n = true → f.fcrcBad = false → f.ftype = 3 → seqOf f.h0 = (s.ring n).frameSeq →
          (1 ≤ f.hops → f.hops ≤ 16 → (s.ring n).lastHops = some f.hops →
            Reaches (.enumFrameReturn n f.toRxHeader f.toRxBody) s (fun t => (t.ring n).mode = .ident ∧ t.get (R.RING_TOPO_NC n) = f.hops
              ∧ t.get (R.RING_SLOTS_PRESENT n) = 2 ^ f.hops - 1 ∧ t.get (R.RING_SLOTS_VALID n) = 0 ∧ t.mem = s.mem
              ∧ t.get (R.RING_TOPO_RT n) = min 65535 ((f.rtPs + 38400 * f.hops + 9999) / 10000 * 10)))
          ∧ (1 ≤ f.hops → f.hops ≤ 16 → (s.ring n).lastHops ≠ some f.hops →
            Reaches (.enumFrameReturn n f.toRxHeader f.toRxBody) s (fun t => (t.ring n).mode = .enum ∧ (t.ring n).lastHops = some f.hops
              ∧ RegsKeptBut [R.RING_ERR_LOC_HOPS n] s t ∧ t.mem = s.mem
              ∧ (∃ g, (t.ring n).out = some g ∧ g.ftype = 3 ∧ g.nc = 0 ∧ g.seq = ((s.ring n).seq + 1) % 256))))
        ∧ (∀ f : RxFrame, f.good n = false →
            Reaches (.enumFrameReturn n f.toRxHeader f.toRxBody) s (fun t => (t.ring n).mode = .enum ∧ (t.ring n).lastHops = (s.ring n).lastHops ∧ t.mem = s.mem
              ∧ (∃ g, (t.ring n).out = some g ∧ g.ftype = 3)))
        ∧ (∀ c, (c = Instr.enumTimeout n ∨ ∃ f : RxFrame, c = Instr.enumFrameReturn n f.toRxHeader f.toRxBody ∧ f.good n = true ∧ f.fcrcBad = false ∧ f.ftype = 3
              ∧ seqOf f.h0 = (s.ring n).frameSeq ∧ (f.hops = 0 ∨ 16 < f.hops)) →
          Reaches c s (fun t => (t.ring n).mode = .down ∧ t.get (R.RING_STAT_TOPO n) = 1 ∧ t.mem = s.mem ∧ { cls := .ring, unit := ringUnit n } ∈ t.flt.inbox))
        ∧ Reaches (.enumTimeout n) s (fun t => (t.ring n).mode = .down ∧ t.get (R.RING_STAT_TOPO n) = 1))
    ∧ ((s.ring n).mode = .ready → s.on (R.RING_CTRL_ADMIT n) = true → s.arm.stepped = false →
        (s.ringTiming n = true → s.lossOk n = true →
          Reaches (.ringAdmission n) s (fun t => (t.ring n).mode = .admitted ∧ t.get (R.RING_RT_LIVE_MAX n) = 0 ∧ t.get (R.RING_ERR_LOC_MISS n) = s.get (R.RING_ERR_LOC_MISS n) ∧ t.mem = s.mem
            ∧ ∀ k, k < s.get (R.RING_TOPO_NC n) → (t.smRec (16 * n + k)).present = true
                ∧ (t.smRec (16 * n + k)).serial = (tget {} (s.ring n).idents k).serial ∧ (t.smRec (16 * n + k)).rcnt = 0))
        ∧ (s.ringTiming n = false →
          Reaches (.ringAdmission n) s (fun t => (t.ring n).mode = .ready ∧ t.rank = s.rank ∧ t.mem = s.mem
            ∧ ((s.ring n).budgetEv = false → { cls := .ring, unit := ringUnit n, standing := true } ∈ t.flt.inbox))))

/-- A status slot of a running ring, in a whole frame of its own or a block frame of the arm and within its cells, sets its VALID bit and refreshes its admitted cell’s record where its check is right, and otherwise clears VALID and leaves the records, and counts if the frame is the cycle’s own; a slot of the cycle’s frame whose header came back after SEL_DL is no report, while one whose header was in by SEL_DL is, however late itself; a slot behind another header is no report; a returning frame with a good header sets HOPS and, once, the live round trip of a NORMAL frame, also when it comes back after its cycle; one with a wrong HCRC counts and sets HCRC while the cycle’s frame is out; a ring that owes a block frame sends one whose every slot is an untagged BLOCK; a frame of the other direction makes an active device yield its role; a repeating lane sends the blocks of a frame that it receives, with its own answers in place of probes, and notes the frame start where it is dual-homed, which takes back a takeover for silence decided at that instant; a lane answers a probe set with the probe’s number and its turnaround; the repeated block frames of an L4 leave once. Header values of SERVICE frames and the scrambler’s register are the readings of notes/assumptions/54.md and 5.md. -/
def Obligations.RingFrames : Prop :=
  ∀ (s : State) (n : Nat), s.inService = true → n < s.variant.rings → keysRise none s.rings = true →
    (frameRuns (s.ring n).mode = true → (s.lane n).rep = false →
      (∀ k h0 h1 a b c d, headerOk n h0 h1 = true → ((s.ring n).isOwn h0 = true ∨ (s.ring n).isBlk h0 = true) → k < s.get (R.RING_TOPO_NC n) → k < 16 →
        ((s.ring n).isOwn h0 = true → ((s.judgeDue n).ring n).late = true → s.headInTime k = false →
          Reaches (.statusSlotReceived n k ⟨h0, h1⟩ a b c d) s (fun t => t.rank = s.rank ∧ t.enc = s.enc ∧ t.mem = s.mem
            ∧ t.get (R.RING_SLOTS_VALID n) = s.get (R.RING_SLOTS_VALID n)))
        ∧ (((s.ring n).isOwn h0 = false ∨ ((s.judgeDue n).ring n).late = false ∨ s.headInTime k = true) → slotValid n (seqOf h0) k a b c d = true →
          Reaches (.statusSlotReceived n k ⟨h0, h1⟩ a b c d) s (fun t => bitOf (t.get (R.RING_SLOTS_VALID n)) k = true ∧ t.mem = s.mem
            ∧ ((s.ring n).mode = .admitted → (s.smRec (16 * n + k)).present = true →
                (t.smRec (16 * n + k)).vRep = (parseSlot a b c d).vcap ∧ (t.smRec (16 * n + k)).age = 0
                  ∧ (t.smRec (16 * n + k)).rcnt = min 2 ((s.smRec (16 * n + k)).rcnt + 1))
            ∧ ((s.ring n).mode ≠ .admitted → s.arm.selDone = false → t.rank = s.rank)))
        ∧ (((s.ring n).isOwn h0 = false ∨ ((s.judgeDue n).ring n).late = false ∨ s.headInTime k = true) → slotValid n (seqOf h0) k a b c d = false →
          Reaches (.statusSlotReceived n k ⟨h0, h1⟩ a b c d) s (fun t => t.rank = s.rank ∧ t.enc = s.enc ∧ t.mem = s.mem
            ∧ bitOf (t.get (R.RING_SLOTS_VALID n)) k = false
            ∧ ((s.ring n).isOwn h0 = true →
                t.get (R.RING_STAT_SLOT_ERR n) = 1 ∧ t.get (R.RING_CNT_ERR_SLOT n) = (s.get (R.RING_CNT_ERR_SLOT n) + 1) % 2 ^ (R.RING_CNT_ERR_SLOT n).w)
            ∧ ((s.ring n).isOwn h0 = false →
                t.get (R.RING_STAT_SLOT_ERR n) = s.get (R.RING_STAT_SLOT_ERR n) ∧ t.get (R.RING_CNT_ERR_SLOT n) = s.get (R.RING_CNT_ERR_SLOT n)))))
      ∧ (∀ k h0 h1 a b c d, (headerOk n h0 h1 = false ∨ (s.ring n).isOwn h0 = false ∧ (s.ring n).isBlk h0 = false) →
          exec (.statusSlotReceived n k ⟨h0, h1⟩ a b c d) s = .next s)
      ∧ (∀ f : RxFrame, f.good n = true → (s.ring n).isOwn f.h0 = true →
        Reaches (.frameReturn n f) s (fun t => t.get (R.RING_ERR_LOC_HOPS n) = f.hops % 2 ^ (R.RING_ERR_LOC_HOPS n).w
          ∧ (t.ring n).back = true ∧ t.rank = s.rank ∧ t.mem = s.mem
          ∧ ((s.ring n).isNormal f = true → t.get (R.RING_RT_LIVE_LAST n) = min 65535 (f.rtPs / 1000)
              ∧ (s.admitted n = true → 1000 * s.execNs < f.rtPs → t.get (R.RING_STAT_RT_DRIFT n) = 1
                  ∧ { cls := .ring, unit := ringUnit n, req := .atLeast 2, fences := true } ∈ t.flt.inbox))
          ∧ ((s.ring n).isNormal f = false → t.get (R.RING_RT_LIVE_LAST n) = s.get (R.RING_RT_LIVE_LAST n))
          ∧ (f.fcrcBad = true → t.get (R.RING_STAT_FCRC n) = 1)
          ∧ (f.hops ≠ s.get (R.RING_TOPO_NC n) → t.get (R.RING_STAT_TOPO n) = 1
              ∧ { cls := .ring, unit := ringUnit n, req := .atLeast 2, fences := true } ∈ t.flt.inbox)))
      ∧ (∀ f : RxFrame, f.good n = true → (s.ring n).isOwn f.h0 = false → (s.ring n).isNormal f = true →
        Reaches (.frameReturn n f) s (fun t => t.get (R.RING_ERR_LOC_HOPS n) = f.hops % 2 ^ (R.RING_ERR_LOC_HOPS n).w
          ∧ t.get (R.RING_RT_LIVE_LAST n) = min 65535 (f.rtPs / 1000) ∧ t.get (R.RING_SLOTS_VALID n) = s.get (R.RING_SLOTS_VALID n)
          ∧ (t.ring n).back = (s.ring n).back ∧ t.rank = s.rank ∧ t.mem = s.mem))
      ∧ (∀ f : RxFrame, hcrcOk f.h0 f.h1 = false → (s.ring n).sent = true → (s.ring n).back = false →
        Reaches (.frameReturn n f) s (fun t => t.get (R.RING_STAT_HCRC n) = 1 ∧ (t.ring n).hdr = false ∧ t.get (R.RING_SLOTS_VALID n) = 0
          ∧ t.rank = s.rank ∧ t.mem = s.mem
          ∧ t.get (R.RING_CNT_ERR_CRC n) = (s.get (R.RING_CNT_ERR_CRC n) + 1) % 2 ^ (R.RING_CNT_ERR_CRC n).w))
      ∧ (∀ f : RxFrame, hcrcOk f.h0 f.h1 = false → ((s.ring n).sent = false ∨ (s.ring n).back = true) →
        exec (.frameReturn n f) s = .next (s.judgeDue n))
      ∧ ((s.ring n).blkWait = true → (s.lane n).mode = .locked →
        Reaches (.blockFrameSend n) s (fun t => (t.ring n).blkWait = false ∧ t.get R.ARM_CYC_STAT_BLOCKFRM = 1 ∧ t.mem = s.mem
          ∧ ∃ f, (t.ring n).out = some f ∧ f.ftype = 1 ∧ f.slots.length = s.get (R.RING_TOPO_NC n)
              ∧ ∀ c ∈ f.slots, c.sValid = true ∧ c.sTagged = false ∧ c.sSw = 0 ∧ c.eValid = false)))
    ∧ (frameRuns (s.ring n).mode = false → ∀ k h0 h1 a b c d f, exec (.statusSlotReceived n k ⟨h0, h1⟩ a b c d) s = .next s
        ∧ exec (.frameReturn n f) s = .next s ∧ exec (.blockFrameSend n) s = .next s)
    ∧ (s.pairOp = true → s.amber.role = .active → (s.lane n).rep = false →
        Reaches (.ringForeignFrame n (1 - s.get (R.RING_CFG_END n))) s (fun t => t.amber.role = .none ∧ t.get R.AMBER_ASTAT_YIELD = 1 ∧ t.mem = s.mem))
    ∧ (s.get (R.RING_CFG_END n) < 2 → exec (.ringForeignFrame n (s.get (R.RING_CFG_END n))) s = .next s)
    ∧ (s.pairOp = true → (s.lane n).rep = true → keysRise none s.lanes = true → ∀ bs,
        (s.on (R.RING_CFG_DUAL n) = false ∨ s.takenNow = false →
          Reaches (.repeatFrameStart ⟨n, bs⟩) s (fun t => t.lane n = { s.lane n with rptOut := bs.map repeatedBlock } ∧ t.regs = s.regs ∧ t.mem = s.mem
            ∧ t.amber = if s.on (R.RING_CFG_DUAL n) then { s.amber with frameAt := some s.elNs } else s.amber))
        ∧ (s.on (R.RING_CFG_DUAL n) = true → s.takenNow = true →
          Reaches (.repeatFrameStart ⟨n, bs⟩) s (fun t => t.amber.take = none ∧ t.amber.frameAt = some s.elNs
            ∧ (t.amber.role = .warm ∨ t.amber.role = .standby) ∧ t.mem = s.mem)))
    ∧ (s.amber.blkAgain = false → exec .blockFrameRepeat s = .next s)
    ∧ (s.amber.blkAgain = true → Reaches .blockFrameRepeat s (fun t => t.amber.blkAgain = false ∧ t.elapsed = max s.elapsed ((s.amber.l4At + s.tNs) * 2 ^ 32)
        ∧ t.mem = s.mem ∧ t.arm = s.arm))
    ∧ (∀ k, k < 256 → probeAnswer (probeBlock false k 0) = some (probeBlock true k Config.laneTurn))

/-- A host access to a present cell of a ring from IDENT on sets BUSY and waits; while BUSY it is turned away with a CONFIG event; on a ring that runs no accesses it ends with RESULT 3 and on an absent cell with RESULT 2; a waiting access leaves once in a SERVICE frame of the next sequence, where the transmitter is idle and the frame has left 50 ns before the next cycle start; a good reply completes it with its result and data, and a bad reply or none makes it leave again until four sends are made, after which it ends with RESULT 3. That an identity access ending PROTECTED, ERROR or NO_REPLY is a refused identity is the choice of notes/assumptions/63.md, and the NC in its frame the reading of 54.md. -/
def Obligations.ServiceAccesses : Prop :=
  ∀ (s : State) (n : Nat), s.inService = true → n < s.variant.rings → keysRise none s.rings = true →
    (∀ slot wa wr, slot < 16 → wa < 256 → wr < 2 →
      (s.on (R.RING_SVC_CMD_BUSY n) = false →
        (svcRuns (s.ring n).mode = true → bitOf (s.get (R.RING_SLOTS_PRESENT n)) slot = true →
          Reaches (.serviceAccessStart n (wa + 2 ^ 20 * slot + 2 ^ 29 * wr)) s (fun t => t.get (R.RING_SVC_CMD_BUSY n) = 1 ∧ t.mem = s.mem
            ∧ (t.ring n).svcHost = some { src := .host, slot := slot, wr := decide (wr = 1), waddr := wa, data := s.get (R.RING_SVC_LO_DATA n) + 2 ^ 32 * s.get (R.RING_SVC_HI_DATA n) }))
        ∧ (svcRuns (s.ring n).mode = false →
          Reaches (.serviceAccessStart n (wa + 2 ^ 20 * slot + 2 ^ 29 * wr)) s (fun t => t.get (R.RING_SVC_CMD_RESULT n) = 3 ∧ t.get (R.RING_SVC_CMD_BUSY n) = 0
            ∧ t.get (R.RING_STAT_SVC_DONE n) = 1 ∧ t.rings = s.rings ∧ t.mem = s.mem))
        ∧ (svcRuns (s.ring n).mode = true → bitOf (s.get (R.RING_SLOTS_PRESENT n)) slot = false →
          Reaches (.serviceAccessStart n (wa + 2 ^ 20 * slot + 2 ^ 29 * wr)) s (fun t => t.get (R.RING_SVC_CMD_RESULT n) = 2 ∧ t.rings = s.rings ∧ t.mem = s.mem)))
      ∧ (s.on (R.RING_SVC_CMD_BUSY n) = true →
        Reaches (.serviceAccessStart n (wa + 2 ^ 20 * slot + 2 ^ 29 * wr)) s (fun t => t.rings = s.rings ∧ t.get (R.RING_SVC_CMD_BUSY n) = s.get (R.RING_SVC_CMD_BUSY n) ∧ t.mem = s.mem
          ∧ { cls := .config, unit := ringUnit n, req := .l0, aux := 0x10060 + 0x1000 * n } ∈ t.flt.inbox)))
    ∧ (∀ a, svcRuns (s.ring n).mode = true → (s.lane n).mode = .locked → (s.lane n).rep = false → (s.ring n).svc = none → (s.ring n).svcKeys = [] →
        (s.ring n).svcHost = some a → a.flying = false →
        (s.txIdle n = true → s.svcFits = true →
          Reaches (.serviceFrameSend n) s (fun t =>
            (t.ring n).svc = some { a with flying := true, sends := a.sends + 1, seq := ((s.ring n).seq + 1) % 256 } ∧ (t.ring n).svcHost = none
            ∧ (t.ring n).seq = ((s.ring n).seq + 1) % 256 ∧ t.regs = s.regs ∧ t.mem = s.mem
            ∧ ∃ g, (t.ring n).out = some g ∧ g.ftype = 2 ∧ g.slots = [] ∧ g.sv = [a.sv0, a.sv1]))
        ∧ (s.txIdle n = false ∨ s.svcFits = false → exec (.serviceFrameSend n) s = .next s))
    ∧ ((s.ring n).svc = none → (∀ f, Reaches (.serviceFrameReturn n f) s (fun t => t.rings = s.rings ∧ t.mem = s.mem))
        ∧ exec (.serviceReplyTimeout n) s = .next s)
    ∧ (∀ a, (s.ring n).svc = some a → a.flying = true →
        (∀ r : RxFrame, a.src = .host → r.reply n = true → r.ftype = 2 → seqOf r.h0 = a.seq → r.result < 3 →
          Reaches (.serviceFrameReturn n r) s (fun t => (t.ring n).svc = none ∧ t.get (R.RING_SVC_CMD_RESULT n) = r.result ∧ t.get (R.RING_SVC_CMD_BUSY n) = 0
            ∧ t.get (R.RING_STAT_SVC_DONE n) = 1 ∧ t.mem = s.mem
            ∧ (r.result = 0 → a.wr = false → t.get (R.RING_SVC_LO_DATA n) = r.body.getD 1 0 % 2 ^ 32 ∧ t.get (R.RING_SVC_HI_DATA n) = r.body.getD 1 0 / 2 ^ 32 % 2 ^ 32)
            ∧ (a.wr = true → t.get (R.RING_SVC_LO_DATA n) = s.get (R.RING_SVC_LO_DATA n))))
        ∧ (∀ c, (c = Instr.serviceReplyTimeout n
              ∨ ∃ r : RxFrame, c = Instr.serviceFrameReturn n r ∧ (r.reply n = false ∨ r.ftype ≠ 2 ∨ seqOf r.h0 ≠ a.seq ∨ r.result = 3)) →
          (a.sends < 4 → Reaches c s (fun t => (t.ring n).svc = some { a with flying := false } ∧ t.mem = s.mem
              ∧ (c = Instr.serviceReplyTimeout n → t.regs = s.regs)))
          ∧ (4 ≤ a.sends → a.src = .host →
              Reaches c s (fun t => (t.ring n).svc = none ∧ t.get (R.RING_SVC_CMD_RESULT n) = 3 ∧ t.get (R.RING_STAT_SVC_DONE n) = 1 ∧ t.mem = s.mem))))

/-- EN = 1 takes a lane from OFF to CAL, where its board was accepted, and EN = 0 to OFF unless its user is enabled, which sets LOCKV; CAL, ACQ, ADAPT and SYNC follow each other as calibration, a signal within 300 ppm, adaptation and block lock are reached; taps that software has written at the instant of adaptation stand; 10 ms in ACQ set ACQ_FAIL with an L0 event, 1 ms in SYNC goes back to ACQ; a lane in another state is left as it is. That a lane whose board was refused takes EN = 1 as a locked field is notes/assumptions/39.md, and that EN is written on a fenced lane is 50.md. -/
def Obligations.LaneStates : Prop :=
  ∀ (s : State) (l : Nat), s.inService = true → s.laneUp l = true → keysRise none s.lanes = true →
    ((s.lane l).mode = .off → l ∉ s.host.laneHeld →
      Reaches (.laneEnable l) s (fun t => t.lane l = { s.lane l with mode := .cal } ∧ t.get (R.LANE_CTRL_EN l) = 1 ∧ RegsKeptBut [R.LANE_CTRL_EN l] s t ∧ t.mem = s.mem))
    ∧ (l ∈ s.host.laneHeld → Reaches (.laneEnable l) s (fun t => t.lanes = s.lanes ∧ t.get (R.LANE_STATUS_LOCKV l) = 1 ∧ t.get (R.LANE_CTRL_EN l) = s.get (R.LANE_CTRL_EN l)))
    ∧ (s.laneUsed l = true → Reaches (.laneDisable l) s (fun t => t.lanes = s.lanes ∧ t.get (R.LANE_STATUS_LOCKV l) = 1
        ∧ t.get (R.LANE_CTRL_EN l) = s.get (R.LANE_CTRL_EN l) ∧ t.mem = s.mem))
    ∧ (s.laneUsed l = false → Reaches (.laneDisable l) s (fun t => (t.lane l).mode = .off ∧ (t.lane l).scan = .none ∧ t.get (R.LANE_CTRL_EN l) = 0 ∧ t.mem = s.mem))
    ∧ ((s.lane l).mode = .cal → Reaches (.laneCalDone l) s (fun t => t.lane l = { s.lane l with mode := .acq } ∧ t.regs = s.regs ∧ t.mem = s.mem))
    ∧ ((s.lane l).mode = .acq →
        (∀ ppm, ppm ≤ 300 → Reaches (.laneSignalAcquired l ppm) s (fun t => (t.lane l).mode = (if s.get (R.LANE_CFG_ADAPT l) = 0 then .sync else .adapt) ∧ t.regs = s.regs ∧ t.mem = s.mem))
        ∧ (∀ ppm, 300 < ppm → exec (.laneSignalAcquired l ppm) s = .next s)
        ∧ Reaches (.laneAcqTimeout l) s (fun t => t.lanes = s.lanes ∧ t.get (R.LANE_STAT_ACQ_FAIL l) = 1 ∧ t.mem = s.mem
            ∧ t.flt.inbox = s.flt.inbox ++ [{ cls := .lane, unit := laneUnit l, req := .l0 }]))
    ∧ ((s.lane l).mode = .adapt → ∀ v, Reaches (.laneAdaptDone l v) s (fun t => (t.lane l).mode = .sync ∧ t.mem = s.mem
        ∧ ((s.lane l).eqAt ≠ some s.elapsed → t.get (R.LANE_RX_EQ_CTLE l) = v / 2 ^ 26 % 16
            ∧ t.get (R.LANE_RX_EQ_T1 l) = v / 2 ^ 20 % 64 ∧ t.get (R.LANE_RX_EQ_T5 l) = v % 32)
        ∧ ((s.lane l).eqAt = some s.elapsed → t.regs = s.regs)))
    ∧ ((s.lane l).mode = .sync →
        Reaches (.laneBlockLock l) s (fun t => t.lane l = { s.lane l with mode := .locked, win := true, trackAt := s.elapsed } ∧ t.regs = s.regs ∧ t.mem = s.mem)
        ∧ Reaches (.laneSyncTimeout l) s (fun t => (t.lane l).mode = .acq ∧ t.get (R.LANE_STAT_ACQ_FAIL l) = 1 ∧ t.mem = s.mem))
    ∧ ((s.lane l).mode = .off → ∀ p v, exec (.laneCalDone l) s = .next s ∧ exec (.laneSignalAcquired l p) s = .next s ∧ exec (.laneAcqTimeout l) s = .next s
        ∧ exec (.laneAdaptDone l v) s = .next s ∧ exec (.laneBlockLock l) s = .next s ∧ exec (.laneSyncTimeout l) s = .next s)

/-- A loss of lock in LOCKED counts in LOL and LOL_WIN, posts a LANE event, at least at L2 when LOL_WIN stands at LOL_LIM or above, ends scans and goes to SYNC, and a lost signal does the same and goes to ACQ; the window’s end clears LOL_WIN; READAPT is refused with ADAPT 0 or outside LOCKED, and starts re-adaptation otherwise, which waits for a running full scan, and which ADAPT 2 leaves out; its end writes the taps unless ADAPT 0 has frozen them or software has written them at that instant; TX_EQ takes PRE, POST and MAIN or nothing; the elastic buffer, PRBS and header errors set their bits and count, but an invalid block type does not count in HDR_ERR; a ring frame in passage of a recentred buffer is truncated; the transmitter is at electrical idle under TX_OFF, and in OFF and where a repeating lane is not LOCKED unless a frame in transmission still completes, and carries the received blocks, scrambled but for their sync headers and in the polarity of TX_INV, where it is. The aborted frame of a recentred buffer is notes/assumptions/55.md, with TEST.SYNC, which only a receiver with a recovered clock sets. -/
def Obligations.LaneInLock : Prop :=
  ∀ (s : State) (l : Nat), s.inService = true → s.laneUp l = true → keysRise none s.lanes = true →
    ((s.lane l).mode = .locked →
      (∀ c m, (c = Instr.laneSignalLost l ∧ m = LaneMode.acq ∨ (∃ b, c = Instr.laneLossOfLock l b) ∧ m = LaneMode.sync) →
        Reaches c s (fun t => (t.lane l).mode = m ∧ (t.lane l).scan = .none ∧ (t.lane l).readapt = false ∧ t.mem = s.mem
          ∧ t.get (R.LANE_CNT_LOL l) = (s.get (R.LANE_CNT_LOL l) + 1) % 2 ^ (R.LANE_CNT_LOL l).w ∧ t.get (R.LANE_STAT_LOL l) = 1
          ∧ (s.get (R.LANE_CFG_LOL_LIM l) = 0 → { cls := .lane, unit := laneUnit l } ∈ t.flt.inbox)
          ∧ (s.get (R.LANE_CFG_LOL_LIM l) ≠ 0 → s.get (R.LANE_CFG_LOL_LIM l) ≤ s.get (R.LANE_CNT_LOL_WIN l) + 1 →
              s.get (R.LANE_CNT_LOL_WIN l) + 1 < 2 ^ (R.LANE_CNT_LOL_WIN l).w →
              { cls := .lane, unit := laneUnit l, req := .atLeast 2, fences := true } ∈ t.flt.inbox)))
      ∧ (s.get (R.LANE_CFG_ADAPT l) = 1 → (s.lane l).scan ≠ .running →
        Reaches (.readapt l) s (fun t => t.lane l = { s.lane l with readapt := true } ∧ t.regs = s.regs ∧ t.mem = s.mem))
      ∧ (s.get (R.LANE_CFG_ADAPT l) = 1 → (s.lane l).scan = .running →
        Reaches (.readapt l) s (fun t => t.lane l = { s.lane l with defer := true } ∧ t.regs = s.regs ∧ t.mem = s.mem))
      ∧ (s.get (R.LANE_CFG_ADAPT l) = 2 → Reaches (.readapt l) s (fun t => t.lanes = s.lanes ∧ t.regs = s.regs ∧ t.mem = s.mem ∧ t.flt = s.flt)))
    ∧ (s.get (R.LANE_CFG_ADAPT l) = 0 → Reaches (.readapt l) s (fun t => t.lanes = s.lanes ∧ t.mem = s.mem
        ∧ t.flt.inbox = s.flt.inbox ++ [{ cls := .config, unit := laneUnit l, req := .l0, aux := 0x100008 + 0x1000 * l }]))
    ∧ ((s.lane l).mode ≠ .locked → ∀ b, exec (.laneLossOfLock l b) s = .next s ∧ exec (.laneSignalLost l) s = .next s
        ∧ Reaches (.readapt l) s (fun t => t.lanes = s.lanes ∧ t.flt.inbox = s.flt.inbox ++ [{ cls := .config, unit := laneUnit l, req := .l0, aux := 0x100008 + 0x1000 * l }]))
    ∧ ((s.lane l).readapt = true → ∀ v, Reaches (.readaptDone l v) s (fun t =>
        (s.get (R.LANE_CFG_ADAPT l) ≠ 0 → (s.lane l).eqAt ≠ some s.elapsed → t.get (R.LANE_RX_EQ_T1 l) = v / 2 ^ 20 % 64 ∧ t.get (R.LANE_RX_EQ_T2 l) = v / 2 ^ 15 % 32)
        ∧ ((s.get (R.LANE_CFG_ADAPT l) = 0 ∨ (s.lane l).eqAt = some s.elapsed) → t.get (R.LANE_RX_EQ_T1 l) = s.get (R.LANE_RX_EQ_T1 l) ∧ t.get (R.LANE_RX_EQ_T2 l) = s.get (R.LANE_RX_EQ_T2 l))
        ∧ t.mem = s.mem ∧ ((s.lane l).defer = false → (t.lane l).readapt = false)))
    ∧ ((s.lane l).win = true → Reaches (.lolWindowEnd l) s (fun t => t.get (R.LANE_CNT_LOL_WIN l) = 0 ∧ RegsKeptBut [R.LANE_CNT_LOL_WIN l] s t ∧ t.lanes = s.lanes ∧ t.mem = s.mem))
    ∧ (∀ v, (63 < v % 32 + v / 2 ^ 10 % 64 + v / 2 ^ 5 % 32 ∨ 15 < v % 32 ∨ v / 2 ^ 10 % 64 < 32) →
        Reaches (.txEqWrite l v) s (fun t => t.get (R.LANE_TX_EQ_MAIN l) = s.get (R.LANE_TX_EQ_MAIN l) ∧ t.get (R.LANE_TX_EQ_PRE l) = s.get (R.LANE_TX_EQ_PRE l)
          ∧ { cls := .config, unit := laneUnit l, req := .l0, aux := 0x100044 + 0x1000 * l } ∈ t.flt.inbox))
    ∧ (∀ v, v % 32 + v / 2 ^ 10 % 64 + v / 2 ^ 5 % 32 ≤ 63 → v % 32 ≤ 15 → 32 ≤ v / 2 ^ 10 % 64 →
        Reaches (.txEqWrite l v) s (fun t => t.get (R.LANE_TX_EQ_MAIN l) = v / 2 ^ 10 % 64 ∧ t.get (R.LANE_TX_EQ_POST l) = v / 2 ^ 5 % 32 ∧ t.get (R.LANE_TX_EQ_PRE l) = v % 32
          ∧ t.lanes = s.lanes ∧ t.mem = s.mem))
    ∧ Reaches (.elasticRecentre l) s (fun t => t.get (R.LANE_STAT_ELASTIC l) = 1 ∧ RegsKeptBut [R.LANE_STAT_ELASTIC l, R.LANE_IRQ_STAT_PEND l] s t ∧ t.lanes = s.lanes
        ∧ (keysRise none s.rings = true → l < 96 → t.ring l = (s.ring l).lose) ∧ (∀ m, m ≠ l ∨ 96 ≤ l → t.ring m = s.ring m))
    ∧ (s.on (R.LANE_TEST_CHK l) = true → s.on (R.LANE_CFG_RATE l) = false → s.laneUsed l = false → (s.lane l).mode ≠ .off → s.get (R.LANE_TEST_ERRS l) = 0 →
        Reaches (.prbsError l) s (fun t => t.get (R.LANE_TEST_ERRS l) = 1 ∧ t.get (R.LANE_STAT_PRBS_ERR l) = 1 ∧ t.lane l = { s.lane l with prbs := true }
          ∧ t.mem = s.mem ∧ (clocked (s.lane l).mode = true → t.prbsSync l = 1)))
    ∧ (s.laneUsed l = true ∨ (s.lane l).mode = .off → exec (.prbsError l) s = .next s)
    ∧ ((s.lane l).mode ≠ .off → ∀ b, Reaches (.invalidSyncHeader ⟨l, b⟩) s (fun t => t.get (R.LANE_STAT_CODE_ERR l) = 1 ∧ t.lanes = s.lanes ∧ t.mem = s.mem
        ∧ (b = false → t.get (R.LANE_CNT_HDR_ERR l) = (s.get (R.LANE_CNT_HDR_ERR l) + 1) % 2 ^ (R.LANE_CNT_HDR_ERR l).w)
        ∧ (b = true → t.get (R.LANE_CNT_HDR_ERR l) = s.get (R.LANE_CNT_HDR_ERR l))))
    ∧ (s.on (R.LANE_CTRL_TX_OFF l) = true ∨ ((s.lane l).mode = .off ∨ (s.lane l).rep = true ∧ (s.lane l).mode ≠ .locked) ∧ s.laneFinishes l = false →
        s.laneLine l = .quiet)
    ∧ (s.on (R.LANE_CTRL_TX_OFF l) = false → (s.lane l).mode = .locked → (s.lane l).rep = true → l < 112 →
        s.laneLine l = .wire (if s.on (R.LANE_CFG_TX_INV l) then invertBlocks (wireBlocks (Config.scrambler l s.elapsed).toNat (s.lane l).rptOut)
          else wireBlocks (Config.scrambler l s.elapsed).toNat (s.lane l).rptOut))
    ∧ (∀ bs : List (Nat × Nat), (wireBlocks (Config.scrambler l s.elapsed).toNat bs).map (·.1) = bs.map (·.1))

/-- GO without a scan asks for one with its steps, its counts cleared and its number of points, and takes the lowest free map slot unless a cross scan runs; with a scan under way it is turned away with a CONFIG event; STOP ends a scan with RESULT 2; FREE gives the slot back, and is turned away while a scan runs; FREE with GO while one runs posts one event; each point writes H, V and its errors, saturated, into its four bytes of the map and no others, and the last sets RESULT 1 and ES_DONE; a due margin check runs a cross scan only on a locked lane with a period and no full scan, and a cross scan whose figures, the lengths of the error-free runs through its centre or 0 where that shows errors, are in bounds ends with its figures. Errors of a point and of a cross scan are operands of their commands, and one that no engine can have changes nothing (notes/assumptions/43.md). -/
def Obligations.EyeScans : Prop :=
  ∀ (s : State) (l : Nat), s.inService = true → s.laneUp l = true → keysRise none s.lanes = true →
    ((s.lane l).scan = .none → (s.lane l).cross = false → (s.lane l).slot = none → (∀ e ∈ s.lanes, e.2.slot = none) →
      Reaches (.esGo l (2 ^ 31)) s (fun t => (t.lane l).scan = .running ∧ (t.lane l).slot = some 0 ∧ (t.lane l).point = 0 ∧ t.get (R.LANE_ES_STAT_PTS_DONE l) = 0
        ∧ t.get (R.LANE_ES_STAT_PTS_TOTAL l) = 127 * 64 ∧ t.get (R.LANE_ES_ADDR_ADDR l) = 0xCC0000 % 2 ^ (R.LANE_ES_ADDR_ADDR l).w ∧ t.mem = s.mem))
    ∧ ((s.lane l).scan ≠ .none → Reaches (.esGo l (2 ^ 31)) s (fun t => t.lanes = s.lanes ∧ t.mem = s.mem
        ∧ { cls := .config, unit := laneUnit l, req := .l0, aux := 0x100058 + 0x1000 * l } ∈ t.flt.inbox))
    ∧ ((s.lane l).scan ≠ .none → Reaches (.esStop l) s (fun t => (t.lane l).scan = .none ∧ t.get (R.LANE_ES_STAT_RESULT l) = 2 ∧ t.mem = s.mem ∧ t.flt = s.flt))
    ∧ ((s.lane l).scan ≠ .running → Reaches (.esFree l) s (fun t => (t.lane l).slot = none ∧ t.get (R.LANE_ES_ADDR_ADDR l) = 0 ∧ t.mem = s.mem))
    ∧ ((s.lane l).scan = .running → Reaches (.esFree l) s (fun t => t.lanes = s.lanes ∧ t.regs = s.regs
        ∧ { cls := .config, unit := laneUnit l, req := .l0, aux := 0x100058 + 0x1000 * l } ∈ t.flt.inbox))
    ∧ ((s.lane l).scan = .waiting → (s.lane l).cross = false → ∀ k, s.eyeSlot l = some k →
        Reaches (.eyeScanStart l) s (fun t => (t.lane l).scan = .running ∧ (t.lane l).slot = some k ∧ t.get (R.LANE_ES_STAT_SLOT l) = k % 2 ^ (R.LANE_ES_STAT_SLOT l).w ∧ t.mem = s.mem))
    ∧ ((s.lane l).scan ≠ .waiting → exec (.eyeScanStart l) s = .next s)
    ∧ ((s.lane l).scan = .running → Reaches (.esGo l (2 ^ 31 + 2 ^ 29)) s (fun t => t.lanes = s.lanes ∧ t.mem = s.mem
        ∧ t.flt.inbox = s.flt.inbox ++ [{ cls := .config, unit := laneUnit l, req := .l0, aux := 0x100058 + 0x1000 * l }]))
    ∧ (∀ k err, (s.lane l).scan = .running → (s.lane l).slot = some k →
        Reaches (.eyeScanPointDone l err) s (fun t =>
          (s.memBad = [] → s.linkCut (laneUnit l / 256) (memUnit (eyeBase k + 4 * (s.lane l).point) / 256) = false →
            let cols := axisPoints 64 (s.lane l).hStep
            t.mem.read (eyeBase k + 4 * (s.lane l).point) = BitVec.ofInt 8 (-32 + (2 ^ (s.lane l).hStep * ((s.lane l).point % cols) : Nat))
            ∧ t.mem.read (eyeBase k + 4 * (s.lane l).point + 1) = BitVec.ofInt 8 (63 - (2 ^ (s.lane l).vStep * ((s.lane l).point / cols) : Nat))
            ∧ t.mem.read (eyeBase k + 4 * (s.lane l).point + 2) = BitVec.ofNat 8 (satTo 65535 err % 256)
            ∧ t.mem.read (eyeBase k + 4 * (s.lane l).point + 3) = BitVec.ofNat 8 (satTo 65535 err / 256))
          ∧ (∀ a, (a < eyeBase k + 4 * (s.lane l).point ∨ eyeBase k + 4 * (s.lane l).point + 4 ≤ a) → t.mem.read a = s.mem.read a)
          ∧ t.get (R.LANE_ES_STAT_PTS_DONE l) = ((s.lane l).point + 1) % 2 ^ (R.LANE_ES_STAT_PTS_DONE l).w
          ∧ ((s.lane l).point + 1 < scanPoints (s.lane l).vStep (s.lane l).hStep → t.lane l = { s.lane l with point := (s.lane l).point + 1 })
          ∧ ((s.lane l).point + 1 = scanPoints (s.lane l).vStep (s.lane l).hStep → (t.lane l).scan = .none ∧ t.get (R.LANE_ES_STAT_RESULT l) = 1 ∧ t.get (R.LANE_STAT_ES_DONE l) = 1)))
    ∧ ((s.lane l).mode = .locked → s.on (R.LANE_MCHK_PERIOD l) = true → (s.lane l).scan = .none → (s.lane l).cross = false → (s.lane l).second = false →
        Reaches (.crossScanDue l) s (fun t => t.lane l = { s.lane l with cross := true } ∧ t.regs = s.regs ∧ t.mem = s.mem))
    ∧ ((s.lane l).mode ≠ .locked → exec (.crossScanDue l) s = .next s)
    ∧ (∀ hs vs, (s.lane l).cross = true → (s.lane l).scan = .none → s.get (R.LANE_MCHK_W_MIN l) ≤ (eyeFigures hs vs).1 →
        s.get (R.LANE_MCHK_H_MIN l) ≤ (eyeFigures hs vs).2 →
        Reaches (.crossScanDone l hs vs) s (fun t => t.lane l = { s.lane l with cross := false, second := false }
          ∧ t.get (R.LANE_EYE_MON_W l) = (eyeFigures hs vs).1 % 2 ^ (R.LANE_EYE_MON_W l).w
          ∧ t.get (R.LANE_EYE_MON_H l) = (eyeFigures hs vs).2 % 2 ^ (R.LANE_EYE_MON_H l).w ∧ t.mem = s.mem ∧ t.flt = s.flt))
    ∧ (∀ hs vs, (hs.getD 32 1 ≠ 0 ∨ vs.getD 63 1 ≠ 0) → eyeFigures hs vs = (0, 0))
    ∧ (∀ hs vs, hs.getD 32 1 = 0 → vs.getD 63 1 = 0 → 1 ≤ (eyeFigures hs vs).1 ∧ 1 ≤ (eyeFigures hs vs).2
        ∧ (eyeFigures hs vs).1 ≤ hs.length ∧ (eyeFigures hs vs).2 ≤ vs.length)

/-- A flag that has been posted to an enabled unit triggers it once: the trigger latches the measurement and the values of the unit’s registers (R320, R321), and while a sample waits it only counts an overrun; without a posted flag nothing happens; the phase trigger comes once a cycle, PH * 10 ns after its start, and again where a later PH has been written, and DIV of them lie between two samples; a sample, which no lower waiting unit precedes, computes, without a ramp, the integrator and the output of R309 from what was latched, with wrapping, shows them in OUT and Y_PREV and counts; EN = 1 restarts the phase count and the ramp state, EN = 0 keeps the unit’s integrator; U_SP, U_INT_HI and ALL_OFF take their values; what meets the trigger edge or the sample of its own instant acts as R321 has it: a set-point of that edge is sampled, a load of that edge still gains the step, an enabling or disabling trigger edge triggers, and ALL_OFF governs EN = 1; a disabled unit ignores triggers and a unit without a waiting sample computes nothing. One instant of elapsed time is one edge (notes/assumptions/7.md), and what a waiting sample uses is 48.md. When a trigger by flag is lost is the reading of notes/assumptions/23.md. -/
def Obligations.LoopUnits : Prop :=
  ∀ (s : State) (k : Nat), s.inService = true → k < s.variant.loops → keysRise none s.loops = true →
    (s.on (R.U_CTRL_EN k) = false → (s.loop k).offAt ≠ some s.elapsed → Reaches (.loopTrigger k) s (fun t => t.regs = s.regs ∧ t.mem = s.mem
        ∧ (t.loop k).waiting = (s.loop k).waiting ∧ (t.loop k).snap = (s.loop k).snap ∧ (t.loop k).int = (s.loop k).int ∧ (t.loop k).phase = (s.loop k).phase))
    ∧ (s.get (R.U_TRIG_SRC k) = 2 → (s.loop k).trigs = 0 → exec (.loopTrigger k) s = .next s)
    ∧ (∀ n, (s.on (R.U_CTRL_EN k) = true ∨ (s.loop k).offAt = some s.elapsed) → s.get (R.U_TRIG_SRC k) = 2 → (s.loop k).trigs = n + 1 →
        ((s.loop k).waiting = false → Reaches (.loopTrigger k) s (fun t => (t.loop k) = { s.loop k with trigs := n, waiting := true, edgeAt := some s.elapsed, rampPend := false, news := [], snap := { y := s.get (R.U_MEAS_Y k), kp := s.get (R.U_KP_GAIN k), ki := s.get (R.U_KI_GAIN k), kd := s.get (R.U_KD_GAIN k), ff := s.get (R.U_FF_FF k), sp := s.get (R.U_SP_SP k), rate := s.get (R.U_RATE_RATE k), pend := (s.loop k).rampPend, ramping := (s.loop k).ramping, step := false, cfg := s.fieldsWord (R.unitFields k) (R.U_CFG_EVT k).addr, optag := s.fieldsWord (R.unitFields k) (R.U_OPTAG_TAG k).addr, news := (s.loop k).news } }
            ∧ t.mem = s.mem ∧ t.regs = s.regs))
        ∧ ((s.loop k).waiting = true → Reaches (.loopTrigger k) s (fun t => t.loop k = { s.loop k with trigs := n } ∧ t.get (R.U_STAT_OVERRUN k) = 1 ∧ t.mem = s.mem
            ∧ t.get (R.U_SCNT_OVR k) = (s.get (R.U_SCNT_OVR k) + 1) % 2 ^ (R.U_SCNT_OVR k).w)))
    ∧ (s.on (R.U_CTRL_EN k) = true → s.get (R.U_TRIG_SRC k) = 1 → s.get (R.U_TRIG_PH k) < s.get R.ARM_CYC_LEN_LEN → s.arm.running = true →
        (s.phaseDue (s.loop k).trigCyc (s.get (R.U_TRIG_PH k)) = false → exec (.loopTrigger k) s = .next s)
        ∧ (s.phaseDue (s.loop k).trigCyc (s.get (R.U_TRIG_PH k)) = true → (s.loop k).waiting = false →
          ((s.loop k).phase = 0 → Reaches (.loopTrigger k) s (fun t => (t.loop k).waiting = true ∧ (t.loop k).phase = s.get (R.U_TRIG_DIV k)
            ∧ (t.loop k).trigCyc = some (s.arm.cycNo, s.get (R.U_TRIG_PH k)) ∧ (t.loop k).snap.y = s.get (R.U_MEAS_Y k) ∧ (t.loop k).snap.sp = s.get (R.U_SP_SP k)
            ∧ t.time = (s.time + (s.arm.cycStart + 10 * s.get (R.U_TRIG_PH k) * 2 ^ 32 - s.cycTime)) % 2 ^ 96 ∧ t.mem = s.mem))
          ∧ (∀ p, (s.loop k).phase = p + 1 → Reaches (.loopTrigger k) s (fun t => t.loop k = { s.loop k with phase := p, trigCyc := some (s.arm.cycNo, s.get (R.U_TRIG_PH k)) }
            ∧ t.time = (s.time + (s.arm.cycStart + 10 * s.get (R.U_TRIG_PH k) * 2 ^ 32 - s.cycTime)) % 2 ^ 96 ∧ t.regs = s.regs ∧ t.mem = s.mem))))
    ∧ (∀ j, j < k → (s.loop j).waiting = true → exec (.loopSample k) s = .next s)
    ∧ ((s.loop k).waiting = false → exec (.loopSample k) s = .next s)
    ∧ (∀ e x : Int, (s.loop k).waiting = true → (∀ j, j < k → (s.loop j).waiting = false) → (s.loop k).snap.pend = false → (s.loop k).snap.ramping = false →
        e = signedOf 32 (s.loop k).snap.sp - signedOf 32 (s.loop k).snap.y → x = signedOf 48 (s.loop k).int + signedOf 32 (s.loop k).snap.ki * e / 2 ^ 24 →
        Reaches (.loopSample k) s (fun t => (t.loop k).int = codeOf 48 x ∧ (t.loop k).waiting = false ∧ t.mem = s.mem
          ∧ t.get (R.U_OUT_OUT k) = codeOf 32 (signedOf 32 (s.loop k).snap.kp * e / 2 ^ 24 + signedOf 48 (codeOf 48 x)
              + signedOf 32 (s.loop k).snap.kd * (s.getS (R.U_Y_PREV_Y k) - signedOf 32 (s.loop k).snap.y) / 2 ^ 24 + signedOf 32 (s.loop k).snap.ff)
          ∧ t.get (R.U_Y_PREV_Y k) = (s.loop k).snap.y % 2 ^ 32
          ∧ t.get (R.U_SCNT_SAMPLES k) = (s.get (R.U_SCNT_SAMPLES k) + 1) % 2 ^ (R.U_SCNT_SAMPLES k).w))
    ∧ (s.on (R.U_CTRL_EN k) = false → (s.loop k).allAt ≠ some s.elapsed → (s.loop k).missed ≠ some s.elapsed →
        Reaches (.loopEnable k) s (fun t => t.get (R.U_CTRL_EN k) = 1
        ∧ t.loop k = { s.loop k with rampPend := true, phase := 0, missed := none, trigs := if (s.loop k).onWay s.elapsed then (s.loop k).trigs else 0 }
        ∧ RegsKeptBut [R.U_CTRL_EN k, R.U_STAT_NOTRIG k, R.LOOP_IRQ_STAT_PEND (k / 16)] s t ∧ t.mem = s.mem))
    ∧ (s.on (R.U_CTRL_EN k) = false → (s.loop k).allAt ≠ some s.elapsed → (s.loop k).missed = some s.elapsed → s.get (R.U_TRIG_SRC k) = 2 →
        Reaches (.loopEnable k) s (fun t => t.get (R.U_CTRL_EN k) = 1 ∧ (t.loop k).waiting = true ∧ t.mem = s.mem))
    ∧ ((s.on (R.U_CTRL_EN k) = true ∨ (s.loop k).allAt = some s.elapsed) → exec (.loopEnable k) s = .next s)
    ∧ Reaches (.loopDisable k) s (fun t => t.get (R.U_CTRL_EN k) = 0 ∧ (∀ j, j ≠ k → t.loop j = s.loop j)
        ∧ t.loop k = { s.loop k with offAt := if s.on (R.U_CTRL_EN k) then some s.elapsed else (s.loop k).offAt }
        ∧ RegsKeptBut [R.U_CTRL_EN k, R.U_STAT_NOTRIG k, R.LOOP_IRQ_STAT_PEND (k / 16)] s t ∧ t.mem = s.mem)
    ∧ (∀ v, Reaches (.uSpWrite k v) s (fun t => t.get (R.U_SP_SP k) = v % 2 ^ 32 ∧ RegsKeptBut [R.U_SP_SP k] s t ∧ t.mem = s.mem
          ∧ ((s.loop k).waiting = true → (s.loop k).edgeAt = some s.elapsed → (t.loop k).snap.sp = v % 2 ^ 32)
          ∧ ((s.loop k).edgeAt ≠ some s.elapsed → s.on (R.U_CTRL_SP_MODE k) = true → t.loop k = { s.loop k with rampPend := true })
          ∧ ((s.loop k).edgeAt ≠ some s.elapsed → s.on (R.U_CTRL_SP_MODE k) = false →
              t.loop k = { s.loop k with ramping := false, snap := { (s.loop k).snap with step := true } }))
        ∧ Reaches (.uIntHiWrite k v) s (fun t => t.regs = s.regs ∧ t.mem = s.mem
          ∧ ((∀ d, (s.loop k).di ≠ some (s.elapsed, d)) → t.loop k = { s.loop k with int := v % 2 ^ 16 * 2 ^ 32 + (s.loop k).stage })
          ∧ (∀ d, (s.loop k).di = some (s.elapsed, d) →
              t.loop k = { s.loop k with int := codeOf 48 (((v % 2 ^ 16 * 2 ^ 32 + (s.loop k).stage : Nat) : Int) + d) })))
    ∧ Reaches (.loopAllOff (k / 16)) s (fun t => t.mem = s.mem
        ∧ (∀ j, j < 16 → t.get (R.U_CTRL_EN (16 * (k / 16) + j)) = 0 ∧ (t.loop (16 * (k / 16) + j)).allAt = some s.elapsed
          ∧ (t.loop (16 * (k / 16) + j)).int = (s.loop (16 * (k / 16) + j)).int ∧ (t.loop (16 * (k / 16) + j)).waiting = (s.loop (16 * (k / 16) + j)).waiting))

/-- A period start sets the counter to 0 and the command to the level of R350, counts the period and sends the sync pulse on; the turn-off clears the command, and the pin where the hold latch is open; CH_PER refuses values below 4 with a CONFIG event and otherwise takes the value, the counter going on, and decides a turn-off of the same tick; CH_CMP takes its value; EN = 1 starts a period; a sync pulse loads SYNC_PH, or starts a period where it is 0, and only clears the pulse on a channel without it; SYNC_IN reaches channel 0; the end of an exclusion wait raises the pin whose partner is low. A channel starts one period on one tick, and a sync load of the tick governs the counter (R366). The clauses leave out the tick of a pair hold, on which a hold may be taken back; effects of the next tick are applied within the step (notes/assumptions/12.md). -/
def Obligations.PwmPeriods : Prop :=
  ∀ (s : State) (c : Nat), s.inService = true → c < 16 → keysRise none s.pwm.chs = true → (∀ h ∈ s.pwm.holds, h.at_ < s.elapsed) →
    (s.on (R.CH_CTRL_EN c) = true →
      (s.perNow c = none → (s.ch c).loadAt ≠ some s.elapsed → Reaches (.pwmPeriodStart c) s (fun t => (t.ch c).cnt = 0 ∧ (t.ch c).cmd = chLevel (s.get (R.CH_CFG_MODE c)) (s.get (R.CH_PER_PER c)) (s.get (R.CH_CMP_CMP c)) 0
        ∧ t.get (R.CH_PCNT_PERIODS c) = (s.get (R.CH_PCNT_PERIODS c) + 1) % 2 ^ (R.CH_PCNT_PERIODS c).w ∧ t.mem = s.mem
        ∧ (c < 15 → (t.ch (c + 1)).pulse = true) ∧ (c = 15 → t.pwm.syncOut = s.pwm.syncOut + 1)
        ∧ (s.pwm.held = false → s.pairOn (c / 2) = false → (s.ch c).fltLat = false → (s.ch c).supLow = false → (t.ch c).out = (t.ch c).cmd)))
      ∧ ((s.perNow c).isSome = true → (s.ch c).loadAt ≠ some s.elapsed →
        Reaches (.pwmPeriodStart c) s (fun t => (t.ch c).cnt = 0 ∧ t.get (R.CH_PCNT_PERIODS c) = s.get (R.CH_PCNT_PERIODS c) ∧ t.mem = s.mem))
      ∧ ((s.ch c).loadAt = some s.elapsed → Reaches (.pwmPeriodStart c) s (fun t => (t.ch c).cnt = (s.ch c).cnt ∧ (t.ch c).cmd = (s.ch c).cmd
        ∧ t.get (R.CH_PCNT_PERIODS c) = (s.get (R.CH_PCNT_PERIODS c) + 1) % 2 ^ (R.CH_PCNT_PERIODS c).w ∧ t.mem = s.mem))
      ∧ (∀ k, chTurnOff (s.get (R.CH_CFG_MODE c)) (s.get (R.CH_PER_PER c)) (s.get (R.CH_CMP_CMP c)) = some k →
        Reaches (.pwmTurnOff c) s (fun t => (t.ch c).cnt = k ∧ (t.ch c).cmd = false ∧ (s.pwm.held = false → (t.ch c).out = false) ∧ t.mem = s.mem))
      ∧ exec (.pwmEnable c) s = .next s
      ∧ (s.on (R.CH_CFG_SYNC_EN c) = true →
        Reaches (.syncPulse c) s (fun t => t.mem = s.mem ∧ (t.ch c).pulse = false
          ∧ (s.get (R.CH_SYNC_PH_PH c) = 0 → (t.ch c).cnt = 0
              ∧ (s.perNow c = none → t.get (R.CH_PCNT_PERIODS c) = (s.get (R.CH_PCNT_PERIODS c) + 1) % 2 ^ (R.CH_PCNT_PERIODS c).w)
              ∧ ((s.perNow c).isSome = true → t.get (R.CH_PCNT_PERIODS c) = s.get (R.CH_PCNT_PERIODS c)))
          ∧ (0 < s.get (R.CH_SYNC_PH_PH c) → s.get (R.CH_PER_PER c) ≤ s.get (R.CH_SYNC_PH_PH c) → (t.ch c).cnt = s.get (R.CH_SYNC_PH_PH c) ∧ (t.ch c).cmd = (s.ch c).cmd)
          ∧ (0 < s.get (R.CH_SYNC_PH_PH c) → s.get (R.CH_SYNC_PH_PH c) < s.get (R.CH_PER_PER c) → (t.ch c).cnt = s.get (R.CH_SYNC_PH_PH c)
              ∧ (t.ch c).cmd = chLevel (s.get (R.CH_CFG_MODE c)) (s.get (R.CH_PER_PER c)) (s.get (R.CH_CMP_CMP c)) (s.get (R.CH_SYNC_PH_PH c)))))
      ∧ (∀ v, 4 ≤ v % 2 ^ 20 → Reaches (.chPerWrite c v) s (fun t => (t.ch c).cnt = (s.ch c).cnt ∧ t.get (R.CH_PER_PER c) = v % 2 ^ 20 ∧ t.mem = s.mem
          ∧ (0 < (s.ch c).cnt → (s.ch c).dropped = false → (t.ch c).cmd = (s.ch c).cmd)
          ∧ (0 < (s.ch c).cnt → (s.ch c).dropped = true →
              (t.ch c).cmd = ((s.ch c).cmd || chLevel (s.get (R.CH_CFG_MODE c)) (v % 2 ^ 20) (s.get (R.CH_CMP_CMP c)) (s.ch c).cnt))
          ∧ ((s.ch c).cnt = 0 → (t.ch c).cmd = chLevel (s.get (R.CH_CFG_MODE c)) (v % 2 ^ 20) (s.get (R.CH_CMP_CMP c)) 0))))
    ∧ (s.on (R.CH_CTRL_EN c) = false →
        exec (.pwmPeriodStart c) s = .next s
        ∧ Reaches (.pwmEnable c) s (fun t => t.get (R.CH_CTRL_EN c) = 1 ∧ (t.ch c).cnt = 0 ∧ t.mem = s.mem)
        ∧ Reaches (.syncPulse c) s (fun t => (t.ch c).pulse = false ∧ (t.ch c).cnt = (s.ch c).cnt ∧ (t.ch c).cmd = (s.ch c).cmd
            ∧ t.get (R.CH_PCNT_PERIODS c) = s.get (R.CH_PCNT_PERIODS c) ∧ t.mem = s.mem)
        ∧ (∀ v, 4 ≤ v % 2 ^ 20 → Reaches (.chPerWrite c v) s (fun t => t.get (R.CH_PER_PER c) = v % 2 ^ 20 ∧ (t.ch c).cnt = (s.ch c).cnt ∧ (t.ch c).out = (s.ch c).out
            ∧ t.mem = s.mem ∧ RegsKeptBut [R.CH_PER_PER c, R.CH_STAT_SPLIT c, R.PWM_IRQ_STAT_PEND] s t)))
    ∧ (chTurnOff (s.get (R.CH_CFG_MODE c)) (s.get (R.CH_PER_PER c)) (s.get (R.CH_CMP_CMP c)) = none → exec (.pwmTurnOff c) s = .next s)
    ∧ (∀ v, v % 2 ^ 20 < 4 → Reaches (.chPerWrite c v) s (fun t => t.regs = s.regs ∧ t.pwm = s.pwm ∧ t.mem = s.mem
        ∧ { cls := .config, unit := chUnit c, req := .l0, aux := (R.CH_PER_PER c).addr } ∈ t.flt.inbox))
    ∧ (∀ v, Reaches (.chCmpWrite c v) s (fun t => t.get (R.CH_CMP_CMP c) = v % 2 ^ (R.CH_CMP_CMP c).w ∧ t.mem = s.mem ∧ t.get (R.CH_PER_PER c) = s.get (R.CH_PER_PER c)))
    ∧ Reaches .syncInEdge s (fun t => t.ch 0 = { s.ch 0 with pulse := true } ∧ (∀ d, d ≠ 0 → t.ch d = s.ch d) ∧ t.regs = s.regs ∧ t.mem = s.mem)
    ∧ ((s.ch c).xwait = false → exec (.xdeadWaitEnd c) s = .next s)
    ∧ ((s.ch c).xwait = true → s.pwm.held = false → s.pairOn (c / 2) = true → s.on (R.CH_CTRL_EN c) = true → (s.ch c).cmd = true → (s.ch c).out = false →
        (s.ch c).fltLat = false → (s.ch c).supLow = false → (s.ch c).waitPer = false → (s.ch (partner c)).cmd = false → (s.ch (partner c)).out = false →
        Reaches (.xdeadWaitEnd c) s (fun t => (t.ch c).out = true ∧ (t.ch c).xwait = false ∧ t.mem = s.mem
          ∧ t.elapsed = max s.elapsed ((s.ch (partner c)).lowAt + 2 * s.get R.PWM_XPAIR_XDEAD * 2 ^ 32)))

/-- A driver fault on a high pin outside blanking latches, counts, posts a standing SC event and takes the pin low; on a low pin it latches nothing, unless EN = 0 has taken the pin low on the same tick; blanking’s end judges the input once, also where the pin has fallen on the same tick; FLT_CLR releases the latch only with the input released; a low gate supply posts a standing GDRV event, sets UV and takes the pin low, and its return clears it; RESUME is refused with a CONFIG event while a core is halted or an L3 record is open and otherwise opens the latch; ALL_OFF disables every channel; SAFE_LVL and XPAIR.PAIR_EN refuse a pair with both safe levels high, and XPAIR is locked while a channel is enabled. The clauses leave out the tick of a pair hold, on which a hold may be taken back (R366); effects of the next tick are applied within the step (notes/assumptions/12.md). -/
def Obligations.PwmFaultsAndHold : Prop :=
  ∀ (s : State) (c : Nat), s.inService = true → c < 16 → keysRise none s.pwm.chs = true → (∀ h ∈ s.pwm.holds, h.at_ < s.elapsed) →
    ((s.ch c).out = true → (s.ch c).blanking = false →
      Reaches (.gdFltAssert c) s (fun t => (t.ch c).fltLat = true ∧ t.get (R.CH_STAT_DESAT c) = 1 ∧ t.mem = s.mem
        ∧ t.get (R.CH_FCNT_DESAT c) = (s.get (R.CH_FCNT_DESAT c) + 1) % 2 ^ (R.CH_FCNT_DESAT c).w
        ∧ { cls := .sc, unit := chUnit c, standing := true } ∈ t.flt.inbox ∧ (s.pwm.held = false → (t.ch c).out = false)))
    ∧ ((s.ch c).out = false → (s.fellNow c = false ∨ (s.ch c).fellBlank = true ∨ s.on (R.CH_CTRL_EN c) = true) →
        Reaches (.gdFltAssert c) s (fun t => (t.ch c).fltLat = (s.ch c).fltLat ∧ (t.ch c).fltIn = true ∧ t.mem = s.mem))
    ∧ (s.fellNow c = true → (s.ch c).fellBlank = false → s.on (R.CH_CTRL_EN c) = false →
        Reaches (.gdFltAssert c) s (fun t => (t.ch c).fltLat = true ∧ t.get (R.CH_STAT_DESAT c) = 1 ∧ t.mem = s.mem))
    ∧ ((s.ch c).blanking = false → (s.fellNow c = false ∨ (s.ch c).fellBlank = false) → ∀ b, exec (.blankEnd c b) s = .next s)
    ∧ (s.fellNow c = true → (s.ch c).fellBlank = true → Reaches (.blankEnd c true) s (fun t => (t.ch c).fltLat = true ∧ t.get (R.CH_STAT_DESAT c) = 1 ∧ t.mem = s.mem))
    ∧ ((s.ch c).blanking = true →
        Reaches (.blankEnd c false) s (fun t => t.ch c = { s.ch c with blanking := false, fellBlank := false, fltIn := false } ∧ t.regs = s.regs ∧ t.flt = s.flt ∧ t.mem = s.mem)
        ∧ ((s.ch c).out = true → Reaches (.blankEnd c true) s (fun t => (t.ch c).fltLat = true ∧ t.get (R.CH_STAT_DESAT c) = 1 ∧ t.mem = s.mem
            ∧ { cls := .sc, unit := chUnit c, standing := true } ∈ t.flt.inbox)))
    ∧ Reaches (.fltClr c true) s (fun t => t.ch c = { s.ch c with fltIn := true } ∧ t.regs = s.regs ∧ t.mem = s.mem)
    ∧ ((s.ch c).fltLat = true → Reaches (.fltClr c false) s (fun t => (t.ch c).fltLat = false ∧ (t.ch c).waitPer = s.on (R.CH_CTRL_EN c) ∧ t.mem = s.mem))
    ∧ ((s.ch c).supLow = false → s.conds = [] →
        Reaches (.gsLow c) s (fun t => (t.ch c).supLow = true ∧ t.get (R.CH_STAT_UV c) = 1 ∧ { cls := .gdrv, unit := chUnit c, standing := true } ∈ t.flt.inbox
          ∧ (s.pwm.held = false → (t.ch c).out = false) ∧ t.mem = s.mem))
    ∧ ((s.ch c).supLow = true → exec (.gsLow c) s = .next s)
    ∧ Reaches (.gsHigh c) s (fun t => (t.ch c).supLow = false ∧ (t.ch c).gs = true ∧ t.mem = s.mem
        ∧ ((s.ch c).supLow = true → s.on (R.CH_CTRL_EN c) = true → (t.ch c).waitPer = true))
    ∧ ((s.anyHalted = true ∨ s.openL3 = true) → Reaches .resume s (fun t => t.pwm = s.pwm ∧ t.regs = s.regs
        ∧ { cls := .config, unit := 0x0900, req := .l0, aux := 0x90008 } ∈ t.flt.inbox))
    ∧ (s.anyHalted = false → s.openL3 = false → Reaches .resume s (fun t => t.pwm.held = false ∧ t.mem = s.mem ∧ (s.pwm.held = false → t.pwm = s.pwm)))
    ∧ Reaches .pwmAllOff s (fun t => (∀ d, d < 16 → t.get (R.CH_CTRL_EN d) = 0 ∧ (t.ch d).cmd = false ∧ (s.pwm.held = false → (t.ch d).out = false)) ∧ t.mem = s.mem)
    ∧ (∀ v, bothHigh (s.get R.PWM_XPAIR_PAIR_EN) (v % 2 ^ 16) = true → Reaches (.safeLvlWrite v) s (fun t => t.regs = s.regs ∧ t.pwm = s.pwm
        ∧ { cls := .config, unit := 0x0900, req := .l0, aux := 0x90044 } ∈ t.flt.inbox))
    ∧ (∀ v, bothHigh (s.get R.PWM_XPAIR_PAIR_EN) (v % 2 ^ 16) = false → Reaches (.safeLvlWrite v) s (fun t => t.get R.PWM_SAFE_LVL_LVL = v % 2 ^ 16 ∧ t.mem = s.mem))
    ∧ (∀ v, (∀ d, d < 16 → s.on (R.CH_CTRL_EN d) = false) → bothHigh (v % 2 ^ 8) (s.get R.PWM_SAFE_LVL_LVL) = false →
        Reaches (.xpairWrite v) s (fun t => t.get R.PWM_XPAIR_PAIR_EN = v % 2 ^ 8 ∧ t.get R.PWM_XPAIR_XDEAD = v / 2 ^ 16 % 2 ^ 12 ∧ t.mem = s.mem))
    ∧ (∀ v, (∀ d, d < 16 → s.on (R.CH_CTRL_EN d) = false) → bothHigh (v % 2 ^ 8) (s.get R.PWM_SAFE_LVL_LVL) = true →
        Reaches (.xpairWrite v) s (fun t => t.get R.PWM_XPAIR_PAIR_EN = s.get R.PWM_XPAIR_PAIR_EN ∧ t.get R.PWM_XPAIR_XDEAD = v / 2 ^ 16 % 2 ^ 12 ∧ t.pwm = s.pwm
          ∧ { cls := .config, unit := 0x0900, req := .l0, aux := 0x90040 } ∈ t.flt.inbox ∧ t.mem = s.mem))
    ∧ (∀ v, s.on (R.CH_CTRL_EN c) = true → Reaches (.xpairWrite v) s (fun t => t.get R.PWM_STATUS_LOCKV = 1 ∧ t.get R.PWM_XPAIR_PAIR_EN = s.get R.PWM_XPAIR_PAIR_EN
        ∧ t.get R.PWM_XPAIR_XDEAD = s.get R.PWM_XPAIR_XDEAD ∧ t.pwm = s.pwm))

/-- A counted edge moves POS by one with wrapping and sets MOVED and DIR, and REV of the window where the previous counted edge had the other direction; an edge inside MIN_GAP or a rise on both inputs only counts as an edge fault with a POS event; an index load copies POS and loads it, once per arming in mode 2 and never in mode 0; a window’s end shows its net count and flags and starts the next; EN = 1 clears the window; the compare and index are armed, POS and CMP_POS take their values, a position already passed sets BEHIND; the emulated encoder starts at 0 and moves one step towards its target. What meets the counted edge of its own instant acts as R400 has it: a load comes before the count, an arming of that instant fires or loads, and an edge on the tick of a window’s end or of EN = 0 still counts. One instant of elapsed time is one edge (notes/assumptions/7.md). What the index does with EN = 0 is the reading of notes/assumptions/23.md. -/
def Obligations.PositionCounting : Prop :=
  ∀ (s : State) (i : Nat), s.inService = true → s.posUp i = true → keysRise none s.poss = true →
    (s.on (R.POS_CTRL_EN i) = true →
      (∀ a b l gap, posEdge (s.get (R.POS_CFG_MODE i)) (s.on (R.POS_CFG_DIR_INV i)) a b l = some .up → s.get (R.POS_CFG_MIN_GAP i) ≤ gap → s.cmpNow i = none →
        (∀ w, (s.pos i).ended = some (s.elapsed, w) → Reaches (.posCountEdge i a b l gap) s (fun t => t.mem = s.mem
          ∧ t.get (R.POS_POS_COUNT i) = codeOf 32 (s.getS (R.POS_POS_COUNT i) + 1) ∧ (t.pos i).win.net = 0
          ∧ (t.pos i).speed = codeOf 32 ((w.net + 1) * (s.get (R.POS_SPD_K_K i) : Nat))))
        ∧ ((∀ w, (s.pos i).ended ≠ some (s.elapsed, w)) → Reaches (.posCountEdge i a b l gap) s (fun t => t.get (R.POS_POS_COUNT i) = codeOf 32 (s.getS (R.POS_POS_COUNT i) + 1) ∧ t.get (R.POS_STATUS_MOVED i) = 1
          ∧ t.get (R.POS_STATUS_DIR i) = 0 ∧ (t.pos i).win.net = (s.pos i).win.net + 1 ∧ (t.pos i).dir = some true ∧ (t.pos i).prev = some true
          ∧ (t.pos i).win.rev = ((s.pos i).win.rev || decide ((s.pos i).prev = some false)) ∧ t.mem = s.mem)))
      ∧ (∀ a b l gap e, posEdge (s.get (R.POS_CFG_MODE i)) (s.on (R.POS_CFG_DIR_INV i)) a b l = some e → (e = .both ∨ gap < s.get (R.POS_CFG_MIN_GAP i)) →
        Reaches (.posCountEdge i a b l gap) s (fun t => t.get (R.POS_POS_COUNT i) = s.get (R.POS_POS_COUNT i) ∧ t.poss = s.poss ∧ t.get (R.POS_STATUS_EDGE_FLT i) = 1
          ∧ t.get (R.POS_CNT_EDGE_FAULT i) = (s.get (R.POS_CNT_EDGE_FAULT i) + 1) % 2 ^ (R.POS_CNT_EDGE_FAULT i).w
          ∧ t.flt.inbox = s.flt.inbox ++ [{ cls := .pos, unit := posUnit i }] ∧ t.mem = s.mem))
      ∧ Reaches (.posWindowEnd i) s (fun t => (t.pos i).win.net = 0 ∧ (t.pos i).speed = codeOf 32 ((s.pos i).win.net * (s.get (R.POS_SPD_K_K i) : Nat))
          ∧ t.get (R.POS_SPDNET_VALID i) = 1 ∧ t.get (R.POS_SPDNET_START i) = b2n (s.pos i).win.start ∧ t.get (R.POS_SPDNET_REV i) = b2n (s.pos i).win.rev ∧ t.get (R.POS_STATUS_SPD_NEW i) = 1 ∧ t.mem = s.mem)
      ∧ exec (.posEnable i) s = .next s)
    ∧ (s.on (R.POS_CTRL_EN i) = false →
        ((s.pos i).offAt ≠ some s.elapsed → ∀ a b l gap, exec (.posCountEdge i a b l gap) s = .next s) ∧ exec (.posWindowEnd i) s = .next s
        ∧ Reaches (.posEnable i) s (fun t => t.get (R.POS_CTRL_EN i) = 1 ∧ t.get (R.POS_STATUS_MOVED i) = 0 ∧ t.get (R.POS_SPDNET_VALID i) = 0 ∧ (t.pos i).win.net = 0
            ∧ (t.pos i).dir = none ∧ (t.pos i).prev = (s.pos i).prev ∧ t.get (R.POS_POS_COUNT i) = s.get (R.POS_POS_COUNT i) ∧ t.mem = s.mem))
    ∧ (s.get (R.POS_CFG_IDX_MODE i) = 0 → Reaches (.posIndexEdge i) s (fun t => t.regs = s.regs ∧ t.mem = s.mem ∧ t.pos i = { s.pos i with idx := some (s.elapsed, false) }
        ∧ ∀ j, j ≠ i → t.pos j = s.pos j))
    ∧ ((s.get (R.POS_CFG_IDX_MODE i) = 1 ∨ s.get (R.POS_CFG_IDX_MODE i) = 2 ∧ s.on (R.POS_STATUS_IDX_ARMED i) = true) →
        (∀ b, s.edgeNow i = some b → b.fire = none → Reaches (.posIndexEdge i) s (fun t => t.get (R.POS_IDX_POS_POS i) = b.pos % 2 ^ 32
          ∧ t.get (R.POS_POS_COUNT i) = edgeOn b.up (s.get (R.POS_IDX_LOAD_VAL i)) ∧ t.mem = s.mem))
        ∧ (s.edgeNow i = none → Reaches (.posIndexEdge i) s (fun t => t.get (R.POS_IDX_POS_POS i) = s.get (R.POS_POS_COUNT i) % 2 ^ 32 ∧ t.get (R.POS_POS_COUNT i) = s.get (R.POS_IDX_LOAD_VAL i) % 2 ^ 32
          ∧ t.get (R.POS_STATUS_INDEX i) = 1 ∧ (s.get (R.POS_CFG_IDX_MODE i) = 2 → t.get (R.POS_STATUS_IDX_ARMED i) = 0) ∧ t.pos i = { s.pos i with idx := some (s.elapsed, true) }
          ∧ (∀ j, j ≠ i → t.pos j = s.pos j) ∧ t.mem = s.mem)))
    ∧ (s.edgeNow i = none → Reaches (.cmpArm i) s (fun t => t.get (R.POS_STATUS_CMP_ARMED i) = 1 ∧ RegsKeptBut [R.POS_STATUS_CMP_ARMED i] s t ∧ t.poss = s.poss ∧ t.mem = s.mem))
    ∧ (∀ b, s.edgeNow i = some b → b.fire = none → s.get (R.POS_POS_COUNT i) = b.cmp → s.get (R.POS_CMP_CFG_CDIR i) = 0 →
        Reaches (.cmpArm i) s (fun t => t.get (R.POS_STATUS_CMP i) = 1 ∧ t.get (R.POS_CMP_TS_TS i) = tag32 s.nowNs ∧ t.get (R.POS_STATUS_CMP_ARMED i) = b2n (s.on (R.POS_CMP_CFG_CONT i)) ∧ t.mem = s.mem))
    ∧ ((∀ x, (s.pos i).idx ≠ some (s.elapsed, x)) →
        Reaches (.idxArm i) s (fun t => t.get (R.POS_STATUS_IDX_ARMED i) = 1 ∧ RegsKeptBut [R.POS_STATUS_IDX_ARMED i] s t ∧ t.poss = s.poss ∧ t.mem = s.mem))
    ∧ ((s.pos i).idx = some (s.elapsed, false) → s.get (R.POS_CFG_IDX_MODE i) = 2 → s.edgeNow i = none →
        Reaches (.idxArm i) s (fun t => t.get (R.POS_POS_COUNT i) = s.get (R.POS_IDX_LOAD_VAL i) % 2 ^ 32 ∧ t.get (R.POS_STATUS_IDX_ARMED i) = s.get (R.POS_STATUS_IDX_ARMED i) ∧ t.mem = s.mem))
    ∧ (∀ v, (s.edgeNow i = none → Reaches (.posWrite i v) s (fun t => t.get (R.POS_POS_COUNT i) = v % 2 ^ 32 ∧ RegsKeptBut [R.POS_POS_COUNT i] s t ∧ t.poss = s.poss ∧ t.mem = s.mem))
        ∧ (∀ b, s.edgeNow i = some b → Reaches (.posWrite i v) s (fun t => t.get (R.POS_POS_COUNT i) = edgeOn b.up v ∧ t.mem = s.mem))
        ∧ Reaches (.cmpPosWrite i v) s (fun t => t.get (R.POS_CMP_POS_VAL i) = v % 2 ^ 32 ∧ (∀ j, j ≠ i → t.pos j = s.pos j) ∧ (t.pos i).win = (s.pos i).win ∧ t.mem = s.mem
            ∧ ((s.pos i).dir = some true → signedOf 32 v ≤ s.getS (R.POS_POS_COUNT i) → t.get (R.POS_STATUS_BEHIND i) = 1)
            ∧ ((s.pos i).dir = some true → s.getS (R.POS_POS_COUNT i) < signedOf 32 v → RegsKeptBut [R.POS_CMP_POS_VAL i] s t)))
    ∧ (s.on (R.POS_CTRL_EMU_EN i) = false → Reaches (.emuEnable i) s (fun t => t.get (R.POS_CTRL_EMU_EN i) = 1 ∧ (t.pos i).emuPos = 0 ∧ (t.pos i).emuOut = 0 ∧ t.mem = s.mem)
        ∧ exec (.emuOutputStep i) s = .next s)
    ∧ (s.on (R.POS_CTRL_EMU_EN i) = true → exec (.emuEnable i) s = .next s
        ∧ ((s.pos i).emuOut < (s.pos i).target → Reaches (.emuOutputStep i) s (fun t => t.pos i = { s.pos i with emuOut := (s.pos i).emuOut + 1 }
            ∧ t.get (R.POS_EMU_STAT_QSTATE i) = quadState ((s.pos i).emuOut + 1) ∧ t.mem = s.mem)))

/-- A trigger of an enabled core, GO or a flag that has been posted, starts its request with the first sample after T_SU when the core is idle (1.2 us, 0.2 us where it has stayed powered, 60 us before the first calibration), makes one request wait, and beyond that, or on the edge of a trigger of the other kind, only counts an overrun; on the edge of a STOP it is dropped; without a posted flag ADC_TRIGGER does nothing, and the phase trigger comes once a cycle; the last sample frees the core, or starts the waiting request after 0.2 us, and time comes to it; the results of a burst, 44 ns after its last sample, show the mean, the last code and the time, and in RAW mode write its codes to the core’s buffer and nothing else; STOP ends every request; a due recalibration starts on an idle core powered for no more than 2.5 of the last 10 ms and is postponed with DUTY otherwise, to be tried again 1 ms later; it ends 20 us after its start and checks the drift. When CALD is written, when a waiting request starts and what TS takes are the readings of notes/assumptions/24.md. -/
def Obligations.AnalogConverters : Prop :=
  ∀ (s : State) (c : Nat), s.inService = true → s.adcUp c = true → keysRise none s.adcs = true →
    (∀ d src y, (d = Instr.adcGo c ∧ src = 0 ∧ y = s.adc c ∨ d = Instr.adcTrigger c ∧ s.get (R.ADC_TRIG_SRC c) = 1 ∧ src = 1 ∧ ∃ n, (s.adc c).trigs = n + 1 ∧ y = { s.adc c with trigs := n }) →
      (s.on (R.ADC_CTRL_EN c) = false → exec d s = .next s)
      ∧ (s.on (R.ADC_CTRL_EN c) = true → y.stopAt = some s.elapsed → Reaches d s (fun t => t.adc c = y ∧ t.regs = s.regs ∧ t.mem = s.mem))
      ∧ (s.on (R.ADC_CTRL_EN c) = true → y.stopAt ≠ some s.elapsed →
        ((∀ k, y.trigAt = some (s.elapsed, k) → k = src) →
          (y.run = none → y.wait = none → y.recal = false →
            Reaches d s (fun t => (t.adc c).wait = none ∧ (t.adc c).trigs = y.trigs ∧ t.get (R.ADC_STATUS_BUSY c) = 1 ∧ t.get (R.ADC_STATUS_PWR c) = 1 ∧ t.mem = s.mem
              ∧ ∃ r, (t.adc c).run = some r ∧ r.ch = s.get (R.ADC_REQ_CH c) ∧ r.raw = s.on (R.ADC_REQ_MODE c) ∧ r.count = s.get (R.ADC_REQ_COUNT c) ∧ r.bias = s.get (R.ADC_REQ_BIAS c)
                ∧ r.at_ = s.elapsed + (if s.on (R.ADC_STATUS_CALD c) then (if y.endAt = some s.elapsed then 200 else 1200) else 60000) * 2 ^ 32
                ∧ r.ts = (s.time + s.devOf (r.at_ - s.elapsed)) % 2 ^ 96))
          ∧ ((y.run ≠ none ∨ y.recal = true ∧ y.recalAt ≠ s.elapsed) → y.wait = none →
            Reaches d s (fun t => (t.adc c).run = y.run ∧ (t.adc c).wait = some { s.adcReq c with trig := s.elapsed, src := src } ∧ t.get (R.ADC_STATUS_WAIT c) = 1 ∧ t.mem = s.mem))
          ∧ (y.wait ≠ none → Reaches d s (fun t => (t.adc c).run = y.run ∧ (t.adc c).wait = y.wait ∧ t.get (R.ADC_STATUS_OVERRUN c) = 1 ∧ t.mem = s.mem
              ∧ t.get (R.ADC_CNT_OVR c) = (s.get (R.ADC_CNT_OVR c) + 1) % 2 ^ (R.ADC_CNT_OVR c).w)))
        ∧ (∀ k, y.trigAt = some (s.elapsed, k) → k ≠ src → Reaches d s (fun t => (t.adc c).run = y.run ∧ (t.adc c).wait = y.wait ∧ t.get (R.ADC_STATUS_OVERRUN c) = 1
            ∧ t.mem = s.mem ∧ t.get (R.ADC_CNT_OVR c) = (s.get (R.ADC_CNT_OVR c) + 1) % 2 ^ (R.ADC_CNT_OVR c).w))))
    ∧ (s.get (R.ADC_TRIG_SRC c) = 1 → (s.adc c).trigs = 0 → exec (.adcTrigger c) s = .next s)
    ∧ (s.get (R.ADC_TRIG_SRC c) = 2 → s.on (R.ADC_CTRL_EN c) = true → s.get (R.ADC_TRIG_PH c) < s.get R.ARM_CYC_LEN_LEN → s.arm.running = true →
        (s.phaseDue (s.adc c).trigCyc (s.get (R.ADC_TRIG_PH c)) = false → exec (.adcTrigger c) s = .next s)
        ∧ (s.phaseDue (s.adc c).trigCyc (s.get (R.ADC_TRIG_PH c)) = true → Reaches (.adcTrigger c) s (fun t => (t.adc c).trigCyc = some (s.arm.cycNo, s.get (R.ADC_TRIG_PH c)) ∧ t.mem = s.mem
            ∧ t.time = (s.time + (s.arm.cycStart + 10 * s.get (R.ADC_TRIG_PH c) * 2 ^ 32 - s.cycTime)) % 2 ^ 96)))
    ∧ ((s.adc c).run = none → exec (.adcLastSample c) s = .next s)
    ∧ (∀ r, (s.adc c).run = some r →
        Reaches (.adcLastSample c) s (fun t => (t.adc c).wait = none ∧ (t.adc c).fin = some r ∧ t.get (R.ADC_STATUS_CALD c) ≠ 0 ∧ t.mem = s.mem
          ∧ t.elapsed = max s.elapsed (r.at_ + 4 * r.count * 2 ^ 32) ∧ ((s.adc c).wait = none → (t.adc c).run = none)
          ∧ (∀ w, (s.adc c).wait = some w → ∃ q, (t.adc c).run = some q ∧ q.ch = w.ch ∧ q.raw = w.raw ∧ q.count = w.count ∧ q.bias = w.bias ∧ q.at_ = t.elapsed + 200 * 2 ^ 32)))
    ∧ (∀ r codes, (s.adc c).fin = some r → codes.length = r.count + 1 → r.count < 2 ^ 12 →
        Reaches (.adcBurstDone c codes) s (fun t => (t.adc c).fin = none ∧ t.get (R.ADC_STATUS_DONE c) = 1
          ∧ t.get (R.ADC_AVG_AVG c) = (codes.map (fun k => min k 16383)).sum * 2 ^ 16 / (r.count + 1) % 2 ^ (R.ADC_AVG_AVG c).w ∧ t.get (R.ADC_TS_TS c) = r.ts / 2 ^ 32 % 2 ^ 32
          ∧ t.elapsed = max s.elapsed (r.at_ + (4 * r.count + 44) * 2 ^ 32)
          ∧ t.get (R.ADC_LAST_CODE c) = min (codes.getLast?.getD 0) 16383
          ∧ (r.raw = false → t.mem = s.mem) ∧ (∀ a, (a < adcBuf c ∨ adcBuf c + 2 * (r.count + 1) ≤ a) → t.mem.read a = s.mem.read a)))
    ∧ (∀ codes, (∀ r, (s.adc c).fin = some r → codes.length ≠ r.count + 1) → exec (.adcBurstDone c codes) s = .next s)
    ∧ Reaches (.adcStop c) s (fun t => (t.adc c).run = none ∧ (t.adc c).wait = none ∧ (t.adc c).fin = none ∧ t.get (R.ADC_STATUS_WAIT c) = 0)
    ∧ Reaches (.calNow c) s (fun t => t.adc c = { s.adc c with calDue := true } ∧ t.regs = s.regs ∧ t.mem = s.mem)
    ∧ (s.on (R.ADC_CFG_CAL_PER c) = true → s.on (R.ADC_STATUS_CALD c) = true →
        Reaches (.adcCalDue c) s (fun t => t.adc c = { s.adc c with calDue := true } ∧ t.regs = s.regs ∧ t.mem = s.mem))
    ∧ (s.on (R.ADC_CFG_CAL_PER c) = false → exec (.adcCalDue c) s = .next s)
    ∧ ((s.adc c).calDue = true → (s.adc c).run = none → (s.adc c).wait = none → (s.adc c).recal = false →
        (∀ w e, e = s.elapsed + w * 2 ^ 32 → (s.adc c).retry = false →
          ((s.adc c).poweredIn e ≤ 2500000 * 2 ^ 32 →
            Reaches (.adcRecalStart c w) s (fun t => t.elapsed = e ∧ (t.adc c).recal = true ∧ (t.adc c).calDue = false ∧ (t.adc c).recalAt = e ∧ t.get (R.ADC_STATUS_BUSY c) = 1 ∧ t.mem = s.mem))
          ∧ (2500000 * 2 ^ 32 < (s.adc c).poweredIn e →
            Reaches (.adcRecalStart c w) s (fun t => t.elapsed = e ∧ t.adc c = { s.adc c with retry := true, dutyAt := e } ∧ t.get (R.ADC_STATUS_DUTY c) = 1 ∧ t.mem = s.mem)))
        ∧ (∀ w e, e = max (s.elapsed + w * 2 ^ 32) ((s.adc c).dutyAt + 1000000 * 2 ^ 32) → (s.adc c).retry = true →
          Reaches (.adcCalRetry c w) s (fun t => t.elapsed = e ∧ t.mem = s.mem
            ∧ ((s.adc c).poweredIn e ≤ 2500000 * 2 ^ 32 → (t.adc c).recal = true ∧ (t.adc c).retry = false ∧ (t.adc c).recalAt = e)
            ∧ (2500000 * 2 ^ 32 < (s.adc c).poweredIn e → (t.adc c).recal = false ∧ (t.adc c).retry = true ∧ (t.adc c).dutyAt = e ∧ t.get (R.ADC_STATUS_DUTY c) = 1))))
    ∧ ((s.adc c).retry = false → ∀ w, exec (.adcCalRetry c w) s = .next s)
    ∧ (∀ o g, (s.adc c).recal = true →
        Reaches (.adcRecalDone c o g) s (fun t => (t.adc c).recal = false ∧ (t.adc c).ofs = o ∧ (t.adc c).gain = g ∧ (t.adc c).wait = none ∧ t.mem = s.mem
          ∧ t.elapsed = max s.elapsed ((s.adc c).recalAt + 20000 * 2 ^ 32)
          ∧ ((s.get (R.ADC_CFG_DRIFT_LIM c) < (o - (s.adc c).ofs).natAbs ∨ s.get (R.ADC_CFG_DRIFT_LIM c) < (g - (s.adc c).gain).natAbs) →
              t.get (R.ADC_STATUS_CAL_ERR c) = 1 ∧ { cls := .adc, unit := adcUnit c } ∈ t.flt.inbox)))

/-- On a core that runs an item, PX.MULQ16 and PX.MULQ24 write the exact signed product reduced by 2^16 or 2^24 with a floor, kept to 32 bits, PX.MACQ16 and PX.MACQ24 add it to rd, and PX.OPGET writes the operand of the running item; x0 as rd writes nothing; every other register, every other core, memory and the register pages keep their values; a core that runs no item does nothing. The words of the eight instructions decode to them, and the two reserved values of funct3 to none. That an Xpx instruction comes as a command with its fields is the choice of notes/assumptions/46.md. -/
def Obligations.XpxArithmetic : Prop :=
  ∀ (s : State) (u rd rs1 rs2 idx : Nat), keysRise none s.sched.cores = true → keysRise none (s.core u).regs = true → idx < 8 →
    (s.coreRuns u = true →
      (∀ c r, (c = Instr.pxMulq16 u rd rs1 rs2 ∧ r = codeOf 32 (signedOf 32 (s.getX u rs1) * signedOf 32 (s.getX u rs2) / 2 ^ 16)
          ∨ c = Instr.pxMulq24 u rd rs1 rs2 ∧ r = codeOf 32 (signedOf 32 (s.getX u rs1) * signedOf 32 (s.getX u rs2) / 2 ^ 24)
          ∨ c = Instr.pxMacq16 u rd rs1 rs2 ∧ r = codeOf 32 (signedOf 32 (s.getX u rd) + signedOf 32 (s.getX u rs1) * signedOf 32 (s.getX u rs2) / 2 ^ 16)
          ∨ c = Instr.pxMacq24 u rd rs1 rs2 ∧ r = codeOf 32 (signedOf 32 (s.getX u rd) + signedOf 32 (s.getX u rs1) * signedOf 32 (s.getX u rs2) / 2 ^ 24)
          ∨ c = Instr.pxOpget u rd idx ∧ r = itemOperand (s.core u).run idx % 2 ^ 32) →
        (rd % 32 = 0 → exec c s = .next s)
        ∧ (rd % 32 ≠ 0 → Reaches c s (fun t => t.getX u rd = r ∧ (∀ q, q % 32 ≠ rd % 32 → t.getX u q = s.getX u q) ∧ (∀ v, v ≠ u → t.core v = s.core v)
            ∧ (t.core u).run = (s.core u).run ∧ t.regs = s.regs ∧ t.mem = s.mem ∧ t.flt = s.flt ∧ t.sched.tasks = s.sched.tasks))))
    ∧ (s.coreRuns u = false → ∀ c ∈ [Instr.pxMulq16 u rd rs1 rs2, .pxMulq24 u rd rs1 rs2, .pxMacq16 u rd rs1 rs2, .pxMacq24 u rd rs1 rs2, .pxOpget u rd idx,
        .pxPoste u rs1, .pxPosto u rd rs1 rs2 idx, .pxEndw u], exec c s = .next s)
    ∧ (rd < 32 → rs1 < 32 → rs2 < 32 →
        decodeXpx u (0x0B + rd * 2 ^ 7 + rs1 * 2 ^ 15 + rs2 * 2 ^ 20) = some (.pxMulq16 u rd rs1 rs2)
          ∧ decodeXpx u (0x0B + rd * 2 ^ 7 + rs1 * 2 ^ 15 + rs2 * 2 ^ 20 + 2 ^ 25) = some (.pxMacq16 u rd rs1 rs2)
          ∧ decodeXpx u (0x100B + rd * 2 ^ 7 + rs1 * 2 ^ 15 + rs2 * 2 ^ 20) = some (.pxMulq24 u rd rs1 rs2)
          ∧ decodeXpx u (0x100B + rd * 2 ^ 7 + rs1 * 2 ^ 15 + rs2 * 2 ^ 20 + 2 ^ 25) = some (.pxMacq24 u rd rs1 rs2)
          ∧ decodeXpx u (0x200B + rs1 * 2 ^ 15) = some (.pxPoste u rs1)
          ∧ decodeXpx u (0x300B + rd * 2 ^ 7 + rs1 * 2 ^ 15 + rs2 * 2 ^ 20 + idx * 2 ^ 25) = some (.pxPosto u rd rs1 rs2 idx)
          ∧ decodeXpx u (0x400B + rd * 2 ^ 7 + idx * 2 ^ 20) = some (.pxOpget u rd idx)
          ∧ decodeXpx u 0x700B = some (.pxEndw u)
          ∧ decodeXpx u (0x500B + rd * 2 ^ 7 + rs1 * 2 ^ 15 + rs2 * 2 ^ 20) = none ∧ decodeXpx u (0x600B + rd * 2 ^ 7 + rs1 * 2 ^ 15 + rs2 * 2 ^ 20) = none)

/-- A post of flags from any source adds the flags of a task’s mask to its pending set and makes an ANY task ready with the first and an ALL task with the last, keeps the readiness time of a ready task, and leaves a disabled task alone; it sends a trigger to a loop unit, and is one of an enabled converter core, that name one of its flags; an operand of an owned tag enters the filling instance, which is ready once every index of the mask has arrived; an operand without an owner is dropped with ORPHAN and an L0 event; PX.POSTO reads 0 where its operand was accepted and 1 where it was dropped; the operand that has stalled longest is dropped 1 us after its stall began, with an event at L2. What the flags of one instant leave pending is the reading of notes/assumptions/7.md. What a post over a fenced link does is the reading of notes/assumptions/57.md. -/
def Obligations.FlagAndOperandPosts : Prop :=
  ∀ s : State, s.inService = true → keysRise none s.sched.tasks = true → keysRise none s.sched.fill = true →
    (∀ f c k x, f < 2 ^ 32 → (c = Instr.flagPost f ∨ c = Instr.hostFlagPost f ∨ ∃ u rs1, c = Instr.pxPoste u rs1 ∧ s.coreRuns u = true ∧ s.getX u rs1 = f) → s.task k = some x →
      (x.enabled = false → Reaches c s (fun t => t.task k = some x ∧ t.mem = s.mem))
      ∧ (∀ m, x.decl.ready = .any m → x.enabled = true → s.taskFenced k = false → Nat.land f m ≠ 0 →
          (x.ready = false → Reaches c s (fun t => t.task k = some { x with pend := Nat.lor x.pend (Nat.land f m), ready := decide (Nat.lor x.pend (Nat.land f m) ≠ 0), readyAt := s.elNs } ∧ t.mem = s.mem))
          ∧ (x.ready = true → Reaches c s (fun t => t.mem = s.mem ∧ t.task k = some (if x.readyAt < s.elNs then
                { x with pend := Nat.lor x.pend (Nat.land f m), lateAt := s.elNs
                         late := if x.lateAt = s.elNs then Nat.lor x.late (Nat.land f m) else Nat.land f m }
              else { x with pend := Nat.lor x.pend (Nat.land f m) }))))
      ∧ (∀ m, x.decl.ready = .all m → x.enabled = true → s.taskFenced k = false → x.ready = false → Nat.land f m ≠ 0 →
          (Nat.lor x.pend (Nat.land f m) = m → Reaches c s (fun t => t.task k = some { x with pend := m, ready := true, readyAt := s.elNs } ∧ t.mem = s.mem))
          ∧ (Nat.lor x.pend (Nat.land f m) ≠ m → Reaches c s (fun t => t.task k = some { x with pend := Nat.lor x.pend (Nat.land f m) } ∧ t.mem = s.mem))))
    ∧ (∀ tag idx v c, tag < 1024 → idx < 8 → v < 2 ^ 32 → (c = Instr.operandPost tag idx v
          ∨ c = Instr.hopValWrite v ∧ s.get R.SCHED_HOP_TAG_TAG = tag ∧ s.get R.SCHED_HOP_TAG_OPIDX = idx
          ∨ ∃ u rd rs1 rs2, c = Instr.pxPosto u rd rs1 rs2 idx ∧ s.coreRuns u = true ∧ s.getX u rs1 = tag ∧ s.getX u rs2 = v) →
        (∀ k x, s.tagOwner tag = some (k, x) → bitOf (taskOpMask x.decl) idx = true → lookupKey (tget [] s.sched.fill tag) idx = none → s.storeFill < 1024 →
          ((bitList 8 (taskOpMask x.decl)).all (fun j => (lookupKey (insertKey idx v (tget [] s.sched.fill tag)) j).isSome) = true →
            Reaches c s (fun t => t.task k = some { x with insts := x.insts ++ [{ tag := tag, ops := insertKey idx v (tget [] s.sched.fill tag), at_ := s.elNs }] }
              ∧ tget [] t.sched.fill tag = [] ∧ t.mem = s.mem))
          ∧ ((bitList 8 (taskOpMask x.decl)).all (fun j => (lookupKey (insertKey idx v (tget [] s.sched.fill tag)) j).isSome) = false →
            Reaches c s (fun t => t.sched.tasks = s.sched.tasks ∧ tget [] t.sched.fill tag = insertKey idx v (tget [] s.sched.fill tag) ∧ t.mem = s.mem)))
        ∧ (s.tagOwner tag = none → Reaches c s (fun t => t.sched.tasks = s.sched.tasks ∧ t.sched.fill = s.sched.fill ∧ t.get R.SCHED_STAT_ORPHAN = 1 ∧ t.mem = s.mem
            ∧ t.get R.SCHED_MATCH_CNT_ORPHAN = (s.get R.SCHED_MATCH_CNT_ORPHAN + 1) % 2 ^ 12 ∧ { cls := .sched, unit := 0x0505, req := .l0 } ∈ t.flt.inbox)))
    ∧ (∀ u rd rs1 rs2 idx, rd % 32 ≠ 0 → idx < 8 → s.coreRuns u = true → keysRise none s.sched.cores = true → keysRise none (s.core u).regs = true →
        (s.tagOwner (s.getX u rs1 % 1024) = none → Reaches (.pxPosto u rd rs1 rs2 idx) s (fun t => t.getX u rd = 1))
        ∧ (∀ k x, s.tagOwner (s.getX u rs1 % 1024) = some (k, x) → bitOf (taskOpMask x.decl) idx = true → s.storeFill < 1024 →
            Reaches (.pxPosto u rd rs1 rs2 idx) s (fun t => t.getX u rd = 0)))
    ∧ (∀ f k, keysRise none s.loops = true → k < s.variant.loops → s.get (R.U_TRIG_SRC k) = 2 → bitOf f (s.get (R.U_TRIG_EVT_IN k)) = true →
        Reaches (.flagPost f) s (fun t => t.loop k = { s.loop k with trigs := (s.loop k).trigs + 1, trigAt := some s.elapsed } ∧ t.mem = s.mem))
    ∧ (∀ f c, keysRise none s.adcs = true → c < 2 → s.on (R.ADC_CTRL_EN c) = true → s.get (R.ADC_TRIG_SRC c) = 1 → bitOf f (s.get (R.ADC_TRIG_EVT_IN c)) = true →
        Reaches (.flagPost f) s (fun t => t.adc c = { s.adc c with trigs := (s.adc c).trigs + 1 } ∧ t.mem = s.mem))
    ∧ (s.sched.stalls = [] → exec .operandStallTimeout s = .next s)
    ∧ (∀ o rest, s.sched.stalls = o :: rest → Reaches .operandStallTimeout s (fun t => t.sched.stalls = rest ∧ t.get R.SCHED_STAT_MATCH_OVF = 1 ∧ t.mem = s.mem ∧ t.elapsed = max s.elapsed (o.at_ + 1000 * 2 ^ 32)
        ∧ t.get R.SCHED_MATCH_CNT_OVF = (s.get R.SCHED_MATCH_CNT_OVF + 1) % 2 ^ 8 ∧ ∃ a, { cls := .sched, unit := 0x0505, aux := a, req := .atLeast 2 } ∈ t.flt.inbox))

/-- DISPATCH stages the next ready task on a core that takes it, counts it and clears PEND of a task that is not matched, but for the flags posted to the ready task at this same instant; staging’s end starts the item on an idle core that is not halted, at the present time, at the task’s entry point, in its mode and with its PMP, and otherwise waits; PX.ENDW ends the running item and records its run time; an exception and the run bound abort it with CAUSE, TASK, UNIT and PC latched and the abort counted, the run bound, TB after the item’s start with halts apart, with TBOUND as well; the exception leaves the pc in mepc and the core in machine mode; a register write to a page that the task does not declare aborts a user-mode item with CAUSE 3; a halt in debug needs the debug access open, engages the hold latch and takes a running arm to DEBUG_HALT; a halted core resumes. The clauses leave out the edge on which a stalled operand is dropped or a bound aborts the item, where R492 takes that back. That a core’s own instructions other than Xpx are given by their outcomes is notes/assumptions/8.md, and one instant of elapsed time is one edge (7.md). -/
def Obligations.WorkItems : Prop :=
  ∀ (s : State) (u : Nat), s.inService = true → keysRise none s.sched.tasks = true → keysRise none s.sched.cores = true → u < 9 * s.variant.groves →
    (∀ d, s.sched.drop = some d → d.at_ < s.elapsed) →
    (∀ k x rdy, s.task k = some x → s.dispatchable k x = some rdy → s.on R.SCHED_CTRL_DISPATCH = true → s.passive = false →
        s.takesItems (decide (x.decl.classP = some true)) u = true → s.spareFirst (decide (x.decl.classP = some true)) u = true → s.boundElsewhere x.decl u = false → s.isNext u k x rdy = true →
        Reaches (.dispatch k u) s (fun t => (t.core u).staged = some { task := k, inst := x.insts.head?, readyAt := rdy, asgAt := s.elapsed } ∧ (t.core u).done = false
          ∧ (t.core u).run = (s.core u).run ∧ t.mem = s.mem ∧ t.regs = s.regs
          ∧ ∃ y, t.task k = some y ∧ y.disp = (x.disp + 1) % 65536 ∧ (taskMatched x.decl = false → y.pend = (if x.readyAt < s.elNs ∧ x.lateAt = s.elNs then x.late else 0) ∧ y.ready = taskReady x.decl y.pend) ∧ (taskMatched x.decl = true → y.insts = x.insts.drop 1)))
    ∧ (∀ k x, s.task k = some x → s.dispatchable k x = none → exec (.dispatch k u) s = .next s)
    ∧ ((s.core u).staged = none → exec (.stagingDone u) s = .next s)
    ∧ (∀ w, (s.core u).staged = some w → (s.core u).done = false → s.sched.stalls = [] →
        ((s.core u).run = none → (s.core u).halted = false → Reaches (.stagingDone u) s (fun t => t.mem = s.mem ∧ (t.core u).staged = none
            ∧ ∃ r, (t.core u).run = some r ∧ r.task = w.task ∧ r.start = s.nowNs ∧ r.startE = s.elNs ∧ r.readyAt = w.readyAt
            ∧ (∀ x, s.task w.task = some x → (t.core u).pc = x.decl.entry ∧ (t.core u).machine = taskMatched x.decl ∧ (t.core u).pmp = s.grantsOf x.decl)))
        ∧ ((s.core u).run ≠ none → Reaches (.stagingDone u) s (fun t => t.mem = s.mem ∧ (t.core u).run = (s.core u).run ∧ (t.core u).staged = some { w.copied with stgAt := some s.elapsed } ∧ (t.core u).done = true)))
    ∧ (∀ w x, (s.core u).run = some w → (s.core u).halted = false → (s.core u).staged = none → s.task w.task = some x → s.unitUp (coreUnit u) = true →
        (s.coreStalled u = false → s.unbound u = none → Reaches (.pxEndw u) s (fun t => (t.core u).run = none ∧ (s.on R.SCHED_TRACE_CTRL_EN = false → t.mem = s.mem)
          ∧ ∃ y, t.task w.task = some y ∧ y.run = units10 (s.elNs - w.startE - w.haltNs) ∧ y.resp = units10 (s.elNs - w.readyAt)))
        ∧ (∀ cause pc tval, exceptionCause cause = true →
            Reaches (.workItemAbort u cause pc tval) s (fun t => (t.core u).run = none ∧ t.get R.SCHED_ABORT_LAST_CAUSE = cause ∧ t.get R.SCHED_ABORT_LAST_TASK = w.task % 512
              ∧ t.get R.SCHED_ABORT_LAST_UNIT = coreUnit u % 65536 ∧ t.get R.SCHED_ABORT_PC_PC = pc % 2 ^ 32 ∧ t.get R.SCHED_ABORT_TVAL_TVAL = tval % 2 ^ 32
              ∧ t.get R.SCHED_STAT_ABORT = 1 ∧ (t.core u).mepc = pc ∧ (t.core u).mtval = tval ∧ (t.core u).machine = true ∧ (cause = 1 → (t.core u).mcause = 2) ∧ ∃ y, t.task w.task = some y ∧ y.aborts = (x.aborts + 1) % 65536))
        ∧ (∀ addr v be, taskMatched x.decl = false → (s.core u).pmp = s.grantsOf x.decl → (∀ p ∈ x.decl.pages, p ≠ (addr / 0x1000, true)) → addr < 2 ^ 24 → s.up (coreUnit u / 256) = true →
            Reaches (.registerWrite (.core (coreUnit u) w.task) addr v be true) s (fun t => (t.core u).run = none ∧ t.get R.SCHED_ABORT_LAST_CAUSE = 3
              ∧ t.get R.SCHED_ABORT_LAST_TASK = w.task % 512
              ∧ ((s.core u).worn = false → s.on R.SCHED_TRACE_CTRL_EN = false → t.mem = s.mem ∧ RegsKeptBut [R.SCHED_ABORT_LAST_CAUSE, R.SCHED_ABORT_LAST_TASK,
                  R.SCHED_ABORT_LAST_UNIT, R.SCHED_ABORT_PC_PC, R.SCHED_ABORT_TVAL_TVAL, R.SCHED_STAT_ABORT, R.SCHED_IRQ_STAT_PEND] s t)))
        ∧ (∀ pc, Reaches (.runBoundExpired u pc) s (fun t => (t.core u).run = none ∧ t.get R.SCHED_ABORT_LAST_CAUSE = 0 ∧ t.get R.SCHED_ABORT_PC_PC = pc % 2 ^ 32
              ∧ t.get R.SCHED_STAT_TBOUND = 1 ∧ t.elapsed = max s.elapsed ((w.startE + w.haltNs + 10 * x.decl.tb) * 2 ^ 32) ∧ { cls := .sched, unit := 0x0504, aux := w.task } ∈ t.flt.inbox)))
    ∧ ((s.core u).run = none → ∀ c p v, exec (.workItemAbort u c p v) s = .next s ∧ exec (.runBoundExpired u p) s = .next s)
    ∧ (s.on R.SEC_STATUS_DBG_OPEN = false → exec (.coreDebugHalt u) s = .next s)
    ∧ (s.on R.SEC_STATUS_DBG_OPEN = true → s.unitUp (coreUnit u) = true → (s.core u).halted = false →
        Reaches (.coreDebugHalt u) s (fun t => (t.core u).halted = true ∧ (t.core u).haltAt = s.elNs ∧ t.pwm.held = true ∧ t.mem = s.mem
          ∧ (s.arm.mode = .run ∨ s.arm.mode = .charge ∨ s.arm.mode = .blocked → t.arm.mode = .debugHalt) ∧ (s.arm.mode = .off → t.arm.mode = .off)))
    ∧ ((s.core u).halted = true → (s.core u).staged = none → Reaches (.coreDebugResume u) s (fun t => (t.core u).halted = false ∧ t.regs = s.regs ∧ t.mem = s.mem
        ∧ (∀ w, (s.core u).run = some w → (t.core u).run = some { w with haltNs := w.haltNs + (s.elNs - (s.core u).haltAt) })))
    ∧ ((s.core u).halted = false → exec (.coreDebugResume u) s = .next s)

/-- ENABLE and DISABLE act on the task of TASK_IDX, which both leave with nothing pending, DISABLE also without an item that was dispatched on its edge, and are turned away with a CONFIG event for a fenced task; TASK_IDX latches the task’s window, zeros for an undeclared one; a buffer that may migrate begins to move, a lost one is created again filled with zeros, with BUF_LOST, and a completed move has its bytes at the new place, where no word holds an uncorrectable error, and nothing else changed; SNAP asks for one snapshot. When a lost buffer moves is the reading of notes/assumptions/51.md, and that TASK_ENABLE empties PEND that of 61.md. -/
def Obligations.TasksAndBuffers : Prop :=
  ∀ s : State, s.inService = true → keysRise none s.sched.tasks = true → keysRise none s.sched.cores = true → (∀ d, s.sched.drop = some d → d.at_ < s.elapsed) →
    (∀ k x, s.get R.SCHED_TASK_IDX_IDX = k → s.task k = some x →
      (s.taskFenced k = true → ∀ c ∈ [Instr.taskEnable, .taskDisable],
          Reaches c s (fun t => t.sched = s.sched ∧ t.regs = s.regs ∧ { cls := .config, unit := 0x0504, req := .l0, aux := 0x5080 } ∈ t.flt.inbox))
      ∧ (s.taskFenced k = false →
          Reaches .taskEnable s (fun t => t.task k = some { x with enabled := true, pend := 0, ready := false } ∧ t.regs = s.regs ∧ t.mem = s.mem ∧ ∀ j, j ≠ k → t.task j = s.task j)
          ∧ (∀ u w, u < 9 * s.variant.groves → (s.core u).staged = some w → w.task = k → w.asgAt = s.elapsed →
              Reaches .taskDisable s (fun t => (t.core u).staged = none ∧ t.mem = s.mem))
          ∧ (s.sched.stalls = [] → (∀ u w, (s.core u).staged = some w → w.task = k → w.asgAt ≠ s.elapsed) → Reaches .taskDisable s (fun t => t.task k = some { x with enabled := false, pend := 0, ready := false, insts := [] } ∧ t.mem = s.mem
              ∧ ∀ j, j ≠ k → t.task j = s.task j))))
    ∧ (∀ v, Reaches (.taskIdxWrite v) s (fun t => t.get R.SCHED_TASK_IDX_IDX = v % 512 ∧ t.sched = s.sched ∧ t.mem = s.mem
          ∧ (s.task (v % 512) = none → t.get R.SCHED_TASK_INFO_EN = 0 ∧ t.get R.SCHED_TASK_INFO_PRIO = 0 ∧ t.get R.SCHED_TASK_TIME_TB = 0)
          ∧ (∀ x, s.task (v % 512) = some x → t.get R.SCHED_TASK_INFO_EN = b2n x.enabled ∧ t.get R.SCHED_TASK_INFO_FENCED = b2n (s.taskFenced (v % 512))
              ∧ t.get R.SCHED_TASK_INFO_PRIO = x.decl.prio % 4 ∧ t.get R.SCHED_TASK_TIME_TB = x.decl.tb % 65536)))
    ∧ (∀ h dest b, s.sched.bufs.find? (fun b => decide (b.decl.handle = h)) = some b →
        (s.mayMove b dest = false → exec (.bufferMoveStart h dest) s = .next s)
        ∧ (s.mayMove b dest = true → s.on R.SCHED_TRACE_CTRL_EN = false → s.host.dpWait = [] → s.host.dpNext = none →
            (b.lost = false → Reaches (.bufferMoveStart h dest) s (fun t => t.mem = s.mem ∧ t.regs = s.regs
                ∧ t.sched.bufs.find? (fun b => decide (b.decl.handle = h)) = some { b with move := some dest }))
            ∧ (b.lost = true → Reaches (.bufferMoveStart h dest) s (fun t => t.get R.SCHED_STAT_BUF_LOST = 1 ∧
                (∀ a, t.mem.read a = if locBase dest ≤ a ∧ a < locBase dest + b.decl.size then 0 else s.mem.read a)
                ∧ t.sched.bufs.find? (fun b => decide (b.decl.handle = h)) = some { b with decl := { b.decl with loc := dest }, lost := false })))
        ∧ (b.move = none → exec (.bufferMoveDone h) s = .next s)
        ∧ (b.move = some dest → s.host.dpWait = [] → s.host.dpNext = none →
            Reaches (.bufferMoveDone h) s (fun t => (∀ a, (a < locBase dest ∨ locBase dest + b.decl.size ≤ a) → t.mem.read a = s.mem.read a)
              ∧ (s.memBad = [] → ∀ j, j < b.decl.size → t.mem.read (locBase dest + j) = s.mem.read (locBase b.decl.loc + j)) ∧ t.regs = s.regs
              ∧ t.sched.bufs.find? (fun b => decide (b.decl.handle = h)) = some { b with decl := { b.decl with loc := dest }, move := none })))
    ∧ Reaches .traceSnap s (fun t => t.sched = { s.sched with snap := true } ∧ t.regs = s.regs ∧ t.mem = s.mem)

/-- SET loads the counter and makes it valid; INC_NS loads the increment only while the servo is off; a compare is armed by its target and fires at its instant, once; a small offset of the selected source moves the integrator and the rate by the gains within 250 ppm, an offset of another source does nothing; a large one waits for a cycle start; holdover posts a standing TIME event once; SRC changes without touching the rate; PPS_IN edges closer than 0.9 s are ignored, an edge missing for 1.1 s sets PPS_MISS, and PPS_OUT rises at whole seconds and falls after OUT_W. A compare that has fired on the tick of its new target is taken back, and so is an offset of the old source on the tick of SRC (R560); one instant of elapsed time is one tick (notes/assumptions/7.md). What SET and a step leave alone is the reading of notes/assumptions/18.md. -/
def Obligations.DeviceTime : Prop :=
  ∀ s : State, s.inService = true →
    ((∀ d, s.servo.done = some d → d.at_ = s.elapsed → ∀ e ∈ d.flag.bits, e.1 = R.TIME_TSTAT_STEP) → Reaches .timeSet s (fun t => t.time = (s.get R.TIME_SET_HI_VAL * 2 ^ 32 + s.get R.TIME_SET_LO_VAL) * 2 ^ 32 % 2 ^ 96 ∧ t.get R.TIME_STATUS_VALID = 1 ∧ t.servo.setAt = some s.elapsed ∧ t.mem = s.mem))
    ∧ (∀ v, s.get R.TIME_INC_FR_FR < 2 ^ 32 → s.on R.TIME_SRV_CFG_SRC = false → Reaches (.incNsWrite v) s (fun t => t.servo.inc = v % 256 * 2 ^ 32 + s.get R.TIME_INC_FR_FR
          ∧ t.get R.TIME_INC_NS_NS = v % 256 ∧ RegsKeptBut [R.TIME_INC_NS_NS, R.TIME_INC_FR_FR] s t ∧ t.mem = s.mem))
    ∧ (∀ v, s.on R.TIME_SRV_CFG_SRC = true → exec (.incNsWrite v) s = .next s)
    ∧ (∀ c v, c < 4 →
        (s.on (R.TIME_TCMP_CFG_EN c) = false → (∀ b ∈ s.servo.fired, b.at_ ≠ s.elapsed ∨ b.ch ≠ c) →
            Reaches (.tcmpTgtWrite c v) s (fun t => t.get (R.TIME_TCMP_TGT_TGT c) = v % 2 ^ 32 ∧ RegsKeptBut [R.TIME_TCMP_TGT_TGT c] s t ∧ t.mem = s.mem))
        ∧ (∀ b, s.servo.fired = [b] → b.at_ = s.elapsed → b.ch = c → b.flag = none → b.bits.bits = [(R.TIME_TSTAT_FIRE, false, false)] →
            s.on (R.TIME_TCMP_CFG_EN c) = true → 0 < signedOf 32 ((v % 2 ^ 32 + 2 ^ 32 - s.nowNs % 2 ^ 32) % 2 ^ 32) →
            Reaches (.tcmpTgtWrite c v) s (fun t => t.get (R.TIME_TCMP_CFG_ARMED c) = 1 ∧ t.get R.TIME_TSTAT_FIRE = 0 ∧ t.mem = s.mem))
        ∧ (s.on (R.TIME_TCMP_CFG_EN c) = true → (∀ b ∈ s.servo.fired, b.at_ ≠ s.elapsed ∨ b.ch ≠ c) → 0 < signedOf 32 ((v % 2 ^ 32 + 2 ^ 32 - s.nowNs % 2 ^ 32) % 2 ^ 32) →
            Reaches (.tcmpTgtWrite c v) s (fun t => t.get (R.TIME_TCMP_CFG_ARMED c) = 1 ∧ t.get (R.TIME_TCMP_TGT_TGT c) = v % 2 ^ 32 ∧ t.mem = s.mem))
        ∧ (s.on (R.TIME_TCMP_CFG_ARMED c) = false → exec (.timeCompareFire c) s = .next s)
        ∧ (s.on (R.TIME_TCMP_CFG_ARMED c) = true → Reaches (.timeCompareFire c) s (fun t => t.get (R.TIME_TCMP_CFG_ARMED c) = 0 ∧ t.get R.TIME_TSTAT_FIRE = 1 ∧ t.mem = s.mem
            ∧ t.time = (s.time + ((s.nowNs + (s.tcmpD c).toNat) * 2 ^ 32 - s.time)) % 2 ^ 96)))
    ∧ (∀ src off, (src = 0 ∨ s.get R.TIME_SRV_CFG_SRC ≠ src) → exec (.servoOffset src off) s = .next s)
    ∧ (∀ src off, src ≠ 0 → s.get R.TIME_SRV_CFG_SRC = src → s.on R.TIME_STATUS_VALID = true → s.servo.pend = none →
        (off.natAbs ≤ s.get R.TIME_STEP_THR_THR * 2 ^ 16 →
          Reaches (.servoOffset src off) s (fun t => t.servo.acc = s.servo.acc + (s.get R.TIME_SRV_GAIN_KI : Nat) * off / 2 ^ 16 ∧ t.servo.pend = none
            ∧ t.servo.rate = max (-(250000 * 2 ^ 16)) (min (250000 * 2 ^ 16) ((s.get R.TIME_SRV_GAIN_KP : Nat) * off / 2 ^ 12 + (s.servo.acc + (s.get R.TIME_SRV_GAIN_KI : Nat) * off / 2 ^ 16)))
            ∧ t.servo.inc = incOf t.servo.rate ∧ t.time = s.time ∧ t.mem = s.mem))
        ∧ (s.get R.TIME_STEP_THR_THR * 2 ^ 16 < off.natAbs →
          Reaches (.servoOffset src off) s (fun t => t.servo.pend = some off ∧ t.servo.rate = s.servo.rate ∧ t.time = s.time ∧ t.mem = s.mem)))
    ∧ (s.on R.TIME_SRV_CFG_SRC = true → s.on R.TIME_STATUS_HOLDOVER = false →
        Reaches .holdoverTimeout s (fun t => t.get R.TIME_STATUS_HOLDOVER = 1 ∧ t.get R.TIME_TSTAT_HOLD = 1 ∧ t.servo = s.servo
          ∧ t.flt.inbox = s.flt.inbox ++ [{ cls := .time, unit := 0x0401, standing := true }]))
    ∧ (s.on R.TIME_STATUS_HOLDOVER = true → exec .holdoverTimeout s = .next s)
    ∧ (∀ v, s.pairOp = false → Reaches (.srvSrcWrite v) s (fun t => t.get R.TIME_SRV_CFG_SRC = v % 4 ∧ t.mem = s.mem
          ∧ (v % 4 = 0 → t.get R.TIME_STATUS_HOLDOVER = 0)
          ∧ ((∀ b, s.servo.took = some b → b.at_ ≠ s.elapsed) → t.servo = s.servo)
          ∧ (v % 4 ≠ s.get R.TIME_SRV_CFG_SRC → ∀ b, s.servo.took = some b → b.at_ = s.elapsed → t.servo.acc = b.acc ∧ t.servo.rate = b.rate ∧ t.servo.pend = b.pend)))
    ∧ (s.on R.TIME_PPS_CFG_IN_EN = false → exec .ppsInEdge s = .next s ∧ exec .ppsMissTimeout s = .next s)
    ∧ (s.on R.TIME_PPS_CFG_IN_EN = true → (∀ p, s.servo.ppsAt = some p → p + 900000000 * 2 ^ 32 ≤ s.elapsed) →
        Reaches .ppsInEdge s (fun t => t.servo.ppsAt = some s.elapsed ∧ t.get R.TIME_PPS_TS_TS = s.nowNs % 2 ^ 32 ∧ t.time = s.time ∧ t.mem = s.mem))
    ∧ (∀ p, s.servo.ppsAt = some p → s.elapsed < p + 900000000 * 2 ^ 32 → exec .ppsInEdge s = .next s)
    ∧ (s.on R.TIME_PPS_CFG_IN_EN = true → s.conds = [] → Reaches .ppsMissTimeout s (fun t => t.get R.TIME_TSTAT_PPS_MISS = 1 ∧ t.servo = s.servo ∧ t.mem = s.mem
        ∧ t.elapsed = max s.elapsed (max (s.servo.ppsAt.getD 0) s.servo.ppsFrom + 1100000000 * 2 ^ 32)))
    ∧ (s.on R.TIME_PPS_CFG_OUT_EN = true → s.on R.TIME_STATUS_VALID = true →
        Reaches .ppsOutRise s (fun t => t.servo.ppsOut = true ∧ t.servo.ppsRise = t.elapsed ∧ t.time = (s.time + ((s.nowNs + 999999999) / 10 ^ 9 * 10 ^ 9 * 2 ^ 32 - s.time)) % 2 ^ 96
          ∧ (s.nowNs + 10 ^ 9 < 2 ^ 64 → s.nowNs < t.nowNs + 1 ∧ t.nowNs < s.nowNs + 10 ^ 9 ∧ t.nowNs % 10 ^ 9 = 0) ∧ t.regs = s.regs ∧ t.mem = s.mem))
    ∧ (s.servo.ppsOut = false → exec .ppsOutFall s = .next s)
    ∧ (s.servo.ppsOut = true → Reaches .ppsOutFall s (fun t => t.servo = { s.servo with ppsOut := false } ∧ t.regs = s.regs ∧ t.mem = s.mem
        ∧ t.elapsed = max s.elapsed (s.servo.ppsRise + s.get R.TIME_PPS_CFG_OUT_W * 10 ^ 6 * 2 ^ 32)))

/-- A frame with a bad FCS counts as FCS, one of a wrong size or an unknown type as dropped, each with its own flag, and none of them meets the duplicate tables; an accepted frame counts as received, and one whose sequence the pair has seen counts as a duplicate, while an HSR pair discards a frame that this device has sent; an entry that one LAN alone has shown for 400 ms counts as unpaired; a supervision frame leaves a pair that is one; a link that goes down clears AN_DONE with a standing NET event; a restart of auto-negotiation clears AN_DONE and, of a link that was up, takes it down; auto-negotiation that completes in full duplex sets AN_DONE and one that does not sets AN_FAIL; an SFP read sets BUSY, is turned away while one runs, and brings its byte only with RESULT 0. The order of the checks of a frame and what an HSR pair discards are the readings of notes/assumptions/20.md. -/
def Obligations.EthernetPorts : Prop :=
  ∀ (s : State) (p : Nat), s.inService = true → p < 4 → keysRise none s.net.dups = true →
    (s.on (R.ETH_CTRL_EN p) = false → ∀ f, exec (.ethFrameReceived p f) s = .next s ∧ exec (.ethLinkDown p) s = .next s ∧ exec (.anRestart p) s = .next s)
    ∧ (s.on (R.ETH_CTRL_EN p) = true → ∀ f : EthFrame,
        (f.fcsOk = false → Reaches (.ethFrameReceived p f) s (fun t => t.net = s.net ∧ t.get (R.ETH_PSTAT_FCS p) = 1 ∧ t.mem = s.mem
            ∧ t.get (R.ETH_ERR_CNT_FCS p) = (s.get (R.ETH_ERR_CNT_FCS p) + 1) % 2 ^ (R.ETH_ERR_CNT_FCS p).w))
        ∧ (f.fcsOk = true → (f.size < 64 ∨ 1522 < f.size) → Reaches (.ethFrameReceived p f) s (fun t => t.net = s.net ∧ t.get (R.ETH_PSTAT_SIZE p) = 1
            ∧ t.get (R.ETH_ERR_CNT_DROP p) = (s.get (R.ETH_ERR_CNT_DROP p) + 1) % 2 ^ (R.ETH_ERR_CNT_DROP p).w))
        ∧ (f.fcsOk = true → 64 ≤ f.size → f.size ≤ 1522 → f.etype ∉ ethTypes → Reaches (.ethFrameReceived p f) s (fun t => t.net = s.net ∧ t.get (R.ETH_PSTAT_TYPE_DROP p) = 1))
        ∧ (f.fcsOk = true → 64 ≤ f.size → f.size ≤ 1522 → f.etype ∈ ethTypes →
            Reaches (.ethFrameReceived p f) s (fun t => t.mem = s.mem ∧ t.get (R.ETH_RX_CNT_FRAMES p) = (s.get (R.ETH_RX_CNT_FRAMES p) + 1) % 2 ^ (R.ETH_RX_CNT_FRAMES p).w
              ∧ (∀ q, f.red = .hsr q → s.pairMode p = 2 → (f.srcMac = s.portMac p ∨ f.srcMac = s.portMac (partner p)) → t.net = s.net)
              ∧ (∀ q lan, f.red = .prp q lan → s.pairMode p = 1 →
                  ((∃ e ∈ tget [] s.net.dups (p / 2), e.srcMac = f.srcMac ∧ e.seq = q) → t.get (R.ETH_PAIR_CNT_DUP (pairLead p)) = (s.get (R.ETH_PAIR_CNT_DUP (pairLead p)) + 1) % 2 ^ (R.ETH_PAIR_CNT_DUP (pairLead p)).w)
                  ∧ ((∀ e ∈ tget [] s.net.dups (p / 2), ¬(e.srcMac = f.srcMac ∧ e.seq = q)) →
                      tget [] t.net.dups (p / 2) = ({ srcMac := f.srcMac, seq := q, lans := if p % 2 = 0 then 1 else 2, first := if p % 2 = 0 then 1 else 2 } :: tget [] s.net.dups (p / 2)).take 1024)))))
    ∧ (s.on (R.ETH_CTRL_EN p) = true →
        Reaches (.ethLinkDown p) s (fun t => t.get (R.ETH_STATUS_AN_DONE p) = 0 ∧ t.get (R.ETH_PSTAT_LINK_DN p) = 1 ∧ { cls := .net, unit := 0x0700 + p, standing := true } ∈ t.flt.inbox ∧ t.mem = s.mem)
        ∧ (s.on (R.ETH_CFG_AN_EN p) = true → s.on (R.LANE_CFG_RATE (112 + p)) = true →
            Reaches (.anRestart p) s (fun t => t.get (R.ETH_STATUS_AN_DONE p) = 0 ∧ t.mem = s.mem
                ∧ (s.linkUp p = false → RegsKeptBut [R.ETH_STATUS_AN_DONE p] s t ∧ t.flt = s.flt)
                ∧ (s.linkUp p = true → t.get (R.ETH_PSTAT_LINK_DN p) = 1 ∧ { cls := .net, unit := 0x0700 + p, standing := true } ∈ t.flt.inbox))
            ∧ Reaches (.autoNegotiationDone p true) s (fun t => t.get (R.ETH_STATUS_AN_DONE p) = 1 ∧ RegsKeptBut [R.ETH_STATUS_AN_DONE p] s t ∧ t.mem = s.mem)
            ∧ Reaches (.autoNegotiationDone p false) s (fun t => t.get (R.ETH_PSTAT_AN_FAIL p) = 1 ∧ t.get (R.ETH_STATUS_AN_DONE p) = s.get (R.ETH_STATUS_AN_DONE p) ∧ t.mem = s.mem)))
    ∧ (∀ v, (s.on (R.ETH_SFP_CMD_BUSY p) = false → Reaches (.sfpRead p v) s (fun t => t.get (R.ETH_SFP_CMD_BUSY p) = 1 ∧ t.get (R.ETH_SFP_CMD_ADDR p) = v / 2 ^ 8 % 256 ∧ t.mem = s.mem ∧ t.flt = s.flt))
        ∧ (s.on (R.ETH_SFP_CMD_BUSY p) = true → Reaches (.sfpRead p v) s (fun t => t.get (R.ETH_SFP_CMD_BUSY p) = s.get (R.ETH_SFP_CMD_BUSY p)
            ∧ { cls := .config, unit := 0x0700 + p, req := .l0, aux := 0xA005C + 0x1000 * p } ∈ t.flt.inbox)))
    ∧ (s.on (R.ETH_SFP_CMD_BUSY p) = false → ∀ r d, exec (.sfpReadDone p r d) s = .next s)
    ∧ (s.on (R.ETH_SFP_CMD_BUSY p) = true → ∀ r d, r < 4 → Reaches (.sfpReadDone p r d) s (fun t => t.get (R.ETH_SFP_CMD_BUSY p) = 0 ∧ t.get (R.ETH_SFP_CMD_RESULT p) = r
        ∧ (r = 0 → t.get (R.ETH_SFP_CMD_DATA p) = d % 256) ∧ (r ≠ 0 → t.get (R.ETH_SFP_CMD_DATA p) = s.get (R.ETH_SFP_CMD_DATA p)) ∧ t.mem = s.mem))
    ∧ (∀ k, k < 2 → s.get (R.ETH_CFG_PAIR (2 * k)) ≠ 0 → keysRise none s.net.supers = true →
        Reaches (.prpSupervisionSend k) s (fun t => tget 0 t.net.supers k = tget 0 s.net.supers k + 1 ∧ t.regs = s.regs ∧ t.mem = s.mem))
    ∧ (∀ k m q, (∀ e ∈ tget [] s.net.dups k, ¬(e.srcMac = m ∧ e.seq = q)) → exec (.prpEntryExpired k m q) s = .next s)
    ∧ (∀ k e l, k < 2 → tget [] s.net.dups k = e :: l →
        Reaches (.prpEntryExpired k e.srcMac e.seq) s (fun t => (∀ x ∈ tget [] t.net.dups k, ¬(x.srcMac = e.srcMac ∧ x.seq = e.seq)) ∧ t.mem = s.mem
          ∧ (e.lans = 3 → t.regs = s.regs) ∧ (e.lans ≠ 3 → t.get (R.ETH_PSTAT_UNPAIRED (2 * k)) = 1
              ∧ t.get (R.ETH_PAIR_CNT_UNPAIRED (2 * k)) = (s.get (R.ETH_PAIR_CNT_UNPAIRED (2 * k)) + 1) % 2 ^ (R.ETH_PAIR_CNT_UNPAIRED (2 * k)).w)))

/-- A frame of an enabled stream with a new sample count makes the stream present with that count, and each of its channels whose entry is good takes the scaled value, while one with a bad quality keeps its value and is marked; the samples that the frame passes over count as missed; a count already seen, a simulated frame without SIM_OK, a frame with an ASDU not in the stream’s form and a copy that the pair has discarded change nothing; a silent stream becomes LOST once, with an event at least at L3 where it is needed by an arm that is not OFF; the three windows latch a stream, a channel and a subscription. Which ASDU belongs to its stream, and what is a gap or a repeat, is the reading of notes/assumptions/20.md. -/
def Obligations.SampledValues : Prop :=
  ∀ s : State, s.inService = true → keysRise none s.net.streams = true → keysRise none s.net.chans = true →
    (s.svUp = true →
      (∀ f j x a, s.net.streams.find? (fun e => streamMatch e.2.decl f && s.streamOn e.1) = some (j, x) → topAsdu f.asdus = some a → 1 ≤ f.asdus.length → f.asdus.length ≤ 8 → s.ethUp f.port = true →
        (s.isCopy f.port f.srcMac f.red = true → exec (.svFrameReceived f) s = .next s)
        ∧ (f.asdus.all (asduOk x.decl) = false → exec (.svFrameReceived f) s = .next s)
        ∧ (s.isCopy f.port f.srcMac f.red = false → f.asdus.all (asduOk x.decl) = true →
          (f.sim = true → s.on R.NETSV_SV_CFG_SIM_OK = false → exec (.svFrameReceived f) s = .next s)
        ∧ (f.sim = false → a.smpCnt ∈ x.seen → exec (.svFrameReceived f) s = .next s)
        ∧ (f.sim = false → a.smpCnt ∉ x.seen →
          Reaches (.svFrameReceived f) s (fun t => t.mem = s.mem ∧ (∃ y, lookupKey t.net.streams j = some y ∧ y.lost = false ∧ y.last = some a.smpCnt ∧ y.decl = x.decl
                ∧ y.miss = (x.miss + svGap x.decl.rate x.last a.smpCnt (f.asdus.map (·.smpCnt))) % 65536)
            ∧ (∀ c z v q, lookupKey s.net.chans c = some z → z.decl.stream = j → a.entries[z.decl.entry]? = some (v, q) →
                (svGood q = true → x.decl.synchReq ≤ a.synch → lookupKey t.net.chans c = some { z with val := svValue v z.decl.mul, got := true, qbad := false })
                ∧ (svGood q = false → lookupKey t.net.chans c = some { z with qbad := true } ∧ t.get R.NETSV_NSTAT_SV_QBAD = 1))))))
      ∧ (∀ j x, lookupKey s.net.streams j = some x → s.streamOn j = true →
        (x.lost = true → exec (.svStreamTimeout j) s = .next s)
        ∧ (x.lost = false → Reaches (.svStreamTimeout j) s (fun t => lookupKey t.net.streams j = some { x with lost := true, seen := [] } ∧ t.get R.NETSV_NSTAT_SV_LOST = 1 ∧ t.mem = s.mem
            ∧ (s.streamKey j x = true → s.arm.mode ≠ .off → t.flt.inbox = s.flt.inbox ++ [{ cls := .net, unit := 0x0710, req := .atLeast 3, standing := true, src := j }])
            ∧ ((s.streamKey j x = false ∨ s.arm.mode = .off) → t.flt.inbox = s.flt.inbox ++ [{ cls := .net, unit := 0x0710, standing := true, src := j }])))))
    ∧ (s.on R.NETSV_CTRL_SV_EN = false → ∀ f j, exec (.svFrameReceived f) s = .next s ∧ exec (.svStreamTimeout j) s = .next s)
    ∧ (∀ v, Reaches (.svsInfoWrite v) s (fun t => t.get R.NETSV_SVS_INFO_IDX = v % 64 ∧ t.net = s.net ∧ t.mem = s.mem
          ∧ (lookupKey s.net.streams (v % 64) = none → t.get R.NETSV_SVS_INFO_LOST = 0 ∧ t.get R.NETSV_SVS_CNT_MISS = 0)
          ∧ (∀ x, lookupKey s.net.streams (v % 64) = some x → t.get R.NETSV_SVS_INFO_LOST = b2n x.lost ∧ t.get R.NETSV_SVS_CNT_MISS = x.miss % 2 ^ R.NETSV_SVS_CNT_MISS.w))
        ∧ Reaches (.svcInfoWrite v) s (fun t => t.get R.NETSV_SVC_INFO_IDX = v % 256 ∧ t.net = s.net ∧ t.mem = s.mem
          ∧ (lookupKey s.net.chans (v % 256) = none → t.get R.NETSV_SVC_INFO_STALE = 1 ∧ t.get R.NETSV_SVC_VAL_VAL = 0)
          ∧ (∀ x, lookupKey s.net.chans (v % 256) = some x → t.get R.NETSV_SVC_VAL_VAL = x.val % 2 ^ 32))
        ∧ Reaches (.gsInfoWrite v) s (fun t => t.get R.NETSV_GS_INFO_IDX = v % 128 ∧ t.net = s.net ∧ t.mem = s.mem
          ∧ (lookupKey s.net.subs (v % 128) = none → t.get R.NETSV_GS_INFO_VAL = 0)
          ∧ (∀ x, lookupKey s.net.subs (v % 128) = some x → t.get R.NETSV_GS_INFO_VAL = b2n x.val ∧ t.get R.NETSV_GS_INFO_LOST = b2n x.lost)))

/-- A publication whose members have changed sends a new state with the next stNum and sqNum 0 and leaves others alone, and an unchanged one repeats with the next sqNum at twice the interval, up to MAX_T; a frame with newer numbers of a subscription gives its member, whose rise with the block action takes a running arm to BLOCKED with GS_TRIP, and a copy that the pair has discarded changes nothing; one with older numbers only clears CONFREV; a frame of another confRev only marks the subscription with an L0 event; a silent subscription becomes LOST with a standing event, and acts where it blocks on failure. The order of the checks and what is newer are the readings of notes/assumptions/21.md, and the effect of a test frame that of 52.md. -/
def Obligations.Goose : Prop :=
  ∀ s : State, s.inService = true → keysRise none s.net.subs = true → keysRise none s.net.pubs = true →
    (∀ k x, lookupKey s.net.pubs k = some x → s.pubOn k = true →
        (x.members = some (s.pubMembers k) →
          exec (.gooseNewState k) s = .next s
          ∧ Reaches (.gooseRepeat k) s (fun t => t.mem = s.mem ∧ t.regs = s.regs ∧ (∀ j, j ≠ k → lookupKey t.net.pubs j = lookupKey s.net.pubs j)
              ∧ ∃ y, lookupKey t.net.pubs k = some y ∧ y.sqNum = x.sqNum + 1 ∧ y.stNum = x.stNum ∧ y.ivl = min (2 * x.ivl) (10 * s.get R.NETSV_GP_CFG_MAX_T) ∧ y.frames = x.frames + 1))
        ∧ (x.members ≠ some (s.pubMembers k) → ∀ c, (c = Instr.gooseNewState k ∨ c = Instr.gooseRepeat k ∧ x.members ≠ none) →
          Reaches c s (fun t => t.mem = s.mem ∧ (∀ j, j ≠ k → lookupKey t.net.pubs j = lookupKey s.net.pubs j)
              ∧ ∃ y, lookupKey t.net.pubs k = some y ∧ y.members = some (s.pubMembers k) ∧ y.stNum = x.stNum + 1 ∧ y.sqNum = 0 ∧ y.ivl = s.get R.NETSV_GP_CFG_MIN_T ∧ y.frames = x.frames + 1)))
    ∧ (∀ k, s.pubOn k = false → exec (.gooseNewState k) s = .next s ∧ exec (.gooseRepeat k) s = .next s)
    ∧ (∀ v, Reaches (.gpDataWrite v) s (fun t => t.get R.NETSV_GP_DATA_DATA = v % 2 ^ R.NETSV_GP_DATA_DATA.w ∧ t.mem = s.mem ∧ lookupKey t.net.pubs 0 = lookupKey s.net.pubs 0))
    ∧ (∀ j x (f : GooseFrame), lookupKey s.net.subs j = some x → s.subOn j = true → x.decl.dst = f.dst → x.decl.appid = f.appid → x.decl.gocbRef = f.gocbRef → x.decl.datSet = f.datSet →
        (s.isCopy f.port f.srcMac f.red = true → exec (.gooseFrameReceived f) s = .next s)
        ∧ (s.isCopy f.port f.srcMac f.red = false → x.decl.confRev ≠ f.confRev → Reaches (.gooseFrameReceived f) s (fun t => lookupKey t.net.subs j = some { x with confRev := true } ∧ t.get R.NETSV_NSTAT_GS_CONFREV = 1
            ∧ { cls := .net, unit := 0x0711, req := .l0 } ∈ t.flt.inbox ∧ t.mem = s.mem))
        ∧ (∀ b, s.isCopy f.port f.srcMac f.red = false → x.decl.confRev = f.confRev → f.members[x.decl.pos]? = some (some b) → f.ndsCom = false → f.sim = false →
            (newerNums x.nums f.stNum f.sqNum = true → Reaches (.gooseFrameReceived f) s (fun t => t.mem = s.mem
                ∧ lookupKey t.net.subs j = some { x with lost := false, val := b, eff := b, confRev := false, test := f.test, nums := some (f.stNum, f.sqNum), talMs := f.talMs }
                ∧ (b = true → x.eff = false → x.decl.action = 2 → f.test = false → s.arm.mode = .run → t.arm.mode = .blocked ∧ t.get R.NETSV_NSTAT_GS_TRIP = 1)))
            ∧ (newerNums x.nums f.stNum f.sqNum = false → Reaches (.gooseFrameReceived f) s (fun t => lookupKey t.net.subs j = some { x with confRev := false } ∧ t.mem = s.mem))))
    ∧ (∀ j x, lookupKey s.net.subs j = some x → s.subOn j = true →
        (x.lost = true → exec (.gooseSubTimeout j) s = .next s)
        ∧ (x.lost = false → Reaches (.gooseSubTimeout j) s (fun t => lookupKey t.net.subs j = some { x with lost := true, eff := x.eff || x.decl.failBlk } ∧ t.mem = s.mem
            ∧ t.get R.NETSV_NSTAT_GS_LOST = 1 ∧ { cls := .net, unit := 0x0711, standing := true, src := j } ∈ t.flt.inbox
            ∧ (x.decl.failBlk = true → x.eff = false → x.decl.action = 2 → s.arm.mode = .run → t.arm.mode = .blocked))))

/-- On a linked port of the enabled engine, an Announce of the configured domain joins the data sets that the port has heard, of which the best is the port’s, and one of another domain, or a copy that the pair has discarded, changes nothing, a Pdelay request is answered by its response and follow-up, a response gives the mean link delay of its four times, Sync with its Follow_Up and Announce leave a MASTER port only and Pdelay every port, a receipt timeout forgets the Announce; a Sync at the slave port is an offset t1 + correction + delay - t2 for the servo and at any other port, or of another domain, nothing. The addresses and the follow-up of a response are those of IEEE 1588-2019 (notes/assumptions/62.md). The state decision is that of IEEE 1588-2019 (notes/assumptions/19.md). -/
def Obligations.PtpMessages : Prop :=
  ∀ (s : State) (p : Nat), s.inService = true → keysRise none s.net.ptp = true →
    (∀ (h : PtpHead) t1 corr t2, h.port = p → ((s.ptpSlave p = false ∨ h.domain ≠ s.get R.NETSV_PTP_CFG_DOMAIN ∨ s.isCopy p h.srcMac h.red = true) → exec (.ptpSyncReceived h t1 corr t2) s = .next s)
        ∧ (s.ptpSlave p = true → h.domain = s.get R.NETSV_PTP_CFG_DOMAIN → s.isCopy p h.srcMac h.red = false → Reaches (.ptpSyncReceived h t1 corr t2) s (fun t => t.mem = s.mem ∧ t.net = s.net
            ∧ exec (.servoOffset 1 (t1 + corr - t2 + ((s.ptpPort p).mld * 2 ^ 12 : Nat))) s = .next t)))
    ∧ (s.ptpUp = true → s.ptpPorts.contains p = true → s.linkUp p = true →
        (∀ (h : PtpHead) (m : PtpMsg), h.port = p → s.isCopy p h.srcMac h.red = true → exec (.ptpMessageReceived h m) s = .next s)
        ∧ (∀ (h : PtpHead) (d : AnnounceData), h.port = p → (h.domain ≠ s.get R.NETSV_PTP_CFG_DOMAIN → exec (.ptpMessageReceived h (.announce d)) s = .next s)
            ∧ (h.domain = s.get R.NETSV_PTP_CFG_DOMAIN → s.isCopy p h.srcMac h.red = false →
                Reaches (.ptpMessageReceived h (.announce d)) s (fun t => (t.ptpPort p).heard = hearAnnounce h.sender d (s.ptpPort p).heard
                  ∧ (t.ptpPort p).best = bestOf (hearAnnounce h.sender d (s.ptpPort p).heard) ∧ t.mem = s.mem)))
        ∧ (∀ h : PtpHead, h.port = p → s.isCopy p h.srcMac h.red = false →
            Reaches (.ptpMessageReceived h .pdelayReq) s (fun t =>
              t.ptpPort p = { s.ptpPort p with resps := (s.ptpPort p).resps + 1, out := [.pdelayResp s.stamp, .pdelayFollowUp s.stamp] } ∧ t.regs = s.regs ∧ t.mem = s.mem)
            ∧ (∀ t1 t2 t3 t4, Reaches (.ptpMessageReceived h (.pdelayResp t1 t2 t3 t4)) s (fun t =>
              t.ptpPort p = { s.ptpPort p with mld := meanDelay (s.ptpPort p).prev t1 t2 t3 t4, prev := some (t3, t4) } ∧ t.mem = s.mem)))
        ∧ Reaches (.ptpIntervalSend p .pdelay) s (fun t => t.ptpPort p = { s.ptpPort p with pdls := (s.ptpPort p).pdls + 1, out := [.pdelayReq] } ∧ t.regs = s.regs ∧ t.mem = s.mem)
        ∧ ((s.ptpPort p).st = 6 → Reaches (.ptpIntervalSend p .sync) s (fun t => t.ptpPort p = { s.ptpPort p with syncs := (s.ptpPort p).syncs + 1, out := [.sync (s.get R.NETSV_PTP_CFG_DOMAIN), .followUp (s.get R.NETSV_PTP_CFG_DOMAIN) s.stamp] } ∧ t.regs = s.regs)
            ∧ Reaches (.ptpIntervalSend p .announce) s (fun t => t.ptpPort p = { s.ptpPort p with anns := (s.ptpPort p).anns + 1, out := [.announce s.ptpAnnounced] } ∧ t.regs = s.regs))
        ∧ ((s.ptpPort p).st ≠ 6 → exec (.ptpIntervalSend p .sync) s = .next s ∧ exec (.ptpIntervalSend p .announce) s = .next s)
        ∧ Reaches (.ptpAnnounceReceiptTimeout p) s (fun t => (t.ptpPort p).best = none ∧ (t.ptpPort p).heard = [] ∧ t.mem = s.mem))
    ∧ (s.ptpUp = false → ∀ h m k, exec (.ptpMessageReceived h m) s = .next s ∧ exec (.ptpIntervalSend p k) s = .next s ∧ exec (.ptpAnnounceReceiptTimeout p) s = .next s)

/-- A running port sends its markers, blocks of type 0x4B, with the next sequence; a second good set of markers aligns the four locked lanes, a first one only counts, and a third bad one ends the alignment with a LANE event; an aligned port comes up with its peer, unless the peer shows this device’s identity, and goes down with a standing event, its queue kept and its sequence filled with idle blocks up to logical lane 0; the blocks of a message, put on four lanes in turn, are read back as that message with its check; the identity is written once, and a port that is up whose peer has it goes down; every message with a wrong check counts as that, whatever becomes of it; markers among the blocks of a message are removed; a message of an unknown type, without a route or without hops left is counted as dropped, and one with a route waits on its port with one hop fewer; the transmitter takes the first message of the lowest class and puts its blocks on the lanes, the first on logical lane 0; a TREQ leaves a port that asks for time, is answered by one that serves it, and an invalid TRESP sets T_NV. Where the block sequence of a port begins is the reading of notes/assumptions/56.md, and what a port does with messages it cannot route that of 25.md. -/
def Obligations.CanopyPorts : Prop :=
  ∀ (s : State) (p : Nat), s.inService = true → p < 4 → keysRise none s.canopy.ports = true →
    (s.portRuns p = true → Reaches (.alignMarkerSend p) s (fun t => t.regs = s.regs ∧ t.mem = s.mem
        ∧ (t.port p).mseq = ((s.port p).mseq + 1) % 256 ∧ (t.port p).queue = (s.port p).queue ∧ (t.port p).out = (s.port p).out ∧ (t.port p).up = (s.port p).up
        ∧ (∀ q, q < 4 → (t.port p).marker[q]? = some ((q * 2 ^ 54 + p * 2 ^ 52 + s.get R.CANOPY_DEVID_ID * 2 ^ 42 + (s.port p).mseq * 2 ^ 34 + 0xC * 2 ^ 28) * 2 ^ 8 + 0x4B))
        ∧ (t.port p).line.map (fun e => (e.1, e.2.1)) = (List.range 4).map (fun q => (q, syncHeader true)) ∧ (t.port p).line.map (·.2.2) = (t.port p).marker))
    ∧ (s.portRuns p = false → exec (.alignMarkerSend p) s = .next s ∧ exec (.canopyPortUp p) s = .next s)
    ∧ (∀ ms, (∀ q, q < 4 → s.laneUp (96 + 4 * p + q) = true ∧ (s.lane (96 + 4 * p + q)).mode = .locked) →
        (goodSet ms = true → Reaches (.markerSetReceived p ms) s (fun t => (t.port p).bad = 0 ∧ (t.port p).good = min 2 ((s.port p).good + 1) ∧ t.mem = s.mem
            ∧ (1 ≤ (s.port p).good → ∀ q, q < 4 → t.get (R.LANE_STATUS_ALIGNED (96 + 4 * p + q)) = 1)
            ∧ ((s.port p).good = 0 → ∀ q, q < 4 → t.get (R.LANE_STATUS_ALIGNED (96 + 4 * p + q)) = s.get (R.LANE_STATUS_ALIGNED (96 + 4 * p + q)))))
        ∧ (goodSet ms = false → Reaches (.markerSetReceived p ms) s (fun t => (t.port p).good = 0 ∧ (t.port p).bad = min 3 ((s.port p).bad + 1) ∧ t.mem = s.mem
            ∧ ((s.port p).bad ≠ 2 → t.regs = s.regs)
            ∧ ((s.port p).bad = 2 → s.on (R.LANE_STATUS_ALIGNED (96 + 4 * p)) = true →
                (∀ q, q < 4 → t.get (R.LANE_STATUS_ALIGNED (96 + 4 * p + q)) = 0) ∧ { cls := .lane, unit := laneUnit (96 + 4 * p) } ∈ t.flt.inbox))))
    ∧ (s.portRuns p = true → (s.port p).up = false → (∀ q, q < 4 → s.on (R.LANE_STATUS_ALIGNED (96 + 4 * p + q)) = true) →
        Reaches (.canopyPortUp p) s (fun t => t.get (R.CANOPY_PEER_VALID p) = 1 ∧ t.mem = s.mem
          ∧ (s.get (R.LANE_DESKEW_PEER (96 + 4 * p)) = s.get R.CANOPY_DEVID_ID → (t.port p).up = false ∧ t.get (R.CANOPY_PSTAT_DUPID p) = 1)
          ∧ (s.get (R.LANE_DESKEW_PEER (96 + 4 * p)) ≠ s.get R.CANOPY_DEVID_ID → t.port p = { s.port p with up := true })))
    ∧ ((s.port p).up = false → exec (.canopyPortDown p) s = .next s)
    ∧ ((s.port p).up = true → Reaches (.canopyPortDown p) s (fun t => (t.port p).up = false ∧ (t.port p).out = none ∧ (t.port p).queue = (s.port p).queue ∧ (t.port p).lane = 0
        ∧ (t.port p).line = onLanes (s.port p).lane (idlesFrom (s.port p).lane) ∧ t.get (R.CANOPY_PEER_VALID p) = 0
        ∧ t.get (R.CANOPY_PSTAT_DOWN p) = 1 ∧ t.flt.inbox = s.flt.inbox ++ [{ cls := .canopy, unit := 0x0600 + p, standing := true }] ∧ t.mem = s.mem))
    ∧ (∀ v, (s.on R.CANOPY_DEVID_SET = false → Reaches (.devidWrite v) s (fun t => t.get R.CANOPY_DEVID_ID = v % 2 ^ R.CANOPY_DEVID_ID.w ∧ t.get R.CANOPY_DEVID_SET = 1 ∧ t.mem = s.mem
            ∧ ((∀ q, q < 4 → (s.port q).up = false) → RegsKeptBut [R.CANOPY_DEVID_ID, R.CANOPY_DEVID_SET] s t ∧ t.canopy = s.canopy)
            ∧ (∀ q, q < 4 → (s.port q).up = true → s.get (R.LANE_DESKEW_PEER (96 + 4 * q)) = v % 2 ^ R.CANOPY_DEVID_ID.w → (t.port q).up = false)))
        ∧ (s.on R.CANOPY_DEVID_SET = true → Reaches (.devidWrite v) s (fun t => t.get R.CANOPY_DEVID_ID = s.get R.CANOPY_DEVID_ID ∧ t.get (R.CANOPY_STATUS_LOCKV 0) = 1)))
    ∧ (∀ (m : CMsg) fwd, m.mtype < 16 → m.dst < 1024 → m.src < 1024 → m.hops < 16 → m.sess < 256 → m.seq < 256 → m.tag < 2 ^ 32 → m.aux < 2 ^ 32 → m.payload.length ≤ 256 →
        msgOf (unmarked (m.blocks fwd)) = some { m with payload := padBlocks m.payload, mcrc := m.mcrcSent fwd % 2 ^ 32 })
    ∧ (∀ lanes, msgOf (reassemble (lanes.map unmarked)) = none → exec (.canopyMessageReceived p lanes) s = .next s)
    ∧ (s.portUp p = true → ∀ (m : CMsg) lanes, msgOf (reassemble (lanes.map unmarked)) = some m → m.mcrcOk = false →
        Reaches (.canopyMessageReceived p lanes) s (fun t => t.get (R.CANOPY_PSTAT_MCRC p) = 1 ∧ t.mem = s.mem
          ∧ t.get (R.CANOPY_ERR_CNT_MCRC p) = (s.get (R.CANOPY_ERR_CNT_MCRC p) + 1) % 2 ^ (R.CANOPY_ERR_CNT_MCRC p).w))
    ∧ (s.portUp p = true → s.isCkPort p = false →
        (∀ (m : CMsg) lanes, msgOf (reassemble (lanes.map unmarked)) = some m → m.dst ≠ s.get R.CANOPY_DEVID_ID → m.mtype < 9 →
          (s.routeTo m.dst = none → Reaches (.canopyMessageReceived p lanes) s (fun t => t.canopy = s.canopy ∧ t.get (R.CANOPY_PSTAT_NOROUTE p) = 1 ∧ t.mem = s.mem
              ∧ t.get (R.CANOPY_ERR_CNT_DROP p) = (s.get (R.CANOPY_ERR_CNT_DROP p) + 1) % 2 ^ (R.CANOPY_ERR_CNT_DROP p).w))
          ∧ (∀ q, s.routeTo m.dst = some q →
              (m.hops = 0 → Reaches (.canopyMessageReceived p lanes) s (fun t => t.canopy = s.canopy ∧ t.get (R.CANOPY_PSTAT_HOPS0 p) = 1 ∧ t.mem = s.mem))
              ∧ (0 < m.hops → Reaches (.canopyMessageReceived p lanes) s (fun t => (t.port q).queue = (s.port q).queue ++ [(3, { m with hops := m.hops - 1 })] ∧ t.mem = s.mem))))
        ∧ (∀ (m : CMsg) lanes, msgOf (reassemble (lanes.map unmarked)) = some m → 9 ≤ m.mtype → Reaches (.canopyMessageReceived p lanes) s (fun t => t.canopy = s.canopy ∧ t.mem = s.mem
              ∧ t.get (R.CANOPY_ERR_CNT_DROP p) = (s.get (R.CANOPY_ERR_CNT_DROP p) + 1) % 2 ^ (R.CANOPY_ERR_CNT_DROP p).w))
        ∧ ((s.port p).queue = [] → Reaches (.canopyTxNext p) s (fun t => (t.port p).out = none ∧ (t.port p).queue = [] ∧ (t.port p).lane = 0
            ∧ (t.port p).line = onLanes (s.port p).lane (idlesFrom (s.port p).lane) ∧ t.regs = s.regs ∧ t.mem = s.mem))
        ∧ (∀ c m rest, (s.port p).queue = (c, m) :: rest → (∀ e ∈ rest, c ≤ e.1) →
            Reaches (.canopyTxNext p) s (fun t => (t.port p).out = some m ∧ (t.port p).queue = rest ∧ t.mem = s.mem
              ∧ (t.port p).line = onLanes (s.port p).lane (idlesFrom (s.port p).lane ++ m.blocks (decide (c = 3)))))
        ∧ (s.sendsTreq p = true → Reaches (.treqSend p) s (fun t => (t.port p).queue = (s.port p).queue ++ [(1, s.peerMsg p 2 0 0 [])] ∧ t.regs = s.regs ∧ t.mem = s.mem))
        ∧ (s.sendsTreq p = false → exec (.treqSend p) s = .next s)
        ∧ (∀ (m : CMsg) t2 t3, m.mcrcOk = true → m.mtype = 2 → s.tdn p = true → Reaches (.treqReceived p m t2 t3) s (fun t => t.regs = s.regs ∧ t.mem = s.mem
              ∧ (t.port p).queue = (s.port p).queue ++ [(1, { s.peerMsg p 3 0 (s.get R.TIME_STATUS_VALID) (leBytes 8 t2 ++ leBytes 8 t3) with dst := m.src })]))
        ∧ (∀ (m : CMsg) t2 t3, s.tdn p = false → exec (.treqReceived p m t2 t3) s = .next s)
        ∧ (∀ (m : CMsg) t1 t4, m.mcrcOk = true → m.mtype = 3 → s.tup p = true →
            (bitOf m.aux 0 = false → Reaches (.trespReceived p m t1 t4) s (fun t => t.get (R.CANOPY_PSTAT_T_NV p) = 1 ∧ t.servo = s.servo ∧ t.mem = s.mem))
            ∧ (bitOf m.aux 0 = true → Reaches (.trespReceived p m t1 t4) s (fun t => t.mem = s.mem ∧ t.time = s.time
                ∧ t.get (R.CANOPY_TDLY_DLY p) = codeOf (R.CANOPY_TDLY_DLY p).w (((leNat (m.payload.take 8) : Int) - t1) + (t4 - leNat ((m.payload.drop 8).take 8)))))))

/-- A write to SEND of an enabled session with fewer than eight messages outstanding takes the next sequence number and puts the message out, and into the queue of the port that its route names; a session that is not enabled refuses it with DOWN and a full one with BUSY, counted either way; a word with DL or LEN out of range is refused whole with a CONFIG event. RTO resends every outstanding message; a deadline abandons the oldest ones; SESS_CTRL enables, disables and releases; SESS_IDX latches. A DATA message in order fills the RX slot and is acknowledged, a full buffer answers FULL, a duplicate is acknowledged and discarded, one ahead of the window is left alone, one without a session is answered NO_SESSION with an event, and one for operands with a wrong length NO_SESSION, after which the next one is expected. An ACK ends a message, governs at the same instant over its deadline and over the refusal of a send that finds the slot it frees, ends a session’s standby mark, or abandons what is outstanding. One instant of elapsed time is one edge (notes/assumptions/7.md). Which refusals leave the sequence is the reading of notes/assumptions/25.md. -/
def Obligations.CanopySessions : Prop :=
  ∀ (s : State) (k : Nat), s.inService = true → k < 256 → keysRise none s.canopy.sess = true → keysRise none s.canopy.ports = true → keysRise none s.canopy.busy = true →
    (∀ v, (s.islandSess k = true → Reaches (.canopySend k v) s (fun t => t.regs = s.regs ∧ t.canopy = s.canopy ∧ { cls := .config, unit := 0x0600, aux := 0xB0400 + 4 * k, req := .l0 } ∈ t.flt.inbox))
      ∧ (s.islandSess k = false → (bits v 16 16 = 0 ∨ bits v 0 9 = 0 ∨ 256 < bits v 0 9) →
          Reaches (.canopySend k v) s (fun t => t.regs = s.regs ∧ t.canopy = s.canopy ∧ t.mem = s.mem ∧ t.flt.inbox = s.flt.inbox ++ [{ cls := .config, unit := 0x0600, aux := 0xB0400 + 4 * k, req := .l0 }]))
      ∧ (0 < bits v 16 16 → 0 < bits v 0 9 → bits v 0 9 ≤ 256 →
          (s.sess k = none → Reaches (.canopySend k v) s (fun t => t.canopy = { s.canopy with busy := tset 0 s.canopy.busy k ((tget 0 s.canopy.busy k + 1) % 256) }
              ∧ t.get (R.CANOPY_SEND_DOWN k) = 1 ∧ t.mem = s.mem))
          ∧ (∀ x, s.sess k = some x → x.decl.island = none →
              (x.enabled = false → Reaches (.canopySend k v) s (fun t => t.sess k = some x ∧ tget 0 t.canopy.busy k = (tget 0 s.canopy.busy k + 1) % 256 ∧ t.get (R.CANOPY_SEND_DOWN k) = 1
                  ∧ t.get (R.CANOPY_SEND_BUSY k) = 0 ∧ t.get (R.CANOPY_PSTAT_BUSY 0) = 1 ∧ t.canopy.ports = s.canopy.ports ∧ t.mem = s.mem))
              ∧ (x.enabled = true → 8 ≤ x.out.length → Reaches (.canopySend k v) s (fun t => (∃ b, t.sess k = some { x with refused := some ⟨s.elapsed, v, b⟩ })
                  ∧ tget 0 t.canopy.busy k = (tget 0 s.canopy.busy k + 1) % 256 ∧ t.get (R.CANOPY_SEND_DOWN k) = 0
                  ∧ t.get (R.CANOPY_SEND_BUSY k) = 1 ∧ t.get (R.CANOPY_PSTAT_BUSY 0) = 1 ∧ t.canopy.ports = s.canopy.ports ∧ t.mem = s.mem))
              ∧ (x.enabled = true → x.out.length < 8 → ∀ dead o, dead = s.nowNs + (if bitOf v 13 = true then 16000 else 1000) * bits v 16 16 →
                  o = { seq := x.seq, len := bits v 0 9, dead := dead, tag := dead % 2 ^ 32, at_ := s.elNs } →
                  Reaches (.canopySend k v) s (fun t => t.sess k = some { x with seq := (x.seq + 1) % 256, out := x.out ++ [o], skip := false }
                    ∧ t.get (R.CANOPY_SEND_BUSY k) = 0 ∧ t.get (R.CANOPY_SEND_DOWN k) = 0 ∧ t.get (R.CANOPY_SEND_FREE k) = 7 - x.out.length ∧ t.mem = s.mem
                    ∧ (∀ j, j ≠ k → t.sess j = s.sess j)
                    ∧ (∀ q, s.routeTo x.decl.peer = some q → (t.port q).queue = (s.port q).queue ++ [(4, (s.dataMsg k x x.skip o).1)]))))))
    ∧ (∀ x, s.sess k = some x →
        ((x.enabled = false ∨ x.out = []) → exec (.sessionRto k) s = .next s ∧ exec (.sessionDeadline k) s = .next s)
        ∧ (∀ o rest, x.enabled = true → x.out = o :: rest →
            Reaches (.sessionRto k) s (fun t => t.elapsed = max s.elapsed ((o.at_ + 1000 * x.decl.rtoUs) * 2 ^ 32) ∧ t.mem = s.mem
                ∧ t.sess k = some { x with out := x.out.map (fun e => { e with at_ := t.elNs }), skip := false, retx := (x.retx + x.out.length) % 256 })
            ∧ Reaches (.sessionDeadline k) s (fun t => t.time = (s.time + ((s.nowNs + (timeDiff o.dead s.nowNs).toNat) * 2 ^ 32 - s.time)) % 2 ^ 96 ∧ t.get (R.CANOPY_PSTAT_ABANDON 0) = 1 ∧ t.mem = s.mem
                ∧ ∃ b, t.sess k = some { x with out := dropDead t.nowNs x.out, skip := true, abandon := (x.abandon + (x.out.length - (dropDead t.nowNs x.out).length)) % 256, gone := some ⟨t.elapsed, (x.out.take (x.out.length - (dropDead t.nowNs x.out).length)).map (·.seq), x.skip, b⟩ }))
        ∧ (s.sessNow = k → x.decl.island = none →
            (x.enabled = false → Reaches .sessEnable s (fun t => t.mem = s.mem ∧ t.get (R.CANOPY_SEND_FREE k) = 8
                ∧ t.sess k = some { x with enabled := true, seq := 0, out := [], skip := false, expSeq := 0, rxFill := 0, rxCnt := 0, stby := false, held := none }))
            ∧ (x.enabled = true → exec .sessEnable s = .next s ∧ Reaches .sessDisable s (fun t => t.mem = s.mem
                ∧ t.sess k = some { x with enabled := false, held := none, out := [], skip := x.skip || decide (0 < x.out.length), abandon := (x.abandon + x.out.length) % 256 }))
            ∧ Reaches .rxRel s (fun t => t.mem = s.mem ∧ t.sess k = some { x with rxFill := x.rxFill - 1 }))
        ∧ Reaches (.sessIdxWrite k) s (fun t => t.canopy = s.canopy ∧ t.mem = s.mem ∧ t.sessNow = k ∧ t.get R.CANOPY_SESS_INFO_EN = b2n x.enabled
            ∧ t.get R.CANOPY_SESS_INFO_PEER = x.decl.peer % 2 ^ R.CANOPY_SESS_INFO_PEER.w ∧ t.get R.CANOPY_SESS_INFO_SEQ = x.seq % 2 ^ R.CANOPY_SESS_INFO_SEQ.w))
    ∧ (∀ p, s.portUp p = true → s.isCkPort p = false →
        (∀ m : CMsg, m.mcrcOk = true → m.mtype = 0 → m.dst = s.get R.CANOPY_DEVID_ID → m.sess = k → s.answersStandby = false →
          (s.sess k = none → Reaches (.dataReceived p m) s (fun t => t.canopy.sess = s.canopy.sess ∧ t.get (R.CANOPY_PSTAT_ORPHAN 0) = 1 ∧ t.mem = s.mem
              ∧ t.flt.inbox = s.flt.inbox ++ [{ cls := .canopy, unit := 0x0600 + p, req := .l0 }]
              ∧ (∀ q, s.routeTo m.src = some q → ∃ a : CMsg, (t.port q).queue = (s.port q).queue ++ [(4, a)] ∧ a.mtype = 1 ∧ a.dst = m.src ∧ a.seq = m.seq ∧ a.aux = 2)))
          ∧ (∀ x, s.sess k = some x → x.enabled = true → x.decl.peer = m.src →
              (m.seq = x.expSeq → x.expSeq < 256 → x.decl.operand = false → s.sched.stalls = [] →
                (x.rxFill < 8 → Reaches (.dataReceived p m) s (fun t => t.sess k = some { x with rxFill := x.rxFill + 1, rxCnt := x.rxCnt + 1, expSeq := (m.seq + 1) % 256, late := (x.late + b2n (s.isLate m.tag)) % 256 }
                    ∧ (∀ a, s.bufAddr x.decl.rxBuf = some a → s.memBad = [] → s.linkCut 6 (memUnit (a + 272 * (x.rxCnt % 8)) / 256) = false → t.mem = Memory.writeN s.mem (a + 272 * (x.rxCnt % 8)) (s.rxSlot m (bits m.aux 8 9)))
                    ∧ (∀ q, s.routeTo m.src = some q → ∃ a : CMsg, (t.port q).queue = (s.port q).queue ++ [(4, a)] ∧ a.mtype = 1 ∧ a.seq = m.seq ∧ a.aux = 0)))
                ∧ (8 ≤ x.rxFill → Reaches (.dataReceived p m) s (fun t => t.canopy.sess = s.canopy.sess ∧ t.get (R.CANOPY_PSTAT_RXFULL 0) = 1 ∧ t.mem = s.mem
                    ∧ (∀ q, s.routeTo m.src = some q → ∃ a : CMsg, (t.port q).queue = (s.port q).queue ++ [(4, a)] ∧ a.aux = 1))))
              ∧ (m.seq = x.expSeq → x.expSeq < 256 → x.decl.operand = true → s.sched.stalls = [] → (bits m.aux 8 9 % 4 ≠ 0 ∨ 32 < bits m.aux 8 9) →
                  Reaches (.dataReceived p m) s (fun t => t.sess k = some { x with expSeq := (m.seq + 1) % 256 } ∧ t.regs = s.regs ∧ t.sched = s.sched ∧ t.mem = s.mem
                    ∧ (∀ q, s.routeTo m.src = some q → ∃ a : CMsg, (t.port q).queue = (s.port q).queue ++ [(4, a)] ∧ a.mtype = 1 ∧ a.seq = m.seq ∧ a.aux = 2)))
              ∧ (128 ≤ (m.seq + 256 - x.expSeq % 256) % 256 → Reaches (.dataReceived p m) s (fun t => t.regs = s.regs ∧ t.canopy.sess = s.canopy.sess ∧ t.mem = s.mem
                  ∧ (∀ q, s.routeTo m.src = some q → ∃ a : CMsg, (t.port q).queue = (s.port q).queue ++ [(4, a)] ∧ a.aux = 0)))
              ∧ (0 < (m.seq + 256 - x.expSeq % 256) % 256 → (m.seq + 256 - x.expSeq % 256) % 256 < 128 → bitOf m.aux 17 = false → exec (.dataReceived p m) s = .next s)))
        ∧ (∀ (m : CMsg) x, m.mcrcOk = true → m.mtype = 1 → m.dst = s.get R.CANOPY_DEVID_ID → m.sess = k → s.sess k = some x → x.enabled = true → x.decl.peer = m.src →
            (m.aux % 4 = 0 → (∀ g, x.gone = some g → ¬(g.at_ = s.elapsed ∧ g.seqs.contains m.seq = true)) → (∀ r, x.refused = some r → r.at_ ≠ s.elapsed) →
              Reaches (.ackReceived p m) s (fun t => t.sess k = some { x with out := x.out.filter (fun o => decide (o.seq ≠ m.seq)), stby := false } ∧ t.mem = s.mem))
            ∧ (∀ g, m.aux % 4 = 0 → x.gone = some g → g.at_ = s.elapsed → g.seqs = [m.seq] → x.refused = none →
              Reaches (.ackReceived p m) s (fun t => t.mem = s.mem ∧ (g.bits.bits = [(R.CANOPY_PSTAT_ABANDON 0, false, false)] → t.get (R.CANOPY_PSTAT_ABANDON 0) = 0)
                ∧ t.sess k = some { x with out := x.out.filter (fun o => decide (o.seq ≠ m.seq)), stby := false, abandon := (x.abandon + 255) % 256, skip := g.skip, gone := some { g with seqs := [] } }))
            ∧ (∀ r, m.aux % 4 = 0 → x.gone = none → x.refused = some r → r.at_ = s.elapsed → x.out.all (fun o => decide (o.seq = m.seq)) = true → 0 < bits r.word 16 16 → 0 < bits r.word 0 9 → bits r.word 0 9 ≤ 256 →
              Reaches (.ackReceived p m) s (fun t => tget 0 t.canopy.busy k = (tget 0 s.canopy.busy k + 255) % 256 ∧ t.get (R.CANOPY_SEND_BUSY k) = 0
                ∧ ∃ y, t.sess k = some y ∧ y.refused = none ∧ y.seq = (x.seq + 1) % 256 ∧ y.out.map (·.seq) = [x.seq]))
            ∧ (m.aux % 4 = 1 → x.out.all (fun o => decide (o.seq ≠ m.seq)) = true → exec (.ackReceived p m) s = .next s)
            ∧ (m.aux % 4 = 3 → (∀ r, x.refused = some r → r.at_ ≠ s.elapsed) → Reaches (.ackReceived p m) s (fun t => t.get (R.CANOPY_PSTAT_PEER_STBY 0) = 1 ∧ t.mem = s.mem
                ∧ t.sess k = some { x with out := [], stby := true, skip := x.skip || decide (0 < x.out.length), abandon := (x.abandon + x.out.length) % 256 }))))

/-- A valid heartbeat is recorded and ends the silence; an active device with the greater identity that sees another active device yields. At one instant a heartbeat governs over the silence it ends, with its bit, over the takeover of its own silence, over ACTIVE taken from NONE where it is an active device’s, and, where it ends the readiness, over a handover just asked for. A WITHDRAW, a silence without frames and a HANDOVER whose checkpoint is complete make a standby or warm device take over, with the wait that its trigger gives; a silence with frames sets SPLIT, and an active device reports a lost peer once. An accepted HANDOVER command marks the handover, a refused one is a CONFIG event; supervision ends in STANDBY with the time source on the fabric and its glades gated. A device without a role takes STANDBY beside an active peer, ACTIVE where it may and no frames are seen, and otherwise waits. One instant of elapsed time is one edge (notes/assumptions/7.md). When roles are assigned, and what a yield keeps, are the readings of notes/assumptions/26.md and 27.md. -/
def Obligations.PairMessagesAndRoles : Prop :=
  ∀ (s : State) (p : Nat), s.amberUp = true → keysRise none s.lanes = true → keysRise none s.glades = true →
    (∀ (m : CMsg) (h : HbInfo) b, s.pairValid p m 4 = true → h = parseHb s.elNs m.payload → h.role ≠ 1 → s.takenNow = false → s.amber.hoStage = 0 → s.isSink = false →
        s.amber.alarm = some b → b.at_ = s.elapsed → b.bits.bits = [(R.AMBER_ASTAT_PEER_LOST, false, false)] →
        Reaches (.hbReceived p m) s (fun t => t.get R.AMBER_ASTAT_PEER_LOST = 0 ∧ t.amber.alarm = none ∧ t.amber.lost = false ∧ t.mem = s.mem))
    ∧ (∀ (m : CMsg) (h : HbInfo), s.pairValid p m 4 = true → h = parseHb s.elNs m.payload → (∀ b, s.amber.alarm = some b → b.at_ ≠ s.elapsed) →
        (¬(s.amber.role = .active ∧ h.role = 1 ∧ s.get R.AMBER_CFG_PEER < s.get R.CANOPY_DEVID_ID) → s.takenNow = false
              → ¬(s.amber.hoStage = 1 ∧ s.amber.hoAt = s.elNs ∧ h.ready = false) → ¬(s.activeNow = true ∧ h.role = 1) →
          Reaches (.hbReceived p m) s (fun t => t.amber = { s.amber with hb := some h, quiet := s.elNs, lost := false, split := false } ∧ t.mem = s.mem ∧ t.flt.inbox = s.flt.inbox
            ∧ (s.isSink = true → s.hbAgrees h = false → t.get R.AMBER_ASTAT_CFG_MIS = 1) ∧ (s.isSink = false → t.regs = s.regs)))
        ∧ (s.amber.role = .active → h.role = 1 → s.get R.AMBER_CFG_PEER < s.get R.CANOPY_DEVID_ID → s.activeNow = false →
          Reaches (.hbReceived p m) s (fun t => t.amber.role = .none ∧ t.amber.hb = some h ∧ t.get R.AMBER_ASTAT_YIELD = 1 ∧ t.amber.leftAt = some s.elNs ∧ t.hoAge = 0 ∧ t.mem = s.mem
            ∧ (∀ n ∈ s.dualRings, (t.lane n).rep = true) ∧ { cls := .canopy, unit := 0x0620, req := .atLeast 1 } ∈ t.flt.inbox))
        ∧ (s.activeNow = true → h.role = 1 → Reaches (.hbReceived p m) s (fun t => t.amber.role = .standby ∧ t.amber.hb = some h ∧ t.amber.leftAt = s.amber.leftAt ∧ t.mem = s.mem))
        ∧ (s.amber.role = .active → h.role ≠ 1 → s.amber.hoStage = 1 → s.amber.hoAt = s.elNs → h.ready = false → Reaches (.hbReceived p m) s (fun t => t.amber.hoStage = 0 ∧ t.amber.role = .active
            ∧ { cls := .config, unit := 0x0620, aux := 0xB4008, req := .l0 } ∈ t.flt.inbox ∧ t.regs = s.regs ∧ t.mem = s.mem))
        ∧ (∀ x, s.amber.take = some x → s.takenNow = true → Reaches (.hbReceived p m) s (fun t => t.amber.role = (if x.warm = true then .warm else .standby) ∧ t.amber.take = none
            ∧ t.amber.waking = [] ∧ t.amber.roleAt = x.back.roleAt ∧ t.get R.TIME_SRV_CFG_SRC = 2 ∧ t.mem = s.mem)))
    ∧ (s.isSink = true →
        (∀ m : CMsg, s.pairValid p m 8 = true → Reaches (.withdrawReceived p m) s (fun t => t.amber.role = .takeover ∧ t.mem = s.mem
            ∧ t.amber.take = some ⟨s.elNs, .withdraw (bits m.aux 0 5), if s.amber.role = .warm then 10000 else 15000, decide (s.amber.role = .warm), false, s.takeBack⟩
            ∧ t.amber.waking = s.gateList.filter (fun g => (s.glade g).gated) ∧ (s.amber.role = .warm → t.get R.AMBER_ASTAT_TAKEBACK = 1)
            ∧ (s.timeUp = true → t.get R.TIME_SRV_CFG_SRC = s.get R.AMBER_CFG_TSRC % 2 ^ R.TIME_SRV_CFG_SRC.w)))
        ∧ (∀ (m : CMsg) k q z, s.pairValid p m 7 = true → s.amber.img = some (k, q, z) →
            (m.tag = q → Reaches (.handoverReceived p m) s (fun t => t.amber.role = .takeover ∧ t.mem = s.mem
              ∧ t.amber.take = some ⟨s.elNs, .handover, 10000, decide (s.amber.role = .warm), false, { s.takeBack with hoSeq := some m.tag }⟩))
            ∧ (m.tag ≠ q → Reaches (.handoverReceived p m) s (fun t => t.amber = { s.amber with hoSeq := some m.tag, waking := s.gateList.filter (fun g => (s.glade g).gated) }
              ∧ t.regs = s.regs ∧ t.mem = s.mem)))
        ∧ (∀ u : State, u = s.pass ((s.amber.quiet + 2 * s.tNs + 100 * s.get R.AMBER_CFG_HB_MARGIN) * 2 ^ 32) →
            (u.framesSeen = true → s.amber.split = false → Reaches .heartbeatTimeout s (fun t => t.get R.AMBER_ASTAT_SPLIT = 1 ∧ (∃ b, t.amber = { s.amber with split := true, alarm := some b } ∧ b.at_ = t.elapsed) ∧ t.time = u.time ∧ t.mem = s.mem
                ∧ t.flt.inbox = s.flt.inbox ++ [{ cls := .canopy, unit := 0x0620 }]))
            ∧ (u.framesSeen = false → Reaches .heartbeatTimeout s (fun t => t.amber.role = .takeover ∧ t.time = u.time ∧ t.mem = s.mem
                ∧ t.amber.take = some ⟨u.elNs, .missed, if s.amber.role = .warm then 10000 else 15000, decide (s.amber.role = .warm), false, u.takeBack⟩)))
        ∧ exec .roleAssignment s = .next s ∧ Reaches .handover s (fun t => t.amber = s.amber))
    ∧ (s.isSink = false → ∀ m : CMsg, exec (.withdrawReceived p m) s = .next s ∧ exec (.handoverReceived p m) s = .next s)
    ∧ (s.amber.role = .active →
        (s.amber.lost = true → exec .heartbeatTimeout s = .next s)
        ∧ (s.amber.lost = false → Reaches .heartbeatTimeout s (fun t => (∃ b, t.amber = { s.amber with lost := true, alarm := some b } ∧ b.at_ = t.elapsed) ∧ t.get R.AMBER_ASTAT_PEER_LOST = 1 ∧ t.mem = s.mem
            ∧ t.elapsed = max s.elapsed ((s.amber.quiet + 2 * s.tNs + 100 * s.get R.AMBER_CFG_HB_MARGIN) * 2 ^ 32) ∧ t.flt.inbox = s.flt.inbox ++ [{ cls := .canopy, unit := 0x0620 }]))
        ∧ (s.inService = true →
            (s.peerReady = true → s.arm.mode ≠ .debugHalt → s.openL3 = false → s.amber.hoStage = 0 →
              Reaches .handover s (fun t => t.amber = { s.amber with hoStage := 1, hoAt := s.elNs } ∧ t.regs = s.regs ∧ t.mem = s.mem ∧ t.flt.inbox = s.flt.inbox))
            ∧ ((s.peerReady = false ∨ s.arm.mode = .debugHalt ∨ s.openL3 = true) →
              Reaches .handover s (fun t => t.amber = s.amber ∧ t.regs = s.regs ∧ t.mem = s.mem ∧ t.flt.inbox = s.flt.inbox ++ [{ cls := .config, unit := 0x0620, aux := 0xB4008, req := .l0 }]))))
    ∧ (s.amber.role = .warm → Reaches .warmSupEnd s (fun t => t.amber.role = .standby ∧ t.get R.TIME_SRV_CFG_SRC = 2 ∧ t.mem = s.mem
        ∧ t.elapsed = max s.elapsed ((s.amber.roleAt + s.get R.AMBER_SUP_SUP_MS * 10 ^ 6) * 2 ^ 32) ∧ (∀ g ∈ s.gateList, s.up g = true → (t.glade g).gated = true)))
    ∧ (s.amber.role ≠ .warm → exec .warmSupEnd s = .next s)
    ∧ (s.amber.role = .none → s.flt.l4 = false → s.host.phase = .applied →
        (∀ h, s.amber.hb = some h → h.role = 1 → s.amber.roleAt ≤ h.at_ → Reaches .roleAssignment s (fun t => t.amber.role = .standby ∧ t.get R.TIME_SRV_CFG_SRC = 2 ∧ t.mem = s.mem))
        ∧ (s.amber.hb = none →
            (s.framesSeen = true → s.amber.split = false → Reaches .roleAssignment s (fun t => t.get R.AMBER_ASTAT_SPLIT = 1 ∧ (∃ b, t.amber = { s.amber with split := true, alarm := some b }) ∧ t.mem = s.mem))
            ∧ (s.framesSeen = false → s.amber.frameAt = none → (s.on R.AMBER_CFG_PREF = true ∨ s.portUp (s.get R.AMBER_CFG_PORT) = true) →
                Reaches .roleAssignment s (fun t => t.amber.role = .active ∧ t.mem = s.mem ∧ (∀ n ∈ s.dualRings, (t.lane n).rep = false)
                  ∧ t.elapsed = max s.elapsed ((s.amber.roleAt + (if s.on R.AMBER_CFG_PREF = true then 2 * 10 ^ 9 else 10 ^ 7)) * 2 ^ 32)))
            ∧ (s.framesSeen = false → s.on R.AMBER_CFG_PREF = false → s.portUp (s.get R.AMBER_CFG_PORT) = false → exec .roleAssignment s = .next s)))

/-- An active device whose cycles run captures a checkpoint with the next sequence at 0.6 T, abandoning a stream that has not ended, unless the region is over its limit; the buffers follow in ascending handle order while no item that writes them is staged. The sink writes each message of a checkpoint in order into the image that does not hold the last complete one; a complete one with a right trailer becomes the last complete one, and one out of order is discarded with CK_BAD. The static part is gathered from its messages. An ungated glade runs again or is lost; a takeover restores once every glade has woken and both parts are complete, and otherwise fails to STANDBY. The bytes written and read are those over a link that is not fenced, with no word in error (R22, R832); what the region holds is notes/assumptions/53.md. -/
def Obligations.PairCheckpoints : Prop :=
  ∀ (s : State) (p : Nat), s.amberUp = true → keysRise none s.glades = true →
    ((s.amber.role ≠ .active ∨ s.arm.running = false) → exec .checkpointCapture s = .next s)
    ∧ (s.amber.role = .active → s.up 5 = true → s.arm.running = true → s.regionOver = false → Reaches .checkpointCapture s (fun t => t.amber.ckSeq = (s.amber.ckSeq + 1) % 2 ^ 32))
    ∧ (s.amber.role = .active → s.up 5 = true → s.arm.running = true → (∀ e ∈ s.loops, e.2.waiting = false) →
        (s.regionOver = true → Reaches .checkpointCapture s (fun t => t.amber.ckSeq = s.amber.ckSeq ∧ t.mem = s.mem ∧ t.time = (s.time + (s.arm.cycStart + 6 * s.get R.ARM_CYC_LEN_LEN * 2 ^ 32 - s.cycTime)) % 2 ^ 96))
        ∧ (s.regionOver = false → Reaches .checkpointCapture s (fun t => t.amber.ckSeq = (s.amber.ckSeq + 1) % 2 ^ 32 ∧ t.mem = s.mem
            ∧ t.time = (s.time + (s.arm.cycStart + 6 * s.get R.ARM_CYC_LEN_LEN * 2 ^ 32 - s.cycTime)) % 2 ^ 96
            ∧ (∃ c, t.amber.stream = some c ∧ c.seq = (s.amber.ckSeq + 1) % 2 ^ 32 ∧ c.bufs = s.ckBufs.map (·.1) ∧ c.size = s.regionSize ∧ c.cyc = s.get R.ARM_CYC_CNT_COUNT)
            ∧ (s.amber.stream.isSome = true → t.get R.AMBER_ASTAT_CK_LATE = 1) ∧ (s.amber.stream = none → t.regs = s.regs))))
    ∧ (∀ h, (s.amber.stream = none → exec (.checkpointBufferCopy h) s = .next s)
        ∧ (∀ c, s.amber.stream = some c → c.bufs = [] → exec (.checkpointBufferCopy h) s = .next s)
        ∧ (∀ c k rest, s.amber.stream = some c → c.bufs = k :: rest →
            (k ≠ h ∨ s.bufQuiet h = false → exec (.checkpointBufferCopy h) s = .next s)
            ∧ (k = h → s.bufQuiet h = true → ∀ a b, s.bufAddr h = some a → lookupKey s.ckBufs h = some b → s.memBad = [] → s.linkCut 6 (memUnit a / 256) = false →
                Reaches (.checkpointBufferCopy h) s (fun t => t.regs = s.regs ∧ t.mem = s.mem
                  ∧ ∃ d, t.amber.stream = some d ∧ d.seq = c.seq ∧ d.bufs = rest ∧ d.bytes = c.bytes ++ padBlocks (Memory.readN s.mem a b.decl.size)))))
    ∧ (∀ m : CMsg, s.isSink = true → s.pairValid p m 5 = true → s.memBad = [] → s.linkCut 6 0 = false →
        (bits m.aux 0 16 = 0 → bitOf m.aux 31 = false → m.payload.length ≤ 256 → Reaches (.ckptReceived p m) s (fun t => t.mem = Memory.writeN s.mem (imgBase s.sinkImage) m.payload
            ∧ t.amber = { s.amber with rxCk := some { seq := m.tag, next := 1 }, badCk := none } ∧ (s.amber.rxCk = none → t.regs = s.regs)
            ∧ (∀ r, s.amber.rxCk = some r → s.amber.badCk ≠ some r.seq → t.get R.AMBER_ASTAT_CK_BAD = 1)))
        ∧ (∀ r, s.amber.rxCk = some r → bits m.aux 0 16 ≠ 0 →
            (r.seq ≠ m.tag ∨ r.next ≠ bits m.aux 0 16 → Reaches (.ckptReceived p m) s (fun t => t.mem = s.mem ∧ t.amber.rxCk = none ∧ t.amber.img = s.amber.img
                ∧ (s.amber.badCk = some r.seq → t.regs = s.regs) ∧ (s.amber.badCk ≠ some r.seq → t.amber.badCk = some r.seq ∧ t.get R.AMBER_ASTAT_CK_BAD = 1)))
            ∧ (r.seq = m.tag → r.next = bits m.aux 0 16 → 256 * bits m.aux 0 16 + m.payload.length ≤ 65536 → ∀ b z u, b = imgBase s.sinkImage → z = 256 * bits m.aux 0 16 + m.payload.length →
                u = { s with mem := Memory.writeN s.mem (b + 256 * bits m.aux 0 16) m.payload } →
                (bitOf m.aux 31 = false → Reaches (.ckptReceived p m) s (fun t => t = { u with amber := { s.amber with rxCk := some { seq := r.seq, next := bits m.aux 0 16 + 1 } } }))
                ∧ (bitOf m.aux 31 = true → s.amber.hoSeq = none → u.rd (b + z - 8) 4 = m.tag → u.rd (b + z - 4) 4 = crc32c (Memory.readN u.mem b (z - 8)) →
                    Reaches (.ckptReceived p m) s (fun t => t.mem = u.mem ∧ t.amber = { s.amber with rxCk := none, img := some (s.sinkImage, m.tag, z) }
                      ∧ t.get R.AMBER_CK_SEQ_VAL = m.tag % 2 ^ R.AMBER_CK_SEQ_VAL.w ∧ t.get R.AMBER_CK_CYC_VAL = u.rd (b + 8) 4 % 2 ^ R.AMBER_CK_CYC_VAL.w))
                ∧ (bitOf m.aux 31 = true → (u.rd (b + z - 8) 4 ≠ m.tag ∨ u.rd (b + z - 4) 4 ≠ crc32c (Memory.readN u.mem b (z - 8))) → Reaches (.ckptReceived p m) s (fun t => t.mem = u.mem ∧ t.amber.rxCk = none ∧ t.amber.img = s.amber.img
                    ∧ (s.amber.badCk ≠ some r.seq → t.amber.badCk = some r.seq ∧ t.get R.AMBER_ASTAT_CK_BAD = 1))))))
    ∧ (∀ m : CMsg, s.isSink = true → s.pairValid p m 6 = true →
        (bits m.aux 0 16 = 0 → bitOf m.aux 31 = true → Reaches (.staticReceived p m) s (fun t => t = { s with amber := { s.amber with rxStat := none, stat := some (m.tag % 65536, m.payload), statSeq := m.tag % 65536 } }))
        ∧ (bits m.aux 0 16 = 0 → bitOf m.aux 31 = false → Reaches (.staticReceived p m) s (fun t => t = { s with amber := { s.amber with rxStat := some { seq := m.tag, next := 1, bytes := m.payload } } }))
        ∧ (∀ r, s.amber.rxStat = some r → r.seq = m.tag → r.next = bits m.aux 0 16 → bits m.aux 0 16 ≠ 0 → bitOf m.aux 31 = true →
            Reaches (.staticReceived p m) s (fun t => t = { s with amber := { s.amber with rxStat := none, stat := some (m.tag % 65536, r.bytes ++ m.payload), statSeq := m.tag % 65536 } })))
    ∧ (s.isSink = false → ∀ m : CMsg, (s.sinkAtTd = false → exec (.ckptReceived p m) s = .next s) ∧ exec (.staticReceived p m) s = .next s)
    ∧ (∀ g, (g ∉ s.amber.waking → exec (.ungateComplete g) s = .next s ∧ exec (.ungateTimeout g) s = .next s)
        ∧ (g ∈ s.amber.waking → Reaches (.ungateComplete g) s (fun t => t.glade g = { s.glade g with gated := false } ∧ t.amber = { s.amber with waking := dropKey g s.amber.waking }
              ∧ t.regs = s.regs ∧ t.mem = s.mem ∧ ∀ k, k ≠ g → t.glade k = s.glade k)
            ∧ Reaches (.ungateTimeout g) s (fun t => t.amber = { s.amber with waking := dropKey g s.amber.waking } ∧ t.regs = s.regs ∧ t.mem = s.mem
              ∧ t.flt.inbox = s.flt.inbox ++ [{ cls := .clk, unit := 256 * g, glade := true, req := .atLeast (s.lossLevel g), standing := true }])))
    ∧ (∀ ns (x : TakeOver), s.amber.take = some x → s.amber.role = .takeover → x.restored = false →
        (s.amber.waking ≠ [] → exec (.takeoverRestore ns) s = .next s)
        ∧ (s.amber.waking = [] →
            (∀ k q z v bs, s.amber.img = some (k, q, z) → s.amber.stat = some (v, bs) → Reaches (.takeoverRestore ns) s (fun t => t.amber.take = some { x with restored := true }
                ∧ t.get R.AMBER_TK_LAST_RST = min 65535 (ns / 10) ∧ t.amber.ckSeq = s.rd (imgBase k + 4) 4 ∧ t.amber.role = .takeover))
            ∧ (s.amber.img = none ∨ s.amber.stat = none → Reaches (.takeoverRestore ns) s (fun t => t.amber.role = .standby ∧ t.get R.AMBER_ASTAT_TK_FAIL = 1
                ∧ { cls := .canopy, unit := 0x0620, req := .atLeast 1 } ∈ t.flt.inbox))))

/-- START ends in LOCKOUT with cause 0 for a valid parameter set and a passed self-test, and otherwise stays START with PSET_OK following the set. A sample shows on the input levels; while the island runs its logic an e-stop or guard without test pulses takes its demand from the two channels, one channel starts the discrepancy timer, and released channels return it by its reset rule; a two-hand pair becomes ACTIVE with both buttons and BLOCKED when one is let go. A test pulse marks the channels it tests. A discrepancy time locks the input and is cause 6; the two-hand time blocks the pair. What one command samples, and how a short is judged, is the reading of notes/assumptions/28.md. -/
def Obligations.SafetyInputs : Prop :=
  ∀ s : State, keysRise none s.safe.ins = true → keysRise none s.safe.outs = true → keysRise none s.safe.pairs = true →
    ((s.safe.pset = none ∨ s.safe.mode ≠ .start) → ∀ ok, exec (.safeStartDone ok) s = .next s)
    ∧ (s.up 3 = true → s.safe.mode = .start → ∀ p, s.safe.pset = some p → ∀ ok,
        ((psetValid p && ok) = true → Reaches (.safeStartDone ok) s (fun t => t.safe = { s.safe with psetOk := true, mode := .lockout, causes := [(0, 0)], rstArm := !s.safe.rstLvl }
            ∧ t.get R.SAFE_PSET_ID_VAL = p.ident % 2 ^ R.SAFE_PSET_ID_VAL.w ∧ t.get R.SAFE_IRQ_EN_EN = p.irqMask % 2 ^ R.SAFE_IRQ_EN_EN.w ∧ t.mem = s.mem))
        ∧ ((psetValid p && ok) = false → Reaches (.safeStartDone ok) s (fun t => t.safe = { s.safe with psetOk := psetValid p } ∧ t.canopy = s.canopy ∧ t.mem = s.mem)))
    ∧ (∀ a b pulse settled rst, ((s.up 3 = false ∨ s.safe.mode = .stopped) → exec (.safeInputSample a b pulse settled rst) s = .next s)
        ∧ (s.up 3 = true → s.safe.mode = .start → Reaches (.safeInputSample a b pulse settled rst) s (fun t => t.regs = s.regs ∧ t.mem = s.mem ∧ t.safe.ins = s.safe.ins ∧ t.safe.outs = s.safe.outs
            ∧ t.safe.lvlA = a % 4096 ∧ t.safe.lvlB = b % 4096 ∧ t.safe.rstLvl = rst))
        ∧ (s.safeRuns = true → Reaches (.safeInputSample a b pulse settled rst) s (fun t => t.mem = s.mem ∧ t.safe.lvlA = a % 4096 ∧ t.safe.lvlB = b % 4096 ∧ t.safe.rstLvl = rst ∧ t.safe.pulse = pulse
            ∧ (∀ i c, i < 12 → s.inCfg i = some c →
                (c.func = .unused → t.sIn i = s.sIn i)
                ∧ ((c.func = .estop ∨ c.func = .guard) → c.tpA = none → c.tpB = none → ∀ da db, da = !bitOf a i → db = (bitOf b i == c.antiv) →
                    (t.sIn i).a.dem = da ∧ (t.sIn i).b.dem = db
                    ∧ ((s.sIn i).mode = .locked → (t.sIn i).mode = .locked)
                    ∧ ((s.sIn i).mode = .released → (t.sIn i).mode = (if (da && db) = true then .demandBoth else if (da || db) = true then .demand else .released)
                        ∧ (da = true → db = false → (t.sIn i).disc = true) ∧ ((da || db) = true → t.get R.SAFE_SSTAT_DEMAND = 1))
                    ∧ ((s.sIn i).mode = .demand → (t.sIn i).mode = (if (da && db) = true then .demandBoth else .demand))
                    ∧ ((s.sIn i).mode = .demandBoth → da = false → db = false → (t.sIn i).mode = (if c.auto = true ∧ c.func = .guard then .released else .waitRst))))
            ∧ (∀ m, m < 6 → handOk (s.inCfg (2 * m)) = true →
                ((s.sPair m = .idle ∨ ∃ w, s.sPair m = .one w) → (t.sIn (2 * m)).pressed = true → (t.sIn (2 * m + 1)).pressed = true → t.sPair m = .active)
                ∧ (s.sPair m = .active → ((t.sIn (2 * m)).pressed && (t.sIn (2 * m + 1)).pressed) = false → t.sPair m = .blocked ∧ t.get R.SAFE_SSTAT_DEMAND = 1)
                ∧ (s.sPair m = .blocked → ((t.sIn (2 * m)).atRest && (t.sIn (2 * m + 1)).atRest) = false → t.sPair m = .blocked)))))
    ∧ (∀ j, ((s.safeRuns = false ∨ 4 ≤ j) → exec (.testPulse j) s = .next s)
        ∧ (s.safeRuns = true → j < 4 → Reaches (.testPulse j) s (fun t => t.regs = s.regs ∧ t.mem = s.mem ∧ t.safe.pulse = some j ∧ t.safe.outs = s.safe.outs
            ∧ (∀ i c, i < 12 → s.inCfg i = some c → (t.sIn i).mode = (s.sIn i).mode ∧ (c.tpA = some j → (s.sIn i).a.dem = false → (t.sIn i).a.due = true)
                ∧ (c.tpB = some j → c.antiv = false → (s.sIn i).b.dem = false → (t.sIn i).b.due = true)))))
    ∧ (∀ i c, s.inCfg i = some c → s.safeRuns = true →
        ((s.sIn i).disc = false → exec (.discTimeout i) s = .next s)
        ∧ ((s.sIn i).disc = true →
            (s.safe.mode = .run → Reaches (.discTimeout i) s (fun t => LockedOut 6 i t ∧ t.get R.SAFE_SSTAT_DISC = 1 ∧ t.mem = s.mem
                ∧ t.sIn i = { s.sIn i with disc := false, mode := if c.func = .twohand then (s.sIn i).mode else .locked }))
            ∧ (s.safe.mode = .lockout → (6, i) ∉ s.safe.causes → Reaches (.discTimeout i) s (fun t => t.safe.causes = s.safe.causes ++ [(6, i)] ∧ t.safe.mode = .lockout ∧ t.safe.outs = s.safe.outs ∧ t.mem = s.mem))))
    ∧ (∀ m, ((s.sPair m = .idle ∨ s.sPair m = .active ∨ s.sPair m = .blocked) → exec (.twohandSyncTimeout m) s = .next s)
        ∧ (∀ w, s.sPair m = .one w → s.safeRuns = true → handOk (s.inCfg (2 * m)) = true →
            Reaches (.twohandSyncTimeout m) s (fun t => t.sPair m = .blocked ∧ t.get R.SAFE_SSTAT_DEMAND = 1 ∧ t.safe.ins = s.safe.ins ∧ t.mem = s.mem)))

/-- A pair in IDLE goes to ONE with one button actuated and to ACTIVE with both on the same sample; in ONE the other button makes it ACTIVE, and the release of the first button or the end of the 500 ms makes it BLOCKED with SSTAT.DEMAND; in ACTIVE a button that leaves actuated makes it BLOCKED, with the function demanded and DEM_TS loaded; in BLOCKED both buttons at rest make it IDLE; otherwise it stays. Its function is released only in ACTIVE. -/
def Obligations.TwoHandControl : Prop :=
  ∀ (s : State) (m : Nat), s.safeRuns = true → m < 6 → keysRise none s.safe.pairs = true → handOk (s.inCfg (2 * m)) = true → handOk (s.inCfg (2 * m + 1)) = true →
    (∀ i, i = 2 * m ∨ i = 2 * m + 1 → s.funcReleased i = decide (s.sPair m = .active))
    ∧ (∀ a b pulse settled rst, Reaches (.safeInputSample a b pulse settled rst) s (fun t => ∀ p q, p = (t.sIn (2 * m)).pressed → q = (t.sIn (2 * m + 1)).pressed →
        (s.sPair m = .idle → t.sPair m = (if (p && q) = true then .active else if p = true then .one 0 else if q = true then .one 1 else .idle))
        ∧ (∀ w, s.sPair m = .one w → w < 2 → ((p && q) = true → t.sPair m = .active)
            ∧ ((if w = 0 then p else q) = false → t.sPair m = .blocked ∧ t.get R.SAFE_SSTAT_DEMAND = 1)
            ∧ ((if w = 0 then p else q) = true → (p && q) = false → t.sPair m = .one w))
        ∧ (s.sPair m = .active → ((p && q) = true → t.sPair m = .active)
            ∧ ((p && q) = false → t.sPair m = .blocked ∧ t.get R.SAFE_SSTAT_DEMAND = 1 ∧ t.get R.SAFE_DEM_TS_TS = s.safeStamp % 2 ^ 32
                ∧ { cls := .safe, unit := 0x0300, req := .l0 } ∈ t.flt.inbox))
        ∧ (s.sPair m = .blocked → t.sPair m = (if ((t.sIn (2 * m)).atRest && (t.sIn (2 * m + 1)).atRest) = true then .idle else .blocked))))
    ∧ (∀ w, s.sPair m = .one w → Reaches (.twohandSyncTimeout m) s (fun t => t.sPair m = .blocked ∧ t.get R.SAFE_SSTAT_DEMAND = 1))
    ∧ (s.sPair m = .idle ∨ s.sPair m = .active ∨ s.sPair m = .blocked → exec (.twohandSyncTimeout m) s = .next s)

/-- A press of SAFE_RST is ignored before the input has been low, flagged above 5 s and ignored below 50 ms; a valid one ends a lock-out whose causes are gone, unless it is permanent, and in RUN restarts the inputs that wait. In START a logic cycle reads the pins only. A logic cycle switches an output on where its request holds and the feedback is high, off where the request fails, and locks the island out on a failed check or a readback that differs. The feedback times and the output test pulse are causes 9 and 8 where they show a fault, and otherwise only record the pins. What COUNT counts and when a lock-out posts its event are the readings of notes/assumptions/28.md. -/
def Obligations.SafetyLogicAndReset : Prop :=
  ∀ s : State, keysRise none s.safe.ins = true → keysRise none s.safe.outs = true → keysRise none s.safe.conns = true →
    (s.safeRuns = false → ∀ n ok c k b d, exec (.safeRstRelease n ok) s = .next s ∧ exec (.edmOnTimeout k b) s = .next s
        ∧ exec (.edmOffTimeout k b) s = .next s ∧ exec (.outputTestPulse k b d) s = .next s
        ∧ ((s.up 3 = false ∨ s.safe.mode ≠ .start) → exec (.safeLogicCycle c) s = .next s)
        ∧ (s.up 3 = true → s.safe.mode = .start → Reaches (.safeLogicCycle c) s (fun t => t.regs = s.regs ∧ t.mem = s.mem ∧ t.flt = s.flt ∧ t.safe.mode = .start
            ∧ ∀ j, j < 4 → t.sOut j = { s.sOut j with rdA := bitOf c.readA j, rdB := bitOf c.readB j, edm := bitOf c.edm j })))
    ∧ (s.safeRuns = true →
        (∀ n ok, (s.safe.rstArm = false ∨ n < 50000 → Reaches (.safeRstRelease n ok) s (fun t => t = { s with safe := { s.safe with rstLvl := false, rstArm := true } }))
          ∧ (s.safe.rstArm = true → 5000000 < n → Reaches (.safeRstRelease n ok) s (fun t => t.safe = { s.safe with rstLvl := false } ∧ t.get R.SAFE_SSTAT_RST_LONG = 1 ∧ t.mem = s.mem))
          ∧ (s.safe.rstArm = true → 50000 ≤ n → n ≤ 5000000 →
              (s.safe.mode = .lockout →
                (s.safe.perm = false → s.safe.fresh = false → (∀ e ∈ s.safe.causes, s.causeGone ok e = true) →
                  Reaches (.safeRstRelease n ok) s (fun t => t.safe.mode = .run ∧ t.safe.causes = [] ∧ t.get R.SAFE_SSTAT_RST_ACC = 1 ∧ t.safe.outs = s.safe.outs ∧ t.mem = s.mem
                    ∧ (∀ i, i < 12 → t.sIn i = (s.sIn i).restart) ∧ (∀ c, (t.sConn c).wait = false ∨ lookupKey s.safe.conns c = none)))
                ∧ ((s.safe.perm = true ∨ s.safe.fresh = true ∨ ∃ e ∈ s.safe.causes, s.causeGone ok e = false) →
                  Reaches (.safeRstRelease n ok) s (fun t => t = { s with safe := { s.safe with rstLvl := false } })))
              ∧ (s.safe.mode = .run → Reaches (.safeRstRelease n ok) s (fun t => t.safe.mode = .run ∧ t.get R.SAFE_SSTAT_RST_ACC = 1 ∧ t.safe.outs = s.safe.outs ∧ t.mem = s.mem
                    ∧ ∀ i, i < 12 → t.sIn i = (s.sIn i).restart))))
        ∧ (∀ c : SafeChecks, s.safe.mode = .run →
            (c.lockstepOk = true → c.oscOk = true → c.vsafeOk = true → c.psetOk = true → c.memOk = true →
              (∀ k, k < 4 → bitOf c.readA k = (s.sOut k).on ∧ bitOf c.readB k = (s.sOut k).on) →
              Reaches (.safeLogicCycle c) s (fun t => t.safe.mode = .run ∧ t.safe.causes = s.safe.causes ∧ t.safe.ins = s.safe.ins ∧ t.safe.fresh = false ∧ t.mem = s.mem
                ∧ ∀ k, k < 4 → ((s.onReq k = false → (t.sOut k).on = false) ∧ (s.onReq k = true → (t.sOut k).on = ((s.sOut k).on || bitOf c.edm k)))))
            ∧ (c.lockstepOk = false → Reaches (.safeLogicCycle c) s (fun t => t.safe.mode = .lockout ∧ t.safe.causes.head? = some (1, 0) ∧ t.safe.cnt5 = s.safe.cnt5 + 1
                ∧ (s.safe.cnt5 = 2 → t.safe.perm = true) ∧ t.get R.SAFE_SSTAT_LOCKOUT = 1 ∧ t.mem = s.mem ∧ ∀ k, k < 4 → (t.sOut k).on = false))
            ∧ (∀ k, k < 4 → bitOf c.readA k ≠ (s.sOut k).on → Reaches (.safeLogicCycle c) s (fun t => t.safe.mode = .lockout ∧ t.mem = s.mem ∧ ∀ j, j < 4 → (t.sOut j).on = false)))
        ∧ (∀ k b, k < 4 →
            ((s.sOut k).on = true → (s.sOut k).edmOn = true →
              (b = false → Reaches (.edmOnTimeout k b) s (fun t => t.sOut k = { s.sOut k with edmOn := false, edm := false } ∧ t.regs = s.regs ∧ t.mem = s.mem ∧ t.safe.mode = s.safe.mode))
              ∧ (b = true → s.safe.mode = .run → Reaches (.edmOnTimeout k b) s (fun t => LockedOut 9 k t ∧ t.get R.SAFE_SSTAT_EDM = 1 ∧ t.mem = s.mem)))
            ∧ ((s.sOut k).on = false → exec (.edmOnTimeout k b) s = .next s)
            ∧ ((s.sOut k).on = true → exec (.edmOffTimeout k b) s = .next s)
            ∧ ((s.sOut k).on = false →
              (b = true → Reaches (.edmOffTimeout k b) s (fun t => t.sOut k = { s.sOut k with edm := true } ∧ t.regs = s.regs ∧ t.mem = s.mem ∧ t.safe.mode = s.safe.mode))
              ∧ (b = false → s.safe.mode = .run → Reaches (.edmOffTimeout k b) s (fun t => LockedOut 9 k t ∧ t.mem = s.mem)))
            ∧ ((s.sOut k).on = false → ∀ d, exec (.outputTestPulse k d b) s = .next s)
            ∧ ((s.sOut k).on = true → ∀ d,
              (b = true → Reaches (.outputTestPulse k d b) s (fun t => (t.sOut k).on = true ∧ t.regs = s.regs ∧ t.mem = s.mem ∧ t.safe.mode = s.safe.mode))
              ∧ (b = false → s.safe.mode = .run → Reaches (.outputTestPulse k d b) s (fun t => LockedOut 8 k t ∧ t.get R.SAFE_SSTAT_OUT_TEST = 1 ∧ t.mem = s.mem)))))

/-- A PDU leaves with the next SEQ: START with DATA 0 on an opening connection, DATA otherwise, with FAIL where the island is not in RUN; a failed connection sends none; on an Ethernet medium it leaves in a frame of Ethertype 0x88B5 to the peer on every linked port of the connection, and on both of a pair. A fresh PDU with the right CHK and CID opens an opening connection, waiting for a reset, and in RUN renews SEQ and the received bits, 0 with FAIL; one with a wrong length or CID counts as a check failure, and ends the connection at the limit. The watchdog ends a running connection with a SAFE event; WD later it opens again; the window’s end clears its failures. That the first SEQ is 0, and how a START after DATA ends, are the readings of notes/assumptions/28.md. -/
def Obligations.GarnetChannel : Prop :=
  ∀ (s : State) (c : Nat) (cfg : SafeConnCfg), s.connCfg c = some cfg → cfg.sess = none → keysRise none s.safe.conns = true → c < 32 →
    (s.safeRuns = false → ∀ pdu, exec (.garnetPduSend c) s = .next s ∧ exec (.garnetPduReceived c pdu) s = .next s ∧ exec (.garnetWatchdog c) s = .next s
        ∧ exec (.garnetFailedEnd c) s = .next s ∧ exec (.garnetErrWindowEnd c) s = .next s)
    ∧ (s.safeRuns = true → ∀ x, x = s.sConn c →
        (x.mode = .failed → exec (.garnetPduSend c) s = .next s ∧ exec (.garnetWatchdog c) s = .next s
          ∧ Reaches (.garnetFailedEnd c) s (fun t => t.sConn c = { x with mode := .opening, lastRx := none, gotData := false } ∧ t.regs = s.regs ∧ t.mem = s.mem))
        ∧ (x.mode ≠ .failed → exec (.garnetFailedEnd c) s = .next s
          ∧ Reaches (.garnetPduSend c) s (fun t => (t.sConn c).seq = (x.seq + 1) % 65536 ∧ (t.sConn c).mode = x.mode ∧ (x.seq, s.elNs) ∈ (t.sConn c).sent ∧ t.regs = s.regs ∧ t.mem = s.mem
              ∧ (keysRise none s.net.sentOn = true → ∀ q ∈ s.sendPorts cfg.ethPorts, s.linkUp q = true →
                  ∃ f : EthTx, tget none t.net.sentOn q = some f ∧ f.dst = cfg.peerMac ∧ f.src = s.portMac q ∧ f.etype = 0x88B5 ∧ f.body = .garnet (t.sConn c).last)
              ∧ (x.mode = .opening → (t.sConn c).last = garnetPdu 0 (decide (s.safe.mode ≠ .run)) x.seq (x.lastRx.getD x.seq) 0 cfg.cid)
              ∧ (x.mode = .run → (t.sConn c).last = garnetPdu 1 (decide (s.safe.mode ≠ .run)) x.seq (x.lastRx.getD x.seq) (if s.safe.mode = .run then s.txData cfg.txMap else 0) cfg.cid)))
        ∧ (x.mode ≠ .run → exec (.garnetWatchdog c) s = .next s)
        ∧ (x.mode = .run → Reaches (.garnetWatchdog c) s (fun t => t.sConn c = { x with mode := .failed, wait := false, rx := 0 } ∧ t.get R.SAFE_SSTAT_CONN_FAIL = 1 ∧ t.mem = s.mem
            ∧ t.get (R.SAFE_CONN_CNT_WDX c) = (s.get (R.SAFE_CONN_CNT_WDX c) + 1) % 65536 ∧ t.flt.inbox = s.flt.inbox ++ [{ cls := .safe, unit := 0x0300 }]))
        ∧ Reaches (.garnetErrWindowEnd c) s (fun t => t.sConn c = { x with errs := 0 } ∧ t.regs = s.regs ∧ t.mem = s.mem ∧ t.safe.mode = s.safe.mode)
        ∧ (∀ pdu : List Byte, (pdu.length < 16 ∨ beNat ((pdu.drop 8).take 4) ≠ cfg.cid) →
            (x.mode ≠ .run ∨ x.errs + 1 < cfg.errLim → Reaches (.garnetPduReceived c pdu) s (fun t => t.sConn c = { x with errs := min 255 (x.errs + 1) } ∧ t.get R.SAFE_SSTAT_CONN_CHK = 1 ∧ t.mem = s.mem
                ∧ t.get (R.SAFE_CONN_CNT_CHK c) = (s.get (R.SAFE_CONN_CNT_CHK c) + 1) % 65536 ∧ t.flt.inbox = s.flt.inbox))
            ∧ (x.mode = .run → cfg.errLim ≤ x.errs + 1 → Reaches (.garnetPduReceived c pdu) s (fun t => (t.sConn c).mode = .failed ∧ t.get R.SAFE_SSTAT_CONN_FAIL = 1 ∧ t.mem = s.mem
                ∧ { cls := .safe, unit := 0x0300 } ∈ t.flt.inbox)))
        ∧ (∀ failed seq echo data, seq < 65536 → echo < 65536 → data < 65536 → cfg.cid < 2 ^ 32 → (∃ t0, (echo, t0) ∈ x.sent ∧ s.elNs < t0 + 1000 * cfg.wdUs) →
            (x.mode = .opening → x.lastRx = none → Reaches (.garnetPduReceived c (garnetPdu 1 failed seq echo data cfg.cid)) s
                (fun t => t.sConn c = { x with mode := .run, wait := true, lastRx := some seq, gotData := true, rx := if failed = true then 0 else data } ∧ t.regs = s.regs ∧ t.mem = s.mem))
            ∧ (∀ l, x.mode = .run → x.lastRx = some l → l < 65536 →
                (1 ≤ (seq + 65536 - l) % 65536 → (seq + 65536 - l) % 65536 ≤ 32767 → Reaches (.garnetPduReceived c (garnetPdu 1 failed seq echo data cfg.cid)) s
                  (fun t => t.sConn c = { x with lastRx := some seq, gotData := true, rx := if failed = true then 0 else data } ∧ t.regs = s.regs ∧ t.mem = s.mem))
                ∧ ((seq = l ∨ 32767 < (seq + 65536 - l) % 65536) → exec (.garnetPduReceived c (garnetPdu 1 failed seq echo data cfg.cid)) s = .next s))))

/-- QUOTE takes the nonce of QBUF and its end writes the body, nonce first, and the signature, and sets QUOTE_DONE; DBG_CHAL writes a challenge unless debug is locked out; DBG_AUTH opens debug for a right answer, and otherwise counts, flags and reports a failure, the third locking debug out; COMMIT_SVN raises the counter to the running SVN and never lowers it; RET_ARM arms with its two words and disarms otherwise; RETURN_PREP needs the arming, the arm in OFF and the NVM idle; its end clears both settings partitions and the boot configuration, and the slots where asked, keeps the fault history and the log, which gains a RETURN record (that it is written here is this model’s reading, log entry 61), and sets RETURNED. What is read is read without a word in error (R832); layouts that the spec leaves open are constants of Config (log entries 5 and 30). A second QUOTE is the choice of notes/assumptions/29.md, and RETURN_PREP’s record and erasures the readings of 30.md and 61.md; keys and layouts are opaque (5.md). -/
def Obligations.RootOfTrust : Prop :=
  ∀ s : State, s.inService = true →
    (s.sec.nonce = none → s.memBad = [] → Reaches .quote s (fun t => t.sec = { s.sec with nonce := some (Memory.readN s.mem qbuf 64) } ∧ t.regs = s.regs ∧ t.mem = s.mem))
    ∧ (s.sec.nonce = none → exec .quoteDone s = .next s)
    ∧ (∀ n, s.sec.nonce = some n →
        Reaches .quote s (fun t => t.sec = s.sec ∧ t.mem = s.mem ∧ { cls := .config, unit := 0x0200, aux := 0x2008, req := .l0 } ∈ t.flt.inbox)
        ∧ (∀ img set, s.memBad = [] → img = (if s.booted = true then Memory.readN s.mem (slotBase (s.get R.SEC_STATUS_SLOT)) (4096 + s.sec.imgLen) else []) →
            set = Memory.readN s.mem (copyBase 0 (s.newestCopy 0)) (partSize 0) ++ Memory.readN s.mem (copyBase 1 (s.newestCopy 1)) (partSize 1) →
            Reaches .quoteDone s (fun t => t.sec = { s.sec with nonce := none, quote := s.quoteBody n img set }
              ∧ Memory.readN t.mem (qbuf + 0x40) 256 = s.quoteBody n img set ∧ (s.quoteBody n img set).take 64 = fixBytes 64 n))
        ∧ Reaches .quoteDone s (fun t => t.get R.SEC_EVT_QUOTE_DONE = 1
            ∧ ∀ a, (a < qbuf + 0x40 ∨ qbuf + 0x140 ≤ a) → (a < qbuf + 0x200 ∨ qbuf + 0x400 ≤ a) → t.mem.read a = s.mem.read a))
    ∧ (∀ c, (s.on R.SEC_STATUS_DBG_LOCKED = true → exec (.dbgChal c) s = .next s)
        ∧ (s.on R.SEC_STATUS_DBG_LOCKED = false → Reaches (.dbgChal c) s (fun t => t.sec = { s.sec with chal := some (fixBytes 64 c) } ∧ t.regs = s.regs
            ∧ Memory.readN t.mem (qbuf + 0x40) 64 = fixBytes 64 c ∧ ∀ a, (a < qbuf + 0x40 ∨ qbuf + 0x80 ≤ a) → t.mem.read a = s.mem.read a)))
    ∧ (s.debugOk = true → Reaches .dbgAuth s (fun t => t.get R.SEC_STATUS_DBG_OPEN = 1 ∧ t.sec = { s.sec with chal := none } ∧ RegsKeptBut [R.SEC_STATUS_DBG_OPEN] s t ∧ t.mem = s.mem))
    ∧ (s.debugOk = false → s.memBad = [] → Reaches .dbgAuth s (fun t => t.get R.SEC_STATUS_DBG_OPEN = s.get R.SEC_STATUS_DBG_OPEN ∧ t.sec = { s.sec with chal := none, dbgFails := min 3 (s.sec.dbgFails + 1) }
        ∧ t.get R.SEC_EVT_DBG_FAIL = 1 ∧ t.flt.inbox = s.flt.inbox ++ [{ cls := .sec, unit := 0x0200 }] ∧ (2 ≤ s.sec.dbgFails → t.get R.SEC_STATUS_DBG_LOCKED = 1) ∧ t.mem = s.mem))
    ∧ (s.sec.chal = none ∨ s.sec.revoked = true → s.debugOk = false)
    ∧ Reaches .dbgClose s (fun t => t.get R.SEC_STATUS_DBG_OPEN = 0 ∧ RegsKeptBut [R.SEC_STATUS_DBG_OPEN] s t ∧ t.sec = s.sec ∧ t.mem = s.mem)
    ∧ (s.get R.SEC_STATUS_SLOT < 2 → Reaches .commitSvn s (fun t => t.get R.SEC_STATUS_CNT = max (s.get R.SEC_STATUS_CNT) (s.get R.SEC_STATUS_SVN) % 64
        ∧ RegsKeptBut [R.SEC_STATUS_CNT] s t ∧ t.mem = s.mem))
    ∧ (2 ≤ s.get R.SEC_STATUS_SLOT → exec .commitSvn s = .next s)
    ∧ (∀ v, Reaches (.retArmWrite v) s (fun t => t.sec = { s.sec with armed := decide (v = 0x52455450 ∨ v = 0x52455451) }
        ∧ t.get R.SEC_RET_ARM_IMG = (if v = 0x52455451 then 1 else 0) ∧ RegsKeptBut [R.SEC_RET_ARM_IMG] s t ∧ t.mem = s.mem))
    ∧ (s.sec.armed = false → exec .retArmExpired s = .next s)
    ∧ (s.sec.armed = true → Reaches .retArmExpired s (fun t => t.sec = { s.sec with armed := false } ∧ t.mem = s.mem))
    ∧ (s.sec.armed = true → s.arm.mode = .off → s.nvmBusy = false → Reaches .returnPrep s (fun t => t.sec = { s.sec with armed := false, retImg := some (s.on R.SEC_RET_ARM_IMG) } ∧ t.mem = s.mem))
    ∧ ((s.sec.armed = false ∨ s.arm.mode ≠ .off ∨ s.nvmBusy = true) → Reaches .returnPrep s (fun t => t.sec = s.sec ∧ t.regs = s.regs ∧ t.mem = s.mem
        ∧ t.flt.inbox = s.flt.inbox ++ [{ cls := .config, unit := 0x0200, aux := 0x2008, req := .l0 }]))
    ∧ (s.sec.retImg = none → exec .returnPrepDone s = .next s)
    ∧ (∀ img, s.sec.retImg = some img → Reaches .returnPrepDone s (fun t => t.returned = true ∧ t.get R.SEC_EVT_RET_DONE = 1 ∧ t.sec = { s.sec with retImg := none, revoked := true } ∧ t.nvm.pref = 0
        ∧ (s.get R.AGE_LOG_WR_IDX < 8192 → ∀ a, copyBase 0 0 ≤ a → a < histBase → t.mem.read a = 0)
        ∧ (s.get R.AGE_LOG_WR_IDX < 8192 → ∀ r, r = logBase + 32 * s.get R.AGE_LOG_WR_IDX → t.get R.AGE_LOG_WR_IDX = (s.get R.AGE_LOG_WR_IDX + 1) % 8192
            ∧ (∀ a, histBase ≤ a → a < retBase → (a < r ∨ r + 32 ≤ a) → t.mem.read a = s.mem.read a)
            ∧ t.rd r 2 = 0x0200 ∧ (t.mem.read (r + 3)).toNat / 16 = 6)
        ∧ (s.get R.AGE_LOG_WR_IDX < 8192 → ∀ a, slotBase 0 ≤ a → a < copyBase 0 0 → t.mem.read a = if img = true then 0 else s.mem.read a)))

/-- A STORE of a partition that does not exist is a CONFIG event; one while the NVM is busy answers CODE 4, one of settings P without a right signature CODE 1 with a SEC event, one at the endurance limit CODE 3; else the older copy wears one erase and receives the RAM copy. A finished STORE makes its copy the newest, a failed one keeps the other. RELOAD brings both settings partitions back. IMG_COMMIT begins one verification and its end flags the outcome of the check of the slot’s bytes, whose header is read from the slot. BOOT.PREF changes only while no image is written. A refresh of a sector in use waits, an uncorrectable word is a MEM event, and any other refresh is counted and logged, with an L0 event where it corrected a word. A history dump that waited for the STORE follows it. How a header, a key’s digest and the stored boot configuration are laid out is opaque (notes/assumptions/5.md), where the partitions lie is notes/assumptions/11.md, and what a STORE wears and a refresh waits for is notes/assumptions/30.md. -/
def Obligations.NvmController : Prop :=
  ∀ s : State, s.inService = true → keysRise none s.nvm.wear = true → keysRise none s.nvm.newest = true →
    (∀ p, (2 < p → Reaches (.store p) s (fun t => t.nvm = s.nvm ∧ t.regs = s.regs ∧ t.mem = s.mem ∧ ∃ a, { cls := .config, unit := 0x0201, aux := a, req := .l0 } ∈ t.flt.inbox))
        ∧ (p ≤ 2 →
          (s.nvmBusy = true → Reaches (.store p) s (fun t => t.nvm = s.nvm ∧ t.get R.NVM_RESULT_CODE = 4 ∧ t.mem = s.mem ∧ { cls := .config, unit := 0x0201, aux := 0x3008, req := .l0 } ∈ t.flt.inbox))
          ∧ (s.nvmBusy = false → p = 1 → s.settingsOk = false → Reaches (.store p) s (fun t => t.nvm = s.nvm ∧ t.get R.NVM_RESULT_CODE = 1 ∧ t.get R.SEC_EVT_STORE_SIG = 1 ∧ t.get R.NVM_NSTAT_STORE_FAIL = 1
              ∧ t.mem = s.mem ∧ { cls := .sec, unit := 0x0200 } ∈ t.flt.inbox ∧ (s.badIn (qbuf + 0x400) 0x400 = [] → s.badIn (ramBase + ramOfs 1) (partSize 1) = [] → t.flt.inbox = s.flt.inbox ++ [{ cls := .sec, unit := 0x0200 }])))
          ∧ (s.nvmBusy = false → (p ≠ 1 ∨ s.settingsOk = true) → ∀ c, c = 1 - s.newestCopy p →
              (100000 ≤ tget 0 s.nvm.wear (2 * p + c) + 1 → Reaches (.store p) s (fun t => t.nvm = s.nvm ∧ t.get R.NVM_RESULT_CODE = 3 ∧ t.get R.NVM_NSTAT_ENDUR = 1 ∧ t.mem = s.mem))
              ∧ (tget 0 s.nvm.wear (2 * p + c) + 1 < 100000 → Reaches (.store p) s (fun t => t.nvm.store = some (p, c) ∧ t.nvm.newest = s.nvm.newest
                  ∧ tget 0 t.nvm.wear (2 * p + c) = tget 0 s.nvm.wear (2 * p + c) + 1
                  ∧ (p ≠ 2 → s.badIn (ramBase + ramOfs p) (partSize p) = [] → ∀ i, i < partSize p → t.mem.read (copyBase p c + i) = s.mem.read (ramBase + ramOfs p + i))
                  ∧ ∀ a, (a < copyBase p c ∨ copyBase p c + partSize p ≤ a) → t.mem.read a = s.mem.read a)))))
    ∧ (∀ ok, (s.nvm.store = none → exec (.storeDone ok) s = .next s)
        ∧ (∀ p c, s.nvm.store = some (p, c) → p ≤ 2 →
            (ok = true → Reaches (.storeDone ok) s (fun t => t.newestCopy p = c ∧ t.nvm.store = none ∧ t.get R.NVM_RESULT_CODE = 0 ∧ t.get R.NVM_NSTAT_STORE_DONE = 1 ∧ (s.nvm.dumpDue = false → t.mem = s.mem)
                ∧ (s.nvm.dumpDue = true → t.nvm.dumpDue = false ∧ ∀ a, (a < histBase ∨ histBase + 0x70000 ≤ a) → t.mem.read a = s.mem.read a)))
            ∧ (ok = false → Reaches (.storeDone ok) s (fun t => t.nvm.newest = s.nvm.newest ∧ t.nvm.store = none ∧ t.get R.NVM_RESULT_CODE = 2 ∧ t.get R.NVM_NSTAT_STORE_FAIL = 1 ∧ (s.nvm.dumpDue = false → t.mem = s.mem)))))
    ∧ Reaches .reload s (fun t => t.regs = s.regs ∧ t.nvm = s.nvm
        ∧ (∀ p, p < 2 → s.badIn (copyBase 0 (s.newestCopy 0)) (partSize 0) = [] → s.badIn (copyBase 1 (s.newestCopy 1)) (partSize 1) = [] → s.newestCopy 0 < 2 → s.newestCopy 1 < 2 → ∀ i, i < partSize p → t.mem.read (ramBase + ramOfs p + i) = s.mem.read (copyBase p (s.newestCopy p) + i))
        ∧ ∀ a, (a < ramBase ∨ ramBase + 0x80000 ≤ a) → t.mem.read a = s.mem.read a)
    ∧ (s.nvm.verify = true → exec .imgCommit s = .next s)
    ∧ (s.nvm.verify = false → Reaches .imgCommit s (fun t => t.nvm = { s.nvm with verify := true } ∧ t.regs = s.regs ∧ t.mem = s.mem))
    ∧ (∀ k, ((s.nvm.verify = false ∨ k ≠ s.writable) → exec (.imageVerifyDone k) s = .next s)
        ∧ (s.nvm.verify = true → k = s.writable → Reaches (.imageVerifyDone k) s (fun t => t.nvm = { s.nvm with verify := false, imgWr := false, erased := [] } ∧ t.mem = s.mem
            ∧ (match s.slotCheck s.writable with
               | .inl _ => t.get R.NVM_NSTAT_IMG_OK = 1 ∧ t.get R.NVM_NSTAT_IMG_BAD = s.get R.NVM_NSTAT_IMG_BAD
               | .inr _ => t.get R.NVM_NSTAT_IMG_BAD = 1 ∧ t.get R.NVM_NSTAT_IMG_OK = s.get R.NVM_NSTAT_IMG_OK)
            ∧ (s.badIn (slotBase s.writable) (imageSize (s.slotHeader s.writable)) = [] → t.flt = s.flt))))
    ∧ (∀ v, (s.nvm.imgWr = false → s.nvm.verify = false → Reaches (.bootPrefWrite v) s (fun t => t.get R.NVM_BOOT_PREF = v % 2 ∧ RegsKeptBut [R.NVM_BOOT_PREF] s t ∧ t.nvm = s.nvm ∧ t.mem = s.mem))
        ∧ ((s.nvm.imgWr = true ∨ s.nvm.verify = true) → Reaches (.bootPrefWrite v) s (fun t => t.regs = s.regs ∧ t.nvm = s.nvm ∧ t.mem = s.mem
            ∧ t.flt.inbox = s.flt.inbox ++ [{ cls := .config, unit := 0x0201, aux := 0x3044, req := .l0 }])))
    ∧ (∀ k r, ((2048 ≤ k ∨ s.refreshWaits k = true) → exec (.nvmRefresh k r) s = .next s)
        ∧ (k < 2048 → s.refreshWaits k = false →
            ((r = .uncorrectable ∨ s.badIn (nvmBase + 4096 * k) 4096 ≠ []) → Reaches (.nvmRefresh k r) s (fun t => t.get R.NVM_NSTAT_REFRESH_ERR = 1 ∧ t.flt.inbox = s.flt.inbox ++ [{ cls := .mem, unit := 0x0201 }] ∧ t.mem = s.mem
                ∧ t.get R.NVM_WEAR_REFRESH = s.get R.NVM_WEAR_REFRESH))
            ∧ (r ≠ .uncorrectable → s.badIn (nvmBase + 4096 * k) 4096 = [] → Reaches (.nvmRefresh k r) s (fun t => t.get R.NVM_WEAR_REFRESH = (s.get R.NVM_WEAR_REFRESH + 1) % 256 ∧ t.get R.AGE_LOG_WR_IDX = (s.get R.AGE_LOG_WR_IDX + 1) % 8192
                ∧ t.flt.inbox = s.flt.inbox ++ (if r = .corrected then [{ cls := .mem, unit := 0x0201, req := .l0 }] else []) ∧ ∀ a, (a < logBase + 32 * s.get R.AGE_LOG_WR_IDX ∨ logBase + 32 * s.get R.AGE_LOG_WR_IDX + 32 ≤ a) → t.mem.read a = s.mem.read a))))

/-- Once the device has booted with a regulator that gave its exponent, a low slack raises VDD by 10 mV below 850 mV, unless a VDD fault stands or the 10 ms of a step run; a step that the regulator does not acknowledge sets AVS_FAIL with an event; at 850 mV a grove is asked for a clock step down to 900 MHz. Slack high for 24 h lowers VDD by 10 mV above 700 mV. A clock step that takes a class P or matched task beyond its bound is withheld; another lowers MHZ by 25. A unit whose measure has crossed its threshold plans its spare or records NOSPARE; bringing it in at a cycle boundary records SPARE. A window whose slack is below BUD_MIN records BUDGET. An operating hour counts in HOURS, saturating. The PMBus command byte and the LINEAR16 form are those of notes/assumptions/62.md, and what stands for a cycle boundary is notes/assumptions/31.md. -/
def Obligations.AgeingMonitor : Prop :=
  ∀ s : State, s.inService = true → keysRise none s.age.used = true → keysRise none s.age.spareAt = true →
    (∀ g slack ack, (gladePresent s.variant g = false → exec (.pathSlackLow g slack ack) s = .next s)
        ∧ (gladePresent s.variant g = true →
            ((s.on R.AGE_CTRL_EN = false ∨ s.get R.AGE_CFG_MAR_LO ≤ slack ∨ s.age.wait = true ∨ (s.age.vout = none ∧ s.get R.AGE_AVS_VDD < 850)) → Reaches (.pathSlackLow g slack ack) s (fun t => t.get R.AGE_AVS_VDD = s.get R.AGE_AVS_VDD ∧ t.age = s.age ∧ t.mem = s.mem ∧ t.flt.inbox = s.flt.inbox))
            ∧ (s.on R.AGE_CTRL_EN = true → slack < s.get R.AGE_CFG_MAR_LO → s.age.wait = false →
                (∀ e, s.age.vout = some e → s.get R.AGE_AVS_VDD < 850 → s.vddFault = false →
                  (ack = true → Reaches (.pathSlackLow g slack ack) s (fun t => t.get R.AGE_AVS_VDD = s.get R.AGE_AVS_VDD + 10
                      ∧ t.age = { s.age with wait := true, avs := some (s.get R.AGE_AVS_ADDR, voutCommand, (Config.linear16 e (s.get R.AGE_AVS_VDD + 10)).toNat) } ∧ t.get R.AGE_ASTAT_MARGIN = 1
                      ∧ t.get R.AGE_LOG_WR_IDX = (s.get R.AGE_LOG_WR_IDX + 1) % 8192 ∧ (s.get R.AGE_AVS_VDD = 840 → t.get R.AGE_ASTAT_AVS_MAX = 1)))
                  ∧ (ack = false → Reaches (.pathSlackLow g slack ack) s (fun t => t.get R.AGE_AVS_VDD = s.get R.AGE_AVS_VDD
                      ∧ t.age = { s.age with avs := some (s.get R.AGE_AVS_ADDR, voutCommand, (Config.linear16 e (s.get R.AGE_AVS_VDD + 10)).toNat) } ∧ t.get R.AGE_ASTAT_AVS_FAIL = 1 ∧ t.mem = s.mem
                      ∧ t.flt.inbox = s.flt.inbox ++ [{ cls := .age, unit := 256 * g }])))
                ∧ (s.get R.AGE_AVS_VDD < 850 → s.vddFault = true → Reaches (.pathSlackLow g slack ack) s (fun t => t.get R.AGE_AVS_VDD = s.get R.AGE_AVS_VDD ∧ t.age = s.age ∧ t.mem = s.mem))
                ∧ (850 ≤ s.get R.AGE_AVS_VDD → 16 ≤ g → g < 19 → Reaches (.pathSlackLow g slack ack) s (fun t => t.get R.AGE_AVS_VDD = s.get R.AGE_AVS_VDD ∧ t.get R.AGE_ASTAT_AVS_MAX = 1 ∧ t.mem = s.mem
                    ∧ (900 < s.get (R.AGE_CLK_MHZ (g - 16)) → (g - 16) ∈ t.age.clkReq) ∧ (s.get (R.AGE_CLK_MHZ (g - 16)) ≤ 900 → t.get R.AGE_ASTAT_CLK_MIN = 1 ∧ t.age = s.age))))))
    ∧ (∀ g slack, (s.age.wait = false → exec (.avsStepWaitEnd g slack) s = .next s)
        ∧ (s.age.wait = true → Reaches (.avsStepWaitEnd g slack) s (fun t => t.age = { s.age with wait := false } ∧ t.mem = s.mem ∧ (16 ≤ g → g < 19 → t.get (R.AGE_CLK_SLACK (g - 16)) = slack % 256))))
    ∧ (∀ ack, ((s.ageActs = false ∨ s.age.wait = true ∨ s.get R.AGE_AVS_VDD ≤ 700 ∨ s.vddFault = true) → exec (.marginHigh24h ack) s = .next s)
        ∧ (s.age.vout = none → exec (.marginHigh24h ack) s = .next s)
        ∧ (∀ e, s.age.vout = some e → s.ageActs = true → s.age.wait = false → 700 < s.get R.AGE_AVS_VDD → s.vddFault = false →
            (ack = true → Reaches (.marginHigh24h ack) s (fun t => t.get R.AGE_AVS_VDD = s.get R.AGE_AVS_VDD - 10 ∧ t.age = { s.age with wait := true, avs := some (s.get R.AGE_AVS_ADDR, voutCommand, (Config.linear16 e (s.get R.AGE_AVS_VDD - 10)).toNat) } ∧ t.get R.AGE_ASTAT_MARGIN = 1))
            ∧ (ack = false → Reaches (.marginHigh24h ack) s (fun t => t.get R.AGE_AVS_VDD = s.get R.AGE_AVS_VDD ∧ t.get R.AGE_ASTAT_AVS_FAIL = 1))))
    ∧ (∀ g, ((g ∉ s.age.clkReq ∨ s.ageActs = false ∨ s.stepAllowed = false ∨ s.atBoundary = false ∨ s.age.wait = true ∨ tget none s.age.spareAt g = some s.elapsed ∨ ∃ u ∈ s.age.due, u.1.unit / 256 = 16 + g) → exec (.groveClockStep g) s = .next s)
        ∧ (g ∈ s.age.clkReq → s.ageActs = true → s.stepAllowed = true → s.atBoundary = true → s.age.wait = false → (∀ u ∈ s.age.due, u.1.unit / 256 ≠ 16 + g) → tget none s.age.spareAt g ≠ some s.elapsed → g < 3 → ∀ f, f = s.get (R.AGE_CLK_MHZ g) →
            ((∃ e ∈ s.overBudget g f (f - 25), e.2.2 = true) → Reaches (.groveClockStep g) s (fun t => t.get (R.AGE_CLK_MHZ g) = f ∧ t.age = { s.age with clkReq := dropKey g s.age.clkReq }
                ∧ t.get R.AGE_ASTAT_BUDGET = 1 ∧ { cls := .age, unit := 256 * (16 + g) } ∈ t.flt.inbox))
            ∧ ((∀ e ∈ s.overBudget g f (f - 25), e.2.2 = false) → Reaches (.groveClockStep g) s (fun t => t.get (R.AGE_CLK_MHZ g) = f - 25 ∧ t.age = { s.age with clkReq := dropKey g s.age.clkReq, wait := true }
                ∧ t.get R.AGE_ASTAT_MARGIN = 1 ∧ (f ≤ 925 → t.get R.AGE_ASTAT_CLK_MIN = 1)))))
    ∧ Reaches .budgetWindowEnd s (fun t => t.age = { s.age with slack := none }
        ∧ (∀ q, s.age.slack = some q → s.on R.AGE_CTRL_EN = true → q < s.get R.AGE_CFG_BUD_MIN → t.get R.AGE_ASTAT_BUDGET = 1 ∧ t.get R.AGE_LOG_WR_IDX = (s.get R.AGE_LOG_WR_IDX + 1) % 8192
            ∧ t.flt.inbox = s.flt.inbox ++ [{ cls := .age, unit := 0x0100 }])
        ∧ ((s.age.slack = none ∨ s.on R.AGE_CTRL_EN = false ∨ ∃ q, s.age.slack = some q ∧ s.get R.AGE_CFG_BUD_MIN ≤ q) → t.regs = s.regs ∧ t.mem = s.mem ∧ t.flt.inbox = s.flt.inbox))
    ∧ (∀ (u : WearUnit) m, ((s.ageActs = false ∨ s.wornBy ⟨u, m⟩ = false) → exec (.wearThreshold ⟨u, m⟩) s = .next s)
        ∧ (s.ageActs = true → gladePresent s.variant (u.unit / 256) = true → s.wornBy ⟨u, m⟩ = true → s.spareDue u = false →
            (s.spareFree u = true → Reaches (.wearThreshold ⟨u, m⟩) s (fun t => t.age.due = s.age.due ++ [(u, m)] ∧ tget 0 t.age.used (spareKey u) = tget 0 s.age.used (spareKey u) + 1 ∧ t.regs = s.regs ∧ t.mem = s.mem))
            ∧ (s.spareFree u = false → Reaches (.wearThreshold ⟨u, m⟩) s (fun t => t.age = s.age ∧ t.get R.AGE_ASTAT_NOSPARE = 1 ∧ t.get R.AGE_LOG_WR_IDX = (s.get R.AGE_LOG_WR_IDX + 1) % 8192
                ∧ t.flt.inbox = s.flt.inbox ++ [{ cls := .age, unit := u.unit }])))
        ∧ ((s.spareDue u = false ∨ s.ageActs = false ∨ s.atBoundary = false) → exec (.spareBringIn u) s = .next s)
        ∧ (∀ rest, s.age.due = (u, m) :: rest → s.ageActs = true → s.atBoundary = true → Reaches (.spareBringIn u) s (fun t => t.age.due = rest ∧ (∀ g, g < 3 → u.unit / 256 = 16 + g → tget none t.age.spareAt g = some t.elapsed) ∧ t.get R.AGE_ASTAT_SPARE_IN = 1 ∧ { cls := .age, unit := u.unit, req := .l0 } ∈ t.flt.inbox
            ∧ (u = ⟨0x0500, false⟩ → t.get R.RANK_STATUS_SPARE_IN = 1 ∧ t.get R.RANK_CAP_SPARE = 0) ∧ (u.unit = 0x0100 → t.get R.AGE_CAP_HIST_SPARE = 0) ∧ (u = ⟨0x1003, false⟩ → t.get R.SCHED_STAT_SPARE_IN = 1))))
    ∧ Reaches .operatingHour s (fun t => t.get R.AGE_HOURS_HOURS = min (2 ^ 32 - 1) (s.get R.AGE_HOURS_HOURS + 1)
        ∧ t.elapsed = max s.elapsed (s.age.hourAt + 3600 * 10 ^ 9 * 2 ^ 32) ∧ t.age = { s.age with hourAt := s.age.hourAt + 3600 * 10 ^ 9 * 2 ^ 32 }
        ∧ RegsKeptBut [R.AGE_HOURS_HOURS] s t ∧ t.mem = s.mem)
end

