-- ==== Sys2Proof/Laws/State.lean ====
section
/-! SUPPORT. What each named update of the state leaves alone, one lemma per field, and what it sets. -/

namespace Sys2Proof.Machine

variable (s : State)

/-! ## put -/

@[simp] theorem State.put_pending (F : Field) (v : Nat) : (s.put F v).pending = s.pending := rfl
@[simp] theorem State.put_variant (F : Field) (v : Nat) : (s.put F v).variant = s.variant := rfl
@[simp] theorem State.put_conds (F : Field) (v : Nat) : (s.put F v).conds = s.conds := rfl
@[simp] theorem State.put_mem (F : Field) (v : Nat) : (s.put F v).mem = s.mem := rfl
@[simp] theorem State.put_memBad (F : Field) (v : Nat) : (s.put F v).memBad = s.memBad := rfl
@[simp] theorem State.put_time (F : Field) (v : Nat) : (s.put F v).time = s.time := rfl
@[simp] theorem State.put_elapsed (F : Field) (v : Nat) : (s.put F v).elapsed = s.elapsed := rfl
@[simp] theorem State.put_free (F : Field) (v : Nat) : (s.put F v).free = s.free := rfl
@[simp] theorem State.put_glades (F : Field) (v : Nat) : (s.put F v).glades = s.glades := rfl
@[simp] theorem State.put_flt (F : Field) (v : Nat) : (s.put F v).flt = s.flt := rfl
@[simp] theorem State.put_host (F : Field) (v : Nat) : (s.put F v).host = s.host := rfl
@[simp] theorem State.put_arm (F : Field) (v : Nat) : (s.put F v).arm = s.arm := rfl
@[simp] theorem State.put_rank (F : Field) (v : Nat) : (s.put F v).rank = s.rank := rfl
@[simp] theorem State.put_enc (F : Field) (v : Nat) : (s.put F v).enc = s.enc := rfl
@[simp] theorem State.put_rings (F : Field) (v : Nat) : (s.put F v).rings = s.rings := rfl
@[simp] theorem State.put_lanes (F : Field) (v : Nat) : (s.put F v).lanes = s.lanes := rfl
@[simp] theorem State.put_loops (F : Field) (v : Nat) : (s.put F v).loops = s.loops := rfl
@[simp] theorem State.put_servo (F : Field) (v : Nat) : (s.put F v).servo = s.servo := rfl
@[simp] theorem State.put_net (F : Field) (v : Nat) : (s.put F v).net = s.net := rfl
@[simp] theorem State.put_pwm (F : Field) (v : Nat) : (s.put F v).pwm = s.pwm := rfl
@[simp] theorem State.put_poss (F : Field) (v : Nat) : (s.put F v).poss = s.poss := rfl
@[simp] theorem State.put_adcs (F : Field) (v : Nat) : (s.put F v).adcs = s.adcs := rfl
@[simp] theorem State.put_sched (F : Field) (v : Nat) : (s.put F v).sched = s.sched := rfl
@[simp] theorem State.put_sec (F : Field) (v : Nat) : (s.put F v).sec = s.sec := rfl
@[simp] theorem State.put_nvm (F : Field) (v : Nat) : (s.put F v).nvm = s.nvm := rfl
@[simp] theorem State.put_age (F : Field) (v : Nat) : (s.put F v).age = s.age := rfl
@[simp] theorem State.put_canopy (F : Field) (v : Nat) : (s.put F v).canopy = s.canopy := rfl
@[simp] theorem State.put_amber (F : Field) (v : Nat) : (s.put F v).amber = s.amber := rfl
@[simp] theorem State.put_safe (F : Field) (v : Nat) : (s.put F v).safe = s.safe := rfl

/-! ## addTo -/

@[simp] theorem State.addTo_pending (F : Field) (n : Nat) : (s.addTo F n).pending = s.pending := rfl
@[simp] theorem State.addTo_variant (F : Field) (n : Nat) : (s.addTo F n).variant = s.variant := rfl
@[simp] theorem State.addTo_conds (F : Field) (n : Nat) : (s.addTo F n).conds = s.conds := rfl
@[simp] theorem State.addTo_mem (F : Field) (n : Nat) : (s.addTo F n).mem = s.mem := rfl
@[simp] theorem State.addTo_memBad (F : Field) (n : Nat) : (s.addTo F n).memBad = s.memBad := rfl
@[simp] theorem State.addTo_time (F : Field) (n : Nat) : (s.addTo F n).time = s.time := rfl
@[simp] theorem State.addTo_elapsed (F : Field) (n : Nat) : (s.addTo F n).elapsed = s.elapsed := rfl
@[simp] theorem State.addTo_free (F : Field) (n : Nat) : (s.addTo F n).free = s.free := rfl
@[simp] theorem State.addTo_glades (F : Field) (n : Nat) : (s.addTo F n).glades = s.glades := rfl
@[simp] theorem State.addTo_flt (F : Field) (n : Nat) : (s.addTo F n).flt = s.flt := rfl
@[simp] theorem State.addTo_host (F : Field) (n : Nat) : (s.addTo F n).host = s.host := rfl
@[simp] theorem State.addTo_arm (F : Field) (n : Nat) : (s.addTo F n).arm = s.arm := rfl
@[simp] theorem State.addTo_rank (F : Field) (n : Nat) : (s.addTo F n).rank = s.rank := rfl
@[simp] theorem State.addTo_enc (F : Field) (n : Nat) : (s.addTo F n).enc = s.enc := rfl
@[simp] theorem State.addTo_rings (F : Field) (n : Nat) : (s.addTo F n).rings = s.rings := rfl
@[simp] theorem State.addTo_lanes (F : Field) (n : Nat) : (s.addTo F n).lanes = s.lanes := rfl
@[simp] theorem State.addTo_loops (F : Field) (n : Nat) : (s.addTo F n).loops = s.loops := rfl
@[simp] theorem State.addTo_servo (F : Field) (n : Nat) : (s.addTo F n).servo = s.servo := rfl
@[simp] theorem State.addTo_net (F : Field) (n : Nat) : (s.addTo F n).net = s.net := rfl
@[simp] theorem State.addTo_pwm (F : Field) (n : Nat) : (s.addTo F n).pwm = s.pwm := rfl
@[simp] theorem State.addTo_poss (F : Field) (n : Nat) : (s.addTo F n).poss = s.poss := rfl
@[simp] theorem State.addTo_adcs (F : Field) (n : Nat) : (s.addTo F n).adcs = s.adcs := rfl
@[simp] theorem State.addTo_sched (F : Field) (n : Nat) : (s.addTo F n).sched = s.sched := rfl
@[simp] theorem State.addTo_sec (F : Field) (n : Nat) : (s.addTo F n).sec = s.sec := rfl
@[simp] theorem State.addTo_nvm (F : Field) (n : Nat) : (s.addTo F n).nvm = s.nvm := rfl
@[simp] theorem State.addTo_age (F : Field) (n : Nat) : (s.addTo F n).age = s.age := rfl
@[simp] theorem State.addTo_canopy (F : Field) (n : Nat) : (s.addTo F n).canopy = s.canopy := rfl
@[simp] theorem State.addTo_amber (F : Field) (n : Nat) : (s.addTo F n).amber = s.amber := rfl
@[simp] theorem State.addTo_safe (F : Field) (n : Nat) : (s.addTo F n).safe = s.safe := rfl

/-! ## addSat -/

@[simp] theorem State.addSat_pending (F : Field) (n : Nat) : (s.addSat F n).pending = s.pending := rfl
@[simp] theorem State.addSat_variant (F : Field) (n : Nat) : (s.addSat F n).variant = s.variant := rfl
@[simp] theorem State.addSat_conds (F : Field) (n : Nat) : (s.addSat F n).conds = s.conds := rfl
@[simp] theorem State.addSat_mem (F : Field) (n : Nat) : (s.addSat F n).mem = s.mem := rfl
@[simp] theorem State.addSat_memBad (F : Field) (n : Nat) : (s.addSat F n).memBad = s.memBad := rfl
@[simp] theorem State.addSat_time (F : Field) (n : Nat) : (s.addSat F n).time = s.time := rfl
@[simp] theorem State.addSat_elapsed (F : Field) (n : Nat) : (s.addSat F n).elapsed = s.elapsed := rfl
@[simp] theorem State.addSat_free (F : Field) (n : Nat) : (s.addSat F n).free = s.free := rfl
@[simp] theorem State.addSat_glades (F : Field) (n : Nat) : (s.addSat F n).glades = s.glades := rfl
@[simp] theorem State.addSat_flt (F : Field) (n : Nat) : (s.addSat F n).flt = s.flt := rfl
@[simp] theorem State.addSat_host (F : Field) (n : Nat) : (s.addSat F n).host = s.host := rfl
@[simp] theorem State.addSat_arm (F : Field) (n : Nat) : (s.addSat F n).arm = s.arm := rfl
@[simp] theorem State.addSat_rank (F : Field) (n : Nat) : (s.addSat F n).rank = s.rank := rfl
@[simp] theorem State.addSat_enc (F : Field) (n : Nat) : (s.addSat F n).enc = s.enc := rfl
@[simp] theorem State.addSat_rings (F : Field) (n : Nat) : (s.addSat F n).rings = s.rings := rfl
@[simp] theorem State.addSat_lanes (F : Field) (n : Nat) : (s.addSat F n).lanes = s.lanes := rfl
@[simp] theorem State.addSat_loops (F : Field) (n : Nat) : (s.addSat F n).loops = s.loops := rfl
@[simp] theorem State.addSat_servo (F : Field) (n : Nat) : (s.addSat F n).servo = s.servo := rfl
@[simp] theorem State.addSat_net (F : Field) (n : Nat) : (s.addSat F n).net = s.net := rfl
@[simp] theorem State.addSat_pwm (F : Field) (n : Nat) : (s.addSat F n).pwm = s.pwm := rfl
@[simp] theorem State.addSat_poss (F : Field) (n : Nat) : (s.addSat F n).poss = s.poss := rfl
@[simp] theorem State.addSat_adcs (F : Field) (n : Nat) : (s.addSat F n).adcs = s.adcs := rfl
@[simp] theorem State.addSat_sched (F : Field) (n : Nat) : (s.addSat F n).sched = s.sched := rfl
@[simp] theorem State.addSat_sec (F : Field) (n : Nat) : (s.addSat F n).sec = s.sec := rfl
@[simp] theorem State.addSat_nvm (F : Field) (n : Nat) : (s.addSat F n).nvm = s.nvm := rfl
@[simp] theorem State.addSat_age (F : Field) (n : Nat) : (s.addSat F n).age = s.age := rfl
@[simp] theorem State.addSat_canopy (F : Field) (n : Nat) : (s.addSat F n).canopy = s.canopy := rfl
@[simp] theorem State.addSat_amber (F : Field) (n : Nat) : (s.addSat F n).amber = s.amber := rfl
@[simp] theorem State.addSat_safe (F : Field) (n : Nat) : (s.addSat F n).safe = s.safe := rfl

/-! ## putS -/

@[simp] theorem State.putS_pending (F : Field) (i : Int) : (s.putS F i).pending = s.pending := rfl
@[simp] theorem State.putS_variant (F : Field) (i : Int) : (s.putS F i).variant = s.variant := rfl
@[simp] theorem State.putS_conds (F : Field) (i : Int) : (s.putS F i).conds = s.conds := rfl
@[simp] theorem State.putS_mem (F : Field) (i : Int) : (s.putS F i).mem = s.mem := rfl
@[simp] theorem State.putS_memBad (F : Field) (i : Int) : (s.putS F i).memBad = s.memBad := rfl
@[simp] theorem State.putS_time (F : Field) (i : Int) : (s.putS F i).time = s.time := rfl
@[simp] theorem State.putS_elapsed (F : Field) (i : Int) : (s.putS F i).elapsed = s.elapsed := rfl
@[simp] theorem State.putS_free (F : Field) (i : Int) : (s.putS F i).free = s.free := rfl
@[simp] theorem State.putS_glades (F : Field) (i : Int) : (s.putS F i).glades = s.glades := rfl
@[simp] theorem State.putS_flt (F : Field) (i : Int) : (s.putS F i).flt = s.flt := rfl
@[simp] theorem State.putS_host (F : Field) (i : Int) : (s.putS F i).host = s.host := rfl
@[simp] theorem State.putS_arm (F : Field) (i : Int) : (s.putS F i).arm = s.arm := rfl
@[simp] theorem State.putS_rank (F : Field) (i : Int) : (s.putS F i).rank = s.rank := rfl
@[simp] theorem State.putS_enc (F : Field) (i : Int) : (s.putS F i).enc = s.enc := rfl
@[simp] theorem State.putS_rings (F : Field) (i : Int) : (s.putS F i).rings = s.rings := rfl
@[simp] theorem State.putS_lanes (F : Field) (i : Int) : (s.putS F i).lanes = s.lanes := rfl
@[simp] theorem State.putS_loops (F : Field) (i : Int) : (s.putS F i).loops = s.loops := rfl
@[simp] theorem State.putS_servo (F : Field) (i : Int) : (s.putS F i).servo = s.servo := rfl
@[simp] theorem State.putS_net (F : Field) (i : Int) : (s.putS F i).net = s.net := rfl
@[simp] theorem State.putS_pwm (F : Field) (i : Int) : (s.putS F i).pwm = s.pwm := rfl
@[simp] theorem State.putS_poss (F : Field) (i : Int) : (s.putS F i).poss = s.poss := rfl
@[simp] theorem State.putS_adcs (F : Field) (i : Int) : (s.putS F i).adcs = s.adcs := rfl
@[simp] theorem State.putS_sched (F : Field) (i : Int) : (s.putS F i).sched = s.sched := rfl
@[simp] theorem State.putS_sec (F : Field) (i : Int) : (s.putS F i).sec = s.sec := rfl
@[simp] theorem State.putS_nvm (F : Field) (i : Int) : (s.putS F i).nvm = s.nvm := rfl
@[simp] theorem State.putS_age (F : Field) (i : Int) : (s.putS F i).age = s.age := rfl
@[simp] theorem State.putS_canopy (F : Field) (i : Int) : (s.putS F i).canopy = s.canopy := rfl
@[simp] theorem State.putS_amber (F : Field) (i : Int) : (s.putS F i).amber = s.amber := rfl
@[simp] theorem State.putS_safe (F : Field) (i : Int) : (s.putS F i).safe = s.safe := rfl

/-! ## post -/

@[simp] theorem State.post_pending (e : Event) : (s.post e).pending = s.pending := rfl
@[simp] theorem State.post_variant (e : Event) : (s.post e).variant = s.variant := rfl
@[simp] theorem State.post_regs (e : Event) : (s.post e).regs = s.regs := rfl
@[simp] theorem State.post_conds (e : Event) : (s.post e).conds = s.conds := rfl
@[simp] theorem State.post_mem (e : Event) : (s.post e).mem = s.mem := rfl
@[simp] theorem State.post_memBad (e : Event) : (s.post e).memBad = s.memBad := rfl
@[simp] theorem State.post_time (e : Event) : (s.post e).time = s.time := rfl
@[simp] theorem State.post_elapsed (e : Event) : (s.post e).elapsed = s.elapsed := rfl
@[simp] theorem State.post_free (e : Event) : (s.post e).free = s.free := rfl
@[simp] theorem State.post_glades (e : Event) : (s.post e).glades = s.glades := rfl
@[simp] theorem State.post_host (e : Event) : (s.post e).host = s.host := rfl
@[simp] theorem State.post_arm (e : Event) : (s.post e).arm = s.arm := rfl
@[simp] theorem State.post_rank (e : Event) : (s.post e).rank = s.rank := rfl
@[simp] theorem State.post_enc (e : Event) : (s.post e).enc = s.enc := rfl
@[simp] theorem State.post_rings (e : Event) : (s.post e).rings = s.rings := rfl
@[simp] theorem State.post_lanes (e : Event) : (s.post e).lanes = s.lanes := rfl
@[simp] theorem State.post_loops (e : Event) : (s.post e).loops = s.loops := rfl
@[simp] theorem State.post_servo (e : Event) : (s.post e).servo = s.servo := rfl
@[simp] theorem State.post_net (e : Event) : (s.post e).net = s.net := rfl
@[simp] theorem State.post_pwm (e : Event) : (s.post e).pwm = s.pwm := rfl
@[simp] theorem State.post_poss (e : Event) : (s.post e).poss = s.poss := rfl
@[simp] theorem State.post_adcs (e : Event) : (s.post e).adcs = s.adcs := rfl
@[simp] theorem State.post_sched (e : Event) : (s.post e).sched = s.sched := rfl
@[simp] theorem State.post_sec (e : Event) : (s.post e).sec = s.sec := rfl
@[simp] theorem State.post_nvm (e : Event) : (s.post e).nvm = s.nvm := rfl
@[simp] theorem State.post_age (e : Event) : (s.post e).age = s.age := rfl
@[simp] theorem State.post_canopy (e : Event) : (s.post e).canopy = s.canopy := rfl
@[simp] theorem State.post_amber (e : Event) : (s.post e).amber = s.amber := rfl
@[simp] theorem State.post_safe (e : Event) : (s.post e).safe = s.safe := rfl

/-! ## config -/

@[simp] theorem State.config_pending (addr : Nat) : (s.config addr).pending = s.pending := rfl
@[simp] theorem State.config_variant (addr : Nat) : (s.config addr).variant = s.variant := rfl
@[simp] theorem State.config_regs (addr : Nat) : (s.config addr).regs = s.regs := rfl
@[simp] theorem State.config_conds (addr : Nat) : (s.config addr).conds = s.conds := rfl
@[simp] theorem State.config_mem (addr : Nat) : (s.config addr).mem = s.mem := rfl
@[simp] theorem State.config_memBad (addr : Nat) : (s.config addr).memBad = s.memBad := rfl
@[simp] theorem State.config_time (addr : Nat) : (s.config addr).time = s.time := rfl
@[simp] theorem State.config_elapsed (addr : Nat) : (s.config addr).elapsed = s.elapsed := rfl
@[simp] theorem State.config_free (addr : Nat) : (s.config addr).free = s.free := rfl
@[simp] theorem State.config_glades (addr : Nat) : (s.config addr).glades = s.glades := rfl
@[simp] theorem State.config_host (addr : Nat) : (s.config addr).host = s.host := rfl
@[simp] theorem State.config_arm (addr : Nat) : (s.config addr).arm = s.arm := rfl
@[simp] theorem State.config_rank (addr : Nat) : (s.config addr).rank = s.rank := rfl
@[simp] theorem State.config_enc (addr : Nat) : (s.config addr).enc = s.enc := rfl
@[simp] theorem State.config_rings (addr : Nat) : (s.config addr).rings = s.rings := rfl
@[simp] theorem State.config_lanes (addr : Nat) : (s.config addr).lanes = s.lanes := rfl
@[simp] theorem State.config_loops (addr : Nat) : (s.config addr).loops = s.loops := rfl
@[simp] theorem State.config_servo (addr : Nat) : (s.config addr).servo = s.servo := rfl
@[simp] theorem State.config_net (addr : Nat) : (s.config addr).net = s.net := rfl
@[simp] theorem State.config_pwm (addr : Nat) : (s.config addr).pwm = s.pwm := rfl
@[simp] theorem State.config_poss (addr : Nat) : (s.config addr).poss = s.poss := rfl
@[simp] theorem State.config_adcs (addr : Nat) : (s.config addr).adcs = s.adcs := rfl
@[simp] theorem State.config_sched (addr : Nat) : (s.config addr).sched = s.sched := rfl
@[simp] theorem State.config_sec (addr : Nat) : (s.config addr).sec = s.sec := rfl
@[simp] theorem State.config_nvm (addr : Nat) : (s.config addr).nvm = s.nvm := rfl
@[simp] theorem State.config_age (addr : Nat) : (s.config addr).age = s.age := rfl
@[simp] theorem State.config_canopy (addr : Nat) : (s.config addr).canopy = s.canopy := rfl
@[simp] theorem State.config_amber (addr : Nat) : (s.config addr).amber = s.amber := rfl
@[simp] theorem State.config_safe (addr : Nat) : (s.config addr).safe = s.safe := rfl

/-! ## event -/

@[simp] theorem State.event_pending (c : FaultClass) (unit aux : Nat) : (s.event c unit aux).pending = s.pending := rfl
@[simp] theorem State.event_variant (c : FaultClass) (unit aux : Nat) : (s.event c unit aux).variant = s.variant := rfl
@[simp] theorem State.event_regs (c : FaultClass) (unit aux : Nat) : (s.event c unit aux).regs = s.regs := rfl
@[simp] theorem State.event_conds (c : FaultClass) (unit aux : Nat) : (s.event c unit aux).conds = s.conds := rfl
@[simp] theorem State.event_mem (c : FaultClass) (unit aux : Nat) : (s.event c unit aux).mem = s.mem := rfl
@[simp] theorem State.event_memBad (c : FaultClass) (unit aux : Nat) : (s.event c unit aux).memBad = s.memBad := rfl
@[simp] theorem State.event_time (c : FaultClass) (unit aux : Nat) : (s.event c unit aux).time = s.time := rfl
@[simp] theorem State.event_elapsed (c : FaultClass) (unit aux : Nat) : (s.event c unit aux).elapsed = s.elapsed := rfl
@[simp] theorem State.event_free (c : FaultClass) (unit aux : Nat) : (s.event c unit aux).free = s.free := rfl
@[simp] theorem State.event_glades (c : FaultClass) (unit aux : Nat) : (s.event c unit aux).glades = s.glades := rfl
@[simp] theorem State.event_host (c : FaultClass) (unit aux : Nat) : (s.event c unit aux).host = s.host := rfl
@[simp] theorem State.event_arm (c : FaultClass) (unit aux : Nat) : (s.event c unit aux).arm = s.arm := rfl
@[simp] theorem State.event_rank (c : FaultClass) (unit aux : Nat) : (s.event c unit aux).rank = s.rank := rfl
@[simp] theorem State.event_enc (c : FaultClass) (unit aux : Nat) : (s.event c unit aux).enc = s.enc := rfl
@[simp] theorem State.event_rings (c : FaultClass) (unit aux : Nat) : (s.event c unit aux).rings = s.rings := rfl
@[simp] theorem State.event_lanes (c : FaultClass) (unit aux : Nat) : (s.event c unit aux).lanes = s.lanes := rfl
@[simp] theorem State.event_loops (c : FaultClass) (unit aux : Nat) : (s.event c unit aux).loops = s.loops := rfl
@[simp] theorem State.event_servo (c : FaultClass) (unit aux : Nat) : (s.event c unit aux).servo = s.servo := rfl
@[simp] theorem State.event_net (c : FaultClass) (unit aux : Nat) : (s.event c unit aux).net = s.net := rfl
@[simp] theorem State.event_pwm (c : FaultClass) (unit aux : Nat) : (s.event c unit aux).pwm = s.pwm := rfl
@[simp] theorem State.event_poss (c : FaultClass) (unit aux : Nat) : (s.event c unit aux).poss = s.poss := rfl
@[simp] theorem State.event_adcs (c : FaultClass) (unit aux : Nat) : (s.event c unit aux).adcs = s.adcs := rfl
@[simp] theorem State.event_sched (c : FaultClass) (unit aux : Nat) : (s.event c unit aux).sched = s.sched := rfl
@[simp] theorem State.event_sec (c : FaultClass) (unit aux : Nat) : (s.event c unit aux).sec = s.sec := rfl
@[simp] theorem State.event_nvm (c : FaultClass) (unit aux : Nat) : (s.event c unit aux).nvm = s.nvm := rfl
@[simp] theorem State.event_age (c : FaultClass) (unit aux : Nat) : (s.event c unit aux).age = s.age := rfl
@[simp] theorem State.event_canopy (c : FaultClass) (unit aux : Nat) : (s.event c unit aux).canopy = s.canopy := rfl
@[simp] theorem State.event_amber (c : FaultClass) (unit aux : Nat) : (s.event c unit aux).amber = s.amber := rfl
@[simp] theorem State.event_safe (c : FaultClass) (unit aux : Nat) : (s.event c unit aux).safe = s.safe := rfl

/-! ## event0 -/

@[simp] theorem State.event0_pending (c : FaultClass) (unit aux : Nat) : (s.event0 c unit aux).pending = s.pending := rfl
@[simp] theorem State.event0_variant (c : FaultClass) (unit aux : Nat) : (s.event0 c unit aux).variant = s.variant := rfl
@[simp] theorem State.event0_regs (c : FaultClass) (unit aux : Nat) : (s.event0 c unit aux).regs = s.regs := rfl
@[simp] theorem State.event0_conds (c : FaultClass) (unit aux : Nat) : (s.event0 c unit aux).conds = s.conds := rfl
@[simp] theorem State.event0_mem (c : FaultClass) (unit aux : Nat) : (s.event0 c unit aux).mem = s.mem := rfl
@[simp] theorem State.event0_memBad (c : FaultClass) (unit aux : Nat) : (s.event0 c unit aux).memBad = s.memBad := rfl
@[simp] theorem State.event0_time (c : FaultClass) (unit aux : Nat) : (s.event0 c unit aux).time = s.time := rfl
@[simp] theorem State.event0_elapsed (c : FaultClass) (unit aux : Nat) : (s.event0 c unit aux).elapsed = s.elapsed := rfl
@[simp] theorem State.event0_free (c : FaultClass) (unit aux : Nat) : (s.event0 c unit aux).free = s.free := rfl
@[simp] theorem State.event0_glades (c : FaultClass) (unit aux : Nat) : (s.event0 c unit aux).glades = s.glades := rfl
@[simp] theorem State.event0_host (c : FaultClass) (unit aux : Nat) : (s.event0 c unit aux).host = s.host := rfl
@[simp] theorem State.event0_arm (c : FaultClass) (unit aux : Nat) : (s.event0 c unit aux).arm = s.arm := rfl
@[simp] theorem State.event0_rank (c : FaultClass) (unit aux : Nat) : (s.event0 c unit aux).rank = s.rank := rfl
@[simp] theorem State.event0_enc (c : FaultClass) (unit aux : Nat) : (s.event0 c unit aux).enc = s.enc := rfl
@[simp] theorem State.event0_rings (c : FaultClass) (unit aux : Nat) : (s.event0 c unit aux).rings = s.rings := rfl
@[simp] theorem State.event0_lanes (c : FaultClass) (unit aux : Nat) : (s.event0 c unit aux).lanes = s.lanes := rfl
@[simp] theorem State.event0_loops (c : FaultClass) (unit aux : Nat) : (s.event0 c unit aux).loops = s.loops := rfl
@[simp] theorem State.event0_servo (c : FaultClass) (unit aux : Nat) : (s.event0 c unit aux).servo = s.servo := rfl
@[simp] theorem State.event0_net (c : FaultClass) (unit aux : Nat) : (s.event0 c unit aux).net = s.net := rfl
@[simp] theorem State.event0_pwm (c : FaultClass) (unit aux : Nat) : (s.event0 c unit aux).pwm = s.pwm := rfl
@[simp] theorem State.event0_poss (c : FaultClass) (unit aux : Nat) : (s.event0 c unit aux).poss = s.poss := rfl
@[simp] theorem State.event0_adcs (c : FaultClass) (unit aux : Nat) : (s.event0 c unit aux).adcs = s.adcs := rfl
@[simp] theorem State.event0_sched (c : FaultClass) (unit aux : Nat) : (s.event0 c unit aux).sched = s.sched := rfl
@[simp] theorem State.event0_sec (c : FaultClass) (unit aux : Nat) : (s.event0 c unit aux).sec = s.sec := rfl
@[simp] theorem State.event0_nvm (c : FaultClass) (unit aux : Nat) : (s.event0 c unit aux).nvm = s.nvm := rfl
@[simp] theorem State.event0_age (c : FaultClass) (unit aux : Nat) : (s.event0 c unit aux).age = s.age := rfl
@[simp] theorem State.event0_canopy (c : FaultClass) (unit aux : Nat) : (s.event0 c unit aux).canopy = s.canopy := rfl
@[simp] theorem State.event0_amber (c : FaultClass) (unit aux : Nat) : (s.event0 c unit aux).amber = s.amber := rfl
@[simp] theorem State.event0_safe (c : FaultClass) (unit aux : Nat) : (s.event0 c unit aux).safe = s.safe := rfl

/-! ## eventOpen -/

@[simp] theorem State.eventOpen_pending (c : FaultClass) (unit aux : Nat) : (s.eventOpen c unit aux).pending = s.pending := rfl
@[simp] theorem State.eventOpen_variant (c : FaultClass) (unit aux : Nat) : (s.eventOpen c unit aux).variant = s.variant := rfl
@[simp] theorem State.eventOpen_regs (c : FaultClass) (unit aux : Nat) : (s.eventOpen c unit aux).regs = s.regs := rfl
@[simp] theorem State.eventOpen_conds (c : FaultClass) (unit aux : Nat) : (s.eventOpen c unit aux).conds = s.conds := rfl
@[simp] theorem State.eventOpen_mem (c : FaultClass) (unit aux : Nat) : (s.eventOpen c unit aux).mem = s.mem := rfl
@[simp] theorem State.eventOpen_memBad (c : FaultClass) (unit aux : Nat) : (s.eventOpen c unit aux).memBad = s.memBad := rfl
@[simp] theorem State.eventOpen_time (c : FaultClass) (unit aux : Nat) : (s.eventOpen c unit aux).time = s.time := rfl
@[simp] theorem State.eventOpen_elapsed (c : FaultClass) (unit aux : Nat) : (s.eventOpen c unit aux).elapsed = s.elapsed := rfl
@[simp] theorem State.eventOpen_free (c : FaultClass) (unit aux : Nat) : (s.eventOpen c unit aux).free = s.free := rfl
@[simp] theorem State.eventOpen_glades (c : FaultClass) (unit aux : Nat) : (s.eventOpen c unit aux).glades = s.glades := rfl
@[simp] theorem State.eventOpen_host (c : FaultClass) (unit aux : Nat) : (s.eventOpen c unit aux).host = s.host := rfl
@[simp] theorem State.eventOpen_arm (c : FaultClass) (unit aux : Nat) : (s.eventOpen c unit aux).arm = s.arm := rfl
@[simp] theorem State.eventOpen_rank (c : FaultClass) (unit aux : Nat) : (s.eventOpen c unit aux).rank = s.rank := rfl
@[simp] theorem State.eventOpen_enc (c : FaultClass) (unit aux : Nat) : (s.eventOpen c unit aux).enc = s.enc := rfl
@[simp] theorem State.eventOpen_rings (c : FaultClass) (unit aux : Nat) : (s.eventOpen c unit aux).rings = s.rings := rfl
@[simp] theorem State.eventOpen_lanes (c : FaultClass) (unit aux : Nat) : (s.eventOpen c unit aux).lanes = s.lanes := rfl
@[simp] theorem State.eventOpen_loops (c : FaultClass) (unit aux : Nat) : (s.eventOpen c unit aux).loops = s.loops := rfl
@[simp] theorem State.eventOpen_servo (c : FaultClass) (unit aux : Nat) : (s.eventOpen c unit aux).servo = s.servo := rfl
@[simp] theorem State.eventOpen_net (c : FaultClass) (unit aux : Nat) : (s.eventOpen c unit aux).net = s.net := rfl
@[simp] theorem State.eventOpen_pwm (c : FaultClass) (unit aux : Nat) : (s.eventOpen c unit aux).pwm = s.pwm := rfl
@[simp] theorem State.eventOpen_poss (c : FaultClass) (unit aux : Nat) : (s.eventOpen c unit aux).poss = s.poss := rfl
@[simp] theorem State.eventOpen_adcs (c : FaultClass) (unit aux : Nat) : (s.eventOpen c unit aux).adcs = s.adcs := rfl
@[simp] theorem State.eventOpen_sched (c : FaultClass) (unit aux : Nat) : (s.eventOpen c unit aux).sched = s.sched := rfl
@[simp] theorem State.eventOpen_sec (c : FaultClass) (unit aux : Nat) : (s.eventOpen c unit aux).sec = s.sec := rfl
@[simp] theorem State.eventOpen_nvm (c : FaultClass) (unit aux : Nat) : (s.eventOpen c unit aux).nvm = s.nvm := rfl
@[simp] theorem State.eventOpen_age (c : FaultClass) (unit aux : Nat) : (s.eventOpen c unit aux).age = s.age := rfl
@[simp] theorem State.eventOpen_canopy (c : FaultClass) (unit aux : Nat) : (s.eventOpen c unit aux).canopy = s.canopy := rfl
@[simp] theorem State.eventOpen_amber (c : FaultClass) (unit aux : Nat) : (s.eventOpen c unit aux).amber = s.amber := rfl
@[simp] theorem State.eventOpen_safe (c : FaultClass) (unit aux : Nat) : (s.eventOpen c unit aux).safe = s.safe := rfl

/-! ## eventAt -/

@[simp] theorem State.eventAt_pending (c : FaultClass) (unit aux l : Nat) : (s.eventAt c unit aux l).pending = s.pending := rfl
@[simp] theorem State.eventAt_variant (c : FaultClass) (unit aux l : Nat) : (s.eventAt c unit aux l).variant = s.variant := rfl
@[simp] theorem State.eventAt_regs (c : FaultClass) (unit aux l : Nat) : (s.eventAt c unit aux l).regs = s.regs := rfl
@[simp] theorem State.eventAt_conds (c : FaultClass) (unit aux l : Nat) : (s.eventAt c unit aux l).conds = s.conds := rfl
@[simp] theorem State.eventAt_mem (c : FaultClass) (unit aux l : Nat) : (s.eventAt c unit aux l).mem = s.mem := rfl
@[simp] theorem State.eventAt_memBad (c : FaultClass) (unit aux l : Nat) : (s.eventAt c unit aux l).memBad = s.memBad := rfl
@[simp] theorem State.eventAt_time (c : FaultClass) (unit aux l : Nat) : (s.eventAt c unit aux l).time = s.time := rfl
@[simp] theorem State.eventAt_elapsed (c : FaultClass) (unit aux l : Nat) : (s.eventAt c unit aux l).elapsed = s.elapsed := rfl
@[simp] theorem State.eventAt_free (c : FaultClass) (unit aux l : Nat) : (s.eventAt c unit aux l).free = s.free := rfl
@[simp] theorem State.eventAt_glades (c : FaultClass) (unit aux l : Nat) : (s.eventAt c unit aux l).glades = s.glades := rfl
@[simp] theorem State.eventAt_host (c : FaultClass) (unit aux l : Nat) : (s.eventAt c unit aux l).host = s.host := rfl
@[simp] theorem State.eventAt_arm (c : FaultClass) (unit aux l : Nat) : (s.eventAt c unit aux l).arm = s.arm := rfl
@[simp] theorem State.eventAt_rank (c : FaultClass) (unit aux l : Nat) : (s.eventAt c unit aux l).rank = s.rank := rfl
@[simp] theorem State.eventAt_enc (c : FaultClass) (unit aux l : Nat) : (s.eventAt c unit aux l).enc = s.enc := rfl
@[simp] theorem State.eventAt_rings (c : FaultClass) (unit aux l : Nat) : (s.eventAt c unit aux l).rings = s.rings := rfl
@[simp] theorem State.eventAt_lanes (c : FaultClass) (unit aux l : Nat) : (s.eventAt c unit aux l).lanes = s.lanes := rfl
@[simp] theorem State.eventAt_loops (c : FaultClass) (unit aux l : Nat) : (s.eventAt c unit aux l).loops = s.loops := rfl
@[simp] theorem State.eventAt_servo (c : FaultClass) (unit aux l : Nat) : (s.eventAt c unit aux l).servo = s.servo := rfl
@[simp] theorem State.eventAt_net (c : FaultClass) (unit aux l : Nat) : (s.eventAt c unit aux l).net = s.net := rfl
@[simp] theorem State.eventAt_pwm (c : FaultClass) (unit aux l : Nat) : (s.eventAt c unit aux l).pwm = s.pwm := rfl
@[simp] theorem State.eventAt_poss (c : FaultClass) (unit aux l : Nat) : (s.eventAt c unit aux l).poss = s.poss := rfl
@[simp] theorem State.eventAt_adcs (c : FaultClass) (unit aux l : Nat) : (s.eventAt c unit aux l).adcs = s.adcs := rfl
@[simp] theorem State.eventAt_sched (c : FaultClass) (unit aux l : Nat) : (s.eventAt c unit aux l).sched = s.sched := rfl
@[simp] theorem State.eventAt_sec (c : FaultClass) (unit aux l : Nat) : (s.eventAt c unit aux l).sec = s.sec := rfl
@[simp] theorem State.eventAt_nvm (c : FaultClass) (unit aux l : Nat) : (s.eventAt c unit aux l).nvm = s.nvm := rfl
@[simp] theorem State.eventAt_age (c : FaultClass) (unit aux l : Nat) : (s.eventAt c unit aux l).age = s.age := rfl
@[simp] theorem State.eventAt_canopy (c : FaultClass) (unit aux l : Nat) : (s.eventAt c unit aux l).canopy = s.canopy := rfl
@[simp] theorem State.eventAt_amber (c : FaultClass) (unit aux l : Nat) : (s.eventAt c unit aux l).amber = s.amber := rfl
@[simp] theorem State.eventAt_safe (c : FaultClass) (unit aux l : Nat) : (s.eventAt c unit aux l).safe = s.safe := rfl

/-! ## setGlade -/

@[simp] theorem State.setGlade_pending (g : Nat) (x : GladeSt) : (s.setGlade g x).pending = s.pending := rfl
@[simp] theorem State.setGlade_variant (g : Nat) (x : GladeSt) : (s.setGlade g x).variant = s.variant := rfl
@[simp] theorem State.setGlade_regs (g : Nat) (x : GladeSt) : (s.setGlade g x).regs = s.regs := rfl
@[simp] theorem State.setGlade_conds (g : Nat) (x : GladeSt) : (s.setGlade g x).conds = s.conds := rfl
@[simp] theorem State.setGlade_mem (g : Nat) (x : GladeSt) : (s.setGlade g x).mem = s.mem := rfl
@[simp] theorem State.setGlade_memBad (g : Nat) (x : GladeSt) : (s.setGlade g x).memBad = s.memBad := rfl
@[simp] theorem State.setGlade_time (g : Nat) (x : GladeSt) : (s.setGlade g x).time = s.time := rfl
@[simp] theorem State.setGlade_elapsed (g : Nat) (x : GladeSt) : (s.setGlade g x).elapsed = s.elapsed := rfl
@[simp] theorem State.setGlade_free (g : Nat) (x : GladeSt) : (s.setGlade g x).free = s.free := rfl
@[simp] theorem State.setGlade_flt (g : Nat) (x : GladeSt) : (s.setGlade g x).flt = s.flt := rfl
@[simp] theorem State.setGlade_host (g : Nat) (x : GladeSt) : (s.setGlade g x).host = s.host := rfl
@[simp] theorem State.setGlade_arm (g : Nat) (x : GladeSt) : (s.setGlade g x).arm = s.arm := rfl
@[simp] theorem State.setGlade_rank (g : Nat) (x : GladeSt) : (s.setGlade g x).rank = s.rank := rfl
@[simp] theorem State.setGlade_enc (g : Nat) (x : GladeSt) : (s.setGlade g x).enc = s.enc := rfl
@[simp] theorem State.setGlade_rings (g : Nat) (x : GladeSt) : (s.setGlade g x).rings = s.rings := rfl
@[simp] theorem State.setGlade_lanes (g : Nat) (x : GladeSt) : (s.setGlade g x).lanes = s.lanes := rfl
@[simp] theorem State.setGlade_loops (g : Nat) (x : GladeSt) : (s.setGlade g x).loops = s.loops := rfl
@[simp] theorem State.setGlade_servo (g : Nat) (x : GladeSt) : (s.setGlade g x).servo = s.servo := rfl
@[simp] theorem State.setGlade_net (g : Nat) (x : GladeSt) : (s.setGlade g x).net = s.net := rfl
@[simp] theorem State.setGlade_pwm (g : Nat) (x : GladeSt) : (s.setGlade g x).pwm = s.pwm := rfl
@[simp] theorem State.setGlade_poss (g : Nat) (x : GladeSt) : (s.setGlade g x).poss = s.poss := rfl
@[simp] theorem State.setGlade_adcs (g : Nat) (x : GladeSt) : (s.setGlade g x).adcs = s.adcs := rfl
@[simp] theorem State.setGlade_sched (g : Nat) (x : GladeSt) : (s.setGlade g x).sched = s.sched := rfl
@[simp] theorem State.setGlade_sec (g : Nat) (x : GladeSt) : (s.setGlade g x).sec = s.sec := rfl
@[simp] theorem State.setGlade_nvm (g : Nat) (x : GladeSt) : (s.setGlade g x).nvm = s.nvm := rfl
@[simp] theorem State.setGlade_age (g : Nat) (x : GladeSt) : (s.setGlade g x).age = s.age := rfl
@[simp] theorem State.setGlade_canopy (g : Nat) (x : GladeSt) : (s.setGlade g x).canopy = s.canopy := rfl
@[simp] theorem State.setGlade_amber (g : Nat) (x : GladeSt) : (s.setGlade g x).amber = s.amber := rfl
@[simp] theorem State.setGlade_safe (g : Nat) (x : GladeSt) : (s.setGlade g x).safe = s.safe := rfl

/-! ## setRing -/

@[simp] theorem State.setRing_pending (n : Nat) (r : RingSt) : (s.setRing n r).pending = s.pending := rfl
@[simp] theorem State.setRing_variant (n : Nat) (r : RingSt) : (s.setRing n r).variant = s.variant := rfl
@[simp] theorem State.setRing_regs (n : Nat) (r : RingSt) : (s.setRing n r).regs = s.regs := rfl
@[simp] theorem State.setRing_conds (n : Nat) (r : RingSt) : (s.setRing n r).conds = s.conds := rfl
@[simp] theorem State.setRing_mem (n : Nat) (r : RingSt) : (s.setRing n r).mem = s.mem := rfl
@[simp] theorem State.setRing_memBad (n : Nat) (r : RingSt) : (s.setRing n r).memBad = s.memBad := rfl
@[simp] theorem State.setRing_time (n : Nat) (r : RingSt) : (s.setRing n r).time = s.time := rfl
@[simp] theorem State.setRing_elapsed (n : Nat) (r : RingSt) : (s.setRing n r).elapsed = s.elapsed := rfl
@[simp] theorem State.setRing_free (n : Nat) (r : RingSt) : (s.setRing n r).free = s.free := rfl
@[simp] theorem State.setRing_glades (n : Nat) (r : RingSt) : (s.setRing n r).glades = s.glades := rfl
@[simp] theorem State.setRing_flt (n : Nat) (r : RingSt) : (s.setRing n r).flt = s.flt := rfl
@[simp] theorem State.setRing_host (n : Nat) (r : RingSt) : (s.setRing n r).host = s.host := rfl
@[simp] theorem State.setRing_arm (n : Nat) (r : RingSt) : (s.setRing n r).arm = s.arm := rfl
@[simp] theorem State.setRing_rank (n : Nat) (r : RingSt) : (s.setRing n r).rank = s.rank := rfl
@[simp] theorem State.setRing_enc (n : Nat) (r : RingSt) : (s.setRing n r).enc = s.enc := rfl
@[simp] theorem State.setRing_lanes (n : Nat) (r : RingSt) : (s.setRing n r).lanes = s.lanes := rfl
@[simp] theorem State.setRing_loops (n : Nat) (r : RingSt) : (s.setRing n r).loops = s.loops := rfl
@[simp] theorem State.setRing_servo (n : Nat) (r : RingSt) : (s.setRing n r).servo = s.servo := rfl
@[simp] theorem State.setRing_net (n : Nat) (r : RingSt) : (s.setRing n r).net = s.net := rfl
@[simp] theorem State.setRing_pwm (n : Nat) (r : RingSt) : (s.setRing n r).pwm = s.pwm := rfl
@[simp] theorem State.setRing_poss (n : Nat) (r : RingSt) : (s.setRing n r).poss = s.poss := rfl
@[simp] theorem State.setRing_adcs (n : Nat) (r : RingSt) : (s.setRing n r).adcs = s.adcs := rfl
@[simp] theorem State.setRing_sched (n : Nat) (r : RingSt) : (s.setRing n r).sched = s.sched := rfl
@[simp] theorem State.setRing_sec (n : Nat) (r : RingSt) : (s.setRing n r).sec = s.sec := rfl
@[simp] theorem State.setRing_nvm (n : Nat) (r : RingSt) : (s.setRing n r).nvm = s.nvm := rfl
@[simp] theorem State.setRing_age (n : Nat) (r : RingSt) : (s.setRing n r).age = s.age := rfl
@[simp] theorem State.setRing_canopy (n : Nat) (r : RingSt) : (s.setRing n r).canopy = s.canopy := rfl
@[simp] theorem State.setRing_amber (n : Nat) (r : RingSt) : (s.setRing n r).amber = s.amber := rfl
@[simp] theorem State.setRing_safe (n : Nat) (r : RingSt) : (s.setRing n r).safe = s.safe := rfl

/-! ## setLane -/

@[simp] theorem State.setLane_pending (l : Nat) (x : LaneSt) : (s.setLane l x).pending = s.pending := rfl
@[simp] theorem State.setLane_variant (l : Nat) (x : LaneSt) : (s.setLane l x).variant = s.variant := rfl
@[simp] theorem State.setLane_regs (l : Nat) (x : LaneSt) : (s.setLane l x).regs = s.regs := rfl
@[simp] theorem State.setLane_conds (l : Nat) (x : LaneSt) : (s.setLane l x).conds = s.conds := rfl
@[simp] theorem State.setLane_mem (l : Nat) (x : LaneSt) : (s.setLane l x).mem = s.mem := rfl
@[simp] theorem State.setLane_memBad (l : Nat) (x : LaneSt) : (s.setLane l x).memBad = s.memBad := rfl
@[simp] theorem State.setLane_time (l : Nat) (x : LaneSt) : (s.setLane l x).time = s.time := rfl
@[simp] theorem State.setLane_elapsed (l : Nat) (x : LaneSt) : (s.setLane l x).elapsed = s.elapsed := rfl
@[simp] theorem State.setLane_free (l : Nat) (x : LaneSt) : (s.setLane l x).free = s.free := rfl
@[simp] theorem State.setLane_glades (l : Nat) (x : LaneSt) : (s.setLane l x).glades = s.glades := rfl
@[simp] theorem State.setLane_flt (l : Nat) (x : LaneSt) : (s.setLane l x).flt = s.flt := rfl
@[simp] theorem State.setLane_host (l : Nat) (x : LaneSt) : (s.setLane l x).host = s.host := rfl
@[simp] theorem State.setLane_arm (l : Nat) (x : LaneSt) : (s.setLane l x).arm = s.arm := rfl
@[simp] theorem State.setLane_rank (l : Nat) (x : LaneSt) : (s.setLane l x).rank = s.rank := rfl
@[simp] theorem State.setLane_enc (l : Nat) (x : LaneSt) : (s.setLane l x).enc = s.enc := rfl
@[simp] theorem State.setLane_rings (l : Nat) (x : LaneSt) : (s.setLane l x).rings = s.rings := rfl
@[simp] theorem State.setLane_loops (l : Nat) (x : LaneSt) : (s.setLane l x).loops = s.loops := rfl
@[simp] theorem State.setLane_servo (l : Nat) (x : LaneSt) : (s.setLane l x).servo = s.servo := rfl
@[simp] theorem State.setLane_net (l : Nat) (x : LaneSt) : (s.setLane l x).net = s.net := rfl
@[simp] theorem State.setLane_pwm (l : Nat) (x : LaneSt) : (s.setLane l x).pwm = s.pwm := rfl
@[simp] theorem State.setLane_poss (l : Nat) (x : LaneSt) : (s.setLane l x).poss = s.poss := rfl
@[simp] theorem State.setLane_adcs (l : Nat) (x : LaneSt) : (s.setLane l x).adcs = s.adcs := rfl
@[simp] theorem State.setLane_sched (l : Nat) (x : LaneSt) : (s.setLane l x).sched = s.sched := rfl
@[simp] theorem State.setLane_sec (l : Nat) (x : LaneSt) : (s.setLane l x).sec = s.sec := rfl
@[simp] theorem State.setLane_nvm (l : Nat) (x : LaneSt) : (s.setLane l x).nvm = s.nvm := rfl
@[simp] theorem State.setLane_age (l : Nat) (x : LaneSt) : (s.setLane l x).age = s.age := rfl
@[simp] theorem State.setLane_canopy (l : Nat) (x : LaneSt) : (s.setLane l x).canopy = s.canopy := rfl
@[simp] theorem State.setLane_amber (l : Nat) (x : LaneSt) : (s.setLane l x).amber = s.amber := rfl
@[simp] theorem State.setLane_safe (l : Nat) (x : LaneSt) : (s.setLane l x).safe = s.safe := rfl

/-! ## setLoop -/

@[simp] theorem State.setLoop_pending (k : Nat) (x : LoopSt) : (s.setLoop k x).pending = s.pending := rfl
@[simp] theorem State.setLoop_variant (k : Nat) (x : LoopSt) : (s.setLoop k x).variant = s.variant := rfl
@[simp] theorem State.setLoop_regs (k : Nat) (x : LoopSt) : (s.setLoop k x).regs = s.regs := rfl
@[simp] theorem State.setLoop_conds (k : Nat) (x : LoopSt) : (s.setLoop k x).conds = s.conds := rfl
@[simp] theorem State.setLoop_mem (k : Nat) (x : LoopSt) : (s.setLoop k x).mem = s.mem := rfl
@[simp] theorem State.setLoop_memBad (k : Nat) (x : LoopSt) : (s.setLoop k x).memBad = s.memBad := rfl
@[simp] theorem State.setLoop_time (k : Nat) (x : LoopSt) : (s.setLoop k x).time = s.time := rfl
@[simp] theorem State.setLoop_elapsed (k : Nat) (x : LoopSt) : (s.setLoop k x).elapsed = s.elapsed := rfl
@[simp] theorem State.setLoop_free (k : Nat) (x : LoopSt) : (s.setLoop k x).free = s.free := rfl
@[simp] theorem State.setLoop_glades (k : Nat) (x : LoopSt) : (s.setLoop k x).glades = s.glades := rfl
@[simp] theorem State.setLoop_flt (k : Nat) (x : LoopSt) : (s.setLoop k x).flt = s.flt := rfl
@[simp] theorem State.setLoop_host (k : Nat) (x : LoopSt) : (s.setLoop k x).host = s.host := rfl
@[simp] theorem State.setLoop_arm (k : Nat) (x : LoopSt) : (s.setLoop k x).arm = s.arm := rfl
@[simp] theorem State.setLoop_rank (k : Nat) (x : LoopSt) : (s.setLoop k x).rank = s.rank := rfl
@[simp] theorem State.setLoop_enc (k : Nat) (x : LoopSt) : (s.setLoop k x).enc = s.enc := rfl
@[simp] theorem State.setLoop_rings (k : Nat) (x : LoopSt) : (s.setLoop k x).rings = s.rings := rfl
@[simp] theorem State.setLoop_lanes (k : Nat) (x : LoopSt) : (s.setLoop k x).lanes = s.lanes := rfl
@[simp] theorem State.setLoop_servo (k : Nat) (x : LoopSt) : (s.setLoop k x).servo = s.servo := rfl
@[simp] theorem State.setLoop_net (k : Nat) (x : LoopSt) : (s.setLoop k x).net = s.net := rfl
@[simp] theorem State.setLoop_pwm (k : Nat) (x : LoopSt) : (s.setLoop k x).pwm = s.pwm := rfl
@[simp] theorem State.setLoop_poss (k : Nat) (x : LoopSt) : (s.setLoop k x).poss = s.poss := rfl
@[simp] theorem State.setLoop_adcs (k : Nat) (x : LoopSt) : (s.setLoop k x).adcs = s.adcs := rfl
@[simp] theorem State.setLoop_sched (k : Nat) (x : LoopSt) : (s.setLoop k x).sched = s.sched := rfl
@[simp] theorem State.setLoop_sec (k : Nat) (x : LoopSt) : (s.setLoop k x).sec = s.sec := rfl
@[simp] theorem State.setLoop_nvm (k : Nat) (x : LoopSt) : (s.setLoop k x).nvm = s.nvm := rfl
@[simp] theorem State.setLoop_age (k : Nat) (x : LoopSt) : (s.setLoop k x).age = s.age := rfl
@[simp] theorem State.setLoop_canopy (k : Nat) (x : LoopSt) : (s.setLoop k x).canopy = s.canopy := rfl
@[simp] theorem State.setLoop_amber (k : Nat) (x : LoopSt) : (s.setLoop k x).amber = s.amber := rfl
@[simp] theorem State.setLoop_safe (k : Nat) (x : LoopSt) : (s.setLoop k x).safe = s.safe := rfl

/-! ## setRec -/

@[simp] theorem State.setRec_pending (i : Nat) (r : SmRec) : (s.setRec i r).pending = s.pending := rfl
@[simp] theorem State.setRec_variant (i : Nat) (r : SmRec) : (s.setRec i r).variant = s.variant := rfl
@[simp] theorem State.setRec_regs (i : Nat) (r : SmRec) : (s.setRec i r).regs = s.regs := rfl
@[simp] theorem State.setRec_conds (i : Nat) (r : SmRec) : (s.setRec i r).conds = s.conds := rfl
@[simp] theorem State.setRec_mem (i : Nat) (r : SmRec) : (s.setRec i r).mem = s.mem := rfl
@[simp] theorem State.setRec_memBad (i : Nat) (r : SmRec) : (s.setRec i r).memBad = s.memBad := rfl
@[simp] theorem State.setRec_time (i : Nat) (r : SmRec) : (s.setRec i r).time = s.time := rfl
@[simp] theorem State.setRec_elapsed (i : Nat) (r : SmRec) : (s.setRec i r).elapsed = s.elapsed := rfl
@[simp] theorem State.setRec_free (i : Nat) (r : SmRec) : (s.setRec i r).free = s.free := rfl
@[simp] theorem State.setRec_glades (i : Nat) (r : SmRec) : (s.setRec i r).glades = s.glades := rfl
@[simp] theorem State.setRec_flt (i : Nat) (r : SmRec) : (s.setRec i r).flt = s.flt := rfl
@[simp] theorem State.setRec_host (i : Nat) (r : SmRec) : (s.setRec i r).host = s.host := rfl
@[simp] theorem State.setRec_arm (i : Nat) (r : SmRec) : (s.setRec i r).arm = s.arm := rfl
@[simp] theorem State.setRec_enc (i : Nat) (r : SmRec) : (s.setRec i r).enc = s.enc := rfl
@[simp] theorem State.setRec_rings (i : Nat) (r : SmRec) : (s.setRec i r).rings = s.rings := rfl
@[simp] theorem State.setRec_lanes (i : Nat) (r : SmRec) : (s.setRec i r).lanes = s.lanes := rfl
@[simp] theorem State.setRec_loops (i : Nat) (r : SmRec) : (s.setRec i r).loops = s.loops := rfl
@[simp] theorem State.setRec_servo (i : Nat) (r : SmRec) : (s.setRec i r).servo = s.servo := rfl
@[simp] theorem State.setRec_net (i : Nat) (r : SmRec) : (s.setRec i r).net = s.net := rfl
@[simp] theorem State.setRec_pwm (i : Nat) (r : SmRec) : (s.setRec i r).pwm = s.pwm := rfl
@[simp] theorem State.setRec_poss (i : Nat) (r : SmRec) : (s.setRec i r).poss = s.poss := rfl
@[simp] theorem State.setRec_adcs (i : Nat) (r : SmRec) : (s.setRec i r).adcs = s.adcs := rfl
@[simp] theorem State.setRec_sched (i : Nat) (r : SmRec) : (s.setRec i r).sched = s.sched := rfl
@[simp] theorem State.setRec_sec (i : Nat) (r : SmRec) : (s.setRec i r).sec = s.sec := rfl
@[simp] theorem State.setRec_nvm (i : Nat) (r : SmRec) : (s.setRec i r).nvm = s.nvm := rfl
@[simp] theorem State.setRec_age (i : Nat) (r : SmRec) : (s.setRec i r).age = s.age := rfl
@[simp] theorem State.setRec_canopy (i : Nat) (r : SmRec) : (s.setRec i r).canopy = s.canopy := rfl
@[simp] theorem State.setRec_amber (i : Nat) (r : SmRec) : (s.setRec i r).amber = s.amber := rfl
@[simp] theorem State.setRec_safe (i : Nat) (r : SmRec) : (s.setRec i r).safe = s.safe := rfl

/-! ## setProt -/

@[simp] theorem State.setProt_pending (i : Nat) (p : SmProt) : (s.setProt i p).pending = s.pending := rfl
@[simp] theorem State.setProt_variant (i : Nat) (p : SmProt) : (s.setProt i p).variant = s.variant := rfl
@[simp] theorem State.setProt_regs (i : Nat) (p : SmProt) : (s.setProt i p).regs = s.regs := rfl
@[simp] theorem State.setProt_conds (i : Nat) (p : SmProt) : (s.setProt i p).conds = s.conds := rfl
@[simp] theorem State.setProt_mem (i : Nat) (p : SmProt) : (s.setProt i p).mem = s.mem := rfl
@[simp] theorem State.setProt_memBad (i : Nat) (p : SmProt) : (s.setProt i p).memBad = s.memBad := rfl
@[simp] theorem State.setProt_time (i : Nat) (p : SmProt) : (s.setProt i p).time = s.time := rfl
@[simp] theorem State.setProt_elapsed (i : Nat) (p : SmProt) : (s.setProt i p).elapsed = s.elapsed := rfl
@[simp] theorem State.setProt_free (i : Nat) (p : SmProt) : (s.setProt i p).free = s.free := rfl
@[simp] theorem State.setProt_glades (i : Nat) (p : SmProt) : (s.setProt i p).glades = s.glades := rfl
@[simp] theorem State.setProt_flt (i : Nat) (p : SmProt) : (s.setProt i p).flt = s.flt := rfl
@[simp] theorem State.setProt_host (i : Nat) (p : SmProt) : (s.setProt i p).host = s.host := rfl
@[simp] theorem State.setProt_arm (i : Nat) (p : SmProt) : (s.setProt i p).arm = s.arm := rfl
@[simp] theorem State.setProt_rank (i : Nat) (p : SmProt) : (s.setProt i p).rank = s.rank := rfl
@[simp] theorem State.setProt_rings (i : Nat) (p : SmProt) : (s.setProt i p).rings = s.rings := rfl
@[simp] theorem State.setProt_lanes (i : Nat) (p : SmProt) : (s.setProt i p).lanes = s.lanes := rfl
@[simp] theorem State.setProt_loops (i : Nat) (p : SmProt) : (s.setProt i p).loops = s.loops := rfl
@[simp] theorem State.setProt_servo (i : Nat) (p : SmProt) : (s.setProt i p).servo = s.servo := rfl
@[simp] theorem State.setProt_net (i : Nat) (p : SmProt) : (s.setProt i p).net = s.net := rfl
@[simp] theorem State.setProt_pwm (i : Nat) (p : SmProt) : (s.setProt i p).pwm = s.pwm := rfl
@[simp] theorem State.setProt_poss (i : Nat) (p : SmProt) : (s.setProt i p).poss = s.poss := rfl
@[simp] theorem State.setProt_adcs (i : Nat) (p : SmProt) : (s.setProt i p).adcs = s.adcs := rfl
@[simp] theorem State.setProt_sched (i : Nat) (p : SmProt) : (s.setProt i p).sched = s.sched := rfl
@[simp] theorem State.setProt_sec (i : Nat) (p : SmProt) : (s.setProt i p).sec = s.sec := rfl
@[simp] theorem State.setProt_nvm (i : Nat) (p : SmProt) : (s.setProt i p).nvm = s.nvm := rfl
@[simp] theorem State.setProt_age (i : Nat) (p : SmProt) : (s.setProt i p).age = s.age := rfl
@[simp] theorem State.setProt_canopy (i : Nat) (p : SmProt) : (s.setProt i p).canopy = s.canopy := rfl
@[simp] theorem State.setProt_amber (i : Nat) (p : SmProt) : (s.setProt i p).amber = s.amber := rfl
@[simp] theorem State.setProt_safe (i : Nat) (p : SmProt) : (s.setProt i p).safe = s.safe := rfl

/-! ## setCh -/

@[simp] theorem State.setCh_pending (c : Nat) (x : ChSt) : (s.setCh c x).pending = s.pending := rfl
@[simp] theorem State.setCh_variant (c : Nat) (x : ChSt) : (s.setCh c x).variant = s.variant := rfl
@[simp] theorem State.setCh_regs (c : Nat) (x : ChSt) : (s.setCh c x).regs = s.regs := rfl
@[simp] theorem State.setCh_conds (c : Nat) (x : ChSt) : (s.setCh c x).conds = s.conds := rfl
@[simp] theorem State.setCh_mem (c : Nat) (x : ChSt) : (s.setCh c x).mem = s.mem := rfl
@[simp] theorem State.setCh_memBad (c : Nat) (x : ChSt) : (s.setCh c x).memBad = s.memBad := rfl
@[simp] theorem State.setCh_time (c : Nat) (x : ChSt) : (s.setCh c x).time = s.time := rfl
@[simp] theorem State.setCh_elapsed (c : Nat) (x : ChSt) : (s.setCh c x).elapsed = s.elapsed := rfl
@[simp] theorem State.setCh_free (c : Nat) (x : ChSt) : (s.setCh c x).free = s.free := rfl
@[simp] theorem State.setCh_glades (c : Nat) (x : ChSt) : (s.setCh c x).glades = s.glades := rfl
@[simp] theorem State.setCh_flt (c : Nat) (x : ChSt) : (s.setCh c x).flt = s.flt := rfl
@[simp] theorem State.setCh_host (c : Nat) (x : ChSt) : (s.setCh c x).host = s.host := rfl
@[simp] theorem State.setCh_arm (c : Nat) (x : ChSt) : (s.setCh c x).arm = s.arm := rfl
@[simp] theorem State.setCh_rank (c : Nat) (x : ChSt) : (s.setCh c x).rank = s.rank := rfl
@[simp] theorem State.setCh_enc (c : Nat) (x : ChSt) : (s.setCh c x).enc = s.enc := rfl
@[simp] theorem State.setCh_rings (c : Nat) (x : ChSt) : (s.setCh c x).rings = s.rings := rfl
@[simp] theorem State.setCh_lanes (c : Nat) (x : ChSt) : (s.setCh c x).lanes = s.lanes := rfl
@[simp] theorem State.setCh_loops (c : Nat) (x : ChSt) : (s.setCh c x).loops = s.loops := rfl
@[simp] theorem State.setCh_servo (c : Nat) (x : ChSt) : (s.setCh c x).servo = s.servo := rfl
@[simp] theorem State.setCh_net (c : Nat) (x : ChSt) : (s.setCh c x).net = s.net := rfl
@[simp] theorem State.setCh_poss (c : Nat) (x : ChSt) : (s.setCh c x).poss = s.poss := rfl
@[simp] theorem State.setCh_adcs (c : Nat) (x : ChSt) : (s.setCh c x).adcs = s.adcs := rfl
@[simp] theorem State.setCh_sched (c : Nat) (x : ChSt) : (s.setCh c x).sched = s.sched := rfl
@[simp] theorem State.setCh_sec (c : Nat) (x : ChSt) : (s.setCh c x).sec = s.sec := rfl
@[simp] theorem State.setCh_nvm (c : Nat) (x : ChSt) : (s.setCh c x).nvm = s.nvm := rfl
@[simp] theorem State.setCh_age (c : Nat) (x : ChSt) : (s.setCh c x).age = s.age := rfl
@[simp] theorem State.setCh_canopy (c : Nat) (x : ChSt) : (s.setCh c x).canopy = s.canopy := rfl
@[simp] theorem State.setCh_amber (c : Nat) (x : ChSt) : (s.setCh c x).amber = s.amber := rfl
@[simp] theorem State.setCh_safe (c : Nat) (x : ChSt) : (s.setCh c x).safe = s.safe := rfl

/-! ## setPos -/

@[simp] theorem State.setPos_pending (i : Nat) (x : PosSt) : (s.setPos i x).pending = s.pending := rfl
@[simp] theorem State.setPos_variant (i : Nat) (x : PosSt) : (s.setPos i x).variant = s.variant := rfl
@[simp] theorem State.setPos_regs (i : Nat) (x : PosSt) : (s.setPos i x).regs = s.regs := rfl
@[simp] theorem State.setPos_conds (i : Nat) (x : PosSt) : (s.setPos i x).conds = s.conds := rfl
@[simp] theorem State.setPos_mem (i : Nat) (x : PosSt) : (s.setPos i x).mem = s.mem := rfl
@[simp] theorem State.setPos_memBad (i : Nat) (x : PosSt) : (s.setPos i x).memBad = s.memBad := rfl
@[simp] theorem State.setPos_time (i : Nat) (x : PosSt) : (s.setPos i x).time = s.time := rfl
@[simp] theorem State.setPos_elapsed (i : Nat) (x : PosSt) : (s.setPos i x).elapsed = s.elapsed := rfl
@[simp] theorem State.setPos_free (i : Nat) (x : PosSt) : (s.setPos i x).free = s.free := rfl
@[simp] theorem State.setPos_glades (i : Nat) (x : PosSt) : (s.setPos i x).glades = s.glades := rfl
@[simp] theorem State.setPos_flt (i : Nat) (x : PosSt) : (s.setPos i x).flt = s.flt := rfl
@[simp] theorem State.setPos_host (i : Nat) (x : PosSt) : (s.setPos i x).host = s.host := rfl
@[simp] theorem State.setPos_arm (i : Nat) (x : PosSt) : (s.setPos i x).arm = s.arm := rfl
@[simp] theorem State.setPos_rank (i : Nat) (x : PosSt) : (s.setPos i x).rank = s.rank := rfl
@[simp] theorem State.setPos_enc (i : Nat) (x : PosSt) : (s.setPos i x).enc = s.enc := rfl
@[simp] theorem State.setPos_rings (i : Nat) (x : PosSt) : (s.setPos i x).rings = s.rings := rfl
@[simp] theorem State.setPos_lanes (i : Nat) (x : PosSt) : (s.setPos i x).lanes = s.lanes := rfl
@[simp] theorem State.setPos_loops (i : Nat) (x : PosSt) : (s.setPos i x).loops = s.loops := rfl
@[simp] theorem State.setPos_servo (i : Nat) (x : PosSt) : (s.setPos i x).servo = s.servo := rfl
@[simp] theorem State.setPos_net (i : Nat) (x : PosSt) : (s.setPos i x).net = s.net := rfl
@[simp] theorem State.setPos_pwm (i : Nat) (x : PosSt) : (s.setPos i x).pwm = s.pwm := rfl
@[simp] theorem State.setPos_adcs (i : Nat) (x : PosSt) : (s.setPos i x).adcs = s.adcs := rfl
@[simp] theorem State.setPos_sched (i : Nat) (x : PosSt) : (s.setPos i x).sched = s.sched := rfl
@[simp] theorem State.setPos_sec (i : Nat) (x : PosSt) : (s.setPos i x).sec = s.sec := rfl
@[simp] theorem State.setPos_nvm (i : Nat) (x : PosSt) : (s.setPos i x).nvm = s.nvm := rfl
@[simp] theorem State.setPos_age (i : Nat) (x : PosSt) : (s.setPos i x).age = s.age := rfl
@[simp] theorem State.setPos_canopy (i : Nat) (x : PosSt) : (s.setPos i x).canopy = s.canopy := rfl
@[simp] theorem State.setPos_amber (i : Nat) (x : PosSt) : (s.setPos i x).amber = s.amber := rfl
@[simp] theorem State.setPos_safe (i : Nat) (x : PosSt) : (s.setPos i x).safe = s.safe := rfl

/-! ## setAdc -/

@[simp] theorem State.setAdc_pending (c : Nat) (x : AdcSt) : (s.setAdc c x).pending = s.pending := rfl
@[simp] theorem State.setAdc_variant (c : Nat) (x : AdcSt) : (s.setAdc c x).variant = s.variant := rfl
@[simp] theorem State.setAdc_regs (c : Nat) (x : AdcSt) : (s.setAdc c x).regs = s.regs := rfl
@[simp] theorem State.setAdc_conds (c : Nat) (x : AdcSt) : (s.setAdc c x).conds = s.conds := rfl
@[simp] theorem State.setAdc_mem (c : Nat) (x : AdcSt) : (s.setAdc c x).mem = s.mem := rfl
@[simp] theorem State.setAdc_memBad (c : Nat) (x : AdcSt) : (s.setAdc c x).memBad = s.memBad := rfl
@[simp] theorem State.setAdc_time (c : Nat) (x : AdcSt) : (s.setAdc c x).time = s.time := rfl
@[simp] theorem State.setAdc_elapsed (c : Nat) (x : AdcSt) : (s.setAdc c x).elapsed = s.elapsed := rfl
@[simp] theorem State.setAdc_free (c : Nat) (x : AdcSt) : (s.setAdc c x).free = s.free := rfl
@[simp] theorem State.setAdc_glades (c : Nat) (x : AdcSt) : (s.setAdc c x).glades = s.glades := rfl
@[simp] theorem State.setAdc_flt (c : Nat) (x : AdcSt) : (s.setAdc c x).flt = s.flt := rfl
@[simp] theorem State.setAdc_host (c : Nat) (x : AdcSt) : (s.setAdc c x).host = s.host := rfl
@[simp] theorem State.setAdc_arm (c : Nat) (x : AdcSt) : (s.setAdc c x).arm = s.arm := rfl
@[simp] theorem State.setAdc_rank (c : Nat) (x : AdcSt) : (s.setAdc c x).rank = s.rank := rfl
@[simp] theorem State.setAdc_enc (c : Nat) (x : AdcSt) : (s.setAdc c x).enc = s.enc := rfl
@[simp] theorem State.setAdc_rings (c : Nat) (x : AdcSt) : (s.setAdc c x).rings = s.rings := rfl
@[simp] theorem State.setAdc_lanes (c : Nat) (x : AdcSt) : (s.setAdc c x).lanes = s.lanes := rfl
@[simp] theorem State.setAdc_loops (c : Nat) (x : AdcSt) : (s.setAdc c x).loops = s.loops := rfl
@[simp] theorem State.setAdc_servo (c : Nat) (x : AdcSt) : (s.setAdc c x).servo = s.servo := rfl
@[simp] theorem State.setAdc_net (c : Nat) (x : AdcSt) : (s.setAdc c x).net = s.net := rfl
@[simp] theorem State.setAdc_pwm (c : Nat) (x : AdcSt) : (s.setAdc c x).pwm = s.pwm := rfl
@[simp] theorem State.setAdc_poss (c : Nat) (x : AdcSt) : (s.setAdc c x).poss = s.poss := rfl
@[simp] theorem State.setAdc_sched (c : Nat) (x : AdcSt) : (s.setAdc c x).sched = s.sched := rfl
@[simp] theorem State.setAdc_sec (c : Nat) (x : AdcSt) : (s.setAdc c x).sec = s.sec := rfl
@[simp] theorem State.setAdc_nvm (c : Nat) (x : AdcSt) : (s.setAdc c x).nvm = s.nvm := rfl
@[simp] theorem State.setAdc_age (c : Nat) (x : AdcSt) : (s.setAdc c x).age = s.age := rfl
@[simp] theorem State.setAdc_canopy (c : Nat) (x : AdcSt) : (s.setAdc c x).canopy = s.canopy := rfl
@[simp] theorem State.setAdc_amber (c : Nat) (x : AdcSt) : (s.setAdc c x).amber = s.amber := rfl
@[simp] theorem State.setAdc_safe (c : Nat) (x : AdcSt) : (s.setAdc c x).safe = s.safe := rfl

/-! ## setTask -/

@[simp] theorem State.setTask_pending (t : Nat) (x : TaskSt) : (s.setTask t x).pending = s.pending := rfl
@[simp] theorem State.setTask_variant (t : Nat) (x : TaskSt) : (s.setTask t x).variant = s.variant := rfl
@[simp] theorem State.setTask_regs (t : Nat) (x : TaskSt) : (s.setTask t x).regs = s.regs := rfl
@[simp] theorem State.setTask_conds (t : Nat) (x : TaskSt) : (s.setTask t x).conds = s.conds := rfl
@[simp] theorem State.setTask_mem (t : Nat) (x : TaskSt) : (s.setTask t x).mem = s.mem := rfl
@[simp] theorem State.setTask_memBad (t : Nat) (x : TaskSt) : (s.setTask t x).memBad = s.memBad := rfl
@[simp] theorem State.setTask_time (t : Nat) (x : TaskSt) : (s.setTask t x).time = s.time := rfl
@[simp] theorem State.setTask_elapsed (t : Nat) (x : TaskSt) : (s.setTask t x).elapsed = s.elapsed := rfl
@[simp] theorem State.setTask_free (t : Nat) (x : TaskSt) : (s.setTask t x).free = s.free := rfl
@[simp] theorem State.setTask_glades (t : Nat) (x : TaskSt) : (s.setTask t x).glades = s.glades := rfl
@[simp] theorem State.setTask_flt (t : Nat) (x : TaskSt) : (s.setTask t x).flt = s.flt := rfl
@[simp] theorem State.setTask_host (t : Nat) (x : TaskSt) : (s.setTask t x).host = s.host := rfl
@[simp] theorem State.setTask_arm (t : Nat) (x : TaskSt) : (s.setTask t x).arm = s.arm := rfl
@[simp] theorem State.setTask_rank (t : Nat) (x : TaskSt) : (s.setTask t x).rank = s.rank := rfl
@[simp] theorem State.setTask_enc (t : Nat) (x : TaskSt) : (s.setTask t x).enc = s.enc := rfl
@[simp] theorem State.setTask_rings (t : Nat) (x : TaskSt) : (s.setTask t x).rings = s.rings := rfl
@[simp] theorem State.setTask_lanes (t : Nat) (x : TaskSt) : (s.setTask t x).lanes = s.lanes := rfl
@[simp] theorem State.setTask_loops (t : Nat) (x : TaskSt) : (s.setTask t x).loops = s.loops := rfl
@[simp] theorem State.setTask_servo (t : Nat) (x : TaskSt) : (s.setTask t x).servo = s.servo := rfl
@[simp] theorem State.setTask_net (t : Nat) (x : TaskSt) : (s.setTask t x).net = s.net := rfl
@[simp] theorem State.setTask_pwm (t : Nat) (x : TaskSt) : (s.setTask t x).pwm = s.pwm := rfl
@[simp] theorem State.setTask_poss (t : Nat) (x : TaskSt) : (s.setTask t x).poss = s.poss := rfl
@[simp] theorem State.setTask_adcs (t : Nat) (x : TaskSt) : (s.setTask t x).adcs = s.adcs := rfl
@[simp] theorem State.setTask_sec (t : Nat) (x : TaskSt) : (s.setTask t x).sec = s.sec := rfl
@[simp] theorem State.setTask_nvm (t : Nat) (x : TaskSt) : (s.setTask t x).nvm = s.nvm := rfl
@[simp] theorem State.setTask_age (t : Nat) (x : TaskSt) : (s.setTask t x).age = s.age := rfl
@[simp] theorem State.setTask_canopy (t : Nat) (x : TaskSt) : (s.setTask t x).canopy = s.canopy := rfl
@[simp] theorem State.setTask_amber (t : Nat) (x : TaskSt) : (s.setTask t x).amber = s.amber := rfl
@[simp] theorem State.setTask_safe (t : Nat) (x : TaskSt) : (s.setTask t x).safe = s.safe := rfl

/-! ## setCore -/

@[simp] theorem State.setCore_pending (u : Nat) (c : CoreSt) : (s.setCore u c).pending = s.pending := rfl
@[simp] theorem State.setCore_variant (u : Nat) (c : CoreSt) : (s.setCore u c).variant = s.variant := rfl
@[simp] theorem State.setCore_regs (u : Nat) (c : CoreSt) : (s.setCore u c).regs = s.regs := rfl
@[simp] theorem State.setCore_conds (u : Nat) (c : CoreSt) : (s.setCore u c).conds = s.conds := rfl
@[simp] theorem State.setCore_mem (u : Nat) (c : CoreSt) : (s.setCore u c).mem = s.mem := rfl
@[simp] theorem State.setCore_memBad (u : Nat) (c : CoreSt) : (s.setCore u c).memBad = s.memBad := rfl
@[simp] theorem State.setCore_time (u : Nat) (c : CoreSt) : (s.setCore u c).time = s.time := rfl
@[simp] theorem State.setCore_elapsed (u : Nat) (c : CoreSt) : (s.setCore u c).elapsed = s.elapsed := rfl
@[simp] theorem State.setCore_free (u : Nat) (c : CoreSt) : (s.setCore u c).free = s.free := rfl
@[simp] theorem State.setCore_glades (u : Nat) (c : CoreSt) : (s.setCore u c).glades = s.glades := rfl
@[simp] theorem State.setCore_flt (u : Nat) (c : CoreSt) : (s.setCore u c).flt = s.flt := rfl
@[simp] theorem State.setCore_host (u : Nat) (c : CoreSt) : (s.setCore u c).host = s.host := rfl
@[simp] theorem State.setCore_arm (u : Nat) (c : CoreSt) : (s.setCore u c).arm = s.arm := rfl
@[simp] theorem State.setCore_rank (u : Nat) (c : CoreSt) : (s.setCore u c).rank = s.rank := rfl
@[simp] theorem State.setCore_enc (u : Nat) (c : CoreSt) : (s.setCore u c).enc = s.enc := rfl
@[simp] theorem State.setCore_rings (u : Nat) (c : CoreSt) : (s.setCore u c).rings = s.rings := rfl
@[simp] theorem State.setCore_lanes (u : Nat) (c : CoreSt) : (s.setCore u c).lanes = s.lanes := rfl
@[simp] theorem State.setCore_loops (u : Nat) (c : CoreSt) : (s.setCore u c).loops = s.loops := rfl
@[simp] theorem State.setCore_servo (u : Nat) (c : CoreSt) : (s.setCore u c).servo = s.servo := rfl
@[simp] theorem State.setCore_net (u : Nat) (c : CoreSt) : (s.setCore u c).net = s.net := rfl
@[simp] theorem State.setCore_pwm (u : Nat) (c : CoreSt) : (s.setCore u c).pwm = s.pwm := rfl
@[simp] theorem State.setCore_poss (u : Nat) (c : CoreSt) : (s.setCore u c).poss = s.poss := rfl
@[simp] theorem State.setCore_adcs (u : Nat) (c : CoreSt) : (s.setCore u c).adcs = s.adcs := rfl
@[simp] theorem State.setCore_sec (u : Nat) (c : CoreSt) : (s.setCore u c).sec = s.sec := rfl
@[simp] theorem State.setCore_nvm (u : Nat) (c : CoreSt) : (s.setCore u c).nvm = s.nvm := rfl
@[simp] theorem State.setCore_age (u : Nat) (c : CoreSt) : (s.setCore u c).age = s.age := rfl
@[simp] theorem State.setCore_canopy (u : Nat) (c : CoreSt) : (s.setCore u c).canopy = s.canopy := rfl
@[simp] theorem State.setCore_amber (u : Nat) (c : CoreSt) : (s.setCore u c).amber = s.amber := rfl
@[simp] theorem State.setCore_safe (u : Nat) (c : CoreSt) : (s.setCore u c).safe = s.safe := rfl

/-! ## setPort -/

@[simp] theorem State.setPort_pending (p : Nat) (x : PortSt) : (s.setPort p x).pending = s.pending := rfl
@[simp] theorem State.setPort_variant (p : Nat) (x : PortSt) : (s.setPort p x).variant = s.variant := rfl
@[simp] theorem State.setPort_regs (p : Nat) (x : PortSt) : (s.setPort p x).regs = s.regs := rfl
@[simp] theorem State.setPort_conds (p : Nat) (x : PortSt) : (s.setPort p x).conds = s.conds := rfl
@[simp] theorem State.setPort_mem (p : Nat) (x : PortSt) : (s.setPort p x).mem = s.mem := rfl
@[simp] theorem State.setPort_memBad (p : Nat) (x : PortSt) : (s.setPort p x).memBad = s.memBad := rfl
@[simp] theorem State.setPort_time (p : Nat) (x : PortSt) : (s.setPort p x).time = s.time := rfl
@[simp] theorem State.setPort_elapsed (p : Nat) (x : PortSt) : (s.setPort p x).elapsed = s.elapsed := rfl
@[simp] theorem State.setPort_free (p : Nat) (x : PortSt) : (s.setPort p x).free = s.free := rfl
@[simp] theorem State.setPort_glades (p : Nat) (x : PortSt) : (s.setPort p x).glades = s.glades := rfl
@[simp] theorem State.setPort_flt (p : Nat) (x : PortSt) : (s.setPort p x).flt = s.flt := rfl
@[simp] theorem State.setPort_host (p : Nat) (x : PortSt) : (s.setPort p x).host = s.host := rfl
@[simp] theorem State.setPort_arm (p : Nat) (x : PortSt) : (s.setPort p x).arm = s.arm := rfl
@[simp] theorem State.setPort_rank (p : Nat) (x : PortSt) : (s.setPort p x).rank = s.rank := rfl
@[simp] theorem State.setPort_enc (p : Nat) (x : PortSt) : (s.setPort p x).enc = s.enc := rfl
@[simp] theorem State.setPort_rings (p : Nat) (x : PortSt) : (s.setPort p x).rings = s.rings := rfl
@[simp] theorem State.setPort_lanes (p : Nat) (x : PortSt) : (s.setPort p x).lanes = s.lanes := rfl
@[simp] theorem State.setPort_loops (p : Nat) (x : PortSt) : (s.setPort p x).loops = s.loops := rfl
@[simp] theorem State.setPort_servo (p : Nat) (x : PortSt) : (s.setPort p x).servo = s.servo := rfl
@[simp] theorem State.setPort_net (p : Nat) (x : PortSt) : (s.setPort p x).net = s.net := rfl
@[simp] theorem State.setPort_pwm (p : Nat) (x : PortSt) : (s.setPort p x).pwm = s.pwm := rfl
@[simp] theorem State.setPort_poss (p : Nat) (x : PortSt) : (s.setPort p x).poss = s.poss := rfl
@[simp] theorem State.setPort_adcs (p : Nat) (x : PortSt) : (s.setPort p x).adcs = s.adcs := rfl
@[simp] theorem State.setPort_sched (p : Nat) (x : PortSt) : (s.setPort p x).sched = s.sched := rfl
@[simp] theorem State.setPort_sec (p : Nat) (x : PortSt) : (s.setPort p x).sec = s.sec := rfl
@[simp] theorem State.setPort_nvm (p : Nat) (x : PortSt) : (s.setPort p x).nvm = s.nvm := rfl
@[simp] theorem State.setPort_age (p : Nat) (x : PortSt) : (s.setPort p x).age = s.age := rfl
@[simp] theorem State.setPort_amber (p : Nat) (x : PortSt) : (s.setPort p x).amber = s.amber := rfl
@[simp] theorem State.setPort_safe (p : Nat) (x : PortSt) : (s.setPort p x).safe = s.safe := rfl

/-! ## setServo -/

@[simp] theorem State.setServo_pending (x : ServoSt) : (s.setServo x).pending = s.pending := rfl
@[simp] theorem State.setServo_variant (x : ServoSt) : (s.setServo x).variant = s.variant := rfl
@[simp] theorem State.setServo_regs (x : ServoSt) : (s.setServo x).regs = s.regs := rfl
@[simp] theorem State.setServo_conds (x : ServoSt) : (s.setServo x).conds = s.conds := rfl
@[simp] theorem State.setServo_mem (x : ServoSt) : (s.setServo x).mem = s.mem := rfl
@[simp] theorem State.setServo_memBad (x : ServoSt) : (s.setServo x).memBad = s.memBad := rfl
@[simp] theorem State.setServo_time (x : ServoSt) : (s.setServo x).time = s.time := rfl
@[simp] theorem State.setServo_elapsed (x : ServoSt) : (s.setServo x).elapsed = s.elapsed := rfl
@[simp] theorem State.setServo_free (x : ServoSt) : (s.setServo x).free = s.free := rfl
@[simp] theorem State.setServo_glades (x : ServoSt) : (s.setServo x).glades = s.glades := rfl
@[simp] theorem State.setServo_flt (x : ServoSt) : (s.setServo x).flt = s.flt := rfl
@[simp] theorem State.setServo_host (x : ServoSt) : (s.setServo x).host = s.host := rfl
@[simp] theorem State.setServo_arm (x : ServoSt) : (s.setServo x).arm = s.arm := rfl
@[simp] theorem State.setServo_rank (x : ServoSt) : (s.setServo x).rank = s.rank := rfl
@[simp] theorem State.setServo_enc (x : ServoSt) : (s.setServo x).enc = s.enc := rfl
@[simp] theorem State.setServo_rings (x : ServoSt) : (s.setServo x).rings = s.rings := rfl
@[simp] theorem State.setServo_lanes (x : ServoSt) : (s.setServo x).lanes = s.lanes := rfl
@[simp] theorem State.setServo_loops (x : ServoSt) : (s.setServo x).loops = s.loops := rfl
@[simp] theorem State.setServo_net (x : ServoSt) : (s.setServo x).net = s.net := rfl
@[simp] theorem State.setServo_pwm (x : ServoSt) : (s.setServo x).pwm = s.pwm := rfl
@[simp] theorem State.setServo_poss (x : ServoSt) : (s.setServo x).poss = s.poss := rfl
@[simp] theorem State.setServo_adcs (x : ServoSt) : (s.setServo x).adcs = s.adcs := rfl
@[simp] theorem State.setServo_sched (x : ServoSt) : (s.setServo x).sched = s.sched := rfl
@[simp] theorem State.setServo_sec (x : ServoSt) : (s.setServo x).sec = s.sec := rfl
@[simp] theorem State.setServo_nvm (x : ServoSt) : (s.setServo x).nvm = s.nvm := rfl
@[simp] theorem State.setServo_age (x : ServoSt) : (s.setServo x).age = s.age := rfl
@[simp] theorem State.setServo_canopy (x : ServoSt) : (s.setServo x).canopy = s.canopy := rfl
@[simp] theorem State.setServo_amber (x : ServoSt) : (s.setServo x).amber = s.amber := rfl
@[simp] theorem State.setServo_safe (x : ServoSt) : (s.setServo x).safe = s.safe := rfl

/-! ## modNet -/

@[simp] theorem State.modNet_pending (f : NetSt → NetSt) : (s.modNet f).pending = s.pending := rfl
@[simp] theorem State.modNet_variant (f : NetSt → NetSt) : (s.modNet f).variant = s.variant := rfl
@[simp] theorem State.modNet_regs (f : NetSt → NetSt) : (s.modNet f).regs = s.regs := rfl
@[simp] theorem State.modNet_conds (f : NetSt → NetSt) : (s.modNet f).conds = s.conds := rfl
@[simp] theorem State.modNet_mem (f : NetSt → NetSt) : (s.modNet f).mem = s.mem := rfl
@[simp] theorem State.modNet_memBad (f : NetSt → NetSt) : (s.modNet f).memBad = s.memBad := rfl
@[simp] theorem State.modNet_time (f : NetSt → NetSt) : (s.modNet f).time = s.time := rfl
@[simp] theorem State.modNet_elapsed (f : NetSt → NetSt) : (s.modNet f).elapsed = s.elapsed := rfl
@[simp] theorem State.modNet_free (f : NetSt → NetSt) : (s.modNet f).free = s.free := rfl
@[simp] theorem State.modNet_glades (f : NetSt → NetSt) : (s.modNet f).glades = s.glades := rfl
@[simp] theorem State.modNet_flt (f : NetSt → NetSt) : (s.modNet f).flt = s.flt := rfl
@[simp] theorem State.modNet_host (f : NetSt → NetSt) : (s.modNet f).host = s.host := rfl
@[simp] theorem State.modNet_arm (f : NetSt → NetSt) : (s.modNet f).arm = s.arm := rfl
@[simp] theorem State.modNet_rank (f : NetSt → NetSt) : (s.modNet f).rank = s.rank := rfl
@[simp] theorem State.modNet_enc (f : NetSt → NetSt) : (s.modNet f).enc = s.enc := rfl
@[simp] theorem State.modNet_rings (f : NetSt → NetSt) : (s.modNet f).rings = s.rings := rfl
@[simp] theorem State.modNet_lanes (f : NetSt → NetSt) : (s.modNet f).lanes = s.lanes := rfl
@[simp] theorem State.modNet_loops (f : NetSt → NetSt) : (s.modNet f).loops = s.loops := rfl
@[simp] theorem State.modNet_servo (f : NetSt → NetSt) : (s.modNet f).servo = s.servo := rfl
@[simp] theorem State.modNet_pwm (f : NetSt → NetSt) : (s.modNet f).pwm = s.pwm := rfl
@[simp] theorem State.modNet_poss (f : NetSt → NetSt) : (s.modNet f).poss = s.poss := rfl
@[simp] theorem State.modNet_adcs (f : NetSt → NetSt) : (s.modNet f).adcs = s.adcs := rfl
@[simp] theorem State.modNet_sched (f : NetSt → NetSt) : (s.modNet f).sched = s.sched := rfl
@[simp] theorem State.modNet_sec (f : NetSt → NetSt) : (s.modNet f).sec = s.sec := rfl
@[simp] theorem State.modNet_nvm (f : NetSt → NetSt) : (s.modNet f).nvm = s.nvm := rfl
@[simp] theorem State.modNet_age (f : NetSt → NetSt) : (s.modNet f).age = s.age := rfl
@[simp] theorem State.modNet_canopy (f : NetSt → NetSt) : (s.modNet f).canopy = s.canopy := rfl
@[simp] theorem State.modNet_amber (f : NetSt → NetSt) : (s.modNet f).amber = s.amber := rfl
@[simp] theorem State.modNet_safe (f : NetSt → NetSt) : (s.modNet f).safe = s.safe := rfl

/-! ## modAmber -/

@[simp] theorem State.modAmber_pending (f : AmberSt → AmberSt) : (s.modAmber f).pending = s.pending := rfl
@[simp] theorem State.modAmber_variant (f : AmberSt → AmberSt) : (s.modAmber f).variant = s.variant := rfl
@[simp] theorem State.modAmber_regs (f : AmberSt → AmberSt) : (s.modAmber f).regs = s.regs := rfl
@[simp] theorem State.modAmber_conds (f : AmberSt → AmberSt) : (s.modAmber f).conds = s.conds := rfl
@[simp] theorem State.modAmber_mem (f : AmberSt → AmberSt) : (s.modAmber f).mem = s.mem := rfl
@[simp] theorem State.modAmber_memBad (f : AmberSt → AmberSt) : (s.modAmber f).memBad = s.memBad := rfl
@[simp] theorem State.modAmber_time (f : AmberSt → AmberSt) : (s.modAmber f).time = s.time := rfl
@[simp] theorem State.modAmber_elapsed (f : AmberSt → AmberSt) : (s.modAmber f).elapsed = s.elapsed := rfl
@[simp] theorem State.modAmber_free (f : AmberSt → AmberSt) : (s.modAmber f).free = s.free := rfl
@[simp] theorem State.modAmber_glades (f : AmberSt → AmberSt) : (s.modAmber f).glades = s.glades := rfl
@[simp] theorem State.modAmber_flt (f : AmberSt → AmberSt) : (s.modAmber f).flt = s.flt := rfl
@[simp] theorem State.modAmber_host (f : AmberSt → AmberSt) : (s.modAmber f).host = s.host := rfl
@[simp] theorem State.modAmber_arm (f : AmberSt → AmberSt) : (s.modAmber f).arm = s.arm := rfl
@[simp] theorem State.modAmber_rank (f : AmberSt → AmberSt) : (s.modAmber f).rank = s.rank := rfl
@[simp] theorem State.modAmber_enc (f : AmberSt → AmberSt) : (s.modAmber f).enc = s.enc := rfl
@[simp] theorem State.modAmber_rings (f : AmberSt → AmberSt) : (s.modAmber f).rings = s.rings := rfl
@[simp] theorem State.modAmber_lanes (f : AmberSt → AmberSt) : (s.modAmber f).lanes = s.lanes := rfl
@[simp] theorem State.modAmber_loops (f : AmberSt → AmberSt) : (s.modAmber f).loops = s.loops := rfl
@[simp] theorem State.modAmber_servo (f : AmberSt → AmberSt) : (s.modAmber f).servo = s.servo := rfl
@[simp] theorem State.modAmber_net (f : AmberSt → AmberSt) : (s.modAmber f).net = s.net := rfl
@[simp] theorem State.modAmber_pwm (f : AmberSt → AmberSt) : (s.modAmber f).pwm = s.pwm := rfl
@[simp] theorem State.modAmber_poss (f : AmberSt → AmberSt) : (s.modAmber f).poss = s.poss := rfl
@[simp] theorem State.modAmber_adcs (f : AmberSt → AmberSt) : (s.modAmber f).adcs = s.adcs := rfl
@[simp] theorem State.modAmber_sched (f : AmberSt → AmberSt) : (s.modAmber f).sched = s.sched := rfl
@[simp] theorem State.modAmber_sec (f : AmberSt → AmberSt) : (s.modAmber f).sec = s.sec := rfl
@[simp] theorem State.modAmber_nvm (f : AmberSt → AmberSt) : (s.modAmber f).nvm = s.nvm := rfl
@[simp] theorem State.modAmber_age (f : AmberSt → AmberSt) : (s.modAmber f).age = s.age := rfl
@[simp] theorem State.modAmber_canopy (f : AmberSt → AmberSt) : (s.modAmber f).canopy = s.canopy := rfl
@[simp] theorem State.modAmber_safe (f : AmberSt → AmberSt) : (s.modAmber f).safe = s.safe := rfl

/-! ## modSec -/

@[simp] theorem State.modSec_pending (f : SecSt → SecSt) : (s.modSec f).pending = s.pending := rfl
@[simp] theorem State.modSec_variant (f : SecSt → SecSt) : (s.modSec f).variant = s.variant := rfl
@[simp] theorem State.modSec_regs (f : SecSt → SecSt) : (s.modSec f).regs = s.regs := rfl
@[simp] theorem State.modSec_conds (f : SecSt → SecSt) : (s.modSec f).conds = s.conds := rfl
@[simp] theorem State.modSec_mem (f : SecSt → SecSt) : (s.modSec f).mem = s.mem := rfl
@[simp] theorem State.modSec_memBad (f : SecSt → SecSt) : (s.modSec f).memBad = s.memBad := rfl
@[simp] theorem State.modSec_time (f : SecSt → SecSt) : (s.modSec f).time = s.time := rfl
@[simp] theorem State.modSec_elapsed (f : SecSt → SecSt) : (s.modSec f).elapsed = s.elapsed := rfl
@[simp] theorem State.modSec_free (f : SecSt → SecSt) : (s.modSec f).free = s.free := rfl
@[simp] theorem State.modSec_glades (f : SecSt → SecSt) : (s.modSec f).glades = s.glades := rfl
@[simp] theorem State.modSec_flt (f : SecSt → SecSt) : (s.modSec f).flt = s.flt := rfl
@[simp] theorem State.modSec_host (f : SecSt → SecSt) : (s.modSec f).host = s.host := rfl
@[simp] theorem State.modSec_arm (f : SecSt → SecSt) : (s.modSec f).arm = s.arm := rfl
@[simp] theorem State.modSec_rank (f : SecSt → SecSt) : (s.modSec f).rank = s.rank := rfl
@[simp] theorem State.modSec_enc (f : SecSt → SecSt) : (s.modSec f).enc = s.enc := rfl
@[simp] theorem State.modSec_rings (f : SecSt → SecSt) : (s.modSec f).rings = s.rings := rfl
@[simp] theorem State.modSec_lanes (f : SecSt → SecSt) : (s.modSec f).lanes = s.lanes := rfl
@[simp] theorem State.modSec_loops (f : SecSt → SecSt) : (s.modSec f).loops = s.loops := rfl
@[simp] theorem State.modSec_servo (f : SecSt → SecSt) : (s.modSec f).servo = s.servo := rfl
@[simp] theorem State.modSec_net (f : SecSt → SecSt) : (s.modSec f).net = s.net := rfl
@[simp] theorem State.modSec_pwm (f : SecSt → SecSt) : (s.modSec f).pwm = s.pwm := rfl
@[simp] theorem State.modSec_poss (f : SecSt → SecSt) : (s.modSec f).poss = s.poss := rfl
@[simp] theorem State.modSec_adcs (f : SecSt → SecSt) : (s.modSec f).adcs = s.adcs := rfl
@[simp] theorem State.modSec_sched (f : SecSt → SecSt) : (s.modSec f).sched = s.sched := rfl
@[simp] theorem State.modSec_nvm (f : SecSt → SecSt) : (s.modSec f).nvm = s.nvm := rfl
@[simp] theorem State.modSec_age (f : SecSt → SecSt) : (s.modSec f).age = s.age := rfl
@[simp] theorem State.modSec_canopy (f : SecSt → SecSt) : (s.modSec f).canopy = s.canopy := rfl
@[simp] theorem State.modSec_amber (f : SecSt → SecSt) : (s.modSec f).amber = s.amber := rfl
@[simp] theorem State.modSec_safe (f : SecSt → SecSt) : (s.modSec f).safe = s.safe := rfl

/-! ## modNvm -/

@[simp] theorem State.modNvm_pending (f : NvmSt → NvmSt) : (s.modNvm f).pending = s.pending := rfl
@[simp] theorem State.modNvm_variant (f : NvmSt → NvmSt) : (s.modNvm f).variant = s.variant := rfl
@[simp] theorem State.modNvm_regs (f : NvmSt → NvmSt) : (s.modNvm f).regs = s.regs := rfl
@[simp] theorem State.modNvm_conds (f : NvmSt → NvmSt) : (s.modNvm f).conds = s.conds := rfl
@[simp] theorem State.modNvm_mem (f : NvmSt → NvmSt) : (s.modNvm f).mem = s.mem := rfl
@[simp] theorem State.modNvm_memBad (f : NvmSt → NvmSt) : (s.modNvm f).memBad = s.memBad := rfl
@[simp] theorem State.modNvm_time (f : NvmSt → NvmSt) : (s.modNvm f).time = s.time := rfl
@[simp] theorem State.modNvm_elapsed (f : NvmSt → NvmSt) : (s.modNvm f).elapsed = s.elapsed := rfl
@[simp] theorem State.modNvm_free (f : NvmSt → NvmSt) : (s.modNvm f).free = s.free := rfl
@[simp] theorem State.modNvm_glades (f : NvmSt → NvmSt) : (s.modNvm f).glades = s.glades := rfl
@[simp] theorem State.modNvm_flt (f : NvmSt → NvmSt) : (s.modNvm f).flt = s.flt := rfl
@[simp] theorem State.modNvm_host (f : NvmSt → NvmSt) : (s.modNvm f).host = s.host := rfl
@[simp] theorem State.modNvm_arm (f : NvmSt → NvmSt) : (s.modNvm f).arm = s.arm := rfl
@[simp] theorem State.modNvm_rank (f : NvmSt → NvmSt) : (s.modNvm f).rank = s.rank := rfl
@[simp] theorem State.modNvm_enc (f : NvmSt → NvmSt) : (s.modNvm f).enc = s.enc := rfl
@[simp] theorem State.modNvm_rings (f : NvmSt → NvmSt) : (s.modNvm f).rings = s.rings := rfl
@[simp] theorem State.modNvm_lanes (f : NvmSt → NvmSt) : (s.modNvm f).lanes = s.lanes := rfl
@[simp] theorem State.modNvm_loops (f : NvmSt → NvmSt) : (s.modNvm f).loops = s.loops := rfl
@[simp] theorem State.modNvm_servo (f : NvmSt → NvmSt) : (s.modNvm f).servo = s.servo := rfl
@[simp] theorem State.modNvm_net (f : NvmSt → NvmSt) : (s.modNvm f).net = s.net := rfl
@[simp] theorem State.modNvm_pwm (f : NvmSt → NvmSt) : (s.modNvm f).pwm = s.pwm := rfl
@[simp] theorem State.modNvm_poss (f : NvmSt → NvmSt) : (s.modNvm f).poss = s.poss := rfl
@[simp] theorem State.modNvm_adcs (f : NvmSt → NvmSt) : (s.modNvm f).adcs = s.adcs := rfl
@[simp] theorem State.modNvm_sched (f : NvmSt → NvmSt) : (s.modNvm f).sched = s.sched := rfl
@[simp] theorem State.modNvm_sec (f : NvmSt → NvmSt) : (s.modNvm f).sec = s.sec := rfl
@[simp] theorem State.modNvm_age (f : NvmSt → NvmSt) : (s.modNvm f).age = s.age := rfl
@[simp] theorem State.modNvm_canopy (f : NvmSt → NvmSt) : (s.modNvm f).canopy = s.canopy := rfl
@[simp] theorem State.modNvm_amber (f : NvmSt → NvmSt) : (s.modNvm f).amber = s.amber := rfl
@[simp] theorem State.modNvm_safe (f : NvmSt → NvmSt) : (s.modNvm f).safe = s.safe := rfl

/-! ## modAge -/

@[simp] theorem State.modAge_pending (f : AgeSt → AgeSt) : (s.modAge f).pending = s.pending := rfl
@[simp] theorem State.modAge_variant (f : AgeSt → AgeSt) : (s.modAge f).variant = s.variant := rfl
@[simp] theorem State.modAge_regs (f : AgeSt → AgeSt) : (s.modAge f).regs = s.regs := rfl
@[simp] theorem State.modAge_conds (f : AgeSt → AgeSt) : (s.modAge f).conds = s.conds := rfl
@[simp] theorem State.modAge_mem (f : AgeSt → AgeSt) : (s.modAge f).mem = s.mem := rfl
@[simp] theorem State.modAge_memBad (f : AgeSt → AgeSt) : (s.modAge f).memBad = s.memBad := rfl
@[simp] theorem State.modAge_time (f : AgeSt → AgeSt) : (s.modAge f).time = s.time := rfl
@[simp] theorem State.modAge_elapsed (f : AgeSt → AgeSt) : (s.modAge f).elapsed = s.elapsed := rfl
@[simp] theorem State.modAge_free (f : AgeSt → AgeSt) : (s.modAge f).free = s.free := rfl
@[simp] theorem State.modAge_glades (f : AgeSt → AgeSt) : (s.modAge f).glades = s.glades := rfl
@[simp] theorem State.modAge_flt (f : AgeSt → AgeSt) : (s.modAge f).flt = s.flt := rfl
@[simp] theorem State.modAge_host (f : AgeSt → AgeSt) : (s.modAge f).host = s.host := rfl
@[simp] theorem State.modAge_arm (f : AgeSt → AgeSt) : (s.modAge f).arm = s.arm := rfl
@[simp] theorem State.modAge_rank (f : AgeSt → AgeSt) : (s.modAge f).rank = s.rank := rfl
@[simp] theorem State.modAge_enc (f : AgeSt → AgeSt) : (s.modAge f).enc = s.enc := rfl
@[simp] theorem State.modAge_rings (f : AgeSt → AgeSt) : (s.modAge f).rings = s.rings := rfl
@[simp] theorem State.modAge_lanes (f : AgeSt → AgeSt) : (s.modAge f).lanes = s.lanes := rfl
@[simp] theorem State.modAge_loops (f : AgeSt → AgeSt) : (s.modAge f).loops = s.loops := rfl
@[simp] theorem State.modAge_servo (f : AgeSt → AgeSt) : (s.modAge f).servo = s.servo := rfl
@[simp] theorem State.modAge_net (f : AgeSt → AgeSt) : (s.modAge f).net = s.net := rfl
@[simp] theorem State.modAge_pwm (f : AgeSt → AgeSt) : (s.modAge f).pwm = s.pwm := rfl
@[simp] theorem State.modAge_poss (f : AgeSt → AgeSt) : (s.modAge f).poss = s.poss := rfl
@[simp] theorem State.modAge_adcs (f : AgeSt → AgeSt) : (s.modAge f).adcs = s.adcs := rfl
@[simp] theorem State.modAge_sched (f : AgeSt → AgeSt) : (s.modAge f).sched = s.sched := rfl
@[simp] theorem State.modAge_sec (f : AgeSt → AgeSt) : (s.modAge f).sec = s.sec := rfl
@[simp] theorem State.modAge_nvm (f : AgeSt → AgeSt) : (s.modAge f).nvm = s.nvm := rfl
@[simp] theorem State.modAge_canopy (f : AgeSt → AgeSt) : (s.modAge f).canopy = s.canopy := rfl
@[simp] theorem State.modAge_amber (f : AgeSt → AgeSt) : (s.modAge f).amber = s.amber := rfl
@[simp] theorem State.modAge_safe (f : AgeSt → AgeSt) : (s.modAge f).safe = s.safe := rfl

/-! ## setIn -/

@[simp] theorem State.setIn_pending (i : Nat) (x : SafeIn) : (s.setIn i x).pending = s.pending := rfl
@[simp] theorem State.setIn_variant (i : Nat) (x : SafeIn) : (s.setIn i x).variant = s.variant := rfl
@[simp] theorem State.setIn_regs (i : Nat) (x : SafeIn) : (s.setIn i x).regs = s.regs := rfl
@[simp] theorem State.setIn_conds (i : Nat) (x : SafeIn) : (s.setIn i x).conds = s.conds := rfl
@[simp] theorem State.setIn_mem (i : Nat) (x : SafeIn) : (s.setIn i x).mem = s.mem := rfl
@[simp] theorem State.setIn_memBad (i : Nat) (x : SafeIn) : (s.setIn i x).memBad = s.memBad := rfl
@[simp] theorem State.setIn_time (i : Nat) (x : SafeIn) : (s.setIn i x).time = s.time := rfl
@[simp] theorem State.setIn_elapsed (i : Nat) (x : SafeIn) : (s.setIn i x).elapsed = s.elapsed := rfl
@[simp] theorem State.setIn_free (i : Nat) (x : SafeIn) : (s.setIn i x).free = s.free := rfl
@[simp] theorem State.setIn_glades (i : Nat) (x : SafeIn) : (s.setIn i x).glades = s.glades := rfl
@[simp] theorem State.setIn_flt (i : Nat) (x : SafeIn) : (s.setIn i x).flt = s.flt := rfl
@[simp] theorem State.setIn_host (i : Nat) (x : SafeIn) : (s.setIn i x).host = s.host := rfl
@[simp] theorem State.setIn_arm (i : Nat) (x : SafeIn) : (s.setIn i x).arm = s.arm := rfl
@[simp] theorem State.setIn_rank (i : Nat) (x : SafeIn) : (s.setIn i x).rank = s.rank := rfl
@[simp] theorem State.setIn_enc (i : Nat) (x : SafeIn) : (s.setIn i x).enc = s.enc := rfl
@[simp] theorem State.setIn_rings (i : Nat) (x : SafeIn) : (s.setIn i x).rings = s.rings := rfl
@[simp] theorem State.setIn_lanes (i : Nat) (x : SafeIn) : (s.setIn i x).lanes = s.lanes := rfl
@[simp] theorem State.setIn_loops (i : Nat) (x : SafeIn) : (s.setIn i x).loops = s.loops := rfl
@[simp] theorem State.setIn_servo (i : Nat) (x : SafeIn) : (s.setIn i x).servo = s.servo := rfl
@[simp] theorem State.setIn_net (i : Nat) (x : SafeIn) : (s.setIn i x).net = s.net := rfl
@[simp] theorem State.setIn_pwm (i : Nat) (x : SafeIn) : (s.setIn i x).pwm = s.pwm := rfl
@[simp] theorem State.setIn_poss (i : Nat) (x : SafeIn) : (s.setIn i x).poss = s.poss := rfl
@[simp] theorem State.setIn_adcs (i : Nat) (x : SafeIn) : (s.setIn i x).adcs = s.adcs := rfl
@[simp] theorem State.setIn_sched (i : Nat) (x : SafeIn) : (s.setIn i x).sched = s.sched := rfl
@[simp] theorem State.setIn_sec (i : Nat) (x : SafeIn) : (s.setIn i x).sec = s.sec := rfl
@[simp] theorem State.setIn_nvm (i : Nat) (x : SafeIn) : (s.setIn i x).nvm = s.nvm := rfl
@[simp] theorem State.setIn_age (i : Nat) (x : SafeIn) : (s.setIn i x).age = s.age := rfl
@[simp] theorem State.setIn_canopy (i : Nat) (x : SafeIn) : (s.setIn i x).canopy = s.canopy := rfl
@[simp] theorem State.setIn_amber (i : Nat) (x : SafeIn) : (s.setIn i x).amber = s.amber := rfl

/-! ## setOut -/

@[simp] theorem State.setOut_pending (k : Nat) (x : SafeOut) : (s.setOut k x).pending = s.pending := rfl
@[simp] theorem State.setOut_variant (k : Nat) (x : SafeOut) : (s.setOut k x).variant = s.variant := rfl
@[simp] theorem State.setOut_regs (k : Nat) (x : SafeOut) : (s.setOut k x).regs = s.regs := rfl
@[simp] theorem State.setOut_conds (k : Nat) (x : SafeOut) : (s.setOut k x).conds = s.conds := rfl
@[simp] theorem State.setOut_mem (k : Nat) (x : SafeOut) : (s.setOut k x).mem = s.mem := rfl
@[simp] theorem State.setOut_memBad (k : Nat) (x : SafeOut) : (s.setOut k x).memBad = s.memBad := rfl
@[simp] theorem State.setOut_time (k : Nat) (x : SafeOut) : (s.setOut k x).time = s.time := rfl
@[simp] theorem State.setOut_elapsed (k : Nat) (x : SafeOut) : (s.setOut k x).elapsed = s.elapsed := rfl
@[simp] theorem State.setOut_free (k : Nat) (x : SafeOut) : (s.setOut k x).free = s.free := rfl
@[simp] theorem State.setOut_glades (k : Nat) (x : SafeOut) : (s.setOut k x).glades = s.glades := rfl
@[simp] theorem State.setOut_flt (k : Nat) (x : SafeOut) : (s.setOut k x).flt = s.flt := rfl
@[simp] theorem State.setOut_host (k : Nat) (x : SafeOut) : (s.setOut k x).host = s.host := rfl
@[simp] theorem State.setOut_arm (k : Nat) (x : SafeOut) : (s.setOut k x).arm = s.arm := rfl
@[simp] theorem State.setOut_rank (k : Nat) (x : SafeOut) : (s.setOut k x).rank = s.rank := rfl
@[simp] theorem State.setOut_enc (k : Nat) (x : SafeOut) : (s.setOut k x).enc = s.enc := rfl
@[simp] theorem State.setOut_rings (k : Nat) (x : SafeOut) : (s.setOut k x).rings = s.rings := rfl
@[simp] theorem State.setOut_lanes (k : Nat) (x : SafeOut) : (s.setOut k x).lanes = s.lanes := rfl
@[simp] theorem State.setOut_loops (k : Nat) (x : SafeOut) : (s.setOut k x).loops = s.loops := rfl
@[simp] theorem State.setOut_servo (k : Nat) (x : SafeOut) : (s.setOut k x).servo = s.servo := rfl
@[simp] theorem State.setOut_net (k : Nat) (x : SafeOut) : (s.setOut k x).net = s.net := rfl
@[simp] theorem State.setOut_pwm (k : Nat) (x : SafeOut) : (s.setOut k x).pwm = s.pwm := rfl
@[simp] theorem State.setOut_poss (k : Nat) (x : SafeOut) : (s.setOut k x).poss = s.poss := rfl
@[simp] theorem State.setOut_adcs (k : Nat) (x : SafeOut) : (s.setOut k x).adcs = s.adcs := rfl
@[simp] theorem State.setOut_sched (k : Nat) (x : SafeOut) : (s.setOut k x).sched = s.sched := rfl
@[simp] theorem State.setOut_sec (k : Nat) (x : SafeOut) : (s.setOut k x).sec = s.sec := rfl
@[simp] theorem State.setOut_nvm (k : Nat) (x : SafeOut) : (s.setOut k x).nvm = s.nvm := rfl
@[simp] theorem State.setOut_age (k : Nat) (x : SafeOut) : (s.setOut k x).age = s.age := rfl
@[simp] theorem State.setOut_canopy (k : Nat) (x : SafeOut) : (s.setOut k x).canopy = s.canopy := rfl
@[simp] theorem State.setOut_amber (k : Nat) (x : SafeOut) : (s.setOut k x).amber = s.amber := rfl

/-! ## setConn -/

@[simp] theorem State.setConn_pending (c : Nat) (x : SafeConn) : (s.setConn c x).pending = s.pending := rfl
@[simp] theorem State.setConn_variant (c : Nat) (x : SafeConn) : (s.setConn c x).variant = s.variant := rfl
@[simp] theorem State.setConn_regs (c : Nat) (x : SafeConn) : (s.setConn c x).regs = s.regs := rfl
@[simp] theorem State.setConn_conds (c : Nat) (x : SafeConn) : (s.setConn c x).conds = s.conds := rfl
@[simp] theorem State.setConn_mem (c : Nat) (x : SafeConn) : (s.setConn c x).mem = s.mem := rfl
@[simp] theorem State.setConn_memBad (c : Nat) (x : SafeConn) : (s.setConn c x).memBad = s.memBad := rfl
@[simp] theorem State.setConn_time (c : Nat) (x : SafeConn) : (s.setConn c x).time = s.time := rfl
@[simp] theorem State.setConn_elapsed (c : Nat) (x : SafeConn) : (s.setConn c x).elapsed = s.elapsed := rfl
@[simp] theorem State.setConn_free (c : Nat) (x : SafeConn) : (s.setConn c x).free = s.free := rfl
@[simp] theorem State.setConn_glades (c : Nat) (x : SafeConn) : (s.setConn c x).glades = s.glades := rfl
@[simp] theorem State.setConn_flt (c : Nat) (x : SafeConn) : (s.setConn c x).flt = s.flt := rfl
@[simp] theorem State.setConn_host (c : Nat) (x : SafeConn) : (s.setConn c x).host = s.host := rfl
@[simp] theorem State.setConn_arm (c : Nat) (x : SafeConn) : (s.setConn c x).arm = s.arm := rfl
@[simp] theorem State.setConn_rank (c : Nat) (x : SafeConn) : (s.setConn c x).rank = s.rank := rfl
@[simp] theorem State.setConn_enc (c : Nat) (x : SafeConn) : (s.setConn c x).enc = s.enc := rfl
@[simp] theorem State.setConn_rings (c : Nat) (x : SafeConn) : (s.setConn c x).rings = s.rings := rfl
@[simp] theorem State.setConn_lanes (c : Nat) (x : SafeConn) : (s.setConn c x).lanes = s.lanes := rfl
@[simp] theorem State.setConn_loops (c : Nat) (x : SafeConn) : (s.setConn c x).loops = s.loops := rfl
@[simp] theorem State.setConn_servo (c : Nat) (x : SafeConn) : (s.setConn c x).servo = s.servo := rfl
@[simp] theorem State.setConn_net (c : Nat) (x : SafeConn) : (s.setConn c x).net = s.net := rfl
@[simp] theorem State.setConn_pwm (c : Nat) (x : SafeConn) : (s.setConn c x).pwm = s.pwm := rfl
@[simp] theorem State.setConn_poss (c : Nat) (x : SafeConn) : (s.setConn c x).poss = s.poss := rfl
@[simp] theorem State.setConn_adcs (c : Nat) (x : SafeConn) : (s.setConn c x).adcs = s.adcs := rfl
@[simp] theorem State.setConn_sched (c : Nat) (x : SafeConn) : (s.setConn c x).sched = s.sched := rfl
@[simp] theorem State.setConn_sec (c : Nat) (x : SafeConn) : (s.setConn c x).sec = s.sec := rfl
@[simp] theorem State.setConn_nvm (c : Nat) (x : SafeConn) : (s.setConn c x).nvm = s.nvm := rfl
@[simp] theorem State.setConn_age (c : Nat) (x : SafeConn) : (s.setConn c x).age = s.age := rfl
@[simp] theorem State.setConn_canopy (c : Nat) (x : SafeConn) : (s.setConn c x).canopy = s.canopy := rfl
@[simp] theorem State.setConn_amber (c : Nat) (x : SafeConn) : (s.setConn c x).amber = s.amber := rfl

/-! ## useFree -/

@[simp] theorem State.useFree_pending (n : Nat) : (s.useFree n).pending = s.pending := rfl
@[simp] theorem State.useFree_variant (n : Nat) : (s.useFree n).variant = s.variant := rfl
@[simp] theorem State.useFree_regs (n : Nat) : (s.useFree n).regs = s.regs := rfl
@[simp] theorem State.useFree_conds (n : Nat) : (s.useFree n).conds = s.conds := rfl
@[simp] theorem State.useFree_mem (n : Nat) : (s.useFree n).mem = s.mem := rfl
@[simp] theorem State.useFree_memBad (n : Nat) : (s.useFree n).memBad = s.memBad := rfl
@[simp] theorem State.useFree_time (n : Nat) : (s.useFree n).time = s.time := rfl
@[simp] theorem State.useFree_elapsed (n : Nat) : (s.useFree n).elapsed = s.elapsed := rfl
@[simp] theorem State.useFree_glades (n : Nat) : (s.useFree n).glades = s.glades := rfl
@[simp] theorem State.useFree_flt (n : Nat) : (s.useFree n).flt = s.flt := rfl
@[simp] theorem State.useFree_host (n : Nat) : (s.useFree n).host = s.host := rfl
@[simp] theorem State.useFree_arm (n : Nat) : (s.useFree n).arm = s.arm := rfl
@[simp] theorem State.useFree_rank (n : Nat) : (s.useFree n).rank = s.rank := rfl
@[simp] theorem State.useFree_enc (n : Nat) : (s.useFree n).enc = s.enc := rfl
@[simp] theorem State.useFree_rings (n : Nat) : (s.useFree n).rings = s.rings := rfl
@[simp] theorem State.useFree_lanes (n : Nat) : (s.useFree n).lanes = s.lanes := rfl
@[simp] theorem State.useFree_loops (n : Nat) : (s.useFree n).loops = s.loops := rfl
@[simp] theorem State.useFree_servo (n : Nat) : (s.useFree n).servo = s.servo := rfl
@[simp] theorem State.useFree_net (n : Nat) : (s.useFree n).net = s.net := rfl
@[simp] theorem State.useFree_pwm (n : Nat) : (s.useFree n).pwm = s.pwm := rfl
@[simp] theorem State.useFree_poss (n : Nat) : (s.useFree n).poss = s.poss := rfl
@[simp] theorem State.useFree_adcs (n : Nat) : (s.useFree n).adcs = s.adcs := rfl
@[simp] theorem State.useFree_sched (n : Nat) : (s.useFree n).sched = s.sched := rfl
@[simp] theorem State.useFree_sec (n : Nat) : (s.useFree n).sec = s.sec := rfl
@[simp] theorem State.useFree_nvm (n : Nat) : (s.useFree n).nvm = s.nvm := rfl
@[simp] theorem State.useFree_age (n : Nat) : (s.useFree n).age = s.age := rfl
@[simp] theorem State.useFree_canopy (n : Nat) : (s.useFree n).canopy = s.canopy := rfl
@[simp] theorem State.useFree_amber (n : Nat) : (s.useFree n).amber = s.amber := rfl
@[simp] theorem State.useFree_safe (n : Nat) : (s.useFree n).safe = s.safe := rfl

/-! ## writeBytes -/

/-- The MEM events of a hardware access change the collector's inbox alone. -/
theorem State.memEvents_eq (l : List Nat) (unit : Nat) (s : State) :
    l.foldl (fun t _ => t.event .mem unit 0) s = { s with flt := (l.foldl (fun t _ => t.event .mem unit 0) s).flt } := by
  induction l generalizing s with
  | nil => rfl
  | cons w ws ih => rw [List.foldl_cons, ih]; rfl

theorem State.memEvents_mem (l : List Nat) (unit : Nat) (s : State) : (l.foldl (fun t _ => t.event .mem unit 0) s).mem = s.mem := by
  rw [memEvents_eq]

/-- A write of bytes changes memory, its bad words and the collector's inbox alone. -/
theorem State.writeBytes_eq (a : Nat) (bs : List Byte) (s : State) :
    s.writeBytes a bs = { s with mem := (s.writeBytes a bs).mem, memBad := (s.writeBytes a bs).memBad, flt := (s.writeBytes a bs).flt } := by
  unfold State.writeBytes
  dsimp only
  split
  · rfl
  · rw [memEvents_eq]; rfl

/-- Where no word is uncorrectable, a write of bytes changes memory alone. -/
theorem State.writeBytes_clean {s : State} (h : s.memBad = []) (a : Nat) (bs : List Byte) :
    s.writeBytes a bs = { s with mem := Memory.writeN s.mem a bs } := by
  cases s
  simp only at h
  subst h
  rfl

@[simp] theorem State.writeBytes_pending (a : Nat) (bs : List Byte) : (s.writeBytes a bs).pending = s.pending := by rw [writeBytes_eq]
@[simp] theorem State.writeBytes_variant (a : Nat) (bs : List Byte) : (s.writeBytes a bs).variant = s.variant := by rw [writeBytes_eq]
@[simp] theorem State.writeBytes_regs (a : Nat) (bs : List Byte) : (s.writeBytes a bs).regs = s.regs := by rw [writeBytes_eq]
@[simp] theorem State.writeBytes_conds (a : Nat) (bs : List Byte) : (s.writeBytes a bs).conds = s.conds := by rw [writeBytes_eq]
@[simp] theorem State.writeBytes_time (a : Nat) (bs : List Byte) : (s.writeBytes a bs).time = s.time := by rw [writeBytes_eq]
@[simp] theorem State.writeBytes_elapsed (a : Nat) (bs : List Byte) : (s.writeBytes a bs).elapsed = s.elapsed := by rw [writeBytes_eq]
@[simp] theorem State.writeBytes_free (a : Nat) (bs : List Byte) : (s.writeBytes a bs).free = s.free := by rw [writeBytes_eq]
@[simp] theorem State.writeBytes_glades (a : Nat) (bs : List Byte) : (s.writeBytes a bs).glades = s.glades := by rw [writeBytes_eq]
@[simp] theorem State.writeBytes_host (a : Nat) (bs : List Byte) : (s.writeBytes a bs).host = s.host := by rw [writeBytes_eq]
@[simp] theorem State.writeBytes_arm (a : Nat) (bs : List Byte) : (s.writeBytes a bs).arm = s.arm := by rw [writeBytes_eq]
@[simp] theorem State.writeBytes_rank (a : Nat) (bs : List Byte) : (s.writeBytes a bs).rank = s.rank := by rw [writeBytes_eq]
@[simp] theorem State.writeBytes_enc (a : Nat) (bs : List Byte) : (s.writeBytes a bs).enc = s.enc := by rw [writeBytes_eq]
@[simp] theorem State.writeBytes_rings (a : Nat) (bs : List Byte) : (s.writeBytes a bs).rings = s.rings := by rw [writeBytes_eq]
@[simp] theorem State.writeBytes_lanes (a : Nat) (bs : List Byte) : (s.writeBytes a bs).lanes = s.lanes := by rw [writeBytes_eq]
@[simp] theorem State.writeBytes_loops (a : Nat) (bs : List Byte) : (s.writeBytes a bs).loops = s.loops := by rw [writeBytes_eq]
@[simp] theorem State.writeBytes_servo (a : Nat) (bs : List Byte) : (s.writeBytes a bs).servo = s.servo := by rw [writeBytes_eq]
@[simp] theorem State.writeBytes_net (a : Nat) (bs : List Byte) : (s.writeBytes a bs).net = s.net := by rw [writeBytes_eq]
@[simp] theorem State.writeBytes_pwm (a : Nat) (bs : List Byte) : (s.writeBytes a bs).pwm = s.pwm := by rw [writeBytes_eq]
@[simp] theorem State.writeBytes_poss (a : Nat) (bs : List Byte) : (s.writeBytes a bs).poss = s.poss := by rw [writeBytes_eq]
@[simp] theorem State.writeBytes_adcs (a : Nat) (bs : List Byte) : (s.writeBytes a bs).adcs = s.adcs := by rw [writeBytes_eq]
@[simp] theorem State.writeBytes_sched (a : Nat) (bs : List Byte) : (s.writeBytes a bs).sched = s.sched := by rw [writeBytes_eq]
@[simp] theorem State.writeBytes_sec (a : Nat) (bs : List Byte) : (s.writeBytes a bs).sec = s.sec := by rw [writeBytes_eq]
@[simp] theorem State.writeBytes_nvm (a : Nat) (bs : List Byte) : (s.writeBytes a bs).nvm = s.nvm := by rw [writeBytes_eq]
@[simp] theorem State.writeBytes_age (a : Nat) (bs : List Byte) : (s.writeBytes a bs).age = s.age := by rw [writeBytes_eq]
@[simp] theorem State.writeBytes_canopy (a : Nat) (bs : List Byte) : (s.writeBytes a bs).canopy = s.canopy := by rw [writeBytes_eq]
@[simp] theorem State.writeBytes_amber (a : Nat) (bs : List Byte) : (s.writeBytes a bs).amber = s.amber := by rw [writeBytes_eq]
@[simp] theorem State.writeBytes_safe (a : Nat) (bs : List Byte) : (s.writeBytes a bs).safe = s.safe := by rw [writeBytes_eq]

/-! ## answer -/

@[simp] theorem State.answer_pending (l : List Nat) (err : Bool) : (s.answer l err).pending = s.pending := rfl
@[simp] theorem State.answer_variant (l : List Nat) (err : Bool) : (s.answer l err).variant = s.variant := rfl
@[simp] theorem State.answer_regs (l : List Nat) (err : Bool) : (s.answer l err).regs = s.regs := rfl
@[simp] theorem State.answer_conds (l : List Nat) (err : Bool) : (s.answer l err).conds = s.conds := rfl
@[simp] theorem State.answer_mem (l : List Nat) (err : Bool) : (s.answer l err).mem = s.mem := rfl
@[simp] theorem State.answer_memBad (l : List Nat) (err : Bool) : (s.answer l err).memBad = s.memBad := rfl
@[simp] theorem State.answer_time (l : List Nat) (err : Bool) : (s.answer l err).time = s.time := rfl
@[simp] theorem State.answer_elapsed (l : List Nat) (err : Bool) : (s.answer l err).elapsed = s.elapsed := rfl
@[simp] theorem State.answer_free (l : List Nat) (err : Bool) : (s.answer l err).free = s.free := rfl
@[simp] theorem State.answer_glades (l : List Nat) (err : Bool) : (s.answer l err).glades = s.glades := rfl
@[simp] theorem State.answer_flt (l : List Nat) (err : Bool) : (s.answer l err).flt = s.flt := rfl
@[simp] theorem State.answer_arm (l : List Nat) (err : Bool) : (s.answer l err).arm = s.arm := rfl
@[simp] theorem State.answer_rank (l : List Nat) (err : Bool) : (s.answer l err).rank = s.rank := rfl
@[simp] theorem State.answer_enc (l : List Nat) (err : Bool) : (s.answer l err).enc = s.enc := rfl
@[simp] theorem State.answer_rings (l : List Nat) (err : Bool) : (s.answer l err).rings = s.rings := rfl
@[simp] theorem State.answer_lanes (l : List Nat) (err : Bool) : (s.answer l err).lanes = s.lanes := rfl
@[simp] theorem State.answer_loops (l : List Nat) (err : Bool) : (s.answer l err).loops = s.loops := rfl
@[simp] theorem State.answer_servo (l : List Nat) (err : Bool) : (s.answer l err).servo = s.servo := rfl
@[simp] theorem State.answer_net (l : List Nat) (err : Bool) : (s.answer l err).net = s.net := rfl
@[simp] theorem State.answer_pwm (l : List Nat) (err : Bool) : (s.answer l err).pwm = s.pwm := rfl
@[simp] theorem State.answer_poss (l : List Nat) (err : Bool) : (s.answer l err).poss = s.poss := rfl
@[simp] theorem State.answer_adcs (l : List Nat) (err : Bool) : (s.answer l err).adcs = s.adcs := rfl
@[simp] theorem State.answer_sched (l : List Nat) (err : Bool) : (s.answer l err).sched = s.sched := rfl
@[simp] theorem State.answer_sec (l : List Nat) (err : Bool) : (s.answer l err).sec = s.sec := rfl
@[simp] theorem State.answer_nvm (l : List Nat) (err : Bool) : (s.answer l err).nvm = s.nvm := rfl
@[simp] theorem State.answer_age (l : List Nat) (err : Bool) : (s.answer l err).age = s.age := rfl
@[simp] theorem State.answer_canopy (l : List Nat) (err : Bool) : (s.answer l err).canopy = s.canopy := rfl
@[simp] theorem State.answer_amber (l : List Nat) (err : Bool) : (s.answer l err).amber = s.amber := rfl
@[simp] theorem State.answer_safe (l : List Nat) (err : Bool) : (s.answer l err).safe = s.safe := rfl

/-! ## setPhase -/

@[simp] theorem State.setPhase_pending (p : StartPhase) : (s.setPhase p).pending = s.pending := rfl
@[simp] theorem State.setPhase_variant (p : StartPhase) : (s.setPhase p).variant = s.variant := rfl
@[simp] theorem State.setPhase_regs (p : StartPhase) : (s.setPhase p).regs = s.regs := rfl
@[simp] theorem State.setPhase_conds (p : StartPhase) : (s.setPhase p).conds = s.conds := rfl
@[simp] theorem State.setPhase_mem (p : StartPhase) : (s.setPhase p).mem = s.mem := rfl
@[simp] theorem State.setPhase_memBad (p : StartPhase) : (s.setPhase p).memBad = s.memBad := rfl
@[simp] theorem State.setPhase_time (p : StartPhase) : (s.setPhase p).time = s.time := rfl
@[simp] theorem State.setPhase_elapsed (p : StartPhase) : (s.setPhase p).elapsed = s.elapsed := rfl
@[simp] theorem State.setPhase_free (p : StartPhase) : (s.setPhase p).free = s.free := rfl
@[simp] theorem State.setPhase_glades (p : StartPhase) : (s.setPhase p).glades = s.glades := rfl
@[simp] theorem State.setPhase_flt (p : StartPhase) : (s.setPhase p).flt = s.flt := rfl
@[simp] theorem State.setPhase_arm (p : StartPhase) : (s.setPhase p).arm = s.arm := rfl
@[simp] theorem State.setPhase_rank (p : StartPhase) : (s.setPhase p).rank = s.rank := rfl
@[simp] theorem State.setPhase_enc (p : StartPhase) : (s.setPhase p).enc = s.enc := rfl
@[simp] theorem State.setPhase_rings (p : StartPhase) : (s.setPhase p).rings = s.rings := rfl
@[simp] theorem State.setPhase_lanes (p : StartPhase) : (s.setPhase p).lanes = s.lanes := rfl
@[simp] theorem State.setPhase_loops (p : StartPhase) : (s.setPhase p).loops = s.loops := rfl
@[simp] theorem State.setPhase_servo (p : StartPhase) : (s.setPhase p).servo = s.servo := rfl
@[simp] theorem State.setPhase_net (p : StartPhase) : (s.setPhase p).net = s.net := rfl
@[simp] theorem State.setPhase_pwm (p : StartPhase) : (s.setPhase p).pwm = s.pwm := rfl
@[simp] theorem State.setPhase_poss (p : StartPhase) : (s.setPhase p).poss = s.poss := rfl
@[simp] theorem State.setPhase_adcs (p : StartPhase) : (s.setPhase p).adcs = s.adcs := rfl
@[simp] theorem State.setPhase_sched (p : StartPhase) : (s.setPhase p).sched = s.sched := rfl
@[simp] theorem State.setPhase_sec (p : StartPhase) : (s.setPhase p).sec = s.sec := rfl
@[simp] theorem State.setPhase_nvm (p : StartPhase) : (s.setPhase p).nvm = s.nvm := rfl
@[simp] theorem State.setPhase_age (p : StartPhase) : (s.setPhase p).age = s.age := rfl
@[simp] theorem State.setPhase_canopy (p : StartPhase) : (s.setPhase p).canopy = s.canopy := rfl
@[simp] theorem State.setPhase_amber (p : StartPhase) : (s.setPhase p).amber = s.amber := rfl
@[simp] theorem State.setPhase_safe (p : StartPhase) : (s.setPhase p).safe = s.safe := rfl

/-! ## reach -/

@[simp] theorem State.reach_pending (t : Nat) : (s.reach t).pending = s.pending := rfl
@[simp] theorem State.reach_variant (t : Nat) : (s.reach t).variant = s.variant := rfl
@[simp] theorem State.reach_regs (t : Nat) : (s.reach t).regs = s.regs := rfl
@[simp] theorem State.reach_conds (t : Nat) : (s.reach t).conds = s.conds := rfl
@[simp] theorem State.reach_mem (t : Nat) : (s.reach t).mem = s.mem := rfl
@[simp] theorem State.reach_memBad (t : Nat) : (s.reach t).memBad = s.memBad := rfl
@[simp] theorem State.reach_free (t : Nat) : (s.reach t).free = s.free := rfl
@[simp] theorem State.reach_glades (t : Nat) : (s.reach t).glades = s.glades := rfl
@[simp] theorem State.reach_flt (t : Nat) : (s.reach t).flt = s.flt := rfl
@[simp] theorem State.reach_host (t : Nat) : (s.reach t).host = s.host := rfl
@[simp] theorem State.reach_arm (t : Nat) : (s.reach t).arm = s.arm := rfl
@[simp] theorem State.reach_rank (t : Nat) : (s.reach t).rank = s.rank := rfl
@[simp] theorem State.reach_enc (t : Nat) : (s.reach t).enc = s.enc := rfl
@[simp] theorem State.reach_rings (t : Nat) : (s.reach t).rings = s.rings := rfl
@[simp] theorem State.reach_lanes (t : Nat) : (s.reach t).lanes = s.lanes := rfl
@[simp] theorem State.reach_loops (t : Nat) : (s.reach t).loops = s.loops := rfl
@[simp] theorem State.reach_servo (t : Nat) : (s.reach t).servo = s.servo := rfl
@[simp] theorem State.reach_net (t : Nat) : (s.reach t).net = s.net := rfl
@[simp] theorem State.reach_pwm (t : Nat) : (s.reach t).pwm = s.pwm := rfl
@[simp] theorem State.reach_poss (t : Nat) : (s.reach t).poss = s.poss := rfl
@[simp] theorem State.reach_adcs (t : Nat) : (s.reach t).adcs = s.adcs := rfl
@[simp] theorem State.reach_sched (t : Nat) : (s.reach t).sched = s.sched := rfl
@[simp] theorem State.reach_sec (t : Nat) : (s.reach t).sec = s.sec := rfl
@[simp] theorem State.reach_nvm (t : Nat) : (s.reach t).nvm = s.nvm := rfl
@[simp] theorem State.reach_age (t : Nat) : (s.reach t).age = s.age := rfl
@[simp] theorem State.reach_canopy (t : Nat) : (s.reach t).canopy = s.canopy := rfl
@[simp] theorem State.reach_amber (t : Nat) : (s.reach t).amber = s.amber := rfl
@[simp] theorem State.reach_safe (t : Nat) : (s.reach t).safe = s.safe := rfl

/-! ## pass -/

@[simp] theorem State.pass_pending (e : Nat) : (s.pass e).pending = s.pending := rfl
@[simp] theorem State.pass_variant (e : Nat) : (s.pass e).variant = s.variant := rfl
@[simp] theorem State.pass_regs (e : Nat) : (s.pass e).regs = s.regs := rfl
@[simp] theorem State.pass_conds (e : Nat) : (s.pass e).conds = s.conds := rfl
@[simp] theorem State.pass_mem (e : Nat) : (s.pass e).mem = s.mem := rfl
@[simp] theorem State.pass_memBad (e : Nat) : (s.pass e).memBad = s.memBad := rfl
@[simp] theorem State.pass_free (e : Nat) : (s.pass e).free = s.free := rfl
@[simp] theorem State.pass_glades (e : Nat) : (s.pass e).glades = s.glades := rfl
@[simp] theorem State.pass_flt (e : Nat) : (s.pass e).flt = s.flt := rfl
@[simp] theorem State.pass_host (e : Nat) : (s.pass e).host = s.host := rfl
@[simp] theorem State.pass_arm (e : Nat) : (s.pass e).arm = s.arm := rfl
@[simp] theorem State.pass_rank (e : Nat) : (s.pass e).rank = s.rank := rfl
@[simp] theorem State.pass_enc (e : Nat) : (s.pass e).enc = s.enc := rfl
@[simp] theorem State.pass_rings (e : Nat) : (s.pass e).rings = s.rings := rfl
@[simp] theorem State.pass_lanes (e : Nat) : (s.pass e).lanes = s.lanes := rfl
@[simp] theorem State.pass_loops (e : Nat) : (s.pass e).loops = s.loops := rfl
@[simp] theorem State.pass_servo (e : Nat) : (s.pass e).servo = s.servo := rfl
@[simp] theorem State.pass_net (e : Nat) : (s.pass e).net = s.net := rfl
@[simp] theorem State.pass_pwm (e : Nat) : (s.pass e).pwm = s.pwm := rfl
@[simp] theorem State.pass_poss (e : Nat) : (s.pass e).poss = s.poss := rfl
@[simp] theorem State.pass_adcs (e : Nat) : (s.pass e).adcs = s.adcs := rfl
@[simp] theorem State.pass_sched (e : Nat) : (s.pass e).sched = s.sched := rfl
@[simp] theorem State.pass_sec (e : Nat) : (s.pass e).sec = s.sec := rfl
@[simp] theorem State.pass_nvm (e : Nat) : (s.pass e).nvm = s.nvm := rfl
@[simp] theorem State.pass_age (e : Nat) : (s.pass e).age = s.age := rfl
@[simp] theorem State.pass_canopy (e : Nat) : (s.pass e).canopy = s.canopy := rfl
@[simp] theorem State.pass_amber (e : Nat) : (s.pass e).amber = s.amber := rfl
@[simp] theorem State.pass_safe (e : Nat) : (s.pass e).safe = s.safe := rfl

/-! ## discardWrites -/

@[simp] theorem State.discardWrites_pending (g n : Nat) : (s.discardWrites g n).pending = s.pending := rfl
@[simp] theorem State.discardWrites_variant (g n : Nat) : (s.discardWrites g n).variant = s.variant := rfl
@[simp] theorem State.discardWrites_regs (g n : Nat) : (s.discardWrites g n).regs = s.regs := rfl
@[simp] theorem State.discardWrites_conds (g n : Nat) : (s.discardWrites g n).conds = s.conds := rfl
@[simp] theorem State.discardWrites_mem (g n : Nat) : (s.discardWrites g n).mem = s.mem := rfl
@[simp] theorem State.discardWrites_memBad (g n : Nat) : (s.discardWrites g n).memBad = s.memBad := rfl
@[simp] theorem State.discardWrites_time (g n : Nat) : (s.discardWrites g n).time = s.time := rfl
@[simp] theorem State.discardWrites_elapsed (g n : Nat) : (s.discardWrites g n).elapsed = s.elapsed := rfl
@[simp] theorem State.discardWrites_free (g n : Nat) : (s.discardWrites g n).free = s.free := rfl
@[simp] theorem State.discardWrites_glades (g n : Nat) : (s.discardWrites g n).glades = s.glades := rfl
@[simp] theorem State.discardWrites_flt (g n : Nat) : (s.discardWrites g n).flt = s.flt := rfl
@[simp] theorem State.discardWrites_arm (g n : Nat) : (s.discardWrites g n).arm = s.arm := rfl
@[simp] theorem State.discardWrites_rank (g n : Nat) : (s.discardWrites g n).rank = s.rank := rfl
@[simp] theorem State.discardWrites_enc (g n : Nat) : (s.discardWrites g n).enc = s.enc := rfl
@[simp] theorem State.discardWrites_rings (g n : Nat) : (s.discardWrites g n).rings = s.rings := rfl
@[simp] theorem State.discardWrites_lanes (g n : Nat) : (s.discardWrites g n).lanes = s.lanes := rfl
@[simp] theorem State.discardWrites_loops (g n : Nat) : (s.discardWrites g n).loops = s.loops := rfl
@[simp] theorem State.discardWrites_servo (g n : Nat) : (s.discardWrites g n).servo = s.servo := rfl
@[simp] theorem State.discardWrites_net (g n : Nat) : (s.discardWrites g n).net = s.net := rfl
@[simp] theorem State.discardWrites_pwm (g n : Nat) : (s.discardWrites g n).pwm = s.pwm := rfl
@[simp] theorem State.discardWrites_poss (g n : Nat) : (s.discardWrites g n).poss = s.poss := rfl
@[simp] theorem State.discardWrites_adcs (g n : Nat) : (s.discardWrites g n).adcs = s.adcs := rfl
@[simp] theorem State.discardWrites_sched (g n : Nat) : (s.discardWrites g n).sched = s.sched := rfl
@[simp] theorem State.discardWrites_sec (g n : Nat) : (s.discardWrites g n).sec = s.sec := rfl
@[simp] theorem State.discardWrites_nvm (g n : Nat) : (s.discardWrites g n).nvm = s.nvm := rfl
@[simp] theorem State.discardWrites_age (g n : Nat) : (s.discardWrites g n).age = s.age := rfl
@[simp] theorem State.discardWrites_canopy (g n : Nat) : (s.discardWrites g n).canopy = s.canopy := rfl
@[simp] theorem State.discardWrites_amber (g n : Nat) : (s.discardWrites g n).amber = s.amber := rfl
@[simp] theorem State.discardWrites_safe (g n : Nat) : (s.discardWrites g n).safe = s.safe := rfl

/-! ## eventFence -/

@[simp] theorem State.eventFence_pending (c : FaultClass) (unit : Nat) : (s.eventFence c unit).pending = s.pending := rfl
@[simp] theorem State.eventFence_variant (c : FaultClass) (unit : Nat) : (s.eventFence c unit).variant = s.variant := rfl
@[simp] theorem State.eventFence_regs (c : FaultClass) (unit : Nat) : (s.eventFence c unit).regs = s.regs := rfl
@[simp] theorem State.eventFence_conds (c : FaultClass) (unit : Nat) : (s.eventFence c unit).conds = s.conds := rfl
@[simp] theorem State.eventFence_mem (c : FaultClass) (unit : Nat) : (s.eventFence c unit).mem = s.mem := rfl
@[simp] theorem State.eventFence_memBad (c : FaultClass) (unit : Nat) : (s.eventFence c unit).memBad = s.memBad := rfl
@[simp] theorem State.eventFence_time (c : FaultClass) (unit : Nat) : (s.eventFence c unit).time = s.time := rfl
@[simp] theorem State.eventFence_elapsed (c : FaultClass) (unit : Nat) : (s.eventFence c unit).elapsed = s.elapsed := rfl
@[simp] theorem State.eventFence_free (c : FaultClass) (unit : Nat) : (s.eventFence c unit).free = s.free := rfl
@[simp] theorem State.eventFence_glades (c : FaultClass) (unit : Nat) : (s.eventFence c unit).glades = s.glades := rfl
@[simp] theorem State.eventFence_host (c : FaultClass) (unit : Nat) : (s.eventFence c unit).host = s.host := rfl
@[simp] theorem State.eventFence_arm (c : FaultClass) (unit : Nat) : (s.eventFence c unit).arm = s.arm := rfl
@[simp] theorem State.eventFence_rank (c : FaultClass) (unit : Nat) : (s.eventFence c unit).rank = s.rank := rfl
@[simp] theorem State.eventFence_enc (c : FaultClass) (unit : Nat) : (s.eventFence c unit).enc = s.enc := rfl
@[simp] theorem State.eventFence_rings (c : FaultClass) (unit : Nat) : (s.eventFence c unit).rings = s.rings := rfl
@[simp] theorem State.eventFence_lanes (c : FaultClass) (unit : Nat) : (s.eventFence c unit).lanes = s.lanes := rfl
@[simp] theorem State.eventFence_loops (c : FaultClass) (unit : Nat) : (s.eventFence c unit).loops = s.loops := rfl
@[simp] theorem State.eventFence_servo (c : FaultClass) (unit : Nat) : (s.eventFence c unit).servo = s.servo := rfl
@[simp] theorem State.eventFence_net (c : FaultClass) (unit : Nat) : (s.eventFence c unit).net = s.net := rfl
@[simp] theorem State.eventFence_pwm (c : FaultClass) (unit : Nat) : (s.eventFence c unit).pwm = s.pwm := rfl
@[simp] theorem State.eventFence_poss (c : FaultClass) (unit : Nat) : (s.eventFence c unit).poss = s.poss := rfl
@[simp] theorem State.eventFence_adcs (c : FaultClass) (unit : Nat) : (s.eventFence c unit).adcs = s.adcs := rfl
@[simp] theorem State.eventFence_sched (c : FaultClass) (unit : Nat) : (s.eventFence c unit).sched = s.sched := rfl
@[simp] theorem State.eventFence_sec (c : FaultClass) (unit : Nat) : (s.eventFence c unit).sec = s.sec := rfl
@[simp] theorem State.eventFence_nvm (c : FaultClass) (unit : Nat) : (s.eventFence c unit).nvm = s.nvm := rfl
@[simp] theorem State.eventFence_age (c : FaultClass) (unit : Nat) : (s.eventFence c unit).age = s.age := rfl
@[simp] theorem State.eventFence_canopy (c : FaultClass) (unit : Nat) : (s.eventFence c unit).canopy = s.canopy := rfl
@[simp] theorem State.eventFence_amber (c : FaultClass) (unit : Nat) : (s.eventFence c unit).amber = s.amber := rfl
@[simp] theorem State.eventFence_safe (c : FaultClass) (unit : Nat) : (s.eventFence c unit).safe = s.safe := rfl

/-! ## raise -/

@[simp] theorem State.raise_pending (F : Field) : (s.raise F).pending = s.pending := by
  unfold State.raise; dsimp only; repeat' split
  all_goals rfl
@[simp] theorem State.raise_variant (F : Field) : (s.raise F).variant = s.variant := by
  unfold State.raise; dsimp only; repeat' split
  all_goals rfl
@[simp] theorem State.raise_conds (F : Field) : (s.raise F).conds = s.conds := by
  unfold State.raise; dsimp only; repeat' split
  all_goals rfl
@[simp] theorem State.raise_mem (F : Field) : (s.raise F).mem = s.mem := by
  unfold State.raise; dsimp only; repeat' split
  all_goals rfl
@[simp] theorem State.raise_memBad (F : Field) : (s.raise F).memBad = s.memBad := by
  unfold State.raise; dsimp only; repeat' split
  all_goals rfl
@[simp] theorem State.raise_time (F : Field) : (s.raise F).time = s.time := by
  unfold State.raise; dsimp only; repeat' split
  all_goals rfl
@[simp] theorem State.raise_elapsed (F : Field) : (s.raise F).elapsed = s.elapsed := by
  unfold State.raise; dsimp only; repeat' split
  all_goals rfl
@[simp] theorem State.raise_free (F : Field) : (s.raise F).free = s.free := by
  unfold State.raise; dsimp only; repeat' split
  all_goals rfl
@[simp] theorem State.raise_glades (F : Field) : (s.raise F).glades = s.glades := by
  unfold State.raise; dsimp only; repeat' split
  all_goals rfl
@[simp] theorem State.raise_flt (F : Field) : (s.raise F).flt = s.flt := by
  unfold State.raise; dsimp only; repeat' split
  all_goals rfl
@[simp] theorem State.raise_arm (F : Field) : (s.raise F).arm = s.arm := by
  unfold State.raise; dsimp only; repeat' split
  all_goals rfl
@[simp] theorem State.raise_rank (F : Field) : (s.raise F).rank = s.rank := by
  unfold State.raise; dsimp only; repeat' split
  all_goals rfl
@[simp] theorem State.raise_enc (F : Field) : (s.raise F).enc = s.enc := by
  unfold State.raise; dsimp only; repeat' split
  all_goals rfl
@[simp] theorem State.raise_rings (F : Field) : (s.raise F).rings = s.rings := by
  unfold State.raise; dsimp only; repeat' split
  all_goals rfl
@[simp] theorem State.raise_lanes (F : Field) : (s.raise F).lanes = s.lanes := by
  unfold State.raise; dsimp only; repeat' split
  all_goals rfl
@[simp] theorem State.raise_loops (F : Field) : (s.raise F).loops = s.loops := by
  unfold State.raise; dsimp only; repeat' split
  all_goals rfl
@[simp] theorem State.raise_servo (F : Field) : (s.raise F).servo = s.servo := by
  unfold State.raise; dsimp only; repeat' split
  all_goals rfl
@[simp] theorem State.raise_net (F : Field) : (s.raise F).net = s.net := by
  unfold State.raise; dsimp only; repeat' split
  all_goals rfl
@[simp] theorem State.raise_pwm (F : Field) : (s.raise F).pwm = s.pwm := by
  unfold State.raise; dsimp only; repeat' split
  all_goals rfl
@[simp] theorem State.raise_poss (F : Field) : (s.raise F).poss = s.poss := by
  unfold State.raise; dsimp only; repeat' split
  all_goals rfl
@[simp] theorem State.raise_adcs (F : Field) : (s.raise F).adcs = s.adcs := by
  unfold State.raise; dsimp only; repeat' split
  all_goals rfl
@[simp] theorem State.raise_sched (F : Field) : (s.raise F).sched = s.sched := by
  unfold State.raise; dsimp only; repeat' split
  all_goals rfl
@[simp] theorem State.raise_sec (F : Field) : (s.raise F).sec = s.sec := by
  unfold State.raise; dsimp only; repeat' split
  all_goals rfl
@[simp] theorem State.raise_nvm (F : Field) : (s.raise F).nvm = s.nvm := by
  unfold State.raise; dsimp only; repeat' split
  all_goals rfl
@[simp] theorem State.raise_age (F : Field) : (s.raise F).age = s.age := by
  unfold State.raise; dsimp only; repeat' split
  all_goals rfl
@[simp] theorem State.raise_canopy (F : Field) : (s.raise F).canopy = s.canopy := by
  unfold State.raise; dsimp only; repeat' split
  all_goals rfl
@[simp] theorem State.raise_amber (F : Field) : (s.raise F).amber = s.amber := by
  unfold State.raise; dsimp only; repeat' split
  all_goals rfl
@[simp] theorem State.raise_safe (F : Field) : (s.raise F).safe = s.safe := by
  unfold State.raise; dsimp only; repeat' split
  all_goals rfl

/-! ## cond -/

@[simp] theorem State.cond_pending (F : Field) (b : Bool) : (s.cond F b).pending = s.pending := by
  unfold State.cond; dsimp only; repeat' split
  all_goals simp
@[simp] theorem State.cond_variant (F : Field) (b : Bool) : (s.cond F b).variant = s.variant := by
  unfold State.cond; dsimp only; repeat' split
  all_goals simp
@[simp] theorem State.cond_mem (F : Field) (b : Bool) : (s.cond F b).mem = s.mem := by
  unfold State.cond; dsimp only; repeat' split
  all_goals simp
@[simp] theorem State.cond_memBad (F : Field) (b : Bool) : (s.cond F b).memBad = s.memBad := by
  unfold State.cond; dsimp only; repeat' split
  all_goals simp
@[simp] theorem State.cond_time (F : Field) (b : Bool) : (s.cond F b).time = s.time := by
  unfold State.cond; dsimp only; repeat' split
  all_goals simp
@[simp] theorem State.cond_elapsed (F : Field) (b : Bool) : (s.cond F b).elapsed = s.elapsed := by
  unfold State.cond; dsimp only; repeat' split
  all_goals simp
@[simp] theorem State.cond_free (F : Field) (b : Bool) : (s.cond F b).free = s.free := by
  unfold State.cond; dsimp only; repeat' split
  all_goals simp
@[simp] theorem State.cond_glades (F : Field) (b : Bool) : (s.cond F b).glades = s.glades := by
  unfold State.cond; dsimp only; repeat' split
  all_goals simp
@[simp] theorem State.cond_flt (F : Field) (b : Bool) : (s.cond F b).flt = s.flt := by
  unfold State.cond; dsimp only; repeat' split
  all_goals simp
@[simp] theorem State.cond_arm (F : Field) (b : Bool) : (s.cond F b).arm = s.arm := by
  unfold State.cond; dsimp only; repeat' split
  all_goals simp
@[simp] theorem State.cond_rank (F : Field) (b : Bool) : (s.cond F b).rank = s.rank := by
  unfold State.cond; dsimp only; repeat' split
  all_goals simp
@[simp] theorem State.cond_enc (F : Field) (b : Bool) : (s.cond F b).enc = s.enc := by
  unfold State.cond; dsimp only; repeat' split
  all_goals simp
@[simp] theorem State.cond_rings (F : Field) (b : Bool) : (s.cond F b).rings = s.rings := by
  unfold State.cond; dsimp only; repeat' split
  all_goals simp
@[simp] theorem State.cond_lanes (F : Field) (b : Bool) : (s.cond F b).lanes = s.lanes := by
  unfold State.cond; dsimp only; repeat' split
  all_goals simp
@[simp] theorem State.cond_loops (F : Field) (b : Bool) : (s.cond F b).loops = s.loops := by
  unfold State.cond; dsimp only; repeat' split
  all_goals simp
@[simp] theorem State.cond_servo (F : Field) (b : Bool) : (s.cond F b).servo = s.servo := by
  unfold State.cond; dsimp only; repeat' split
  all_goals simp
@[simp] theorem State.cond_net (F : Field) (b : Bool) : (s.cond F b).net = s.net := by
  unfold State.cond; dsimp only; repeat' split
  all_goals simp
@[simp] theorem State.cond_pwm (F : Field) (b : Bool) : (s.cond F b).pwm = s.pwm := by
  unfold State.cond; dsimp only; repeat' split
  all_goals simp
@[simp] theorem State.cond_poss (F : Field) (b : Bool) : (s.cond F b).poss = s.poss := by
  unfold State.cond; dsimp only; repeat' split
  all_goals simp
@[simp] theorem State.cond_adcs (F : Field) (b : Bool) : (s.cond F b).adcs = s.adcs := by
  unfold State.cond; dsimp only; repeat' split
  all_goals simp
@[simp] theorem State.cond_sched (F : Field) (b : Bool) : (s.cond F b).sched = s.sched := by
  unfold State.cond; dsimp only; repeat' split
  all_goals simp
@[simp] theorem State.cond_sec (F : Field) (b : Bool) : (s.cond F b).sec = s.sec := by
  unfold State.cond; dsimp only; repeat' split
  all_goals simp
@[simp] theorem State.cond_nvm (F : Field) (b : Bool) : (s.cond F b).nvm = s.nvm := by
  unfold State.cond; dsimp only; repeat' split
  all_goals simp
@[simp] theorem State.cond_age (F : Field) (b : Bool) : (s.cond F b).age = s.age := by
  unfold State.cond; dsimp only; repeat' split
  all_goals simp
@[simp] theorem State.cond_canopy (F : Field) (b : Bool) : (s.cond F b).canopy = s.canopy := by
  unfold State.cond; dsimp only; repeat' split
  all_goals simp
@[simp] theorem State.cond_amber (F : Field) (b : Bool) : (s.cond F b).amber = s.amber := by
  unfold State.cond; dsimp only; repeat' split
  all_goals simp
@[simp] theorem State.cond_safe (F : Field) (b : Bool) : (s.cond F b).safe = s.safe := by
  unfold State.cond; dsimp only; repeat' split
  all_goals simp

/-! ## putAll -/

@[simp] theorem State.putAll_pending (l : List (Field × Nat)) : (s.putAll l).pending = s.pending := by
  induction l generalizing s with
  | nil => rfl
  | cons e t ih => obtain ⟨F, v⟩ := e; exact (ih (s.put F v)).trans rfl
@[simp] theorem State.putAll_variant (l : List (Field × Nat)) : (s.putAll l).variant = s.variant := by
  induction l generalizing s with
  | nil => rfl
  | cons e t ih => obtain ⟨F, v⟩ := e; exact (ih (s.put F v)).trans rfl
@[simp] theorem State.putAll_conds (l : List (Field × Nat)) : (s.putAll l).conds = s.conds := by
  induction l generalizing s with
  | nil => rfl
  | cons e t ih => obtain ⟨F, v⟩ := e; exact (ih (s.put F v)).trans rfl
@[simp] theorem State.putAll_mem (l : List (Field × Nat)) : (s.putAll l).mem = s.mem := by
  induction l generalizing s with
  | nil => rfl
  | cons e t ih => obtain ⟨F, v⟩ := e; exact (ih (s.put F v)).trans rfl
@[simp] theorem State.putAll_memBad (l : List (Field × Nat)) : (s.putAll l).memBad = s.memBad := by
  induction l generalizing s with
  | nil => rfl
  | cons e t ih => obtain ⟨F, v⟩ := e; exact (ih (s.put F v)).trans rfl
@[simp] theorem State.putAll_time (l : List (Field × Nat)) : (s.putAll l).time = s.time := by
  induction l generalizing s with
  | nil => rfl
  | cons e t ih => obtain ⟨F, v⟩ := e; exact (ih (s.put F v)).trans rfl
@[simp] theorem State.putAll_elapsed (l : List (Field × Nat)) : (s.putAll l).elapsed = s.elapsed := by
  induction l generalizing s with
  | nil => rfl
  | cons e t ih => obtain ⟨F, v⟩ := e; exact (ih (s.put F v)).trans rfl
@[simp] theorem State.putAll_free (l : List (Field × Nat)) : (s.putAll l).free = s.free := by
  induction l generalizing s with
  | nil => rfl
  | cons e t ih => obtain ⟨F, v⟩ := e; exact (ih (s.put F v)).trans rfl
@[simp] theorem State.putAll_glades (l : List (Field × Nat)) : (s.putAll l).glades = s.glades := by
  induction l generalizing s with
  | nil => rfl
  | cons e t ih => obtain ⟨F, v⟩ := e; exact (ih (s.put F v)).trans rfl
@[simp] theorem State.putAll_flt (l : List (Field × Nat)) : (s.putAll l).flt = s.flt := by
  induction l generalizing s with
  | nil => rfl
  | cons e t ih => obtain ⟨F, v⟩ := e; exact (ih (s.put F v)).trans rfl
@[simp] theorem State.putAll_host (l : List (Field × Nat)) : (s.putAll l).host = s.host := by
  induction l generalizing s with
  | nil => rfl
  | cons e t ih => obtain ⟨F, v⟩ := e; exact (ih (s.put F v)).trans rfl
@[simp] theorem State.putAll_arm (l : List (Field × Nat)) : (s.putAll l).arm = s.arm := by
  induction l generalizing s with
  | nil => rfl
  | cons e t ih => obtain ⟨F, v⟩ := e; exact (ih (s.put F v)).trans rfl
@[simp] theorem State.putAll_rank (l : List (Field × Nat)) : (s.putAll l).rank = s.rank := by
  induction l generalizing s with
  | nil => rfl
  | cons e t ih => obtain ⟨F, v⟩ := e; exact (ih (s.put F v)).trans rfl
@[simp] theorem State.putAll_enc (l : List (Field × Nat)) : (s.putAll l).enc = s.enc := by
  induction l generalizing s with
  | nil => rfl
  | cons e t ih => obtain ⟨F, v⟩ := e; exact (ih (s.put F v)).trans rfl
@[simp] theorem State.putAll_rings (l : List (Field × Nat)) : (s.putAll l).rings = s.rings := by
  induction l generalizing s with
  | nil => rfl
  | cons e t ih => obtain ⟨F, v⟩ := e; exact (ih (s.put F v)).trans rfl
@[simp] theorem State.putAll_lanes (l : List (Field × Nat)) : (s.putAll l).lanes = s.lanes := by
  induction l generalizing s with
  | nil => rfl
  | cons e t ih => obtain ⟨F, v⟩ := e; exact (ih (s.put F v)).trans rfl
@[simp] theorem State.putAll_loops (l : List (Field × Nat)) : (s.putAll l).loops = s.loops := by
  induction l generalizing s with
  | nil => rfl
  | cons e t ih => obtain ⟨F, v⟩ := e; exact (ih (s.put F v)).trans rfl
@[simp] theorem State.putAll_servo (l : List (Field × Nat)) : (s.putAll l).servo = s.servo := by
  induction l generalizing s with
  | nil => rfl
  | cons e t ih => obtain ⟨F, v⟩ := e; exact (ih (s.put F v)).trans rfl
@[simp] theorem State.putAll_net (l : List (Field × Nat)) : (s.putAll l).net = s.net := by
  induction l generalizing s with
  | nil => rfl
  | cons e t ih => obtain ⟨F, v⟩ := e; exact (ih (s.put F v)).trans rfl
@[simp] theorem State.putAll_pwm (l : List (Field × Nat)) : (s.putAll l).pwm = s.pwm := by
  induction l generalizing s with
  | nil => rfl
  | cons e t ih => obtain ⟨F, v⟩ := e; exact (ih (s.put F v)).trans rfl
@[simp] theorem State.putAll_poss (l : List (Field × Nat)) : (s.putAll l).poss = s.poss := by
  induction l generalizing s with
  | nil => rfl
  | cons e t ih => obtain ⟨F, v⟩ := e; exact (ih (s.put F v)).trans rfl
@[simp] theorem State.putAll_adcs (l : List (Field × Nat)) : (s.putAll l).adcs = s.adcs := by
  induction l generalizing s with
  | nil => rfl
  | cons e t ih => obtain ⟨F, v⟩ := e; exact (ih (s.put F v)).trans rfl
@[simp] theorem State.putAll_sched (l : List (Field × Nat)) : (s.putAll l).sched = s.sched := by
  induction l generalizing s with
  | nil => rfl
  | cons e t ih => obtain ⟨F, v⟩ := e; exact (ih (s.put F v)).trans rfl
@[simp] theorem State.putAll_sec (l : List (Field × Nat)) : (s.putAll l).sec = s.sec := by
  induction l generalizing s with
  | nil => rfl
  | cons e t ih => obtain ⟨F, v⟩ := e; exact (ih (s.put F v)).trans rfl
@[simp] theorem State.putAll_nvm (l : List (Field × Nat)) : (s.putAll l).nvm = s.nvm := by
  induction l generalizing s with
  | nil => rfl
  | cons e t ih => obtain ⟨F, v⟩ := e; exact (ih (s.put F v)).trans rfl
@[simp] theorem State.putAll_age (l : List (Field × Nat)) : (s.putAll l).age = s.age := by
  induction l generalizing s with
  | nil => rfl
  | cons e t ih => obtain ⟨F, v⟩ := e; exact (ih (s.put F v)).trans rfl
@[simp] theorem State.putAll_canopy (l : List (Field × Nat)) : (s.putAll l).canopy = s.canopy := by
  induction l generalizing s with
  | nil => rfl
  | cons e t ih => obtain ⟨F, v⟩ := e; exact (ih (s.put F v)).trans rfl
@[simp] theorem State.putAll_amber (l : List (Field × Nat)) : (s.putAll l).amber = s.amber := by
  induction l generalizing s with
  | nil => rfl
  | cons e t ih => obtain ⟨F, v⟩ := e; exact (ih (s.put F v)).trans rfl
@[simp] theorem State.putAll_safe (l : List (Field × Nat)) : (s.putAll l).safe = s.safe := by
  induction l generalizing s with
  | nil => rfl
  | cons e t ih => obtain ⟨F, v⟩ := e; exact (ih (s.put F v)).trans rfl

end Sys2Proof.Machine
end

