-- ==== Sys2Proof/Laws/Tables.lean ====
section
/-! SUPPORT. Laws of the sorted tables and of the byte memory: a read after a write, and the canonical form that every operation
keeps. -/

namespace Sys2Proof.Machine

variable {α : Type}

/-! ## Lookup -/

theorem lookupKey_insertKey_same (n : Nat) (v : α) (l : List (Nat × α)) : lookupKey (insertKey n v l) n = some v := by
  induction l with
  | nil => simp [insertKey, lookupKey]
  | cons e t ih =>
    obtain ⟨k, w⟩ := e
    simp only [insertKey]
    split
    · simp [lookupKey]
    · split
      · simp [lookupKey]
      · simp_all [lookupKey]

theorem lookupKey_insertKey_other {n m : Nat} (h : m ≠ n) (v : α) (l : List (Nat × α)) :
    lookupKey (insertKey n v l) m = lookupKey l m := by
  induction l with
  | nil => simp [insertKey, lookupKey, h]
  | cons e t ih =>
    obtain ⟨k, w⟩ := e
    simp only [insertKey]
    split
    · simp [lookupKey, h]
    · split
      · subst_vars; simp [lookupKey, h]
      · simp [lookupKey, ih]

theorem lookupKey_eraseKey_other {n m : Nat} (h : m ≠ n) (l : List (Nat × α)) : lookupKey (eraseKey n l) m = lookupKey l m := by
  induction l with
  | nil => simp [eraseKey]
  | cons e t ih =>
    obtain ⟨k, w⟩ := e
    simp only [eraseKey]
    split
    · subst_vars; simp [lookupKey, h]
    · simp [lookupKey, ih]

/-! ## Rising keys -/

/-- A table that rises above a bound also rises above a smaller one, and without any. -/
theorem keysRise_weaken {n : Nat} {l : List (Nat × α)} (h : keysRise (some n) l = true) : keysRise none l = true := by
  cases l with
  | nil => rfl
  | cons e t => obtain ⟨k, w⟩ := e; simp_all [keysRise]

theorem keysRise_lower {m n : Nat} (hmn : m ≤ n) {l : List (Nat × α)} (h : keysRise (some n) l = true) :
    keysRise (some m) l = true := by
  cases l with
  | nil => rfl
  | cons e t => obtain ⟨k, w⟩ := e; simp_all [keysRise]; omega

theorem lookupKey_below {n m : Nat} (hm : m ≤ n) {l : List (Nat × α)} (h : keysRise (some n) l = true) : lookupKey l m = none := by
  induction l generalizing n with
  | nil => rfl
  | cons e t ih =>
    obtain ⟨k, w⟩ := e
    simp only [keysRise, Bool.and_eq_true, decide_eq_true_eq] at h
    have hne : m ≠ k := by omega
    simp only [lookupKey, hne, if_false]
    exact ih (by omega) h.2

theorem lookupKey_eraseKey_same {n : Nat} {l : List (Nat × α)} (h : keysRise none l = true) : lookupKey (eraseKey n l) n = none := by
  induction l with
  | nil => rfl
  | cons e t ih =>
    obtain ⟨k, w⟩ := e
    simp only [keysRise, Bool.true_and] at h
    simp only [eraseKey]
    split
    · next e => exact lookupKey_below (Nat.le_of_eq e) h
    · next e => simp only [lookupKey, e, if_false]; exact ih (keysRise_weaken h)

/-- A bound below an entry and below the inserted key bounds the table with the key. -/
theorem keysRise_insertKey {p : Option Nat} {n : Nat} {v : α} {l : List (Nat × α)} (h : keysRise p l = true)
    (hp : ∀ b, p = some b → b < n) : keysRise p (insertKey n v l) = true := by
  induction l generalizing p with
  | nil => cases p <;> simp_all [insertKey, keysRise]
  | cons e t ih =>
    obtain ⟨k, w⟩ := e
    simp only [keysRise, Bool.and_eq_true] at h
    simp only [insertKey]
    split
    · next hk =>
      have : keysRise (some n) ((k, w) :: t) = true := by simp [keysRise, hk, h.2]
      cases p <;> simp_all [keysRise]
    · split
      · next _ e => subst e; simp only [keysRise, Bool.and_eq_true]; exact h
      · next h1 h2 =>
        simp only [keysRise, Bool.and_eq_true]
        exact ⟨h.1, ih h.2 (by intro b hb; cases hb; omega)⟩

theorem keysRise_eraseKey {p : Option Nat} {n : Nat} {l : List (Nat × α)} (h : keysRise p l = true) : keysRise p (eraseKey n l) = true := by
  induction l generalizing p with
  | nil => exact h
  | cons e t ih =>
    obtain ⟨k, w⟩ := e
    simp only [keysRise, Bool.and_eq_true] at h
    simp only [eraseKey]
    split
    · cases p with
      | none => exact keysRise_weaken h.2
      | some b => exact keysRise_lower (by simpa using Nat.le_of_lt (of_decide_eq_true h.1)) h.2
    · simp only [keysRise, Bool.and_eq_true]; exact ⟨h.1, ih h.2⟩

theorem keysRise_filter {p : Option Nat} {f : Nat × α → Bool} {l : List (Nat × α)} (h : keysRise p l = true) :
    keysRise p (l.filter f) = true := by
  induction l generalizing p with
  | nil => exact h
  | cons e t ih =>
    obtain ⟨k, w⟩ := e
    simp only [keysRise, Bool.and_eq_true] at h
    simp only [List.filter_cons]
    split
    · simp only [keysRise, Bool.and_eq_true]; exact ⟨h.1, ih h.2⟩
    · cases p with
      | none => exact ih (keysRise_weaken h.2)
      | some b => exact ih (keysRise_lower (by simpa using Nat.le_of_lt (of_decide_eq_true h.1)) h.2)

/-! ## Tables with a default -/

theorem mem_insertKey {n : Nat} {v : α} {l : List (Nat × α)} {e : Nat × α} (h : e ∈ insertKey n v l) : e = (n, v) ∨ e ∈ l := by
  induction l with
  | nil => simpa [insertKey] using h
  | cons a t ih =>
    obtain ⟨k, w⟩ := a
    simp only [insertKey] at h
    split at h
    · simpa using h
    · split at h
      · simp only [List.mem_cons] at h ⊢; tauto
      · simp only [List.mem_cons] at h ⊢; rcases h with h | h
        · exact .inr (.inl h)
        · rcases ih h with h | h <;> tauto

theorem mem_eraseKey {n : Nat} {l : List (Nat × α)} {e : Nat × α} (h : e ∈ eraseKey n l) : e ∈ l := by
  induction l with
  | nil => exact h
  | cons a t ih =>
    obtain ⟨k, w⟩ := a
    simp only [eraseKey] at h
    split at h
    · exact List.mem_cons_of_mem _ h
    · simp only [List.mem_cons] at h ⊢; rcases h with h | h
      · exact .inl h
      · exact .inr (ih h)

variable [DecidableEq α]

theorem Tab.wf_iff {d : α} {t : Tab α} : Tab.wf d t = true ↔ keysRise none t = true ∧ ∀ e ∈ t, e.2 ≠ d := by
  simp [Tab.wf]

theorem tset_wf {d : α} {t : Tab α} (h : Tab.wf d t = true) (k : Nat) (v : α) : Tab.wf d (tset d t k v) = true := by
  rw [Tab.wf_iff] at h ⊢
  unfold tset
  split
  · exact ⟨keysRise_eraseKey h.1, fun e he => h.2 e (mem_eraseKey he)⟩
  · next hv =>
    refine ⟨keysRise_insertKey h.1 (by simp), fun e he => ?_⟩
    rcases mem_insertKey he with rfl | he
    · exact hv
    · exact h.2 e he

theorem tget_tset_other {d : α} {t : Tab α} {k m : Nat} (h : m ≠ k) (v : α) : tget d (tset d t k v) m = tget d t m := by
  unfold tget tset
  split
  · rw [lookupKey_eraseKey_other h]
  · rw [lookupKey_insertKey_other h]

theorem tget_tset_same {d : α} {t : Tab α} (h : keysRise none t = true) (k : Nat) (v : α) : tget d (tset d t k v) k = v := by
  unfold tget tset
  split
  · next e => rw [lookupKey_eraseKey_same h, e]; rfl
  · rw [lookupKey_insertKey_same]; rfl

theorem tget_tset_value {d : α} {t : Tab α} {v : α} (hv : v ≠ d) (k : Nat) : tget d (tset d t k v) k = v := by
  unfold tget tset
  rw [if_neg hv, lookupKey_insertKey_same]; rfl

/-! ## The byte memory -/

theorem Memory.write_wf {m : Memory} (h : m.wf = true) (a : Nat) (b : Byte) : (m.write a b).wf = true := tset_wf h a b

theorem Memory.writeN_wf {m : Memory} (h : m.wf = true) (a : Nat) (bs : List Byte) : (m.writeN a bs).wf = true := by
  induction bs generalizing m a with
  | nil => exact h
  | cons b t ih => exact ih (Memory.write_wf h a b) (a + 1)

theorem Memory.filter_wf {m : Memory} (h : m.wf = true) (f : Nat × Byte → Bool) : Memory.wf (m.filter f) = true := by
  unfold Memory.wf at h ⊢
  rw [Tab.wf_iff] at h ⊢
  exact ⟨keysRise_filter h.1, fun e he => h.2 e (List.mem_filter.mp he).1⟩

theorem Memory.zeroN_wf {m : Memory} (h : m.wf = true) (a n : Nat) : (m.zeroN a n).wf = true := Memory.filter_wf h _

theorem Memory.foldl_write_wf {m : Memory} (h : m.wf = true) {β : Type} (l : List β) (f : β → Nat) (g : β → Byte) :
    Memory.wf (l.foldl (fun a c => Memory.write a (f c) (g c)) m) = true := by
  induction l generalizing m with
  | nil => exact h
  | cons c t ih => exact ih (Memory.write_wf h _ _)

theorem Memory.copyN_wf {m : Memory} (h : m.wf = true) (src n dst : Nat) : (m.copyN src n dst).wf = true :=
  Memory.foldl_write_wf (Memory.zeroN_wf h dst n) _ (fun c : Nat × Byte => c.1 - src + dst) (fun c => c.2)

theorem Memory.read_write_other {m : Memory} {a x : Nat} (h : x ≠ a) (b : Byte) : (m.write a b).read x = m.read x := tget_tset_other h b

theorem Memory.read_write_same {m : Memory} (h : m.wf = true) (a : Nat) (b : Byte) : (m.write a b).read a = b :=
  tget_tset_same (Tab.wf_iff.mp h).1 a b

/-- What a run of writes leaves alone. -/
theorem Memory.read_writeN_other {m : Memory} {a x : Nat} {bs : List Byte} (h : x < a ∨ a + bs.length ≤ x) :
    (m.writeN a bs).read x = m.read x := by
  induction bs generalizing m a with
  | nil => rfl
  | cons b t ih =>
    simp only [List.length_cons] at h
    rw [Memory.writeN, ih (by omega), Memory.read_write_other (by omega)]

end Sys2Proof.Machine
end

