-- ==== Sys2Proof/Laws/Ops.lean ====
section
/-! SUPPORT. One lemma per shared operation: what a field reads after a write or a raised bit, what keeps the stores canonical, and
what a device in service grants. -/

namespace Sys2Proof.Machine

/-! ## Fields -/

theorem get_put_other {F G : Field} (h : G.key ≠ F.key) (v : Nat) (s : State) : (s.put F v).get G = s.get G := by
  unfold State.get State.put
  dsimp only
  split
  · rw [lookupKey_eraseKey_other h]
  · rw [lookupKey_insertKey_other h]

theorem get_put_same {s : State} (h : keysRise none s.regs = true) (F : Field) (v : Nat) : (s.put F v).get F = v % 2 ^ F.w := by
  unfold State.get State.put
  dsimp only
  split
  · next e => rw [lookupKey_eraseKey_same h, e]; rfl
  · rw [lookupKey_insertKey_same]; rfl

/-- A value other than the reset value reads back whatever the store holds. -/
theorem get_put_value {s : State} {F : Field} {v : Nat} (h : v % 2 ^ F.w ≠ F.rst) : (s.put F v).get F = v % 2 ^ F.w := by
  unfold State.get State.put
  rw [if_neg h, lookupKey_insertKey_same]; rfl

theorem regs_put_rise {s : State} (h : keysRise none s.regs = true) (F : Field) (v : Nat) : keysRise none (s.put F v).regs = true := by
  unfold State.put
  dsimp only
  split
  · exact keysRise_eraseKey h
  · exact keysRise_insertKey h (by simp)

theorem State.canonical_iff {s : State} : s.canonical = true ↔ s.mem.wf = true ∧ keysRise none s.regs = true := by
  simp [State.canonical]

theorem put_canonical {s : State} (h : s.canonical = true) (F : Field) (v : Nat) : (s.put F v).canonical = true :=
  State.canonical_iff.mpr ⟨(State.canonical_iff.mp h).1, regs_put_rise (State.canonical_iff.mp h).2 F v⟩

theorem addTo_canonical {s : State} (h : s.canonical = true) (F : Field) (n : Nat) : (s.addTo F n).canonical = true := put_canonical h F _

theorem addSat_canonical {s : State} (h : s.canonical = true) (F : Field) (n : Nat) : (s.addSat F n).canonical = true := put_canonical h F _

theorem post_canonical {s : State} (h : s.canonical = true) (e : Event) : (s.post e).canonical = true := h

theorem writeBytes_canonical {s : State} (h : s.canonical = true) (a : Nat) (bs : List Byte) : (s.writeBytes a bs).canonical = true := by
  obtain ⟨hm, hr⟩ := State.canonical_iff.mp h
  refine State.canonical_iff.mpr ⟨?_, by simpa using hr⟩
  unfold State.writeBytes
  dsimp only
  split
  · exact Memory.writeN_wf hm a bs
  · rw [State.memEvents_mem]
    exact Memory.foldl_write_wf hm _ (fun e : Byte × Nat => a + e.2) (fun e => e.1)

theorem putAll_canonical {s : State} (h : s.canonical = true) (l : List (Field × Nat)) : (s.putAll l).canonical = true := by
  induction l generalizing s with
  | nil => exact h
  | cons e t ih => obtain ⟨F, v⟩ := e; exact ih (put_canonical h F v)

theorem signal_regs (s o : State) : (s.signal o).regs = s.regs := rfl

theorem signal_mem (s o : State) : (s.signal o).mem = s.mem := rfl

/-- The message counters do not take part in the canonical form. -/
theorem signal_canonical {s : State} (h : s.canonical = true) (o : State) : (s.signal o).canonical = true := by
  rw [State.canonical_iff] at h ⊢
  rw [signal_regs, signal_mem]
  exact h

theorem get_signal (s o : State) (F : Field) : (s.signal o).get F = s.get F := by
  unfold State.get
  rw [signal_regs]

theorem raise_canonical {s : State} (h : s.canonical = true) (F : Field) : (s.raise F).canonical = true := by
  unfold State.raise
  dsimp only
  repeat' split
  all_goals first
    | exact put_canonical h F 1
    | (apply signal_canonical; exact put_canonical (put_canonical h F 1) _ _)

theorem forAll_canonical {l : List Nat} {f : Nat → State → State} (hf : ∀ n a, a.canonical = true → (f n a).canonical = true)
    {s : State} (h : s.canonical = true) : (forAll l f s).canonical = true := by
  unfold forAll
  induction l generalizing s with
  | nil => exact h
  | cons n t ih => exact ih (hf n s h)

/-! ## Raised bits (R4) -/

/-- A raised bit changes its own field and the IRQ_STAT word of its page only. -/
theorem get_raise_other {F G : Field} (h : G.key ≠ F.key) (hi : G.key ≠ 32 * (pageOf F.addr + 0x14)) (s : State) :
    (s.raise F).get G = s.get G := by
  have key : ∀ (u : State) (w : Nat), (u.put ⟨pageOf F.addr + 0x14, 0, 32, 0, .rc⟩ w).get G = u.get G :=
    fun u w => get_put_other (by simpa [Field.key] using hi) w u
  unfold State.raise
  dsimp only
  repeat' split
  all_goals first
    | exact get_put_other h 1 s
    | (rw [get_signal]; exact (key _ _).trans (get_put_other h 1 s))

/-- A raised bit reads 1, where its IRQ_STAT word is another one and its reset value is 0. -/
theorem get_raise_same {F : Field} (h : F.key ≠ 32 * (pageOf F.addr + 0x14)) (hw : F.w ≠ 0) (hr : F.rst = 0) (s : State) :
    (s.raise F).get F = 1 := by
  have h1 : 1 % 2 ^ F.w = 1 := Nat.mod_eq_of_lt (Nat.one_lt_two_pow hw)
  have own : (s.put F 1).get F = 1 := by rw [get_put_value (by rw [h1, hr]; decide), h1]
  have key : ∀ (u : State) (w : Nat), (u.put ⟨pageOf F.addr + 0x14, 0, 32, 0, .rc⟩ w).get F = u.get F :=
    fun u w => get_put_other (by simpa [Field.key] using h) w u
  unfold State.raise
  dsimp only
  repeat' split
  all_goals first
    | exact own
    | (rw [get_signal]; exact (key _ _).trans own)

/-! ## A device in service -/

theorem State.inService_iff {s : State} : s.inService = true ↔
    s.host.phase = .applied ∧ s.returned = false ∧ s.flt.l4 = false ∧ s.flt.units = [] ∧ s.host.links = [] ∧ s.gladesUp = true
      ∧ s.canonical = true := by
  simp [State.inService, and_assoc]

/-- In service every glade of the variant runs. -/
theorem inService_up {s : State} (h : s.inService = true) {g : Nat} (hg : gladePresent s.variant g = true) (hl : g < 44) : s.up g = true := by
  have hs := (State.inService_iff.mp h).2.2.2.2.2.1
  unfold State.gladesUp at hs
  have := List.all_eq_true.mp hs g (List.mem_range.mpr hl)
  simpa [hg] using this

/-- The common glades run in service in every variant. -/
theorem inService_common {s : State} (h : s.inService = true) {g : Nat} (hg : g ≤ 10) : s.up g = true :=
  inService_up h (by simp [gladePresent, hg]) (by omega)

/-- A glade that runs is present, neither fenced nor gated. -/
theorem up_parts {s : State} {g : Nat} (h : s.up g = true) :
    gladePresent s.variant g = true ∧ s.gladeFenced g = false ∧ (s.glade g).gated = false := by
  simp only [State.up, Bool.and_eq_true, Bool.not_eq_true'] at h
  exact ⟨h.1.1.1.1.1, h.1.1.1.2, h.1.2⟩

theorem inService_unit {s : State} (h : s.inService = true) (u : Nat) : s.unitFenced u = false := by
  simp [State.unitFenced, (State.inService_iff.mp h).2.2.2.1, tget, lookupKey]

theorem inService_mayWrite {s : State} (h : s.inService = true) (addr : Nat) : s.hostMayWrite addr = true := by
  obtain ⟨hp, hr, -⟩ := State.inService_iff.mp h
  simp [State.hostMayWrite, State.hostReaches, hp, hr]

/-- A page of a running glade takes its writes. -/
theorem takenBy_up {s : State} {g addr : Nat} (hg : s.up g = true) (ha : pageAbsent s.variant addr = false) (f : State → State) :
    s.takenBy g addr f = f s := by
  obtain ⟨h1, h2, h3⟩ := up_parts hg
  simp [State.takenBy, h1, h2, h3, ha, hg]

/-- In service no link is fenced. -/
theorem inService_link {s : State} (h : s.inService = true) (a b : Nat) : s.linkCut a b = false := by
  simp [State.linkCut, (State.inService_iff.mp h).2.2.2.2.1]

/-- In service a transfer over a link is delivered. -/
theorem overLink_inService {s : State} (h : s.inService = true) (a b : Nat) (f : State → State) : s.overLink a b f = f s := by
  simp [State.overLink, inService_link h]

/-- Over a fenced link a transfer is discarded and its sender counts it (R22). -/
theorem overLink_cut {s : State} {a b : Nat} (h : s.linkCut a b = true) (f : State → State) : s.overLink a b f = s.discardWrites a 1 := by
  simp [State.overLink, h]

/-- In service a write with an action of its own is taken by its page's glade, whichever glade sends it. -/
theorem commandedFrom_inService {s : State} (h : s.inService = true) {addr g : Nat} (hp : pageGlade addr = some g) (hg : s.up g = true)
    (ha : pageAbsent s.variant addr = false) (a : Nat) (f : State → State) : s.commandedFrom a addr f = f s := by
  have hl := (State.inService_iff.mp h).2.2.1
  simp [State.commandedFrom, State.gatedWrite, hl, inService_mayWrite h, hp, inService_link h, takenBy_up hg ha]

/-- In service a write with an action of its own is taken by its page's glade. -/
theorem commanded_inService {s : State} (h : s.inService = true) {addr g : Nat} (hp : pageGlade addr = some g) (hg : s.up g = true)
    (ha : pageAbsent s.variant addr = false) (f : State → State) : s.commanded addr f = f s :=
  commandedFrom_inService h hp hg ha 0 f

/-- A page's glade is one of the 44 (R12, R819). -/
theorem gladePresent_lt {v : Variant} {g : Nat} (h : gladePresent v g = true) : g < 44 := by
  have hg : v.groves ≤ 4 := by cases v <;> decide
  have hr : v.rings / 8 ≤ 12 := by cases v <;> decide
  simp only [gladePresent, Bool.or_eq_true, decide_eq_true_eq] at h
  omega

/-- In service a write with an action of its own is taken on every page that the variant has, whichever glade sends it. -/
theorem commandedFrom_takes {s : State} {addr : Nat} (h : s.takes addr = true) (a : Nat) (f : State → State) :
    s.commandedFrom a addr f = f s := by
  simp only [State.takes, Bool.and_eq_true] at h
  obtain ⟨hs, hp⟩ := h
  cases hg : pageGlade addr with
  | none => simp [hg] at hp
  | some g =>
    simp only [hg, Bool.and_eq_true, Bool.not_eq_true'] at hp
    exact commandedFrom_inService hs hg (inService_up hs hp.1 (gladePresent_lt hp.1)) hp.2 a f

theorem commanded_takes {s : State} {addr : Nat} (h : s.takes addr = true) (f : State → State) : s.commanded addr f = f s :=
  commandedFrom_takes h 0 f

/-! ## Steps -/

theorem step_cons {s : State} {c : Instr} {rest : List Instr} (h : s.pending = c :: rest) : step s = exec c { s with pending := rest } := by
  simp [step, h]

theorem step_idle {s : State} (h : s.pending = []) : step s = .next s.tick := by simp [step, h]

end Sys2Proof.Machine
end

