-- ==== Sys2Proof/Tests/Slice0.lean ====
section
/-! SUPPORT. Tests of single steps on small states, the witnesses of the statements' hypotheses, and ill-formed commands that the
checks refuse. Expected results come from the rules of the spec that each test names. -/

set_option maxRecDepth 40000

namespace Sys2Proof.Tests

open Sys2Proof.Machine

/-- The state after a command. -/
def after (c : Instr) (s : State) : State := match exec c s with | .next t => t | .fault _ => s | .refused _ => s

/-- Every glade of -X out of reset. -/
def allGlades : Tab GladeSt := (List.range 11 ++ List.range' 16 3 ++ List.range' 32 12).map (fun g => (g, {inReset := false}))

/-- A device in service right after start-up, with some fields set. -/
def live (l : List (Field × Nat)) : State :=
  State.putAll l { State.reset with glades := allGlades, host := { phase := .applied } }

/-! ## Witnesses of the machine-wide statements -/

theorem idle_witness :
    State.reset.pending = [] ∧ ({ live [] with glades := tset {} allGlades 9 {} }).timeUp = true
      ∧ ({ live [] with glades := tset {} allGlades 9 {} }).up 9 = false := by decide

theorem canonical_witness : State.reset.canonical = true ∧ (live [(R.ARM_CYC_LEN_LEN, 700)]).canonical = true := by decide

theorem inService_witness : (live []).inService = true := by decide

theorem takes_witness : (live []).takes 0x1050 = true ∧ (live []).takes 0x10008 = true ∧ (live []).takes 0x16F008 = true
    ∧ ({ live [] with variant := .b }).takes 0x12F008 = false := by decide

/-- R864: 9,999 ns are too short. -/
theorem por_short : (after .porRelease (after (.powerOnReset 0 true) (live []))).up 1 = false ∧ (after (.powerOnReset 9999 false) (live [])).up 5 = true ∧ (after (.powerOnReset 10000 false) (live [])).up 5 = false
    ∧ (after (.powerOnReset 0 true) (live [(R.SEC_STATUS_CNT, 7)])).get R.SEC_STATUS_CNT = 7 := by decide

/-- A device whose glades 1 to 3 have left reset. -/
def released : State := after .porRelease State.reset
/-- A device before its image is verified, -B. -/
def lockedB : State := after .pllLocked { released with variant := .b }

theorem release_witness : State.reset.host.phase = .reset ∧ State.reset.host.vsafeLow = false ∧ released.host.vsafeLow = false
    ∧ (after (.powerOnReset 0 true) (live [])).host.vsafeLow = true ∧ (after (.powerOnReset 0 true) (live [])).host.phase = .reset ∧ State.reset.glades = [] ∧ released.host.phase = .released
    ∧ released.up 1 = true ∧ released.up 3 = true ∧ released.up 5 = false := by decide

/-- R866: absent glades stay in reset: -B has one grove and four ring glades. -/
theorem pll_witness : lockedB.up 5 = true ∧ lockedB.up 16 = true ∧ lockedB.up 17 = false ∧ lockedB.up 35 = true
    ∧ lockedB.up 36 = false ∧ lockedB.host.phase = .locked := by decide

/-- R16. -/
theorem glade_exit_witness : released.host.phase ≠ .reset ∧ gladePresent .x 5 = true ∧ (released.glade 5).clkBad = false
    ∧ (after (.gladeResetExit 5) released).up 5 = true := by decide

/-- A device before its image is verified, -X. -/
def lockedX : State := after .pllLocked released

theorem boot_witness : lockedX.canonical = true ∧ lockedX.up 2 = true ∧ lockedX.host.phase = .locked ∧ lockedX.sec.boots = 0
    ∧ lockedX.returned = false ∧ (lockedX.put R.SEC_STATUS_RETURNED 1).returned = true
    ∧ (lockedX.put R.SEC_STATUS_RETURNED 1).host.phase = .locked ∧ (lockedX.put R.SEC_STATUS_CNT 5).get R.SEC_STATUS_CNT = 5 := by decide

/-- R770: the verdict part of boot, from the preferred slot 1. -/
theorem boot_order : ((lockedX.put R.SEC_STATUS_CNT 5).bootFrom 1 (.inr R.SEC_EVT_ROLLBACK) (.inl 5)).get R.SEC_STATUS_SLOT = 0
    ∧ ((lockedX.put R.SEC_STATUS_CNT 5).bootFrom 1 (.inr R.SEC_EVT_ROLLBACK) (.inl 5)).get R.SEC_EVT_ROLLBACK = 1
    ∧ ((lockedX.put R.SEC_STATUS_CNT 5).bootFrom 1 (.inl 5) (.inr R.SEC_EVT_SIG_FAIL)).get R.SEC_STATUS_FALLBACK = 0 := by decide

/-- An image with nothing in it. -/
def emptyImage : Image :=
  { codeSize := 0, tasks := [], buffers := [], regs := [], streams := [], channels := [], pubs := [],
    subs := [], sessions := [], pset := none, boards := [], clock := {} }
/-- One task. -/
def oneTask : TaskDecl :=
  { num := 3, entry := 0x20000000, prio := 1, classP := some true, ready := .any 6, tb := 100, rb := 200, bufs := [], pages := [], enabled := true }
/-- A device whose image is verified. -/
def verifiedX : State := { lockedX with host := { lockedX.host with phase := .verified } }

theorem image_witness : verifiedX.canonical = true ∧ verifiedX.host.phase = .verified ∧ verifiedX.up 0 = true ∧ verifiedX.up 2 = true
    ∧ verifiedX.flt.l4 = false ∧ verifiedX.storedCells 1 = [] ∧ verifiedX.storedCells 0 = [] ∧ taskSetOk .x emptyImage = true
    ∧ taskSetOk .x { emptyImage with tasks := [{ oneTask with classP := none }] } = false
    ∧ (after (.imageApply emptyImage) verifiedX).host.phase = .applied := by decide

/-- R466: TB above RB, and a matched task above 15. -/
theorem task_set_refused : taskSetOk .x { emptyImage with tasks := [{ oneTask with tb := 201 }] } = false
    ∧ taskSetOk .x { emptyImage with tasks := [{ oneTask with num := 16, ready := .matched 0 4 1 }] } = false
    ∧ taskSetOk .x { emptyImage with tasks := [{ oneTask with ready := .matched 1000 25 1 }] } = false
    ∧ taskSetOk .x { emptyImage with tasks := [{ oneTask with ready := .matched 1000 24 1 }] } = true := by decide

/-- A device that expects a board with lanes 8 to 15 on bus 2. -/
def boarded : State := { live [] with host := { phase := .applied, boards := [{ bus := 2, btype := 0x0102, first := 8, cnt := 8 }] } }
/-- The first 28 bytes of that board's identity memory (R870). -/
def boardBody : List Byte := [1, 0, 2, 1, 8, 8, 0, 0] ++ List.replicate 20 0x41

theorem board_witness : boarded.host.boards.find? (fun x => decide (x.bus = 2)) = some { bus := 2, btype := 0x0102, first := 8, cnt := 8 } ∧ boarded.up 0 = true ∧ boarded.host.phase = .applied
    ∧ boardMatches { bus := 2, btype := 0x0102, first := 8, cnt := 8 } (boardBody ++ leBytes 4 (crc32c boardBody)) = true
    ∧ boardMatches { bus := 2, btype := 0x0102, first := 8, cnt := 9 } (boardBody ++ leBytes 4 (crc32c boardBody)) = false
    ∧ boardMatches { bus := 2, btype := 0x0102, first := 8, cnt := 8 } [] = false := by decide

/-- R870: the lanes of the range are held, others are not. -/
theorem board_holds : (after (.boardIdentify 2 []) boarded).host.laneHeld = [8, 9, 10, 11, 12, 13, 14, 15]
    ∧ (after (.laneEnable 9) (after (.boardIdentify 2 []) boarded)).get (R.LANE_CTRL_EN 9) = 0
    ∧ (after (.laneEnable 16) (after (.boardIdentify 2 []) boarded)).get (R.LANE_CTRL_EN 16) = 1 := by decide

theorem sfp_witness : (live [(R.ETH_CTRL_EN 1, 1)]).inService = true ∧ (live [(R.ETH_CTRL_EN 1, 1)]).on (R.ETH_CTRL_EN 1) = true
    ∧ (after (.sfpIdentify 1 none) (live [(R.ETH_CTRL_EN 1, 1)])).get (R.ETH_CTRL_EN 1) = 0
    ∧ (after (.sfpIdentify 1 (some 3)) (live [(R.ETH_CTRL_EN 1, 1)])).get (R.ETH_CTRL_EN 1) = 1 := by decide

/-! ## Faults -/

/-- An event of class TIME from the servo. -/
def timeEvent : Event := { cls := .time, unit := 0x0401 }

/-- R733, R735: TIME has base level L1; an open record escalates it to L2, then L3 and L4. -/
theorem level_witness : (live []).takenLevel timeEvent = 1
    ∧ ((after (.faultEvent (some timeEvent)) (live [])).takenLevel timeEvent) = 2
    ∧ (live []).takenLevel { timeEvent with req := .l0 } = 0
    ∧ (live []).takenLevel { timeEvent with req := .atLeast 4 } = 4
    ∧ (live []).takenLevel { cls := .safe, unit := 0x0300, req := .atLeast 2 } = 3 := by decide

/-- R165: an event of the group that opened the record does not escalate. -/
theorem group_witness :
    (after (.faultEvent (some { cls := .sc, unit := 0x2000, group := some 7 })) (live [])).escalates { cls := .sc, unit := 0x2001, group := some 7 } = false
    ∧ (after (.faultEvent (some { cls := .sc, unit := 0x2000, group := some 7 })) (live [])).escalates { cls := .sc, unit := 0x2001, group := some 8 } = true := by decide

/-- A device in RUN. -/
def running : State := { live [] with arm := { mode := .run } }

theorem event_witness : (live []).inService = true ∧ keysRise none (live []).flt.tasks = true ∧ (live []).canonical = true
    ∧ (live []).takenLevel { cls := .loop, unit := 0x0805, req := .atLeast 2 } = 2
    ∧ (live []).fenceTarget { cls := .loop, unit := 0x0805, req := .atLeast 2 } = .units [0x0805]
    ∧ (after (.faultEvent (some { cls := .loop, unit := 0x0805, req := .atLeast 2 })) (live [])).unitFenced 0x0805 = true
    ∧ ((live []).post { timeEvent with unit := 0x0402 }).flt.inboxAt = [((live []).post timeEvent).elapsed] ∧ running.inService = true ∧ running.arm.mode = .run
    ∧ (live []).takenLevel { timeEvent with req := .l0 } = 0 ∧ ((live []).record 14).used = false
    ∧ running.takenLevel { timeEvent with req := .atLeast 3 } = 3 ∧ (live []).flt.inbox = [] := by decide

theorem event_effects : (after (.faultEvent (some { timeEvent with req := .atLeast 3 })) running).arm.mode = .blocked
    ∧ (after (.faultEvent (some timeEvent)) running).arm.mode = .run
    ∧ (after (.faultEvent (some { timeEvent with req := .l0, aux := 9 })) running).get R.FLT_L0_AUX_AUX = 9
    ∧ (after (.faultEvent none) (running.post timeEvent)).get R.FLT_CNT_EVENTS = 1
    ∧ ((after (.faultEvent none) (running.post timeEvent)).record 14).used = true := by decide

/-- A standing record of class NET at L3. -/
def netL3 : State := after (.faultEvent (some { cls := .net, unit := 0x0701, req := .atLeast 3, standing := true })) (live [])

theorem ack_witness : netL3.inService = true ∧ keysRise none netL3.flt.recs = true ∧ (netL3.record 16).used = true
    ∧ 3 ≤ (netL3.record 16).level ∧ (netL3.record 16).standing = true ∧ netL3.flt.frozen = false ∧ (netL3.record 16).src = 0 ∧ (netL3.record 16).rep < 256 ∧ (netL3.record 16).unit = 0x0701 := by decide

/-- R741. -/
theorem ack_refused_then_taken : ((after (.faultAck 0x10000) netL3).record 16).used = true
    ∧ (after (.faultAck 0x10000) netL3).get R.FLT_STATUS_ACK_REF = 1
    ∧ ((after (.faultAck 0x10000) (after (.faultCauseCleared .net ⟨0x0701, 0, 0⟩) netL3)).record 16).used = false
    ∧ (after .histClr netL3).flt.hist = [] ∧ (after (.recIdxWrite 16) netL3).get R.FLT_REC_IDX_CLASS = 16
    ∧ (after (.recIdxWrite 16) netL3).get (R.FLT_REC_WORD 0) = 16 * 2 ^ 27 + 3 * 2 ^ 24 + 2 ^ 22 + 0x0701 := by decide

/-- Loop unit 5 fenced by class LOOP. -/
def loopFenced : State := { live [] with flt := { units := [(0x0805, 13)] } }

theorem unfence_witness : loopFenced.up 1 = true ∧ loopFenced.flt.l4 = false ∧ loopFenced.hostMayWrite 0x1058 = true ∧ loopFenced.linkCut 0 1 = false
    ∧ loopFenced.canonical = true ∧ keysRise none loopFenced.flt.units = true ∧ unitKind .x 0x0805 = .loop 5
    ∧ loopFenced.gladeFenced 8 = false ∧ loopFenced.unitFenced 0x0805 = true ∧ loopFenced.unitFenced 0x0806 = false
    ∧ (loopFenced.record 13).used = false ∧ loopFenced.wornOut 0x0805 = false ∧ (loopFenced.glade 8).clkBad = false ∧ keysRise none loopFenced.flt.tasks = true
    ∧ (after (.unfence false 0x0805 true) loopFenced).unitFenced 0x0805 = false
    ∧ (after (.unfence false 0x0806 true) loopFenced).get R.FLT_UNFENCE_RESULT = 1
    ∧ (after (.unfence false 0x0805 true) (after (.faultEvent (some { cls := .loop, unit := 0x0801, req := .atLeast 1 })) loopFenced)).get
        R.FLT_UNFENCE_RESULT = 2 := by decide

/-- Ring 3 with its lane, task 9 and the first grove fenced. -/
def manyFenced : State :=
  { live [] with flt := { units := [(0x2003, 3), (0x200B, 3)], tasks := [(9, 18)] }, glades := tset {} allGlades 16 { inReset := false, fencedBy := 1 } }

theorem unfence_more_witness : manyFenced.up 1 = true ∧ manyFenced.canonical = true ∧ keysRise none manyFenced.flt.units = true
    ∧ keysRise none manyFenced.flt.tasks = true ∧ manyFenced.unitFenced 0x2003 = true ∧ manyFenced.taskFenced 9 = true ∧ manyFenced.gladeFenced 16 = true
    ∧ (after (.unfence false 0x2003 true) manyFenced).flt.units = [] ∧ (after (.unfence true 9 true) manyFenced).flt.tasks = []
    ∧ (after (.unfence false 0x1000 false) manyFenced).get R.FLT_UNFENCE_RESULT = 3
    ∧ (after (.unfence false 0x1000 true) manyFenced).up 16 = true := by decide

theorem monitor_witness : (live []).flt.rails.contains 3 = false ∧ (after (.supplyExcursion 3) (live [])).flt.rails.contains 3 = true ∧ (live []).age.tjs = [] ∧ (live []).up 10 = true ∧ (live []).flt.l4 = false ∧ (live []).planKhz 5 = 1000000
    ∧ 9 * (live []).planKhz 5 ≤ 10 * 900000 ∧ gladePresent .x 0 = true ∧ gladePresent .x 32 = true ∧ (0, 32) ∉ (live []).host.links
    ∧ (live []).up 1 = true ∧ fieldAt 0x71040 R.ARM_REF_MISS_LIMIT.lo = fieldAt 0x71040 R.ARM_REF_MISS_LIMIT.lo := by decide

theorem vote_witness : fieldAt R.ARM_REF_MISS_LIMIT.addr R.ARM_REF_MISS_LIMIT.lo = some R.ARM_REF_MISS_LIMIT ∧ R.ARM_REF_MISS_LIMIT.acc = .rwt
    ∧ (live []).up (ownerUnit R.ARM_REF_MISS_LIMIT.addr / 256) = true ∧ R.ARM_REF_MISS_LIMIT.addr / 0x1000 ≠ 1 ∧ vote 4 5 4 = some 4
    ∧ (after (.rwtVoteDisagree R.ARM_REF_MISS_LIMIT.addr R.ARM_REF_MISS_LIMIT.lo 4 5 4) (live [])).get R.ARM_REF_MISS_LIMIT = 4 := by decide

theorem monitor_effects : (after (.clkEdgeTimeout (.glade 10)) (live [])).gladeFenced 10 = true
    ∧ (after (.clkEdgeTimeout .backup) (live [])).flt.l4 = true
    ∧ (after (.clkFreqWindow (.glade 5) 900000) (live [])).gladeFenced 5 = false
    ∧ (after (.clkFreqWindow (.glade 5) 899999) (live [])).gladeFenced 5 = true
    ∧ (after (.linkRxTimeout 0 32 ⟨3, true⟩) (live [])).host.links = [(0, 32)]
    ∧ (after (.linkRxTimeout 0 32 ⟨3, true⟩) (live [])).host.rdata = [0xFFFFFFFF] ∧ (after (.linkRxTimeout 0 32 ⟨3, false⟩) (live [])).host.rdata = []
    ∧ (after (.registerWrite .spi 0x10008 1 15 true) (after (.linkRxTimeout 0 32 ⟨3, false⟩) (live []))).host.discards = [(0, 4)]
    ∧ (after (.linkParityError 0 5 ⟨0, some 0x5008⟩ true) (live [])).host.rdata = [0xFFFFFFFF]
    ∧ (after (.supplyExcursion 3) (live [])).flt.inbox.length = 1 ∧ (after (.tjLimitExceeded 5 1681) (live [])).flt.inbox.length = 1
    ∧ (after (.tjLimitExceeded 5 1680) (live [])).flt.inbox.length = 0 := by decide

/-! ## Host access -/

theorem write_witness : (live [(R.SYS_STATUS_SPEED, 3)]).inService = true ∧ (live [(R.SYS_STATUS_SPEED, 3)]).pcieUp = true ∧ (live [(⟨0x7018, 0, 1, 0, .rw⟩, 1)]).inService = true ∧ (live [(⟨0x7018, 0, 1, 0, .rw⟩, 1)]).pageLocked 0x7048 = true
    ∧ pageGlade 0x175000 = none ∧ msixArea 0x175000 = false
    ∧ ({ live [] with variant := .m }).inService = true ∧ pageGlade 0x91008 = some 9 ∧ pageAbsent .m 0x91008 = true := by decide

theorem write_effects : (after (.registerWrite .spi 0x7004C 0x105 15 true) (live [])).get R.RANK_OBS_LIMIT = 5
    ∧ (after (.registerWrite .spi 0x7004C 0x100 15 true) (live [])).get R.RANK_OBS_LIMIT = 8
    ∧ (after (.registerWrite .spi 0x7048 0 15 true) (live [(⟨0x7018, 0, 1, 0, .rw⟩, 1)])).get R.AGE_AVS_ADDR = 0x40
    ∧ (after (.registerWrite .spi 0x7048 0 15 true) (live [])).get R.AGE_AVS_ADDR = 0
    ∧ (after (.registerWrite .host 0x7004C 5 14 true) (live [(R.SYS_STATUS_SPEED, 3)])).get R.SYS_HSTAT_PARTIAL = 1
    ∧ (after (.registerWrite .host 0x7004C 5 14 true) (live [(R.SYS_STATUS_SPEED, 3)])).flt.inbox.map (·.aux) = [0x7004C]
    ∧ (after (.registerWrite .host 0x7004C 5 15 true) (live [(R.SYS_STATUS_SPEED, 3)])).get R.RANK_OBS_LIMIT = 5
    ∧ (after (.registerWrite .spi 0x175000 5 15 true) (live [])).flt.inbox.map (·.unit) = [0]
    ∧ (after (.registerWrite .spi 0x7004C 5 15 false) (live [])).get R.SYS_HSTAT_HPAR = 1
    ∧ (after (.registerWrite .spi 0x175000 5 15 true) (live [])).get R.SYS_ERR_ADDR_ADDR = 0x175000
    ∧ (after (.registerWrite .spi 0x91008 5 15 true) { live [] with variant := .m }).flt.inbox.length = 1 := by decide

theorem read_witness : (live []).takes 0x7040 = true ∧ R.AGE_ASTAT_AVS_FAIL ∈ fieldsAt 0x7040 ∧ R.AGE_ASTAT_AVS_FAIL.acc = .rc ∧ ((live []).core 3).worn = false
    ∧ ({ live [] with sched := { cores := [(11, { worn := true })] } }).sparesLeft = 2 ∧ (live []).inService = true ∧ (live []).variant = .x ∧ ({ live [] with variant := .b }).inService = true
    ∧ pageAbsent .b 0x30010 = true ∧ pageGlade 0x30010 = some 36 ∧ msixArea 0x30010 = false ∧ 0x30010 % 0x1000 ≠ 0 := by decide

/-- R5: -X has 32 loop units, 3 spares, 24 cores, 96 lanes. -/
theorem read_effects : (after (.statusRead 4 true) (live [])).host.rdata = [0x20786000 + 0x3C]
    ∧ (after (.statusRead 4 true) { live [] with variant := .b }).host.rdata = [0x10282002]
    ∧ (after (.statusRead 0x7040 true) (live [(R.AGE_ASTAT_AVS_FAIL, 1)])).host.rdata = [16]
    ∧ (after (.statusRead 0x7040 true) (live [(R.AGE_ASTAT_AVS_FAIL, 1)])).get R.AGE_ASTAT_AVS_FAIL = 0
    ∧ (after .nowLoRead { live [] with time := (5 * 2 ^ 32 + 7) * 2 ^ 32 + 9 }).host.rdata = [7]
    ∧ (after .nowLoRead { live [] with time := (5 * 2 ^ 32 + 7) * 2 ^ 32 + 9 }).get R.TIME_NOW_HI_VAL = 5
    ∧ (after (.uIntLoRead 3) { live [] with loops := [(3, { int := 7 * 2 ^ 32 + 5 })] }).host.rdata = [5]
    ∧ ((after (.uIntLoRead 3) { live [] with loops := [(3, { int := 7 * 2 ^ 32 + 5 })] }).loop 3).latch = 7
    ∧ (after (.spdnetRead 1) { live [] with poss := [(1, { speed := 77 })] }).get (R.POS_SPEED_SPD 1) = 77 := by decide

/-- UNLOCK armed by the SPI port, the RANK page locked, in RUN where asked. -/
def armed (run : Bool) : State :=
  { live [(R.RANK_LOCK_LOCK, 1)] with host := { phase := .applied, unlk := some .spi }, arm := { mode := if run then .run else .off } }

theorem unlock_witness : (live []).host.unlk = none ∧ (armed false).pageGranted .host 0x40 = true ∧ sameWriter .spi .host = false
    ∧ (after (.unlockWrite .spi 0x554E4C4B) (armed false)).host.unlk = none ∧ (after (.unlockWrite .spi 0x554E4C4B) (armed false)).flt.inbox.length = 1 ∧ (armed false).inService = true ∧ (armed true).inService = true ∧ (armed false).host.unlk = some .spi
    ∧ pageExists 0x70 = true ∧ pageExists 0xC0 = true ∧ (armed false).pageLocked 0x70000 = true
    ∧ (after (.unlockWrite .spi 0x80000070) (armed false)).pageLocked 0x70000 = false
    ∧ (after (.unlockWrite .spi 0x80000070) (armed true)).pageLocked 0x70000 = true
    ∧ (after (.unlockWrite .host 0x80000070) (armed false)).pageLocked 0x70000 = true
    ∧ (after (.unlockWrite .spi 0x800000C0) (armed false)).get R.SYS_HSTAT_UNLK_REF = 1
    ∧ (after .eoi0 (live [(R.FLT_IRQ_STAT_PEND, 1)])).host.msix0 = 1 ∧ (after .eoi0 (live [])).host.msix0 = 0
    ∧ (after .eoi1 (live [(R.AGE_IRQ_STAT_PEND, 1)])).host.msix1 = 1
    ∧ (after (.pcieLinkUp 3 4) (live [])).pcieUp = true ∧ (after (.pcieReset false) (live [])).pcieUp = false := by decide

/-- A device with the data port at 0x1000. -/
def porting : State := live [(R.DPORT_DP_ADDR_ADDR, 0x1000), (R.SYS_STATUS_SPEED, 3)]

theorem port_witness : porting.inService = true ∧ porting.get R.DPORT_DP_CTRL_INC = 1 ∧ porting.get R.DPORT_DP_CTRL_STRIDE = 1
    ∧ porting.host.dpNext = none ∧ porting.host.dpWait = [] ∧ porting.get R.DPORT_DP_ADDR_ADDR = 0x1000 ∧ porting.memBad = []
    ∧ porting.pcieUp = true ∧ (live []).pcieUp = false ∧ (live [(R.DPORT_DP_ADDR_ADDR, 0x1002)]).inService = true := by decide

theorem port_effects : (after (.dpDataWrite 0x04030201) porting).mem = [(0x1000, 1), (0x1001, 2), (0x1002, 3), (0x1003, 4)]
    ∧ (after .dpDataRead { after (.dpDataWrite 0x04030201) porting with regs := porting.regs }).host.rdata = [0x04030201]
    ∧ (after (.dpDataWrite 1) (live [(R.DPORT_DP_ADDR_ADDR, 0x1002)])).get R.DPORT_DP_STAT_CODE = 5
    ∧ (after (.dpBurstWrite ⟨[9, 8, 7], true⟩) porting).mem = [(0x1000, 9), (0x1001, 8), (0x1002, 7)]
    ∧ (after (.dpBurstRead ⟨2, true⟩) { porting with mem := [(0x1001, 5)] }).host.rdata = [0, 5]
    ∧ (after (.dpAddrWrite 0x24) porting).get R.DPORT_DP_ADDR_ADDR = 0x24 := by decide

theorem spi_effects : (after (.spiDwrite ⟨0x9F, [1], true⟩) (live [])).host.spiErr = true
    ∧ (after (.memoryScrub 0x1000 .uncorrectable) porting).inService = true ∧ porting.get R.DPORT_DP_CTRL_STRIDE = 1
    ∧ (after .dpDataRead (after (.memoryScrub 0x1000 .uncorrectable) porting)).host.rdata = [0xFFFFFFFF] ∧ (after (.spiWrite 0x7004E [0, 0, 0, 9] true) (live [])).host.spiErr = true
    ∧ (after (.spiWrite 0x7004C [0, 0, 0, 9, 1] true) (live [])).get R.RANK_OBS_LIMIT = 9
    ∧ (after (.spiRead 0x7040 1 true) (live [(R.AGE_ASTAT_MARGIN, 1)])).host.rdata = [4]
    ∧ (after .spiStatus { live [] with host := { phase := .applied, spiErr := true } }).host.rdata = [2]
    ∧ (after (.memoryScrub 0x1000 .uncorrectable) porting).memBad = [0x200]
    ∧ (after .dpDataRead (after (.memoryScrub 0x1000 .uncorrectable) porting)).get R.DPORT_DP_STAT_CODE = 4 := by decide

theorem absent_page_witness : ({ live [] with variant := .b }).inService = true ∧ pageGlade 0xC0010 = some 3 ∧ msixArea 0xC0010 = false ∧ pageAbsent .b 0xC0010 = true
    ∧ ((after (.registerWrite .spi 0xC0010 5 15 true) { live [] with variant := .b }).flt.inbox.map (·.aux)) = [0xC0010]
    ∧ ((after (.registerWrite (.core 0x1000 3) 0x60000 5 15 true) { live [] with variant := .b }).flt.inbox.map (·.cls)) = [.config] := by decide

/-! ## The arm -/

theorem arm_command_witness : running.inService = true ∧ running.arm.mode = .run ∧ (live []).arm.mode = .off
    ∧ (after .goCharge (live [])).arm.pend = some .charge ∧ (after .goBlock running).arm.mode = .blocked
    ∧ (after .goBlock (live [])).arm.mode = .off := by decide

/-- A ring in READY on its locked lane. -/
def readyRing (n : Nat) (s : State) : State :=
  { s with rings := tset {} s.rings n { mode := .ready }, lanes := tset {} s.lanes n { mode := .locked } }

theorem block_frame_owed : (readyRing 4 running).ringUp 4 = true ∧ blockRuns ((readyRing 4 running).ring 4).mode = true ∧ blockRuns .ident = true ∧ blockRuns .enum = false
    ∧ ((after .goBlock (readyRing 4 running)).ring 4).blkWait = true := by decide

/-- A selection is done in a cycle in which a state command waits. -/
def waiting (m : ArmMode) (r : ArmReq) (s : State) : State := { s with arm := { mode := m, pend := some r, running := true, selDone := true } }

theorem commit_witness : (waiting .charge .off (live [])).inService = true ∧ (waiting .charge .off (live [])).passive = false
    ∧ (waiting .charge .off (live [])).judgeReq .off = 0 ∧ armTarget .charge .off = some .off
    ∧ (after .commit (waiting .charge .off (live []))).arm.mode = .off
    ∧ (waiting .run .off (live [])).judgeReq .off = 6
    ∧ (after .commit (waiting .run .off (live []))).get R.ARM_ARM_STATE_REFUSE = 6
    ∧ (after .commit (waiting .off .charge (live []))).get R.ARM_ARM_STATE_REFUSE = 5
    ∧ (after .commit (waiting .run .off (live []))).arm.mode = .run := by decide

/-- R53: with a ring admitted GO_CHARGE is accepted, and with an L3 record open it is refused with code 3. -/
theorem charge_accepted :
    (after .commit (waiting .off .charge { live [] with rings := [(2, { mode := .admitted })], lanes := [(2, { mode := .locked })] })).arm.mode = .charge
    ∧ (waiting .off .charge { netL3 with rings := [(2, { mode := .admitted })], lanes := [(2, { mode := .locked })] }).judgeReq .charge = 3 := by decide

/-- A cycle in progress with its selection still to come. -/
def cycling (m : ArmMode) (l : List (Field × Nat)) : State := { live l with arm := { mode := m, running := true, nextTk := 5000 * 2 ^ 32 } }

theorem selection_witness : (cycling .off []).inService = true ∧ (cycling .off []).passive = false ∧ (cycling .off []).arm.selDone = false
    ∧ (cycling .run []).arm.fresh = none ∧ (cycling .run [(R.ARM_REF_MISS_LIMIT, 1)]).get R.ARM_REF_MISS_LIMIT = 1
    ∧ (after (.selectionStart 100) (cycling .off [(R.ARM_REF_MISS_MISS_CNT, 3)])).get R.ARM_REF_MISS_MISS_CNT = 0
    ∧ (after (.selectionStart 100) (cycling .run [(R.ARM_REF_MISS_LIMIT, 1)])).arm.mode = .blocked
    ∧ (after (.selectionStart 100) (after (.selectionStart 100) (cycling .off []))).arm.selDone = true := by decide

theorem cycle_witness : (live []).inService = true ∧ (live []).pairOp = false ∧ (live []).servo.pend = none ∧ (live []).arm.running = false
    ∧ 0 < (live []).tNs ∧ (live []).time < 2 ^ 96 ∧ ({ live [] with time := 2 ^ 96 - 1 }).nextStart = 2 ^ 96 ∧ (after (.cycleStart []) { live [] with time := 2 ^ 96 - 1 }).time = 0 ∧ ({ live [] with time := 12001 * 2 ^ 32 }).nextStart = 15000 * 2 ^ 32
    ∧ ({ live [(R.ARM_CYC_PHASE_PHASE, 300)] with time := 12001 * 2 ^ 32 }).nextStart = 15300 * 2 ^ 32
    ∧ (after (.cycleStart []) { live [] with time := 12001 * 2 ^ 32 }).get R.ARM_CYC_CNT_COUNT = 1
    ∧ (after (.cycleStart []) { live [] with time := 12001 * 2 ^ 32 }).arm.cycStart = 15000 * 2 ^ 32 := by decide

theorem timing_witness : (live []).on R.ARM_LOCK_LOCK = false ∧ (live []).on R.ARM_CTRL_REF_SRC = false ∧ (live []).dlPassed = false
    ∧ ({ cycling .run [] with time := 4051 * 2 ^ 32 }).dlPassed = true ∧ ({ cycling .run [] with time := 4050 * 2 ^ 32 }).dlPassed = false
    ∧ (after (.cycLenWrite 1000) (live [])).get R.ARM_SEL_DL_DL = 9050 ∧ (after (.cycLenWrite 199) (live [])).get R.ARM_CYC_LEN_LEN = 500
    ∧ (after (.cycLenWrite 1000) running).get R.ARM_CYC_LEN_LEN = 500 ∧ (after (.cycLenWrite 1000) running).get R.ARM_STATUS_LOCKV = 1
    ∧ (after (.execOfsWrite 300) (live [])).get R.ARM_EXEC_OFS_OFS = 300 ∧ (after (.cycPhaseWrite 40) (live [])).get R.ARM_CYC_PHASE_PHASE = 40
    ∧ ((after (.refSlopeWrite 5) (live [])).arm.fresh.map (fun r => r.dval)) = some 5 := by decide

/-! ## Protection -/

/-- Ring 2 shows all sixteen slots; sub-module 33 has the given protection state. -/
def slotted (p : SmProt) : State := { live [(R.RING_SLOTS_PRESENT 2, 0xFFFF)] with enc := { prot := [(33, p)] }, rank := { recs := [(33, { present := true, rcnt := 2 })] } }

theorem hold_witness : (slotted {}).inService = true ∧ keysRise none (slotted { desat := 1 }).enc.prot = true
    ∧ keysRise none (slotted {}).rank.recs = true ∧ (slotted {}).slotPresent 33 = true ∧ (slotted {}).slotPresent 48 = false
    ∧ ((after (.hold 33) (slotted {})).prot 33).fw = true ∧ (after (.hold 33) (slotted {})).get R.CMDENC_HOLD_CMD_IDX = 33
    ∧ (slotted {}).arm.selDone = false ∧ ((after (.hold 48) ((slotted {}).put R.CMDENC_HOLD_CMD_IDX 33)).prot 33).fw = true
    ∧ (after (.hold 48) ((slotted {}).put R.CMDENC_HOLD_CMD_IDX 33)).flt.inbox.length = 1
    ∧ (after (.hold 48) (slotted {})).flt.inbox.length = 1 ∧ (after (.hold 1600) (slotted {})).flt.inbox.length = 1 := by decide

/-- R171, R178, R180. -/
theorem release_fire_clear : ((after (.release 33) (slotted { fw := true, desat := 2, leak := 1, uv := 3 })).prot 33).clr = true
    ∧ ((after (.release 33) (slotted { fw := true, desat := 2 })).prot 33).fw = false
    ∧ ((after (.release 33) (slotted { uv := 3 })).prot 33).uv = (if (slotted {}).get R.CMDENC_PROT_UV_CLR = 0 then 0 else 3)
    ∧ ((after (.release 33) (slotted { fw := true, fire := true })).prot 33).fw = true
    ∧ ((after (.fire 33) (slotted {})).prot 33).fire = true
    ∧ ((after (.fbpClr 33) (slotted { fbp := true })).prot 33).fw = true ∧ ((after (.fbpClr 33) (slotted { fbp := true })).smRec 33).rcnt = 0
    ∧ ((after (.fbpClr 33) (slotted { fbp := true, repFbp := true })).prot 33).fbp = true := by decide

/-- Sub-module 33 on the admitted ring 2. -/
def admittedSm (p : SmProt) : State := { slotted p with rings := [(2, { mode := .admitted })], lanes := [(2, { mode := .locked })] }

theorem protection_timers_witness : (slotted { fire := true }).inService = true ∧ keysRise none (slotted { fire := true }).enc.prot = true
    ∧ (after (.fbpTimeout 33) (slotted { fire := true })).get R.CMDENC_STAT_FBP_TMO = 1
    ∧ (after (.fbpTimeout 33) (after (.fbpTimeout 33) (slotted { fire := true }))).flt.inbox.length = 1
    ∧ (admittedSm {}).leakPool = [33] ∧ ((after .leakRoundStart (admittedSm {})).prot 33).lkPend = true
    ∧ (after .leakRoundStart (admittedSm {})).get R.CMDENC_STATUS_LEAK_BUSY = 1
    ∧ (after .leakRoundStart (admittedSm { fbp := true })).get R.CMDENC_STATUS_LEAK_BUSY = 0
    ∧ ((after (.leakResultTimeout 33) (slotted { lkReq := true })).prot 33).lkReq = false := by decide

theorem hold_blk_witness : ((slotted { fw := true, blkCnt := 9, blkDue := true }).put R.CMDENC_PROT_HOLD_BLK 9).inService = true
    ∧ (((slotted { fw := true, blkCnt := 9, blkDue := true }).put R.CMDENC_PROT_HOLD_BLK 9).prot 33).held = true
    ∧ (after (.holdBlkReached 33) (((slotted { fw := true, blkCnt := 9, blkDue := true }).put R.CMDENC_PROT_HOLD_BLK 9).put R.CMDENC_CTRL_AUTO_FBP 0)).flt.inbox.length = 1
    ∧ ((after (.holdBlkReached 33) (((slotted { fw := true, blkCnt := 9, blkDue := true }).put R.CMDENC_PROT_HOLD_BLK 9).put R.CMDENC_CTRL_AUTO_FBP 1)).prot 33).fire = true := by decide

/-- A device in RUN with sub-module 33 held. -/
def heldInRun : State := { slotted { fw := true } with arm := { mode := .run } }

theorem records_witness : (slotted {}).inService = true ∧ ((slotted {}).smRec 33).present = true ∧ (slotted {}).on R.RANK_STATUS_KEY_BUSY = false
    ∧ ((after (.recordAgeLimit 33) ((slotted {}).put R.RANK_OBS_LIMIT 0)).smRec 33).rcnt = 0
    ∧ (after (.recordAgeLimit 33) ((slotted {}).put R.RANK_OBS_LIMIT 0)).get R.RANK_CNT_EVT_UNK_REV = 1
    ∧ (after (.smIdxWrite 33) (slotted {})).get R.RANK_SM_REC3_TYPE = 1 ∧ (after (.smIdxWrite 34) (slotted {})).get R.RANK_SM_REC3_STATE = 0 ∧ (after (.smIdxWrite 48) (slotted {})).get R.RANK_SM_REC3_STATE = 7
    ∧ (after (.holdInfoWrite 33) (slotted { fw := true })).get R.CMDENC_HOLD_INFO_FW = 1
    ∧ (after .keySaveDone (live [(R.RANK_STATUS_KEY_BUSY, 1)])).get R.RANK_STAT_KEY_DONE = 1 := by decide

theorem dcmd_witness : heldInRun.inService = true ∧ (heldInRun.prot 33).held = true ∧ heldInRun.blockAll = false
    ∧ (after (.dcmdPost .host (33 + 2 ^ 12 * 5 + 2 ^ 16 * 100)) (heldInRun.put R.CMDENC_CTRL_HOST_DCMD 1)).enc.dcmds = [⟨33, 5, 100, 2, 0, 0⟩]
    ∧ (after (.dcmdPost (.core 0 7) (33 + 2 ^ 12 * 5 + 2 ^ 16 * 100)) heldInRun).enc.dcmds = [⟨33, 5, 100, 1, 7, 0⟩]
    ∧ (after (.dcmdPost .host (34 + 2 ^ 12 * 5)) (heldInRun.put R.CMDENC_CTRL_HOST_DCMD 1)).enc.dcmds = []
    ∧ (after (.dcmdPost .host (34 + 2 ^ 12 * 5)) heldInRun).get R.CMDENC_DCMD_STAT_DROP = 1 := by decide

theorem key_save_witness : (after .keySave (admittedSm {})).rank.keySave = [2] ∧ (after .keySave (admittedSm {})).get R.RANK_STATUS_KEY_BUSY = 1 := by
  decide

/-! ## Rings -/

/-- Ring 2 in a state, on its locked lane. -/
def ringIn (r : RingSt) (l : List (Field × Nat)) : State := { live l with rings := [(2, r)], lanes := [(2, { mode := .locked })] }

/-- An ENUM frame of ring 2 with SEQ 0 that comes back with a HOPS (R213, R217): no cell has damaged it. -/
def enumFrame (hops : Nat) : RxFrame :=
  let h0 := 2 * 2 ^ 49 + 3 * 2 ^ 45
  let h1 := hcrc h0 0
  { h0 := h0, h1 := h1, body := [], crc := some (fcrc h0 [h1] * 2 ^ 32 + 0xFF * 2 ^ 24 + hops * 2 ^ 16), rtPs := 123456 }

theorem ring_up_witness : (ringIn { seq := 1 } []).inService = true ∧ keysRise none (ringIn { seq := 1 } []).rings = true ∧ (ringIn {} []).bringsUp = true
    ∧ ((after (.ringEnSet 2) (ringIn { seq := 1 } [])).ring 2).mode = .probe
    ∧ ((after (.probeComplete 2 ⟨[160, 164], 8, []⟩) (ringIn { mode := .probe } [])).ring 2).mode = .enum
    ∧ (after (.probeComplete 2 ⟨[160, 164], 8, []⟩) (ringIn { mode := .probe } [])).get (R.RING_LINK_DLY 2) = 77
    ∧ (after (.probeTimeout 2) (ringIn { mode := .probe } [])).get (R.RING_STAT_TOPO 2) = 1
    ∧ ((after (.enumFrameReturn 2 (enumFrame 4).toRxHeader (enumFrame 4).toRxBody) (ringIn { mode := .enum } [])).ring 2).lastHops = some 4
    ∧ ((after (.enumFrameReturn 2 (enumFrame 4).toRxHeader (enumFrame 4).toRxBody) (ringIn { mode := .enum, lastHops := some 4 } [])).ring 2).mode = .ident
    ∧ (after (.enumFrameReturn 2 (enumFrame 4).toRxHeader (enumFrame 4).toRxBody) (ringIn { mode := .enum, lastHops := some 4 } [])).get (R.RING_TOPO_RT 2) = 280
    ∧ ((after (.enumFrameReturn 2 (enumFrame 17).toRxHeader (enumFrame 17).toRxBody) (ringIn { mode := .enum } [])).ring 2).mode = .down
    ∧ ((after (.enumTimeout 2) (ringIn { mode := .enum } [])).ring 2).mode = .down := by decide

theorem ring_admission_witness : (ringIn { mode := .ready } [(R.RING_CTRL_ADMIT 2, 1), (R.RING_TOPO_NC 2, 2), (R.RING_TOPO_RT 2, 500), (R.ARM_EXEC_OFS_OFS, 100)]).ringTiming 2 = true
    ∧ (ringIn { mode := .ready } [(R.RING_TOPO_RT 2, 5000), (R.ARM_EXEC_OFS_OFS, 100)]).ringTiming 2 = false
    ∧ (ringIn { mode := .ready } [(R.RING_CTRL_ADMIT 2, 1), (R.RING_TOPO_NC 2, 2), (R.RING_TOPO_RT 2, 500), (R.ARM_EXEC_OFS_OFS, 100)]).lossOk 2 = true
    ∧ ((after (.ringAdmission 2) (ringIn { mode := .ready } [(R.RING_CTRL_ADMIT 2, 1), (R.RING_TOPO_NC 2, 2), (R.RING_TOPO_RT 2, 500), (R.ARM_EXEC_OFS_OFS, 100)])).ring 2).mode = .admitted
    ∧ ((after (.ringAdmission 2) (ringIn { mode := .ready } [(R.RING_CTRL_ADMIT 2, 1), (R.RING_TOPO_NC 2, 2), (R.RING_TOPO_RT 2, 500), (R.ARM_EXEC_OFS_OFS, 100)])).smRec 33).present = true
    ∧ ((after (.ringAdmission 2) (ringIn { mode := .ready } [(R.RING_CTRL_ADMIT 2, 1), (R.RING_TOPO_NC 2, 2), (R.RING_TOPO_RT 2, 5000), (R.ARM_EXEC_OFS_OFS, 100)])).ring 2).mode = .ready
    ∧ (after (.ringAdmitWrite 2) (ringIn {} [])).get (R.RING_CTRL_ADMIT 2) = 1 := by decide

theorem ring_en_clear_witness : ((after (.ringEnClear 2) (ringIn { mode := .tsync } [(R.RING_CTRL_EN 2, 1)])).ring 2).mode = .down
    ∧ (after (.ringEnClear 2) { ringIn { mode := .admitted } [(R.RING_CTRL_EN 2, 1)] with arm := { mode := .charge } }).get (R.RING_STATUS_LOCKV 2) = 1
    ∧ (after (.ringEnClear 2) { ringIn { mode := .admitted } [(R.RING_CTRL_EN 2, 1)] with arm := { mode := .charge } }).get (R.RING_CTRL_EN 2) = 1 := by
  decide

/-- The header of a NORMAL frame of ring 2 with two cells and SEQ 0 (R213, R214). -/
def h0R2 : Nat := 2 * 2 ^ 49 + 2 * 2 ^ 40
/-- Its H1 with TIME 0. -/
def h1R2 : Nat := hcrc h0R2 0
/-- That frame come back from three cells. -/
def backFrame : RxFrame := { h0 := h0R2, h1 := h1R2, body := [], crc := some (fcrc h0R2 [h1R2] * 2 ^ 32 + 0xFF * 2 ^ 24 + 3 * 2 ^ 16), rtPs := 456789 }

theorem ring_frame_witness : (ringIn { mode := .tsync } [(R.RING_TOPO_NC 2, 2)]).inService = true
    ∧ (after (.statusSlotReceived 2 1 ⟨h0R2, h1R2⟩ 0 0 0 0) (ringIn { mode := .tsync, sent := true } [(R.RING_TOPO_NC 2, 2)])).get (R.RING_STAT_SLOT_ERR 2) = 1
    ∧ slotValid 2 0 1 0 0 0 0 = false
    ∧ (after (.frameReturn 2 backFrame) (ringIn { mode := .tsync, sent := true, seqOut := [0] } [(R.RING_TOPO_NC 2, 2)])).get (R.RING_RT_LIVE_LAST 2) = 456
    ∧ (after (.frameReturn 2 backFrame) (ringIn { mode := .tsync, sent := true } [(R.RING_TOPO_NC 2, 2)])).get (R.RING_STAT_TOPO 2) = 1
    ∧ (after (.frameReturn 2 { backFrame with h1 := h1R2 + 1 }) (ringIn { mode := .tsync, sent := true } [(R.RING_TOPO_NC 2, 2)])).get (R.RING_STAT_HCRC 2) = 1
    ∧ ((after (.blockFrameSend 2) (ringIn { mode := .tsync, blkWait := true } [(R.RING_TOPO_NC 2, 2)])).ring 2).out.map (fun f => (f.ftype, f.slots.map (fun c => c.sSw)))
        = some (1, [0, 0]) := by decide

/-- R222: a valid slot of cell 1 of ring 2 with a capacitor voltage of 1000 enters its admitted record. -/
theorem slot_report_witness : slotValid 2 0 1 (1000 * 2 ^ 48) (2 ^ 19 + 2 ^ 15 + 2 ^ 8) 0 (scrc 2 0 (1000 * 2 ^ 48) (2 ^ 19 + 2 ^ 15 + 2 ^ 8) 0 0) = true
    ∧ ((after (.statusSlotReceived 2 1 ⟨h0R2, h1R2⟩ (1000 * 2 ^ 48) (2 ^ 19 + 2 ^ 15 + 2 ^ 8) 0 (scrc 2 0 (1000 * 2 ^ 48) (2 ^ 19 + 2 ^ 15 + 2 ^ 8) 0 0))
        ({ (admittedSm {}).put (R.RING_TOPO_NC 2) 2 with rings := [(2, { mode := .admitted, sent := true })] })).smRec 33).vRep = 1000
    ∧ (after (.statusSlotReceived 2 1 ⟨h0R2, h1R2⟩ (1000 * 2 ^ 48) (2 ^ 19 + 2 ^ 15 + 2 ^ 8) 0 (scrc 2 0 (1000 * 2 ^ 48) (2 ^ 19 + 2 ^ 15 + 2 ^ 8) 0 0))
        ({ (admittedSm {}).put (R.RING_TOPO_NC 2) 2 with rings := [(2, { mode := .admitted, sent := true })] })).get (R.RING_SLOTS_VALID 2) = 2 := by decide

/-- An active device of a pair. -/
def paired (role : AmberRole) (l : List (Field × Nat)) : State := { live ((R.AMBER_CFG_EN, 1) :: l) with amber := { role := role } }

theorem pair_frame_witness : (paired .active []).inService = true ∧ (paired .active []).pairOp = true
    ∧ (after (.ringForeignFrame 2 1) (paired .active [])).amber.role = .none
    ∧ (after (.ringForeignFrame 2 0) (paired .active [])).amber.role = .active
    ∧ (after (.repeatFrameStart ⟨2, [(1, 0x78)]⟩) { paired .standby [(R.RING_CFG_DUAL 2, 1)] with lanes := [(2, { rep := true })] }).amber.frameAt = some 0
    ∧ ((after (.repeatFrameStart ⟨2, [(1, 0x78)]⟩) { paired .standby [] with lanes := [(2, { rep := true })] }).lane 2).rptOut = [(1, 0x78)]
    ∧ (after .blockFrameRepeat { paired .none [] with amber := { blkAgain := true, l4At := 70 } }).amber.blkAgain = false
    ∧ (after .blockFrameRepeat { paired .none [] with amber := { blkAgain := true, l4At := 70 } }).time = 5070 * 2 ^ 32 := by decide

/-- A host access to cell 1. -/
def hostAcc (sends : Nat) (fly : Bool) : SvcAcc := { src := .host, slot := 1, wr := false, waddr := 5, data := 0, sends := sends, flying := fly }

/-- The reply of cell 1 with RESULT 0 and its data (R219). -/
def replyFrame : RxFrame :=
  let h0 := 2 * 2 ^ 49 + 2 * 2 ^ 45 + 2 ^ 40
  let h1 := hcrc h0 0
  let body := [2 ^ 60 + 2 ^ 58, 7 + 2 ^ 33]
  { h0 := h0, h1 := h1, body := body, crc := some (fcrc h0 (h1 :: body) * 2 ^ 32 + 0xFF * 2 ^ 24 + 2 ^ 16), rtPs := 0 }

theorem service_witness : svcRuns .ready = true ∧ bitOf ((ringIn { mode := .ready } [(R.RING_SLOTS_PRESENT 2, 3)]).get (R.RING_SLOTS_PRESENT 2)) 1 = true
    ∧ (after (.serviceAccessStart 2 (5 + 2 ^ 20)) (ringIn { mode := .ready } [(R.RING_SLOTS_PRESENT 2, 3)])).get (R.RING_SVC_CMD_BUSY 2) = 1
    ∧ (after (.serviceAccessStart 2 (5 + 2 ^ 22)) (ringIn { mode := .ready } [(R.RING_SLOTS_PRESENT 2, 3)])).get (R.RING_SVC_CMD_RESULT 2) = 2
    ∧ (after (.serviceAccessStart 2 5) (ringIn { mode := .probe } [])).get (R.RING_SVC_CMD_RESULT 2) = 3
    ∧ (after (.serviceAccessStart 2 5) (ringIn { mode := .ready } [(R.RING_SVC_CMD_BUSY 2, 1)])).flt.inbox.length = 1
    ∧ ((after (.serviceFrameSend 2) (ringIn { mode := .ready, svcHost := some (hostAcc 0 false) } [])).ring 2).svc = some { hostAcc 1 true with seq := 1 }
    ∧ (after (.serviceFrameReturn 2 replyFrame) (ringIn { mode := .ready, svc := some (hostAcc 1 true) } [])).get (R.RING_SVC_HI_DATA 2) = 2
    ∧ ((after (.serviceReplyTimeout 2) (ringIn { mode := .ready, svc := some (hostAcc 3 true) } [])).ring 2).svc = some (hostAcc 3 false)
    ∧ (after (.serviceReplyTimeout 2) (ringIn { mode := .ready, svc := some (hostAcc 4 true) } [])).get (R.RING_SVC_CMD_RESULT 2) = 3 := by decide

/-! ## Lanes -/

/-- Lane 96 in a state. -/
def laneIn (x : LaneSt) (l : List (Field × Nat)) : State := { live l with lanes := [(96, x)] }

theorem lane_states_witness : (laneIn { mode := .cal } []).inService = true ∧ (laneIn { mode := .cal } []).laneUp 96 = true
    ∧ keysRise none (laneIn { mode := .cal } []).lanes = true
    ∧ ((after (.laneEnable 96) (live [])).lane 96).mode = .cal ∧ ((after (.laneCalDone 96) (laneIn { mode := .cal } [])).lane 96).mode = .acq
    ∧ ((after (.laneSignalAcquired 96 300) (laneIn { mode := .acq } [(R.LANE_CFG_ADAPT 96, 1)])).lane 96).mode = .adapt
    ∧ ((after (.laneSignalAcquired 96 301) (laneIn { mode := .acq } [])).lane 96).mode = .acq
    ∧ ((after (.laneAdaptDone 96 (2 ^ 26 * 9)) (laneIn { mode := .adapt } [])).lane 96).mode = .sync
    ∧ (after (.laneAdaptDone 96 (2 ^ 26 * 9)) (laneIn { mode := .adapt } [])).get (R.LANE_RX_EQ_CTLE 96) = 9
    ∧ ((after (.laneBlockLock 96) (laneIn { mode := .sync } [])).lane 96).mode = .locked
    ∧ ((after (.laneSyncTimeout 96) (laneIn { mode := .sync } [])).lane 96).mode = .acq
    ∧ (after (.laneAcqTimeout 96) (laneIn { mode := .acq } [])).get (R.LANE_STAT_ACQ_FAIL 96) = 1
    ∧ ((after (.laneDisable 96) (laneIn { mode := .locked } [(R.LANE_CTRL_EN 96, 1)])).lane 96).mode = .off
    ∧ (after (.laneDisable 96) (laneIn { mode := .locked } [(R.LANE_CTRL_EN 96, 1), (R.CANOPY_CTRL_EN 0, 1)])).get (R.LANE_STATUS_LOCKV 96) = 1 := by decide

theorem lane_lock_witness : ((after (.laneLossOfLock 96 true) (laneIn { mode := .locked } [])).lane 96).mode = .sync
    ∧ ((after (.laneSignalLost 96) (laneIn { mode := .locked, scan := .running } [])).lane 96).scan = .none
    ∧ (after (.laneSignalLost 96) (laneIn { mode := .locked } [(R.LANE_CFG_LOL_LIM 96, 1)])).flt.inbox = [{ cls := .lane, unit := laneUnit 96, req := .atLeast 2, fences := true }]
    ∧ ((after (.readapt 96) (laneIn { mode := .locked } [(R.LANE_CFG_ADAPT 96, 1)])).lane 96).readapt = true
    ∧ (after (.readapt 96) (laneIn { mode := .sync } [(R.LANE_CFG_ADAPT 96, 1)])).flt.inbox.length = 1
    ∧ (after (.readapt 96) (laneIn { mode := .locked } [(R.LANE_CFG_ADAPT 96, 0)])).flt.inbox.length = 1
    ∧ (after (.readaptDone 96 (2 ^ 20 * 7)) (laneIn { mode := .locked, readapt := true, eqAt := some 0 } [(R.LANE_CFG_ADAPT 96, 1)])).get (R.LANE_RX_EQ_T1 96) = 0
    ∧ ((after (.readaptDone 96 (2 ^ 20 * 7)) (laneIn { mode := .locked, readapt := true } [(R.LANE_CFG_ADAPT 96, 1)])).lane 96).readapt = false
    ∧ (after (.readaptDone 96 (2 ^ 20 * 7)) (laneIn { mode := .locked, readapt := true } [(R.LANE_CFG_ADAPT 96, 1)])).get (R.LANE_RX_EQ_T1 96) = 7
    ∧ (after (.lolWindowEnd 96) (laneIn { mode := .locked, win := true } [(R.LANE_CNT_LOL_WIN 96, 3)])).get (R.LANE_CNT_LOL_WIN 96) = 0
    ∧ (after (.txEqWrite 96 (4 + 2 ^ 5 * 9 + 2 ^ 10 * 50)) (live [])).get (R.LANE_TX_EQ_MAIN 96) = 50
    ∧ (after (.txEqWrite 96 (4 + 2 ^ 5 * 10 + 2 ^ 10 * 50)) (live [])).get (R.LANE_TX_EQ_POST 96) = (live []).get (R.LANE_TX_EQ_POST 96)
    ∧ (after (.elasticRecentre 96) (live [])).get (R.LANE_STAT_ELASTIC 96) = 1
    ∧ (after (.prbsError 96) (laneIn { mode := .acq } [(R.LANE_TEST_CHK 96, 1)])).get (R.LANE_TEST_ERRS 96) = 1
    ∧ (after (.invalidSyncHeader ⟨96, false⟩) (laneIn { mode := .acq } [])).get (R.LANE_CNT_HDR_ERR 96) = 1 := by decide

/-- The error counts of `n` points, none from point `a` to the one before `b`. -/
def eyeRow (n a b : Nat) : List Nat := (List.range n).map (fun k => if a ≤ k ∧ k < b then 0 else 3)

theorem eye_witness : (live []).laneUp 96 = true ∧ (live []).eyeSlot 96 = some 0 ∧ ((after (.esGo 96 (2 ^ 31)) (live [])).lane 96).scan = .running
    ∧ (after (.esGo 96 (2 ^ 31)) (live [])).get (R.LANE_ES_STAT_PTS_TOTAL 96) = 8128
    ∧ (after (.esGo 96 (2 ^ 31)) (laneIn { scan := .running } [])).flt.inbox.length = 1
    ∧ (after (.esStop 96) (laneIn { scan := .running } [])).get (R.LANE_ES_STAT_RESULT 96) = 2
    ∧ ((after (.esFree 96) (laneIn { slot := some 3 } [])).lane 96).slot = none ∧ ((after (.esFree 96) (laneIn { slot := some 3, scan := .running } [])).lane 96).slot = some 3
    ∧ ((after (.eyeScanStart 96) (laneIn { scan := .waiting, slot := some 3 } [])).lane 96).scan = .running
    ∧ (after (.eyeScanPointDone 96 5) (laneIn { scan := .running, slot := some 0 } [])).mem.read 0xCC0002 = 5
    ∧ (after (.eyeScanPointDone 96 5) (laneIn { scan := .running, slot := some 0 } [])).mem.read 0xCC0001 = 63
    ∧ (after (.eyeScanPointDone 96 5) (laneIn { scan := .running, slot := some 0, vStep := 3, hStep := 3, point := 127 } [])).get (R.LANE_STAT_ES_DONE 96) = 1
    ∧ scanPoints 3 3 = 128 ∧ ((after (.crossScanDue 96) (laneIn { mode := .locked } [(R.LANE_MCHK_PERIOD 96, 1)])).lane 96).cross = true
    ∧ (after (.crossScanDone 96 (eyeRow 64 23 43) (eyeRow 127 49 79)) (laneIn { mode := .locked, cross := true } [(R.LANE_MCHK_W_MIN 96, 20)])).get (R.LANE_EYE_MON_W 96) = 20
    ∧ ((after (.crossScanDone 96 (eyeRow 64 24 43) (eyeRow 127 49 79)) (laneIn { mode := .locked, cross := true } [(R.LANE_MCHK_W_MIN 96, 20)])).lane 96).second = true := by decide

/-! ## Loop units -/

/-- Loop unit 3 with a state and registers. -/
def loopWith (x : LoopSt) (l : List (Field × Nat)) : State := { live l with loops := [(3, x)] }

theorem loop_witness : (loopWith { int := 5 } []).inService = true ∧ keysRise none (loopWith { int := 5 } []).loops = true
    ∧ ((after (.loopTrigger 3) (loopWith { int := 5, trigs := 1 } [(R.U_CTRL_EN 3, 1), (R.U_TRIG_SRC 3, 2), (R.U_MEAS_Y 3, 9)])).loop 3).snap.y = 9
    ∧ (after (.loopTrigger 3) (loopWith { waiting := true, trigs := 2 } [(R.U_CTRL_EN 3, 1), (R.U_TRIG_SRC 3, 2)])).get (R.U_SCNT_OVR 3) = 1
    ∧ (after (.loopEnable 3) (loopWith { int := 5 } [])).get (R.U_CTRL_EN 3) = 1 ∧ ((after (.loopEnable 3) (loopWith { int := 5 } [])).loop 3).rampPend = true
    ∧ ((after (.loopEnable 3) (loopWith { missed := some 0 } [(R.U_TRIG_SRC 3, 2)])).loop 3).waiting = true
    ∧ (after (.loopEnable 3) (loopWith { allAt := some 0 } [])).get (R.U_CTRL_EN 3) = 0
    ∧ ((after (.loopTrigger 3) (loopWith { trigs := 1, offAt := some 0 } [(R.U_TRIG_SRC 3, 2)])).loop 3).waiting = true
    ∧ ((after (.uSpWrite 3 77) (loopWith { waiting := true, edgeAt := some 0 } [])).loop 3).snap.sp = 77
    ∧ ((after (.uIntHiWrite 3 0) (loopWith { stage := 6, di := some (0, -7) } [])).loop 3).int = 2 ^ 48 - 1
    ∧ (after (.loopDisable 3) (loopWith { int := 5 } [(R.U_CTRL_EN 3, 1)])).get (R.U_CTRL_EN 3) = 0
    ∧ ((after (.uSpWrite 3 77) (loopWith { int := 5 } [(R.U_CTRL_SP_MODE 3, 1)])).loop 3).rampPend = true
    ∧ ((after (.uIntHiWrite 3 (2 ^ 16 + 3)) (loopWith { stage := 6 } [])).loop 3).int = 3 * 2 ^ 32 + 6
    ∧ (after (.loopAllOff 0) (loopWith {} [(R.U_CTRL_EN 3, 1), (R.U_CTRL_EN 15, 1)])).get (R.U_CTRL_EN 15) = 0 := by decide

/-- Loop unit 3 with a phase trigger, in a running cycle that began at 0. -/
def loopPhased (x : LoopSt) : State :=
  { loopWith x [(R.U_CTRL_EN 3, 1), (R.U_TRIG_SRC 3, 1), (R.U_TRIG_PH 3, 7), (R.U_TRIG_DIV 3, 2), (R.ARM_CYC_LEN_LEN, 700)] with arm := { running := true } }

theorem loop_phase_witness : (loopPhased {}).inService = true ∧ (loopPhased {}).arm.running = true
    ∧ ((after (.loopTrigger 3) (loopPhased {})).loop 3).waiting = true ∧ ((after (.loopTrigger 3) (loopPhased {})).loop 3).phase = 2
    ∧ (after (.loopTrigger 3) (loopPhased {})).nowNs = 70 ∧ ((after (.loopTrigger 3) (loopPhased { phase := 2 })).loop 3).phase = 1
    ∧ ((after (.loopTrigger 3) (loopPhased { trigCyc := some (0, 7) })).loop 3).waiting = false := by decide

/-- R309: set-point 10, measurement 4, KP 1.0 and KI 0.5 give an integrator of 3 and an output of 9. -/
theorem loop_law : ((after (.loopSample 3) (loopWith { waiting := true, snap := { y := 4, sp := 10, kp := 2 ^ 24, ki := 2 ^ 23 } } [])).loop 3).int = 3
    ∧ (after (.loopSample 3) (loopWith { waiting := true, snap := { y := 4, sp := 10, kp := 2 ^ 24, ki := 2 ^ 23 } } [])).get (R.U_OUT_OUT 3) = 9
    ∧ (after (.loopSample 3) (loopWith { waiting := true, snap := { y := 4 } } [])).get (R.U_Y_PREV_Y 3) = 4 := by decide

/-! ## PWM -/

/-- Channel 4 with a state; period 100, compare 40. -/
def pwmWith (x : ChSt) (l : List (Field × Nat)) : State :=
  { live ([(R.CH_CTRL_EN 4, 1), (R.CH_PER_PER 4, 100), (R.CH_CMP_CMP 4, 40)] ++ l) with pwm := { chs := [(4, x)] } }

theorem pwm_witness : (pwmWith { cnt := 99 } []).inService = true ∧ keysRise none (pwmWith { cnt := 99 } []).pwm.chs = true
    ∧ ((after (.pwmPeriodStart 4) (pwmWith { cnt := 99 } [])).ch 4).out = true ∧ ((after (.pwmPeriodStart 4) (pwmWith { cnt := 99 } [])).ch 5).pulse = true
    ∧ chTurnOff 0 100 40 = some 40 ∧ ((after (.pwmTurnOff 4) (pwmWith { cnt := 39, cmd := true, out := true } [])).ch 4).out = false
    ∧ ((after (.pwmTurnOff 4) (pwmWith { cnt := 39, cmd := true, out := true } [])).ch 4).cnt = 40
    ∧ ((after (.chPerWrite 4 50) (pwmWith { cnt := 60 } [])).ch 4).cnt = 60 ∧ (after (.chPerWrite 4 50) (pwmWith { cnt := 60 } [])).get (R.CH_PER_PER 4) = 50
    ∧ ((after (.chPerWrite 4 30) (pwmWith {} [])).ch 4).cmd = true ∧ (after (.chPerWrite 4 3) (pwmWith {} [])).get (R.CH_PER_PER 4) = 100
    ∧ (after (.chCmpWrite 4 7) (pwmWith {} [])).get (R.CH_CMP_CMP 4) = 7
    ∧ (after (.pwmEnable 4) (pwmWith { cnt := 9 } [(R.CH_CTRL_EN 4, 0)])).get (R.CH_CTRL_EN 4) = 1 := by decide

theorem pwm_sync_witness : (after (.pwmPeriodStart 4) (after (.pwmPeriodStart 4) (pwmWith {} []))).get (R.CH_PCNT_PERIODS 4) = 1
    ∧ ((after (.pwmPeriodStart 4) (pwmWith { cnt := 30, loadAt := some 0 } [])).ch 4).cnt = 30
    ∧ ((after (.syncPulse 4) (pwmWith { cnt := 70, pulse := true } [(R.CH_CFG_SYNC_EN 4, 1), (R.CH_SYNC_PH_PH 4, 30)])).ch 4).cnt = 30
    ∧ ((after (.syncPulse 4) (pwmWith { cnt := 70, pulse := true } [(R.CH_CFG_SYNC_EN 4, 1)])).ch 4).cnt = 0
    ∧ ((after (.syncPulse 4) (pwmWith { cnt := 70, pulse := true } [(R.CH_CFG_SYNC_EN 4, 1), (R.CH_SYNC_PH_PH 4, 100)])).ch 4).cnt = 100
    ∧ ((after .syncInEdge (live [])).ch 0).pulse = true
    ∧ ((after (.xdeadWaitEnd 4) (pwmWith { cmd := true, xwait := true } [(R.PWM_XPAIR_PAIR_EN, 4), (R.PWM_XPAIR_XDEAD, 10)])).ch 4).out = true
    ∧ (after (.xdeadWaitEnd 4) (pwmWith { cmd := true, xwait := true } [(R.PWM_XPAIR_PAIR_EN, 4), (R.PWM_XPAIR_XDEAD, 10)])).nowNs = 20
    ∧ (pwmWith {} [(R.PWM_XPAIR_PAIR_EN, 4)]).pairOn 2 = true := by decide

theorem pwm_fault_witness : ((after (.gdFltAssert 4) (pwmWith { cmd := true, out := true } [])).ch 4).fltLat = true
    ∧ ((after (.gdFltAssert 4) (pwmWith { cmd := true, out := true } [])).ch 4).out = false
    ∧ ((after (.gdFltAssert 4) (pwmWith { cmd := true } [])).ch 4).fltLat = false
    ∧ ((after (.blankEnd 4 true) (pwmWith { cmd := true, out := true, blanking := true } [])).ch 4).fltLat = true
    ∧ ((after (.fltClr 4 true) (pwmWith { fltLat := true } [])).ch 4).fltLat = true ∧ ((after (.fltClr 4 false) (pwmWith { fltLat := true } [])).ch 4).waitPer = true
    ∧ (after (.gsLow 4) (pwmWith { cmd := true, out := true } [])).get (R.CH_STAT_UV 4) = 1 ∧ ((after (.gsLow 4) (pwmWith { cmd := true, out := true } [])).ch 4).out = false
    ∧ ((after (.gsHigh 4) (pwmWith { supLow := true } [])).ch 4).waitPer = true ∧ (pwmWith {} []).conds = []
    ∧ (pwmWith { everHigh := true } [(R.CH_CTRL_EN 4, 0)]).fellNow 4 = true
    ∧ ((after (.gdFltAssert 4) (pwmWith { everHigh := true } [(R.CH_CTRL_EN 4, 0)])).ch 4).fltLat = true
    ∧ ((after (.blankEnd 4 true) (pwmWith { everHigh := true, fellBlank := true } [])).ch 4).fltLat = true := by decide

/-- The hold latch is engaged. -/
def heldPwm : State := { live [] with pwm := { held := true } }

theorem pwm_page_witness : heldPwm.anyHalted = false ∧ heldPwm.openL3 = false ∧ (after .resume heldPwm).pwm.held = false
    ∧ netL3.openL3 = true ∧ (after .resume { netL3 with pwm := { held := true } }).pwm.held = true
    ∧ (after .pwmAllOff (pwmWith { cmd := true, out := true } [])).get (R.CH_CTRL_EN 4) = 0 ∧ ((after .pwmAllOff (pwmWith { cmd := true, out := true } [])).ch 4).out = false
    ∧ bothHigh 4 0x30 = true ∧ bothHigh 4 0x10 = false ∧ (after (.safeLvlWrite 0x30) (live [(R.PWM_XPAIR_PAIR_EN, 4)])).get R.PWM_SAFE_LVL_LVL = 0
    ∧ (after (.safeLvlWrite 0x10) (live [(R.PWM_XPAIR_PAIR_EN, 4)])).get R.PWM_SAFE_LVL_LVL = 0x10
    ∧ (after (.xpairWrite (3 * 2 ^ 16 + 5)) (live [])).get R.PWM_XPAIR_XDEAD = 3 ∧ (after (.xpairWrite 5) (pwmWith {} [])).get R.PWM_XPAIR_PAIR_EN = 0
    ∧ bothHigh 4 0x30 = true ∧ (after (.xpairWrite (3 * 2 ^ 16 + 4)) (live [(R.PWM_SAFE_LVL_LVL, 0x30)])).get R.PWM_XPAIR_XDEAD = 3
    ∧ (after (.xpairWrite (3 * 2 ^ 16 + 4)) (live [(R.PWM_SAFE_LVL_LVL, 0x30)])).get R.PWM_XPAIR_PAIR_EN = 0 := by decide

/-! ## Position and analog -/

/-- Interface 1 with a state. -/
def posWith (x : PosSt) (l : List (Field × Nat)) : State := { live ((R.POS_CTRL_EN 1, 1) :: l) with poss := [(1, x)] }

theorem pos_witness : (posWith { win := { net := 3 } } []).inService = true ∧ (posWith { win := { net := 3 } } []).posUp 1 = true ∧ keysRise none (posWith { win := { net := 3 } } []).poss = true
    ∧ posEdge 0 false true false false = some .up ∧ posEdge 0 true true false false = some .down ∧ posEdge 1 false true true false = some .both
    ∧ (after (.posCountEdge 1 true false false 100) (posWith { win := { net := 3 } } [])).get (R.POS_POS_COUNT 1) = 1
    ∧ (after (.posCountEdge 1 true false true 100) (posWith { win := { net := 3 } } [])).get (R.POS_POS_COUNT 1) = 2 ^ 32 - 1
    ∧ (after (.posCountEdge 1 true false false 1) (posWith { win := { net := 3 } } [(R.POS_CFG_MIN_GAP 1, 2)])).get (R.POS_CNT_EDGE_FAULT 1) = 1
    ∧ (after (.posIndexEdge 1) (posWith {} [(R.POS_CFG_IDX_MODE 1, 2), (R.POS_STATUS_IDX_ARMED 1, 1), (R.POS_POS_COUNT 1, 9), (R.POS_IDX_LOAD_VAL 1, 4)])).get (R.POS_IDX_POS_POS 1) = 9
    ∧ (after (.posIndexEdge 1) (posWith {} [(R.POS_CFG_IDX_MODE 1, 2), (R.POS_POS_COUNT 1, 9)])).get (R.POS_IDX_POS_POS 1) = 0
    ∧ (after (.posWindowEnd 1) (posWith { win := { net := 3 } } [])).get (R.POS_SPDNET_NET 1) = 3 := by decide

theorem pos_command_witness : (after (.posEnable 1) (posWith { win := { net := 3 } } [(R.POS_CTRL_EN 1, 0)])).get (R.POS_CTRL_EN 1) = 1
    ∧ (after (.cmpArm 1) (posWith {} [])).get (R.POS_STATUS_CMP_ARMED 1) = 1 ∧ (after (.idxArm 1) (posWith {} [])).get (R.POS_STATUS_IDX_ARMED 1) = 1
    ∧ (after (.posWrite 1 77) (posWith {} [])).get (R.POS_POS_COUNT 1) = 77
    ∧ (after (.posWrite 1 77) (after (.posCountEdge 1 true false false 100) (posWith {} []))).get (R.POS_POS_COUNT 1) = 78
    ∧ (after (.cmpArm 1) (after (.posCountEdge 1 true false false 100) (posWith {} [(R.POS_CMP_POS_VAL 1, 1)]))).get (R.POS_STATUS_CMP 1) = 1
    ∧ (after (.idxArm 1) (after (.posIndexEdge 1) (posWith {} [(R.POS_CFG_IDX_MODE 1, 2), (R.POS_IDX_LOAD_VAL 1, 4)]))).get (R.POS_POS_COUNT 1) = 4
    ∧ ((after (.posCountEdge 1 true false false 100) (after (.posWindowEnd 1) (posWith { win := { net := 3 } } [(R.POS_SPD_K_K 1, 1)]))).pos 1).speed = 4
    ∧ (after (.cmpPosWrite 1 77) (posWith { dir := some true } [(R.POS_POS_COUNT 1, 77)])).get (R.POS_STATUS_BEHIND 1) = 1
    ∧ (after (.cmpPosWrite 1 78) (posWith { dir := some true } [(R.POS_POS_COUNT 1, 77)])).get (R.POS_STATUS_BEHIND 1) = 0
    ∧ (after (.emuEnable 1) (posWith { emuPos := 5 } [])).get (R.POS_CTRL_EMU_EN 1) = 1
    ∧ ((after (.emuOutputStep 1) (posWith { emuPos := 3 * 2 ^ 16 } [(R.POS_CTRL_EMU_EN 1, 1)])).pos 1).emuOut = 1
    ∧ (after (.emuOutputStep 1) (posWith { emuPos := 3 * 2 ^ 16 } [(R.POS_CTRL_EMU_EN 1, 1)])).get (R.POS_EMU_STAT_QSTATE 1) = 2 := by decide

/-- Core 1 with a state, enabled and calibrated. -/
def adcWith (x : AdcSt) (l : List (Field × Nat)) : State := { live ([(R.ADC_CTRL_EN 1, 1), (R.ADC_STATUS_CALD 1, 1)] ++ l) with adcs := [(1, x)] }

/-- A request of four samples. -/
def fourSamples : AdcReq := { ch := 2, raw := true, count := 3, bias := 0, ts := 100, at_ := 100 * 2 ^ 32 }

theorem adc_witness : (adcWith { calDue := true } []).inService = true ∧ (adcWith { calDue := true } []).adcUp 1 = true ∧ keysRise none (adcWith { calDue := true } []).adcs = true
    ∧ ((after (.adcGo 1) (adcWith {} [])).adc 1).run.map (·.ts) = some (1200 * 2 ^ 32)
    ∧ ((after (.adcTrigger 1) (adcWith { run := some fourSamples, trigs := 1 } [(R.ADC_TRIG_SRC 1, 1)])).adc 1).wait.isSome = true
    ∧ (after (.adcGo 1) (adcWith { run := some fourSamples, wait := some fourSamples } [])).get (R.ADC_CNT_OVR 1) = 1
    ∧ (after (.adcGo 1) (adcWith { trigAt := some (0, 1) } [])).get (R.ADC_CNT_OVR 1) = 1
    ∧ ((after (.adcLastSample 1) (adcWith { run := some fourSamples } [])).adc 1).fin = some fourSamples
    ∧ (after (.adcLastSample 1) (adcWith { run := some fourSamples } [])).elapsed = 112 * 2 ^ 32
    ∧ (after (.adcBurstDone 1 [1, 2, 3, 300]) (adcWith { fin := some fourSamples } [])).get (R.ADC_AVG_AVG 1) = 306 * 2 ^ 16 / 4
    ∧ (after (.adcBurstDone 1 [1, 2, 3, 300]) (adcWith { fin := some fourSamples } [])).mem.read 0xD02006 = 44
    ∧ ((after (.adcStop 1) (adcWith { wait := some fourSamples } [])).adc 1).wait = none := by decide

theorem adc_phase_witness : ((after (.adcTrigger 1) ({ adcWith {} [(R.ADC_TRIG_SRC 1, 2), (R.ADC_TRIG_PH 1, 9), (R.ARM_CYC_LEN_LEN, 700)] with arm := { running := true } })).adc 1).trigCyc = some (0, 9)
    ∧ ((after (.adcTrigger 1) ({ adcWith {} [(R.ADC_TRIG_SRC 1, 2), (R.ADC_TRIG_PH 1, 9), (R.ARM_CYC_LEN_LEN, 700)] with arm := { running := true } })).adc 1).run.isSome = true
    ∧ (after (.adcTrigger 1) ({ adcWith {} [(R.ADC_TRIG_SRC 1, 2), (R.ADC_TRIG_PH 1, 9), (R.ARM_CYC_LEN_LEN, 700)] with arm := { running := true } })).nowNs = 90 := by decide

theorem adc_cal_witness : ((after (.calNow 1) (adcWith {} [])).adc 1).calDue = true
    ∧ ((after (.adcCalDue 1) (adcWith {} [(R.ADC_CFG_CAL_PER 1, 5)])).adc 1).calDue = true ∧ (adcWith {} [(R.ADC_CFG_CAL_PER 1, 0)]).on (R.ADC_CFG_CAL_PER 1) = false
    ∧ ((after (.adcRecalStart 1 0) (adcWith { calDue := true, pwrLog := [(0, 2500000 * 2 ^ 32)] } [])).adc 1).recal = true
    ∧ (after (.adcRecalStart 1 0) ({ adcWith { calDue := true, pwrLog := [(0, 2500001 * 2 ^ 32)] } [] with elapsed := 2500001 * 2 ^ 32 })).get (R.ADC_STATUS_DUTY 1) = 1
    ∧ ((after (.adcCalRetry 1 0) (adcWith { calDue := true, retry := true } [])).adc 1).recalAt = 1000000 * 2 ^ 32
    ∧ ((after (.adcCalRetry 1 0) (adcWith { calDue := true, retry := true, pwrLog := [(0, 2500001 * 2 ^ 32)] } [])).adc 1).dutyAt = 1000000 * 2 ^ 32
    ∧ ((after (.adcRecalDone 1 4 (-4)) (adcWith { recal := true } [])).adc 1).gain = -4
    ∧ (after (.adcRecalDone 1 4 (-4)) (adcWith { recal := true } [])).elapsed = 20000 * 2 ^ 32
    ∧ (after (.adcRecalDone 1 4 (-400)) (adcWith { recal := true } [])).get (R.ADC_STATUS_CAL_ERR 1) = 1 := by decide

/-! ## Cores and the scheduler -/

/-- R459: PX.MACQ24 x5, x6, x7; PX.POSTO x5, x6, x7, 3; PX.OPGET x5, 6; PX.POSTE x9; PX.ENDW; a nonzero rd of PX.POSTE and a reserved
funct3 are no instruction. -/
theorem xpx_words : decodeXpx 2 0b00000010011100110001001010001011 = some (.pxMacq24 2 5 6 7)
    ∧ decodeXpx 2 0b00000110011100110011001010001011 = some (.pxPosto 2 5 6 7 3)
    ∧ decodeXpx 2 0b00000000011000000100001010001011 = some (.pxOpget 2 5 6)
    ∧ decodeXpx 2 0b00000000000001001010000000001011 = some (.pxPoste 2 9)
    ∧ decodeXpx 2 0b00000000000000000111000000001011 = some (.pxEndw 2)
    ∧ decodeXpx 2 0b00000000000001001010000010001011 = none
    ∧ decodeXpx 2 0b00000000000000000101000000001011 = none := by decide

/-- Core 2 runs task 3 with some registers. -/
def coreWith (regs : Tab Nat) (w : WorkItem) : State := { live [] with sched := { cores := [(2, { regs := regs, run := some w })] } }

/-- R460: -1.5 by 2.0 in Q16.16, a floor at the lowest bit, and the accumulated form. -/
theorem xpx_results : (after (.pxMulq16 2 5 1 2) (coreWith [(1, 2 ^ 32 - 3 * 2 ^ 15), (2, 2 ^ 17)] { task := 3 })).getX 2 5 = 2 ^ 32 - 3 * 2 ^ 16
    ∧ (after (.pxMulq16 2 5 1 2) (coreWith [(1, 2 ^ 32 - 1), (2, 1)] { task := 3 })).getX 2 5 = 2 ^ 32 - 1
    ∧ (after (.pxMacq16 2 5 1 2) (coreWith [(1, 2 ^ 16), (2, 7), (5, 4)] { task := 3 })).getX 2 5 = 11
    ∧ (after (.pxMulq24 2 5 1 2) (coreWith [(1, 2 ^ 16), (2, 2 ^ 24)] { task := 3 })).getX 2 5 = 2 ^ 16
    ∧ (after (.pxMacq24 2 5 1 2) (coreWith [(1, 2 ^ 16), (2, 2 ^ 24), (5, 1)] { task := 3 })).getX 2 5 = 2 ^ 16 + 1
    ∧ (after (.pxMulq16 2 0 1 2) (coreWith [(1, 2 ^ 16), (2, 2 ^ 24)] { task := 3 })).getX 2 0 = 0
    ∧ (after (.pxOpget 2 5 1) (coreWith [] { task := 3, inst := some { tag := 0, ops := [(1, 99)], at_ := 0 } })).getX 2 5 = 99
    ∧ (coreWith [(1, 5)] { task := 3 }).coreRuns 2 = true ∧ (coreWith [] { task := 3 }).coreRuns 1 = false
    ∧ keysRise none (coreWith [(1, 5)] { task := 3 }).sched.cores = true ∧ keysRise none ((coreWith [(1, 5)] { task := 3 }).core 2).regs = true := by decide

/-- Task 3 of a declaration, with core 2 running it or not. -/
def tasked (x : TaskSt) (cores : Tab CoreSt) : State := { live [] with sched := { tasks := [(x.decl.num, x)], cores := cores } }

/-- The matched form of the task: tags 8 to 11, operands 0 and 1. -/
def matchedTask : TaskDecl := { oneTask with ready := .matched 8 4 3 }

theorem post_witness : (tasked { decl := oneTask, enabled := true } []).inService = true ∧ keysRise none (tasked { decl := oneTask, enabled := true } []).sched.tasks = true
    ∧ (tasked { decl := oneTask, enabled := true } []).taskFenced 3 = false
    ∧ ((after (.flagPost 10) (tasked { decl := oneTask, enabled := true } [])).task 3).map (fun x => (x.pend, x.ready)) = some (2, true)
    ∧ ((after (.hostFlagPost 2) (tasked { decl := { oneTask with ready := .all 6 }, enabled := true } [])).task 3).map (fun x => (x.pend, x.ready)) = some (2, false)
    ∧ ((after (.hostFlagPost 4) (tasked { decl := { oneTask with ready := .all 6 }, enabled := true, pend := 2 } [])).task 3).map (fun x => (x.pend, x.ready)) = some (6, true)
    ∧ ((after (.pxPoste 2 1) (tasked { decl := oneTask, enabled := true } [(2, { regs := [(1, 4)], run := some { task := 5 } })])).task 3).map (·.pend) = some 4
    ∧ ((after (.flagPost 10) (tasked { decl := oneTask, enabled := false } [])).task 3).map (·.pend) = some 0
    ∧ ((after (.flagPost 10) (live [(R.U_CTRL_EN 3, 1), (R.U_TRIG_SRC 3, 2), (R.U_TRIG_EVT_IN 3, 1)])).loop 3).trigs = 1
    ∧ ((after (.flagPost 10) (live [(R.U_CTRL_EN 3, 1), (R.U_TRIG_SRC 3, 2), (R.U_TRIG_EVT_IN 3, 2)])).loop 3).trigs = 0
    ∧ ((after (.flagPost 10) (live [(R.ADC_CTRL_EN 1, 1), (R.ADC_TRIG_SRC 1, 1), (R.ADC_TRIG_EVT_IN 1, 3)])).adc 1).trigs = 1 := by decide

theorem operand_witness : ((tasked { decl := matchedTask, enabled := true } []).tagOwner 9).map (·.1) = some 3
    ∧ tget [] (after (.operandPost 9 1 50) (tasked { decl := matchedTask, enabled := true } [])).sched.fill 9 = [(1, 50)]
    ∧ ((after (.operandPost 9 0 51) (after (.operandPost 9 1 50) (tasked { decl := matchedTask, enabled := true } []))).task 3).map (fun x => x.insts.map (·.ops)) = some [[(0, 51), (1, 50)]]
    ∧ (after (.operandPost 20 1 50) (tasked { decl := matchedTask, enabled := true } [])).get R.SCHED_MATCH_CNT_ORPHAN = 1
    ∧ (after (.pxPosto 2 5 1 4 0) (tasked { decl := matchedTask, enabled := true } [(2, { regs := [(1, 20)], run := some { task := 5 } })])).getX 2 5 = 1
    ∧ (after (.pxPosto 2 5 1 4 0) (tasked { decl := matchedTask, enabled := true } [(2, { regs := [(1, 9), (5, 7)], run := some { task := 5 } })])).getX 2 5 = 0
    ∧ (after (.hopValWrite 6) { tasked { decl := matchedTask, enabled := true } [] with regs := (live [(R.SCHED_HOP_TAG_TAG, 9)]).regs }).sched.fill = [(9, [(0, 6)])]
    ∧ (after .operandStallTimeout { live [] with sched := { stalls := [⟨none, 8, 0, 1, none, 0⟩] } }).get R.SCHED_MATCH_CNT_OVF = 1 := by decide

/-- Task 3 is ready. -/
def readyTask : TaskSt := { decl := oneTask, enabled := true, ready := true, readyAt := 5 }

theorem dispatch_witness : (tasked readyTask []).inService = true ∧ (tasked readyTask []).dispatchable 3 readyTask = some 5
    ∧ (tasked readyTask []).passive = false ∧ (tasked readyTask []).ckHolds oneTask = false ∧ (tasked readyTask []).takesItems true 2 = true
    ∧ (tasked readyTask []).spareFirst true 2 = true ∧ (tasked readyTask []).boundElsewhere oneTask 2 = false ∧ (tasked readyTask []).isNext 2 3 readyTask 5 = true
    ∧ ((after (.dispatch 3 2) ((tasked readyTask []).put R.SCHED_CTRL_DISPATCH 1)).core 2).staged = some { task := 3, readyAt := 5 }
    ∧ ((after (.dispatch 3 2) ((tasked readyTask []).put R.SCHED_CTRL_DISPATCH 1)).task 3).map (·.ready) = some false
    ∧ ((after (.stagingDone 2) (tasked readyTask [(2, { staged := some { task := 3 }, run := some { task := 4 } })])).core 2).done = true := by decide

theorem item_end_witness : (tasked readyTask [(2, { run := some { task := 3 } })]).unitUp (coreUnit 2) = true
    ∧ ((after (.pxEndw 2) { tasked readyTask [(2, { run := some { task := 3 } })] with elapsed := 700 * 2 ^ 32 }).task 3).map (·.run) = some 70
    ∧ ((after (.pxEndw 2) (tasked readyTask [(2, { run := some { task := 3 } })])).core 2).run = none
    ∧ (after (.workItemAbort 2 5 0x20000010 7) (tasked readyTask [(2, { run := some { task := 3 } })])).get R.SCHED_ABORT_LAST_CAUSE = 5
    ∧ ((after (.workItemAbort 2 5 0x20000010 7) (tasked readyTask [(2, { run := some { task := 3 } })])).task 3).map (·.aborts) = some 1
    ∧ taskMatched readyTask.decl = false ∧ readyTask.decl.pages = [] ∧ (tasked readyTask []).up 16 = true
    ∧ (tasked readyTask [(2, { run := some { task := 3 } })]).pageGranted (.core 0x1002 3) 0x7004C = false
    ∧ ((after (.stagingDone 2) (tasked readyTask [(2, { staged := some { task := 3 } })])).core 2).pc = oneTask.entry
    ∧ ((after (.workItemAbort 2 1 0x20000010 7) (tasked readyTask [(2, { run := some { task := 3 } })])).core 2).mcause = 2
    ∧ (after (.registerWrite (.core 0x1002 3) 0x7004C 0x105 15 true) (tasked readyTask [(2, { run := some { task := 4 } })])).get R.RANK_OBS_LIMIT = 5 := by decide

theorem debug_witness : ((after (.coreDebugHalt 2) ({ live [(R.SEC_STATUS_DBG_OPEN, 1)] with arm := { mode := .run } })).core 2).halted = true
    ∧ (after (.coreDebugHalt 2) ({ live [(R.SEC_STATUS_DBG_OPEN, 1)] with arm := { mode := .run } })).arm.mode = .debugHalt
    ∧ (after (.coreDebugHalt 2) running).arm.mode = .run
    ∧ ((after (.coreDebugResume 2) (tasked readyTask [(2, { halted := true, haltAt := 3 })])).core 2).halted = false := by decide

/-- Buffer 5 of 4 bytes at device-memory offset 64. -/
def bufferAt (mv : Option BufLoc) (lost : Bool) : State :=
  { live [] with sched := { bufs := [{ decl := { handle := 5, size := 4, kind := .placed, ckpt := false, loc := .device 64 }, move := mv, lost := lost }] }, mem := [(65, 9), (201, 3)] }

theorem task_control_witness : (after .taskEnable { tasked { decl := oneTask, enabled := false } [] with regs := (live [(R.SCHED_TASK_IDX_IDX, 3)]).regs }).task 3
        = some { decl := oneTask, enabled := true }
    ∧ (after .taskDisable { tasked readyTask [] with regs := (live [(R.SCHED_TASK_IDX_IDX, 3)]).regs }).task 3 = some { readyTask with enabled := false, ready := false }
    ∧ (after (.taskIdxWrite 3) (tasked readyTask [])).get R.SCHED_TASK_TIME_TB = 100 ∧ (after (.taskIdxWrite 4) (tasked readyTask [])).get R.SCHED_TASK_TIME_TB = 0
    ∧ (after .taskEnable ({ tasked readyTask [] with regs := (live [(R.SCHED_TASK_IDX_IDX, 3)]).regs, flt := { tasks := [(3, 6)] } })).flt.inbox.length = 1
    ∧ (after .traceSnap (live [])).sched.snap = true := by decide

theorem buffer_witness : (bufferAt none false).inService = true ∧ (bufferAt none false).sched.bufs.map (fun b => (bufferAt none false).mayMove b (.device 200)) = [true]
    ∧ (after (.bufferMoveStart 5 (.device 200)) (bufferAt none false)).sched.bufs.map (·.move) = [some (.device 200)]
    ∧ (after (.bufferMoveDone 5) (bufferAt (some (.device 200)) false)).mem.read 201 = 9 ∧ (after (.bufferMoveDone 5) (bufferAt (some (.device 200)) false)).mem.read 65 = 9
    ∧ (after (.bufferMoveStart 5 (.device 200)) (bufferAt none true)).mem.read 201 = 0
    ∧ (bufferAt none false).sched.bufs.map (fun b => (bufferAt none false).mayMove b (.device 0xBFFFFD)) = [false] := by decide

/-! ## Device time -/

theorem time_witness : (after .timeSet (live [(R.TIME_SET_HI_VAL, 2), (R.TIME_SET_LO_VAL, 9)])).nowNs = 2 * 2 ^ 32 + 9
    ∧ (after (.incNsWrite 3) (live [])).servo.inc = 3 * 2 ^ 32 ∧ (after (.incNsWrite 3) (live [(R.TIME_SRV_CFG_SRC, 1)])).servo.inc = 2 * 2 ^ 32
    ∧ (after (.tcmpTgtWrite 1 500) (live [(R.TIME_TCMP_CFG_EN 1, 1)])).get (R.TIME_TCMP_CFG_ARMED 1) = 1
    ∧ (after (.timeCompareFire 1) (after (.tcmpTgtWrite 1 500) (live [(R.TIME_TCMP_CFG_EN 1, 1)]))).nowNs = 500
    ∧ (after (.timeCompareFire 1) (after (.tcmpTgtWrite 1 500) (live [(R.TIME_TCMP_CFG_EN 1, 1)]))).get (R.TIME_TCMP_CFG_ARMED 1) = 0 := by decide

/-- R560: a new target on the tick on which the channel has fired takes the firing back. -/
theorem fire_back_witness :
    (after (.tcmpTgtWrite 1 900) (after (.timeCompareFire 1) (after (.tcmpTgtWrite 1 500) (live [(R.TIME_TCMP_CFG_EN 1, 1)])))).get (R.TIME_TCMP_CFG_ARMED 1) = 1
    ∧ (after (.tcmpTgtWrite 1 900) (after (.timeCompareFire 1) (after (.tcmpTgtWrite 1 500) (live [(R.TIME_TCMP_CFG_EN 1, 1)])))).get R.TIME_TSTAT_FIRE = 0
    ∧ (after (.srvSrcWrite 2) (after (.servoOffset 1 (100 * 2 ^ 16)) (live [(R.TIME_SRV_CFG_SRC, 1), (R.TIME_STATUS_VALID, 1), (R.TIME_STEP_THR_THR, 1000),
        (R.TIME_SRV_GAIN_KI, 2 ^ 15)]))).servo.acc = 0 := by decide

theorem servo_witness : (after (.servoOffset 1 (100 * 2 ^ 16)) (live [(R.TIME_SRV_CFG_SRC, 1), (R.TIME_STATUS_VALID, 1), (R.TIME_STEP_THR_THR, 1000), (R.TIME_SRV_GAIN_KI, 2 ^ 15), (R.TIME_SRV_GAIN_KP, 2 ^ 11)])).servo.rate = 100 * 2 ^ 16
    ∧ (after (.servoOffset 1 (1001 * 2 ^ 16)) (live [(R.TIME_SRV_CFG_SRC, 1), (R.TIME_STATUS_VALID, 1), (R.TIME_STEP_THR_THR, 1000)])).servo.pend = some (1001 * 2 ^ 16)
    ∧ (after .holdoverTimeout (live [(R.TIME_SRV_CFG_SRC, 1)])).get R.TIME_STATUS_HOLDOVER = 1
    ∧ (after (.srvSrcWrite 0) (live [(R.TIME_SRV_CFG_SRC, 1), (R.TIME_STATUS_HOLDOVER, 1)])).get R.TIME_STATUS_HOLDOVER = 0 := by decide

theorem pps_witness : (after .ppsInEdge { live [(R.TIME_PPS_CFG_IN_EN, 1)] with time := 77 * 2 ^ 32 }).get R.TIME_PPS_TS_TS = 77
    ∧ (after .ppsMissTimeout (live [(R.TIME_PPS_CFG_IN_EN, 1)])).get R.TIME_TSTAT_PPS_MISS = 1
    ∧ (after .ppsMissTimeout (live [(R.TIME_PPS_CFG_IN_EN, 1)])).elapsed = 1100000000 * 2 ^ 32
    ∧ (after .ppsOutRise { live [(R.TIME_PPS_CFG_OUT_EN, 1), (R.TIME_STATUS_VALID, 1)] with time := 77 * 2 ^ 32 }).nowNs = 10 ^ 9
    ∧ (after .ppsOutFall { live [(R.TIME_PPS_CFG_OUT_W, 20)] with servo := { ppsOut := true } }).nowNs = 20000000
    ∧ (after .ppsInEdge { live [(R.TIME_PPS_CFG_IN_EN, 1)] with elapsed := 5, servo := { ppsAt := some 4 } }).servo.ppsAt = some 4 := by decide

/-! ## The station network -/

/-- A frame with a PRP trailer. -/
def prpFrame : EthFrame := { size := 100, etype := 0x88BA, fcsOk := true, srcMac := 0xA1, red := .prp 7 0xA }

/-- Ports 0 and 1 form a PRP pair. -/
def prpPair (n : NetSt) : State := { live [(R.ETH_CTRL_EN 0, 1), (R.ETH_CTRL_EN 1, 1), (R.ETH_CFG_PAIR 0, 1)] with net := n }

theorem eth_witness : (prpPair {}).inService = true ∧ (prpPair {}).pairMode 1 = 1 ∧ keysRise none (prpPair {}).net.dups = true
    ∧ tget [] (after (.ethFrameReceived 0 prpFrame) (prpPair {})).net.dups 0 = [⟨0xA1, 7, 1, 1⟩]
    ∧ (after (.ethFrameReceived 1 prpFrame) (after (.ethFrameReceived 0 prpFrame) (prpPair {}))).get (R.ETH_PAIR_CNT_DUP 0) = 1
    ∧ (after (.ethFrameReceived 0 { prpFrame with fcsOk := false }) (prpPair {})).get (R.ETH_ERR_CNT_FCS 0) = 1
    ∧ (after (.ethFrameReceived 0 { prpFrame with size := 63 }) (prpPair {})).get (R.ETH_PSTAT_SIZE 0) = 1
    ∧ (after (.ethFrameReceived 0 { prpFrame with etype := 0x800 }) (prpPair {})).get (R.ETH_PSTAT_TYPE_DROP 0) = 1
    ∧ (after (.prpEntryExpired 0 0xA1 7) (after (.ethFrameReceived 0 prpFrame) (prpPair {}))).get (R.ETH_PAIR_CNT_UNPAIRED 0) = 1
    ∧ tget 0 (after (.prpSupervisionSend 0) (prpPair {})).net.supers 0 = 1 := by decide

theorem eth_link_witness : (after (.ethLinkDown 0) (prpPair {})).get (R.ETH_PSTAT_LINK_DN 0) = 1
    ∧ (after (.autoNegotiationDone 0 true) (live [(R.ETH_CTRL_EN 0, 1), (R.ETH_CFG_AN_EN 0, 1), (R.LANE_CFG_RATE 112, 1)])).get (R.ETH_STATUS_AN_DONE 0) = 1
    ∧ (after (.autoNegotiationDone 0 false) (live [(R.ETH_CTRL_EN 0, 1), (R.ETH_CFG_AN_EN 0, 1), (R.LANE_CFG_RATE 112, 1)])).get (R.ETH_PSTAT_AN_FAIL 0) = 1
    ∧ (after (.anRestart 0) (live [(R.ETH_CTRL_EN 0, 1), (R.ETH_CFG_AN_EN 0, 1), (R.LANE_CFG_RATE 112, 1), (R.ETH_STATUS_AN_DONE 0, 1)])).get (R.ETH_STATUS_AN_DONE 0) = 0
    ∧ (after (.sfpRead 0 (2 ^ 31 + 2 ^ 8 * 20)) (live [])).get (R.ETH_SFP_CMD_ADDR 0) = 20
    ∧ (after (.sfpReadDone 0 0 33) (after (.sfpRead 0 (2 ^ 31 + 2 ^ 8 * 20)) (live []))).get (R.ETH_SFP_CMD_DATA 0) = 33
    ∧ (after (.sfpReadDone 0 1 33) (after (.sfpRead 0 (2 ^ 31 + 2 ^ 8 * 20)) (live []))).get (R.ETH_SFP_CMD_DATA 0) = 0 := by decide

/-- Stream 2, channel 5 of its entry 0 scaled by 2^40 (one to one). -/
def svDecl : StreamDecl := { num := 2, dst := 1, appid := 0x4000, svid := [], ports := 3, entries := 1, synchReq := 0, tmoUs := 1000, crit := true, rate := 4000 }
def svChanDecl : ChannelDecl := { num := 5, stream := 2, entry := 0, mul := 2 ^ 40, postOp := false, tag := 0, opIdx := 0, postEvt := false, flag := 0 }
def svLive (l : List (Field × Nat)) : State :=
  { live ([(R.NETSV_CTRL_SV_EN, 1), (R.NETSV_SVS_EN_LO_EN, 4)] ++ l) with net := { streams := [(2, { decl := svDecl })], chans := [(5, { decl := svChanDecl })] } }
def svFrame (q : Nat) : SvFrame := { port := 0, dst := 1, appid := 0x4000, svid := [], srcMac := 0xA1, red := .none, sim := false, asdus := [{ smpCnt := 9, synch := 2, entries := [(-70, q)] }] }

theorem sv_witness : (svLive []).inService = true ∧ (svLive []).svUp = true ∧ (svLive []).streamOn 2 = true ∧ (svLive []).ethUp 0 = true ∧ (svLive []).streamKey 2 { decl := svDecl } = true
    ∧ ((svLive []).net.streams.find? (fun e => streamMatch e.2.decl (svFrame 0) && (svLive []).streamOn e.1)).isSome = true ∧ (topAsdu (svFrame 0).asdus).isSome = true
    ∧ (lookupKey (after (.svFrameReceived (svFrame 0)) (svLive [])).net.chans 5).map (·.val) = some (2 ^ 32 - 70)
    ∧ (lookupKey (after (.svFrameReceived (svFrame 1)) (svLive [])).net.chans 5).map (fun c => (c.val, c.qbad)) = some (0, true)
    ∧ (lookupKey (after (.svStreamTimeout 2) (svLive [])).net.streams 2).map (·.lost) = some true
    ∧ (after (.svStreamTimeout 2) { svLive [] with arm := { mode := .run } }).flt.inbox.map (·.req) = [.atLeast 3]
    ∧ (after (.svcInfoWrite 5) (after (.svFrameReceived (svFrame 0)) (svLive []))).get R.NETSV_SVC_VAL_VAL = 2 ^ 32 - 70
    ∧ (after (.svsInfoWrite 2) (after (.svStreamTimeout 2) (svLive []))).get R.NETSV_SVS_INFO_LOST = 1
    ∧ (after (.gsInfoWrite 3) (svLive [])).get R.NETSV_GS_INFO_IDX = 3 := by decide

/-- Subscription 1 blocks the arm; publication 1 is declared. -/
def gsDecl : SubDecl := { num := 1, dst := 1, appid := 7, gocbRef := [], datSet := [], confRev := 3, pos := 0, action := 2, flag := 0, failBlk := true }
def gooseLive (m : ArmMode) : State :=
  { live [(R.NETSV_CTRL_GS_EN, 1), (R.NETSV_CTRL_GP_EN, 1), (R.NETSV_GS_EN_EN 0, 2), (R.NETSV_GP_CFG_PUB_EN, 2)] with
    arm := { mode := m }, net := { subs := [(1, { decl := gsDecl })], pubs := [(1, { decl := { num := 1, ports := 1, dst := 0x010CCD010001, appid := 1, gocbRef := [], datSet := [], goID := [], confRev := 1 } })] } }
def gooseFrame (rev : Nat) (b : Bool) : GooseFrame :=
  { port := 0, srcMac := 0xA1, red := .none, dst := 1, appid := 7, gocbRef := [], datSet := [], confRev := rev, ndsCom := false, sim := false, test := false, stNum := 1, sqNum := 0, talMs := 10, members := [some b] }

theorem goose_witness : (gooseLive .run).inService = true ∧ (gooseLive .run).pubOn 1 = true ∧ (gooseLive .run).subOn 1 = true
    ∧ (gooseLive .run).pubMembers 1 = [0, 0, 0, 0, 0, 0, 0, 0] ∧ (lookupKey (after (.gooseNewState 1) (gooseLive .run)).net.pubs 1).map (·.stNum) = some 1
    ∧ (lookupKey (after (.gooseRepeat 1) (after (.gooseNewState 1) (gooseLive .run))).net.pubs 1).map (·.sqNum) = some 1
    ∧ (lookupKey (after (.gpDataWrite 9) (gooseLive .run)).net.pubs 1).map (·.members) = some (some [1, 0, 0, 1, 0, 0, 0, 0])
    ∧ (after (.gooseFrameReceived (gooseFrame 3 true)) (gooseLive .run)).arm.mode = .blocked
    ∧ (after (.gooseFrameReceived (gooseFrame 3 false)) (gooseLive .run)).arm.mode = .run
    ∧ (after (.gooseFrameReceived (gooseFrame 4 true)) (gooseLive .run)).arm.mode = .run
    ∧ (after (.gooseFrameReceived (gooseFrame 4 true)) (gooseLive .run)).get R.NETSV_NSTAT_GS_CONFREV = 1
    ∧ (after (.gooseSubTimeout 1) (gooseLive .run)).arm.mode = .blocked ∧ (after (.gooseSubTimeout 1) (gooseLive .run)).get R.NETSV_NSTAT_GS_LOST = 1 := by decide

/-- PTP on port 0 with its link up. -/
def ptpLive (x : PtpPort) : State :=
  { live [(R.NETSV_PTP_CFG_EN, 1), (R.ETH_CTRL_EN 0, 1), (R.TIME_SRV_CFG_SRC, 1)] with lanes := [(112, { mode := .locked })], net := { ptp := [(0, x)] } }

/-- The head of a message of domain 0 from port 5 of another clock. -/
def ptpHead : PtpHead := { port := 0, srcMac := 0xA1, red := .none, domain := 0, sender := 5 }

theorem ptp_witness : (ptpLive { st := 9 }).isCopy 0 0xA1 .none = false ∧ (ptpLive { syncs := 1 }).inService = true ∧ (ptpLive {}).ptpUp = true ∧ (ptpLive {}).ptpPorts.contains 0 = true ∧ (ptpLive {}).linkUp 0 = true
    ∧ (ptpLive { st := 9 }).ptpSlave 0 = true ∧ (after (.ptpSyncReceived ptpHead 0 0 0) (ptpLive { st := 9, mld := 16 })).servo.pend = some 65536
    ∧ ((after (.ptpMessageReceived ptpHead .pdelayReq) (ptpLive { syncs := 1 })).ptpPort 0).resps = 1
    ∧ ((after (.ptpMessageReceived ptpHead (.pdelayResp 0 (100 * 2 ^ 16) (150 * 2 ^ 16) (90 * 2 ^ 16))) (ptpLive { syncs := 1 })).ptpPort 0).mld = 320
    ∧ ((after (.ptpIntervalSend 0 .pdelay) (ptpLive { syncs := 1 })).ptpPort 0).pdls = 1
    ∧ ((after (.ptpIntervalSend 0 .sync) (ptpLive { st := 6 })).ptpPort 0).syncs = 1 ∧ ((after (.ptpIntervalSend 0 .sync) (ptpLive { st := 9 })).ptpPort 0).syncs = 0 := by decide

/-! ## The fabric -/

/-- Port 1 enabled, with a state; its lanes locked. -/
def canopyWith (x : PortSt) (l : List (Field × Nat)) : State :=
  { live ((R.CANOPY_CTRL_EN 1, 1) :: l) with canopy := { ports := [(1, x)] }, lanes := [(100, { mode := .locked }), (101, { mode := .locked }), (102, { mode := .locked }), (103, { mode := .locked })] }

/-- A good set of markers of device 9. -/
def goodMarkers : List Marker := (List.range 4).map (fun q => { lane := q, port := 2, device := 9, seq := 5, atBlk := 100 + q })

/-- A message for device 9. -/
def msgTo (t h : Nat) : CMsg := { mtype := t, dst := 9, src := 3, hops := h, sess := 0, seq := 0, tag := 0, aux := 0, payload := [] }

/-- A message with its check. -/
def checked (m : CMsg) : CMsg := { m with mcrc := m.mcrcOf }

/-- R612: the blocks of a message on the four logical lanes. -/
def onWire (m : CMsg) : List (List (Nat × Nat)) :=
  (List.range 4).map (fun q => ((onLanes 0 (m.blocks false)).filter (fun e => decide (e.1 = q))).map (·.2))

theorem canopy_port_witness : (canopyWith { good := 1 } []).inService = true ∧ (canopyWith {} []).portRuns 1 = true ∧ keysRise none (canopyWith { good := 1 } []).canopy.ports = true
    ∧ (canopyWith {} []).laneUp 101 = true ∧ goodSet goodMarkers = true ∧ ((after (.alignMarkerSend 1) (canopyWith { mseq := 255 } [])).port 1).mseq = 0
    ∧ (after (.markerSetReceived 1 goodMarkers) (canopyWith { good := 1 } [])).get (R.LANE_STATUS_ALIGNED 102) = 1
    ∧ (after (.markerSetReceived 1 goodMarkers) (canopyWith {} [])).get (R.LANE_STATUS_ALIGNED 102) = 0
    ∧ (after (.markerSetReceived 1 []) (canopyWith { bad := 2 } [(R.LANE_STATUS_ALIGNED 100, 1), (R.LANE_STATUS_ALIGNED 102, 1)])).get (R.LANE_STATUS_ALIGNED 102) = 0 := by decide

/-- The four lanes of port 1 are aligned. -/
def alignedLanes : List (Field × Nat) := [(R.LANE_STATUS_ALIGNED 100, 1), (R.LANE_STATUS_ALIGNED 101, 1), (R.LANE_STATUS_ALIGNED 102, 1), (R.LANE_STATUS_ALIGNED 103, 1), (R.LANE_DESKEW_PEER 100, 9)]

theorem canopy_link_witness : ((after (.canopyPortUp 1) (canopyWith {} alignedLanes)).port 1).up = true
    ∧ (after (.canopyPortUp 1) (canopyWith {} ((R.CANOPY_DEVID_ID, 9) :: alignedLanes))).get (R.CANOPY_PSTAT_DUPID 1) = 1
    ∧ ((after (.canopyPortDown 1) (canopyWith { up := true, queue := [(3, msgTo 0 1)] } [])).port 1).queue.length = 1
    ∧ (after (.devidWrite 77) (live [])).get R.CANOPY_DEVID_ID = 77 ∧ (after (.devidWrite 78) (after (.devidWrite 77) (live []))).get R.CANOPY_DEVID_ID = 77
    ∧ (canopyWith { up := true } []).portUp 1 = true ∧ (canopyWith { up := true } []).isCkPort 1 = false ∧ (canopyWith { up := true } []).routeTo 9 = none := by decide

/-- The route to device 9 leads over port 1. -/
def routed : List (Field × Nat) := [(R.CANOPY_ROUTE_VALID 1 1, 1), (R.CANOPY_ROUTE_PORT 1 1, 1)]

/-- R613: five payload bytes make one block, and the message comes back from its four lanes padded. -/
theorem canopy_blocks : msgOf (reassemble ((onWire { msgTo 5 2 with payload := [1, 2, 3, 4, 5] }).map unmarked))
      = some (checked { msgTo 5 2 with payload := [1, 2, 3, 4, 5, 0, 0, 0] })
    ∧ ((after (.canopyTxNext 1) (canopyWith { up := true, lane := 3, queue := [(2, msgTo 0 1)] } [])).port 1).line.map (·.1) = [3, 0, 1, 2] := by decide

theorem canopy_message_witness : (canopyWith { up := true } routed).routeTo 9 = some 1
    ∧ (after (.canopyMessageReceived 1 (onWire (msgTo 0 3))) (canopyWith { up := true } [])).get (R.CANOPY_PSTAT_NOROUTE 1) = 1
    ∧ (after (.canopyMessageReceived 1 (onWire (msgTo 0 0))) (canopyWith { up := true } routed)).get (R.CANOPY_PSTAT_HOPS0 1) = 1
    ∧ ((after (.canopyMessageReceived 1 (onWire (msgTo 0 3))) (canopyWith { up := true } routed)).port 1).queue = [(3, checked (msgTo 0 2))]
    ∧ (after (.canopyMessageReceived 1 (onWire (msgTo 9 3))) (canopyWith { up := true } routed)).get (R.CANOPY_ERR_CNT_DROP 1) = 1
    ∧ ((after (.canopyTxNext 1) (canopyWith { up := true, queue := [(2, msgTo 0 1), (3, msgTo 0 2)] } [])).port 1).out = some (msgTo 0 1)
    ∧ ((after (.treqSend 1) (canopyWith { up := true } [(R.CANOPY_CFG_TUP 1, 1)])).port 1).queue.length = 1
    ∧ ((after (.treqReceived 1 (checked (msgTo 2 0)) 5 6) (canopyWith { up := true } [(R.CANOPY_CFG_TDN 1, 1)])).port 1).queue.length = 1
    ∧ (after (.trespReceived 1 (checked (msgTo 3 0)) 0 0) (canopyWith { up := true } [(R.CANOPY_CFG_TUP 1, 1)])).get (R.CANOPY_PSTAT_T_NV 1) = 1
    ∧ (after (.trespReceived 1 (checked { msgTo 3 0 with aux := 1 }) (-10) 10) (canopyWith { up := true } [(R.CANOPY_CFG_TUP 1, 1)])).get (R.CANOPY_TDLY_DLY 1) = 20 := by decide

/-! ## Sessions -/

/-- The declaration of session 5: peer device 9, RX buffer 7. -/
def sessDecl : SessDecl := { num := 5, peer := 9, peerSess := 6, operand := false, txBuf := 7, rxBuf := 7, tag := 0, flag := none, rtoUs := 100, island := none }

/-- Session 5 in a state; the route to device 9 leads over port 1, which is up; buffer 7 lies at 0x1000. -/
def sessWith (x : SessSt) (l : List (Field × Nat)) : State :=
  let s := canopyWith { up := true } ((R.CANOPY_SESS_IDX_IDX, 5) :: routed ++ l)
  { s with canopy := { s.canopy with sess := [(5, x)] }, time := 1000000 * 2 ^ 32, elapsed := 1000000 * 2 ^ 32
           sched := { s.sched with bufs := [{ decl := { handle := 7, size := 4096, kind := .fixed 0x1000, ckpt := false, loc := .device 0 } }] } }

/-- A DATA message of device 9 to session 5. -/
def dataMsg9 (q : Nat) : CMsg := { mtype := 0, dst := 0, src := 9, hops := 3, sess := 5, seq := q, tag := 2000000, aux := 4 * 256 + 6, payload := [1, 2, 3, 4] }

/-- One message outstanding. -/
def outOne : OutMsg := { seq := 3, len := 4, dead := 1100000, tag := 1100000, at_ := 990000 }

theorem session_send_witness : (sessWith { decl := sessDecl } []).inService = true ∧ (sessWith { decl := sessDecl } []).sess 5 = some { decl := sessDecl }
    ∧ (sessWith { decl := sessDecl } []).islandSess 5 = false ∧ (sessWith { decl := sessDecl } []).sessNow = 5 ∧ (sessWith { decl := sessDecl } []).routeTo 9 = some 1
    ∧ (after (.canopySend 5 0x00100004) (sessWith { decl := sessDecl } [])).get (R.CANOPY_SEND_DOWN 5) = 1
    ∧ (after (.canopySend 5 0x00100004) (sessWith { decl := sessDecl, enabled := true, seq := 255 } [])).sess 5
        = some { decl := sessDecl, enabled := true, seq := 0, out := [{ seq := 255, len := 4, dead := 1016000, tag := 1016000, at_ := 1000000 }] }
    ∧ ((after (.canopySend 5 0x00100004) (sessWith { decl := sessDecl, enabled := true, seq := 255 } [])).port 1).queue.length = 1
    ∧ (after (.canopySend 5 0x00100004) (sessWith { decl := sessDecl, enabled := true, out := List.replicate 8 outOne } [])).get (R.CANOPY_SEND_BUSY 5) = 1
    ∧ ((after (.canopySend 5 4) (sessWith { decl := sessDecl, enabled := true } [])).flt.inbox.map (·.aux)) = [0xB0414]
    ∧ (after (.canopySend 5 0x00100004) (sessWith { decl := { sessDecl with island := some 1 } } [])).flt.inbox.length = 1 := by decide

theorem session_time_witness :
    (after (.sessionRto 5) (sessWith { decl := sessDecl, enabled := true, skip := true, out := [outOne] } [])).sess 5
        = some { decl := sessDecl, enabled := true, out := [{ outOne with at_ := 1090000 }], retx := 1 }
    ∧ (after (.sessionDeadline 5) (sessWith { decl := sessDecl, enabled := true, out := [outOne, { outOne with dead := 1200000 }] } [])).sess 5
        = some { decl := sessDecl, enabled := true, skip := true, out := [{ outOne with dead := 1200000 }], abandon := 1, gone := some ⟨1100000 * 2 ^ 32, [3], false, { bits := [(R.CANOPY_PSTAT_ABANDON 0, false, false)] }⟩ }
    ∧ ((after .sessEnable (sessWith { decl := sessDecl, expSeq := 4 } [])).sess 5) = some { decl := sessDecl, enabled := true }
    ∧ ((after .sessDisable (sessWith { decl := sessDecl, enabled := true, out := [outOne] } [])).sess 5) = some { decl := sessDecl, skip := true, abandon := 1 }
    ∧ ((after .rxRel (sessWith { decl := sessDecl, enabled := true, rxFill := 2 } [])).sess 5) = some { decl := sessDecl, enabled := true, rxFill := 1 }
    ∧ (after (.sessIdxWrite 5) (sessWith { decl := sessDecl, enabled := true } [])).get R.CANOPY_SESS_INFO_PEER = 9 := by decide

theorem session_data_witness : (sessWith { decl := sessDecl } []).portUp 1 = true ∧ (sessWith { decl := sessDecl } []).answersStandby = false ∧ (sessWith { decl := sessDecl } []).bufAddr 7 = some 0x1000
    ∧ (after (.dataReceived 1 (checked (dataMsg9 0))) (sessWith { decl := sessDecl, enabled := true } [])).sess 5 = some { decl := sessDecl, enabled := true, expSeq := 1, rxFill := 1, rxCnt := 1 }
    ∧ Memory.readN (after (.dataReceived 1 (checked (dataMsg9 0))) (sessWith { decl := sessDecl, enabled := true } [])).mem 0x1010 4 = [1, 2, 3, 4]
    ∧ ((after (.dataReceived 1 (checked (dataMsg9 0))) (sessWith { decl := sessDecl, enabled := true } [])).port 1).queue.map (·.2.aux) = [0]
    ∧ ((after (.dataReceived 1 (checked (dataMsg9 0))) (sessWith { decl := sessDecl, enabled := true, rxFill := 8 } [])).port 1).queue.map (·.2.aux) = [1]
    ∧ ((after (.dataReceived 1 (checked (dataMsg9 0))) (sessWith { decl := sessDecl, enabled := true, expSeq := 1 } [])).port 1).queue.map (·.2.aux) = [0]
    ∧ ((after (.dataReceived 1 (checked (dataMsg9 4))) (sessWith { decl := sessDecl, enabled := true, expSeq := 1 } [])).port 1).queue = []
    ∧ ((after (.dataReceived 1 (checked { dataMsg9 4 with sess := 6 })) (sessWith { decl := sessDecl, enabled := true } [])).port 1).queue.map (·.2.aux) = [2]
    ∧ (after (.ackReceived 1 (checked { dataMsg9 3 with mtype := 1, aux := 0 })) (sessWith { decl := sessDecl, enabled := true, out := [outOne] } [])).sess 5 = some { decl := sessDecl, enabled := true }
    ∧ (after (.ackReceived 1 (checked { dataMsg9 3 with mtype := 1, aux := 3 })) (sessWith { decl := sessDecl, enabled := true, out := [outOne] } [])).sess 5
        = some { decl := sessDecl, enabled := true, stby := true, skip := true, abandon := 1 } := by decide

/-! ## Redundant pairs -/

/-- Device 9 in pair operation with device 4 over port 1, in a role, on the variant with a pair. -/
def pairIn (r : AmberRole) (l : List (Field × Nat)) : State :=
  let s := State.putAll ([(R.AMBER_CFG_EN, 1), (R.AMBER_CFG_PORT, 1), (R.AMBER_CFG_PEER, 4), (R.CANOPY_DEVID_ID, 9), (R.CANOPY_CTRL_EN 1, 1), (R.CANOPY_PEER_DEV 1, 4)] ++ l) (live [])
  { s with canopy := { ports := [(1, { up := true })] }, amber := { role := r } }

/-- A message of the pair. -/
def pairMsg4 (t tag aux : Nat) (pl : List Byte) : CMsg :=
  checked { mtype := t, dst := 9, src := 4, hops := 15, sess := 0, seq := 0, tag := tag, aux := aux, payload := pl }

/-- The payload of a heartbeat of an active peer. -/
def hbActive : List Byte := leBytes 8 (2 ^ 61) ++ leBytes 8 0

theorem pair_message_witness : (pairIn .active []).inService = true ∧ (pairIn .standby []).amberUp = true ∧ (pairIn .standby []).isSink = true
    ∧ (pairIn .standby []).pairValid 1 (pairMsg4 8 0 3 []) 8 = true ∧ (parseHb 0 hbActive).role = 1
    ∧ (after (.hbReceived 1 (pairMsg4 4 0 0 hbActive)) { pairIn .active [] with elapsed := 2 ^ 40 }).amber.role = .none
    ∧ (after (.hbReceived 1 (pairMsg4 4 0 0 hbActive)) (pairIn .active [])).amber.role = .standby
    ∧ (after (.hbReceived 1 (pairMsg4 4 0 0 hbActive)) (after .heartbeatTimeout (pairIn .standby []))).amber.role = .standby
    ∧ (after (.hbReceived 1 (pairMsg4 4 0 0 hbActive)) { pairIn .active [] with elapsed := 2 ^ 40, amber := { role := .active, hoStage := 1, hoAt := 256 } }).amber.hoStage = 0
    ∧ (after (.hbReceived 1 (pairMsg4 4 0 0 hbActive)) (pairIn .active [(R.AMBER_CFG_PEER, 40), (R.CANOPY_PEER_DEV 1, 40)])).amber.role = .active
    ∧ (after (.hbReceived 1 (pairMsg4 4 0 0 hbActive)) (pairIn .standby [(R.ARM_EXEC_OFS_OFS, 5)])).get R.AMBER_ASTAT_CFG_MIS = 1
    ∧ (after (.withdrawReceived 1 (pairMsg4 8 0 3 [])) (pairIn .standby [])).amber.take = some ⟨0, .withdraw 3, 15000, false, false, (pairIn .standby []).takeBack⟩
    ∧ (after (.withdrawReceived 1 (pairMsg4 8 0 3 [])) (pairIn .warm [(R.AMBER_CFG_TSRC, 1)])).get R.TIME_SRV_CFG_SRC = 1
    ∧ (after (.handoverReceived 1 (pairMsg4 7 6 0 [])) { pairIn .standby [] with amber := { role := .standby, img := some (0, 6, 400) } }).amber.role = .takeover
    ∧ (after (.handoverReceived 1 (pairMsg4 7 7 0 [])) { pairIn .standby [] with amber := { role := .standby, img := some (0, 6, 400) } }).amber.hoSeq = some 7 := by decide

theorem pair_role_witness : (after .heartbeatTimeout (pairIn .standby [])).amber.role = .takeover
    ∧ (after .heartbeatTimeout { pairIn .standby [] with amber := { role := .standby, frameAt := some 9000 } }).get R.AMBER_ASTAT_SPLIT = 1
    ∧ (after .heartbeatTimeout (pairIn .active [])).get R.AMBER_ASTAT_PEER_LOST = 1
    ∧ (after (.hbReceived 1 (pairMsg4 4 0 0 (leBytes 8 (2 ^ 62) ++ leBytes 8 0))) (after .heartbeatTimeout (pairIn .active []))).get R.AMBER_ASTAT_PEER_LOST = 0
    ∧ (after .handover { pairIn .active [] with amber := { role := .active, hb := some { parseHb 0 hbActive with ready := true } } }).amber.hoStage = 1
    ∧ (after .handover (pairIn .active [])).flt.inbox.length = 1
    ∧ (after .warmSupEnd (pairIn .warm [])).amber.role = .standby ∧ ((after .warmSupEnd (pairIn .warm [])).glade 16).gated = true
    ∧ (after .roleAssignment { pairIn .none [] with amber := { hb := some (parseHb 0 hbActive) } }).amber.role = .standby
    ∧ (pairIn .none []).portUp 1 = true ∧ (pairIn .none []).framesSeen = false ∧ (pairIn .none []).flt.l4 = false ∧ (pairIn .none []).host.phase = .applied
    ∧ (after .roleAssignment { pairIn .none [] with amber := { frameAt := some 0 } }).get R.AMBER_ASTAT_SPLIT = 1
    ∧ (pairIn .none [(R.AMBER_CFG_PORT, 2)]).portUp 2 = false := by decide

/-- The standby device of a pair, with part of its checkpoint engine given. -/
def sinkWith (x : AmberSt) : State := { pairIn .standby [] with amber := { x with role := .standby } }

/-- An active device of a pair in RUN, with firmware checkpoint buffer 7 of eight bytes at 0x1000. -/
def sourceWith (x : AmberSt) : State :=
  let s := pairIn .active [(R.ARM_CYC_LEN_LEN, 4095)]
  { s with amber := { x with role := .active }, arm := { s.arm with mode := .run, running := true }
           sched := { s.sched with bufs := [{ decl := { handle := 7, size := 8, kind := .fixed 0x1000, ckpt := true, loc := .device 0 } }] } }

/-- A checkpoint of 264 bytes whose last message has index 1: eight bytes of trailer with the sequence 5. -/
def lastPart : List Byte := leBytes 4 5 ++ leBytes 4 (crc32c (List.replicate 256 0))

theorem checkpoint_send_witness : (sourceWith {}).amberUp = true ∧ (sourceWith {}).arm.running = true ∧ (sourceWith {}).regionOver = false ∧ (pairIn .active [(R.ARM_CYC_LEN_LEN, 20)]).regionOver = true
    ∧ (after .checkpointCapture (sourceWith { ckSeq := 6 })).amber.ckSeq = 7 ∧ (after .checkpointCapture (sourceWith {})).time = 6 * 4095 * 2 ^ 32
    ∧ ((after .checkpointCapture (sourceWith {})).amber.stream.map (·.bufs)) = some [7]
    ∧ (after .checkpointCapture (sourceWith { stream := some ⟨0, 0, 0, [], [7], 0⟩ })).get R.AMBER_ASTAT_CK_LATE = 1
    ∧ (sourceWith {}).bufQuiet 7 = true ∧ (sourceWith {}).bufAddr 7 = some 0x1000 ∧ (lookupKey (sourceWith {}).ckBufs 7).isSome = true
    ∧ ((after (.checkpointBufferCopy 7) (sourceWith { stream := some ⟨0, 0, 0, [], [7, 8], 0⟩ })).amber.stream.map (fun c => (c.bytes, c.bufs))) = some (List.replicate 8 0, [8])
    ∧ ((after (.checkpointBufferCopy 8) (sourceWith { stream := some ⟨0, 0, 0, [], [7, 8], 0⟩ })).amber.stream.map (·.bufs)) = some [7, 8] := by decide

theorem checkpoint_sink_witness :
    (after (.ckptReceived 1 (pairMsg4 5 5 0 (List.replicate 256 0))) (sinkWith {})).amber.rxCk = some { seq := 5, next := 1 }
    ∧ (after (.ckptReceived 1 (pairMsg4 5 5 2 [])) (sinkWith { rxCk := some { seq := 5, next := 1 } })).get R.AMBER_ASTAT_CK_BAD = 1
    ∧ (after (.ckptReceived 1 (pairMsg4 5 5 (2 ^ 31 + 1) [])) (sinkWith { rxCk := some { seq := 5, next := 1 } })).get R.AMBER_ASTAT_CK_BAD = 1
    ∧ (after (.staticReceived 1 (pairMsg4 6 3 (2 ^ 31) [9])) (sinkWith {})).amber.stat = some (3, [9])
    ∧ (after (.staticReceived 1 (pairMsg4 6 3 (2 ^ 31 + 1) [9])) (sinkWith { rxStat := some { seq := 3, next := 1, bytes := [8] } })).amber.stat = some (3, [8, 9]) := by decide +kernel

theorem checkpoint_complete_witness :
    (after (.ckptReceived 1 (pairMsg4 5 5 (2 ^ 31 + 1) lastPart)) (sinkWith { rxCk := some { seq := 5, next := 1 } })).amber.img = some (0, 5, 264) := by decide +kernel

theorem pair_wake_witness : (after (.ungateComplete 16) (sinkWith { waking := [9, 16] })).amber.waking = [9]
    ∧ (after (.ungateTimeout 16) (sinkWith { waking := [9, 16] })).flt.inbox.map (·.unit) = [0x1000]
    ∧ (after (.takeoverRestore 40) { pairIn .takeover [] with amber := { role := .takeover, take := some ⟨0, .missed, 15000, false, false, {}⟩ } }).get R.AMBER_ASTAT_TK_FAIL = 1
    ∧ (pairIn .takeover []).amberUp = true := by decide

/-! ## The safety island -/

/-- A safety input of a function, without test pulses. -/
def safeInput (f : SafeFunc) (anti : Bool) : SafeInputCfg := { func := f, antiv := anti, tpA := none, tpB := none, auto := false, discUs := 10000, ossdUs := 0 }

/-- Input 0 an e-stop with equivalent channels, inputs 2 and 3 a two-hand device, input 4 a guard on test pulses 0 and 1; output 0 on function 0. -/
def safeSet : SafePset :=
  { ident := 77, crc := 5, crcOk := true
    inputs := [safeInput .estop false, safeInput .unused false, safeInput .twohand true, safeInput .twohand true, { safeInput .guard false with tpA := some 0, tpB := some 1 }]
      ++ List.replicate 7 (safeInput .unused false)
    outputs := { funcs := [0], remote := [], edmOnUs := 10000, edmOffUs := 10000, blkArm := false } :: List.replicate 3 { funcs := [], remote := [(9, 0)], edmOnUs := 10000, edmOffUs := 10000, blkArm := false }
    conns := [(2, { cid := 0x11223344, ethPorts := 1, peerMac := 0x020000000002, sess := none, perUs := 500, wdUs := 1000, errLim := 2, txMap := 1 :: List.replicate 15 0 })]
    tpwUs := 100, tppUs := 20000, irqMask := 3 }

/-- The island with this set, in a state of its own. -/
def safeWith (x : SafeSt) : State := { live [] with safe := { x with pset := some safeSet } }

theorem safe_start_witness : psetValid safeSet = true ∧ (safeWith {}).up 3 = true ∧ (after (.safeStartDone true) (safeWith {})).safe.causes = [(0, 0)]
    ∧ (after (.safeStartDone true) (safeWith {})).get R.SAFE_PSET_ID_VAL = 77 ∧ (after (.safeStartDone false) (safeWith {})).safe.mode = .start
    ∧ (after (.safeStartDone false) (safeWith {})).safe.psetOk = true := by decide

theorem safe_sample_witness : (safeWith { mode := .run }).safeRuns = true ∧ handOk ((safeWith {}).inCfg 2) = true
    ∧ (after (.safeInputSample 5000 0 none true true) (safeWith {})).safe.lvlA = 904
    ∧ ((after (.safeInputSample 0 1 none true true) (safeWith { mode := .run, ins := [(0, { mode := .released })] })).sIn 0).mode = .demand
    ∧ ((after (.safeInputSample 0 0 none true true) (safeWith { mode := .run, ins := [(0, { mode := .released })] })).sIn 0).mode = .demandBoth
    ∧ ((after (.safeInputSample 1 1 none true true) (safeWith { mode := .run, ins := [(0, { mode := .demandBoth })] })).sIn 0).mode = .waitRst
    ∧ ((after (.safeInputSample 1 1 none true true) (safeWith { mode := .run, ins := [(0, { mode := .locked })] })).sIn 0).mode = .locked
    ∧ ((after (.safeInputSample 1 13 none true true) (safeWith { mode := .run, pairs := [(1, .idle)] })).sPair 1) = .active
    ∧ ((after (.safeInputSample 13 13 none true true) (safeWith { mode := .run, pairs := [(1, .active)] })).sPair 1) = .blocked := by decide

theorem safe_pulse_witness : ((after (.testPulse 0) (safeWith { mode := .run })).sIn 4).a.due = true ∧ ((after (.testPulse 0) (safeWith { mode := .run })).sIn 4).b.due = false
    ∧ (after (.discTimeout 0) (safeWith { mode := .run, ins := [(0, { mode := .demand, disc := true })] })).safe.causes = [(6, 0)]
    ∧ ((after (.discTimeout 0) (safeWith { mode := .run, ins := [(0, { mode := .demand, disc := true })] })).sIn 0).mode = .locked
    ∧ (after (.discTimeout 0) (safeWith { mode := .run, ins := [(0, { disc := true })], outs := [(0, { on := true })] })).sOut 0 = {}
    ∧ (after (.discTimeout 0) (safeWith { mode := .lockout, causes := [(0, 0)], ins := [(0, { disc := true })] })).safe.causes = [(0, 0), (6, 0)]
    ∧ (after (.twohandSyncTimeout 1) (safeWith { mode := .run, pairs := [(1, .one 0)] })).sPair 1 = .blocked := by decide

/-- Two-hand pair 1 in a state, the island in RUN. -/
def handPair (x : SafePair) : State := safeWith { mode := .run, pairs := [(1, x)] }

theorem two_hand_witness : handOk ((handPair .idle).inCfg 2) = true ∧ handOk ((handPair .idle).inCfg 3) = true ∧ (handPair .active).funcReleased 3 = true
    ∧ (handPair .idle).funcReleased 2 = false
    ∧ (after (.safeInputSample 9 5 none true true) (handPair .idle)).sPair 1 = .one 0 ∧ (after (.safeInputSample 5 9 none true true) (handPair .idle)).sPair 1 = .one 1
    ∧ (after (.safeInputSample 1 13 none true true) (handPair (.one 0))).sPair 1 = .active ∧ (after (.safeInputSample 13 1 none true true) (handPair (.one 0))).sPair 1 = .blocked
    ∧ (after (.safeInputSample 9 5 none true true) (handPair (.one 0))).sPair 1 = .one 0 ∧ (after (.safeInputSample 13 1 none true true) (handPair .blocked)).sPair 1 = .idle
    ∧ (after (.safeInputSample 5 9 none true true) (handPair .blocked)).sPair 1 = .blocked ∧ (after (.twohandSyncTimeout 1) (handPair (.one 1))).sPair 1 = .blocked
    ∧ (after (.safeInputSample 25 21 none true true) (handPair .active)).flt.inbox.length = 1 := by decide

/-- Checks that all pass, with pins as given. -/
def checksOk (r e : Nat) : SafeChecks := { lockstepOk := true, oscOk := true, vsafeOk := true, memOk := true, psetOk := true, readA := r, readB := r, edm := e }

/-- The island in RUN with output 0 on. -/
def outputOn (x : SafeIn) : State := safeWith { mode := .run, ins := [(0, x)], outs := [(0, { on := true, edmOn := true })] }

theorem safe_reset_witness : (safeWith { mode := .lockout }).safeRuns = true
    ∧ (after (.safeRstRelease 60000 true) (safeWith { mode := .lockout, causes := [(0, 0), (1, 0)], rstArm := true })).safe.mode = .run
    ∧ (after (.safeRstRelease 60000 false) (safeWith { mode := .lockout, causes := [(0, 0), (1, 0)], rstArm := true })).safe.mode = .lockout
    ∧ (after (.safeRstRelease 60000 true) (safeWith { mode := .lockout, perm := true, rstArm := true })).safe.mode = .lockout
    ∧ (after (.safeRstRelease 60000 true) (safeWith { mode := .lockout })).safe.rstArm = true
    ∧ (after (.safeRstRelease 5000001 true) (safeWith { mode := .lockout, rstArm := true })).get R.SAFE_SSTAT_RST_LONG = 1
    ∧ ((after (.safeRstRelease 50000 true) (safeWith { mode := .run, rstArm := true })).sIn 0).mode = .released
    ∧ (after (.safeRstRelease 49999 true) (safeWith { mode := .run, rstArm := true })).sIn 0 = {} := by decide

theorem safe_logic_witness : (outputOn { mode := .released }).onReq 0 = true ∧ (outputOn {}).onReq 0 = false
    ∧ ((after (.safeLogicCycle (checksOk 0 1)) (safeWith { mode := .run, ins := [(0, { mode := .released })] })).sOut 0).on = true
    ∧ ((after (.safeLogicCycle (checksOk 0 0)) (safeWith { mode := .run, ins := [(0, { mode := .released })] })).sOut 0).on = false
    ∧ ((after (.safeLogicCycle (checksOk 1 1)) (outputOn {})).sOut 0).on = false
    ∧ (after (.safeLogicCycle { checksOk 1 1 with lockstepOk := false }) (outputOn { mode := .released })).safe.causes.head? = some (1, 0)
    ∧ (after (.safeLogicCycle (checksOk 0 1)) (outputOn { mode := .released })).safe.mode = .lockout
    ∧ (after (.edmOnTimeout 0 true) (outputOn {})).safe.causes = [(9, 0)] ∧ (after (.edmOnTimeout 0 false) (outputOn {})).safe.mode = .run
    ∧ (after (.edmOffTimeout 1 false) (outputOn {})).safe.causes = [(9, 1)] ∧ (after (.outputTestPulse 0 true false) (outputOn {})).safe.causes = [(8, 0)]
    ∧ ((after (.outputTestPulse 0 true true) (outputOn {})).sOut 0).on = true := by decide

/-- The island in RUN with connection 2 in a state. -/
def connWith (x : SafeConn) : State := safeWith { mode := .run, conns := [(2, x)] }

theorem garnet_witness : ((connWith {}).connCfg 2).isSome = true ∧ ((after (.garnetPduSend 2) (connWith { seq := 65535 })).sConn 2).seq = 0
    ∧ ((after (.garnetPduSend 2) (connWith { seq := 9 })).sConn 2).last = garnetPdu 0 false 9 9 0 0x11223344
    ∧ (after (.garnetWatchdog 2) (connWith { mode := .run })).get (R.SAFE_CONN_CNT_WDX 2) = 1 ∧ (after (.garnetWatchdog 2) (connWith {})).get (R.SAFE_CONN_CNT_WDX 2) = 0
    ∧ ((after (.garnetFailedEnd 2) (connWith { mode := .failed })).sConn 2).mode = .opening
    ∧ ((after (.garnetErrWindowEnd 2) (connWith { errs := 3 })).sConn 2).errs = 0 := by decide

theorem garnet_receive_witness :
    ((after (.garnetPduReceived 2 (garnetPdu 1 false 40 9 7 0x11223344)) (connWith { sent := [(9, 0)] })).sConn 2).rx = 7
    ∧ ((after (.garnetPduReceived 2 (garnetPdu 1 true 41 9 7 0x11223344)) (connWith { mode := .run, lastRx := some 40, sent := [(9, 0)] })).sConn 2).lastRx = some 41
    ∧ ((after (.garnetPduReceived 2 (garnetPdu 1 true 40 9 7 0x11223344)) (connWith { mode := .run, lastRx := some 40, sent := [(9, 0)] })).sConn 2).gotData = false
    ∧ ((after (.garnetPduReceived 2 [1]) (connWith { mode := .run, errs := 1 })).sConn 2).mode = .failed
    ∧ ((after (.garnetPduReceived 2 [1]) (connWith { mode := .run })).sConn 2).errs = 1 := by decide

/-! ## The root of trust -/

/-- A device in service whose security part is given; slot 0 booted. -/
def secWith (x : SecSt) (l : List (Field × Nat)) : State := { live ([(R.SEC_STATUS_SLOT, 0), (R.SEC_STATUS_SVN, 9)] ++ l) with sec := x }

theorem security_witness : (secWith {} []).inService = true ∧ (secWith {} []).debugOk = false
    ∧ (after .quote (secWith {} [])).sec.nonce = some (List.replicate 64 0) ∧ (after .quote (secWith { nonce := some [1] } [])).sec.nonce = some [1]
    ∧ (after (.dbgChal [7]) (secWith {} [])).mem.read (qbuf + 0x40) = 7 ∧ (after (.dbgChal [7]) (secWith {} [(R.SEC_STATUS_DBG_LOCKED, 1)])).sec.chal = none
    ∧ (after .dbgAuth (secWith { dbgFails := 2 } [])).get R.SEC_STATUS_DBG_LOCKED = 1 ∧ (after .dbgAuth (secWith {} [])).get R.SEC_STATUS_DBG_LOCKED = 0
    ∧ (after .dbgClose (secWith {} [(R.SEC_STATUS_DBG_OPEN, 1)])).get R.SEC_STATUS_DBG_OPEN = 0
    ∧ (after .commitSvn (secWith {} [(R.SEC_STATUS_CNT, 4)])).get R.SEC_STATUS_CNT = 9 ∧ (after .commitSvn (secWith {} [(R.SEC_STATUS_CNT, 12)])).get R.SEC_STATUS_CNT = 12
    ∧ (after .commitSvn (secWith {} [(R.SEC_STATUS_CNT, 4), (R.SEC_STATUS_SLOT, 2)])).get R.SEC_STATUS_CNT = 4 := by decide

theorem return_witness : (after (.retArmWrite 0x52455451) (secWith {} [])).get R.SEC_RET_ARM_IMG = 1 ∧ (after (.retArmWrite 0x52455450) (secWith {} [])).sec.armed = true
    ∧ (after (.retArmWrite 5) (secWith { armed := true } [])).sec.armed = false ∧ (after .retArmExpired (secWith { armed := true } [])).sec.armed = false
    ∧ (after .returnPrep (secWith { armed := true } [])).sec.retImg = some false ∧ (after .returnPrep (secWith {} [])).sec.retImg = none
    ∧ (after .returnPrepDone (secWith { retImg := some false } [])).sec.revoked = true := by decide

/-! ## The NVM controller -/

/-- A device in service whose NVM part is given; byte 0 of the settings RAM copy holds 9. -/
def nvmWith (x : NvmSt) : State := { live [] with nvm := x, mem := [(ramBase, 9)] }

theorem nvm_store_witness : (nvmWith {}).inService = true ∧ (nvmWith {}).nvmBusy = false ∧ (after (.store 3) (nvmWith {})).flt.inbox.length = 1
    ∧ (after (.store 0) (nvmWith { verify := true })).get R.NVM_RESULT_CODE = 4 ∧ (after (.store 0) (nvmWith {})).nvm.store = some (0, 1)
    ∧ (after (.store 0) (nvmWith {})).mem.read (copyBase 0 1) = 9 ∧ (after (.store 0) (nvmWith { newest := [(0, 1)] })).mem.read (copyBase 0 0) = 9
    ∧ (after (.store 0) (nvmWith { wear := [(1, 99999)] })).get R.NVM_RESULT_CODE = 3 ∧ (after (.store 0) (nvmWith { wear := [(1, 99998)] })).nvm.wear = [(1, 99999)]
    ∧ (after (.storeDone true) (nvmWith { store := some (1, 1) })).get R.NVM_SEQ_STORE_SEQ = 1 ∧ (after (.storeDone true) (nvmWith { store := some (0, 1) })).newestCopy 0 = 1
    ∧ (after (.storeDone false) (nvmWith { store := some (0, 1) })).get R.NVM_RESULT_CODE = 2 := by decide

/-- Every signature fails once the part is prepared for return: of settings P, and of an image. -/
theorem nvm_signature_witness : { nvmWith { verify := true } with sec := { revoked := true } }.slotSigned 1 = false ∧ (after (.store 1) { nvmWith {} with sec := { revoked := true } }).get R.NVM_RESULT_CODE = 1 := by decide

theorem nvm_image_witness : (after .reload (nvmWith {})).mem = [] ∧ (after .imgCommit (nvmWith {})).nvm.verify = true
    ∧ (after (.imageVerifyDone 0) { nvmWith { verify := true } with sec := { revoked := true } }).get R.NVM_NSTAT_IMG_BAD = 1
    ∧ (after (.bootPrefWrite 1) (nvmWith {})).get R.NVM_BOOT_PREF = 1 ∧ (after (.bootPrefWrite 1) (nvmWith { imgWr := true })).get R.NVM_BOOT_PREF = 0
    ∧ (after (.nvmRefresh 3 .clean) (nvmWith {})).get R.NVM_WEAR_REFRESH = 1 ∧ (after (.nvmRefresh 3 .clean) (nvmWith {})).get R.AGE_LOG_WR_IDX = 1
    ∧ (after (.nvmRefresh 3 .uncorrectable) (nvmWith {})).get R.NVM_NSTAT_REFRESH_ERR = 1 ∧ (nvmWith { imgWr := true }).refreshWaits 0 = true := by decide

/-! ## Ageing -/

/-- A device in service with the monitors on and its ageing part given. -/
def ageWith (x : AgeSt) (l : List (Field × Nat)) : State := { live ((R.AGE_CTRL_EN, 1) :: l) with age := { x with vout := some 0 } }

theorem age_no_exponent_witness : (after (.pathSlackLow 16 2 true) { ageWith {} [] with age := {} }).get R.AGE_AVS_VDD = 750
    ∧ (after (.groveClockStep 1) (ageWith { clkReq := [1], spareAt := [(1, some 0)] } [])).get (R.AGE_CLK_MHZ 1) = 1200 := by decide

theorem age_margin_witness : (ageWith {} []).inService = true ∧ (ageWith {} []).ageActs = true ∧ (ageWith {} []).vddFault = false
    ∧ (after (.pathSlackLow 16 2 true) (ageWith {} [])).get R.AGE_AVS_VDD = 760 ∧ (after (.pathSlackLow 16 2 false) (ageWith {} [])).get R.AGE_ASTAT_AVS_FAIL = 1
    ∧ (after (.pathSlackLow 16 8 true) (ageWith {} [])).get R.AGE_AVS_VDD = 750 ∧ (after (.pathSlackLow 16 2 true) (ageWith { wait := true } [])).get R.AGE_AVS_VDD = 750
    ∧ (after (.pathSlackLow 16 2 true) (ageWith {} [(R.AGE_AVS_VDD, 840)])).get R.AGE_ASTAT_AVS_MAX = 1
    ∧ (after (.pathSlackLow 17 2 true) (ageWith {} [(R.AGE_AVS_VDD, 850)])).age.clkReq = [1]
    ∧ (after (.pathSlackLow 17 2 true) (ageWith {} [(R.AGE_AVS_VDD, 850), (R.AGE_CLK_MHZ 1, 900)])).get R.AGE_ASTAT_CLK_MIN = 1
    ∧ (after (.avsStepWaitEnd 17 30) (ageWith { wait := true } [])).get (R.AGE_CLK_SLACK 1) = 30
    ∧ (after (.marginHigh24h true) (ageWith {} [])).get R.AGE_AVS_VDD = 740 ∧ (after (.marginHigh24h true) (ageWith {} [(R.AGE_AVS_VDD, 700)])).get R.AGE_AVS_VDD = 700
    ∧ (after (.groveClockStep 1) (ageWith { clkReq := [1] } [])).get (R.AGE_CLK_MHZ 1) = 1175 := by decide

theorem age_spare_witness : (ageWith {} []).spareFree ⟨0x0500, false⟩ = true ∧ (ageWith {} []).wornBy ⟨⟨0x0500, false⟩, 1⟩ = true ∧ (ageWith {} []).wornBy ⟨⟨0x1001, false⟩, 1⟩ = false ∧ (ageWith {} []).atBoundary = true ∧ (ageWith { used := [(0x0501, 1)] } []).spareFree ⟨0x0500, false⟩ = false
    ∧ (after (.wearThreshold ⟨⟨0x0500, false⟩, 1⟩) (ageWith {} [])).age.due = [(⟨0x0500, false⟩, 1)] ∧ (after (.wearThreshold ⟨⟨0x0500, false⟩, 1⟩) (ageWith { used := [(0x0501, 1)] } [])).get R.AGE_ASTAT_NOSPARE = 1
    ∧ (after (.spareBringIn ⟨0x0500, false⟩) (ageWith { due := [(⟨0x0500, false⟩, 1)] } [])).get R.RANK_STATUS_SPARE_IN = 1 ∧ (after (.spareBringIn ⟨0x1003, false⟩) (ageWith { due := [(⟨0x1003, false⟩, 1)] } [])).get R.SCHED_STAT_SPARE_IN = 1
    ∧ (after .budgetWindowEnd (ageWith { slack := some (-5) } [])).get R.AGE_ASTAT_BUDGET = 1 ∧ (after .budgetWindowEnd (ageWith { slack := some (-5) } [])).age.slack = none
    ∧ (after .operatingHour (ageWith {} [])).elNs = 3600 * 10 ^ 9 ∧ (after .operatingHour (ageWith {} [])).get R.AGE_HOURS_HOURS = 1 := by decide

/-! ## Ill-formed commands: one for each check of WellFormed.lean -/

theorem wf_refuses_numbers : ∀ c ∈ [Instr.recIdxWrite (2 ^ 32), .statusSlotReceived 0 0 ⟨2 ^ 56, 0⟩ 0 0 0 0, .statusSlotReceived 0 16 ⟨0, 0⟩ 0 0 0 0, .faultCauseCleared .time ⟨0x10000, 0, 0⟩,
    .gladeResetExit 11, .clkEdgeTimeout (.glade 44), .statusRead 2 true, .statusRead (2 ^ 24) true, .registerWrite .spi 0 0 16 true, .laneEnable 116, .ringEnSet 96, .hold 1536,
    .loopSample 32, .pwmEnable 16, .posEnable 2, .devidWrite (2 ^ 32), .canopyPortUp 4, .pxEndw 27, .pxMulq16 0 32 0 0, .dispatch 512 0, .bufferMoveDone 1024,
    .sessionRto 256, .discTimeout 12, .garnetPduSend 32, .operandPost 1024 0 0, .operandPost 0 8 0, .svStreamTimeout 256, .nvmRefresh 2048 .clean, .store 4, .groveClockStep 3], c.wf = false := by
  decide

theorem wf_refuses_structures : ∀ c ∈ [Instr.bootVerifyComplete true 256 true, .clkFreqWindow (.glade 20) 0, .faultEvent (some { timeEvent with req := .atLeast 5 }),
    .faultEvent (some { timeEvent with unit := 0x10000 }), .registerWrite (.core 0 512) 0 0 15 true, .bufferMoveStart 0 (.grove 3 0), .bufferMoveStart 0 (.device (2 ^ 24)),
    .bufferMoveStart 0 (.sram 0 0x10000), .markerSetReceived 0 [{ lane := 4, port := 0, device := 0, seq := 0, atBlk := 0 }], .dataReceived 0 (msgTo 16 0), .dataReceived 0 (msgTo 0 16),
    .ethFrameReceived 0 { size := 64, etype := 0x10000, fcsOk := true, srcMac := 0, red := .none },
    .svFrameReceived { port := 0, srcMac := 0, red := .none, dst := 2 ^ 48, appid := 0, svid := [], sim := false, asdus := [] },
    .gooseFrameReceived { port := 0, srcMac := 0, red := .none, dst := 0, appid := 0x10000, gocbRef := [], datSet := [], confRev := 0, ndsCom := false, sim := false, test := false, stNum := 0, sqNum := 0, talMs := 0, members := [] },
    .frameReturn 0 { h0 := 2 ^ 56, h1 := 0, body := [], crc := none, rtPs := 0 }, .enumFrameReturn 0 ⟨0, 0⟩ { body := List.replicate 97 0, crc := none, rtPs := 0 },
    .serviceFrameReturn 0 { h0 := 0, h1 := 0, body := [], crc := some (2 ^ 64), rtPs := 0 }, .canopyMessageReceived 0 [[], [], []], .canopyMessageReceived 0 [[(0, 2 ^ 64)], [], [], []],
    .probeComplete 0 ⟨[], 0, []⟩, .crossScanDone 0 [] [], .safeLogicCycle (checksOk 16 0),
    .imageApply { emptyImage with tasks := [{ oneTask with prio := 4 }] }, .imageApply { emptyImage with boards := [{ bus := 0, btype := 0, first := 0, cnt := 0 }] },
    .imageApply { emptyImage with buffers := [{ handle := 0, size := 4, kind := .placed, ckpt := false, loc := .device 0 }] }, .imageApply { emptyImage with regs := [(2, 0)] }], c.wf = false := by decide

theorem wf_refuses_single_ranges : ∀ c ∈ [Instr.supplyExcursion 0, .boardIdentify 0 (List.replicate 33 0), .sfpIdentify 0 (some 256), .rwtVoteDisagree 0 32 0 0 0, .spiRead (2 ^ 24) 1 true,
    .memoryScrub (2 ^ 33) .clean, .cycleStart [96], .repeatFrameStart ⟨0, [2 ^ 64]⟩, .ringForeignFrame 0 2, .adcBurstDone 0 [65536], .servoOffset 4 0, .prpEntryExpired 0 0 65536, .sfpReadDone 0 16 0,
    .safeInputSample 4096 0 none true true, .twohandSyncTimeout 6, .dbgChal [], .spiDwrite ⟨256, [], true⟩, .linkParityError 0 1 ⟨0x10000, none⟩ false, .linkParityError 0 1 ⟨0, some 2⟩ true, .imageVerifyDone 2,
    .faultCauseCleared .net ⟨0x0710, 2 ^ 32, 0⟩], c.wf = false := by decide

theorem wf_accepts : ∀ c ∈ [Instr.recIdxWrite (2 ^ 32 - 1), .gladeResetExit 43, .statusRead 0xC0010 true, .laneEnable 115, .hold 1535, .dataReceived 0 (msgTo 15 15), .nvmRefresh 2047 .clean,
    .imageApply { emptyImage with tasks := [oneTask] }, .faultEvent (some timeEvent)], c.wf = true := by decide

end Sys2Proof.Tests
end

section
namespace Sys2Proof.Machine

/-! ## What every step keeps

One rule for each function that makes a state, in the order of the model's files: it goes on from a state that keeps `s₀` to one that does.
-/

/-- `Keeps s₀ s`: the state `s`, which operations have made from `s₀`, has the same queue and the same variant; device time is still in the 96
bits of R8, and the stores still have their canonical form. -/
structure Keeps (s₀ s : State) : Prop where
  pending : s.pending = s₀.pending
  variant : s.variant = s₀.variant
  time : s₀.time < 2 ^ 96 → s.time < 2 ^ 96
  canonical : s₀.canonical = true → s.canonical = true

variable {s₀ s : State}

theorem Keeps.refl (s : State) : Keeps s s := ⟨rfl, rfl, id, id⟩

theorem Keeps.ite {c : Prop} [Decidable c] {t : State} (hs : Keeps s₀ s) (ht : Keeps s₀ t) : Keeps s₀ (if c then s else t) := by
  split <;> assumption

theorem Keeps.thenIf {c : Prop} [Decidable c] {t : State} (h : Keeps s₀ s) (k : Keeps s₀ s → Keeps s₀ t) : Keeps s₀ (if c then t else s) :=
  .ite (k h) h

theorem Keeps.elseIf {c : Prop} [Decidable c] {t : State} (h : Keeps s₀ s) (k : Keeps s₀ s → Keeps s₀ t) : Keeps s₀ (if c then s else t) :=
  .ite h (k h)

theorem Keeps.foldl {β : Type} {f : State → β → State} {l : List β} (h : Keeps s₀ s) (hf : ∀ {x n}, Keeps s₀ x → Keeps s₀ (f x n)) :
    Keeps s₀ (l.foldl f s) :=
  List.foldlRecOn l f h fun _ hx _ _ => hf hx

theorem Keeps.forAll {l : List Nat} {f : Nat → State → State} (h : Keeps s₀ s) (hf : ∀ {n x}, Keeps s₀ x → Keeps s₀ (f n x)) :
    Keeps s₀ (forAll l f s) :=
  h.foldl hf

/-- What neither the queue, the variant, the register store, the memory nor device time takes part in. -/
theorem Keeps.update {conds memBad : List Nat} {elapsed free : Nat} {glades : Tab GladeSt} {flt : FltSt} {host : HostSt} {arm : ArmSt}
    {rank : RankSt} {enc : EncSt} {rings : Tab RingSt} {lanes : Tab LaneSt} {loops : Tab LoopSt} {servo : ServoSt} {net : NetSt} {pwm : PwmSt}
    {poss : Tab PosSt} {adcs : Tab AdcSt} {sched : SchedSt} {sec : SecSt} {nvm : NvmSt} {age : AgeSt} {canopy : CanopySt} {amber : AmberSt}
    {safe : SafeSt} (h : Keeps s₀ s) :
    Keeps s₀ { s with
      conds, memBad, elapsed, free, glades, flt, host, arm, rank, enc, rings, lanes, loops, servo, net, pwm, poss, adcs, sched, sec, nvm, age,
      canopy, amber, safe } :=
  ⟨h.pending, h.variant, h.time, h.canonical⟩

theorem Keeps.setRegs {regs : List (Nat × Nat)} (h : Keeps s₀ s) (hr : keysRise none s.regs = true → keysRise none regs = true) :
    Keeps s₀ { s with regs } := by
  refine ⟨h.pending, h.variant, h.time, fun hc => ?_⟩
  obtain ⟨hm, hk⟩ := State.canonical_iff.mp (h.canonical hc)
  exact State.canonical_iff.mpr ⟨hm, hr hk⟩

theorem Keeps.setMem {mem : Memory} (h : Keeps s₀ s) (hm : s.mem.wf = true → mem.wf = true) : Keeps s₀ { s with mem } := by
  refine ⟨h.pending, h.variant, h.time, fun hc => ?_⟩
  obtain ⟨hw, hk⟩ := State.canonical_iff.mp (h.canonical hc)
  exact State.canonical_iff.mpr ⟨hm hw, hk⟩

/-- Device time wraps at 64 bits of ns (R8). -/
theorem Keeps.wrapTime {t elapsed : Nat} (h : Keeps s₀ s) : Keeps s₀ { s with time := t % 2 ^ 96, elapsed } :=
  ⟨h.pending, h.variant, fun _ => Nat.mod_lt _ (Nat.two_pow_pos 96), h.canonical⟩

theorem Keeps.put {F : Field} {v : Nat} (h : Keeps s₀ s) : Keeps s₀ (s.put F v) :=
  ⟨h.pending, h.variant, h.time, fun hc => put_canonical (h.canonical hc) F v⟩

/-! ## Ops -/

theorem Keeps.putS {F : Field} {i : ℤ} (h : Keeps s₀ s) : Keeps s₀ (s.putS F i) := h.put
theorem Keeps.addTo {F : Field} {n : Nat} (h : Keeps s₀ s) : Keeps s₀ (s.addTo F n) := h.put
theorem Keeps.addSat {F : Field} {n : Nat} (h : Keeps s₀ s) : Keeps s₀ (s.addSat F n) := h.put

theorem Keeps.putAll {l : List (Field × Nat)} (h : Keeps s₀ s) : Keeps s₀ (s.putAll l) := by
  induction l generalizing s with
  | nil => exact h
  | cons e t ih =>
    obtain ⟨F, v⟩ := e
    exact ih h.put

theorem Keeps.forward {d : Nat} (h : Keeps s₀ s) : Keeps s₀ (s.forward d) := h.wrapTime
theorem Keeps.reach {t : Nat} (h : Keeps s₀ s) : Keeps s₀ (s.reach t) := h.forward
theorem Keeps.reachOfs {ofs : Nat} (h : Keeps s₀ s) : Keeps s₀ (s.reachOfs ofs) := h.forward
theorem Keeps.setGlade {g : Nat} {x : GladeSt} (h : Keeps s₀ s) : Keeps s₀ (s.setGlade g x) := h.update

theorem Keeps.pass {e : Nat} (h : Keeps s₀ s) : Keeps s₀ (s.pass e) := by
  unfold State.pass
  split
  · exact h.wrapTime
  · exact h.update

theorem Keeps.post {e : Event} (h : Keeps s₀ s) : Keeps s₀ (s.post e) := h.update
theorem Keeps.unpost {e : Event} (h : Keeps s₀ s) : Keeps s₀ (s.unpost e) := h.update
theorem Keeps.event {c : FaultClass} {unit aux : Nat} (h : Keeps s₀ s) : Keeps s₀ (s.event c unit aux) := h.post
theorem Keeps.eventOpen {c : FaultClass} {unit aux : Nat} (h : Keeps s₀ s) : Keeps s₀ (s.eventOpen c unit aux) := h.post
theorem Keeps.eventAt {c : FaultClass} {unit aux l : Nat} (h : Keeps s₀ s) : Keeps s₀ (s.eventAt c unit aux l) := h.post
theorem Keeps.eventFence {c : FaultClass} {unit : Nat} (h : Keeps s₀ s) : Keeps s₀ (s.eventFence c unit) := h.post
theorem Keeps.event0 {c : FaultClass} {unit aux : Nat} (h : Keeps s₀ s) : Keeps s₀ (s.event0 c unit aux) := h.post
theorem Keeps.config {addr : Nat} (h : Keeps s₀ s) : Keeps s₀ (s.config addr) := h.event0
theorem Keeps.configOnce {s0 : State} {addr : Nat} (h : Keeps s₀ s) : Keeps s₀ (s0.configOnce addr s) := h.elseIf (·.config)

theorem Keeps.takenBy {g addr : Nat} {deliver : State → State} (h : Keeps s₀ s) (hdeliver : ∀ {x}, Keeps s₀ x → Keeps s₀ (deliver x)) :
    Keeps s₀ (s.takenBy g addr deliver) :=
  Keeps.ite h.config (Keeps.ite (hdeliver h) h)

theorem Keeps.discardWrites {g n : Nat} (h : Keeps s₀ s) : Keeps s₀ (s.discardWrites g n) := h.update

theorem Keeps.overLink {a b : Nat} {deliver : State → State} (h : Keeps s₀ s) (hdeliver : ∀ {x}, Keeps s₀ x → Keeps s₀ (deliver x)) :
    Keeps s₀ (s.overLink a b deliver) :=
  Keeps.ite h.discardWrites (hdeliver h)

theorem Keeps.gatedWrite {a addr g : Nat} {deliver : State → State} (h : Keeps s₀ s) (hdeliver : ∀ {x}, Keeps s₀ x → Keeps s₀ (deliver x)) :
    Keeps s₀ (s.gatedWrite a addr g deliver) :=
  Keeps.ite h.discardWrites (h.takenBy hdeliver)

theorem Keeps.commandedFrom {a addr : Nat} {deliver : State → State} (h : Keeps s₀ s) (hdeliver : ∀ {x}, Keeps s₀ x → Keeps s₀ (deliver x)) :
    Keeps s₀ (s.commandedFrom a addr deliver) := by
  unfold State.commandedFrom
  split
  · exact h
  · split
    · exact h.thenIf (·.config)
    · split
      · exact h
      · exact h.gatedWrite hdeliver

theorem Keeps.commanded {addr : Nat} {deliver : State → State} (h : Keeps s₀ s) (hdeliver : ∀ {x}, Keeps s₀ x → Keeps s₀ (deliver x)) :
    Keeps s₀ (s.commanded addr deliver) :=
  h.commandedFrom hdeliver

/-! ## Flags -/

theorem Keeps.signal {old : State} (h : Keeps s₀ s) : Keeps s₀ (s.signal old) := h.update

theorem Keeps.raise {F : Field} (h : Keeps s₀ s) : Keeps s₀ (s.raise F) := by
  unfold State.raise
  extract_lets s1
  have h1 : Keeps s₀ s1 := h.put
  split
  · exact h1
  · extract_lets s2
    have h2 : Keeps s₀ s2 := by
      unfold s2
      split
      · exact h1.put
      · exact h1
    exact Keeps.ite h2.signal h1

theorem Keeps.unpend {F : Field} (h : Keeps s₀ s) : Keeps s₀ (s.unpend F) := by
  unfold State.unpend
  split
  · exact h.put
  · exact h

theorem Keeps.unraise {b : BitsBack} (h : Keeps s₀ s) : Keeps s₀ (s.unraise b) := (h.foldl (·.put.elseIf (·.unpend))).update
theorem Keeps.raiseWith {F : Field} {e : Event} (h : Keeps s₀ s) : Keeps s₀ (s.raiseWith F e).2 := h.raise.post
theorem Keeps.unraiseWith {b : RaiseBack} (h : Keeps s₀ s) : Keeps s₀ (s.unraiseWith b) := h.unraise.unpost
theorem Keeps.flagIf {b : Bool} {F : Field} (h : Keeps s₀ s) : Keeps s₀ (s.flagIf b F) := h.thenIf (·.raise)

theorem Keeps.cond {F : Field} {b : Bool} (h : Keeps s₀ s) : Keeps s₀ (s.cond F b) := by
  unfold State.cond
  extract_lets s1
  have h1 : Keeps s₀ s1 := h.update
  split
  · exact h.elseIf (·.update.raise)
  · split
    · exact h1
    · exact h1.put

/-! ## Records -/

theorem Keeps.setRec {i : Nat} {r : SmRec} (h : Keeps s₀ s) : Keeps s₀ (s.setRec i r) := h.update
theorem Keeps.setProt {i : Nat} {p : SmProt} (h : Keeps s₀ s) : Keeps s₀ (s.setProt i p) := h.update
theorem Keeps.setRing {n : Nat} {r : RingSt} (h : Keeps s₀ s) : Keeps s₀ (s.setRing n r) := h.update
theorem Keeps.observe {tk : Nat} (h : Keeps s₀ s) : Keeps s₀ (s.observe tk) := h.forAll Keeps.setRec
theorem Keeps.takeReport {i : Nat} {rep : Report} (h : Keeps s₀ s) : Keeps s₀ (s.takeReport i rep) := h.setRec
theorem Keeps.ageLimitEffect {i : Nat} (h : Keeps s₀ s) : Keeps s₀ (ageLimitEffect i s) := h.thenIf (·.setRec.thenIf (·.addTo.raise))
theorem Keeps.keySaveEffect (h : Keeps s₀ s) : Keeps s₀ (keySaveEffect s) := .ite h (h.forAll Keeps.setRing).update.put
theorem Keeps.keySaveDoneEffect (h : Keeps s₀ s) : Keeps s₀ (keySaveDoneEffect s) := h.thenIf (·.update.put.raise)
theorem Keeps.latchRec {i : Nat} (h : Keeps s₀ s) : Keeps s₀ (s.latchRec i) := .ite h.put.putAll h.put.putAll
theorem Keeps.smIdxEffect {v : Nat} (h : Keeps s₀ s) : Keeps s₀ (smIdxEffect v s) := h.thenIf (·.latchRec)

/-! ## Fabric -/

theorem Keeps.setPort {p : Nat} {x : PortSt} (h : Keeps s₀ s) : Keeps s₀ (s.setPort p x) := h.update
theorem Keeps.enqueue {p cls : Nat} {m : CMsg} (h : Keeps s₀ s) : Keeps s₀ (s.enqueue p cls m) := h.setPort

theorem Keeps.sendMsg {cls : Nat} {m : CMsg} (h : Keeps s₀ s) : Keeps s₀ (s.sendMsg cls m) := by
  unfold State.sendMsg
  split
  · exact h.enqueue
  · exact h

theorem Keeps.setSess {k : Nat} {x : SessSt} (h : Keeps s₀ s) : Keeps s₀ (s.setSess k x) := h.update.put
theorem Keeps.ackMsg {m : CMsg} {res : Nat} (h : Keeps s₀ s) : Keeps s₀ (s.ackMsg m res) := h.sendMsg

theorem Keeps.unAck {m : CMsg} {res : Nat} (h : Keeps s₀ s) : Keeps s₀ (s.unAck m res) := by
  unfold State.unAck
  split
  · exact h.setPort
  · exact h

/-! ## SchedOps -/

theorem Keeps.useFree {n : Nat} (h : Keeps s₀ s) : Keeps s₀ (s.useFree n) := h.update
theorem Keeps.setTask {t : Nat} {x : TaskSt} (h : Keeps s₀ s) : Keeps s₀ (s.setTask t x) := h.update

theorem Keeps.modTask {t : Nat} {f : TaskSt → TaskSt} (h : Keeps s₀ s) : Keeps s₀ (s.modTask t f) := by
  unfold State.modTask
  split
  · exact h.setTask
  · exact h

theorem Keeps.setCore {u : Nat} {c : CoreSt} (h : Keeps s₀ s) : Keeps s₀ (s.setCore u c) := h.update
theorem Keeps.setFill {tag : Nat} {ops : Tab Nat} (h : Keeps s₀ s) : Keeps s₀ (s.setFill tag ops) := h.update
theorem Keeps.setStalls {l : List Stalled} (h : Keeps s₀ s) : Keeps s₀ (s.setStalls l) := h.update
theorem Keeps.setBufs {l : List BufSt} (h : Keeps s₀ s) : Keeps s₀ (s.setBufs l) := h.update
theorem Keeps.taskEvent {t : Nat} (h : Keeps s₀ s) : Keeps s₀ (s.taskEvent t) := h.event

theorem Keeps.postFlagsTo {f t : Nat} (h : Keeps s₀ s) : Keeps s₀ (s.postFlagsTo f t) := by
  unfold State.postFlagsTo
  split
  · exact h
  · exact h.thenIf (·.setTask.thenIf (·.addTo))

theorem Keeps.postToLoop {f k : Nat} (h : Keeps s₀ s) : Keeps s₀ (s.postToLoop f k) := h.thenIf (·.update)
theorem Keeps.postToAdc {f c : Nat} (h : Keeps s₀ s) : Keeps s₀ (s.postToAdc f c) := h.thenIf (·.update)

theorem Keeps.postFlags {f : Nat} (h : Keeps s₀ s) : Keeps s₀ (s.postFlags f) :=
  .ite (((h.forAll Keeps.postFlagsTo).forAll Keeps.postToLoop).forAll Keeps.postToAdc) h

theorem Keeps.postFlag {j : Nat} (h : Keeps s₀ s) : Keeps s₀ (s.postFlag j) := h.postFlags

theorem Keeps.unpostFlag {b : FlagBack} (h : Keeps s₀ s) : Keeps s₀ (s.unpostFlag b) := by
  unfold State.unpostFlag
  extract_lets
  split
  · exact h
  · exact (((h.foldl Keeps.modTask).forAll Keeps.update).forAll Keeps.update).addTo

theorem Keeps.postCycleFlag (h : Keeps s₀ s) : Keeps s₀ s.postCycleFlag := .ite h.postFlag.update h.update

theorem Keeps.cycleFlagAgain (h : Keeps s₀ s) : Keeps s₀ s.cycleFlagAgain := by
  unfold State.cycleFlagAgain
  split
  · exact h
  · exact h.thenIf (·.unpostFlag.postCycleFlag)

theorem Keeps.postFlagFrom {g j : Nat} (h : Keeps s₀ s) : Keeps s₀ (s.postFlagFrom g j) := h.overLink Keeps.postFlag

theorem Keeps.delivered {k : Nat} {x : SessSt} {m : CMsg} (h : Keeps s₀ s) : Keeps s₀ (s.delivered k x m) := by
  unfold State.delivered
  extract_lets late s1 s2
  have h1 : Keeps s₀ s1 := h.setSess.flagIf
  have h2 : Keeps s₀ s2 := by
    unfold s2
    split
    · exact h1.postFlagFrom
    · exact h1
  exact h2.ackMsg

theorem Keeps.heldWord {k : Nat} {ok : Bool} (h : Keeps s₀ s) : Keeps s₀ (s.heldWord k ok) := by
  unfold State.heldWord
  split
  · exact h
  · split
    · exact h
    · exact Keeps.ite h.setSess (Keeps.ite h.delivered h.setSess.ackMsg)

theorem Keeps.fillUpdate (h : Keeps s₀ s) : Keeps s₀ s.fillUpdate := h.put.put

theorem Keeps.fillOperand {t : Nat} {x : TaskSt} {tag idx v : Nat} (h : Keeps s₀ s) : Keeps s₀ (s.fillOperand t x tag idx v) :=
  .ite h.setFill.setTask.fillUpdate h.setFill.fillUpdate

theorem Keeps.postOperandAt {again : Bool} {o : Stalled} (h : Keeps s₀ s) : Keeps s₀ (s.postOperandAt again o).1 := by
  unfold State.postOperandAt
  extract_lets s1
  have h1 : Keeps s₀ s1 := h.setStalls
  split
  · exact h.addTo.raise.event0
  · split
    · exact h.addTo.raise.event0
    · split
      · dsimp only
        exact h.setFill.addTo.raise
      · split
        · exact h1.elseIf (·.raise)
        · exact h.fillOperand

theorem Keeps.setX {u r v : Nat} (h : Keeps s₀ s) : Keeps s₀ (s.setX u r v) := h.elseIf (·.setCore)

theorem Keeps.postReply {dest : Option (Nat × Nat)} {r : PostResult} (h : Keeps s₀ s) : Keeps s₀ (s.postReply dest r) := by
  unfold State.postReply
  split
  · exact h.setX
  · exact h.setX
  · exact h
  · exact h

theorem Keeps.postAnswer {o : Stalled} {r : PostResult} (h : Keeps s₀ s) : Keeps s₀ (s.postAnswer o r) := by
  unfold State.postAnswer
  split
  · exact h.postReply.heldWord
  · exact h.postReply.heldWord
  · exact h
  · exact h.postReply

theorem Keeps.postStalled {again : Bool} {o : Stalled} (h : Keeps s₀ s) : Keeps s₀ (s.postStalled again o) := h.postOperandAt.postAnswer
theorem Keeps.postOperand {tag idx v : Nat} (h : Keeps s₀ s) : Keeps s₀ (s.postOperand tag idx v) := h.thenIf (·.postStalled)

theorem Keeps.postOperandFrom {g tag idx v : Nat} (h : Keeps s₀ s) : Keeps s₀ (s.postOperandFrom g tag idx v) :=
  h.overLink Keeps.postOperand

theorem Keeps.dropOperand {o : Stalled} (h : Keeps s₀ s) : Keeps s₀ (s.dropOperand o) := h.postAnswer.addTo.raise.update.post

theorem Keeps.unheld {d : DropBack} (h : Keeps s₀ s) : Keeps s₀ (s.unheld d) := by
  unfold State.unheld
  split
  · extract_lets s1
    have h1 : Keeps s₀ s1 := h.thenIf (·.unAck)
    split
    · exact h1.setSess
    · exact h1
  · exact h
  · exact h

theorem Keeps.undrop (h : Keeps s₀ s) : Keeps s₀ s.undrop := by
  unfold State.undrop
  split
  · exact h
  · exact h.thenIf (·.unpost.unraise.put.unheld.update)

theorem Keeps.drainStalls (h : Keeps s₀ s) : Keeps s₀ s.drainStalls :=
  (h.undrop.setStalls.foldl (fun hx => Keeps.ite hx.dropOperand hx.postStalled)).fillUpdate

theorem Keeps.clearBad {a n : Nat} (h : Keeps s₀ s) : Keeps s₀ (s.clearBad a n) := h.update
theorem Keeps.eccRead {a n unit : Nat} (h : Keeps s₀ s) : Keeps s₀ (s.eccRead a n unit) := h.foldl Keeps.event

theorem Keeps.writeBytes {n : Nat} {bs : List Byte} (h : Keeps s₀ s) : Keeps s₀ (s.writeBytes n bs) := by
  unfold State.writeBytes
  extract_lets s1
  have h1 : Keeps s₀ s1 := h.clearBad
  split
  · exact h1.setMem fun hm => Memory.writeN_wf hm n bs
  · exact (h1.setMem fun hm => Memory.foldl_write_wf hm _ _ _).foldl Keeps.event

theorem Keeps.writeWords {a : Nat} {ws : List Nat} (h : Keeps s₀ s) : Keeps s₀ (s.writeWords a ws) := h.writeBytes
theorem Keeps.writeFrom {g a : Nat} {bs : List Byte} (h : Keeps s₀ s) : Keeps s₀ (s.writeFrom g a bs) := h.overLink Keeps.writeBytes

theorem Keeps.readEcc {a n : Nat} (h : Keeps s₀ s) : Keeps s₀ (s.readEcc a n).2 := by
  unfold State.readEcc
  split
  · exact h
  · exact h.eccRead.useFree

theorem Keeps.readFrom {g a n : Nat} (h : Keeps s₀ s) : Keeps s₀ (s.readFrom g a n).2 := by
  unfold State.readFrom
  split
  · exact h
  · exact h.readEcc

theorem Keeps.zeroMem {a n : Nat} (h : Keeps s₀ s) : Keeps s₀ (s.zeroMem a n) :=
  (h.setMem fun hm => Memory.zeroN_wf hm a n).clearBad

theorem Keeps.eccCopy {src n dst unit : Nat} (h : Keeps s₀ s) : Keeps s₀ (s.eccCopy src n dst unit) :=
  (h.setMem fun hm => Memory.copyN_wf hm src n dst).clearBad.eccRead.foldl (·.writeBytes.useFree)

theorem Keeps.traceWrite {ws : List Nat} (h : Keeps s₀ s) : Keeps s₀ (s.traceWrite ws) :=
  .ite (Keeps.ite h.addTo.raise (h.update.writeFrom.put.thenIf (·.put))) h

theorem Keeps.traceItem {typ u hi : Nat} {w : WorkItem} (h : Keeps s₀ s) : Keeps s₀ (s.traceItem typ u hi w) := h.traceWrite
theorem Keeps.traceBufs (h : Keeps s₀ s) : Keeps s₀ s.traceBufs := h.thenIf (·.foldl Keeps.traceWrite)
theorem Keeps.traceBoundary (h : Keeps s₀ s) : Keeps s₀ s.traceBoundary := h.thenIf (·.update.traceBufs)

theorem Keeps.startItem {u : Nat} (h : Keeps s₀ s) : Keeps s₀ (s.startItem u) := by
  unfold State.startItem
  extract_lets
  split
  · exact h.thenIf (·.setCore.useFree.modTask)
  · exact h
  · exact h

theorem Keeps.returnStaged {u : Nat} (h : Keeps s₀ s) : Keeps s₀ (s.returnStaged u) := by
  unfold State.returnStaged
  extract_lets
  split
  · exact h
  · exact h.setCore.modTask

theorem Keeps.dpLost {hd ofs unit : Nat} (h : Keeps s₀ s) : Keeps s₀ (s.dpLost hd ofs unit) := h.put.put.addTo.raise.event

theorem Keeps.dpLand {hd : Nat} {dest : BufLoc} (h : Keeps s₀ s) : Keeps s₀ (s.dpLand hd dest) := by
  unfold State.dpLand
  extract_lets l whole bad _ s1 s2
  have h1 : Keeps s₀ s1 := (h.setMem fun hm => Memory.foldl_write_wf hm _ _ _).update
  have h2 : Keeps s₀ s2 := h1.foldl Keeps.dpLost
  split
  · exact h2.put.update
  · exact h2

theorem Keeps.loseBuffers {unit : Nat} (h : Keeps s₀ s) : Keeps s₀ (s.loseBuffers unit) := h.setBufs.foldl Keeps.dpLand

theorem Keeps.retireWorn {u : Nat} (h : Keeps s₀ s) : Keeps s₀ (s.retireWorn u) :=
  h.thenIf (·.returnStaged.update.setCore.raise.loseBuffers)

theorem Keeps.endItem {u : Nat} (h : Keeps s₀ s) : Keeps s₀ (s.endItem u) := h.setStalls.setCore.retireWorn.startItem
theorem Keeps.trap {u cause pc tval : Nat} (h : Keeps s₀ s) : Keeps s₀ (s.trap u cause pc tval) := h.thenIf (·.setCore.useFree)

theorem Keeps.abortItem {u cause pc tval : Nat} (h : Keeps s₀ s) : Keeps s₀ (s.abortItem u cause pc tval) := by
  unfold State.abortItem
  split
  · exact h
  · extract_lets s1 s2 s3 s4
    have h1 : Keeps s₀ s1 := h.putAll
    have h2 : Keeps s₀ s2 := h1.raise.modTask
    have h3 : Keeps s₀ s3 := h2.thenIf (·.traceItem)
    have h4 : Keeps s₀ s4 := Keeps.ite h3.raise.taskEvent (Keeps.ite h3.taskEvent (h3.thenIf (·.event)))
    exact h4.trap.endItem

theorem Keeps.abortFree {u cause : Nat} (h : Keeps s₀ s) : Keeps s₀ (s.abortFree u cause) := h.abortItem.useFree

theorem Keeps.pageFault {w : Writer} (h : Keeps s₀ s) : Keeps s₀ (s.pageFault w) := by
  unfold State.pageFault
  split
  · exact h.abortFree
  · exact h
  · exact h

theorem Keeps.granted {w : Writer} {addr : Nat} {f : State → State} (h : Keeps s₀ s) (hf : ∀ {x}, Keeps s₀ x → Keeps s₀ (f x)) :
    Keeps s₀ (s.granted w addr f) :=
  Keeps.ite (hf h) h.pageFault

theorem Keeps.dropStaged {t : Nat} {ok : WorkItem → Bool} (h : Keeps s₀ s) : Keeps s₀ (s.dropStaged t ok) := by
  unfold State.dropStaged
  refine h.forAll fun hx => ?_
  extract_lets c a1
  have h_a1 : Keeps s₀ a1 := hx.setCore
  split
  · exact Keeps.ite (h_a1.thenIf (·.modTask)) hx
  · exact hx

theorem Keeps.fenceTask {cls t : Nat} (h : Keeps s₀ s) : Keeps s₀ (s.fenceTask cls t) := by
  unfold State.fenceTask
  extract_lets _ s'
  have h_s' : Keeps s₀ s' := h.update
  split
  · exact h_s'
  · extract_lets s1 _ s2 s3
    have h1 : Keeps s₀ s1 := h_s'.setTask
    have h2 : Keeps s₀ s2 := h1.update
    have h3 : Keeps s₀ s3 := by
      unfold s3
      refine h2.dropStaged.forAll fun hx => ?_
      split
      · exact hx.thenIf (·.abortFree)
      · exact hx
    exact h3.raise.drainStalls

theorem Keeps.unfenceTask {t : Nat} (h : Keeps s₀ s) : Keeps s₀ (s.unfenceTask t) := h.modTask

theorem Keeps.unstart {u : Nat} (h : Keeps s₀ s) : Keeps s₀ (s.unstart u) := by
  unfold State.unstart
  extract_lets
  split
  · exact h.thenIf (·.setCore)
  · exact h
  · exact h

theorem Keeps.fenceCore {u : Nat} (h : Keeps s₀ s) : Keeps s₀ (s.fenceCore u) :=
  h.unstart.returnStaged.abortFree.setCore.raise.loseBuffers

/-! ## LifeLog -/

theorem Keeps.lifeRecord {t : LifeType} {measure unit before after : Nat} (h : Keeps s₀ s) :
    Keeps s₀ (s.lifeRecord t measure unit before after) := by
  unfold State.lifeRecord
  extract_lets i ws s1 s2
  have h1 : Keeps s₀ s1 := h.writeWords.put
  have h2 : Keeps s₀ s2 := h1.thenIf (·.put)
  split
  · exact h2.raise
  · exact h2.raise
  · exact h2.raise
  · exact h2.raise
  · exact h2
  · exact h2

/-! ## PairLink -/

theorem Keeps.portDown {p : Nat} (h : Keeps s₀ s) : Keeps s₀ (s.portDown p) := h.thenIf (·.setPort.put.raise.eventOpen)
theorem Keeps.portPeer {p : Nat} (h : Keeps s₀ s) : Keeps s₀ (s.portPeer p) := h.putAll.flagIf.flagIf
theorem Keeps.peerAgain {p : Nat} (h : Keeps s₀ s) : Keeps s₀ (s.peerAgain p) := h.thenIf (·.portPeer.thenIf (·.portDown))
theorem Keeps.pairSend {cls : Nat} {m : CMsg} (h : Keeps s₀ s) : Keeps s₀ (s.pairSend cls m) := h.thenIf (·.enqueue)
theorem Keeps.putWord {fs : List Field} {addr v : Nat} (h : Keeps s₀ s) : Keeps s₀ (s.putWord fs addr v) := h.putAll
theorem Keeps.regionCheck (h : Keeps s₀ s) : Keeps s₀ s.regionCheck := h.thenIf (·.putAll.cond.update.thenIf (·.eventOpen))
theorem Keeps.sendStatic (h : Keeps s₀ s) : Keeps s₀ s.sendStatic := h.thenIf (·.foldl Keeps.pairSend)
theorem Keeps.topologyChanged (h : Keeps s₀ s) : Keeps s₀ s.topologyChanged := h.thenIf (·.update.regionCheck.sendStatic)

theorem Keeps.ckSent {p : Nat} (h : Keeps s₀ s) : Keeps s₀ (s.ckSent p) := by
  unfold State.ckSent
  extract_lets
  split
  · exact h.thenIf (·.update.putAll)
  · exact h
  · exact h

theorem Keeps.staticAgain {p : Nat} (h : Keeps s₀ s) : Keeps s₀ (s.staticAgain p) := h.thenIf (·.sendStatic)

/-! ## Select -/

theorem Keeps.decideSign (h : Keeps s₀ s) : Keeps s₀ s.decideSign := h.elseIf (·.update)

theorem Keeps.selReport {S : LevelSets} {r : SelResult} {dead : Bool} (h : Keeps s₀ s) : Keeps s₀ (s.selReport S r dead) :=
  h.useFree.putAll.addTo.addTo.addTo.flagIf.flagIf.flagIf.flagIf.flagIf.flagIf

theorem Keeps.markRecs {groups : List (Nat × Nat)} (h : Keeps s₀ s) : Keeps s₀ (s.markRecs groups) := h.forAll Keeps.setRec
theorem Keeps.select (h : Keeps s₀ s) : Keeps s₀ s.select := h.decideSign.selReport.markRecs.update
theorem Keeps.selAgain (h : Keeps s₀ s) : Keeps s₀ s.selAgain := h.thenIf (·.putAll.select)

/-! ## Protect -/

theorem Keeps.protConds (h : Keeps s₀ s) : Keeps s₀ s.protConds := h.cond.cond
theorem Keeps.requestFire {i : Nat} (h : Keeps s₀ s) : Keeps s₀ (s.requestFire i) := h.elseIf (·.setProt)
theorem Keeps.leakBegin (h : Keeps s₀ s) : Keeps s₀ s.leakBegin := ((h.forAll Keeps.setProt).forAll Keeps.setProt).update.put.put
theorem Keeps.leakCheckEnd (h : Keeps s₀ s) : Keeps s₀ s.leakCheckEnd := h.thenIf (·.update.addTo.raise.put.thenIf (·.leakBegin))

theorem Keeps.leakResult {i k res code : Nat} (h : Keeps s₀ s) : Keeps s₀ (s.leakResult i k res code) :=
  h.thenIf (·.setProt.event.raise.addSat)

theorem Keeps.leakReport {i : Nat} {full : Bool} {rep : Report} (h : Keeps s₀ s) : Keeps s₀ (s.leakReport i full rep) :=
  .ite h (h.forAll Keeps.leakResult).setProt.leakCheckEnd

theorem Keeps.leakLeave {n : Nat} (h : Keeps s₀ s) : Keeps s₀ (s.leakLeave n) := (h.forAll (·.thenIf (·.setProt))).leakCheckEnd

theorem Keeps.fbpReport {i : Nat} {rep : Report} (h : Keeps s₀ s) : Keeps s₀ (s.fbpReport i rep) :=
  .ite (h.setProt.elseIf (·.raise.leakCheckEnd)) h.setProt

theorem Keeps.clearReport {i : Nat} {rep : Report} (h : Keeps s₀ s) : Keeps s₀ (s.clearReport i rep) :=
  h.thenIf (·.setProt.elseIf (·.raise))

theorem Keeps.legsFire {i : Nat} {full : Bool} (h : Keeps s₀ s) : Keeps s₀ (s.legsFire i full) := h.thenIf (·.raise.requestFire)

theorem Keeps.newDesat {i : Nat} {full : Bool} {rep : Report} (h : Keeps s₀ s) : Keeps s₀ (s.newDesat i full rep) :=
  (h.setProt.post.raise.addTo.putAll.update.thenIf (·.raise.post)).legsFire

theorem Keeps.desatReport {i : Nat} {full : Bool} {rep : Report} (h : Keeps s₀ s) : Keeps s₀ (s.desatReport i full rep) :=
  .ite h.newDesat h.setProt

theorem Keeps.uvReport {i : Nat} {rep : Report} (h : Keeps s₀ s) : Keeps s₀ (s.uvReport i rep) := (h.setProt.thenIf (·.post)).protConds

theorem Keeps.holdReport {i : Nat} {full : Bool} {rep : Report} (h : Keeps s₀ s) : Keeps s₀ (s.holdReport i full rep) :=
  (h.setProt.thenIf (·.legsFire)).protConds

theorem Keeps.protReport {i : Nat} {rep : Report} (h : Keeps s₀ s) : Keeps s₀ (s.protReport i rep) :=
  (Keeps.ite h.fbpReport.clearReport.holdReport h.fbpReport.clearReport.desatReport.uvReport).leakReport

theorem Keeps.interlock {i : Nat} {e : Entry} (h : Keeps s₀ s) : Keeps s₀ (s.interlock i e) := h.putAll.raise.addTo.post
theorem Keeps.setSlot {i : Nat} {c : SlotCmd} (h : Keeps s₀ s) : Keeps s₀ (s.setSlot i c) := h.update

theorem Keeps.encodeOne {plan : Option Plan} {win i : Nat} (h : Keeps s₀ s) : Keeps s₀ (s.encodeOne plan win i) := by
  unfold State.encodeOne
  extract_lets r p w0 bad w s1 blocked cnt due _ s2 act _ s3
  have h1 : Keeps s₀ s1 := by
    unfold s1
    clear_value bad
    split
    · exact h.interlock
    · exact h
  have h2 : Keeps s₀ s2 := h1.setProt.setRec
  have h3 : Keeps s₀ s3 := (h2.thenIf (·.setProt)).setSlot
  exact h3.elseIf (·.addTo.raise)

theorem Keeps.leakRequests {ok : List Nat} (h : Keeps s₀ s) : Keeps s₀ (s.leakRequests ok) :=
  h.thenIf (·.forAll (·.setSlot.thenIf (·.setProt.put)))

theorem Keeps.dropDcmds (h : Keeps s₀ s) : Keeps s₀ s.dropDcmds := h.update.elseIf (·.addTo.raise)

theorem Keeps.encode {plan : Option Plan} {win : Nat} (h : Keeps s₀ s) : Keeps s₀ (s.encode plan win) :=
  ((h.update.dropDcmds.update.forAll Keeps.setRec).forAll Keeps.encodeOne).leakCheckEnd.leakRequests.update.put.protConds

theorem Keeps.blockSlots (h : Keeps s₀ s) : Keeps s₀ s.blockSlots := (h.update.forAll Keeps.setSlot).forAll Keeps.setRec

theorem Keeps.onSlot {i : Nat} {f : Nat → State → State} (h : Keeps s₀ s) (hf : ∀ {n0 x}, Keeps s₀ x → Keeps s₀ (f n0 x)) :
    Keeps s₀ (s.onSlot i f) :=
  Keeps.ite h (Keeps.ite (hf h.put) (Keeps.ite (hf h) h).configOnce)

theorem Keeps.holdEffect {i : Nat} (h : Keeps s₀ s) : Keeps s₀ (holdEffect i s) := h.onSlot (·.setProt.protConds.selAgain)
theorem Keeps.release {i : Nat} (h : Keeps s₀ s) : Keeps s₀ (s.release i) := .ite h.config (h.elseIf (·.setProt.protConds))
theorem Keeps.releaseEffect {i : Nat} (h : Keeps s₀ s) : Keeps s₀ (releaseEffect i s) := h.onSlot Keeps.release
theorem Keeps.fbpClear {i : Nat} (h : Keeps s₀ s) : Keeps s₀ (s.fbpClear i) := .ite h.setProt.setRec h.config
theorem Keeps.fbpClrEffect {i : Nat} (h : Keeps s₀ s) : Keeps s₀ (fbpClrEffect i s) := h.onSlot Keeps.fbpClear
theorem Keeps.fireEffect {i : Nat} (h : Keeps s₀ s) : Keeps s₀ (fireEffect i s) := h.onSlot Keeps.requestFire
theorem Keeps.holdInfoEffect {v : Nat} (h : Keeps s₀ s) : Keeps s₀ (holdInfoEffect v s) := h.elseIf (·.putAll)

theorem Keeps.holdBlkEffect {i : Nat} (h : Keeps s₀ s) : Keeps s₀ (holdBlkEffect i s) :=
  .ite (Keeps.ite h.setProt.protConds.requestFire h.setProt.protConds.post) h

theorem Keeps.leakRoundEffect (h : Keeps s₀ s) : Keeps s₀ (leakRoundEffect s) := h.thenIf (·.leakBegin.leakCheckEnd)
theorem Keeps.leakTimeoutEffect {i : Nat} (h : Keeps s₀ s) : Keeps s₀ (leakTimeoutEffect i s) := h.thenIf (·.setProt)
theorem Keeps.fbpTimeoutEffect {i : Nat} (h : Keeps s₀ s) : Keeps s₀ (fbpTimeoutEffect i s) := h.thenIf (·.pass.setProt.raise.eventAt)

theorem Keeps.postDcmd {w : Writer} {v : Nat} (h : Keeps s₀ s) : Keeps s₀ (s.postDcmd w v) :=
  .ite h.putAll.update.put h.putAll.addTo.raise

theorem Keeps.dcmdPostEffect {w : Writer} {v : Nat} (h : Keeps s₀ s) : Keeps s₀ (dcmdPostEffect w v s) := h.thenIf (·.postDcmd)

/-! ## Rings -/

theorem Keeps.setLane {l : Nat} {x : LaneSt} (h : Keeps s₀ s) : Keeps s₀ (s.setLane l x) := h.update
theorem Keeps.budgetCheck (h : Keeps s₀ s) : Keeps s₀ s.budgetCheck := h.cond
theorem Keeps.ringBudget {n : Nat} (h : Keeps s₀ s) : Keeps s₀ (s.ringBudget n) := h.cond.setRing.thenIf (·.eventOpen)
theorem Keeps.ringLoss {rtMax n : Nat} (h : Keeps s₀ s) : Keeps s₀ (s.ringLoss rtMax n) := (h.cond.elseIf (·.setRing)).thenIf (·.config)
theorem Keeps.ringsLoss (h : Keeps s₀ s) : Keeps s₀ s.ringsLoss := h.forAll Keeps.ringLoss
theorem Keeps.ringsRecheck (h : Keeps s₀ s) : Keeps s₀ s.ringsRecheck := (h.forAll Keeps.ringBudget).ringsLoss
theorem Keeps.ringOut {n : Nat} (h : Keeps s₀ s) : Keeps s₀ (s.ringOut n) := h.leakLeave.budgetCheck.ringsLoss.regionCheck
theorem Keeps.svcHostDone {n res : Nat} (h : Keeps s₀ s) : Keeps s₀ (s.svcHostDone n res) := h.put.put.raise
theorem Keeps.svcAbort {n : Nat} (h : Keeps s₀ s) : Keeps s₀ (s.svcAbort n) := h.setRing.thenIf (·.svcHostDone)

theorem Keeps.ringDown {n : Nat} (h : Keeps s₀ s) : Keeps s₀ (s.ringDown n) :=
  .ite h.svcAbort.setRing.cond.ringOut h.svcAbort.setRing.cond.ringLoss.budgetCheck

theorem Keeps.ringTryStart {n : Nat} (h : Keeps s₀ s) : Keeps s₀ (s.ringTryStart n) := h.thenIf (·.setRing.setLane)
theorem Keeps.ringTopoFail {n : Nat} (h : Keeps s₀ s) : Keeps s₀ (s.ringTopoFail n) := h.ringDown.raise.event

theorem Keeps.ringEnSetEffect {n : Nat} (h : Keeps s₀ s) : Keeps s₀ (ringEnSetEffect n s) :=
  .ite h (h.elseIf (·.setRing)).put.ringTryStart

theorem Keeps.ringEnClearEffect {n : Nat} (h : Keeps s₀ s) : Keeps s₀ (ringEnClearEffect n s) := by
  unfold Machine.ringEnClearEffect
  extract_lets s1
  have h1 : Keeps s₀ s1 := h.put
  split
  · exact h
  · split
    · exact h.raise.config
    · split
      · exact h1
      · exact h1
      · exact h1.ringDown

theorem Keeps.admitCheck {n : Nat} (h : Keeps s₀ s) : Keeps s₀ (s.admitCheck n) := h.ringBudget.ringLoss.setRing
theorem Keeps.ringAdmitEffect {n : Nat} (h : Keeps s₀ s) : Keeps s₀ (ringAdmitEffect n s) := h.elseIf (·.put.thenIf (·.admitCheck))
theorem Keeps.admitSlot {n k : Nat} (h : Keeps s₀ s) : Keeps s₀ (s.admitSlot n k) := h.setRec.setProt.setRing
theorem Keeps.clearSlots {n nc : Nat} (h : Keeps s₀ s) : Keeps s₀ (s.clearSlots n nc) := h.forAll Keeps.setRec

theorem Keeps.ringAdmissionEffect {n : Nat} (h : Keeps s₀ s) : Keeps s₀ (ringAdmissionEffect n s) := by
  unfold Machine.ringAdmissionEffect
  extract_lets s1 s2 _ s3
  have h1 : Keeps s₀ s1 := h.admitCheck
  have h2 : Keeps s₀ s2 := h1.clearSlots.forAll Keeps.admitSlot
  have h3 : Keeps s₀ s3 := h2.setRing
  exact Keeps.ite (Keeps.ite h3.put.budgetCheck.ringsLoss.topologyChanged h1) h

theorem Keeps.sendEnum {n : Nat} (h : Keeps s₀ s) : Keeps s₀ (s.sendEnum n) := h.elseIf (·.setRing)

theorem Keeps.probeCompleteEffect {n : Nat} {p : ProbeRun} (h : Keeps s₀ s) : Keeps s₀ (probeCompleteEffect n p s) :=
  h.thenIf (·.setLane.put.setRing.sendEnum)

theorem Keeps.probeTimeoutEffect {n : Nat} (h : Keeps s₀ s) : Keeps s₀ (probeTimeoutEffect n s) := h.thenIf (·.ringTopoFail)

theorem Keeps.rxCheck {n : Nat} {f : RxFrame} (h : Keeps s₀ s) : Keeps s₀ (s.rxCheck n f) :=
  .ite (Keeps.ite (h.thenIf (·.raise.addTo.put)).put h) h.raise.addTo

theorem Keeps.enumDone {n hops rtPs : Nat} (h : Keeps s₀ s) : Keeps s₀ (s.enumDone n hops rtPs) := h.putAll.setRing.budgetCheck

theorem Keeps.enumReturnEffect {n : Nat} {f : RxFrame} (h : Keeps s₀ s) : Keeps s₀ (enumReturnEffect n f s) := by
  unfold Machine.enumReturnEffect
  extract_lets s1
  have h1 : Keeps s₀ s1 := h.rxCheck
  exact Keeps.ite (Keeps.ite (Keeps.ite h1.ringTopoFail (Keeps.ite h1.enumDone h1.setRing.sendEnum)) h1.sendEnum) h

theorem Keeps.enumTimeoutEffect {n : Nat} (h : Keeps s₀ s) : Keeps s₀ (enumTimeoutEffect n s) := h.thenIf (·.ringTopoFail)
theorem Keeps.identRefuse {n : Nat} (h : Keeps s₀ s) : Keeps s₀ (s.identRefuse n) := h.setRing.raise.event

theorem Keeps.identWord {n w : Nat} (h : Keeps s₀ s) : Keeps s₀ (s.identWord n w) := by
  unfold State.identWord
  extract_lets
  split
  · exact h.setRing
  · split
    · exact h.identRefuse
    · exact Keeps.ite (h.thenIf (·.event0)).setRing (h.thenIf (·.event0)).setRing

theorem Keeps.svcComplete {n : Nat} {a : SvcAcc} {res data : Nat} (h : Keeps s₀ s) : Keeps s₀ (s.svcComplete n a res data) := by
  unfold State.svcComplete
  extract_lets _ s1 s2
  have h1 : Keeps s₀ s1 := h.setRing
  have h2 : Keeps s₀ s2 := h1.thenIf (·.put.put)
  split
  · exact Keeps.ite h.identWord h.identRefuse
  · exact h.setRing
  · exact h2.svcHostDone

theorem Keeps.svcRetry {n : Nat} (h : Keeps s₀ s) : Keeps s₀ (s.svcRetry n) := by
  unfold State.svcRetry
  extract_lets
  split
  · exact h
  · exact Keeps.ite (Keeps.ite h.setRing h.svcComplete) h

theorem Keeps.svcStartEffect {n v : Nat} (h : Keeps s₀ s) : Keeps s₀ (svcStartEffect n v s) :=
  .ite h (Keeps.ite h.putAll.config (Keeps.ite h.putAll.svcHostDone (Keeps.ite h.putAll.svcHostDone h.putAll.put.setRing)))

theorem Keeps.svcSendEffect {n : Nat} (h : Keeps s₀ s) : Keeps s₀ (svcSendEffect n s) := by
  unfold Machine.svcSendEffect
  extract_lets
  split
  · split
    · exact h
    · exact h.elseIf (·.setRing)
  · exact h

theorem Keeps.svcReturnEffect {n : Nat} {f : RxFrame} (h : Keeps s₀ s) : Keeps s₀ (svcReturnEffect n f s) := by
  unfold Machine.svcReturnEffect
  extract_lets s1
  have h1 : Keeps s₀ s1 := h.rxCheck
  split
  · exact h
  · split
    · exact h1
    · exact Keeps.ite h1 (Keeps.ite h1.svcComplete h1.svcRetry)

theorem Keeps.svcTimeoutEffect {n : Nat} (h : Keeps s₀ s) : Keeps s₀ (svcTimeoutEffect n s) := h.thenIf (·.svcRetry)

theorem Keeps.sendFrame {n : Nat} {f : RingFrame} {t at_ : Nat} (h : Keeps s₀ s) : Keeps s₀ (s.sendFrame n f t at_) :=
  h.setRing.forAll (fun hx => (hx.thenIf (·.setRec)).thenIf (·.setProt))

theorem Keeps.countMiss {n : Nat} {miss : Bool} (h : Keeps s₀ s) : Keeps s₀ (s.countMiss n miss) :=
  .ite (h.addSat.thenIf (·.eventFence)) h.put

theorem Keeps.skipCycle {n : Nat} (h : Keeps s₀ s) : Keeps s₀ (s.skipCycle n) := h.setRing.raise.addTo.countMiss

theorem Keeps.cycleFrame {tk n : Nat} (h : Keeps s₀ s) : Keeps s₀ (s.cycleFrame tk n) :=
  .ite h (Keeps.ite h.put (Keeps.ite h.skipCycle (h.sendFrame.setRing.thenIf (·.raise))))

theorem Keeps.judgeRing {n : Nat} (h : Keeps s₀ s) : Keeps s₀ (s.judgeRing n) :=
  .ite (Keeps.ite (h.setRing.thenIf (·.raise)) ((h.setRing.thenIf (·.raise)).elseIf (·.raise.addTo)).countMiss) h

theorem Keeps.ringGladeStop {g : Nat} (h : Keeps s₀ s) : Keeps s₀ (s.ringGladeStop g) := h.thenIf (·.setGlade)

theorem Keeps.blockFrameEffect {n : Nat} (h : Keeps s₀ s) : Keeps s₀ (blockFrameEffect n s) :=
  .ite (h.sendFrame.setRing.thenIf (·.raise)).ringGladeStop h

theorem Keeps.askBlockFrames (h : Keeps s₀ s) : Keeps s₀ s.askBlockFrames := h.forAll (·.thenIf (·.setRing))

theorem Keeps.tsyncCount {n slot : Nat} {lock : Bool} (h : Keeps s₀ s) : Keeps s₀ (s.tsyncCount n slot lock) :=
  .ite (Keeps.ite h.setRing.ringBudget.ringLoss h.setRing) h

theorem Keeps.armReport {i : Nat} {admitted : Bool} {rep : Report} (h : Keeps s₀ s) : Keeps s₀ (s.armReport i admitted rep) :=
  (h.thenIf (·.takeReport)).protReport.selAgain

theorem Keeps.slotReport {n slot : Nat} {rep : Report} (h : Keeps s₀ s) : Keeps s₀ (s.slotReport n slot rep) :=
  ((h.flagIf.flagIf.flagIf.flagIf.thenIf (·.raise.event)).overLink Keeps.armReport).tsyncCount

theorem Keeps.judgeDue {n : Nat} (h : Keeps s₀ s) : Keeps s₀ (s.judgeDue n) := h.thenIf (·.judgeRing)

theorem Keeps.slotReceivedEffect {n slot h0 h1 s0 s1 s2 s3 : Nat} (h : Keeps s₀ s) :
    Keeps s₀ (slotReceivedEffect n slot h0 h1 s0 s1 s2 s3 s) := by
  unfold Machine.slotReceivedEffect
  extract_lets r own j _ a v c b
  have h_j : Keeps s₀ j := h.judgeDue
  have h_a : Keeps s₀ a := h_j.thenIf (·.setRing)
  have h_c : Keeps s₀ c := h_a.put
  have h_b : Keeps s₀ b := Keeps.ite h_a.put.slotReport (h_c.thenIf (·.raise.addTo)).tsyncCount
  exact Keeps.ite (Keeps.ite h_j (h_b.thenIf (·.update))) h

theorem Keeps.roundTrip {n seq rtPs : Nat} (h : Keeps s₀ s) : Keeps s₀ (s.roundTrip n seq rtPs) :=
  h.setRing.put.put.thenIf (·.raise.eventFence)

theorem Keeps.hopsJudge {n hops : Nat} (h : Keeps s₀ s) : Keeps s₀ (s.hopsJudge n hops) := h.elseIf (·.raise.eventFence)

theorem Keeps.frameReturnEffect {n : Nat} {f : RxFrame} (h : Keeps s₀ s) : Keeps s₀ (frameReturnEffect n f s) := by
  unfold Machine.frameReturnEffect
  extract_lets r j head m k _ k'
  have h_j : Keeps s₀ j := h.judgeDue
  have h_m : ∀ {x}, Keeps s₀ x → Keeps s₀ (m x) := (·.thenIf (·.roundTrip))
  have h_k : Keeps s₀ k := h_j.rxCheck
  have h_k' : Keeps s₀ k' := h_j.rxCheck.put
  exact Keeps.ite (Keeps.ite (h_m h_k.setRing).hopsJudge (Keeps.ite (h_m h_j.put) (Keeps.ite h_j (Keeps.ite h_k'.setRing h_j)))) h

theorem Keeps.fenceRing {n : Nat} {lost : Bool} (h : Keeps s₀ s) : Keeps s₀ (s.fenceRing n lost) := by
  unfold State.fenceRing
  extract_lets mid _ s1 _ s2 s3
  have h1 : Keeps s₀ s1 := Keeps.ite h.setRing h.svcAbort
  have h2 : Keeps s₀ s2 := h1.setRing
  have h3 : Keeps s₀ s3 := h2.cond.ringOut
  exact (Keeps.ite h3 (Keeps.ite h3.selAgain h3.raise)).topologyChanged

theorem Keeps.unfenceRing {n : Nat} (h : Keeps s₀ s) : Keeps s₀ (s.unfenceRing n) :=
  (h.ringDown.forAll (·.thenIf (·.setRec))).setRing.topologyChanged

/-! ## Lanes -/

theorem Keeps.scanAbort {l : Nat} (h : Keeps s₀ s) : Keeps s₀ (s.scanAbort l) := h.elseIf (·.setLane.put.raise)
theorem Keeps.alignLost {p : Nat} (h : Keeps s₀ s) : Keeps s₀ (s.alignLost p) := .ite (h.forAll (·.put.raise)).event.portDown h
theorem Keeps.putTaps {l v : Nat} (h : Keeps s₀ s) : Keeps s₀ (s.putTaps l v) := h.putAll
theorem Keeps.trackTaps {l : Nat} (h : Keeps s₀ s) : Keeps s₀ (s.trackTaps l) := h.thenIf (·.putAll.setLane.useFree)
theorem Keeps.trackAgain {l : Nat} (h : Keeps s₀ s) : Keeps s₀ (s.trackAgain l) := h.thenIf (·.setLane)

theorem Keeps.laneUnlock {l : Nat} {dst : LaneMode} (h : Keeps s₀ s) : Keeps s₀ (s.laneUnlock l dst) :=
  h.trackTaps.scanAbort.setLane.thenIf (·.setPort.alignLost)

theorem Keeps.laneOff {l : Nat} (h : Keeps s₀ s) : Keeps s₀ (s.laneOff l) := h.laneUnlock

theorem Keeps.laneEnableEffect {l : Nat} (h : Keeps s₀ s) : Keeps s₀ (laneEnableEffect l s) :=
  .ite h.raise.config (h.thenIf (·.put.thenIf (·.setLane)))

theorem Keeps.laneDisableEffect {l : Nat} (h : Keeps s₀ s) : Keeps s₀ (laneDisableEffect l s) :=
  .ite (Keeps.ite h.raise.config h.put.laneOff) h

theorem Keeps.laneGo {l : Nat} {old new : LaneMode} (h : Keeps s₀ s) : Keeps s₀ (s.laneGo l old new) := h.thenIf (·.setLane)
theorem Keeps.laneCalEffect {l : Nat} (h : Keeps s₀ s) : Keeps s₀ (laneCalEffect l s) := h.laneGo
theorem Keeps.laneAcquiredEffect {l ppm : Nat} (h : Keeps s₀ s) : Keeps s₀ (laneAcquiredEffect l ppm s) := h.thenIf (·.laneGo)
theorem Keeps.laneAcqTimeoutEffect {l : Nat} (h : Keeps s₀ s) : Keeps s₀ (laneAcqTimeoutEffect l s) := h.thenIf (·.raise.event0)

theorem Keeps.laneAdaptEffect {l rxEq : Nat} (h : Keeps s₀ s) : Keeps s₀ (laneAdaptEffect l rxEq s) :=
  .ite (h.elseIf (·.put.putTaps)).laneGo h

theorem Keeps.adaptOff {l : Nat} (h : Keeps s₀ s) : Keeps s₀ (s.adaptOff l) := h.thenIf (·.laneGo)
theorem Keeps.laneLockEffect {l : Nat} (h : Keeps s₀ s) : Keeps s₀ (laneLockEffect l s) := h.thenIf (·.setLane.thenIf (·.ringTryStart))
theorem Keeps.laneSyncTimeoutEffect {l : Nat} (h : Keeps s₀ s) : Keeps s₀ (laneSyncTimeoutEffect l s) := h.thenIf (·.laneGo.raise)

theorem Keeps.lossOfLock {l : Nat} {hiBer : Bool} {dst : LaneMode} (h : Keeps s₀ s) : Keeps s₀ (s.lossOfLock l hiBer dst) :=
  (Keeps.ite h.raise.flagIf.addTo.addSat.eventFence h.raise.flagIf.addTo.addSat.event).laneUnlock

theorem Keeps.laneLossEffect {l : Nat} {hiBer : Bool} (h : Keeps s₀ s) : Keeps s₀ (laneLossEffect l hiBer s) := h.thenIf (·.lossOfLock)
theorem Keeps.laneSignalLostEffect {l : Nat} (h : Keeps s₀ s) : Keeps s₀ (laneSignalLostEffect l s) := h.thenIf (·.lossOfLock)
theorem Keeps.lolWindowEffect {l : Nat} (h : Keeps s₀ s) : Keeps s₀ (lolWindowEffect l s) := h.thenIf (·.put)
theorem Keeps.startReadapt {l : Nat} (h : Keeps s₀ s) : Keeps s₀ (s.startReadapt l) := .ite h.setLane h.setLane

theorem Keeps.readaptIn {s0 : State} {l : Nat} (h : Keeps s₀ s) : Keeps s₀ (s0.readaptIn l s) :=
  .ite (Keeps.ite h.configOnce (h.thenIf (·.startReadapt))) h

theorem Keeps.readaptEffect {l : Nat} (h : Keeps s₀ s) : Keeps s₀ (readaptEffect l s) := h.readaptIn

theorem Keeps.readaptDoneEffect {l taps : Nat} (h : Keeps s₀ s) : Keeps s₀ (readaptDoneEffect l taps s) :=
  .ite (h.elseIf (·.putTaps)).setLane h

theorem Keeps.txEqEffect {l v : Nat} (h : Keeps s₀ s) : Keeps s₀ (txEqEffect l v s) :=
  .ite ((((h.elseIf (·.putAll)).elseIf (·.put)).thenIf (·.raise)).thenIf (·.config)) h

theorem Keeps.elasticEffect {l : Nat} (h : Keeps s₀ s) : Keeps s₀ (elasticEffect l s) := h.thenIf (·.raise.thenIf (·.setRing))
theorem Keeps.markerSendEffect {p : Nat} (h : Keeps s₀ s) : Keeps s₀ (markerSendEffect p s) := h.thenIf (·.setPort)

theorem Keeps.putDeskew {p : Nat} {ms : List Marker} (h : Keeps s₀ s) : Keeps s₀ (s.putDeskew p ms) := by
  unfold State.putDeskew
  refine h.forAll fun hx => ?_
  split
  · exact hx.putAll
  · exact hx

theorem Keeps.markerSetEffect {p : Nat} {ms : List Marker} (h : Keeps s₀ s) : Keeps s₀ (markerSetEffect p ms s) :=
  .ite (Keeps.ite (h.setPort.putDeskew.peerAgain.thenIf (·.forAll Keeps.put)) (h.setPort.thenIf (·.alignLost))) h

theorem Keeps.prbsEffect {l : Nat} (h : Keeps s₀ s) : Keeps s₀ (prbsEffect l s) := h.thenIf (·.setLane.addSat.flagIf)

theorem Keeps.badHeaderEffect {l : Nat} {blockType : Bool} (h : Keeps s₀ s) : Keeps s₀ (badHeaderEffect l blockType s) :=
  h.thenIf (·.raise.elseIf (·.addTo))

theorem Keeps.scanBegin {l : Nat} (h : Keeps s₀ s) : Keeps s₀ (s.scanBegin l) := by
  unfold State.scanBegin
  extract_lets
  split
  · split
    · exact h
    · exact h.setLane.putAll
  · exact h

theorem Keeps.esStopEffect {l : Nat} (h : Keeps s₀ s) : Keeps s₀ (esStopEffect l s) := h.thenIf (·.setLane.put)
theorem Keeps.esFreeEffect {l : Nat} (h : Keeps s₀ s) : Keeps s₀ (esFreeEffect l s) := .ite (Keeps.ite h.config h.setLane.putAll) h

theorem Keeps.scanRequest {s0 : State} {l : Nat} (h : Keeps s₀ s) : Keeps s₀ (s0.scanRequest l s) :=
  .ite h.setLane.putAll.scanBegin h.configOnce

theorem Keeps.esGoEffect {l v : Nat} (h : Keeps s₀ s) : Keeps s₀ (esGoEffect l v s) :=
  .ite (Keeps.ite (h.putAll.thenIf (·.esFreeEffect)).esStopEffect (h.putAll.thenIf (·.esFreeEffect)).scanRequest) h

theorem Keeps.eyeStartEffect {l : Nat} (h : Keeps s₀ s) : Keeps s₀ (eyeStartEffect l s) := h.thenIf (·.scanBegin)

theorem Keeps.eyePointEffect {l err : Nat} (h : Keeps s₀ s) : Keeps s₀ (eyePointEffect l err s) := by
  unfold Machine.eyePointEffect
  extract_lets
  split
  · exact h
  · exact Keeps.ite (Keeps.ite h.writeFrom.put.setLane.put.raise h.writeFrom.put.setLane) h

theorem Keeps.crossDueEffect {l : Nat} (h : Keeps s₀ s) : Keeps s₀ (crossDueEffect l s) := h.thenIf (·.setLane)
theorem Keeps.marginFound {l w0 h0 w hd : Nat} (h : Keeps s₀ s) : Keeps s₀ (s.marginFound l w0 h0 w hd) := h.raise.event.lifeRecord
theorem Keeps.crossAgain {l : Nat} (h : Keeps s₀ s) : Keeps s₀ (s.crossAgain l) := .ite h.setLane.startReadapt h.setLane

theorem Keeps.crossFigures {l w hd : Nat} (h : Keeps s₀ s) : Keeps s₀ (s.crossFigures l w hd) :=
  .ite (Keeps.ite h.putAll.setLane.marginFound.scanBegin h.putAll.crossAgain.scanBegin) h.putAll.setLane.scanBegin

theorem Keeps.crossDoneEffect {l : Nat} {hErrs vErrs : List Nat} (h : Keeps s₀ s) : Keeps s₀ (crossDoneEffect l hErrs vErrs s) :=
  h.thenIf (·.crossFigures)

theorem Keeps.fenceLane {l : Nat} (h : Keeps s₀ s) : Keeps s₀ (s.fenceLane l) := h.laneOff
theorem Keeps.unfenceLane {l : Nat} (h : Keeps s₀ s) : Keeps s₀ (s.unfenceLane l) := h.setLane

/-! ## ArmRef -/

theorem Keeps.deliverRef {r : Reference} (h : Keeps s₀ s) : Keeps s₀ (s.deliverRef r) :=
  .ite h.put.update (Keeps.ite h.put.update h.put.update)

theorem Keeps.refSlopeEffect {v : Nat} (h : Keeps s₀ s) : Keeps s₀ (refSlopeEffect v s) := h.thenIf (·.put.deliverRef)
theorem Keeps.takeLoopRef {o : ℤ} (h : Keeps s₀ s) : Keeps s₀ (s.takeLoopRef o) := h.deliverRef.update
theorem Keeps.loopDeliver {k out : Nat} (h : Keeps s₀ s) : Keeps s₀ (s.loopDeliver k out) := h.thenIf (·.overLink Keeps.takeLoopRef)

/-! ## Loops -/

theorem Keeps.setLoop {k : Nat} {x : LoopSt} (h : Keeps s₀ s) : Keeps s₀ (s.setLoop k x) := h.update
theorem Keeps.loopCond {k : Nat} (h : Keeps s₀ s) : Keeps s₀ (s.loopCond k) := h.cond
theorem Keeps.loopConds (h : Keeps s₀ s) : Keeps s₀ s.loopConds := h.forAll Keeps.loopCond
theorem Keeps.loopLatch {k : Nat} (h : Keeps s₀ s) : Keeps s₀ (s.loopLatch k) := h.setLoop
theorem Keeps.loopAgain {k : Nat} (h : Keeps s₀ s) : Keeps s₀ (s.loopAgain k) := h.thenIf (·.setLoop)
theorem Keeps.loopEdge {k : Nat} (h : Keeps s₀ s) : Keeps s₀ (s.loopEdge k) := .ite h.raise.addTo h.loopLatch

theorem Keeps.loopPhase {k : Nat} (h : Keeps s₀ s) : Keeps s₀ (s.loopPhase k) :=
  .ite h.loopEdge (Keeps.ite h.setLoop h.setLoop.loopEdge)

theorem Keeps.loopTrig {k : Nat} (h : Keeps s₀ s) : Keeps s₀ (s.loopTrig k) := .ite (Keeps.ite h.loopPhase h.loopEdge) h.setLoop

theorem Keeps.loopTriggerEffect {k : Nat} (h : Keeps s₀ s) : Keeps s₀ (loopTriggerEffect k s) := by
  unfold Machine.loopTriggerEffect
  extract_lets
  split
  · split
    · split
      · exact h
      · exact h.setLoop.loopTrig
    · exact h.thenIf (·.reachOfs.setLoop.loopTrig)
  · exact h

theorem Keeps.loopReport {k : Nat} {iw ow : Bool} (h : Keeps s₀ s) : Keeps s₀ (s.loopReport k iw ow) :=
  h.addTo.addTo.elseIf (·.flagIf.flagIf.thenIf (·.event))

theorem Keeps.loopOutput {k out : Nat} (h : Keeps s₀ s) : Keeps s₀ (s.loopOutput k out) :=
  ((h.put.addTo.thenIf (·.postOperandFrom)).thenIf (·.postFlagFrom)).loopDeliver

theorem Keeps.sampleTime {k : Nat} (h : Keeps s₀ s) : Keeps s₀ (s.sampleTime k) := by
  unfold State.sampleTime
  split
  · exact h.pass
  · exact h

theorem Keeps.loopCompute {k : Nat} (h : Keeps s₀ s) : Keeps s₀ (s.loopCompute k) :=
  h.setLoop.putS.put.flagIf.flagIf.loopReport.loopOutput

theorem Keeps.loopSampleEffect {k : Nat} (h : Keeps s₀ s) : Keeps s₀ (loopSampleEffect k s) := h.thenIf (·.sampleTime.loopCompute)

theorem Keeps.loopEnableEffect {k : Nat} (h : Keeps s₀ s) : Keeps s₀ (loopEnableEffect k s) :=
  h.thenIf (·.put.setLoop.loopCond.thenIf (·.loopTrig))

theorem Keeps.loopOff {k : Nat} (h : Keeps s₀ s) : Keeps s₀ (s.loopOff k) := h.put.setLoop.loopCond
theorem Keeps.loopDisableEffect {k : Nat} (h : Keeps s₀ s) : Keeps s₀ (loopDisableEffect k s) := h.thenIf (·.loopOff)

theorem Keeps.uSpEffect {k v : Nat} (h : Keeps s₀ s) : Keeps s₀ (uSpEffect k v s) :=
  .ite (Keeps.ite h.put.setLoop h.put.setLoop).loopAgain h

theorem Keeps.uIntHiEffect {k v : Nat} (h : Keeps s₀ s) : Keeps s₀ (uIntHiEffect k v s) := h.thenIf (·.setLoop)
theorem Keeps.readData {l : List Nat} (h : Keeps s₀ s) : Keeps s₀ (s.readData l) := h.update
theorem Keeps.uIntLoEffect {k : Nat} (h : Keeps s₀ s) : Keeps s₀ (uIntLoEffect k s) := h.thenIf (·.setLoop.readData)

theorem Keeps.loopAllOffEffect {page : Nat} (h : Keeps s₀ s) : Keeps s₀ (loopAllOffEffect page s) :=
  h.thenIf (·.forAll (·.loopOff.setLoop))

theorem Keeps.fenceLoop {k : Nat} (h : Keeps s₀ s) : Keeps s₀ (s.fenceLoop k) := h.put.setLoop.loopCond

theorem Keeps.svToLoops {ch v : Nat} (h : Keeps s₀ s) : Keeps s₀ (s.svToLoops ch v) :=
  h.forAll (fun hx => Keeps.ite (hx.thenIf (·.put)).setLoop.loopAgain hx)

/-! ## Pwm -/

theorem Keeps.setCh {c : Nat} {x : ChSt} (h : Keeps s₀ s) : Keeps s₀ (s.setCh c x) := h.update
theorem Keeps.setPin {c : Nat} {b : Bool} (h : Keeps s₀ s) : Keeps s₀ (s.setPin c b) := .ite h (Keeps.ite h.setCh h.setCh)
theorem Keeps.pinFall {c : Nat} (h : Keeps s₀ s) : Keeps s₀ (s.pinFall c) := h.elseIf (·.setPin.setCh)

theorem Keeps.pinRise {c : Nat} (h : Keeps s₀ s) : Keeps s₀ (s.pinRise c) :=
  .ite (Keeps.ite h.setPin (Keeps.ite h.setCh h.setCh.setPin)) h

theorem Keeps.pairHold {p : Nat} (h : Keeps s₀ s) : Keeps s₀ (s.pairHold p) :=
  .ite (h.elseIf (·.setCh.setCh.raise.raise.update.addTo.addTo.event)) h.setCh.setCh

theorem Keeps.unhold {hd : HoldBack} (h : Keeps s₀ s) : Keeps s₀ (s.unhold hd) := h.setCh.setCh.unraise.addTo.addTo.update.unpost
theorem Keeps.dropHold {p : Nat} (h : Keeps s₀ s) : Keeps s₀ (s.dropHold p) := h.elseIf (·.foldl Keeps.unhold)
theorem Keeps.pinHolds {c : Nat} (h : Keeps s₀ s) : Keeps s₀ (s.pinHolds c) := h.elseIf (·.pinFall)

theorem Keeps.pairUpdate {p : Nat} (h : Keeps s₀ s) : Keeps s₀ (s.pairUpdate p) := by
  unfold State.pairUpdate
  extract_lets fall
  have h_fall : ∀ {n0 x}, Keeps s₀ x → Keeps s₀ (fall n0 x) := (fun hx => Keeps.ite hx.pinHolds hx.pinFall)
  exact (h_fall (h_fall h.dropHold.pairHold)).pinRise.pinRise

theorem Keeps.pinsUpdate (h : Keeps s₀ s) : Keeps s₀ s.pinsUpdate := h.forAll Keeps.pairUpdate
theorem Keeps.sendSync {c : Nat} (h : Keeps s₀ s) : Keeps s₀ (s.sendSync c) := .ite h.setCh h.update
theorem Keeps.unsendSync {c : Nat} {was : Bool} (h : Keeps s₀ s) : Keeps s₀ (s.unsendSync c was) := .ite h.setCh h.update

theorem Keeps.periodBegin {c : Nat} (h : Keeps s₀ s) : Keeps s₀ (s.periodBegin c) := by
  unfold State.periodBegin
  extract_lets x s1
  have h1 : Keeps s₀ s1 := h.setCh
  split
  · exact h.setCh
  · exact h1.addTo.sendSync

theorem Keeps.periodLoaded {c : Nat} (h : Keeps s₀ s) : Keeps s₀ (s.periodLoaded c) := h.setCh.addTo
theorem Keeps.periodStart {c : Nat} (h : Keeps s₀ s) : Keeps s₀ (s.periodStart c) := h.periodBegin.pairUpdate

theorem Keeps.periodStartEffect {c : Nat} (h : Keeps s₀ s) : Keeps s₀ (periodStartEffect c s) :=
  .ite (Keeps.ite h.periodLoaded.pairUpdate h.periodStart) h

theorem Keeps.turnOff {c k : Nat} (h : Keeps s₀ s) : Keeps s₀ (s.turnOff c k) := h.setCh.pairUpdate

theorem Keeps.turnOffEffect {c : Nat} (h : Keeps s₀ s) : Keeps s₀ (turnOffEffect c s) := by
  unfold Machine.turnOffEffect
  split
  · exact h
  · exact h.thenIf (·.turnOff)

theorem Keeps.chRewrite {c : Nat} (h : Keeps s₀ s) : Keeps s₀ (s.chRewrite c) :=
  .ite (Keeps.ite h.setCh.pairUpdate (h.thenIf (·.setCh.pairUpdate))) h

theorem Keeps.splitCheck {c : Nat} {r : SplitReg} (h : Keeps s₀ s) : Keeps s₀ (s.splitCheck c r) := h.setCh.flagIf

theorem Keeps.chPerEffect {c v : Nat} (h : Keeps s₀ s) : Keeps s₀ (chPerEffect c v s) :=
  .ite (Keeps.ite h.config h.splitCheck.put.chRewrite) h

theorem Keeps.chCmpEffect {c v : Nat} (h : Keeps s₀ s) : Keeps s₀ (chCmpEffect c v s) := h.thenIf (·.splitCheck.put.chRewrite)
theorem Keeps.pwmEnableEffect {c : Nat} (h : Keeps s₀ s) : Keeps s₀ (pwmEnableEffect c s) := h.thenIf (·.put.periodStart)
theorem Keeps.chOff {c : Nat} (h : Keeps s₀ s) : Keeps s₀ (s.chOff c) := h.put.setCh.pairUpdate

theorem Keeps.syncLoad {c : Nat} (h : Keeps s₀ s) : Keeps s₀ (s.syncLoad c) := by
  unfold State.syncLoad
  extract_lets ph _ s1 _ s2
  have h1 : Keeps s₀ s1 := h.setCh
  have h2 : Keeps s₀ s2 := by
    unfold s2
    split
    · exact h1.setCh.unsendSync
    · exact h1.setCh
  exact Keeps.ite (Keeps.ite h1.periodBegin (Keeps.ite h2.setCh h2.setCh)) h1

theorem Keeps.syncPulseEffect {c : Nat} (h : Keeps s₀ s) : Keeps s₀ (syncPulseEffect c s) := h.thenIf (·.syncLoad.pairUpdate)
theorem Keeps.syncInEffect (h : Keeps s₀ s) : Keeps s₀ (syncInEffect s) := h.thenIf (·.setCh)
theorem Keeps.xdeadEffect {c : Nat} (h : Keeps s₀ s) : Keeps s₀ (xdeadEffect c s) := h.thenIf (·.pass.pairUpdate)

theorem Keeps.confirmFault {c : Nat} (h : Keeps s₀ s) : Keeps s₀ (s.confirmFault c) :=
  h.setCh.raise.addTo.eventOpen.pairUpdate.thenIf (·.raise.raise.eventFence)

theorem Keeps.heldDrop {c : Nat} (h : Keeps s₀ s) : Keeps s₀ (s.heldDrop c) := h.thenIf (·.setCh)
theorem Keeps.latchDrop {c : Nat} {x : ChSt} (h : Keeps s₀ s) : Keeps s₀ (s.latchDrop c x) := h.thenIf (·.setCh.heldDrop.pairUpdate)

theorem Keeps.gdFltEffect {c : Nat} (h : Keeps s₀ s) : Keeps s₀ (gdFltEffect c s) :=
  .ite (Keeps.ite h.setCh.heldDrop.confirmFault h.setCh.heldDrop.pairUpdate) (h.thenIf (·.latchDrop))

theorem Keeps.blankEndEffect {c : Nat} {asserted : Bool} (h : Keeps s₀ s) : Keeps s₀ (blankEndEffect c asserted s) :=
  h.thenIf (·.setCh.thenIf (·.heldDrop.confirmFault))

theorem Keeps.fltClrEffect {c : Nat} {asserted : Bool} (h : Keeps s₀ s) : Keeps s₀ (fltClrEffect c asserted s) :=
  .ite (Keeps.ite h.setCh.pairUpdate h.setCh) h

theorem Keeps.gsLowEffect {c : Nat} (h : Keeps s₀ s) : Keeps s₀ (gsLowEffect c s) :=
  .ite h.setCh.heldDrop.pairUpdate.eventOpen.cond (h.thenIf (·.latchDrop.thenIf (·.cond)))

theorem Keeps.gsHighEffect {c : Nat} (h : Keeps s₀ s) : Keeps s₀ (gsHighEffect c s) := h.thenIf (·.setCh.pairUpdate.cond)

theorem Keeps.unresume (h : Keeps s₀ s) : Keeps s₀ s.unresume := by
  unfold State.unresume
  split
  · exact h
  · exact Keeps.ite (h.foldl Keeps.unhold).putAll.update.config h

theorem Keeps.engageLatch (h : Keeps s₀ s) : Keeps s₀ s.engageLatch :=
  .ite h.unresume (h.unresume.forAll Keeps.setCh).useFree.update.pinsUpdate

theorem Keeps.resumeEffect (h : Keeps s₀ s) : Keeps s₀ (resumeEffect s) :=
  .ite (Keeps.ite h.config (Keeps.ite (h.update.forAll Keeps.periodBegin).pinsUpdate h)) h

theorem Keeps.pwmAllOffEffect (h : Keeps s₀ s) : Keeps s₀ (pwmAllOffEffect s) := .ite (h.forAll (·.put.setCh)).pinsUpdate h
theorem Keeps.safeLvlEffect {v : Nat} (h : Keeps s₀ s) : Keeps s₀ (safeLvlEffect v s) := .ite (Keeps.ite h.config h.put.pinsUpdate) h

theorem Keeps.xpairEffect {v : Nat} (h : Keeps s₀ s) : Keeps s₀ (xpairEffect v s) :=
  .ite (Keeps.ite h.raise.config (Keeps.ite h.put.config h.put.put.pinsUpdate)) h

theorem Keeps.fenceCh {c : Nat} (h : Keeps s₀ s) : Keeps s₀ (s.fenceCh c) := h.chOff
theorem Keeps.unfenceCh {c : Nat} (h : Keeps s₀ s) : Keeps s₀ (s.unfenceCh c) := h.setCh.thenIf (·.setCh)
theorem Keeps.countTick {c : Nat} (h : Keeps s₀ s) : Keeps s₀ (s.countTick c) := .ite h.periodBegin h.setCh
theorem Keeps.loadTick {c : Nat} (h : Keeps s₀ s) : Keeps s₀ (s.loadTick c) := h.syncLoad.thenIf (·.periodLoaded)

theorem Keeps.chTick {pulsed : List Nat} {c : Nat} (h : Keeps s₀ s) : Keeps s₀ (s.chTick pulsed c) :=
  .ite h.loadTick ((h.thenIf (·.setCh)).thenIf (·.countTick))

theorem Keeps.pwmTick (h : Keeps s₀ s) : Keeps s₀ s.pwmTick := .ite ((h.forAll Keeps.chTick).forAll Keeps.pairUpdate) h

/-! ## Pos -/

theorem Keeps.setPos {i : Nat} {x : PosSt} (h : Keeps s₀ s) : Keeps s₀ (s.setPos i x) := h.update
theorem Keeps.emuUpdate {i : Nat} (h : Keeps s₀ s) : Keeps s₀ (s.emuUpdate i) := .ite h.put.put h.put.put

theorem Keeps.emuEdge {i : Nat} {up : Bool} (h : Keeps s₀ s) : Keeps s₀ (s.emuEdge i up) :=
  .ite (Keeps.ite h.setPos.emuUpdate.raise.event h.setPos.emuUpdate) h

theorem Keeps.posFire {i : Nat} (h : Keeps s₀ s) : Keeps s₀ (s.posFire i).2 := (h.raise.put.thenIf (·.postFlagFrom)).elseIf (·.put)
theorem Keeps.posJudge {i : Nat} {b : CountBack} (h : Keeps s₀ s) : Keeps s₀ (s.posJudge i b) := .ite h.posFire.setPos h.setPos

theorem Keeps.posUnfire {i : Nat} {b : CountBack} (h : Keeps s₀ s) : Keeps s₀ (s.posUnfire i b) := by
  unfold State.posUnfire
  split
  · exact h
  · extract_lets s1
    have h1 : Keeps s₀ s1 := by
      unfold s1
      refine Keeps.unraise ?_
      split
      · exact h.unpostFlag
      · exact h
    exact h1.put.put

theorem Keeps.posLoad {i v : Nat} (h : Keeps s₀ s) : Keeps s₀ (s.posLoad i v) := by
  unfold State.posLoad
  split
  · exact h.put
  · exact h.posUnfire.put.posJudge

theorem Keeps.posResults {i : Nat} {w : PosWin} (h : Keeps s₀ s) : Keeps s₀ (s.posResults i w) := h.setPos.putS.putAll

theorem Keeps.posInWindow {i : Nat} {up : Bool} (h : Keeps s₀ s) : Keeps s₀ (s.posInWindow i up) := by
  unfold State.posInWindow
  extract_lets
  split
  · exact Keeps.ite h.posResults h.setPos
  · exact h.setPos

theorem Keeps.judgeBehind {i : Nat} (h : Keeps s₀ s) : Keeps s₀ (s.judgeBehind i) := h.flagIf

theorem Keeps.posCount {i : Nat} {up : Bool} (h : Keeps s₀ s) : Keeps s₀ (s.posCount i up) := by
  unfold State.posCount
  extract_lets s0 v _ s1 s2
  have h0 : Keeps s₀ s0 := h.posInWindow
  have h1 : Keeps s₀ s1 := h0.setPos.put
  have h2 : Keeps s₀ s2 := h1.put.put
  refine Keeps.emuEdge ?_
  split
  · exact h2.posJudge
  · exact h2.unraise.judgeBehind.posJudge

theorem Keeps.posEdgeFault {i : Nat} (h : Keeps s₀ s) : Keeps s₀ (s.posEdgeFault i) := h.addTo.raise.event

theorem Keeps.posCountEdgeEffect {i : Nat} {edgeA edgeB bLevel : Bool} {gap : Nat} (h : Keeps s₀ s) :
    Keeps s₀ (posCountEdgeEffect i edgeA edgeB bLevel gap s) := by
  unfold Machine.posCountEdgeEffect
  split
  · split
    · exact h
    · exact h.posEdgeFault
    · exact Keeps.ite h.posEdgeFault h.posCount
    · exact Keeps.ite h.posEdgeFault h.posCount
  · exact h

theorem Keeps.indexLoad {i : Nat} (h : Keeps s₀ s) : Keeps s₀ (s.indexLoad i) := h.put.posLoad.raise.addTo
theorem Keeps.noteIndex {i : Nat} {loaded : Bool} (h : Keeps s₀ s) : Keeps s₀ (s.noteIndex i loaded) := h.setPos

theorem Keeps.posIndexEffect {i : Nat} (h : Keeps s₀ s) : Keeps s₀ (posIndexEffect i s) :=
  .ite (Keeps.ite h.indexLoad.noteIndex (Keeps.ite h.indexLoad.put.noteIndex h.noteIndex)) h

theorem Keeps.posWindowEffect {i : Nat} (h : Keeps s₀ s) : Keeps s₀ (posWindowEffect i s) :=
  h.thenIf (·.posResults.raise.thenIf (·.postFlagFrom))

theorem Keeps.posEnableEffect {i : Nat} (h : Keeps s₀ s) : Keeps s₀ (posEnableEffect i s) := h.thenIf (·.setPos.putAll)
theorem Keeps.posOff {i : Nat} (h : Keeps s₀ s) : Keeps s₀ (s.posOff i) := h.put.setPos

theorem Keeps.cmpArmEffect {i : Nat} (h : Keeps s₀ s) : Keeps s₀ (cmpArmEffect i s) := by
  unfold Machine.cmpArmEffect
  split
  · split
    · exact h.put
    · exact h.elseIf (·.put.posJudge)
  · exact h

theorem Keeps.idxArmEffect {i : Nat} (h : Keeps s₀ s) : Keeps s₀ (idxArmEffect i s) := by
  unfold Machine.idxArmEffect
  split
  · split
    · exact h.put
    · exact Keeps.ite (h.elseIf (·.indexLoad.noteIndex)) h.put
  · exact h

theorem Keeps.posWriteEffect {i v : Nat} (h : Keeps s₀ s) : Keeps s₀ (posWriteEffect i v s) := h.thenIf (·.posLoad)
theorem Keeps.cmpPosEffect {i v : Nat} (h : Keeps s₀ s) : Keeps s₀ (cmpPosEffect i v s) := h.thenIf (·.put.judgeBehind.setPos)
theorem Keeps.spdnetReadEffect {i : Nat} (h : Keeps s₀ s) : Keeps s₀ (spdnetReadEffect i s) := h.thenIf (·.put.readData)
theorem Keeps.emuEnableEffect {i : Nat} (h : Keeps s₀ s) : Keeps s₀ (emuEnableEffect i s) := h.thenIf (·.put.setPos.emuUpdate)
theorem Keeps.emuStepEffect {i : Nat} (h : Keeps s₀ s) : Keeps s₀ (emuStepEffect i s) := h.thenIf (·.setPos.emuUpdate)
theorem Keeps.emuOff {i : Nat} (h : Keeps s₀ s) : Keeps s₀ (s.emuOff i) := h.put.emuUpdate
theorem Keeps.fencePos {i : Nat} (h : Keeps s₀ s) : Keeps s₀ (s.fencePos i) := h.putAll

/-! ## Adc -/

theorem Keeps.setAdc {c : Nat} {x : AdcSt} (h : Keeps s₀ s) : Keeps s₀ (s.setAdc c x) := h.update
theorem Keeps.adcShow {c : Nat} (h : Keeps s₀ s) : Keeps s₀ (s.adcShow c) := h.setAdc.putAll
theorem Keeps.adcStart {c : Nat} {waited : Bool} {r : AdcReq} (h : Keeps s₀ s) : Keeps s₀ (s.adcStart c waited r) := h.setAdc.adcShow
theorem Keeps.adcOverrun {c : Nat} (h : Keeps s₀ s) : Keeps s₀ (s.adcOverrun c) := h.raise.addTo.setAdc

theorem Keeps.adcTrig {c src : Nat} (h : Keeps s₀ s) : Keeps s₀ (s.adcTrig c src) :=
  .ite h (Keeps.ite h.adcOverrun (Keeps.ite h.setAdc.adcStart (Keeps.ite h.setAdc.setAdc.adcShow h.setAdc.adcOverrun)))

theorem Keeps.adcUndo {c : Nat} (h : Keeps s₀ s) : Keeps s₀ (s.adcUndo c) := by
  unfold State.adcUndo
  extract_lets x stays s1
  have h1 : Keeps s₀ s1 := h.setAdc.adcShow
  split
  · exact Keeps.ite (h1.put.put.elseIf (·.unpend)).update h1
  · exact h1

theorem Keeps.adcRewrite {c : Nat} (h : Keeps s₀ s) : Keeps s₀ (s.adcRewrite c) := h.setAdc
theorem Keeps.adcGoEffect {c : Nat} (h : Keeps s₀ s) : Keeps s₀ (adcGoEffect c s) := h.thenIf (·.adcTrig)

theorem Keeps.adcTriggerEffect {c : Nat} (h : Keeps s₀ s) : Keeps s₀ (adcTriggerEffect c s) := by
  unfold Machine.adcTriggerEffect
  extract_lets
  split
  · split
    · split
      · exact h
      · exact h.setAdc.adcTrig
    · exact h.thenIf (·.reachOfs.setAdc.adcTrig)
  · exact h

theorem Keeps.adcFirstCal {c : Nat} (h : Keeps s₀ s) : Keeps s₀ (s.adcFirstCal c) := h.elseIf (·.useFree.setAdc.put)

theorem Keeps.adcNext {c : Nat} (h : Keeps s₀ s) : Keeps s₀ (s.adcNext c) := by
  unfold State.adcNext
  extract_lets
  split
  · exact h.adcShow
  · exact h.setAdc.adcStart

theorem Keeps.adcLastEffect {c : Nat} (h : Keeps s₀ s) : Keeps s₀ (adcLastEffect c s) := by
  unfold Machine.adcLastEffect
  split
  · exact h
  · exact h.thenIf (·.pass.adcFirstCal.setAdc.adcNext)

theorem Keeps.adcJudge {c : Nat} {r : AdcReq} {avg : Nat} {codes : List Nat} (h : Keeps s₀ s) : Keeps s₀ (s.adcJudge c r avg codes) :=
  .ite h.raise.event (h.thenIf (·.raise))

theorem Keeps.adcPost {c avg : Nat} (h : Keeps s₀ s) : Keeps s₀ (s.adcPost c avg) :=
  (h.thenIf (·.postOperandFrom)).thenIf (·.postFlagFrom)

theorem Keeps.adcWrite {c : Nat} {codes : List Nat} (h : Keeps s₀ s) : Keeps s₀ (s.adcWrite c codes) := h.writeFrom

theorem Keeps.adcResults {c : Nat} {r : AdcReq} {codes : List Nat} (h : Keeps s₀ s) : Keeps s₀ (s.adcResults c r codes) :=
  (h.thenIf (·.adcWrite)).putAll.raise.addTo.adcJudge.adcPost

theorem Keeps.adcDoneEffect {c : Nat} {codes : List Nat} (h : Keeps s₀ s) : Keeps s₀ (adcDoneEffect c codes s) := by
  unfold Machine.adcDoneEffect
  extract_lets
  split
  · exact h
  · exact h.thenIf (·.pass.setAdc.adcShow.adcResults)

theorem Keeps.adcPartial {c : Nat} {r : AdcReq} (h : Keeps s₀ s) : Keeps s₀ (s.adcPartial c r) := h.thenIf (·.adcWrite.useFree)

theorem Keeps.adcStop {c : Nat} (h : Keeps s₀ s) : Keeps s₀ (s.adcStop c) := by
  unfold State.adcStop
  extract_lets x s0 s1
  have h0 : Keeps s₀ s0 := by
    unfold s0
    split
    · exact h.adcPartial
    · exact h
  have h1 : Keeps s₀ s1 := by
    unfold s1
    split
    · exact (h0.thenIf (·.adcFirstCal)).adcPartial
    · exact h0
  exact h1.setAdc.adcShow

theorem Keeps.adcStopEffect {c : Nat} (h : Keeps s₀ s) : Keeps s₀ (adcStopEffect c s) := h.thenIf (·.adcUndo.adcStop)
theorem Keeps.calNowEffect {c : Nat} (h : Keeps s₀ s) : Keeps s₀ (calNowEffect c s) := h.thenIf (·.setAdc)
theorem Keeps.adcCalDueEffect {c : Nat} (h : Keeps s₀ s) : Keeps s₀ (adcCalDueEffect c s) := h.thenIf (·.setAdc)
theorem Keeps.adcRecal {c : Nat} (h : Keeps s₀ s) : Keeps s₀ (s.adcRecal c) := .ite (Keeps.ite h.setAdc.adcShow h.setAdc.raise) h

theorem Keeps.adcRecalStartEffect {c waitNs : Nat} (h : Keeps s₀ s) : Keeps s₀ (adcRecalStartEffect c waitNs s) :=
  h.thenIf (·.pass.adcRecal)

theorem Keeps.adcRetryEffect {c waitNs : Nat} (h : Keeps s₀ s) : Keeps s₀ (adcRetryEffect c waitNs s) := h.thenIf (·.pass.setAdc.adcRecal)

theorem Keeps.adcRecalDoneEffect {c : Nat} {ofs gain : ℤ} (h : Keeps s₀ s) : Keeps s₀ (adcRecalDoneEffect c ofs gain s) :=
  .ite (h.pass.setAdc.adcShow.thenIf (·.raise.event)).adcNext h

theorem Keeps.fenceAdc {c : Nat} (h : Keeps s₀ s) : Keeps s₀ (s.fenceAdc c) := h.adcStop.putAll.setAdc.adcShow

/-! ## TimeBase -/

theorem Keeps.setServo {x : ServoSt} (h : Keeps s₀ s) : Keeps s₀ (s.setServo x) := h.update
theorem Keeps.planEnd (h : Keeps s₀ s) : Keeps s₀ s.planEnd := h.update
theorem Keeps.realignCond (h : Keeps s₀ s) : Keeps s₀ s.realignCond := h.cond
theorem Keeps.shiftCycle {d : ℤ} (h : Keeps s₀ s) : Keeps s₀ (s.shiftCycle d) := h.thenIf (·.update.planEnd.realignCond)
theorem Keeps.noteFire {b : FireBack} (h : Keeps s₀ s) : Keeps s₀ (s.noteFire b) := h.update

theorem Keeps.tcmpFire {c : Nat} {late : Bool} (h : Keeps s₀ s) : Keeps s₀ (s.tcmpFire c late) :=
  .ite (h.put.raise.thenIf (·.raise.raise)).postFlagFrom.noteFire (h.put.raise.thenIf (·.raise.raise)).noteFire

theorem Keeps.unfire {b : FireBack} (h : Keeps s₀ s) : Keeps s₀ (s.unfire b) := by
  unfold State.unfire
  extract_lets s1
  have h1 : Keeps s₀ s1 := by
    unfold s1
    split
    · exact h.unpostFlag
    · exact h
  exact h1.unraise.put

theorem Keeps.unfireAll {keep : Nat → Bool} (h : Keeps s₀ s) : Keeps s₀ (s.unfireAll keep) :=
  (h.update.foldl Keeps.unfire).foldl Keeps.tcmpFire

theorem Keeps.tcmpJudge {c : Nat} (h : Keeps s₀ s) : Keeps s₀ (s.tcmpJudge c) := h.thenIf (·.tcmpFire)
theorem Keeps.retimeAdc (h : Keeps s₀ s) : Keeps s₀ s.retimeAdc := h.update
theorem Keeps.shiftSlots {dNs : ℤ} (h : Keeps s₀ s) : Keeps s₀ (s.shiftSlots dNs) := h.update

theorem Keeps.stepTo {t : Nat} (h : Keeps s₀ s) : Keeps s₀ (s.stepTo t) :=
  h.unfireAll.wrapTime.shiftCycle.retimeAdc.put.forAll Keeps.tcmpJudge

theorem Keeps.nowLoEffect (h : Keeps s₀ s) : Keeps s₀ (nowLoEffect s) := h.thenIf (·.put.put.readData)

theorem Keeps.undoStep (h : Keeps s₀ s) : Keeps s₀ s.undoStep := by
  unfold State.undoStep
  extract_lets
  split
  · exact h
  · exact h.thenIf (·.shiftSlots.unpost.update.putAll.unraise.addTo)

theorem Keeps.timeSetEffect (h : Keeps s₀ s) : Keeps s₀ (timeSetEffect s) := .ite (h.undoStep.thenIf (·.update)).stepTo.update h
theorem Keeps.setInc {inc : Nat} (h : Keeps s₀ s) : Keeps s₀ (s.setInc inc) := (h.update.put.put.thenIf (·.planEnd)).retimeAdc
theorem Keeps.incNsEffect {v : Nat} (h : Keeps s₀ s) : Keeps s₀ (incNsEffect v s) := h.thenIf (·.setInc)

theorem Keeps.tcmpTgtEffect {c v : Nat} (h : Keeps s₀ s) : Keeps s₀ (tcmpTgtEffect c v s) :=
  .ite ((h.thenIf (·.unfireAll.put)).put.thenIf (·.put.tcmpJudge)) h

theorem Keeps.tcmpFireEffect {c : Nat} (h : Keeps s₀ s) : Keeps s₀ (tcmpFireEffect c s) := h.thenIf (·.reach.tcmpFire)
theorem Keeps.applyRate {rate : ℤ} (h : Keeps s₀ s) : Keeps s₀ (s.applyRate rate) := h.update.putS.setInc

theorem Keeps.offsetLock {off : ℤ} (h : Keeps s₀ s) : Keeps s₀ (s.offsetLock off) :=
  .ite (h.put.update.thenIf (·.put)) h.put.update.put

theorem Keeps.servoCompute {off : ℤ} (h : Keeps s₀ s) : Keeps s₀ (s.servoCompute off) := h.update.flagIf.applyRate

theorem Keeps.servoTake {off : ℤ} (h : Keeps s₀ s) : Keeps s₀ (s.servoTake off) :=
  .ite (h.putS.offsetLock.thenIf (·.put)).update (h.putS.offsetLock.thenIf (·.put)).servoCompute

theorem Keeps.offsetUndo (h : Keeps s₀ s) : Keeps s₀ s.offsetUndo := by
  unfold State.offsetUndo
  split
  · exact h
  · exact h.thenIf (·.putAll.unraise.setInc.update)

theorem Keeps.servoOffset {src : Nat} {off : ℤ} (h : Keeps s₀ s) : Keeps s₀ (s.servoOffset src off) := h.thenIf (·.servoTake.update)
theorem Keeps.servoOffsetEffect {src : Nat} {off : ℤ} (h : Keeps s₀ s) : Keeps s₀ (servoOffsetEffect src off s) := h.servoOffset
theorem Keeps.servoStep {off : ℤ} (h : Keeps s₀ s) : Keeps s₀ (s.servoStep off) := h.stepTo.shiftSlots.putAll.raise.update.addTo.event0

theorem Keeps.stepAtCycle (h : Keeps s₀ s) : Keeps s₀ s.stepAtCycle := by
  unfold State.stepAtCycle
  extract_lets _ s1
  have h1 : Keeps s₀ s1 := h.update
  split
  · exact h
  · exact Keeps.ite (Keeps.ite h1 (Keeps.ite h1.put.applyRate h1.servoStep)) h

theorem Keeps.holdoverEffect (h : Keeps s₀ s) : Keeps s₀ (holdoverEffect s) := h.thenIf (·.put.raise.eventOpen)

theorem Keeps.srvSrcEffect {v : Nat} (h : Keeps s₀ s) : Keeps s₀ (srvSrcEffect v s) :=
  .ite h.config (Keeps.ite ((h.elseIf (·.offsetUndo)).put.thenIf (·.put)) h)

theorem Keeps.ppsInEffect (h : Keeps s₀ s) : Keeps s₀ (ppsInEffect s) := h.thenIf (·.elseIf (·.update.put.cond.servoOffset))
theorem Keeps.ppsMissEffect (h : Keeps s₀ s) : Keeps s₀ (ppsMissEffect s) := h.thenIf (·.pass.cond)
theorem Keeps.ppsRiseEffect (h : Keeps s₀ s) : Keeps s₀ (ppsRiseEffect s) := h.thenIf (·.reach.update)
theorem Keeps.ppsFallEffect (h : Keeps s₀ s) : Keeps s₀ (ppsFallEffect s) := h.thenIf (·.pass.update)

theorem Keeps.timeTick (h : Keeps s₀ s) : Keeps s₀ s.timeTick :=
  .ite h.wrapTime h.update

/-! ## ArmOps -/

theorem Keeps.leaveOff (h : Keeps s₀ s) : Keeps s₀ s.leaveOff := h.foldl Keeps.post
theorem Keeps.lvlShow (h : Keeps s₀ s) : Keeps s₀ s.lvlShow := h.elseIf (·.putAll)
theorem Keeps.setArmMode {m : ArmMode} (h : Keeps s₀ s) : Keeps s₀ (s.setArmMode m) := h.update.lvlShow.thenIf (·.leaveOff)
theorem Keeps.armImmediate {m : ArmMode} (h : Keeps s₀ s) : Keeps s₀ (s.armImmediate m) := h.update.lvlShow.blockSlots.askBlockFrames

theorem Keeps.armBlock (h : Keeps s₀ s) : Keeps s₀ s.armBlock := by
  unfold State.armBlock
  split
  · exact h.armImmediate
  · exact h.armImmediate
  · exact h
  · exact h
  · exact h

theorem Keeps.armFault (h : Keeps s₀ s) : Keeps s₀ s.armFault := .ite h.update h.armBlock

theorem Keeps.armHalt (h : Keeps s₀ s) : Keeps s₀ s.armHalt := by
  unfold State.armHalt
  split
  · exact h.armImmediate
  · exact h.armImmediate
  · exact h.armImmediate
  · exact h
  · exact h

theorem Keeps.goBlock (h : Keeps s₀ s) : Keeps s₀ s.goBlock := by
  unfold State.goBlock
  extract_lets
  split
  · split
    · exact h.update.armBlock
    · exact h.update.armBlock
    · exact h
    · exact h
    · exact h
  · exact h

theorem Keeps.gladeLoss {g : Nat} (h : Keeps s₀ s) : Keeps s₀ (s.gladeLoss g) := h.post

/-! ## Net -/

theorem Keeps.modNet {f : NetSt → NetSt} (h : Keeps s₀ s) : Keeps s₀ (s.modNet f) := h.update
theorem Keeps.pairJudge {p q : Nat} {f : EthFrame} (h : Keeps s₀ s) : Keeps s₀ (s.pairJudge p q f) := .ite h.modNet.addTo h.modNet

theorem Keeps.portSend {dst etype : Nat} {tagged : Bool} {body : EthBody} {p : Nat} (h : Keeps s₀ s) :
    Keeps s₀ (s.portSend dst etype tagged body p) :=
  h.thenIf (·.modNet)

theorem Keeps.ethSend {mask dst etype : Nat} {tagged : Bool} {body : EthBody} (h : Keeps s₀ s) :
    Keeps s₀ (s.ethSend mask dst etype tagged body) :=
  (h.forAll Keeps.portSend).forAll Keeps.modNet

theorem Keeps.hsrForward {q : Nat} {f : EthFrame} (h : Keeps s₀ s) : Keeps s₀ (s.hsrForward q f) := by
  unfold State.hsrForward
  exact h.modNet

theorem Keeps.pairTake {p : Nat} {f : EthFrame} (h : Keeps s₀ s) : Keeps s₀ (s.pairTake p f) := by
  unfold State.pairTake
  extract_lets mode s1 s2
  have h1 : Keeps s₀ s1 := h.flagIf
  have h2 : Keeps s₀ s2 := by
    unfold s2
    split
    · exact h1.thenIf (·.hsrForward)
    · exact h1
    · exact h1
  split
  · exact h1
  · split
    · exact h2
    · exact h2.pairJudge

theorem Keeps.ethFrameEffect {p : Nat} {f : EthFrame} (h : Keeps s₀ s) : Keeps s₀ (ethFrameEffect p f s) :=
  .ite (Keeps.ite h.addTo.raise (Keeps.ite h.addTo.raise (Keeps.ite h.addTo.raise h.addTo.pairTake))) h

theorem Keeps.prpExpiredEffect {k srcMac q : Nat} (h : Keeps s₀ s) : Keeps s₀ (prpExpiredEffect k srcMac q s) := by
  unfold Machine.prpExpiredEffect
  extract_lets t s1
  have h1 : Keeps s₀ s1 := h.modNet
  split
  · exact h
  · exact Keeps.ite (h1.elseIf (·.addTo.raise)) h

theorem Keeps.prpSuperEffect {k : Nat} (h : Keeps s₀ s) : Keeps s₀ (prpSuperEffect k s) := h.thenIf (·.modNet.ethSend)

theorem Keeps.anDoneEffect {p : Nat} {full : Bool} (h : Keeps s₀ s) : Keeps s₀ (anDoneEffect p full s) :=
  .ite (Keeps.ite h.put h.raise) h

theorem Keeps.sfpReadEffect {p v : Nat} (h : Keeps s₀ s) : Keeps s₀ (sfpReadEffect p v s) :=
  .ite (Keeps.ite h.put.put.config h.put.put.put) h

theorem Keeps.sfpDoneEffect {p res data : Nat} (h : Keeps s₀ s) : Keeps s₀ (sfpDoneEffect p res data s) :=
  h.thenIf (·.put.put.thenIf (·.put))

theorem Keeps.setStream {j : Nat} {x : StreamSt} (h : Keeps s₀ s) : Keeps s₀ (s.setStream j x) := h.modNet
theorem Keeps.setChan {c : Nat} {x : ChanSt} (h : Keeps s₀ s) : Keeps s₀ (s.setChan c x) := h.modNet

theorem Keeps.armCurrent {v : Nat} (h : Keeps s₀ s) : Keeps s₀ (s.armCurrent v) :=
  .ite (Keeps.ite (Keeps.ite h.put.useFree h.putS) h.putS) h

theorem Keeps.routeArm {c v : Nat} (h : Keeps s₀ s) : Keeps s₀ (s.routeArm c v) := h.thenIf (·.overLink Keeps.armCurrent)

theorem Keeps.svDeliver {c v : Nat} {d : ChannelDecl} (h : Keeps s₀ s) : Keeps s₀ (s.svDeliver c v d) :=
  ((h.overLink Keeps.svToLoops).routeArm.thenIf (·.postOperandFrom)).thenIf (·.postFlagFrom)

theorem Keeps.svChannel {bad : Bool} {a : Asdu} {c : Nat} {x : ChanSt} (h : Keeps s₀ s) : Keeps s₀ (s.svChannel bad a c x) := by
  unfold State.svChannel
  split
  · exact h.setChan
  · exact Keeps.ite h.setChan h.setChan.svDeliver

theorem Keeps.svTake {j : Nat} {x : StreamSt} {cnts : List Nat} {a : Asdu} (h : Keeps s₀ s) : Keeps s₀ (s.svTake j x cnts a) :=
  h.setStream.flagIf.flagIf.flagIf.foldl Keeps.svChannel

theorem Keeps.svFrameEffect {f : SvFrame} (h : Keeps s₀ s) : Keeps s₀ (svFrameEffect f s) := by
  unfold Machine.svFrameEffect
  split
  · split
    · exact h.elseIf (·.svTake)
    · exact h
    · exact h
  · exact h

theorem Keeps.svTimeoutEffect {j : Nat} (h : Keeps s₀ s) : Keeps s₀ (svTimeoutEffect j s) := by
  unfold Machine.svTimeoutEffect
  split
  · exact h
  · exact Keeps.ite (Keeps.ite h.setStream.raise.post h.setStream.raise.post) h

theorem Keeps.svsInfoEffect {v : Nat} (h : Keeps s₀ s) : Keeps s₀ (svsInfoEffect v s) := by
  unfold Machine.svsInfoEffect
  extract_lets j s1
  have h1 : Keeps s₀ s1 := h.put
  split
  · split <;> exact h1.putAll
  · exact h

theorem Keeps.svcInfoEffect {v : Nat} (h : Keeps s₀ s) : Keeps s₀ (svcInfoEffect v s) := by
  unfold Machine.svcInfoEffect
  extract_lets c s1
  have h1 : Keeps s₀ s1 := h.put
  split
  · split <;> exact h1.putAll
  · exact h

theorem Keeps.setPub {k : Nat} {x : PubSt} (h : Keeps s₀ s) : Keeps s₀ (s.setPub k x) := h.modNet
theorem Keeps.pubSend {k : Nat} {x : PubSt} (h : Keeps s₀ s) : Keeps s₀ (s.pubSend k x) := h.setPub.ethSend

theorem Keeps.pubNew {k : Nat} (h : Keeps s₀ s) : Keeps s₀ (s.pubNew k) := by
  unfold State.pubNew
  extract_lets
  split
  · exact h
  · exact h.thenIf (·.pubSend.flagIf)

theorem Keeps.gooseNewEffect {k : Nat} (h : Keeps s₀ s) : Keeps s₀ (gooseNewEffect k s) := h.pubNew
theorem Keeps.gooseStop {k since : Nat} (h : Keeps s₀ s) : Keeps s₀ (s.gooseStop k since) := h.thenIf (·.setGlade)

theorem Keeps.gooseRepeatEffect {k : Nat} (h : Keeps s₀ s) : Keeps s₀ (gooseRepeatEffect k s) := by
  unfold Machine.gooseRepeatEffect
  split
  · exact h
  · exact Keeps.ite (Keeps.ite h.pubSend.gooseStop h.pubNew) h

theorem Keeps.gpDataEffect {v : Nat} (h : Keeps s₀ s) : Keeps s₀ (gpDataEffect v s) := h.thenIf (·.put.forAll Keeps.pubNew)
theorem Keeps.setSub {j : Nat} {x : SubSt} (h : Keeps s₀ s) : Keeps s₀ (s.setSub j x) := h.modNet

theorem Keeps.subAct {d : SubDecl} {test : Bool} (h : Keeps s₀ s) : Keeps s₀ (s.subAct d test) :=
  .ite h.postFlagFrom (h.thenIf (·.goBlock.raise.event))

theorem Keeps.subTake {f : GooseFrame} {j : Nat} (h : Keeps s₀ s) : Keeps s₀ (s.subTake f j) := by
  unfold State.subTake
  split
  · exact h
  · extract_lets
    split
    · split
      · exact h.setSub.raise.event0
      · exact Keeps.ite (h.setSub.thenIf (·.subAct)) (h.thenIf (·.setSub))
    · exact h

theorem Keeps.gooseFrameEffect {f : GooseFrame} (h : Keeps s₀ s) : Keeps s₀ (gooseFrameEffect f s) := h.elseIf (·.forAll Keeps.subTake)

theorem Keeps.gooseSubTimeoutEffect {j : Nat} (h : Keeps s₀ s) : Keeps s₀ (gooseSubTimeoutEffect j s) := by
  unfold Machine.gooseSubTimeoutEffect
  split
  · exact h
  · exact h.thenIf (·.setSub.raise.post.thenIf (·.subAct))

theorem Keeps.gsInfoEffect {v : Nat} (h : Keeps s₀ s) : Keeps s₀ (gsInfoEffect v s) := by
  unfold Machine.gsInfoEffect
  extract_lets j s1
  have h1 : Keeps s₀ s1 := h.put
  split
  · split <;> exact h1.putAll
  · exact h

/-! ## Ptp -/

theorem Keeps.setPtp {p : Nat} {x : PtpPort} (h : Keeps s₀ s) : Keeps s₀ (s.setPtp p x) := h.modNet

theorem Keeps.ptpRun (h : Keeps s₀ s) : Keeps s₀ s.ptpRun := by
  unfold State.ptpRun
  extract_lets s1 par s2 s3
  have h1 : Keeps s₀ s1 := h.forAll Keeps.setPtp
  have h2 : Keeps s₀ s2 := h1.modNet
  have h3 : Keeps s₀ s3 := h2.thenIf (·.raise)
  split
  · exact h3.putS.put
  · exact h3

theorem Keeps.ptpSyncEffect {hd : PtpHead} {t1 corr t2 : ℤ} (h : Keeps s₀ s) : Keeps s₀ (ptpSyncEffect hd t1 corr t2 s) :=
  h.thenIf (·.servoOffset)

theorem Keeps.ptpOut {p : Nat} {l : List PtpTx} (h : Keeps s₀ s) : Keeps s₀ (s.ptpOut p l) := h.setPtp.foldl Keeps.ethSend

theorem Keeps.ptpMessageEffect {hd : PtpHead} {m : PtpMsg} (h : Keeps s₀ s) : Keeps s₀ (ptpMessageEffect hd m s) := by
  refine h.thenIf fun h => ?_
  split
  · exact h.setPtp.ptpRun
  · exact h.setPtp.ptpOut
  · exact h.setPtp.thenIf (·.put)

theorem Keeps.ptpSendEffect {p : Nat} {k : PtpSend} (h : Keeps s₀ s) : Keeps s₀ (ptpSendEffect p k s) := by
  unfold Machine.ptpSendEffect
  extract_lets
  split
  · split
    · exact h.thenIf (·.setPtp.ptpOut)
    · exact h.thenIf (·.setPtp.ptpOut)
    · exact h.setPtp.ptpOut
  · exact h

theorem Keeps.ptpTimeoutEffect {p : Nat} (h : Keeps s₀ s) : Keeps s₀ (ptpTimeoutEffect p s) :=
  h.thenIf (·.setPtp.ptpRun.thenIf (·.setPtp))

theorem Keeps.ptpFault {p : Nat} (h : Keeps s₀ s) : Keeps s₀ (s.ptpFault p) := h.thenIf (·.setPtp.ptpRun.raise.event)
theorem Keeps.linkDown {p : Nat} (h : Keeps s₀ s) : Keeps s₀ (s.linkDown p) := h.put.raise.eventOpen.ptpFault
theorem Keeps.ptpFaults {old : State} (h : Keeps s₀ s) : Keeps s₀ (old.ptpFaults s) := h.forAll (·.raise.event)
theorem Keeps.anRestartEffect {p : Nat} (h : Keeps s₀ s) : Keeps s₀ (anRestartEffect p s) := .ite (Keeps.ite h.linkDown h.put) h
theorem Keeps.ethLinkDownEffect {p : Nat} (h : Keeps s₀ s) : Keeps s₀ (ethLinkDownEffect p s) := h.thenIf (·.linkDown)

/-! ## Canopy -/

theorem Keeps.canopyUpEffect {p : Nat} (h : Keeps s₀ s) : Keeps s₀ (canopyUpEffect p s) :=
  .ite (Keeps.ite h.portPeer h.setPort.portPeer) h

theorem Keeps.canopyDownEffect {p : Nat} (h : Keeps s₀ s) : Keeps s₀ (canopyDownEffect p s) := h.thenIf (·.portDown)

theorem Keeps.devidEffect {v : Nat} (h : Keeps s₀ s) : Keeps s₀ (devidEffect v s) :=
  .ite (Keeps.ite h.raise.config (h.put.put.forAll Keeps.peerAgain)) h

theorem Keeps.dropMsg {p : Nat} {flag : Option Field} (h : Keeps s₀ s) : Keeps s₀ (s.dropMsg p flag) := by
  unfold State.dropMsg
  extract_lets s1
  have h1 : Keeps s₀ s1 := h.addTo
  split
  · exact h1.raise
  · exact h1

theorem Keeps.judgeMcrc {p : Nat} {m : CMsg} (h : Keeps s₀ s) : Keeps s₀ (s.judgeMcrc p m) := h.elseIf (·.addTo.raise)

theorem Keeps.canopyMsgEffect {p : Nat} {m : CMsg} (h : Keeps s₀ s) : Keeps s₀ (canopyMsgEffect p m s) := by
  unfold Machine.canopyMsgEffect
  extract_lets s1
  have h1 : Keeps s₀ s1 := h.addTo.judgeMcrc
  split
  · split
    · exact h1.dropMsg
    · split
      · exact h1.thenIf (·.dropMsg)
      · split
        · exact h1.dropMsg
        · split
          · exact h1.dropMsg
          · exact Keeps.ite h1.dropMsg h1.enqueue
  · exact h

theorem Keeps.canopyRxEffect {p : Nat} {lanes : List (List (Nat × Nat))} (h : Keeps s₀ s) : Keeps s₀ (canopyRxEffect p lanes s) := by
  unfold Machine.canopyRxEffect
  split
  · exact h.canopyMsgEffect
  · exact h

theorem Keeps.canopyTxEffect {p : Nat} (h : Keeps s₀ s) : Keeps s₀ (canopyTxEffect p s) := by
  unfold Machine.canopyTxEffect
  extract_lets s'
  have h_s' : Keeps s₀ s' := h.ckSent.staticAgain
  split
  · split
    · exact h_s'.setPort
    · exact h_s'.setPort.addTo
  · exact h

theorem Keeps.dataMsg {k : Nat} {x : SessSt} {skip : Bool} {o : OutMsg} (h : Keeps s₀ s) : Keeps s₀ (s.dataMsg k x skip o).2 := by
  unfold State.dataMsg
  extract_lets r
  have h_r : Keeps s₀ r.2 := by
    unfold r
    split
    · exact h.readFrom
    · exact h
  exact h_r

theorem Keeps.sendEntry {k : Nat} {x : SessSt} {skip : Bool} {o : OutMsg} (h : Keeps s₀ s) : Keeps s₀ (s.sendEntry k x skip o) :=
  h.dataMsg.sendMsg

theorem Keeps.resend {k : Nat} {x : SessSt} (h : Keeps s₀ s) : Keeps s₀ (s.resend k x) :=
  (List.foldlRecOn (motive := fun r : State × Bool => Keeps s₀ r.1) x.out _ h fun _ hr _ _ => hr.sendEntry).setSess

theorem Keeps.abandon {k n : Nat} {out : List OutMsg} {x : SessSt} (h : Keeps s₀ s) : Keeps s₀ (s.abandon k n out x) := h.setSess.flagIf
theorem Keeps.addBusy {k n : Nat} (h : Keeps s₀ s) : Keeps s₀ (s.addBusy k n) := h.update
theorem Keeps.refuseSend {k : Nat} {down : Bool} (h : Keeps s₀ s) : Keeps s₀ (s.refuseSend k down) := h.putAll.addBusy.raise

theorem Keeps.sendData {k v : Nat} (h : Keeps s₀ s) : Keeps s₀ (s.sendData k v) := by
  unfold State.sendData
  extract_lets dl len s1 s2
  have h1 : Keeps s₀ s1 := h.putAll
  have h2 : Keeps s₀ s2 := h1.refuseSend
  split
  · split
    · exact h.config
    · split
      · exact h1.refuseSend
      · exact Keeps.ite h1.refuseSend (Keeps.ite h2.setSess h1.putAll.sendEntry.setSess)
  · exact h

theorem Keeps.canopySendEffect {k v : Nat} (h : Keeps s₀ s) : Keeps s₀ (canopySendEffect k v s) := .ite h.config h.sendData

theorem Keeps.sessionRtoEffect {k : Nat} (h : Keeps s₀ s) : Keeps s₀ (sessionRtoEffect k s) := by
  unfold Machine.sessionRtoEffect
  split
  · exact h
  · split
    · exact h
    · exact h.thenIf (·.pass.resend)

theorem Keeps.sessionDeadlineEffect {k : Nat} (h : Keeps s₀ s) : Keeps s₀ (sessionDeadlineEffect k s) := by
  unfold Machine.sessionDeadlineEffect
  split
  · exact h
  · split
    · exact h
    · extract_lets s1 rest n s2
      have h1 : Keeps s₀ s1 := h.reach
      have h2 : Keeps s₀ s2 := h1.abandon
      split
      · split
        · exact h2.setSess
        · exact h2
      · exact h

theorem Keeps.enableSess {k : Nat} (h : Keeps s₀ s) : Keeps s₀ (s.enableSess k) := by
  unfold State.enableSess
  split
  · exact h
  · exact h.thenIf (·.setSess.putAll)

theorem Keeps.sessWrite {f : State → State} (h : Keeps s₀ s) (hf : ∀ {x}, Keeps s₀ x → Keeps s₀ (f x)) : Keeps s₀ (s.sessWrite f) :=
  .ite h.config (hf h)

theorem Keeps.sessEnableEffect (h : Keeps s₀ s) : Keeps s₀ (sessEnableEffect s) := h.sessWrite Keeps.enableSess

theorem Keeps.disableNow (h : Keeps s₀ s) : Keeps s₀ s.disableNow := by
  unfold State.disableNow
  split
  · exact h
  · exact h.thenIf (·.abandon)

theorem Keeps.sessDisableEffect (h : Keeps s₀ s) : Keeps s₀ (sessDisableEffect s) := h.sessWrite Keeps.disableNow

theorem Keeps.releaseRx {k : Nat} (h : Keeps s₀ s) : Keeps s₀ (s.releaseRx k) := by
  unfold State.releaseRx
  split
  · exact h
  · exact h.thenIf (·.setSess)

theorem Keeps.rxRelEffect (h : Keeps s₀ s) : Keeps s₀ (rxRelEffect s) := h.sessWrite Keeps.releaseRx

theorem Keeps.sessIdxEffect {v : Nat} (h : Keeps s₀ s) : Keeps s₀ (sessIdxEffect v s) := by
  unfold Machine.sessIdxEffect
  extract_lets k s1
  have h1 : Keeps s₀ s1 := h.put
  split
  · split <;> exact h1.putAll
  · exact h

theorem Keeps.takeBuffer {k : Nat} {x : SessSt} {m : CMsg} (h : Keeps s₀ s) : Keeps s₀ (s.takeBuffer k x m) := by
  unfold State.takeBuffer
  extract_lets s1
  have h1 : Keeps s₀ s1 := by
    unfold s1
    split
    · exact h.writeFrom
    · exact h
  exact Keeps.ite h.raise.ackMsg h1.delivered

theorem Keeps.postWords {k tag i : Nat} {ws : List Nat} (h : Keeps s₀ s) : Keeps s₀ (s.postWords k tag i ws).1 := by
  induction ws generalizing i s with
  | nil => exact h
  | cons w ws ih => exact ih h.postOperandAt

theorem Keeps.takeOperands {k : Nat} {x : SessSt} {m : CMsg} (h : Keeps s₀ s) : Keeps s₀ (s.takeOperands k x m) := by
  unfold State.takeOperands
  extract_lets len r
  have h_r : Keeps s₀ r.1 := h.postWords
  exact Keeps.ite h.setSess.ackMsg <| Keeps.ite h.discardWrites.ackMsg <| Keeps.ite h.ackMsg <| Keeps.ite h_r.setSess <|
    Keeps.ite h_r.delivered <| h_r.ackMsg

theorem Keeps.takeData {k : Nat} {x : SessSt} {m : CMsg} (h : Keeps s₀ s) : Keeps s₀ (s.takeData k x m) :=
  .ite (Keeps.ite h (Keeps.ite h.takeOperands h.takeBuffer)) (h.thenIf (·.ackMsg))

theorem Keeps.dataReceivedEffect {p : Nat} {m : CMsg} (h : Keeps s₀ s) : Keeps s₀ (dataReceivedEffect p m s) := by
  unfold Machine.dataReceivedEffect
  split
  · split
    · exact h.ackMsg
    · split
      · exact h.ackMsg.raise.event0
      · exact Keeps.ite h.takeData h.ackMsg.raise.event0
  · exact h

theorem Keeps.ackUndo {k seq : Nat} {x : SessSt} (h : Keeps s₀ s) : Keeps s₀ (s.ackUndo k seq x) := by
  unfold State.ackUndo
  split
  · exact h.setSess
  · exact Keeps.ite (h.setSess.thenIf (·.unraise)) h.setSess

theorem Keeps.sendAgain {k : Nat} (h : Keeps s₀ s) : Keeps s₀ (s.sendAgain k) := by
  unfold State.sendAgain
  split
  · exact h
  · split
    · exact h
    · exact h.thenIf (·.setSess.addBusy.unraise.sendData)

theorem Keeps.takeAck {k : Nat} {x : SessSt} {m : CMsg} (h : Keeps s₀ s) : Keeps s₀ (s.takeAck k x m) :=
  .ite h.ackUndo.sendAgain (Keeps.ite (h.thenIf (·.resend)) (Keeps.ite h.abandon.sendAgain h.abandon.raise.sendAgain))

theorem Keeps.ackReceivedEffect {p : Nat} {m : CMsg} (h : Keeps s₀ s) : Keeps s₀ (ackReceivedEffect p m s) := by
  unfold Machine.ackReceivedEffect
  split
  · exact h
  · exact h.thenIf (·.takeAck)

theorem Keeps.treqSendEffect {p : Nat} (h : Keeps s₀ s) : Keeps s₀ (treqSendEffect p s) := h.thenIf (·.enqueue)

theorem Keeps.treqReceivedEffect {p : Nat} {m : CMsg} {t2 t3 : Nat} (h : Keeps s₀ s) : Keeps s₀ (treqReceivedEffect p m t2 t3 s) :=
  h.thenIf (·.enqueue)

theorem Keeps.trespReceivedEffect {p : Nat} {m : CMsg} {t1 t4 : ℤ} (h : Keeps s₀ s) : Keeps s₀ (trespReceivedEffect p m t1 t4 s) :=
  .ite (Keeps.ite h.putS.servoOffset h.raise) h

/-! ## Region -/

theorem Keeps.restoreGlobals {b : Nat} (h : Keeps s₀ s) : Keeps s₀ (s.restoreGlobals b) := h.update.putWord.putAll

theorem Keeps.restoreLoop {b k : Nat} (h : Keeps s₀ s) : Keeps s₀ (s.restoreLoop b k) :=
  ((h.foldl Keeps.putWord).put.setLoop.thenIf (·.update)).loopCond

theorem Keeps.restoreRec {i w : Nat} {sl : StaticSlot} {pend : Bool} (h : Keeps s₀ s) : Keeps s₀ (s.restoreRec i w sl pend) :=
  h.setRec.setProt

theorem Keeps.restoreRing {b o : Nat} {st : List StaticRing} (h : Keeps s₀ s) : Keeps s₀ (s.restoreRing b o st) := by
  unfold State.restoreRing
  extract_lets
  split
  · exact h
  · exact (h.putAll.forAll Keeps.restoreRec).setRing

theorem Keeps.restoreRings {b : Nat} {st : List StaticRing} (h : Keeps s₀ s) : Keeps s₀ (s.restoreRings b st) :=
  (h.forAll Keeps.ringDown).update.forAll Keeps.restoreRing

theorem Keeps.restoreBufs {o : Nat} {l : List (Nat × BufSt)} (h : Keeps s₀ s) : Keeps s₀ (s.restoreBufs o l) := by
  induction l generalizing o s with
  | nil => exact h
  | cons e t ih =>
    obtain ⟨k, x⟩ := e
    refine ih ?_
    split
    · exact h.overLink Keeps.eccCopy
    · exact h

theorem Keeps.restoreSched (h : Keeps s₀ s) : Keeps s₀ s.restoreSched := (h.update.foldl Keeps.setSess).fillUpdate

theorem Keeps.restoreAll {b : Nat} {st : List StaticRing} {t : TakeTrigger} (h : Keeps s₀ s) : Keeps s₀ (s.restoreAll b st t) := by
  unfold State.restoreAll
  extract_lets bufs mode s1 s2 s3 _ _ s4
  have h1 : Keeps s₀ s1 := h.restoreGlobals.restoreRings
  have h2 : Keeps s₀ s2 := h1.forAll Keeps.restoreLoop
  have h3 : Keeps s₀ s3 := h2.restoreBufs.restoreSched
  have h4 : Keeps s₀ s4 := h3.update
  exact h4.lvlShow.protConds.budgetCheck.ringsRecheck.regionCheck

/-! ## Amber -/

theorem Keeps.modAmber {f : AmberSt → AmberSt} (h : Keeps s₀ s) : Keeps s₀ (s.modAmber f) := h.update
theorem Keeps.setRole {r : AmberRole} (h : Keeps s₀ s) : Keeps s₀ (s.setRole r) := h.modAmber.pubNew
theorem Keeps.setRepeat {b : Bool} (h : Keeps s₀ s) : Keeps s₀ (s.setRepeat b) := h.forAll Keeps.setLane

theorem Keeps.gateGlades (h : Keeps s₀ s) : Keeps s₀ s.gateGlades := by
  unfold State.gateGlades
  exact (h.engageLatch.forAll Keeps.setGlade).modAmber

theorem Keeps.wakeGlades (h : Keeps s₀ s) : Keeps s₀ s.wakeGlades := h.modAmber

theorem Keeps.enterStandby (h : Keeps s₀ s) : Keeps s₀ s.enterStandby := by
  unfold State.enterStandby
  exact (h.setRole.put.setRepeat.modAmber.forAll Keeps.ringDown).gateGlades

theorem Keeps.endBringUp (h : Keeps s₀ s) : Keeps s₀ s.endBringUp := h.forAll Keeps.ringDown
theorem Keeps.yieldRole (h : Keeps s₀ s) : Keeps s₀ s.yieldRole := h.setRole.endBringUp.setRepeat.modAmber.raise.eventAt

theorem Keeps.roleAssignmentEffect (h : Keeps s₀ s) : Keeps s₀ (roleAssignmentEffect s) := by
  unfold Machine.roleAssignmentEffect
  extract_lets hbNow anyHb pref s1
  have h1 : Keeps s₀ s1 := h.pass
  split
  · exact Keeps.ite h.enterStandby <| Keeps.ite (h.elseIf (·.modAmber.raise)) <|
      Keeps.ite (h1.setRole.setRepeat.forAll Keeps.ringTryStart).sendStatic <| h
  · exact h

theorem Keeps.sendHb {tk : Nat} (h : Keeps s₀ s) : Keeps s₀ (s.sendHb tk) := by
  unfold State.sendHb
  split
  · exact h.pairSend
  · exact h.pairSend
  · exact h.pairSend
  · exact h
  · exact h

theorem Keeps.takeOver {t : TakeTrigger} (h : Keeps s₀ s) : Keeps s₀ (s.takeOver t) := h.setRole.modAmber.srvSrcEffect.wakeGlades.flagIf

theorem Keeps.untake (h : Keeps s₀ s) : Keeps s₀ s.untake := by
  unfold State.untake
  split
  · exact h
  · exact h.thenIf (·.modAmber.modNet.putAll.elseIf (·.gateGlades))

theorem Keeps.silence {F : Field} (h : Keeps s₀ s) : Keeps s₀ (s.silence F) := by
  unfold State.silence
  exact h.raiseWith.modAmber

theorem Keeps.splitSeen (h : Keeps s₀ s) : Keeps s₀ s.splitSeen := h.elseIf (·.modAmber.silence)

theorem Keeps.unalarm (h : Keeps s₀ s) : Keeps s₀ s.unalarm := by
  unfold State.unalarm
  split
  · exact h
  · exact h.thenIf (·.unraiseWith.modAmber)

theorem Keeps.handoverRefused {hd : HbInfo} (h : Keeps s₀ s) : Keeps s₀ (s.handoverRefused hd) := h.thenIf (·.modAmber.config)

theorem Keeps.hbReceivedEffect {p : Nat} {m : CMsg} (h : Keeps s₀ s) : Keeps s₀ (hbReceivedEffect p m s) := by
  unfold Machine.hbReceivedEffect
  extract_lets h' s1 s2
  have h1 : Keeps s₀ s1 := h.untake.unalarm.handoverRefused.modAmber
  have h2 : Keeps s₀ s2 := h1.flagIf
  exact Keeps.ite (Keeps.ite h2.enterStandby.modAmber (h2.thenIf (·.yieldRole))) h

theorem Keeps.heartbeatTimeoutEffect (h : Keeps s₀ s) : Keeps s₀ (heartbeatTimeoutEffect s) := by
  unfold Machine.heartbeatTimeoutEffect
  extract_lets s1
  have h1 : Keeps s₀ s1 := h.pass
  split
  · split
    · exact Keeps.ite h h1.modAmber.silence
    · exact Keeps.ite h1.splitSeen h1.takeOver
    · exact Keeps.ite h1.splitSeen h1.takeOver
    · exact h
    · exact h
  · exact h

theorem Keeps.withdrawGoverns {cls : Nat} (h : Keeps s₀ s) : Keeps s₀ (s.withdrawGoverns cls) := by
  unfold State.withdrawGoverns
  split
  · exact h.thenIf (·.modAmber)
  · exact h

theorem Keeps.withdrawEffect {p : Nat} {m : CMsg} (h : Keeps s₀ s) : Keeps s₀ (withdrawEffect p m s) :=
  .ite (Keeps.ite h.takeOver h.withdrawGoverns) h

theorem Keeps.handoverReceivedEffect {p : Nat} {m : CMsg} (h : Keeps s₀ s) : Keeps s₀ (handoverReceivedEffect p m s) :=
  h.thenIf (·.modAmber.wakeGlades.thenIf (·.takeOver))

theorem Keeps.ckBad {seq : Nat} (h : Keeps s₀ s) : Keeps s₀ (s.ckBad seq) := .ite h.modAmber h.modAmber.raise

theorem Keeps.ckDiscard (h : Keeps s₀ s) : Keeps s₀ s.ckDiscard := by
  unfold State.ckDiscard
  split
  · exact h.ckBad
  · exact h

theorem Keeps.ckJudge {seq size : Nat} (h : Keeps s₀ s) : Keeps s₀ (s.ckJudge seq size) :=
  .ite (h.modAmber.putAll.thenIf (·.takeOver)) h.ckDiscard

theorem Keeps.ckTake {m : CMsg} (h : Keeps s₀ s) : Keeps s₀ (s.ckTake m) := by
  unfold State.ckTake
  extract_lets idx s1 s2
  have h1 : Keeps s₀ s1 := h.thenIf (·.ckDiscard.modAmber)
  have h2 : Keeps s₀ s2 := h1.writeFrom
  split
  · exact h1.ckBad
  · exact Keeps.ite (Keeps.ite h2.ckJudge h2.modAmber) h1.ckDiscard

theorem Keeps.ckptReceivedEffect {p : Nat} {m : CMsg} (h : Keeps s₀ s) : Keeps s₀ (ckptReceivedEffect p m s) := h.thenIf (·.ckTake)
theorem Keeps.statTake {m : CMsg} (h : Keeps s₀ s) : Keeps s₀ (s.statTake m) := .ite (Keeps.ite h.modAmber h.modAmber) h.modAmber
theorem Keeps.staticReceivedEffect {p : Nat} {m : CMsg} (h : Keeps s₀ s) : Keeps s₀ (staticReceivedEffect p m s) := h.thenIf (·.statTake)

theorem Keeps.streamOn2 {c : CkStream} (h : Keeps s₀ s) : Keeps s₀ (s.streamOn2 c) := by
  unfold State.streamOn2
  exact (h.forAll Keeps.pairSend).modAmber

theorem Keeps.streamAbandon (h : Keeps s₀ s) : Keeps s₀ s.streamAbandon := h.thenIf (·.setPort.modAmber.raise)

theorem Keeps.beforeCommit (h : Keeps s₀ s) : Keeps s₀ s.beforeCommit := by
  unfold State.beforeCommit
  split
  · exact h
  · exact h.thenIf (·.update)

theorem Keeps.checkpointCaptureEffect (h : Keeps s₀ s) : Keeps s₀ (checkpointCaptureEffect s) :=
  .ite ((h.reachOfs.streamAbandon.forAll Keeps.loopSampleEffect).elseIf (·.modAmber.useFree.streamOn2)) h

theorem Keeps.checkpointBufferEffect {hd : Nat} (h : Keeps s₀ s) : Keeps s₀ (checkpointBufferEffect hd s) := by
  unfold Machine.checkpointBufferEffect
  split
  · exact h
  · split
    · exact h
    · split
      · split
        · exact h.readFrom.streamOn2
        · exact h
        · exact h
      · exact h

theorem Keeps.ungateCompleteEffect {g : Nat} (h : Keeps s₀ s) : Keeps s₀ (ungateCompleteEffect g s) := h.thenIf (·.setGlade.modAmber)
theorem Keeps.ungateTimeoutEffect {g : Nat} (h : Keeps s₀ s) : Keeps s₀ (ungateTimeoutEffect g s) := h.thenIf (·.modAmber.gladeLoss)

theorem Keeps.takeoverRestoreEffect {restoreNs : Nat} (h : Keeps s₀ s) : Keeps s₀ (takeoverRestoreEffect restoreNs s) := by
  unfold Machine.takeoverRestoreEffect
  split
  · exact h
  · split
    · split
      · exact h.restoreAll.modAmber.put
      · exact h.enterStandby.raise.eventAt
      · exact h.enterStandby.raise.eventAt
    · exact h

theorem Keeps.holdStart (h : Keeps s₀ s) : Keeps s₀ s.holdStart := by
  unfold State.holdStart
  extract_lets s1 s2
  have h1 : Keeps s₀ s1 := h.setRepeat.setRole.modAmber
  have h2 : Keeps s₀ s2 := h1.forAll Keeps.setSlot
  split
  · exact h
  · exact Keeps.ite h2.raise.budgetCheck.regionCheck.sendStatic h

theorem Keeps.holdEnd (h : Keeps s₀ s) : Keeps s₀ s.holdEnd := h.thenIf (·.modAmber.put)
theorem Keeps.handoverEffect (h : Keeps s₀ s) : Keeps s₀ (handoverEffect s) := .ite (Keeps.ite (h.thenIf (·.modAmber)) h.config) h

theorem Keeps.handoverStep (h : Keeps s₀ s) : Keeps s₀ s.handoverStep :=
  .ite h.pairSend.modAmber.raise (h.thenIf (·.setRole.put.setRepeat.modAmber.thenIf (·.enterStandby)))

theorem Keeps.warmSupEffect (h : Keeps s₀ s) : Keeps s₀ (warmSupEffect s) := h.thenIf (·.pass.enterStandby)
theorem Keeps.foreignFrameEffect {n dir : Nat} (h : Keeps s₀ s) : Keeps s₀ (foreignFrameEffect n dir s) := h.thenIf (·.yieldRole)

theorem Keeps.repeatFrameEffect {l : Nat} {blocks : List (Nat × Nat)} (h : Keeps s₀ s) : Keeps s₀ (repeatFrameEffect l blocks s) :=
  h.thenIf (·.setLane.thenIf (·.modAmber.thenIf (·.untake.splitSeen)))

theorem Keeps.sendWithdraw {cls : Nat} (h : Keeps s₀ s) : Keeps s₀ (s.sendWithdraw cls) := h.thenIf (·.setPort.addTo)

theorem Keeps.amberL4 {cls : Nat} (h : Keeps s₀ s) : Keeps s₀ (s.amberL4 cls) := by
  unfold State.amberL4
  split
  · split
    · exact h.sendWithdraw.setRole.modAmber
    · exact h.setRole.setRepeat
    · exact h.setRole.setRepeat
    · exact h.setRole.setRepeat
    · exact h
  · exact h

theorem Keeps.blockRepeatEffect (h : Keeps s₀ s) : Keeps s₀ (blockRepeatEffect s) :=
  .ite ((h.pass.askBlockFrames.modAmber.forAll Keeps.blockFrameEffect).setRepeat.forAll Keeps.ringGladeStop) h

/-! ## EventLevel -/

theorem Keeps.modFlt {f : FltSt → FltSt} (h : Keeps s₀ s) : Keeps s₀ (s.modFlt f) := h.update

theorem Keeps.updateRecord {e : Event} {lvl : Nat} {esc : Bool} (h : Keeps s₀ s) : Keeps s₀ (s.updateRecord e lvl esc) := by
  unfold State.updateRecord
  exact h.modFlt

theorem Keeps.popEvent {e : Event} {s1 : State} (h : Keeps s₀ s) (hp : s.popEvent = some (e, s1)) : Keeps s₀ s1 := by
  obtain ⟨_, _, hx⟩ := Option.map_eq_some_iff.mp hp
  cases hx
  exact h.modFlt

/-! ## Sched -/

theorem Keeps.xpxArith {q : Nat} {acc : Bool} {u rd rs1 rs2 : Nat} (h : Keeps s₀ s) : Keeps s₀ (xpxArith q acc u rd rs1 rs2 s) :=
  h.thenIf (·.setX)

theorem Keeps.pxMulq16Effect {u rd rs1 rs2 : Nat} (h : Keeps s₀ s) : Keeps s₀ (pxMulq16Effect u rd rs1 rs2 s) := h.xpxArith
theorem Keeps.pxMacq16Effect {u rd rs1 rs2 : Nat} (h : Keeps s₀ s) : Keeps s₀ (pxMacq16Effect u rd rs1 rs2 s) := h.xpxArith
theorem Keeps.pxMulq24Effect {u rd rs1 rs2 : Nat} (h : Keeps s₀ s) : Keeps s₀ (pxMulq24Effect u rd rs1 rs2 s) := h.xpxArith
theorem Keeps.pxMacq24Effect {u rd rs1 rs2 : Nat} (h : Keeps s₀ s) : Keeps s₀ (pxMacq24Effect u rd rs1 rs2 s) := h.xpxArith
theorem Keeps.pxPosteEffect {u rs1 : Nat} (h : Keeps s₀ s) : Keeps s₀ (pxPosteEffect u rs1 s) := h.thenIf (·.overLink Keeps.postFlags)

theorem Keeps.pxPostoEffect {u rd rs1 rs2 idx : Nat} (h : Keeps s₀ s) : Keeps s₀ (pxPostoEffect u rd rs1 rs2 idx s) :=
  h.thenIf (·.overLink Keeps.postStalled)

theorem Keeps.pxOpgetEffect {u rd idx : Nat} (h : Keeps s₀ s) : Keeps s₀ (pxOpgetEffect u rd idx s) := h.thenIf (·.setX)
theorem Keeps.flagPostEffect {flags : Nat} (h : Keeps s₀ s) : Keeps s₀ (flagPostEffect flags s) := h.postFlags
theorem Keeps.operandPostEffect {tag idx v : Nat} (h : Keeps s₀ s) : Keeps s₀ (operandPostEffect tag idx v s) := h.postOperand

theorem Keeps.stallTimeoutEffect (h : Keeps s₀ s) : Keeps s₀ (stallTimeoutEffect s) := by
  unfold Machine.stallTimeoutEffect
  split
  · exact h
  · exact h.pass.setStalls.dropOperand

theorem Keeps.hostFlagPostEffect {v : Nat} (h : Keeps s₀ s) : Keeps s₀ (hostFlagPostEffect v s) := h.postFlags
theorem Keeps.hopValEffect {v : Nat} (h : Keeps s₀ s) : Keeps s₀ (hopValEffect v s) := h.thenIf (·.put.postOperand)

theorem Keeps.dispatchEffect {t u : Nat} (h : Keeps s₀ s) : Keeps s₀ (dispatchEffect t u s) := by
  unfold Machine.dispatchEffect
  extract_lets
  split
  · exact h
  · extract_lets
    split
    · exact h
    · exact h.thenIf (·.setTask.setCore)

theorem Keeps.stagingDoneEffect {u : Nat} (h : Keeps s₀ s) : Keeps s₀ (stagingDoneEffect u s) := by
  unfold Machine.stagingDoneEffect
  extract_lets
  split
  · exact h
  · exact h.elseIf (·.setCore.drainStalls.startItem)

theorem Keeps.measure {u : Nat} {w : WorkItem} (h : Keeps s₀ s) : Keeps s₀ (s.measure u w) :=
  (h.modTask.thenIf (·.traceItem)).thenIf (·.raise.taskEvent)

theorem Keeps.unbound {u : Nat} {r : WorkItem × State} (h : Keeps s₀ s) (hu : s.unbound u = some r) : Keeps s₀ r.2 := by
  unfold State.unbound at hu
  split at hu
  · cases hu
  · split at hu
    · cases hu
      exact (h.unpost.putAll.unraise.modTask.thenIf fun hx => ((hx.setMem fun hm => Memory.writeN_wf hm _ _).update).putAll).update
    · cases hu

theorem Keeps.pxEndwEffect {u : Nat} (h : Keeps s₀ s) : Keeps s₀ (pxEndwEffect u s) := by
  unfold Machine.pxEndwEffect
  split
  · next hu => exact (h.unbound hu).measure
  · split
    · split
      · exact h
      · exact h.measure.endItem
    · exact h

theorem Keeps.itemAbortEffect {u cause pc tval : Nat} (h : Keeps s₀ s) : Keeps s₀ (itemAbortEffect u cause pc tval s) :=
  h.thenIf (·.abortItem)

theorem Keeps.runBoundEffect {u pc : Nat} (h : Keeps s₀ s) : Keeps s₀ (runBoundEffect u pc s) := by
  unfold Machine.runBoundEffect
  split
  · exact h.pass.abortItem.useFree.update
  · exact h
  · exact h

theorem Keeps.taskEnableEffect (h : Keeps s₀ s) : Keeps s₀ (taskEnableEffect s) := .ite (Keeps.ite h.config h.modTask) h

theorem Keeps.taskDisableEffect (h : Keeps s₀ s) : Keeps s₀ (taskDisableEffect s) := by
  unfold Machine.taskDisableEffect
  extract_lets
  split
  · split
    · exact h.config
    · split
      · exact h
      · exact h.setTask.dropStaged.update.drainStalls
  · exact h

theorem Keeps.taskIdxEffect {v : Nat} (h : Keeps s₀ s) : Keeps s₀ (taskIdxEffect v s) := by
  unfold Machine.taskIdxEffect
  extract_lets t s1
  have h1 : Keeps s₀ s1 := h.put
  split
  · split <;> exact h1.putAll
  · exact h

theorem Keeps.setBuf {hd : Nat} {f : BufSt → BufSt} (h : Keeps s₀ s) : Keeps s₀ (s.setBuf hd f) := h.setBufs
theorem Keeps.traceMove {b : BufSt} {dest : BufLoc} (h : Keeps s₀ s) : Keeps s₀ (s.traceMove b dest) := h.thenIf (·.traceWrite)

theorem Keeps.recreate {b : BufSt} {dest : BufLoc} (h : Keeps s₀ s) : Keeps s₀ (s.recreate b dest) :=
  h.setBuf.zeroMem.dpLand.raise.taskEvent

theorem Keeps.bufMoveEffect {hd : Nat} {dest : BufLoc} (h : Keeps s₀ s) : Keeps s₀ (bufMoveEffect hd dest s) := by
  unfold Machine.bufMoveEffect
  split
  · exact h
  · exact Keeps.ite (Keeps.ite h.traceMove.recreate h.traceMove.setBuf) h

theorem Keeps.bufMoveDoneEffect {hd : Nat} (h : Keeps s₀ s) : Keeps s₀ (bufMoveDoneEffect hd s) := by
  unfold Machine.bufMoveDoneEffect
  split
  · exact h
  · split
    · exact h
    · exact h.setBuf.eccCopy.dpLand

theorem Keeps.traceSnapEffect (h : Keeps s₀ s) : Keeps s₀ (traceSnapEffect s) := h.thenIf (·.update)

/-! ## ArmCycle -/

theorem Keeps.reachStart (h : Keeps s₀ s) : Keeps s₀ s.reachStart := h.forward
theorem Keeps.skipFrame {n : Nat} (h : Keeps s₀ s) : Keeps s₀ (s.skipFrame n) := h.thenIf (·.skipCycle)

theorem Keeps.sendFrames {tk : Nat} {notReady : List Nat} (h : Keeps s₀ s) : Keeps s₀ (s.sendFrames tk notReady) :=
  h.forAll (fun hx => Keeps.ite hx.skipFrame hx.cycleFrame)

theorem Keeps.cycleFlag (h : Keeps s₀ s) : Keeps s₀ s.cycleFlag := h.postCycleFlag.traceBoundary

theorem Keeps.cycleBody {tk : Nat} {notReady : List Nat} (h : Keeps s₀ s) : Keeps s₀ (s.cycleBody tk notReady) := by
  unfold State.cycleBody
  extract_lets s1 _ s2 s3 t s4 s5
  have h1 : Keeps s₀ s1 := h.forAll Keeps.judgeRing
  have h2 : Keeps s₀ s2 := h1.update
  have h3 : Keeps s₀ s3 := h2.stepAtCycle.planEnd.realignCond.addTo
  have h4 : Keeps s₀ s4 := h3.observe.handoverStep.holdEnd.holdStart
  have h5 : Keeps s₀ s5 := h4.sendFrames
  exact (h5.forAll Keeps.ringTryStart).cycleFlag

theorem Keeps.cycleStartEffect {notReady : List Nat} (h : Keeps s₀ s) : Keeps s₀ (cycleStartEffect notReady s) := by
  unfold Machine.cycleStartEffect
  extract_lets tk s1 s1' src _ s2 s3
  have h1 : Keeps s₀ s1 := h.reachStart.cycleBody
  have h_s1' : Keeps s₀ s1' := h.reachStart
  have h_src : Keeps s₀ src := h_s1'.forAll Keeps.put
  have h2 : Keeps s₀ s2 := h_src.update.stepAtCycle
  have h3 : Keeps s₀ s3 := h2.planEnd.realignCond
  exact Keeps.ite (Keeps.ite h1.sendHb (Keeps.ite h3.sendHb h)) h

theorem Keeps.armRefuse {code : Nat} (h : Keeps s₀ s) : Keeps s₀ (s.armRefuse code) := h.put.raise.config

theorem Keeps.armRequest {r : ArmReq} (h : Keeps s₀ s) : Keeps s₀ (s.armRequest r) := by
  unfold State.armRequest
  extract_lets s1
  have h1 : Keeps s₀ s1 := by
    unfold s1
    split
    · exact h
    · exact h.budgetCheck
    · exact h.budgetCheck
  exact Keeps.ite h1.update h

theorem Keeps.goOffEffect (h : Keeps s₀ s) : Keeps s₀ (goOffEffect s) := h.armRequest
theorem Keeps.goChargeEffect (h : Keeps s₀ s) : Keeps s₀ (goChargeEffect s) := h.armRequest
theorem Keeps.goRunEffect (h : Keeps s₀ s) : Keeps s₀ (goRunEffect s) := h.armRequest
theorem Keeps.goBlockEffect (h : Keeps s₀ s) : Keeps s₀ (goBlockEffect s) := h.goBlock

theorem Keeps.takeRef {mode : Bool} (h : Keeps s₀ s) : Keeps s₀ (s.takeRef mode) := by
  unfold State.takeRef
  extract_lets
  split
  · exact h.update
  · exact h.thenIf (·.update.raise.addSat)

theorem Keeps.selectOrBlock {mode : Bool} (h : Keeps s₀ s) : Keeps s₀ (s.selectOrBlock mode) :=
  .ite (Keeps.ite h.update.eventAt.armBlock h.update.select) h.update.put

theorem Keeps.selectionStartEffect {selNs : Nat} (h : Keeps s₀ s) : Keeps s₀ (selectionStartEffect selNs s) :=
  .ite (Keeps.ite (h.reachOfs.forAll Keeps.judgeRing) (h.reachOfs.forAll Keeps.judgeRing)).update.takeRef.selectOrBlock h

theorem Keeps.judgePending (h : Keeps s₀ s) : Keeps s₀ s.judgePending := by
  unfold State.judgePending
  extract_lets _ s1
  have h1 : Keeps s₀ s1 := h.update
  split
  · exact h
  · extract_lets
    split
    · exact h
    · split
      · split
        · exact h1.setArmMode
        · exact h1
      · exact h1.armRefuse

theorem Keeps.leaveHalt (h : Keeps s₀ s) : Keeps s₀ s.leaveHalt := h.thenIf (·.setArmMode)

theorem Keeps.showPlan {p : Option Plan} (h : Keeps s₀ s) : Keeps s₀ (s.showPlan p) := by
  unfold State.showPlan
  extract_lets es n s1
  have h1 : Keeps s₀ s1 := by
    unfold s1
    refine h.forAll fun hx => ?_
    split <;> exact hx.putAll
  exact h1.putAll

theorem Keeps.commitPoint (h : Keeps s₀ s) : Keeps s₀ s.commitPoint := h.pass.useFree

theorem Keeps.recordSlack (h : Keeps s₀ s) : Keeps s₀ s.recordSlack := by
  unfold State.recordSlack
  split
  · exact h
  · exact h.putS.update

theorem Keeps.commitEffect (h : Keeps s₀ s) : Keeps s₀ (commitEffect s) :=
  h.thenIf (·.commitPoint.judgePending.leaveHalt.showPlan.encode.recordSlack.update)

theorem Keeps.armLockV {addr : Nat} (h : Keeps s₀ s) : Keeps s₀ (s.armLockV addr) := h.raise.config
theorem Keeps.timingCheck {addr : Nat} (h : Keeps s₀ s) : Keeps s₀ (s.timingCheck addr) := h.budgetCheck.elseIf (·.config)
theorem Keeps.realignNow (h : Keeps s₀ s) : Keeps s₀ s.realignNow := h.thenIf (·.planEnd.realignCond)

theorem Keeps.cycLenEffect {v : Nat} (h : Keeps s₀ s) : Keeps s₀ (cycLenEffect v s) :=
  .ite (Keeps.ite h.armLockV (Keeps.ite h.config h.put.put.loopConds.ringsRecheck.timingCheck.regionCheck.realignNow)) h

theorem Keeps.execOfsEffect {v : Nat} (h : Keeps s₀ s) : Keeps s₀ (execOfsEffect v s) :=
  .ite (Keeps.ite h.armLockV h.put.ringsRecheck.timingCheck) h

theorem Keeps.cycPhaseEffect {v : Nat} (h : Keeps s₀ s) : Keeps s₀ (cycPhaseEffect v s) :=
  .ite (Keeps.ite h.armLockV h.put.timingCheck.realignNow) h

theorem Keeps.coreHaltEffect {u : Nat} (h : Keeps s₀ s) : Keeps s₀ (coreHaltEffect u s) := h.thenIf (·.setCore.armHalt.engageLatch)
theorem Keeps.coreResumeEffect {u : Nat} (h : Keeps s₀ s) : Keeps s₀ (coreResumeEffect u s) := h.thenIf (·.setCore.startItem)

/-! ## Age -/

theorem Keeps.modAge {f : AgeSt → AgeSt} (h : Keeps s₀ s) : Keeps s₀ (s.modAge f) := h.update
theorem Keeps.noteSlack {g slack : Nat} (h : Keeps s₀ s) : Keeps s₀ (s.noteSlack g slack) := h.thenIf (·.put)
theorem Keeps.avsRequest {e v : Nat} (h : Keeps s₀ s) : Keeps s₀ (s.avsRequest e v) := h.modAge

theorem Keeps.avsStep {unit v : Nat} {ack : Bool} (h : Keeps s₀ s) : Keeps s₀ (s.avsStep unit v ack) := by
  unfold State.avsStep
  split
  · exact h
  · exact Keeps.ite h.avsRequest.put.lifeRecord.modAge h.avsRequest.raise.event

theorem Keeps.slackStep {g : Nat} {ack : Bool} (h : Keeps s₀ s) : Keeps s₀ (s.slackStep g ack) :=
  .ite (h.elseIf (·.avsStep.thenIf (·.raise))) (Keeps.ite (Keeps.ite h.raise.raise h.raise.modAge) h.raise)

theorem Keeps.pathSlackEffect {g slack : Nat} {ack : Bool} (h : Keeps s₀ s) : Keeps s₀ (pathSlackEffect g slack ack s) :=
  h.thenIf (·.noteSlack.thenIf (·.slackStep))

theorem Keeps.avsWaitEffect {g slack : Nat} (h : Keeps s₀ s) : Keeps s₀ (avsWaitEffect g slack s) := h.thenIf (·.noteSlack.modAge)
theorem Keeps.marginHighEffect {ack : Bool} (h : Keeps s₀ s) : Keeps s₀ (marginHighEffect ack s) := h.thenIf (·.avsStep)

theorem Keeps.budgetRecords {g : Nat} {l : List (Nat × Nat × Bool)} (h : Keeps s₀ s) : Keeps s₀ (s.budgetRecords g l) :=
  h.foldl (·.lifeRecord.useFree.event)

theorem Keeps.stepClock {g f' : Nat} (h : Keeps s₀ s) : Keeps s₀ (s.stepClock g f') := h.put.lifeRecord.update.thenIf (·.raise)

theorem Keeps.groveStepEffect {g : Nat} (h : Keeps s₀ s) : Keeps s₀ (groveStepEffect g s) :=
  h.thenIf (·.modAge.budgetRecords.elseIf (·.stepClock))

theorem Keeps.budgetWindowEffect (h : Keeps s₀ s) : Keeps s₀ (budgetWindowEffect s) := by
  unfold Machine.budgetWindowEffect
  extract_lets s0
  have h0 : Keeps s₀ s0 := h.modAge
  split
  · split
    · exact h0
    · exact h0.thenIf (·.lifeRecord.useFree.event)
  · exact h

theorem Keeps.wearEffect {w : Wear} (h : Keeps s₀ s) : Keeps s₀ (wearEffect w s) :=
  .ite (Keeps.ite h (Keeps.ite h.modAge h.lifeRecord.useFree.event)) h

theorem Keeps.bringIn {w : WearUnit} (h : Keeps s₀ s) : Keeps s₀ (s.bringIn w) := by
  unfold State.bringIn
  split
  · exact h.setCore.retireWorn.raise
  · exact h.putAll
  · exact h.put
  · exact h

theorem Keeps.spareEffect {w : WearUnit} (h : Keeps s₀ s) : Keeps s₀ (spareEffect w s) := by
  unfold Machine.spareEffect
  split
  · exact h
  · exact h.thenIf (·.modAge.bringIn.lifeRecord.event0)

theorem Keeps.operatingHourEffect (h : Keeps s₀ s) : Keeps s₀ (operatingHourEffect s) := h.pass.update.thenIf (·.addSat)

/-! ## SafeIsland -/

theorem Keeps.setIn {i : Nat} {x : SafeIn} (h : Keeps s₀ s) : Keeps s₀ (s.setIn i x) := h.update
theorem Keeps.setPair {m : Nat} {x : SafePair} (h : Keeps s₀ s) : Keeps s₀ (s.setPair m x) := h.update
theorem Keeps.setOut {k : Nat} {x : SafeOut} (h : Keeps s₀ s) : Keeps s₀ (s.setOut k x) := h.update
theorem Keeps.setConn {c : Nat} {x : SafeConn} (h : Keeps s₀ s) : Keeps s₀ (s.setConn c x) := h.update

theorem Keeps.safeStartEffect {selfTestOk : Bool} (h : Keeps s₀ s) : Keeps s₀ (safeStartEffect selfTestOk s) := by
  unfold Machine.safeStartEffect
  extract_lets
  split
  · exact h
  · exact h.thenIf (·.update.putAll.thenIf (·.update.forAll Keeps.enableSess))

theorem Keeps.outOff {k : Nat} (h : Keeps s₀ s) : Keeps s₀ (s.outOff k) := by
  unfold State.outOff
  extract_lets _ s1
  have h1 : Keeps s₀ s1 := h.setOut.put
  split
  · split
    · exact h1
    · exact h1.thenIf (·.goBlock)
  · exact h

theorem Keeps.outsOff (h : Keeps s₀ s) : Keeps s₀ s.outsOff := h.forAll Keeps.outOff
theorem Keeps.lockOut {code idx : Nat} (h : Keeps s₀ s) : Keeps s₀ (s.lockOut code idx) := h.update.outsOff.raise.post

theorem Keeps.safeCause {code idx : Nat} (h : Keeps s₀ s) : Keeps s₀ (s.safeCause code idx) := by
  unfold State.safeCause
  extract_lets flag mark
  have h_flag {x} (hx : Keeps s₀ x) : Keeps s₀ (flag x) := by
    unfold flag
    split
    · exact hx.raise
    · exact hx
  have h_mark : ∀ {x}, Keeps s₀ x → Keeps s₀ (mark x) := Keeps.update
  split
  · exact h_mark (h_flag h).lockOut
  · exact Keeps.ite (h_mark h) (h_mark (h_flag h.update))
  · exact h
  · exact h

theorem Keeps.causeIf {b : Bool} {code idx : Nat} (h : Keeps s₀ s) : Keeps s₀ (s.causeIf b code idx) := h.thenIf (·.safeCause)
theorem Keeps.demanded (h : Keeps s₀ s) : Keeps s₀ s.demanded := h.raise.put.event0

theorem Keeps.inputStep {i : Nat} {c : SafeInputCfg} (h : Keeps s₀ s) : Keeps s₀ (s.inputStep i c) := by
  unfold State.inputStep
  extract_lets x both any enter
  have h_enter : Keeps s₀ enter := h.thenIf (·.setIn.demanded)
  split
  · exact h_enter
  · exact h_enter
  · exact h.thenIf (·.setIn)
  · exact Keeps.ite h.setIn (Keeps.ite h.setIn h.setIn)
  · exact h

theorem Keeps.pairStep {m : Nat} (h : Keeps s₀ s) : Keeps s₀ (s.pairStep m) := by
  unfold State.pairStep
  extract_lets
  split
  · exact Keeps.ite h.setPair (Keeps.ite h.setPair (h.thenIf (·.setPair)))
  · exact Keeps.ite h.setPair (h.elseIf (·.setPair.raise))
  · exact h.elseIf (·.setPair.demanded)
  · exact h.thenIf (·.setPair)

theorem Keeps.sampleIn {a b : Nat} {pulse : Option Nat} {settled : Bool} {i : Nat} (h : Keeps s₀ s) :
    Keeps s₀ (s.sampleIn a b pulse settled i) := by
  unfold State.sampleIn
  extract_lets
  split
  · exact h
  · exact h.elseIf (·.setIn.causeIf.elseIf (·.inputStep))

theorem Keeps.safeSampleEffect {a b : Nat} {pulse : Option Nat} {settled rst : Bool} (h : Keeps s₀ s) :
    Keeps s₀ (safeSampleEffect a b pulse settled rst s) :=
  Keeps.ite (Keeps.ite ((h.update.forAll Keeps.sampleIn).forAll Keeps.pairStep) h.update) h

theorem Keeps.pulseStart {j i : Nat} (h : Keeps s₀ s) : Keeps s₀ (s.pulseStart j i) := by
  unfold State.pulseStart
  extract_lets
  split
  · exact h
  · exact h.setIn

theorem Keeps.testPulseEffect {j : Nat} (h : Keeps s₀ s) : Keeps s₀ (testPulseEffect j s) := h.thenIf (·.update.forAll Keeps.pulseStart)

theorem Keeps.discTimeoutEffect {i : Nat} (h : Keeps s₀ s) : Keeps s₀ (discTimeoutEffect i s) := by
  unfold Machine.discTimeoutEffect
  extract_lets
  split
  · exact h
  · exact h.thenIf (·.setIn.safeCause)

theorem Keeps.twohandEffect {m : Nat} (h : Keeps s₀ s) : Keeps s₀ (twohandEffect m s) := by
  unfold Machine.twohandEffect
  split
  · exact h.thenIf (·.setPair.raise)
  · exact h
  · exact h
  · exact h

theorem Keeps.restartAll (h : Keeps s₀ s) : Keeps s₀ s.restartAll := (h.forAll Keeps.setIn).forAll Keeps.setConn

theorem Keeps.validReset {selfTestOk : Bool} (h : Keeps s₀ s) : Keeps s₀ (s.validReset selfTestOk) := by
  unfold State.validReset
  extract_lets
  split
  · exact h.thenIf (·.update.restartAll.raise)
  · exact h.restartAll.raise
  · exact h
  · exact h

theorem Keeps.safeRstEffect {heldUs : Nat} {selfTestOk : Bool} (h : Keeps s₀ s) : Keeps s₀ (safeRstEffect heldUs selfTestOk s) :=
  .ite (Keeps.ite h.update (Keeps.ite h.update.raise (h.update.elseIf (·.validReset)))) h

theorem Keeps.readPins {c : SafeChecks} {k : Nat} (h : Keeps s₀ s) : Keeps s₀ (s.readPins c k) := h.setOut
theorem Keeps.outStep {k : Nat} (h : Keeps s₀ s) : Keeps s₀ (s.outStep k) := .ite (h.thenIf (·.setOut)) h.outOff

theorem Keeps.safeLogicEffect {c : SafeChecks} (h : Keeps s₀ s) : Keeps s₀ (safeLogicEffect c s) := by
  unfold Machine.safeLogicEffect
  extract_lets r s1 s2
  have h_r : Keeps s₀ r := h.forAll Keeps.readPins
  have h1 : Keeps s₀ s1 := h_r.causeIf.causeIf.causeIf.causeIf.causeIf
  have h2 : Keeps s₀ s2 := (h1.forAll Keeps.causeIf).forAll Keeps.outStep
  exact Keeps.ite h2.update (Keeps.ite h_r h)

theorem Keeps.edmOnEffect {k : Nat} {edmHigh : Bool} (h : Keeps s₀ s) : Keeps s₀ (edmOnEffect k edmHigh s) := h.thenIf (·.setOut.causeIf)

theorem Keeps.edmOffEffect {k : Nat} {edmHigh : Bool} (h : Keeps s₀ s) : Keeps s₀ (edmOffEffect k edmHigh s) :=
  h.thenIf (·.setOut.causeIf)

theorem Keeps.outputTestEffect {k : Nat} {channelB pulseSeen : Bool} (h : Keeps s₀ s) : Keeps s₀ (outputTestEffect k channelB pulseSeen s) :=
  h.thenIf (·.setOut.causeIf)

theorem Keeps.garnetOut {c : SafeConnCfg} {pdu : List Byte} (h : Keeps s₀ s) : Keeps s₀ (s.garnetOut c pdu) := by
  unfold State.garnetOut
  split
  · exact h.ethSend
  · split
    · exact h
    · split
      · exact h
      · exact h.writeFrom.sendData

theorem Keeps.sendPdu {c : Nat} {cfg : SafeConnCfg} {failed : Bool} (h : Keeps s₀ s) : Keeps s₀ (s.sendPdu c cfg failed) :=
  h.setConn.garnetOut

theorem Keeps.garnetSendEffect {c : Nat} (h : Keeps s₀ s) : Keeps s₀ (garnetSendEffect c s) := by
  unfold Machine.garnetSendEffect
  split
  · exact h
  · exact h.thenIf (·.sendPdu)

theorem Keeps.connFail {c : Nat} {count : Bool} (h : Keeps s₀ s) : Keeps s₀ (s.connFail c count) :=
  (h.setConn.raise.thenIf (·.addTo)).event

theorem Keeps.checkFail {c : Nat} {cfg : SafeConnCfg} (h : Keeps s₀ s) : Keeps s₀ (s.checkFail c cfg) :=
  h.setConn.addTo.raise.thenIf (·.connFail)

theorem Keeps.pduValid {c ptype seq data : Nat} {failed : Bool} (h : Keeps s₀ s) : Keeps s₀ (s.pduValid c ptype seq data failed) := by
  unfold State.pduValid
  extract_lets x rx s1
  have h1 : Keeps s₀ s1 := h.setConn
  split
  · exact h.setConn
  · exact h1.thenIf (·.connFail)
  · exact h

theorem Keeps.judgePdu {c : Nat} {cfg : SafeConnCfg} {pdu : List Byte} (h : Keeps s₀ s) : Keeps s₀ (s.judgePdu c cfg pdu) :=
  .ite h.checkFail (h.thenIf (·.pduValid))

theorem Keeps.garnetRxEffect {c : Nat} {pdu : List Byte} (h : Keeps s₀ s) : Keeps s₀ (garnetRxEffect c pdu s) := by
  unfold Machine.garnetRxEffect
  split
  · exact h
  · extract_lets s1
    have h1 : Keeps s₀ s1 := h.judgePdu
    split
    · split
      · exact h1
      · exact h1.releaseRx
    · exact h

theorem Keeps.garnetWdEffect {c : Nat} (h : Keeps s₀ s) : Keeps s₀ (garnetWdEffect c s) := h.thenIf (·.connFail)
theorem Keeps.garnetReopenEffect {c : Nat} (h : Keeps s₀ s) : Keeps s₀ (garnetReopenEffect c s) := h.thenIf (·.setConn)
theorem Keeps.garnetWindowEffect {c : Nat} (h : Keeps s₀ s) : Keeps s₀ (garnetWindowEffect c s) := h.thenIf (·.setConn)

theorem Keeps.safeStop (h : Keeps s₀ s) : Keeps s₀ s.safeStop := by
  unfold State.safeStop
  extract_lets s1 s2
  have h1 : Keeps s₀ s1 := h.outsOff
  have h2 : Keeps s₀ s2 := by
    unfold s2
    refine h1.forAll fun hx => ?_
    split
    · exact hx.sendPdu
    · exact hx
  exact Keeps.ite h2.update h.update

/-! ## Security -/

theorem Keeps.modSec {f : SecSt → SecSt} (h : Keeps s₀ s) : Keeps s₀ (s.modSec f) := h.update
theorem Keeps.modNvm {f : NvmSt → NvmSt} (h : Keeps s₀ s) : Keeps s₀ (s.modNvm f) := h.update
theorem Keeps.readSlot {slot : Nat} (h : Keeps s₀ s) : Keeps s₀ (s.readSlot slot) := h.eccRead
theorem Keeps.secEvent (h : Keeps s₀ s) : Keeps s₀ s.secEvent := h.event

theorem Keeps.quoteEffect (h : Keeps s₀ s) : Keeps s₀ (quoteEffect s) := by
  unfold Machine.quoteEffect
  split
  · split
    · exact h.config
    · exact h.readEcc.modSec
  · exact h

theorem Keeps.readStored {p : Nat} (h : Keeps s₀ s) : Keeps s₀ (s.readStored p).2 := h.readEcc

theorem Keeps.quoteDoneEffect (h : Keeps s₀ s) : Keeps s₀ (quoteDoneEffect s) := by
  unfold Machine.quoteDoneEffect
  extract_lets img u p
  have h_img : Keeps s₀ img.2 := by
    unfold img
    split
    · exact h.readEcc
    · exact h
  have h_u : Keeps s₀ u.2 := h_img.readStored
  have h_p : Keeps s₀ p.2 := h_u.readStored
  split
  · exact h
  · exact Keeps.ite h_p.writeBytes.writeBytes.modSec.raise h

theorem Keeps.dbgChalEffect {c : List Byte} (h : Keeps s₀ s) : Keeps s₀ (dbgChalEffect c s) := h.thenIf (·.writeBytes.modSec)
theorem Keeps.readQbuf (h : Keeps s₀ s) : Keeps s₀ s.readQbuf := h.eccRead

theorem Keeps.dbgAuthEffect (h : Keeps s₀ s) : Keeps s₀ (dbgAuthEffect s) :=
  .ite (Keeps.ite h.readQbuf.modSec.put (h.readQbuf.modSec.modSec.raise.secEvent.thenIf (·.put))) h

theorem Keeps.dbgCloseEffect (h : Keeps s₀ s) : Keeps s₀ (dbgCloseEffect s) := h.thenIf (·.put)
theorem Keeps.commitSvnEffect (h : Keeps s₀ s) : Keeps s₀ (commitSvnEffect s) := h.thenIf (·.put)
theorem Keeps.arming {b img : Bool} (h : Keeps s₀ s) : Keeps s₀ (s.arming b img) := h.modSec.put

theorem Keeps.retArmEffect {v : Nat} (h : Keeps s₀ s) : Keeps s₀ (retArmEffect v s) :=
  .ite (Keeps.ite h.arming (Keeps.ite h.arming h.arming)) h

theorem Keeps.retExpiredEffect (h : Keeps s₀ s) : Keeps s₀ (retExpiredEffect s) := h.thenIf (·.arming)

theorem Keeps.returnPrepIn {s0 : State} (h : Keeps s₀ s) : Keeps s₀ (s0.returnPrepIn s) :=
  .ite (Keeps.ite h.modSec.arming h.configOnce) h

theorem Keeps.returnPrepEffect (h : Keeps s₀ s) : Keeps s₀ (returnPrepEffect s) := h.returnPrepIn
theorem Keeps.wearOne {k : Nat} (h : Keeps s₀ s) : Keeps s₀ (s.wearOne k) := h.modNvm.thenIf (·.event)
theorem Keeps.wearSectors {l : List Nat} (h : Keeps s₀ s) : Keeps s₀ (s.wearSectors l) := h.modNvm.thenIf (·.event)

theorem Keeps.returnDoneEffect (h : Keeps s₀ s) : Keeps s₀ (returnDoneEffect s) := by
  unfold Machine.returnDoneEffect
  split
  · exact h
  · split
    · extract_lets m1 m2 s0 _ _ s1 s2 r
      have hm (hw : s.mem.wf = true) : m2.wf = true := by
        have hw1 : m1.wf = true := Memory.zeroN_wf hw _ _
        unfold m2
        split
        · exact Memory.zeroN_wf hw1 _ _
        · exact hw1
      have h0 : Keeps s₀ s0 := h.clearBad.clearBad
      have h1 : Keeps s₀ s1 := (h0.setMem hm).update.forAll Keeps.wearOne
      have h2 : Keeps s₀ s2 := (h1.thenIf (·.wearSectors)).lifeRecord.useFree
      exact h2.clearBad.writeBytes.put.raise
    · exact h

theorem Keeps.loadPart {p : Nat} (h : Keeps s₀ s) : Keeps s₀ (s.loadPart p) := h.eccCopy
theorem Keeps.readSettings (h : Keeps s₀ s) : Keeps s₀ s.readSettings := h.readQbuf.eccRead
theorem Keeps.storeBytes {p c : Nat} (h : Keeps s₀ s) : Keeps s₀ (s.storeBytes p c) := .ite h.clearBad.writeBytes h.eccCopy
theorem Keeps.storeBegin {p : Nat} (h : Keeps s₀ s) : Keeps s₀ (s.storeBegin p) := h.wearOne.modNvm.storeBytes

theorem Keeps.storeEffect {p : Nat} (h : Keeps s₀ s) : Keeps s₀ (storeEffect p s) := by
  unfold Machine.storeEffect
  extract_lets s1
  have h1 : Keeps s₀ s1 := h.put
  split
  · exact Keeps.ite h.config <| Keeps.ite h1.put.config <| Keeps.ite h1.readSettings.put.raise.raise.secEvent <|
      Keeps.ite h1.put.raise <| h1.storeBegin
  · exact h

theorem Keeps.dumpNow (h : Keeps s₀ s) : Keeps s₀ s.dumpNow :=
  h.zeroMem.setMem fun hm => Memory.foldl_write_wf hm _ _ _

theorem Keeps.dumpHistory (h : Keeps s₀ s) : Keeps s₀ s.dumpHistory := .ite (Keeps.ite h.modNvm h.dumpNow) h
theorem Keeps.dumpAfter (h : Keeps s₀ s) : Keeps s₀ s.dumpAfter := h.thenIf (·.modNvm.dumpNow)

theorem Keeps.storeDoneEffect {ok : Bool} (h : Keeps s₀ s) : Keeps s₀ (storeDoneEffect ok s) := by
  unfold Machine.storeDoneEffect
  split
  · exact h
  · exact Keeps.ite (Keeps.ite (h.thenIf (·.addTo)).modNvm.put.raise (h.thenIf (·.addTo)).modNvm.put.raise).dumpAfter h

theorem Keeps.reloadEffect (h : Keeps s₀ s) : Keeps s₀ (reloadEffect s) := h.thenIf (·.loadPart.loadPart)
theorem Keeps.imgCommitEffect (h : Keeps s₀ s) : Keeps s₀ (imgCommitEffect s) := h.thenIf (·.modNvm)
theorem Keeps.imgVerifiedEffect {slot : Nat} (h : Keeps s₀ s) : Keeps s₀ (imgVerifiedEffect slot s) := h.thenIf (·.readSlot.modNvm.raise)
theorem Keeps.bootPrefEffect {v : Nat} (h : Keeps s₀ s) : Keeps s₀ (bootPrefEffect v s) := .ite (Keeps.ite h.config h.put) h
theorem Keeps.refreshed (h : Keeps s₀ s) : Keeps s₀ s.refreshed := h.modNvm.addTo.lifeRecord.useFree

theorem Keeps.refreshEffect {sector : Nat} {r : EccResult} (h : Keeps s₀ s) : Keeps s₀ (refreshEffect sector r s) :=
  .ite (Keeps.ite h.modNvm.raise.event (h.refreshed.thenIf (·.event0))) h

/-! ## Fences -/

theorem Keeps.markUnit {u cls : Nat} (h : Keeps s₀ s) : Keeps s₀ (s.markUnit u cls) := h.update

theorem Keeps.laneUser {l : Nat} (h : Keeps s₀ s) : Keeps s₀ (s.laneUser l) :=
  .ite h (Keeps.ite (h.thenIf (·.portDown)) (h.thenIf (·.linkDown)))

theorem Keeps.fenceUnit {cls u : Nat} (h : Keeps s₀ s) : Keeps s₀ (s.fenceUnit cls u) := by
  unfold State.fenceUnit
  extract_lets
  split
  · exact h
  · split
    · exact h.fenceCore.markUnit
    · exact h.fenceRing.fenceLane.markUnit.markUnit
    · exact Keeps.ite h.fenceRing.fenceLane.markUnit.markUnit h.fenceLane.laneUser.markUnit
    · exact (h.thenIf (·.portDown)).markUnit
    · exact h.modAmber.markUnit
    · exact (h.thenIf (·.linkDown)).markUnit
    · exact h.markUnit
    · exact h.setServo.markUnit
    · exact h.fenceLoop.markUnit
    · exact h.fenceCh.markUnit
    · exact h.fencePos.markUnit
    · exact h.fenceAdc.markUnit
    · exact h

theorem Keeps.gladeGone {g : Nat} (h : Keeps s₀ s) : Keeps s₀ (s.gladeGone g) := by
  unfold State.gladeGone
  exact Keeps.ite (h.forAll (·.elseIf (·.fenceCore))).loseBuffers <| Keeps.ite (h.forAll (·.fenceRing.fenceLane)) <|
    Keeps.ite h.fenceAdc.fenceAdc <| Keeps.ite h.engageLatch <| Keeps.ite h.safeStop <| h

theorem Keeps.fenceGlade {cls g : Nat} (h : Keeps s₀ s) : Keeps s₀ (s.fenceGlade cls g) := h.elseIf (·.gladeGone.setGlade)

theorem Keeps.applyFence {cls : Nat} {t : Target} (h : Keeps s₀ s) : Keeps s₀ (s.applyFence cls t) := by
  unfold State.applyFence
  split
  · exact h.fenceGlade
  · exact h.forAll Keeps.fenceUnit
  · exact h.elseIf (·.fenceTask)
  · exact h.putAll
  · exact h

theorem Keeps.returnUnit {u : Nat} (h : Keeps s₀ s) : Keeps s₀ (s.returnUnit u) := by
  unfold State.returnUnit
  split
  · exact h.markUnit.markUnit.unfenceRing.unfenceLane
  · exact Keeps.ite h.markUnit.markUnit.unfenceRing.unfenceLane h.markUnit.unfenceLane
  · exact h.markUnit.unfenceCh
  · exact h.markUnit
  · exact h.markUnit
  · exact h.markUnit
  · exact h.markUnit
  · exact h.markUnit
  · exact h.markUnit.ptpFaults
  · exact h.markUnit
  · exact h.markUnit
  · exact h.markUnit
  · exact h

theorem Keeps.resetPages {g : Nat} (h : Keeps s₀ s) : Keeps s₀ (s.resetPages g) := by
  unfold State.resetPages
  extract_lets s1
  have h1 : Keeps s₀ s1 := (h.setRegs keysRise_filter).update
  refine h1.foldl fun hx => ?_
  split
  · split
    · exact hx.put
    · exact hx
  · exact hx

theorem Keeps.condsAgain (h : Keeps s₀ s) : Keeps s₀ s.condsAgain := h.protConds.budgetCheck.ringsRecheck.regionCheck.loopConds

theorem Keeps.returnGlade {g : Nat} (h : Keeps s₀ s) : Keeps s₀ (s.returnGlade g) :=
  (h.resetPages.setGlade.update.thenIf (·.forAll (·.elseIf (·.unfenceRing.update)))).condsAgain

theorem Keeps.loseGlade {g : Nat} (h : Keeps s₀ s) : Keeps s₀ (s.loseGlade g) := h.gladeLoss.fenceGlade.setGlade

/-! ## Faults -/

theorem Keeps.fltIrq {c : Nat} (h : Keeps s₀ s) : Keeps s₀ (s.fltIrq c) := h.thenIf (·.put.signal)

theorem Keeps.writeHist {e : Event} {lvl : Nat} {esc : Bool} (h : Keeps s₀ s) : Keeps s₀ (s.writeHist e lvl esc) :=
  (h.thenIf (·.addTo)).modFlt.put.thenIf (·.put)

theorem Keeps.reactL3 (h : Keeps s₀ s) : Keeps s₀ s.reactL3 := h.armFault.askBlockFrames.engageLatch

theorem Keeps.stopGlade {g : Nat} (h : Keeps s₀ s) : Keeps s₀ (s.stopGlade g) :=
  .ite h (Keeps.ite h (Keeps.ite h.ringGladeStop h.setGlade))

theorem Keeps.safeState {c : Nat} (h : Keeps s₀ s) : Keeps s₀ (s.safeState c) :=
  h.modFlt.put.dumpHistory.safeStop.amberL4.putAll.forAll Keeps.stopGlade

theorem Keeps.targetLost {t : Target} (h : Keeps s₀ s) : Keeps s₀ (s.targetLost t) := by
  unfold State.targetLost
  split
  · exact h.elseIf (·.gladeLoss)
  · exact h
  · exact h
  · exact h
  · exact h

theorem Keeps.takeAt {e : Event} {lvl : Nat} {esc : Bool} (h : Keeps s₀ s) : Keeps s₀ (s.takeAt e lvl esc) := by
  unfold State.takeAt
  extract_lets c s1 s2 s3 t s4 s4' s5 s6 s7
  have h1 : Keeps s₀ s1 := h.addTo
  have h2 : Keeps s₀ s2 := Keeps.ite h1.putAll h1.fltIrq
  have h3 : Keeps s₀ s3 := h2.thenIf (·.postFlagFrom)
  have h4 : Keeps s₀ s4 := Keeps.ite (h3.elseIf (·.targetLost)).applyFence h3
  have h_s4' : Keeps s₀ s4' := h4.thenIf (·.reactL3)
  have h5 : Keeps s₀ s5 := h_s4'.thenIf (·.updateRecord)
  have h6 : Keeps s₀ s6 := h5.thenIf (·.writeHist)
  have h7 : Keeps s₀ s7 := h6.thenIf (·.pubNew)
  exact h7.thenIf (·.safeState)

theorem Keeps.take {e : Event} (h : Keeps s₀ s) : Keeps s₀ (s.take e) := h.elseIf (·.takeAt)

theorem Keeps.takeUpTo {n k : Nat} (h : Keeps s₀ s) : Keeps s₀ (s.takeUpTo n k) := by
  induction n generalizing k s with
  | zero => exact h
  | succ n ih =>
    unfold State.takeUpTo
    split
    · exact h
    · next hp => exact .ite (h.popEvent hp).take (ih (h.popEvent hp).take)

theorem Keeps.faultEventEffect {e : Option Event} (h : Keeps s₀ s) : Keeps s₀ (faultEventEffect e s) := by
  unfold Machine.faultEventEffect
  split
  · split
    · exact h.post.takeUpTo
    · split
      · exact h
      · next hp => exact (h.popEvent hp).take
  · exact h

theorem Keeps.railBack {cls : FaultClass} {c : CauseOf} (h : Keeps s₀ s) : Keeps s₀ (s.railBack cls c) := h.thenIf (·.modFlt)

theorem Keeps.causeClearedEffect {cls : FaultClass} {c : CauseOf} (h : Keeps s₀ s) : Keeps s₀ (causeClearedEffect cls c s) :=
  h.railBack.thenIf (·.modFlt)

theorem Keeps.selfFault {e : Event} (h : Keeps s₀ s) : Keeps s₀ (s.selfFault e) := h.elseIf (·.takeAt)

theorem Keeps.recVoted {F : Field} {v : Nat} (h : Keeps s₀ s) : Keeps s₀ (s.recVoted F v) := by
  unfold State.recVoted
  extract_lets
  split
  · exact h.thenIf (·.modFlt)
  · exact h

theorem Keeps.voteEffect {addr lo c0 c1 c2 : Nat} (h : Keeps s₀ s) : Keeps s₀ (voteEffect addr lo c0 c1 c2 s) := by
  unfold Machine.voteEffect
  extract_lets
  split
  · exact h
  · extract_lets s1
    have h1 : Keeps s₀ s1 := h.thenIf (·.put)
    split
    · split
      · exact (h.put.recVoted.event0.thenIf (·.addTo)).condsAgain
      · exact (Keeps.ite h1.selfFault h1.eventAt).condsAgain
    · exact h

theorem Keeps.ackClass {c : Nat} (h : Keeps s₀ s) : Keeps s₀ (s.ackClass c) := .ite h (Keeps.ite h.raise.config h.modFlt)

theorem Keeps.faultAckEffect {mask : Nat} (h : Keeps s₀ s) : Keeps s₀ (faultAckEffect mask s) :=
  .ite (h.forAll Keeps.ackClass).pubNew h

theorem Keeps.histClrEffect (h : Keeps s₀ s) : Keeps s₀ (histClrEffect s) := h.thenIf (·.modFlt.putAll)
theorem Keeps.recIdxEffect {v : Nat} (h : Keeps s₀ s) : Keeps s₀ (recIdxEffect v s) := h.thenIf (·.put.putAll)
theorem Keeps.clockBack {g : Nat} {clkGood : Bool} (h : Keeps s₀ s) : Keeps s₀ (s.clockBack g clkGood) := h.thenIf (·.pass)

theorem Keeps.unfenceEffect {task : Bool} {ident : Nat} {clkGood : Bool} (h : Keeps s₀ s) : Keeps s₀ (unfenceEffect task ident clkGood s) := by
  unfold Machine.unfenceEffect
  extract_lets s1 g r s2
  have h1 : Keeps s₀ s1 := h.putAll
  have h2 : Keeps s₀ s2 := h1.put
  exact Keeps.ite (Keeps.ite h2.config (Keeps.ite h2.modFlt.unfenceTask (Keeps.ite h2.returnGlade h2.returnUnit))) h

theorem Keeps.oscFault (h : Keeps s₀ s) : Keeps s₀ s.oscFault := h.selfFault

theorem Keeps.clockBad {src : ClockSource} (h : Keeps s₀ s) : Keeps s₀ (s.clockBad src) := by
  unfold State.clockBad
  extract_lets s1
  have h1 : Keeps s₀ s1 := h.oscFault
  split
  · exact h.oscFault
  · exact Keeps.ite (Keeps.ite h1.setGlade h.loseGlade) h

theorem Keeps.clkEdgeEffect {src : ClockSource} (h : Keeps s₀ s) : Keeps s₀ (clkEdgeEffect src s) := h.clockBad
theorem Keeps.clkFreqEffect {src : ClockSource} {khz : Nat} (h : Keeps s₀ s) : Keeps s₀ (clkFreqEffect src khz s) := h.thenIf (·.clockBad)
theorem Keeps.readFails (h : Keeps s₀ s) : Keeps s₀ s.readFails := h.update

theorem Keeps.fenceLink {src dst writes : Nat} {read : Bool} (h : Keeps s₀ s) : Keeps s₀ (s.fenceLink src dst writes read) :=
  h.thenIf (·.update.discardWrites.thenIf (·.readFails))

theorem Keeps.linkRxEffect {src dst writes : Nat} {read : Bool} (h : Keeps s₀ s) : Keeps s₀ (linkRxEffect src dst writes read s) :=
  h.fenceLink

theorem Keeps.linkAckEffect {src dst writes : Nat} {read : Bool} (h : Keeps s₀ s) : Keeps s₀ (linkAckEffect src dst writes read s) :=
  h.fenceLink

theorem Keeps.hostParity {t : Transfer} {isRead : Bool} (h : Keeps s₀ s) : Keeps s₀ (s.hostParity t isRead) := by
  unfold State.hostParity
  split
  · exact h
  · exact h.raise.put.thenIf (·.readFails)

theorem Keeps.linkParityEffect {src dst : Nat} {t : Transfer} {isRead : Bool} (h : Keeps s₀ s) :
    Keeps s₀ (linkParityEffect src dst t isRead s) :=
  Keeps.ite h.hostParity.selfFault (Keeps.ite (h.hostParity.elseIf (·.discardWrites)) h.hostParity.event)

theorem Keeps.supplyEffect {rail : Nat} (h : Keeps s₀ s) : Keeps s₀ (supplyEffect rail s) := h.thenIf (·.elseIf (·.modFlt.post))
theorem Keeps.tjReading {g : Nat} {tj : ℤ} (h : Keeps s₀ s) : Keeps s₀ (s.tjReading g tj) := h.modAge.putS.putS

theorem Keeps.tjLimitEffect {g : Nat} {tj : ℤ} (h : Keeps s₀ s) : Keeps s₀ (tjLimitEffect g tj s) :=
  h.thenIf (·.tjReading.thenIf (·.post))

/-! ## Writes -/

theorem Keeps.writeFields {addr v : Nat} (h : Keeps s₀ s) : Keeps s₀ (s.writeFields addr v) :=
  ((h.foldl Keeps.put).thenIf (·.raise)).thenIf (·.config)

theorem Keeps.writePlain {addr v : Nat} (h : Keeps s₀ s) : Keeps s₀ (s.writePlain addr v) := by
  unfold State.writePlain
  split
  · exact h.thenIf (·.put)
  · split
    · split
      · exact h.writeFields
      · exact h.writeFields.signal
    · exact h.writeFields

theorem Keeps.refuseWord {addr : Nat} (h : Keeps s₀ s) : Keeps s₀ (s.refuseWord addr) := h.config

theorem Keeps.onBit {v j : Nat} {f : State → State} (h : Keeps s₀ s) (hf : ∀ {x}, Keeps s₀ x → Keeps s₀ (f x)) : Keeps s₀ (onBit v j f s) :=
  .ite (hf h) h

/-! ## Router -/

theorem Keeps.writeArmCmd {v : Nat} (h : Keeps s₀ s) : Keeps s₀ (s.writeArmCmd v) := by
  unfold State.writeArmCmd
  extract_lets
  exact Keeps.ite h.goBlockEffect <| Keeps.ite h <| Keeps.ite h.armRefuse <| Keeps.ite h.goOffEffect <|
    Keeps.ite h.goChargeEffect <| h.goRunEffect

theorem Keeps.writeArmCtrl {v : Nat} (h : Keeps s₀ s) : Keeps s₀ (s.writeArmCtrl v) := h.writePlain.thenIf (·.update)

theorem Keeps.writeArm {o v : Nat} (h : Keeps s₀ s) : Keeps s₀ (s.writeArm o v) := by
  unfold State.writeArm
  exact Keeps.ite h.writeArmCtrl <| Keeps.ite h.cycLenEffect <| Keeps.ite h.execOfsEffect <| Keeps.ite h.writeArmCmd <|
    Keeps.ite h.writePlain.lvlShow <| Keeps.ite h.cycPhaseEffect <| Keeps.ite h.refSlopeEffect <| h.writePlain

theorem Keeps.writeRank {o v : Nat} (h : Keeps s₀ s) : Keeps s₀ (s.writeRank o v) :=
  .ite (h.writePlain.onBit Keeps.keySaveEffect) (Keeps.ite h.smIdxEffect h.writePlain)

theorem Keeps.writeHoldCmd {v : Nat} (h : Keeps s₀ s) : Keeps s₀ (s.writeHoldCmd v) := by
  unfold State.writeHoldCmd
  extract_lets
  exact Keeps.ite h.refuseWord <| Keeps.ite h.holdEffect <| Keeps.ite h.releaseEffect <| Keeps.ite h.fbpClrEffect <|
    Keeps.ite h.fireEffect <| h.onSlot (fun hx => hx)

theorem Keeps.writeCmdenc {w : Writer} {o v : Nat} (h : Keeps s₀ s) : Keeps s₀ (s.writeCmdenc w o v) := by
  unfold State.writeCmdenc
  exact Keeps.ite (h.writePlain.onBit Keeps.put) <| Keeps.ite h.writePlain.protConds <| Keeps.ite h.writeHoldCmd <|
    Keeps.ite h.holdInfoEffect <| Keeps.ite h.dcmdPostEffect <| Keeps.ite (h.writePlain.onBit Keeps.leakRoundEffect) <| h.writePlain

theorem Keeps.writeRingCtrl {n v : Nat} (h : Keeps s₀ s) : Keeps s₀ (s.writeRingCtrl n v) := by
  unfold State.writeRingCtrl
  extract_lets s1
  have h1 : Keeps s₀ s1 := Keeps.ite h.ringEnSetEffect h.ringEnClearEffect
  exact Keeps.ite h1.ringAdmitEffect h1.put.setRing

theorem Keeps.writeRingCfg {n v : Nat} (h : Keeps s₀ s) : Keeps s₀ (s.writeRingCfg n v) :=
  h.writePlain.setLane.ringLoss.thenIf (·.admitCheck)

theorem Keeps.writeRing {n o v : Nat} (h : Keeps s₀ s) : Keeps s₀ (s.writeRing n o v) :=
  .ite h.writeRingCtrl (Keeps.ite h.writeRingCfg (Keeps.ite (Keeps.ite h.svcStartEffect h.writePlain) h.writePlain))

theorem Keeps.prbsAgain {l : Nat} (h : Keeps s₀ s) : Keeps s₀ (s.prbsAgain l) := h.setLane

theorem Keeps.writeLaneCtrl {l v : Nat} (h : Keeps s₀ s) : Keeps s₀ (s.writeLaneCtrl l v) :=
  (Keeps.ite h.put.laneEnableEffect h.put.laneDisableEffect).onBit Keeps.readaptIn

theorem Keeps.writeEsCtrl {l v : Nat} (h : Keeps s₀ s) : Keeps s₀ (s.writeEsCtrl l v) :=
  .ite h.esGoEffect ((h.writePlain.onBit Keeps.esFreeEffect).onBit Keeps.esStopEffect)

theorem Keeps.writeLane {l o v : Nat} (h : Keeps s₀ s) : Keeps s₀ (s.writeLane l o v) := by
  unfold State.writeLane
  extract_lets s1 s1' _ s1'2
  have h1 : Keeps s₀ s1 := h.trackTaps.writePlain.trackAgain.adaptOff
  have h_s1' : Keeps s₀ s1' := h.trackTaps.writePlain.trackAgain
  have h_s1'2 : Keeps s₀ s1'2 := h.writePlain
  exact Keeps.ite h.writeLaneCtrl <| Keeps.ite (h1.elseIf (·.prbsAgain)) <| Keeps.ite h_s1'.setLane <|
    Keeps.ite (h_s1'2.elseIf (·.prbsAgain)) <| Keeps.ite h.txEqEffect <| Keeps.ite h.writeEsCtrl <| h.writePlain

theorem Keeps.writeUCtrl {k v : Nat} (h : Keeps s₀ s) : Keeps s₀ (s.writeUCtrl k v) :=
  .ite h.put.loopEnableEffect (h.put.thenIf (·.loopDisableEffect))

theorem Keeps.writeUCfg {k addr v : Nat} (h : Keeps s₀ s) : Keeps s₀ (s.writeUCfg k addr v) := h.writePlain.thenIf (·.put)

theorem Keeps.writeUnit {k b addr v : Nat} (h : Keeps s₀ s) : Keeps s₀ (s.writeUnit k b addr v) := by
  unfold State.writeUnit
  extract_lets
  exact Keeps.ite h.writeUCtrl <| Keeps.ite h.writeUCfg.loopAgain <| Keeps.ite h.uSpEffect <| Keeps.ite h.setLoop <|
    Keeps.ite h.uIntHiEffect <| h.writePlain.loopAgain

theorem Keeps.writeLoop {n o v : Nat} (h : Keeps s₀ s) : Keeps s₀ (s.writeLoop n o v) :=
  .ite (h.onBit Keeps.loopAllOffEffect) (Keeps.ite h.writePlain h.writeUnit)

theorem Keeps.writeChCtrl {c v : Nat} (h : Keeps s₀ s) : Keeps s₀ (s.writeChCtrl c v) :=
  .ite (h.onBit (·.fltClrEffect.useFree)).pwmEnableEffect ((h.onBit (·.fltClrEffect.useFree)).thenIf (·.chOff))

theorem Keeps.writePwm {o v : Nat} (h : Keeps s₀ s) : Keeps s₀ (s.writePwm o v) := by
  unfold State.writePwm
  extract_lets
  exact Keeps.ite ((h.onBit Keeps.pwmAllOffEffect).onBit Keeps.resumeEffect) <| Keeps.ite h.xpairEffect <|
    Keeps.ite h.safeLvlEffect <| Keeps.ite h.writePlain <| Keeps.ite h.writeChCtrl <| Keeps.ite h.chPerEffect <|
    Keeps.ite h.chCmpEffect <| h.writePlain

theorem Keeps.writePosCtrl {i v : Nat} (h : Keeps s₀ s) : Keeps s₀ (s.writePosCtrl i v) := by
  unfold State.writePosCtrl
  extract_lets s1 s2
  have h1 : Keeps s₀ s1 := Keeps.ite h.posEnableEffect h.posOff
  have h2 : Keeps s₀ s2 := Keeps.ite h1.emuEnableEffect (h1.thenIf (·.emuOff))
  exact (h2.onBit Keeps.idxArmEffect).onBit Keeps.cmpArmEffect

theorem Keeps.writePos {i o v : Nat} (h : Keeps s₀ s) : Keeps s₀ (s.writePos i o v) :=
  .ite h.writePosCtrl (Keeps.ite h.posWriteEffect (Keeps.ite h.cmpPosEffect h.writePlain))

theorem Keeps.writeAdc {c o v : Nat} (h : Keeps s₀ s) : Keeps s₀ (s.writeAdc c o v) := by
  unfold State.writeAdc
  extract_lets s0 s1 s1' _ s1'2
  have h0 : Keeps s₀ s0 := h.writePlain
  have h1 : Keeps s₀ s1 := h0.elseIf (·.put)
  have h_s1' : Keeps s₀ s1' := h1.elseIf (·.adcUndo)
  have h_s1'2 : Keeps s₀ s1'2 := h_s1'.elseIf (·.setAdc)
  exact Keeps.ite h1.adcRewrite <|
    Keeps.ite ((Keeps.ite h_s1'2.adcStopEffect (h_s1'2.onBit Keeps.adcGoEffect)).onBit Keeps.calNowEffect) <| h1

theorem Keeps.writeTaskCtrl {v : Nat} (h : Keeps s₀ s) : Keeps s₀ (s.writeTaskCtrl v) :=
  .ite h.refuseWord (Keeps.ite h.taskEnableEffect (Keeps.ite h.taskDisableEffect (h.thenIf (·.config))))

theorem Keeps.writeTraceCtrl {v : Nat} (h : Keeps s₀ s) : Keeps s₀ (s.writeTraceCtrl v) :=
  (h.writePlain.thenIf (·.put.traceSnapEffect)).onBit Keeps.traceSnapEffect

theorem Keeps.writeSched {o v : Nat} (h : Keeps s₀ s) : Keeps s₀ (s.writeSched o v) := by
  unfold State.writeSched
  exact Keeps.ite (Keeps.ite h.raise h.put) <| Keeps.ite h.writePlain.cycleFlagAgain <| Keeps.ite h.hostFlagPostEffect <|
    Keeps.ite h.hopValEffect <| Keeps.ite h.taskIdxEffect <| Keeps.ite h.writeTaskCtrl <| Keeps.ite h.writeTraceCtrl <| h.writePlain

theorem Keeps.writeSrvCfg {v : Nat} (h : Keeps s₀ s) : Keeps s₀ (s.writeSrvCfg v) := h.writePlain.elseIf (·.srvSrcEffect)

theorem Keeps.writePpsCfg {v : Nat} (h : Keeps s₀ s) : Keeps s₀ (s.writePpsCfg v) :=
  .ite (h.writePlain.elseIf (·.update)) h.writePlain.cond

theorem Keeps.writeTime {o v : Nat} (h : Keeps s₀ s) : Keeps s₀ (s.writeTime o v) := by
  unfold State.writeTime
  exact Keeps.ite (h.onBit Keeps.timeSetEffect) <| Keeps.ite h.incNsEffect <| Keeps.ite h.writeSrvCfg <| Keeps.ite h.writePpsCfg <|
    Keeps.ite h.tcmpTgtEffect <| h.writePlain

theorem Keeps.writeEthCtrl {p v : Nat} (h : Keeps s₀ s) : Keeps s₀ (s.writeEthCtrl p v) :=
  (Keeps.ite h.raise.config (Keeps.ite h.put.ptpFault h.put)).onBit Keeps.anRestartEffect

theorem Keeps.writeEth {p o v : Nat} (h : Keeps s₀ s) : Keeps s₀ (s.writeEth p o v) :=
  .ite h.writeEthCtrl (Keeps.ite (Keeps.ite h.sfpReadEffect h.writePlain) h.writePlain)

theorem Keeps.startPubs {old : State} (h : Keeps s₀ s) : Keeps s₀ (old.startPubs s) := h.forAll Keeps.pubNew

theorem Keeps.writePtpCfg {v : Nat} (h : Keeps s₀ s) : Keeps s₀ (s.writePtpCfg v) :=
  (h.writePlain.elseIf (·.modNet.thenIf (·.ptpRun))).ptpFaults

theorem Keeps.writeGpCfg {v : Nat} (h : Keeps s₀ s) : Keeps s₀ (s.writeGpCfg v) := .ite h.refuseWord h.writePlain.startPubs

theorem Keeps.writeNetsv {o v : Nat} (h : Keeps s₀ s) : Keeps s₀ (s.writeNetsv o v) := by
  unfold State.writeNetsv
  exact Keeps.ite h.writePlain.startPubs <| Keeps.ite h.svsInfoEffect <| Keeps.ite h.svcInfoEffect <| Keeps.ite h.writeGpCfg <|
    Keeps.ite h.gpDataEffect <| Keeps.ite h.gsInfoEffect <| Keeps.ite h.writePtpCfg <| h.writePlain

theorem Keeps.writeCanopyCtrl {p v : Nat} (h : Keeps s₀ s) : Keeps s₀ (s.writeCanopyCtrl p v) :=
  .ite (Keeps.ite h.put h.config) h.portDown.put

theorem Keeps.writeSessCtrl {v : Nat} (h : Keeps s₀ s) : Keeps s₀ (s.writeSessCtrl v) :=
  .ite h.refuseWord (Keeps.ite h.sessEnableEffect (Keeps.ite h.sessDisableEffect (h.thenIf (·.rxRelEffect))))

theorem Keeps.writeCanopy {p o v : Nat} (h : Keeps s₀ s) : Keeps s₀ (s.writeCanopy p o v) := by
  unfold State.writeCanopy
  extract_lets
  exact Keeps.ite h.writeCanopyCtrl <| Keeps.ite h.writePlain <| Keeps.ite h.config <| Keeps.ite h.devidEffect <|
    Keeps.ite h.sessIdxEffect <| Keeps.ite h.writeSessCtrl <| Keeps.ite h.canopySendEffect <| h.writePlain

theorem Keeps.writeAmberCfg {v : Nat} (h : Keeps s₀ s) : Keeps s₀ (s.writeAmberCfg v) := by
  unfold State.writeAmberCfg
  extract_lets s0 s1
  have h0 : Keeps s₀ s0 := h.writePlain
  have h1 : Keeps s₀ s1 := h0.flagIf
  exact Keeps.ite h.raise (Keeps.ite h1.modAmber.setRepeat.regionCheck (h1.thenIf (·.setRepeat.cond.forAll Keeps.ringTryStart)))

theorem Keeps.writeAmber {o v : Nat} (h : Keeps s₀ s) : Keeps s₀ (s.writeAmber o v) :=
  .ite (h.onBit Keeps.handoverEffect) (Keeps.ite h.writeAmberCfg h.writePlain)

theorem Keeps.eoi0Effect (h : Keeps s₀ s) : Keeps s₀ (eoi0Effect s) := h.thenIf (·.update)
theorem Keeps.eoi1Effect (h : Keeps s₀ s) : Keeps s₀ (eoi1Effect s) := h.thenIf (·.update)
theorem Keeps.unlockRefuse {v : Nat} (h : Keeps s₀ s) : Keeps s₀ (s.unlockRefuse v) := h.update.raise.put.config

theorem Keeps.unlockEffect {w : Writer} {v : Nat} (h : Keeps s₀ s) : Keeps s₀ (unlockEffect w v s) := by
  unfold Machine.unlockEffect
  extract_lets
  split
  · split
    · exact Keeps.ite h.update h.unlockRefuse
    · exact Keeps.ite h.update.put h.unlockRefuse
  · exact h

theorem Keeps.unlockExpiredEffect (h : Keeps s₀ s) : Keeps s₀ (unlockExpiredEffect s) := h.elseIf (·.update)

theorem Keeps.writeSys {w : Writer} {o v : Nat} (h : Keeps s₀ s) : Keeps s₀ (s.writeSys w o v) :=
  .ite ((h.onBit Keeps.eoi0Effect).onBit Keeps.eoi1Effect) (Keeps.ite h.unlockEffect h.writePlain)

theorem Keeps.writeUnfence {v : Nat} (h : Keeps s₀ s) : Keeps s₀ (s.writeUnfence v) :=
  .ite (h.thenIf (·.useFree)).unfenceEffect h.writePlain

theorem Keeps.writeFlt {o v : Nat} (h : Keeps s₀ s) : Keeps s₀ (s.writeFlt o v) := by
  unfold State.writeFlt
  exact Keeps.ite (h.onBit Keeps.histClrEffect) <| Keeps.ite h.faultAckEffect <| Keeps.ite h.writeUnfence <|
    Keeps.ite h.recIdxEffect <| h.writePlain

theorem Keeps.writeSecCtrl {v : Nat} (h : Keeps s₀ s) : Keeps s₀ (s.writeSecCtrl v) := by
  unfold State.writeSecCtrl
  extract_lets s1 s2
  have h1 : Keeps s₀ s1 := h.onBit Keeps.quoteEffect
  have h2 : Keeps s₀ s2 := h1.onBit (·.dbgChalEffect.useFree)
  split
  · exact h.refuseWord
  · exact (((h2.onBit Keeps.dbgAuthEffect).onBit Keeps.dbgCloseEffect).onBit Keeps.commitSvnEffect).onBit Keeps.returnPrepIn

theorem Keeps.writeSec {o v : Nat} (h : Keeps s₀ s) : Keeps s₀ (s.writeSec o v) :=
  .ite h.writeSecCtrl (Keeps.ite h.retArmEffect h.writePlain)

theorem Keeps.writeNvm {o v : Nat} (h : Keeps s₀ s) : Keeps s₀ (s.writeNvm o v) := by
  unfold State.writeNvm
  extract_lets s1
  have h1 : Keeps s₀ s1 := Keeps.ite h.storeEffect h.put
  exact Keeps.ite ((h1.onBit Keeps.reloadEffect).onBit Keeps.imgCommitEffect) (Keeps.ite h.bootPrefEffect h.writePlain)

theorem Keeps.writeAge {o v : Nat} (h : Keeps s₀ s) : Keeps s₀ (s.writeAge o v) := .ite h.refuseWord h.writePlain

/-! ## Access -/

theorem Keeps.unmapped {addr : Nat} (h : Keeps s₀ s) : Keeps s₀ (s.unmapped addr) := h.raise.put.config
theorem Keeps.parityFails {addr unit : Nat} (h : Keeps s₀ s) : Keeps s₀ (s.parityFails addr unit) := h.raise.put.event

theorem Keeps.pageWrite {w : Writer} {addr v : Nat} (h : Keeps s₀ s) : Keeps s₀ (s.pageWrite w addr v) := by
  unfold State.pageWrite
  extract_lets
  exact Keeps.ite h.writeSys <| Keeps.ite h.writeFlt <| Keeps.ite h.writeSec <| Keeps.ite h.writeNvm <| Keeps.ite h.writeTime <|
    Keeps.ite h.writeSched <| Keeps.ite h.writeAge <| Keeps.ite h.writeRing <| Keeps.ite h.writeRank <| Keeps.ite h.writeArm <|
    Keeps.ite h.writeCmdenc <| Keeps.ite h.writeLoop <| Keeps.ite h.writePwm <| Keeps.ite h.writePos <| Keeps.ite h.writeAdc <|
    Keeps.ite h.writeEth <| Keeps.ite h.writeNetsv <| Keeps.ite h.writeCanopy <| Keeps.ite h.writeAmber <|
    Keeps.ite h.raise.config <| Keeps.ite h.writeLane <| h

theorem Keeps.readByte {a : Nat} (h : Keeps s₀ s) : Keeps s₀ (s.readByte a).2 := by
  unfold State.readByte
  split
  · exact h.useFree
  · exact h

theorem Keeps.dpReadByte {a : Nat} (h : Keeps s₀ s) : Keeps s₀ (s.dpReadByte a).2 := by
  unfold State.dpReadByte
  split
  · exact h
  · extract_lets at_
    have h_at_ (m : Nat) : Keeps s₀ (at_ m).2 := by
      unfold at_
      split
      · exact h
      · split
        · exact h
        · exact h.readByte
    split
    · exact h
    · exact h_at_ _
    · split
      · exact h
      · split
        · exact h_at_ _
        · exact h.useFree

theorem Keeps.sectorErase {m : Nat} (h : Keeps s₀ s) : Keeps s₀ (s.sectorErase m) := by
  have h1 : Keeps s₀ (s.clearBad (nvmBase + 4096 * ((m - nvmBase) / 4096)) 4096) := h.clearBad
  exact .ite h (h1.setMem fun hm => Memory.zeroN_wf hm _ _).update.wearSectors

theorem Keeps.memPut {m : Nat} {b : Byte} {whole : Bool} (h : Keeps s₀ s) : Keeps s₀ (s.memPut m b whole) :=
  ((h.thenIf (·.sectorErase)).setMem fun hm => Memory.write_wf hm m b).update

theorem Keeps.dpWriteByte {a : Nat} {b : Byte} {whole : Bool} (h : Keeps s₀ s) : Keeps s₀ (s.dpWriteByte a b whole).2 := by
  unfold State.dpWriteByte
  extract_lets
  split
  · exact h
  · split
    · exact h
    · split
      · exact h
      · split
        · exact h
        · split
          · exact h
          · exact h.memPut
    · split
      · exact h.update
      · split
        · exact h
        · split
          · exact h
          · split
            · exact h
            · split
              · exact h
              · exact h.memPut

theorem Keeps.dpFail {code a : Nat} (h : Keeps s₀ s) : Keeps s₀ (s.dpFail code a) :=
  .ite h.put.put.addTo.raise.event h.put.put.addTo.raise.event0

theorem Keeps.setDpAddr {a : Nat} (h : Keeps s₀ s) : Keeps s₀ (s.setDpAddr a) := h.put

theorem Keeps.dpReadList {l : List Nat} (h : Keeps s₀ s) : Keeps s₀ (s.dpReadList l).2.2 := by
  induction l generalizing s with
  | nil => exact h
  | cons n t ih => exact ih h.dpReadByte

theorem Keeps.dpWriteList {whole : Nat → Bool} {l : List (Nat × Byte)} (h : Keeps s₀ s) : Keeps s₀ (s.dpWriteList whole l).2 := by
  induction l generalizing s with
  | nil => exact h
  | cons e t ih =>
    obtain ⟨n, b⟩ := e
    exact ih h.dpWriteByte

theorem Keeps.dpRead {len align : Nat} {burst : Bool} (h : Keeps s₀ s) : Keeps s₀ (s.dpRead len align burst).2 := by
  unfold State.dpRead
  extract_lets a inc next r
  have h_next : ∀ {x}, Keeps s₀ x → Keeps s₀ (next x) := (·.thenIf (·.setDpAddr))
  have h_r : Keeps s₀ r.2.2 := h.dpReadList
  split
  · exact h_next h.dpFail
  · refine h_next ?_
    split
    · exact h_r.dpFail
    · exact h_r

theorem Keeps.dpWrite {bs : List Byte} {align : Nat} {burst : Bool} (h : Keeps s₀ s) : Keeps s₀ (s.dpWrite bs align burst) := by
  unfold State.dpWrite
  extract_lets a inc next l s1 r
  have h_next : ∀ {x}, Keeps s₀ x → Keeps s₀ (next x) := (·.thenIf (·.setDpAddr))
  have h1 : Keeps s₀ s1 := h.thenIf (·.discardWrites)
  have h_r : Keeps s₀ r.2 := h1.dpWriteList
  split
  · exact h_next h.dpFail
  · refine h_next ?_
    split
    · exact h_r.dpFail
    · exact h_r

theorem Keeps.dpDataRead (h : Keeps s₀ s) : Keeps s₀ (s.dpDataRead).2 := h.dpRead.thenIf (·.put)
theorem Keeps.dpDataWrite {v : Nat} (h : Keeps s₀ s) : Keeps s₀ (s.dpDataWrite v) := h.dpWrite
theorem Keeps.dpAddrWrite {v : Nat} (h : Keeps s₀ s) : Keeps s₀ (s.dpAddrWrite v) := .ite h.put h.update

theorem Keeps.writeDport {o v : Nat} (h : Keeps s₀ s) : Keeps s₀ (s.writeDport o v) :=
  .ite h.dpAddrWrite (Keeps.ite h.dpDataWrite h.writePlain)

theorem Keeps.regWrite {w : Writer} {addr v : Nat} (h : Keeps s₀ s) : Keeps s₀ (s.regWrite w addr v) := by
  unfold State.regWrite
  split
  · exact h
  · split
    · exact h.unmapped
    · exact h.gatedWrite (fun hx => Keeps.ite hx.writeDport hx.pageWrite)

theorem Keeps.busWrite {w : Writer} {addr v : Nat} (h : Keeps s₀ s) : Keeps s₀ (s.busWrite w addr v) :=
  .ite h (Keeps.ite h.regWrite h.config)

theorem Keeps.clearRead {addr : Nat} (h : Keeps s₀ s) : Keeps s₀ (s.clearRead addr) := h.foldl Keeps.put

theorem Keeps.readAction {addr : Nat} (h : Keeps s₀ s) : Keeps s₀ (s.readAction addr).2 := by
  unfold State.readAction
  extract_lets
  split
  · exact h.nowLoEffect
  · split
    · exact h.spdnetReadEffect
    · split
      · exact h.uIntLoEffect
      · split
        · exact h.trackTaps
        · split
          · exact h.clearRead.useFree
          · split
            · exact h.clearRead.useFree
            · split
              · exact h.dpDataRead
              · exact h.clearRead

theorem Keeps.readWord {addr : Nat} (h : Keeps s₀ s) : Keeps s₀ (s.readWord addr).2 := by
  unfold State.readWord
  split
  · split
    · exact h.clearRead
    · exact h
  · split
    · exact h.useFree
    · split
      · exact h.unmapped
      · split
        · exact h
        · split
          · exact h
          · split
            · exact h
            · exact h.readAction

theorem Keeps.answer {l : List Nat} {err : Bool} (h : Keeps s₀ s) : Keeps s₀ (s.answer l err) := h.update

theorem Keeps.registerWriteEffect {w : Writer} {addr v byteEn : Nat} {parityOk : Bool} (h : Keeps s₀ s) :
    Keeps s₀ (registerWriteEffect w addr v byteEn parityOk s) :=
  Keeps.ite h (Keeps.ite h.pageFault (Keeps.ite h.parityFails (Keeps.ite h.raise.put.config h.busWrite)))

theorem Keeps.statusReadEffect {addr : Nat} {parityOk : Bool} (h : Keeps s₀ s) : Keeps s₀ (statusReadEffect addr parityOk s) := by
  have hw : Keeps s₀ (s.readWord addr).2 := h.readWord
  unfold Machine.statusReadEffect
  refine .ite h (.ite h.answer.parityFails ?_)
  generalize s.readWord addr = r at hw
  obtain ⟨_ | x, s1⟩ := r
  · exact hw.answer
  · exact hw.answer

theorem Keeps.pcieResetEffect {flr : Bool} (h : Keeps s₀ s) : Keeps s₀ (pcieResetEffect flr s) := h.elseIf (·.putAll)
theorem Keeps.pcieUpEffect {speed width : Nat} (h : Keeps s₀ s) : Keeps s₀ (pcieUpEffect speed width s) := h.thenIf (·.putAll)

theorem Keeps.pcieDownEffect {refclkLost : Bool} (h : Keeps s₀ s) : Keeps s₀ (pcieDownEffect refclkLost s) :=
  h.elseIf (·.put.put.thenIf (·.put))

theorem Keeps.setSpiErr {b : Bool} (h : Keeps s₀ s) : Keeps s₀ (s.setSpiErr b) := h.update

theorem Keeps.spiReadList {ofs n : Nat} (h : Keeps s₀ s) : Keeps s₀ (s.spiReadList ofs n).2.2 := by
  induction n generalizing ofs s with
  | zero => exact h
  | succ n ih => exact ih h.readWord

theorem Keeps.spiReadEffect {ofs words : Nat} {parityOk : Bool} (h : Keeps s₀ s) : Keeps s₀ (spiReadEffect ofs words parityOk s) :=
  .ite h (Keeps.ite h.setSpiErr (Keeps.ite h.answer.setSpiErr.parityFails h.spiReadList.answer.setSpiErr))

theorem Keeps.spiWriteList {ofs : Nat} {l : List Nat} (h : Keeps s₀ s) : Keeps s₀ (s.spiWriteList ofs l) := by
  induction l generalizing ofs s with
  | nil => exact h
  | cons v t ih => exact ih h.busWrite

theorem Keeps.spiWriteEffect {ofs : Nat} {bytes : List Byte} {parityOk : Bool} (h : Keeps s₀ s) :
    Keeps s₀ (spiWriteEffect ofs bytes parityOk s) :=
  Keeps.ite h (Keeps.ite h.setSpiErr (Keeps.ite h (Keeps.ite h.parityFails h.spiWriteList)))

theorem Keeps.burstParity {unit : Nat} (h : Keeps s₀ s) : Keeps s₀ (s.burstParity unit) := h.parityFails.useFree

theorem Keeps.burstRead {len : Nat} {parityOk : Bool} (h : Keeps s₀ s) : Keeps s₀ (s.burstRead len parityOk) :=
  .ite h.answer (Keeps.ite h (Keeps.ite h.answer.burstParity h.dpRead.answer))

theorem Keeps.burstWrite {unit : Nat} {bytes : List Byte} {parityOk : Bool} (h : Keeps s₀ s) : Keeps s₀ (s.burstWrite unit bytes parityOk) :=
  .ite h (Keeps.ite h.burstParity (Keeps.ite h.dpWrite h.config))

theorem Keeps.spiDreadEffect {len : Nat} {parityOk : Bool} (h : Keeps s₀ s) : Keeps s₀ (spiDreadEffect len parityOk s) :=
  h.burstRead.setSpiErr

theorem Keeps.spiDwriteEffect {f : SpiFrame} (h : Keeps s₀ s) : Keeps s₀ (spiDwriteEffect f s) :=
  .ite h.burstWrite (h.elseIf (·.elseIf (·.setSpiErr)))

theorem Keeps.spiStatusEffect (h : Keeps s₀ s) : Keeps s₀ (spiStatusEffect s) := h.elseIf (·.answer.setSpiErr)
theorem Keeps.dpAddrWriteEffect {v : Nat} (h : Keeps s₀ s) : Keeps s₀ (dpAddrWriteEffect v s) := h.busWrite
theorem Keeps.dpDataReadEffect (h : Keeps s₀ s) : Keeps s₀ (dpDataReadEffect s) := h.statusReadEffect
theorem Keeps.dpDataWriteEffect {v : Nat} (h : Keeps s₀ s) : Keeps s₀ (dpDataWriteEffect v s) := h.busWrite

theorem Keeps.dpBurstReadEffect {len : Nat} {parityOk : Bool} (h : Keeps s₀ s) : Keeps s₀ (dpBurstReadEffect len parityOk s) :=
  h.thenIf (·.burstRead)

theorem Keeps.dpBurstWriteEffect {bytes : List Byte} {parityOk : Bool} (h : Keeps s₀ s) : Keeps s₀ (dpBurstWriteEffect bytes parityOk s) :=
  h.thenIf (·.burstWrite)

theorem Keeps.memoryScrubEffect {addr : Nat} {r : EccResult} (h : Keeps s₀ s) : Keeps s₀ (memoryScrubEffect addr r s) := by
  unfold Machine.memoryScrubEffect
  split
  · exact h
  · exact h.event0
  · exact h.update.event

/-! ## Startup -/

theorem Keeps.powerOn (h : Keeps s₀ s) : Keeps s₀ s.powerOn := by
  unfold State.powerOn
  extract_lets s1
  have h1 : Keeps s₀ s1 := by
    refine ⟨h.pending, h.variant, fun _ => Nat.two_pow_pos 96, fun hc => ?_⟩
    exact State.canonical_iff.mpr ⟨Memory.filter_wf (State.canonical_iff.mp (h.canonical hc)).1 _, rfl⟩
  exact h1.putAll

theorem Keeps.powerOnEffect {lowNs : Nat} {vsafeLow : Bool} (h : Keeps s₀ s) : Keeps s₀ (powerOnEffect lowNs vsafeLow s) :=
  (h.thenIf (·.powerOn)).update

theorem Keeps.gladeOut {g : Nat} (h : Keeps s₀ s) : Keeps s₀ (s.gladeOut g) := h.thenIf (·.setGlade)
theorem Keeps.setPhase {p : StartPhase} (h : Keeps s₀ s) : Keeps s₀ (s.setPhase p) := h.update
theorem Keeps.porReleaseEffect (h : Keeps s₀ s) : Keeps s₀ (porReleaseEffect s) := .ite (h.forAll Keeps.gladeOut).setPhase h
theorem Keeps.pllLockedEffect (h : Keeps s₀ s) : Keeps s₀ (pllLockedEffect s) := .ite (h.forAll Keeps.gladeOut).setPhase h
theorem Keeps.gladeExitEffect {g : Nat} (h : Keeps s₀ s) : Keeps s₀ (gladeExitEffect g s) := h.elseIf (·.gladeOut)
theorem Keeps.slotFails {F : Field} (h : Keeps s₀ s) : Keeps s₀ (s.slotFails F) := h.raise.secEvent
theorem Keeps.bootSlot {slot svn : Nat} {fallback : Bool} (h : Keeps s₀ s) : Keeps s₀ (s.bootSlot slot svn fallback) := h.putAll.setPhase
theorem Keeps.bootNone (h : Keeps s₀ s) : Keeps s₀ s.bootNone := h.put.setPhase

theorem Keeps.bootFrom {pref : Nat} {v w : Nat ⊕ Field} (h : Keeps s₀ s) : Keeps s₀ (s.bootFrom pref v w) := by
  unfold State.bootFrom
  split
  · exact h.bootSlot
  · exact h.slotFails.bootSlot
  · exact h.slotFails.slotFails.bootNone

theorem Keeps.verifySlots {pref : Nat} (h : Keeps s₀ s) : Keeps s₀ (s.verifySlots pref) := by
  unfold State.verifySlots
  extract_lets s1
  have h1 : Keeps s₀ s1 := h.readSlot
  split
  · exact h1
  · exact h1.readSlot

theorem Keeps.vddBack {e : Nat} {ack : Bool} (h : Keeps s₀ s) : Keeps s₀ (s.vddBack e ack) := by
  unfold State.vddBack
  split
  · exact Keeps.ite h.avsRequest.modAge.put h.avsRequest.raise
  · exact h.modAge

theorem Keeps.marginsBack {vout : Option Nat} {ack : Bool} (h : Keeps s₀ s) : Keeps s₀ (s.marginsBack vout ack) := by
  unfold State.marginsBack
  extract_lets s0 s1
  have h0 : Keeps s₀ s0 := h.eccRead
  have h1 : Keeps s₀ s1 := by
    unfold s1
    split
    · exact h0.vddBack
    · exact h0.raise
  refine h1.forAll fun hx => ?_
  split
  · exact hx.put
  · exact hx

theorem Keeps.bootMemory (h : Keeps s₀ s) : Keeps s₀ s.bootMemory := h.loadPart.loadPart.writeBytes

theorem Keeps.bootVerifyEffect {vout : Option Nat} {ack : Bool} (h : Keeps s₀ s) : Keeps s₀ (bootVerifyEffect vout ack s) :=
  .ite ((Keeps.ite h.modSec.bootNone h.modSec.verifySlots.bootFrom).thenIf (·.modSec.marginsBack.bootMemory)) h

theorem Keeps.copyCode {n : Nat} (h : Keeps s₀ s) : Keeps s₀ (s.copyCode n) := h.eccRead.forAll Keeps.writeBytes

theorem Keeps.loadTasks {img : Image} (h : Keeps s₀ s) : Keeps s₀ (s.loadTasks img) :=
  .ite h.copyCode.put.update h.copyCode.put.event

theorem Keeps.applyRegs {l : List (Nat × Nat)} (h : Keeps s₀ s) : Keeps s₀ (s.applyRegs l) := h.foldl Keeps.regWrite

theorem Keeps.applyP {l : List (Nat × Nat × Nat)} (h : Keeps s₀ s) : Keeps s₀ (s.applyP l) := by
  unfold State.applyP
  extract_lets
  refine h.update.foldl fun hx => ?_
  split
  · exact hx.thenIf (·.put)
  · exact hx

theorem Keeps.applyU {l : List (Nat × Nat)} (h : Keeps s₀ s) : Keeps s₀ (s.applyU l) :=
  h.foldl (fun hx => Keeps.ite hx.regWrite hx.regWrite.config)

theorem Keeps.applyNet {img : Image} (h : Keeps s₀ s) : Keeps s₀ (s.applyNet img) := h.update

theorem Keeps.applyEnd {img : Image} (h : Keeps s₀ s) : Keeps s₀ (s.applyEnd img) :=
  (Keeps.ite h.update.setPhase.modAmber.setRepeat h.update.setPhase.setRepeat).condsAgain.forAll Keeps.pubNew

theorem Keeps.imageApplyEffect {img : Image} (h : Keeps s₀ s) : Keeps s₀ (imageApplyEffect img s) :=
  h.thenIf (·.loadTasks.applyRegs.applyP.applyU.applyNet.applyEnd)

theorem Keeps.holdLane {l : Nat} (h : Keeps s₀ s) : Keeps s₀ (s.holdLane l) := h.update.put.laneOff

theorem Keeps.boardEffect {bus : Nat} {bytes : List Byte} (h : Keeps s₀ s) : Keeps s₀ (boardEffect bus bytes s) := by
  unfold Machine.boardEffect
  split
  · split
    · exact h
    · exact h.elseIf (·.event.forAll Keeps.holdLane)
  · exact h

theorem Keeps.holdPort {p : Nat} (h : Keeps s₀ s) : Keeps s₀ (s.holdPort p) := h.update.put.thenIf (·.ptpFault)

theorem Keeps.sfpEffect {port : Nat} {byte0 : Option Nat} (h : Keeps s₀ s) : Keeps s₀ (sfpEffect port byte0 s) :=
  h.thenIf (·.elseIf (·.event.holdPort))

/-! ## Step -/

theorem Keeps.tick (h : Keeps s₀ s) : Keeps s₀ s.tick := h.timeTick.pwmTick

end Sys2Proof.Machine
end

section
namespace Sys2Proof.Machine

/-! ## Commands and steps -/

/-- Every command has a next state, and it keeps the queue, the variant, the range of device time and the form of the stores. -/
theorem exec_keeps (c : Instr) (s : State) : ∃ t, exec c s = .next t ∧ Keeps s t := by
  have h := Keeps.refl s
  cases c with
  | powerOnReset _ _ => exact ⟨_, rfl, h.powerOnEffect⟩
  | porRelease => exact ⟨_, rfl, h.porReleaseEffect⟩
  | pllLocked => exact ⟨_, rfl, h.pllLockedEffect⟩
  | gladeResetExit _ => exact ⟨_, rfl, h.gladeExitEffect⟩
  | bootVerifyComplete _ _ _ => exact ⟨_, rfl, h.bootVerifyEffect⟩
  | imageApply _ => exact ⟨_, rfl, h.imageApplyEffect⟩
  | boardIdentify _ _ => exact ⟨_, rfl, h.boardEffect⟩
  | sfpIdentify _ _ => exact ⟨_, rfl, h.sfpEffect⟩
  | clkEdgeTimeout _ => exact ⟨_, rfl, h.clkEdgeEffect⟩
  | clkFreqWindow _ _ => exact ⟨_, rfl, h.clkFreqEffect⟩
  | linkRxTimeout _ _ _ => exact ⟨_, rfl, h.linkRxEffect⟩
  | linkAckTimeout _ _ _ => exact ⟨_, rfl, h.linkAckEffect⟩
  | linkParityError _ _ _ _ => exact ⟨_, rfl, h.linkParityEffect⟩
  | supplyExcursion _ => exact ⟨_, rfl, h.supplyEffect⟩
  | tjLimitExceeded _ _ => exact ⟨_, rfl, h.tjLimitEffect⟩
  | faultEvent _ => exact ⟨_, rfl, h.faultEventEffect⟩
  | faultCauseCleared _ _ => exact ⟨_, rfl, h.causeClearedEffect⟩
  | rwtVoteDisagree _ _ _ _ _ => exact ⟨_, rfl, h.voteEffect⟩
  | faultAck _ => exact ⟨_, rfl, h.commanded Keeps.faultAckEffect⟩
  | unfence _ _ _ => exact ⟨_, rfl, (h.elseIf (·.clockBack)).commanded Keeps.unfenceEffect⟩
  | histClr => exact ⟨_, rfl, h.commanded Keeps.histClrEffect⟩
  | recIdxWrite _ => exact ⟨_, rfl, h.commanded Keeps.recIdxEffect⟩
  | registerWrite _ _ _ _ _ => exact ⟨_, rfl, h.registerWriteEffect⟩
  | statusRead _ _ => exact ⟨_, rfl, h.statusReadEffect⟩
  | unlockWrite _ _ => exact ⟨_, rfl, h.granted (·.commandedFrom Keeps.unlockEffect)⟩
  | unlockArmExpired => exact ⟨_, rfl, h.unlockExpiredEffect⟩
  | eoi0 => exact ⟨_, rfl, h.commanded Keeps.eoi0Effect⟩
  | eoi1 => exact ⟨_, rfl, h.commanded Keeps.eoi1Effect⟩
  | pcieReset _ => exact ⟨_, rfl, h.pcieResetEffect⟩
  | spiRead _ _ _ => exact ⟨_, rfl, h.spiReadEffect⟩
  | spiWrite _ _ _ => exact ⟨_, rfl, h.spiWriteEffect⟩
  | spiDread _ => exact ⟨_, rfl, h.spiDreadEffect⟩
  | spiDwrite _ => exact ⟨_, rfl, h.spiDwriteEffect⟩
  | spiStatus => exact ⟨_, rfl, h.spiStatusEffect⟩
  | dpAddrWrite _ => exact ⟨_, rfl, h.dpAddrWriteEffect⟩
  | dpDataRead => exact ⟨_, rfl, h.dpDataReadEffect⟩
  | dpDataWrite _ => exact ⟨_, rfl, h.dpDataWriteEffect⟩
  | dpBurstRead _ => exact ⟨_, rfl, h.dpBurstReadEffect⟩
  | dpBurstWrite _ => exact ⟨_, rfl, h.dpBurstWriteEffect⟩
  | memoryScrub _ _ => exact ⟨_, rfl, h.memoryScrubEffect⟩
  | cycleStart _ => exact ⟨_, rfl, h.cycleStartEffect⟩
  | selectionStart _ => exact ⟨_, rfl, h.selectionStartEffect⟩
  | commit => exact ⟨_, rfl, h.commitEffect⟩
  | blockFrameSend _ => exact ⟨_, rfl, h.blockFrameEffect⟩
  | goOff => exact ⟨_, rfl, h.commanded Keeps.goOffEffect⟩
  | goCharge => exact ⟨_, rfl, h.commanded Keeps.goChargeEffect⟩
  | goRun => exact ⟨_, rfl, h.commanded Keeps.goRunEffect⟩
  | goBlock => exact ⟨_, rfl, h.commanded Keeps.goBlockEffect⟩
  | cycLenWrite _ => exact ⟨_, rfl, h.commanded Keeps.cycLenEffect⟩
  | execOfsWrite _ => exact ⟨_, rfl, h.commanded Keeps.execOfsEffect⟩
  | cycPhaseWrite _ => exact ⟨_, rfl, h.commanded Keeps.cycPhaseEffect⟩
  | refSlopeWrite _ => exact ⟨_, rfl, h.commanded Keeps.refSlopeEffect⟩
  | statusSlotReceived _ _ _ _ _ _ _ => exact ⟨_, rfl, h.slotReceivedEffect⟩
  | frameReturn _ _ => exact ⟨_, rfl, h.frameReturnEffect⟩
  | recordAgeLimit _ => exact ⟨_, rfl, h.ageLimitEffect⟩
  | keySave => exact ⟨_, rfl, h.commanded Keeps.keySaveEffect⟩
  | keySaveDone => exact ⟨_, rfl, h.keySaveDoneEffect⟩
  | smIdxWrite _ => exact ⟨_, rfl, h.commanded Keeps.smIdxEffect⟩
  | dcmdPost _ _ => exact ⟨_, rfl, h.granted (·.commandedFrom Keeps.dcmdPostEffect)⟩
  | hold _ => exact ⟨_, rfl, h.commanded Keeps.holdEffect⟩
  | release _ => exact ⟨_, rfl, h.commanded Keeps.releaseEffect⟩
  | fbpClr _ => exact ⟨_, rfl, h.commanded Keeps.fbpClrEffect⟩
  | fire _ => exact ⟨_, rfl, h.commanded Keeps.fireEffect⟩
  | holdInfoWrite _ => exact ⟨_, rfl, h.commanded Keeps.holdInfoEffect⟩
  | holdBlkReached _ => exact ⟨_, rfl, h.holdBlkEffect⟩
  | leakRoundStart => exact ⟨_, rfl, h.commanded Keeps.leakRoundEffect⟩
  | leakResultTimeout _ => exact ⟨_, rfl, h.leakTimeoutEffect⟩
  | fbpTimeout _ => exact ⟨_, rfl, h.fbpTimeoutEffect⟩
  | ringEnSet _ => exact ⟨_, rfl, h.commanded Keeps.ringEnSetEffect⟩
  | ringEnClear _ => exact ⟨_, rfl, h.commanded Keeps.ringEnClearEffect⟩
  | ringAdmitWrite _ => exact ⟨_, rfl, h.commanded Keeps.ringAdmitEffect⟩
  | ringAdmission _ => exact ⟨_, rfl, h.ringAdmissionEffect⟩
  | probeComplete _ _ => exact ⟨_, rfl, h.probeCompleteEffect⟩
  | probeTimeout _ => exact ⟨_, rfl, h.probeTimeoutEffect⟩
  | enumFrameReturn _ _ _ => exact ⟨_, rfl, h.enumReturnEffect⟩
  | enumTimeout _ => exact ⟨_, rfl, h.enumTimeoutEffect⟩
  | serviceAccessStart _ _ => exact ⟨_, rfl, h.commanded Keeps.svcStartEffect⟩
  | serviceFrameSend _ => exact ⟨_, rfl, h.svcSendEffect⟩
  | serviceFrameReturn _ _ => exact ⟨_, rfl, h.svcReturnEffect⟩
  | ringForeignFrame _ _ => exact ⟨_, rfl, h.foreignFrameEffect⟩
  | repeatFrameStart _ => exact ⟨_, rfl, h.repeatFrameEffect⟩
  | laneEnable _ => exact ⟨_, rfl, h.commanded Keeps.laneEnableEffect⟩
  | laneDisable _ => exact ⟨_, rfl, h.commanded Keeps.laneDisableEffect⟩
  | laneCalDone _ => exact ⟨_, rfl, h.laneCalEffect⟩
  | laneSignalAcquired _ _ => exact ⟨_, rfl, h.laneAcquiredEffect⟩
  | laneAcqTimeout _ => exact ⟨_, rfl, h.laneAcqTimeoutEffect⟩
  | laneAdaptDone _ _ => exact ⟨_, rfl, h.laneAdaptEffect⟩
  | laneBlockLock _ => exact ⟨_, rfl, h.laneLockEffect⟩
  | laneSyncTimeout _ => exact ⟨_, rfl, h.laneSyncTimeoutEffect⟩
  | laneLossOfLock _ _ => exact ⟨_, rfl, h.laneLossEffect⟩
  | laneSignalLost _ => exact ⟨_, rfl, h.laneSignalLostEffect⟩
  | lolWindowEnd _ => exact ⟨_, rfl, h.lolWindowEffect⟩
  | readapt _ => exact ⟨_, rfl, h.commanded Keeps.readaptEffect⟩
  | readaptDone _ _ => exact ⟨_, rfl, h.readaptDoneEffect⟩
  | txEqWrite _ _ => exact ⟨_, rfl, h.commanded Keeps.txEqEffect⟩
  | elasticRecentre _ => exact ⟨_, rfl, h.elasticEffect⟩
  | alignMarkerSend _ => exact ⟨_, rfl, h.markerSendEffect⟩
  | markerSetReceived _ _ => exact ⟨_, rfl, h.markerSetEffect⟩
  | prbsError _ => exact ⟨_, rfl, h.prbsEffect⟩
  | esGo _ _ => exact ⟨_, rfl, h.commanded Keeps.esGoEffect⟩
  | esStop _ => exact ⟨_, rfl, h.commanded Keeps.esStopEffect⟩
  | esFree _ => exact ⟨_, rfl, h.commanded Keeps.esFreeEffect⟩
  | eyeScanStart _ => exact ⟨_, rfl, h.eyeStartEffect⟩
  | eyeScanPointDone _ _ => exact ⟨_, rfl, h.eyePointEffect⟩
  | crossScanDue _ => exact ⟨_, rfl, h.crossDueEffect⟩
  | crossScanDone _ _ _ => exact ⟨_, rfl, h.crossDoneEffect⟩
  | loopTrigger _ => exact ⟨_, rfl, h.loopTriggerEffect⟩
  | loopSample _ => exact ⟨_, rfl, h.loopSampleEffect⟩
  | loopEnable _ => exact ⟨_, rfl, h.commanded Keeps.loopEnableEffect⟩
  | loopDisable _ => exact ⟨_, rfl, h.commanded Keeps.loopDisableEffect⟩
  | uSpWrite _ _ => exact ⟨_, rfl, h.commanded Keeps.uSpEffect⟩
  | uIntHiWrite _ _ => exact ⟨_, rfl, h.commanded Keeps.uIntHiEffect⟩
  | uIntLoRead _ => exact ⟨_, rfl, h.statusReadEffect⟩
  | loopAllOff _ => exact ⟨_, rfl, h.commanded Keeps.loopAllOffEffect⟩
  | pwmPeriodStart _ => exact ⟨_, rfl, h.periodStartEffect⟩
  | pwmTurnOff _ => exact ⟨_, rfl, h.turnOffEffect⟩
  | chPerWrite _ _ => exact ⟨_, rfl, h.commanded Keeps.chPerEffect⟩
  | chCmpWrite _ _ => exact ⟨_, rfl, h.commanded Keeps.chCmpEffect⟩
  | pwmEnable _ => exact ⟨_, rfl, h.commanded Keeps.pwmEnableEffect⟩
  | syncPulse _ => exact ⟨_, rfl, h.syncPulseEffect⟩
  | syncInEdge => exact ⟨_, rfl, h.syncInEffect⟩
  | xdeadWaitEnd _ => exact ⟨_, rfl, h.xdeadEffect⟩
  | gdFltAssert _ => exact ⟨_, rfl, h.gdFltEffect⟩
  | blankEnd _ _ => exact ⟨_, rfl, h.blankEndEffect⟩
  | fltClr _ _ => exact ⟨_, rfl, h.commanded Keeps.fltClrEffect⟩
  | gsLow _ => exact ⟨_, rfl, h.gsLowEffect⟩
  | gsHigh _ => exact ⟨_, rfl, h.gsHighEffect⟩
  | resume => exact ⟨_, rfl, h.commanded Keeps.resumeEffect⟩
  | pwmAllOff => exact ⟨_, rfl, h.commanded Keeps.pwmAllOffEffect⟩
  | safeLvlWrite _ => exact ⟨_, rfl, h.commanded Keeps.safeLvlEffect⟩
  | xpairWrite _ => exact ⟨_, rfl, h.commanded Keeps.xpairEffect⟩
  | posCountEdge _ _ _ _ _ => exact ⟨_, rfl, h.posCountEdgeEffect⟩
  | posIndexEdge _ => exact ⟨_, rfl, h.posIndexEffect⟩
  | posWindowEnd _ => exact ⟨_, rfl, h.posWindowEffect⟩
  | posEnable _ => exact ⟨_, rfl, h.commanded Keeps.posEnableEffect⟩
  | cmpArm _ => exact ⟨_, rfl, h.commanded Keeps.cmpArmEffect⟩
  | idxArm _ => exact ⟨_, rfl, h.commanded Keeps.idxArmEffect⟩
  | posWrite _ _ => exact ⟨_, rfl, h.commanded Keeps.posWriteEffect⟩
  | cmpPosWrite _ _ => exact ⟨_, rfl, h.commanded Keeps.cmpPosEffect⟩
  | spdnetRead _ => exact ⟨_, rfl, h.statusReadEffect⟩
  | emuEnable _ => exact ⟨_, rfl, h.commanded Keeps.emuEnableEffect⟩
  | emuOutputStep _ => exact ⟨_, rfl, h.emuStepEffect⟩
  | adcGo _ => exact ⟨_, rfl, h.commanded Keeps.adcGoEffect⟩
  | adcTrigger _ => exact ⟨_, rfl, h.adcTriggerEffect⟩
  | adcLastSample _ => exact ⟨_, rfl, h.adcLastEffect⟩
  | adcBurstDone _ _ => exact ⟨_, rfl, h.adcDoneEffect⟩
  | adcStop _ => exact ⟨_, rfl, h.commanded Keeps.adcStopEffect⟩
  | calNow _ => exact ⟨_, rfl, h.commanded Keeps.calNowEffect⟩
  | adcCalDue _ => exact ⟨_, rfl, h.adcCalDueEffect⟩
  | adcRecalStart _ _ => exact ⟨_, rfl, h.adcRecalStartEffect⟩
  | adcRecalDone _ _ _ => exact ⟨_, rfl, h.adcRecalDoneEffect⟩
  | adcCalRetry _ _ => exact ⟨_, rfl, h.adcRetryEffect⟩
  | pxMulq16 _ _ _ _ => exact ⟨_, rfl, h.pxMulq16Effect⟩
  | pxMacq16 _ _ _ _ => exact ⟨_, rfl, h.pxMacq16Effect⟩
  | pxMulq24 _ _ _ _ => exact ⟨_, rfl, h.pxMulq24Effect⟩
  | pxMacq24 _ _ _ _ => exact ⟨_, rfl, h.pxMacq24Effect⟩
  | pxPoste _ _ => exact ⟨_, rfl, h.pxPosteEffect⟩
  | pxPosto _ _ _ _ _ => exact ⟨_, rfl, h.pxPostoEffect⟩
  | pxOpget _ _ _ => exact ⟨_, rfl, h.pxOpgetEffect⟩
  | pxEndw _ => exact ⟨_, rfl, h.pxEndwEffect⟩
  | workItemAbort _ _ _ _ => exact ⟨_, rfl, h.itemAbortEffect⟩
  | runBoundExpired _ _ => exact ⟨_, rfl, h.runBoundEffect⟩
  | flagPost _ => exact ⟨_, rfl, h.flagPostEffect⟩
  | operandPost _ _ _ => exact ⟨_, rfl, h.operandPostEffect⟩
  | operandStallTimeout => exact ⟨_, rfl, h.stallTimeoutEffect⟩
  | dispatch _ _ => exact ⟨_, rfl, h.dispatchEffect⟩
  | stagingDone _ => exact ⟨_, rfl, h.stagingDoneEffect⟩
  | taskEnable => exact ⟨_, rfl, h.commanded Keeps.taskEnableEffect⟩
  | taskDisable => exact ⟨_, rfl, h.commanded Keeps.taskDisableEffect⟩
  | taskIdxWrite _ => exact ⟨_, rfl, h.commanded Keeps.taskIdxEffect⟩
  | hostFlagPost _ => exact ⟨_, rfl, h.commanded Keeps.hostFlagPostEffect⟩
  | hopValWrite _ => exact ⟨_, rfl, h.commanded Keeps.hopValEffect⟩
  | bufferMoveStart _ _ => exact ⟨_, rfl, h.bufMoveEffect⟩
  | bufferMoveDone _ => exact ⟨_, rfl, h.bufMoveDoneEffect⟩
  | traceSnap => exact ⟨_, rfl, h.commanded Keeps.traceSnapEffect⟩
  | coreDebugHalt _ => exact ⟨_, rfl, h.coreHaltEffect⟩
  | coreDebugResume _ => exact ⟨_, rfl, h.coreResumeEffect⟩
  | nowLoRead => exact ⟨_, rfl, h.statusReadEffect⟩
  | timeSet => exact ⟨_, rfl, h.commanded Keeps.timeSetEffect⟩
  | incNsWrite _ => exact ⟨_, rfl, h.commanded Keeps.incNsEffect⟩
  | tcmpTgtWrite _ _ => exact ⟨_, rfl, h.commanded Keeps.tcmpTgtEffect⟩
  | timeCompareFire _ => exact ⟨_, rfl, h.tcmpFireEffect⟩
  | servoOffset _ _ => exact ⟨_, rfl, h.servoOffsetEffect⟩
  | holdoverTimeout => exact ⟨_, rfl, h.holdoverEffect⟩
  | srvSrcWrite _ => exact ⟨_, rfl, h.commanded Keeps.srvSrcEffect⟩
  | ppsInEdge => exact ⟨_, rfl, h.ppsInEffect⟩
  | ppsMissTimeout => exact ⟨_, rfl, h.ppsMissEffect⟩
  | ppsOutRise => exact ⟨_, rfl, h.ppsRiseEffect⟩
  | ppsOutFall => exact ⟨_, rfl, h.ppsFallEffect⟩
  | ethFrameReceived _ _ => exact ⟨_, rfl, h.ethFrameEffect⟩
  | prpEntryExpired _ _ _ => exact ⟨_, rfl, h.prpExpiredEffect⟩
  | ethLinkDown _ => exact ⟨_, rfl, h.ethLinkDownEffect⟩
  | anRestart _ => exact ⟨_, rfl, h.commanded Keeps.anRestartEffect⟩
  | sfpRead _ _ => exact ⟨_, rfl, h.commanded Keeps.sfpReadEffect⟩
  | sfpReadDone _ _ _ => exact ⟨_, rfl, h.sfpDoneEffect⟩
  | prpSupervisionSend _ => exact ⟨_, rfl, h.prpSuperEffect⟩
  | svFrameReceived _ => exact ⟨_, rfl, h.svFrameEffect⟩
  | svStreamTimeout _ => exact ⟨_, rfl, h.svTimeoutEffect⟩
  | gooseNewState _ => exact ⟨_, rfl, h.gooseNewEffect⟩
  | gooseRepeat _ => exact ⟨_, rfl, h.gooseRepeatEffect⟩
  | gpDataWrite _ => exact ⟨_, rfl, h.commanded Keeps.gpDataEffect⟩
  | gooseFrameReceived _ => exact ⟨_, rfl, h.gooseFrameEffect⟩
  | gooseSubTimeout _ => exact ⟨_, rfl, h.gooseSubTimeoutEffect⟩
  | ptpSyncReceived _ _ _ _ => exact ⟨_, rfl, h.ptpSyncEffect⟩
  | ptpMessageReceived _ _ => exact ⟨_, rfl, h.ptpMessageEffect⟩
  | ptpIntervalSend _ _ => exact ⟨_, rfl, h.ptpSendEffect⟩
  | svsInfoWrite _ => exact ⟨_, rfl, h.commanded Keeps.svsInfoEffect⟩
  | svcInfoWrite _ => exact ⟨_, rfl, h.commanded Keeps.svcInfoEffect⟩
  | gsInfoWrite _ => exact ⟨_, rfl, h.commanded Keeps.gsInfoEffect⟩
  | canopyPortUp _ => exact ⟨_, rfl, h.canopyUpEffect⟩
  | canopyPortDown _ => exact ⟨_, rfl, h.canopyDownEffect⟩
  | devidWrite _ => exact ⟨_, rfl, h.commanded Keeps.devidEffect⟩
  | canopyMessageReceived _ _ => exact ⟨_, rfl, h.canopyRxEffect⟩
  | canopyTxNext _ => exact ⟨_, rfl, h.canopyTxEffect⟩
  | canopySend _ _ => exact ⟨_, rfl, h.commanded Keeps.canopySendEffect⟩
  | sessionRto _ => exact ⟨_, rfl, h.sessionRtoEffect⟩
  | sessionDeadline _ => exact ⟨_, rfl, h.sessionDeadlineEffect⟩
  | sessEnable => exact ⟨_, rfl, h.commanded Keeps.sessEnableEffect⟩
  | sessDisable => exact ⟨_, rfl, h.commanded Keeps.sessDisableEffect⟩
  | rxRel => exact ⟨_, rfl, h.commanded Keeps.rxRelEffect⟩
  | sessIdxWrite _ => exact ⟨_, rfl, h.commanded Keeps.sessIdxEffect⟩
  | dataReceived _ _ => exact ⟨_, rfl, h.dataReceivedEffect⟩
  | ackReceived _ _ => exact ⟨_, rfl, h.ackReceivedEffect⟩
  | treqSend _ => exact ⟨_, rfl, h.treqSendEffect⟩
  | treqReceived _ _ _ _ => exact ⟨_, rfl, h.treqReceivedEffect⟩
  | trespReceived _ _ _ _ => exact ⟨_, rfl, h.trespReceivedEffect⟩
  | hbReceived _ _ => exact ⟨_, rfl, h.hbReceivedEffect⟩
  | ckptReceived _ _ => exact ⟨_, rfl, h.ckptReceivedEffect⟩
  | staticReceived _ _ => exact ⟨_, rfl, h.staticReceivedEffect⟩
  | handoverReceived _ _ => exact ⟨_, rfl, h.handoverReceivedEffect⟩
  | withdrawReceived _ _ => exact ⟨_, rfl, h.withdrawEffect⟩
  | heartbeatTimeout => exact ⟨_, rfl, h.heartbeatTimeoutEffect⟩
  | checkpointCapture => exact ⟨_, rfl, h.checkpointCaptureEffect⟩
  | checkpointBufferCopy _ => exact ⟨_, rfl, h.checkpointBufferEffect⟩
  | ungateComplete _ => exact ⟨_, rfl, h.ungateCompleteEffect⟩
  | ungateTimeout _ => exact ⟨_, rfl, h.ungateTimeoutEffect⟩
  | takeoverRestore _ => exact ⟨_, rfl, h.takeoverRestoreEffect⟩
  | handover => exact ⟨_, rfl, h.commanded Keeps.handoverEffect⟩
  | warmSupEnd => exact ⟨_, rfl, h.warmSupEffect⟩
  | roleAssignment => exact ⟨_, rfl, h.roleAssignmentEffect⟩
  | safeStartDone _ => exact ⟨_, rfl, h.safeStartEffect⟩
  | safeInputSample _ _ _ _ _ => exact ⟨_, rfl, h.safeSampleEffect⟩
  | safeLogicCycle _ => exact ⟨_, rfl, h.safeLogicEffect⟩
  | testPulse _ => exact ⟨_, rfl, h.testPulseEffect⟩
  | discTimeout _ => exact ⟨_, rfl, h.discTimeoutEffect⟩
  | twohandSyncTimeout _ => exact ⟨_, rfl, h.twohandEffect⟩
  | safeRstRelease _ _ => exact ⟨_, rfl, h.safeRstEffect⟩
  | edmOnTimeout _ _ => exact ⟨_, rfl, h.edmOnEffect⟩
  | edmOffTimeout _ _ => exact ⟨_, rfl, h.edmOffEffect⟩
  | outputTestPulse _ _ _ => exact ⟨_, rfl, h.outputTestEffect⟩
  | garnetPduReceived _ _ => exact ⟨_, rfl, h.garnetRxEffect⟩
  | garnetPduSend _ => exact ⟨_, rfl, h.garnetSendEffect⟩
  | garnetWatchdog _ => exact ⟨_, rfl, h.garnetWdEffect⟩
  | garnetFailedEnd _ => exact ⟨_, rfl, h.garnetReopenEffect⟩
  | garnetErrWindowEnd _ => exact ⟨_, rfl, h.garnetWindowEffect⟩
  | quote => exact ⟨_, rfl, h.commanded Keeps.quoteEffect⟩
  | quoteDone => exact ⟨_, rfl, h.quoteDoneEffect⟩
  | dbgChal _ => exact ⟨_, rfl, h.commanded Keeps.dbgChalEffect⟩
  | dbgAuth => exact ⟨_, rfl, h.commanded Keeps.dbgAuthEffect⟩
  | dbgClose => exact ⟨_, rfl, h.commanded Keeps.dbgCloseEffect⟩
  | commitSvn => exact ⟨_, rfl, h.commanded Keeps.commitSvnEffect⟩
  | retArmWrite _ => exact ⟨_, rfl, h.commanded Keeps.retArmEffect⟩
  | retArmExpired => exact ⟨_, rfl, h.retExpiredEffect⟩
  | returnPrep => exact ⟨_, rfl, h.commanded Keeps.returnPrepEffect⟩
  | returnPrepDone => exact ⟨_, rfl, h.returnDoneEffect⟩
  | store _ => exact ⟨_, rfl, h.commanded Keeps.storeEffect⟩
  | storeDone _ => exact ⟨_, rfl, h.storeDoneEffect⟩
  | reload => exact ⟨_, rfl, h.commanded Keeps.reloadEffect⟩
  | imgCommit => exact ⟨_, rfl, h.commanded Keeps.imgCommitEffect⟩
  | bootPrefWrite _ => exact ⟨_, rfl, h.commanded Keeps.bootPrefEffect⟩
  | nvmRefresh _ _ => exact ⟨_, rfl, h.refreshEffect⟩
  | pathSlackLow _ _ _ => exact ⟨_, rfl, h.pathSlackEffect⟩
  | avsStepWaitEnd _ _ => exact ⟨_, rfl, h.avsWaitEffect⟩
  | marginHigh24h _ => exact ⟨_, rfl, h.marginHighEffect⟩
  | groveClockStep _ => exact ⟨_, rfl, h.groveStepEffect⟩
  | budgetWindowEnd => exact ⟨_, rfl, h.budgetWindowEffect⟩
  | wearThreshold _ => exact ⟨_, rfl, h.wearEffect⟩
  | spareBringIn _ => exact ⟨_, rfl, h.spareEffect⟩
  | blockFrameRepeat => exact ⟨_, rfl, h.blockRepeatEffect⟩
  | serviceReplyTimeout _ => exact ⟨_, rfl, h.svcTimeoutEffect⟩
  | ptpAnnounceReceiptTimeout _ => exact ⟨_, rfl, h.ptpTimeoutEffect⟩
  | autoNegotiationDone _ _ => exact ⟨_, rfl, h.anDoneEffect⟩
  | invalidSyncHeader _ => exact ⟨_, rfl, h.badHeaderEffect⟩
  | imageVerifyDone _ => exact ⟨_, rfl, h.imgVerifiedEffect⟩
  | pcieLinkUp _ _ => exact ⟨_, rfl, h.pcieUpEffect⟩
  | pcieLinkDown _ => exact ⟨_, rfl, h.pcieDownEffect⟩
  | operatingHour => exact ⟨_, rfl, h.operatingHourEffect⟩

/-- A step keeps all of this from the state whose queue has lost its front command. -/
theorem step_keeps (s : State) : ∃ t, step s = .next t ∧ Keeps { s with pending := s.pending.tail } t := by
  cases hp : s.pending with
  | nil =>
    have hs : { s with pending := [] } = s := by rw [← hp]
    rw [step_idle hp, List.tail_nil, hs]
    exact ⟨_, rfl, (Keeps.refl s).tick⟩
  | cons c rest =>
    rw [step_cons hp]
    exact exec_keeps c _

/-- Settles O4, with `step_keeps` and `exec_keeps`: every function that makes the next state keeps queue and variant. -/
theorem stepTakesExactlyOneCommand : Obligations.StepTakesExactlyOneCommand := by
  refine ⟨fun s => ?_, fun c s => ?_⟩
  · obtain ⟨t, hstep, hk⟩ := step_keeps s
    exact ⟨t, hstep, hk.pending, hk.variant⟩
  · obtain ⟨t, hexec, hk⟩ := exec_keeps c s
    exact ⟨t, hexec, hk.pending, hk.variant⟩

/-- Settles O25, with `step_keeps`: device time is only ever set to 0 or modulo 2^96. -/
theorem deviceTimeStaysInRange : Obligations.DeviceTimeStaysInRange := by
  refine ⟨by decide, fun s t ht hstep => ?_⟩
  obtain ⟨t', heq, hk⟩ := step_keeps s
  cases heq.symm.trans hstep
  exact hk.time ht

end Sys2Proof.Machine
end

section
namespace Sys2Proof.Machine

/-! ## The clock of a glade that the variant does not have

`execUnfence` first waits, for an UNFENCE of a glade without a clock, until the clock has been back for 1 ms (`State.clockBack`), also where no
variant has the glade, as glade 11. The device is in service then, and the effect alone takes no time. -/

/-- A -X in service, with the clock of glade 11, which it does not have, marked lost. -/
def absentClockLost : State :=
  { glades := (List.range 44).map (fun g => (g, { inReset := false, clkBad := g == 11 }))
    host := { phase := .applied } }

theorem absentClockLost_takes : absentClockLost.takes 0x1058 = true := by decide

theorem absentClockLost_unfenceEffect_elapsed : (unfenceEffect false 0xB00 true absentClockLost).elapsed = 0 := by decide

theorem exec_unfence_absentClockLost_elapsed :
    ∃ t, exec (.unfence false 0xB00 true) absentClockLost = .next t ∧ t.elapsed = el (10 ^ 6) := by
  refine ⟨_, rfl, ?_⟩
  decide

/-- Refutes O1: UNFENCE of glade 11, whose clock is marked lost though the variant has no such glade, passes 1 ms, and the effect alone passes
no time. -/
theorem not_stepRunsFrontCommand : ¬ Obligations.StepRunsFrontCommand := by
  rintro ⟨-, -, h⟩
  obtain ⟨⟨-, hunfence, -⟩, -⟩ := h absentClockLost
  obtain ⟨t, hexec, ht⟩ := exec_unfence_absentClockLost_elapsed
  rw [hunfence false 0xB00 true absentClockLost_takes] at hexec
  cases hexec
  rw [absentClockLost_unfenceEffect_elapsed] at ht
  exact absurd ht (by decide)

end Sys2Proof.Machine
end

section
namespace Sys2Proof.Machine

/-! ## Writes on the bus in service -/

theorem inService_l4 {s : State} (h : s.inService = true) : s.flt.l4 = false := by
  obtain ⟨-, -, hl4, -⟩ := State.inService_iff.mp h
  exact hl4

/-- The two hosts are in a common glade and no grant of a task binds them. -/
theorem inService_spi {s : State} (h : s.inService = true) (addr : Nat) : s.pathUp .spi = true ∧ s.pageGranted .spi addr = true := by
  simp [State.pathUp, writerGlade, State.pageGranted, inService_common h]

theorem inService_host {s : State} (h : s.inService = true) (hpcie : s.pcieUp = true) (addr : Nat) :
    s.pathUp .host = true ∧ s.pageGranted .host addr = true := by
  simp [State.pathUp, writerGlade, State.pageGranted, inService_common h, hpcie]

theorem pathUp_core {s : State} {u k : Nat} (hu : s.up (u / 256) = true) : s.pathUp (.core u k) = true := by
  simp [State.pathUp, writerGlade, hu]

theorem registerWriteEffect_inService {s : State} (h : s.inService = true) {w : Writer} {addr : Nat} (hpath : s.pathUp w = true)
    (hgrant : s.pageGranted w addr = true) (v : Nat) : registerWriteEffect w addr v 15 true s = s.regWrite w addr v := by
  simp [registerWriteEffect, State.busWrite, inService_l4 h, inService_mayWrite h, hpath, hgrant]

theorem takenBy_absent {s : State} {g addr : Nat} (h : gladePresent s.variant g = false ∨ pageAbsent s.variant addr = true)
    (f : State → State) : s.takenBy g addr f = s.config addr := by
  rcases h with h | h <;> simp [State.takenBy, h]

theorem regWrite_absent {s : State} (h : s.inService = true) {addr g : Nat} (hpage : pageGlade addr = some g) (hmsix : msixArea addr = false)
    (habs : gladePresent s.variant g = false ∨ pageAbsent s.variant addr = true) (w : Writer) (v : Nat) :
    s.regWrite w addr v = s.config addr := by
  simp [State.regWrite, State.gatedWrite, hmsix, hpage, inService_link h, takenBy_absent habs]

/-- Settles O19: in service every one of the three writers gets through to the glade of the page (R2), and an absent page answers with
the CONFIG event alone. -/
theorem writeToAbsentPage : Obligations.WriteToAbsentPage := by
  intro s w addr v g h hw hpage hmsix habs
  have hreach : s.pathUp w = true ∧ s.pageGranted w addr = true := by
    obtain rfl | ⟨rfl, hpcie⟩ | ⟨u, k, rfl, hu, hgrant⟩ := hw
    · exact inService_spi h addr
    · exact inService_host h hpcie addr
    · exact ⟨pathUp_core hu, hgrant⟩
  refine ⟨s.config addr, ?_, rfl, rfl, rfl, rfl⟩
  show Host.Outcome.next (registerWriteEffect w addr v 15 true s) = _
  rw [registerWriteEffect_inService h hreach.1 hreach.2, regWrite_absent h hpage hmsix habs]

end Sys2Proof.Machine
end

section
namespace Sys2Proof.Machine

/-! ## A loop table with two entries for one unit

`inService` asks for the form of the byte memory and of the register store alone, so a state in service may hold two records of loop unit 0.
A record that becomes the default one is erased from the table, and the second one then stands in its place. -/

/-- In service, with two records of loop unit 0; the integrator is 0 in both. -/
def doubleLoopRecord : State :=
  { glades := (List.range 44).map (fun g => (g, { inReset := false }))
    host := { phase := .applied }
    loops := [(0, { latch := 5 }), (0, { latch := 7 })] }

theorem doubleLoopRecord_inService : doubleLoopRecord.inService = true := by decide

theorem doubleLoopRecord_int : (doubleLoopRecord.loop 0).int = 0 := by decide

theorem exec_uIntLoRead_doubleLoopRecord : ∃ t, exec (.uIntLoRead 0) doubleLoopRecord = .next t ∧ (t.loop 0).latch = 7 := by
  refine ⟨_, rfl, ?_⟩
  decide

/-- Refutes O15: its last clause fails where the loop table holds two records of a unit. A read of U_INT_LO latches the high half of the
integrator, 0, which makes the first record the default one, and the latch then reads 7, that of the second. -/
theorem not_hostReadRules : ¬ Obligations.HostReadRules := by
  rintro ⟨-, -, -, -, -, -, -, -, hlatches⟩
  obtain ⟨t, hexec, hlatch, -⟩ := hlatches doubleLoopRecord 0 doubleLoopRecord_inService (by decide)
  obtain ⟨u, hexec', hlatch'⟩ := exec_uIntLoRead_doubleLoopRecord
  cases hexec.symm.trans hexec'
  rw [hlatch', doubleLoopRecord_int] at hlatch
  exact absurd hlatch (by decide)

end Sys2Proof.Machine
end

section
namespace Sys2Proof.Machine

/-! ## Stores in canonical form, and the idle step -/

/-- Settles O3, with `step_keeps`: every function that makes the next state keeps both stores in canonical form. -/
theorem stepKeepsCanonicalForm : Obligations.StepKeepsCanonicalForm := by
  intro s t hs hstep
  obtain ⟨t', heq, hk⟩ := step_keeps s
  cases heq.symm.trans hstep
  exact hk.canonical hs

/-- Whether a glade runs depends on the variant and the glades' states alone. -/
theorem up_congr {s t : State} (hv : t.variant = s.variant) (hg : t.glades = s.glades) (g : Nat) : t.up g = s.up g := by
  unfold State.up State.gladeFenced State.glade
  rw [hv, hg]

theorem timeTick_running {s : State} (h : s.timeUp = true) :
    s.timeTick = { s with time := (s.time + s.servo.inc) % 2 ^ 96, elapsed := s.elapsed + 2 ^ 33 } := by
  simp [State.timeTick, h]

/-- Without its glade the local drive does not count (R348). -/
theorem pwmTick_down {s : State} (h : s.up 9 = false) : s.pwmTick = s := by simp [State.pwmTick, h]

theorem tick_pwm_down {s : State} (htime : s.timeUp = true) (hpwm : s.up 9 = false) :
    s.tick = { s with time := (s.time + s.servo.inc) % 2 ^ 96, elapsed := s.elapsed + 2 ^ 33 } := by
  have hdown : s.timeTick.up 9 = false := by rw [timeTick_running htime]; exact (up_congr rfl rfl 9).trans hpwm
  rw [State.tick, pwmTick_down hdown, timeTick_running htime]

/-- Settles O2: the reset state lists its values, and an idle step is `State.tick`. -/
theorem resetStateAndIdleStep : Obligations.ResetStateAndIdleStep := by
  refine ⟨⟨fun _ => rfl, rfl, rfl, rfl, rfl, fun _ => rfl, rfl, rfl⟩, fun s hidle htime hpwm => ?_⟩
  refine ⟨_, step_idle hidle, ?_⟩
  rw [tick_pwm_down htime hpwm]
  exact ⟨rfl, hidle, rfl, rfl⟩

end Sys2Proof.Machine
end

section
namespace Sys2Proof.Machine

/-! ## What raised bits, conditions and loops leave alone -/

/-- A loop keeps what each of its passes keeps. -/
theorem forAll_induction {P : State → Prop} {l : List Nat} {f : Nat → State → State} {s : State} (h : P s)
    (hf : ∀ n ∈ l, ∀ x, P x → P (f n x)) : P (forAll l f s) :=
  List.foldlRecOn l (fun a n => f n a) h fun x hx n hn => hf n hn x hx

/-- A raised bit moves the register store and the message counters only. -/
theorem raise_shape (F : Field) (s : State) : ∃ regs msix0 msix1, s.raise F = { s with regs, host := { s.host with msix0, msix1 } } := by
  unfold State.raise
  dsimp only
  split
  · exact ⟨_, _, _, rfl⟩
  · split
    · split <;> exact ⟨_, _, _, rfl⟩
    · exact ⟨_, _, _, rfl⟩

/-- A condition moves the register store, the standing conditions and the message counters only. -/
theorem cond_shape (F : Field) (b : Bool) (s : State) :
    ∃ regs conds msix0 msix1, s.cond F b = { s with regs, conds, host := { s.host with msix0, msix1 } } := by
  unfold State.cond
  dsimp only
  split
  · split
    · exact ⟨_, _, _, _, rfl⟩
    · obtain ⟨regs, m0, m1, h⟩ := raise_shape F { s with conds := addKey F.key s.conds }
      exact ⟨regs, _, m0, m1, h⟩
  · split <;> exact ⟨_, _, _, _, rfl⟩

/-! ## State commands (R52 to R55) -/

/-- The page of ARM_CMD is the arm glade's, which runs in service. -/
theorem commanded_armCmd {s : State} (h : s.inService = true) (f : State → State) : s.commanded 0x71048 f = f s :=
  commanded_inService h (g := 5) (by decide) (inService_common h (by decide)) (by cases s.variant <;> decide) f

theorem armRequest_off {s : State} (h : s.up 5 = true) :
    s.armRequest .off = { s with arm := { s.arm with pend := some .off, pendLate := s.dlPassed } } := by
  simp [State.armRequest, h]

/-- A request for CHARGE or RUN first judges the budget (R45), which moves registers and message counters only. -/
theorem armRequest_waits {s : State} (h : s.up 5 = true) (r : ArmReq) :
    (s.armRequest r).arm.pend = some r ∧ (s.armRequest r).arm.mode = s.arm.mode ∧ (s.armRequest r).mem = s.mem := by
  obtain ⟨regs, conds, m0, m1, hb⟩ := cond_shape R.ARM_CYC_STAT_BUDGET (!s.budgetOk) s
  cases r <;> simp [State.armRequest, h, State.budgetCheck, hb]

/-- What one ring takes when block frames are asked of every ring (R55). -/
def askBlockFrame (n : Nat) (a : State) : State :=
  if a.ringUp n && !(a.lane n).rep && blockRuns (a.ring n).mode then a.setRing n { a.ring n with blkWait := true } else a

theorem askBlockFrames_eq (s : State) : s.askBlockFrames = forAll s.ringList askBlockFrame s := rfl

theorem askBlockFrame_shape (n : Nat) (s : State) : ∃ rings, askBlockFrame n s = { s with rings } := by
  unfold askBlockFrame
  split <;> exact ⟨_, rfl⟩

theorem askBlockFrames_shape (s : State) : ∃ rings, s.askBlockFrames = { s with rings } := by
  rw [askBlockFrames_eq]
  refine forAll_induction (P := fun x => ∃ rings, x = { s with rings }) ⟨_, rfl⟩ ?_
  rintro n - x ⟨rings, rfl⟩
  exact askBlockFrame_shape n _

/-- Ring `n` owes a block frame, if the cells of its lane are its own and known. -/
def OwesFrame (n : Nat) (s : State) : Prop :=
  s.ringUp n = true → (s.lane n).rep = false → blockRuns (s.ring n).mode = true → (s.ring n).blkWait = true

theorem ring_setRing_other {n m : Nat} (h : n ≠ m) (r : RingSt) (s : State) : (s.setRing m r).ring n = s.ring n := tget_tset_other h r

theorem ring_setRing_waits (n : Nat) (r : RingSt) (s : State) :
    (s.setRing n { r with blkWait := true }).ring n = { r with blkWait := true } :=
  tget_tset_value (fun h => Bool.noConfusion (congrArg RingSt.blkWait h)) n

theorem askBlockFrame_owes (n : Nat) (s : State) : OwesFrame n (askBlockFrame n s) := by
  unfold askBlockFrame
  split
  · intro _ _ _
    rw [ring_setRing_waits]
  · next hc =>
    intro hup hrep hruns
    simp [hup, hrep, hruns] at hc

theorem askBlockFrame_mode (n m : Nat) (s : State) : ((askBlockFrame m s).ring n).mode = (s.ring n).mode := by
  unfold askBlockFrame
  split
  · by_cases hnm : n = m
    · subst hnm
      rw [ring_setRing_waits]
    · rw [ring_setRing_other hnm]
  · rfl

theorem askBlockFrames_mode (n : Nat) (s : State) : (s.askBlockFrames.ring n).mode = (s.ring n).mode :=
  forAll_induction (P := fun x => (x.ring n).mode = (s.ring n).mode) rfl fun m _ x hx => (askBlockFrame_mode n m x).trans hx

theorem OwesFrame.askBlockFrame {n m : Nat} {s : State} (h : OwesFrame n s) : OwesFrame n (askBlockFrame m s) := by
  by_cases hnm : n = m
  · subst hnm
    exact askBlockFrame_owes n s
  · unfold Machine.askBlockFrame
    split
    · intro hup hrep hruns
      rw [ring_setRing_other hnm] at hruns ⊢
      exact h hup hrep hruns
    · exact h

/-- Once the frames are asked for, every ring of the list owes its own (R25, R55). -/
theorem forAll_askBlockFrame_owes {l : List Nat} {n : Nat} (hn : n ∈ l) (s : State) : OwesFrame n (forAll l askBlockFrame s) := by
  induction l generalizing s with
  | nil => cases hn
  | cons m t ih =>
    obtain rfl | ht := List.mem_cons.mp hn
    · exact forAll_induction (l := t) (askBlockFrame_owes n s) fun _ _ _ hx => hx.askBlockFrame
    · exact ih ht (Machine.askBlockFrame m s)

theorem askBlockFrames_owes {s : State} {n : Nat} (hn : n ∈ s.ringList) (hup : s.ringUp n = true) (hrep : (s.lane n).rep = false)
    (hruns : blockRuns (s.ring n).mode = true) : (s.askBlockFrames.ring n).blkWait = true := by
  obtain ⟨rings, hshape⟩ := askBlockFrames_shape s
  refine forAll_askBlockFrame_owes hn s ?_ ?_ ?_
  · rw [← askBlockFrames_eq, hshape]
    exact hup
  · rw [← askBlockFrames_eq, hshape]
    exact hrep
  · rw [← askBlockFrames_eq, askBlockFrames_mode]
    exact hruns

/-- BLOCK in every slot moves the command encoder and the records (R181). -/
theorem blockSlots_shape (s : State) : ∃ enc recs, s.blockSlots = { s with enc, rank := { s.rank with recs } } := by
  refine forAll_induction (P := fun x => ∃ enc recs, x = { s with enc, rank := { s.rank with recs } }) ?_ ?_
  · refine forAll_induction (P := fun x => ∃ enc recs, x = { s with enc, rank := { s.rank with recs } }) ⟨_, _, rfl⟩ ?_
    rintro n - x ⟨enc, recs, rfl⟩
    exact ⟨_, _, rfl⟩
  · rintro n - x ⟨enc, recs, rfl⟩
    exact ⟨_, _, rfl⟩

theorem lvlShow_shape (s : State) : ∃ regs, s.lvlShow = { s with regs } := by
  unfold State.lvlShow
  split <;> exact ⟨_, rfl⟩

theorem blockAllSlots_shape (s : State) : ∃ regs enc recs, s.lvlShow.blockSlots = { s with regs, enc, rank := { s.rank with recs } } := by
  obtain ⟨regs, hlvl⟩ := lvlShow_shape s
  obtain ⟨enc, recs, hslots⟩ := blockSlots_shape { s with regs }
  exact ⟨regs, enc, recs, hlvl ▸ hslots⟩

/-- An entry to BLOCKED sets the arm's mode, drops the plan and blocks every slot, and then asks for the block frames (R52, R55). -/
theorem armImmediate_blocked (s : State) : ∃ u regs enc recs, s.armImmediate .blocked = u.askBlockFrames
    ∧ u = { s with regs, enc, arm := { s.arm with mode := .blocked }, rank := { s.rank with plan := none, recs } } := by
  obtain ⟨regs, enc, recs, hshape⟩ :=
    blockAllSlots_shape { s with arm := { s.arm with mode := .blocked }, rank := { s.rank with plan := none } }
  exact ⟨_, regs, enc, recs, rfl, hshape⟩

/-- GO_BLOCK in CHARGE or RUN drops the command that waits, and the arm enters BLOCKED. -/
theorem goBlock_commands {s : State} (h : s.up 5 = true) (hm : s.arm.mode = .charge ∨ s.arm.mode = .run) :
    s.goBlock = State.armImmediate .blocked { s with arm := { s.arm with pend := none, pendLate := false } } := by
  rcases hm with hm | hm <;> simp [State.goBlock, State.armBlock, h, hm]

theorem goBlock_idle {s : State} (hm : s.arm.mode = .off ∨ s.arm.mode = .blocked ∨ s.arm.mode = .debugHalt) : s.goBlock = s := by
  rcases hm with hm | hm | hm <;> simp [State.goBlock, hm]

/-- GO_BLOCK in CHARGE or RUN: BLOCKED at once, and every ring whose cells are known owes a block frame. -/
theorem goBlock_blocks {s : State} (h : s.up 5 = true) (hm : s.arm.mode = .charge ∨ s.arm.mode = .run) :
    s.goBlock.arm.mode = .blocked ∧ s.goBlock.arm.pend = none ∧ s.goBlock.rank.plan = none ∧ s.goBlock.mem = s.mem
      ∧ ∀ n ∈ s.ringList, s.ringUp n = true → (s.lane n).rep = false → blockRuns (s.ring n).mode = true → (s.goBlock.ring n).blkWait = true := by
  obtain ⟨u, regs, enc, recs, hgo, hu⟩ := armImmediate_blocked { s with arm := { s.arm with pend := none, pendLate := false } }
  obtain ⟨rings, hask⟩ := askBlockFrames_shape u
  rw [goBlock_commands h hm, hgo]
  refine ⟨by rw [hask, hu], by rw [hask, hu], by rw [hask, hu], by rw [hask, hu], fun n hn hup hrep hruns => ?_⟩
  exact askBlockFrames_owes (by rw [hu]; exact hn) (by rw [hu]; exact hup) (by rw [hu]; exact hrep) (by rw [hu]; exact hruns)

/-- Settles O20, with `armRequest_waits` for the commands that wait and `goBlock_blocks` for the one that does not. -/
theorem armCommandsWaitForCommit : Obligations.ArmCommandsWaitForCommit := by
  intro s h
  have h5 : s.up 5 = true := inService_common h (by decide)
  have taken (f : State → State) : Host.Outcome.next (φ := Fault) (ρ := Refusal) (s.commanded 0x71048 f) = .next (f s) := by
    rw [commanded_armCmd h]
  refine ⟨⟨_, taken goOffEffect, ?_⟩, ⟨_, taken goChargeEffect, armRequest_waits h5 .charge⟩, ⟨_, taken goRunEffect, armRequest_waits h5 .run⟩,
    fun hm => ⟨_, taken goBlockEffect, goBlock_blocks h5 hm⟩, fun hm => ?_⟩
  · rw [goOffEffect, armRequest_off h5]
    exact ⟨rfl, rfl, rfl, rfl, rfl⟩
  · exact (taken goBlockEffect).trans (congrArg _ (goBlock_idle hm))

end Sys2Proof.Machine
end

section
namespace Sys2Proof.Machine

/-! ## ENDW on a worn core

A worn core is fenced at the end of its running item (R488), and a buffer that is being moved into its SRAM stays where it is. The data-port
bytes that have waited for the move land there (R36), and so memory changes although no trace is written. The clause on an access fault excepts a
worn core; the one on ENDW does not. -/

/-- A task without buffers of its own. -/
def plainTask : TaskDecl :=
  { num := 1, entry := 0, prio := 0, classP := some false, ready := .any 1, tb := 100, rb := 100, bufs := [], pages := [], enabled := true }

/-- In service, with worn core 0 running an item while buffer 7 moves into its SRAM, and one byte of the data port waiting for the move. -/
def wornCoreEnds : State :=
  { glades := (List.range 44).map (fun g => (g, { inReset := false }))
    host := { phase := .applied, dpWait := [(7, 0, 5)] }
    sched :=
      { tasks := [(1, { decl := plainTask, enabled := true })]
        cores := [(0, { run := some { task := 1 }, worn := true })]
        bufs := [{ decl := { handle := 7, size := 8, kind := .placed, ckpt := false, loc := .device 0 }, move := some (.sram 0 0) }] } }

theorem wornCoreEnds_inService : wornCoreEnds.inService = true := by decide

theorem exec_pxEndw_wornCoreEnds : ∃ t, exec (.pxEndw 0) wornCoreEnds = .next t ∧ t.mem = [(0, 5)] := by
  refine ⟨_, rfl, ?_⟩
  decide

/-- Refutes O43: with tracing off, ENDW on a worn core lets a data-port byte that waited for a move into its SRAM land in memory. -/
theorem not_workItems : ¬ Obligations.WorkItems := by
  intro h
  obtain ⟨-, -, -, -, hrunning, -⟩ := h wornCoreEnds 0 wornCoreEnds_inService (by decide) (by decide) (by decide) (fun d hd => by cases hd)
  obtain ⟨hendw, -⟩ := hrunning _ _ rfl rfl rfl rfl (by decide)
  obtain ⟨t, hexec, -, hmem, -⟩ := hendw (by decide) rfl
  obtain ⟨t', hexec', hmem'⟩ := exec_pxEndw_wornCoreEnds
  cases hexec.symm.trans hexec'
  rw [hmem (by decide)] at hmem'
  cases hmem'

end Sys2Proof.Machine
end

section
namespace Sys2Proof.Machine

/-! ## A register store with two entries for one field

The statement does not ask for the canonical form of the register store (O3). A field that returns to its reset value is erased from the store, and
a second entry of the same key then stands in its place. -/

/-- The last CKPT message of checkpoint 0, with index 1 and no payload. -/
def lastCkpt : CMsg :=
  let m : CMsg := { mtype := 5, dst := 0, src := 0, hops := 0, sess := 0, seq := 0, tag := 0, aux := 2 ^ 31 + 1, payload := [] }
  { m with mcrc := m.mcrcOf }

/-- The CRC-32C of an image of 256 zero bytes but for its trailer. -/
def zeroImageCrc : Nat := crc32c (List.replicate 248 0)

/-- A sink with the pair's port up that has received the first message of checkpoint 0, of zero bytes and the right trailer; CK_CYC has two
entries in the register store. -/
def doubleCkCyc : State :=
  { regs := [((R.CANOPY_CTRL_EN 0).key, 1), (R.AMBER_CFG_EN.key, 1), (R.AMBER_CK_CYC_VAL.key, 1), (R.AMBER_CK_CYC_VAL.key, 2)]
    mem := Memory.writeN [] (imgBase 0 + 252) (leBytes 4 zeroImageCrc)
    glades := [(6, { inReset := false })]
    canopy := { ports := [(0, { up := true })] }
    amber := { role := .standby, rxCk := some { seq := 0, next := 1 } } }

theorem doubleCkCyc_sink : doubleCkCyc.amberUp = true ∧ keysRise none doubleCkCyc.glades = true ∧ doubleCkCyc.isSink = true
    ∧ doubleCkCyc.pairValid 0 lastCkpt 5 = true ∧ doubleCkCyc.linkCut 6 0 = false := by decide +kernel

set_option maxRecDepth 20000 in
theorem doubleCkCyc_trailer : doubleCkCyc.rd (imgBase doubleCkCyc.sinkImage + 256 - 8) 4 = lastCkpt.tag
    ∧ doubleCkCyc.rd (imgBase doubleCkCyc.sinkImage + 256 - 4) 4 = crc32c (Memory.readN doubleCkCyc.mem (imgBase doubleCkCyc.sinkImage) (256 - 8))
    ∧ doubleCkCyc.rd (imgBase doubleCkCyc.sinkImage + 8) 4 = 0 := by decide +kernel

set_option maxRecDepth 20000 in
theorem exec_ckptReceived_doubleCkCyc :
    ∃ t, exec (.ckptReceived 0 lastCkpt) doubleCkCyc = .next t ∧ t.get R.AMBER_CK_CYC_VAL = 2 := by
  refine ⟨_, rfl, ?_⟩
  decide +kernel

theorem write_nothing (s : State) (a : Nat) {bs : List Byte} (h : bs = []) : s = { s with mem := Memory.writeN s.mem a bs } := by rw [h]; rfl

/-- Refutes O53: where the register store holds two entries of CK_CYC, a complete checkpoint of cycle 0 erases the first one, and CK_CYC reads the
second one. -/
theorem not_pairCheckpoints : ¬ Obligations.PairCheckpoints := by
  intro h
  obtain ⟨hup, hglades, hsink, hvalid, hlink⟩ := doubleCkCyc_sink
  obtain ⟨htag, hcrc, hcyc⟩ := doubleCkCyc_trailer
  obtain ⟨-, -, -, -, hckpt, -⟩ := h doubleCkCyc 0 hup hglades
  obtain ⟨-, hnext⟩ := hckpt lastCkpt hsink hvalid rfl hlink
  obtain ⟨-, hinOrder⟩ := hnext _ rfl (by decide)
  obtain ⟨-, hlast, -⟩ := hinOrder rfl rfl (by decide) _ 256 doubleCkCyc rfl rfl (write_nothing _ _ rfl)
  obtain ⟨t, hexec, -, -, -, hread⟩ := hlast (by decide) rfl htag hcrc
  obtain ⟨t', hexec', hread'⟩ := exec_ckptReceived_doubleCkCyc
  cases hexec.symm.trans hexec'
  rw [hread', hcyc] at hread
  exact absurd hread (by decide)

end Sys2Proof.Machine
end

section
namespace Sys2Proof.Machine

/-! ## What the collector keeps (R732, R733)

What a glade's loss stops, and what the conditions show when they are judged again, takes no event back from the collector's inbox except a
crossing hold (R363), and neither ends nor begins the safe state. One rule for each function that makes a state, in the order of the model's
files, as for `Keeps`.
-/

/-- `InboxKept s₀ s`: in `s`, which operations have made from `s₀`, the collector is in the safe state if it was in `s₀`, and every event that
waited still waits, unless it is one of a crossing hold. -/
structure InboxKept (s₀ s : State) : Prop where
  l4 : s.flt.l4 = s₀.flt.l4
  frozen : s.flt.frozen = s₀.flt.frozen
  inbox : ∀ e ∈ s₀.flt.inbox, e.cls ≠ .intlk → e ∈ s.flt.inbox

variable {s₀ s : State}

theorem InboxKept.refl (s : State) : InboxKept s s := ⟨rfl, rfl, fun _ he _ => he⟩

/-- What the collector takes no part in. -/
theorem InboxKept.update {regs : List (Nat × Nat)} {mem : Memory} {conds memBad : List Nat} {time elapsed free : Nat} {glades : Tab GladeSt}
    {host : HostSt} {arm : ArmSt} {rank : RankSt} {enc : EncSt} {rings : Tab RingSt} {lanes : Tab LaneSt} {loops : Tab LoopSt} {servo : ServoSt}
    {net : NetSt} {pwm : PwmSt} {poss : Tab PosSt} {adcs : Tab AdcSt} {sched : SchedSt} {sec : SecSt} {nvm : NvmSt} {age : AgeSt}
    {canopy : CanopySt} {amber : AmberSt} {safe : SafeSt} (h : InboxKept s₀ s) :
    InboxKept s₀ { s with
      regs, mem, conds, memBad, time, elapsed, free, glades, host, arm, rank, enc, rings, lanes, loops, servo, net, pwm, poss, adcs, sched, sec, nvm,
      age, canopy, amber, safe } :=
  ⟨h.l4, h.frozen, h.inbox⟩

/-- The fences of units stand beside the inbox. -/
theorem InboxKept.setUnits {units : Tab Nat} (h : InboxKept s₀ s) : InboxKept s₀ { s with flt := { s.flt with units } } :=
  ⟨h.l4, h.frozen, h.inbox⟩

theorem InboxKept.ite {c : Prop} [Decidable c] {t : State} (hs : InboxKept s₀ s) (ht : InboxKept s₀ t) : InboxKept s₀ (if c then s else t) := by
  split <;> assumption

theorem InboxKept.thenIf {c : Prop} [Decidable c] {t : State} (h : InboxKept s₀ s) (k : InboxKept s₀ s → InboxKept s₀ t) :
    InboxKept s₀ (if c then t else s) :=
  .ite (k h) h

theorem InboxKept.elseIf {c : Prop} [Decidable c] {t : State} (h : InboxKept s₀ s) (k : InboxKept s₀ s → InboxKept s₀ t) :
    InboxKept s₀ (if c then s else t) :=
  .ite h (k h)

theorem InboxKept.foldl {β : Type} {f : State → β → State} {l : List β} (h : InboxKept s₀ s)
    (hf : ∀ {x n}, InboxKept s₀ x → InboxKept s₀ (f x n)) : InboxKept s₀ (l.foldl f s) :=
  List.foldlRecOn l f h fun _ hx _ _ => hf hx

theorem InboxKept.forAll {l : List Nat} {f : Nat → State → State} (h : InboxKept s₀ s) (hf : ∀ {n x}, InboxKept s₀ x → InboxKept s₀ (f n x)) :
    InboxKept s₀ (forAll l f s) :=
  h.foldl hf

theorem InboxKept.put {F : Field} {v : Nat} (h : InboxKept s₀ s) : InboxKept s₀ (s.put F v) := h.update

theorem InboxKept.post {e : Event} (h : InboxKept s₀ s) : InboxKept s₀ (s.post e) :=
  ⟨h.l4, h.frozen, fun x hx hc => List.mem_append_left _ (h.inbox x hx hc)⟩

/-- Only the event of a crossing hold is taken back (R363). -/
theorem InboxKept.unpost {e : Event} (h : InboxKept s₀ s) (he : e.cls = .intlk) : InboxKept s₀ (s.unpost e) := by
  refine ⟨h.l4, h.frozen, fun x hx hc => ?_⟩
  have hne : x ≠ e := fun hxe => hc (hxe ▸ he)
  have herase : (s.unpost e).flt.inbox = s.flt.inbox.erase e := (List.erase_eq_eraseIdx_of_idxOf rfl).symm
  exact herase ▸ (List.mem_erase_of_ne hne).mpr (h.inbox x hx hc)

theorem InboxKept.addTo {F : Field} {n : Nat} (h : InboxKept s₀ s) : InboxKept s₀ (s.addTo F n) := h.put

theorem InboxKept.putAll {l : List (Field × Nat)} (h : InboxKept s₀ s) : InboxKept s₀ (s.putAll l) := by
  induction l generalizing s with
  | nil => exact h
  | cons e t ih =>
    obtain ⟨F, v⟩ := e
    exact ih h.put

theorem InboxKept.setGlade {g : Nat} {x : GladeSt} (h : InboxKept s₀ s) : InboxKept s₀ (s.setGlade g x) := h.update
theorem InboxKept.event {c : FaultClass} {unit aux : Nat} (h : InboxKept s₀ s) : InboxKept s₀ (s.event c unit aux) := h.post
theorem InboxKept.eventOpen {c : FaultClass} {unit aux : Nat} (h : InboxKept s₀ s) : InboxKept s₀ (s.eventOpen c unit aux) := h.post
theorem InboxKept.event0 {c : FaultClass} {unit aux : Nat} (h : InboxKept s₀ s) : InboxKept s₀ (s.event0 c unit aux) := h.post
theorem InboxKept.config {addr : Nat} (h : InboxKept s₀ s) : InboxKept s₀ (s.config addr) := h.event0
theorem InboxKept.discardWrites {g n : Nat} (h : InboxKept s₀ s) : InboxKept s₀ (s.discardWrites g n) := h.update

theorem InboxKept.overLink {a b : Nat} {deliver : State → State} (h : InboxKept s₀ s)
    (hdeliver : ∀ {x}, InboxKept s₀ x → InboxKept s₀ (deliver x)) : InboxKept s₀ (s.overLink a b deliver) :=
  InboxKept.ite h.discardWrites (hdeliver h)

theorem InboxKept.raise {F : Field} (h : InboxKept s₀ s) : InboxKept s₀ (s.raise F) := by
  obtain ⟨regs, msix0, msix1, hs⟩ := raise_shape F s
  rw [hs]
  exact h.update

theorem InboxKept.unpend {F : Field} (h : InboxKept s₀ s) : InboxKept s₀ (s.unpend F) := by
  unfold State.unpend
  split
  · exact h.put
  · exact h

theorem InboxKept.unraise {b : BitsBack} (h : InboxKept s₀ s) : InboxKept s₀ (s.unraise b) := (h.foldl (·.put.elseIf (·.unpend))).update
theorem InboxKept.flagIf {b : Bool} {F : Field} (h : InboxKept s₀ s) : InboxKept s₀ (s.flagIf b F) := h.thenIf (·.raise)

theorem InboxKept.cond {F : Field} {b : Bool} (h : InboxKept s₀ s) : InboxKept s₀ (s.cond F b) := by
  obtain ⟨regs, conds, msix0, msix1, hs⟩ := cond_shape F b s
  rw [hs]
  exact h.update

theorem InboxKept.setRec {i : Nat} {r : SmRec} (h : InboxKept s₀ s) : InboxKept s₀ (s.setRec i r) := h.update
theorem InboxKept.setProt {i : Nat} {p : SmProt} (h : InboxKept s₀ s) : InboxKept s₀ (s.setProt i p) := h.update
theorem InboxKept.setRing {n : Nat} {r : RingSt} (h : InboxKept s₀ s) : InboxKept s₀ (s.setRing n r) := h.update
theorem InboxKept.setPort {p : Nat} {x : PortSt} (h : InboxKept s₀ s) : InboxKept s₀ (s.setPort p x) := h.update
theorem InboxKept.enqueue {p cls : Nat} {m : CMsg} (h : InboxKept s₀ s) : InboxKept s₀ (s.enqueue p cls m) := h.setPort

theorem InboxKept.sendMsg {cls : Nat} {m : CMsg} (h : InboxKept s₀ s) : InboxKept s₀ (s.sendMsg cls m) := by
  unfold State.sendMsg
  split
  · exact h.enqueue
  · exact h

theorem InboxKept.setSess {k : Nat} {x : SessSt} (h : InboxKept s₀ s) : InboxKept s₀ (s.setSess k x) := h.update.put
theorem InboxKept.useFree {n : Nat} (h : InboxKept s₀ s) : InboxKept s₀ (s.useFree n) := h.update
theorem InboxKept.setTask {t : Nat} {x : TaskSt} (h : InboxKept s₀ s) : InboxKept s₀ (s.setTask t x) := h.update

theorem InboxKept.modTask {t : Nat} {f : TaskSt → TaskSt} (h : InboxKept s₀ s) : InboxKept s₀ (s.modTask t f) := by
  unfold State.modTask
  split
  · exact h.setTask
  · exact h

theorem InboxKept.setCore {u : Nat} {c : CoreSt} (h : InboxKept s₀ s) : InboxKept s₀ (s.setCore u c) := h.update
theorem InboxKept.setStalls {l : List Stalled} (h : InboxKept s₀ s) : InboxKept s₀ (s.setStalls l) := h.update
theorem InboxKept.setBufs {l : List BufSt} (h : InboxKept s₀ s) : InboxKept s₀ (s.setBufs l) := h.update
theorem InboxKept.taskEvent {t : Nat} (h : InboxKept s₀ s) : InboxKept s₀ (s.taskEvent t) := h.event
theorem InboxKept.clearBad {a n : Nat} (h : InboxKept s₀ s) : InboxKept s₀ (s.clearBad a n) := h.update
theorem InboxKept.eccRead {a n unit : Nat} (h : InboxKept s₀ s) : InboxKept s₀ (s.eccRead a n unit) := h.foldl InboxKept.event

theorem InboxKept.writeBytes {n : Nat} {bs : List Byte} (h : InboxKept s₀ s) : InboxKept s₀ (s.writeBytes n bs) := by
  unfold State.writeBytes
  extract_lets s1
  have h1 : InboxKept s₀ s1 := h.clearBad
  split
  · exact h1.update
  · exact h1.update.foldl InboxKept.event

theorem InboxKept.writeFrom {g a : Nat} {bs : List Byte} (h : InboxKept s₀ s) : InboxKept s₀ (s.writeFrom g a bs) := h.overLink InboxKept.writeBytes

theorem InboxKept.readEcc {a n : Nat} (h : InboxKept s₀ s) : InboxKept s₀ (s.readEcc a n).2 := by
  unfold State.readEcc
  split
  · exact h
  · exact h.eccRead.useFree

theorem InboxKept.readFrom {g a n : Nat} (h : InboxKept s₀ s) : InboxKept s₀ (s.readFrom g a n).2 := by
  unfold State.readFrom
  split
  · exact h
  · exact h.readEcc

theorem InboxKept.zeroMem {a n : Nat} (h : InboxKept s₀ s) : InboxKept s₀ (s.zeroMem a n) :=
  h.update.clearBad

theorem InboxKept.traceWrite {ws : List Nat} (h : InboxKept s₀ s) : InboxKept s₀ (s.traceWrite ws) :=
  .ite (InboxKept.ite h.addTo.raise (h.update.writeFrom.put.thenIf (·.put))) h

theorem InboxKept.traceItem {typ u hi : Nat} {w : WorkItem} (h : InboxKept s₀ s) : InboxKept s₀ (s.traceItem typ u hi w) := h.traceWrite

theorem InboxKept.startItem {u : Nat} (h : InboxKept s₀ s) : InboxKept s₀ (s.startItem u) := by
  unfold State.startItem
  extract_lets
  split
  · exact h.thenIf (·.setCore.useFree.modTask)
  · exact h
  · exact h

theorem InboxKept.returnStaged {u : Nat} (h : InboxKept s₀ s) : InboxKept s₀ (s.returnStaged u) := by
  unfold State.returnStaged
  extract_lets
  split
  · exact h
  · exact h.setCore.modTask

theorem InboxKept.dpLost {hd ofs unit : Nat} (h : InboxKept s₀ s) : InboxKept s₀ (s.dpLost hd ofs unit) := h.put.put.addTo.raise.event

theorem InboxKept.dpLand {hd : Nat} {dest : BufLoc} (h : InboxKept s₀ s) : InboxKept s₀ (s.dpLand hd dest) := by
  unfold State.dpLand
  extract_lets l whole bad _ s1 s2
  have h1 : InboxKept s₀ s1 := h.update
  have h2 : InboxKept s₀ s2 := h1.foldl InboxKept.dpLost
  split
  case h_1 a _ _ =>
    have hput : InboxKept s₀ (s2.put R.DPORT_DP_ADDR_ADDR a) := h2.put
    exact hput.update
  case h_2 => exact h2

theorem InboxKept.loseBuffers {unit : Nat} (h : InboxKept s₀ s) : InboxKept s₀ (s.loseBuffers unit) := h.setBufs.foldl InboxKept.dpLand

theorem InboxKept.retireWorn {u : Nat} (h : InboxKept s₀ s) : InboxKept s₀ (s.retireWorn u) :=
  h.thenIf (·.returnStaged.setUnits.setCore.raise.loseBuffers)

theorem InboxKept.endItem {u : Nat} (h : InboxKept s₀ s) : InboxKept s₀ (s.endItem u) := h.setStalls.setCore.retireWorn.startItem
theorem InboxKept.trap {u cause pc tval : Nat} (h : InboxKept s₀ s) : InboxKept s₀ (s.trap u cause pc tval) := h.thenIf (·.setCore.useFree)

theorem InboxKept.abortItem {u cause pc tval : Nat} (h : InboxKept s₀ s) : InboxKept s₀ (s.abortItem u cause pc tval) := by
  unfold State.abortItem
  split
  · exact h
  · extract_lets s1 s2 s3 s4
    have h1 : InboxKept s₀ s1 := h.putAll
    have h2 : InboxKept s₀ s2 := h1.raise.modTask
    have h3 : InboxKept s₀ s3 := h2.thenIf (·.traceItem)
    have h4 : InboxKept s₀ s4 := InboxKept.ite h3.raise.taskEvent (InboxKept.ite h3.taskEvent (h3.thenIf (·.event)))
    exact h4.trap.endItem

theorem InboxKept.abortFree {u cause : Nat} (h : InboxKept s₀ s) : InboxKept s₀ (s.abortFree u cause) := h.abortItem.useFree

theorem InboxKept.unstart {u : Nat} (h : InboxKept s₀ s) : InboxKept s₀ (s.unstart u) := by
  unfold State.unstart
  extract_lets
  split
  · exact h.thenIf (·.setCore)
  · exact h
  · exact h

theorem InboxKept.fenceCore {u : Nat} (h : InboxKept s₀ s) : InboxKept s₀ (s.fenceCore u) :=
  h.unstart.returnStaged.abortFree.setCore.raise.loseBuffers

theorem InboxKept.portDown {p : Nat} (h : InboxKept s₀ s) : InboxKept s₀ (s.portDown p) := h.thenIf (·.setPort.put.raise.eventOpen)
theorem InboxKept.pairSend {cls : Nat} {m : CMsg} (h : InboxKept s₀ s) : InboxKept s₀ (s.pairSend cls m) := h.thenIf (·.enqueue)
theorem InboxKept.regionCheck (h : InboxKept s₀ s) : InboxKept s₀ s.regionCheck := h.thenIf (·.putAll.cond.update.thenIf (·.eventOpen))
theorem InboxKept.sendStatic (h : InboxKept s₀ s) : InboxKept s₀ s.sendStatic := h.thenIf (·.foldl InboxKept.pairSend)
theorem InboxKept.topologyChanged (h : InboxKept s₀ s) : InboxKept s₀ s.topologyChanged := h.thenIf (·.update.regionCheck.sendStatic)
theorem InboxKept.decideSign (h : InboxKept s₀ s) : InboxKept s₀ s.decideSign := h.elseIf (·.update)

theorem InboxKept.selReport {S : LevelSets} {r : SelResult} {dead : Bool} (h : InboxKept s₀ s) : InboxKept s₀ (s.selReport S r dead) :=
  h.useFree.putAll.addTo.addTo.addTo.flagIf.flagIf.flagIf.flagIf.flagIf.flagIf

theorem InboxKept.markRecs {groups : List (Nat × Nat)} (h : InboxKept s₀ s) : InboxKept s₀ (s.markRecs groups) := h.forAll InboxKept.setRec
theorem InboxKept.select (h : InboxKept s₀ s) : InboxKept s₀ s.select := h.decideSign.selReport.markRecs.update
theorem InboxKept.selAgain (h : InboxKept s₀ s) : InboxKept s₀ s.selAgain := h.thenIf (·.putAll.select)
theorem InboxKept.protConds (h : InboxKept s₀ s) : InboxKept s₀ s.protConds := h.cond.cond
theorem InboxKept.leakBegin (h : InboxKept s₀ s) : InboxKept s₀ s.leakBegin := ((h.forAll InboxKept.setProt).forAll InboxKept.setProt).update.put.put
theorem InboxKept.leakCheckEnd (h : InboxKept s₀ s) : InboxKept s₀ s.leakCheckEnd := h.thenIf (·.update.addTo.raise.put.thenIf (·.leakBegin))
theorem InboxKept.leakLeave {n : Nat} (h : InboxKept s₀ s) : InboxKept s₀ (s.leakLeave n) := (h.forAll (·.thenIf (·.setProt))).leakCheckEnd
theorem InboxKept.setSlot {i : Nat} {c : SlotCmd} (h : InboxKept s₀ s) : InboxKept s₀ (s.setSlot i c) := h.update
theorem InboxKept.blockSlots (h : InboxKept s₀ s) : InboxKept s₀ s.blockSlots := (h.update.forAll InboxKept.setSlot).forAll InboxKept.setRec
theorem InboxKept.setLane {l : Nat} {x : LaneSt} (h : InboxKept s₀ s) : InboxKept s₀ (s.setLane l x) := h.update
theorem InboxKept.budgetCheck (h : InboxKept s₀ s) : InboxKept s₀ s.budgetCheck := h.cond
theorem InboxKept.ringBudget {n : Nat} (h : InboxKept s₀ s) : InboxKept s₀ (s.ringBudget n) := h.cond.setRing.thenIf (·.eventOpen)
theorem InboxKept.ringLoss {rtMax n : Nat} (h : InboxKept s₀ s) : InboxKept s₀ (s.ringLoss rtMax n) := (h.cond.elseIf (·.setRing)).thenIf (·.config)
theorem InboxKept.ringsLoss (h : InboxKept s₀ s) : InboxKept s₀ s.ringsLoss := h.forAll InboxKept.ringLoss
theorem InboxKept.ringsRecheck (h : InboxKept s₀ s) : InboxKept s₀ s.ringsRecheck := (h.forAll InboxKept.ringBudget).ringsLoss
theorem InboxKept.ringOut {n : Nat} (h : InboxKept s₀ s) : InboxKept s₀ (s.ringOut n) := h.leakLeave.budgetCheck.ringsLoss.regionCheck
theorem InboxKept.svcHostDone {n res : Nat} (h : InboxKept s₀ s) : InboxKept s₀ (s.svcHostDone n res) := h.put.put.raise
theorem InboxKept.svcAbort {n : Nat} (h : InboxKept s₀ s) : InboxKept s₀ (s.svcAbort n) := h.setRing.thenIf (·.svcHostDone)
theorem InboxKept.ringGladeStop {g : Nat} (h : InboxKept s₀ s) : InboxKept s₀ (s.ringGladeStop g) := h.thenIf (·.setGlade)
theorem InboxKept.askBlockFrames (h : InboxKept s₀ s) : InboxKept s₀ s.askBlockFrames := h.forAll (·.thenIf (·.setRing))

theorem InboxKept.fenceRing {n : Nat} {lost : Bool} (h : InboxKept s₀ s) : InboxKept s₀ (s.fenceRing n lost) := by
  unfold State.fenceRing
  extract_lets mid _ s1 _ s2 s3
  have h1 : InboxKept s₀ s1 := InboxKept.ite h.setRing h.svcAbort
  have h2 : InboxKept s₀ s2 := h1.setRing
  have h3 : InboxKept s₀ s3 := h2.cond.ringOut
  exact (InboxKept.ite h3 (InboxKept.ite h3.selAgain h3.raise)).topologyChanged

theorem InboxKept.scanAbort {l : Nat} (h : InboxKept s₀ s) : InboxKept s₀ (s.scanAbort l) := h.elseIf (·.setLane.put.raise)
theorem InboxKept.alignLost {p : Nat} (h : InboxKept s₀ s) : InboxKept s₀ (s.alignLost p) := .ite (h.forAll (·.put.raise)).event.portDown h
theorem InboxKept.trackTaps {l : Nat} (h : InboxKept s₀ s) : InboxKept s₀ (s.trackTaps l) := h.thenIf (·.putAll.setLane.useFree)

theorem InboxKept.laneUnlock {l : Nat} {dst : LaneMode} (h : InboxKept s₀ s) : InboxKept s₀ (s.laneUnlock l dst) :=
  h.trackTaps.scanAbort.setLane.thenIf (·.setPort.alignLost)

theorem InboxKept.laneOff {l : Nat} (h : InboxKept s₀ s) : InboxKept s₀ (s.laneOff l) := h.laneUnlock
theorem InboxKept.fenceLane {l : Nat} (h : InboxKept s₀ s) : InboxKept s₀ (s.fenceLane l) := h.laneOff
theorem InboxKept.loopCond {k : Nat} (h : InboxKept s₀ s) : InboxKept s₀ (s.loopCond k) := h.cond
theorem InboxKept.loopConds (h : InboxKept s₀ s) : InboxKept s₀ s.loopConds := h.forAll InboxKept.loopCond
theorem InboxKept.setCh {c : Nat} {x : ChSt} (h : InboxKept s₀ s) : InboxKept s₀ (s.setCh c x) := h.update
theorem InboxKept.setPin {c : Nat} {b : Bool} (h : InboxKept s₀ s) : InboxKept s₀ (s.setPin c b) := .ite h (InboxKept.ite h.setCh h.setCh)
theorem InboxKept.pinFall {c : Nat} (h : InboxKept s₀ s) : InboxKept s₀ (s.pinFall c) := h.elseIf (·.setPin.setCh)

theorem InboxKept.pinRise {c : Nat} (h : InboxKept s₀ s) : InboxKept s₀ (s.pinRise c) :=
  .ite (InboxKept.ite h.setPin (InboxKept.ite h.setCh h.setCh.setPin)) h

theorem InboxKept.pairHold {p : Nat} (h : InboxKept s₀ s) : InboxKept s₀ (s.pairHold p) :=
  .ite (h.elseIf (·.setCh.setCh.raise.raise.update.addTo.addTo.event)) h.setCh.setCh

theorem InboxKept.unhold {hd : HoldBack} (h : InboxKept s₀ s) : InboxKept s₀ (s.unhold hd) := by
  unfold State.unhold
  extract_lets a b _ s1 _ s2 _ s3
  have h2 : InboxKept s₀ s2 := h.setCh.setCh.unraise.addTo.addTo
  have h3 : InboxKept s₀ s3 := h2.update
  exact h3.unpost rfl

theorem InboxKept.dropHold {p : Nat} (h : InboxKept s₀ s) : InboxKept s₀ (s.dropHold p) := h.elseIf (·.foldl InboxKept.unhold)
theorem InboxKept.pinHolds {c : Nat} (h : InboxKept s₀ s) : InboxKept s₀ (s.pinHolds c) := h.elseIf (·.pinFall)

theorem InboxKept.pairUpdate {p : Nat} (h : InboxKept s₀ s) : InboxKept s₀ (s.pairUpdate p) := by
  unfold State.pairUpdate
  extract_lets fall
  have h_fall : ∀ {n0 x}, InboxKept s₀ x → InboxKept s₀ (fall n0 x) := (fun hx => InboxKept.ite hx.pinHolds hx.pinFall)
  exact (h_fall (h_fall h.dropHold.pairHold)).pinRise.pinRise

theorem InboxKept.pinsUpdate (h : InboxKept s₀ s) : InboxKept s₀ s.pinsUpdate := h.forAll InboxKept.pairUpdate

theorem InboxKept.unresume (h : InboxKept s₀ s) : InboxKept s₀ s.unresume := by
  unfold State.unresume
  split
  · exact h
  · exact InboxKept.ite (h.foldl InboxKept.unhold).putAll.update.config h

theorem InboxKept.engageLatch (h : InboxKept s₀ s) : InboxKept s₀ s.engageLatch := by
  unfold State.engageLatch
  extract_lets u s1
  have h1 : InboxKept s₀ s1 := (h.unresume.forAll InboxKept.setCh).useFree
  have h2 : InboxKept s₀ { s1 with pwm := { s1.pwm with held := true } } := h1.update
  exact .ite h.unresume h2.pinsUpdate

theorem InboxKept.setAdc {c : Nat} {x : AdcSt} (h : InboxKept s₀ s) : InboxKept s₀ (s.setAdc c x) := h.update
theorem InboxKept.adcShow {c : Nat} (h : InboxKept s₀ s) : InboxKept s₀ (s.adcShow c) := h.setAdc.putAll
theorem InboxKept.adcFirstCal {c : Nat} (h : InboxKept s₀ s) : InboxKept s₀ (s.adcFirstCal c) := h.elseIf (·.useFree.setAdc.put)
theorem InboxKept.adcWrite {c : Nat} {codes : List Nat} (h : InboxKept s₀ s) : InboxKept s₀ (s.adcWrite c codes) := h.writeFrom
theorem InboxKept.adcPartial {c : Nat} {r : AdcReq} (h : InboxKept s₀ s) : InboxKept s₀ (s.adcPartial c r) := h.thenIf (·.adcWrite.useFree)

theorem InboxKept.adcStop {c : Nat} (h : InboxKept s₀ s) : InboxKept s₀ (s.adcStop c) := by
  unfold State.adcStop
  extract_lets x s0 s1
  have h0 : InboxKept s₀ s0 := by
    unfold s0
    split
    · exact h.adcPartial
    · exact h
  have h1 : InboxKept s₀ s1 := by
    unfold s1
    split
    · exact (h0.thenIf (·.adcFirstCal)).adcPartial
    · exact h0
  exact h1.setAdc.adcShow

theorem InboxKept.fenceAdc {c : Nat} (h : InboxKept s₀ s) : InboxKept s₀ (s.fenceAdc c) := h.adcStop.putAll.setAdc.adcShow
theorem InboxKept.lvlShow (h : InboxKept s₀ s) : InboxKept s₀ s.lvlShow := h.elseIf (·.putAll)
theorem InboxKept.armImmediate {m : ArmMode} (h : InboxKept s₀ s) : InboxKept s₀ (s.armImmediate m) := h.update.lvlShow.blockSlots.askBlockFrames

theorem InboxKept.armBlock (h : InboxKept s₀ s) : InboxKept s₀ s.armBlock := by
  unfold State.armBlock
  split
  · exact h.armImmediate
  · exact h.armImmediate
  · exact h
  · exact h
  · exact h

theorem InboxKept.goBlock (h : InboxKept s₀ s) : InboxKept s₀ s.goBlock := by
  unfold State.goBlock
  extract_lets
  split
  · split
    · exact h.update.armBlock
    · exact h.update.armBlock
    · exact h
    · exact h
    · exact h
  · exact h

theorem InboxKept.modNet {f : NetSt → NetSt} (h : InboxKept s₀ s) : InboxKept s₀ (s.modNet f) := h.update

theorem InboxKept.portSend {dst etype : Nat} {tagged : Bool} {body : EthBody} {p : Nat} (h : InboxKept s₀ s) :
    InboxKept s₀ (s.portSend dst etype tagged body p) :=
  h.thenIf (·.modNet)

theorem InboxKept.ethSend {mask dst etype : Nat} {tagged : Bool} {body : EthBody} (h : InboxKept s₀ s) :
    InboxKept s₀ (s.ethSend mask dst etype tagged body) :=
  (h.forAll InboxKept.portSend).forAll InboxKept.modNet

theorem InboxKept.setPub {k : Nat} {x : PubSt} (h : InboxKept s₀ s) : InboxKept s₀ (s.setPub k x) := h.modNet
theorem InboxKept.pubSend {k : Nat} {x : PubSt} (h : InboxKept s₀ s) : InboxKept s₀ (s.pubSend k x) := h.setPub.ethSend

theorem InboxKept.pubNew {k : Nat} (h : InboxKept s₀ s) : InboxKept s₀ (s.pubNew k) := by
  unfold State.pubNew
  extract_lets
  split
  · exact h
  · exact h.thenIf (·.pubSend.flagIf)

theorem InboxKept.dataMsg {k : Nat} {x : SessSt} {skip : Bool} {o : OutMsg} (h : InboxKept s₀ s) : InboxKept s₀ (s.dataMsg k x skip o).2 := by
  unfold State.dataMsg
  extract_lets r
  have h_r : InboxKept s₀ r.2 := by
    unfold r
    split
    · exact h.readFrom
    · exact h
  exact h_r

theorem InboxKept.sendEntry {k : Nat} {x : SessSt} {skip : Bool} {o : OutMsg} (h : InboxKept s₀ s) : InboxKept s₀ (s.sendEntry k x skip o) :=
  h.dataMsg.sendMsg

theorem InboxKept.addBusy {k n : Nat} (h : InboxKept s₀ s) : InboxKept s₀ (s.addBusy k n) := h.update
theorem InboxKept.refuseSend {k : Nat} {down : Bool} (h : InboxKept s₀ s) : InboxKept s₀ (s.refuseSend k down) := h.putAll.addBusy.raise

theorem InboxKept.sendData {k v : Nat} (h : InboxKept s₀ s) : InboxKept s₀ (s.sendData k v) := by
  unfold State.sendData
  extract_lets dl len s1 s2
  have h1 : InboxKept s₀ s1 := h.putAll
  have h2 : InboxKept s₀ s2 := h1.refuseSend
  split
  · split
    · exact h.config
    · split
      · exact h1.refuseSend
      · exact InboxKept.ite h1.refuseSend (InboxKept.ite h2.setSess h1.putAll.sendEntry.setSess)
  · exact h

theorem InboxKept.modAmber {f : AmberSt → AmberSt} (h : InboxKept s₀ s) : InboxKept s₀ (s.modAmber f) := h.update
theorem InboxKept.setRole {r : AmberRole} (h : InboxKept s₀ s) : InboxKept s₀ (s.setRole r) := h.modAmber.pubNew
theorem InboxKept.setRepeat {b : Bool} (h : InboxKept s₀ s) : InboxKept s₀ (s.setRepeat b) := h.forAll InboxKept.setLane
theorem InboxKept.sendWithdraw {cls : Nat} (h : InboxKept s₀ s) : InboxKept s₀ (s.sendWithdraw cls) := h.thenIf (·.setPort.addTo)

theorem InboxKept.amberL4 {cls : Nat} (h : InboxKept s₀ s) : InboxKept s₀ (s.amberL4 cls) := by
  unfold State.amberL4
  split
  · split
    · exact h.sendWithdraw.setRole.modAmber
    · exact h.setRole.setRepeat
    · exact h.setRole.setRepeat
    · exact h.setRole.setRepeat
    · exact h
  · exact h

theorem InboxKept.setOut {k : Nat} {x : SafeOut} (h : InboxKept s₀ s) : InboxKept s₀ (s.setOut k x) := h.update
theorem InboxKept.setConn {c : Nat} {x : SafeConn} (h : InboxKept s₀ s) : InboxKept s₀ (s.setConn c x) := h.update

theorem InboxKept.outOff {k : Nat} (h : InboxKept s₀ s) : InboxKept s₀ (s.outOff k) := by
  unfold State.outOff
  extract_lets _ s1
  have h1 : InboxKept s₀ s1 := h.setOut.put
  split
  · split
    · exact h1
    · exact h1.thenIf (·.goBlock)
  · exact h

theorem InboxKept.outsOff (h : InboxKept s₀ s) : InboxKept s₀ s.outsOff := h.forAll InboxKept.outOff

theorem InboxKept.garnetOut {c : SafeConnCfg} {pdu : List Byte} (h : InboxKept s₀ s) : InboxKept s₀ (s.garnetOut c pdu) := by
  unfold State.garnetOut
  split
  · exact h.ethSend
  · split
    · exact h
    · split
      · exact h
      · exact h.writeFrom.sendData

theorem InboxKept.sendPdu {c : Nat} {cfg : SafeConnCfg} {failed : Bool} (h : InboxKept s₀ s) : InboxKept s₀ (s.sendPdu c cfg failed) :=
  h.setConn.garnetOut

theorem InboxKept.safeStop (h : InboxKept s₀ s) : InboxKept s₀ s.safeStop := by
  unfold State.safeStop
  extract_lets s1 s2
  have h1 : InboxKept s₀ s1 := h.outsOff
  have h2 : InboxKept s₀ s2 := by
    unfold s2
    refine h1.forAll fun hx => ?_
    split
    · exact hx.sendPdu
    · exact hx
  exact InboxKept.ite h2.update h.update

theorem InboxKept.modNvm {f : NvmSt → NvmSt} (h : InboxKept s₀ s) : InboxKept s₀ (s.modNvm f) := h.update

theorem InboxKept.dumpNow (h : InboxKept s₀ s) : InboxKept s₀ s.dumpNow :=
  (h.zeroMem (a := histBase) (n := 0x70000)).update

theorem InboxKept.dumpHistory (h : InboxKept s₀ s) : InboxKept s₀ s.dumpHistory := .ite (InboxKept.ite h.modNvm h.dumpNow) h

theorem InboxKept.gladeGone {g : Nat} (h : InboxKept s₀ s) : InboxKept s₀ (s.gladeGone g) := by
  unfold State.gladeGone
  exact InboxKept.ite (h.forAll (·.elseIf (·.fenceCore))).loseBuffers <| InboxKept.ite (h.forAll (·.fenceRing.fenceLane)) <|
    InboxKept.ite h.fenceAdc.fenceAdc <| InboxKept.ite h.engageLatch <| InboxKept.ite h.safeStop <| h

theorem InboxKept.condsAgain (h : InboxKept s₀ s) : InboxKept s₀ s.condsAgain := h.protConds.budgetCheck.ringsRecheck.regionCheck.loopConds

theorem InboxKept.stopGlade {g : Nat} (h : InboxKept s₀ s) : InboxKept s₀ (s.stopGlade g) :=
  .ite h (InboxKept.ite h (InboxKept.ite h.ringGladeStop h.setGlade))

end Sys2Proof.Machine
end

section
namespace Sys2Proof.Machine

/-! ## Where the triplicated fields lie (R828), and what judging the conditions again leaves alone -/

/-- The words outside the collector's page that hold triplicated fields. -/
def rwtWord (a : Nat) : Bool :=
  [0x405C, 0x71060, 0x72008, 0x72040, 0x72044, 0x72060, 0xA405C, 0xB4040, 0xB4044].contains a
    || decide (0x10 ≤ a / 0x1000 ∧ a / 0x1000 < 0x70 ∧ a % 0x1000 = 0x40) || decide (a / 0x1000 = 0x90)

theorem rwtWord_iff {a : Nat} :
    rwtWord a = true ↔ a ∈ [0x405C, 0x71060, 0x72008, 0x72040, 0x72044, 0x72060, 0xA405C, 0xB4040, 0xB4044]
      ∨ (0x10 ≤ a / 0x1000 ∧ a / 0x1000 < 0x70 ∧ a % 0x1000 = 0x40) ∨ a / 0x1000 = 0x90 := by
  simp only [rwtWord, Bool.or_eq_true, List.contains_iff_mem, decide_eq_true_eq, or_assoc]

/-- The triplicated fields of a list lie in words that `rwtWord` names. -/
def RwtPlaced (l : List Field) : Prop := ∀ F ∈ l.filter (fun F => decide (F.acc = .rwt)), F.lo < 32 ∧ rwtWord F.addr = true

theorem RwtPlaced.ite {c : Prop} [Decidable c] {l m : List Field} (hl : c → RwtPlaced l) (hm : ¬c → RwtPlaced m) :
    RwtPlaced (if c then l else m) := by
  split
  · exact hl ‹_›
  · exact hm ‹_›

theorem RwtPlaced.none {l : List Field} (h : l.filter (fun F => decide (F.acc = .rwt)) = []) : RwtPlaced l := by
  intro F hF
  rw [h] at hF
  exact absurd hF List.not_mem_nil

theorem rwtPlaced_ringFields {n : Nat} (hn : n < 0x60) : RwtPlaced (R.ringFields n) := by
  have hl : (R.ringFields n).filter (fun F => decide (F.acc = .rwt)) = [R.RING_CFG_LOSS_LIM n, R.RING_CFG_LOSS n] := rfl
  have hw : rwtWord (0x10000 + 0x1000 * n + 0x40) = true := rwtWord_iff.mpr (.inr (.inl (by omega)))
  intro F hF
  rw [hl] at hF
  rcases List.mem_pair.mp hF with rfl | rfl
  · exact ⟨(by decide : 16 < 32), hw⟩
  · exact ⟨(by decide : 8 < 32), hw⟩

theorem rwtPlaced_chFields {c : Nat} (hc : c < 16) : RwtPlaced (R.chFields c) := by
  have hl : (R.chFields c).filter (fun F => decide (F.acc = .rwt)) = [R.CH_PROT_GS_FILT c, R.CH_PROT_BLANK c] := rfl
  have hw : rwtWord (0x90080 + 0x100 * c + 0x8) = true := rwtWord_iff.mpr (.inr (.inr (by omega)))
  intro F hF
  rw [hl] at hF
  rcases List.mem_pair.mp hF with rfl | rfl
  · exact ⟨(by decide : 16 < 32), hw⟩
  · exact ⟨(by decide : 0 < 32), hw⟩

theorem rwtPlaced_blockFields {addr : Nat} (hp : addr / 0x1000 ≠ 1) : RwtPlaced (blockFields addr) :=
  .ite (fun _ => .none rfl) fun _ => .ite (fun h => absurd h hp) fun _ => .ite (fun _ => .none rfl) fun _ => .ite (fun _ => .none rfl) fun _ =>
  .ite (fun _ => by unfold RwtPlaced; decide) fun _ => .ite (fun _ => .none rfl) fun _ => .ite (fun _ => .none rfl) fun _ =>
  .ite (fun _ => .none rfl) fun _ => .ite (fun _ => rwtPlaced_ringFields (by omega)) fun _ =>
  .ite (fun _ => .ite (fun _ => .none rfl) fun _ => .ite (fun _ => .none rfl) fun _ => .none rfl) fun _ =>
  .ite (fun _ => by unfold RwtPlaced; decide) fun _ => .ite (fun _ => by unfold RwtPlaced; decide) fun _ =>
  .ite (fun _ => .ite (fun _ => .none rfl) fun _ => .ite (fun _ => .none rfl) fun _ => .none rfl) fun _ =>
  .ite (fun _ => .ite (fun _ => by unfold RwtPlaced; decide) fun _ => rwtPlaced_chFields (by omega)) fun _ =>
  .ite (fun _ => .none rfl) fun _ => .ite (fun _ => .none rfl) fun _ => .ite (fun _ => .none rfl) fun _ =>
  .ite (fun _ => by unfold RwtPlaced; decide) fun _ =>
  .ite (fun _ => .ite (fun _ => .none rfl) fun _ => .ite (fun _ => .none rfl) fun _ => .ite (fun _ => .none rfl) fun _ => .none rfl) fun _ =>
  .ite (fun _ => .none rfl) fun _ => .ite (fun _ => by unfold RwtPlaced; decide) fun _ =>
  .ite (fun _ => .ite (fun _ => .none rfl) fun _ => .ite (fun _ => .none rfl) fun _ => .none rfl) fun _ =>
  .ite (fun _ => .none rfl) fun _ => .none rfl

/-- A triplicated field that an address and a bit name lies outside the collector's page in a word that `rwtWord` names. -/
theorem fieldAt_rwt {addr lo : Nat} {F : Field} (h : fieldAt addr lo = some F) (hacc : F.acc = .rwt) (hp : addr / 0x1000 ≠ 1) :
    F.addr = addr ∧ F.lo < 32 ∧ rwtWord F.addr = true := by
  have hmem : F ∈ fieldsAt addr := List.mem_of_find?_eq_some h
  obtain ⟨hblock, haddr⟩ := List.mem_filter.mp hmem
  exact ⟨by simpa using haddr, rwtPlaced_blockFields hp F (List.mem_filter.mpr ⟨hblock, by simpa using hacc⟩)⟩

/-- A field that a condition may show: its word, and the IRQ_STAT word of its page, hold no triplicated field. -/
structure CondPlaced (H : Field) : Prop where
  lo : H.lo < 32
  word : rwtWord H.addr = false
  page : H.addr / 0x1000 ≠ 0x90

section
variable {F : Field} (hlo : F.lo < 32) (hF : rwtWord F.addr = true)
include hlo hF

theorem key_ne_of_rwtWord {H : Field} (hl : H.lo < 32) (hH : rwtWord H.addr = false) : F.key ≠ H.key := by
  have hne : F.addr ≠ H.addr := fun he => by rw [he, hH] at hF; exact Bool.noConfusion hF
  unfold Field.key
  omega

theorem key_ne_irqStat {H : Field} (hH : CondPlaced H) : F.key ≠ 32 * (pageOf H.addr + 0x14) := by
  have hw : rwtWord (pageOf H.addr + 0x14) = false := by
    have hpage := hH.page
    rw [Bool.eq_false_iff, Ne, rwtWord_iff]
    simp only [pageOf, List.mem_cons, List.not_mem_nil, or_false]
    omega
  have hne := key_ne_of_rwtWord hlo hF (H := ⟨pageOf H.addr + 0x14, 0, 32, 0, .rc⟩) (by simp) hw
  simpa [Field.key] using hne

end

/-- `FieldKept F s₀ s`: in `s`, which operations have made from `s₀`, the field and the memory are what they were. -/
structure FieldKept (F : Field) (s₀ s : State) : Prop where
  value : s.get F = s₀.get F
  mem : s.mem = s₀.mem

section
variable {F : Field} {s₀ s : State}

theorem FieldKept.refl (s : State) : FieldKept F s s := ⟨rfl, rfl⟩

/-- What moves neither the register store nor the memory. -/
theorem FieldKept.update {conds memBad : List Nat} {time elapsed free : Nat} {glades : Tab GladeSt} {flt : FltSt} {host : HostSt} {arm : ArmSt}
    {rank : RankSt} {enc : EncSt} {rings : Tab RingSt} {lanes : Tab LaneSt} {loops : Tab LoopSt} {servo : ServoSt} {net : NetSt} {pwm : PwmSt}
    {poss : Tab PosSt} {adcs : Tab AdcSt} {sched : SchedSt} {sec : SecSt} {nvm : NvmSt} {age : AgeSt} {canopy : CanopySt} {amber : AmberSt}
    {safe : SafeSt} (h : FieldKept F s₀ s) :
    FieldKept F s₀ { s with
      conds, memBad, time, elapsed, free, glades, flt, host, arm, rank, enc, rings, lanes, loops, servo, net, pwm, poss, adcs, sched, sec, nvm, age,
      canopy, amber, safe } :=
  ⟨h.value, h.mem⟩

theorem FieldKept.thenIf {c : Prop} [Decidable c] {t : State} (h : FieldKept F s₀ s) (k : FieldKept F s₀ s → FieldKept F s₀ t) :
    FieldKept F s₀ (if c then t else s) := by
  split
  · exact k h
  · exact h

theorem FieldKept.put {H : Field} {v : Nat} (h : FieldKept F s₀ s) (hne : F.key ≠ H.key) : FieldKept F s₀ (s.put H v) :=
  ⟨(get_put_other hne v s).trans h.value, h.mem⟩

theorem FieldKept.raise {H : Field} (h : FieldKept F s₀ s) (hne : F.key ≠ H.key) (hirq : F.key ≠ 32 * (pageOf H.addr + 0x14)) :
    FieldKept F s₀ (s.raise H) := by
  obtain ⟨regs, m0, m1, hs⟩ := raise_shape H s
  exact ⟨(get_raise_other hne hirq s).trans h.value, by rw [hs]; exact h.mem⟩

end

/-- The condition bits of a ring that the variant can have lie in its status word. -/
theorem condPlaced_ringStat {n lo : Nat} (hn : n < 96) (hlo : lo < 32) : CondPlaced ⟨0x10000 + 0x1000 * n + 0x44, lo, 1, 0, .rc⟩ := by
  refine ⟨hlo, ?_, by dsimp only; omega⟩
  rw [Bool.eq_false_iff, Ne, rwtWord_iff]
  simp only [List.mem_cons, List.not_mem_nil, or_false]
  omega

theorem condPlaced_loopStat {k : Nat} (hk : k < 32) : CondPlaced (R.U_STAT_NOTRIG k) := by
  refine ⟨(by decide : 5 < 32), ?_, ?_⟩
  · rw [Bool.eq_false_iff, Ne, rwtWord_iff]
    simp only [R.U_STAT_NOTRIG, List.mem_cons, List.not_mem_nil, or_false]
    omega
  · simp only [R.U_STAT_NOTRIG]
    omega

theorem lt_of_mem_ringList {s : State} {n : Nat} (h : n ∈ s.ringList) : n < 96 := by
  have hn : n < s.variant.rings := List.mem_range.mp h
  have hr : s.variant.rings ≤ 96 := by cases s.variant <;> decide
  omega

theorem lt_of_mem_loops {v : Variant} {k : Nat} (h : k ∈ List.range v.loops) : k < 32 := by
  have hk : k < v.loops := List.mem_range.mp h
  have hl : v.loops ≤ 32 := by cases v <;> decide
  omega

section
variable {F : Field} {s₀ s : State} (hlo : F.lo < 32) (hF : rwtWord F.addr = true)
include hlo hF

theorem FieldKept.cond {H : Field} {b : Bool} (h : FieldKept F s₀ s) (hH : CondPlaced H) : FieldKept F s₀ (s.cond H b) := by
  have hne : F.key ≠ H.key := key_ne_of_rwtWord hlo hF hH.lo hH.word
  unfold State.cond
  dsimp only
  split
  · split
    · exact h
    · exact h.update.raise hne (key_ne_irqStat hlo hF hH)
  · split
    · exact h.update
    · exact h.update.put hne

theorem fieldKept_protConds (h : FieldKept F s₀ s) : FieldKept F s₀ s.protConds :=
  (h.cond hlo hF ⟨by decide, by decide, by decide⟩).cond hlo hF ⟨by decide, by decide, by decide⟩

theorem fieldKept_budgetCheck (h : FieldKept F s₀ s) : FieldKept F s₀ s.budgetCheck := h.cond hlo hF ⟨by decide, by decide, by decide⟩

theorem fieldKept_ringBudget {n : Nat} (hn : n < 96) (h : FieldKept F s₀ s) : FieldKept F s₀ (s.ringBudget n) := by
  unfold State.ringBudget
  extract_lets r bad s1 _ s2
  have h1 : FieldKept F s₀ s1 := h.cond hlo hF (condPlaced_ringStat hn (by decide))
  have h2 : FieldKept F s₀ s2 := h1.update
  exact h2.thenIf (·.update)

theorem fieldKept_ringLoss {rtMax n : Nat} (hn : n < 96) (h : FieldKept F s₀ s) : FieldKept F s₀ (s.ringLoss rtMax n) := by
  unfold State.ringLoss
  extract_lets short ev s1 _ s2
  have h1 : FieldKept F s₀ s1 := h.cond hlo hF (condPlaced_ringStat hn (by decide))
  have h2 : FieldKept F s₀ s2 := by
    unfold s2
    split
    · exact h1
    · exact h1.update
  exact h2.thenIf (·.update)

theorem fieldKept_ringsLoss (h : FieldKept F s₀ s) : FieldKept F s₀ s.ringsLoss :=
  forAll_induction h fun _ hn _ hx => fieldKept_ringLoss hlo hF (lt_of_mem_ringList hn) hx

theorem fieldKept_ringsRecheck (h : FieldKept F s₀ s) : FieldKept F s₀ s.ringsRecheck :=
  fieldKept_ringsLoss hlo hF (forAll_induction h fun _ hn _ hx => fieldKept_ringBudget hlo hF (lt_of_mem_ringList hn) hx)

theorem fieldKept_regionCheck (h : FieldKept F s₀ s) : FieldKept F s₀ s.regionCheck := by
  have hhw : F.key ≠ R.AMBER_REGION_HW8.key := key_ne_of_rwtWord hlo hF (by decide) (by decide)
  have hsize : F.key ≠ R.AMBER_REGION_SIZE.key := key_ne_of_rwtWord hlo hF (by decide) (by decide)
  refine h.thenIf fun h => ?_
  have h1 : FieldKept F s₀ (s.putAll [(R.AMBER_REGION_HW8, s.hwSize / 8), (R.AMBER_REGION_SIZE, s.regionSize)]) := (h.put hhw).put hsize
  have h2 := h1.cond (b := s.regionOver) hlo hF (H := R.AMBER_ASTAT_SIZE) ⟨by decide, by decide, by decide⟩
  exact h2.update.thenIf (·.update)

theorem fieldKept_loopConds (h : FieldKept F s₀ s) : FieldKept F s₀ s.loopConds :=
  forAll_induction h fun _ hk _ hx => hx.cond hlo hF (condPlaced_loopStat (lt_of_mem_loops hk))

/-- The conditions judged again leave every triplicated field outside the collector's page, and the memory, as they were. -/
theorem fieldKept_condsAgain (h : FieldKept F s₀ s) : FieldKept F s₀ s.condsAgain :=
  fieldKept_loopConds hlo hF (fieldKept_regionCheck hlo hF (fieldKept_ringsRecheck hlo hF (fieldKept_budgetCheck hlo hF (fieldKept_protConds hlo hF h))))

end
end Sys2Proof.Machine
end

section
namespace Sys2Proof.Machine

/-! ## Clock monitors (R14, R15, R24) -/

theorem InboxKept.fenceGlade {s₀ s : State} {cls g : Nat} (h : InboxKept s₀ s) : InboxKept s₀ (s.fenceGlade cls g) := h.elseIf (·.gladeGone.setGlade)

/-- The security glade is never fenced; any other glade that is present and not fenced takes the class of its fence. -/
theorem glade_fenceGlade {s : State} {cls g : Nat} (hp : gladePresent s.variant g = true) (hf : s.gladeFenced g = false) (hc : cls ≠ 0) :
    (s.fenceGlade cls g).glade g = if g = 2 then s.glade g else { s.glade g with fencedBy := cls } := by
  unfold State.fenceGlade
  by_cases h2 : g = 2
  · simp [h2]
  · have hne : ({ s.glade g with fencedBy := cls } : GladeSt) ≠ {} := fun h => hc (congrArg GladeSt.fencedBy h)
    rw [if_neg (by simp [hf, hp, h2]), if_neg h2]
    exact tget_tset_value hne g

theorem up_of_clkBad {s : State} {g : Nat} (h : (s.glade g).clkBad = true) : s.up g = false := by
  simp [State.up, h]

/-- What the loss of a glade leaves of it (R21, R24). -/
theorem glade_loseGlade (s : State) (g : Nat) :
    (s.loseGlade g).glade g = { ((s.gladeLoss g).fenceGlade (classCode .clk) g).glade g with clkBad := true, badAt := s.elapsed } := by
  have hne : ({ ((s.gladeLoss g).fenceGlade (classCode .clk) g).glade g with clkBad := true, badAt := s.elapsed } : GladeSt) ≠ {} :=
    fun h => Bool.noConfusion (congrArg GladeSt.clkBad h)
  exact tget_tset_value hne g

/-- A glade that loses its clock: it is fenced, save the security glade, runs no more, and its CLK event stands at the collector. -/
structure ClockLost (s t : State) (g : Nat) : Prop where
  fenced : g ≠ 2 → t.gladeFenced g = true
  security : g = 2 → t.gladeFenced g = false
  clkBad : (t.glade g).clkBad = true
  event : { cls := .clk, unit := 256 * g, glade := true, req := .atLeast (s.lossLevel g), standing := true } ∈ t.flt.inbox

theorem clockLost_loseGlade {s : State} {g : Nat} (h : s.up g = true) : ClockLost s (s.loseGlade g) g := by
  obtain ⟨hp, hf, -⟩ := up_parts h
  have hfence := glade_fenceGlade (s := s.gladeLoss g) (cls := classCode .clk) hp hf (by decide)
  have hglade := glade_loseGlade s g
  have hkept : InboxKept (s.gladeLoss g) (s.loseGlade g) := (InboxKept.refl _).fenceGlade.setGlade
  refine ⟨fun h2 => ?_, fun h2 => ?_, by rw [hglade], ?_⟩
  · rw [hfence, if_neg h2] at hglade
    simp only [State.gladeFenced, hglade]
    decide
  · rw [hfence, if_pos h2] at hglade
    simp only [State.gladeFenced, hglade]
    exact hf
  · exact hkept.inbox _ (List.mem_append_right _ (List.mem_singleton.mpr rfl)) (fun h => FaultClass.noConfusion h)

theorem clockBad_glade {s : State} {g : Nat} (h : s.up g = true) (h1 : g ≠ 1) : s.clockBad (.glade g) = s.loseGlade g := by
  simp [State.clockBad, h, h1]

theorem clockLost_clockBad {s : State} {g : Nat} (h : s.up g = true) (h1 : g ≠ 1) : ClockLost s (s.clockBad (.glade g)) g :=
  clockBad_glade h h1 ▸ clockLost_loseGlade h

/-- The safe state of L4 freezes the records (R747). -/
theorem safeState_l4 (c : Nat) (s : State) : (s.safeState c).flt.l4 = true ∧ (s.safeState c).flt.frozen = true := by
  have h : InboxKept (s.modFlt fun f => { f with l4 := true, frozen := true, frozeNs := s.elNs }) (s.safeState c) :=
    (InboxKept.refl _).put.dumpHistory.safeStop.amberL4.putAll.forAll InboxKept.stopGlade
  exact ⟨h.l4, h.frozen⟩

/-- An event taken at level 4 ends in the safe state (R739). -/
theorem takeAt_four (e : Event) (esc : Bool) (s : State) : ∃ u : State, s.takeAt e 4 esc = u.safeState (classCode e.cls) := by
  unfold State.takeAt
  extract_lets
  exact ⟨_, if_pos rfl⟩

theorem selfFault_l4 {s : State} (h : s.flt.l4 = false) (e : Event) : (s.selfFault e).flt.l4 = true ∧ (s.selfFault e).flt.frozen = true := by
  obtain ⟨u, hu⟩ := takeAt_four e false s
  have hs : s.selfFault e = u.safeState (classCode e.cls) := by
    unfold State.selfFault
    rw [if_neg (by simp [h]), hu]
  rw [hs]
  exact safeState_l4 _ u

theorem offPlan_iff {plan khz : Nat} : offPlan plan khz = true ↔ 10 * khz < 9 * plan ∨ 11 * plan < 10 * khz := by
  simp only [offPlan, Bool.or_eq_true, decide_eq_true_eq]
  omega

theorem clkFreqEffect_inside {s : State} {g khz : Nat} (h : offPlan (s.planKhz g) khz = false) : clkFreqEffect (.glade g) khz s = s := by
  simp [clkFreqEffect, h]

theorem clkFreqEffect_outside {s : State} {g khz : Nat} (h : offPlan (s.planKhz g) khz = true) :
    clkFreqEffect (.glade g) khz s = s.clockBad (.glade g) := by
  simp [clkFreqEffect, h]

/-! ## Links (R19 to R22) -/

theorem discards_discardWrites {s : State} (h : keysRise none s.host.discards = true) (g n : Nat) :
    tget 0 (s.discardWrites g n).host.discards g = tget 0 s.host.discards g + n :=
  tget_tset_same h g _

/-- The links with one more fenced. -/
def linksWith (l : List (Nat × Nat)) (a b : Nat) : List (Nat × Nat) := if l.contains (a, b) then l else l ++ [(a, b)]

theorem mem_linksWith (l : List (Nat × Nat)) (a b : Nat) : (linksWith l a b).contains (a, b) = true := by
  unfold linksWith
  split
  · assumption
  · simp

/-- What a silent link whose ends are present and not gated becomes (R21, R22). -/
theorem fenceLink_fences {s : State} {src dst : Nat} (hs : gladePresent s.variant src = true) (hd : gladePresent s.variant dst = true)
    (hsg : (s.glade src).gated = false) (hdg : (s.glade dst).gated = false) (n : Nat) (rd : Bool) :
    ∃ u : State, u = ({ s with host := { s.host with links := linksWith s.host.links src dst } } : State).discardWrites src n
      ∧ s.fenceLink src dst n rd = if rd && (decide (src = 0) || decide (dst = 0)) then u.readFails else u := by
  refine ⟨_, rfl, ?_⟩
  unfold State.fenceLink
  rw [if_pos (by simp [hs, hd, State.parked, hsg, hdg])]
  rfl

/-- A link on which the receiver sees nothing, or the sender gets no acknowledge. -/
theorem linkSilent {s : State} {src dst n : Nat} {rd : Bool} (hs : gladePresent s.variant src = true) (hd : gladePresent s.variant dst = true)
    (hsg : (s.glade src).gated = false) (hdg : (s.glade dst).gated = false) (hk : keysRise none s.host.discards = true) {t : State}
    (ht : t = s.fenceLink src dst n rd) :
    t.linkCut src dst = true ∧ t.linkCut dst src = true ∧ tget 0 t.host.discards src = tget 0 s.host.discards src + n
      ∧ t.regs = s.regs ∧ t.mem = s.mem ∧ t.flt = s.flt
      ∧ (rd = true → src = 0 ∨ dst = 0 → t.host.rdata = [0xFFFFFFFF] ∧ t.host.readErr = true)
      ∧ (rd = false ∨ src ≠ 0 ∧ dst ≠ 0 → t.host.rdata = s.host.rdata ∧ t.host.readErr = s.host.readErr) := by
  obtain ⟨u, hu, hf⟩ := fenceLink_fences hs hd hsg hdg n rd
  rw [hf] at ht
  have hcount : tget 0 u.host.discards src = tget 0 s.host.discards src + n := hu ▸ discards_discardWrites (by exact hk) src n
  have hlinks : u.host.links.contains (src, dst) = true := hu ▸ mem_linksWith _ src dst
  have hregs : u.regs = s.regs := hu ▸ rfl
  have hmem : u.mem = s.mem := hu ▸ rfl
  have hflt : u.flt = s.flt := hu ▸ rfl
  have hread : u.host.rdata = s.host.rdata ∧ u.host.readErr = s.host.readErr := hu ▸ ⟨rfl, rfl⟩
  have hcut : u.linkCut src dst = true ∧ u.linkCut dst src = true := by simp only [State.linkCut, hlinks, Bool.true_or, Bool.or_true, and_self]
  by_cases hc : (rd && (decide (src = 0) || decide (dst = 0))) = true
  · rw [if_pos hc] at ht
    simp only [Bool.and_eq_true, Bool.or_eq_true, decide_eq_true_eq] at hc
    subst ht
    refine ⟨hcut.1, hcut.2, hcount, hregs, hmem, hflt, fun _ _ => ⟨rfl, rfl⟩, fun h => ?_⟩
    obtain ⟨hr, hg⟩ := hc
    rcases h with h | ⟨h, h'⟩
    · exact absurd hr (by simp [h])
    · exact absurd hg (by simp [h, h'])
  · rw [if_neg hc] at ht
    simp only [Bool.and_eq_true, Bool.or_eq_true, decide_eq_true_eq] at hc
    subst ht
    exact ⟨hcut.1, hcut.2, hcount, hregs, hmem, hflt, fun hr hg => absurd ⟨hr, hg⟩ hc, fun _ => hread⟩

theorem overLink_open {s : State} {a b : Nat} (h : s.linkCut a b = false) (f : State → State) : s.overLink a b f = f s := by
  simp [State.overLink, h]

section
variable {s : State} {addr g : Nat} (hl4 : s.flt.l4 = false) (hup : s.up 0 = true) (hmay : s.hostMayWrite addr = true) (hmsix : msixArea addr = false)
  (hg : pageGlade addr = some g) (hf : s.gladeFenced g = false) (hcut : s.linkCut 0 g = true)
include hl4 hup hmay hmsix hg hf hcut

/-- A write of the SPI host to a page behind a fenced link is discarded and counted (R22). -/
theorem registerWriteEffect_cut (v : Nat) : registerWriteEffect .spi addr v 15 true s = s.discardWrites 0 1 := by
  have hpath : s.pathUp .spi = true := by simp [State.pathUp, writerGlade, hup]
  have hbus : s.busWrite .spi addr v = s.regWrite .spi addr v := by simp [State.busWrite, hl4, hpath, hmay]
  have hreg : s.regWrite .spi addr v = s.discardWrites 0 1 := by simp [State.regWrite, hmsix, hg, State.gatedWrite, writerGlade, hcut, hf]
  simp [registerWriteEffect, hl4, hpath, State.pageGranted, hbus, hreg]

/-- A read over a fenced link fails with all ones (R22). -/
theorem statusReadEffect_cut (hp : gladePresent s.variant g = true) (ha : pageAbsent s.variant addr = false) :
    statusReadEffect addr true s = s.answer [0xFFFFFFFF] true := by
  have hreach : s.hostReaches addr = true := (Bool.and_eq_true_iff.mp hmay).1
  have hword : s.readWord addr = (none, s) := by simp [State.readWord, hl4, hmsix, hreach, hg, hp, ha, hf, hcut]
  simp [statusReadEffect, hup, hword]

end

/-- An access of the host whose parity fails, and no other, leaves its address and its error (R831, R852). -/
theorem hostParity_none (x : Transfer) (rd : Bool) (s : State) (h : x.host = none) : s.hostParity x rd = s := by
  simp [State.hostParity, h]

theorem hostParity_some {x : Transfer} {a : Nat} (h : x.host = some a) (rd : Bool) (s : State) :
    s.hostParity x rd = if rd then ((s.raise R.SYS_HSTAT_HPAR).put R.SYS_ERR_ADDR_ADDR a).readFails
      else (s.raise R.SYS_HSTAT_HPAR).put R.SYS_ERR_ADDR_ADDR a := by
  simp [State.hostParity, h]

theorem flt_hostParity (x : Transfer) (rd : Bool) (s : State) : (s.hostParity x rd).flt = s.flt := by
  obtain ⟨regs, m0, m1, hr⟩ := raise_shape R.SYS_HSTAT_HPAR s
  cases h : x.host with
  | none => rw [hostParity_none x rd s h]
  | some a => cases rd <;> simp [hostParity_some h, hr, State.put, State.readFails]

theorem regs_raise_rise {s : State} (h : s.canonical = true) (F : Field) : keysRise none (s.raise F).regs = true :=
  (State.canonical_iff.mp ((Keeps.refl s).raise.canonical h)).2

theorem hostParity_shows {s : State} (hc : s.canonical = true) {x : Transfer} {a : Nat} (h : x.host = some a) (rd : Bool) :
    (s.hostParity x rd).get R.SYS_HSTAT_HPAR = 1 ∧ (s.hostParity x rd).get R.SYS_ERR_ADDR_ADDR = a % 2 ^ 32
      ∧ (rd = true → (s.hostParity x rd).host.rdata = [0xFFFFFFFF] ∧ (s.hostParity x rd).host.readErr = true) := by
  have hpar : ((s.raise R.SYS_HSTAT_HPAR).put R.SYS_ERR_ADDR_ADDR a).get R.SYS_HSTAT_HPAR = 1 := by
    rw [get_put_other (by decide), get_raise_same (by decide) (by decide) rfl]
  have haddr : ((s.raise R.SYS_HSTAT_HPAR).put R.SYS_ERR_ADDR_ADDR a).get R.SYS_ERR_ADDR_ADDR = a % 2 ^ 32 :=
    get_put_same (regs_raise_rise hc _) _ a
  rw [hostParity_some h]
  cases rd with
  | false => exact ⟨hpar, haddr, fun hr => Bool.noConfusion hr⟩
  | true => exact ⟨hpar, haddr, fun _ => ⟨rfl, rfl⟩⟩

theorem linkParityEffect_open {s : State} {src dst : Nat} (hopen : (src, dst) ∉ s.host.links) (hsrc : src ≠ 1) (x : Transfer) (rd : Bool) :
    linkParityEffect src dst x rd s = (s.hostParity x rd).event .bus x.unit 0 := by
  simp [linkParityEffect, hsrc, hopen]

/-! ## Supplies and temperature (R882, R884, R885) -/

theorem contains_addKey (n : Nat) (l : List Nat) : (addKey n l).contains n = true := by
  induction l with
  | nil => simp [addKey]
  | cons k t ih =>
    unfold addKey
    split
    · simp
    · split
      · next h => simp [h]
      · exact List.contains_cons.trans (by rw [ih, Bool.or_true])

theorem supplyEffect_again {s : State} {rail : Nat} (h : s.flt.rails.contains rail = true) : supplyEffect rail s = s := by
  have hm : rail ∈ s.flt.rails := List.contains_iff_mem.mp h
  simp [supplyEffect, hm]

theorem supplyEffect_first {s : State} {rail : Nat} (hup : s.up 1 = true) (h1 : 1 ≤ rail) (h7 : rail ≤ 7) (h : s.flt.rails.contains rail = false) :
    supplyEffect rail s = (s.modFlt fun f => { f with rails := addKey rail f.rails }).post
      { cls := .pwr, unit := fltUnit, glade := true, aux := rail, standing := true } := by
  unfold supplyEffect
  rw [if_pos (by simp [hup, h1, h7]), if_neg (by rw [h]; exact Bool.false_ne_true)]

theorem signedOf_range (n : Nat) : -32768 ≤ signedOf 16 n ∧ signedOf 16 n < 32768 := by
  have h : n % 2 ^ 16 < 65536 := Nat.mod_lt _ (by decide)
  unfold signedOf
  split <;> omega

theorem signedOf_codeOf {i : Int} (hl : -32768 ≤ i) (hu : i < 32768) : signedOf 16 (codeOf 16 i % 2 ^ 16) = i := by
  unfold signedOf codeOf
  split <;> omega

theorem getS_putS_same {s : State} (h : keysRise none s.regs = true) {F : Field} (hw : F.w = 16) {i : Int} (hl : -32768 ≤ i) (hu : i < 32768) :
    (s.putS F i).getS F = i := by
  have hget : (s.putS F i).get F = codeOf 16 i % 2 ^ 16 := by
    unfold State.putS
    rw [get_put_same h, hw]
  rw [State.getS, hget, hw, signedOf_codeOf hl hu]

/-- A reading moves TJ.NOW and TJ.MAX alone (R885). -/
theorem regsKeptBut_tjReading (g : Nat) (tj : Int) (s : State) : RegsKeptBut [R.AGE_TJ_NOW, R.AGE_TJ_MAX] s (s.tjReading g tj) := by
  intro G hG
  have hnow : G.key ≠ R.AGE_TJ_NOW.key := hG _ (by simp)
  have hmax : G.key ≠ R.AGE_TJ_MAX.key := hG _ (by simp)
  exact (get_put_other hmax _ _).trans (get_put_other hnow _ _)

/-- The first reading of all is NOW, and MAX if it is the highest. -/
theorem tjReading_first {s : State} (hc : s.canonical = true) (hs : s.age.tjs = []) {tj : Int} (hl : -32768 ≤ tj) (hu : tj < 32768) (g : Nat) :
    (s.tjReading g tj).getS R.AGE_TJ_NOW = tj ∧ (s.tjReading g tj).getS R.AGE_TJ_MAX = max tj (s.getS R.AGE_TJ_MAX) := by
  have hregs : keysRise none s.regs = true := (State.canonical_iff.mp hc).2
  obtain ⟨hml, hmu⟩ := signedOf_range (s.get R.AGE_TJ_MAX)
  have hread : s.tjReading g tj = ((s.modAge fun x => { x with tjs := [(g, some tj)] }).putS R.AGE_TJ_NOW tj).putS R.AGE_TJ_MAX
      (max tj (s.getS R.AGE_TJ_MAX)) := by
    simp [State.tjReading, hs, tset, insertKey]
  have hmax : -32768 ≤ max tj (s.getS R.AGE_TJ_MAX) ∧ max tj (s.getS R.AGE_TJ_MAX) < 32768 :=
    ⟨le_max_of_le_left hl, max_lt hu hmu⟩
  rw [hread]
  refine ⟨?_, getS_putS_same (regs_put_rise (by exact hregs) _ _) rfl hmax.1 hmax.2⟩
  have hother : ∀ (u : State) (i : Int), (u.putS R.AGE_TJ_MAX i).getS R.AGE_TJ_NOW = u.getS R.AGE_TJ_NOW :=
    fun u i => congrArg (signedOf 16) (get_put_other (by decide) _ u)
  rw [hother]
  exact getS_putS_same (by exact hregs) rfl hl hu

theorem tjLimitEffect_present {s : State} {g : Nat} (hup : s.up 1 = true) (hp : gladePresent s.variant g = true) (tj : Int) :
    tjLimitEffect g tj s = if 1680 < tj then
        (s.tjReading g tj).post
          { cls := .pwr, unit := fltUnit, glade := true, aux := 0x100 + g, standing := true, req := if 1840 < tj then .atLeast 4 else .base }
      else s.tjReading g tj := by
  simp [tjLimitEffect, hup, hp]

/-- Above the limit or below it, the reading shows in TJ. -/
theorem tjLimitEffect_shows {s : State} {g : Nat} {tj : Int} (hup : s.up 1 = true) (hp : gladePresent s.variant g = true) (hc : s.canonical = true)
    (hl : -32768 ≤ tj) (hu : tj < 32768) :
    RegsKeptBut [R.AGE_TJ_NOW, R.AGE_TJ_MAX] s (tjLimitEffect g tj s)
      ∧ (s.age.tjs = [] → (tjLimitEffect g tj s).getS R.AGE_TJ_NOW = tj
          ∧ (tjLimitEffect g tj s).getS R.AGE_TJ_MAX = max tj (s.getS R.AGE_TJ_MAX)) := by
  have hregs : (tjLimitEffect g tj s).regs = (s.tjReading g tj).regs := by
    rw [tjLimitEffect_present hup hp]
    split <;> rfl
  have hget : ∀ F, (tjLimitEffect g tj s).get F = (s.tjReading g tj).get F := fun F => by simp only [State.get, hregs]
  have hgetS : ∀ F, (tjLimitEffect g tj s).getS F = (s.tjReading g tj).getS F := fun F => congrArg (signedOf F.w) (hget F)
  simp only [RegsKeptBut, hget, hgetS]
  exact ⟨regsKeptBut_tjReading g tj s, fun h => tjReading_first hc h hl hu g⟩

/-! ## Votes (R828) -/

/-- A voted word of the collector's records lies in the collector's page. -/
theorem recVoted_other {F : Field} (h : F.addr / 0x1000 ≠ 1) (v : Nat) (s : State) : s.recVoted F v = s := by
  have hnone : (List.range 4).find? (fun k => decide (F.addr = (R.FLT_REC_WORD k).addr)) = none := by
    rw [List.find?_eq_none]
    intro k hk
    have hk4 : k < 4 := List.mem_range.mp hk
    have hne : F.addr ≠ (R.FLT_REC_WORD k).addr := fun he => h (by rw [he]; simp only [R.FLT_REC_WORD]; omega)
    simpa using hne
  unfold State.recVoted
  simp only [hnone]

/-- Two agreeing copies of a triplicated field outside the collector win (R828). -/
theorem voteEffect_agreed {s : State} {addr lo c0 c1 c2 v : Nat} {F : Field} (hF : fieldAt addr lo = some F) (hacc : F.acc = .rwt)
    (hup : s.up (ownerUnit addr / 256) = true) (hp : addr / 0x1000 ≠ 1) (hne : ¬(c0 = c1 ∧ c1 = c2)) (hv : vote c0 c1 c2 = some v) :
    voteEffect addr lo c0 c1 c2 s = ((s.put F v).event0 .mem (ownerUnit addr) 0).condsAgain := by
  obtain ⟨haddr, -, -⟩ := fieldAt_rwt hF hacc hp
  have hrec := recVoted_other (F := F) (haddr ▸ hp) v (s.put F v)
  unfold voteEffect
  simp only [hF, hv]
  rw [if_pos ⟨.inl hacc, hup, hne⟩, hrec, if_neg (by simpa using hp)]

/-- Settles O13: each monitor's effect on the part of the state that it names. A lost clock or an agreed vote raises its event before the glade's
loss, or the conditions judged again, touches the collector, and neither takes the event back (`InboxKept`). -/
theorem monitorsRaiseEvents : Obligations.MonitorsRaiseEvents := by
  refine ⟨fun s g hup h1 => ?_, fun s hl4 => ?_, fun s g khz hlow hhigh => ?_, fun s g khz hup h1 hoff => ?_,
    fun s src dst n rd hs hd hsg hdg hk c hc => ?_, fun s a b f hk => ?_, fun s addr v g hl4 hup hmay hmsix hg hf hcut => ?_,
    fun s src dst x rd hopen hsrc hc => ?_, fun s rail hup h1 h7 => ?_, fun s g tj hup hp hc hl hu => ?_,
    fun s addr lo c0 c1 c2 v F hc hF hacc hup hp hne hv => ?_⟩
  · have hlost := clockLost_clockBad hup h1
    exact ⟨_, rfl, hlost.fenced, hlost.security, up_of_clkBad hlost.clkBad, hlost.clkBad, hlost.event⟩
  · exact ⟨_, rfl, selfFault_l4 hl4 _⟩
  · have hin : offPlan (s.planKhz g) khz = false := by
      rw [Bool.eq_false_iff, Ne, offPlan_iff]
      omega
    exact congrArg Host.Outcome.next (clkFreqEffect_inside hin)
  · have hlost := clockLost_clockBad hup h1
    exact ⟨_, congrArg Host.Outcome.next (clkFreqEffect_outside (offPlan_iff.mpr hoff)), hlost.fenced, up_of_clkBad hlost.clkBad, hlost.clkBad⟩
  · have hexec : exec c s = .next (s.fenceLink src dst n rd) := by rcases hc with rfl | rfl <;> rfl
    exact ⟨_, hexec, linkSilent hs hd hsg hdg hk rfl⟩
  · exact ⟨fun hcut => ⟨overLink_cut hcut f, overLink_cut hcut f ▸ discards_discardWrites hk a 1⟩, fun hopen => overLink_open hopen f⟩
  · exact ⟨congrArg Host.Outcome.next (registerWriteEffect_cut hl4 hup hmay hmsix hg hf hcut v), fun hp ha =>
      ⟨_, congrArg Host.Outcome.next (statusReadEffect_cut hl4 hup hmay hmsix hg hf hcut hp ha), rfl, rfl, rfl, rfl⟩⟩
  · refine ⟨_, congrArg Host.Outcome.next (linkParityEffect_open hopen hsrc x rd), ?_, fun hx => ?_, fun a hx => hostParity_shows hc hx rd⟩
    · exact congrArg (·.inbox ++ [{ cls := .bus, unit := x.unit }]) (flt_hostParity x rd s)
    · rw [hostParity_none x rd s hx]
      exact ⟨rfl, rfl⟩
  · refine ⟨fun h => congrArg Host.Outcome.next (supplyEffect_again h), fun h => ?_⟩
    exact ⟨_, congrArg Host.Outcome.next (supplyEffect_first hup h1 h7 h), rfl, rfl,
      congrArg Host.Outcome.next (supplyEffect_again (contains_addKey rail _))⟩
  · have heff := tjLimitEffect_present hup hp tj
    refine ⟨⟨_, rfl, tjLimitEffect_shows hup hp hc hl hu⟩, fun hlow => ?_, fun hhigh => ?_⟩
    · exact ⟨_, congrArg Host.Outcome.next (heff.trans (if_neg (by omega))), rfl⟩
    · exact ⟨_, congrArg Host.Outcome.next (heff.trans (if_pos hhigh)), rfl⟩
  · obtain ⟨-, hlo, hword⟩ := fieldAt_rwt hF hacc hp
    have hkept : FieldKept F ((s.put F v).event0 .mem (ownerUnit addr) 0) _ := fieldKept_condsAgain hlo hword (FieldKept.refl _)
    have hinbox : InboxKept ((s.put F v).event0 .mem (ownerUnit addr) 0) _ := (InboxKept.refl _).condsAgain
    refine ⟨_, congrArg Host.Outcome.next (voteEffect_agreed hF hacc hup hp hne hv), ?_, hkept.mem, rfl, ?_⟩
    · exact hkept.value.trans (get_put_same (State.canonical_iff.mp hc).2 F v)
    · exact hinbox.inbox _ (List.mem_append_right _ (List.mem_singleton.mpr rfl)) (fun h => FaultClass.noConfusion h)

end Sys2Proof.Machine
end

section
namespace Sys2Proof.Machine

/-! ## The grid of cycle starts (R37) -/

/-- An instant of the grid of R37: device time less CYC_PHASE is a whole multiple of T. -/
def OnGrid (tNs phase x : Nat) : Prop := ((x : Int) - (phase * 2 ^ 32 : Nat)) % (tNs * 2 ^ 32 : Nat) = 0

section
variable {tNs : Nat} (hT : 0 < tNs) (phase lo : Nat)
include hT

/-- The grid's next instant lies a whole number of cycles after CYC_PHASE, at or after `lo` and less than one cycle behind it. -/
theorem gridFrom_spec : ∃ k : Int, (gridFrom tNs phase lo : Int) = (phase * 2 ^ 32 : Nat) + k * (tNs * 2 ^ 32 : Nat)
    ∧ lo ≤ gridFrom tNs phase lo ∧ gridFrom tNs phase lo < lo + tNs * 2 ^ 32 := by
  have hd : (0 : Int) < (tNs * 2 ^ 32 : Nat) := by positivity
  have hdiv := Int.ediv_mul_le ((lo : Int) - (phase * 2 ^ 32 : Nat) + (tNs * 2 ^ 32 : Nat) - 1) hd.ne'
  have hlt := Int.lt_ediv_add_one_mul_self ((lo : Int) - (phase * 2 ^ 32 : Nat) + (tNs * 2 ^ 32 : Nat) - 1) hd
  unfold gridFrom
  dsimp only
  generalize ((lo : Int) - (phase * 2 ^ 32 : Nat) + (tNs * 2 ^ 32 : Nat) - 1) / (tNs * 2 ^ 32 : Nat) = k at hdiv hlt ⊢
  rw [add_one_mul] at hlt
  exact ⟨k, by omega⟩

theorem le_gridFrom : lo ≤ gridFrom tNs phase lo := by
  obtain ⟨-, -, h, -⟩ := gridFrom_spec hT phase lo
  exact h

theorem gridFrom_lt : gridFrom tNs phase lo < lo + tNs * 2 ^ 32 := by
  obtain ⟨-, -, -, h⟩ := gridFrom_spec hT phase lo
  exact h

theorem onGrid_gridFrom : OnGrid tNs phase (gridFrom tNs phase lo) := by
  obtain ⟨k, h, -⟩ := gridFrom_spec hT phase lo
  unfold OnGrid
  rw [h, add_sub_cancel_left, Int.mul_emod_left]

/-- No instant of the grid lies between `lo` and the one that `gridFrom` gives. -/
theorem gridFrom_le {x : Nat} (hlo : lo ≤ x) (hx : OnGrid tNs phase x) : gridFrom tNs phase lo ≤ x := by
  obtain ⟨k, h, -, hlt⟩ := gridFrom_spec hT phase lo
  obtain ⟨j, hj⟩ := Int.dvd_of_emod_eq_zero hx
  by_contra hgt
  have hd : (0 : Int) < (tNs * 2 ^ 32 : Nat) := by positivity
  have hlow : 0 < (k - j) * (tNs * 2 ^ 32 : Nat) := by rw [sub_mul, mul_comm j]; omega
  have hhigh : (k - j) * (tNs * 2 ^ 32 : Nat) < 1 * (tNs * 2 ^ 32 : Nat) := by rw [sub_mul, mul_comm j]; omega
  have hpos : 0 < k - j := (mul_pos_iff_of_pos_right hd).mp hlow
  have hone : k - j < 1 := lt_of_mul_lt_mul_right hhigh hd.le
  omega

end

/-- Before the wrap of device time the next start is that of the grid, where this round has one left, and else the first of the new round (R8). -/
theorem gridAt_cases (tNs phase : Nat) {lo : Nat} (hlo : lo < 2 ^ 96) :
    gridFrom tNs phase lo < 2 ^ 96 ∧ gridAt tNs phase lo = gridFrom tNs phase lo
      ∨ 2 ^ 96 ≤ gridFrom tNs phase lo ∧ gridAt tNs phase lo = 2 ^ 96 + gridFrom tNs phase 0 := by
  unfold gridAt
  rw [if_pos hlo]
  split
  · exact .inl ⟨‹_›, rfl⟩
  · exact .inr ⟨by omega, rfl⟩

theorem nextStart_idle {s : State} (h : s.arm.running = false) (hT : 0 < s.tNs) :
    s.nextStart = gridAt s.tNs (s.get R.ARM_CYC_PHASE_PHASE) s.time := by
  have hmax : max 1 s.tNs = s.tNs := max_eq_right hT
  simp [State.nextStart, State.cycTime, h, hmax]

/-- Settles O24: the grid's least instant from the present time on (`gridFrom_spec`, `gridFrom_le`), of this round or the next. -/
theorem gridOfCycleStarts : Obligations.GridOfCycleStarts := by
  intro s hidle hT htime
  rw [nextStart_idle hidle hT]
  rcases gridAt_cases s.tNs (s.get R.ARM_CYC_PHASE_PHASE) htime with ⟨hround, hnext⟩ | ⟨hround, hnext⟩
  · have hle := le_gridFrom hT (s.get R.ARM_CYC_PHASE_PHASE) s.time
    rw [hnext]
    exact ⟨hle, fun _ => ⟨onGrid_gridFrom hT _ _, gridFrom_lt hT _ _⟩, fun h => by omega⟩
  · have hlt := gridFrom_lt hT (s.get R.ARM_CYC_PHASE_PHASE) 0
    have hnone : ∀ x, s.time ≤ x → x < 2 ^ 96 → ¬ OnGrid s.tNs (s.get R.ARM_CYC_PHASE_PHASE) x := fun x hx hx' hg => by
      have := gridFrom_le hT _ _ hx hg
      omega
    rw [hnext, Nat.add_sub_cancel_left]
    exact ⟨by omega, fun h => by omega, fun _ => ⟨onGrid_gridFrom hT _ _, by omega, hnone⟩⟩

end Sys2Proof.Machine
end

section
namespace Sys2Proof.Machine

/-! ## A block frame in IDENT

R25 and R55 ask a block frame of every ring whose cells are known, and so of a ring in IDENT, which runs no NORMAL frames yet (`blockRuns`). The
statement has BLOCK_FRAME_SEND change nothing wherever NORMAL frames do not run.
-/

/-- In service, with ring 0 in IDENT on a locked lane, owing a block frame. -/
def identOwesFrame : State :=
  { glades := (List.range 44).map (fun g => (g, { inReset := false }))
    host := { phase := .applied }
    rings := [(0, { mode := .ident, blkWait := true })]
    lanes := [(0, { mode := .locked })] }

theorem identOwesFrame_inService : identOwesFrame.inService = true := by decide

/-- The ring sends its frame, and owes none any more. -/
theorem exec_blockFrameSend_identOwesFrame :
    ∃ t, exec (.blockFrameSend 0) identOwesFrame = .next t ∧ (t.ring 0).blkWait = false := by
  refine ⟨_, rfl, ?_⟩
  decide

/-- Refutes O31: a ring in IDENT runs no NORMAL frames, and yet BLOCK_FRAME_SEND has it send the block frame that it owes. -/
theorem not_ringFrames : ¬ Obligations.RingFrames := by
  intro h
  obtain ⟨-, hidle, -⟩ := h identOwesFrame 0 identOwesFrame_inService (by decide) (by decide)
  obtain ⟨-, -, hsend⟩ := hidle (by decide) 0 0 0 0 0 0 0 { h0 := 0, h1 := 0, body := [], crc := none, rtPs := 0 }
  obtain ⟨t, hexec, hsent⟩ := exec_blockFrameSend_identOwesFrame
  obtain rfl : t = identOwesFrame := Host.Outcome.next.inj (hexec.symm.trans hsend)
  exact absurd hsent (by decide)

/-! ## A part without pair operation

-B has no pair (R1), so that it is never passive; whether selection runs (`State.selecting`) goes by the role alone where AMBER_CFG.EN is set.
-/

/-- A -B in service in RUN, in a cycle without a reference whose first miss reaches the limit of 1, with the role and the enable of a pair. -/
def pairlessRun : State :=
  { variant := .b
    regs := [(R.ARM_REF_MISS_LIMIT.key, 1), (R.AMBER_CFG_EN.key, 1)]
    glades := (List.range 44).map (fun g => (g, { inReset := false }))
    host := { phase := .applied }
    arm := { mode := .run, running := true }
    amber := { role := .standby } }

theorem pairlessRun_inService : pairlessRun.inService = true ∧ pairlessRun.passive = false ∧ pairlessRun.selecting = false := by decide

/-- The selection start is at SEL_DL, where no ring is judged, no selection runs, and the arm stays in RUN. -/
theorem exec_selectionStart_pairlessRun :
    ∃ t, exec (.selectionStart 0) pairlessRun = .next t ∧ t.arm.mode = .run := by
  refine ⟨_, rfl, ?_⟩
  decide +kernel

/-- Refutes O22: where the role of a pair stands in a -B, the cycle is not passive, but no selection runs, and the arm is not blocked. -/
theorem not_selectionRunsOncePerCycle : ¬ Obligations.SelectionRunsOncePerCycle := by
  intro h
  obtain ⟨hservice, hpassive, -⟩ := pairlessRun_inService
  obtain ⟨-, -, hmiss⟩ := h pairlessRun 0 hservice hpassive rfl
  obtain ⟨t, hexec, -, hblocked, -⟩ := hmiss rfl rfl rfl rfl (by decide) (by decide)
  obtain ⟨t', hexec', hrun⟩ := exec_selectionStart_pairlessRun
  obtain rfl : t = t' := Host.Outcome.next.inj (hexec.symm.trans hexec')
  exact absurd (hrun.symm.trans hblocked) (by decide)

end Sys2Proof.Machine
end

section
namespace Sys2Proof.Machine

/-- In service the register store is sorted. -/
theorem inService_regsRise {s : State} (h : s.inService = true) : keysRise none s.regs = true := by
  obtain ⟨-, -, -, -, -, -, hcanonical⟩ := State.inService_iff.mp h
  exact (State.canonical_iff.mp hcanonical).2

/-! ## Frames

What the command encoder, the conditions and a cycle start leave alone, said once for every property of the state that does not look at what
they move. One rule for each function that makes a state, in the order of the model's files, as for `Keeps`.
-/

/-- `Frame W P`: the property `P` of a state speaks at most of its queue, its variant, the arm, device time, the memory and the register fields
whose keys are not in `W`. -/
structure Frame (W : Nat → Prop) (P : State → Prop) : Prop where
  update : ∀ {s : State} {conds memBad : List Nat} {elapsed free : Nat} {glades : Tab GladeSt} {flt : FltSt} {host : HostSt} {rank : RankSt}
    {enc : EncSt} {rings : Tab RingSt} {lanes : Tab LaneSt} {loops : Tab LoopSt} {servo : ServoSt} {net : NetSt} {pwm : PwmSt} {poss : Tab PosSt}
    {adcs : Tab AdcSt} {sched : SchedSt} {sec : SecSt} {nvm : NvmSt} {age : AgeSt} {canopy : CanopySt} {amber : AmberSt} {safe : SafeSt},
    P s → P { s with conds, memBad, elapsed, free, glades, flt, host, rank, enc, rings, lanes, loops, servo, net, pwm, poss, adcs, sched, sec, nvm,
                     age, canopy, amber, safe }
  put : ∀ {s : State} {F : Field} {v : Nat}, W F.key → P s → P (s.put F v)

/-- `Kept W P s`: the property `P` holds of `s`, and operations that write no field outside `W` keep it. -/
structure Kept (W : Nat → Prop) (P : State → Prop) (s : State) : Prop where
  frame : Frame W P
  holds : P s

/-- A status bit may be raised: its own key and that of the IRQ_STAT word of its page (R4) are in `W`. -/
def MayRaise (W : Nat → Prop) (F : Field) : Prop := W F.key ∧ W (32 * (pageOf F.addr + 0x14))

/-- Every key: a property that speaks of no register field. -/
abbrev AnyKey : Nat → Prop := fun _ => True

theorem mayRaise_any (F : Field) : MayRaise AnyKey F := ⟨trivial, trivial⟩

section
variable {W : Nat → Prop} {P : State → Prop} {s : State}

theorem Kept.update {conds memBad : List Nat} {elapsed free : Nat} {glades : Tab GladeSt} {flt : FltSt} {host : HostSt} {rank : RankSt}
    {enc : EncSt} {rings : Tab RingSt} {lanes : Tab LaneSt} {loops : Tab LoopSt} {servo : ServoSt} {net : NetSt} {pwm : PwmSt} {poss : Tab PosSt}
    {adcs : Tab AdcSt} {sched : SchedSt} {sec : SecSt} {nvm : NvmSt} {age : AgeSt} {canopy : CanopySt} {amber : AmberSt} {safe : SafeSt}
    (h : Kept W P s) :
    Kept W P { s with
      conds, memBad, elapsed, free, glades, flt, host, rank, enc, rings, lanes, loops, servo, net, pwm, poss, adcs, sched, sec, nvm, age, canopy,
      amber, safe } :=
  ⟨h.frame, h.frame.update h.holds⟩

theorem Kept.ite {c : Prop} [Decidable c] {t : State} (hs : Kept W P s) (ht : Kept W P t) : Kept W P (if c then s else t) := by
  split <;> assumption

theorem Kept.thenIf {c : Prop} [Decidable c] {t : State} (h : Kept W P s) (k : Kept W P s → Kept W P t) : Kept W P (if c then t else s) :=
  .ite (k h) h

theorem Kept.elseIf {c : Prop} [Decidable c] {t : State} (h : Kept W P s) (k : Kept W P s → Kept W P t) : Kept W P (if c then s else t) :=
  .ite h (k h)

theorem Kept.foldl {β : Type} {f : State → β → State} {l : List β} (h : Kept W P s) (hf : ∀ {x n}, Kept W P x → Kept W P (f x n)) :
    Kept W P (l.foldl f s) :=
  List.foldlRecOn l f h fun _ hx _ _ => hf hx

theorem Kept.forAll {l : List Nat} {f : Nat → State → State} (h : Kept W P s) (hf : ∀ {n x}, Kept W P x → Kept W P (f n x)) :
    Kept W P (forAll l f s) :=
  h.foldl hf

theorem Kept.put {F : Field} {v : Nat} (h : Kept W P s) (hw : W F.key := by trivial) : Kept W P (s.put F v) := ⟨h.frame, h.frame.put hw h.holds⟩
theorem Kept.addTo {F : Field} {n : Nat} (h : Kept W P s) (hw : W F.key := by trivial) : Kept W P (s.addTo F n) := h.put hw
theorem Kept.addSat {F : Field} {n : Nat} (h : Kept W P s) (hw : W F.key := by trivial) : Kept W P (s.addSat F n) := h.put hw

theorem Kept.putAll {l : List (Field × Nat)} (h : Kept W P s) (hw : ∀ k ∈ l.map (·.1.key), W k) : Kept W P (s.putAll l) := by
  induction l generalizing s with
  | nil => exact h
  | cons e t ih =>
    obtain ⟨F, v⟩ := e
    exact ih (h.put (hw _ List.mem_cons_self)) fun k hk => hw k (List.mem_cons_of_mem _ hk)

theorem Kept.post {e : Event} (h : Kept W P s) : Kept W P (s.post e) := h.update
theorem Kept.config {addr : Nat} (h : Kept W P s) : Kept W P (s.config addr) := h.post

theorem Kept.raise {F : Field} (h : Kept W P s) (hw : MayRaise W F := by exact mayRaise_any _) : Kept W P (s.raise F) := by
  obtain ⟨hown, hirq⟩ := hw
  unfold State.raise
  extract_lets s1
  have h1 : Kept W P s1 := h.put hown
  split
  · exact h1
  · extract_lets s2
    have h2 : Kept W P s2 := by
      unfold s2
      split
      · exact h1.put (by simpa [Field.key] using hirq)
      · exact h1
    exact Kept.ite h2.update h1

theorem Kept.flagIf {b : Bool} {F : Field} (h : Kept W P s) (hw : MayRaise W F := by exact mayRaise_any _) : Kept W P (s.flagIf b F) :=
  h.thenIf (·.raise hw)

theorem Kept.cond {F : Field} {b : Bool} (h : Kept W P s) (hw : MayRaise W F := by exact mayRaise_any _) : Kept W P (s.cond F b) := by
  unfold State.cond
  extract_lets s1
  have h1 : Kept W P s1 := h.update
  split
  · exact h.elseIf fun h => h.update.raise hw
  · split
    · exact h1
    · exact h1.put hw.1

theorem Kept.setRec {i : Nat} {r : SmRec} (h : Kept W P s) : Kept W P (s.setRec i r) := h.update
theorem Kept.setProt {i : Nat} {p : SmProt} (h : Kept W P s) : Kept W P (s.setProt i p) := h.update
theorem Kept.setRing {n : Nat} {r : RingSt} (h : Kept W P s) : Kept W P (s.setRing n r) := h.update
theorem Kept.setSlot {i : Nat} {c : SlotCmd} (h : Kept W P s) : Kept W P (s.setSlot i c) := h.update

end

/-! ### The command encoder: it writes fields of its own page alone -/

section
variable {W : Nat → Prop} {P : State → Prop} {s : State} (hW : ∀ k, k / 0x20000 = 0x72 → W k)
include hW

theorem Kept.protConds (h : Kept W P s) : Kept W P s.protConds :=
  (h.cond ⟨hW _ (by decide), hW _ (by decide)⟩).cond ⟨hW _ (by decide), hW _ (by decide)⟩

theorem Kept.leakBegin (h : Kept W P s) : Kept W P s.leakBegin :=
  (((h.forAll Kept.setProt).forAll Kept.setProt).update.put (hW _ (by decide))).put (hW _ (by decide))

theorem Kept.leakCheckEnd (h : Kept W P s) : Kept W P s.leakCheckEnd :=
  h.thenIf fun h => (((h.update.addTo (hW _ (by decide))).raise ⟨hW _ (by decide), hW _ (by decide)⟩).put (hW _ (by decide))).thenIf (·.leakBegin hW)

theorem Kept.leakLeave {n : Nat} (h : Kept W P s) : Kept W P (s.leakLeave n) := Kept.leakCheckEnd hW (h.forAll (·.thenIf (·.setProt)))

theorem Kept.dcmdDrops {n : Nat} (h : Kept W P s) : Kept W P ((s.addTo R.CMDENC_DCMD_STAT_DROP n).raise R.CMDENC_STAT_DCMD_DROP) :=
  (h.addTo (hW _ (by decide))).raise ⟨hW _ (by decide), hW _ (by decide)⟩

theorem Kept.dropDcmds (h : Kept W P s) : Kept W P s.dropDcmds := h.update.elseIf (·.dcmdDrops hW)

theorem Kept.interlock {i : Nat} {e : Entry} (h : Kept W P s) : Kept W P (s.interlock i e) := by
  have hlast : ∀ k ∈ [R.CMDENC_INTLK_LAST_SRC, R.CMDENC_INTLK_LAST_TASK, R.CMDENC_INTLK_LAST_SW, R.CMDENC_INTLK_LAST_IDX].map Field.key,
      k / 0x20000 = 0x72 := by decide
  refine (((h.putAll ?_).raise ⟨hW _ (by decide), hW _ (by decide)⟩).addTo (hW _ (by decide))).post
  exact fun k hk => hW k (hlast k hk)

theorem Kept.encodeOne {plan : Option Plan} {win i : Nat} (h : Kept W P s) : Kept W P (s.encodeOne plan win i) := by
  unfold State.encodeOne
  extract_lets r p w0 bad w s1 blocked cnt due _ s2 act _ s3
  have h1 : Kept W P s1 := by
    unfold s1
    clear_value bad
    split
    · exact h.interlock hW
    · exact h
  have h2 : Kept W P s2 := h1.setProt.setRec
  have h3 : Kept W P s3 := (h2.thenIf (·.setProt)).setSlot
  exact h3.elseIf (·.dcmdDrops hW)

theorem Kept.leakRequests {ok : List Nat} (h : Kept W P s) : Kept W P (s.leakRequests ok) :=
  h.thenIf fun h => h.forAll fun hx => hx.setSlot.thenIf fun hx => hx.setProt.put (hW _ (by decide))

theorem Kept.encode {plan : Option Plan} {win : Nat} (h : Kept W P s) : Kept W P (s.encode plan win) :=
  Kept.protConds hW <| Kept.put (h := Kept.update <| Kept.leakRequests hW <| Kept.leakCheckEnd hW <| Kept.forAll
    (Kept.forAll (Kept.update (Kept.dropDcmds hW h.update)) Kept.setRec) (·.encodeOne hW)) (hW _ (by decide))

end

/-! ### Conditions: of the ARM page they write CYC_STAT and IRQ_STAT alone -/

/-- The key lies outside the ARM page, or in its CYC_STAT or IRQ_STAT. -/
def besideArm (k : Nat) : Bool := decide (k / 0x20000 ≠ 0x71) || decide (k / 32 = 0x71064) || decide (k / 32 = 0x71014)

theorem besideArm_iff {k : Nat} : besideArm k = true ↔ k / 0x20000 ≠ 0x71 ∨ k / 32 = 0x71064 ∨ k / 32 = 0x71014 := by
  simp [besideArm, or_assoc]

section
variable {W : Nat → Prop} {P : State → Prop} {s : State} (hW : ∀ k, besideArm k = true → W k)
include hW

/-- The condition bits of a ring that the variant can have. -/
theorem mayRaise_ringStat {n lo : Nat} (hn : n < 96) (hlo : lo < 32) : MayRaise W ⟨0x10000 + 0x1000 * n + 0x44, lo, 1, 0, .rc⟩ := by
  refine ⟨hW _ (besideArm_iff.mpr ?_), hW _ (besideArm_iff.mpr ?_)⟩ <;> simp only [Field.key, pageOf] <;> omega

theorem mayRaise_loopStat {k : Nat} (hk : k < 32) : MayRaise W (R.U_STAT_NOTRIG k) := by
  refine ⟨hW _ (besideArm_iff.mpr ?_), hW _ (besideArm_iff.mpr ?_)⟩ <;> simp only [R.U_STAT_NOTRIG, Field.key, pageOf] <;> omega

theorem Kept.budgetCheck (h : Kept W P s) : Kept W P s.budgetCheck := h.cond ⟨hW _ (by decide), hW _ (by decide)⟩

theorem Kept.ringBudget {n : Nat} (hn : n < 96) (h : Kept W P s) : Kept W P (s.ringBudget n) :=
  (h.cond (mayRaise_ringStat hW hn (by decide))).setRing.thenIf (·.post)

theorem Kept.ringLoss {rtMax n : Nat} (hn : n < 96) (h : Kept W P s) : Kept W P (s.ringLoss rtMax n) :=
  ((h.cond (mayRaise_ringStat hW hn (by decide))).elseIf (·.setRing)).thenIf (·.config)

theorem Kept.ringsLoss (h : Kept W P s) : Kept W P s.ringsLoss :=
  forAll_induction h fun _ hn _ hx => hx.ringLoss hW (lt_of_mem_ringList hn)

theorem Kept.ringsRecheck (h : Kept W P s) : Kept W P s.ringsRecheck :=
  Kept.ringsLoss hW (forAll_induction h fun _ hn _ hx => hx.ringBudget hW (lt_of_mem_ringList hn))

theorem Kept.regionCheck (h : Kept W P s) : Kept W P s.regionCheck := by
  refine h.thenIf fun h => ?_
  have hsize : Kept W P (s.putAll [(R.AMBER_REGION_HW8, s.hwSize / 8), (R.AMBER_REGION_SIZE, s.regionSize)]) :=
    (h.put (hW R.AMBER_REGION_HW8.key (by decide))).put (hW R.AMBER_REGION_SIZE.key (by decide))
  exact (hsize.cond ⟨hW _ (by decide), hW _ (by decide)⟩).update.thenIf (·.post)

theorem Kept.loopConds (h : Kept W P s) : Kept W P s.loopConds :=
  forAll_induction h fun _ hk _ hx => hx.cond (mayRaise_loopStat hW (lt_of_mem_loops hk))

theorem Kept.realignCond (h : Kept W P s) : Kept W P s.realignCond := h.cond ⟨hW _ (by decide), hW _ (by decide)⟩

theorem Kept.timingCheck {addr : Nat} (h : Kept W P s) : Kept W P (s.timingCheck addr) := (h.budgetCheck hW).elseIf (·.config)

end

end Sys2Proof.Machine
end

section
namespace Sys2Proof.Machine

/-! ## A cycle start (R37, R47)

What it does beside the arm's own part leaves the arm and device time: one rule for each function, as in `Kept`'s own layer.
-/

section
variable {P : State → Prop} {s : State}

theorem anyKey_of (p : Nat → Prop) : ∀ k, p k → AnyKey k := fun _ _ => trivial

theorem Kept.unpost {e : Event} (h : Kept AnyKey P s) : Kept AnyKey P (s.unpost e) := h.update
theorem Kept.setLane {l : Nat} {x : LaneSt} (h : Kept AnyKey P s) : Kept AnyKey P (s.setLane l x) := h.update
theorem Kept.setGlade {g : Nat} {x : GladeSt} (h : Kept AnyKey P s) : Kept AnyKey P (s.setGlade g x) := h.update
theorem Kept.setTask {t : Nat} {x : TaskSt} (h : Kept AnyKey P s) : Kept AnyKey P (s.setTask t x) := h.update
theorem Kept.useFree {n : Nat} (h : Kept AnyKey P s) : Kept AnyKey P (s.useFree n) := h.update
theorem Kept.event {c : FaultClass} {unit aux : Nat} (h : Kept AnyKey P s) : Kept AnyKey P (s.event c unit aux) := h.post

/-! ### Frames of the rings (R225, R239, R240) -/

theorem Kept.countMiss {n : Nat} {miss : Bool} (h : Kept AnyKey P s) : Kept AnyKey P (s.countMiss n miss) :=
  .ite (Kept.thenIf h.addSat (·.post)) h.put

theorem Kept.skipCycle {n : Nat} (h : Kept AnyKey P s) : Kept AnyKey P (s.skipCycle n) := h.setRing.raise.addTo.countMiss
theorem Kept.skipFrame {n : Nat} (h : Kept AnyKey P s) : Kept AnyKey P (s.skipFrame n) := h.thenIf (·.skipCycle)

theorem Kept.sendFrame {n t el : Nat} {f : RingFrame} (h : Kept AnyKey P s) : Kept AnyKey P (s.sendFrame n f t el) :=
  h.setRing.forAll fun hx => (hx.thenIf (·.setRec)).thenIf (·.setProt)

theorem Kept.cycleFrame {tk n : Nat} (h : Kept AnyKey P s) : Kept AnyKey P (s.cycleFrame tk n) := by
  unfold State.cycleFrame
  extract_lets r f s1 _ s2
  have h2 : Kept AnyKey P s2 := h.sendFrame.setRing
  exact .ite h (Kept.ite h.put (Kept.ite h.skipCycle (h2.thenIf (·.raise))))

theorem Kept.sendFrames {tk : Nat} {notReady : List Nat} (h : Kept AnyKey P s) : Kept AnyKey P (s.sendFrames tk notReady) :=
  h.forAll fun hx => Kept.ite hx.skipFrame hx.cycleFrame

theorem Kept.judgeRing {n : Nat} (h : Kept AnyKey P s) : Kept AnyKey P (s.judgeRing n) := by
  unfold State.judgeRing
  extract_lets r ok s1 s2
  have h2 : Kept AnyKey P s2 := h.setRing.thenIf (·.raise)
  exact h.thenIf fun _ => Kept.ite h2 (Kept.elseIf h2 (·.raise.addTo)).countMiss

theorem Kept.observe {tk : Nat} (h : Kept AnyKey P s) : Kept AnyKey P (s.observe tk) := h.forAll Kept.setRec
theorem Kept.ringTryStart {n : Nat} (h : Kept AnyKey P s) : Kept AnyKey P (s.ringTryStart n) := h.thenIf (·.setRing.setLane)

/-! ### The other device and the subscribers (R541, R631) -/

theorem Kept.setPort {p : Nat} {x : PortSt} (h : Kept AnyKey P s) : Kept AnyKey P (s.setPort p x) := h.update
theorem Kept.pairSend {cls : Nat} {m : CMsg} (h : Kept AnyKey P s) : Kept AnyKey P (s.pairSend cls m) := h.thenIf (·.setPort)

theorem Kept.sendHb {tk : Nat} (h : Kept AnyKey P s) : Kept AnyKey P (s.sendHb tk) := by
  unfold State.sendHb
  split
  · exact h.pairSend
  · exact h.pairSend
  · exact h.pairSend
  · exact h
  · exact h

theorem Kept.modNet {f : NetSt → NetSt} (h : Kept AnyKey P s) : Kept AnyKey P (s.modNet f) := h.update

theorem Kept.ethSend {mask dst etype : Nat} {tagged : Bool} {body : EthBody} (h : Kept AnyKey P s) :
    Kept AnyKey P (s.ethSend mask dst etype tagged body) :=
  Kept.forAll (h.forAll fun hx => hx.thenIf (·.modNet)) Kept.modNet

theorem Kept.pubNew {k : Nat} (h : Kept AnyKey P s) : Kept AnyKey P (s.pubNew k) := by
  unfold State.pubNew
  split
  · exact h
  · exact h.thenIf fun h => h.modNet.ethSend.flagIf

/-! ### The outputs latched (R363) -/

theorem Kept.unpend {F : Field} (h : Kept AnyKey P s) : Kept AnyKey P (s.unpend F) := by
  unfold State.unpend
  split
  · exact h.put
  · exact h

theorem Kept.unraise {b : BitsBack} (h : Kept AnyKey P s) : Kept AnyKey P (s.unraise b) :=
  (h.foldl fun hx => Kept.elseIf hx.put (·.unpend)).update

theorem Kept.setCh {c : Nat} {x : ChSt} (h : Kept AnyKey P s) : Kept AnyKey P (s.setCh c x) := h.update
theorem Kept.setPin {c : Nat} {b : Bool} (h : Kept AnyKey P s) : Kept AnyKey P (s.setPin c b) := .ite h (Kept.ite h.setCh h.setCh)
theorem Kept.pinFall {c : Nat} (h : Kept AnyKey P s) : Kept AnyKey P (s.pinFall c) := h.elseIf (·.setPin.setCh)
theorem Kept.pinHolds {c : Nat} (h : Kept AnyKey P s) : Kept AnyKey P (s.pinHolds c) := h.elseIf (·.pinFall)

theorem Kept.pinRise {c : Nat} (h : Kept AnyKey P s) : Kept AnyKey P (s.pinRise c) :=
  h.thenIf fun h => Kept.ite h.setPin (Kept.ite h.setCh h.setCh.setPin)

theorem Kept.unhold {hd : HoldBack} (h : Kept AnyKey P s) : Kept AnyKey P (s.unhold hd) := h.setCh.setCh.unraise.addTo.addTo.update.unpost
theorem Kept.dropHold {p : Nat} (h : Kept AnyKey P s) : Kept AnyKey P (s.dropHold p) := h.elseIf (·.foldl Kept.unhold)

theorem Kept.pairHold {p : Nat} (h : Kept AnyKey P s) : Kept AnyKey P (s.pairHold p) :=
  .ite (h.elseIf (·.setCh.setCh.raise.raise.update.addTo.addTo.event)) h.setCh.setCh

theorem Kept.pairUpdate {p : Nat} (h : Kept AnyKey P s) : Kept AnyKey P (s.pairUpdate p) := by
  unfold State.pairUpdate
  extract_lets fall
  have hfall {c : Nat} {x : State} (hx : Kept AnyKey P x) : Kept AnyKey P (fall c x) := Kept.ite hx.pinHolds hx.pinFall
  exact (hfall (hfall h.dropHold.pairHold)).pinRise.pinRise

theorem Kept.unresume (h : Kept AnyKey P s) : Kept AnyKey P s.unresume := by
  unfold State.unresume
  split
  · exact h
  · exact h.thenIf fun h => ((h.foldl Kept.unhold).putAll fun _ _ => trivial).update.config

theorem Kept.engageLatch (h : Kept AnyKey P s) : Kept AnyKey P s.engageLatch :=
  h.unresume.elseIf fun h => Kept.forAll (h.forAll Kept.setCh).useFree.update Kept.pairUpdate

/-! ### Planned handover and takeover (R641, R647, R648) -/

theorem Kept.modAmber {f : AmberSt → AmberSt} (h : Kept AnyKey P s) : Kept AnyKey P (s.modAmber f) := h.update
theorem Kept.setRole {r : AmberRole} (h : Kept AnyKey P s) : Kept AnyKey P (s.setRole r) := h.modAmber.pubNew
theorem Kept.setRepeat {b : Bool} (h : Kept AnyKey P s) : Kept AnyKey P (s.setRepeat b) := h.forAll Kept.setLane

theorem Kept.gateGlades (h : Kept AnyKey P s) : Kept AnyKey P s.gateGlades := by
  unfold State.gateGlades
  extract_lets s1
  have h1 : Kept AnyKey P s1 := h.engageLatch.forAll Kept.setGlade
  exact h1.modAmber

theorem Kept.svcAbort {n : Nat} (h : Kept AnyKey P s) : Kept AnyKey P (s.svcAbort n) := h.setRing.thenIf (·.put.put.raise)
theorem Kept.sendStatic (h : Kept AnyKey P s) : Kept AnyKey P s.sendStatic := h.thenIf (·.foldl Kept.pairSend)

theorem Kept.ringOut {n : Nat} (h : Kept AnyKey P s) : Kept AnyKey P (s.ringOut n) :=
  (((h.leakLeave (anyKey_of _)).budgetCheck (anyKey_of _)).ringsLoss (anyKey_of _)).regionCheck (anyKey_of _)

theorem Kept.ringDown {n : Nat} (hn : n < 96) (h : Kept AnyKey P s) : Kept AnyKey P (s.ringDown n) := by
  unfold State.ringDown
  extract_lets was s1 s2
  have h2 : Kept AnyKey P s2 := h.svcAbort.setRing.cond
  exact .ite h2.ringOut ((h2.ringLoss (anyKey_of _) hn).budgetCheck (anyKey_of _))

theorem Kept.enterStandby (h : Kept AnyKey P s) : Kept AnyKey P s.enterStandby := by
  unfold State.enterStandby
  extract_lets s1
  have h1 : Kept AnyKey P s1 := h.setRole.put.setRepeat
  exact (forAll_induction h1.modAmber fun _ hn _ hx => hx.ringDown (lt_of_mem_ringList (List.mem_of_mem_filter hn))).gateGlades

theorem Kept.handoverStep (h : Kept AnyKey P s) : Kept AnyKey P s.handoverStep :=
  .ite h.pairSend.modAmber.raise (h.thenIf fun h => h.setRole.put.setRepeat.modAmber.thenIf (·.enterStandby))

theorem Kept.holdEnd (h : Kept AnyKey P s) : Kept AnyKey P s.holdEnd := h.thenIf (·.modAmber.put)

theorem Kept.holdStart (h : Kept AnyKey P s) : Kept AnyKey P s.holdStart := by
  unfold State.holdStart
  split
  · exact h
  · exact h.thenIf fun h => (((h.setRepeat.setRole.modAmber.forAll Kept.setSlot).raise.budgetCheck (anyKey_of _)).regionCheck (anyKey_of _)).sendStatic

/-! ### The cycle-start flag (R468) -/

theorem Kept.postFlagsTo {f t : Nat} (h : Kept AnyKey P s) : Kept AnyKey P (s.postFlagsTo f t) := by
  unfold State.postFlagsTo
  split
  · exact h
  · exact h.thenIf fun h => h.setTask.thenIf (·.addTo)

theorem Kept.postFlags {f : Nat} (h : Kept AnyKey P s) : Kept AnyKey P (s.postFlags f) :=
  h.thenIf fun h => Kept.forAll (Kept.forAll (h.forAll Kept.postFlagsTo) (·.thenIf (·.update))) (·.thenIf (·.update))

theorem Kept.postCycleFlag (h : Kept AnyKey P s) : Kept AnyKey P s.postCycleFlag := .ite h.postFlags.update h.update

end

/-! ### The arm and device time -/

/-- `InCycle a t s`: the arm and device time are so. -/
structure InCycle (a : ArmSt) (t : Nat) (s : State) : Prop where
  arm : s.arm = a
  time : s.time = t

section
variable {a : ArmSt} {t : Nat} {s : State}

theorem frame_inCycle (a : ArmSt) (t : Nat) : Frame AnyKey (InCycle a t) := ⟨fun h => ⟨h.arm, h.time⟩, fun _ h => ⟨h.arm, h.time⟩⟩

theorem InCycle.kept (h : InCycle a t s) : Kept AnyKey (InCycle a t) s := ⟨frame_inCycle a t, h⟩

/-- A write to the memory moves neither. -/
theorem InCycle.writeBytes {n : Nat} {bs : List Byte} (h : InCycle a t s) : InCycle a t (s.writeBytes n bs) := by
  unfold State.writeBytes
  extract_lets s1
  have h1 (mem : Memory) : InCycle a t { s1 with mem } := ⟨h.arm, h.time⟩
  split
  · exact h1 _
  · exact ((h1 _).kept.foldl Kept.event).holds

theorem Kept.writeFrom {g n : Nat} {bs : List Byte} (h : Kept AnyKey (InCycle a t) s) : Kept AnyKey (InCycle a t) (s.writeFrom g n bs) :=
  .ite h.update h.holds.writeBytes.kept

theorem Kept.traceWrite {ws : List Nat} (h : Kept AnyKey (InCycle a t) s) : Kept AnyKey (InCycle a t) (s.traceWrite ws) :=
  h.thenIf fun h => Kept.ite h.addTo.raise (h.update.writeFrom.put.thenIf (·.put))

theorem Kept.cycleFlag (h : Kept AnyKey (InCycle a t) s) : Kept AnyKey (InCycle a t) s.cycleFlag :=
  h.postCycleFlag.thenIf fun h => h.update.thenIf (·.foldl Kept.traceWrite)

end

/-! ### The start itself -/

/-- What judges the frames of the last cycle leaves the servo. -/
theorem countMiss_servo (n : Nat) (miss : Bool) (s : State) : (s.countMiss n miss).servo = s.servo := by
  unfold State.countMiss
  extract_lets s1
  split
  · split <;> rfl
  · rfl

theorem judgeRing_servo (n : Nat) (s : State) : (s.judgeRing n).servo = s.servo := by
  unfold State.judgeRing
  extract_lets r ok s1 s2
  have h2 : s2.servo = s.servo := by
    unfold s2
    split
    · exact State.raise_servo _ _
    · rfl
  split
  · split
    · exact h2
    · rw [countMiss_servo]
      split
      · exact h2
      · exact (State.raise_servo s2 _).trans h2
  · rfl

theorem judgeRings_servo (l : List Nat) (s : State) : (forAll l State.judgeRing s).servo = s.servo :=
  forAll_induction (P := fun x => x.servo = s.servo) rfl fun n _ x hx => (judgeRing_servo n x).trans hx

/-- With no step pending, the boundary of a cycle steps nothing. -/
theorem stepAtCycle_none {s : State} (h : s.servo.pend = none) : s.stepAtCycle = s := by
  simp [State.stepAtCycle, h]

/-- The arm's part of a cycle start, with the end of the cycle planned (R37, R38), is all that happens to the arm. -/
theorem cycleBody_inCycle {s : State} (hpend : s.servo.pend = none) (tk : Nat) (notReady : List Nat) :
    ∃ el stepped nextTk, InCycle { newCycle tk el stepped s.arm with nextTk } s.time (s.cycleBody tk notReady) := by
  unfold State.cycleBody
  extract_lets s1 _ s2 s3 t s4 s5
  have h1 : InCycle s.arm s.time s1 := (InCycle.kept ⟨rfl, rfl⟩ |>.forAll Kept.judgeRing).holds
  have hservo : s2.servo.pend = none := (congrArg ServoSt.pend (judgeRings_servo s.ringList s)).trans hpend
  have hplan : InCycle { newCycle tk s1.elapsed s1.setHere s.arm with nextTk := s2.planEnd.arm.nextTk } s.time s2.planEnd := by
    refine ⟨?_, h1.time⟩
    rw [← h1.arm]
    rfl
  have h3 : Kept AnyKey (InCycle { newCycle tk s1.elapsed s1.setHere s.arm with nextTk := s2.planEnd.arm.nextTk } s.time) s3 := by
    unfold s3
    rw [stepAtCycle_none hservo]
    exact (hplan.kept.realignCond (anyKey_of _)).addTo
  have h5 : Kept AnyKey (InCycle { newCycle tk s1.elapsed s1.setHere s.arm with nextTk := s2.planEnd.arm.nextTk } s.time) s5 :=
    h3.observe.handoverStep.holdEnd.holdStart.sendFrames
  exact ⟨_, _, _, (h5.forAll Kept.ringTryStart).cycleFlag.holds⟩

/-- Settles O23: device time comes to the grid, and the arm's part is `newCycle` (`cycleBody_inCycle`). -/
theorem cycleStartBeginsTheCycle : Obligations.CycleStartBeginsTheCycle := by
  intro s l hserv _ hpend
  have hup : s.up 5 = true := inService_common hserv (by decide)
  have htime : s.timeUp = true := inService_common hserv (g := 4) (by decide)
  have heff : cycleStartEffect l s = (s.reachStart.cycleBody s.nextStart l).sendHb ((s.reachStart.cycleBody s.nextStart l).arm.cycStart / nsU) := by
    simp only [cycleStartEffect, htime, hup, if_true]
  obtain ⟨el, stepped, nextTk, hbody⟩ := cycleBody_inCycle (s := s.reachStart) hpend s.nextStart l
  obtain ⟨harm, ht⟩ := (heff ▸ hbody.kept.sendHb.holds : InCycle _ _ (cycleStartEffect l s))
  refine ⟨_, rfl, ?_⟩
  dsimp only
  rw [harm, ht]
  exact ⟨rfl, rfl, rfl, rfl, rfl, rfl, rfl, rfl, rfl⟩

end Sys2Proof.Machine
end

section
namespace Sys2Proof.Machine

/-! ## Writes to the cycle timing (R57, R58) and to the reference (R69) -/

/-- A write with an action of its own to the ARM page, whose glade runs in service. -/
theorem commanded_armPage {s : State} (h : s.inService = true) {addr : Nat} (ha : addr / 0x1000 = 0x71) (f : State → State) :
    s.commanded addr f = f s :=
  commanded_inService h (g := 5) (by simp [pageGlade, ha]) (inService_common h (by decide)) (by simp [pageAbsent, ha]) f

theorem regsKeptBut_put (F : Field) (v : Nat) (s : State) : RegsKeptBut [F] s (s.put F v) := fun _ hG => get_put_other (hG F (by simp)) v s

/-- A status bit that no IRQ_EN bit serves raises nothing beside itself (R4). -/
theorem raise_unserved {F : Field} (h : servedBit F = none) (s : State) : s.raise F = s.put F 1 := by
  simp [State.raise, h]

/-- A write that a lock refuses sets LOCKV and changes no other field (R57, R825). -/
theorem armLockV_shows (addr : Nat) (s : State) : (s.armLockV addr).get R.ARM_STATUS_LOCKV = 1
    ∧ RegsKeptBut [R.ARM_STATUS_LOCKV] s (s.armLockV addr) ∧ (s.armLockV addr).mem = s.mem := by
  have hraise : s.raise R.ARM_STATUS_LOCKV = s.put R.ARM_STATUS_LOCKV 1 := raise_unserved (by decide) s
  unfold State.armLockV
  have hset : (s.put R.ARM_STATUS_LOCKV 1).get R.ARM_STATUS_LOCKV = 1 := get_put_value (by decide)
  rw [hraise]
  exact ⟨hset, regsKeptBut_put _ 1 s, rfl⟩

theorem timingLocked_mode {s : State} (h : s.arm.mode ≠ .off) : s.timingLocked = true := by
  simp [State.timingLocked, h]

theorem timingLocked_off {s : State} (hm : s.arm.mode = .off) (hl : s.on R.ARM_LOCK_LOCK = false) : s.timingLocked = false := by
  simp [State.timingLocked, hm, hl]

section
variable {F : Field} {s₀ s : State}

/-- That a field and the memory are what they were says nothing of another field. -/
theorem frame_fieldKept (F : Field) (s₀ : State) : Frame (· ≠ F.key) (FieldKept F s₀) := ⟨FieldKept.update, fun hw h => h.put hw.symm⟩

theorem FieldKept.kept (h : FieldKept F s₀ s) : Kept (· ≠ F.key) (FieldKept F s₀) s := ⟨frame_fieldKept F s₀, h⟩

variable (hF : besideArm F.key = false)
include hF

theorem besideArm_ne (k : Nat) (hk : besideArm k = true) : k ≠ F.key := fun h => by
  rw [h, hF] at hk
  exact Bool.noConfusion hk

/-- The end of the cycle planned anew shows in CYC_STAT alone (R38). -/
theorem FieldKept.realignNow (h : FieldKept F s₀ s) : FieldKept F s₀ s.realignNow := by
  have hplan : FieldKept F s₀ s.planEnd := h.update
  exact h.thenIf fun _ => (hplan.kept.realignCond (besideArm_ne hF)).holds

/-- What a new cycle length has judged again leaves the timing fields and the memory alone. -/
theorem FieldKept.cycLenChecks {addr : Nat} (h : FieldKept F s₀ s) :
    FieldKept F s₀ (s.loopConds.ringsRecheck.timingCheck addr).regionCheck.realignNow := by
  have hW := besideArm_ne hF
  exact FieldKept.realignNow hF ((((h.kept.loopConds hW).ringsRecheck hW).timingCheck hW).regionCheck hW).holds

theorem FieldKept.execOfsChecks {addr : Nat} (h : FieldKept F s₀ s) : FieldKept F s₀ (s.ringsRecheck.timingCheck addr) := by
  have hW := besideArm_ne hF
  exact ((h.kept.ringsRecheck hW).timingCheck hW).holds

theorem FieldKept.cycPhaseChecks {addr : Nat} (h : FieldKept F s₀ s) : FieldKept F s₀ (s.timingCheck addr).realignNow :=
  FieldKept.realignNow hF (h.kept.timingCheck (besideArm_ne hF)).holds

end

section
variable {s : State} (hup : s.up 5 = true)
include hup

theorem cycLenEffect_locked (h : s.timingLocked = true) (v : Nat) : cycLenEffect v s = s.armLockV R.ARM_CYC_LEN_LEN.addr := by
  simp [cycLenEffect, hup, h]

theorem execOfsEffect_locked (h : s.timingLocked = true) (v : Nat) : execOfsEffect v s = s.armLockV R.ARM_EXEC_OFS_OFS.addr := by
  simp [execOfsEffect, hup, h]

theorem cycPhaseEffect_locked (h : s.timingLocked = true) (v : Nat) : cycPhaseEffect v s = s.armLockV R.ARM_CYC_PHASE_PHASE.addr := by
  simp [cycPhaseEffect, hup, h]

/-- A cycle length outside 200 to 5,000 is refused (R58). -/
theorem cycLenEffect_refused (h : s.timingLocked = false) {v : Nat} (hv : v % 8192 < 200 ∨ 5000 < v % 8192) :
    cycLenEffect v s = s.config R.ARM_CYC_LEN_LEN.addr := by
  simp [cycLenEffect, hup, h, hv]

theorem cycLenEffect_taken (h : s.timingLocked = false) {v : Nat} (hl : 200 ≤ v) (hh : v ≤ 5000) :
    cycLenEffect v s = ((((s.put R.ARM_CYC_LEN_LEN v).put R.ARM_SEL_DL_DL (10 * v - 950)).loopConds.ringsRecheck.timingCheck
      R.ARM_CYC_LEN_LEN.addr).regionCheck).realignNow := by
  have hv : v % 8192 = v := Nat.mod_eq_of_lt (by omega)
  have hrange : ¬(v < 200 ∨ 5000 < v) := by omega
  simp only [cycLenEffect, hup, h, hv, hrange, if_true, if_false, Bool.false_eq_true]

theorem execOfsEffect_taken (h : s.timingLocked = false) (v : Nat) :
    execOfsEffect v s = (s.put R.ARM_EXEC_OFS_OFS v).ringsRecheck.timingCheck R.ARM_EXEC_OFS_OFS.addr := by
  simp [execOfsEffect, hup, h]

theorem cycPhaseEffect_taken (h : s.timingLocked = false) (v : Nat) :
    cycPhaseEffect v s = ((s.put R.ARM_CYC_PHASE_PHASE v).timingCheck R.ARM_CYC_PHASE_PHASE.addr).realignNow := by
  simp [cycPhaseEffect, hup, h]

variable (hk : keysRise none s.regs = true)
include hk

/-- A cycle length that is taken shows in LEN and in SEL_DL (R58, R64). -/
theorem cycLenEffect_shows (h : s.timingLocked = false) {v : Nat} (hl : 200 ≤ v) (hh : v ≤ 5000) :
    (cycLenEffect v s).get R.ARM_CYC_LEN_LEN = v ∧ (cycLenEffect v s).get R.ARM_SEL_DL_DL = 10 * v - 950 ∧ (cycLenEffect v s).mem = s.mem := by
  have hlen : ((s.put R.ARM_CYC_LEN_LEN v).put R.ARM_SEL_DL_DL (10 * v - 950)).get R.ARM_CYC_LEN_LEN = v := by
    have hw : 2 ^ R.ARM_CYC_LEN_LEN.w = 8192 := rfl
    rw [get_put_other (by decide), get_put_same hk, hw]
    omega
  have hdl : ((s.put R.ARM_CYC_LEN_LEN v).put R.ARM_SEL_DL_DL (10 * v - 950)).get R.ARM_SEL_DL_DL = 10 * v - 950 := by
    have hw : 2 ^ R.ARM_SEL_DL_DL.w = 65536 := rfl
    rw [get_put_same (regs_put_rise hk _ _), hw]
    omega
  have hmem : ((s.put R.ARM_CYC_LEN_LEN v).put R.ARM_SEL_DL_DL (10 * v - 950)).mem = s.mem := by simp only [State.put_mem]
  rw [cycLenEffect_taken hup h hl hh]
  have hkept (F : Field) (hF : besideArm F.key = false) := FieldKept.cycLenChecks hF (addr := R.ARM_CYC_LEN_LEN.addr)
    (FieldKept.refl ((s.put R.ARM_CYC_LEN_LEN v).put R.ARM_SEL_DL_DL (10 * v - 950)))
  refine ⟨?_, ?_, ?_⟩
  · exact (hkept R.ARM_CYC_LEN_LEN (by decide)).value.trans hlen
  · exact (hkept R.ARM_SEL_DL_DL (by decide)).value.trans hdl
  · exact (hkept R.ARM_CYC_LEN_LEN (by decide)).mem.trans hmem

theorem execOfsEffect_shows (h : s.timingLocked = false) (v : Nat) :
    (execOfsEffect v s).get R.ARM_EXEC_OFS_OFS = v % 2 ^ R.ARM_EXEC_OFS_OFS.w ∧ (execOfsEffect v s).mem = s.mem := by
  have hkept := FieldKept.execOfsChecks (F := R.ARM_EXEC_OFS_OFS) (by decide) (addr := R.ARM_EXEC_OFS_OFS.addr)
    (FieldKept.refl (s.put R.ARM_EXEC_OFS_OFS v))
  rw [execOfsEffect_taken hup h]
  exact ⟨hkept.value.trans (get_put_same hk _ v), hkept.mem⟩

theorem cycPhaseEffect_shows (h : s.timingLocked = false) (v : Nat) :
    (cycPhaseEffect v s).get R.ARM_CYC_PHASE_PHASE = v % 2 ^ R.ARM_CYC_PHASE_PHASE.w ∧ (cycPhaseEffect v s).mem = s.mem := by
  have hkept := FieldKept.cycPhaseChecks (F := R.ARM_CYC_PHASE_PHASE) (by decide) (addr := R.ARM_CYC_PHASE_PHASE.addr)
    (FieldKept.refl (s.put R.ARM_CYC_PHASE_PHASE v))
  rw [cycPhaseEffect_taken hup h]
  exact ⟨hkept.value.trans (get_put_same hk _ v), hkept.mem⟩

end

/-- A delivered reference clears MISS_CNT, and counts for this cycle up to SEL_DL and for the next after it (R47). -/
theorem deliverRef_shape (r : Reference) (s : State) : ∃ arm, s.deliverRef r = { s.put R.ARM_REF_MISS_MISS_CNT 0 with arm }
    ∧ ((s.put R.ARM_REF_MISS_MISS_CNT 0).dlPassed = false → arm.fresh = some r)
    ∧ ((s.put R.ARM_REF_MISS_MISS_CNT 0).dlPassed = true → arm.nextRef = some r ∧ arm.fresh = s.arm.fresh) := by
  unfold State.deliverRef
  dsimp only
  split
  · next h => exact ⟨_, rfl, fun hf => by simp [h] at hf, fun _ => ⟨rfl, rfl⟩⟩
  · next h =>
    split <;> exact ⟨_, rfl, fun _ => rfl, fun ht => absurd ht h⟩

/-- A write moves SEL_DL's passing only if it is one to SEL_DL. -/
theorem dlPassed_put {F : Field} (h : R.ARM_SEL_DL_DL.key ≠ F.key) (v : Nat) (s : State) : (s.put F v).dlPassed = s.dlPassed := by
  have hdl : (s.put F v).selDl = s.selDl := congrArg (· * 2 ^ 32) (get_put_other h v s)
  unfold State.dlPassed
  rw [hdl]
  rfl

/-- A write of REF_SLOPE while firmware gives the reference (R69). -/
theorem refSlopeEffect_delivers {s : State} (hup : s.up 5 = true) (hk : keysRise none s.regs = true) (hsrc : s.on R.ARM_CTRL_REF_SRC = false)
    {v : Nat} (hv : v < 2 ^ 32) {t : State} (ht : t = refSlopeEffect v s) :
    t.get R.ARM_REF_SLOPE_SLOPE = v ∧ t.get R.ARM_REF_MISS_MISS_CNT = 0 ∧ RegsKeptBut [R.ARM_REF_SLOPE_SLOPE, R.ARM_REF_MISS_MISS_CNT] s t
      ∧ t.mem = s.mem ∧ (s.dlPassed = false → t.arm.fresh = some (firmwareRef (s.get R.ARM_REF_VAL_VAL) v))
      ∧ (s.dlPassed = true → t.arm.nextRef = some (firmwareRef (s.get R.ARM_REF_VAL_VAL) v) ∧ t.arm.fresh = s.arm.fresh) := by
  have heff : refSlopeEffect v s = (s.put R.ARM_REF_SLOPE_SLOPE v).deliverRef (firmwareRef (s.get R.ARM_REF_VAL_VAL) v) := by
    unfold refSlopeEffect
    rw [if_pos (by simp [hup, hsrc]), Nat.mod_eq_of_lt hv]
  obtain ⟨arm, hshape, hnow, hnext⟩ := deliverRef_shape (firmwareRef (s.get R.ARM_REF_VAL_VAL) v) (s.put R.ARM_REF_SLOPE_SLOPE v)
  rw [dlPassed_put (by decide), dlPassed_put (by decide)] at hnow hnext
  have hget : ∀ F, t.get F = ((s.put R.ARM_REF_SLOPE_SLOPE v).put R.ARM_REF_MISS_MISS_CNT 0).get F := fun F => by rw [ht, heff, hshape]; rfl
  have harm : t.arm = arm := by rw [ht, heff, hshape]
  refine ⟨?_, ?_, fun G hG => ?_, by rw [ht, heff, hshape]; rfl, by rw [harm]; exact hnow, by rw [harm]; exact hnext⟩
  · rw [hget, get_put_other (by decide), get_put_same hk]
    exact Nat.mod_eq_of_lt hv
  · rw [hget, get_put_same (regs_put_rise hk _ _)]
    rfl
  · rw [hget, get_put_other (hG _ (by simp)), get_put_other (hG _ (by simp))]

/-- Settles O26: each write as its effect shows it, taken (`cycLenEffect_shows` and its like), refused or locked (`armLockV_shows`). -/
theorem cycleTimingWrites : Obligations.CycleTimingWrites := by
  intro s v h
  have hup : s.up 5 = true := inService_common h (by decide)
  have hk : keysRise none s.regs = true := inService_regsRise h
  have taken {addr : Nat} (ha : addr / 0x1000 = 0x71) (f : State → State) :
      Host.Outcome.next (φ := Fault) (ρ := Refusal) (s.commanded addr f) = .next (f s) := by rw [commanded_armPage h ha]
  refine ⟨fun hoff hlock => ?_, fun hmode => ?_, fun hsrc hv => ⟨_, taken (by decide) _, refSlopeEffect_delivers hup hk hsrc hv rfl⟩⟩
  · have hfree := timingLocked_off hoff hlock
    refine ⟨fun hl hh => ⟨_, taken (by decide) _, cycLenEffect_shows hup hk hfree hl hh⟩, fun hv => ⟨_, taken (by decide) _, ?_⟩,
      ⟨_, taken (by decide) _, execOfsEffect_shows hup hk hfree v⟩, ⟨_, taken (by decide) _, cycPhaseEffect_shows hup hk hfree v⟩⟩
    rw [cycLenEffect_refused hup hfree hv]
    exact ⟨rfl, rfl⟩
  · have hlocked := timingLocked_mode hmode
    simp only [List.forall_mem_cons, List.not_mem_nil, false_imp_iff, implies_true, and_true]
    exact ⟨⟨_, (taken (by decide) _).trans (congrArg _ (cycLenEffect_locked hup hlocked v)), armLockV_shows _ s⟩,
      ⟨_, (taken (by decide) _).trans (congrArg _ (execOfsEffect_locked hup hlocked v)), armLockV_shows _ s⟩,
      ⟨_, (taken (by decide) _).trans (congrArg _ (cycPhaseEffect_locked hup hlocked v)), armLockV_shows _ s⟩⟩

end Sys2Proof.Machine
end

section
namespace Sys2Proof.Machine

/-! ## The judgement of a state command (R52, R53)

It reads no instant: the same state at another instant judges a command alike.
-/

/-! ### Tables whose values are mapped -/

section
variable {α β : Type}

theorem lookupKey_map (f : α → β) (l : List (Nat × α)) (n : Nat) : lookupKey (l.map (Prod.map id f)) n = (lookupKey l n).map f := by
  induction l with
  | nil => rfl
  | cons e t ih =>
    obtain ⟨k, v⟩ := e
    by_cases h : n = k
    · simp [lookupKey, h]
    · simpa [lookupKey, h] using ih

theorem insertKey_map (f : α → β) (n : Nat) (v : α) (l : List (Nat × α)) :
    insertKey n (f v) (l.map (Prod.map id f)) = (insertKey n v l).map (Prod.map id f) := by
  induction l with
  | nil => rfl
  | cons e t ih =>
    obtain ⟨k, w⟩ := e
    simp only [List.map_cons, Prod.map_apply, id_eq, insertKey, ih]
    split
    · rfl
    · split <;> rfl

/-- A listed value set in a table and mapped is the mapped value set in the mapped table. -/
theorem tset_map [DecidableEq α] [DecidableEq β] {d : α} {d' : β} {v : α} {f : α → β} (hv : v ≠ d) (hf : f v ≠ d') (t : List (Nat × α)) (n : Nat) :
    tset d' (t.map (Prod.map id f)) n (f v) = (tset d t n v).map (Prod.map id f) := by
  simp only [tset, hv, hf, if_false, insertKey_map]

theorem tget_map {f : α → β} {d' : β} {d : α} (hd : f d = d') (t : List (Nat × α)) (n : Nat) :
    tget d' (t.map (Prod.map id f)) n = f (tget d t n) := by
  simp only [tget, lookupKey_map, ← hd]
  cases lookupKey t n <;> rfl

end

/-! ### The events on their way to the collector -/

/-- A class record without its instants. -/
def timelessRec (r : FaultRec) : FaultRec := { r with tsNs := 0, tsEl := 0, endNs := 0 }

/-- The state without its instants and the free values used: what the collector's levels look at. -/
def State.timeless (s : State) : State :=
  { s with time := 0, elapsed := 0, free := 0, flt := { s.flt with recs := s.flt.recs.map (Prod.map id timelessRec) } }

theorem record_timeless (s : State) (c : Nat) : s.timeless.record c = timelessRec (s.record c) := tget_map (f := timelessRec) (d' := {}) (d := {}) rfl s.flt.recs c

theorem popEvent_timeless (s : State) : s.timeless.popEvent = s.popEvent.map (Prod.map id State.timeless) := by
  unfold State.popEvent
  dsimp only
  rw [Option.map_map]
  rfl

theorem rawLevel_timeless (s : State) (e : Event) : s.timeless.rawLevel e = s.rawLevel e := rfl

theorem escalates_timeless (s : State) (e : Event) : s.timeless.escalates e = s.escalates e := by
  unfold State.escalates
  rw [record_timeless, rawLevel_timeless]
  rfl

theorem fenceTarget_timeless (s : State) (e : Event) : s.timeless.fenceTarget e = s.fenceTarget e := rfl

theorem takenLevel_timeless (s : State) (e : Event) : s.timeless.takenLevel e = s.takenLevel e := by
  unfold State.takenLevel
  rw [escalates_timeless, rawLevel_timeless, fenceTarget_timeless]

/-- The record of an event's class after the event (R743, R744). -/
def recordAfter (s : State) (e : Event) (lvl : Nat) (esc : Bool) : FaultRec :=
  if (s.record (classCode e.cls)).used then
    { s.record (classCode e.cls) with
      level := max (s.record (classCode e.cls)).level lvl
      rep := satTo 255 ((s.record (classCode e.cls)).rep + 1)
      fenced := (s.record (classCode e.cls)).fenced || e.fencesAt lvl }
  else eventRec s e lvl esc

theorem updateRecord_eq (e : Event) (lvl : Nat) (esc : Bool) (s : State) :
    s.updateRecord e lvl esc = s.modFlt (fun f => { f with recs := tset {} f.recs (classCode e.cls) (recordAfter s e lvl esc) }) := rfl

theorem recordAfter_used (s : State) (e : Event) (lvl : Nat) (esc : Bool) : (recordAfter s e lvl esc).used = true := by
  unfold recordAfter
  split
  · next h => exact h
  · rfl

theorem recordAfter_timeless (s : State) (e : Event) (lvl : Nat) (esc : Bool) :
    recordAfter s.timeless e lvl esc = timelessRec (recordAfter s e lvl esc) := by
  unfold recordAfter
  rw [record_timeless]
  by_cases h : (s.record (classCode e.cls)).used = true
  · simp only [timelessRec, h, if_true]
  · simp only [timelessRec, h, Bool.false_eq_true, if_false, eventRec, State.nowNs, State.elNs, State.timeless, Nat.zero_div]

theorem ne_default_of_used {r : FaultRec} (h : r.used = true) : r ≠ {} := fun e => by
  rw [e] at h
  exact Bool.noConfusion h

theorem updateRecord_timeless (e : Event) (lvl : Nat) (esc : Bool) (s : State) :
    (s.updateRecord e lvl esc).timeless = s.timeless.updateRecord e lvl esc := by
  have hused := recordAfter_used s e lvl esc
  have hrecs := tset_map (f := timelessRec) (ne_default_of_used hused) (ne_default_of_used (r := timelessRec _) hused) s.flt.recs (classCode e.cls)
  rw [updateRecord_eq, updateRecord_eq, recordAfter_timeless]
  unfold State.timeless State.modFlt
  dsimp only
  rw [hrecs]

/-- Whether an event on its way will be taken at L3 or above does not depend on the instant. -/
theorem l3Coming_timeless (n : Nat) (s : State) : State.l3Coming n s.timeless = State.l3Coming n s := by
  induction n generalizing s with
  | zero => rfl
  | succ n ih =>
    unfold State.l3Coming
    rw [popEvent_timeless]
    cases s.popEvent with
    | none => rfl
    | some es =>
      obtain ⟨e, s1⟩ := es
      simp only [Option.map_some, Prod.map_apply, id_eq, takenLevel_timeless, escalates_timeless, ← updateRecord_timeless]
      rw [← apply_ite State.timeless, ih]

/-! ### The refusal codes at another instant of the cycle -/

section
variable {s : State} (time elapsed free : Nat)

theorem l3Standing_instant : ({ s with time, elapsed, free } : State).l3Standing = s.l3Standing := by
  have hcoming := (l3Coming_timeless s.flt.inbox.length { s with time, elapsed, free }).symm.trans (l3Coming_timeless s.flt.inbox.length s)
  unfold State.l3Standing
  rw [hcoming]
  rfl

variable (hsel : s.arm.selDone = true)
include hsel

/-- Once selection is done, a release counts from its start and not from the present (R642). -/
theorem inS_instant : ({ s with time, elapsed, free } : State).inS = s.inS := by
  funext i
  unfold State.inS
  dsimp only
  rw [if_pos hsel, if_pos hsel]
  rfl

theorem enoughSms_instant : ({ s with time, elapsed, free } : State).enoughSms = s.enoughSms := by
  unfold State.enoughSms State.selectable State.selectableSm
  rw [inS_instant time elapsed free hsel]
  rfl

theorem judgeReq_instant (r : ArmReq) : ({ s with time, elapsed, free } : State).judgeReq r = s.judgeReq r := by
  unfold State.judgeReq
  rw [enoughSms_instant time elapsed free hsel, l3Standing_instant time elapsed free]
  rfl

end

theorem judgeReq_le (s : State) (r : ArmReq) : s.judgeReq r ≤ 6 := by
  unfold State.judgeReq
  repeat' split
  all_goals omega

theorem judgeReq_barred {s : State} {r : ArmReq} (h : armTarget s.arm.mode r = none) : s.judgeReq r = 6 := by
  simp [State.judgeReq, h]

theorem armTarget_ne_debugHalt {m : ArmMode} {r : ArmReq} : armTarget m r ≠ some .debugHalt := by
  cases m <;> cases r <;> decide

/-! ### The arm takes a state -/

/-- That the arm and the memory are so says nothing of a register field. -/
theorem frame_armMem (arm : ArmSt) (mem : Memory) : Frame AnyKey (fun t => t.arm = arm ∧ t.mem = mem) := ⟨id, fun _ h => h⟩

section
variable {P : State → Prop} {s : State}

theorem Kept.lvlShow (h : Kept AnyKey P s) : Kept AnyKey P s.lvlShow := h.elseIf fun h => h.putAll fun _ _ => trivial
theorem Kept.leaveOff (h : Kept AnyKey P s) : Kept AnyKey P s.leaveOff := h.foldl Kept.post

end

theorem setArmMode_arm (m : ArmMode) (s : State) :
    ∃ first, (s.setArmMode m).arm = { s.arm with mode := m, loopFirst := first } ∧ (s.setArmMode m).mem = s.mem := by
  unfold State.setArmMode
  extract_lets off _ s1
  have h1 : Kept AnyKey (fun t => t.arm = { s.arm with mode := m, loopFirst := s.arm.loopFirst || off } ∧ t.mem = s.mem) s1 :=
    Kept.lvlShow ⟨frame_armMem _ _, rfl, rfl⟩
  exact ⟨s.arm.loopFirst || off, (h1.thenIf Kept.leaveOff).holds⟩

theorem armRefuse_arm (code : Nat) (s : State) : (s.armRefuse code).arm = s.arm ∧ (s.armRefuse code).mem = s.mem :=
  have h : Kept AnyKey (fun t => t.arm = s.arm ∧ t.mem = s.mem) s := ⟨frame_armMem _ _, rfl, rfl⟩
  (h.put.raise.config (addr := R.ARM_ARM_CMD_GO_OFF.addr)).holds

/-- A refusal shows its code and REFUSED (R53). -/
theorem armRefuse_shows {s : State} (hk : keysRise none s.regs = true) {code : Nat} (hc : code < 16) :
    (s.armRefuse code).get R.ARM_ARM_STATE_REFUSE = code ∧ (s.armRefuse code).get R.ARM_CYC_STAT_REFUSED = 1 := by
  have hcode : ((s.put R.ARM_ARM_STATE_REFUSE code).raise R.ARM_CYC_STAT_REFUSED).get R.ARM_ARM_STATE_REFUSE = code := by
    rw [get_raise_other (by decide) (by decide), get_put_same hk]
    exact Nat.mod_eq_of_lt hc
  exact ⟨hcode, get_raise_same (by decide) (by decide) rfl _⟩

/-! ### The rest of the commit: the window of the next cycle -/

/-- Every key but those of ARM_STATE.REFUSE and CYC_STAT.REFUSED. -/
def BesideRefusal (k : Nat) : Prop := k ≠ R.ARM_ARM_STATE_REFUSE.key ∧ k ≠ R.ARM_CYC_STAT_REFUSED.key

/-- `Judged u t`: in `t`, made from `u`, the arm, the memory and what shows a refusal are what they were. -/
structure Judged (u t : State) : Prop where
  arm : t.arm = u.arm
  mem : t.mem = u.mem
  code : t.get R.ARM_ARM_STATE_REFUSE = u.get R.ARM_ARM_STATE_REFUSE
  refused : t.get R.ARM_CYC_STAT_REFUSED = u.get R.ARM_CYC_STAT_REFUSED

theorem frame_judged (u : State) : Frame BesideRefusal (Judged u) where
  update h := ⟨h.arm, h.mem, h.code, h.refused⟩
  put hw h := ⟨h.arm, h.mem, (get_put_other hw.1.symm _ _).trans h.code, (get_put_other hw.2.symm _ _).trans h.refused⟩

theorem besideRefusal_encoder (k : Nat) (hk : k / 0x20000 = 0x72) : BesideRefusal k := by
  have hr : R.ARM_ARM_STATE_REFUSE.key / 0x20000 = 0x71 ∧ R.ARM_CYC_STAT_REFUSED.key / 0x20000 = 0x71 := by decide
  constructor <;> rintro rfl <;> omega

theorem besideRefusal_edges (e : Nat) : BesideRefusal (R.RANK_EDGE_OFS e).key ∧ BesideRefusal (R.RANK_EDGE_N_AFTER e).key := by
  have hr : R.ARM_ARM_STATE_REFUSE.key % 32 = 4 ∧ R.ARM_CYC_STAT_REFUSED.key % 32 = 3 := by decide
  have he : (R.RANK_EDGE_OFS e).key % 32 = 0 ∧ (R.RANK_EDGE_N_AFTER e).key % 32 = 16 := by
    simp only [R.RANK_EDGE_OFS, R.RANK_EDGE_N_AFTER, Field.key]
    omega
  refine ⟨⟨?_, ?_⟩, ⟨?_, ?_⟩⟩ <;> intro h <;> rw [h] at he <;> omega

section
variable {P : State → Prop} {s : State}

theorem Kept.showPlan {p : Option Plan} (h : Kept BesideRefusal P s) : Kept BesideRefusal P (s.showPlan p) := by
  refine (((h.forAll fun {e x} hx => ?_).put ⟨by decide, by decide⟩).put ⟨by decide, by decide⟩).put ⟨by decide, by decide⟩
  have hw := besideRefusal_edges e
  split
  · exact (hx.put hw.1).put hw.2
  · exact (hx.put hw.1).put hw.2

theorem Kept.recordSlack (h : Kept BesideRefusal P s) : Kept BesideRefusal P s.recordSlack := by
  unfold State.recordSlack
  split
  · exact h
  · exact (h.put ⟨by decide, by decide⟩).update

end

/-- What follows the judgement at a commit: the plan shown, the window encoded and the slack recorded. -/
theorem commitEffect_eq {s : State} (hup : s.up 5 = true) (hsel : s.arm.selDone = true) (hcom : s.arm.committed = false) (hpas : s.passive = false) :
    ∃ plan win cyc amber t, t = ((s.commitPoint.judgePending.leaveHalt.showPlan plan).encode plan win).recordSlack
      ∧ commitEffect s = { t with arm := { t.arm with committed := true, planCyc := cyc }, amber } := by
  unfold commitEffect
  rw [if_pos (by simp [hup, hsel, hcom, hpas])]
  exact ⟨_, _, _, _, _, rfl, rfl⟩

/-- The rest of the commit leaves the arm as judged, but for its being committed. -/
theorem commitEffect_judged {s : State} (hup : s.up 5 = true) (hsel : s.arm.selDone = true) (hcom : s.arm.committed = false)
    (hpas : s.passive = false) :
    ∃ arm cyc, arm = { s.commitPoint.judgePending.leaveHalt.arm with committed := true, planCyc := cyc }
      ∧ (commitEffect s).arm = arm ∧ (commitEffect s).mem = s.commitPoint.judgePending.leaveHalt.mem
      ∧ (commitEffect s).get R.ARM_ARM_STATE_REFUSE = s.commitPoint.judgePending.leaveHalt.get R.ARM_ARM_STATE_REFUSE
      ∧ (commitEffect s).get R.ARM_CYC_STAT_REFUSED = s.commitPoint.judgePending.leaveHalt.get R.ARM_CYC_STAT_REFUSED := by
  obtain ⟨plan, win, cyc, amber, t, ht, heff⟩ := commitEffect_eq hup hsel hcom hpas
  generalize s.commitPoint.judgePending.leaveHalt = u at ht ⊢
  have h0 : Kept BesideRefusal (Judged u) u := ⟨frame_judged u, rfl, rfl, rfl, rfl⟩
  have hrest : Kept BesideRefusal (Judged u) t := ht ▸ (h0.showPlan.encode besideRefusal_encoder).recordSlack
  obtain ⟨harm, hmem, hcode, hflag⟩ := hrest.holds
  rw [heff]
  exact ⟨_, cyc, rfl, by rw [← harm], hmem, hcode, hflag⟩

theorem leaveHalt_running {s : State} (h : s.arm.mode ≠ .debugHalt) : s.leaveHalt = s := by
  simp [State.leaveHalt, h]

section
variable {s : State} {r : ArmReq} (hpend : s.arm.pend = some r) (hlate : s.arm.pendLate = false)
include hpend hlate

theorem judgePending_accepted {m : ArmMode} (hj : s.judgeReq r = 0) (ht : armTarget s.arm.mode r = some m) :
    s.judgePending.arm.mode = m ∧ s.judgePending.arm.pend = none ∧ s.judgePending.mem = s.mem := by
  have heff : s.judgePending = State.setArmMode m { s with arm := { s.arm with pend := none } } := by
    simp [State.judgePending, hpend, hlate, hj, ht]
  obtain ⟨first, harm, hmem⟩ := setArmMode_arm m { s with arm := { s.arm with pend := none } }
  rw [heff, harm]
  exact ⟨rfl, rfl, hmem⟩

theorem judgePending_refused (hk : keysRise none s.regs = true) (hj : s.judgeReq r ≠ 0) :
    s.judgePending.arm.mode = s.arm.mode ∧ s.judgePending.arm.pend = none ∧ s.judgePending.mem = s.mem
      ∧ s.judgePending.get R.ARM_ARM_STATE_REFUSE = s.judgeReq r ∧ s.judgePending.get R.ARM_CYC_STAT_REFUSED = 1 := by
  have heff : s.judgePending = State.armRefuse (s.judgeReq r) { s with arm := { s.arm with pend := none } } := by
    simp [State.judgePending, hpend, hlate, hj]
  have hcode : s.judgeReq r < 16 := Nat.lt_of_le_of_lt (judgeReq_le s r) (by decide)
  obtain ⟨harm, hmem⟩ := armRefuse_arm (s.judgeReq r) { s with arm := { s.arm with pend := none } }
  rw [heff, harm]
  exact ⟨rfl, rfl, hmem, armRefuse_shows (s := { s with arm := { s.arm with pend := none } }) hk hcode⟩

end

/-- Settles O21: the commit point judges as the present does (`judgeReq_instant`), and the rest of the commit leaves the verdict
(`commitEffect_judged`). -/
theorem commitJudgesTheCommand : Obligations.CommitJudgesTheCommand := by
  intro s r hserv hpas hsel hcom hpend hlate hhalt
  have hup : s.up 5 = true := inService_common hserv (by decide)
  have hk : keysRise none s.regs = true := inService_regsRise hserv
  have hjudge : s.commitPoint.judgeReq r = s.judgeReq r := judgeReq_instant _ _ _ hsel r
  obtain ⟨arm, cyc, harm, hout, hmem, hcode, hflag⟩ := commitEffect_judged hup hsel hcom hpas
  refine ⟨fun m hj ht => ⟨_, rfl, ?_⟩, fun hj => ⟨_, rfl, ?_⟩, judgeReq_barred⟩
  · have hm : m ≠ .debugHalt := fun e => armTarget_ne_debugHalt (e ▸ ht)
    obtain ⟨hmode, hnone, hkeep⟩ := judgePending_accepted (s := s.commitPoint) hpend hlate (hjudge.trans hj) ht
    rw [leaveHalt_running (by rw [hmode]; exact hm)] at harm hmem
    dsimp only
    rw [hout, hmem, harm]
    exact ⟨hmode, hnone, rfl, hkeep⟩
  · obtain ⟨hmode, hnone, hkeep, hshow, hset⟩ := judgePending_refused (s := s.commitPoint) hpend hlate hk (hjudge ▸ hj)
    rw [leaveHalt_running (by rw [hmode]; exact hhalt)] at harm hmem hcode hflag
    rw [hout, hmem, hcode, hflag, harm]
    exact ⟨hmode, hnone, rfl, hkeep, hshow.trans hjudge, hset⟩

end Sys2Proof.Machine
end

section
namespace Sys2Proof.Machine

/-! ## The shared operations beneath the record commands -/

section
variable {α : Type} [DecidableEq α]

theorem keysRise_tset {d : α} {t : Tab α} (h : keysRise none t = true) (k : Nat) (v : α) : keysRise none (tset d t k v) = true := by
  unfold tset
  split
  · exact keysRise_eraseKey h
  · exact keysRise_insertKey h (by simp)

end

section
variable {s : State}

theorem smRec_setRec_same (h : keysRise none s.rank.recs = true) (i : Nat) (r : SmRec) : (s.setRec i r).smRec i = r := tget_tset_same h i r

theorem smRec_setRec_other {i j : Nat} (h : j ≠ i) (r : SmRec) : (s.setRec i r).smRec j = s.smRec j := tget_tset_other h r

/-- A raised bit touches no record. -/
theorem smRec_raise (F : Field) (i : Nat) : (s.raise F).smRec i = s.smRec i := by
  simp [State.smRec]

theorem ring_setRing_same (h : keysRise none s.rings = true) (n : Nat) (r : RingSt) : (s.setRing n r).ring n = r := tget_tset_same h n r

/-- Where a list of fields takes a list of values, a field outside it keeps its own. -/
theorem get_putAll_zip_other {G : Field} {fs : List Field} (h : G.key ∉ fs.map Field.key) (ws : List Nat) :
    (s.putAll (fs.zip ws)).get G = s.get G := by
  induction fs generalizing s ws with
  | nil => rfl
  | cons F t ih =>
    obtain ⟨hne, ht⟩ := not_or.mp (mt List.mem_cons.mpr h)
    cases ws with
    | nil => rfl
    | cons v ws => exact (ih ht ws).trans (get_put_other hne v s)

/-- Where a list of different fields takes a list of values, each field shows its own. -/
theorem get_putAll_zip_mem (hk : keysRise none s.regs = true) {fs : List Field} (hd : (fs.map Field.key).Nodup) {ws : List Nat} {F : Field}
    {v : Nat} (h : (F, v) ∈ fs.zip ws) : (s.putAll (fs.zip ws)).get F = v % 2 ^ F.w := by
  induction fs generalizing s ws with
  | nil => cases h
  | cons G t ih =>
    obtain ⟨hnew, hd⟩ := List.nodup_cons.mp hd
    cases ws with
    | nil => cases h
    | cons w ws =>
      obtain he | h := List.mem_cons.mp h
      · cases he
        exact (get_putAll_zip_other hnew ws).trans (get_put_same hk F v)
      · exact ih (regs_put_rise hk G w) hd h

end

/-- A write with an action of its own to a page of the rank engine or of the command encoder, whose glade runs in service. -/
theorem commandedFrom_enginePage {s : State} (h : s.inService = true) {addr : Nat} (ha : addr / 0x1000 = 0x70 ∨ addr / 0x1000 = 0x72) (a : Nat)
    (f : State → State) : s.commandedFrom a addr f = f s := by
  have hpage : pageGlade addr = some 5 := by rcases ha with ha | ha <;> simp [pageGlade, ha]
  have hpres : pageAbsent s.variant addr = false := by rcases ha with ha | ha <;> simp [pageAbsent, ha]
  exact commandedFrom_inService h hpage (inService_common h (by decide)) hpres a f

end Sys2Proof.Machine
end

section
namespace Sys2Proof.Machine

/-! ## Record ages (R83) and stress-key saves (R102) -/

section
variable {s : State} (hup : s.up 5 = true)
include hup

/-! ### A record that comes to the age limit -/

section
variable {i : Nat} (hpres : (s.smRec i).present = true) (hlim : s.get R.RANK_OBS_LIMIT ≤ (s.smRec i).age)
include hpres hlim

theorem ageLimitEffect_known (hc : (s.smRec i).rcnt = 2) :
    ageLimitEffect i s = ((s.setRec i { s.smRec i with rcnt := 0 }).addTo R.RANK_CNT_EVT_UNK_REV 1).raise R.RANK_STAT_UNK_REVERT := by
  simp [ageLimitEffect, hup, hpres, hlim, hc]

theorem ageLimitEffect_unknown (hc : (s.smRec i).rcnt ≠ 2) : ageLimitEffect i s = s.setRec i { s.smRec i with rcnt := 0 } := by
  simp [ageLimitEffect, hup, hpres, hlim, hc]

/-- Known or not, the record alone is replaced. -/
theorem ageLimitEffect_frame : (∀ j, (ageLimitEffect i s).smRec j = (s.setRec i { s.smRec i with rcnt := 0 }).smRec j)
    ∧ (ageLimitEffect i s).mem = s.mem := by
  by_cases hc : (s.smRec i).rcnt = 2
  · rw [ageLimitEffect_known hup hpres hlim hc]
    exact ⟨fun j => smRec_raise _ j, State.raise_mem _ _⟩
  · rw [ageLimitEffect_unknown hup hpres hlim hc]
    exact ⟨fun j => rfl, rfl⟩

theorem ageLimitEffect_counts (hk : keysRise none s.regs = true) (hc : (s.smRec i).rcnt = 2) :
    (ageLimitEffect i s).get R.RANK_STAT_UNK_REVERT = 1
      ∧ (ageLimitEffect i s).get R.RANK_CNT_EVT_UNK_REV = (s.get R.RANK_CNT_EVT_UNK_REV + 1) % 2 ^ R.RANK_CNT_EVT_UNK_REV.w := by
  rw [ageLimitEffect_known hup hpres hlim hc]
  refine ⟨get_raise_same (by decide) (by decide) rfl _, ?_⟩
  rw [get_raise_other (by decide) (by decide)]
  exact get_put_same hk _ _

end

/-! ### A save of the stress keys -/

/-- The writes that save the keys of a ring's sub-modules: of each one present, word 128. -/
def State.keyWrites (s : State) (n : Nat) : List (Nat × Nat) :=
  ((List.range 16).filter (fun k => (s.smRec (16 * n + k)).present)).map (fun k => (k, keyWord (s.smRec (16 * n + k)).key))

/-- One ring is given its writes. -/
def giveKeys (n : Nat) (a : State) : State := a.setRing n { a.ring n with svcKeys := a.keyWrites n }

omit hup in
/-- The rings of a list are given their writes, the others keep what they have. -/
theorem forAll_giveKeys (h : keysRise none s.rings = true) (l : List Nat) : ∃ rings, forAll l giveKeys s = { s with rings }
    ∧ ∀ n, tget {} rings n = if n ∈ l then { s.ring n with svcKeys := s.keyWrites n } else s.ring n := by
  induction l generalizing s with
  | nil => exact ⟨s.rings, rfl, fun n => rfl⟩
  | cons m t ih =>
    obtain ⟨rings, hshape, hrings⟩ := ih (s := giveKeys m s) (keysRise_tset h _ _)
    refine ⟨rings, hshape, fun n => (hrings n).trans ?_⟩
    have hwrites : (giveKeys m s).keyWrites n = s.keyWrites n := rfl
    rw [hwrites]
    by_cases hnm : n = m
    · subst hnm
      have hown : (giveKeys n s).ring n = { s.ring n with svcKeys := s.keyWrites n } := ring_setRing_same h n _
      simp [hown]
    · have hkept : (giveKeys m s).ring n = s.ring n := ring_setRing_other hnm _ s
      simp [hkept, hnm]

omit hup in
theorem keySaveEffect_busy (hbusy : s.on R.RANK_STATUS_KEY_BUSY = true) : keySaveEffect s = s := by
  simp [keySaveEffect, hbusy]

theorem keySaveEffect_starts (hbusy : s.on R.RANK_STATUS_KEY_BUSY = false) (h : keysRise none s.rings = true) :
    ∃ rings, keySaveEffect s = State.put R.RANK_STATUS_KEY_BUSY 1 { s with rings, rank := { s.rank with keySave := s.admittedRings } }
      ∧ ∀ n, tget {} rings n = if n ∈ s.admittedRings then { s.ring n with svcKeys := s.keyWrites n } else s.ring n := by
  obtain ⟨rings, hshape, hrings⟩ := forAll_giveKeys h s.admittedRings
  have heff : keySaveEffect s = State.put R.RANK_STATUS_KEY_BUSY 1 { forAll s.admittedRings giveKeys s with
      rank := { (forAll s.admittedRings giveKeys s).rank with keySave := s.admittedRings } } := by
    unfold keySaveEffect
    rw [hup, hbusy]
    rfl
  exact ⟨rings, by rw [heff, hshape], hrings⟩

theorem keySaveDoneEffect_ends (hbusy : s.on R.RANK_STATUS_KEY_BUSY = true) (hout : s.rank.keySave.all (fun n => (s.ring n).keysOut) = true) :
    keySaveDoneEffect s = (State.put R.RANK_STATUS_KEY_BUSY 0 { s with rank := { s.rank with keySave := [] } }).raise R.RANK_STAT_KEY_DONE := by
  unfold keySaveDoneEffect
  rw [hup, hbusy, hout]
  rfl

theorem keySaveDoneEffect_shows (hk : keysRise none s.regs = true) (hbusy : s.on R.RANK_STATUS_KEY_BUSY = true)
    (hout : s.rank.keySave.all (fun n => (s.ring n).keysOut) = true) :
    (keySaveDoneEffect s).get R.RANK_STATUS_KEY_BUSY = 0 ∧ (keySaveDoneEffect s).get R.RANK_STAT_KEY_DONE = 1
      ∧ (keySaveDoneEffect s).mem = s.mem ∧ (keySaveDoneEffect s).rings = s.rings := by
  rw [keySaveDoneEffect_ends hup hbusy hout]
  refine ⟨?_, get_raise_same (by decide) (by decide) rfl _, by simp, by simp⟩
  rw [get_raise_other (by decide) (by decide)]
  exact get_put_same (s := { s with rank := _ }) hk _ 0

end

end Sys2Proof.Machine
end

section
namespace Sys2Proof.Machine

/-! ## Latched records (R144 to R148) and hold states (R197) -/

theorem bits_index (v : Nat) : bits v 0 11 = v % 2 ^ 11 := by simp [bits]

/-- The fields of SM_REC0 to SM_REC3, in the order in which a record is latched. -/
def recFields : List Field :=
  [R.RANK_SM_REC0_V_EST, R.RANK_SM_REC0_V_REP, R.RANK_SM_REC1_KEY, R.RANK_SM_REC2_TJ, R.RANK_SM_REC2_DWELL, R.RANK_SM_REC2_AGE,
    R.RANK_SM_REC3_BIN, R.RANK_SM_REC3_TYPE, R.RANK_SM_REC3_RCNT, R.RANK_SM_REC3_STATE, R.RANK_SM_REC3_GROUP, R.RANK_SM_REC3_HELD,
    R.RANK_SM_REC3_INS, R.RANK_SM_REC3_SEL]

/-- What the fields of an absent sub-module take: STATE 7 and zeros. -/
def absentWords : List Nat := [0, 0, 0, 0, 0, 0, 0, 0, 0, 7, 0, 0, 0, 0]

/-- What the fields take of the record of a present slot. -/
def State.latchedWords (s : State) (i : Nat) : List Nat :=
  let r := s.smRec i
  [r.vFix / 256, r.vRep, r.key, r.tj, if r.present then r.dwell else 0, r.age, s.binOf i, if !r.present then 0 else if r.full then 2 else 1,
    r.rcnt, s.smStateCode i, r.group, b2n (s.prot i).held, b2n (decide (r.ins ≠ 0)), b2n r.sel]

section
variable {s : State}

/-- The slots of a ring are not among the fields that SM_IDX holds. -/
theorem slotPresent_putIdx (v i : Nat) : (s.put R.RANK_SM_IDX_IDX v).slotPresent i = s.slotPresent i := by
  have hkey : (R.RING_SLOTS_PRESENT (i / 16)).key ≠ R.RANK_SM_IDX_IDX.key := by
    simp only [Field.key, R.RING_SLOTS_PRESENT, R.RANK_SM_IDX_IDX]
    omega
  unfold State.slotPresent
  rw [get_put_other hkey]
  rfl

/-- SM_IDX takes the index, and the fields of the record their words. -/
theorem latchRec_eq (s : State) (i : Nat) : s.latchRec i = (s.put R.RANK_SM_IDX_IDX i).putAll
    (recFields.zip (if s.slotPresent i then (s.put R.RANK_SM_IDX_IDX i).latchedWords i else absentWords)) := by
  unfold State.latchRec
  extract_lets u
  have hslot : u.slotPresent i = s.slotPresent i := slotPresent_putIdx i i
  rw [hslot]
  cases s.slotPresent i <;> rfl

variable (hk : keysRise none s.regs = true)
include hk

theorem latchRec_idx (i : Nat) : (s.latchRec i).get R.RANK_SM_IDX_IDX = i % 2 ^ 11 := by
  rw [latchRec_eq, get_putAll_zip_other (by decide)]
  exact get_put_same hk _ i

theorem latchRec_absent {i : Nat} (h : s.slotPresent i = false) {F : Field} {v : Nat} (hF : (F, v) ∈ recFields.zip absentWords) :
    (s.latchRec i).get F = v % 2 ^ F.w := by
  rw [latchRec_eq, h]
  exact get_putAll_zip_mem (regs_put_rise hk _ _) (by decide) hF

theorem latchRec_present {i : Nat} (h : s.slotPresent i = true) {F : Field} {v : Nat}
    (hF : (F, v) ∈ recFields.zip ((s.put R.RANK_SM_IDX_IDX i).latchedWords i)) : (s.latchRec i).get F = v % 2 ^ F.w := by
  rw [latchRec_eq, h]
  exact get_putAll_zip_mem (regs_put_rise hk _ _) (by decide) hF

/-- An absent sub-module shows STATE 7 and zeros (R148). -/
theorem latchRec_absent_shows {i : Nat} (h : s.slotPresent i = false) :
    (s.latchRec i).get R.RANK_SM_REC3_STATE = 7 ∧ (s.latchRec i).get R.RANK_SM_REC1_KEY = 0 ∧ (s.latchRec i).get R.RANK_SM_REC0_V_EST = 0
      ∧ (s.latchRec i).get R.RANK_SM_REC3_HELD = 0 :=
  ⟨latchRec_absent hk h (v := 7) (by decide), latchRec_absent hk h (v := 0) (by decide), latchRec_absent hk h (v := 0) (by decide),
    latchRec_absent hk h (v := 0) (by decide)⟩

omit hk in
/-- A record is latched into registers alone. -/
theorem latchRec_frame (i : Nat) : (s.latchRec i).rank = s.rank ∧ (s.latchRec i).mem = s.mem ∧ (s.latchRec i).flt = s.flt := by
  rw [latchRec_eq]
  simp

/-- What the record of a present sub-module shows. -/
theorem latchRec_shows {i : Nat} (h : s.slotPresent i = true) (hpres : (s.smRec i).present = true) :
    (s.latchRec i).get R.RANK_SM_REC0_V_EST = (s.smRec i).vFix / 256 % 2 ^ R.RANK_SM_REC0_V_EST.w
      ∧ (s.latchRec i).get R.RANK_SM_REC1_KEY = (s.smRec i).key % 2 ^ R.RANK_SM_REC1_KEY.w
      ∧ (s.latchRec i).get R.RANK_SM_REC3_TYPE = if (s.smRec i).full then 2 else 1 := by
  have hrec : (s.put R.RANK_SM_IDX_IDX i).smRec i = s.smRec i := rfl
  refine ⟨latchRec_present hk h (by simp [recFields, State.latchedWords, hrec]),
    latchRec_present hk h (by simp [recFields, State.latchedWords, hrec]), ?_⟩
  refine (latchRec_present hk h (v := if (s.smRec i).full then 2 else 1) (by simp [recFields, State.latchedWords, hrec, hpres])).trans ?_
  split <;> rfl

end

theorem smIdxEffect_eq {s : State} (hup : s.up 5 = true) (v : Nat) : smIdxEffect v s = s.latchRec (v % 2 ^ 11) := by
  unfold smIdxEffect
  rw [if_pos hup, bits_index]

/-! ### Hold states -/

/-- The fields of HOLD_INFO, in the order in which a hold state is latched. -/
def holdInfoFields : List Field :=
  [R.CMDENC_HOLD_INFO_IDX, R.CMDENC_HOLD_INFO_FBP, R.CMDENC_HOLD_INFO_FIRE_PEND, R.CMDENC_HOLD_INFO_FW, R.CMDENC_HOLD_INFO_BLK,
    R.CMDENC_HOLD_INFO_LEAK_SW, R.CMDENC_HOLD_INFO_UV_SW, R.CMDENC_HOLD_INFO_DESAT_SW]

/-- What they take of the hold state of a sub-module. -/
def State.holdWords (s : State) (i : Nat) : List Nat :=
  let p := s.prot i
  [i, b2n p.fbp, b2n p.fire, b2n p.fw, b2n (p.held && heldBlock (s.smRec i).full (s.on R.CMDENC_CTRL_FB_BYP) p), p.leak, p.uv, p.desat]

theorem b2n_lt (b : Bool) : b2n b < 2 := by cases b <;> decide

section
variable {s : State} (hup : s.up 5 = true)
include hup

theorem holdInfoEffect_eq (v : Nat) : holdInfoEffect v s = s.putAll (holdInfoFields.zip (s.holdWords (v % 2 ^ 11))) := by
  unfold holdInfoEffect
  rw [hup, bits_index]
  rfl

theorem holdInfoEffect_frame (v : Nat) : (holdInfoEffect v s).enc = s.enc ∧ (holdInfoEffect v s).mem = s.mem := by
  rw [holdInfoEffect_eq hup]
  simp

theorem holdInfoEffect_holds (hk : keysRise none s.regs = true) (v : Nat) {F : Field} {w : Nat}
    (hF : (F, w) ∈ holdInfoFields.zip (s.holdWords (v % 2 ^ 11))) : (holdInfoEffect v s).get F = w % 2 ^ F.w := by
  rw [holdInfoEffect_eq hup]
  exact get_putAll_zip_mem hk (by decide) hF

/-- What the hold state of the named index shows. -/
theorem holdInfoEffect_shows (hk : keysRise none s.regs = true) (v : Nat) :
    (holdInfoEffect v s).get R.CMDENC_HOLD_INFO_IDX = v % 2 ^ 11
      ∧ (holdInfoEffect v s).get R.CMDENC_HOLD_INFO_FW = b2n (s.prot (v % 2 ^ 11)).fw
      ∧ (holdInfoEffect v s).get R.CMDENC_HOLD_INFO_FBP = b2n (s.prot (v % 2 ^ 11)).fbp
      ∧ (holdInfoEffect v s).get R.CMDENC_HOLD_INFO_DESAT_SW = (s.prot (v % 2 ^ 11)).desat % 2 ^ R.CMDENC_HOLD_INFO_DESAT_SW.w := by
  have holds {F : Field} {w : Nat} := holdInfoEffect_holds hup hk v (F := F) (w := w)
  refine ⟨?_, ?_, ?_, holds (by simp [holdInfoFields, State.holdWords])⟩
  · exact (holds (w := v % 2 ^ 11) (by simp [holdInfoFields, State.holdWords])).trans (Nat.mod_mod v _)
  · exact (holds (by simp [holdInfoFields, State.holdWords])).trans (Nat.mod_eq_of_lt (b2n_lt _))
  · exact (holds (by simp [holdInfoFields, State.holdWords])).trans (Nat.mod_eq_of_lt (b2n_lt _))

end

end Sys2Proof.Machine
end

section
namespace Sys2Proof.Machine

/-! ## Direct commands (R158, R159) -/

/-- The word that a host writes to DCMD. -/
def dcmdWord (i sw ofs : Nat) : Nat := i + 2 ^ 12 * sw + 2 ^ 16 * ofs

/-- The direct command that the host's word gives. -/
def hostDcmd (s : State) (i sw ofs : Nat) : Dcmd := { idx := i, sw := sw, ofs := ofs, src := 2, task := 0, at_ := s.elapsed }

/-- The fields of DCMD with the word written. -/
def State.showDcmd (i sw ofs : Nat) (s : State) : State := s.putAll ([R.CMDENC_DCMD_IDX, R.CMDENC_DCMD_SW, R.CMDENC_DCMD_OFS].zip [i, sw, ofs])

section
variable {s : State} {i sw ofs : Nat}

theorem bits_dcmdWord (hi : i < 2 ^ 11) (hsw : sw < 16) (hofs : ofs < 2 ^ 13) :
    bits (dcmdWord i sw ofs) 0 11 = i ∧ bits (dcmdWord i sw ofs) 12 4 = sw ∧ bits (dcmdWord i sw ofs) 16 13 = ofs := by
  simp only [bits, dcmdWord]
  omega

theorem get_showDcmd {G : Field} (h : G.key ∉ [R.CMDENC_DCMD_IDX, R.CMDENC_DCMD_SW, R.CMDENC_DCMD_OFS].map Field.key) :
    (s.showDcmd i sw ofs).get G = s.get G :=
  get_putAll_zip_other h _

/-- The fields of DCMD take no part in whether a command passes. -/
theorem dcmdPasses_showDcmd (d : Dcmd) : (s.showDcmd i sw ofs).dcmdPasses d = s.dcmdPasses d := by
  have hblk : (s.showDcmd i sw ofs).blockAll = s.blockAll := by
    unfold State.blockAll State.on
    rw [get_showDcmd (by decide)]
    rfl
  unfold State.dcmdPasses State.on
  rw [hblk, get_showDcmd (by decide)]
  rfl

/-- The host's command passes where its sub-module is held and free, frames carry no BLOCK and the host may send. -/
theorem dcmdPasses_hostDcmd (hfire : (s.prot i).fire = false) (hfbp : (s.prot i).fbp = false) (hblk : s.blockAll = false)
    (hhost : s.on R.CMDENC_CTRL_HOST_DCMD = true) : s.dcmdPasses (hostDcmd s i sw ofs) = (s.prot i).held := by
  simp [State.dcmdPasses, hostDcmd, hfire, hfbp, hblk, hhost]

theorem dcmdPasses_unheld {d : Dcmd} (h : (s.prot d.idx).held = false) : s.dcmdPasses d = false := by
  simp [State.dcmdPasses, h]

variable (hi : i < 2 ^ 11) (hsw : sw < 16) (hofs : ofs < 2 ^ 13)
include hi hsw hofs

/-- A command that passes, inside the window and with none waiting, is queued. -/
theorem postDcmd_queued (hnone : s.enc.dcmds = []) (hpass : s.dcmdPasses (hostDcmd s i sw ofs) = true) (hwin : ofs < s.get R.ARM_CYC_LEN_LEN) :
    s.postDcmd .host (dcmdWord i sw ofs) =
      State.put R.CMDENC_DCMD_STAT_FILL 1 { s.showDcmd i sw ofs with enc := { s.enc with dcmds := [hostDcmd s i sw ofs] } } := by
  obtain ⟨hbi, hbsw, hbofs⟩ := bits_dcmdWord hi hsw hofs
  have hlen : (s.showDcmd i sw ofs).get R.ARM_CYC_LEN_LEN = s.get R.ARM_CYC_LEN_LEN := get_showDcmd (by decide)
  unfold State.postDcmd
  rw [hbi, hbsw, hbofs]
  extract_lets d s1 ok
  have hs1 : s1.enc.dcmds = [] := hnone
  have hok : ok = true := by
    have hp : s1.dcmdPasses d = true := (dcmdPasses_showDcmd d).trans hpass
    have hw : d.ofs < s1.get R.ARM_CYC_LEN_LEN := lt_of_lt_of_eq hwin hlen.symm
    simp [ok, hp, hw, hs1]
  rw [if_pos hok, hs1]
  rfl

/-- A command that does not pass is counted and flagged (R159). -/
theorem postDcmd_dropped (hpass : s.dcmdPasses (hostDcmd s i sw ofs) = false) :
    s.postDcmd .host (dcmdWord i sw ofs) = ((s.showDcmd i sw ofs).addTo R.CMDENC_DCMD_STAT_DROP 1).raise R.CMDENC_STAT_DCMD_DROP := by
  obtain ⟨hbi, hbsw, hbofs⟩ := bits_dcmdWord hi hsw hofs
  unfold State.postDcmd
  rw [hbi, hbsw, hbofs]
  extract_lets d s1 ok
  have hok : ok = false := by
    have hp : s1.dcmdPasses d = false := (dcmdPasses_showDcmd d).trans hpass
    simp [ok, hp]
  rw [hok]
  rfl

/-- What a dropped command shows. -/
theorem postDcmd_drop_shows (hk : keysRise none s.regs = true) (hpass : s.dcmdPasses (hostDcmd s i sw ofs) = false) {t : State}
    (ht : t = s.postDcmd .host (dcmdWord i sw ofs)) :
    t.enc = s.enc ∧ t.get R.CMDENC_STAT_DCMD_DROP = 1 ∧ t.mem = s.mem
      ∧ t.get R.CMDENC_DCMD_STAT_DROP = (s.get R.CMDENC_DCMD_STAT_DROP + 1) % 2 ^ R.CMDENC_DCMD_STAT_DROP.w := by
  have hrise : keysRise none (s.showDcmd i sw ofs).regs = true := regs_put_rise (regs_put_rise (regs_put_rise hk _ _) _ _) _ _
  rw [ht, postDcmd_dropped hi hsw hofs hpass]
  refine ⟨by simp [State.showDcmd], get_raise_same (by decide) (by decide) rfl _, by simp [State.showDcmd], ?_⟩
  rw [get_raise_other (by decide) (by decide), State.addTo, get_put_same hrise, get_showDcmd (by decide)]

end

end Sys2Proof.Machine
end

section
namespace Sys2Proof.Machine

/-! ## The statement -/

/-- Settles O29: each command as its effect shows it (`ageLimitEffect_counts`, `keySaveEffect_starts`, `latchRec_shows` and their like);
a write to a page of the engine reaches its effect (`commandedFrom_enginePage`). -/
theorem recordsAndDirectCommands : Obligations.RecordsAndDirectCommands := by
  intro s h hrecs
  have hup : s.up 5 = true := inService_common h (by decide)
  have hk : keysRise none s.regs = true := inService_regsRise h
  have taken {addr : Nat} (ha : addr / 0x1000 = 0x70 ∨ addr / 0x1000 = 0x72) (f : State → State) :
      Host.Outcome.next (φ := Fault) (ρ := Refusal) (s.commandedFrom 0 addr f) = .next (f s) := by rw [commandedFrom_enginePage h ha]
  refine ⟨fun i hpres hlim => ⟨_, rfl, ?_⟩, fun hbusy hrings => ⟨_, taken (by decide) _, ?_⟩, fun hbusy => ⟨?_, fun hout => ⟨_, rfl, ?_⟩⟩,
    fun v => ⟨_, taken (by decide) _, ?_⟩, fun v => ⟨_, taken (by decide) _, ?_⟩, fun i sw ofs hi hsw hofs hnone =>
    ⟨fun hheld hfire hfbp hblk hhost hwin => ⟨_, taken (by decide) _, ?_⟩, fun hheld => ⟨_, taken (by decide) _, ?_⟩⟩⟩
  · obtain ⟨hrec, hmem⟩ := ageLimitEffect_frame hup hpres hlim
    exact ⟨(hrec i).trans (smRec_setRec_same hrecs i _), fun j hj => (hrec j).trans (smRec_setRec_other hj _), hmem,
      ageLimitEffect_counts hup hpres hlim hk, fun hc => by rw [ageLimitEffect_unknown hup hpres hlim hc]; rfl⟩
  · obtain ⟨rings, heff, hring⟩ := keySaveEffect_starts hup hbusy hrings
    rw [heff]
    exact ⟨get_put_value (by decide), rfl, rfl, fun n hn => congrArg RingSt.svcKeys ((hring n).trans (if_pos hn)),
      fun n hn => (hring n).trans (if_neg hn)⟩
  · exact (taken (by decide) _).trans (congrArg _ (keySaveEffect_busy hbusy))
  · exact keySaveDoneEffect_shows hup hk hbusy hout
  · rw [smIdxEffect_eq hup]
    obtain ⟨hrank, hmem, hflt⟩ := latchRec_frame (s := s) (v % 2 ^ 11)
    exact ⟨(latchRec_idx hk _).trans (Nat.mod_mod v _), hrank, hmem, hflt, latchRec_absent_shows hk,
      fun hpres hslot => latchRec_shows hk hslot hpres⟩
  · obtain ⟨henc, hmem⟩ := holdInfoEffect_frame hup v
    exact ⟨henc, hmem, holdInfoEffect_shows hup hk v⟩
  · have hpass := (dcmdPasses_hostDcmd (sw := sw) (ofs := ofs) hfire hfbp hblk hhost).trans hheld
    have heff : dcmdPostEffect .host (i + 2 ^ 12 * sw + 2 ^ 16 * ofs) s = _ := (if_pos hup).trans (postDcmd_queued hi hsw hofs hnone hpass hwin)
    rw [heff]
    exact ⟨rfl, get_put_value (by decide), rfl⟩
  · exact postDcmd_drop_shows hi hsw hofs hk (dcmdPasses_unheld hheld) (if_pos hup)

end Sys2Proof.Machine
end

section
namespace Sys2Proof.Machine

/-! ## What the protection operations leave alone (R168, R173, R902) -/

section
variable {s t u : State} {l m : List Field}

theorem RegsKeptBut.refl (l : List Field) (s : State) : RegsKeptBut l s s := fun _ _ => rfl

theorem RegsKeptBut.trans (h : RegsKeptBut l s t) (h' : RegsKeptBut m t u) : RegsKeptBut (l ++ m) s u := fun G hG =>
  (h' G fun F hF => hG F (List.mem_append_right l hF)).trans (h G fun F hF => hG F (List.mem_append_left m hF))

/-- The fields that the two conditions on the holds may write. -/
def holdConds : List Field := [R.CMDENC_STAT_UV, R.CMDENC_STAT_HOLD_BLK, R.CMDENC_IRQ_STAT_PEND]

theorem regsKeptBut_protConds (s : State) : RegsKeptBut holdConds s s.protConds := fun G hG =>
  have huv : G.key ≠ R.CMDENC_STAT_UV.key := hG _ (by simp [holdConds])
  have hblk : G.key ≠ R.CMDENC_STAT_HOLD_BLK.key := hG _ (by simp [holdConds])
  have hirq : G.key ≠ R.CMDENC_IRQ_STAT_PEND.key := hG _ (by simp [holdConds])
  (((FieldKept.refl (F := G) s).kept.cond ⟨huv.symm, hirq.symm⟩).cond ⟨hblk.symm, hirq.symm⟩).holds.value

@[simp] theorem protConds_frame (s : State) : s.protConds.enc = s.enc ∧ s.protConds.rank = s.rank ∧ s.protConds.arm = s.arm
    ∧ s.protConds.mem = s.mem ∧ s.protConds.flt = s.flt ∧ s.protConds.elapsed = s.elapsed := by
  simp [State.protConds]

theorem prot_setProt_same (h : keysRise none s.enc.prot = true) (i : Nat) (p : SmProt) : (s.setProt i p).prot i = p := tget_tset_same h i p

theorem prot_setProt_other {i j : Nat} (h : j ≠ i) (p : SmProt) : (s.setProt i p).prot j = s.prot j := tget_tset_other h p

theorem prot_congr (h : t.enc = s.enc) (i : Nat) : t.prot i = s.prot i := by unfold State.prot; rw [h]

end

/-! ### One sub-module's protection state replaced -/

/-- Sub-module `i` takes the protection state `p`; beside it no more than the fields of `l` change. -/
structure TakesProt (l : List Field) (i : Nat) (p : SmProt) (s t : State) : Prop where
  own : t.prot i = p
  others : ∀ j, j ≠ i → t.prot j = s.prot j
  mem : t.mem = s.mem
  arm : t.arm = s.arm
  rank : t.rank = s.rank
  flt : t.flt = s.flt
  fields : RegsKeptBut l s t

section
variable {l : List Field} {i : Nat} {p : SmProt} {s t : State}

theorem takesProt_setProt (h : keysRise none s.enc.prot = true) (i : Nat) (p : SmProt) : TakesProt [] i p s (s.setProt i p) :=
  ⟨prot_setProt_same h i p, fun _ hj => prot_setProt_other hj p, rfl, rfl, rfl, rfl, .refl _ s⟩

/-- The conditions on the holds judged again touch no sub-module. -/
theorem TakesProt.protConds (h : TakesProt l i p s t) : TakesProt (l ++ holdConds) i p s t.protConds := by
  obtain ⟨henc, hrank, harm, hmem, hflt, -⟩ := protConds_frame t
  exact ⟨(prot_congr henc i).trans h.own, fun j hj => (prot_congr henc j).trans (h.others j hj), hmem.trans h.mem, harm.trans h.arm,
    hrank.trans h.rank, hflt.trans h.flt, h.fields.trans (regsKeptBut_protConds t)⟩

/-- Where a field was written first, it is one more field that changes. -/
theorem TakesProt.afterPut {F : Field} {v : Nat} (h : TakesProt l i p (s.put F v) t) : TakesProt (F :: l) i p s t :=
  ⟨h.own, h.others, h.mem, h.arm, h.rank, h.flt, (regsKeptBut_put F v s).trans h.fields⟩

/-- No field that the conditions write is HOLD_CMD.IDX. -/
theorem get_holdIdx (h : RegsKeptBut holdConds s t) : t.get R.CMDENC_HOLD_CMD_IDX = s.get R.CMDENC_HOLD_CMD_IDX := h _ (by decide)

end

/-! ## HOLD_CMD (R169, R171, R178, R180, R196) -/

/-- The CONFIG event of a refused write to HOLD_CMD. -/
def holdRefusal : Event := { cls := .config, unit := 0x0503, req := .l0, aux := 0x72050 }

theorem config_reports (s : State) : holdRefusal ∈ (s.config 0x72050).flt.inbox := List.mem_append_right _ (List.mem_singleton.mpr rfl)

/-! ### The action bits, each on one sub-module -/

/-- What HOLD does to one sub-module: the FW reason is set. -/
def State.holdOne (i : Nat) (s : State) : State := (s.setProt i { s.prot i with fw := true }).protConds.selAgain

/-- It is the effect that HOLD has on its slot. -/
theorem holdEffect_eq (i : Nat) (s : State) : holdEffect i s = s.onSlot i State.holdOne := rfl

/-- The protection state after a RELEASE that is taken (R171). -/
def State.released (s : State) (i : Nat) : SmProt :=
  { s.prot i with
    fw := false, leak := 0, clr := decide ((s.prot i).desat ≠ 0), seen := 0
    rel := some ⟨s.elapsed, (s.prot i).fw, (s.prot i).uv, (s.prot i).leak⟩
    uv := if s.get R.CMDENC_PROT_UV_CLR = 0 then 0 else (s.prot i).uv }

section
variable {s : State} {i : Nat}

/-- Outside the instant of a selection start nothing is selected anew (R183). -/
theorem selAgain_later (h : s.arm.selDone = false ∨ s.arm.selEl ≠ s.elapsed) : s.selAgain = s := by
  obtain h | h := h
  · simp [State.selAgain, h]
  · simp [State.selAgain, h.symm]

theorem holdOne_takes (hprot : keysRise none s.enc.prot = true) (h : s.arm.selDone = false ∨ s.arm.selEl ≠ s.elapsed) :
    TakesProt holdConds i { s.prot i with fw := true } s (s.holdOne i) := by
  have heff : s.holdOne i = (s.setProt i { s.prot i with fw := true }).protConds := selAgain_later (by simpa using h)
  rw [heff]
  exact (takesProt_setProt hprot i _).protConds

theorem release_refused (h : (s.prot i).fire = true ∨ (s.prot i).fbp = true) : s.release i = s.config 0x72050 := by
  simp [State.release, h]

section
variable (hfire : (s.prot i).fire = false) (hfbp : (s.prot i).fbp = false)
include hfire hfbp

/-- On the edge of a new desaturation report RELEASE does nothing (R183). -/
theorem release_sameEdge (h : (s.prot i).scAt = some s.elapsed) : s.release i = s := by
  simp [State.release, hfire, hfbp, h]

theorem release_taken (h : (s.prot i).scAt ≠ some s.elapsed) : s.release i = (s.setProt i (s.released i)).protConds := by
  simp [State.release, State.released, hfire, hfbp, h]

theorem release_takes (hprot : keysRise none s.enc.prot = true) (h : (s.prot i).scAt ≠ some s.elapsed) :
    TakesProt holdConds i (s.released i) s (s.release i) := by
  rw [release_taken hfire hfbp h]
  exact (takesProt_setProt hprot i _).protConds

theorem requestFire_takes (hprot : keysRise none s.enc.prot = true) :
    TakesProt [] i { s.prot i with fire := true, fireTmo := false, fireNs := s.elNs } s (s.requestFire i) := by
  have heff : s.requestFire i = s.setProt i { s.prot i with fire := true, fireTmo := false, fireNs := s.elNs } := by
    simp [State.requestFire, hfire, hfbp]
  rw [heff]
  exact takesProt_setProt hprot i _

end

/-- FIRE_BYPASS is requested once (R178). -/
theorem requestFire_again (h : (s.prot i).fire = true ∨ (s.prot i).fbp = true) : s.requestFire i = s := by
  simp [State.requestFire, h]

theorem fbpClear_taken (hoff : s.arm.mode = .off) (hfbp : (s.prot i).fbp = true) (hrep : (s.prot i).repFbp = false) :
    s.fbpClear i = (s.setProt i { s.prot i with fbp := false, fw := true }).setRec i { s.smRec i with rcnt := 0 } := by
  simp [State.fbpClear, hoff, hfbp, hrep]

theorem fbpClear_refused (h : s.arm.mode ≠ .off ∨ (s.prot i).fbp = false ∨ (s.prot i).repFbp = true) : s.fbpClear i = s.config 0x72050 := by
  obtain h | h | h := h <;> simp [State.fbpClear, h]

end

/-! ### The sub-module on which an action falls (R196, R903) -/

section
variable {s t : State} {i : Nat} {f : Nat → State → State}

/-- A refused write records a CONFIG event once (R903): it changes no more than what its action has changed. -/
theorem configOnce_frame (s t : State) (addr : Nat) : (s.configOnce addr t).enc = t.enc ∧ (s.configOnce addr t).rank = t.rank
    ∧ (s.configOnce addr t).arm = t.arm ∧ (s.configOnce addr t).mem = t.mem ∧ (s.configOnce addr t).regs = t.regs := by
  unfold State.configOnce
  split <;> exact ⟨rfl, rfl, rfl, rfl, rfl⟩

/-- An action without an event of its own leaves the event to the index. -/
theorem configOnce_quiet (h : t.flt = s.flt) (addr : Nat) : s.configOnce addr t = t.config addr := by
  simp [State.configOnce, h]

/-- An action that was refused too has recorded the event already. -/
theorem configOnce_config (s : State) (addr : Nat) : s.configOnce addr (s.config addr) = s.config addr := by
  simp [State.configOnce, State.config, State.event0, State.post]

theorem configOnce_reports (h : t = s.config 0x72050 ∨ t.flt = s.flt) : holdRefusal ∈ (s.configOnce 0x72050 t).flt.inbox := by
  obtain rfl | h := h
  · rw [configOnce_config]
    exact config_reports s
  · rw [configOnce_quiet h]
    exact config_reports t

variable (hup : s.up 5 = true)
include hup

theorem onSlot_present (h : s.slotPresent i = true) : s.onSlot i f = f i (s.put R.CMDENC_HOLD_CMD_IDX i) := by
  simp [State.onSlot, hup, h]

/-- Where the index has no slot, the action falls on the sub-module that IDX names. -/
theorem onSlot_earlier (h : s.slotPresent i = false) (hj : s.slotPresent (s.get R.CMDENC_HOLD_CMD_IDX) = true) :
    s.onSlot i f = s.configOnce 0x72050 (f (s.get R.CMDENC_HOLD_CMD_IDX) s) := by
  simp [State.onSlot, hup, h, hj]

theorem onSlot_absent (h : s.slotPresent i = false) (hj : s.slotPresent (s.get R.CMDENC_HOLD_CMD_IDX) = false) :
    s.onSlot i f = s.config 0x72050 := by
  have heff : s.onSlot i f = s.configOnce 0x72050 s := by simp [State.onSlot, hup, h, hj]
  rw [heff, configOnce_quiet rfl]

end

/-! ### An action on the sub-module that IDX has named before -/

/-- An action has fallen on sub-module `j` alone, and has recorded no event beyond the CONFIG event of a refusal. -/
structure FallsOn (j : Nat) (s t : State) : Prop where
  others : ∀ k, k ≠ j → t.prot k = s.prot k ∧ t.smRec k = s.smRec k
  idx : t.get R.CMDENC_HOLD_CMD_IDX = s.get R.CMDENC_HOLD_CMD_IDX
  mem : t.mem = s.mem
  arm : t.arm = s.arm
  event : t = s.config 0x72050 ∨ t.flt = s.flt

section
variable {j : Nat} {s t : State}

theorem fallsOn_config (j : Nat) (s : State) : FallsOn j s (s.config 0x72050) := ⟨fun _ _ => ⟨rfl, rfl⟩, rfl, rfl, rfl, .inl rfl⟩

theorem fallsOn_nothing (j : Nat) (s : State) : FallsOn j s s := ⟨fun _ _ => ⟨rfl, rfl⟩, rfl, rfl, rfl, .inr rfl⟩

theorem TakesProt.fallsOn {l : List Field} {p : SmProt} (h : TakesProt l j p s t)
    (hl : ∀ F ∈ l, R.CMDENC_HOLD_CMD_IDX.key ≠ F.key) : FallsOn j s t :=
  ⟨fun k hk => ⟨h.others k hk, by unfold State.smRec; rw [h.rank]⟩, h.fields _ hl, h.mem, h.arm, .inr h.flt⟩

section
variable (hprot : keysRise none s.enc.prot = true)
include hprot

theorem release_fallsOn : FallsOn j s (s.release j) := by
  by_cases hreq : (s.prot j).fire = true ∨ (s.prot j).fbp = true
  · rw [release_refused hreq]
    exact fallsOn_config j s
  · obtain ⟨hfire, hfbp⟩ := not_or.mp hreq
    rw [Bool.not_eq_true] at hfire hfbp
    by_cases hsc : (s.prot j).scAt = some s.elapsed
    · rw [release_sameEdge hfire hfbp hsc]
      exact fallsOn_nothing j s
    · exact (release_takes hfire hfbp hprot hsc).fallsOn (by decide)

theorem requestFire_fallsOn : FallsOn j s (s.requestFire j) := by
  by_cases hreq : (s.prot j).fire = true ∨ (s.prot j).fbp = true
  · rw [requestFire_again hreq]
    exact fallsOn_nothing j s
  · obtain ⟨hfire, hfbp⟩ := not_or.mp hreq
    rw [Bool.not_eq_true] at hfire hfbp
    exact (requestFire_takes hfire hfbp hprot).fallsOn (by decide)

end

theorem fbpClear_fallsOn : FallsOn j s (s.fbpClear j) := by
  unfold State.fbpClear
  dsimp only
  split
  · exact ⟨fun k hk => ⟨prot_setProt_other hk _, smRec_setRec_other hk _⟩, rfl, rfl, rfl, .inr rfl⟩
  · exact fallsOn_config j s

/-- What an action leaves that falls on an earlier sub-module while the named index is refused. -/
theorem FallsOn.refusedIndex (h : FallsOn j s t) :
    (∀ k, k ≠ j → (s.configOnce 0x72050 t).prot k = s.prot k ∧ (s.configOnce 0x72050 t).smRec k = s.smRec k)
      ∧ (s.configOnce 0x72050 t).get R.CMDENC_HOLD_CMD_IDX = s.get R.CMDENC_HOLD_CMD_IDX ∧ (s.configOnce 0x72050 t).mem = s.mem
      ∧ (s.configOnce 0x72050 t).arm = s.arm ∧ holdRefusal ∈ (s.configOnce 0x72050 t).flt.inbox := by
  obtain ⟨henc, hrank, harm, hmem, hregs⟩ := configOnce_frame s t 0x72050
  have hget : (s.configOnce 0x72050 t).get R.CMDENC_HOLD_CMD_IDX = t.get R.CMDENC_HOLD_CMD_IDX := by unfold State.get; rw [hregs]
  have hrec (k : Nat) : (s.configOnce 0x72050 t).smRec k = t.smRec k := by unfold State.smRec; rw [hrank]
  exact ⟨fun k hk => ⟨(prot_congr henc k).trans (h.others k hk).1, (hrec k).trans (h.others k hk).2⟩, hget.trans h.idx, hmem.trans h.mem,
    harm.trans h.arm, configOnce_reports h.event⟩

end

/-! ### The statement -/

section
variable {s : State} {i : Nat} (hserv : s.inService = true)
include hserv

/-- A write to HOLD_CMD in service has the effect of its action bit. -/
theorem commanded_holdCmd (f : State → State) : Host.Outcome.next (φ := Fault) (ρ := Refusal) (s.commanded 0x72050 f) = .next (f s) :=
  congrArg _ (commandedFrom_enginePage hserv (by decide) 0 f)

theorem get_putHoldIdx (hi : i < 2 ^ 11) : (s.put R.CMDENC_HOLD_CMD_IDX i).get R.CMDENC_HOLD_CMD_IDX = i :=
  (get_put_same (inService_regsRise hserv) _ i).trans (Nat.mod_eq_of_lt hi)

end

/-- IDX takes no part in what a RELEASE leaves. -/
theorem released_putIdx (s : State) (v i : Nat) : (s.put R.CMDENC_HOLD_CMD_IDX v).released i = s.released i := by
  unfold State.released
  rw [get_put_other (by decide)]
  rfl

/-- Settles O27: an action on a present slot as its own lemma shows it (`holdOne_takes`, `release_takes` and their like), on the sub-module
that IDX has named before as `FallsOn.refusedIndex`. -/
theorem holdCommands : Obligations.HoldCommands := by
  intro s i hserv hprot hrecs hi
  have hup : s.up 5 = true := inService_common hserv (by decide)
  have taken := commanded_holdCmd hserv
  have onNamed (hslot : s.slotPresent i = true) (f : Nat → State → State) :
      Host.Outcome.next (φ := Fault) (ρ := Refusal) (s.commanded 0x72050 (·.onSlot i f)) = .next (f i (s.put R.CMDENC_HOLD_CMD_IDX i)) :=
    (taken _).trans (congrArg _ (onSlot_present hup hslot))
  have hidx : RegsKeptBut [R.CMDENC_HOLD_CMD_IDX] s (s.put R.CMDENC_HOLD_CMD_IDX i) := regsKeptBut_put _ i s
  refine ⟨fun hslot => ⟨fun hlater => ⟨_, onNamed hslot State.holdOne, ?_⟩,
    fun hfire hfbp => ⟨fun hsc => ⟨_, onNamed hslot State.release, ?_⟩, fun hsc => ⟨_, onNamed hslot State.release, ?_⟩,
      ⟨_, onNamed hslot State.requestFire, ?_⟩⟩,
    fun hreq => ⟨⟨_, onNamed hslot State.release, ?_⟩, ⟨_, onNamed hslot State.requestFire, ?_⟩⟩,
    fun hoff hfbp hrep => ⟨_, onNamed hslot State.fbpClear, ?_⟩, fun hbar => ⟨_, onNamed hslot State.fbpClear, ?_⟩⟩,
    fun hslot hearlier => ?_, fun hslot hnone => ?_⟩
  · have h := holdOne_takes (s := s.put R.CMDENC_HOLD_CMD_IDX i) (i := i) hprot hlater
    exact ⟨h.own, h.others, (get_holdIdx h.fields).trans (get_putHoldIdx hserv hi), h.mem, h.arm, h.rank, h.afterPut.fields⟩
  · have h := release_takes (s := s.put R.CMDENC_HOLD_CMD_IDX i) hfire hfbp hprot hsc
    exact ⟨h.own.trans (released_putIdx s i i), h.others, h.mem, h.arm⟩
  · rw [release_sameEdge (s := s.put R.CMDENC_HOLD_CMD_IDX i) hfire hfbp hsc]
    exact ⟨rfl, rfl, hidx, rfl, rfl⟩
  · have h := requestFire_takes (s := s.put R.CMDENC_HOLD_CMD_IDX i) hfire hfbp hprot
    exact ⟨h.own, h.others, h.afterPut.fields, h.mem, h.arm⟩
  · rw [release_refused (s := s.put R.CMDENC_HOLD_CMD_IDX i) hreq]
    exact ⟨rfl, rfl, rfl, rfl, hidx, config_reports _⟩
  · rw [requestFire_again (s := s.put R.CMDENC_HOLD_CMD_IDX i) hreq]
    exact ⟨rfl, rfl, rfl, rfl, hidx⟩
  · rw [fbpClear_taken (s := s.put R.CMDENC_HOLD_CMD_IDX i) hoff hfbp hrep]
    exact ⟨prot_setProt_same hprot i _, smRec_setRec_same hrecs i _, fun j hj => ⟨prot_setProt_other hj _, smRec_setRec_other hj _⟩, rfl, rfl⟩
  · rw [fbpClear_refused (s := s.put R.CMDENC_HOLD_CMD_IDX i) hbar]
    exact ⟨rfl, rfl, rfl, rfl, hidx, config_reports _⟩
  · rintro j rfl
    have onEarlier (f : Nat → State → State) : Host.Outcome.next (φ := Fault) (ρ := Refusal) (s.commanded 0x72050 (·.onSlot i f)) =
        .next (s.configOnce 0x72050 (f (s.get R.CMDENC_HOLD_CMD_IDX) s)) := (taken _).trans (congrArg _ (onSlot_earlier hup hslot hearlier))
    refine ⟨fun hlater => ⟨_, onEarlier State.holdOne, ?_⟩, ?_⟩
    · have h := holdOne_takes (i := s.get R.CMDENC_HOLD_CMD_IDX) hprot hlater
      obtain ⟨hothers, hkept, hmem, harm, hevent⟩ := (h.fallsOn (by decide)).refusedIndex
      obtain ⟨henc, -⟩ := configOnce_frame s (s.holdOne (s.get R.CMDENC_HOLD_CMD_IDX)) 0x72050
      exact ⟨(prot_congr henc _).trans h.own, fun k hk => (hothers k hk).1, hkept, hmem, harm, hevent⟩
    · simp only [List.forall_mem_cons, List.not_mem_nil, false_imp_iff, implies_true, and_true]
      exact ⟨⟨_, onEarlier State.release, (release_fallsOn hprot).refusedIndex⟩, ⟨_, onEarlier State.fbpClear, fbpClear_fallsOn.refusedIndex⟩,
        ⟨_, onEarlier State.requestFire, (requestFire_fallsOn hprot).refusedIndex⟩⟩
  · have refused {c : Instr} {f : Nat → State → State} (hc : exec c s = .next (s.commanded 0x72050 (·.onSlot i f))) :
        Reaches c s fun t => t.enc = s.enc ∧ t.rank = s.rank ∧ t.arm = s.arm ∧ t.mem = s.mem ∧ t.regs = s.regs ∧ holdRefusal ∈ t.flt.inbox :=
      ⟨_, hc.trans ((taken _).trans (congrArg _ (onSlot_absent hup hslot hnone))), rfl, rfl, rfl, rfl, rfl, config_reports s⟩
    simp only [List.forall_mem_cons, List.not_mem_nil, false_imp_iff, implies_true, and_true]
    exact ⟨refused (f := State.holdOne) rfl, refused (f := State.release) rfl, refused (f := State.fbpClear) rfl,
      refused (f := State.requestFire) rfl⟩

end Sys2Proof.Machine
end

section
namespace Sys2Proof.Machine

/-! ## The bypass timer and the count of held BLOCK windows (R173, R179) -/

section
variable {s : State} {i : Nat}

/-- The state in which the bypass timer of a request has run out, before it is reported. -/
def State.bypassOut (s : State) (i : Nat) : State :=
  (s.pass (el ((s.prot i).fireNs + 10 ^ 6 * s.get R.CMDENC_PROT_FBP_TMO))).setProt i { s.prot i with fireTmo := true }

theorem fbpTimeoutEffect_idle (h : (s.prot i).fire = false ∨ (s.prot i).fireTmo = true) : fbpTimeoutEffect i s = s := by
  obtain h | h := h <;> simp [fbpTimeoutEffect, h]

theorem holdBlkEffect_idle (h : (s.prot i).blkDue = false ∨ (s.prot i).held = false) : holdBlkEffect i s = s := by
  obtain h | h := h <;> simp [holdBlkEffect, h]

theorem leakTimeoutEffect_idle (h : (s.prot i).lkReq = false) : leakTimeoutEffect i s = s := by
  simp [leakTimeoutEffect, h]

theorem regsKeptBut_raiseFbpTmo (s : State) :
    RegsKeptBut [R.CMDENC_STAT_FBP_TMO, R.CMDENC_IRQ_STAT_PEND] s (s.raise R.CMDENC_STAT_FBP_TMO) := fun G hG =>
  have hown : G.key ≠ R.CMDENC_STAT_FBP_TMO.key := hG _ (by simp)
  have hirq : G.key ≠ R.CMDENC_IRQ_STAT_PEND.key := hG _ (by simp)
  get_raise_other hown hirq s

variable (hup : s.up 5 = true)
include hup

theorem fbpTimeoutEffect_expires (hfire : (s.prot i).fire = true) (htmo : (s.prot i).fireTmo = false) :
    fbpTimeoutEffect i s = ((s.bypassOut i).raise R.CMDENC_STAT_FBP_TMO).eventAt .cell (ringUnit (i / 16)) i 3 := by
  simp [fbpTimeoutEffect, State.bypassOut, hup, hfire, htmo]

theorem leakTimeoutEffect_asks (h : (s.prot i).lkReq = true) : leakTimeoutEffect i s = s.setProt i { s.prot i with lkReq := false } := by
  simp [leakTimeoutEffect, hup, h]

/-- What a bypass timer that runs out shows. -/
theorem fbpTimeoutEffect_shows (hprot : keysRise none s.enc.prot = true) (hfire : (s.prot i).fire = true) (htmo : (s.prot i).fireTmo = false)
    {t : State} (ht : t = fbpTimeoutEffect i s) :
    t.prot i = { s.prot i with fireTmo := true } ∧ t.get R.CMDENC_STAT_FBP_TMO = 1
      ∧ t.flt.inbox = s.flt.inbox ++ [{ cls := .cell, unit := ringUnit (i / 16), aux := i, req := .atLeast 3 }]
      ∧ (∀ j, j ≠ i → t.prot j = s.prot j) ∧ RegsKeptBut [R.CMDENC_STAT_FBP_TMO, R.CMDENC_IRQ_STAT_PEND] s t ∧ t.mem = s.mem
      ∧ t.elapsed = max s.elapsed (((s.prot i).fireNs + 10 ^ 6 * s.get R.CMDENC_PROT_FBP_TMO) * 2 ^ 32) := by
  rw [fbpTimeoutEffect_expires hup hfire htmo] at ht
  have henc : t.enc = (s.bypassOut i).enc := by rw [ht]; exact State.raise_enc _ _
  have hflag : t.get R.CMDENC_STAT_FBP_TMO = 1 := by rw [ht]; exact get_raise_same (by decide) (by decide) rfl _
  have hkept : RegsKeptBut [R.CMDENC_STAT_FBP_TMO, R.CMDENC_IRQ_STAT_PEND] (s.bypassOut i) t := by
    rw [ht]
    exact regsKeptBut_raiseFbpTmo _
  refine ⟨(prot_congr henc i).trans (prot_setProt_same hprot i _), hflag, ?_,
    fun j hj => (prot_congr henc j).trans (prot_setProt_other hj _), hkept, ?_, ?_⟩
  · simp [ht, State.eventAt, State.post, State.bypassOut]
  · simp [ht, State.bypassOut]
  · simp [ht, State.bypassOut, State.pass, el]

section
variable (hprot : keysRise none s.enc.prot = true) (hdue : (s.prot i).blkDue = true) (hheld : (s.prot i).held = true)
include hprot hdue hheld

/-- The count of a held sub-module that has reached HOLD_BLK acts once (R173). -/
theorem holdBlkEffect_acts : ∃ u, TakesProt holdConds i { s.prot i with blkDue := false } s u ∧ u.elapsed = s.elapsed
    ∧ holdBlkEffect i s = if s.on R.CMDENC_CTRL_AUTO_FBP then u.requestFire i
        else u.post { cls := .cell, unit := ringUnit (i / 16), aux := i, standing := true } := by
  have htakes := (takesProt_setProt hprot i { s.prot i with blkDue := false }).protConds
  have hauto : (s.setProt i { s.prot i with blkDue := false }).protConds.on R.CMDENC_CTRL_AUTO_FBP = s.on R.CMDENC_CTRL_AUTO_FBP := by
    unfold State.on
    rw [htakes.fields _ (by decide)]
  refine ⟨_, htakes, by simp, ?_⟩
  simp [holdBlkEffect, hup, hdue, hheld, hauto]

/-- With AUTO_FBP it requests FIRE_BYPASS (R178). -/
theorem holdBlkEffect_fires (hauto : s.on R.CMDENC_CTRL_AUTO_FBP = true) (hfire : (s.prot i).fire = false) (hfbp : (s.prot i).fbp = false)
    {t : State} (ht : t = holdBlkEffect i s) : (t.prot i).fire = true ∧ (t.prot i).fireNs = s.elNs ∧ t.arm = s.arm ∧ t.mem = s.mem := by
  obtain ⟨u, hu, hel, heff⟩ := holdBlkEffect_acts hup hprot hdue hheld
  rw [heff, if_pos hauto, State.requestFire, hu.own, if_neg (by simp [hfire, hfbp])] at ht
  have hown : t.prot i = _ := (congrArg (State.prot · i) ht).trans (tget_tset_value (fun h => Bool.noConfusion (congrArg SmProt.fire h)) i)
  rw [hown, ht]
  exact ⟨rfl, congrArg (· / 2 ^ 32) hel, hu.arm, hu.mem⟩

/-- Without AUTO_FBP it posts a CELL event whose cause lasts. -/
theorem holdBlkEffect_posts (hauto : s.on R.CMDENC_CTRL_AUTO_FBP = false) {t : State} (ht : t = holdBlkEffect i s) :
    t.prot i = { s.prot i with blkDue := false }
      ∧ t.flt.inbox = s.flt.inbox ++ [{ cls := .cell, unit := ringUnit (i / 16), aux := i, standing := true }]
      ∧ t.arm = s.arm ∧ t.mem = s.mem := by
  obtain ⟨u, hu, -, heff⟩ := holdBlkEffect_acts hup hprot hdue hheld
  rw [heff, hauto] at ht
  rw [ht]
  exact ⟨hu.own, congrArg (·.inbox ++ _) hu.flt, hu.arm, hu.mem⟩

end

end

end Sys2Proof.Machine
end

section
namespace Sys2Proof.Machine

/-! ## Leakage rounds (R174, R177) -/

theorem lookupKey_unlisted {α : Type} {l : List (Nat × α)} {n : Nat} (h : n ∉ l.map (·.1)) : lookupKey l n = none := by
  induction l with
  | nil => rfl
  | cons e t ih =>
    obtain ⟨hne, ht⟩ := not_or.mp (mt List.mem_cons.mpr h)
    exact (if_neg hne).trans (ih ht)

/-- Sub-module `i` is set pending for a round, or not. -/
def setPending (b : Bool) (i : Nat) (s : State) : State := s.setProt i { s.prot i with lkPend := b }

section
variable {s : State}

/-- The sub-modules of a list are set pending or not, and the others keep what they have. -/
theorem forAll_setPending (hprot : keysRise none s.enc.prot = true) (b : Bool) (l : List Nat) :
    ∃ prot, forAll l (setPending b) s = { s with enc := { s.enc with prot } } ∧ keysRise none prot = true
      ∧ ∀ j, tget {} prot j = if j ∈ l then { s.prot j with lkPend := b } else s.prot j := by
  induction l generalizing s with
  | nil => exact ⟨s.enc.prot, rfl, hprot, fun j => rfl⟩
  | cons i t ih =>
    obtain ⟨prot, hshape, hrise, htable⟩ := ih (s := setPending b i s) (keysRise_tset hprot _ _)
    refine ⟨prot, hshape, hrise, fun j => (htable j).trans ?_⟩
    by_cases hji : j = i
    · subst hji
      have hown : (setPending b j s).prot j = { s.prot j with lkPend := b } := prot_setProt_same hprot j _
      simp [hown]
    · have hkept : (setPending b i s).prot j = s.prot j := prot_setProt_other hji _
      simp [hkept, hji]

/-- A sub-module that the table does not list is not pending. -/
theorem prot_unlisted {j : Nat} (h : j ∉ s.enc.prot.map (·.1)) : s.prot j = {} := by
  unfold State.prot tget
  rw [lookupKey_unlisted h]
  rfl

/-- The state in which a round is open, with the protection states of the table `prot`. -/
def State.roundOpen (prot : Tab SmProt) (s : State) : State :=
  ({ s with enc := { s.enc with prot, lkOpen := true } }.put R.CMDENC_LEAK_STAT_FAILS 0).put R.CMDENC_STATUS_LEAK_BUSY 1

/-- A round that begins makes exactly the members of its pool pending. -/
theorem leakBegin_opens (hprot : keysRise none s.enc.prot = true) : ∃ prot, s.leakBegin = s.roundOpen prot
    ∧ ∀ j, tget {} prot j = { s.prot j with lkPend := decide (j ∈ s.leakPool) } := by
  obtain ⟨cleared, hclear, hrise, hcleared⟩ := forAll_setPending hprot false (s.enc.prot.map (·.1))
  obtain ⟨prot, hset, -, hpending⟩ := forAll_setPending (s := { s with enc := { s.enc with prot := cleared } }) hrise true s.leakPool
  have hloops : forAll s.leakPool (setPending true) (forAll (s.enc.prot.map (·.1)) (setPending false) s) =
      { s with enc := { s.enc with prot } } := by rw [hclear, hset]
  refine ⟨prot, congrArg (fun u : State => ({ u with enc := { u.enc with lkOpen := true } }.put R.CMDENC_LEAK_STAT_FAILS 0).put
    R.CMDENC_STATUS_LEAK_BUSY 1) hloops, fun j => ?_⟩
  have hclr : tget {} cleared j = { s.prot j with lkPend := false } := by
    rw [hcleared]
    split
    · rfl
    · next hj => rw [prot_unlisted hj]
  have hj : tget {} prot j = if j ∈ s.leakPool then { tget {} cleared j with lkPend := true } else tget {} cleared j := hpending j
  rw [hclr] at hj
  by_cases hpool : j ∈ s.leakPool <;> simpa [hpool] using hj

variable {prot : Tab SmProt}

/-- A round with a member does not end where it begins. -/
theorem leakCheckEnd_open (h : ∀ j, tget {} prot j = { s.prot j with lkPend := decide (j ∈ s.leakPool) }) (hpool : s.leakPool ≠ []) :
    (s.roundOpen prot).leakCheckEnd = s.roundOpen prot := by
  obtain ⟨j, hj⟩ := List.exists_mem_of_ne_nil _ hpool
  have hread : (s.roundOpen prot).prot j = { s.prot j with lkPend := true } := (h j).trans (by simp [hj])
  obtain ⟨hlive, hfbp⟩ := List.mem_filter.mp hj
  have hpending : j ∈ (s.roundOpen prot).leakPending := by
    refine List.mem_filter.mpr ⟨List.mem_filter.mpr ⟨hlive, ?_⟩, ?_⟩
    · rw [hread]
      exact hfbp
    · rw [hread]
  unfold State.leakCheckEnd
  rw [if_neg]
  simp [List.ne_nil_of_mem hpending]

/-- A round that is started with eligible members. -/
theorem leakRoundEffect_opens (hup : s.up 5 = true) (hprot : keysRise none s.enc.prot = true) (hpool : s.leakPool ≠ []) :
    ∃ prot, leakRoundEffect s = s.roundOpen prot ∧ ∀ j, tget {} prot j = { s.prot j with lkPend := decide (j ∈ s.leakPool) } := by
  obtain ⟨prot, hbegin, htable⟩ := leakBegin_opens hprot
  refine ⟨prot, ?_, htable⟩
  rw [leakRoundEffect, if_pos hup, hbegin]
  exact leakCheckEnd_open htable hpool

/-- What an open round shows. -/
theorem roundOpen_shows (hk : keysRise none s.regs = true) (prot : Tab SmProt) :
    (s.roundOpen prot).get R.CMDENC_LEAK_STAT_FAILS = 0 ∧ (s.roundOpen prot).get R.CMDENC_STATUS_LEAK_BUSY = 1
      ∧ RegsKeptBut [R.CMDENC_LEAK_STAT_FAILS, R.CMDENC_STATUS_LEAK_BUSY] s (s.roundOpen prot) := by
  refine ⟨?_, get_put_value (by decide), ?_⟩
  · unfold State.roundOpen
    rw [get_put_other (by decide)]
    exact get_put_same (s := { s with enc := _ }) hk _ 0
  · exact RegsKeptBut.trans (l := [_]) (t := ({ s with enc := _ } : State).put R.CMDENC_LEAK_STAT_FAILS 0)
      (regsKeptBut_put _ 0 { s with enc := _ }) (regsKeptBut_put _ 1 _)

end

/-! ### The statement -/

/-- Settles O28: each timer as its effect shows it (`fbpTimeoutEffect_shows`, `holdBlkEffect_fires`, `holdBlkEffect_posts`), and a round as it
opens (`leakRoundEffect_opens`). -/
theorem protectionTimers : Obligations.ProtectionTimers := by
  intro s i hserv hprot
  have hup : s.up 5 = true := inService_common hserv (by decide)
  have hk : keysRise none s.regs = true := inService_regsRise hserv
  refine ⟨fun hfire htmo => ⟨_, rfl, fbpTimeoutEffect_shows hup hprot hfire htmo rfl⟩,
    fun hidle => congrArg Host.Outcome.next (fbpTimeoutEffect_idle hidle),
    fun hdue hheld => ⟨fun hauto hfire hfbp => ⟨_, rfl, holdBlkEffect_fires hup hprot hdue hheld hauto hfire hfbp rfl⟩,
      fun hauto => ⟨_, rfl, holdBlkEffect_posts hup hprot hdue hheld hauto rfl⟩⟩,
    fun hidle => congrArg Host.Outcome.next (holdBlkEffect_idle hidle), fun hpool => ?_,
    fun hreq => ⟨_, congrArg Host.Outcome.next (leakTimeoutEffect_asks hup hreq), prot_setProt_same hprot i _, rfl, rfl⟩,
    fun hidle => congrArg Host.Outcome.next (leakTimeoutEffect_idle hidle)⟩
  obtain ⟨prot, heff, htable⟩ := leakRoundEffect_opens hup hprot hpool
  obtain ⟨hfails, hbusy, hkept⟩ := roundOpen_shows hk prot
  have taken : s.commanded 0x72060 leakRoundEffect = s.roundOpen prot := (commandedFrom_enginePage hserv (by decide) 0 _).trans heff
  exact ⟨_, congrArg Host.Outcome.next taken, rfl, fun j hj => (htable j).trans (by simp [hj]), fun j hj => (htable j).trans (by simp [hj]),
    hfails, hbusy, rfl, hkept⟩

end Sys2Proof.Machine
end

section
namespace Sys2Proof.Machine

/-! ## A lane table with two entries for one lane

The statement asks for a sorted ring table, and for a sorted lane table only where it speaks of the lane's answers. An entry that becomes the
default one is erased from the table, and a second entry of the same lane then stands in its place. -/

/-- In service, with ring 0 in PROBE; of the two entries of lane 0 the first one does not repeat, the second one does. -/
def doubleLaneProbes : State :=
  { glades := (List.range 44).map (fun g => (g, { inReset := false }))
    host := { phase := .applied }
    rings := [(0, { mode := .probe })]
    lanes := [(0, { ansOut := [0] }), (0, { rep := true })] }

theorem doubleLaneProbes_bringsUp : doubleLaneProbes.inService = true ∧ doubleLaneProbes.bringsUp = true
    ∧ (doubleLaneProbes.lane 0).rep = false := by decide

/-- Without a probe from the far end the lane keeps no answer: its first entry goes, and the second one, which repeats, sends no ENUM frame
(R629). -/
theorem exec_probeComplete_doubleLaneProbes :
    ∃ t, exec (.probeComplete 0 ⟨[], 0, []⟩) doubleLaneProbes = .next t ∧ (t.ring 0).out = none := by
  refine ⟨_, rfl, ?_⟩
  decide

/-- Refutes O30: its clause on a completed probe, which promises an ENUM frame, fails where the lane table holds two entries of the ring's lane. -/
theorem not_ringBringUp : ¬ Obligations.RingBringUp := by
  intro h
  obtain ⟨hserv, hbrings, hrep⟩ := doubleLaneProbes_bringsUp
  obtain ⟨-, -, -, -, -, hprobe, -⟩ := h doubleLaneProbes 0 hserv (by decide) (by decide)
  obtain ⟨hcomplete, -⟩ := hprobe (by decide)
  obtain ⟨t, hexec, -, -, -, -, g, hout, -⟩ := hcomplete hbrings hrep [] 0 []
  obtain ⟨t', hexec', hnone⟩ := exec_probeComplete_doubleLaneProbes
  cases hexec.symm.trans hexec'
  exact absurd (hnone.symm.trans hout) (by simp)

end Sys2Proof.Machine
end

section
namespace Sys2Proof.Machine

/-! ## The page of a ring in service -/

section
variable {s : State} {n : Nat}

/-- The glade of a ring that the variant has runs in service (R12). -/
theorem inService_ringGlade (h : s.inService = true) (hn : n < s.variant.rings) : s.up (32 + n / 8) = true := by
  have hrings : s.variant.rings % 8 = 0 := by cases s.variant <;> decide
  have hpres : gladePresent s.variant (32 + n / 8) = true := by
    simp only [gladePresent, Bool.or_eq_true, decide_eq_true_eq]
    omega
  exact inService_up h hpres (gladePresent_lt hpres)

theorem inService_ringUp (h : s.inService = true) (hn : n < s.variant.rings) : s.ringUp n = true := by
  have hunit : ringUnit n / 256 = 32 + n / 8 := by unfold ringUnit; omega
  simp [State.ringUp, State.unitUp, hn, hunit, inService_ringGlade h hn, inService_unit h]

theorem pageGlade_ring {addr : Nat} (hn : n < 96) (ha : addr / 0x1000 = 0x10 + n) : pageGlade addr = some (32 + n / 8) := by
  unfold pageGlade
  simp (disch := omega) only [ha, if_neg, if_pos]
  congr 2
  omega

theorem pageAbsent_ring {v : Variant} {addr : Nat} (hn : n < v.rings) (hn' : n < 96) (ha : addr / 0x1000 = 0x10 + n) :
    pageAbsent v addr = false := by
  simp only [pageAbsent, ha, Bool.or_eq_false_iff, Bool.and_eq_false_iff, decide_eq_false_iff_not]
  omega

/-- A write with an action of its own to the page of a ring that the variant has, whose glade runs in service. -/
theorem commanded_ringPage (h : s.inService = true) (hn : n < s.variant.rings) {addr : Nat} (ha : addr / 0x1000 = 0x10 + n)
    (f : State → State) : s.commanded addr f = f s :=
  have hn' : n < 96 := lt_of_mem_ringList (List.mem_range.mpr hn)
  commanded_inService h (pageGlade_ring hn' ha) (inService_ringGlade h hn) (pageAbsent_ring hn hn' ha) f

/-- The unit that owns the page of a ring is the ring (R13). -/
theorem addrUnit_ring {addr : Nat} (hn : n < 96) (ha : addr / 0x1000 = 0x10 + n) : addrUnit addr = ringUnit n := by
  unfold addrUnit
  simp (disch := omega) only [ha, if_neg, if_pos]
  congr 1
  omega

end

section
variable {n o lo w rst o' lo' w' rst' : Nat} {acc acc' : Access}

/-- Two fields of a ring's page at different places have different keys. -/
theorem ringKey_ne (h : 32 * o + lo ≠ 32 * o' + lo') :
    (⟨0x10000 + 0x1000 * n + o, lo, w, rst, acc⟩ : Field).key ≠ (⟨0x10000 + 0x1000 * n + o', lo', w', rst', acc'⟩ : Field).key := by
  simp only [Field.key]
  omega

/-- A field of a ring's page at another place than IRQ_STAT is none that a status bit of the page raises beside itself (R4). -/
theorem ringKey_ne_irqStat (ho : o' < 0x1000) (h : 32 * o + lo ≠ 32 * 0x14) :
    (⟨0x10000 + 0x1000 * n + o, lo, w, rst, acc⟩ : Field).key
      ≠ 32 * (pageOf (⟨0x10000 + 0x1000 * n + o', lo', w', rst', acc'⟩ : Field).addr + 0x14) := by
  simp only [Field.key, pageOf]
  omega

theorem get_raise_ring (ho : o' < 0x1000) (h : 32 * o + lo ≠ 32 * o' + lo') (hirq : 32 * o + lo ≠ 32 * 0x14) (s : State) :
    (s.raise ⟨0x10000 + 0x1000 * n + o', lo', w', rst', acc'⟩).get ⟨0x10000 + 0x1000 * n + o, lo, w, rst, acc⟩
      = s.get ⟨0x10000 + 0x1000 * n + o, lo, w, rst, acc⟩ :=
  get_raise_other (ringKey_ne h) (ringKey_ne_irqStat ho hirq) s

theorem get_put_ring (h : 32 * o + lo ≠ 32 * o' + lo') (v : Nat) (s : State) :
    (s.put ⟨0x10000 + 0x1000 * n + o', lo', w', rst', acc'⟩ v).get ⟨0x10000 + 0x1000 * n + o, lo, w, rst, acc⟩
      = s.get ⟨0x10000 + 0x1000 * n + o, lo, w, rst, acc⟩ :=
  get_put_other (ringKey_ne h) v s

end

/-- What operations have made of a state in service has a sorted register store. -/
theorem Keeps.regsRise {s₀ s : State} (h : Keeps s₀ s) (hserv : s₀.inService = true) : keysRise none s.regs = true := by
  obtain ⟨-, -, -, -, -, -, hcanonical⟩ := State.inService_iff.mp hserv
  obtain ⟨-, hrise⟩ := State.canonical_iff.mp (h.canonical hcanonical)
  exact hrise

/-! ## A host's service access starts and ends (R219, R906) -/

/-- `AccessEnded n res s t`: in `t`, made from `s`, the host access of ring `n` has ended with a result; its data, the rings and the memory are
what they were. -/
structure AccessEnded (n res : Nat) (s t : State) : Prop where
  result : t.get (R.RING_SVC_CMD_RESULT n) = res
  busy : t.get (R.RING_SVC_CMD_BUSY n) = 0
  done : t.get (R.RING_STAT_SVC_DONE n) = 1
  low : t.get (R.RING_SVC_LO_DATA n) = s.get (R.RING_SVC_LO_DATA n)
  high : t.get (R.RING_SVC_HI_DATA n) = s.get (R.RING_SVC_HI_DATA n)
  rings : t.rings = s.rings
  mem : t.mem = s.mem

/-- The fields of SVC_CMD that a write names: what is asked of which word. -/
def svcCmdFields (n : Nat) : List Field := [R.RING_SVC_CMD_WR n, R.RING_SVC_CMD_SLOT n, R.RING_SVC_CMD_WADDR n]

/-- SVC_CMD shows what a write asks for. -/
def State.showAccess (n v : Nat) (s : State) : State := s.putAll ((svcCmdFields n).zip [bits v 29 1, bits v 20 4, bits v 0 8])

/-- The word that asks for an access of word `wa` of the cell in `slot`, a write where `wr` is 1 (R260). -/
def accessWord (slot wa wr : Nat) : Nat := wa + 2 ^ 20 * slot + 2 ^ 29 * wr

/-- The host's access as it waits. -/
def State.hostAccess (s : State) (n slot wa wr : Nat) : SvcAcc :=
  { src := .host, slot := slot, wr := decide (wr = 1), waddr := wa, data := s.get (R.RING_SVC_LO_DATA n) + 2 ^ 32 * s.get (R.RING_SVC_HI_DATA n) }

theorem bits_accessWord {slot wa wr : Nat} (hslot : slot < 16) (hwa : wa < 256) (hwr : wr < 2) :
    bits (accessWord slot wa wr) 20 4 = slot ∧ bits (accessWord slot wa wr) 29 1 = wr ∧ bits (accessWord slot wa wr) 0 8 = wa := by
  simp only [bits, accessWord]
  omega

section
variable {s : State} {n v : Nat}

theorem svcHostDone_ends (hk : keysRise none s.regs = true) {res : Nat} (hres : res < 4) : AccessEnded n res s (s.svcHostDone n res) where
  result := (get_raise_ring (by decide) (by decide) (by decide) _).trans
    ((get_put_ring (by decide) _ _).trans ((get_put_same hk _ res).trans (Nat.mod_eq_of_lt hres)))
  busy := (get_raise_ring (by decide) (by decide) (by decide) _).trans (get_put_same (regs_put_rise hk _ res) _ 0)
  done := get_raise_same (ringKey_ne_irqStat (by decide) (by decide)) (by decide : 1 ≠ 0) rfl _
  low := (get_raise_ring (by decide) (by decide) (by decide) _).trans ((get_put_ring (by decide) _ _).trans (get_put_ring (by decide) _ s))
  high := (get_raise_ring (by decide) (by decide) (by decide) _).trans ((get_put_ring (by decide) _ _).trans (get_put_ring (by decide) _ s))
  rings := State.raise_rings _ _
  mem := State.raise_mem _ _

/-- No field that SVC_CMD takes from a write is BUSY. -/
theorem get_showAccess_busy : (s.showAccess n v).get (R.RING_SVC_CMD_BUSY n) = s.get (R.RING_SVC_CMD_BUSY n) := by
  refine get_putAll_zip_other ?_ _
  simp only [svcCmdFields, List.map_cons, List.map_nil, List.mem_cons, List.not_mem_nil, or_false, not_or]
  exact ⟨ringKey_ne (by decide), ringKey_ne (by decide), ringKey_ne (by decide)⟩

variable (hup : s.up (32 + n / 8) = true)
include hup

theorem svcStartEffect_busy (hbusy : s.on (R.RING_SVC_CMD_BUSY n) = true) :
    svcStartEffect n v s = (s.showAccess n v).config (0x10000 + 0x1000 * n + 0x60) := by
  simp [svcStartEffect, hup, hbusy, State.showAccess, svcCmdFields]

variable (hfree : s.on (R.RING_SVC_CMD_BUSY n) = false)
include hfree

theorem svcStartEffect_barred (hruns : svcRuns (s.ring n).mode = false) : svcStartEffect n v s = (s.showAccess n v).svcHostDone n 3 := by
  simp [svcStartEffect, hup, hfree, hruns, State.showAccess, svcCmdFields]

variable (hruns : svcRuns (s.ring n).mode = true)
include hruns

theorem svcStartEffect_absent (hcell : bitOf (s.get (R.RING_SLOTS_PRESENT n)) (bits v 20 4) = false) :
    svcStartEffect n v s = (s.showAccess n v).svcHostDone n 2 := by
  simp [svcStartEffect, hup, hfree, hruns, hcell, State.showAccess, svcCmdFields]

theorem svcStartEffect_waits (hcell : bitOf (s.get (R.RING_SLOTS_PRESENT n)) (bits v 20 4) = true) :
    svcStartEffect n v s = State.setRing n { (s.showAccess n v).ring n with svcHost := some (s.hostAccess n (bits v 20 4) (bits v 0 8) (bits v 29 1)) }
      ((s.showAccess n v).put (R.RING_SVC_CMD_BUSY n) 1) := by
  simp [svcStartEffect, hup, hfree, hruns, hcell, State.showAccess, svcCmdFields, State.hostAccess]

end

/-! ## A service access leaves (R225, R243) -/

/-- The SERVICE frame that carries an access, as it leaves now. -/
def State.svcFrame (s : State) (n : Nat) (a : SvcAcc) : RingFrame := { s.mkFrame n 2 s.time [] with sv := [a.sv0, a.sv1] }

/-- The ring as the host's access leaves it in its SERVICE frame. -/
def State.sentAccess (s : State) (n : Nat) (a : SvcAcc) : RingSt :=
  { RingSt.sends (s.svcFrame n a) s.elapsed { s.ring n with svcHost := none } with
    svc := some { a with flying := true, sends := a.sends + 1, seq := (s.svcFrame n a).seq } }

section
variable {s : State} {n : Nat} {a : SvcAcc}

theorem svcSendEffect_waits (h : s.txIdle n = false ∨ s.svcFits = false) : svcSendEffect n s = s := by
  rcases h with h | h <;> simp [svcSendEffect, h]

/-- With neither an access in hand nor a key to save, the host's access is next. -/
theorem nextSvc_host {r : RingSt} (hsvc : r.svc = none) (hkeys : r.svcKeys = []) (hhost : r.svcHost = some a) :
    nextSvc r = { r with svc := some a, svcHost := none } := by
  simp [nextSvc, hsvc, hkeys, hhost]

theorem svcSendEffect_sends (hup : s.ringUp n = true) (hruns : svcRuns (s.ring n).mode = true) (hlock : (s.lane n).mode = .locked)
    (hrep : (s.lane n).rep = false) (hsvc : (s.ring n).svc = none) (hkeys : (s.ring n).svcKeys = []) (hhost : (s.ring n).svcHost = some a)
    (hfly : a.flying = false) (hidle : s.txIdle n = true) (hfits : s.svcFits = true) : svcSendEffect n s = s.setRing n (s.sentAccess n a) := by
  simp [svcSendEffect, hup, hruns, hlock, hrep, hidle, hfits, nextSvc_host hsvc hkeys hhost, hfly, State.sentAccess, RingSt.sends, State.svcFrame]

end

/-! ## A SERVICE frame returns, or none (R219) -/

theorem hcrcOk_of_good {n : Nat} {f : RxFrame} (h : f.good n = true) : hcrcOk f.h0 f.h1 = true := by
  simp only [RxFrame.good, headerOk, Bool.and_eq_true] at h
  exact h.1.1

/-- A frame with a reply is whole and undamaged. -/
theorem whole_of_reply {n : Nat} {f : RxFrame} (h : f.reply n = true) : f.good n = true ∧ f.fcrcBad = false := by
  simp only [RxFrame.reply, Bool.and_eq_true, Bool.not_eq_true'] at h
  exact h.1.1

/-- The ring with no access in hand. -/
def State.dropAccess (n : Nat) (s : State) : State := s.setRing n { s.ring n with svc := none }

/-- The data of a reply, where a read has succeeded. -/
def State.takeReply (n : Nat) (a : SvcAcc) (res data : Nat) (s : State) : State :=
  if res = 0 ∧ a.wr = false then (s.put (R.RING_SVC_LO_DATA n) data).put (R.RING_SVC_HI_DATA n) (data / 2 ^ 32) else s

section
variable {s : State} {n : Nat} {f : RxFrame}

/-- The checks of a returning frame move registers and message counters alone (R239). -/
theorem rxCheck_frame : (s.rxCheck n f).rings = s.rings ∧ (s.rxCheck n f).mem = s.mem := by
  unfold State.rxCheck
  extract_lets s1
  have h1 : s1.rings = s.rings ∧ s1.mem = s.mem := by
    unfold s1
    split <;> simp
  split
  · split
    · exact h1
    · exact ⟨rfl, rfl⟩
  · simp

theorem ring_congr {t : State} (h : t.rings = s.rings) (m : Nat) : t.ring m = s.ring m := by unfold State.ring; rw [h]

theorem ring_rxCheck (m : Nat) : (s.rxCheck n f).ring m = s.ring m := ring_congr rxCheck_frame.1 m

/-- Of a whole and undamaged frame HOPS alone is taken. -/
theorem rxCheck_whole (hgood : f.good n = true) (hcrc : f.fcrcBad = false) : s.rxCheck n f = s.put (R.RING_ERR_LOC_HOPS n) f.hops := by
  simp [State.rxCheck, hcrcOk_of_good hgood, hgood, hcrc]

theorem takeReply_frame (a : SvcAcc) (res data : Nat) : (s.takeReply n a res data).rings = s.rings ∧ (s.takeReply n a res data).mem = s.mem := by
  unfold State.takeReply
  split <;> exact ⟨rfl, rfl⟩

theorem regs_takeReply_rise (hk : keysRise none s.regs = true) (a : SvcAcc) (res data : Nat) :
    keysRise none (s.takeReply n a res data).regs = true := by
  unfold State.takeReply
  split
  · exact regs_put_rise (regs_put_rise hk _ _) _ _
  · exact hk

theorem takeReply_read {a : SvcAcc} (hk : keysRise none s.regs = true) (hwr : a.wr = false) (data : Nat) :
    (s.takeReply n a 0 data).get (R.RING_SVC_LO_DATA n) = data % 2 ^ 32
      ∧ (s.takeReply n a 0 data).get (R.RING_SVC_HI_DATA n) = data / 2 ^ 32 % 2 ^ 32 := by
  rw [State.takeReply, if_pos ⟨rfl, hwr⟩]
  exact ⟨(get_put_other (ringKey_ne (by decide)) _ _).trans (get_put_same hk _ data), get_put_same (regs_put_rise hk _ data) _ _⟩

theorem takeReply_write {a : SvcAcc} (hwr : a.wr = true) (res data : Nat) : s.takeReply n a res data = s := by
  simp [State.takeReply, hwr]

variable {a : SvcAcc}

theorem svcComplete_host (hsrc : a.src = .host) (res data : Nat) :
    s.svcComplete n a res data = ((s.dropAccess n).takeReply n a res data).svcHostDone n res := by
  simp only [State.svcComplete, hsrc, State.takeReply, State.dropAccess]

/-- A host access that completes leaves the ring without one, shows its result, and the data as the reply has brought them. -/
theorem svcComplete_host_ends (hrings : keysRise none s.rings = true) (hk : keysRise none s.regs = true) (hsrc : a.src = .host) {res : Nat}
    (hres : res < 4) (data : Nat) : ((s.svcComplete n a res data).ring n).svc = none
      ∧ AccessEnded n res ((s.dropAccess n).takeReply n a res data) (s.svcComplete n a res data) := by
  have hended : AccessEnded n res _ (((s.dropAccess n).takeReply n a res data).svcHostDone n res) :=
    svcHostDone_ends (regs_takeReply_rise (s := s.dropAccess n) hk a res data) hres
  rw [svcComplete_host hsrc]
  refine ⟨?_, hended⟩
  rw [ring_congr (hended.rings.trans (takeReply_frame a res data).1), State.dropAccess, ring_setRing_same hrings]

/-! ### No reply: the access leaves again, or ends (R219) -/

theorem svcRetry_again (hsvc : (s.ring n).svc = some a) (hfly : a.flying = true) (hsends : a.sends < 4) :
    s.svcRetry n = s.setRing n { s.ring n with svc := some { a with flying := false } } := by
  simp [State.svcRetry, hsvc, hfly, hsends]

theorem svcRetry_ends (hsvc : (s.ring n).svc = some a) (hfly : a.flying = true) (hsends : 4 ≤ a.sends) :
    s.svcRetry n = s.svcComplete n a 3 0 := by
  simp [State.svcRetry, hsvc, hfly, Nat.not_lt.mpr hsends]

theorem svcTimeoutEffect_idle (hsvc : (s.ring n).svc = none) : svcTimeoutEffect n s = s := by
  simp [svcTimeoutEffect, State.svcRetry, hsvc]

section
variable (hup : s.ringUp n = true)
include hup

theorem svcReturnEffect_idle (hsvc : (s.ring n).svc = none) : svcReturnEffect n f s = s.rxCheck n f := by
  simp [svcReturnEffect, hup, ring_rxCheck, hsvc]

variable (hsvc : (s.ring n).svc = some a) (hfly : a.flying = true)
include hsvc hfly

theorem svcReturnEffect_reply (hreply : f.reply n = true) (htype : f.ftype = 2) (hseq : seqOf f.h0 = a.seq) (hres : f.result < 3) :
    svcReturnEffect n f s = (s.rxCheck n f).svcComplete n a f.result (f.body.getD 1 0) := by
  simp [svcReturnEffect, hup, ring_rxCheck, hsvc, hfly, hreply, htype, hseq, Nat.ne_of_lt hres]

theorem svcReturnEffect_noReply (h : f.reply n = false ∨ f.ftype ≠ 2 ∨ seqOf f.h0 ≠ a.seq ∨ f.result = 3) :
    svcReturnEffect n f s = (s.rxCheck n f).svcRetry n := by
  have hbad : (f.reply n && decide (f.ftype = 2 ∧ seqOf f.h0 = a.seq) && decide (f.result ≠ 3)) = false := by
    rcases h with h | h | h | h <;> simp [h]
  simp only [svcReturnEffect, hup, ring_rxCheck, hsvc, hfly, hbad, Bool.not_true, Bool.false_eq_true, if_false]

/-- A good reply to a host's access completes it. -/
theorem serviceFrameReturn_completes (hrings : keysRise none s.rings = true) (hk : keysRise none s.regs = true) (hsrc : a.src = .host)
    (hreply : f.reply n = true) (htype : f.ftype = 2) (hseq : seqOf f.h0 = a.seq) (hres : f.result < 3) :
    Reaches (.serviceFrameReturn n f) s (fun t => (t.ring n).svc = none ∧ t.get (R.RING_SVC_CMD_RESULT n) = f.result
      ∧ t.get (R.RING_SVC_CMD_BUSY n) = 0 ∧ t.get (R.RING_STAT_SVC_DONE n) = 1 ∧ t.mem = s.mem
      ∧ (f.result = 0 → a.wr = false → t.get (R.RING_SVC_LO_DATA n) = f.body.getD 1 0 % 2 ^ 32
          ∧ t.get (R.RING_SVC_HI_DATA n) = f.body.getD 1 0 / 2 ^ 32 % 2 ^ 32)
      ∧ (a.wr = true → t.get (R.RING_SVC_LO_DATA n) = s.get (R.RING_SVC_LO_DATA n))) := by
  obtain ⟨hgood, hcrc⟩ := whole_of_reply hreply
  have heff := svcReturnEffect_reply hup hsvc hfly hreply htype hseq hres
  rw [rxCheck_whole hgood hcrc] at heff
  have hk' : keysRise none (s.put (R.RING_ERR_LOC_HOPS n) f.hops).regs = true := regs_put_rise hk _ _
  obtain ⟨hnone, hended⟩ := svcComplete_host_ends (n := n) (s := s.put (R.RING_ERR_LOC_HOPS n) f.hops) hrings hk' hsrc (Nat.lt_succ_of_lt hres)
    (f.body.getD 1 0)
  rw [← heff] at hnone hended
  refine ⟨_, rfl, hnone, hended.result, hended.busy, hended.done, hended.mem.trans (takeReply_frame _ _ _).2, fun h0 hwr => ?_, fun hwr => ?_⟩
  · obtain ⟨hlow, hhigh⟩ := takeReply_read (n := n)
      (s := (s.put (R.RING_ERR_LOC_HOPS n) f.hops).dropAccess n) hk' hwr (f.body.getD 1 0)
    rw [h0] at hended
    exact ⟨hended.low.trans hlow, hended.high.trans hhigh⟩
  · refine hended.low.trans ?_
    rw [takeReply_write hwr]
    exact get_put_ring (by decide) _ s

/-- Without a good reply the access is tried again in a state that differs from the present one in registers and message counters at most. -/
theorem noReply_retries {c : Instr} (hc : c = Instr.serviceReplyTimeout n
      ∨ ∃ r : RxFrame, c = Instr.serviceFrameReturn n r ∧ (r.reply n = false ∨ r.ftype ≠ 2 ∨ seqOf r.h0 ≠ a.seq ∨ r.result = 3)) :
    ∃ u, exec c s = .next (u.svcRetry n) ∧ Keeps s u ∧ u.rings = s.rings ∧ u.mem = s.mem
      ∧ (c = Instr.serviceReplyTimeout n → u.regs = s.regs) := by
  rcases hc with rfl | ⟨r, rfl, hbad⟩
  · exact ⟨s, congrArg Host.Outcome.next (if_pos hup), .refl s, rfl, rfl, fun _ => rfl⟩
  · exact ⟨s.rxCheck n r, congrArg Host.Outcome.next (svcReturnEffect_noReply hup hsvc hfly hbad), (Keeps.refl s).rxCheck, rxCheck_frame.1,
      rxCheck_frame.2, nofun⟩

end

end

/-! ## The statement -/

section
variable {s : State} {n : Nat} (hserv : s.inService = true) (hn : n < s.variant.rings)
include hserv hn

/-- In service a write of SVC_CMD has its effect. -/
theorem exec_serviceAccessStart (v : Nat) : exec (.serviceAccessStart n v) s = .next (svcStartEffect n v s) :=
  congrArg Host.Outcome.next (commanded_ringPage hserv hn (by omega) _)

/-- While BUSY a further access is turned away. -/
theorem serviceAccessStart_busy (v : Nat) (hbusy : s.on (R.RING_SVC_CMD_BUSY n) = true) :
    Reaches (.serviceAccessStart n v) s (fun t => t.rings = s.rings ∧ t.get (R.RING_SVC_CMD_BUSY n) = s.get (R.RING_SVC_CMD_BUSY n) ∧ t.mem = s.mem
      ∧ { cls := .config, unit := ringUnit n, req := .l0, aux := 0x10060 + 0x1000 * n } ∈ t.flt.inbox) := by
  have hn' : n < 96 := lt_of_mem_ringList (List.mem_range.mpr hn)
  have haddr : 0x10000 + 0x1000 * n + 0x60 = 0x10060 + 0x1000 * n := by omega
  refine ⟨_, exec_serviceAccessStart hserv hn v, ?_⟩
  rw [svcStartEffect_busy (inService_ringGlade hserv hn) hbusy, haddr, State.config, addrUnit_ring hn' (by omega)]
  exact ⟨State.putAll_rings _ _, get_showAccess_busy, State.putAll_mem _ _, List.mem_append_right _ (List.mem_singleton.mpr rfl)⟩

/-- An access that cannot run ends at once. -/
theorem serviceAccessStart_ends {v res : Nat} (hres : res < 4) (heff : svcStartEffect n v s = (s.showAccess n v).svcHostDone n res) :
    Reaches (.serviceAccessStart n v) s (fun t => t.get (R.RING_SVC_CMD_RESULT n) = res ∧ t.get (R.RING_SVC_CMD_BUSY n) = 0
      ∧ t.get (R.RING_STAT_SVC_DONE n) = 1 ∧ t.rings = s.rings ∧ t.mem = s.mem) := by
  have hk : keysRise none (s.showAccess n v).regs = true := (Keeps.refl s).putAll.regsRise hserv
  have hended := svcHostDone_ends (n := n) hk hres
  rw [← heff] at hended
  exact ⟨_, exec_serviceAccessStart hserv hn v, hended.result, hended.busy, hended.done, hended.rings.trans (State.putAll_rings _ _),
    hended.mem.trans (State.putAll_mem _ _)⟩

/-- An access to a present cell of a ring that runs accesses waits. -/
theorem serviceAccessStart_waits {v : Nat} (hrings : keysRise none s.rings = true) (hfree : s.on (R.RING_SVC_CMD_BUSY n) = false)
    (hruns : svcRuns (s.ring n).mode = true) (hcell : bitOf (s.get (R.RING_SLOTS_PRESENT n)) (bits v 20 4) = true) :
    Reaches (.serviceAccessStart n v) s (fun t => t.get (R.RING_SVC_CMD_BUSY n) = 1 ∧ t.mem = s.mem
      ∧ (t.ring n).svcHost = some (s.hostAccess n (bits v 20 4) (bits v 0 8) (bits v 29 1))) := by
  have hrings' : keysRise none ((s.showAccess n v).put (R.RING_SVC_CMD_BUSY n) 1).rings = true :=
    (congrArg (keysRise none) (State.putAll_rings s _)).trans hrings
  refine ⟨_, exec_serviceAccessStart hserv hn v, ?_⟩
  dsimp only
  rw [svcStartEffect_waits (inService_ringGlade hserv hn) hfree hruns hcell, ring_setRing_same hrings']
  exact ⟨get_put_value (F := R.RING_SVC_CMD_BUSY n) (v := 1) (by decide : 1 % 2 ^ 1 ≠ 0), State.putAll_mem s _, rfl⟩

end

/-- Settles O32: the start of an access case by case (`serviceAccessStart_waits`, `serviceAccessStart_ends`, `serviceAccessStart_busy`), its send
(`svcSendEffect_sends`), a good reply (`serviceFrameReturn_completes`), and none (`noReply_retries`). -/
theorem serviceAccesses : Obligations.ServiceAccesses := by
  intro s n hserv hn hrings
  have hup : s.ringUp n = true := inService_ringUp hserv hn
  have hglade : s.up (32 + n / 8) = true := inService_ringGlade hserv hn
  have hk : keysRise none s.regs = true := inService_regsRise hserv
  refine ⟨fun slot wa wr hslot hwa hwr => ?_, fun a hruns hlock hrep hsvc hkeys hhost hfly => ⟨fun hidle hfits => ?_, fun h => ?_⟩,
    fun hsvc => ⟨fun f => ?_, congrArg Host.Outcome.next (svcTimeoutEffect_idle hsvc)⟩,
    fun a hsvc hfly => ⟨fun r hsrc hreply htype hseq hres => ?_, fun c hc => ?_⟩⟩
  · obtain ⟨hbslot, hbwr, hbwa⟩ := bits_accessWord hslot hwa hwr
    refine ⟨fun hfree => ⟨fun hruns hcell => ?_, fun hruns => ?_, fun hruns hcell => ?_⟩, serviceAccessStart_busy hserv hn _⟩
    · have hwaits := serviceAccessStart_waits (v := accessWord slot wa wr) hserv hn hrings hfree hruns (by rwa [hbslot])
      rwa [hbslot, hbwr, hbwa] at hwaits
    · exact serviceAccessStart_ends hserv hn (by decide) (svcStartEffect_barred hglade hfree hruns)
    · obtain ⟨t, hexec, hresult, -, -, hkept, hmem⟩ := serviceAccessStart_ends (v := accessWord slot wa wr) hserv hn (by decide)
        (svcStartEffect_absent hglade hfree hruns (by rwa [hbslot]))
      exact ⟨t, hexec, hresult, hkept, hmem⟩
  · have hsent : (s.setRing n (s.sentAccess n a)).ring n = s.sentAccess n a := ring_setRing_same hrings n _
    refine ⟨_, congrArg Host.Outcome.next (svcSendEffect_sends hup hruns hlock hrep hsvc hkeys hhost hfly hidle hfits), ?_⟩
    dsimp only
    rw [hsent]
    exact ⟨rfl, rfl, rfl, rfl, rfl, s.svcFrame n a, rfl, rfl, rfl, rfl⟩
  · exact congrArg Host.Outcome.next (svcSendEffect_waits h)
  · exact ⟨_, congrArg Host.Outcome.next (svcReturnEffect_idle hup hsvc), rxCheck_frame⟩
  · exact serviceFrameReturn_completes hup hsvc hfly hrings hk hsrc hreply htype hseq hres
  · obtain ⟨u, hexec, hkeeps, hkept, hmem, hregs⟩ := noReply_retries hup hsvc hfly hc
    have hsvc' : (u.ring n).svc = some a := by rw [ring_congr hkept, hsvc]
    have hrings' : keysRise none u.rings = true := hkept ▸ hrings
    refine ⟨fun hsends => ⟨_, hexec, ?_⟩, fun hsends hsrc => ⟨_, hexec, ?_⟩⟩
    · dsimp only
      rw [svcRetry_again hsvc' hfly hsends, ring_setRing_same hrings']
      exact ⟨rfl, hmem, hregs⟩
    · obtain ⟨hnone, hended⟩ := svcComplete_host_ends (n := n) hrings' (hkeeps.regsRise hserv) hsrc (by decide : 3 < 4) 0
      rw [svcRetry_ends hsvc' hfly hsends]
      exact ⟨hnone, hended.result, hended.done, hended.mem.trans ((takeReply_frame a 3 0).2.trans hmem)⟩

end Sys2Proof.Machine
end

section
namespace Sys2Proof.Machine

/-! ## A lane that locks with a pattern error counted

A cell lane whose PRBS31 checker has counted an error (R279) locks, and its ring starts at once (R232): PROBE leaves the checker as it was
before its first error. -/

/-- In service, with lane 0 in SYNC, an error counted by its checker, and its ring enabled but DOWN. -/
def erredLaneSyncs : State :=
  { glades := (List.range 44).map (fun g => (g, { inReset := false }))
    host := { phase := .applied }
    regs := [((R.RING_CTRL_EN 0).key, 1)]
    lanes := [(0, { mode := .sync, prbs := true })] }

theorem erredLaneSyncs_inService : erredLaneSyncs.inService = true ∧ erredLaneSyncs.laneUp 0 = true := by decide

theorem exec_laneBlockLock_erredLaneSyncs : ∃ t, exec (.laneBlockLock 0) erredLaneSyncs = .next t ∧ (t.lane 0).prbs = false := by
  refine ⟨_, rfl, ?_⟩
  decide

/-- Refutes O33: its clause on block lock keeps every other part of the lane's state, but the ring that the lock starts clears the checker's
count (R232, R279). -/
theorem not_laneStates : ¬ Obligations.LaneStates := by
  intro h
  obtain ⟨hserv, hup⟩ := erredLaneSyncs_inService
  obtain ⟨-, -, -, -, -, -, -, hsync, -⟩ := h erredLaneSyncs 0 hserv hup (by decide)
  obtain ⟨⟨t, hexec, hlane, -⟩, -⟩ := hsync (by decide)
  obtain ⟨t', hexec', hprbs⟩ := exec_laneBlockLock_erredLaneSyncs
  cases hexec.symm.trans hexec'
  rw [hlane] at hprbs
  exact absurd hprbs (by decide)

end Sys2Proof.Machine
end

section
namespace Sys2Proof.Machine

/-! ## Fields by their place in a page

A field of the page `b + 0x1000 * n` at word offset `o` and bit `lo` has the place `32 * o + lo`. Fields at different places differ, whichever
pages they are on.
-/

/-- The place of a register key in its page. -/
def placeOf (k : Nat) : Nat := k % 0x20000

/-- Two places of pages that are not the same place. -/
abbrev PlacesApart (b o lo b' o' lo' : Nat) : Prop :=
  b % 0x1000 = 0 ∧ b' % 0x1000 = 0 ∧ 32 * o + lo < 0x20000 ∧ 32 * o' + lo' < 0x20000 ∧ 32 * o + lo ≠ 32 * o' + lo'

/-- A place of a page that is not that of IRQ_STAT. -/
abbrev BesideIrqStat (b o lo : Nat) : Prop := b % 0x1000 = 0 ∧ 32 * o + lo < 0x20000 ∧ 32 * o + lo ≠ 32 * 0x14

section
variable {b n o lo w rst b' n' o' lo' w' rst' : Nat} {acc acc' : Access}

theorem placeOf_page (h : b % 0x1000 = 0 ∧ 32 * o + lo < 0x20000) :
    placeOf (⟨b + 0x1000 * n + o, lo, w, rst, acc⟩ : Field).key = 32 * o + lo := by
  simp only [placeOf, Field.key]
  omega

theorem placeOf_irqStat (F : Field) : placeOf (32 * (pageOf F.addr + 0x14)) = 32 * 0x14 := by
  simp only [placeOf, pageOf]
  omega

theorem key_ne_of_place {j k : Nat} (h : placeOf j ≠ placeOf k) : j ≠ k := fun e => h (congrArg placeOf e)

theorem pageKey_ne (h : PlacesApart b o lo b' o' lo') :
    (⟨b + 0x1000 * n + o, lo, w, rst, acc⟩ : Field).key ≠ (⟨b' + 0x1000 * n' + o', lo', w', rst', acc'⟩ : Field).key := by
  obtain ⟨hb, hb', ho, ho', hne⟩ := h
  exact key_ne_of_place (by rwa [placeOf_page ⟨hb, ho⟩, placeOf_page ⟨hb', ho'⟩])

theorem pageKey_ne_irqStat (h : BesideIrqStat b o lo) (F : Field) :
    (⟨b + 0x1000 * n + o, lo, w, rst, acc⟩ : Field).key ≠ 32 * (pageOf F.addr + 0x14) := by
  obtain ⟨hb, ho, hne⟩ := h
  exact key_ne_of_place (by rwa [placeOf_page ⟨hb, ho⟩, placeOf_irqStat])

theorem get_put_page (h : PlacesApart b o lo b' o' lo') (v : Nat) (s : State) :
    (s.put ⟨b' + 0x1000 * n' + o', lo', w', rst', acc'⟩ v).get ⟨b + 0x1000 * n + o, lo, w, rst, acc⟩
      = s.get ⟨b + 0x1000 * n + o, lo, w, rst, acc⟩ :=
  get_put_other (pageKey_ne h) v s

theorem get_raise_page (h : PlacesApart b o lo b' o' lo') (hirq : BesideIrqStat b o lo) (s : State) :
    (s.raise ⟨b' + 0x1000 * n' + o', lo', w', rst', acc'⟩).get ⟨b + 0x1000 * n + o, lo, w, rst, acc⟩
      = s.get ⟨b + 0x1000 * n + o, lo, w, rst, acc⟩ :=
  get_raise_other (pageKey_ne h) (pageKey_ne_irqStat hirq _) s

theorem get_flagIf_page (h : PlacesApart b o lo b' o' lo') (hirq : BesideIrqStat b o lo) (c : Bool) (s : State) :
    (s.flagIf c ⟨b' + 0x1000 * n' + o', lo', w', rst', acc'⟩).get ⟨b + 0x1000 * n + o, lo, w, rst, acc⟩
      = s.get ⟨b + 0x1000 * n + o, lo, w, rst, acc⟩ := by
  cases c
  · rfl
  · exact get_raise_page h hirq s

/-- A raised status bit of a page reads 1. -/
theorem get_raise_page_same (h : BesideIrqStat b o lo) (s : State) :
    (s.raise ⟨b + 0x1000 * n + o, lo, 1, 0, acc⟩).get ⟨b + 0x1000 * n + o, lo, 1, 0, acc⟩ = 1 :=
  get_raise_same (pageKey_ne_irqStat h _) Nat.one_ne_zero rfl s

end

/-! ## Lanes -/

section
variable {s t : State} {l : Nat}

theorem lane_setLane_same (h : keysRise none s.lanes = true) (l : Nat) (x : LaneSt) : (s.setLane l x).lane l = x := tget_tset_same h l x

theorem lane_congr (h : t.lanes = s.lanes) (l : Nat) : t.lane l = s.lane l := by unfold State.lane; rw [h]

theorem lanes_setLane_rise (h : keysRise none s.lanes = true) (l : Nat) (x : LaneSt) : keysRise none (s.setLane l x).lanes = true :=
  keysRise_tset h l x

/-- A lane that works is one of the 116 and, as a cell lane, one of the variant (R264). -/
theorem laneUp_present (h : s.laneUp l = true) : l < 116 ∧ (96 ≤ l ∨ l < s.variant.rings) := by
  simp only [State.laneUp, Bool.and_eq_true, Bool.or_eq_true, decide_eq_true_eq] at h
  exact h.1

/-- The glade of a lane. -/
theorem laneUnit_glade (hl : l < 116) : laneUnit l / 256 = if l < 96 then 32 + l / 8 else if l < 112 then 6 else 7 := by
  unfold laneUnit
  split_ifs <;> omega

theorem pageGlade_lane {addr : Nat} (hl : l < 116) (ha : addr / 0x1000 = 0x100 + l) : pageGlade addr = some (laneUnit l / 256) := by
  rw [laneUnit_glade hl]
  unfold pageGlade
  dsimp only
  rw [ha]
  generalize hp : 0x100 + l = p
  obtain h | h | h : l < 96 ∨ 96 ≤ l ∧ l < 112 ∨ 112 ≤ l := by omega
  · simp (disch := omega) only [if_neg, if_pos]
    rw [show p - 0x100 = l by omega]
  · simp (disch := omega) only [if_neg, if_pos]
  · simp (disch := omega) only [if_neg, if_pos]

theorem pageAbsent_lane {v : Variant} {addr : Nat} (hl : l < 116) (hv : 96 ≤ l ∨ l < v.rings) (ha : addr / 0x1000 = 0x100 + l) :
    pageAbsent v addr = false := by
  simp only [pageAbsent, ha, Bool.or_eq_false_iff, Bool.and_eq_false_iff, decide_eq_false_iff_not]
  omega

/-- The unit that owns the page of a lane is the lane (R13). -/
theorem addrUnit_lane {addr : Nat} (hl : l < 116) (ha : addr / 0x1000 = 0x100 + l) : addrUnit addr = laneUnit l := by
  unfold addrUnit
  dsimp only
  rw [ha]
  generalize hp : 0x100 + l = p
  simp (disch := omega) only [if_neg, if_pos]
  rw [show p - 0x100 = l by omega]

/-- The address of a word of a lane's page. -/
theorem lanePage_addr {o : Nat} (ho : o < 0x1000) : (0x100000 + o + 0x1000 * l) / 0x1000 = 0x100 + l := by omega

end

section
variable {s : State} {l : Nat} (hserv : s.inService = true) (hup : s.laneUp l = true)
include hserv hup

/-- In service the glade of a lane that works runs. -/
theorem inService_laneGlade : s.up (laneUnit l / 256) = true := by
  obtain ⟨hl, hv⟩ := laneUp_present hup
  rw [laneUnit_glade hl]
  split_ifs with h
  · exact inService_ringGlade hserv (by omega)
  · exact inService_common hserv (by decide)
  · exact inService_common hserv (by decide)

theorem inService_laneHere : s.laneHere l = true := by
  obtain ⟨hl, hv⟩ := laneUp_present hup
  simp [State.laneHere, hl, hv, inService_laneGlade hserv hup]

/-- A write with an action of its own to the page of a lane that works, in service. -/
theorem commanded_lanePage {addr : Nat} (ha : addr / 0x1000 = 0x100 + l) (f : State → State) : s.commanded addr f = f s :=
  have ⟨hl, hv⟩ := laneUp_present hup
  commanded_inService hserv (pageGlade_lane hl ha) (inService_laneGlade hserv hup) (pageAbsent_lane hl hv ha) f

end

end Sys2Proof.Machine
end

section
namespace Sys2Proof.Machine

/-! ## A lane leaves LOCKED (R268, R277, R282) -/

/-- The places of the fields that a Canopy port writes as it goes down: IRQ_STAT, PEER.VALID and PSTAT.DOWN. -/
def downPlaces : List Nat := [32 * 0x14, 32 * 0x44 + 31, 32 * 0x48]

/-- The places of the fields that a lane writes as it leaves LOCKED, with those of a Canopy port that goes down with it: STATUS.ALIGNED, the
taps of RX_EQ, STAT.DESKEW and STAT.ES_ABORT, ES_STAT.RESULT. -/
def unlockPlaces : List Nat :=
  downPlaces ++ [32 * 0xC + 3, 32 * 0x48 + 20, 32 * 0x48 + 15, 32 * 0x48 + 10, 32 * 0x48 + 5, 32 * 0x4C + 6, 32 * 0x4C + 8, 32 * 0x5C + 14]

section
variable {W : Nat → Prop} {P : State → Prop} {s : State} {L : List Nat} {b n o lo w rst : Nat} {acc : Access} (hW : ∀ k, placeOf k ∈ L → W k)
include hW

/-- A field of a page at one of the places that may be written. -/
theorem mayPut_places (h : b % 0x1000 = 0 ∧ 32 * o + lo < 0x20000 ∧ 32 * o + lo ∈ L) :
    W (⟨b + 0x1000 * n + o, lo, w, rst, acc⟩ : Field).key := by
  obtain ⟨hb, ho, hmem⟩ := h
  exact hW _ (by rwa [placeOf_page ⟨hb, ho⟩])

theorem mayRaise_places (h : (b % 0x1000 = 0 ∧ 32 * o + lo < 0x20000 ∧ 32 * o + lo ∈ L) ∧ 32 * 0x14 ∈ L) :
    MayRaise W ⟨b + 0x1000 * n + o, lo, w, rst, acc⟩ :=
  ⟨mayPut_places hW h.1, hW _ (by rw [placeOf_irqStat]; exact h.2)⟩

end

theorem Kept.portDown {W : Nat → Prop} {P : State → Prop} {s : State} {p : Nat} (hW : ∀ k, placeOf k ∈ downPlaces → W k) (h : Kept W P s) :
    Kept W P (s.portDown p) :=
  h.thenIf fun h => ((h.update.put (mayPut_places hW (by decide))).raise (mayRaise_places hW (by decide))).post

section
variable {W : Nat → Prop} {P : State → Prop} {s : State} (hW : ∀ k, placeOf k ∈ unlockPlaces → W k)
include hW

theorem Kept.trackTaps {l : Nat} (h : Kept W P s) : Kept W P (s.trackTaps l) := by
  refine h.thenIf fun h => ((h.putAll ?_).update).update
  simp only [List.map_cons, List.map_nil, List.forall_mem_cons, List.not_mem_nil, false_imp_iff, implies_true, and_true]
  exact ⟨mayPut_places hW (by decide), mayPut_places hW (by decide), mayPut_places hW (by decide),
    mayPut_places hW (by decide), mayPut_places hW (by decide)⟩

theorem Kept.scanAbort {l : Nat} (h : Kept W P s) : Kept W P (s.scanAbort l) :=
  h.elseIf fun h => (h.update.put (mayPut_places hW (by decide))).raise (mayRaise_places hW (by decide))

theorem Kept.alignLost {p : Nat} (h : Kept W P s) : Kept W P (s.alignLost p) :=
  h.thenIf fun h => (Kept.post (h.forAll fun h =>
    (h.put (mayPut_places hW (by decide))).raise (mayRaise_places hW (by decide)))).portDown fun k hk => hW k (List.mem_append_left _ hk)

theorem Kept.laneUnlock {l : Nat} {dst : LaneMode} (h : Kept W P s) : Kept W P (s.laneUnlock l dst) :=
  Kept.thenIf ((h.trackTaps hW).scanAbort hW).update fun h => h.update.alignLost hW

end

section
variable {s : State} {l : Nat} {dst : LaneMode}

theorem fieldKept_laneUnlock {F : Field} (hF : placeOf F.key ∉ unlockPlaces) : FieldKept F s (s.laneUnlock l dst) :=
  ((FieldKept.refl s).kept.laneUnlock fun k hk (he : k = F.key) => hF (he ▸ hk)).holds

/-- A field of a page at another place is what it was. -/
theorem get_laneUnlock_page {b n o lo w rst : Nat} {acc : Access} (h : b % 0x1000 = 0 ∧ 32 * o + lo < 0x20000 ∧ 32 * o + lo ∉ unlockPlaces) :
    (s.laneUnlock l dst).get ⟨b + 0x1000 * n + o, lo, w, rst, acc⟩ = s.get ⟨b + 0x1000 * n + o, lo, w, rst, acc⟩ := by
  obtain ⟨hb, ho, hmem⟩ := h
  exact (fieldKept_laneUnlock (by rwa [placeOf_page ⟨hb, ho⟩])).value

theorem mem_laneUnlock : (s.laneUnlock l dst).mem = s.mem := (fieldKept_laneUnlock (F := ⟨0, 0, 0, 0, .ro⟩) (by decide)).mem

@[simp] theorem portDown_lanes (p : Nat) (s : State) : (s.portDown p).lanes = s.lanes := by
  unfold State.portDown
  split
  · simp
  · rfl

theorem alignLost_lanes (p : Nat) (s : State) : (s.alignLost p).lanes = s.lanes := by
  unfold State.alignLost
  split
  · rw [portDown_lanes, State.event_lanes]
    exact forAll_induction (P := fun u => u.lanes = s.lanes) rfl fun q _ u hu => by rw [State.raise_lanes, State.put_lanes, hu]
  · rfl

theorem trackTaps_lanes_rise (h : keysRise none s.lanes = true) : keysRise none (s.trackTaps l).lanes = true := by
  unfold State.trackTaps
  split
  · rw [State.useFree_lanes]
    exact lanes_setLane_rise (by rwa [State.putAll_lanes]) _ _
  · exact h

theorem scanAbort_lane (h : keysRise none s.lanes = true) :
    (s.scanAbort l).lane l = { s.lane l with scan := .none } ∧ keysRise none (s.scanAbort l).lanes = true := by
  unfold State.scanAbort
  dsimp only
  split
  · next hnone => exact ⟨by rw [← hnone], h⟩
  · rw [lane_congr (State.raise_lanes _ _), lane_congr (State.put_lanes _ _ _), State.raise_lanes, State.put_lanes]
    exact ⟨lane_setLane_same h l _, lanes_setLane_rise h l _⟩

/-- A lane that leaves LOCKED has no scan and no re-adaptation. -/
theorem lane_laneUnlock (h : keysRise none s.lanes = true) :
    ((s.laneUnlock l dst).lane l).mode = dst ∧ ((s.laneUnlock l dst).lane l).scan = .none ∧ ((s.laneUnlock l dst).lane l).readapt = false := by
  obtain ⟨hscan, hrise⟩ := scanAbort_lane (s := s.trackTaps l) (l := l) (trackTaps_lanes_rise h)
  unfold State.laneUnlock
  dsimp only
  split
  · rw [lane_congr (alignLost_lanes _ _), lane_congr (State.setPort_lanes _ _ _), lane_setLane_same hrise, hscan]
    exact ⟨rfl, rfl, rfl⟩
  · rw [lane_setLane_same hrise, hscan]
    exact ⟨rfl, rfl, rfl⟩

end

/-! ## A loss of lock (R269) -/

/-- The state in which a loss of lock of a lane has been counted. -/
def State.countLoss (l : Nat) (hiBer : Bool) (s : State) : State :=
  (((s.raise (R.LANE_STAT_LOL l)).flagIf hiBer (R.LANE_STAT_HIBER l)).addTo (R.LANE_CNT_LOL l) 1).addSat (R.LANE_CNT_LOL_WIN l) 1

/-- The event of a loss of lock: at least at L2, and one that fences, where the losses of the window have come to LOL_LIM. -/
def lossEvent (l lim win : Nat) : Event :=
  if lim ≠ 0 ∧ lim ≤ win then { cls := .lane, unit := laneUnit l, req := .atLeast 2, fences := true } else { cls := .lane, unit := laneUnit l }

section
variable {l lim win : Nat}

theorem lossEvent_cls (l lim win : Nat) : (lossEvent l lim win).cls = .lane := by unfold lossEvent; split <;> rfl

theorem lossEvent_never : lossEvent l 0 win = { cls := .lane, unit := laneUnit l } := if_neg fun h => h.1 rfl

theorem lossEvent_limit (hlim : lim ≠ 0) (hle : lim ≤ win) :
    lossEvent l lim win = { cls := .lane, unit := laneUnit l, req := .atLeast 2, fences := true } := if_pos ⟨hlim, hle⟩

end

section
variable {s : State} {l : Nat} (hiBer : Bool)

theorem lossOfLock_eq (dst : LaneMode) : s.lossOfLock l hiBer dst = ((s.countLoss l hiBer).post
    (lossEvent l ((s.countLoss l hiBer).get (R.LANE_CFG_LOL_LIM l)) ((s.countLoss l hiBer).get (R.LANE_CNT_LOL_WIN l)))).laneUnlock l dst := by
  unfold lossEvent
  split <;> rename_i h
  · exact congrArg (State.laneUnlock l dst) (if_pos h)
  · exact congrArg (State.laneUnlock l dst) (if_neg h)

theorem countLoss_lanes : (s.countLoss l hiBer).lanes = s.lanes := by cases hiBer <;> simp [State.countLoss, State.flagIf]

theorem countLoss_mem : (s.countLoss l hiBer).mem = s.mem := by cases hiBer <;> simp [State.countLoss, State.flagIf]

theorem countLoss_lim : (s.countLoss l hiBer).get (R.LANE_CFG_LOL_LIM l) = s.get (R.LANE_CFG_LOL_LIM l) :=
  (get_put_page (by decide) _ _).trans <| (get_put_page (by decide) _ _).trans <|
    (get_flagIf_page (by decide) (by decide) _ _).trans (get_raise_page (by decide) (by decide) s)

theorem countLoss_stat : (s.countLoss l hiBer).get (R.LANE_STAT_LOL l) = 1 :=
  (get_put_page (by decide) _ _).trans <| (get_put_page (by decide) _ _).trans <|
    (get_flagIf_page (by decide) (by decide) _ _).trans (get_raise_page_same (by decide) s)

section
variable (hserv : s.inService = true)
include hserv

theorem countLoss_lol : (s.countLoss l hiBer).get (R.LANE_CNT_LOL l) = (s.get (R.LANE_CNT_LOL l) + 1) % 2 ^ (R.LANE_CNT_LOL l).w := by
  have hk : keysRise none ((s.raise (R.LANE_STAT_LOL l)).flagIf hiBer (R.LANE_STAT_HIBER l)).regs = true :=
    (Keeps.refl s).raise.flagIf.regsRise hserv
  have hold : ((s.raise (R.LANE_STAT_LOL l)).flagIf hiBer (R.LANE_STAT_HIBER l)).get (R.LANE_CNT_LOL l) = s.get (R.LANE_CNT_LOL l) :=
    (get_flagIf_page (by decide) (by decide) _ _).trans (get_raise_page (by decide) (by decide) s)
  rw [← hold]
  exact (get_put_page (by decide) _ _).trans (get_put_same hk _ _)

/-- The window's count, below its bound. -/
theorem countLoss_win (hwin : s.get (R.LANE_CNT_LOL_WIN l) + 1 < 2 ^ (R.LANE_CNT_LOL_WIN l).w) :
    (s.countLoss l hiBer).get (R.LANE_CNT_LOL_WIN l) = s.get (R.LANE_CNT_LOL_WIN l) + 1 := by
  have hk : keysRise none (((s.raise (R.LANE_STAT_LOL l)).flagIf hiBer (R.LANE_STAT_HIBER l)).addTo (R.LANE_CNT_LOL l) 1).regs = true :=
    (Keeps.refl s).raise.flagIf.addTo.regsRise hserv
  have hold : (((s.raise (R.LANE_STAT_LOL l)).flagIf hiBer (R.LANE_STAT_HIBER l)).addTo (R.LANE_CNT_LOL l) 1).get (R.LANE_CNT_LOL_WIN l)
      = s.get (R.LANE_CNT_LOL_WIN l) :=
    (get_put_page (by decide) _ _).trans <| (get_flagIf_page (by decide) (by decide) _ _).trans (get_raise_page (by decide) (by decide) s)
  refine (get_put_same hk _ _).trans ?_
  rw [hold, satTo, if_pos (by omega), Nat.mod_eq_of_lt hwin]

/-- What a loss of lock shows: the lane leaves LOCKED, the loss is counted and reported. -/
theorem lossOfLock_shows (hlanes : keysRise none s.lanes = true) (dst : LaneMode) {t : State} (ht : t = s.lossOfLock l hiBer dst) :
    (t.lane l).mode = dst ∧ (t.lane l).scan = .none ∧ (t.lane l).readapt = false ∧ t.mem = s.mem
      ∧ t.get (R.LANE_CNT_LOL l) = (s.get (R.LANE_CNT_LOL l) + 1) % 2 ^ (R.LANE_CNT_LOL l).w ∧ t.get (R.LANE_STAT_LOL l) = 1
      ∧ (s.get (R.LANE_CFG_LOL_LIM l) = 0 → { cls := .lane, unit := laneUnit l } ∈ t.flt.inbox)
      ∧ (s.get (R.LANE_CFG_LOL_LIM l) ≠ 0 → s.get (R.LANE_CFG_LOL_LIM l) ≤ s.get (R.LANE_CNT_LOL_WIN l) + 1 →
          s.get (R.LANE_CNT_LOL_WIN l) + 1 < 2 ^ (R.LANE_CNT_LOL_WIN l).w →
          { cls := .lane, unit := laneUnit l, req := .atLeast 2, fences := true } ∈ t.flt.inbox) := by
  subst ht
  rw [lossOfLock_eq, countLoss_lim]
  have hlimit := lossEvent_limit (l := l) (lim := s.get (R.LANE_CFG_LOL_LIM l)) (win := (s.countLoss l hiBer).get (R.LANE_CNT_LOL_WIN l))
  have hcls := lossEvent_cls l (s.get (R.LANE_CFG_LOL_LIM l)) ((s.countLoss l hiBer).get (R.LANE_CNT_LOL_WIN l))
  generalize hev : lossEvent l (s.get (R.LANE_CFG_LOL_LIM l)) ((s.countLoss l hiBer).get (R.LANE_CNT_LOL_WIN l)) = e at hlimit hcls ⊢
  have hlane : keysRise none ((s.countLoss l hiBer).post e).lanes = true := by rwa [State.post_lanes, countLoss_lanes]
  have hpost : e ∈ (((s.countLoss l hiBer).post e).laneUnlock l dst).flt.inbox :=
    (InboxKept.refl _).laneUnlock.inbox _ (List.mem_append_right _ (List.mem_singleton.mpr rfl)) (by rw [hcls]; decide)
  obtain ⟨hmode, hscan, hreadapt⟩ := lane_laneUnlock (l := l) (dst := dst) hlane
  refine ⟨hmode, hscan, hreadapt, mem_laneUnlock.trans (countLoss_mem hiBer), (get_laneUnlock_page (by decide)).trans (countLoss_lol hiBer hserv),
    (get_laneUnlock_page (by decide)).trans (countLoss_stat hiBer), fun hlim => ?_, fun hlim hle hbound => ?_⟩
  · rw [hlim, lossEvent_never] at hev
    rwa [hev]
  · rwa [← hlimit hlim (by rwa [countLoss_win hiBer hserv hbound])]

end
end

end Sys2Proof.Machine
end

section
namespace Sys2Proof.Machine

/-! ## A write that the page of a lane refuses (R732, R903) -/

section
variable {s : State} {l : Nat}

theorem config_lanePage {o : Nat} (hl : l < 116) (ho : o < 0x1000) : (s.config (lanePage l + o)).flt.inbox
    = s.flt.inbox ++ [{ cls := .config, unit := laneUnit l, req := .l0, aux := 0x100000 + o + 0x1000 * l }] := by
  have hpage : (lanePage l + o) / 0x1000 = 0x100 + l := by unfold lanePage; omega
  have haux : lanePage l + o = 0x100000 + o + 0x1000 * l := by unfold lanePage; omega
  unfold State.config
  rw [addrUnit_lane hl hpage, haux]
  rfl

end

/-! ## Re-adaptation (R272, R273) -/

section
variable {s : State} {l : Nat} (hhere : s.laneHere l = true)
include hhere

theorem readaptEffect_refused (h : s.get (R.LANE_CFG_ADAPT l) = 0 ∨ (s.lane l).mode ≠ .locked) : readaptEffect l s = s.config (lanePage l + 8) := by
  rw [readaptEffect, State.readaptIn, if_pos hhere, if_pos h]
  exact configOnce_quiet rfl _

variable (hlock : (s.lane l).mode = .locked)
include hlock

theorem readaptEffect_left (h : s.get (R.LANE_CFG_ADAPT l) = 2) : readaptEffect l s = s := by
  rw [readaptEffect, State.readaptIn, if_pos hhere, if_neg (by simp [h, hlock]), if_neg (by simp [h])]

variable (hadapt : s.get (R.LANE_CFG_ADAPT l) = 1)
include hadapt

theorem readaptEffect_starts (h : (s.lane l).scan ≠ .running) : readaptEffect l s = s.setLane l { s.lane l with readapt := true } := by
  rw [readaptEffect, State.readaptIn, if_pos hhere, if_neg (by simp [hadapt, hlock]), if_pos hadapt]
  exact if_neg h

theorem readaptEffect_waits (h : (s.lane l).scan = .running) : readaptEffect l s = s.setLane l { s.lane l with defer := true } := by
  rw [readaptEffect, State.readaptIn, if_pos hhere, if_neg (by simp [hadapt, hlock]), if_pos hadapt]
  exact if_pos h

end

/-- The taps of RX_EQ (R297). -/
def tapFields (l : Nat) : List Field := [R.LANE_RX_EQ_T1 l, R.LANE_RX_EQ_T2 l, R.LANE_RX_EQ_T3 l, R.LANE_RX_EQ_T4 l, R.LANE_RX_EQ_T5 l]

theorem tapFields_nodup (l : Nat) : ((tapFields l).map Field.key).Nodup := by
  simp only [tapFields, List.map_cons, List.map_nil, List.nodup_cons, List.mem_cons, List.not_mem_nil, or_false, not_or]
  refine ⟨⟨?_, ?_, ?_, ?_⟩, ⟨?_, ?_, ?_⟩, ⟨?_, ?_⟩, ?_, not_false, List.nodup_nil⟩ <;> exact pageKey_ne (by decide)

section
variable {s : State} {l : Nat}

theorem putTaps_shows (hk : keysRise none s.regs = true) (v : Nat) : (s.putTaps l v).get (R.LANE_RX_EQ_T1 l) = v / 2 ^ 20 % 64
    ∧ (s.putTaps l v).get (R.LANE_RX_EQ_T2 l) = v / 2 ^ 15 % 32 := by
  have key : ∀ {F : Field} {w : Nat}, (F, w) ∈ (tapFields l).zip [bits v 20 6, bits v 15 5, bits v 10 5, bits v 5 5, bits v 0 5] →
      (s.putTaps l v).get F = w % 2 ^ F.w := fun hF => get_putAll_zip_mem hk (tapFields_nodup l) hF
  exact ⟨(key (w := bits v 20 6) (by simp [tapFields])).trans (Nat.mod_mod _ _),
    (key (w := bits v 15 5) (by simp [tapFields])).trans (Nat.mod_mod _ _)⟩

/-- The state of a lane as its re-adaptation ends. -/
def LaneSt.adapted (x : LaneSt) : LaneSt :=
  if x.scan = .running then { x with readapt := false } else ({ x with readapt := false } : LaneSt).afterScan

theorem adapted_readapt {x : LaneSt} (h : x.defer = false) : x.adapted.readapt = false := by
  unfold LaneSt.adapted LaneSt.afterScan
  split
  · rfl
  · simp only [h, Bool.false_eq_true, if_false]
    split <;> rfl

variable (hup : s.laneUp l = true) (hreadapt : (s.lane l).readapt = true)
include hup hreadapt

theorem readaptDoneEffect_frozen (h : s.get (R.LANE_CFG_ADAPT l) = 0 ∨ (s.lane l).eqAt = some s.elapsed) (v : Nat) :
    readaptDoneEffect l v s = s.setLane l (s.lane l).adapted := by
  have hkeep : s.get (R.LANE_CFG_ADAPT l) = 0 ∨ s.eqWritten l = true := h.imp_right fun h => by simp [State.eqWritten, h]
  rw [readaptDoneEffect, if_pos (by simp [hup, hreadapt])]
  dsimp only
  rw [if_pos hkeep]
  rfl

theorem readaptDoneEffect_writes (hadapt : s.get (R.LANE_CFG_ADAPT l) ≠ 0) (heq : (s.lane l).eqAt ≠ some s.elapsed) (v : Nat) :
    readaptDoneEffect l v s = (s.putTaps l v).setLane l (s.lane l).adapted := by
  have hwrite : ¬ (s.get (R.LANE_CFG_ADAPT l) = 0 ∨ s.eqWritten l = true) := by simp [State.eqWritten, hadapt, heq]
  have hlane : (s.putTaps l v).lane l = s.lane l := lane_congr (State.putAll_lanes _ _) l
  rw [readaptDoneEffect, if_pos (by simp [hup, hreadapt])]
  dsimp only
  rw [if_neg hwrite, hlane]
  rfl

/-- What the end of a re-adaptation shows. -/
theorem readaptDoneEffect_shows (hk : keysRise none s.regs = true) (hlanes : keysRise none s.lanes = true) (v : Nat) {t : State}
    (ht : t = readaptDoneEffect l v s) :
    (s.get (R.LANE_CFG_ADAPT l) ≠ 0 → (s.lane l).eqAt ≠ some s.elapsed →
      t.get (R.LANE_RX_EQ_T1 l) = v / 2 ^ 20 % 64 ∧ t.get (R.LANE_RX_EQ_T2 l) = v / 2 ^ 15 % 32)
    ∧ ((s.get (R.LANE_CFG_ADAPT l) = 0 ∨ (s.lane l).eqAt = some s.elapsed) →
      t.get (R.LANE_RX_EQ_T1 l) = s.get (R.LANE_RX_EQ_T1 l) ∧ t.get (R.LANE_RX_EQ_T2 l) = s.get (R.LANE_RX_EQ_T2 l))
    ∧ t.mem = s.mem ∧ ((s.lane l).defer = false → (t.lane l).readapt = false) := by
  subst ht
  by_cases h : s.get (R.LANE_CFG_ADAPT l) = 0 ∨ (s.lane l).eqAt = some s.elapsed
  · rw [readaptDoneEffect_frozen hup hreadapt h, lane_setLane_same hlanes]
    exact ⟨fun ha he => absurd h (by simp [ha, he]), fun _ => ⟨rfl, rfl⟩, rfl, adapted_readapt⟩
  · obtain ⟨hadapt, heq⟩ := not_or.mp h
    rw [readaptDoneEffect_writes hup hreadapt hadapt heq, lane_setLane_same (by rwa [State.putTaps, State.putAll_lanes])]
    exact ⟨fun _ _ => putTaps_shows hk v, fun h' => absurd h' h, State.putAll_mem _ _, adapted_readapt⟩

end

/-! ## TX_EQ (R274, R825) -/

/-- The fields of TX_EQ that a write takes whole or not at all. -/
def cursorFields (l : Nat) : List Field := [R.LANE_TX_EQ_PRE l, R.LANE_TX_EQ_POST l, R.LANE_TX_EQ_MAIN l]

theorem cursorFields_nodup (l : Nat) : ((cursorFields l).map Field.key).Nodup := by
  simp only [cursorFields, List.map_cons, List.map_nil, List.nodup_cons, List.mem_cons, List.not_mem_nil, or_false, not_or]
  refine ⟨⟨?_, ?_⟩, ?_, not_false, List.nodup_nil⟩ <;> exact pageKey_ne (by decide)

/-- The cursors of a written word are out of bounds (R274). -/
abbrev BadCursors (v : Nat) : Prop := 63 < bits v 0 5 + bits v 10 6 + bits v 5 5 ∨ 15 < bits v 0 5 ∨ bits v 10 6 < 32

section
variable {s : State} {l : Nat}

/-- LOCKV and its CONFIG event, where SWING was locked. -/
def State.swingRefused (l : Nat) (s : State) : State := (s.raise (R.LANE_STATUS_LOCKV l)).config (lanePage l + 0x44)

/-- SWING is locked. -/
def State.swingLocked (s : State) (l : Nat) : Bool := s.on (R.LANE_LOCK_LOCK l) || s.laneUsed l

variable (hhere : s.laneHere l = true) {v : Nat}
include hhere

theorem txEqEffect_refused (h : BadCursors v) : txEqEffect l v s
    = (if s.swingLocked l then s.raise (R.LANE_STATUS_LOCKV l) else s).config (lanePage l + 0x44) := by
  rw [txEqEffect, if_pos hhere]
  simp [h, State.swingLocked]

theorem txEqEffect_taken (h : ¬ BadCursors v) : txEqEffect l v s
    = if s.swingLocked l then (s.putAll ((cursorFields l).zip [bits v 0 5, bits v 5 5, bits v 10 6])).swingRefused l
      else (s.putAll ((cursorFields l).zip [bits v 0 5, bits v 5 5, bits v 10 6])).put (R.LANE_TX_EQ_SWING l) (bits v 16 3) := by
  rw [txEqEffect, if_pos hhere]
  cases hlocked : s.swingLocked l <;> rw [State.swingLocked] at hlocked <;> simp [h, hlocked, cursorFields, State.swingRefused]

theorem txEqEffect_refused_shows (hl : l < 116) (h : BadCursors v) {t : State} (ht : t = txEqEffect l v s) :
    t.get (R.LANE_TX_EQ_MAIN l) = s.get (R.LANE_TX_EQ_MAIN l) ∧ t.get (R.LANE_TX_EQ_PRE l) = s.get (R.LANE_TX_EQ_PRE l)
      ∧ { cls := .config, unit := laneUnit l, req := .l0, aux := 0x100044 + 0x1000 * l } ∈ t.flt.inbox := by
  rw [ht, txEqEffect_refused hhere h]
  refine ⟨?_, ?_, ?_⟩
  · exact get_flagIf_page (by decide) (by decide) (s.swingLocked l) s
  · exact get_flagIf_page (by decide) (by decide) (s.swingLocked l) s
  · rw [config_lanePage (o := 0x44) hl (by decide)]
    exact List.mem_append_right _ (List.mem_singleton.mpr rfl)

theorem txEqEffect_taken_shows (hk : keysRise none s.regs = true) (h : ¬ BadCursors v) {t : State} (ht : t = txEqEffect l v s) :
    t.get (R.LANE_TX_EQ_MAIN l) = v / 2 ^ 10 % 64 ∧ t.get (R.LANE_TX_EQ_POST l) = v / 2 ^ 5 % 32 ∧ t.get (R.LANE_TX_EQ_PRE l) = v % 32
      ∧ t.lanes = s.lanes ∧ t.mem = s.mem := by
  rw [ht, txEqEffect_taken hhere h]
  set u := s.putAll ((cursorFields l).zip [bits v 0 5, bits v 5 5, bits v 10 6]) with hu
  have key : ∀ {F : Field} {w : Nat}, (F, w) ∈ (cursorFields l).zip [bits v 0 5, bits v 5 5, bits v 10 6] → u.get F = w % 2 ^ F.w :=
    fun hF => get_putAll_zip_mem hk (cursorFields_nodup l) hF
  have hmain : u.get (R.LANE_TX_EQ_MAIN l) = v / 2 ^ 10 % 64 := (key (w := bits v 10 6) (by simp [cursorFields])).trans (Nat.mod_mod _ _)
  have hpost : u.get (R.LANE_TX_EQ_POST l) = v / 2 ^ 5 % 32 := (key (w := bits v 5 5) (by simp [cursorFields])).trans (Nat.mod_mod _ _)
  have hpre : u.get (R.LANE_TX_EQ_PRE l) = v % 32 := (key (w := bits v 0 5) (by simp [cursorFields])).trans (by simp [bits, R.LANE_TX_EQ_PRE])
  have hframe : u.lanes = s.lanes ∧ u.mem = s.mem := ⟨State.putAll_lanes _ _, State.putAll_mem _ _⟩
  split
  · refine ⟨?_, ?_, ?_, (State.raise_lanes _ _).trans hframe.1, (State.raise_mem _ _).trans hframe.2⟩
    · exact (get_raise_page (by decide) (by decide) u).trans hmain
    · exact (get_raise_page (by decide) (by decide) u).trans hpost
    · exact (get_raise_page (by decide) (by decide) u).trans hpre
  · refine ⟨?_, ?_, ?_, hframe⟩
    · exact (get_put_page (by decide) _ u).trans hmain
    · exact (get_put_page (by decide) _ u).trans hpost
    · exact (get_put_page (by decide) _ u).trans hpre

end

/-! ## The receiver's errors (R266, R279, R298) -/

section
variable {s t : State} {l : Nat}

/-- A status bit of a lane changes its own field and IRQ_STAT alone (R4). -/
theorem regsKeptBut_raiseLane {o lo w rst : Nat} {acc : Access} (ho : o < 0x1000) (s : State) :
    RegsKeptBut [⟨0x100000 + 0x1000 * l + o, lo, w, rst, acc⟩, R.LANE_IRQ_STAT_PEND l] s (s.raise ⟨0x100000 + 0x1000 * l + o, lo, w, rst, acc⟩) := by
  intro G hG
  have hirq : G.key ≠ (R.LANE_IRQ_STAT_PEND l).key := hG _ (by simp)
  have hword : (R.LANE_IRQ_STAT_PEND l).key = 32 * (pageOf (0x100000 + 0x1000 * l + o) + 0x14) := by
    simp only [Field.key, R.LANE_IRQ_STAT_PEND, pageOf]
    omega
  exact get_raise_other (hG _ (by simp)) (hword ▸ hirq) s

/-- What the elastic buffer's recentring does to the ring whose frame is in passage. -/
theorem elasticEffect_rings (hup : s.laneUp l = true) : (elasticEffect l s).rings
    = if l < 96 ∧ (s.ring l).lose ≠ s.ring l then ((s.raise (R.LANE_STAT_ELASTIC l)).setRing l (s.ring l).lose).rings else s.rings := by
  rw [elasticEffect, if_pos hup]
  split
  · rfl
  · exact State.raise_rings _ _

theorem elasticEffect_regs (hup : s.laneUp l = true) : (elasticEffect l s).regs = (s.raise (R.LANE_STAT_ELASTIC l)).regs
    ∧ (elasticEffect l s).lanes = s.lanes := by
  rw [elasticEffect, if_pos hup]
  split
  · exact ⟨rfl, State.raise_lanes _ _⟩
  · exact ⟨rfl, State.raise_lanes _ _⟩

theorem get_congr {F : Field} (h : t.regs = s.regs) : t.get F = s.get F := by unfold State.get; rw [h]

theorem on_congr {F : Field} (h : t.get F = s.get F) : t.on F = s.on F := congrArg (fun v => decide (v ≠ 0)) h

theorem elasticEffect_shows (hup : s.laneUp l = true) {t : State} (ht : t = elasticEffect l s) :
    t.get (R.LANE_STAT_ELASTIC l) = 1 ∧ RegsKeptBut [R.LANE_STAT_ELASTIC l, R.LANE_IRQ_STAT_PEND l] s t ∧ t.lanes = s.lanes
      ∧ (keysRise none s.rings = true → l < 96 → t.ring l = (s.ring l).lose) ∧ (∀ m, m ≠ l ∨ 96 ≤ l → t.ring m = s.ring m) := by
  subst ht
  obtain ⟨hregs, hlanes⟩ := elasticEffect_regs hup
  refine ⟨?_, fun G hG => ?_, hlanes, fun hrings hl => ?_, fun m hm => ?_⟩
  · exact (get_congr hregs).trans (get_raise_page_same (by decide) s)
  · exact (get_congr hregs).trans (regsKeptBut_raiseLane (by decide) s G hG)
  · by_cases hlose : (s.ring l).lose = s.ring l
    · rw [ring_congr ((elasticEffect_rings hup).trans (if_neg fun h => h.2 hlose)), hlose]
    · rw [ring_congr ((elasticEffect_rings hup).trans (if_pos ⟨hl, hlose⟩))]
      exact ring_setRing_same (by rwa [State.raise_rings]) l _
  · by_cases hcut : l < 96 ∧ (s.ring l).lose ≠ s.ring l
    · rw [ring_congr ((elasticEffect_rings hup).trans (if_pos hcut)), ring_setRing_other (by omega)]
      exact ring_congr (State.raise_rings _ _) m
    · exact ring_congr ((elasticEffect_rings hup).trans (if_neg hcut)) m

theorem badHeaderEffect_shows (hserv : s.inService = true) (hup : s.laneUp l = true) (hon : (s.lane l).mode ≠ .off) (b : Bool) {t : State}
    (ht : t = badHeaderEffect l b s) :
    t.get (R.LANE_STAT_CODE_ERR l) = 1 ∧ t.lanes = s.lanes ∧ t.mem = s.mem
      ∧ (b = false → t.get (R.LANE_CNT_HDR_ERR l) = (s.get (R.LANE_CNT_HDR_ERR l) + 1) % 2 ^ (R.LANE_CNT_HDR_ERR l).w)
      ∧ (b = true → t.get (R.LANE_CNT_HDR_ERR l) = s.get (R.LANE_CNT_HDR_ERR l)) := by
  have hold : (s.raise (R.LANE_STAT_CODE_ERR l)).get (R.LANE_CNT_HDR_ERR l) = s.get (R.LANE_CNT_HDR_ERR l) :=
    get_raise_page (by decide) (by decide) s
  have hset : (s.raise (R.LANE_STAT_CODE_ERR l)).get (R.LANE_STAT_CODE_ERR l) = 1 := get_raise_page_same (by decide) s
  rw [ht, badHeaderEffect, if_pos (by simp [hup, hon])]
  cases b
  · refine ⟨(get_put_page (by decide) _ _).trans hset, State.raise_lanes _ _, State.raise_mem _ _, fun _ => ?_, by simp⟩
    rw [← hold]
    exact get_put_same ((Keeps.refl s).raise.regsRise hserv) _ _
  · exact ⟨hset, State.raise_lanes _ _, State.raise_mem _ _, by simp, fun _ => hold⟩

end

/-! ## The pattern checker (R279, R287) -/

section
variable {s t : State} {l : Nat}

theorem prbsEffect_idle (h : s.laneUsed l = true ∨ (s.lane l).mode = .off) : prbsEffect l s = s := by
  refine if_neg ?_
  obtain h | h := h <;> simp [State.testApplies, h]

/-- A lane works as in another state that has its glades, the collector and whether it repeats. -/
theorem laneUp_congr (hv : t.variant = s.variant) (hg : t.glades = s.glades) (hf : t.flt = s.flt) (hr : (t.lane l).rep = (s.lane l).rep) :
    t.laneUp l = s.laneUp l := by
  unfold State.laneUp State.repeatsOn State.unitUp State.up State.gladeFenced State.unitFenced State.glade
  dsimp only
  rw [hv, hg, hf, hr]

/-- The user of a lane is enabled as in another state with the same rings and the same enables. -/
theorem laneUsed_congr (hr : t.rings = s.rings) (hc : ∀ p, t.get (R.CANOPY_CTRL_EN p) = s.get (R.CANOPY_CTRL_EN p))
    (he : ∀ p, t.get (R.ETH_CTRL_EN p) = s.get (R.ETH_CTRL_EN p)) : t.laneUsed l = s.laneUsed l := by
  simp only [State.laneUsed, State.on, ring_congr hr, hc, he]

/-- The first error of a pattern checker, with what was counted before it. -/
def State.firstPrbsError (l : Nat) (s : State) : State :=
  ((s.setLane l { s.lane l with prbs := true }).addSat (R.LANE_TEST_ERRS l) 1).raise (R.LANE_STAT_PRBS_ERR l)

/-- A field of a page beside ERRS and PRBS_ERR. -/
theorem get_firstPrbsError_page {b n o lo w rst : Nat} {acc : Access}
    (h : BesideIrqStat b o lo ∧ 32 * o + lo ≠ 32 * 0x54 + 16 ∧ 32 * o + lo ≠ 32 * 0x4C + 1) :
    (s.firstPrbsError l).get ⟨b + 0x1000 * n + o, lo, w, rst, acc⟩ = s.get ⟨b + 0x1000 * n + o, lo, w, rst, acc⟩ := by
  obtain ⟨hirq, herrs, hstat⟩ := h
  exact (get_raise_page ⟨hirq.1, by decide, hirq.2.1, by decide, hstat⟩ hirq _).trans
    (get_put_page ⟨hirq.1, by decide, hirq.2.1, by decide, herrs⟩ _ (s.setLane l { s.lane l with prbs := true }))

variable (hk : keysRise none s.regs = true) (hlanes : keysRise none s.lanes = true) (hup : s.laneUp l = true)
  (hchk : s.on (R.LANE_TEST_CHK l) = true) (hrate : s.on (R.LANE_CFG_RATE l) = false) (hused : s.laneUsed l = false)
include hlanes hup hchk hrate hused

/-- After an error the checker of a lane with a recovered clock has synchronised. -/
theorem firstPrbsError_sync (hclk : clocked (s.lane l).mode = true) : (s.firstPrbsError l).prbsSync l = 1 := by
  have hl : (s.firstPrbsError l).lanes = (s.setLane l { s.lane l with prbs := true }).lanes := by simp [State.firstPrbsError]
  have hlane : (s.firstPrbsError l).lane l = { s.lane l with prbs := true } := (lane_congr hl l).trans (lane_setLane_same hlanes l _)
  have hup' : (s.firstPrbsError l).laneUp l = true :=
    (laneUp_congr (by simp [State.firstPrbsError]) (by simp [State.firstPrbsError]) (by simp [State.firstPrbsError]) (by rw [hlane])).trans hup
  have hused' : (s.firstPrbsError l).laneUsed l = false :=
    (laneUsed_congr (by simp [State.firstPrbsError]) (fun _ => get_firstPrbsError_page (by decide))
      (fun _ => get_firstPrbsError_page (by decide))).trans hused
  have hrate' : (s.firstPrbsError l).on (R.LANE_CFG_RATE l) = false :=
    (on_congr (get_firstPrbsError_page (by decide))).trans hrate
  have hchk' : (s.firstPrbsError l).on (R.LANE_TEST_CHK l) = true :=
    (on_congr (get_firstPrbsError_page (by decide))).trans hchk
  simp [State.prbsSync, State.testApplies, hup', hrate', hused', hchk', hlane, hclk]

include hk in
theorem prbsEffect_shows (hon : (s.lane l).mode ≠ .off) (herrs : s.get (R.LANE_TEST_ERRS l) = 0) {t : State} (ht : t = prbsEffect l s) :
    t.get (R.LANE_TEST_ERRS l) = 1 ∧ t.get (R.LANE_STAT_PRBS_ERR l) = 1 ∧ t.lane l = { s.lane l with prbs := true } ∧ t.mem = s.mem
      ∧ (clocked (s.lane l).mode = true → t.prbsSync l = 1) := by
  have heff : prbsEffect l s = s.firstPrbsError l := by
    rw [prbsEffect, if_pos (by simp [hup, hon, hchk, State.testApplies, hrate, hused])]
    simp [herrs, State.flagIf, State.firstPrbsError]
  have hcount : ((s.setLane l { s.lane l with prbs := true }).addSat (R.LANE_TEST_ERRS l) 1).get (R.LANE_TEST_ERRS l) = 1 := by
    have hold : (s.setLane l { s.lane l with prbs := true }).get (R.LANE_TEST_ERRS l) = 0 := herrs
    refine (get_put_same (s := s.setLane l _) hk _ _).trans ?_
    rw [hold]
    rfl
  have hl : (s.firstPrbsError l).lanes = (s.setLane l { s.lane l with prbs := true }).lanes := by simp [State.firstPrbsError]
  rw [ht, heff]
  exact ⟨(get_raise_page (by decide) (by decide) _).trans hcount, get_raise_page_same (by decide) _,
    (lane_congr hl l).trans (lane_setLane_same hlanes l _), by simp [State.firstPrbsError],
    firstPrbsError_sync hlanes hup hchk hrate hused⟩

end

/-! ## What the transmitter carries (R209, R267, R289, R295) -/

section
variable {s : State} {l : Nat}

theorem laneFinishes_txOff (h : s.on (R.LANE_CTRL_TX_OFF l) = true) : s.laneFinishes l = false := by simp [State.laneFinishes, h]

theorem laneLine_quiet (hsilent : s.laneSilent l = true) (hfin : s.laneFinishes l = false) : s.laneLine l = .quiet := by
  simp [State.laneLine, hsilent, hfin]

/-- A repeating lane in LOCKED carries what it repeats. -/
theorem laneLine_repeats (hup : s.laneUp l = true) (htx : s.on (R.LANE_CTRL_TX_OFF l) = false) (hlock : (s.lane l).mode = .locked)
    (hrep : (s.lane l).rep = true) (hl : l < 112) :
    s.laneLine l = .wire (if s.on (R.LANE_CFG_TX_INV l) then invertBlocks (wireBlocks (Config.scrambler l s.elapsed).toNat (s.lane l).rptOut)
      else wireBlocks (Config.scrambler l s.elapsed).toNat (s.lane l).rptOut) := by
  have hsilent : s.laneSilent l = false := by simp [State.laneSilent, hup, htx, hlock]
  have hcoded : s.laneCoded l = (s.lane l).rptOut := by simp [State.laneCoded, hrep]
  simp [State.laneLine, hsilent, hrep, hcoded, Nat.not_le.mpr hl]

/-- The scrambler leaves the sync headers as they are. -/
theorem wireBlocks_headers (reg : Nat) (bs : List (Nat × Nat)) : (wireBlocks reg bs).map (·.1) = bs.map (·.1) := by
  induction bs generalizing reg with
  | nil => rfl
  | cons b t ih => exact congrArg (b.1 :: ·) (ih _)

end

/-! ### The statement -/

/-- Settles O34: a loss of lock as it is counted and leaves the lane (`lossOfLock_shows`), re-adaptation (`readaptEffect_starts` and its like,
`readaptDoneEffect_shows`), TX_EQ (`txEqEffect_taken_shows`, `txEqEffect_refused_shows`), the errors of the receiver (`elasticEffect_shows`,
`prbsEffect_shows`, `badHeaderEffect_shows`) and the line (`laneLine_quiet`, `laneLine_repeats`, `wireBlocks_headers`). -/
theorem laneInLock : Obligations.LaneInLock := by
  intro s l hserv hup hlanes
  obtain ⟨hl, -⟩ := laneUp_present hup
  have hhere : s.laneHere l = true := inService_laneHere hserv hup
  have hk : keysRise none s.regs = true := inService_regsRise hserv
  have taken : ∀ {addr : Nat} {f : State → State}, addr / 0x1000 = 0x100 + l → s.commanded addr f = f s :=
    fun ha => commanded_lanePage hserv hup ha _
  have hctrl : ∀ {t : State}, readaptEffect l s = t → exec (.readapt l) s = .next t :=
    fun heff => congrArg Host.Outcome.next ((taken (by omega)).trans heff)
  have refused : (s.get (R.LANE_CFG_ADAPT l) = 0 ∨ (s.lane l).mode ≠ .locked) → Reaches (.readapt l) s (fun t => t.lanes = s.lanes ∧ t.mem = s.mem
      ∧ t.flt.inbox = s.flt.inbox ++ [{ cls := .config, unit := laneUnit l, req := .l0, aux := 0x100008 + 0x1000 * l }]) :=
    fun h => ⟨_, hctrl (readaptEffect_refused hhere h), rfl, rfl, config_lanePage (o := 8) hl (by decide)⟩
  refine ⟨fun hlock => ⟨fun c m hc => ?_, fun hadapt hscan => ?_, fun hadapt hscan => ?_, fun hadapt => ?_⟩, fun hadapt => refused (.inl hadapt),
    fun hlock b => ⟨?_, ?_, ?_⟩, fun hreadapt v => ⟨_, rfl, readaptDoneEffect_shows hup hreadapt hk hlanes v rfl⟩,
    fun hwin => ?_, fun v hbad => ?_, fun v hsum hpre hmain => ?_, ⟨_, rfl, elasticEffect_shows hup rfl⟩,
    fun hchk hrate hused hon herrs => ⟨_, rfl, prbsEffect_shows hk hlanes hup hchk hrate hused hon herrs rfl⟩,
    fun h => congrArg Host.Outcome.next (prbsEffect_idle h), fun hon b => ⟨_, rfl, badHeaderEffect_shows hserv hup hon b rfl⟩, fun h => ?_,
    fun htx hlock hrep hlane => laneLine_repeats hup htx hlock hrep hlane, wireBlocks_headers _⟩
  · have hlocked : (s.laneUp l && decide ((s.lane l).mode = .locked)) = true := by simp [hup, hlock]
    obtain ⟨rfl, rfl⟩ | ⟨⟨b, rfl⟩, rfl⟩ := hc
    · exact ⟨_, congrArg Host.Outcome.next (if_pos hlocked), lossOfLock_shows false hserv hlanes .acq rfl⟩
    · exact ⟨_, congrArg Host.Outcome.next (if_pos hlocked), lossOfLock_shows b hserv hlanes .sync rfl⟩
  · exact ⟨_, hctrl (readaptEffect_starts hhere hlock hadapt hscan), lane_setLane_same hlanes l _, rfl, rfl⟩
  · exact ⟨_, hctrl (readaptEffect_waits hhere hlock hadapt hscan), lane_setLane_same hlanes l _, rfl, rfl⟩
  · exact ⟨_, hctrl (readaptEffect_left hhere hlock hadapt), rfl, rfl, rfl, rfl⟩
  · exact congrArg Host.Outcome.next (if_neg (by simp [hlock]))
  · exact congrArg Host.Outcome.next (if_neg (by simp [hlock]))
  · obtain ⟨t, hexec, hkept, -, hinbox⟩ := refused (.inr hlock)
    exact ⟨t, hexec, hkept, hinbox⟩
  · exact ⟨_, congrArg Host.Outcome.next (if_pos (by simp [hhere, hwin])), get_put_same hk _ 0, regsKeptBut_put _ 0 s, rfl, rfl⟩
  · exact ⟨_, congrArg Host.Outcome.next (taken (by omega)), txEqEffect_refused_shows hhere hl (by simpa [BadCursors, bits] using hbad) rfl⟩
  · exact ⟨_, congrArg Host.Outcome.next (taken (by omega)),
      txEqEffect_taken_shows hhere hk (by simp only [BadCursors, bits, Nat.pow_zero, Nat.div_one]; omega) rfl⟩
  · obtain htx | ⟨hmode, hfin⟩ := h
    · exact laneLine_quiet (by simp [State.laneSilent, htx]) (laneFinishes_txOff htx)
    · exact laneLine_quiet (by obtain hmode | ⟨hrep, hmode⟩ := hmode <;> simp [State.laneSilent, *]) hfin

end Sys2Proof.Machine
end

section
namespace Sys2Proof.Machine

/-! ## Bytes of a word in memory -/

section
variable {m : Memory}

/-- A run of written bytes reads back. -/
theorem Memory.read_writeN_same (h : m.wf = true) {a k : Nat} {bs : List Byte} {b : Byte} (hb : bs[k]? = some b) :
    (m.writeN a bs).read (a + k) = b := by
  induction bs generalizing m a k with
  | nil => cases hb
  | cons c t ih =>
    cases k with
    | zero =>
      cases hb
      exact (Memory.read_writeN_other (m := m.write a b) (x := a) (by omega)).trans (Memory.read_write_same h a b)
    | succ k =>
      have := ih (Memory.write_wf h a c) (a := a + 1) (k := k) hb
      rwa [show a + (k + 1) = a + 1 + k by omega]

/-- What a write of bytes leaves alone, whichever of its words cannot be corrected (R832). -/
theorem mem_writeBytes_other {s : State} {a x : Nat} {bs : List Byte} (h : x < a ∨ a + bs.length ≤ x) :
    (s.writeBytes a bs).mem.read x = s.mem.read x := by
  unfold State.writeBytes
  dsimp only
  split
  · exact Memory.read_writeN_other h
  · rw [State.memEvents_mem]
    refine List.foldlRecOn (motive := fun m : Memory => m.read x = s.mem.read x) _ _ rfl fun m hm e he => ?_
    obtain ⟨hzip, -⟩ := List.mem_filter.mp he
    have hlt : e.2 < bs.length := List.mem_range.mp (List.of_mem_zip hzip).2
    exact (Memory.read_write_other (by omega) _).trans hm

end

theorem codeOf_lt (w : Nat) (i : Int) : codeOf w i < 2 ^ w := by
  have hpos : (0 : Int) < (2 ^ w : Nat) := by exact_mod_cast Nat.two_pow_pos w
  have hmod := Int.emod_nonneg i hpos.ne'
  have hlt := Int.emod_lt_of_pos i hpos
  unfold codeOf
  omega

/-- A byte in two's complement. -/
theorem ofNat_codeOf (i : Int) : BitVec.ofNat 8 (codeOf 8 i) = BitVec.ofInt 8 i := by
  apply BitVec.eq_of_toNat_eq
  simp only [codeOf, BitVec.toNat_ofNat, BitVec.toNat_ofInt]
  omega

/-- The bytes of a scan entry: H, V and the errors (R281). -/
theorem leBytes_eyeEntry (v h k err : Nat) : leBytes 4 (eyeEntry v h k err) =
    [BitVec.ofInt 8 (-32 + (2 ^ h * (k % axisPoints 64 h) : Nat)), BitVec.ofInt 8 (63 - (2 ^ v * (k / axisPoints 64 h) : Nat)),
      BitVec.ofNat 8 (satTo 65535 err % 256), BitVec.ofNat 8 (satTo 65535 err / 256)] := by
  have hh := codeOf_lt 8 (-32 + (2 ^ h * (k % axisPoints 64 h) : Nat))
  have hv := codeOf_lt 8 (63 - (2 ^ v * (k / axisPoints 64 h) : Nat))
  rw [← ofNat_codeOf, ← ofNat_codeOf]
  unfold eyeEntry
  dsimp only
  generalize codeOf 8 (-32 + (2 ^ h * (k % axisPoints 64 h) : Nat)) = H at hh ⊢
  generalize codeOf 8 (63 - (2 ^ v * (k / axisPoints 64 h) : Nat)) = V at hv ⊢
  generalize satTo 65535 err = E
  simp only [leBytes, List.cons.injEq, and_true]
  refine ⟨?_, ?_, ?_, ?_⟩ <;> apply BitVec.eq_of_toNat_eq <;> simp only [BitVec.toNat_ofNat] <;> omega

end Sys2Proof.Machine
end

section
namespace Sys2Proof.Machine

/-! ## A full scan is asked for, begins and ends (R281, R282) -/

theorem afterScan_scan (x : LaneSt) : x.afterScan.scan = x.scan := by
  unfold LaneSt.afterScan
  split
  · rfl
  · split <;> rfl

/-- The steps of a scan, as a write of ES_CTRL sets them (R301). -/
def State.takeSteps (l v : Nat) (s : State) : State :=
  s.putAll [(R.LANE_ES_CTRL_DWELL l, bits v 24 3), (R.LANE_ES_CTRL_H_STEP l, bits v 18 2), (R.LANE_ES_CTRL_V_STEP l, bits v 16 2)]

/-- A lane whose scan waits for its slot with steps `v` and `h`. -/
def LaneSt.asking (v h : Nat) (x : LaneSt) : LaneSt := { x with scan := .waiting, point := 0, vStep := v, hStep := h }

/-- A lane whose scan has begun in map slot `k`. -/
def LaneSt.scanning (k : Nat) (x : LaneSt) : LaneSt := { x with scan := .running, slot := some k, point := 0 }

/-- What ES_STAT shows of a scan that has been asked for (R302). -/
def State.showScan (l v h : Nat) (s : State) : State :=
  s.putAll ([R.LANE_ES_STAT_PTS_DONE l, R.LANE_ES_STAT_RESULT l, R.LANE_ES_STAT_PTS_TOTAL l].zip [0, 0, scanPoints v h])

/-- ES_STAT and ES_ADDR show a map slot. -/
def State.showSlot (l k a : Nat) (s : State) : State := s.putAll ([R.LANE_ES_STAT_SLOT l, R.LANE_ES_ADDR_ADDR l].zip [k, a])

section
variable {s : State} {l : Nat}

theorem scanFields_nodup (l : Nat) :
    ([R.LANE_ES_STAT_PTS_DONE l, R.LANE_ES_STAT_RESULT l, R.LANE_ES_STAT_PTS_TOTAL l].map Field.key).Nodup := by
  simp only [List.map_cons, List.map_nil, List.nodup_cons, List.mem_cons, List.not_mem_nil, or_false, not_or]
  refine ⟨⟨?_, ?_⟩, ?_, not_false, List.nodup_nil⟩ <;> exact pageKey_ne (by decide)

theorem slotFields_nodup (l : Nat) : ([R.LANE_ES_STAT_SLOT l, R.LANE_ES_ADDR_ADDR l].map Field.key).Nodup := by
  simp only [List.map_cons, List.map_nil, List.nodup_cons, List.mem_cons, List.not_mem_nil, or_false]
  exact ⟨pageKey_ne (by decide), not_false, List.nodup_nil⟩

theorem showSlot_shows (hk : keysRise none s.regs = true) (k a : Nat) :
    (s.showSlot l k a).get (R.LANE_ES_STAT_SLOT l) = k % 2 ^ (R.LANE_ES_STAT_SLOT l).w
      ∧ (s.showSlot l k a).get (R.LANE_ES_ADDR_ADDR l) = a % 2 ^ (R.LANE_ES_ADDR_ADDR l).w :=
  ⟨get_putAll_zip_mem hk (slotFields_nodup l) (by simp), get_putAll_zip_mem hk (slotFields_nodup l) (by simp)⟩

theorem showScan_shows (hk : keysRise none s.regs = true) (v h : Nat) : (s.showScan l v h).get (R.LANE_ES_STAT_PTS_DONE l) = 0
    ∧ (s.showScan l v h).get (R.LANE_ES_STAT_PTS_TOTAL l) = scanPoints v h % 2 ^ (R.LANE_ES_STAT_PTS_TOTAL l).w :=
  ⟨(get_putAll_zip_mem (v := 0) hk (scanFields_nodup l) (by simp)).trans (Nat.zero_mod _),
    get_putAll_zip_mem hk (scanFields_nodup l) (by simp)⟩

theorem showSlot_lanes (k a : Nat) : (s.showSlot l k a).lanes = s.lanes := State.putAll_lanes _ _

/-- Of the fields of ES_STAT a slot shows its own alone. -/
theorem get_showSlot_page {b n o lo w rst : Nat} {acc : Access}
    (h : PlacesApart b o lo 0x100000 0x5C 29 ∧ PlacesApart b o lo 0x100000 0x60 0) (k a : Nat) :
    (s.showSlot l k a).get ⟨b + 0x1000 * n + o, lo, w, rst, acc⟩ = s.get ⟨b + 0x1000 * n + o, lo, w, rst, acc⟩ :=
  (get_put_page h.2 _ _).trans (get_put_page h.1 _ _)

theorem scanBegin_idle (h : (s.lane l).scan ≠ .waiting) : s.scanBegin l = s := if_neg fun hw => h hw.1

theorem scanBegin_takes {k : Nat} (hscan : (s.lane l).scan = .waiting) (hcross : (s.lane l).cross = false) (hslot : s.eyeSlot l = some k) :
    s.scanBegin l = (s.setLane l ((s.lane l).scanning k)).showSlot l k (eyeBase k) := by
  rw [State.scanBegin, if_pos ⟨hscan, hcross⟩, hslot]
  rfl

/-- Where no lane holds a map slot, a scan takes the lowest. -/
theorem eyeSlot_lowest (hown : (s.lane l).slot = none) (hall : ∀ e ∈ s.lanes, e.2.slot = none) : s.eyeSlot l = some 0 := by
  rw [State.eyeSlot, hown]
  refine List.find?_cons_of_pos (List.all_eq_true.mpr fun e he => ?_)
  rw [hall e he]
  rfl

/-- A table of lanes none of which holds a slot stays one as such a lane enters it. -/
theorem setLane_slots {x : LaneSt} (hx : x.slot = none) (hall : ∀ e ∈ s.lanes, e.2.slot = none) : ∀ e ∈ (s.setLane l x).lanes, e.2.slot = none := by
  intro e he
  simp only [State.setLane, tset] at he
  split at he
  · exact hall e (mem_eraseKey he)
  · obtain rfl | he := mem_insertKey he
    · exact hx
    · exact hall e he

theorem scanRequest_asks (s0 : State) (h : (s.lane l).scan = .none) : State.scanRequest s0 l s
    = ((s.setLane l ((s.lane l).asking (s.get (R.LANE_ES_CTRL_V_STEP l)) (s.get (R.LANE_ES_CTRL_H_STEP l)))).showScan l
      (s.get (R.LANE_ES_CTRL_V_STEP l)) (s.get (R.LANE_ES_CTRL_H_STEP l))).scanBegin l := by
  rw [State.scanRequest, if_pos h]
  rfl

theorem scanRequest_refused (s0 : State) (h : (s.lane l).scan ≠ .none) : State.scanRequest s0 l s = State.configOnce s0 (lanePage l + 0x58) s := if_neg h

/-- A request where no lane holds a slot and no cross scan runs begins in slot 0. -/
theorem scanRequest_shows (s0 : State) (hserv : s0.inService = true) (hkeeps : Keeps s0 s) (hlanes : keysRise none s.lanes = true)
    (hscan : (s.lane l).scan = .none) (hcross : (s.lane l).cross = false) (hown : (s.lane l).slot = none) (hall : ∀ e ∈ s.lanes, e.2.slot = none)
    (hv : s.get (R.LANE_ES_CTRL_V_STEP l) = 0) (hh : s.get (R.LANE_ES_CTRL_H_STEP l) = 0) {t : State} (ht : t = State.scanRequest s0 l s) :
    (t.lane l).scan = .running ∧ (t.lane l).slot = some 0 ∧ (t.lane l).point = 0 ∧ t.get (R.LANE_ES_STAT_PTS_DONE l) = 0
      ∧ t.get (R.LANE_ES_STAT_PTS_TOTAL l) = 127 * 64 ∧ t.get (R.LANE_ES_ADDR_ADDR l) = 0xCC0000 % 2 ^ (R.LANE_ES_ADDR_ADDR l).w
      ∧ t.mem = s.mem := by
  rw [scanRequest_asks s0 hscan, hv, hh] at ht
  set u := (s.setLane l ((s.lane l).asking 0 0)).showScan l 0 0 with hu
  have hul : u.lanes = (s.setLane l ((s.lane l).asking 0 0)).lanes := State.putAll_lanes _ _
  have hlane : u.lane l = (s.lane l).asking 0 0 := (lane_congr hul l).trans (lane_setLane_same hlanes l _)
  have hslot : u.eyeSlot l = some 0 := eyeSlot_lowest (by rw [hlane]; exact hown) (by rw [hul]; exact setLane_slots hown hall)
  have hk : keysRise none (s.setLane l ((s.lane l).asking 0 0)).regs = true := hkeeps.setLane.regsRise hserv
  have hk' : keysRise none (u.setLane l ((u.lane l).scanning 0)).regs = true := hkeeps.setLane.putAll.setLane.regsRise hserv
  obtain ⟨hdone, htotal⟩ := showScan_shows (l := l) hk 0 0
  rw [scanBegin_takes (by rw [hlane]; rfl) (by rw [hlane]; exact hcross) hslot] at ht
  have htl : t.lane l = (u.lane l).scanning 0 := by
    rw [ht]
    exact (lane_congr (State.putAll_lanes _ _) l).trans (lane_setLane_same (by rw [hul]; exact lanes_setLane_rise hlanes _ _) l _)
  obtain ⟨-, haddr⟩ := showSlot_shows (l := l) hk' 0 (eyeBase 0)
  rw [htl, ht]
  exact ⟨rfl, rfl, rfl, (get_showSlot_page (by decide) _ _).trans hdone, (get_showSlot_page (by decide) _ _).trans htotal, haddr,
    (State.putAll_mem _ _).trans (State.putAll_mem _ _)⟩

end

end Sys2Proof.Machine
end

section
namespace Sys2Proof.Machine

/-! ## ES_CTRL (R282, R301, R903) -/

section
variable {s t u : State} {l : Nat}

/-- A refusal that the same write has recorded already. -/
theorem configOnce_again (h : u.flt = s.flt) (addr : Nat) : s.configOnce addr (u.config addr) = u.config addr := by
  have hsame : s.configOnce addr (u.config addr) = u.configOnce addr (u.config addr) := by unfold State.configOnce; rw [h]
  exact hsame.trans (configOnce_config u addr)

theorem takeSteps_frame (v : Nat) : (s.takeSteps l v).lanes = s.lanes ∧ (s.takeSteps l v).mem = s.mem ∧ (s.takeSteps l v).flt = s.flt :=
  ⟨State.putAll_lanes _ _, State.putAll_mem _ _, State.putAll_flt _ _⟩

theorem lane_takeSteps (v : Nat) : (s.takeSteps l v).lane l = s.lane l := lane_congr (takeSteps_frame v).1 l

/-- The steps of a word whose step fields are 0. -/
theorem takeSteps_zero (hk : keysRise none s.regs = true) {v : Nat} (hv : bits v 16 2 = 0) (hh : bits v 18 2 = 0) :
    (s.takeSteps l v).get (R.LANE_ES_CTRL_V_STEP l) = 0 ∧ (s.takeSteps l v).get (R.LANE_ES_CTRL_H_STEP l) = 0 := by
  have hk1 : keysRise none (s.put (R.LANE_ES_CTRL_DWELL l) (bits v 24 3)).regs = true := regs_put_rise hk _ _
  refine ⟨(get_put_same (regs_put_rise hk1 _ _) _ _).trans (by rw [hv]; exact Nat.zero_mod _), ?_⟩
  exact (get_put_page (by decide) _ _).trans ((get_put_same hk1 _ _).trans (by rw [hh]; exact Nat.zero_mod _))

variable (hhere : s.laneHere l = true)
include hhere

theorem esFreeEffect_refused (h : (s.lane l).scan = .running) : esFreeEffect l s = s.config (lanePage l + 0x58) := by
  rw [esFreeEffect, if_pos hhere, if_pos h]

theorem esFreeEffect_frees (h : (s.lane l).scan ≠ .running) :
    esFreeEffect l s = (s.setLane l { s.lane l with slot := none }).showSlot l 0 0 := by
  rw [esFreeEffect, if_pos hhere, if_neg h]
  rfl

theorem esStopEffect_stops (h : (s.lane l).scan ≠ .none) :
    esStopEffect l s = (s.setLane l ({ s.lane l with scan := .none } : LaneSt).afterScan).put (R.LANE_ES_STAT_RESULT l) 2 := by
  rw [esStopEffect, if_pos (by simp [hhere, h])]

theorem esGoEffect_go {v : Nat} (hfree : bitOf v 29 = false) (hstop : bitOf v 30 = false) :
    esGoEffect l v s = State.scanRequest s l (s.takeSteps l v) := by
  rw [esGoEffect, if_pos hhere]
  simp [hfree, hstop, State.takeSteps]

theorem esGoEffect_freeGo {v : Nat} (hfree : bitOf v 29 = true) (hstop : bitOf v 30 = false) :
    esGoEffect l v s = State.scanRequest s l (esFreeEffect l (s.takeSteps l v)) := by
  rw [esGoEffect, if_pos hhere]
  simp [hfree, hstop, State.takeSteps]

/-- With a scan under way GO is turned away. -/
theorem esGoEffect_refused (h : (s.lane l).scan ≠ .none) {v : Nat} (hfree : bitOf v 29 = false) (hstop : bitOf v 30 = false) :
    esGoEffect l v s = (s.takeSteps l v).config (lanePage l + 0x58) := by
  rw [esGoEffect_go hhere hfree hstop, scanRequest_refused s (by rwa [lane_takeSteps])]
  exact configOnce_quiet (takeSteps_frame v).2.2 _

/-- FREE with GO while a scan runs: one event for both. -/
theorem esGoEffect_refusedBoth (h : (s.lane l).scan = .running) {v : Nat} (hfree : bitOf v 29 = true) (hstop : bitOf v 30 = false) :
    esGoEffect l v s = (s.takeSteps l v).config (lanePage l + 0x58) := by
  have hrun : ((s.takeSteps l v).lane l).scan = .running := by rwa [lane_takeSteps]
  have hscan : (((s.takeSteps l v).config (lanePage l + 0x58)).lane l).scan ≠ .none := fun hnone => by
    have hnone' : ((s.takeSteps l v).lane l).scan = .none := hnone
    rw [hrun] at hnone'
    cases hnone'
  rw [esGoEffect_freeGo hhere hfree hstop, esFreeEffect_refused (s := s.takeSteps l v) hhere hrun, scanRequest_refused s hscan]
  exact configOnce_again (takeSteps_frame v).2.2 _

end

/-! ## Scan points (R280, R281) -/

/-- The entry of a lane's scan point stands in map slot `k`, and ES_STAT counts it. -/
def State.pointWritten (l k err : Nat) (s : State) : State :=
  (s.writeBytes (eyeBase k + 4 * (s.lane l).point) (leBytes 4 (eyeEntry (s.lane l).vStep (s.lane l).hStep (s.lane l).point err))).put
    (R.LANE_ES_STAT_PTS_DONE l) ((s.lane l).point + 1)

section
variable {s : State} {l k : Nat} (err : Nat)

theorem pointWritten_lanes : (s.pointWritten l k err).lanes = s.lanes := State.writeBytes_lanes _ _ _

theorem pointWritten_outside {a : Nat} (h : a < eyeBase k + 4 * (s.lane l).point ∨ eyeBase k + 4 * (s.lane l).point + 4 ≤ a) :
    (s.pointWritten l k err).mem.read a = s.mem.read a := mem_writeBytes_other h

theorem pointWritten_entry (hm : s.mem.wf = true) (hbad : s.memBad = []) :
    (s.pointWritten l k err).mem.read (eyeBase k + 4 * (s.lane l).point)
        = BitVec.ofInt 8 (-32 + (2 ^ (s.lane l).hStep * ((s.lane l).point % axisPoints 64 (s.lane l).hStep) : Nat))
      ∧ (s.pointWritten l k err).mem.read (eyeBase k + 4 * (s.lane l).point + 1)
        = BitVec.ofInt 8 (63 - (2 ^ (s.lane l).vStep * ((s.lane l).point / axisPoints 64 (s.lane l).hStep) : Nat))
      ∧ (s.pointWritten l k err).mem.read (eyeBase k + 4 * (s.lane l).point + 2) = BitVec.ofNat 8 (satTo 65535 err % 256)
      ∧ (s.pointWritten l k err).mem.read (eyeBase k + 4 * (s.lane l).point + 3) = BitVec.ofNat 8 (satTo 65535 err / 256) := by
  have hmem : (s.pointWritten l k err).mem = Memory.writeN s.mem (eyeBase k + 4 * (s.lane l).point)
      (leBytes 4 (eyeEntry (s.lane l).vStep (s.lane l).hStep (s.lane l).point err)) :=
    congrArg State.mem (State.writeBytes_clean hbad _ _)
  rw [hmem, leBytes_eyeEntry]
  exact ⟨Memory.read_writeN_same hm (k := 0) rfl, Memory.read_writeN_same hm rfl, Memory.read_writeN_same hm rfl,
    Memory.read_writeN_same hm rfl⟩

theorem pointWritten_counts (hk : keysRise none s.regs = true) : (s.pointWritten l k err).get (R.LANE_ES_STAT_PTS_DONE l)
    = ((s.lane l).point + 1) % 2 ^ (R.LANE_ES_STAT_PTS_DONE l).w :=
  get_put_same (by rwa [State.writeBytes_regs]) _ _

section
variable (hserv : s.inService = true) (hup : s.laneUp l = true) (hscan : (s.lane l).scan = .running) (hslot : (s.lane l).slot = some k)
include hserv hup hscan hslot

theorem eyePointEffect_more (h : (s.lane l).point + 1 ≠ scanPoints (s.lane l).vStep (s.lane l).hStep) :
    eyePointEffect l err s = (s.pointWritten l k err).setLane l { s.lane l with point := (s.lane l).point + 1 } := by
  simp only [eyePointEffect, hslot]
  rw [if_pos (by simp [hup, hscan]), if_neg h, State.writeFrom, overLink_inService hserv]
  rfl

theorem eyePointEffect_last (h : (s.lane l).point + 1 = scanPoints (s.lane l).vStep (s.lane l).hStep) :
    eyePointEffect l err s = (((s.pointWritten l k err).setLane l
      ({ s.lane l with point := (s.lane l).point + 1, scan := .none } : LaneSt).afterScan).put (R.LANE_ES_STAT_RESULT l) 1).raise
        (R.LANE_STAT_ES_DONE l) := by
  simp only [eyePointEffect, hslot]
  rw [if_pos (by simp [hup, hscan]), if_pos h, State.writeFrom, overLink_inService hserv]
  rfl

/-- Whichever point it is, memory is as it was written, and ES_STAT counts the point. -/
theorem eyePointEffect_frame : (eyePointEffect l err s).mem = (s.pointWritten l k err).mem
    ∧ (eyePointEffect l err s).get (R.LANE_ES_STAT_PTS_DONE l) = (s.pointWritten l k err).get (R.LANE_ES_STAT_PTS_DONE l) := by
  by_cases h : (s.lane l).point + 1 = scanPoints (s.lane l).vStep (s.lane l).hStep
  · rw [eyePointEffect_last err hserv hup hscan hslot h]
    exact ⟨State.raise_mem _ _, (get_raise_page (by decide) (by decide) _).trans (get_put_page (by decide) _ _)⟩
  · rw [eyePointEffect_more err hserv hup hscan hslot h]
    exact ⟨rfl, rfl⟩

theorem eyePointEffect_ends (hlanes : keysRise none s.lanes = true)
    (h : (s.lane l).point + 1 = scanPoints (s.lane l).vStep (s.lane l).hStep) {t : State} (ht : t = eyePointEffect l err s) :
    (t.lane l).scan = .none ∧ t.get (R.LANE_ES_STAT_RESULT l) = 1 ∧ t.get (R.LANE_STAT_ES_DONE l) = 1 := by
  rw [ht, eyePointEffect_last err hserv hup hscan hslot h]
  refine ⟨?_, (get_raise_page (by decide) (by decide) _).trans (get_put_value (by decide : 1 % 2 ^ 2 ≠ 0)), get_raise_page_same (by decide) _⟩
  rw [lane_congr (State.raise_lanes _ _), lane_congr (State.put_lanes _ _ _), lane_setLane_same (by rwa [pointWritten_lanes])]
  exact afterScan_scan _

end
end

/-! ## Cross scans (R283 to R285) -/

section
variable {s : State} {l : Nat}

theorem eyeFigures_closed {hs vs : List Nat} (h : hs.getD 32 1 ≠ 0 ∨ vs.getD 63 1 ≠ 0) : eyeFigures hs vs = (0, 0) :=
  if_neg fun hopen => h.elim (· hopen.1) (· hopen.2)

theorem eyeFigures_open {hs vs : List Nat} (hh : hs.getD 32 1 = 0) (hv : vs.getD 63 1 = 0) : eyeFigures hs vs = (eyeRun hs 32, eyeRun vs 63) :=
  if_pos ⟨hh, hv⟩

theorem one_le_eyeRun (errs : List Nat) (c : Nat) : 1 ≤ eyeRun errs c := by unfold eyeRun; omega

/-- A run through a point of the axis is no longer than the axis. -/
theorem eyeRun_le {errs : List Nat} {c : Nat} (h : errs.getD c 1 = 0) : eyeRun errs c ≤ errs.length := by
  have hc : c < errs.length := by
    by_contra hge
    rw [List.getD_eq_default _ _ (by omega)] at h
    cases h
  have hright := (List.takeWhile_sublist (fun e => decide (e = 0)) (l := errs.drop (c + 1))).length_le
  have hleft := (List.takeWhile_sublist (fun e => decide (e = 0)) (l := (errs.take c).reverse)).length_le
  rw [List.length_drop] at hright
  rw [List.length_reverse, List.length_take] at hleft
  unfold eyeRun
  omega

/-- EYE_MON shows the figures of a cross scan. -/
def State.showFigures (l w h : Nat) (s : State) : State := s.putAll ([R.LANE_EYE_MON_W l, R.LANE_EYE_MON_H l].zip [w, h])

theorem figureFields_nodup (l : Nat) : ([R.LANE_EYE_MON_W l, R.LANE_EYE_MON_H l].map Field.key).Nodup := by
  simp only [List.map_cons, List.map_nil, List.nodup_cons, List.mem_cons, List.not_mem_nil, or_false]
  exact ⟨pageKey_ne (by decide), not_false, List.nodup_nil⟩

theorem showFigures_shows (hk : keysRise none s.regs = true) (w h : Nat) :
    (s.showFigures l w h).get (R.LANE_EYE_MON_W l) = w % 2 ^ (R.LANE_EYE_MON_W l).w
      ∧ (s.showFigures l w h).get (R.LANE_EYE_MON_H l) = h % 2 ^ (R.LANE_EYE_MON_H l).w :=
  ⟨get_putAll_zip_mem hk (figureFields_nodup l) (by simp), get_putAll_zip_mem hk (figureFields_nodup l) (by simp)⟩

theorem showFigures_lanes (w h : Nat) : (s.showFigures l w h).lanes = s.lanes := State.putAll_lanes _ _

/-- Figures in bounds are no low margin. -/
theorem showFigures_margin {w h : Nat} (hw : s.get (R.LANE_MCHK_W_MIN l) ≤ w) (hh : s.get (R.LANE_MCHK_H_MIN l) ≤ h) :
    (s.showFigures l w h).marginLow l w h = false := by
  have hwmin : (s.showFigures l w h).get (R.LANE_MCHK_W_MIN l) = s.get (R.LANE_MCHK_W_MIN l) :=
    (get_put_page (by decide) _ _).trans (get_put_page (by decide) _ _)
  have hhmin : (s.showFigures l w h).get (R.LANE_MCHK_H_MIN l) = s.get (R.LANE_MCHK_H_MIN l) :=
    (get_put_page (by decide) _ _).trans (get_put_page (by decide) _ _)
  simp [State.marginLow, hwmin, hhmin, hw, hh]

/-- A cross scan whose figures are in bounds. -/
theorem crossFigures_good (hlanes : keysRise none s.lanes = true) (hscan : (s.lane l).scan = .none) {w h : Nat}
    (hw : s.get (R.LANE_MCHK_W_MIN l) ≤ w) (hh : s.get (R.LANE_MCHK_H_MIN l) ≤ h) :
    s.crossFigures l w h = (s.showFigures l w h).setLane l { s.lane l with cross := false, second := false } := by
  have hlow : ¬ (s.showFigures l w h).marginLow l w h = true := by simp [showFigures_margin hw hh]
  refine (if_neg hlow).trans (scanBegin_idle ?_)
  rw [lane_setLane_same (by rwa [← showFigures_lanes w h] at hlanes)]
  simp [hscan]

end

/-! ### The statement -/

/-- Settles O35: ES_CTRL as it is taken (`scanRequest_shows`, `esStopEffect_stops`, `esFreeEffect_frees`) or turned away (`esGoEffect_refused`,
`esFreeEffect_refused`, `esGoEffect_refusedBoth`), the beginning of a scan (`scanBegin_takes`), its points (`pointWritten_entry`,
`eyePointEffect_ends`), and cross scans (`crossFigures_good`, `eyeRun_le`). -/
theorem eyeScans : Obligations.EyeScans := by
  intro s l hserv hup hlanes
  obtain ⟨hl, -⟩ := laneUp_present hup
  have hhere : s.laneHere l = true := inService_laneHere hserv hup
  have hk : keysRise none s.regs = true := inService_regsRise hserv
  obtain ⟨-, -, -, -, -, -, hcanonical⟩ := State.inService_iff.mp hserv
  obtain ⟨hmem, -⟩ := State.canonical_iff.mp hcanonical
  have taken : ∀ {c : Instr} {f : State → State} {t : State}, exec c s = .next (s.commanded (0x100058 + 0x1000 * l) f) → f s = t → exec c s = .next t :=
    fun hexec heff => hexec.trans (congrArg Host.Outcome.next ((commanded_lanePage hserv hup (by omega) _).trans heff))
  have refusal : ∀ u : State, (u.config (lanePage l + 0x58)).flt.inbox
      = u.flt.inbox ++ [{ cls := .config, unit := laneUnit l, req := .l0, aux := 0x100058 + 0x1000 * l }] :=
    fun u => config_lanePage (o := 0x58) hl (by decide)
  refine ⟨fun hscan hcross hown hall => ?_, fun hscan => ?_, fun hscan => ?_, fun hscan => ?_, fun hscan => ?_, fun hscan hcross k hslot => ?_,
    fun hscan => ?_, fun hscan => ?_, fun k err hscan hslot => ?_, fun hlock hper hscan hcross hsecond => ?_, fun hlock => ?_,
    fun hs vs hcross hscan hw hh => ?_, fun hs vs h => eyeFigures_closed h, fun hs vs hh hv => ?_⟩
  · obtain ⟨hv, hh⟩ := takeSteps_zero (l := l) hk (v := 2 ^ 31) (by decide) (by decide)
    obtain ⟨hkept, hmem', -⟩ := takeSteps_frame (s := s) (l := l) (2 ^ 31)
    obtain ⟨hrun, hslot, hpoint, hdone, htotal, haddr, hm⟩ := scanRequest_shows s hserv (Keeps.refl s).putAll (s := s.takeSteps l (2 ^ 31))
      (by rwa [hkept]) (by rwa [lane_takeSteps]) (by rwa [lane_takeSteps]) (by rwa [lane_takeSteps]) (by rwa [hkept]) hv hh rfl
    exact ⟨_, taken rfl (esGoEffect_go hhere (by decide) (by decide)), hrun, hslot, hpoint, hdone, htotal, haddr, hm.trans hmem'⟩
  · obtain ⟨hkept, hmem', hflt⟩ := takeSteps_frame (s := s) (l := l) (2 ^ 31)
    exact ⟨_, taken rfl (esGoEffect_refused hhere hscan (by decide) (by decide)), hkept, hmem', by rw [refusal]; simp⟩
  · refine ⟨_, taken rfl (esStopEffect_stops hhere hscan), ?_, get_put_value (by decide : 2 % 2 ^ 2 ≠ 0), rfl, rfl⟩
    rw [lane_congr (State.put_lanes _ _ _), lane_setLane_same hlanes]
    exact afterScan_scan _
  · obtain ⟨-, haddr⟩ := showSlot_shows (s := s.setLane l { s.lane l with slot := none }) (l := l) hk 0 0
    refine ⟨_, taken rfl (esFreeEffect_frees hhere hscan), ?_, haddr.trans (Nat.zero_mod _), State.putAll_mem _ _⟩
    rw [lane_congr (showSlot_lanes _ _), lane_setLane_same hlanes]
  · exact ⟨_, taken rfl (esFreeEffect_refused hhere hscan), rfl, rfl, by rw [refusal]; simp⟩
  · obtain ⟨hshown, -⟩ := showSlot_shows (s := s.setLane l ((s.lane l).scanning k)) (l := l) hk k (eyeBase k)
    have hlane : ((s.setLane l ((s.lane l).scanning k)).showSlot l k (eyeBase k)).lane l = (s.lane l).scanning k :=
      (lane_congr (showSlot_lanes _ _) l).trans (lane_setLane_same hlanes l _)
    refine ⟨_, congrArg Host.Outcome.next ((if_pos hup).trans (scanBegin_takes hscan hcross hslot)), ?_, ?_, hshown, State.putAll_mem _ _⟩
    · rw [hlane]; rfl
    · rw [hlane]; rfl
  · exact congrArg Host.Outcome.next ((if_pos hup).trans (scanBegin_idle hscan))
  · obtain ⟨hkept, hmem', hflt⟩ := takeSteps_frame (s := s) (l := l) (2 ^ 31 + 2 ^ 29)
    exact ⟨_, taken rfl (esGoEffect_refusedBoth hhere hscan (by decide) (by decide)), hkept, hmem', by rw [refusal, hflt]⟩
  · obtain ⟨hm, hdone⟩ := eyePointEffect_frame err hserv hup hscan hslot
    refine ⟨_, rfl, fun hbad _ => ?_, fun a ha => ?_, hdone.trans (pointWritten_counts err hk), fun hmore => ?_,
      fun hlast => eyePointEffect_ends err hserv hup hscan hslot hlanes hlast rfl⟩
    · rw [hm]
      exact pointWritten_entry err hmem hbad
    · rw [hm]
      exact pointWritten_outside err ha
    · rw [eyePointEffect_more err hserv hup hscan hslot (Nat.ne_of_lt hmore)]
      exact lane_setLane_same (by rwa [pointWritten_lanes]) l _
  · exact ⟨_, congrArg Host.Outcome.next (if_pos (by simp [hup, hlock, hper, hscan, hcross, hsecond])), lane_setLane_same hlanes l _, rfl, rfl⟩
  · exact congrArg Host.Outcome.next (if_neg (by simp [hlock]))
  · obtain ⟨hshowW, hshowH⟩ := showFigures_shows (l := l) hk (eyeFigures hs vs).1 (eyeFigures hs vs).2
    exact ⟨_, congrArg Host.Outcome.next ((if_pos (by simp [hup, hcross])).trans (crossFigures_good hlanes hscan hw hh)),
      lane_setLane_same (by rwa [showFigures_lanes]) l _, hshowW, hshowH, State.putAll_mem _ _, State.putAll_flt _ _⟩
  · rw [eyeFigures_open hh hv]
    exact ⟨one_le_eyeRun _ _, one_le_eyeRun _ _, eyeRun_le hh, eyeRun_le hv⟩

end Sys2Proof.Machine
end

section
namespace Sys2Proof.Machine

/-! ## Loops and Canopy ports -/

section
variable {s t : State} {p q : Nat}

/-- A loop over states that keep `Q` reaches, for each of its numbers, what its pass makes and no other pass undoes. -/
theorem forAll_reaches {Q : State → Prop} {P : Nat → State → Prop} {f : Nat → State → State} {l : List Nat} (hs : Q s)
    (hkeep : ∀ n u, Q u → Q (f n u)) (hmake : ∀ n u, Q u → P n (f n u)) (hstay : ∀ n m u, n ≠ m → P n u → P n (f m u)) :
    ∀ n ∈ l, P n (forAll l f s) := by
  induction l generalizing s with
  | nil => simp
  | cons a l ih =>
    intro n hn
    by_cases hl : n ∈ l
    · exact ih (hkeep a s hs) n hl
    · obtain rfl : n = a := (List.mem_cons.mp hn).resolve_right hl
      exact forAll_induction (P := P n) (l := l) (hmake n s hs) fun m hm u hu => hstay n m u (fun e => hl (e ▸ hm)) hu

theorem port_setPort_same (h : keysRise none s.canopy.ports = true) (p : Nat) (x : PortSt) : (s.setPort p x).port p = x := tget_tset_same h p x

theorem port_setPort_other (h : q ≠ p) (x : PortSt) : (s.setPort p x).port q = s.port q := tget_tset_other h x

theorem port_congr (h : t.canopy = s.canopy) (p : Nat) : t.port p = s.port p := by unfold State.port; rw [h]

theorem ports_setPort_rise (h : keysRise none s.canopy.ports = true) (p : Nat) (x : PortSt) : keysRise none (s.setPort p x).canopy.ports = true :=
  keysRise_tset h p x

theorem satTo_eq_min (m n : Nat) : satTo m n = min m n := by
  unfold satTo
  split <;> omega

/-- A running port is one of the four. -/
theorem portRuns_lt (h : s.portRuns p = true) : p < 4 := by
  simp only [State.portRuns, Bool.and_eq_true, decide_eq_true_eq] at h
  exact h.1.1

end

/-! ### A port goes down, and follows its peer's markers (R610) -/

/-- The places of the fields that a port writes as its peer's markers say: PEER, PSTAT.DUPID, ASTAT.CFG_MIS, and those of a port that goes down. -/
def peerPlaces : List Nat := downPlaces ++ [32 * 0x44 + 12, 32 * 0x44, 32 * 0x48 + 5, 32 * 0x5C + 9]

/-- The places of DESKEW. -/
def deskewPlaces : List Nat := [32 * 0x6C + 30, 32 * 0x6C + 28, 32 * 0x6C + 18, 32 * 0x6C]

section
variable {W : Nat → Prop} {P : State → Prop} {s : State} {p : Nat}

theorem Kept.portPeer (hW : ∀ k, placeOf k ∈ peerPlaces → W k) (h : Kept W P s) : Kept W P (s.portPeer p) := by
  refine ((h.putAll ?_).flagIf (mayRaise_places hW (by decide))).flagIf ⟨hW _ (by decide), hW _ (by decide)⟩
  simp only [List.map_cons, List.map_nil, List.forall_mem_cons, List.not_mem_nil, false_imp_iff, implies_true, and_true]
  exact ⟨mayPut_places hW (by decide), mayPut_places hW (by decide), mayPut_places hW (by decide)⟩

theorem Kept.peerAgain (hW : ∀ k, placeOf k ∈ peerPlaces → W k) (h : Kept W P s) : Kept W P (s.peerAgain p) :=
  h.thenIf fun h => (h.portPeer hW).thenIf (·.portDown fun k hk => hW k (List.mem_append_left _ hk))

theorem Kept.putDeskew {ms : List Marker} (hW : ∀ k, placeOf k ∈ deskewPlaces → W k) (h : Kept W P s) : Kept W P (s.putDeskew p ms) := by
  refine h.forAll fun {q u} h => ?_
  split
  · refine h.putAll ?_
    simp only [List.map_cons, List.map_nil, List.forall_mem_cons, List.not_mem_nil, false_imp_iff, implies_true, and_true]
    exact ⟨mayPut_places hW (by decide), mayPut_places hW (by decide), mayPut_places hW (by decide), mayPut_places hW (by decide)⟩
  · exact h

end

section
variable {F : Field} {s₀ s : State} {p : Nat} (h : FieldKept F s₀ s)
include h

theorem FieldKept.portDown (hF : placeOf F.key ∉ downPlaces) : FieldKept F s₀ (s.portDown p) :=
  (h.kept.portDown fun k hk (he : k = F.key) => hF (he ▸ hk)).holds

theorem FieldKept.alignLost (hF : placeOf F.key ∉ unlockPlaces) : FieldKept F s₀ (s.alignLost p) :=
  (h.kept.alignLost fun k hk (he : k = F.key) => hF (he ▸ hk)).holds

theorem FieldKept.portPeer (hF : placeOf F.key ∉ peerPlaces) : FieldKept F s₀ (s.portPeer p) :=
  (h.kept.portPeer fun k hk (he : k = F.key) => hF (he ▸ hk)).holds

theorem FieldKept.peerAgain (hF : placeOf F.key ∉ peerPlaces) : FieldKept F s₀ (s.peerAgain p) :=
  (h.kept.peerAgain fun k hk (he : k = F.key) => hF (he ▸ hk)).holds

theorem FieldKept.putDeskew {ms : List Marker} (hF : placeOf F.key ∉ deskewPlaces) : FieldKept F s₀ (s.putDeskew p ms) :=
  (h.kept.putDeskew fun k hk (he : k = F.key) => hF (he ▸ hk)).holds

end

/-- A port after it has gone down: its sequence is filled with idle blocks. -/
def PortSt.downed (x : PortSt) : PortSt := PortSt.carry none { x with up := false, out := none }

section
variable {s : State} {p q : Nat}

theorem portDown_idle (h : (s.port p).up = false) : s.portDown p = s := if_neg (by simp [h])

theorem portDown_up (h : (s.port p).up = true) : s.portDown p = (((s.setPort p (s.port p).downed).put (R.CANOPY_PEER_VALID p) 0).raise
    (R.CANOPY_PSTAT_DOWN p)).eventOpen .canopy (canopyUnit p) 0 := if_pos h

theorem canopy_portDown_up (h : (s.port p).up = true) : (s.portDown p).canopy = (s.setPort p (s.port p).downed).canopy := by
  rw [portDown_up h]
  exact (State.raise_canopy _ _).trans (State.put_canopy _ _ _)

@[simp] theorem portPeer_canopy (p : Nat) (s : State) : (s.portPeer p).canopy = s.canopy := by
  unfold State.portPeer State.flagIf
  dsimp only
  split_ifs <;> simp

@[simp] theorem putDeskew_canopy (p : Nat) (ms : List Marker) (s : State) : (s.putDeskew p ms).canopy = s.canopy :=
  forAll_induction (P := fun u => u.canopy = s.canopy) rfl fun q _ u hu => by
    split
    · exact (State.putAll_canopy _ _).trans hu
    · exact hu

/-- The Canopy part after a port has followed its peer's markers: as it was, or with the port gone down. -/
theorem canopy_peerAgain (p : Nat) (s : State) :
    (s.peerAgain p).canopy = s.canopy ∨ (s.peerAgain p).canopy = (s.setPort p (s.port p).downed).canopy := by
  have hport : (s.portPeer p).port p = s.port p := port_congr (portPeer_canopy p s) p
  unfold State.peerAgain
  split
  · next h =>
    have hup : ((s.portPeer p).port p).up = true := by
      rw [hport]
      exact (Bool.and_eq_true _ _ ▸ h).1
    split
    · refine .inr ((canopy_portDown_up hup).trans ?_)
      simp [State.setPort, hport]
    · exact .inl (portPeer_canopy p s)
  · exact .inl rfl

theorem port_peerAgain_other (h : q ≠ p) : (s.peerAgain p).port q = s.port q := by
  obtain hc | hc := canopy_peerAgain p s
  · exact port_congr hc q
  · exact (port_congr hc q).trans (port_setPort_other h _)

theorem ports_peerAgain_rise (h : keysRise none s.canopy.ports = true) : keysRise none (s.peerAgain p).canopy.ports = true := by
  obtain hc | hc := canopy_peerAgain p s
  · rwa [hc]
  · rw [hc]
    exact ports_setPort_rise h p _

/-- What a port has counted of its markers stays. -/
theorem marks_peerAgain (h : keysRise none s.canopy.ports = true) (p : Nat) :
    ((s.peerAgain p).port p).good = (s.port p).good ∧ ((s.peerAgain p).port p).bad = (s.port p).bad := by
  obtain hc | hc := canopy_peerAgain p s
  · rw [port_congr hc]
    exact ⟨rfl, rfl⟩
  · rw [port_congr hc, port_setPort_same h]
    exact ⟨rfl, rfl⟩

theorem marks_portDown (h : keysRise none s.canopy.ports = true) (p : Nat) :
    ((s.portDown p).port p).good = (s.port p).good ∧ ((s.portDown p).port p).bad = (s.port p).bad := by
  cases hup : (s.port p).up
  · rw [portDown_idle hup]
    exact ⟨rfl, rfl⟩
  · rw [port_congr (canopy_portDown_up hup), port_setPort_same h]
    exact ⟨rfl, rfl⟩

/-- A port whose peer shows this device's identity is down. -/
theorem peerAgain_ownPeer (h : keysRise none s.canopy.ports = true) (hown : s.ownPeer p = true) : ((s.peerAgain p).port p).up = false := by
  have hport : (s.portPeer p).port p = s.port p := port_congr (portPeer_canopy p s) p
  cases hup : (s.port p).up
  · rw [State.peerAgain, if_neg (by simp [hup])]
    exact hup
  · rw [State.peerAgain, if_pos (by simp [hup, hown]), if_pos hown, port_congr (canopy_portDown_up (hport ▸ hup)),
      port_setPort_same (by rwa [portPeer_canopy])]
    rfl

theorem portPeer_valid (p : Nat) (s : State) : (s.portPeer p).get (R.CANOPY_PEER_VALID p) = 1 :=
  (get_flagIf_page (b' := 0xB4000) (n' := 0) (o' := 0x5C) (by decide) (by decide) _ _).trans <|
    (get_flagIf_page (by decide) (by decide) _ _).trans <| (get_put_page (by decide) _ _).trans <|
      (get_put_page (by decide) _ _).trans (get_put_value (F := R.CANOPY_PEER_VALID p) (v := 1) Nat.one_ne_zero)

theorem portPeer_dupid (h : s.ownPeer p = true) : (s.portPeer p).get (R.CANOPY_PSTAT_DUPID p) = 1 := by
  unfold State.portPeer
  dsimp only
  refine (get_flagIf_page (b' := 0xB4000) (n' := 0) (o' := 0x5C) (by decide) (by decide) _ _).trans ?_
  exact (congrArg (State.get · _) (if_pos h)).trans (get_raise_page_same (by decide) _)

end

/-! ### Markers (R276, R277) -/

/-- A port after it has sent its markers. -/
def PortSt.marked (p dev : Nat) (x : PortSt) : PortSt :=
  let ms := (List.range 4).map (fun q => markerWord q p dev x.mseq)
  { x with mseq := (x.mseq + 1) % 256, marker := ms, line := (List.range 4).map (fun q => (q, syncHeader true, ms.getD q 0)) }

theorem marked_marker (p dev : Nat) (x : PortSt) {q : Nat} (hq : q < 4) : (x.marked p dev).marker[q]? = some (markerWord q p dev x.mseq) := by
  simp [PortSt.marked, hq]

theorem marked_line (p dev : Nat) (x : PortSt) :
    (x.marked p dev).line.map (fun e => (e.1, e.2.1)) = (List.range 4).map (fun q => (q, syncHeader true))
      ∧ (x.marked p dev).line.map (·.2.2) = (x.marked p dev).marker := ⟨rfl, rfl⟩

section
variable {s : State} {p : Nat}

theorem markerSendEffect_runs (h : s.portRuns p = true) :
    markerSendEffect p s = s.setPort p ((s.port p).marked p (s.get R.CANOPY_DEVID_ID)) := if_pos h

theorem aligned_ne {l m : Nat} (h : l ≠ m) : (R.LANE_STATUS_ALIGNED l).key ≠ (R.LANE_STATUS_ALIGNED m).key := by
  simp only [Field.key, R.LANE_STATUS_ALIGNED]
  omega

/-- The four logical lanes of a port as the alignment writes them. -/
theorem logicalLane_mem {q : Nat} : q ∈ [0, 1, 2, 3] ↔ q < 4 := by
  simp only [List.mem_cons, List.not_mem_nil, or_false]
  omega

/-- A second good set aligns the four lanes. -/
theorem forAll_aligned (s : State) : ∀ q < 4, (forAll [0, 1, 2, 3] (fun q a => a.put (R.LANE_STATUS_ALIGNED (96 + 4 * p + q)) 1) s).get
    (R.LANE_STATUS_ALIGNED (96 + 4 * p + q)) = 1 := fun q hq =>
  forAll_reaches (Q := fun _ => True) (P := fun n u => u.get (R.LANE_STATUS_ALIGNED (96 + 4 * p + n)) = 1) trivial (fun _ _ h => h)
    (fun _ _ _ => get_put_value (by exact Nat.one_ne_zero))
    (fun _ _ u hne hu => (get_put_other (aligned_ne (by omega)) 1 u).trans hu) q (logicalLane_mem.mpr hq)

/-- The state in which the four lanes of a port have lost their alignment. -/
def State.unaligned (p : Nat) (s : State) : State := forAll [0, 1, 2, 3] (fun q a =>
  (a.put (R.LANE_STATUS_ALIGNED (96 + 4 * p + q)) 0).raise (R.LANE_STAT_DESKEW (96 + 4 * p + q))) s

theorem alignLost_on (h : s.on (R.LANE_STATUS_ALIGNED (96 + 4 * p)) = true) :
    s.alignLost p = ((s.unaligned p).event .lane (laneUnit (96 + 4 * p)) 0).portDown p := if_pos h

theorem get_unaligned {s₀ : State} (hserv : s₀.inService = true) (h : Keeps s₀ s) :
    ∀ q < 4, (s.unaligned p).get (R.LANE_STATUS_ALIGNED (96 + 4 * p + q)) = 0 := fun q hq =>
  forAll_reaches (Q := Keeps s₀) (P := fun n u => u.get (R.LANE_STATUS_ALIGNED (96 + 4 * p + n)) = 0) h
    (fun _ _ h => h.put.raise) (fun _ _ h => (get_raise_page (by decide) (by decide) _).trans (get_put_same (h.regsRise hserv) _ 0))
    (fun _ _ u hne hu => (get_raise_page (by decide) (by decide) _).trans ((get_put_other (aligned_ne (by omega)) 0 u).trans hu))
    q (logicalLane_mem.mpr hq)

theorem unaligned_canopy : (s.unaligned p).canopy = s.canopy :=
  forAll_induction (P := fun u => u.canopy = s.canopy) rfl fun _ _ _ hu => (State.raise_canopy _ _).trans hu

theorem mem_alignLost : (s.alignLost p).mem = s.mem :=
  ((FieldKept.refl (F := ⟨0, 0, 0, 0, .ro⟩) s).alignLost (by decide)).mem

theorem marks_alignLost (h : keysRise none s.canopy.ports = true) :
    ((s.alignLost p).port p).good = (s.port p).good ∧ ((s.alignLost p).port p).bad = (s.port p).bad := by
  cases hon : s.on (R.LANE_STATUS_ALIGNED (96 + 4 * p))
  · rw [State.alignLost, if_neg (by simp [hon])]
    exact ⟨rfl, rfl⟩
  · have hlost : ((s.unaligned p).event .lane (laneUnit (96 + 4 * p)) 0).canopy = s.canopy :=
      (State.event_canopy _ _ _ _).trans unaligned_canopy
    rw [alignLost_on hon, ← port_congr hlost p]
    exact marks_portDown (by rwa [hlost]) p

variable {ms : List Marker} (hp : p < 4) (hlocked : ∀ q, q < 4 → s.laneUp (96 + 4 * p + q) = true ∧ (s.lane (96 + 4 * p + q)).mode = .locked)
include hp hlocked

/-- Markers are judged on four locked lanes of a port. -/
theorem markersJudged : (decide (p < 4)
    && [0, 1, 2, 3].all (fun q => s.laneUp (96 + 4 * p + q) && decide ((s.lane (96 + 4 * p + q)).mode = .locked))) = true := by
  simp only [Bool.and_eq_true, decide_eq_true_eq, List.all_eq_true]
  exact ⟨hp, fun q hq => hlocked q (logicalLane_mem.mp hq)⟩

theorem markerSetEffect_good (hgood : goodSet ms = true) (hports : keysRise none s.canopy.ports = true) {t : State} (ht : t = markerSetEffect p ms s) :
    (t.port p).bad = 0 ∧ (t.port p).good = min 2 ((s.port p).good + 1) ∧ t.mem = s.mem
      ∧ (1 ≤ (s.port p).good → ∀ q, q < 4 → t.get (R.LANE_STATUS_ALIGNED (96 + 4 * p + q)) = 1)
      ∧ ((s.port p).good = 0 → ∀ q, q < 4 → t.get (R.LANE_STATUS_ALIGNED (96 + 4 * p + q)) = s.get (R.LANE_STATUS_ALIGNED (96 + 4 * p + q))) := by
  set u := s.setPort p { s.port p with good := satTo 2 ((s.port p).good + 1), bad := 0 } with hu
  set v := (u.putDeskew p ms).peerAgain p with hv
  have hport : (u.putDeskew p ms).port p = { s.port p with good := satTo 2 ((s.port p).good + 1), bad := 0 } :=
    (port_congr (putDeskew_canopy p ms u) p).trans (port_setPort_same hports p _)
  have hkept : ∀ {F : Field}, placeOf F.key ∉ deskewPlaces → placeOf F.key ∉ peerPlaces → FieldKept F u v :=
    fun hd hpeer => ((FieldKept.refl u).putDeskew hd).peerAgain hpeer
  have hmem : v.mem = s.mem := (hkept (F := ⟨0, 0, 0, 0, .ro⟩) (by decide) (by decide)).mem
  have haligned : ∀ q, v.get (R.LANE_STATUS_ALIGNED (96 + 4 * p + q)) = s.get (R.LANE_STATUS_ALIGNED (96 + 4 * p + q)) := fun q => by
    have hplace : placeOf (R.LANE_STATUS_ALIGNED (96 + 4 * p + q)).key = 32 * 0xC + 3 := placeOf_page (by decide)
    exact (hkept (by rw [hplace]; decide) (by rw [hplace]; decide)).value
  obtain ⟨hmarks, hbad⟩ := marks_peerAgain (s := u.putDeskew p ms) (by rw [putDeskew_canopy]; exact ports_setPort_rise hports p _) p
  rw [hport] at hmarks hbad
  rw [ht, markerSetEffect, if_pos (markersJudged hp hlocked), if_pos hgood]
  rw [← satTo_eq_min]
  split_ifs with hone
  · have hloop : (forAll [0, 1, 2, 3] (fun q a => a.put (R.LANE_STATUS_ALIGNED (96 + 4 * p + q)) 1) v).canopy = v.canopy
        ∧ (forAll [0, 1, 2, 3] (fun q a => a.put (R.LANE_STATUS_ALIGNED (96 + 4 * p + q)) 1) v).mem = v.mem :=
      forAll_induction (P := fun x => x.canopy = v.canopy ∧ x.mem = v.mem) ⟨rfl, rfl⟩ fun _ _ _ hx => hx
    exact ⟨(congrArg PortSt.bad (port_congr hloop.1 p)).trans hbad, (congrArg PortSt.good (port_congr hloop.1 p)).trans hmarks,
      hloop.2.trans hmem, fun _ q hq => forAll_aligned v q hq, fun h => absurd h (by omega)⟩
  · exact ⟨hbad, hmarks, hmem, fun h => absurd h hone, fun _ q _ => haligned q⟩

theorem markerSetEffect_bad (hbad : goodSet ms = false) (hserv : s.inService = true) (hports : keysRise none s.canopy.ports = true) {t : State}
    (ht : t = markerSetEffect p ms s) :
    (t.port p).good = 0 ∧ (t.port p).bad = min 3 ((s.port p).bad + 1) ∧ t.mem = s.mem ∧ ((s.port p).bad ≠ 2 → t.regs = s.regs)
      ∧ ((s.port p).bad = 2 → s.on (R.LANE_STATUS_ALIGNED (96 + 4 * p)) = true →
        (∀ q, q < 4 → t.get (R.LANE_STATUS_ALIGNED (96 + 4 * p + q)) = 0) ∧ { cls := .lane, unit := laneUnit (96 + 4 * p) } ∈ t.flt.inbox) := by
  set u := s.setPort p { s.port p with good := 0, bad := satTo 3 ((s.port p).bad + 1) } with hu
  have hport : u.port p = { s.port p with good := 0, bad := satTo 3 ((s.port p).bad + 1) } := port_setPort_same hports p _
  have hrise : keysRise none u.canopy.ports = true := ports_setPort_rise hports p _
  rw [ht, markerSetEffect, if_pos (markersJudged hp hlocked), if_neg (by simp [hbad]), ← satTo_eq_min]
  dsimp only
  rw [← hu]
  split_ifs with htwo
  · obtain ⟨hgood', hbad'⟩ := marks_alignLost (p := p) hrise
    rw [hport] at hgood' hbad'
    refine ⟨hgood', hbad', mem_alignLost, fun h => absurd htwo h, fun _ hon => ?_⟩
    rw [alignLost_on (s := u) ((on_congr (get_congr rfl)).trans hon)]
    refine ⟨fun q hq => ?_, (InboxKept.refl _).portDown.inbox _ (by simp [State.event, State.post]) nofun⟩
    have hplace : placeOf (R.LANE_STATUS_ALIGNED (96 + 4 * p + q)).key = 32 * 0xC + 3 := placeOf_page (by decide)
    exact ((FieldKept.refl _).portDown (by rw [hplace]; decide)).value.trans
      ((get_congr (State.event_regs _ _ _ _)).trans (get_unaligned hserv (Keeps.refl s).setPort q hq))
  · rw [hport]
    exact ⟨rfl, rfl, rfl, fun _ => rfl, fun h => absurd h htwo⟩

end

end Sys2Proof.Machine
end

section
namespace Sys2Proof.Machine

/-! ## Canopy ports come up and go down, and the identity is written (R610, R611) -/

/-- The idle blocks bring the sequence to logical lane 0. -/
theorem idlesFrom_lane (lane : Nat) : (lane + (idlesFrom lane).length) % 4 = 0 := by
  simp only [idlesFrom, List.length_replicate]
  omega

/-- A port that puts no message on its lanes. -/
theorem carry_none (x : PortSt) : x.carry none = { x with line := onLanes x.lane (idlesFrom x.lane), lane := 0 } := by
  simp [PortSt.carry, idlesFrom_lane]

section
variable {s t : State} {p q : Nat}

/-- A port comes up with its peer, unless that shows this device's identity. -/
theorem canopyUpEffect_shows (hruns : s.portRuns p = true) (hdown : (s.port p).up = false)
    (haligned : ∀ q, q < 4 → s.on (R.LANE_STATUS_ALIGNED (96 + 4 * p + q)) = true) (hports : keysRise none s.canopy.ports = true)
    (ht : t = canopyUpEffect p s) :
    t.get (R.CANOPY_PEER_VALID p) = 1 ∧ t.mem = s.mem
      ∧ (s.get (R.LANE_DESKEW_PEER (96 + 4 * p)) = s.get R.CANOPY_DEVID_ID → (t.port p).up = false ∧ t.get (R.CANOPY_PSTAT_DUPID p) = 1)
      ∧ (s.get (R.LANE_DESKEW_PEER (96 + 4 * p)) ≠ s.get R.CANOPY_DEVID_ID → t.port p = { s.port p with up := true }) := by
  have hall : [0, 1, 2, 3].all (fun q => s.on (R.LANE_STATUS_ALIGNED (96 + 4 * p + q))) = true :=
    List.all_eq_true.mpr fun q hq => haligned q (logicalLane_mem.mp hq)
  have hmem : ∀ u : State, (u.portPeer p).mem = u.mem := fun u => ((FieldKept.refl (F := ⟨0, 0, 0, 0, .ro⟩) u).portPeer (by decide)).mem
  rw [ht, canopyUpEffect, if_pos (by simp [hruns, hall, hdown])]
  split_ifs with hown
  · have hsame : s.get (R.LANE_DESKEW_PEER (96 + 4 * p)) = s.get R.CANOPY_DEVID_ID := of_decide_eq_true hown
    refine ⟨portPeer_valid p s, hmem s, fun _ => ⟨?_, portPeer_dupid hown⟩, fun h => absurd hsame h⟩
    rw [port_congr (portPeer_canopy p s)]
    exact hdown
  · refine ⟨portPeer_valid p _, hmem _, fun h => absurd (decide_eq_true h) hown, fun _ => ?_⟩
    rw [port_congr (portPeer_canopy p _)]
    exact port_setPort_same hports p _

theorem canopyUpEffect_idle (h : s.portRuns p = false) : canopyUpEffect p s = s := if_neg (by simp [h])

/-- A port that goes down keeps its queue, and its sequence is filled up to logical lane 0. -/
theorem portDown_shows (hup : (s.port p).up = true) (hserv : s.inService = true) (hports : keysRise none s.canopy.ports = true)
    (ht : t = s.portDown p) :
    (t.port p).up = false ∧ (t.port p).out = none ∧ (t.port p).queue = (s.port p).queue ∧ (t.port p).lane = 0
      ∧ (t.port p).line = onLanes (s.port p).lane (idlesFrom (s.port p).lane) ∧ t.get (R.CANOPY_PEER_VALID p) = 0
      ∧ t.get (R.CANOPY_PSTAT_DOWN p) = 1 ∧ t.flt.inbox = s.flt.inbox ++ [{ cls := .canopy, unit := 0x0600 + p, standing := true }] ∧ t.mem = s.mem := by
  have hport : t.port p = (s.port p).downed := by
    rw [ht, port_congr (canopy_portDown_up hup)]
    exact port_setPort_same hports p _
  have hmem : t.mem = s.mem := ht ▸ ((FieldKept.refl (F := ⟨0, 0, 0, 0, .ro⟩) s).portDown (by decide)).mem
  rw [portDown_up hup] at ht
  rw [hport, PortSt.downed, carry_none]
  refine ⟨rfl, rfl, rfl, rfl, rfl, ?_, ?_, ?_, hmem⟩
  · rw [ht]
    exact (get_raise_page (by decide) (by decide) _).trans (get_put_same (inService_regsRise hserv) _ 0)
  · rw [ht]
    exact get_raise_page_same (by decide) _
  · rw [ht]
    simp [State.eventOpen, State.post, canopyUnit]

/-! ### The identity -/

/-- A write with an action of its own to DEVID, in service. -/
theorem commanded_devid (hserv : s.inService = true) (f : State → State) : s.commanded 0xB0100 f = f s :=
  commanded_inService hserv (g := 6) (by decide) (inService_common hserv (by decide)) (by cases s.variant <;> decide) f

/-- The state in which the identity has been written, before the ports go by it. -/
def State.putDevid (v : Nat) (s : State) : State := (s.put R.CANOPY_DEVID_ID v).put R.CANOPY_DEVID_SET 1

theorem devidEffect_free (hserv : s.inService = true) (hset : s.on R.CANOPY_DEVID_SET = false) (v : Nat) :
    devidEffect v s = forAll (List.range 4) State.peerAgain (s.putDevid v) := by
  rw [devidEffect, if_pos (inService_common hserv (by decide)), if_neg (by simp [hset])]
  rfl

theorem get_putDevid_id (hserv : s.inService = true) (v : Nat) : (s.putDevid v).get R.CANOPY_DEVID_ID = v % 2 ^ R.CANOPY_DEVID_ID.w :=
  (get_put_other (by decide) 1 _).trans (get_put_same (inService_regsRise hserv) _ v)

theorem get_putDevid_set (v : Nat) : (s.putDevid v).get R.CANOPY_DEVID_SET = 1 := get_put_value (F := R.CANOPY_DEVID_SET) (v := 1) Nat.one_ne_zero

theorem get_putDevid_peer (v q : Nat) : (s.putDevid v).get (R.LANE_DESKEW_PEER (96 + 4 * q)) = s.get (R.LANE_DESKEW_PEER (96 + 4 * q)) :=
  (get_put_page (b' := 0xB0000) (n' := 0) (o' := 0x100) (by decide) _ _).trans (get_put_page (b' := 0xB0000) (n' := 0) (o' := 0x100) (by decide) _ s)

/-- The fields that the ports do not write as they go by a new identity. -/
theorem fieldKept_peersAgain {F : Field} (hF : placeOf F.key ∉ peerPlaces) (l : List Nat) : FieldKept F s (forAll l State.peerAgain s) :=
  forAll_induction (P := FieldKept F s) (FieldKept.refl s) fun _ _ _ h => h.peerAgain hF

/-- Ports that are down stay as they are. -/
theorem peersAgain_down (hdown : ∀ q, q < 4 → (s.port q).up = false) : forAll (List.range 4) State.peerAgain s = s :=
  forAll_induction (P := (· = s)) rfl fun q hq u hu => by
    rw [hu]
    exact if_neg (by simp [hdown q (List.mem_range.mp hq)])

/-- What the ports see as they go by a new identity: the ports in order, the identity, and the identities of their peers. -/
structure PeersSeen (s u : State) : Prop where
  ports : keysRise none u.canopy.ports = true
  devid : u.get R.CANOPY_DEVID_ID = s.get R.CANOPY_DEVID_ID
  peer : ∀ q, u.get (R.LANE_DESKEW_PEER (96 + 4 * q)) = s.get (R.LANE_DESKEW_PEER (96 + 4 * q))

theorem PeersSeen.peerAgain {u : State} (h : PeersSeen s u) (p : Nat) : PeersSeen s (u.peerAgain p) where
  ports := ports_peerAgain_rise h.ports
  devid := ((FieldKept.refl u).peerAgain (by decide)).value.trans h.devid
  peer := fun q => by
    have hplace : placeOf (R.LANE_DESKEW_PEER (96 + 4 * q)).key = 32 * 0x6C + 18 := placeOf_page (by decide)
    exact ((FieldKept.refl u).peerAgain (by rw [hplace]; decide)).value.trans (h.peer q)

/-- A port whose peer has the device's identity is down once the ports have gone by it. -/
theorem peersAgain_ownPeer (hports : keysRise none s.canopy.ports = true) :
    ∀ q < 4, s.ownPeer q = true → ((forAll (List.range 4) State.peerAgain s).port q).up = false := fun q hq =>
  forAll_reaches (Q := PeersSeen s) (P := fun n u => s.ownPeer n = true → (u.port n).up = false) ⟨hports, rfl, fun _ => rfl⟩
    (fun n u h => h.peerAgain n)
    (fun n u h hown => peerAgain_ownPeer h.ports (by rwa [State.ownPeer, h.peer, h.devid]))
    (fun n m u hne hu hown => by rw [port_peerAgain_other hne]; exact hu hown) q (List.mem_range.mpr hq)

theorem devidEffect_shows (hserv : s.inService = true) (hports : keysRise none s.canopy.ports = true) (hset : s.on R.CANOPY_DEVID_SET = false)
    (v : Nat) (ht : t = devidEffect v s) :
    t.get R.CANOPY_DEVID_ID = v % 2 ^ R.CANOPY_DEVID_ID.w ∧ t.get R.CANOPY_DEVID_SET = 1 ∧ t.mem = s.mem
      ∧ ((∀ q, q < 4 → (s.port q).up = false) → RegsKeptBut [R.CANOPY_DEVID_ID, R.CANOPY_DEVID_SET] s t ∧ t.canopy = s.canopy)
      ∧ (∀ q, q < 4 → (s.port q).up = true → s.get (R.LANE_DESKEW_PEER (96 + 4 * q)) = v % 2 ^ R.CANOPY_DEVID_ID.w → (t.port q).up = false) := by
  rw [ht, devidEffect_free hserv hset]
  refine ⟨?_, ?_, (fieldKept_peersAgain (F := ⟨0, 0, 0, 0, .ro⟩) (by decide) _).mem, fun hdown => ?_, fun q hq _ hpeer => ?_⟩
  · exact (fieldKept_peersAgain (by decide) _).value.trans (get_putDevid_id hserv v)
  · exact (fieldKept_peersAgain (by decide) _).value.trans (get_putDevid_set v)
  · rw [peersAgain_down (s := s.putDevid v) hdown]
    exact ⟨(regsKeptBut_put _ v s).trans (regsKeptBut_put _ 1 _), rfl⟩
  · exact peersAgain_ownPeer (s := s.putDevid v) hports q hq
      (decide_eq_true ((get_putDevid_peer v q).trans (hpeer.trans (get_putDevid_id hserv v).symm)))

theorem devidEffect_locked (hserv : s.inService = true) (hset : s.on R.CANOPY_DEVID_SET = true) (v : Nat) (ht : t = devidEffect v s) :
    t.get R.CANOPY_DEVID_ID = s.get R.CANOPY_DEVID_ID ∧ t.get (R.CANOPY_STATUS_LOCKV 0) = 1 := by
  rw [ht, devidEffect, if_pos (inService_common hserv (by decide)), if_pos hset]
  exact ⟨get_raise_page (b := 0xB0000) (n := 0) (o := 0x100) (by decide) (by decide) s, get_raise_page_same (by decide) s⟩

end

end Sys2Proof.Machine
end

section
namespace Sys2Proof.Machine

/-! ## A message as the blocks that carry it (R612 to R614) -/

theorem leBytes_leNat (bs : List Byte) : leBytes bs.length (leNat bs) = bs := by
  induction bs with
  | nil => rfl
  | cons b bs ih =>
    have hb : b.toNat < 256 := b.isLt
    have hbyte : BitVec.ofNat 8 (b.toNat + 256 * leNat bs) = b := BitVec.eq_of_toNat_eq (by rw [BitVec.toNat_ofNat]; omega)
    have hrest : (b.toNat + 256 * leNat bs) / 256 = leNat bs := by omega
    simp only [leNat, List.length_cons, leBytes, hbyte, hrest, ih]

theorem payloadBlocks_length (n : Nat) (bs : List Byte) : (payloadBlocks n bs).length = n := by
  induction n generalizing bs with
  | zero => rfl
  | succ n ih => exact congrArg (· + 1) (ih _)

/-- The payload blocks of whole blocks of bytes carry these bytes. -/
theorem payloadBlocks_bytes {n : Nat} {bs : List Byte} (h : bs.length = 8 * n) : (payloadBlocks n bs).flatMap (leBytes 8) = bs := by
  induction n generalizing bs with
  | zero => exact (List.eq_nil_of_length_eq_zero h).symm
  | succ n ih =>
    have hfirst : leBytes 8 (leNat (bs.take 8)) = bs.take 8 := by
      have hlen : (bs.take 8).length = 8 := by rw [List.length_take]; omega
      rw [← hlen]
      simpa only [hlen] using leBytes_leNat (bs.take 8)
    rw [payloadBlocks, List.flatMap_cons, hfirst, ih (by rw [List.length_drop]; omega), List.take_append_drop]

theorem padBlocks_length (bs : List Byte) : (padBlocks bs).length = 8 * ((bs.length + 7) / 8) := by
  simp only [padBlocks, List.length_append, List.length_replicate]
  omega

/-- A data block is no marker. -/
theorem unmarked_data (bs : List Nat) : unmarked (bs.map (fun b => (syncHeader false, b))) = bs := by
  induction bs with
  | nil => rfl
  | cons b bs ih => exact congrArg (b :: ·) ih

theorem unmarked_cons {b : Nat × Nat} (h : isMarker b = false) (bs : List (Nat × Nat)) : unmarked (b :: bs) = b.2 :: unmarked bs := by
  simp [unmarked, h]

section
variable (m : CMsg) (fwd : Bool)

/-- No block of a message is a marker. -/
theorem unmarked_blocks : unmarked (m.blocks fwd) = (m.b0 m.hops * 2 ^ 8 + 0x78) :: (m.inner ++ [m.mcrcSent fwd * 2 ^ 32]) := by
  have hfirst : isMarker (syncHeader true, m.b0 m.hops * 2 ^ 8 + 0x78) = false := by
    simp only [isMarker, bits, decide_eq_false_iff_not]
    omega
  rw [CMsg.blocks, unmarked_cons hfirst, unmarked_data]

variable {m}

/-- The fields of block 0 are read back. -/
theorem bits_b0 (htype : m.mtype < 16) (hdst : m.dst < 1024) (hsrc : m.src < 1024) (hhops : m.hops < 16) (hsess : m.sess < 256)
    (hseq : m.seq < 256) (hlen : m.payload.length ≤ 256) :
    bits (m.b0 m.hops) 52 4 = m.mtype ∧ bits (m.b0 m.hops) 42 10 = m.dst ∧ bits (m.b0 m.hops) 32 10 = m.src ∧ bits (m.b0 m.hops) 28 4 = m.hops
      ∧ bits (m.b0 m.hops) 20 8 = m.sess ∧ bits (m.b0 m.hops) 12 8 = m.seq ∧ bits (m.b0 m.hops) 6 6 = m.nblk := by
  have hn : m.nblk ≤ 32 := by unfold CMsg.nblk; omega
  simp only [bits, CMsg.b0]
  refine ⟨?_, ?_, ?_, ?_, ?_, ?_, ?_⟩ <;> omega

theorem msgOf_blocks (htype : m.mtype < 16) (hdst : m.dst < 1024) (hsrc : m.src < 1024) (hhops : m.hops < 16) (hsess : m.sess < 256)
    (hseq : m.seq < 256) (htag : m.tag < 2 ^ 32) (haux : m.aux < 2 ^ 32) (hlen : m.payload.length ≤ 256) :
    msgOf (unmarked (m.blocks fwd)) = some { m with payload := padBlocks m.payload, mcrc := m.mcrcSent fwd % 2 ^ 32 } := by
  obtain ⟨btype, bdst, bsrc, bhops, bsess, bseq, bnblk⟩ := bits_b0 htype hdst hsrc hhops hsess hseq hlen
  have hn : m.nblk ≤ 32 := by unfold CMsg.nblk; omega
  have hhead : (m.b0 m.hops * 2 ^ 8 + 0x78) / 2 ^ 8 = m.b0 m.hops := by omega
  have hkind : (m.b0 m.hops * 2 ^ 8 + 0x78) % 2 ^ 8 = 0x78 := by omega
  have btag : bits (m.tag * 2 ^ 32 + m.aux) 32 32 = m.tag := by simp only [bits]; omega
  have baux : bits (m.tag * 2 ^ 32 + m.aux) 0 32 = m.aux := by simp only [bits]; omega
  have hplen : (payloadBlocks m.nblk (padBlocks m.payload)).length = m.nblk := payloadBlocks_length _ _
  have hpayload : ((payloadBlocks m.nblk (padBlocks m.payload) ++ [m.mcrcSent fwd * 2 ^ 32]).take m.nblk).flatMap (leBytes 8) = padBlocks m.payload := by
    rw [List.take_left' hplen]
    exact payloadBlocks_bytes (padBlocks_length _)
  have hmcrc : bits ((payloadBlocks m.nblk (padBlocks m.payload) ++ [m.mcrcSent fwd * 2 ^ 32]).getD m.nblk 0) 32 32 = m.mcrcSent fwd % 2 ^ 32 := by
    have hlast : (payloadBlocks m.nblk (padBlocks m.payload) ++ [m.mcrcSent fwd * 2 ^ 32]).getD m.nblk 0 = m.mcrcSent fwd * 2 ^ 32 := by
      simp [List.getD, hplen]
    rw [hlast]
    simp [bits]
  rw [unmarked_blocks, CMsg.inner, List.cons_append, msgOf]
  simp only [hhead, bnblk, hkind, btype, bdst, bsrc, bhops, bsess, bseq, btag, baux, hpayload, hmcrc]
  exact if_pos ⟨trivial, hn, by rw [List.length_append, hplen]; exact Nat.lt_succ_self _⟩

end

end Sys2Proof.Machine
end

section
namespace Sys2Proof.Machine

/-! ## What a port does with a message (R614 to R617) -/

section
variable {s t : State} {p q : Nat} {m : CMsg} {lanes : List (List (Nat × Nat))}

theorem port_enqueue (h : keysRise none s.canopy.ports = true) (q cls : Nat) (m : CMsg) :
    ((s.enqueue q cls m).port q).queue = (s.port q).queue ++ [(cls, m)] :=
  congrArg PortSt.queue (port_setPort_same h q _)

/-- A port that is up has counted a message and judged its check. -/
def State.msgSeen (p : Nat) (m : CMsg) (s : State) : State := (s.addTo (R.CANOPY_RX_CNT_COUNT p) 1).judgeMcrc p m

theorem msgSeen_ok (h : m.mcrcOk = true) : s.msgSeen p m = s.addTo (R.CANOPY_RX_CNT_COUNT p) 1 := if_pos h

theorem msgSeen_wrong (h : m.mcrcOk = false) : s.msgSeen p m
    = ((s.addTo (R.CANOPY_RX_CNT_COUNT p) 1).addTo (R.CANOPY_ERR_CNT_MCRC p) 1).raise (R.CANOPY_PSTAT_MCRC p) := if_neg (by simp [h])

theorem msgSeen_canopy : (s.msgSeen p m).canopy = s.canopy := by
  cases h : m.mcrcOk
  · rw [msgSeen_wrong h]
    exact State.raise_canopy _ _
  · rw [msgSeen_ok h]
    rfl

theorem msgSeen_mem : (s.msgSeen p m).mem = s.mem := by
  cases h : m.mcrcOk
  · rw [msgSeen_wrong h]
    exact State.raise_mem _ _
  · rw [msgSeen_ok h]
    rfl

theorem keeps_msgSeen : Keeps s (s.msgSeen p m) := by
  cases h : m.mcrcOk
  · rw [msgSeen_wrong h]
    exact (Keeps.refl s).addTo.addTo.raise
  · rw [msgSeen_ok h]
    exact (Keeps.refl s).addTo

theorem msgSeen_drop : (s.msgSeen p m).get (R.CANOPY_ERR_CNT_DROP p) = s.get (R.CANOPY_ERR_CNT_DROP p) := by
  cases h : m.mcrcOk
  · rw [msgSeen_wrong h]
    exact (get_raise_page (by decide) (by decide) _).trans <| (get_put_page (by decide) _ _).trans (get_put_page (by decide) _ s)
  · rw [msgSeen_ok h]
    exact get_put_page (by decide) _ s

/-- A wrong check is counted and flagged. -/
theorem msgSeen_mcrc (h : m.mcrcOk = false) (hserv : s.inService = true) : (s.msgSeen p m).get (R.CANOPY_PSTAT_MCRC p) = 1
    ∧ (s.msgSeen p m).get (R.CANOPY_ERR_CNT_MCRC p) = (s.get (R.CANOPY_ERR_CNT_MCRC p) + 1) % 2 ^ (R.CANOPY_ERR_CNT_MCRC p).w := by
  have hold : (s.addTo (R.CANOPY_RX_CNT_COUNT p) 1).get (R.CANOPY_ERR_CNT_MCRC p) = s.get (R.CANOPY_ERR_CNT_MCRC p) :=
    get_put_page (by decide) _ s
  rw [msgSeen_wrong h, ← hold]
  exact ⟨get_raise_page_same (by decide) _,
    (get_raise_page (by decide) (by decide) _).trans (get_put_same ((Keeps.refl s).addTo.regsRise hserv) _ _)⟩

/-- The status bits of a port that a dropped message sets. -/
def dropFlags (p : Nat) : List (Option Field) := [none, some (R.CANOPY_PSTAT_NOROUTE p), some (R.CANOPY_PSTAT_HOPS0 p)]

/-- A dropped message is counted. -/
theorem dropMsg_shows (hk : keysRise none s.regs = true) {flag : Option Field} (h : flag ∈ dropFlags p) :
    (s.dropMsg p flag).canopy = s.canopy ∧ (s.dropMsg p flag).mem = s.mem
      ∧ (s.dropMsg p flag).get (R.CANOPY_ERR_CNT_DROP p) = (s.get (R.CANOPY_ERR_CNT_DROP p) + 1) % 2 ^ (R.CANOPY_ERR_CNT_DROP p).w
      ∧ (s.dropMsg p flag).get (R.CANOPY_PSTAT_MCRC p) = s.get (R.CANOPY_PSTAT_MCRC p)
      ∧ (s.dropMsg p flag).get (R.CANOPY_ERR_CNT_MCRC p) = s.get (R.CANOPY_ERR_CNT_MCRC p) := by
  have hcount : (s.addTo (R.CANOPY_ERR_CNT_DROP p) 1).get (R.CANOPY_ERR_CNT_DROP p)
      = (s.get (R.CANOPY_ERR_CNT_DROP p) + 1) % 2 ^ (R.CANOPY_ERR_CNT_DROP p).w := get_put_same hk _ _
  have hstat : (s.addTo (R.CANOPY_ERR_CNT_DROP p) 1).get (R.CANOPY_PSTAT_MCRC p) = s.get (R.CANOPY_PSTAT_MCRC p) := get_put_page (by decide) _ s
  have hmcrc : (s.addTo (R.CANOPY_ERR_CNT_DROP p) 1).get (R.CANOPY_ERR_CNT_MCRC p) = s.get (R.CANOPY_ERR_CNT_MCRC p) := get_put_page (by decide) _ s
  simp only [dropFlags, List.mem_cons, List.not_mem_nil, or_false] at h
  obtain rfl | rfl | rfl := h
  · exact ⟨rfl, rfl, hcount, hstat, hmcrc⟩
  · exact ⟨State.raise_canopy _ _, State.raise_mem _ _, (get_raise_page (by decide) (by decide) _).trans hcount,
      (get_raise_page (by decide) (by decide) _).trans hstat, (get_raise_page (by decide) (by decide) _).trans hmcrc⟩
  · exact ⟨State.raise_canopy _ _, State.raise_mem _ _, (get_raise_page (by decide) (by decide) _).trans hcount,
      (get_raise_page (by decide) (by decide) _).trans hstat, (get_raise_page (by decide) (by decide) _).trans hmcrc⟩

/-- What becomes of a message that a port has seen: nothing more, a drop, or a place in the queue of a port. -/
theorem canopyMsgEffect_cases (hup : s.portUp p = true) : canopyMsgEffect p m s = s.msgSeen p m
    ∨ (∃ flag ∈ dropFlags p, canopyMsgEffect p m s = (s.msgSeen p m).dropMsg p flag)
    ∨ ∃ q m', canopyMsgEffect p m s = (s.msgSeen p m).enqueue q 3 m' := by
  have hnone : none ∈ dropFlags p := by simp [dropFlags]
  have hnoroute : some (R.CANOPY_PSTAT_NOROUTE p) ∈ dropFlags p := by simp [dropFlags]
  have hhops : some (R.CANOPY_PSTAT_HOPS0 p) ∈ dropFlags p := by simp [dropFlags]
  rw [canopyMsgEffect, if_pos hup]
  dsimp only
  split
  · exact .inr (.inl ⟨_, hnone, rfl⟩)
  · split
    · split
      · exact .inr (.inl ⟨_, hnone, rfl⟩)
      · exact .inl rfl
    · split
      · exact .inr (.inl ⟨_, hnoroute, rfl⟩)
      · split
        · exact .inr (.inl ⟨_, hnoroute, rfl⟩)
        · split
          · exact .inr (.inl ⟨_, hhops, rfl⟩)
          · exact .inr (.inr ⟨_, _, rfl⟩)

/-- A message with a wrong check counts as that, whatever becomes of it. -/
theorem canopyMsgEffect_mcrc (hserv : s.inService = true) (hup : s.portUp p = true) (h : m.mcrcOk = false) (ht : t = canopyMsgEffect p m s) :
    t.get (R.CANOPY_PSTAT_MCRC p) = 1 ∧ t.mem = s.mem
      ∧ t.get (R.CANOPY_ERR_CNT_MCRC p) = (s.get (R.CANOPY_ERR_CNT_MCRC p) + 1) % 2 ^ (R.CANOPY_ERR_CNT_MCRC p).w := by
  obtain ⟨hstat, hcount⟩ := msgSeen_mcrc (p := p) h hserv
  rw [ht]
  obtain heq | ⟨flag, hflag, heq⟩ | ⟨q, m', heq⟩ := canopyMsgEffect_cases (m := m) hup
  · rw [heq]
    exact ⟨hstat, msgSeen_mem, hcount⟩
  · obtain ⟨-, hmem, -, hstat', hcount'⟩ := dropMsg_shows (keeps_msgSeen.regsRise hserv) hflag
    rw [heq]
    exact ⟨hstat'.trans hstat, hmem.trans msgSeen_mem, hcount'.trans hcount⟩
  · rw [heq]
    exact ⟨hstat, msgSeen_mem, hcount⟩

theorem canopyRxEffect_none (h : msgOf (reassemble (lanes.map unmarked)) = none) : canopyRxEffect p lanes s = s := by rw [canopyRxEffect, h]

theorem canopyRxEffect_some (h : msgOf (reassemble (lanes.map unmarked)) = some m) : canopyRxEffect p lanes s = canopyMsgEffect p m s := by
  rw [canopyRxEffect, h]

/-- What a dropped message leaves of the state before it. -/
theorem dropped_shows (hserv : s.inService = true) {flag : Option Field} (h : flag ∈ dropFlags p) (ht : t = (s.msgSeen p m).dropMsg p flag) :
    t.canopy = s.canopy ∧ t.mem = s.mem ∧ t.get (R.CANOPY_ERR_CNT_DROP p) = (s.get (R.CANOPY_ERR_CNT_DROP p) + 1) % 2 ^ (R.CANOPY_ERR_CNT_DROP p).w := by
  obtain ⟨hcanopy, hmem, hdrop, -, -⟩ := dropMsg_shows (keeps_msgSeen (m := m).regsRise hserv) h
  rw [ht]
  exact ⟨hcanopy.trans msgSeen_canopy, hmem.trans msgSeen_mem, hdrop.trans (by rw [msgSeen_drop])⟩

/-- The state in which a port has forwarded a message of another device, or dropped it. -/
def State.forwarded (p : Nat) (m : CMsg) (s : State) : State :=
  match s.routeTo m.dst with
  | none => (s.msgSeen p m).dropMsg p (some (R.CANOPY_PSTAT_NOROUTE p))
  | some q =>
    if m.hops = 0 then (s.msgSeen p m).dropMsg p (some (R.CANOPY_PSTAT_HOPS0 p))
    else (s.msgSeen p m).enqueue q 3 { m with hops := m.hops - 1 }

theorem forwarded_noroute (h : s.routeTo m.dst = none) :
    s.forwarded p m = (s.msgSeen p m).dropMsg p (some (R.CANOPY_PSTAT_NOROUTE p)) := by rw [State.forwarded, h]

theorem forwarded_noHops (h : s.routeTo m.dst = some q) (hhops : m.hops = 0) :
    s.forwarded p m = (s.msgSeen p m).dropMsg p (some (R.CANOPY_PSTAT_HOPS0 p)) := by
  rw [State.forwarded, h]
  exact if_pos hhops

theorem forwarded_queued (h : s.routeTo m.dst = some q) (hhops : 0 < m.hops) :
    s.forwarded p m = (s.msgSeen p m).enqueue q 3 { m with hops := m.hops - 1 } := by
  rw [State.forwarded, h]
  exact if_neg (by omega)

section
variable (hup : s.portUp p = true) (hck : s.isCkPort p = false)
include hup

theorem canopyMsgEffect_unknown (h : 9 ≤ m.mtype) : canopyMsgEffect p m s = (s.msgSeen p m).dropMsg p none := by
  rw [canopyMsgEffect, if_pos hup]
  exact if_pos h

include hck

/-- A message for another device goes by its route. -/
theorem canopyMsgEffect_forward (hdst : m.dst ≠ s.get R.CANOPY_DEVID_ID) (htype : m.mtype < 9) :
    canopyMsgEffect p m s = State.forwarded p m s := by
  rw [canopyMsgEffect, if_pos hup]
  dsimp only
  rw [if_neg (by omega), if_neg hdst, if_neg (by simp [hck])]
  rfl

end

end

end Sys2Proof.Machine
end

section
namespace Sys2Proof.Machine

/-! ## What a port transmits (R612, R617) -/

section
variable {s t : State} {p : Nat}

theorem ckSent_other (hck : s.isCkPort p = false) : s.ckSent p = s := by
  unfold State.ckSent
  split
  · exact if_neg (by simp [hck])
  · rfl
  · rfl

theorem staticAgain_other (hck : s.isCkPort p = false) : s.staticAgain p = s := if_neg (by simp [hck])

/-- The class of the first entry, where no other is lower. -/
theorem nextClass_first {c : Nat} {m : CMsg} {rest : List (Nat × CMsg)} (h : ∀ e ∈ rest, c ≤ e.1) : nextClass ((c, m) :: rest) = some c := by
  simp only [nextClass, List.foldl_cons]
  induction rest with
  | nil => rfl
  | cons e rest ih =>
    obtain ⟨he, hrest⟩ := List.forall_mem_cons.mp h
    simpa only [List.foldl_cons, Nat.min_eq_left he] using ih hrest

section
variable (hup : s.portUp p = true) (hck : s.isCkPort p = false) (hports : keysRise none s.canopy.ports = true)
include hup hck hports

/-- With nothing to send, the sequence is filled up to logical lane 0. -/
theorem canopyTxEffect_empty (hq : (s.port p).queue = []) (ht : t = canopyTxEffect p s) :
    (t.port p).out = none ∧ (t.port p).queue = [] ∧ (t.port p).lane = 0
      ∧ (t.port p).line = onLanes (s.port p).lane (idlesFrom (s.port p).lane) ∧ t.regs = s.regs ∧ t.mem = s.mem := by
  have heff : canopyTxEffect p s = s.setPort p (PortSt.carry none { s.port p with out := none }) := by
    rw [canopyTxEffect, if_pos hup, ckSent_other hck, staticAgain_other hck]
    simp only [hq, nextClass, List.foldl_nil]
  rw [ht, heff, port_setPort_same hports, carry_none]
  exact ⟨rfl, hq, rfl, rfl, rfl, rfl⟩

/-- The first message of the lowest class leaves, its first block on logical lane 0. -/
theorem canopyTxEffect_first {c : Nat} {m : CMsg} {rest : List (Nat × CMsg)} (hq : (s.port p).queue = (c, m) :: rest)
    (hc : ∀ e ∈ rest, c ≤ e.1) (ht : t = canopyTxEffect p s) :
    (t.port p).out = some m ∧ (t.port p).queue = rest ∧ t.mem = s.mem
      ∧ (t.port p).line = onLanes (s.port p).lane (idlesFrom (s.port p).lane ++ m.blocks (decide (c = 3))) := by
  have heff : canopyTxEffect p s = (s.setPort p (PortSt.carry (some (decide (c = 3), m)) { s.port p with out := some m, queue := rest })).addTo
      (R.CANOPY_TX_CNT_COUNT p) 1 := by
    rw [canopyTxEffect, if_pos hup, ckSent_other hck, staticAgain_other hck]
    simp only [hq, nextClass_first hc, takeClass, if_true, Option.map_some]
  have hport : t.port p = PortSt.carry (some (decide (c = 3), m)) { s.port p with out := some m, queue := rest } := by
    rw [ht, heff, port_congr (State.addTo_canopy _ _ _), port_setPort_same hports]
  rw [hport]
  exact ⟨rfl, rfl, ht ▸ heff ▸ rfl, rfl⟩

end

/-! ## Time over the fabric (R623) -/

section
variable (hup : s.portUp p = true) (hck : s.isCkPort p = false)
include hup hck

/-- A port that is up and not the checkpoint port carries time messages. -/
theorem portTalks_other : s.portTalks p = true := by simp [State.portTalks, hup, hck]

theorem treqSendEffect_sends (h : s.sendsTreq p = true) : treqSendEffect p s = s.enqueue p 1 (s.peerMsg p 2 0 0 []) :=
  if_pos (by simp [portTalks_other hup hck, h])

theorem treqReceivedEffect_answers {m : CMsg} (hok : m.mcrcOk = true) (htype : m.mtype = 2) (htdn : s.tdn p = true) (t2 t3 : Nat) :
    treqReceivedEffect p m t2 t3 s
      = s.enqueue p 1 { s.peerMsg p 3 0 (s.get R.TIME_STATUS_VALID) (leBytes 8 t2 ++ leBytes 8 t3) with dst := m.src } :=
  if_pos (by simp [portTalks_other hup hck, hok, htype, htdn])

end

theorem treqSendEffect_idle (h : s.sendsTreq p = false) : treqSendEffect p s = s := if_neg (by simp [h])

theorem treqReceivedEffect_idle (h : s.tdn p = false) (m : CMsg) (t2 t3 : Nat) : treqReceivedEffect p m t2 t3 s = s := if_neg (by simp [h])

end

/-! ### An offset for the servo -/

/-- `OffsetKept F s₀ s`: in `s`, which an offset for the servo has made from `s₀`, the field `F`, the memory and device time are what they were. -/
structure OffsetKept (F : Field) (s₀ s : State) : Prop where
  value : s.get F = s₀.get F
  mem : s.mem = s₀.mem
  time : s.time = s₀.time

section
variable {F : Field} {s₀ s : State} {off : Int}

theorem frame_offsetKept (F : Field) (s₀ : State) : Frame (· ≠ F.key) (OffsetKept F s₀) where
  update h := ⟨h.value, h.mem, h.time⟩
  put hw h := ⟨(get_put_other hw.symm _ _).trans h.value, h.mem, h.time⟩

theorem OffsetKept.kept (h : OffsetKept F s₀ s) : Kept (· ≠ F.key) (OffsetKept F s₀) s := ⟨frame_offsetKept F s₀, h⟩

theorem OffsetKept.planEnd (h : OffsetKept F s₀ s) : OffsetKept F s₀ s.planEnd := ⟨h.value, h.mem, h.time⟩

variable (hF : 32 * 0x5000 ≤ F.key)
include hF

theorem timePage_ne (k : Nat) (hk : k < 32 * 0x5000) : k ≠ F.key := by omega

theorem OffsetKept.setInc {inc : Nat} (h : OffsetKept F s₀ s) : OffsetKept F s₀ (s.setInc inc) := by
  have hloaded : OffsetKept F s₀ ((({ s with servo := { s.servo with inc := inc } }).put R.TIME_INC_NS_NS (inc / 2 ^ 32)).put R.TIME_INC_FR_FR inc) :=
    ((h.kept.update.put (timePage_ne hF _ (by decide))).put (timePage_ne hF _ (by decide))).holds
  exact (Kept.thenIf hloaded.kept fun _ => hloaded.planEnd.kept).update.holds

theorem OffsetKept.servoCompute (h : OffsetKept F s₀ s) : OffsetKept F s₀ (s.servoCompute off) :=
  OffsetKept.setInc hF (((h.kept.update.flagIf ⟨timePage_ne hF _ (by decide), timePage_ne hF _ (by decide)⟩).update.put
    (timePage_ne hF _ (by decide)))).holds

theorem OffsetKept.offsetLock (h : OffsetKept F s₀ s) : OffsetKept F s₀ (s.offsetLock off) :=
  have hend := h.kept.put (F := R.TIME_STATUS_HOLDOVER) (v := 0) (timePage_ne hF _ (by decide))
  (Kept.ite (hend.update.thenIf (·.put (timePage_ne hF _ (by decide)))) (hend.update.put (timePage_ne hF _ (by decide)))).holds

theorem OffsetKept.servoTake (h : OffsetKept F s₀ s) : OffsetKept F s₀ (s.servoTake off) := by
  have hshown : OffsetKept F s₀ (s.putS R.TIME_OFFSET_OFF (clampInt (-2 ^ 31) (2 ^ 31 - 1) (off / 2 ^ 16))) :=
    (h.kept.put (timePage_ne hF _ (by decide))).holds
  have hlock := (OffsetKept.offsetLock hF (off := off) hshown).kept
  unfold State.servoTake
  extract_lets small s1 s2
  have h2 : Kept (· ≠ F.key) (OffsetKept F s₀) s2 := hlock.thenIf (·.put (timePage_ne hF _ (by decide)))
  exact (Kept.ite h2.update (OffsetKept.servoCompute hF h2.holds).kept).holds

/-- An offset for the servo leaves the registers of other pages, the memory and device time alone. -/
theorem OffsetKept.servoOffset {src : Nat} (h : OffsetKept F s₀ s) : OffsetKept F s₀ (s.servoOffset src off) :=
  (h.kept.thenIf fun h => (OffsetKept.servoTake hF (off := off) h.holds).kept.update).holds

end

section
variable {s t : State} {p : Nat} {m : CMsg} {t1 t4 : Int} (hup : s.portUp p = true) (hck : s.isCkPort p = false) (hok : m.mcrcOk = true)
  (htype : m.mtype = 3) (htup : s.tup p = true)
include hup hck hok htype htup

/-- A TRESP without a valid time sets T_NV. -/
theorem trespReceivedEffect_invalid (haux : bitOf m.aux 0 = false) (ht : t = trespReceivedEffect p m t1 t4 s) :
    t.get (R.CANOPY_PSTAT_T_NV p) = 1 ∧ t.servo = s.servo ∧ t.mem = s.mem := by
  have heff : trespReceivedEffect p m t1 t4 s = s.raise (R.CANOPY_PSTAT_T_NV p) :=
    (if_pos (by simp [portTalks_other hup hck, hok, htype, htup])).trans (if_neg (by simp [haux]))
  rw [ht, heff]
  exact ⟨get_raise_page_same (by decide) s, State.raise_servo _ _, State.raise_mem _ _⟩

/-- A valid TRESP gives the delay, and an offset for the servo. -/
theorem trespReceivedEffect_valid (hserv : s.inService = true) (haux : bitOf m.aux 0 = true) (ht : t = trespReceivedEffect p m t1 t4 s) :
    t.mem = s.mem ∧ t.time = s.time
      ∧ t.get (R.CANOPY_TDLY_DLY p) = codeOf (R.CANOPY_TDLY_DLY p).w (((leNat (m.payload.take 8) : Int) - t1) + (t4 - leNat ((m.payload.drop 8).take 8))) := by
  have hpage : 32 * 0x5000 ≤ (R.CANOPY_TDLY_DLY p).key := by
    simp only [Field.key, R.CANOPY_TDLY_DLY]
    omega
  have heff : trespReceivedEffect p m t1 t4 s = _ :=
    (if_pos (by simp [portTalks_other hup hck, hok, htype, htup])).trans (if_pos haux)
  rw [ht, heff]
  obtain ⟨hvalue, hmem, htime⟩ := OffsetKept.servoOffset hpage (src := 2) (⟨rfl, rfl, rfl⟩ : OffsetKept (R.CANOPY_TDLY_DLY p) _ _)
  exact ⟨hmem, htime, hvalue.trans ((get_put_same (inService_regsRise hserv) _ _).trans (Nat.mod_eq_of_lt (codeOf_lt _ _)))⟩

end

end Sys2Proof.Machine
end

section
namespace Sys2Proof.Machine

/-! ### The statement of the Canopy ports -/

/-- Settles O50: markers (`markerSendEffect_runs`, `markerSetEffect_good`, `markerSetEffect_bad`), ports that come up and go down
(`canopyUpEffect_shows`, `portDown_shows`), the identity (`devidEffect_shows`), the blocks of a message (`msgOf_blocks`), what becomes of a
message (`canopyMsgEffect_mcrc`, `canopyMsgEffect_forward`, `dropped_shows`), the transmitter (`canopyTxEffect_first`) and the exchange of time
(`trespReceivedEffect_valid`). -/
theorem canopyPorts : Obligations.CanopyPorts := by
  intro s p hserv hp hports
  have next : ∀ {u v : State}, u = v → Host.Outcome.next (φ := Fault) (ρ := Refusal) u = .next v := fun h => congrArg Host.Outcome.next h
  have received : ∀ {m : CMsg} {lanes}, msgOf (reassemble (lanes.map unmarked)) = some m →
      exec (.canopyMessageReceived p lanes) s = .next (canopyMsgEffect p m s) := fun hm => next (canopyRxEffect_some hm)
  have hdown : exec (.canopyPortDown p) s = .next (s.portDown p) :=
    next (if_pos (by simp [hp, inService_common hserv (g := 6) (by decide)]))
  refine ⟨fun hruns => ?_, fun hruns => ⟨next (if_neg (by simp [hruns])), next (canopyUpEffect_idle hruns)⟩, fun ms hlocked => ⟨fun hgood => ?_, fun hbad => ?_⟩,
    fun hruns hidle haligned => ⟨_, rfl, canopyUpEffect_shows hruns hidle haligned hports rfl⟩, fun hidle => hdown.trans (next (portDown_idle hidle)),
    fun hup => ⟨_, hdown, portDown_shows hup hserv hports rfl⟩, fun v => ⟨fun hset => ?_, fun hset => ?_⟩,
    fun m fwd htype hdst hsrc hhops hsess hseq htag haux hlen => msgOf_blocks fwd htype hdst hsrc hhops hsess hseq htag haux hlen,
    fun lanes hm => next (canopyRxEffect_none hm), fun hup m lanes hm hwrong => ⟨_, received hm, canopyMsgEffect_mcrc hserv hup hwrong rfl⟩,
    fun hup hck => ⟨fun m lanes hm hdst htype => ⟨fun hroute => ?_, fun q hroute => ⟨fun hhops => ?_, fun hhops => ?_⟩⟩, fun m lanes hm htype => ?_,
      fun hq => ⟨_, rfl, canopyTxEffect_empty hup hck hports hq rfl⟩, fun c m rest hq hc => ⟨_, rfl, canopyTxEffect_first hup hck hports hq hc rfl⟩,
      fun hsend => ?_, fun hsend => next (treqSendEffect_idle hsend), fun m t2 t3 hok htype htdn => ?_,
      fun m t2 t3 htdn => next (treqReceivedEffect_idle htdn m t2 t3), fun m t1 t4 hok htype htup => ⟨fun haux => ?_, fun haux => ?_⟩⟩⟩
  · obtain ⟨hline, hwords⟩ := marked_line p (s.get R.CANOPY_DEVID_ID) (s.port p)
    refine ⟨_, next (markerSendEffect_runs hruns), rfl, rfl, ?_⟩
    rw [port_setPort_same hports]
    exact ⟨rfl, rfl, rfl, rfl, fun q hq => marked_marker p _ _ hq, hline, hwords⟩
  · exact ⟨_, rfl, markerSetEffect_good hp hlocked hgood hports rfl⟩
  · exact ⟨_, rfl, markerSetEffect_bad hp hlocked hbad hserv hports rfl⟩
  · exact ⟨_, next (commanded_devid hserv _), devidEffect_shows hserv hports hset v rfl⟩
  · exact ⟨_, next (commanded_devid hserv _), devidEffect_locked hserv hset v rfl⟩
  · have heff := (canopyMsgEffect_forward hup hck hdst htype).trans (forwarded_noroute hroute)
    obtain ⟨hcanopy, hmem, hdrop⟩ := dropped_shows (m := m) hserv (p := p) (flag := some (R.CANOPY_PSTAT_NOROUTE p)) (by simp [dropFlags]) rfl
    exact ⟨_, (received hm).trans (next heff), hcanopy, get_raise_page_same (by decide) _, hmem, hdrop⟩
  · have heff := (canopyMsgEffect_forward hup hck hdst htype).trans (forwarded_noHops hroute hhops)
    obtain ⟨hcanopy, hmem, -⟩ := dropped_shows (m := m) hserv (p := p) (flag := some (R.CANOPY_PSTAT_HOPS0 p)) (by simp [dropFlags]) rfl
    exact ⟨_, (received hm).trans (next heff), hcanopy, get_raise_page_same (by decide) _, hmem⟩
  · have heff := (canopyMsgEffect_forward hup hck hdst htype).trans (forwarded_queued hroute hhops)
    refine ⟨_, (received hm).trans (next heff), ?_, msgSeen_mem⟩
    rw [port_enqueue (by rwa [msgSeen_canopy]), port_congr msgSeen_canopy]
  · exact ⟨_, (received hm).trans (next (canopyMsgEffect_unknown hup htype)), dropped_shows hserv (by simp [dropFlags]) rfl⟩
  · exact ⟨_, next (treqSendEffect_sends hup hck hsend), port_enqueue hports p 1 _, rfl, rfl⟩
  · exact ⟨_, next (treqReceivedEffect_answers hup hck hok htype htdn t2 t3), rfl, rfl, port_enqueue hports p 1 _⟩
  · exact ⟨_, rfl, trespReceivedEffect_invalid hup hck hok htype htup haux rfl⟩
  · exact ⟨_, rfl, trespReceivedEffect_valid hup hck hok htype htup hserv haux rfl⟩

end Sys2Proof.Machine
end

section
namespace Sys2Proof.Machine

/-! ## A loop unit whose EN write lies ahead

LOOP_TRIGGER first brings time to the instant of the phase trigger, and compares the last EN write of 0 with that instant (R320, R321). The
statement compares it with the instant before. A state in service may hold an instant still to come there, which no run of the device leaves. -/

/-- In service with a phase trigger for loop unit 0, disabled, 10 ns ahead, and an EN write of 0 at that same instant. -/
def loopOffAhead : State :=
  State.putAll [(R.U_TRIG_SRC 0, 1), (R.U_TRIG_PH 0, 1), (R.ARM_CYC_LEN_LEN, 700)]
    { glades := (List.range 44).map (fun g => (g, { inReset := false }))
      host := { phase := .applied }
      arm := { running := true }
      loops := [(0, { offAt := some (el 10) })] }

theorem loopOffAhead_inService : loopOffAhead.inService = true := by decide

theorem loopOffAhead_off : loopOffAhead.on (R.U_CTRL_EN 0) = false ∧ (loopOffAhead.loop 0).offAt ≠ some loopOffAhead.elapsed
    ∧ (loopOffAhead.loop 0).waiting = false := by decide

theorem exec_loopTrigger_loopOffAhead : ∃ t, exec (.loopTrigger 0) loopOffAhead = .next t ∧ (t.loop 0).waiting = true := by
  refine ⟨_, rfl, ?_⟩
  decide

/-- Refutes O36: its first clause lets no trigger of a disabled unit start a sample, unless EN goes to 0 at the present instant. Where the EN
write of 0 stands at the instant of the phase trigger, to which LOOP_TRIGGER brings time, the trigger latches a sample. -/
theorem not_loopUnits : ¬ Obligations.LoopUnits := by
  intro h
  obtain ⟨hoff, hahead, hidle⟩ := loopOffAhead_off
  obtain ⟨hignored, -⟩ := h loopOffAhead 0 loopOffAhead_inService (by decide) (by decide)
  obtain ⟨t, hexec, -, -, hwaiting, -⟩ := hignored hoff hahead
  obtain ⟨u, hexec', hlatched⟩ := exec_loopTrigger_loopOffAhead
  cases hexec.symm.trans hexec'
  rw [hlatched, hidle] at hwaiting
  exact absurd hwaiting (by decide)

end Sys2Proof.Machine
end

section
namespace Sys2Proof.Machine

/-! ## Tables of unique keys, and a loop that passes each number once -/

section
variable {α : Type} {l : List (Nat × α)} {p : Option Nat} {n : Nat}

theorem lt_of_keysRise (h : keysRise (some n) l = true) : ∀ k ∈ l.map (·.1), n < k := by
  induction l generalizing n with
  | nil => simp
  | cons e t ih =>
    obtain ⟨k, w⟩ := e
    simp only [keysRise, Bool.and_eq_true, decide_eq_true_eq] at h
    intro j hj
    rcases List.mem_cons.mp hj with rfl | hj
    · exact h.1
    · exact h.1.trans (ih h.2 j hj)

theorem keys_nodup (h : keysRise p l = true) : (l.map (·.1)).Nodup := by
  induction l generalizing p with
  | nil => exact List.nodup_nil
  | cons e t ih =>
    obtain ⟨k, w⟩ := e
    simp only [keysRise, Bool.and_eq_true] at h
    exact List.nodup_cons.mpr ⟨fun hk => lt_irrefl k (lt_of_keysRise h.2 k hk), ih h.2⟩

theorem mem_keys_of_lookupKey {v : α} (h : lookupKey l n = some v) : n ∈ l.map (·.1) := by
  by_contra hn
  rw [lookupKey_unlisted hn] at h
  cases h

end

/-- What a loop makes of a view that one of its passes alone moves. -/
theorem forAll_at {β : Type} {Q : State → Prop} {g : State → β} {h : β → β} {f : Nat → State → State} {l : List Nat} {n : Nat} {s : State}
    (hl : l.Nodup) (hn : n ∈ l) (hs : Q s) (hkeep : ∀ m u, Q u → Q (f m u)) (hat : ∀ u, Q u → g (f n u) = h (g u))
    (hother : ∀ m u, m ≠ n → g (f m u) = g u) : g (forAll l f s) = h (g s) := by
  induction l generalizing s with
  | nil => cases hn
  | cons a t ih =>
    obtain ⟨ha, ht⟩ := List.nodup_cons.mp hl
    by_cases hna : n = a
    · subst hna
      have hrest : g (forAll t f (f n s)) = g (f n s) :=
        forAll_induction (P := fun u => g u = g (f n s)) rfl fun m hm u hu => (hother m u fun e => ha (e ▸ hm)).trans hu
      exact hrest.trans (hat s hs)
    · exact (ih ht ((List.mem_cons.mp hn).resolve_left hna) (hkeep a s hs)).trans (congrArg h (hother a s (Ne.symm hna)))

end Sys2Proof.Machine
end

section
namespace Sys2Proof.Machine

/-! ## A post of flags (R312, R426, R467) -/

section
variable {s : State} {f k : Nat} {x : TaskSt}

/-! ### What one task makes of it (R467) -/

theorem task_setTask_same (k : Nat) (x : TaskSt) (s : State) : (s.setTask k x).task k = some x := lookupKey_insertKey_same _ _ _

theorem task_setTask_other {j : Nat} (h : k ≠ j) (x : TaskSt) (s : State) : (s.setTask j x).task k = s.task k := lookupKey_insertKey_other h _ _

theorem lor_ne_zero {a b : Nat} (h : b ≠ 0) : Nat.lor a b ≠ 0 := fun e => h (Nat.or_eq_zero_iff.mp e).2

/-- The flags that reach a ready task leave its readiness time alone; those of an instant after it stand apart (R492). -/
theorem postTask_ready (now : Nat) (hready : x.ready = true) (h : Nat.land f (taskMask x.decl) ≠ 0) :
    (postTask f now x).1 = if x.readyAt < now then
        { x with pend := Nat.lor x.pend (Nat.land f (taskMask x.decl)), lateAt := now
                 late := if x.lateAt = now then Nat.lor x.late (Nat.land f (taskMask x.decl)) else Nat.land f (taskMask x.decl) }
      else { x with pend := Nat.lor x.pend (Nat.land f (taskMask x.decl)) } := by
  simp only [postTask, if_neg h, if_pos hready]

/-- The flags that complete a task's rule make it ready now. -/
theorem postTask_completes (now : Nat) (hready : x.ready = false) (h : Nat.land f (taskMask x.decl) ≠ 0)
    (hrule : taskReady x.decl (Nat.lor x.pend (Nat.land f (taskMask x.decl))) = true) :
    (postTask f now x).1 = { x with pend := Nat.lor x.pend (Nat.land f (taskMask x.decl)), ready := true, readyAt := now } := by
  simp only [postTask, if_neg h, hready, Bool.false_eq_true, if_false, if_pos hrule]

/-- Flags that do not complete the rule only wait. -/
theorem postTask_waits (now : Nat) (hready : x.ready = false) (h : Nat.land f (taskMask x.decl) ≠ 0)
    (hrule : taskReady x.decl (Nat.lor x.pend (Nat.land f (taskMask x.decl))) = false) :
    (postTask f now x).1 = { x with pend := Nat.lor x.pend (Nat.land f (taskMask x.decl)) } := by
  simp only [postTask, if_neg h, hready, hrule, Bool.false_eq_true, if_false]

theorem taskMask_any {m : Nat} (h : x.decl.ready = .any m) : taskMask x.decl = m := by simp [taskMask, h]

theorem taskMask_all {m : Nat} (h : x.decl.ready = .all m) : taskMask x.decl = m := by simp [taskMask, h]

/-- The first flag of its mask makes an ANY task ready. -/
theorem postTask_any {m now : Nat} (hdecl : x.decl.ready = .any m) (hready : x.ready = false) (h : Nat.land f m ≠ 0) :
    (postTask f now x).1 = { x with pend := Nat.lor x.pend (Nat.land f m), ready := decide (Nat.lor x.pend (Nat.land f m) ≠ 0), readyAt := now } := by
  obtain rfl := taskMask_any hdecl
  have hpend : decide (Nat.lor x.pend (Nat.land f (taskMask x.decl)) ≠ 0) = true := decide_eq_true (lor_ne_zero h)
  rw [postTask_completes now hready h (by simpa only [taskReady, hdecl] using hpend), hpend]

/-- The last flag of its mask makes an ALL task ready. -/
theorem postTask_all_full {m now : Nat} (hdecl : x.decl.ready = .all m) (hready : x.ready = false) (h : Nat.land f m ≠ 0)
    (hfull : Nat.lor x.pend (Nat.land f m) = m) : (postTask f now x).1 = { x with pend := m, ready := true, readyAt := now } := by
  obtain rfl := taskMask_all hdecl
  rw [postTask_completes now hready h (by simpa only [taskReady, hdecl] using decide_eq_true hfull), hfull]

theorem postTask_all_part {m now : Nat} (hdecl : x.decl.ready = .all m) (hready : x.ready = false) (h : Nat.land f m ≠ 0)
    (hpart : Nat.lor x.pend (Nat.land f m) ≠ m) : (postTask f now x).1 = { x with pend := Nat.lor x.pend (Nat.land f m) } := by
  obtain rfl := taskMask_all hdecl
  exact postTask_waits now hready h (by simpa only [taskReady, hdecl] using decide_eq_false hpart)

/-- A task as a post of flags leaves it: it takes them where it is enabled and not fenced (R467, R478). -/
def flagged (f now : Nat) (fenced : Bool) (x : TaskSt) : TaskSt := if x.enabled && !fenced then (postTask f now x).1 else x

theorem task_postFlagsTo_same (f k : Nat) (s : State) : (s.postFlagsTo f k).task k = (s.task k).map (flagged f s.elNs (s.taskFenced k)) := by
  unfold State.postFlagsTo flagged
  cases hx : s.task k with
  | none => exact hx
  | some x =>
    dsimp only [Option.map_some]
    split_ifs
    · exact task_setTask_same k _ s
    · exact task_setTask_same k _ s
    · exact hx

theorem task_postFlagsTo_other {j : Nat} (h : j ≠ k) (f : Nat) (s : State) : (s.postFlagsTo f j).task k = s.task k := by
  unfold State.postFlagsTo
  split
  · rfl
  · dsimp only
    split_ifs
    · exact task_setTask_other h.symm _ s
    · exact task_setTask_other h.symm _ s
    · rfl

/-! ### What each part of a post moves -/

/-- A post to a task moves the tasks, and of the registers the count of coalesced posts. -/
theorem postFlagsTo_shape (f j : Nat) (s : State) :
    ∃ regs tasks, s.postFlagsTo f j = { s with regs, sched := { s.sched with tasks } }
      ∧ ∀ G : Field, G.key ≠ R.SCHED_CNT_COAL_COUNT.key → (s.postFlagsTo f j).get G = s.get G := by
  unfold State.postFlagsTo
  split
  · exact ⟨_, _, rfl, fun _ _ => rfl⟩
  · dsimp only
    split_ifs
    · exact ⟨_, _, rfl, fun G hG => get_put_other hG _ _⟩
    · exact ⟨_, _, rfl, fun _ _ => rfl⟩
    · exact ⟨_, _, rfl, fun _ _ => rfl⟩

theorem postToLoop_shape (f j : Nat) (s : State) : ∃ loops, s.postToLoop f j = { s with loops } := by
  unfold State.postToLoop
  split <;> exact ⟨_, rfl⟩

theorem postToAdc_shape (f j : Nat) (s : State) : ∃ adcs, s.postToAdc f j = { s with adcs } := by
  unfold State.postToAdc
  split <;> exact ⟨_, rfl⟩

/-- The tasks take a post of flags. -/
def State.postToTasks (f : Nat) (s : State) : State := forAll (s.sched.tasks.map (·.1)) (State.postFlagsTo f) s

/-- The loop units take a post of flags. -/
def State.postToLoops (f : Nat) (s : State) : State := forAll (List.range s.variant.loops) (State.postToLoop f) s

/-- The two converter cores take a post of flags. -/
def State.postToAdcs (f : Nat) (s : State) : State := forAll [0, 1] (State.postToAdc f) s

theorem postToTasks_shape (f : Nat) (s : State) :
    ∃ regs tasks, s.postToTasks f = { s with regs, sched := { s.sched with tasks } }
      ∧ ∀ G : Field, G.key ≠ R.SCHED_CNT_COAL_COUNT.key → (s.postToTasks f).get G = s.get G := by
  refine forAll_induction (P := fun u => ∃ regs tasks, u = { s with regs, sched := { s.sched with tasks } }
    ∧ ∀ G : Field, G.key ≠ R.SCHED_CNT_COAL_COUNT.key → u.get G = s.get G) ⟨_, _, rfl, fun _ _ => rfl⟩ fun j _ u hu => ?_
  obtain ⟨regs, tasks, hshape, hget⟩ := postFlagsTo_shape f j u
  obtain ⟨_, _, rfl, hget'⟩ := hu
  exact ⟨regs, tasks, hshape, fun G hG => (hget G hG).trans (hget' G hG)⟩

theorem postToLoops_shape (f : Nat) (s : State) : ∃ loops, s.postToLoops f = { s with loops } := by
  refine forAll_induction (P := fun u => ∃ loops, u = { s with loops }) ⟨_, rfl⟩ fun j _ u hu => ?_
  obtain ⟨_, rfl⟩ := hu
  exact postToLoop_shape f j _

theorem postToAdcs_shape (f : Nat) (s : State) : ∃ adcs, s.postToAdcs f = { s with adcs } := by
  refine forAll_induction (P := fun u => ∃ adcs, u = { s with adcs }) ⟨_, rfl⟩ fun j _ u hu => ?_
  obtain ⟨_, rfl⟩ := hu
  exact postToAdc_shape f j _

/-- A post of flags goes to the tasks, to the loop units and to the converter cores. -/
theorem postFlags_eq (hup : s.up 5 = true) (f : Nat) : s.postFlags f = ((s.postToTasks f).postToLoops f).postToAdcs f := by
  obtain ⟨_, _, hshape, -⟩ := postToTasks_shape f s
  have hvariant : (s.postToTasks f).variant = s.variant := by rw [hshape]
  unfold State.postFlags State.postToAdcs State.postToLoops
  rw [if_pos hup, hvariant]
  rfl

theorem postFlags_mem (f : Nat) (s : State) : (s.postFlags f).mem = s.mem := by
  by_cases hup : s.up 5 = true
  · obtain ⟨_, hadcs⟩ := postToAdcs_shape f ((s.postToTasks f).postToLoops f)
    obtain ⟨_, hloops⟩ := postToLoops_shape f (s.postToTasks f)
    obtain ⟨_, _, htasks, -⟩ := postToTasks_shape f s
    rw [postFlags_eq hup, hadcs, hloops, htasks]
  · rw [State.postFlags, if_neg hup]

/-- A declared task takes a post once, whatever the other tasks make of it. -/
theorem task_postFlags (hup : s.up 5 = true) (htasks : keysRise none s.sched.tasks = true) (hx : s.task k = some x) (f : Nat) :
    (s.postFlags f).task k = some (flagged f s.elNs (s.taskFenced k) x) := by
  have hrest : (s.postFlags f).task k = (s.postToTasks f).task k := by
    obtain ⟨_, hadcs⟩ := postToAdcs_shape f ((s.postToTasks f).postToLoops f)
    obtain ⟨_, hloops⟩ := postToLoops_shape f (s.postToTasks f)
    rw [postFlags_eq hup, hadcs, hloops]
    rfl
  have hown : (s.postToTasks f).task k = (s.task k).map (flagged f s.elNs (s.taskFenced k)) := by
    refine forAll_at (Q := fun u => u.elapsed = s.elapsed ∧ u.flt = s.flt) (g := (·.task k)) (keys_nodup htasks) (mem_keys_of_lookupKey hx)
      ⟨rfl, rfl⟩ (fun j u hu => ?_) (fun u hu => ?_) fun j u hj => task_postFlagsTo_other hj f u
    · obtain ⟨_, _, hshape, -⟩ := postFlagsTo_shape f j u
      rw [hshape]
      exact hu
    · rw [task_postFlagsTo_same]
      simp only [State.elNs, State.taskFenced, hu.1, hu.2]
  rw [hrest, hown, hx, Option.map_some]

/-! ### What a loop unit and a converter core make of it (R312, R426) -/

theorem loop_postToLoop_same (hrise : keysRise none s.loops = true) (hsrc : s.get (R.U_TRIG_SRC k) = 2)
    (hevt : bitOf f (s.get (R.U_TRIG_EVT_IN k)) = true) :
    (s.postToLoop f k).loop k = { s.loop k with trigs := (s.loop k).trigs + 1, trigAt := some s.elapsed } := by
  rw [State.postToLoop, if_pos ⟨hsrc, hevt⟩]
  exact tget_tset_same hrise k _

theorem loop_postToLoop_other {j : Nat} (h : j ≠ k) (f : Nat) (s : State) : (s.postToLoop f j).loop k = s.loop k := by
  unfold State.postToLoop
  split
  · exact tget_tset_other h.symm _
  · rfl

theorem postToLoop_rise (hrise : keysRise none s.loops = true) (f j : Nat) : keysRise none (s.postToLoop f j).loops = true := by
  unfold State.postToLoop
  split
  · exact keysRise_tset hrise _ _
  · exact hrise

theorem adc_postToAdc_same {c : Nat} (hrise : keysRise none s.adcs = true) (hon : s.on (R.ADC_CTRL_EN c) = true)
    (hsrc : s.get (R.ADC_TRIG_SRC c) = 1) (hevt : bitOf f (s.get (R.ADC_TRIG_EVT_IN c)) = true) :
    (s.postToAdc f c).adc c = { s.adc c with trigs := (s.adc c).trigs + 1 } := by
  rw [State.postToAdc, if_pos (by simp [hon, hsrc, hevt])]
  exact tget_tset_same hrise c _

theorem adc_postToAdc_other {j c : Nat} (h : j ≠ c) (f : Nat) (s : State) : (s.postToAdc f j).adc c = s.adc c := by
  unfold State.postToAdc
  split
  · exact tget_tset_other h.symm _
  · rfl

theorem postToAdc_rise (hrise : keysRise none s.adcs = true) (f j : Nat) : keysRise none (s.postToAdc f j).adcs = true := by
  unfold State.postToAdc
  split
  · exact keysRise_tset hrise _ _
  · exact hrise

theorem loop_postToLoops (hrise : keysRise none s.loops = true) (hk : k < s.variant.loops) (hsrc : s.get (R.U_TRIG_SRC k) = 2)
    (hevt : bitOf f (s.get (R.U_TRIG_EVT_IN k)) = true) :
    (s.postToLoops f).loop k = { s.loop k with trigs := (s.loop k).trigs + 1, trigAt := some s.elapsed } := by
  refine forAll_at (Q := fun u => (∃ loops, u = { s with loops }) ∧ keysRise none u.loops = true) (g := (·.loop k))
    (h := fun x => { x with trigs := x.trigs + 1, trigAt := some s.elapsed }) List.nodup_range (List.mem_range.mpr hk) ⟨⟨_, rfl⟩, hrise⟩
    (fun j u hu => ?_) (fun u hu => ?_) fun j u hj => loop_postToLoop_other hj f u
  · obtain ⟨⟨_, rfl⟩, hrise'⟩ := hu
    exact ⟨postToLoop_shape f j _, postToLoop_rise hrise' f j⟩
  · obtain ⟨⟨_, rfl⟩, hrise'⟩ := hu
    exact loop_postToLoop_same hrise' hsrc hevt

theorem adc_postToAdcs {c : Nat} (hrise : keysRise none s.adcs = true) (hc : c < 2) (hon : s.on (R.ADC_CTRL_EN c) = true)
    (hsrc : s.get (R.ADC_TRIG_SRC c) = 1) (hevt : bitOf f (s.get (R.ADC_TRIG_EVT_IN c)) = true) :
    (s.postToAdcs f).adc c = { s.adc c with trigs := (s.adc c).trigs + 1 } := by
  refine forAll_at (Q := fun u => (∃ adcs, u = { s with adcs }) ∧ keysRise none u.adcs = true) (g := (·.adc c))
    (h := fun x => { x with trigs := x.trigs + 1 }) (by decide) (List.mem_pair.mpr (by omega)) ⟨⟨_, rfl⟩, hrise⟩
    (fun j u hu => ?_) (fun u hu => ?_) fun j u hj => adc_postToAdc_other hj f u
  · obtain ⟨⟨_, rfl⟩, hrise'⟩ := hu
    exact ⟨postToAdc_shape f j _, postToAdc_rise hrise' f j⟩
  · obtain ⟨⟨_, rfl⟩, hrise'⟩ := hu
    exact adc_postToAdc_same hrise' hon hsrc hevt

theorem triggerKeys_ne_coal (k : Nat) : (R.U_TRIG_SRC k).key ≠ R.SCHED_CNT_COAL_COUNT.key ∧ (R.U_TRIG_EVT_IN k).key ≠ R.SCHED_CNT_COAL_COUNT.key
    ∧ (R.ADC_CTRL_EN k).key ≠ R.SCHED_CNT_COAL_COUNT.key ∧ (R.ADC_TRIG_SRC k).key ≠ R.SCHED_CNT_COAL_COUNT.key
    ∧ (R.ADC_TRIG_EVT_IN k).key ≠ R.SCHED_CNT_COAL_COUNT.key := by
  simp only [Field.key, R.U_TRIG_SRC, R.U_TRIG_EVT_IN, R.ADC_CTRL_EN, R.ADC_TRIG_SRC, R.ADC_TRIG_EVT_IN, R.SCHED_CNT_COAL_COUNT]
  omega

/-- A loop unit whose EVT_IN names a flag of the post takes a trigger (R312). -/
theorem loop_postFlags (hup : s.up 5 = true) (hrise : keysRise none s.loops = true) (hk : k < s.variant.loops)
    (hsrc : s.get (R.U_TRIG_SRC k) = 2) (hevt : bitOf f (s.get (R.U_TRIG_EVT_IN k)) = true) :
    (s.postFlags f).loop k = { s.loop k with trigs := (s.loop k).trigs + 1, trigAt := some s.elapsed } := by
  obtain ⟨_, hadcs⟩ := postToAdcs_shape f ((s.postToTasks f).postToLoops f)
  obtain ⟨_, _, htasks, hget⟩ := postToTasks_shape f s
  obtain ⟨hsrcKey, hevtKey, -⟩ := triggerKeys_ne_coal k
  have hloops := loop_postToLoops (s := s.postToTasks f) (by rw [htasks]; exact hrise) (by rw [htasks]; exact hk)
    ((hget _ hsrcKey).trans hsrc) (by rwa [hget _ hevtKey])
  calc (s.postFlags f).loop k = ((s.postToTasks f).postToLoops f).loop k := by rw [postFlags_eq hup, hadcs]; rfl
    _ = _ := by rw [hloops, htasks]; rfl

/-- An enabled converter core whose EVT_IN names a flag of the post takes a trigger (R426). -/
theorem adc_postFlags {c : Nat} (hup : s.up 5 = true) (hrise : keysRise none s.adcs = true) (hc : c < 2) (hon : s.on (R.ADC_CTRL_EN c) = true)
    (hsrc : s.get (R.ADC_TRIG_SRC c) = 1) (hevt : bitOf f (s.get (R.ADC_TRIG_EVT_IN c)) = true) :
    (s.postFlags f).adc c = { s.adc c with trigs := (s.adc c).trigs + 1 } := by
  obtain ⟨_, hloops⟩ := postToLoops_shape f (s.postToTasks f)
  obtain ⟨_, _, htasks, hget⟩ := postToTasks_shape f s
  have hadcs : ((s.postToTasks f).postToLoops f).adcs = s.adcs := by rw [hloops, htasks]
  have hget' : ∀ G : Field, G.key ≠ R.SCHED_CNT_COAL_COUNT.key → ((s.postToTasks f).postToLoops f).get G = s.get G :=
    fun G hG => by rw [hloops]; exact hget G hG
  obtain ⟨-, -, honKey, hsrcKey, hevtKey⟩ := triggerKeys_ne_coal c
  rw [postFlags_eq hup, adc_postToAdcs (by rwa [hadcs]) hc (by rwa [State.on, hget' _ honKey]) ((hget' _ hsrcKey).trans hsrc)
    (by rwa [hget' _ hevtKey]), State.adc, hadcs]
  rfl

/-! ### The commands that post flags -/

/-- FLAG_POST, HOST_FLAG_POST and PX.POSTE post their flags alike (R461, R467, R502). -/
theorem exec_flagPosts {c : Instr} (hserv : s.inService = true) (hf : f < 2 ^ 32)
    (hc : c = .flagPost f ∨ c = .hostFlagPost f ∨ ∃ u rs1, c = .pxPoste u rs1 ∧ s.coreRuns u = true ∧ s.getX u rs1 = f) :
    exec c s = .next (s.postFlags f) := by
  rcases hc with rfl | rfl | ⟨u, rs1, rfl, hruns, rfl⟩
  · rfl
  · have heff : s.commanded 0x5044 (hostFlagPostEffect f) = s.postFlags f := by
      rw [commanded_inService hserv (g := 5) rfl (inService_common hserv (by decide)) (by cases s.variant <;> rfl), hostFlagPostEffect,
        Nat.mod_eq_of_lt hf]
    exact congrArg Host.Outcome.next heff
  · exact congrArg Host.Outcome.next ((if_pos hruns).trans (overLink_inService hserv _ _ _))

end
end Sys2Proof.Machine
end

section
namespace Sys2Proof.Machine

/-! ## A posted operand (R462, R469, R504) -/

section
variable {s : State} {o : Stalled} {k : Nat} {x : TaskSt}

/-! ### What becomes of it in the store -/

/-- An operand that no matched task takes is dropped, with ORPHAN and an L0 event (R470). -/
def State.orphan (s : State) : State := ((s.addTo R.SCHED_MATCH_CNT_ORPHAN 1).raise R.SCHED_STAT_ORPHAN).event0 .sched storeUnit 0

theorem postOperandAt_orphan (hown : s.tagOwner o.tag = none) (again : Bool) : s.postOperandAt again o = (s.orphan, .dropped) := by
  rw [State.postOperandAt, hown]
  rfl

theorem postOperandAt_fills (hown : s.tagOwner o.tag = some (k, x)) (hbit : bitOf (taskOpMask x.decl) o.idx = true)
    (hnew : lookupKey (tget [] s.sched.fill o.tag) o.idx = none) (hroom : s.storeFill < 1024) (again : Bool) :
    s.postOperandAt again o = (s.fillOperand k x o.tag o.idx o.val, .accepted) := by
  simp [State.postOperandAt, hown, hbit, hnew, Nat.not_le.mpr hroom]

/-- An operand of an owned tag is accepted while the store has room, a duplicate too (R470). -/
theorem postOperandAt_accepted (hown : s.tagOwner o.tag = some (k, x)) (hbit : bitOf (taskOpMask x.decl) o.idx = true)
    (hroom : s.storeFill < 1024) (again : Bool) : (s.postOperandAt again o).2 = .accepted := by
  cases hold : lookupKey (tget [] s.sched.fill o.tag) o.idx with
  | none => rw [postOperandAt_fills hown hbit hold hroom]
  | some v => simp [State.postOperandAt, hown, hbit, hold]

/-- The operands of a tag, complete with the last one, go to the task (R469). -/
theorem fillOperand_completes {tag idx v : Nat}
    (hall : (bitList 8 (taskOpMask x.decl)).all (fun j => (lookupKey (insertKey idx v (tget [] s.sched.fill tag)) j).isSome) = true) :
    s.fillOperand k x tag idx v = ((s.setFill tag []).setTask k
      { x with insts := x.insts ++ [{ tag := tag, ops := insertKey idx v (tget [] s.sched.fill tag), at_ := s.elNs }] }).fillUpdate :=
  if_pos hall

theorem fillOperand_waits {tag idx v : Nat}
    (hall : (bitList 8 (taskOpMask x.decl)).all (fun j => (lookupKey (insertKey idx v (tget [] s.sched.fill tag)) j).isSome) = false) :
    s.fillOperand k x tag idx v = (s.setFill tag (insertKey idx v (tget [] s.sched.fill tag))).fillUpdate :=
  if_neg (by rw [hall]; decide)

/-- The store touches no core. -/
theorem postOperandAt_cores (again : Bool) (o : Stalled) (s : State) : (s.postOperandAt again o).1.sched.cores = s.sched.cores := by
  unfold State.postOperandAt State.fillOperand
  dsimp only
  repeat' split
  all_goals simp [State.setFill, State.setStalls, State.setTask, State.fillUpdate]

/-! ### What its poster learns -/

/-- A reply goes to a register of a core. -/
theorem postReply_shape (dest : Option (Nat × Nat)) (r : PostResult) (s : State) :
    ∃ cores, s.postReply dest r = { s with sched := { s.sched with cores } } := by
  unfold State.postReply State.setX
  split
  · split <;> exact ⟨_, rfl⟩
  · split <;> exact ⟨_, rfl⟩
  · exact ⟨_, rfl⟩
  · exact ⟨_, rfl⟩

/-- The answer to an operand that no session has brought is its reply. -/
theorem postStalled_eq (hsess : o.sess = none) (again : Bool) (s : State) :
    s.postStalled again o = (s.postOperandAt again o).1.postReply o.dest (s.postOperandAt again o).2 := by
  simp [State.postStalled, State.postAnswer, hsess]

theorem getX_setX_same {u r v : Nat} (hcores : keysRise none s.sched.cores = true) (hregs : keysRise none (s.core u).regs = true)
    (hr : r % 32 ≠ 0) : (s.setX u r v).getX u r = v % 2 ^ 32 := by
  have hcore : (s.setX u r v).core u = { s.core u with regs := tset 0 (s.core u).regs (r % 32) (v % 2 ^ 32) } := by
    rw [State.setX, if_neg hr]
    exact tget_tset_same hcores u _
  rw [State.getX, hcore]
  exact tget_tset_same hregs (r % 32) _

end

section
variable {s : State} {tag idx v k : Nat} {x : TaskSt} {dest : Option (Nat × Nat)}

/-! ### Effects of a whole post -/

theorem fill_setFill_same (hfill : keysRise none s.sched.fill = true) (tag : Nat) (ops : Tab Nat) :
    tget [] (s.setFill tag ops).sched.fill tag = ops :=
  tget_tset_same hfill tag ops

/-- The operand that completes the set of its tag makes the set ready (R469). -/
theorem postStalled_completes (hfill : keysRise none s.sched.fill = true) (hown : s.tagOwner tag = some (k, x))
    (hbit : bitOf (taskOpMask x.decl) idx = true) (hnew : lookupKey (tget [] s.sched.fill tag) idx = none) (hroom : s.storeFill < 1024)
    (hall : (bitList 8 (taskOpMask x.decl)).all (fun j => (lookupKey (insertKey idx v (tget [] s.sched.fill tag)) j).isSome) = true) {t : State}
    (ht : t = s.postStalled false { dest, tag, idx, val := v }) :
    t.task k = some { x with insts := x.insts ++ [{ tag := tag, ops := insertKey idx v (tget [] s.sched.fill tag), at_ := s.elNs }] }
      ∧ tget [] t.sched.fill tag = [] ∧ t.mem = s.mem := by
  obtain ⟨_, hreply⟩ := postReply_shape dest .accepted (s.fillOperand k x tag idx v)
  rw [ht, postStalled_eq rfl, postOperandAt_fills hown hbit hnew hroom, hreply, fillOperand_completes hall]
  exact ⟨task_setTask_same k _ _, fill_setFill_same hfill tag [], rfl⟩

/-- Any other operand waits with those of its tag that have come (R469). -/
theorem postStalled_waits (hfill : keysRise none s.sched.fill = true) (hown : s.tagOwner tag = some (k, x))
    (hbit : bitOf (taskOpMask x.decl) idx = true) (hnew : lookupKey (tget [] s.sched.fill tag) idx = none) (hroom : s.storeFill < 1024)
    (hall : (bitList 8 (taskOpMask x.decl)).all (fun j => (lookupKey (insertKey idx v (tget [] s.sched.fill tag)) j).isSome) = false) {t : State}
    (ht : t = s.postStalled false { dest, tag, idx, val := v }) :
    t.sched.tasks = s.sched.tasks ∧ tget [] t.sched.fill tag = insertKey idx v (tget [] s.sched.fill tag) ∧ t.mem = s.mem := by
  obtain ⟨_, hreply⟩ := postReply_shape dest .accepted (s.fillOperand k x tag idx v)
  rw [ht, postStalled_eq rfl, postOperandAt_fills hown hbit hnew hroom, hreply, fillOperand_waits hall]
  exact ⟨rfl, fill_setFill_same hfill tag _, rfl⟩

/-- An operand without an owner changes no task and fills no tag; it is counted, flagged and reported (R470). -/
theorem postStalled_orphan (hregs : keysRise none s.regs = true) (hown : s.tagOwner tag = none) {t : State}
    (ht : t = s.postStalled false { dest, tag, idx, val := v }) :
    t.sched.tasks = s.sched.tasks ∧ t.sched.fill = s.sched.fill ∧ t.get R.SCHED_STAT_ORPHAN = 1 ∧ t.mem = s.mem
      ∧ t.get R.SCHED_MATCH_CNT_ORPHAN = (s.get R.SCHED_MATCH_CNT_ORPHAN + 1) % 2 ^ 12
      ∧ { cls := .sched, unit := 0x0505, req := .l0 } ∈ t.flt.inbox := by
  obtain ⟨_, hreply⟩ := postReply_shape dest .dropped s.orphan
  rw [ht, postStalled_eq rfl, postOperandAt_orphan hown, hreply]
  have hsched : s.orphan.sched = s.sched := by simp [State.orphan]
  have hmem : s.orphan.mem = s.mem := by simp [State.orphan]
  have hstat : s.orphan.get R.SCHED_STAT_ORPHAN = 1 := get_raise_same (by decide) (by decide) rfl _
  have hcnt : s.orphan.get R.SCHED_MATCH_CNT_ORPHAN = (s.get R.SCHED_MATCH_CNT_ORPHAN + 1) % 2 ^ 12 :=
    (get_raise_other (by decide) (by decide) _).trans (get_put_same hregs _ _)
  exact ⟨congrArg (·.tasks) hsched, congrArg (·.fill) hsched, hstat, hmem, hcnt, List.mem_append_right _ List.mem_cons_self⟩

/-! ### The commands that post an operand -/

/-- A state that differs from `s` in its register store at most, which is sorted and counts as many orphans. -/
structure OperandReady (s s' : State) : Prop where
  regs : ∃ regs, s' = { s with regs }
  rise : keysRise none s'.regs = true
  orphans : s'.get R.SCHED_MATCH_CNT_ORPHAN = s.get R.SCHED_MATCH_CNT_ORPHAN

/-- OPERAND_POST, HOP_VAL_WRITE and PX.POSTO post their operand alike (R462, R469, R504); the second has written HOP_VAL before. -/
theorem exec_operandPosts {c : Instr} (hserv : s.inService = true) (htag : tag < 1024) (hidx : idx < 8) (hv : v < 2 ^ 32)
    (hc : c = .operandPost tag idx v ∨ c = .hopValWrite v ∧ s.get R.SCHED_HOP_TAG_TAG = tag ∧ s.get R.SCHED_HOP_TAG_OPIDX = idx
      ∨ ∃ u rd rs1 rs2, c = .pxPosto u rd rs1 rs2 idx ∧ s.coreRuns u = true ∧ s.getX u rs1 = tag ∧ s.getX u rs2 = v) :
    ∃ s' dest, OperandReady s s' ∧ exec c s = .next (s'.postStalled false { dest, tag, idx, val := v }) := by
  have hup : s.up 5 = true := inService_common hserv (by decide)
  have hregs : keysRise none s.regs = true := inService_regsRise hserv
  rcases hc with rfl | ⟨rfl, rfl, rfl⟩ | ⟨u, rd, rs1, rs2, rfl, hruns, rfl, rfl⟩
  · have heff : operandPostEffect tag idx v s = s.postStalled false { dest := none, tag, idx, val := v } := by
      rw [operandPostEffect, Nat.mod_eq_of_lt htag, Nat.mod_eq_of_lt hidx, Nat.mod_eq_of_lt hv, State.postOperand, if_pos hup]
    exact ⟨s, none, ⟨⟨_, rfl⟩, hregs, rfl⟩, congrArg Host.Outcome.next heff⟩
  · have hup' : (s.put R.SCHED_HOP_VAL_VAL v).up 5 = true := (up_congr rfl rfl 5).trans hup
    have heff : s.commanded 0x504C (hopValEffect v) = (s.put R.SCHED_HOP_VAL_VAL v).postStalled false
        { dest := none, tag := s.get R.SCHED_HOP_TAG_TAG, idx := s.get R.SCHED_HOP_TAG_OPIDX, val := v } := by
      rw [commanded_inService hserv (g := 5) rfl hup (by cases s.variant <;> rfl), hopValEffect, if_pos hup, Nat.mod_eq_of_lt hv,
        State.postOperand, if_pos hup']
    exact ⟨_, none, ⟨⟨_, rfl⟩, regs_put_rise hregs _ _, get_put_other (by decide) _ _⟩, congrArg Host.Outcome.next heff⟩
  · have heff : pxPostoEffect u rd rs1 rs2 idx s = s.postStalled false { dest := some (u, rd), tag := s.getX u rs1, idx, val := s.getX u rs2 } := by
      rw [pxPostoEffect, if_pos (by simp [hruns, hup]), overLink_inService hserv, Nat.mod_eq_of_lt htag, Nat.mod_eq_of_lt hidx]
    exact ⟨s, some (u, rd), ⟨⟨_, rfl⟩, hregs, rfl⟩, congrArg Host.Outcome.next heff⟩

/-! ### The reply to PX.POSTO (R462) -/

/-- The operand that a PX.POSTO posts. -/
def postoOperand (s : State) (u rd rs1 rs2 idx : Nat) : Stalled :=
  { dest := some (u, rd), tag := s.getX u rs1 % 1024, idx := idx % 8, val := s.getX u rs2 }

theorem exec_pxPosto {u rd rs1 rs2 : Nat} (hserv : s.inService = true) (hruns : s.coreRuns u = true) :
    exec (.pxPosto u rd rs1 rs2 idx) s = .next ((s.postOperandAt false (postoOperand s u rd rs1 rs2 idx)).1.postReply (some (u, rd))
      (s.postOperandAt false (postoOperand s u rd rs1 rs2 idx)).2) := by
  have heff : pxPostoEffect u rd rs1 rs2 idx s = s.postStalled false (postoOperand s u rd rs1 rs2 idx) := by
    rw [pxPostoEffect, if_pos (by simp [hruns, inService_common hserv]), overLink_inService hserv]
    rfl
  exact congrArg Host.Outcome.next (heff.trans (postStalled_eq rfl _ _))

/-- A core's register after the store has dealt with an operand. -/
theorem getX_postOperandAt_setX {u rd : Nat} (hcores : keysRise none s.sched.cores = true) (hregs : keysRise none (s.core u).regs = true)
    (hrd : rd % 32 ≠ 0) (o : Stalled) (w : Nat) : ((s.postOperandAt false o).1.setX u rd w).getX u rd = w % 2 ^ 32 := by
  have hkept := postOperandAt_cores false o s
  have hcore : (s.postOperandAt false o).1.core u = s.core u := by unfold State.core; rw [hkept]
  exact getX_setX_same (by rwa [hkept]) (by rwa [hcore]) hrd

/-- PX.POSTO reads 0 where its operand was accepted. -/
theorem getX_postReply_accepted {u rd : Nat} {o : Stalled} (hcores : keysRise none s.sched.cores = true)
    (hregs : keysRise none (s.core u).regs = true) (hrd : rd % 32 ≠ 0) (hres : (s.postOperandAt false o).2 = .accepted) :
    ((s.postOperandAt false o).1.postReply (some (u, rd)) (s.postOperandAt false o).2).getX u rd = 0 := by
  rw [hres]
  exact getX_postOperandAt_setX hcores hregs hrd o 0

/-- PX.POSTO reads 1 where its operand was dropped. -/
theorem getX_postReply_dropped {u rd : Nat} {o : Stalled} (hcores : keysRise none s.sched.cores = true)
    (hregs : keysRise none (s.core u).regs = true) (hrd : rd % 32 ≠ 0) (hres : (s.postOperandAt false o).2 = .dropped) :
    ((s.postOperandAt false o).1.postReply (some (u, rd)) (s.postOperandAt false o).2).getX u rd = 1 := by
  rw [hres]
  exact getX_postOperandAt_setX hcores hregs hrd o 1

end
end Sys2Proof.Machine
end

section
namespace Sys2Proof.Machine

/-! ## The drop of a stalled operand (R471) -/

/-- What the answer to a dropped operand leaves alone: the stalled operands, memory, elapsed time and the count of drops. -/
structure AnswerKept (s t : State) : Prop where
  stalls : t.sched.stalls = s.sched.stalls
  mem : t.mem = s.mem
  elapsed : t.elapsed = s.elapsed
  ovf : t.get R.SCHED_MATCH_CNT_OVF = s.get R.SCHED_MATCH_CNT_OVF

section
variable {s t u : State}

theorem AnswerKept.refl (s : State) : AnswerKept s s := ⟨rfl, rfl, rfl, rfl⟩

theorem AnswerKept.trans (h : AnswerKept s t) (h' : AnswerKept t u) : AnswerKept s u :=
  ⟨h'.stalls.trans h.stalls, h'.mem.trans h.mem, h'.elapsed.trans h.elapsed, h'.ovf.trans h.ovf⟩

theorem answerKept_postReply (dest : Option (Nat × Nat)) (r : PostResult) (s : State) : AnswerKept s (s.postReply dest r) := by
  obtain ⟨_, hreply⟩ := postReply_shape dest r s
  rw [hreply]
  exact ⟨rfl, rfl, rfl, rfl⟩

theorem answerKept_ackMsg (m : CMsg) (res : Nat) (s : State) : AnswerKept s (s.ackMsg m res) := by
  unfold State.ackMsg State.sendMsg
  split <;> exact ⟨rfl, rfl, rfl, rfl⟩

theorem answerKept_setSess (k : Nat) (x : SessSt) (s : State) : AnswerKept s (s.setSess k x) := by
  have hkey : R.SCHED_MATCH_CNT_OVF.key ≠ (R.CANOPY_SEND_FREE k).key := by
    simp only [Field.key, R.SCHED_MATCH_CNT_OVF, R.CANOPY_SEND_FREE]
    omega
  exact ⟨rfl, rfl, rfl, get_put_other hkey _ _⟩

/-- A dropped word of a held delivery delivers nothing: the delivery waits on, or is answered with FULL (R621). -/
theorem answerKept_heldWord (k : Nat) (s : State) : AnswerKept s (s.heldWord k false) := by
  unfold State.heldWord
  split
  · exact .refl s
  · split
    · exact .refl s
    · simp only [Bool.and_false, Bool.false_eq_true, if_false]
      split
      · exact answerKept_setSess k _ s
      · exact (answerKept_setSess k _ s).trans (answerKept_ackMsg _ _ _)

theorem answerKept_dropped (o : Stalled) (s : State) : AnswerKept s (s.postAnswer o .dropped) := by
  unfold State.postAnswer
  cases o.sess with
  | none => exact answerKept_postReply _ _ s
  | some k => exact (answerKept_postReply _ _ s).trans (answerKept_heldWord k _)

/-- A drop is answered, counted, flagged and reported at L2 (R471). -/
theorem dropOperand_shows {o : Stalled} (hregs : keysRise none (s.postAnswer o .dropped).regs = true) (ht : t = s.dropOperand o) :
    t.sched.stalls = s.sched.stalls ∧ t.get R.SCHED_STAT_MATCH_OVF = 1 ∧ t.mem = s.mem ∧ t.elapsed = s.elapsed
      ∧ t.get R.SCHED_MATCH_CNT_OVF = (s.get R.SCHED_MATCH_CNT_OVF + 1) % 2 ^ 8
      ∧ ∃ a, { cls := .sched, unit := 0x0505, aux := a, req := .atLeast 2 } ∈ t.flt.inbox := by
  obtain ⟨hstalls, hmem, helapsed, hovf⟩ := answerKept_dropped o s
  have hcnt : t.get R.SCHED_MATCH_CNT_OVF = ((s.postAnswer o .dropped).get R.SCHED_MATCH_CNT_OVF + 1) % 2 ^ 8 := by
    rw [ht]
    exact (get_raise_other (by decide) (by decide) _).trans (get_put_same hregs _ _)
  refine ⟨?_, ?_, ?_, ?_, by rw [hcnt, hovf], ?_⟩
  · rw [ht, ← hstalls]; simp [State.dropOperand]
  · rw [ht]; exact get_raise_same (by decide) (by decide) rfl _
  · rw [ht, ← hmem]; simp [State.dropOperand]
  · rw [ht, ← helapsed]; simp [State.dropOperand]
  · rw [ht]; exact ⟨_, List.mem_append_right _ List.mem_cons_self⟩

end
end Sys2Proof.Machine
end

section
namespace Sys2Proof.Machine

/-! ## The statement of the posts -/

/-- Settles O42: the three commands post flags alike (`exec_flagPosts`), and a task takes them as `postTask_any`, `postTask_ready`,
`postTask_all_full` and `postTask_all_part` say, a loop unit and a converter core with a trigger (`loop_postFlags`, `adc_postFlags`); the three
that post an operand do it alike (`exec_operandPosts`), and it completes its tag, waits or is an orphan (`postStalled_completes`, `postStalled_waits`,
`postStalled_orphan`); a drop is as `dropOperand_shows` has it. -/
theorem flagAndOperandPosts : Obligations.FlagAndOperandPosts := by
  intro s hserv htasks hfill
  have hup : s.up 5 = true := inService_common hserv (by decide)
  refine ⟨fun f c k x hf hc hx => ?_, fun tag idx v c htag hidx hv hc => ?_,
    fun u rd rs1 rs2 idx hrd hidx hruns hcores hxregs => ?_,
    fun f k hloops hk hsrc hevt => ⟨_, rfl, loop_postFlags hup hloops hk hsrc hevt, postFlags_mem f s⟩,
    fun f c hadcs hc hon hsrc hevt => ⟨_, rfl, adc_postFlags hup hadcs hc hon hsrc hevt, postFlags_mem f s⟩,
    fun hnone => ?_, fun o rest hstalls => ?_⟩
  · have hexec := exec_flagPosts hserv hf hc
    have hmem := postFlags_mem f s
    have hpost : x.enabled = true → s.taskFenced k = false → (s.postFlags f).task k = some (postTask f s.elNs x).1 :=
      fun hen hfence => (task_postFlags hup htasks hx f).trans (congrArg some (if_pos (by simp [hen, hfence])))
    refine ⟨fun hen => ⟨_, hexec, ?_, hmem⟩,
      fun m hdecl hen hfence hg => ⟨fun hready => ⟨_, hexec, ?_, hmem⟩, fun hready => ⟨_, hexec, hmem, ?_⟩⟩,
      fun m hdecl hen hfence hready hg => ⟨fun hfull => ⟨_, hexec, ?_, hmem⟩, fun hpart => ⟨_, hexec, ?_, hmem⟩⟩⟩
    · exact (task_postFlags hup htasks hx f).trans (congrArg some (if_neg (by simp [hen])))
    · rw [hpost hen hfence, postTask_any hdecl hready hg]
    · obtain rfl := taskMask_any hdecl
      rw [hpost hen hfence, postTask_ready _ hready hg]
    · rw [hpost hen hfence, postTask_all_full hdecl hready hg hfull]
    · rw [hpost hen hfence, postTask_all_part hdecl hready hg hpart]
  · obtain ⟨_, dest, ⟨⟨regs, rfl⟩, hrise, horphans⟩, hexec⟩ := exec_operandPosts hserv htag hidx hv hc
    refine ⟨fun k x hown hbit hnew hroom => ⟨fun hall => ⟨_, hexec, ?_⟩, fun hall => ⟨_, hexec, ?_⟩⟩, fun hown => ⟨_, hexec, ?_⟩⟩
    · exact postStalled_completes (s := { s with regs }) hfill hown hbit hnew hroom hall rfl
    · exact postStalled_waits (s := { s with regs }) hfill hown hbit hnew hroom hall rfl
    · rw [← horphans]
      exact postStalled_orphan (s := { s with regs }) hrise hown rfl
  · refine ⟨fun hown => ⟨_, exec_pxPosto hserv hruns, ?_⟩, fun k x hown hbit hroom => ⟨_, exec_pxPosto hserv hruns, ?_⟩⟩
    · exact getX_postReply_dropped hcores hxregs hrd (by rw [postOperandAt_orphan hown])
    · exact getX_postReply_accepted hcores hxregs hrd (postOperandAt_accepted hown (by rwa [postoOperand, Nat.mod_eq_of_lt hidx]) hroom false)
  · have heff : stallTimeoutEffect s = s := by rw [stallTimeoutEffect, hnone]
    exact congrArg Host.Outcome.next heff
  · have heff : stallTimeoutEffect s = ((s.pass (o.at_ + el 1000)).setStalls rest).dropOperand o := by rw [stallTimeoutEffect, hstalls]
    exact ⟨_, congrArg Host.Outcome.next heff, dropOperand_shows ((Keeps.refl s).pass.setStalls.postAnswer.regsRise hserv) rfl⟩

end Sys2Proof.Machine
end

section
namespace Sys2Proof.Machine

/-! ## The register fields of the local drive (R370 to R380)

The block of channel `c` begins at 0x90080 + 0x100 * c. The place of a key is what its length leaves of it: the same for every channel, so that
fields at different places differ, whichever channels they belong to.
-/

/-- The place of a register key in the length of a channel's block. -/
def chPlace (k : Nat) : Nat := k % 0x2000

section
variable {c o lo w rst : Nat} {acc : Access} {l : List Nat}

theorem chPlace_block (h : 32 * o + lo < 0x1000) :
    chPlace (⟨0x90080 + 0x100 * c + o, lo, w, rst, acc⟩ : Field).key = 0x1000 + (32 * o + lo) := by
  simp only [chPlace, Field.key]
  omega

theorem chPlace_irqStat (F : Field) : chPlace (32 * (pageOf F.addr + 0x14)) = 32 * 0x14 := by
  simp only [chPlace, pageOf]
  omega

theorem chPlace_mem (h : 32 * o + lo < 0x1000 ∧ 0x1000 + (32 * o + lo) ∈ l) :
    chPlace (⟨0x90080 + 0x100 * c + o, lo, w, rst, acc⟩ : Field).key ∈ l := by
  rw [chPlace_block h.1]
  exact h.2

theorem chPlace_notMem (h : 32 * o + lo < 0x1000 ∧ 0x1000 + (32 * o + lo) ∉ l) :
    chPlace (⟨0x90080 + 0x100 * c + o, lo, w, rst, acc⟩ : Field).key ∉ l := by
  rw [chPlace_block h.1]
  exact h.2

theorem key_ne_of_chPlace {j k : Nat} (hj : chPlace j ∉ l) (hk : chPlace k ∈ l) : j ≠ k := fun e => hj (e ▸ hk)

/-- A status bit of a channel reads 1 once it is raised. -/
theorem get_raise_ch (h : 32 * o + lo < 0x1000) (s : State) :
    (s.raise ⟨0x90080 + 0x100 * c + o, lo, 1, 0, acc⟩).get ⟨0x90080 + 0x100 * c + o, lo, 1, 0, acc⟩ = 1 := by
  refine get_raise_same (fun e => ?_) Nat.one_ne_zero rfl s
  have hplace := congrArg chPlace e
  rw [chPlace_block h, chPlace_irqStat] at hplace
  omega

end

/-! ## What the local drive's operations leave alone -/

/-- `Driven l s₀ s`: in `s`, made from `s₀`, the fields at places outside `l`, the memory, the elapsed time, the standing conditions and what
decides whether a unit works are what they were. -/
structure Driven (l : List Nat) (s₀ s : State) : Prop where
  value : ∀ F : Field, chPlace F.key ∉ l → s.get F = s₀.get F
  mem : s.mem = s₀.mem
  elapsed : s.elapsed = s₀.elapsed
  conds : s.conds = s₀.conds
  unitUp : ∀ u, s.unitUp u = s₀.unitUp u

section
variable {l m : List Nat} {s₀ s t : State}

theorem Driven.refl (s : State) : Driven l s s := ⟨fun _ _ => rfl, rfl, rfl, rfl, fun _ => rfl⟩

theorem Driven.trans (h : Driven l s₀ s) (k : Driven l s t) : Driven l s₀ t :=
  ⟨fun F hF => (k.value F hF).trans (h.value F hF), k.mem.trans h.mem, k.elapsed.trans h.elapsed, k.conds.trans h.conds,
    fun u => (k.unitUp u).trans (h.unitUp u)⟩

theorem Driven.mono (h : Driven l s₀ s) (hlm : l ⊆ m) : Driven m s₀ s :=
  ⟨fun F hF => h.value F fun hl => hF (hlm hl), h.mem, h.elapsed, h.conds, h.unitUp⟩

theorem Driven.on (h : Driven l s₀ s) {F : Field} (hF : chPlace F.key ∉ l) : s.on F = s₀.on F := on_congr (h.value F hF)

theorem Driven.setPwm {pwm : PwmSt} (h : Driven l s₀ s) : Driven l s₀ { s with pwm } := ⟨h.value, h.mem, h.elapsed, h.conds, h.unitUp⟩

theorem Driven.setCh {c : Nat} {x : ChSt} (h : Driven l s₀ s) : Driven l s₀ (s.setCh c x) := h.setPwm

theorem Driven.post {e : Event} (h : Driven l s₀ s) : Driven l s₀ (s.post e) := ⟨h.value, h.mem, h.elapsed, h.conds, h.unitUp⟩

theorem Driven.put {F : Field} {v : Nat} (h : Driven l s₀ s) (hF : chPlace F.key ∈ l) : Driven l s₀ (s.put F v) :=
  ⟨fun G hG => (get_put_other (key_ne_of_chPlace hG hF) v s).trans (h.value G hG), h.mem, h.elapsed, h.conds, h.unitUp⟩

theorem Driven.addTo {F : Field} {n : Nat} (h : Driven l s₀ s) (hF : chPlace F.key ∈ l) : Driven l s₀ (s.addTo F n) := h.put hF

theorem Driven.raise {F : Field} (h : Driven l s₀ s) (hF : chPlace F.key ∈ l ∧ 32 * 0x14 ∈ l) : Driven l s₀ (s.raise F) := by
  obtain ⟨hown, hirq⟩ := hF
  have hvalue : ∀ G : Field, chPlace G.key ∉ l → (s.raise F).get G = s₀.get G := fun G hG =>
    (get_raise_other (key_ne_of_chPlace hG hown) (key_ne_of_chPlace hG (by rwa [chPlace_irqStat])) s).trans (h.value G hG)
  obtain ⟨regs, m0, m1, hs⟩ := raise_shape F s
  rw [hs] at hvalue ⊢
  exact ⟨hvalue, h.mem, h.elapsed, h.conds, h.unitUp⟩

end

/-! ## Channels -/

section
variable {s t : State} {c d : Nat}

theorem ch_setCh_same (h : keysRise none s.pwm.chs = true) (c : Nat) (x : ChSt) : (s.setCh c x).ch c = x := tget_tset_same h c x

theorem ch_setCh_other (h : d ≠ c) (x : ChSt) : (s.setCh c x).ch d = s.ch d := tget_tset_other h x

theorem ch_congr (h : t.pwm.chs = s.pwm.chs) (c : Nat) : t.ch c = s.ch c := by unfold State.ch; rw [h]

theorem chs_setCh_rise (h : keysRise none s.pwm.chs = true) (c : Nat) (x : ChSt) : keysRise none (s.setCh c x).pwm.chs = true :=
  keysRise_tset h c x

theorem partner_even (p : Nat) : partner (2 * p) = 2 * p + 1 := by simp [partner]

theorem partner_odd (p : Nat) : partner (2 * p + 1) = 2 * p := by
  unfold partner
  rw [if_neg (by omega)]
  omega

theorem partner_ne (c : Nat) : partner c ≠ c := by
  unfold partner
  split <;> omega

/-- The channel without its pin: what the pins' conditions never move (R356, R357, R362). -/
def ChSt.pinless (x : ChSt) : ChSt :=
  { x with out := false, xwait := false, xhold := false, lowAt := 0, everHigh := false, blanking := false, fellBlank := false }

/-- The command of a channel and nothing that keeps its pin low ask for a high pin (R362). -/
def State.chAsks (s : State) (c : Nat) : Bool := (s.ch c).cmd && !s.pinLow c

/-- With the hold latch open a pin follows what its channel asks for, except in a hold of its pair (R357). -/
theorem pinWants_open (h : s.pwm.held = false) : s.pinWants c = (s.chAsks c && !((s.ch c).xhold && s.pairOn (c / 2))) := by
  simp [State.pinWants, State.chAsks, h]

theorem chAsks_congr (hch : (t.ch c).pinless = (s.ch c).pinless) (hup : ∀ u, t.unitUp u = s.unitUp u)
    (hon : t.on (R.CH_CTRL_EN c) = s.on (R.CH_CTRL_EN c)) : t.chAsks c = s.chAsks c := by
  have hcmd : (t.ch c).cmd = (s.ch c).cmd := (congrArg ChSt.cmd hch :)
  have hlat : (t.ch c).fltLat = (s.ch c).fltLat := (congrArg ChSt.fltLat hch :)
  have hsup : (t.ch c).supLow = (s.ch c).supLow := (congrArg ChSt.supLow hch :)
  have hper : (t.ch c).waitPer = (s.ch c).waitPer := (congrArg ChSt.waitPer hch :)
  simp only [State.chAsks, State.pinLow, State.chRuns, State.chUp, hcmd, hlat, hsup, hper, hup, hon]

end

/-! ## One pin -/

/-- `OnePin c s t`: `t` differs from `s` at most in the pin of channel `c`. -/
structure OnePin (c : Nat) (s t : State) : Prop where
  shape : ∃ chs, t = { s with pwm := { s.pwm with chs } }
  rise : keysRise none t.pwm.chs = true
  own : (t.ch c).pinless = (s.ch c).pinless
  others : ∀ d, d ≠ c → t.ch d = s.ch d

section
variable {s t u : State} {c d : Nat}

theorem OnePin.refl (h : keysRise none s.pwm.chs = true) (c : Nat) : OnePin c s s := ⟨⟨_, rfl⟩, h, rfl, fun _ _ => rfl⟩

theorem OnePin.trans (h : OnePin c s t) (k : OnePin c t u) : OnePin c s u := by
  obtain ⟨⟨_, rfl⟩, -, hown, hothers⟩ := h
  obtain ⟨⟨_, rfl⟩, hrise, hown', hothers'⟩ := k
  exact ⟨⟨_, rfl⟩, hrise, hown'.trans hown, fun d hd => (hothers' d hd).trans (hothers d hd)⟩

theorem OnePin.pinless (h : OnePin c s t) (d : Nat) : (t.ch d).pinless = (s.ch d).pinless := by
  by_cases hd : d = c
  · rw [hd, h.own]
  · rw [h.others d hd]

theorem OnePin.asks (h : OnePin c s t) (d : Nat) : t.chAsks d = s.chAsks d := by
  have hpinless := h.pinless d
  obtain ⟨_, rfl⟩ := h.shape
  exact chAsks_congr hpinless (fun _ => rfl) rfl

theorem OnePin.held (h : OnePin c s t) : t.pwm.held = s.pwm.held := by
  obtain ⟨_, rfl⟩ := h.shape
  rfl

theorem OnePin.pairOn (h : OnePin c s t) (p : Nat) : t.pairOn p = s.pairOn p := by
  obtain ⟨_, rfl⟩ := h.shape
  rfl

/-! ### A level asked of a pin (R358) -/

theorem setPin_same {b : Bool} (h : (s.ch c).out = b) : s.setPin c b = s := if_pos h

theorem setPin_rises (h : (s.ch c).out = false) :
    s.setPin c true = s.setCh c { s.ch c with out := true, blanking := s.on (R.CH_PROT_BLANK c) } := by
  simp [State.setPin, h]

theorem setPin_falls (h : (s.ch c).out = true) : s.setPin c false
    = s.setCh c { s.ch c with out := false, lowAt := s.elapsed, everHigh := true, blanking := false, fellBlank := (s.ch c).blanking } := by
  simp [State.setPin, h]

variable (hr : keysRise none s.pwm.chs = true)
include hr

theorem onePin_setCh {x : ChSt} (hx : x.pinless = (s.ch c).pinless) : OnePin c s (s.setCh c x) :=
  ⟨⟨_, rfl⟩, chs_setCh_rise hr c x, by rw [ch_setCh_same hr, hx], fun _ hd => ch_setCh_other hd x⟩

theorem onePin_setPin (b : Bool) : OnePin c s (s.setPin c b) := by
  by_cases hout : (s.ch c).out = b
  · rw [setPin_same hout]
    exact .refl hr c
  · cases b with
    | true => exact setPin_rises (by simpa using hout) ▸ onePin_setCh hr rfl
    | false => exact setPin_falls (by simpa using hout) ▸ onePin_setCh hr rfl

theorem onePin_pinFall (c : Nat) : OnePin c s (s.pinFall c) := by
  unfold State.pinFall
  split
  · exact .refl hr c
  · have hpin := onePin_setPin hr (c := c) false
    exact hpin.trans (onePin_setCh hpin.rise rfl)

theorem onePin_pinRise (c : Nat) : OnePin c s (s.pinRise c) := by
  unfold State.pinRise
  split
  · split
    · exact onePin_setPin hr true
    · split
      · exact onePin_setCh hr rfl
      · have hset : OnePin c s (s.setCh c { s.ch c with xwait := false }) := onePin_setCh hr rfl
        exact hset.trans (onePin_setPin hset.rise true)
  · exact .refl hr c

theorem out_setPin (b : Bool) : ((s.setPin c b).ch c).out = b := by
  by_cases hout : (s.ch c).out = b
  · rw [setPin_same hout, hout]
  · cases b with
    | true => rw [setPin_rises (by simpa using hout), ch_setCh_same hr]
    | false => rw [setPin_falls (by simpa using hout), ch_setCh_same hr]

theorem out_pinFall (h : s.pinWants c = false) : ((s.pinFall c).ch c).out = false := by
  have hpin := onePin_setPin hr (c := c) false
  rw [State.pinFall, if_neg (by simp [h]), ch_setCh_same hpin.rise]
  exact out_setPin hr false

/-- A low pin that stays low keeps the time of its fall. -/
theorem ch_pinFall_low (h : (s.ch c).out = false) : ∃ b, (s.pinFall c).ch c = { s.ch c with xwait := b } := by
  unfold State.pinFall
  split
  · exact ⟨_, rfl⟩
  · have hpin : s.setPin c false = s := if_pos h
    rw [hpin, ch_setCh_same hr]
    exact ⟨_, rfl⟩

theorem ch_pinRise_free (hwant : s.pinWants c = true) (hheld : s.pwm.held = false) (hwait : s.pinWaits c = false) :
    ((s.pinRise c).ch c).out = true ∧ ((s.ch c).out = false → ((s.pinRise c).ch c).xwait = false) := by
  cases hout : (s.ch c).out with
  | true =>
    have hsame : s.pinRise c = s.setPin c true := by simp [State.pinRise, hwant, hout]
    exact ⟨hsame ▸ out_setPin hr true, nofun⟩
  | false =>
    have hset : OnePin c s (s.setCh c { s.ch c with xwait := false }) := onePin_setCh hr rfl
    have hch := ch_setCh_same hr c { s.ch c with xwait := false }
    have hlow : ((s.setCh c { s.ch c with xwait := false }).ch c).out = false := by rw [hch]; exact hout
    have hrises : s.pinRise c = (s.setCh c { s.ch c with xwait := false }).setPin c true := by
      simp [State.pinRise, hwant, hheld, hout, hwait]
    refine ⟨hrises ▸ out_setPin hset.rise true, fun _ => ?_⟩
    rw [hrises, setPin_rises hlow, ch_setCh_same hset.rise]
    exact congrArg ChSt.xwait hch

end

theorem pinRise_unwanted {s : State} {c : Nat} (h : s.pinWants c = false) : s.pinRise c = s := if_neg (by simp [h])

theorem pinFall_wanted {s : State} {c : Nat} (h : s.pinWants c = true) : s.pinFall c = s := if_pos h

end Sys2Proof.Machine
end

section
namespace Sys2Proof.Machine

/-! ## Pairs (R356, R357) -/

/-- The places that the pins' conditions write: IRQ_STAT of the page, and XBLOCK in STAT and in FCNT of a channel. -/
def pinPlaces : List Nat := [32 * 0x14, 0x1000 + (32 * 0x1C + 3), 0x1000 + (32 * 0x20 + 16)]

/-- The channels rise, and every pair hold of the tick in progress is of a pair below `n`: no hold of pair `n` can be taken back (R366). -/
structure PinsReady (n : Nat) (s : State) : Prop where
  rise : keysRise none s.pwm.chs = true
  below : ∀ h ∈ s.pwm.holds, h.at_ = s.elapsed → h.pair < n

/-- `PinsMoved s₀ s`: `s`, made from `s₀`, differs from it in the pins and in what a pair hold writes. -/
structure PinsMoved (s₀ s : State) : Prop extends Driven pinPlaces s₀ s where
  rise : keysRise none s.pwm.chs = true
  held : s.pwm.held = s₀.pwm.held
  syncOut : s.pwm.syncOut = s₀.pwm.syncOut
  pinless : ∀ d, (s.ch d).pinless = (s₀.ch d).pinless

section
variable {s₀ s t : State} {c d p n : Nat}

theorem PinsReady.mono {m : Nat} (h : PinsReady n s) (hnm : n ≤ m) : PinsReady m s :=
  ⟨h.rise, fun x hx hat => (h.below x hx hat).trans_le hnm⟩

theorem PinsMoved.refl (h : keysRise none s.pwm.chs = true) : PinsMoved s s := ⟨.refl s, h, rfl, rfl, fun _ => rfl⟩

theorem PinsMoved.onePin (h : PinsMoved s₀ s) (k : keysRise none s.pwm.chs = true → OnePin c s t) : PinsMoved s₀ t := by
  have hpinless := (k h.rise).pinless
  obtain ⟨⟨_, rfl⟩, hrise, -, -⟩ := k h.rise
  exact ⟨h.toDriven.setPwm, hrise, h.held, h.syncOut, fun d => (hpinless d).trans (h.pinless d)⟩

theorem PinsMoved.asks (h : PinsMoved s t) (c : Nat) : t.chAsks c = s.chAsks c :=
  chAsks_congr (h.pinless c) h.unitUp (h.on (chPlace_notMem (by decide)))

/-! ### A hold of the pair (R357) -/

/-- Both commands of an enabled pair are 1. -/
def State.pairMeets (s : State) (p : Nat) : Bool := s.pairOn p && (s.ch (2 * p)).cmd && (s.ch (2 * p + 1)).cmd

/-- The mark of a hold on both channels of a pair. -/
def State.markPair (b : Bool) (p : Nat) (s : State) : State :=
  (s.setCh (2 * p) { s.ch (2 * p) with xhold := b }).setCh (2 * p + 1) { s.ch (2 * p + 1) with xhold := b }

/-- A pair's hold: marked, flagged, kept for R366, counted and reported. -/
def State.holdPair (p : Nat) (s : State) : State :=
  let s1 := s.markPair true p
  let s2 := (s1.raise (R.CH_STAT_XBLOCK (2 * p))).raise (R.CH_STAT_XBLOCK (2 * p + 1))
  let k : HoldBack := { at_ := s.elapsed, pair := p, bits := s1.bitsBack [R.CH_STAT_XBLOCK (2 * p), R.CH_STAT_XBLOCK (2 * p + 1)] s2 }
  let s3 : State := { s2 with pwm := { s2.pwm with holds := k :: s2.pwm.holds.filter (fun h => decide (h.at_ = s.elapsed)) } }
  ((s3.addTo (R.CH_FCNT_XBLOCK (2 * p)) 1).addTo (R.CH_FCNT_XBLOCK (2 * p + 1)) 1).post { cls := .intlk, unit := chUnit (2 * p), aux := 0 }

theorem pairHold_apart (h : s.pairMeets p = false) : s.pairHold p = s.markPair false p := if_neg (Bool.eq_false_iff.mp h)

theorem pairHold_meets (h : s.pairMeets p = true) : s.pairHold p = s ∨ s.pairHold p = s.holdPair p := by
  have hcases : s.pairHold p = if (s.ch (2 * p)).xhold && (s.ch (2 * p + 1)).xhold then s else s.holdPair p := if_pos h
  rw [hcases]
  split
  · exact .inl rfl
  · exact .inr rfl

theorem ch_markPair_other (b : Bool) (ha : d ≠ 2 * p) (hb : d ≠ 2 * p + 1) : (s.markPair b p).ch d = s.ch d :=
  (ch_setCh_other hb _).trans (ch_setCh_other ha _)

theorem ch_holdPair (d : Nat) : (s.holdPair p).ch d = (s.markPair true p).ch d := by
  refine ch_congr ?_ d
  simp [State.holdPair]

theorem ch_pairHold_other (ha : d ≠ 2 * p) (hb : d ≠ 2 * p + 1) : (s.pairHold p).ch d = s.ch d := by
  cases h : s.pairMeets p with
  | true =>
    rcases pairHold_meets h with he | he
    · rw [he]
    · rw [he, ch_holdPair, ch_markPair_other true ha hb]
  | false => rw [pairHold_apart h, ch_markPair_other false ha hb]

theorem PinsMoved.besideChannels (h : PinsMoved s₀ s) (k : Driven pinPlaces s t) (hchs : t.pwm.chs = s.pwm.chs) (hheld : t.pwm.held = s.pwm.held)
    (hout : t.pwm.syncOut = s.pwm.syncOut) : PinsMoved s₀ t :=
  ⟨h.toDriven.trans k, hchs ▸ h.rise, hheld.trans h.held, hout.trans h.syncOut, fun d => by rw [ch_congr hchs, h.pinless d]⟩

theorem PinsMoved.raise {F : Field} (h : PinsMoved s₀ s) (hF : chPlace F.key ∈ pinPlaces) : PinsMoved s₀ (s.raise F) :=
  h.besideChannels ((Driven.refl s).raise ⟨hF, by decide⟩) (by simp) (by simp) (by simp)

section
variable (hr : keysRise none s.pwm.chs = true)
include hr

theorem ch_markPair (b : Bool) (hd : d = 2 * p ∨ d = 2 * p + 1) : (s.markPair b p).ch d = { s.ch d with xhold := b } := by
  obtain rfl | rfl := hd
  · exact (ch_setCh_other (by omega) _).trans (ch_setCh_same hr _ _)
  · exact ch_setCh_same (chs_setCh_rise hr _ _) _ _

theorem pinsMoved_markPair (b : Bool) (p : Nat) : PinsMoved s (s.markPair b p) := by
  refine ⟨(Driven.refl s).setCh.setCh, chs_setCh_rise (chs_setCh_rise hr _ _) _ _, rfl, rfl, fun d => ?_⟩
  by_cases hd : d = 2 * p ∨ d = 2 * p + 1
  · rw [ch_markPair hr b hd]
    rfl
  · obtain ⟨ha, hb⟩ := not_or.mp hd
    rw [ch_markPair_other b ha hb]

theorem pinsMoved_holdPair (p : Nat) : PinsMoved s (s.holdPair p) := by
  unfold State.holdPair
  extract_lets s1 s2 k pwm s3
  have h2 : PinsMoved s s2 := ((pinsMoved_markPair hr true p).raise (chPlace_mem (by decide))).raise (chPlace_mem (by decide))
  have h3 : PinsMoved s s3 := h2.besideChannels (Driven.refl s2).setPwm rfl rfl rfl
  exact h3.besideChannels (((Driven.refl s3).addTo (chPlace_mem (by decide))).addTo (chPlace_mem (by decide))).post rfl rfl rfl

theorem pinsMoved_pairHold (p : Nat) : PinsMoved s (s.pairHold p) := by
  cases h : s.pairMeets p with
  | true =>
    rcases pairHold_meets h with he | he
    · rw [he]
      exact .refl hr
    · rw [he]
      exact pinsMoved_holdPair hr p
  | false =>
    rw [pairHold_apart h]
    exact pinsMoved_markPair hr false p

end

theorem pinsReady_pairHold (h : PinsReady p s) : PinsReady (p + 1) (s.pairHold p) := by
  have hmoved := pinsMoved_pairHold h.rise p
  refine ⟨hmoved.rise, fun k hk hat => ?_⟩
  have hholds : k.pair = p ∨ k ∈ s.pwm.holds := by
    cases hm : s.pairMeets p with
    | true =>
      rcases pairHold_meets hm with he | he
      · exact .inr (he ▸ hk)
      · rw [he] at hk
        simp only [State.holdPair, State.post_pwm, State.addTo_pwm, State.raise_pwm, List.mem_cons, List.mem_filter] at hk
        exact hk.imp (congrArg HoldBack.pair) And.left
    | false => exact .inr (by rwa [pairHold_apart hm] at hk)
  rcases hholds with hp | hold
  · omega
  · exact (h.below k hold (hat.trans hmoved.elapsed)).trans (Nat.lt_succ_self p)

/-! ### The pins of a pair (R356, R362) -/

theorem dropHold_ready (h : PinsReady p s) : s.dropHold p = s := by
  have hnone : s.holdsNow.filter (fun k => decide (k.pair = p)) = [] := by
    refine List.filter_eq_nil_iff.mpr fun k hk => ?_
    obtain ⟨hmem, hat⟩ := List.mem_filter.mp hk
    have := h.below k hmem (of_decide_eq_true hat)
    simp only [decide_eq_true_eq]
    omega
  simp [State.dropHold, hnone]

/-- A pin that may have to fall: on the tick of its pair's meeting it falls on the next one (R357). -/
def State.pinSettle (fresh : Bool) (c : Nat) (s : State) : State := if fresh then s.pinHolds c else s.pinFall c

theorem pairUpdate_ready (h : PinsReady p s) : s.pairUpdate p
    = ((((s.pairHold p).pinSettle (s.holdsFresh p) (2 * p)).pinSettle (s.holdsFresh p) (2 * p + 1)).pinRise (2 * p)).pinRise (2 * p + 1) := by
  unfold State.pairUpdate
  rw [dropHold_ready h]
  rfl

theorem onePin_pinSettle (hr : keysRise none s.pwm.chs = true) (f : Bool) (c : Nat) : OnePin c s (s.pinSettle f c) := by
  unfold State.pinSettle State.pinHolds
  split
  · split
    · exact .refl hr c
    · exact onePin_pinFall hr c
  · exact onePin_pinFall hr c

theorem pinsMoved_pairUpdate (h : PinsReady p s) : PinsMoved s (s.pairUpdate p) := by
  rw [pairUpdate_ready h]
  exact ((((pinsMoved_pairHold h.rise p).onePin fun hr => onePin_pinSettle hr _ _).onePin fun hr => onePin_pinSettle hr _ _).onePin
    fun hr => onePin_pinRise hr _).onePin fun hr => onePin_pinRise hr _

theorem OnePin.ready (h : PinsReady n s) (k : OnePin c s t) : PinsReady n t := by
  obtain ⟨⟨_, rfl⟩, hrise, -, -⟩ := k
  exact ⟨hrise, h.below⟩

theorem pinsReady_pairUpdate (h : PinsReady p s) : PinsReady (p + 1) (s.pairUpdate p) := by
  rw [pairUpdate_ready h]
  have h1 := pinsReady_pairHold h
  have h2 := (onePin_pinSettle h1.rise (s.holdsFresh p) (2 * p)).ready h1
  have h3 := (onePin_pinSettle h2.rise (s.holdsFresh p) (2 * p + 1)).ready h2
  have h4 := (onePin_pinRise h3.rise (2 * p)).ready h3
  exact (onePin_pinRise h4.rise (2 * p + 1)).ready h4

theorem ch_pairUpdate_other (h : PinsReady p s) (ha : d ≠ 2 * p) (hb : d ≠ 2 * p + 1) : (s.pairUpdate p).ch d = s.ch d := by
  rw [pairUpdate_ready h]
  have h1 := (pinsMoved_pairHold h.rise p).rise
  have h2 := onePin_pinSettle h1 (s.holdsFresh p) (2 * p)
  have h3 := onePin_pinSettle h2.rise (s.holdsFresh p) (2 * p + 1)
  have h4 := onePin_pinRise h3.rise (2 * p)
  have h5 := onePin_pinRise h4.rise (2 * p + 1)
  rw [h5.others d hb, h4.others d ha, h3.others d hb, h2.others d ha, ch_pairHold_other ha hb]

end

/-! ### A pin that nothing asks for -/

/-- With the latch open nothing asks for a high pin. -/
structure Unasked (c : Nat) (s : State) : Prop where
  rise : keysRise none s.pwm.chs = true
  held : s.pwm.held = false
  asks : s.chAsks c = false

section
variable {s t : State} {c d : Nat}

theorem Unasked.wants (h : Unasked c s) : s.pinWants c = false := by rw [pinWants_open h.held, h.asks, Bool.false_and]

theorem Unasked.onePin (h : Unasked c s) (k : OnePin d s t) : Unasked c t := ⟨k.rise, k.held.trans h.held, (k.asks c).trans h.asks⟩

theorem Unasked.pairHold (h : Unasked c s) (p : Nat) : Unasked c (s.pairHold p) :=
  have k := pinsMoved_pairHold h.rise p
  ⟨k.rise, k.held.trans h.held, (k.asks c).trans h.asks⟩

/-- A pin that nothing asks for falls, but on the tick of its pair's meeting only where its own channel keeps it low (R357). -/
theorem Unasked.settles (h : Unasked c s) {f : Bool} (hf : f = true → (s.ch c).cmd = true) : ((s.pinSettle f c).ch c).out = false := by
  have hfalls := out_pinFall h.rise h.wants
  cases f with
  | false => exact hfalls
  | true =>
    have hlow : s.pinLow c = true := by simpa [State.chAsks, hf rfl] using h.asks
    have hsettle : s.pinSettle true c = s.pinFall c := by simp [State.pinSettle, State.pinHolds, hlow]
    exact hsettle ▸ hfalls

theorem holdsFresh_cmd {p : Nat} (h : s.holdsFresh p = true) (hd : d = 2 * p ∨ d = 2 * p + 1) : (s.ch d).cmd = true := by
  simp only [State.holdsFresh, Bool.and_eq_true] at h
  obtain ⟨⟨⟨-, ha⟩, hb⟩, -⟩ := h
  rcases hd with rfl | rfl
  · exact ha
  · exact hb

/-- With the latch open, the pin of a channel that asks for nothing is low once the pins have followed their conditions (R362). -/
theorem out_pairUpdate_unasked {p : Nat} (hready : PinsReady p s) (hheld : s.pwm.held = false) (hasks : s.chAsks c = false)
    (hc : c = 2 * p ∨ c = 2 * p + 1) : ((s.pairUpdate p).ch c).out = false := by
  have h1 := (Unasked.mk hready.rise hheld hasks).pairHold p
  have h2 := onePin_pinSettle h1.rise (s.holdsFresh p) (2 * p)
  have h3 := onePin_pinSettle h2.rise (s.holdsFresh p) (2 * p + 1)
  have h4 := onePin_pinRise h3.rise (2 * p)
  have h5 := onePin_pinRise h4.rise (2 * p + 1)
  have hcmd : s.holdsFresh p = true → ((s.pairHold p).ch c).cmd = true := fun hf =>
    (congrArg ChSt.cmd ((pinsMoved_pairHold hready.rise p).pinless c) :).trans (holdsFresh_cmd hf hc)
  rw [pairUpdate_ready hready]
  obtain rfl | rfl := hc
  · rw [h5.others _ (by omega), pinRise_unwanted ((h1.onePin h2).onePin h3).wants, h3.others _ (by omega)]
    exact h1.settles hcmd
  · rw [pinRise_unwanted (((h1.onePin h2).onePin h3).onePin h4).wants, h4.others _ (by omega)]
    refine (h1.onePin h2).settles fun hf => ?_
    rw [h2.others _ (by omega)]
    exact hcmd hf

end

/-! ### A pin that rises -/

/-- With the latch open a channel asks for a high pin, no hold bars it, and its pair's wait is over; its partner's command is 0. -/
structure Rising (c : Nat) (s : State) : Prop where
  rise : keysRise none s.pwm.chs = true
  held : s.pwm.held = false
  asks : s.chAsks c = true
  free : (s.ch c).xhold = false
  waits : s.pinWaits c = false
  alone : s.pairOn (c / 2) = true → (s.ch (partner c)).cmd = false

section
variable {s t : State} {c d p : Nat}

theorem Rising.wants (h : Rising c s) : s.pinWants c = true := by simp [pinWants_open h.held, h.asks, h.free]

theorem pinWaits_unpaired (h : s.pairOn (c / 2) = false) : s.pinWaits c = false := by simp [State.pinWaits, h]

theorem pinWaits_congr (h : Driven pinPlaces s t) (hout : (t.ch (partner c)).out = (s.ch (partner c)).out)
    (hever : (t.ch (partner c)).everHigh = (s.ch (partner c)).everHigh) (hat : (t.ch (partner c)).lowAt = (s.ch (partner c)).lowAt) :
    t.pinWaits c = s.pinWaits c := by
  have hpair : t.get R.PWM_XPAIR_PAIR_EN = s.get R.PWM_XPAIR_PAIR_EN := h.value _ (by decide)
  have hdead : t.get R.PWM_XPAIR_XDEAD = s.get R.PWM_XPAIR_XDEAD := h.value _ (by decide)
  simp only [State.pinWaits, State.pairOn, hout, hever, hat, hpair, hdead, h.elapsed]

theorem OnePin.driven (h : OnePin d s t) : Driven pinPlaces s t := by
  obtain ⟨_, rfl⟩ := h.shape
  exact (Driven.refl s).setPwm

/-- The partner's pin moves only where the pair is not enabled. -/
theorem Rising.partnerPin (h : Rising c s) (k : OnePin (partner c) s t) (hwaits : s.pairOn (c / 2) = true → t.pinWaits c = s.pinWaits c) :
    Rising c t where
  rise := k.rise
  held := k.held.trans h.held
  asks := (k.asks c).trans h.asks
  free := (congrArg ChSt.xhold (k.others c (partner_ne c).symm)).trans h.free
  waits := by
    cases hon : s.pairOn (c / 2) with
    | false => exact pinWaits_unpaired ((k.pairOn _).trans hon)
    | true => exact (hwaits hon).trans h.waits
  alone hon := (congrArg ChSt.cmd (k.pinless (partner c)) :).trans (h.alone ((k.pairOn _).symm.trans hon))

theorem Rising.partnerFalls (h : Rising c s) : Rising c (s.pinFall (partner c)) := by
  have k := onePin_pinFall h.rise (partner c)
  refine h.partnerPin k fun hon => ?_
  have hlow : (s.ch (partner c)).out = false := by
    have hwaits := h.waits
    simp only [State.pinWaits, hon, Bool.true_and, Bool.or_eq_false_iff] at hwaits
    exact hwaits.1
  obtain ⟨b, hch⟩ := ch_pinFall_low h.rise hlow
  exact pinWaits_congr k.driven (by rw [hch]) (by rw [hch]) (by rw [hch])

theorem Rising.partnerRises (h : Rising c s) : Rising c (s.pinRise (partner c)) := by
  refine h.partnerPin (onePin_pinRise h.rise (partner c)) fun hon => ?_
  have hunwanted : s.pinWants (partner c) = false := by simp [pinWants_open h.held, State.chAsks, h.alone hon]
  rw [pinRise_unwanted hunwanted]

theorem partner_of_pair (hc : c = 2 * p ∨ c = 2 * p + 1) : partner c = 2 * p ∨ partner c = 2 * p + 1 := by
  rcases hc with rfl | rfl
  · exact .inr (partner_even p)
  · exact .inl (partner_odd p)

/-- A pair does not meet where one of its two commands is 0. -/
theorem pairMeets_alone (halone : s.pairOn p = true → (s.ch d).cmd = false) (hd : d = 2 * p ∨ d = 2 * p + 1) : s.pairMeets p = false := by
  rcases hd with rfl | rfl
  · simp only [State.pairMeets, Bool.and_eq_false_iff]
    cases hon : s.pairOn p with
    | true => exact .inl (.inr (halone hon))
    | false => exact .inl (.inl rfl)
  · simp only [State.pairMeets, Bool.and_eq_false_iff]
    cases hon : s.pairOn p with
    | true => exact .inr (halone hon)
    | false => exact .inl (.inl rfl)

theorem holdsFresh_apart (h : s.pairMeets p = false) : s.holdsFresh p = false := by
  unfold State.pairMeets at h
  simp [State.holdsFresh, h]

/-- The pins of a pair that does not meet. -/
theorem pairUpdate_apart (hready : PinsReady p s) (h : s.pairMeets p = false) : s.pairUpdate p
    = ((((s.markPair false p).pinFall (2 * p)).pinFall (2 * p + 1)).pinRise (2 * p)).pinRise (2 * p + 1) := by
  rw [pairUpdate_ready hready, pairHold_apart h, holdsFresh_apart h]
  rfl

/-- With the latch open, the pin of a channel that asks for it is high once the pins have followed their conditions, where its pair is not enabled
or has the partner low and waited for (R356). -/
theorem out_pairUpdate_asked (hready : PinsReady p s) (hheld : s.pwm.held = false) (hasks : s.chAsks c = true) (hwaits : s.pinWaits c = false)
    (halone : s.pairOn p = true → (s.ch (partner c)).cmd = false) (hc : c = 2 * p ∨ c = 2 * p + 1) :
    ((s.pairUpdate p).ch c).out = true ∧ ((s.ch c).out = false → ((s.pairUpdate p).ch c).xwait = false) := by
  have hpart := partner_of_pair hc
  have hhalf : c / 2 = p := by omega
  have hmark := pinsMoved_markPair hready.rise false p
  have hown := ch_markPair hready.rise false hc
  have hother := ch_markPair hready.rise false hpart
  have h1 : Rising c (s.markPair false p) := {
    rise := hmark.rise
    held := hmark.held.trans hheld
    asks := (hmark.asks c).trans hasks
    free := by rw [hown]
    waits := (pinWaits_congr hmark.toDriven (by rw [hother]) (by rw [hother]) (by rw [hother])).trans hwaits
    alone := fun hon => by rw [hother]; exact halone (hhalf ▸ hon) }
  have h2 := h1.partnerFalls
  have hfall := (onePin_pinFall h1.rise (partner c)).others c (partner_ne c).symm
  rw [pairUpdate_apart hready (pairMeets_alone halone hpart)]
  rcases hc with rfl | rfl
  · rw [partner_even] at h2 hfall
    have hrises := ch_pinRise_free h2.rise h2.wants h2.held h2.waits
    rw [hfall, hown] at hrises
    rw [pinFall_wanted h1.wants, (onePin_pinRise (onePin_pinRise h2.rise _).rise _).others _ (by omega)]
    exact hrises
  · have h3 := h2.partnerRises
    have hrise := (onePin_pinRise h2.rise (partner (2 * p + 1))).others (2 * p + 1) (partner_ne _).symm
    rw [partner_odd] at h2 h3 hfall hrise
    have hrises := ch_pinRise_free h3.rise h3.wants h3.held h3.waits
    rw [hrise, hfall, hown] at hrises
    rw [pinFall_wanted h2.wants]
    exact hrises

end

/-! ### All pins -/

section
variable {s : State} {c : Nat}

/-- What the pairs' updates make, pair after pair. -/
theorem pinsUpdate_induction {Q : Nat → State → Prop} (h0 : Q 0 s) (hstep : ∀ p u, Q p u → Q (p + 1) (u.pairUpdate p)) :
    Q 8 s.pinsUpdate := by
  have hall : ∀ n, Q n (forAll (List.range n) State.pairUpdate s) := fun n => by
    induction n with
    | zero => exact h0
    | succ n ih =>
      rw [List.range_succ, forAll, List.foldl_append]
      exact hstep n _ ih
  exact hall 8

theorem PinsMoved.trans {s₀ t : State} (h : PinsMoved s₀ s) (k : PinsMoved s t) : PinsMoved s₀ t :=
  ⟨h.toDriven.trans k.toDriven, k.rise, k.held.trans h.held, k.syncOut.trans h.syncOut, fun d => (k.pinless d).trans (h.pinless d)⟩

theorem pinsMoved_pinsUpdate (h : PinsReady 0 s) : PinsMoved s s.pinsUpdate :=
  (pinsUpdate_induction (Q := fun n u => PinsReady n u ∧ PinsMoved s u) ⟨h, .refl h.rise⟩ fun _ _ hu =>
    ⟨pinsReady_pairUpdate hu.1, hu.2.trans (pinsMoved_pairUpdate hu.1)⟩).2

/-- With the latch open and no channel asking for its pin, every pin is low. -/
theorem out_pinsUpdate_unasked (h : PinsReady 0 s) (hheld : s.pwm.held = false) (hasks : ∀ d, d < 16 → s.chAsks d = false) :
    ∀ d, d < 16 → (s.pinsUpdate.ch d).out = false := by
  refine fun d hd => (pinsUpdate_induction
    (Q := fun n u => (PinsReady n u ∧ PinsMoved s u) ∧ ∀ d, d < 16 → d < 2 * n → (u.ch d).out = false)
    ⟨⟨h, .refl h.rise⟩, fun d _ hd => absurd hd (Nat.not_lt_zero d)⟩ fun p u hu => ?_).2 d hd hd
  obtain ⟨⟨hready, hmoved⟩, hlow⟩ := hu
  refine ⟨⟨pinsReady_pairUpdate hready, hmoved.trans (pinsMoved_pairUpdate hready)⟩, fun d h16 hd => ?_⟩
  by_cases hp : d = 2 * p ∨ d = 2 * p + 1
  · exact out_pairUpdate_unasked hready (hmoved.held.trans hheld) ((hmoved.asks d).trans (hasks d h16)) hp
  · obtain ⟨ha, hb⟩ := not_or.mp hp
    rw [ch_pairUpdate_other hready ha hb]
    exact hlow d h16 (by omega)

end

end Sys2Proof.Machine
end

section
namespace Sys2Proof.Machine

/-! ## What an operation makes before the pins follow -/

/-- `Stepped l s₀ s`: `s`, made from `s₀` without its pins, has written fields at places of `l` alone and kept the hold latch and the pair
holds. -/
structure Stepped (l : List Nat) (s₀ s : State) : Prop extends Driven l s₀ s where
  rise : keysRise none s.pwm.chs = true
  held : s.pwm.held = s₀.pwm.held
  holds : s.pwm.holds = s₀.pwm.holds

section
variable {l m : List Nat} {s₀ s t : State} {c n p : Nat}

theorem Stepped.refl (h : keysRise none s.pwm.chs = true) : Stepped l s s := ⟨.refl s, h, rfl, rfl⟩

theorem Stepped.mono (h : Stepped l s₀ s) (hlm : l ⊆ m) : Stepped m s₀ s := ⟨h.toDriven.mono hlm, h.rise, h.held, h.holds⟩

theorem Stepped.trans (h : Stepped l s₀ s) (k : Stepped l s t) : Stepped l s₀ t :=
  ⟨h.toDriven.trans k.toDriven, k.rise, k.held.trans h.held, k.holds.trans h.holds⟩

theorem Stepped.ite {b : Prop} [Decidable b] (hs : Stepped l s₀ s) (ht : Stepped l s₀ t) : Stepped l s₀ (if b then s else t) := by
  split <;> assumption

theorem Stepped.setCh {x : ChSt} (h : Stepped l s₀ s) : Stepped l s₀ (s.setCh c x) :=
  ⟨h.toDriven.setCh, chs_setCh_rise h.rise c x, h.held, h.holds⟩

theorem Stepped.put {F : Field} {v : Nat} (h : Stepped l s₀ s) (hF : chPlace F.key ∈ l) : Stepped l s₀ (s.put F v) :=
  ⟨h.toDriven.put hF, h.rise, h.held, h.holds⟩

theorem Stepped.addTo {F : Field} {v : Nat} (h : Stepped l s₀ s) (hF : chPlace F.key ∈ l) : Stepped l s₀ (s.addTo F v) := h.put hF

theorem Stepped.raise {F : Field} (h : Stepped l s₀ s) (hF : chPlace F.key ∈ l ∧ 32 * 0x14 ∈ l) : Stepped l s₀ (s.raise F) :=
  ⟨h.toDriven.raise hF, by simpa using h.rise, by simpa using h.held, by simpa using h.holds⟩

theorem Stepped.post {e : Event} (h : Stepped l s₀ s) : Stepped l s₀ (s.post e) := ⟨h.toDriven.post, h.rise, h.held, h.holds⟩

theorem Stepped.sendSync (h : Stepped l s₀ s) : Stepped l s₀ (s.sendSync c) :=
  .ite h.setCh ⟨h.toDriven.setPwm, h.rise, h.held, h.holds⟩

theorem Stepped.unsendSync {b : Bool} (h : Stepped l s₀ s) : Stepped l s₀ (s.unsendSync c b) :=
  .ite h.setCh ⟨h.toDriven.setPwm, h.rise, h.held, h.holds⟩

theorem Stepped.ready (h : Stepped l s₀ s) (hready : PinsReady n s₀) : PinsReady n s :=
  ⟨h.rise, fun k hk hat => hready.below k (h.holds ▸ hk) (hat.trans h.elapsed)⟩

/-- The block of CTRL holds EN at its first place. -/
theorem Driven.runs (h : Driven l s₀ s) (hl : 0x1000 + (32 * 0 + 0) ∉ l) (c : Nat) : s.chRuns c = s₀.chRuns c := by
  have hon : s.on (R.CH_CTRL_EN c) = s₀.on (R.CH_CTRL_EN c) := h.on (chPlace_notMem ⟨by decide, hl⟩)
  simp only [State.chRuns, State.chUp, h.unitUp, hon]

/-- Then the pins follow. -/
theorem Stepped.settles (h : Stepped l s₀ s) (hready : PinsReady 0 s₀) (p : Nat) : PinsMoved s (s.pairUpdate p) :=
  pinsMoved_pairUpdate ((h.ready hready).mono (Nat.zero_le p))

end

/-! ## The local drive in service -/

section
variable {s : State} {c : Nat} (hserv : s.inService = true) (hc : c < 16)

include hserv in
theorem inService_drive : s.up 9 = true := inService_common hserv (by decide)

include hserv in
/-- A write with an action of its own to the PWM page, whose glade runs in service. -/
theorem commanded_pwmPage {addr : Nat} (ha : addr / 0x1000 = 0x90) (f : State → State) : s.commanded addr f = f s :=
  commanded_inService hserv (g := 9) (by simp [pageGlade, ha]) (inService_drive hserv) (by simp [pageAbsent, ha]) f

include hserv hc

theorem commanded_chPage {o : Nat} (ho : o < 0x80) (f : State → State) : s.commanded (0x90080 + 0x100 * c + o) f = f s :=
  commanded_pwmPage hserv (by omega) f

theorem inService_chHere : s.chHere c = true := by simp [State.chHere, hc, inService_drive hserv]

theorem inService_chUp : s.chUp c = true := by
  have hglade : chUnit c / 256 = 9 := by unfold chUnit; omega
  simp [State.chUp, State.unitUp, hc, hglade, inService_drive hserv, inService_unit hserv]

theorem inService_chRuns : s.chRuns c = s.on (R.CH_CTRL_EN c) := by rw [State.chRuns, inService_chUp hserv hc, Bool.true_and]

end

theorem config_chPer {s : State} {c : Nat} (hc : c < 16) : (s.config (R.CH_PER_PER c).addr).flt.inbox
    = s.flt.inbox ++ [{ cls := .config, unit := chUnit c, req := .l0, aux := (R.CH_PER_PER c).addr }] := by
  have hunit : addrUnit (R.CH_PER_PER c).addr = chUnit c := by
    have hp : (0x90080 + 0x100 * c + 0xC) / 0x1000 = 0x90 := by omega
    have ho : ¬(0x90080 + 0x100 * c + 0xC) % 0x1000 < 0x80 := by omega
    have hn : ((0x90080 + 0x100 * c + 0xC) % 0x1000 - 0x80) / 0x100 = c := by omega
    simp [addrUnit, R.CH_PER_PER, hp, ho, hn]
  unfold State.config
  rw [hunit]
  rfl

/-! ## Period starts (R349, R350, R354, R366) -/

/-- The place of the period count. -/
def periodPlaces : List Nat := [0x1000 + 32 * 0x24]

section
variable {s : State} {c : Nat}

theorem periodBegin_again {was : Bool} (h : s.perNow c = some was) : s.periodBegin c
    = s.setCh c { s.ch c with cnt := 0, cmd := s.chLevelAt c 0, dropped := false, waitPer := false } := by
  simp [State.periodBegin, h]

theorem periodBegin_first (h : s.perNow c = none) : s.periodBegin c
    = ((s.setCh c { s.ch c with
        cnt := 0, cmd := s.chLevelAt c 0, dropped := false, waitPer := false, perNo := (s.ch c).perNo + 1
        perAt := some (s.elapsed, decide (c < 15) && (s.ch (c + 1)).pulse) }).addTo (R.CH_PCNT_PERIODS c) 1).sendSync c := by
  simp [State.periodBegin, h]

theorem ch_sendSync_self (c : Nat) (s : State) : (s.sendSync c).ch c = s.ch c := by
  unfold State.sendSync
  split
  · exact ch_setCh_other (by omega) _
  · rfl

theorem regs_sendSync (c : Nat) (s : State) : (s.sendSync c).regs = s.regs := by
  unfold State.sendSync
  split <;> rfl

/-- The pulse goes to the next channel, and channel 15's to SYNC_OUT (R354). -/
theorem pulse_sendSync (hr : keysRise none s.pwm.chs = true) (hc : c < 15) : ((s.sendSync c).ch (c + 1)).pulse = true := by
  rw [State.sendSync, if_pos hc, ch_setCh_same hr]

theorem syncOut_sendSync (hc : c = 15) : (s.sendSync c).pwm.syncOut = s.pwm.syncOut + 1 := by
  rw [State.sendSync, if_neg (by omega)]

theorem ch_unsendSync_self (c : Nat) (b : Bool) (s : State) : (s.unsendSync c b).ch c = s.ch c := by
  unfold State.unsendSync
  split
  · exact ch_setCh_other (by omega) _
  · rfl

section
variable (hr : keysRise none s.pwm.chs = true)
include hr

theorem stepped_periodBegin (c : Nat) : Stepped periodPlaces s (s.periodBegin c) := by
  cases h : s.perNow c with
  | some was => exact periodBegin_again h ▸ (Stepped.refl hr).setCh
  | none =>
    rw [periodBegin_first h]
    exact ((Stepped.refl hr).setCh.addTo (chPlace_mem (by decide))).sendSync

theorem ch_periodBegin (c : Nat) : ∃ perNo perAt, (s.periodBegin c).ch c
    = { s.ch c with cnt := 0, cmd := s.chLevelAt c 0, dropped := false, waitPer := false, perNo, perAt } := by
  cases h : s.perNow c with
  | some was =>
    rw [periodBegin_again h, ch_setCh_same hr]
    exact ⟨_, _, rfl⟩
  | none =>
    rw [periodBegin_first h, ch_sendSync_self]
    exact ⟨_, _, ch_setCh_same hr c _⟩

end

/-- The first period start of the tick counts its period and sends the pulse on. -/
theorem periodBegin_counts (hr : keysRise none s.pwm.chs = true) (hk : keysRise none s.regs = true) (h : s.perNow c = none) :
    (s.periodBegin c).get (R.CH_PCNT_PERIODS c) = (s.get (R.CH_PCNT_PERIODS c) + 1) % 2 ^ (R.CH_PCNT_PERIODS c).w
      ∧ (c < 15 → ((s.periodBegin c).ch (c + 1)).pulse = true) ∧ (c = 15 → (s.periodBegin c).pwm.syncOut = s.pwm.syncOut + 1) := by
  rw [periodBegin_first h]
  exact ⟨(get_congr (regs_sendSync _ _)).trans (get_put_same (s := s.setCh c _) hk _ _), pulse_sendSync (chs_setCh_rise hr c _), syncOut_sendSync⟩

theorem periodBegin_counted {was : Bool} (h : s.perNow c = some was) :
    (s.periodBegin c).get (R.CH_PCNT_PERIODS c) = s.get (R.CH_PCNT_PERIODS c) := by
  rw [periodBegin_again h]
  rfl

theorem periodLoaded_shows (hr : keysRise none s.pwm.chs = true) (hk : keysRise none s.regs = true) :
    Stepped periodPlaces s (s.periodLoaded c) ∧ ((s.periodLoaded c).ch c).cnt = (s.ch c).cnt ∧ ((s.periodLoaded c).ch c).cmd = (s.ch c).cmd
      ∧ (s.periodLoaded c).get (R.CH_PCNT_PERIODS c) = (s.get (R.CH_PCNT_PERIODS c) + 1) % 2 ^ (R.CH_PCNT_PERIODS c).w := by
  have hch := ch_setCh_same hr c { s.ch c with waitPer := false, perNo := (s.ch c).perNo + 1, loadAt := none }
  exact ⟨(Stepped.refl hr).setCh.addTo (chPlace_mem (by decide)), (congrArg ChSt.cnt hch :), (congrArg ChSt.cmd hch :),
    get_put_same (s := s.setCh c _) hk _ _⟩

end

/-! ### What the settled channel shows -/

section
variable {l : List Nat} {s u t : State} {c : Nat}

/-- What a channel shows once the pins have followed: its counter, its command and its pulse are those made before. -/
theorem PinsMoved.logic (h : PinsMoved u t) (c : Nat) : (t.ch c).cnt = (u.ch c).cnt ∧ (t.ch c).cmd = (u.ch c).cmd
    ∧ (t.ch c).pulse = (u.ch c).pulse :=
  have hch := h.pinless c
  ⟨(congrArg ChSt.cnt hch :), (congrArg ChSt.cmd hch :), (congrArg ChSt.pulse hch :)⟩

/-- With the latch open a command of 0 takes its pin low. -/
theorem out_settled_off (hready : PinsReady 0 u) (hheld : u.pwm.held = false) (hcmd : (u.ch c).cmd = false) :
    ((u.pairUpdate (c / 2)).ch c).out = false :=
  out_pairUpdate_unasked (hready.mono (Nat.zero_le _)) hheld (by simp [State.chAsks, hcmd]) (by omega)

/-- With the latch open, whatever keeps a pin low takes it low. -/
theorem out_settled_low (hready : PinsReady 0 u) (hheld : u.pwm.held = false) (hlow : u.pinLow c = true) :
    ((u.pairUpdate (c / 2)).ch c).out = false :=
  out_pairUpdate_unasked (hready.mono (Nat.zero_le _)) hheld (by simp [State.chAsks, hlow]) (by omega)

/-- With the latch open, the pin of a channel outside an enabled pair follows its command where nothing keeps it low. -/
theorem out_settled_free (hready : PinsReady 0 u) (hheld : u.pwm.held = false) (hpair : u.pairOn (c / 2) = false) (hlow : u.pinLow c = false) :
    ((u.pairUpdate (c / 2)).ch c).out = (u.ch c).cmd := by
  cases hcmd : (u.ch c).cmd with
  | false => exact out_settled_off hready hheld hcmd
  | true =>
    have hasks : u.chAsks c = true := by simp [State.chAsks, hcmd, hlow]
    exact (out_pairUpdate_asked (hready.mono (Nat.zero_le _)) hheld hasks (pinWaits_unpaired hpair) (by simp [hpair]) (by omega)).1

end

/-! ### The commands that start a period -/

section
variable {s : State} {c : Nat} (hready : PinsReady 0 s) (hk : keysRise none s.regs = true)
include hready

/-- A period start, whatever began it: the counter, the command and the memory. -/
theorem periodStart_shows (c : Nat) : ((s.periodStart c).ch c).cnt = 0 ∧ ((s.periodStart c).ch c).cmd = s.chLevelAt c 0
    ∧ Driven (periodPlaces ++ pinPlaces) s (s.periodStart c) := by
  have hstep := stepped_periodBegin hready.rise c
  have hmoved := hstep.settles hready (c / 2)
  obtain ⟨hcnt, hcmd, -⟩ := hmoved.logic c
  obtain ⟨_, _, hch⟩ := ch_periodBegin hready.rise c
  exact ⟨by rw [State.periodStart, hcnt, hch], by rw [State.periodStart, hcmd, hch],
    (hstep.toDriven.mono (by simp)).trans (hmoved.toDriven.mono (by simp))⟩

/-- The count of periods, which the pins leave alone. -/
theorem periodStart_count (c : Nat) : (s.periodStart c).get (R.CH_PCNT_PERIODS c) = (s.periodBegin c).get (R.CH_PCNT_PERIODS c) :=
  ((stepped_periodBegin hready.rise c).settles hready (c / 2)).value _ (chPlace_notMem (by decide))

/-- The pin of a channel outside an enabled pair follows the command of its period start. -/
theorem out_periodStart (hruns : s.chRuns c = true) (hheld : s.pwm.held = false) (hpair : s.pairOn (c / 2) = false) (hlat : (s.ch c).fltLat = false)
    (hsup : (s.ch c).supLow = false) : ((s.periodStart c).ch c).out = ((s.periodStart c).ch c).cmd := by
  have hstep := stepped_periodBegin hready.rise c
  have hpair' : (s.periodBegin c).pairOn (c / 2) = false := (congrArg (bitOf · _) (hstep.value R.PWM_XPAIR_PAIR_EN (by decide))).trans hpair
  have hlow : (s.periodBegin c).pinLow c = false := by
    obtain ⟨_, _, hch⟩ := ch_periodBegin hready.rise c
    have hruns' : (s.periodBegin c).chRuns c = true := (hstep.runs (by decide) c).trans hruns
    simp [State.pinLow, hch, hruns', hlat, hsup]
  have hcmd := ((hstep.settles hready (c / 2)).logic c).2.1
  exact (out_settled_free (hstep.ready hready) (hstep.held.trans hheld) hpair' hlow).trans hcmd.symm

end

end Sys2Proof.Machine
end

section
namespace Sys2Proof.Machine

/-! ## Turn-off, writes to PER and CMP (R350, R352, R353) -/

section
variable {s : State} {c v : Nat}

theorem turnOffEffect_none (h : chTurnOff (s.get (R.CH_CFG_MODE c)) (s.get (R.CH_PER_PER c)) (s.get (R.CH_CMP_CMP c)) = none) :
    turnOffEffect c s = s := by
  rw [turnOffEffect, h]

theorem turnOffEffect_some {k : Nat} (hruns : s.chRuns c = true)
    (h : chTurnOff (s.get (R.CH_CFG_MODE c)) (s.get (R.CH_PER_PER c)) (s.get (R.CH_CMP_CMP c)) = some k) : turnOffEffect c s = s.turnOff c k := by
  simp [turnOffEffect, h, hruns]

theorem turnOff_shows (hready : PinsReady 0 s) (c k : Nat) : ((s.turnOff c k).ch c).cnt = k ∧ ((s.turnOff c k).ch c).cmd = false
    ∧ (s.pwm.held = false → ((s.turnOff c k).ch c).out = false) ∧ (s.turnOff c k).mem = s.mem := by
  have hstep : Stepped [] s (s.setCh c { s.ch c with cnt := k, cmd := false, dropped := (s.ch c).cmd }) := (Stepped.refl hready.rise).setCh
  have hmoved := hstep.settles hready (c / 2)
  have hch := ch_setCh_same hready.rise c { s.ch c with cnt := k, cmd := false, dropped := (s.ch c).cmd }
  obtain ⟨hcnt, hcmd, -⟩ := hmoved.logic c
  refine ⟨?_, ?_, fun hheld => ?_, hmoved.mem⟩
  · rw [State.turnOff, hcnt, hch]
  · rw [State.turnOff, hcmd, hch]
  · exact out_settled_off (hstep.ready hready) hheld (by rw [hch])

/-! ### The split check (R353) -/

theorem splitCheck_eq (c : Nat) (r : SplitReg) (s : State) : ∃ b, s.splitCheck c r
    = (s.setCh c { s.ch c with wrReg := some r, wrAt := s.elapsed, wrPer := (s.ch c).perNo }).flagIf b (R.CH_STAT_SPLIT c) :=
  ⟨_, rfl⟩

/-- What the split check may write: IRQ_STAT and SPLIT. -/
def splitPlaces : List Nat := [32 * 0x14, 0x1000 + 32 * 0x1C]

theorem splitCheck_shows (hr : keysRise none s.pwm.chs = true) (c : Nat) (r : SplitReg) : Stepped splitPlaces s (s.splitCheck c r)
    ∧ ∃ wrReg wrAt wrPer, (s.splitCheck c r).ch c = { s.ch c with wrReg, wrAt, wrPer } := by
  have hset : Stepped splitPlaces s (s.setCh c { s.ch c with wrReg := some r, wrAt := s.elapsed, wrPer := (s.ch c).perNo }) :=
    (Stepped.refl hr).setCh
  have hch := ch_setCh_same hr c { s.ch c with wrReg := some r, wrAt := s.elapsed, wrPer := (s.ch c).perNo }
  obtain ⟨b, hb⟩ := splitCheck_eq c r s
  rw [hb]
  cases b with
  | true => exact ⟨hset.raise ⟨chPlace_mem (by decide), by decide⟩, _, _, _, (ch_congr (by simp [State.flagIf]) c).trans hch⟩
  | false => exact ⟨hset, _, _, _, hch⟩

theorem regsKeptBut_splitCheck (hc : c < 16) (r : SplitReg) : RegsKeptBut [R.CH_STAT_SPLIT c, R.PWM_IRQ_STAT_PEND] s (s.splitCheck c r) := by
  intro G hG
  have hirq : (R.PWM_IRQ_STAT_PEND).key = 32 * (pageOf (R.CH_STAT_SPLIT c).addr + 0x14) := by
    simp only [Field.key, R.PWM_IRQ_STAT_PEND, R.CH_STAT_SPLIT, pageOf]
    omega
  obtain ⟨b, hb⟩ := splitCheck_eq c r s
  rw [hb]
  cases b with
  | true => exact get_raise_other (hG _ (by simp)) (hirq ▸ hG _ (by simp)) _
  | false => rfl

/-! ### A changed PER or CMP at once (R352, R366) -/

theorem chRewrite_off (h : s.chRuns c = false) : s.chRewrite c = s := if_neg (by simp [h])

/-- What a changed PER or CMP makes of the command: at the start of a period the level, later a turn-off of the same tick judged again. -/
def State.rewritten (s : State) (c : Nat) : Bool :=
  if (s.ch c).cnt = 0 then s.chLevelAt c 0 else (s.ch c).cmd || (s.ch c).dropped && s.chLevelAt c (s.ch c).cnt

theorem chRewrite_cases (c : Nat) (s : State) : s.chRewrite c = s ∧ (s.chRuns c = true → (s.ch c).cmd = s.rewritten c)
    ∨ ∃ dropped, s.chRewrite c = (s.setCh c { s.ch c with cmd := s.rewritten c, dropped }).pairUpdate (c / 2) := by
  unfold State.chRewrite State.rewritten
  dsimp only
  cases hruns : s.chRuns c with
  | false => exact .inl ⟨rfl, nofun⟩
  | true =>
    by_cases hcnt : (s.ch c).cnt = 0
    · simp only [hcnt, if_true]
      exact .inr ⟨_, rfl⟩
    · cases hagain : (s.ch c).dropped && s.chLevelAt c (s.ch c).cnt with
      | true =>
        simp only [hcnt, if_true, if_false, Bool.or_true]
        exact .inr ⟨_, rfl⟩
      | false => exact .inl (by simp [hcnt])

theorem chRewrite_shows (hready : PinsReady 0 s) (c : Nat) : Driven pinPlaces s (s.chRewrite c) ∧ ((s.chRewrite c).ch c).cnt = (s.ch c).cnt
    ∧ (s.chRuns c = true → ((s.chRewrite c).ch c).cmd = s.rewritten c) := by
  obtain ⟨he, hcmd⟩ | ⟨dropped, he⟩ := chRewrite_cases c s
  · rw [he]
    exact ⟨.refl s, rfl, hcmd⟩
  · have hstep : Stepped pinPlaces s (s.setCh c { s.ch c with cmd := s.rewritten c, dropped }) := (Stepped.refl hready.rise).setCh
    have hmoved := hstep.settles hready (c / 2)
    obtain ⟨hcnt, hcmd, -⟩ := hmoved.logic c
    rw [ch_setCh_same hready.rise] at hcnt hcmd
    rw [he]
    exact ⟨hstep.toDriven.trans hmoved.toDriven, hcnt, fun _ => hcmd⟩

/-! ### The two writes -/

/-- What a write to PER or CMP may write itself: its register, SPLIT and IRQ_STAT. -/
def writePlaces (o : Nat) : List Nat := (0x1000 + 32 * o) :: splitPlaces

/-- A value written to PER, before it acts. -/
def State.perWritten (c v : Nat) (s : State) : State := (s.splitCheck c .per).put (R.CH_PER_PER c) v

/-- A value written to CMP, before it acts. -/
def State.cmpWritten (c v : Nat) (s : State) : State := (s.splitCheck c .cmp).put (R.CH_CMP_CMP c) v

theorem perWritten_shows (hr : keysRise none s.pwm.chs = true) (c v : Nat) : Stepped (writePlaces 0xC) s (s.perWritten c v)
    ∧ ∃ wrReg wrAt wrPer, (s.perWritten c v).ch c = { s.ch c with wrReg, wrAt, wrPer } := by
  obtain ⟨hstep, hch⟩ := splitCheck_shows hr c .per
  have hput : (s.perWritten c v).ch c = (s.splitCheck c .per).ch c := ch_congr (congrArg PwmSt.chs (State.put_pwm _ _ _)) c
  rw [hput]
  exact ⟨(hstep.mono (List.subset_cons_self _ _)).put (chPlace_mem ⟨by decide, List.mem_cons_self⟩), hch⟩

theorem cmpWritten_stepped (hr : keysRise none s.pwm.chs = true) (c v : Nat) : Stepped (writePlaces 0x10) s (s.cmpWritten c v) :=
  ((splitCheck_shows hr c .cmp).1.mono (List.subset_cons_self _ _)).put (chPlace_mem ⟨by decide, List.mem_cons_self⟩)

section
variable (hserv : s.inService = true) (hc : c < 16)
include hserv hc

theorem chPerEffect_refused (hv : v % 2 ^ 20 < 4) : chPerEffect c v s = s.config (R.CH_PER_PER c).addr := by
  rw [chPerEffect, if_pos (inService_chHere hserv hc), if_pos hv]

theorem chPerEffect_taken (hv : 4 ≤ v % 2 ^ 20) : chPerEffect c v s = (s.perWritten c v).chRewrite c := by
  rw [chPerEffect, if_pos (inService_chHere hserv hc), if_neg (by omega)]
  rfl

theorem chCmpEffect_taken (v : Nat) : chCmpEffect c v s = (s.cmpWritten c v).chRewrite c := if_pos (inService_chHere hserv hc)

omit hc in
theorem perWritten_per (c v : Nat) : (s.perWritten c v).get (R.CH_PER_PER c) = v % 2 ^ 20 :=
  get_put_same ((Keeps.refl s).splitCheck.regsRise hserv) _ _

omit hc in
theorem cmpWritten_cmp (c v : Nat) : (s.cmpWritten c v).get (R.CH_CMP_CMP c) = v % 2 ^ (R.CH_CMP_CMP c).w :=
  get_put_same ((Keeps.refl s).splitCheck.regsRise hserv) _ _

omit hc in
/-- The level that the new PER gives with the mode and CMP that stand. -/
theorem perWritten_level (hr : keysRise none s.pwm.chs = true) (c v k : Nat) : (s.perWritten c v).chLevelAt c k
    = chLevel (s.get (R.CH_CFG_MODE c)) (v % 2 ^ 20) (s.get (R.CH_CMP_CMP c)) k := by
  obtain ⟨hstep, -⟩ := perWritten_shows hr c v
  have hmode : (s.perWritten c v).get (R.CH_CFG_MODE c) = s.get (R.CH_CFG_MODE c) := hstep.value _ (chPlace_notMem (by decide))
  have hcmp : (s.perWritten c v).get (R.CH_CMP_CMP c) = s.get (R.CH_CMP_CMP c) := hstep.value _ (chPlace_notMem (by decide))
  rw [State.chLevelAt, hmode, hcmp, perWritten_per hserv]

/-- A value of 4 or more goes to PER; the counter goes on. -/
theorem chPerEffect_shows (hready : PinsReady 0 s) (hv : 4 ≤ v % 2 ^ 20) : (chPerEffect c v s).get (R.CH_PER_PER c) = v % 2 ^ 20
    ∧ ((chPerEffect c v s).ch c).cnt = (s.ch c).cnt ∧ (chPerEffect c v s).mem = s.mem := by
  obtain ⟨hstep, _, _, _, hch⟩ := perWritten_shows hready.rise c v
  obtain ⟨hdriven, hcnt, -⟩ := chRewrite_shows (hstep.ready hready) c
  rw [chPerEffect_taken hserv hc hv]
  refine ⟨?_, ?_, hdriven.mem.trans hstep.mem⟩
  · exact (hdriven.value _ (chPlace_notMem (by decide))).trans (perWritten_per hserv c v)
  · rw [hcnt, hch]

/-- The command of a running channel after a write to PER (R352, R366). -/
theorem chPerEffect_cmd (hready : PinsReady 0 s) (hv : 4 ≤ v % 2 ^ 20) (hon : s.on (R.CH_CTRL_EN c) = true) :
    ((chPerEffect c v s).ch c).cmd
      = if (s.ch c).cnt = 0 then chLevel (s.get (R.CH_CFG_MODE c)) (v % 2 ^ 20) (s.get (R.CH_CMP_CMP c)) 0
        else (s.ch c).cmd || (s.ch c).dropped && chLevel (s.get (R.CH_CFG_MODE c)) (v % 2 ^ 20) (s.get (R.CH_CMP_CMP c)) (s.ch c).cnt := by
  obtain ⟨hstep, _, _, _, hch⟩ := perWritten_shows hready.rise c v
  have hruns : (s.perWritten c v).chRuns c = true := by rw [hstep.runs (by decide), inService_chRuns hserv hc, hon]
  rw [chPerEffect_taken hserv hc hv, (chRewrite_shows (hstep.ready hready) c).2.2 hruns, State.rewritten, hch]
  simp only [perWritten_level hserv hready.rise]

/-- On a channel that does not run, PER takes its value and nothing follows. -/
theorem chPerEffect_idle (hready : PinsReady 0 s) (hv : 4 ≤ v % 2 ^ 20) (hon : s.on (R.CH_CTRL_EN c) = false) :
    ((chPerEffect c v s).ch c).out = (s.ch c).out
      ∧ RegsKeptBut [R.CH_PER_PER c, R.CH_STAT_SPLIT c, R.PWM_IRQ_STAT_PEND] s (chPerEffect c v s) := by
  obtain ⟨hstep, _, _, _, hch⟩ := perWritten_shows hready.rise c v
  have hruns : (s.perWritten c v).chRuns c = false := by rw [hstep.runs (by decide), inService_chRuns hserv hc, hon]
  rw [chPerEffect_taken hserv hc hv, chRewrite_off hruns, hch]
  refine ⟨rfl, fun G hG => ?_⟩
  have hsplit := regsKeptBut_splitCheck (s := s) hc .per G fun F hF => hG F (List.mem_cons_of_mem _ hF)
  exact (get_put_other (hG _ (by simp)) v _).trans hsplit

/-- CMP takes its value; PER keeps its own. -/
theorem chCmpEffect_shows (hready : PinsReady 0 s) (v : Nat) : (chCmpEffect c v s).get (R.CH_CMP_CMP c) = v % 2 ^ (R.CH_CMP_CMP c).w
    ∧ (chCmpEffect c v s).mem = s.mem ∧ (chCmpEffect c v s).get (R.CH_PER_PER c) = s.get (R.CH_PER_PER c) := by
  have hstep := cmpWritten_stepped hready.rise c v
  obtain ⟨hdriven, -⟩ := chRewrite_shows (hstep.ready hready) c
  rw [chCmpEffect_taken hserv hc]
  refine ⟨?_, hdriven.mem.trans hstep.mem, ?_⟩
  · exact (hdriven.value _ (chPlace_notMem (by decide))).trans (cmpWritten_cmp hserv c v)
  · exact (hdriven.value _ (chPlace_notMem (by decide))).trans (hstep.value _ (chPlace_notMem (by decide)))

end

end

/-! ## Enables and sync pulses (R354, R355, R366, R377) -/

section
variable {s : State} {c : Nat}

theorem pwmEnableEffect_on (h : s.on (R.CH_CTRL_EN c) = true) : pwmEnableEffect c s = s := if_neg (by simp [h])

/-- EN = 1 starts a period. -/
theorem pwmEnableEffect_off (hserv : s.inService = true) (hc : c < 16) (hready : PinsReady 0 s) (h : s.on (R.CH_CTRL_EN c) = false) :
    (pwmEnableEffect c s).get (R.CH_CTRL_EN c) = 1 ∧ ((pwmEnableEffect c s).ch c).cnt = 0 ∧ (pwmEnableEffect c s).mem = s.mem := by
  have hstarts : pwmEnableEffect c s = (s.put (R.CH_CTRL_EN c) 1).periodStart c := by simp [pwmEnableEffect, inService_chUp hserv hc, h]
  obtain ⟨hcnt, -, hdriven⟩ := periodStart_shows (s := s.put (R.CH_CTRL_EN c) 1) ⟨hready.rise, hready.below⟩ c
  rw [hstarts]
  exact ⟨(hdriven.value _ (chPlace_notMem (by decide))).trans (get_put_value (F := R.CH_CTRL_EN c) (v := 1) Nat.one_ne_zero), hcnt, hdriven.mem⟩

/-- The pulse taken at a channel. -/
def State.pulseTaken (c : Nat) (s : State) : State := s.setCh c { s.ch c with pulse := false }

/-- A sync load above 0, before the counter takes it: a period start of the tick sends no pulse, and one that follows is governed (R366). -/
def State.loadBegun (c : Nat) (s : State) : State :=
  match (s.pulseTaken c).perNow c with
  | some was => ((s.pulseTaken c).setCh c { (s.pulseTaken c).ch c with perAt := none }).unsendSync c was
  | none => (s.pulseTaken c).setCh c { (s.pulseTaken c).ch c with loadAt := some (s.pulseTaken c).elapsed }

theorem syncLoad_unsynced (h : (s.chRuns c && s.on (R.CH_CFG_SYNC_EN c)) = false) : s.syncLoad c = s.pulseTaken c := if_neg (by simp [h])

theorem syncLoad_starts (h : (s.chRuns c && s.on (R.CH_CFG_SYNC_EN c)) = true) (hph : s.get (R.CH_SYNC_PH_PH c) = 0) :
    s.syncLoad c = (s.pulseTaken c).periodBegin c := (if_pos h).trans (if_pos hph)

theorem syncLoad_loads (h : (s.chRuns c && s.on (R.CH_CFG_SYNC_EN c)) = true) (hph : s.get (R.CH_SYNC_PH_PH c) ≠ 0) : s.syncLoad c
    = if s.get (R.CH_PER_PER c) ≤ s.get (R.CH_SYNC_PH_PH c) then
        (s.loadBegun c).setCh c { (s.loadBegun c).ch c with cnt := s.get (R.CH_SYNC_PH_PH c), dropped := false }
      else (s.loadBegun c).setCh c { (s.loadBegun c).ch c with
        cnt := s.get (R.CH_SYNC_PH_PH c), cmd := s.chLevelAt c (s.get (R.CH_SYNC_PH_PH c)), dropped := false } :=
  (if_pos h).trans (if_neg hph)

section
variable (hr : keysRise none s.pwm.chs = true)
include hr

theorem stepped_pulseTaken (l : List Nat) (c : Nat) : Stepped l s (s.pulseTaken c) := (Stepped.refl hr).setCh

theorem ch_pulseTaken (c : Nat) : (s.pulseTaken c).ch c = { s.ch c with pulse := false } := ch_setCh_same hr c _

theorem perNow_pulseTaken (c : Nat) : (s.pulseTaken c).perNow c = s.perNow c := by
  simp only [State.perNow, ch_pulseTaken hr]
  rfl

theorem loadBegun_shows (c : Nat) : Stepped periodPlaces s (s.loadBegun c)
    ∧ ((s.loadBegun c).ch c).cmd = (s.ch c).cmd ∧ ((s.loadBegun c).ch c).pulse = false := by
  have htaken := stepped_pulseTaken hr periodPlaces c
  have hch := ch_pulseTaken hr c
  unfold State.loadBegun
  split
  · rw [ch_unsendSync_self, ch_setCh_same htaken.rise, hch]
    exact ⟨htaken.setCh.unsendSync, rfl, rfl⟩
  · rw [ch_setCh_same htaken.rise, hch]
    exact ⟨htaken.setCh, rfl, rfl⟩

/-- Whatever a sync pulse does, it is taken. -/
theorem syncLoad_takes (c : Nat) : Stepped periodPlaces s (s.syncLoad c) ∧ ((s.syncLoad c).ch c).pulse = false := by
  have htaken := stepped_pulseTaken hr periodPlaces c
  cases hsync : s.chRuns c && s.on (R.CH_CFG_SYNC_EN c) with
  | false =>
    rw [syncLoad_unsynced hsync, ch_pulseTaken hr]
    exact ⟨htaken, rfl⟩
  | true =>
    by_cases hph : s.get (R.CH_SYNC_PH_PH c) = 0
    · obtain ⟨_, _, hch⟩ := ch_periodBegin htaken.rise c
      rw [syncLoad_starts hsync hph, hch, ch_pulseTaken hr]
      exact ⟨htaken.trans (stepped_periodBegin htaken.rise c), rfl⟩
    · obtain ⟨hstep, -, hpulse⟩ := loadBegun_shows hr c
      rw [syncLoad_loads hsync hph]
      split
      · exact ⟨hstep.setCh, (congrArg ChSt.pulse (ch_setCh_same hstep.rise c _)).trans hpulse⟩
      · exact ⟨hstep.setCh, (congrArg ChSt.pulse (ch_setCh_same hstep.rise c _)).trans hpulse⟩

/-- A load above 0 governs the counter; below PER it judges the command. -/
theorem ch_syncLoad (hsync : (s.chRuns c && s.on (R.CH_CFG_SYNC_EN c)) = true) (hph : s.get (R.CH_SYNC_PH_PH c) ≠ 0) :
    ((s.syncLoad c).ch c).cnt = s.get (R.CH_SYNC_PH_PH c) ∧ ((s.syncLoad c).ch c).cmd
      = if s.get (R.CH_PER_PER c) ≤ s.get (R.CH_SYNC_PH_PH c) then (s.ch c).cmd else s.chLevelAt c (s.get (R.CH_SYNC_PH_PH c)) := by
  obtain ⟨hstep, hcmd, -⟩ := loadBegun_shows hr c
  rw [syncLoad_loads hsync hph]
  split
  · rw [ch_setCh_same hstep.rise]
    exact ⟨rfl, hcmd⟩
  · rw [ch_setCh_same hstep.rise]
    exact ⟨rfl, rfl⟩

end

section
variable (hserv : s.inService = true) (hc : c < 16) (hready : PinsReady 0 s)
include hserv hc hready

/-- What a sync pulse loads, the pins leave alone. -/
theorem syncPulseEffect_shows : ((syncPulseEffect c s).ch c).cnt = ((s.syncLoad c).ch c).cnt
    ∧ ((syncPulseEffect c s).ch c).cmd = ((s.syncLoad c).ch c).cmd ∧ ((syncPulseEffect c s).ch c).pulse = false
    ∧ (syncPulseEffect c s).get (R.CH_PCNT_PERIODS c) = (s.syncLoad c).get (R.CH_PCNT_PERIODS c) ∧ (syncPulseEffect c s).mem = s.mem := by
  have heff : syncPulseEffect c s = (s.syncLoad c).pairUpdate (c / 2) := if_pos (inService_chHere hserv hc)
  obtain ⟨hstep, htaken⟩ := syncLoad_takes hready.rise c
  have hmoved := hstep.settles hready (c / 2)
  obtain ⟨hcnt, hcmd, hpulse⟩ := hmoved.logic c
  rw [heff]
  exact ⟨hcnt, hcmd, hpulse.trans htaken, hmoved.value _ (chPlace_notMem (by decide)), hmoved.mem.trans hstep.mem⟩

/-- A pulse on a running channel with SYNC_EN: SYNC_PH = 0 starts a period, one below PER loads the counter and judges the command, one from PER on
loads the counter alone (R355). -/
theorem syncPulseEffect_synced (hon : s.on (R.CH_CTRL_EN c) = true) (hsync : s.on (R.CH_CFG_SYNC_EN c) = true) {t : State}
    (ht : t = syncPulseEffect c s) :
    (s.get (R.CH_SYNC_PH_PH c) = 0 → (t.ch c).cnt = 0
        ∧ (s.perNow c = none → t.get (R.CH_PCNT_PERIODS c) = (s.get (R.CH_PCNT_PERIODS c) + 1) % 2 ^ (R.CH_PCNT_PERIODS c).w)
        ∧ ((s.perNow c).isSome = true → t.get (R.CH_PCNT_PERIODS c) = s.get (R.CH_PCNT_PERIODS c)))
      ∧ (0 < s.get (R.CH_SYNC_PH_PH c) → (t.ch c).cnt = s.get (R.CH_SYNC_PH_PH c) ∧ (t.ch c).cmd
          = if s.get (R.CH_PER_PER c) ≤ s.get (R.CH_SYNC_PH_PH c) then (s.ch c).cmd else s.chLevelAt c (s.get (R.CH_SYNC_PH_PH c))) := by
  have hboth : (s.chRuns c && s.on (R.CH_CFG_SYNC_EN c)) = true := by rw [inService_chRuns hserv hc, hon, hsync]; rfl
  obtain ⟨hcnt, hcmd, -, hcount, -⟩ := syncPulseEffect_shows hserv hc hready
  have htaken := stepped_pulseTaken hready.rise [] c
  have hnow := perNow_pulseTaken hready.rise c
  subst ht
  refine ⟨fun hph => ?_, fun hph => ?_⟩
  · rw [syncLoad_starts hboth hph] at hcnt hcount
    obtain ⟨_, _, hch⟩ := ch_periodBegin htaken.rise c
    refine ⟨by rw [hcnt, hch], fun hnone => ?_, fun hsome => ?_⟩
    · exact hcount.trans (periodBegin_counts htaken.rise (inService_regsRise hserv) (hnow.trans hnone)).1
    · obtain ⟨was, hwas⟩ := Option.isSome_iff_exists.mp hsome
      exact hcount.trans (periodBegin_counted (hnow.trans hwas))
  · obtain ⟨hcnt', hcmd'⟩ := ch_syncLoad hready.rise hboth hph.ne'
    exact ⟨hcnt.trans hcnt', hcmd.trans hcmd'⟩

/-- On a channel that does not run the pulse only goes. -/
theorem syncPulseEffect_off (hon : s.on (R.CH_CTRL_EN c) = false) {t : State} (ht : t = syncPulseEffect c s) : (t.ch c).pulse = false
    ∧ (t.ch c).cnt = (s.ch c).cnt ∧ (t.ch c).cmd = (s.ch c).cmd ∧ t.get (R.CH_PCNT_PERIODS c) = s.get (R.CH_PCNT_PERIODS c)
    ∧ t.mem = s.mem := by
  have hoff : (s.chRuns c && s.on (R.CH_CFG_SYNC_EN c)) = false := by rw [inService_chRuns hserv hc, hon]; rfl
  obtain ⟨hcnt, hcmd, hpulse, hcount, hmem⟩ := syncPulseEffect_shows hserv hc hready
  rw [syncLoad_unsynced hoff] at hcount
  rw [syncLoad_unsynced hoff, ch_pulseTaken hready.rise] at hcnt hcmd
  subst ht
  exact ⟨hpulse, hcnt, hcmd, hcount, hmem⟩

end

/-- The end of a wait raises the pin whose partner is low (R356). -/
theorem xdeadEffect_rises (hserv : s.inService = true) (hc : c < 16) (hready : PinsReady 0 s) (hearly : ∀ h ∈ s.pwm.holds, h.at_ < s.elapsed)
    (hwait : (s.ch c).xwait = true) (hheld : s.pwm.held = false) (hasks : s.chAsks c = true) (hout : (s.ch c).out = false)
    (hcmd : (s.ch (partner c)).cmd = false) (hlow : (s.ch (partner c)).out = false) {t : State} (ht : t = xdeadEffect c s) :
    (t.ch c).out = true ∧ (t.ch c).xwait = false ∧ t.mem = s.mem
      ∧ t.elapsed = max s.elapsed ((s.ch (partner c)).lowAt + el (2 * s.get R.PWM_XPAIR_XDEAD)) := by
  have heff : xdeadEffect c s = (s.pass ((s.ch (partner c)).lowAt + el (2 * s.get R.PWM_XPAIR_XDEAD))).pairUpdate (c / 2) :=
    if_pos (by rw [inService_chHere hserv hc, hwait]; rfl)
  rw [ht, heff]
  clear ht heff
  generalize hfree : (s.ch (partner c)).lowAt + el (2 * s.get R.PWM_XPAIR_XDEAD) = free
  have hpassed : PinsReady (c / 2) (s.pass free) :=
    ⟨hready.rise, fun k hk hat => absurd (hearly k hk) (not_lt.mpr (hat ▸ Nat.le_max_left _ _))⟩
  have hover : (s.pass free).pinWaits c = false := by
    have hlate : ¬ (s.pass free).elapsed < (s.ch (partner c)).lowAt + el (2 * s.get R.PWM_XPAIR_XDEAD) := by
      rw [hfree]
      exact not_lt.mpr (Nat.le_max_right _ _)
    have hch : (s.pass free).ch (partner c) = s.ch (partner c) := rfl
    have hdead : (s.pass free).get R.PWM_XPAIR_XDEAD = s.get R.PWM_XPAIR_XDEAD := rfl
    simp [State.pinWaits, hch, hdead, hlow, hlate]
  obtain ⟨hhigh, hdone⟩ := out_pairUpdate_asked hpassed hheld hasks hover (fun _ => hcmd) (by omega)
  have hmoved := pinsMoved_pairUpdate hpassed
  exact ⟨hhigh, hdone hout, hmoved.mem, hmoved.elapsed⟩

end

end Sys2Proof.Machine
end

section
namespace Sys2Proof.Machine

/-! ## The statement of the periods -/

section
variable {s : State} {c : Nat}

theorem pinsReady_of_earlier (hr : keysRise none s.pwm.chs = true) (hearly : ∀ h ∈ s.pwm.holds, h.at_ < s.elapsed) : PinsReady 0 s :=
  ⟨hr, fun k hk hat => absurd (hearly k hk) (hat ▸ lt_irrefl _)⟩

theorem periodStartEffect_off (h : s.chRuns c = false) : periodStartEffect c s = s := if_neg (by simp [h])

theorem periodStartEffect_starts (h : s.chRuns c = true) (hload : (s.ch c).loadAt ≠ some s.elapsed) : periodStartEffect c s = s.periodStart c :=
  (if_pos h).trans (if_neg hload)

theorem periodStartEffect_loaded (h : s.chRuns c = true) (hload : (s.ch c).loadAt = some s.elapsed) :
    periodStartEffect c s = (s.periodLoaded c).pairUpdate (c / 2) := (if_pos h).trans (if_pos hload)

variable (hserv : s.inService = true) (hready : PinsReady 0 s)
include hserv hready

/-- The first period start of the tick (R349, R350, R354). -/
theorem periodStart_first (hruns : s.chRuns c = true) (hnow : s.perNow c = none) {t : State} (ht : t = s.periodStart c) : (t.ch c).cnt = 0
    ∧ (t.ch c).cmd = s.chLevelAt c 0 ∧ t.get (R.CH_PCNT_PERIODS c) = (s.get (R.CH_PCNT_PERIODS c) + 1) % 2 ^ (R.CH_PCNT_PERIODS c).w
    ∧ t.mem = s.mem ∧ (c < 15 → (t.ch (c + 1)).pulse = true) ∧ (c = 15 → t.pwm.syncOut = s.pwm.syncOut + 1)
    ∧ (s.pwm.held = false → s.pairOn (c / 2) = false → (s.ch c).fltLat = false → (s.ch c).supLow = false →
        (t.ch c).out = (t.ch c).cmd) := by
  obtain ⟨hcnt, hcmd, hdriven⟩ := periodStart_shows hready c
  obtain ⟨hcount, hpulse, hout⟩ := periodBegin_counts hready.rise (inService_regsRise hserv) hnow
  have hmoved := (stepped_periodBegin hready.rise c).settles hready (c / 2)
  subst ht
  exact ⟨hcnt, hcmd, (periodStart_count hready c).trans hcount, hdriven.mem, fun hc => (hmoved.logic (c + 1)).2.2.trans (hpulse hc),
    fun hc => hmoved.syncOut.trans (hout hc), out_periodStart hready hruns⟩

/-- The period start of a tick on which a sync load governs the counter (R366). -/
theorem periodLoaded_settled {t : State} (ht : t = (s.periodLoaded c).pairUpdate (c / 2)) : (t.ch c).cnt = (s.ch c).cnt
    ∧ (t.ch c).cmd = (s.ch c).cmd ∧ t.get (R.CH_PCNT_PERIODS c) = (s.get (R.CH_PCNT_PERIODS c) + 1) % 2 ^ (R.CH_PCNT_PERIODS c).w
    ∧ t.mem = s.mem := by
  obtain ⟨hstep, hcnt, hcmd, hcount⟩ := periodLoaded_shows (c := c) hready.rise (inService_regsRise hserv)
  have hmoved := hstep.settles hready (c / 2)
  obtain ⟨hcnt', hcmd', -⟩ := hmoved.logic c
  subst ht
  exact ⟨hcnt'.trans hcnt, hcmd'.trans hcmd, (hmoved.value _ (chPlace_notMem (by decide))).trans hcount, hmoved.mem.trans hstep.mem⟩

end

/-- Settles O37: each command is its own step with the pins following (`Stepped`, `PinsMoved`), which leave the counters and the commands as the step
made them; what the step makes is said by `periodStart_first`, `periodLoaded_settled`, `turnOff_shows`, `chPerEffect_shows`, `chCmpEffect_shows`,
`syncPulseEffect_synced` and `xdeadEffect_rises`. -/
theorem pwmPeriods : Obligations.PwmPeriods := by
  intro s c hserv hc hrise hearly
  have hready := pinsReady_of_earlier hrise hearly
  have hruns := inService_chRuns hserv hc
  have hctrl : ∀ f, s.commanded (R.CH_CTRL_EN c).addr f = f s := commanded_chPage hserv hc (o := 0) (by decide)
  have hper : ∀ v, exec (.chPerWrite c v) s = .next (chPerEffect c v s) := fun v =>
    congrArg Host.Outcome.next (commanded_chPage hserv hc (o := 0xC) (by decide) _)
  have hcmp : ∀ v, exec (.chCmpWrite c v) s = .next (chCmpEffect c v s) := fun v =>
    congrArg Host.Outcome.next (commanded_chPage hserv hc (o := 0x10) (by decide) _)
  have henable : exec (.pwmEnable c) s = .next (pwmEnableEffect c s) := congrArg Host.Outcome.next (hctrl _)
  refine ⟨fun hon => ?_, fun hon => ?_, fun hnone => congrArg Host.Outcome.next (turnOffEffect_none hnone), fun v hv => ⟨_, hper v, ?_⟩,
    fun v => ⟨_, hcmp v, chCmpEffect_shows hserv hc hready v⟩, ⟨_, rfl, ?_⟩, fun hwait => ?_,
    fun hwait hheld hpair hon hcmd hout hlat hsup hwper hpcmd hpout => ⟨_, rfl, ?_⟩⟩
  · have hrun : s.chRuns c = true := hruns.trans hon
    refine ⟨fun hnow hload =>
        ⟨_, congrArg Host.Outcome.next (periodStartEffect_starts hrun hload), periodStart_first hserv hready hrun hnow rfl⟩,
      fun hnow hload => ⟨_, congrArg Host.Outcome.next (periodStartEffect_starts hrun hload), ?_⟩,
      fun hload => ⟨_, congrArg Host.Outcome.next (periodStartEffect_loaded hrun hload), periodLoaded_settled hserv hready rfl⟩,
      fun k hk => ⟨_, congrArg Host.Outcome.next (turnOffEffect_some hrun hk), turnOff_shows hready c k⟩,
      henable.trans (congrArg Host.Outcome.next (pwmEnableEffect_on hon)), fun hsync => ⟨_, rfl, ?_⟩, fun v hv => ⟨_, hper v, ?_⟩⟩
    · obtain ⟨was, hwas⟩ := Option.isSome_iff_exists.mp hnow
      obtain ⟨hcnt, -, hdriven⟩ := periodStart_shows hready c
      exact ⟨hcnt, (periodStart_count hready c).trans (periodBegin_counted hwas), hdriven.mem⟩
    · obtain ⟨-, -, hpulse, -, hmem⟩ := syncPulseEffect_shows hserv hc hready
      obtain ⟨hzero, hload⟩ := syncPulseEffect_synced hserv hc hready hon hsync rfl
      exact ⟨hmem, hpulse, hzero, fun hpos hge => ⟨(hload hpos).1, (hload hpos).2.trans (if_pos hge)⟩,
        fun hpos hlt => ⟨(hload hpos).1, (hload hpos).2.trans (if_neg (not_le.mpr hlt))⟩⟩
    · obtain ⟨hvalue, hcnt, hmem⟩ := chPerEffect_shows hserv hc hready hv
      have hcmd := chPerEffect_cmd hserv hc hready hv hon
      refine ⟨hcnt, hvalue, hmem, fun hpos hdrop => ?_, fun hpos hdrop => ?_, fun hzero => hcmd.trans (if_pos hzero)⟩
      · rw [hcmd, if_neg hpos.ne', hdrop, Bool.false_and, Bool.or_false]
      · rw [hcmd, if_neg hpos.ne', hdrop, Bool.true_and]
  · refine ⟨congrArg Host.Outcome.next (periodStartEffect_off (hruns.trans hon)), ⟨_, henable, pwmEnableEffect_off hserv hc hready hon⟩,
      ⟨_, rfl, syncPulseEffect_off hserv hc hready hon rfl⟩, fun v hv => ⟨_, hper v, ?_⟩⟩
    obtain ⟨hvalue, hcnt, hmem⟩ := chPerEffect_shows hserv hc hready hv
    obtain ⟨hout, hregs⟩ := chPerEffect_idle hserv hc hready hv hon
    exact ⟨hvalue, hcnt, hout, hmem, hregs⟩
  · rw [chPerEffect_refused hserv hc hv]
    refine ⟨rfl, rfl, rfl, ?_⟩
    rw [config_chPer hc]
    exact List.mem_append_right _ (List.mem_singleton.mpr rfl)
  · have hedge : syncInEffect s = s.setCh 0 { s.ch 0 with pulse := true } := if_pos (inService_drive hserv)
    rw [hedge]
    exact ⟨ch_setCh_same hrise 0 _, fun d hd => ch_setCh_other hd _, rfl, rfl⟩
  · exact congrArg Host.Outcome.next (if_neg (by simp [hwait]))
  · have hasks : s.chAsks c = true := by simp [State.chAsks, State.pinLow, hruns, hon, hcmd, hlat, hsup, hwper]
    exact xdeadEffect_rises hserv hc hready hearly hwait hheld hasks hout hpcmd hpout rfl

end Sys2Proof.Machine
end

section
namespace Sys2Proof.Machine

/-! ## Driver faults (R358, R359) -/

/-- What a confirmed fault writes itself: IRQ_STAT, and DESAT in STAT and in FCNT. -/
def faultPlaces : List Nat := [32 * 0x14, 0x1000 + (32 * 0x1C + 1), 0x1000 + (32 * 0x20 + 0)]

/-- What a fault of both channels of a pair writes: IRQ_STAT and PAIRFLT. -/
def pairFaultPlaces : List Nat := [32 * 0x14, 0x1000 + (32 * 0x1C + 4)]

/-- The event of a driver fault, whose cause lasts (R744). -/
def faultEventOf (c : Nat) : Event := { cls := .sc, unit := chUnit c, standing := true }

/-- `FaultConfirmed c s t`: a fault of channel `c` has been confirmed in `s`. -/
structure FaultConfirmed (c : Nat) (s t : State) : Prop where
  latched : (t.ch c).fltLat = true
  desat : t.get (R.CH_STAT_DESAT c) = 1
  mem : t.mem = s.mem
  count : t.get (R.CH_FCNT_DESAT c) = (s.get (R.CH_FCNT_DESAT c) + 1) % 2 ^ (R.CH_FCNT_DESAT c).w
  event : faultEventOf c ∈ t.flt.inbox
  low : s.pwm.held = false → (t.ch c).out = false

section
variable {u t : State}

theorem PinsMoved.fltLat (h : PinsMoved u t) (c : Nat) : (t.ch c).fltLat = (u.ch c).fltLat := (congrArg ChSt.fltLat (h.pinless c) :)
theorem PinsMoved.fltIn (h : PinsMoved u t) (c : Nat) : (t.ch c).fltIn = (u.ch c).fltIn := (congrArg ChSt.fltIn (h.pinless c) :)
theorem PinsMoved.gs (h : PinsMoved u t) (c : Nat) : (t.ch c).gs = (u.ch c).gs := (congrArg ChSt.gs (h.pinless c) :)
theorem PinsMoved.supLow (h : PinsMoved u t) (c : Nat) : (t.ch c).supLow = (u.ch c).supLow := (congrArg ChSt.supLow (h.pinless c) :)
theorem PinsMoved.waitPer (h : PinsMoved u t) (c : Nat) : (t.ch c).waitPer = (u.ch c).waitPer := (congrArg ChSt.waitPer (h.pinless c) :)

end

section
variable {s u : State} {c : Nat}

/-- A fault latched, flagged, counted and reported, before the pins follow. -/
def State.faultLatched (c : Nat) (s : State) : State :=
  (((s.setCh c { s.ch c with fltLat := true }).raise (R.CH_STAT_DESAT c)).addTo (R.CH_FCNT_DESAT c) 1).post (faultEventOf c)

/-- R360: a fault of both channels of an enabled pair, reported once more. -/
def State.pairFaulted (c : Nat) (s : State) : State :=
  if s.pairFault c then ((s.raise (R.CH_STAT_PAIRFLT c)).raise (R.CH_STAT_PAIRFLT (partner c))).eventFence .sc (chUnit (c / 2 * 2)) else s

theorem confirmFault_eq (c : Nat) (s : State) : s.confirmFault c = ((s.faultLatched c).pairUpdate (c / 2)).pairFaulted c := rfl

theorem pairFaulted_shows (c : Nat) (s : State) : Driven pairFaultPlaces s (s.pairFaulted c) ∧ (s.pairFaulted c).pwm = s.pwm
    ∧ InboxKept s (s.pairFaulted c) := by
  unfold State.pairFaulted
  split
  · exact ⟨(((Driven.refl s).raise ⟨chPlace_mem (by decide), by decide⟩).raise ⟨chPlace_mem (by decide), by decide⟩).post, by simp,
      ((InboxKept.refl s).raise.raise).post⟩
  · exact ⟨.refl s, rfl, .refl s⟩

theorem stepped_faultLatched (hr : keysRise none s.pwm.chs = true) (c : Nat) : Stepped faultPlaces s (s.faultLatched c) :=
  (((Stepped.refl hr).setCh.raise ⟨chPlace_mem (by decide), by decide⟩).addTo (chPlace_mem (by decide))).post

theorem ch_faultLatched (hr : keysRise none s.pwm.chs = true) (c : Nat) : (s.faultLatched c).ch c = { s.ch c with fltLat := true } :=
  (ch_congr (by simp [State.faultLatched]) c).trans (ch_setCh_same hr c _)

theorem faultLatched_fields (c : Nat) (hk : keysRise none ((s.setCh c { s.ch c with fltLat := true }).raise (R.CH_STAT_DESAT c)).regs = true) :
    (s.faultLatched c).get (R.CH_STAT_DESAT c) = 1
      ∧ (s.faultLatched c).get (R.CH_FCNT_DESAT c) = (s.get (R.CH_FCNT_DESAT c) + 1) % 2 ^ (R.CH_FCNT_DESAT c).w := by
  have hraised : ((s.setCh c { s.ch c with fltLat := true }).raise (R.CH_STAT_DESAT c)).get (R.CH_FCNT_DESAT c) = s.get (R.CH_FCNT_DESAT c) :=
    ((Driven.refl (l := [32 * 0x14, 0x1000 + (32 * 0x1C + 1)]) s).setCh.raise ⟨chPlace_mem (by decide), by decide⟩).value _
      (chPlace_notMem (by decide))
  constructor
  · exact (get_put_other (key_ne_of_chPlace (l := [0x1000 + (32 * 0x20 + 0)]) (chPlace_notMem (by decide)) (chPlace_mem (by decide))) _ _).trans
      (get_raise_ch (by decide) _)
  · exact (get_put_same hk _ _).trans (by rw [hraised])

/-- A fault confirmed after a step that has written no field. -/
theorem confirmFault_shows (hserv : s.inService = true) (hready : PinsReady 0 s) (hstep : Stepped [] s u) (hkeeps : Keeps s u) :
    FaultConfirmed c s (u.confirmFault c) := by
  have hlatch := stepped_faultLatched hstep.rise c
  have hch := ch_faultLatched hstep.rise c
  obtain ⟨hdesat, hcount⟩ := faultLatched_fields c (hkeeps.setCh.raise.regsRise hserv)
  have hmoved := hlatch.settles (hstep.ready hready) (c / 2)
  obtain ⟨hdriven, hpwm, hinbox⟩ := pairFaulted_shows c ((u.faultLatched c).pairUpdate (c / 2))
  have hpins := ch_congr (congrArg PwmSt.chs hpwm) c
  have hevent : faultEventOf c ∈ (u.faultLatched c).flt.inbox := List.mem_append_right _ List.mem_cons_self
  have hfcnt : u.get (R.CH_FCNT_DESAT c) = s.get (R.CH_FCNT_DESAT c) := hstep.value _ (by simp)
  rw [confirmFault_eq]
  refine ⟨?_, ?_, ?_, ?_, ?_, fun hheld => ?_⟩
  · rw [hpins]
    exact (hmoved.fltLat c).trans (by rw [hch])
  · exact (hdriven.value _ (chPlace_notMem (by decide))).trans ((hmoved.value _ (chPlace_notMem (by decide))).trans hdesat)
  · exact hdriven.mem.trans (hmoved.mem.trans (hlatch.mem.trans hstep.mem))
  · exact (hdriven.value _ (chPlace_notMem (by decide))).trans ((hmoved.value _ (chPlace_notMem (by decide))).trans (hcount.trans (by rw [hfcnt])))
  · exact hinbox.inbox _ ((InboxKept.refl _).pairUpdate.inbox _ hevent nofun) nofun
  · rw [hpins]
    exact out_settled_low (hlatch.ready (hstep.ready hready)) (hlatch.held.trans (hstep.held.trans hheld)) (by simp [State.pinLow, hch])

/-! ### The input asserts, and blanking ends -/

theorem stepped_heldDrop (hr : keysRise none s.pwm.chs = true) (c : Nat) : Stepped [] s (s.heldDrop c) := .ite (Stepped.refl hr).setCh (.refl hr)

theorem ch_heldDrop (hr : keysRise none s.pwm.chs = true) (c : Nat) : ∃ heldLow, (s.heldDrop c).ch c = { s.ch c with heldLow } := by
  unfold State.heldDrop
  split
  · exact ⟨_, ch_setCh_same hr c _⟩
  · exact ⟨_, rfl⟩

/-- A channel's new state in a step that writes no field, with a held pin dropped. -/
theorem setCh_heldDrop_shows (hr : keysRise none s.pwm.chs = true) (c : Nat) (x : ChSt) : Stepped [] s ((s.setCh c x).heldDrop c)
    ∧ ∃ heldLow, ((s.setCh c x).heldDrop c).ch c = { x with heldLow } := by
  have hset : Stepped [] s (s.setCh c x) := (Stepped.refl hr).setCh
  obtain ⟨heldLow, hch⟩ := ch_heldDrop hset.rise c
  rw [ch_setCh_same hr] at hch
  exact ⟨hset.trans (stepped_heldDrop hset.rise c), heldLow, hch⟩

section
variable (hserv : s.inService = true) (hc : c < 16)
include hserv hc

theorem gdFltEffect_confirms (h : ((s.ch c).out && !(s.ch c).blanking || s.fellNow c && !(s.ch c).fellBlank && !s.on (R.CH_CTRL_EN c)) = true) :
    gdFltEffect c s = ((s.setCh c { s.ch c with fltIn := true }).heldDrop c).confirmFault c :=
  (if_pos (inService_chHere hserv hc)).trans (if_pos h)

theorem gdFltEffect_waits (h : ((s.ch c).out && !(s.ch c).blanking || s.fellNow c && !(s.ch c).fellBlank && !s.on (R.CH_CTRL_EN c)) = false) :
    gdFltEffect c s = ((s.setCh c { s.ch c with fltIn := true }).heldDrop c).pairUpdate (c / 2) :=
  (if_pos (inService_chHere hserv hc)).trans (if_neg (by simp [h]))

/-- A fault where the pin counts as high outside blanking. -/
theorem gdFltEffect_confirmed (hready : PinsReady 0 s)
    (h : ((s.ch c).out && !(s.ch c).blanking || s.fellNow c && !(s.ch c).fellBlank && !s.on (R.CH_CTRL_EN c)) = true) :
    FaultConfirmed c s (gdFltEffect c s) := by
  rw [gdFltEffect_confirms hserv hc h]
  exact confirmFault_shows hserv hready (setCh_heldDrop_shows hready.rise c _).1 (Keeps.refl s).setCh.heldDrop

/-- Elsewhere the assertion only stands at the input. -/
theorem gdFltEffect_unlatched (hready : PinsReady 0 s)
    (h : ((s.ch c).out && !(s.ch c).blanking || s.fellNow c && !(s.ch c).fellBlank && !s.on (R.CH_CTRL_EN c)) = false) {t : State}
    (ht : t = gdFltEffect c s) : (t.ch c).fltLat = (s.ch c).fltLat ∧ (t.ch c).fltIn = true ∧ t.mem = s.mem := by
  obtain ⟨hstep, _, hch⟩ := setCh_heldDrop_shows hready.rise c { s.ch c with fltIn := true }
  have hmoved := hstep.settles hready (c / 2)
  rw [ht, gdFltEffect_waits hserv hc h]
  exact ⟨(hmoved.fltLat c).trans (by rw [hch]), (hmoved.fltIn c).trans (by rw [hch]),
    hmoved.mem.trans hstep.mem⟩

/-- The sample at the end of blanking, on a pin that is high or has fallen on the same tick. -/
theorem blankEndEffect_confirmed (hready : PinsReady 0 s) (h : (s.ch c).blanking = true ∨ (s.fellNow c && (s.ch c).fellBlank) = true)
    (hhigh : ((s.ch c).out || s.fellNow c && (s.ch c).fellBlank) = true) : FaultConfirmed c s (blankEndEffect c true s) := by
  have heff : blankEndEffect c true s
      = ((s.setCh c { s.ch c with blanking := false, fellBlank := false, fltIn := true }).heldDrop c).confirmFault c := by
    have hends : (s.chHere c && ((s.ch c).blanking || s.fellNow c && (s.ch c).fellBlank)) = true := by
      rw [inService_chHere hserv hc, Bool.true_and, Bool.or_eq_true]
      exact h
    exact (if_pos hends).trans (if_pos hhigh)
  rw [heff]
  exact confirmFault_shows hserv hready (setCh_heldDrop_shows hready.rise c _).1 (Keeps.refl s).setCh.heldDrop

/-- A released input at the end of blanking. -/
theorem blankEndEffect_released (h : (s.ch c).blanking = true) :
    blankEndEffect c false s = s.setCh c { s.ch c with blanking := false, fellBlank := false, fltIn := false } := by
  have hends : (s.chHere c && ((s.ch c).blanking || s.fellNow c && (s.ch c).fellBlank)) = true := by
    rw [inService_chHere hserv hc, h]
    rfl
  exact (if_pos hends).trans (if_neg (by simp))

omit hserv hc in
theorem blankEndEffect_none (hb : (s.ch c).blanking = false) (hf : s.fellNow c = false ∨ (s.ch c).fellBlank = false) (asserted : Bool) :
    blankEndEffect c asserted s = s := by
  have hfell : (s.fellNow c && (s.ch c).fellBlank) = false := by simpa only [Bool.and_eq_false_iff] using hf
  exact if_neg (by simp [hb, hfell])

/-! ### FLT_CLR (R359) -/

theorem fltClrEffect_asserted : fltClrEffect c true s = s.setCh c { s.ch c with fltIn := true } :=
  (if_pos (inService_chHere hserv hc)).trans (if_neg (by simp))

theorem fltClrEffect_releases (hready : PinsReady 0 s) (h : (s.ch c).fltLat = true) {t : State} (ht : t = fltClrEffect c false s) :
    (t.ch c).fltLat = false ∧ (t.ch c).waitPer = s.on (R.CH_CTRL_EN c) ∧ t.mem = s.mem := by
  have heff : fltClrEffect c false s
      = (s.setCh c { s.ch c with fltIn := false, fltLat := false, waitPer := s.on (R.CH_CTRL_EN c) }).pairUpdate (c / 2) :=
    (if_pos (inService_chHere hserv hc)).trans (if_pos (by simp [h]))
  have hstep : Stepped [] s (s.setCh c { s.ch c with fltIn := false, fltLat := false, waitPer := s.on (R.CH_CTRL_EN c) }) :=
    (Stepped.refl hready.rise).setCh
  have hmoved := hstep.settles hready (c / 2)
  have hch := ch_setCh_same hready.rise c { s.ch c with fltIn := false, fltLat := false, waitPer := s.on (R.CH_CTRL_EN c) }
  rw [ht, heff]
  exact ⟨(hmoved.fltLat c).trans (by rw [hch]), (hmoved.waitPer c).trans (by rw [hch]),
    hmoved.mem⟩

/-! ## Gate supply (R361) -/

/-- The event of a low gate supply, whose cause lasts. -/
def supplyEventOf (c : Nat) : Event := { cls := .gdrv, unit := chUnit c, standing := true }

theorem gsLowEffect_falls (h : (s.ch c).supLow = false) : gsLowEffect c s
    = ((((s.setCh c { s.ch c with gs := false, supLow := true }).heldDrop c).pairUpdate (c / 2)).post (supplyEventOf c)).cond (R.CH_STAT_UV c) true :=
  if_pos (by rw [inService_chHere hserv hc, h]; rfl)

theorem gsLowEffect_again (h : (s.ch c).supLow = true) : gsLowEffect c s = s := by
  have hhere := inService_chHere hserv hc
  exact (if_neg (by simp [h])).trans (if_neg (by simp [hhere]))

omit hserv hc in
/-- A condition that has not stood raises its bit. -/
theorem get_cond_arises (h : s.conds = []) (c : Nat) : (s.cond (R.CH_STAT_UV c) true).get (R.CH_STAT_UV c) = 1 := by
  have hcond : s.cond (R.CH_STAT_UV c) true = State.raise (R.CH_STAT_UV c) { s with conds := addKey (R.CH_STAT_UV c).key s.conds } := by
    simp [State.cond, h]
  rw [hcond]
  exact get_raise_ch (by decide) _

theorem gsLowEffect_shows (hready : PinsReady 0 s) (h : (s.ch c).supLow = false) (hconds : s.conds = []) {t : State} (ht : t = gsLowEffect c s) :
    (t.ch c).supLow = true ∧ t.get (R.CH_STAT_UV c) = 1 ∧ supplyEventOf c ∈ t.flt.inbox ∧ (s.pwm.held = false → (t.ch c).out = false)
      ∧ t.mem = s.mem := by
  obtain ⟨hstep, _, hch⟩ := setCh_heldDrop_shows hready.rise c { s.ch c with gs := false, supLow := true }
  rw [ht, gsLowEffect_falls hserv hc h]
  generalize (s.setCh c { s.ch c with gs := false, supLow := true }).heldDrop c = u at hstep hch ⊢
  have hmoved := hstep.settles hready (c / 2)
  have hpins : (((u.pairUpdate (c / 2)).post (supplyEventOf c)).cond (R.CH_STAT_UV c) true).ch c = (u.pairUpdate (c / 2)).ch c :=
    ch_congr (by simp) c
  refine ⟨?_, ?_, ?_, fun hheld => ?_, ?_⟩
  · rw [hpins, hmoved.supLow, hch]
  · exact get_cond_arises (s := (u.pairUpdate (c / 2)).post (supplyEventOf c)) (hmoved.conds.trans (hstep.conds.trans hconds)) c
  · exact (InboxKept.refl _).cond.inbox _ (List.mem_append_right _ List.mem_cons_self) nofun
  · rw [hpins]
    exact out_settled_low (hstep.ready hready) (hstep.held.trans hheld) (by simp [State.pinLow, hch])
  · rw [State.cond_mem]
    exact hmoved.mem.trans hstep.mem

theorem gsHighEffect_shows (hready : PinsReady 0 s) {t : State} (ht : t = gsHighEffect c s) : (t.ch c).supLow = false ∧ (t.ch c).gs = true
    ∧ t.mem = s.mem ∧ ((s.ch c).supLow = true → s.on (R.CH_CTRL_EN c) = true → (t.ch c).waitPer = true) := by
  have heff : gsHighEffect c s = ((s.setCh c { s.ch c with
      gs := true, supLow := false, waitPer := (s.ch c).waitPer || (s.ch c).supLow && s.on (R.CH_CTRL_EN c) }).pairUpdate (c / 2)).cond
        (R.CH_STAT_UV c) false := if_pos (inService_chHere hserv hc)
  rw [ht, heff]
  have hch := ch_setCh_same hready.rise c { s.ch c with
    gs := true, supLow := false, waitPer := (s.ch c).waitPer || (s.ch c).supLow && s.on (R.CH_CTRL_EN c) }
  have hstep : Stepped [] s (s.setCh c { s.ch c with
    gs := true, supLow := false, waitPer := (s.ch c).waitPer || (s.ch c).supLow && s.on (R.CH_CTRL_EN c) }) := (Stepped.refl hready.rise).setCh
  generalize s.setCh c _ = u at hstep hch ⊢
  have hmoved := hstep.settles hready (c / 2)
  have hpins : ((u.pairUpdate (c / 2)).cond (R.CH_STAT_UV c) false).ch c = (u.pairUpdate (c / 2)).ch c := ch_congr (by simp) c
  rw [hpins, State.cond_mem]
  refine ⟨by rw [hmoved.supLow, hch], by rw [hmoved.gs, hch], hmoved.mem.trans hstep.mem, fun hlow hon => ?_⟩
  rw [hmoved.waitPer, hch]
  simp [hlow, hon]

end

end

end Sys2Proof.Machine
end

section
namespace Sys2Proof.Machine

/-! ## The hold latch and the page (R363 to R365, R369, R903) -/

section
variable {s : State}

/-- The page's refusal of a write, reported at L0 with its address (R732). -/
def pageRefusal (addr : Nat) : Event := { cls := .config, unit := 0x0900, req := .l0, aux := addr }

theorem config_pwmPage {addr : Nat} (h : addrUnit addr = 0x0900) (s : State) : pageRefusal addr ∈ (s.config addr).flt.inbox := by
  unfold State.config
  rw [h]
  exact List.mem_append_right _ (List.mem_singleton.mpr rfl)

section
variable (hserv : s.inService = true)
include hserv

theorem resumeEffect_refused (h : s.anyHalted = true ∨ s.openL3 = true) : resumeEffect s = s.config 0x90008 := by
  have hbarred : (s.anyHalted || s.openL3) = true := by rwa [Bool.or_eq_true]
  exact (if_pos (inService_drive hserv)).trans (if_pos hbarred)

omit hserv in
theorem resumeEffect_idle (hhalt : s.anyHalted = false) (hopen : s.openL3 = false) (hheld : s.pwm.held = false) : resumeEffect s = s := by
  simp [resumeEffect, hhalt, hopen, hheld]

/-- The latch opens: every channel that runs starts a period, and the pins follow (R364). -/
theorem resumeEffect_opens (hready : PinsReady 0 s) (hhalt : s.anyHalted = false) (hopen : s.openL3 = false) (hheld : s.pwm.held = true) :
    (resumeEffect s).pwm.held = false ∧ (resumeEffect s).mem = s.mem := by
  have heff : ∃ resumed, resumeEffect s = (forAll ((List.range 16).filter s.chRuns) State.periodBegin
      { s with pwm := { s.pwm with held := false, resumed } }).pinsUpdate := by
    refine ⟨_, (if_pos (inService_drive hserv)).trans ((if_neg ?_).trans (if_pos hheld))⟩
    simp [hhalt, hopen]
  obtain ⟨resumed, heff⟩ := heff
  have hopened : PinsReady 0 { s with pwm := { s.pwm with held := false, resumed } } := ⟨hready.rise, hready.below⟩
  rw [heff]
  generalize hu : ({ s with pwm := { s.pwm with held := false, resumed } } : State) = u at hopened ⊢
  have hstep : Stepped periodPlaces u (forAll ((List.range 16).filter s.chRuns) State.periodBegin u) :=
    forAll_induction (.refl hopened.rise) fun n _ _ hx => hx.trans (stepped_periodBegin hx.rise n)
  have hmoved := pinsMoved_pinsUpdate (hstep.ready hopened)
  subst hu
  exact ⟨hmoved.held.trans hstep.held, hmoved.mem.trans hstep.mem⟩

/-! ### ALL_OFF (R369) -/

/-- The place of EN. -/
def enablePlaces : List Nat := [0x1000 + (32 * 0 + 0)]

/-- One channel disabled, before the pins follow. -/
def State.chDisabled (c : Nat) (s : State) : State := (s.put (R.CH_CTRL_EN c) 0).setCh c { s.ch c with cmd := false, waitPer := false }

omit hserv in
theorem pwmAllOffEffect_eq (hup : s.up 9 = true) : pwmAllOffEffect s = (forAll (List.range 16) State.chDisabled s).pinsUpdate := if_pos hup

omit hserv in
theorem stepped_chDisabled (hr : keysRise none s.pwm.chs = true) (c : Nat) : Stepped enablePlaces s (s.chDisabled c) :=
  ((Stepped.refl hr).put (chPlace_mem (by decide))).setCh

omit hserv in
theorem ctrlKey_ne {c d : Nat} (h : c ≠ d) : (R.CH_CTRL_EN c).key ≠ (R.CH_CTRL_EN d).key := by
  simp only [Field.key, R.CH_CTRL_EN]
  omega

omit hserv in
/-- Every channel is disabled, and its command is 0. -/
theorem forAll_chDisabled (hr : keysRise none s.pwm.chs = true) (hk : keysRise none s.regs = true) : ∀ d ∈ List.range 16,
    (forAll (List.range 16) State.chDisabled s).get (R.CH_CTRL_EN d) = 0 ∧ ((forAll (List.range 16) State.chDisabled s).ch d).cmd = false := by
  refine forAll_reaches (Q := fun u => keysRise none u.pwm.chs = true ∧ keysRise none u.regs = true)
    (P := fun d u => u.get (R.CH_CTRL_EN d) = 0 ∧ (u.ch d).cmd = false) ⟨hr, hk⟩ (fun c u hu => ?_) (fun c u hu => ?_) fun d c u hne hu => ?_
  · exact ⟨(stepped_chDisabled hu.1 c).rise, regs_put_rise hu.2 (R.CH_CTRL_EN c) 0⟩
  · exact ⟨get_put_same hu.2 (R.CH_CTRL_EN c) 0, (congrArg ChSt.cmd (ch_setCh_same (s := u.put (R.CH_CTRL_EN c) 0) hu.1 c _) :)⟩
  · exact ⟨(get_put_other (ctrlKey_ne hne) 0 u).trans hu.1, (congrArg ChSt.cmd (ch_setCh_other hne _)).trans hu.2⟩

theorem pwmAllOffEffect_shows (hready : PinsReady 0 s) {t : State} (ht : t = pwmAllOffEffect s) :
    (∀ d, d < 16 → t.get (R.CH_CTRL_EN d) = 0 ∧ (t.ch d).cmd = false ∧ (s.pwm.held = false → (t.ch d).out = false)) ∧ t.mem = s.mem := by
  have hoff := forAll_chDisabled hready.rise (inService_regsRise hserv)
  have hstep : Stepped enablePlaces s (forAll (List.range 16) State.chDisabled s) :=
    forAll_induction (.refl hready.rise) fun n _ _ hx => hx.trans (stepped_chDisabled hx.rise n)
  have hready' := hstep.ready hready
  have hmoved := pinsMoved_pinsUpdate hready'
  rw [ht, pwmAllOffEffect_eq (inService_drive hserv)]
  refine ⟨fun d hd => ?_, hmoved.mem.trans hstep.mem⟩
  obtain ⟨hen, hcmd⟩ := hoff d (List.mem_range.mpr hd)
  refine ⟨(hmoved.value _ (chPlace_notMem (by decide))).trans hen, (hmoved.logic d).2.1.trans hcmd, fun hheld => ?_⟩
  refine out_pinsUpdate_unasked hready' (hstep.held.trans hheld) (fun k hk => ?_) d hd
  simp [State.chAsks, (hoff k (List.mem_range.mpr hk)).2]

/-! ### SAFE_LVL and XPAIR (R365, R825, R903) -/

theorem safeLvlEffect_refused {v : Nat} (h : bothHigh (s.get R.PWM_XPAIR_PAIR_EN) (v % 2 ^ 16) = true) : safeLvlEffect v s = s.config 0x90044 :=
  (if_pos (inService_drive hserv)).trans (if_pos h)

theorem safeLvlEffect_taken {v : Nat} (hready : PinsReady 0 s) (h : bothHigh (s.get R.PWM_XPAIR_PAIR_EN) (v % 2 ^ 16) = false) :
    (safeLvlEffect v s).get R.PWM_SAFE_LVL_LVL = v % 2 ^ 16 ∧ (safeLvlEffect v s).mem = s.mem := by
  have heff : safeLvlEffect v s = (s.put R.PWM_SAFE_LVL_LVL v).pinsUpdate := (if_pos (inService_drive hserv)).trans (if_neg (Bool.eq_false_iff.mp h))
  have hmoved := pinsMoved_pinsUpdate (s := s.put R.PWM_SAFE_LVL_LVL v) ⟨hready.rise, hready.below⟩
  rw [heff]
  exact ⟨(hmoved.value _ (by decide)).trans (get_put_same (inService_regsRise hserv) _ _), hmoved.mem⟩

omit hserv in
theorem anyEnabled_false (h : ∀ d, d < 16 → s.on (R.CH_CTRL_EN d) = false) : (List.range 16).any (fun c => s.on (R.CH_CTRL_EN c)) = false :=
  List.any_eq_false.mpr fun d hd => by simp [h d (List.mem_range.mp hd)]

theorem xpairEffect_locked {c v : Nat} (hc : c < 16) (hon : s.on (R.CH_CTRL_EN c) = true) :
    xpairEffect v s = (s.raise R.PWM_STATUS_LOCKV).config 0x90040 :=
  (if_pos (inService_drive hserv)).trans (if_pos (List.any_eq_true.mpr ⟨c, List.mem_range.mpr hc, hon⟩))

theorem xpairEffect_refused {v : Nat} (hoff : ∀ d, d < 16 → s.on (R.CH_CTRL_EN d) = false)
    (h : bothHigh (v % 2 ^ 8) (s.get R.PWM_SAFE_LVL_LVL) = true) : xpairEffect v s = (s.put R.PWM_XPAIR_XDEAD (bits v 16 12)).config 0x90040 :=
  (if_pos (inService_drive hserv)).trans ((if_neg (Bool.eq_false_iff.mp (anyEnabled_false hoff))).trans (if_pos h))

theorem xpairEffect_taken {v : Nat} (hoff : ∀ d, d < 16 → s.on (R.CH_CTRL_EN d) = false)
    (h : bothHigh (v % 2 ^ 8) (s.get R.PWM_SAFE_LVL_LVL) = false) :
    xpairEffect v s = ((s.put R.PWM_XPAIR_PAIR_EN v).put R.PWM_XPAIR_XDEAD (bits v 16 12)).pinsUpdate :=
  (if_pos (inService_drive hserv)).trans ((if_neg (Bool.eq_false_iff.mp (anyEnabled_false hoff))).trans (if_neg (Bool.eq_false_iff.mp h)))

omit hserv in
theorem get_putXdead {u : State} (hk : keysRise none u.regs = true) (v : Nat) :
    (u.put R.PWM_XPAIR_XDEAD (bits v 16 12)).get R.PWM_XPAIR_XDEAD = v / 2 ^ 16 % 2 ^ 12 :=
  (get_put_same hk _ _).trans (Nat.mod_mod _ _)

theorem xpairEffect_shows {v : Nat} (hready : PinsReady 0 s) (hoff : ∀ d, d < 16 → s.on (R.CH_CTRL_EN d) = false)
    (h : bothHigh (v % 2 ^ 8) (s.get R.PWM_SAFE_LVL_LVL) = false) : (xpairEffect v s).get R.PWM_XPAIR_PAIR_EN = v % 2 ^ 8
      ∧ (xpairEffect v s).get R.PWM_XPAIR_XDEAD = v / 2 ^ 16 % 2 ^ 12 ∧ (xpairEffect v s).mem = s.mem := by
  have hk := inService_regsRise hserv
  have hmoved := pinsMoved_pinsUpdate (s := (s.put R.PWM_XPAIR_PAIR_EN v).put R.PWM_XPAIR_XDEAD (bits v 16 12)) ⟨hready.rise, hready.below⟩
  rw [xpairEffect_taken hserv hoff h]
  exact ⟨(hmoved.value _ (by decide)).trans ((get_put_other (by decide) _ _).trans (get_put_same hk _ _)),
    (hmoved.value _ (by decide)).trans (get_putXdead (regs_put_rise hk _ _) v), hmoved.mem⟩

end

end

/-! ## The statement of the faults and of the page -/

/-- Settles O38: a confirmed fault is `confirmFault_shows`, wherever it comes from; the input, the gate supply, the latch and the page's writes
are each said by their own lemma, with the pins following as in O37. -/
theorem pwmFaultsAndHold : Obligations.PwmFaultsAndHold := by
  intro s c hserv hc hrise hearly
  have hready := pinsReady_of_earlier hrise hearly
  have hclr : ∀ b, exec (.fltClr c b) s = .next (fltClrEffect c b s) := fun b =>
    congrArg Host.Outcome.next (commanded_chPage hserv hc (o := 0) (by decide) _)
  have hresume : exec .resume s = .next (resumeEffect s) := congrArg Host.Outcome.next (commanded_pwmPage hserv (by decide) _)
  have halloff : exec .pwmAllOff s = .next (pwmAllOffEffect s) := congrArg Host.Outcome.next (commanded_pwmPage hserv (by decide) _)
  have hsafe : ∀ v, exec (.safeLvlWrite v) s = .next (safeLvlEffect v s) := fun v =>
    congrArg Host.Outcome.next (commanded_pwmPage hserv (by decide) _)
  have hxpair : ∀ v, exec (.xpairWrite v) s = .next (xpairEffect v s) := fun v =>
    congrArg Host.Outcome.next (commanded_pwmPage hserv (by decide) _)
  refine ⟨fun hout hblank => ⟨_, rfl, ?_⟩, fun hout hlow => ⟨_, rfl, ?_⟩, fun hfell hblank hon => ⟨_, rfl, ?_⟩,
    fun hblank hfell b => congrArg Host.Outcome.next (blankEndEffect_none hblank hfell b), fun hfell hblank => ⟨_, rfl, ?_⟩,
    fun hblank => ⟨⟨_, rfl, ?_⟩, fun hout => ⟨_, rfl, ?_⟩⟩, ⟨_, hclr true, ?_⟩,
    fun hlat => ⟨_, hclr false, fltClrEffect_releases hserv hc hready hlat rfl⟩,
    fun hsup hconds => ⟨_, rfl, gsLowEffect_shows hserv hc hready hsup hconds rfl⟩,
    fun hsup => congrArg Host.Outcome.next (gsLowEffect_again hserv hc hsup), ⟨_, rfl, gsHighEffect_shows hserv hc hready rfl⟩,
    fun hbarred => ⟨_, hresume, ?_⟩, fun hhalt hopen => ⟨_, hresume, ?_⟩, ⟨_, halloff, pwmAllOffEffect_shows hserv hready rfl⟩,
    fun v hv => ⟨_, hsafe v, ?_⟩, fun v hv => ⟨_, hsafe v, safeLvlEffect_taken hserv hready hv⟩,
    fun v hoff hv => ⟨_, hxpair v, xpairEffect_shows hserv hready hoff hv⟩, fun v hoff hv => ⟨_, hxpair v, ?_⟩,
    fun v hon => ⟨_, hxpair v, ?_⟩⟩
  · have h := gdFltEffect_confirmed hserv hc hready (by simp [hout, hblank])
    exact ⟨h.latched, h.desat, h.mem, h.count, h.event, h.low⟩
  · refine gdFltEffect_unlatched hserv hc hready ?_ rfl
    rcases hlow with h | h | h <;> simp [hout, h]
  · have h := gdFltEffect_confirmed hserv hc hready (by simp [hfell, hblank, hon])
    exact ⟨h.latched, h.desat, h.mem⟩
  · have h := blankEndEffect_confirmed hserv hc hready (.inr (by simp [hfell, hblank])) (by simp [hfell, hblank])
    exact ⟨h.latched, h.desat, h.mem⟩
  · rw [blankEndEffect_released hserv hc hblank]
    exact ⟨ch_setCh_same hrise c _, rfl, rfl, rfl⟩
  · have h := blankEndEffect_confirmed hserv hc hready (.inl hblank) (by simp [hout])
    exact ⟨h.latched, h.desat, h.mem, h.event⟩
  · rw [fltClrEffect_asserted hserv hc]
    exact ⟨ch_setCh_same hrise c _, rfl, rfl⟩
  · rw [resumeEffect_refused hserv hbarred]
    exact ⟨rfl, rfl, config_pwmPage (by decide) s⟩
  · cases hheld : s.pwm.held with
    | false =>
      rw [resumeEffect_idle hhalt hopen hheld]
      exact ⟨hheld, rfl, fun _ => rfl⟩
    | true =>
      obtain ⟨hopens, hmem⟩ := resumeEffect_opens hserv hready hhalt hopen hheld
      exact ⟨hopens, hmem, nofun⟩
  · rw [safeLvlEffect_refused hserv hv]
    exact ⟨rfl, rfl, config_pwmPage (by decide) s⟩
  · rw [xpairEffect_refused hserv hoff hv]
    exact ⟨get_put_other (by decide) _ s, get_putXdead (inService_regsRise hserv) v, rfl, config_pwmPage (by decide) _, rfl⟩
  · rw [xpairEffect_locked hserv hc hon]
    exact ⟨get_raise_same (by decide) (by decide) rfl s, get_raise_other (by decide) (by decide) s, get_raise_other (by decide) (by decide) s,
      State.raise_pwm _ _⟩

end Sys2Proof.Machine
end

section
namespace Sys2Proof.Machine

/-! ## Position interfaces: what their operations leave alone

As in the lanes' layer, a register key is told by its place in its page; the count of coalesced posts, which a posted flag moves, has a place that no
field of an interface has.
-/

section
variable {b n o lo w rst : Nat} {acc : Access} {l : List Nat}

theorem place_mem (h : b % 0x1000 = 0 ∧ 32 * o + lo < 0x20000 ∧ 32 * o + lo ∈ l) :
    placeOf (⟨b + 0x1000 * n + o, lo, w, rst, acc⟩ : Field).key ∈ l := by
  obtain ⟨hb, ho, hl⟩ := h
  rwa [placeOf_page ⟨hb, ho⟩]

theorem place_notMem (h : b % 0x1000 = 0 ∧ 32 * o + lo < 0x20000 ∧ 32 * o + lo ∉ l) :
    placeOf (⟨b + 0x1000 * n + o, lo, w, rst, acc⟩ : Field).key ∉ l := by
  obtain ⟨hb, ho, hl⟩ := h
  rwa [placeOf_page ⟨hb, ho⟩]

theorem key_ne_of_places {j k : Nat} (hj : placeOf j ∉ l) (hk : placeOf k ∈ l) : j ≠ k := fun e => hj (e ▸ hk)

end

/-- `PlacesKept l s₀ s`: in `s`, made from `s₀`, the fields at places outside `l` and the memory are what they were. -/
structure PlacesKept (l : List Nat) (s₀ s : State) : Prop where
  value : ∀ F : Field, placeOf F.key ∉ l → s.get F = s₀.get F
  mem : s.mem = s₀.mem

/-- The place of the count of coalesced posts. -/
def coalPlace : Nat := placeOf R.SCHED_CNT_COAL_COUNT.key

/-- A post of flags moves the posts' targets, and of the registers the count of coalesced posts. -/
theorem postFlags_shape (f : Nat) (s : State) : ∃ regs sched loops adcs, s.postFlags f = { s with regs, sched, loops, adcs }
    ∧ ∀ G : Field, G.key ≠ R.SCHED_CNT_COAL_COUNT.key → (s.postFlags f).get G = s.get G := by
  by_cases hup : s.up 5 = true
  · obtain ⟨_, _, htasks, hget⟩ := postToTasks_shape f s
    obtain ⟨_, hloops⟩ := postToLoops_shape f (s.postToTasks f)
    obtain ⟨_, hadcs⟩ := postToAdcs_shape f ((s.postToTasks f).postToLoops f)
    have hregs : (s.postFlags f).regs = (s.postToTasks f).regs := by rw [postFlags_eq hup, hadcs, hloops]
    exact ⟨_, _, _, _, by rw [postFlags_eq hup, hadcs, hloops, htasks], fun G hG => (get_congr hregs).trans (hget G hG)⟩
  · rw [State.postFlags, if_neg hup]
    exact ⟨_, _, _, _, rfl, fun _ _ => rfl⟩

/-- Over a fenced link the sender counts the discarded post instead. -/
theorem postFlagFrom_shape (g j : Nat) (s : State) : ∃ regs host sched loops adcs, s.postFlagFrom g j = { s with regs, host, sched, loops, adcs }
    ∧ ∀ G : Field, G.key ≠ R.SCHED_CNT_COAL_COUNT.key → (s.postFlagFrom g j).get G = s.get G := by
  unfold State.postFlagFrom State.overLink
  split
  · exact ⟨_, _, _, _, _, rfl, fun _ _ => rfl⟩
  · obtain ⟨_, _, _, _, hshape, hget⟩ := postFlags_shape (2 ^ j) s
    exact ⟨_, _, _, _, _, hshape, hget⟩

section
variable {l m : List Nat} {s₀ s t : State}

theorem PlacesKept.refl (s : State) : PlacesKept l s s := ⟨fun _ _ => rfl, rfl⟩

theorem PlacesKept.trans (h : PlacesKept l s₀ s) (k : PlacesKept l s t) : PlacesKept l s₀ t :=
  ⟨fun F hF => (k.value F hF).trans (h.value F hF), k.mem.trans h.mem⟩

theorem PlacesKept.mono (h : PlacesKept l s₀ s) (hlm : l ⊆ m) : PlacesKept m s₀ s := ⟨fun F hF => h.value F fun hl => hF (hlm hl), h.mem⟩

/-- A field of a page at another place is kept. -/
theorem PlacesKept.page {b n o lo w rst : Nat} {acc : Access} (h : PlacesKept l s₀ s)
    (hF : b % 0x1000 = 0 ∧ 32 * o + lo < 0x20000 ∧ 32 * o + lo ∉ l) :
    s.get ⟨b + 0x1000 * n + o, lo, w, rst, acc⟩ = s₀.get ⟨b + 0x1000 * n + o, lo, w, rst, acc⟩ := h.value _ (place_notMem hF)

theorem PlacesKept.ite {c : Prop} [Decidable c] (hs : PlacesKept l s₀ s) (ht : PlacesKept l s₀ t) : PlacesKept l s₀ (if c then s else t) := by
  split <;> assumption

theorem PlacesKept.put {F : Field} {v : Nat} (h : PlacesKept l s₀ s) (hF : placeOf F.key ∈ l) : PlacesKept l s₀ (s.put F v) :=
  ⟨fun G hG => (get_put_other (key_ne_of_places hG hF) v s).trans (h.value G hG), h.mem⟩

theorem PlacesKept.raise {F : Field} (h : PlacesKept l s₀ s) (hF : placeOf F.key ∈ l) (hirq : 32 * 0x14 ∈ l) : PlacesKept l s₀ (s.raise F) :=
  ⟨fun G hG => (get_raise_other (key_ne_of_places hG hF) (key_ne_of_places hG (by rwa [placeOf_irqStat])) s).trans (h.value G hG),
    (State.raise_mem _ _).trans h.mem⟩

theorem PlacesKept.setPos {i : Nat} {x : PosSt} (h : PlacesKept l s₀ s) : PlacesKept l s₀ (s.setPos i x) := ⟨h.value, h.mem⟩

theorem PlacesKept.event {c : FaultClass} {unit aux : Nat} (h : PlacesKept l s₀ s) : PlacesKept l s₀ (s.event c unit aux) := ⟨h.value, h.mem⟩

theorem PlacesKept.postFlagFrom {g j : Nat} (h : PlacesKept l s₀ s) (hl : coalPlace ∈ l) : PlacesKept l s₀ (s.postFlagFrom g j) := by
  obtain ⟨_, _, _, _, _, hshape, hget⟩ := postFlagFrom_shape g j s
  exact ⟨fun G hG => (hget G (key_ne_of_places hG hl)).trans (h.value G hG), by rw [hshape]; exact h.mem⟩

end

theorem postFlagFrom_poss (g j : Nat) (s : State) : (s.postFlagFrom g j).poss = s.poss := by
  obtain ⟨_, _, _, _, _, hshape, -⟩ := postFlagFrom_shape g j s
  rw [hshape]

/-! ### One interface -/

section
variable {s t : State} {i : Nat}

theorem pos_setPos_same (h : keysRise none s.poss = true) (i : Nat) (x : PosSt) : (s.setPos i x).pos i = x := tget_tset_same h i x

theorem pos_setPos_other {j : Nat} (h : j ≠ i) (x : PosSt) : (s.setPos i x).pos j = s.pos j := tget_tset_other h x

theorem pos_congr (h : t.poss = s.poss) (i : Nat) : t.pos i = s.pos i := by unfold State.pos; rw [h]

theorem poss_setPos_rise (h : keysRise none s.poss = true) (i : Nat) (x : PosSt) : keysRise none (s.setPos i x).poss = true := keysRise_tset h i x

theorem posUp_present (h : s.posUp i = true) : s.variant.hasPos = true ∧ i < 2 := by
  simp only [State.posUp, Bool.and_eq_true, decide_eq_true_eq] at h
  exact h.1

theorem inService_posHere (hserv : s.inService = true) (hup : s.posUp i = true) : s.posHere i = true := by
  obtain ⟨hvar, hi⟩ := posUp_present hup
  simp [State.posHere, hvar, hi, inService_drive hserv]

/-- A write with an action of its own to the page of an interface that works, in service. -/
theorem commanded_posPage (hserv : s.inService = true) (hup : s.posUp i = true) {o : Nat} (ho : o < 0x1000) (f : State → State) :
    s.commanded (0x91000 + o + 0x1000 * i) f = f s := by
  obtain ⟨hvar, hi⟩ := posUp_present hup
  have hpage : (0x91000 + o + 0x1000 * i) / 0x1000 = 0x91 ∨ (0x91000 + o + 0x1000 * i) / 0x1000 = 0x92 := by omega
  refine commanded_inService hserv (g := 9) ?_ (inService_drive hserv) ?_ f
  · rcases hpage with hp | hp <;> simp [pageGlade, hp]
  · rcases hpage with hp | hp <;> simp [pageAbsent, hp, hvar]

theorem commanded_posCtrl (hserv : s.inService = true) (hup : s.posUp i = true) (f : State → State) :
    s.commanded (0x91008 + 0x1000 * i) f = f s := commanded_posPage hserv hup (o := 0x8) (by decide) f

end

end Sys2Proof.Machine
end

section
namespace Sys2Proof.Machine

/-! ## Compare and emulated encoder (R395 to R398) -/

section
variable {s s₀ : State} {i : Nat}

/-- A firing compare shows its bit and its time. -/
def State.posStamped (i : Nat) (s : State) : State := (s.raise (R.POS_STATUS_CMP i)).put (R.POS_CMP_TS_TS i) (tag32 s.nowNs)

/-- A firing compare posts its flag too, where it posts one. -/
def State.posFired (i : Nat) (s : State) : State :=
  if s.on (R.POS_CFG_POST_CMP i) then (s.posStamped i).postFlagFrom 9 (s.get (R.POS_CFG_CMP_EVT i)) else s.posStamped i

theorem posFire_eq (i : Nat) (s : State) :
    (s.posFire i).2 = if s.on (R.POS_CMP_CFG_CONT i) then s.posFired i else (s.posFired i).put (R.POS_STATUS_CMP_ARMED i) 0 := rfl

theorem posStamped_kept (i : Nat) (s : State) : PlacesKept [32 * 0xC + 3, 32 * 0x68, 32 * 0x14] s (s.posStamped i) :=
  ((PlacesKept.refl s).raise (place_mem (by decide)) (by decide)).put (place_mem (by decide))

theorem posFired_kept (i : Nat) (s : State) : PlacesKept [coalPlace] (s.posStamped i) (s.posFired i) :=
  .ite ((PlacesKept.refl _).postFlagFrom (by decide)) (.refl _)

theorem posFired_poss (i : Nat) (s : State) : (s.posFired i).poss = s.poss := by
  have hstamped : (s.posStamped i).poss = s.poss := State.raise_poss _ _
  unfold State.posFired
  split
  · rw [postFlagFrom_poss, hstamped]
  · exact hstamped

theorem posFire_poss (i : Nat) (s : State) : (s.posFire i).2.poss = s.poss := by
  rw [posFire_eq]
  split
  · exact posFired_poss i s
  · exact posFired_poss i s

theorem Keeps.posFired (h : Keeps s₀ s) : Keeps s₀ (s.posFired i) := h.raise.put.thenIf (·.postFlagFrom)

/-- What a compare that fires shows (R395). -/
theorem posFire_shows (hserv : s₀.inService = true) (h : Keeps s₀ s) (i : Nat) : (s.posFire i).2.get (R.POS_STATUS_CMP i) = 1
    ∧ (s.posFire i).2.get (R.POS_CMP_TS_TS i) = tag32 s.nowNs
    ∧ (s.posFire i).2.get (R.POS_STATUS_CMP_ARMED i) = if s.on (R.POS_CMP_CFG_CONT i) then s.get (R.POS_STATUS_CMP_ARMED i) else 0 := by
  have hposted := posFired_kept i s
  have hbit : (s.posFired i).get (R.POS_STATUS_CMP i) = 1 :=
    (hposted.page (by decide)).trans ((get_put_page (by decide) _ _).trans (get_raise_page_same (by decide) s))
  have htime : (s.posFired i).get (R.POS_CMP_TS_TS i) = tag32 s.nowNs :=
    (hposted.page (by decide)).trans ((get_put_same (h.raise.regsRise hserv) _ _).trans (Nat.mod_mod _ _))
  have harmed : (s.posFired i).get (R.POS_STATUS_CMP_ARMED i) = s.get (R.POS_STATUS_CMP_ARMED i) :=
    (hposted.page (by decide)).trans ((posStamped_kept i s).page (by decide))
  rw [posFire_eq]
  split
  · exact ⟨hbit, htime, harmed⟩
  · exact ⟨(get_put_page (by decide) _ _).trans hbit, (get_put_page (by decide) _ _).trans htime, get_put_same (h.posFired.regsRise hserv) _ 0⟩

end

/-- What a judged edge may write: CMP and its stamp, CMP_ARMED, IRQ_STAT and the count of coalesced posts. -/
def judgePlaces : List Nat := [32 * 0xC + 3, 32 * 0x68, 32 * 0xC + 11, 32 * 0x14, coalPlace]

/-- What the emulated encoder may write: EMU_STAT, EMU_OVF and IRQ_STAT. -/
def emuPlaces : List Nat := [32 * 0x74 + 16, 32 * 0x74, 32 * 0xC + 5, 32 * 0x14]

section
variable {s : State} {i : Nat} {b : CountBack}

theorem posJudge_fires (h : s.posFires i b = true) : ∃ x, s.posJudge i b = (s.posFire i).2.setPos i x := ⟨_, if_pos h⟩

theorem posJudge_kept (i : Nat) (b : CountBack) (s : State) : PlacesKept judgePlaces s (s.posJudge i b) := by
  have hfired : PlacesKept judgePlaces s (s.posFired i) :=
    ((posStamped_kept i s).mono (by decide)).trans ((posFired_kept i s).mono (by decide))
  have hfire : PlacesKept judgePlaces s (s.posFire i).2 := by
    rw [posFire_eq]
    exact .ite hfired (hfired.put (place_mem (by decide)))
  exact .ite hfire.setPos (PlacesKept.refl s).setPos

/-- Of the interfaces only the kept edge of its own moves. -/
theorem posJudge_poss (i : Nat) (b : CountBack) (s : State) : ∃ edge, (s.posJudge i b).poss = (s.setPos i { s.pos i with edge }).poss := by
  have hfire := posFire_poss i s
  unfold State.posJudge
  split
  · exact ⟨some { b with fire := some (s.posFire i).1 }, by simp only [State.setPos, pos_congr hfire, hfire]⟩
  · exact ⟨_, rfl⟩

theorem emuUpdate_kept (i : Nat) (s : State) : PlacesKept emuPlaces s (s.emuUpdate i) :=
  .ite (((PlacesKept.refl s).put (place_mem (by decide))).put (place_mem (by decide)))
    (((PlacesKept.refl s).put (place_mem (by decide))).put (place_mem (by decide)))

theorem emuUpdate_poss (i : Nat) (s : State) : (s.emuUpdate i).poss = s.poss := by
  unfold State.emuUpdate
  dsimp only
  split <;> rfl

theorem emuEdge_kept (i : Nat) (up : Bool) (s : State) : PlacesKept emuPlaces s (s.emuEdge i up) := by
  have hmoved : ∀ x, PlacesKept emuPlaces s ((s.setPos i x).emuUpdate i) := fun x =>
    (PlacesKept.refl s).setPos.trans (emuUpdate_kept i _)
  exact .ite (PlacesKept.ite ((hmoved _).raise (place_mem (by decide)) (by decide)).event (hmoved _)) (.refl s)

/-- Of its interface an edge moves the emulated encoder only. -/
theorem emuEdge_pos (h : keysRise none s.poss = true) (i : Nat) (up : Bool) :
    ∃ emuPos emuOut, (s.emuEdge i up).pos i = { s.pos i with emuPos, emuOut } := by
  unfold State.emuEdge
  split
  · extract_lets x r x1
    split
    · have hposs : ((((s.setPos i { x1 with emuOut := x1.target }).emuUpdate i).raise (R.POS_STATUS_EMU_OVF i)).event .pos (posUnit i) 0).poss
          = (s.setPos i { x1 with emuOut := x1.target }).poss := (State.raise_poss _ _).trans (emuUpdate_poss i _)
      exact ⟨_, _, (pos_congr hposs i).trans (pos_setPos_same h i _)⟩
    · exact ⟨_, _, (pos_congr (emuUpdate_poss i _) i).trans (pos_setPos_same h i _)⟩
  · exact ⟨_, _, rfl⟩

end

end Sys2Proof.Machine
end

section
namespace Sys2Proof.Machine

/-! ## Counted edges (R388 to R390, R393, R400) -/

section
variable {s s₀ : State} {i : Nat} {up : Bool} {w : PosWin}

theorem posResults_kept (i : Nat) (w : PosWin) (s : State) :
    PlacesKept [32 * 0x58, 32 * 0x58 + 31, 32 * 0x58 + 30, 32 * 0x58 + 29] s (s.posResults i w) :=
  ((((PlacesKept.refl s).setPos.put (place_mem (by decide))).put (place_mem (by decide))).put (place_mem (by decide))).put (place_mem (by decide))

theorem posResults_poss (i : Nat) (w : PosWin) (s : State) : (s.posResults i w).poss = (s.setPos i { s.pos i with
    win := { still := !w.counted }, ended := some (s.elapsed, w), speed := codeOf 32 (w.net * (s.get (R.POS_SPD_K_K i) : Nat)) }).poss := rfl

/-- What a window's end shows (R392, R415). -/
theorem posResults_shows (hserv : s₀.inService = true) (h : Keeps s₀ s) (i : Nat) (w : PosWin) :
    (s.posResults i w).get (R.POS_SPDNET_VALID i) = 1 ∧ (s.posResults i w).get (R.POS_SPDNET_START i) = b2n w.start
      ∧ (s.posResults i w).get (R.POS_SPDNET_REV i) = b2n w.rev := by
  have hbit : ∀ b : Bool, b2n b % 2 ^ 1 = b2n b := by decide
  have hnet := h.setPos (i := i) (x := { s.pos i with
    win := { still := !w.counted }, ended := some (s.elapsed, w), speed := codeOf 32 (w.net * (s.get (R.POS_SPD_K_K i) : Nat)) })
    |>.putS (F := R.POS_SPDNET_NET i) (i := w.net)
  refine ⟨?_, ?_, ?_⟩
  · exact (get_put_page (by decide) _ _).trans ((get_put_page (by decide) _ _).trans (get_put_same (hnet.regsRise hserv) _ 1))
  · exact (get_put_page (by decide) _ _).trans ((get_put_same (hnet.put.regsRise hserv) _ _).trans (hbit _))
  · exact (get_put_same (hnet.put.put.regsRise hserv) _ _).trans (hbit _)

theorem posInWindow_ended (h : (s.pos i).ended = some (s.elapsed, w)) : s.posInWindow i up = s.posResults i (w.count up (s.pos i).prev) := by
  simp [State.posInWindow, h]

theorem posInWindow_running (h : ∀ w, (s.pos i).ended ≠ some (s.elapsed, w)) :
    s.posInWindow i up = s.setPos i { s.pos i with win := (s.pos i).win.count up (s.pos i).prev } := by
  unfold State.posInWindow
  extract_lets x
  split
  · next t w hw => exact if_neg fun e => h w (hw.trans (by rw [e]))
  · rfl

theorem posInWindow_mem (i : Nat) (up : Bool) (s : State) : (s.posInWindow i up).mem = s.mem := by
  unfold State.posInWindow
  extract_lets x
  split
  · split
    · exact (posResults_kept i _ s).mem
    · rfl
  · rfl

theorem posInWindow_rise (h : keysRise none s.poss = true) (i : Nat) (up : Bool) : keysRise none (s.posInWindow i up).poss = true := by
  unfold State.posInWindow
  extract_lets x
  split
  · split
    · exact (congrArg (keysRise none) (posResults_poss i _ s)).trans (poss_setPos_rise h i _)
    · exact poss_setPos_rise h i _
  · exact poss_setPos_rise h i _

/-- A counted edge, before it is judged. -/
def State.posStep (i : Nat) (up : Bool) (s : State) : State :=
  ((((s.posInWindow i up).setPos i { (s.posInWindow i up).pos i with dir := some up, prev := some up }).put (R.POS_POS_COUNT i)
    (edgeOn up (s.get (R.POS_POS_COUNT i)))).put (R.POS_STATUS_MOVED i) 1).put (R.POS_STATUS_DIR i) (b2n !up)

/-- Without a CMP_POS write on its tick an edge is judged against CMP_POS. -/
theorem posCount_eq (h : s.cmpNow i = none) : ∃ b, s.posCount i up = ((s.posStep i up).posJudge i b).emuEdge i up := by
  unfold State.posCount
  rw [h]
  exact ⟨_, rfl⟩

theorem edgeOn_lt (up : Bool) (v : Nat) : edgeOn up v < 2 ^ 32 := codeOf_lt 32 _

theorem edgeOn_mod (up : Bool) (v : Nat) : edgeOn up v % 2 ^ 32 = edgeOn up v := Nat.mod_eq_of_lt (edgeOn_lt up v)

theorem posStep_shows (hserv : s.inService = true) (i : Nat) (up : Bool) :
    (s.posStep i up).get (R.POS_POS_COUNT i) = edgeOn up (s.get (R.POS_POS_COUNT i)) ∧ (s.posStep i up).get (R.POS_STATUS_MOVED i) = 1
      ∧ (s.posStep i up).get (R.POS_STATUS_DIR i) = b2n !up ∧ (s.posStep i up).mem = s.mem := by
  have hwin : Keeps s (s.posInWindow i up) := (Keeps.refl s).posInWindow
  refine ⟨?_, ?_, ?_, posInWindow_mem i up s⟩
  · exact (get_put_page (by decide) _ _).trans ((get_put_page (by decide) _ _).trans
      ((get_put_same (hwin.setPos.regsRise hserv) _ _).trans (edgeOn_mod up _)))
  · exact (get_put_page (by decide) _ _).trans (get_put_same (hwin.setPos.put.regsRise hserv) _ 1)
  · exact (get_put_same (hwin.setPos.put.put.regsRise hserv) _ _).trans (by cases up <;> rfl)

/-- What a counted edge shows, and what of its interface it leaves to the window. -/
theorem posCount_shows (hserv : s.inService = true) (hr : keysRise none s.poss = true) (hcmp : s.cmpNow i = none) {t : State}
    (ht : t = s.posCount i up) : t.get (R.POS_POS_COUNT i) = edgeOn up (s.get (R.POS_POS_COUNT i)) ∧ t.get (R.POS_STATUS_MOVED i) = 1
      ∧ t.get (R.POS_STATUS_DIR i) = b2n (!up) ∧ t.mem = s.mem
      ∧ ∃ edge emuPos emuOut, t.pos i = { (s.posInWindow i up).pos i with dir := some up, prev := some up, edge, emuPos, emuOut } := by
  obtain ⟨b, he⟩ := posCount_eq (up := up) hcmp
  obtain ⟨hcount, hmoved, hdir, hmem⟩ := posStep_shows hserv i up
  have hjudged := posJudge_kept i b (s.posStep i up)
  have hemu := emuEdge_kept i up ((s.posStep i up).posJudge i b)
  obtain ⟨edge, hedge⟩ := posJudge_poss i b (s.posStep i up)
  have hwin := posInWindow_rise hr i up
  have hstep : (s.posStep i up).pos i = { (s.posInWindow i up).pos i with dir := some up, prev := some up } := pos_setPos_same hwin i _
  have hrise : keysRise none (s.posStep i up).poss = true := poss_setPos_rise hwin i _
  obtain ⟨emuPos, emuOut, hpos⟩ := emuEdge_pos (s := (s.posStep i up).posJudge i b) (by rw [hedge]; exact poss_setPos_rise hrise i _) i up
  rw [ht, he]
  refine ⟨?_, ?_, ?_, hemu.mem.trans (hjudged.mem.trans hmem), edge, emuPos, emuOut, ?_⟩
  · exact (hemu.page (by decide)).trans ((hjudged.page (by decide)).trans hcount)
  · exact (hemu.page (by decide)).trans ((hjudged.page (by decide)).trans hmoved)
  · exact (hemu.page (by decide)).trans ((hjudged.page (by decide)).trans hdir)
  · rw [hpos, pos_congr hedge, pos_setPos_same hrise, hstep]

/-- An edge on the tick of a window's end belongs to the window that ends (R400). -/
theorem posCount_endsWindow (hserv : s.inService = true) (hr : keysRise none s.poss = true) (hcmp : s.cmpNow i = none)
    (hend : (s.pos i).ended = some (s.elapsed, w)) {t : State} (ht : t = s.posCount i up) : (t.pos i).win.net = 0
      ∧ (t.pos i).speed = codeOf 32 ((w.count up (s.pos i).prev).net * (s.get (R.POS_SPD_K_K i) : Nat)) := by
  obtain ⟨-, -, -, -, _, _, _, hpos⟩ := posCount_shows hserv hr hcmp ht
  have hposs := (congrArg State.poss (posInWindow_ended (up := up) hend)).trans (posResults_poss i _ s)
  have hwin := (pos_congr hposs i).trans (pos_setPos_same hr i _)
  exact ⟨by rw [hpos, hwin], by rw [hpos, hwin]⟩

/-- Any other edge counts in the window in progress (R392, R393). -/
theorem posCount_inWindow (hserv : s.inService = true) (hr : keysRise none s.poss = true) (hcmp : s.cmpNow i = none)
    (hend : ∀ w, (s.pos i).ended ≠ some (s.elapsed, w)) {t : State} (ht : t = s.posCount i up) :
    (t.pos i).win = (s.pos i).win.count up (s.pos i).prev ∧ (t.pos i).dir = some up ∧ (t.pos i).prev = some up := by
  obtain ⟨-, -, -, -, _, _, _, hpos⟩ := posCount_shows hserv hr hcmp ht
  have hwin := (congrArg (State.pos · i) (posInWindow_running (up := up) hend)).trans (pos_setPos_same hr i _)
  rw [hpos, hwin]
  exact ⟨rfl, rfl, rfl⟩

/-- An edge up reverses the window where the edge before it went down (R393). -/
theorem count_up_rev (w : PosWin) (prev : Option Bool) : (w.count true prev).rev = (w.rev || decide (prev = some false)) := by
  cases prev with
  | none => rfl
  | some d => cases d <;> rfl

end

/-! ### POS_COUNT_EDGE -/

section
variable {s : State} {i gap : Nat} {a b l : Bool} {e : PosEdge}

theorem posCountEdgeEffect_off (hon : s.on (R.POS_CTRL_EN i) = false) (hoff : (s.pos i).offAt ≠ some s.elapsed) :
    posCountEdgeEffect i a b l gap s = s := if_neg (by simp [hon, hoff])

/-- What an edge that is not counted shows (R389). -/
theorem posEdgeFault_shows (hk : keysRise none s.regs = true) {t : State} (ht : t = s.posEdgeFault i) :
    t.get (R.POS_POS_COUNT i) = s.get (R.POS_POS_COUNT i) ∧ t.poss = s.poss ∧ t.get (R.POS_STATUS_EDGE_FLT i) = 1
      ∧ t.get (R.POS_CNT_EDGE_FAULT i) = (s.get (R.POS_CNT_EDGE_FAULT i) + 1) % 2 ^ (R.POS_CNT_EDGE_FAULT i).w
      ∧ t.flt.inbox = s.flt.inbox ++ [{ cls := .pos, unit := posUnit i }] ∧ t.mem = s.mem := by
  subst ht
  refine ⟨?_, State.raise_poss _ _, get_raise_page_same (by decide) _, ?_, ?_, State.raise_mem _ _⟩
  · exact (get_raise_page (by decide) (by decide) _).trans (get_put_page (by decide) _ _)
  · exact (get_raise_page (by decide) (by decide) _).trans (get_put_same hk _ _)
  · exact congrArg (fun flt : FltSt => flt.inbox ++ [{ cls := .pos, unit := posUnit i }]) (State.raise_flt _ _)

section
variable (hup : s.posUp i = true) (hon : s.on (R.POS_CTRL_EN i) = true)
include hup hon

theorem posCountEdgeEffect_counts (hedge : posEdge (s.get (R.POS_CFG_MODE i)) (s.on (R.POS_CFG_DIR_INV i)) a b l = some .up)
    (hgap : s.get (R.POS_CFG_MIN_GAP i) ≤ gap) : posCountEdgeEffect i a b l gap s = s.posCount i true := by
  simp [posCountEdgeEffect, hup, hon, hedge, not_lt.mpr hgap]

theorem posCountEdgeEffect_faults (hedge : posEdge (s.get (R.POS_CFG_MODE i)) (s.on (R.POS_CFG_DIR_INV i)) a b l = some e)
    (h : e = .both ∨ gap < s.get (R.POS_CFG_MIN_GAP i)) : posCountEdgeEffect i a b l gap s = s.posEdgeFault i := by
  cases e with
  | both => simp [posCountEdgeEffect, hup, hon, hedge]
  | up => simp [posCountEdgeEffect, hup, hon, hedge, h.resolve_left nofun]
  | down => simp [posCountEdgeEffect, hup, hon, hedge, h.resolve_left nofun]

end

end

end Sys2Proof.Machine
end

section
namespace Sys2Proof.Machine

/-! ## Windows, enables and the emulated encoder's commands (R392, R393, R397) -/

section
variable {s : State} {i : Nat}

theorem posWindowEffect_off (hon : s.on (R.POS_CTRL_EN i) = false) : posWindowEffect i s = s := if_neg (by simp [hon])

/-- A window's results, with SPD_NEW. -/
def State.windowShown (i : Nat) (s : State) : State := (s.posResults i (s.pos i).win).raise (R.POS_STATUS_SPD_NEW i)

theorem posEnableEffect_on (hon : s.on (R.POS_CTRL_EN i) = true) : posEnableEffect i s = s := if_neg (by simp [hon])

/-- An interface whose EN goes to 1: a window begins with nothing counted and no direction (R392, R396). -/
def PosSt.restarted (x : PosSt) : PosSt := { x with win := {}, ended := none, dir := none, speed := 0, offAt := none }

/-- The fields that EN = 1 sets. -/
def enableFields (i : Nat) : List Field :=
  [R.POS_CTRL_EN i, R.POS_STATUS_MOVED i, R.POS_SPDNET_NET i, R.POS_SPDNET_VALID i, R.POS_SPDNET_START i, R.POS_SPDNET_REV i, R.POS_SPEED_SPD i]

/-- EN = 1 sets EN and clears the shown window. -/
def State.showEnabled (i : Nat) (s : State) : State := s.putAll ((enableFields i).zip [1, 0, 0, 0, 0, 0, 0])

theorem enableFields_places (i : Nat) : ((enableFields i).map Field.key).map placeOf
    = [32 * 0x8, 32 * 0xC + 8, 32 * 0x58, 32 * 0x58 + 31, 32 * 0x58 + 30, 32 * 0x58 + 29, 32 * 0x5C] := by
  simp (disch := decide) only [enableFields, List.map_cons, List.map_nil, R.POS_CTRL_EN, R.POS_STATUS_MOVED, R.POS_SPDNET_NET, R.POS_SPDNET_VALID,
    R.POS_SPDNET_START, R.POS_SPDNET_REV, R.POS_SPEED_SPD, placeOf_page, Nat.add_zero]

theorem enableFields_nodup (i : Nat) : ((enableFields i).map Field.key).Nodup :=
  List.Nodup.of_map placeOf (by rw [enableFields_places]; decide)

theorem showEnabled_poss (i : Nat) (s : State) : (s.showEnabled i).poss = s.poss := State.putAll_poss _ _

theorem showEnabled_shows (hk : keysRise none s.regs = true) (i : Nat) :
    (s.showEnabled i).get (R.POS_CTRL_EN i) = 1 ∧ (s.showEnabled i).get (R.POS_STATUS_MOVED i) = 0
      ∧ (s.showEnabled i).get (R.POS_SPDNET_VALID i) = 0 ∧ (s.showEnabled i).get (R.POS_POS_COUNT i) = s.get (R.POS_POS_COUNT i) := by
  have hset : ∀ {F : Field} {v : Nat}, (F, v) ∈ (enableFields i).zip [1, 0, 0, 0, 0, 0, 0] → (s.showEnabled i).get F = v % 2 ^ F.w :=
    get_putAll_zip_mem hk (enableFields_nodup i)
  refine ⟨hset (v := 1) (by simp [enableFields]), hset (v := 0) (by simp [enableFields]), hset (v := 0) (by simp [enableFields]),
    get_putAll_zip_other (fun hF => ?_) _⟩
  have hplace := List.mem_map_of_mem (f := placeOf) hF
  rw [enableFields_places] at hplace
  exact place_notMem (by decide) hplace

theorem emuEnableEffect_on (hon : s.on (R.POS_CTRL_EMU_EN i) = true) : emuEnableEffect i s = s := if_neg (by simp [hon])

theorem emuStepEffect_off (hon : s.on (R.POS_CTRL_EMU_EN i) = false) : emuStepEffect i s = s := if_neg (by simp [hon])

theorem quadState_lt (n : Int) : quadState n < 2 ^ 2 := by
  unfold quadState
  dsimp only
  split_ifs <;> decide

/-- While the emulation runs, QSTATE shows the output count. -/
theorem get_emuUpdate (hk : keysRise none s.regs = true) (hon : s.on (R.POS_CTRL_EMU_EN i) = true) :
    (s.emuUpdate i).get (R.POS_EMU_STAT_QSTATE i) = quadState (s.pos i).emuOut := by
  rw [State.emuUpdate, if_pos hon]
  exact (get_put_same (regs_put_rise hk _ _) _ _).trans (Nat.mod_eq_of_lt (quadState_lt _))

section
variable (hup : s.posUp i = true)
include hup

theorem posWindowEffect_on (hon : s.on (R.POS_CTRL_EN i) = true) : posWindowEffect i s
    = if (s.windowShown i).on (R.POS_CFG_POST_WIN i) then (s.windowShown i).postFlagFrom 9 ((s.windowShown i).get (R.POS_CFG_WIN_EVT i))
      else s.windowShown i := if_pos (by rw [hup, hon]; rfl)

theorem posEnableEffect_off (hon : s.on (R.POS_CTRL_EN i) = false) : posEnableEffect i s
    = (s.setPos i (s.pos i).restarted).showEnabled i := if_pos (by rw [hup, hon]; rfl)

theorem emuEnableEffect_off (hon : s.on (R.POS_CTRL_EMU_EN i) = false) : emuEnableEffect i s
    = ((s.put (R.POS_CTRL_EMU_EN i) 1).setPos i { s.pos i with emuPos := 0, emuOut := 0 }).emuUpdate i := if_pos (by rw [hup, hon]; rfl)

theorem emuStepEffect_up (hon : s.on (R.POS_CTRL_EMU_EN i) = true) (hlt : (s.pos i).emuOut < (s.pos i).target) :
    emuStepEffect i s = (s.setPos i { s.pos i with emuOut := (s.pos i).emuOut + 1 }).emuUpdate i := by
  simp [emuStepEffect, hup, hon, hlt, hlt.ne']

variable (hserv : s.inService = true) (hr : keysRise none s.poss = true)
include hserv hr

theorem posWindowEffect_shows (hon : s.on (R.POS_CTRL_EN i) = true) {t : State} (ht : t = posWindowEffect i s) :
    (t.pos i).win.net = 0 ∧ (t.pos i).speed = codeOf 32 ((s.pos i).win.net * (s.get (R.POS_SPD_K_K i) : Nat))
      ∧ t.get (R.POS_SPDNET_VALID i) = 1 ∧ t.get (R.POS_SPDNET_START i) = b2n (s.pos i).win.start
      ∧ t.get (R.POS_SPDNET_REV i) = b2n (s.pos i).win.rev ∧ t.get (R.POS_STATUS_SPD_NEW i) = 1 ∧ t.mem = s.mem := by
  obtain ⟨hvalid, hstart, hrev⟩ := posResults_shows hserv (.refl s) i (s.pos i).win
  have hposted : PlacesKept [coalPlace] (s.windowShown i) t := by
    rw [ht, posWindowEffect_on hup hon]
    exact .ite ((PlacesKept.refl _).postFlagFrom (by decide)) (.refl _)
  have hposs : t.poss = (s.windowShown i).poss := by
    rw [ht, posWindowEffect_on hup hon]
    split
    · exact postFlagFrom_poss _ _ _
    · rfl
  have hpos := (pos_congr (hposs.trans (State.raise_poss _ _)) i).trans ((pos_congr (posResults_poss i _ s) i).trans (pos_setPos_same hr i _))
  refine ⟨by rw [hpos], by rw [hpos], ?_, ?_, ?_, ?_, ?_⟩
  · exact (hposted.page (by decide)).trans ((get_raise_page (by decide) (by decide) _).trans hvalid)
  · exact (hposted.page (by decide)).trans ((get_raise_page (by decide) (by decide) _).trans hstart)
  · exact (hposted.page (by decide)).trans ((get_raise_page (by decide) (by decide) _).trans hrev)
  · exact (hposted.page (by decide)).trans (get_raise_page_same (by decide) _)
  · exact hposted.mem.trans ((State.raise_mem _ _).trans (posResults_kept i _ s).mem)

theorem posEnableEffect_shows (hon : s.on (R.POS_CTRL_EN i) = false) {t : State} (ht : t = posEnableEffect i s) :
    t.get (R.POS_CTRL_EN i) = 1 ∧ t.get (R.POS_STATUS_MOVED i) = 0 ∧ t.get (R.POS_SPDNET_VALID i) = 0 ∧ (t.pos i).win.net = 0
      ∧ (t.pos i).dir = none ∧ (t.pos i).prev = (s.pos i).prev ∧ t.get (R.POS_POS_COUNT i) = s.get (R.POS_POS_COUNT i) ∧ t.mem = s.mem := by
  obtain ⟨hen, hmoved, hvalid, hcount⟩ := showEnabled_shows (s := s.setPos i (s.pos i).restarted) (inService_regsRise hserv) i
  have hpos := (pos_congr (showEnabled_poss i (s.setPos i (s.pos i).restarted)) i).trans (pos_setPos_same hr i _)
  rw [ht, posEnableEffect_off hup hon, hpos]
  exact ⟨hen, hmoved, hvalid, rfl, rfl, rfl, hcount, State.putAll_mem _ _⟩

omit hserv in
theorem emuEnableEffect_shows (hon : s.on (R.POS_CTRL_EMU_EN i) = false) {t : State} (ht : t = emuEnableEffect i s) :
    t.get (R.POS_CTRL_EMU_EN i) = 1 ∧ (t.pos i).emuPos = 0 ∧ (t.pos i).emuOut = 0 ∧ t.mem = s.mem := by
  have hkept := emuUpdate_kept i ((s.put (R.POS_CTRL_EMU_EN i) 1).setPos i { s.pos i with emuPos := 0, emuOut := 0 })
  have hpos := (pos_congr (emuUpdate_poss i _) i).trans
    (pos_setPos_same (s := s.put (R.POS_CTRL_EMU_EN i) 1) hr i { s.pos i with emuPos := 0, emuOut := 0 })
  rw [ht, emuEnableEffect_off hup hon, hpos]
  exact ⟨(hkept.page (by decide)).trans (get_put_value (F := R.POS_CTRL_EMU_EN i) (v := 1) Nat.one_ne_zero), rfl, rfl, hkept.mem⟩

theorem emuStepEffect_shows (hon : s.on (R.POS_CTRL_EMU_EN i) = true) (hlt : (s.pos i).emuOut < (s.pos i).target) {t : State}
    (ht : t = emuStepEffect i s) : t.pos i = { s.pos i with emuOut := (s.pos i).emuOut + 1 }
      ∧ t.get (R.POS_EMU_STAT_QSTATE i) = quadState ((s.pos i).emuOut + 1) ∧ t.mem = s.mem := by
  have hown := pos_setPos_same hr i { s.pos i with emuOut := (s.pos i).emuOut + 1 }
  rw [ht, emuStepEffect_up hup hon hlt]
  exact ⟨(pos_congr (emuUpdate_poss i _) i).trans hown,
    (get_emuUpdate (s := s.setPos i _) (inService_regsRise hserv) hon).trans (congrArg (fun x => quadState x.emuOut) hown),
    (emuUpdate_kept i _).mem⟩

end

end

end Sys2Proof.Machine
end

section
namespace Sys2Proof.Machine

/-! ## Loads, arming and compare positions (R390, R391, R395, R396, R400) -/

section
variable {s : State} {i v : Nat} {b : CountBack}

/-! ### POS is loaded -/

theorem posLoad_alone (h : s.edgeNow i = none) : s.posLoad i v = s.put (R.POS_POS_COUNT i) v := by rw [State.posLoad, h]

theorem posLoad_edge (h : s.edgeNow i = some b) :
    s.posLoad i v = ((s.posUnfire i b).put (R.POS_POS_COUNT i) (edgeOn b.up v)).posJudge i { b with pos := v % 2 ^ 32 } := by rw [State.posLoad, h]

/-- An edge that has fired nothing leaves nothing to take back. -/
theorem posUnfire_none (h : b.fire = none) : s.posUnfire i b = s := by rw [State.posUnfire, h]

theorem Kept.unpostFlag {P : State → Prop} {f : FlagBack} (h : Kept AnyKey P s) : Kept AnyKey P (s.unpostFlag f) := by
  unfold State.unpostFlag
  extract_lets
  split
  · exact h
  · refine Kept.addTo (Kept.forAll (Kept.forAll (h.foldl fun {x n} hx => ?_) Kept.update) Kept.update)
    unfold State.modTask
    split
    · exact hx.setTask
    · exact hx

theorem Kept.posUnfire {P : State → Prop} (h : Kept AnyKey P s) : Kept AnyKey P (s.posUnfire i b) := by
  unfold State.posUnfire
  split
  · exact h
  · extract_lets s1
    have h1 : Kept AnyKey P s1 := by
      refine Kept.unraise ?_
      split
      · exact h.unpostFlag
      · exact h
    exact h1.put.put

theorem posUnfire_mem (i : Nat) (b : CountBack) (s : State) : (s.posUnfire i b).mem = s.mem :=
  (Kept.posUnfire ⟨frame_armMem s.arm s.mem, rfl, rfl⟩).holds.2

/-- A load on the edge of a count is counted on, and judged again. -/
theorem posLoad_edge_shows (hk : keysRise none (s.posUnfire i b).regs = true) (h : s.edgeNow i = some b) (v : Nat) :
    (s.posLoad i v).get (R.POS_POS_COUNT i) = edgeOn b.up v ∧ (s.posLoad i v).mem = s.mem := by
  have hjudged := posJudge_kept i { b with pos := v % 2 ^ 32 } ((s.posUnfire i b).put (R.POS_POS_COUNT i) (edgeOn b.up v))
  rw [posLoad_edge h]
  exact ⟨(hjudged.page (by decide)).trans ((get_put_same hk _ _).trans (edgeOn_mod b.up v)),
    hjudged.mem.trans (posUnfire_mem i b s)⟩

/-- Beside POS, a load on the edge of a count that has fired nothing writes what the judged edge may write. -/
theorem posLoad_edge_kept (h : s.edgeNow i = some b) (hfire : b.fire = none) (v : Nat) :
    PlacesKept (32 * 0x44 :: judgePlaces) s (s.posLoad i v) := by
  rw [posLoad_edge h, posUnfire_none hfire]
  exact ((PlacesKept.refl s).put (place_mem (by decide))).trans ((posJudge_kept i _ _).mono (by decide))

/-! ### An index edge -/

/-- POS before an index edge: what a count on the same edge has found (R400). -/
def State.indexBefore (s : State) (i : Nat) : Nat := match s.edgeNow i with | some b => b.pos | none => s.get (R.POS_POS_COUNT i)

/-- An index load, before INDEX and the count of index edges. -/
def State.indexLoaded (i : Nat) (s : State) : State :=
  (s.put (R.POS_IDX_POS_POS i) (s.indexBefore i)).posLoad i (s.get (R.POS_IDX_LOAD_VAL i))

/-- What an index edge writes after its load: INDEX, IRQ_STAT and the count. -/
def indexPlaces : List Nat := [32 * 0xC + 2, 32 * 0x14, 32 * 0x78]

theorem indexLoad_kept (i : Nat) (s : State) : PlacesKept indexPlaces (s.indexLoaded i) (s.indexLoad i) :=
  ((PlacesKept.refl (s.indexLoaded i)).raise (place_mem (by decide)) (by decide)).put (place_mem (by decide))

theorem indexLoad_index (i : Nat) (s : State) : (s.indexLoad i).get (R.POS_STATUS_INDEX i) = 1 :=
  (get_put_page (by decide) _ _).trans (get_raise_page_same (by decide) _)

theorem indexLoaded_alone (h : s.edgeNow i = none) : s.indexLoaded i
    = (s.put (R.POS_IDX_POS_POS i) (s.get (R.POS_POS_COUNT i))).put (R.POS_POS_COUNT i) (s.get (R.POS_IDX_LOAD_VAL i)) := by
  have hbefore : s.indexBefore i = s.get (R.POS_POS_COUNT i) := by rw [State.indexBefore, h]
  rw [State.indexLoaded, hbefore]
  exact posLoad_alone h

/-- An index load without a count on its edge (R391). -/
theorem indexLoad_alone_shows (hk : keysRise none s.regs = true) (h : s.edgeNow i = none) :
    (s.indexLoad i).get (R.POS_IDX_POS_POS i) = s.get (R.POS_POS_COUNT i) % 2 ^ 32
      ∧ (s.indexLoad i).get (R.POS_POS_COUNT i) = s.get (R.POS_IDX_LOAD_VAL i) % 2 ^ 32
      ∧ (s.indexLoad i).get (R.POS_STATUS_IDX_ARMED i) = s.get (R.POS_STATUS_IDX_ARMED i)
      ∧ (s.indexLoad i).poss = s.poss ∧ (s.indexLoad i).elapsed = s.elapsed ∧ (s.indexLoad i).mem = s.mem := by
  have hkept := indexLoad_kept i s
  have hposs : (s.indexLoad i).poss = (s.indexLoaded i).poss := State.raise_poss _ _
  have helapsed : (s.indexLoad i).elapsed = (s.indexLoaded i).elapsed := State.raise_elapsed _ _
  rw [indexLoaded_alone h] at hkept hposs helapsed
  refine ⟨?_, ?_, ?_, hposs, helapsed, hkept.mem⟩
  · exact (hkept.page (by decide)).trans ((get_put_page (by decide) _ _).trans (get_put_same hk _ _))
  · exact (hkept.page (by decide)).trans (get_put_same (regs_put_rise hk _ _) _ _)
  · exact (hkept.page (by decide)).trans ((get_put_page (by decide) _ _).trans (get_put_page (by decide) _ _))

/-- An index load before the count on its edge (R400). -/
theorem indexLoad_edge_shows (hk : keysRise none s.regs = true) (h : s.edgeNow i = some b) (hfire : b.fire = none) :
    (s.indexLoad i).get (R.POS_IDX_POS_POS i) = b.pos % 2 ^ 32
      ∧ (s.indexLoad i).get (R.POS_POS_COUNT i) = edgeOn b.up (s.get (R.POS_IDX_LOAD_VAL i)) ∧ (s.indexLoad i).mem = s.mem := by
  have hbefore : s.indexBefore i = b.pos := by rw [State.indexBefore, h]
  have hput := regs_put_rise hk (R.POS_IDX_POS_POS i) (s.indexBefore i)
  have hkept := indexLoad_kept i s
  have hload := posLoad_edge_kept (s := s.put (R.POS_IDX_POS_POS i) (s.indexBefore i)) h hfire (s.get (R.POS_IDX_LOAD_VAL i))
  obtain ⟨hcount, hmem⟩ := posLoad_edge_shows (s := s.put (R.POS_IDX_POS_POS i) (s.indexBefore i)) (by rwa [posUnfire_none hfire]) h
    (s.get (R.POS_IDX_LOAD_VAL i))
  refine ⟨?_, (hkept.page (by decide)).trans hcount, hkept.mem.trans hmem⟩
  exact (hkept.page (by decide)).trans ((hload.page (by decide)).trans
    ((get_put_same hk _ _).trans (congrArg (· % 2 ^ 32) hbefore)))

/-! ### POS_INDEX_EDGE -/

/-- An index edge loads: in mode 1, and in mode 2 while armed (R391). -/
abbrev IndexLoads (s : State) (i : Nat) : Prop :=
  s.get (R.POS_CFG_IDX_MODE i) = 1 ∨ s.get (R.POS_CFG_IDX_MODE i) = 2 ∧ s.on (R.POS_STATUS_IDX_ARMED i) = true

section
variable (hup : s.posUp i = true)
include hup

theorem posIndexEffect_ignored (h : s.get (R.POS_CFG_IDX_MODE i) = 0) : posIndexEffect i s = s.noteIndex i false := by
  simp [posIndexEffect, hup, h]

/-- After its load an index edge is noted; mode 2 takes the arming back. -/
theorem posIndexEffect_loads (h : IndexLoads s i) {t : State} (ht : t = posIndexEffect i s) : PlacesKept [32 * 0xC + 10] (s.indexLoad i) t
    ∧ t.poss = ((s.indexLoad i).noteIndex i true).poss
    ∧ (s.get (R.POS_CFG_IDX_MODE i) = 2 → t = ((s.indexLoad i).put (R.POS_STATUS_IDX_ARMED i) 0).noteIndex i true) := by
  subst ht
  rcases h with h | h
  · have he : posIndexEffect i s = (s.indexLoad i).noteIndex i true := by simp [posIndexEffect, hup, h]
    rw [he]
    exact ⟨(PlacesKept.refl _).setPos, rfl, fun h2 => absurd (h.symm.trans h2) (by decide)⟩
  · have he : posIndexEffect i s = ((s.indexLoad i).put (R.POS_STATUS_IDX_ARMED i) 0).noteIndex i true := by simp [posIndexEffect, hup, h]
    rw [he]
    exact ⟨((PlacesKept.refl _).put (place_mem (by decide))).setPos, rfl, fun _ => rfl⟩

/-- A load comes before the count of its own instant (R400). -/
theorem posIndexEffect_edge_shows (hserv : s.inService = true) (h : IndexLoads s i) (hedge : s.edgeNow i = some b) (hfire : b.fire = none)
    {t : State} (ht : t = posIndexEffect i s) : t.get (R.POS_IDX_POS_POS i) = b.pos % 2 ^ 32
      ∧ t.get (R.POS_POS_COUNT i) = edgeOn b.up (s.get (R.POS_IDX_LOAD_VAL i)) ∧ t.mem = s.mem := by
  obtain ⟨hkept, -⟩ := posIndexEffect_loads hup h ht
  obtain ⟨hpos, hcount, hmem⟩ := indexLoad_edge_shows (inService_regsRise hserv) hedge hfire
  exact ⟨(hkept.page (by decide)).trans hpos, (hkept.page (by decide)).trans hcount, hkept.mem.trans hmem⟩

theorem posIndexEffect_alone_shows (hserv : s.inService = true) (hr : keysRise none s.poss = true) (h : IndexLoads s i)
    (hedge : s.edgeNow i = none) {t : State} (ht : t = posIndexEffect i s) : t.get (R.POS_IDX_POS_POS i) = s.get (R.POS_POS_COUNT i) % 2 ^ 32
      ∧ t.get (R.POS_POS_COUNT i) = s.get (R.POS_IDX_LOAD_VAL i) % 2 ^ 32 ∧ t.get (R.POS_STATUS_INDEX i) = 1
      ∧ (s.get (R.POS_CFG_IDX_MODE i) = 2 → t.get (R.POS_STATUS_IDX_ARMED i) = 0) ∧ t.pos i = { s.pos i with idx := some (s.elapsed, true) }
      ∧ (∀ j, j ≠ i → t.pos j = s.pos j) ∧ t.mem = s.mem := by
  obtain ⟨hkept, hposs, hdisarms⟩ := posIndexEffect_loads hup h ht
  obtain ⟨hpos, hcount, -, hown, helapsed, hmem⟩ := indexLoad_alone_shows (inService_regsRise hserv) hedge
  refine ⟨(hkept.page (by decide)).trans hpos, (hkept.page (by decide)).trans hcount,
    (hkept.page (by decide)).trans (indexLoad_index i s), fun h2 => ?_, ?_, fun j hj => ?_, hkept.mem.trans hmem⟩
  · rw [hdisarms h2]
    exact get_put_same (s := s.indexLoad i) ((Keeps.refl s).indexLoad.regsRise hserv) (R.POS_STATUS_IDX_ARMED i) 0
  · rw [pos_congr hposs, State.noteIndex, pos_setPos_same (by rwa [hown]), pos_congr hown, helapsed]
  · rw [pos_congr hposs, State.noteIndex, pos_setPos_other hj, pos_congr hown]

end

/-! ### CMP_ARM, IDX_ARM and CMP_POS -/

theorem get_cmpArmed (i : Nat) (s : State) : (s.put (R.POS_STATUS_CMP_ARMED i) 1).get (R.POS_STATUS_CMP_ARMED i) = 1 :=
  get_put_value (F := R.POS_STATUS_CMP_ARMED i) (v := 1) Nat.one_ne_zero

/-- An armed compare in both directions fires at its position. -/
theorem posFires_armed (hcount : s.get (R.POS_POS_COUNT i) = b.cmp) (hdir : s.get (R.POS_CMP_CFG_CDIR i) = 0) :
    (s.put (R.POS_STATUS_CMP_ARMED i) 1).posFires i b = true := by
  have hcount' : (s.put (R.POS_STATUS_CMP_ARMED i) 1).get (R.POS_POS_COUNT i) = b.cmp := (get_put_page (by decide) _ _).trans hcount
  have hdir' : (s.put (R.POS_STATUS_CMP_ARMED i) 1).get (R.POS_CMP_CFG_CDIR i) = 0 := (get_put_page (by decide) _ _).trans hdir
  simp [State.posFires, State.on, get_cmpArmed, hcount', hdir']

section
variable (hhere : s.posHere i = true)
include hhere

theorem cmpArmEffect_alone (h : s.edgeNow i = none) : cmpArmEffect i s = s.put (R.POS_STATUS_CMP_ARMED i) 1 := by
  rw [cmpArmEffect, if_pos hhere, h]

theorem cmpArmEffect_edge (h : s.edgeNow i = some b) (hfire : b.fire = none) :
    cmpArmEffect i s = (s.put (R.POS_STATUS_CMP_ARMED i) 1).posJudge i b := by
  simp [cmpArmEffect, hhere, h, hfire]

/-- An arming on the edge of a crossing fires (R400). -/
theorem cmpArmEffect_shows (hserv : s.inService = true) (h : s.edgeNow i = some b) (hfire : b.fire = none)
    (hcount : s.get (R.POS_POS_COUNT i) = b.cmp) (hdir : s.get (R.POS_CMP_CFG_CDIR i) = 0) :
    (cmpArmEffect i s).get (R.POS_STATUS_CMP i) = 1 ∧ (cmpArmEffect i s).get (R.POS_CMP_TS_TS i) = tag32 s.nowNs
      ∧ (cmpArmEffect i s).get (R.POS_STATUS_CMP_ARMED i) = b2n (s.on (R.POS_CMP_CFG_CONT i)) ∧ (cmpArmEffect i s).mem = s.mem := by
  have hcont : (s.put (R.POS_STATUS_CMP_ARMED i) 1).on (R.POS_CMP_CFG_CONT i) = s.on (R.POS_CMP_CFG_CONT i) := on_congr (get_put_page (by decide) _ _)
  have hmem := (posJudge_kept i b (s.put (R.POS_STATUS_CMP_ARMED i) 1)).mem
  obtain ⟨x, hx⟩ := posJudge_fires (posFires_armed hcount hdir)
  obtain ⟨hbit, htime, hagain⟩ := posFire_shows hserv ((Keeps.refl s).put (F := R.POS_STATUS_CMP_ARMED i) (v := 1)) i
  rw [cmpArmEffect_edge hhere h hfire]
  rw [hcont, get_cmpArmed] at hagain
  rw [hx] at hmem ⊢
  refine ⟨hbit, htime, hagain.trans ?_, hmem⟩
  cases s.on (R.POS_CMP_CFG_CONT i) <;> rfl

/-- IDX_ARM arms where no index edge has come on its tick. -/
theorem idxArmEffect_alone (h : ∀ x, (s.pos i).idx ≠ some (s.elapsed, x)) : idxArmEffect i s = s.put (R.POS_STATUS_IDX_ARMED i) 1 := by
  have hnone : (s.pos i).idx.filter (fun e => decide (e.1 = s.elapsed)) = none :=
    Option.filter_eq_none_iff.mpr fun e he => by
      intro hat
      exact h e.2 (he.trans (by rw [← of_decide_eq_true hat]))
  rw [idxArmEffect, if_pos hhere, hnone]

/-- IDX_ARM on the tick of an index edge that has not loaded: the edge loads (R400). -/
theorem idxArmEffect_edge (h : (s.pos i).idx = some (s.elapsed, false)) (hmode : s.get (R.POS_CFG_IDX_MODE i) = 2) :
    idxArmEffect i s = (s.indexLoad i).noteIndex i true := by
  simp [idxArmEffect, hhere, h, hmode, Option.filter]

theorem posWriteEffect_eq (v : Nat) : posWriteEffect i v s = s.posLoad i v := if_pos hhere

end

/-! ### A compare position (R396) -/

/-- A position in CMP_POS, with BEHIND judged for it. -/
def State.cmpJudged (i v : Nat) (s : State) : State := (s.put (R.POS_CMP_POS_VAL i) v).judgeBehind i

theorem cmpPosEffect_eq (hhere : s.posHere i = true) (v : Nat) : ∃ cmpWas, cmpPosEffect i v s
    = (s.cmpJudged i v).setPos i { (s.cmpJudged i v).pos i with cmpWas } := ⟨_, if_pos hhere⟩

theorem cmpJudged_poss (i v : Nat) (s : State) : (s.cmpJudged i v).poss = s.poss := by
  unfold State.cmpJudged State.judgeBehind State.flagIf
  split
  · exact State.raise_poss _ _
  · rfl

theorem cmpJudged_mem (i v : Nat) (s : State) : (s.cmpJudged i v).mem = s.mem := by
  unfold State.cmpJudged State.judgeBehind State.flagIf
  split
  · exact State.raise_mem _ _
  · rfl

theorem get_cmpJudged_val (hk : keysRise none s.regs = true) (i v : Nat) : (s.cmpJudged i v).get (R.POS_CMP_POS_VAL i) = v % 2 ^ 32 :=
  (get_flagIf_page (by decide) (by decide) _ _).trans (get_put_same hk _ _)

/-- Counting up, a position is behind where POS has come to it or passed it. -/
theorem cmpJudged_up (hk : keysRise none s.regs = true) (h : (s.pos i).dir = some true) (v : Nat) : s.cmpJudged i v
    = (s.put (R.POS_CMP_POS_VAL i) v).flagIf (decide (signedOf 32 v ≤ s.getS (R.POS_POS_COUNT i))) (R.POS_STATUS_BEHIND i) := by
  have hval : (s.put (R.POS_CMP_POS_VAL i) v).getS (R.POS_CMP_POS_VAL i) = signedOf 32 v := by
    rw [State.getS, get_put_same hk]
    simp only [signedOf, R.POS_CMP_POS_VAL, Nat.mod_mod]
  have hcount : (s.put (R.POS_CMP_POS_VAL i) v).getS (R.POS_POS_COUNT i) = s.getS (R.POS_POS_COUNT i) :=
    congrArg (signedOf 32) (get_put_page (by decide) _ _)
  have hdir : ((s.put (R.POS_CMP_POS_VAL i) v).pos i).dir = some true := h
  rw [State.cmpJudged, State.judgeBehind, hdir, hval, hcount]
  rfl

theorem cmpPosEffect_shows (hserv : s.inService = true) (hhere : s.posHere i = true) (hr : keysRise none s.poss = true) {t : State}
    (ht : t = cmpPosEffect i v s) : t.get (R.POS_CMP_POS_VAL i) = v % 2 ^ 32 ∧ (∀ j, j ≠ i → t.pos j = s.pos j)
      ∧ (t.pos i).win = (s.pos i).win ∧ t.mem = s.mem
      ∧ ((s.pos i).dir = some true → signedOf 32 v ≤ s.getS (R.POS_POS_COUNT i) → t.get (R.POS_STATUS_BEHIND i) = 1)
      ∧ ((s.pos i).dir = some true → s.getS (R.POS_POS_COUNT i) < signedOf 32 v → RegsKeptBut [R.POS_CMP_POS_VAL i] s t) := by
  have hk := inService_regsRise hserv
  have hposs := cmpJudged_poss i v s
  obtain ⟨cmpWas, he⟩ := cmpPosEffect_eq hhere v
  have hregs : t.regs = (s.cmpJudged i v).regs := by rw [ht, he, State.setPos_regs]
  refine ⟨?_, fun j hj => ?_, ?_, ?_, fun hdir hle => ?_, fun hdir hlt G hG => ?_⟩
  · exact (get_congr hregs).trans (get_cmpJudged_val hk i v)
  · rw [ht, he, pos_setPos_other hj, pos_congr hposs]
  · rw [ht, he, pos_setPos_same (by rwa [hposs]), pos_congr hposs]
  · rw [ht, he]
    exact cmpJudged_mem i v s
  · rw [get_congr hregs, cmpJudged_up hk hdir, decide_eq_true hle]
    exact get_raise_page_same (by decide) _
  · rw [get_congr hregs, cmpJudged_up hk hdir, decide_eq_false (not_le.mpr hlt)]
    exact regsKeptBut_put _ v s G hG

end

end Sys2Proof.Machine
end

section
namespace Sys2Proof.Machine

/-! ## The statement of the position interfaces -/

/-- Settles O39: a counted edge as it moves POS (`posCount_shows`) and counts in its window (`posCount_endsWindow`, `posCount_inWindow`), or as a
fault (`posEdgeFault_shows`); a window's end, EN = 1 and the emulated encoder as their effects show them; the ties of R400 through the counted edge
that is kept: a load on its edge (`posLoad_edge_shows`, `posIndexEffect_edge_shows`) and an arming on it (`cmpArmEffect_shows`,
`idxArmEffect_edge`). -/
theorem positionCounting : Obligations.PositionCounting := by
  intro s i hserv hup hr
  have hk := inService_regsRise hserv
  have hhere := inService_posHere hserv hup
  have henable : exec (.posEnable i) s = .next (posEnableEffect i s) := congrArg Host.Outcome.next (commanded_posCtrl hserv hup _)
  have hemu : exec (.emuEnable i) s = .next (emuEnableEffect i s) := congrArg Host.Outcome.next (commanded_posCtrl hserv hup _)
  have harm : exec (.cmpArm i) s = .next (cmpArmEffect i s) := congrArg Host.Outcome.next (commanded_posCtrl hserv hup _)
  have hidx : exec (.idxArm i) s = .next (idxArmEffect i s) := congrArg Host.Outcome.next (commanded_posCtrl hserv hup _)
  have hwrite : ∀ v, exec (.posWrite i v) s = .next (s.posLoad i v) := fun v =>
    congrArg Host.Outcome.next ((commanded_posPage hserv hup (o := 0x44) (by decide) _).trans (posWriteEffect_eq hhere v))
  have hcmp : ∀ v, exec (.cmpPosWrite i v) s = .next (cmpPosEffect i v s) := fun v =>
    congrArg Host.Outcome.next (commanded_posPage hserv hup (o := 0x64) (by decide) _)
  refine ⟨fun hon => ⟨fun a b l gap hedge hgap hnow => ⟨fun w hend => ⟨_, rfl, ?_⟩, fun hend => ⟨_, rfl, ?_⟩⟩,
      fun a b l gap e hedge h => ⟨_, rfl, ?_⟩, ⟨_, rfl, posWindowEffect_shows hup hserv hr hon rfl⟩,
      henable.trans (congrArg Host.Outcome.next (posEnableEffect_on hon))⟩,
    fun hon => ⟨fun hoff a b l gap => congrArg Host.Outcome.next (posCountEdgeEffect_off hon hoff),
      congrArg Host.Outcome.next (posWindowEffect_off hon), ⟨_, henable, posEnableEffect_shows hup hserv hr hon rfl⟩⟩,
    fun hmode => ⟨_, rfl, ?_⟩,
    fun hmode => ⟨fun b hedge hfire => ⟨_, rfl, posIndexEffect_edge_shows hup hserv hmode hedge hfire rfl⟩,
      fun hedge => ⟨_, rfl, posIndexEffect_alone_shows hup hserv hr hmode hedge rfl⟩⟩,
    fun hedge => ⟨_, harm, ?_⟩, fun b hedge hfire hcount hdir => ⟨_, harm, cmpArmEffect_shows hhere hserv hedge hfire hcount hdir⟩,
    fun hfree => ⟨_, hidx, ?_⟩, fun hmissed hmode hedge => ⟨_, hidx, ?_⟩,
    fun v => ⟨fun hedge => ⟨_, hwrite v, ?_⟩,
      fun b hedge => ⟨_, hwrite v, posLoad_edge_shows ((Keeps.refl s).posUnfire.regsRise hserv) hedge v⟩,
      ⟨_, hcmp v, cmpPosEffect_shows hserv hhere hr rfl⟩⟩,
    fun hon => ⟨⟨_, hemu, emuEnableEffect_shows hup hr hon rfl⟩, congrArg Host.Outcome.next (emuStepEffect_off hon)⟩,
    fun hon => ⟨hemu.trans (congrArg Host.Outcome.next (emuEnableEffect_on hon)),
      fun hlt => ⟨_, rfl, emuStepEffect_shows hup hserv hr hon hlt rfl⟩⟩⟩
  · rw [posCountEdgeEffect_counts hup hon hedge hgap]
    obtain ⟨hcount, -, -, hmem, -⟩ := posCount_shows hserv hr hnow (up := true) rfl
    obtain ⟨hnet, hspeed⟩ := posCount_endsWindow hserv hr hnow hend (up := true) rfl
    exact ⟨hmem, hcount, hnet, hspeed⟩
  · rw [posCountEdgeEffect_counts hup hon hedge hgap]
    obtain ⟨hcount, hmoved, hdir, hmem, -⟩ := posCount_shows hserv hr hnow (up := true) rfl
    obtain ⟨hwin, hlast, hprev⟩ := posCount_inWindow hserv hr hnow hend (up := true) rfl
    exact ⟨hcount, hmoved, hdir, congrArg PosWin.net hwin, hlast, hprev, (congrArg PosWin.rev hwin).trans (count_up_rev _ _), hmem⟩
  · rw [posCountEdgeEffect_faults hup hon hedge h]
    exact posEdgeFault_shows hk rfl
  · rw [posIndexEffect_ignored hup hmode]
    exact ⟨rfl, rfl, pos_setPos_same hr i _, fun j hj => pos_setPos_other hj _⟩
  · rw [cmpArmEffect_alone hhere hedge]
    exact ⟨get_cmpArmed i s, regsKeptBut_put _ 1 s, rfl, rfl⟩
  · rw [idxArmEffect_alone hhere hfree]
    exact ⟨get_put_value (F := R.POS_STATUS_IDX_ARMED i) (v := 1) Nat.one_ne_zero, regsKeptBut_put _ 1 s, rfl, rfl⟩
  · obtain ⟨-, hcount, harmed, -, -, hmem⟩ := indexLoad_alone_shows hk hedge
    rw [idxArmEffect_edge hhere hmissed hmode]
    exact ⟨hcount, harmed, hmem⟩
  · rw [posLoad_alone hedge]
    exact ⟨get_put_same hk _ v, regsKeptBut_put _ v s, rfl, rfl⟩

end Sys2Proof.Machine
end

section
namespace Sys2Proof.Machine

/-! ## Converter cores: one core and the bits that show it (R424, R435, R441) -/

section
variable {s t : State} {c : Nat}

theorem adc_setAdc_same (h : keysRise none s.adcs = true) (c : Nat) (x : AdcSt) : (s.setAdc c x).adc c = x := tget_tset_same h c x

theorem adc_congr (h : t.adcs = s.adcs) (c : Nat) : t.adc c = s.adc c := by unfold State.adc; rw [h]

theorem adcs_setAdc_rise (h : keysRise none s.adcs = true) (c : Nat) (x : AdcSt) : keysRise none (s.setAdc c x).adcs = true := keysRise_tset h c x

theorem adcUp_lt (h : s.adcUp c = true) : c < 2 := by
  simp only [State.adcUp, Bool.and_eq_true, decide_eq_true_eq] at h
  exact h.1.1

/-- A write with an action of its own to CTRL of a core, in service. -/
theorem commanded_adcCtrl (hserv : s.inService = true) (hup : s.adcUp c = true) (f : State → State) : s.commanded (0x93008 + 0x1000 * c) f = f s := by
  have hc := adcUp_lt hup
  have hpage : (0x93008 + 0x1000 * c) / 0x1000 = 0x93 ∨ (0x93008 + 0x1000 * c) / 0x1000 = 0x94 := by omega
  refine commanded_inService hserv (g := 9) ?_ (inService_drive hserv) ?_ f
  · rcases hpage with hp | hp <;> simp [pageGlade, hp]
  · rcases hpage with hp | hp <;> simp [pageAbsent, hp]

/-- The spans of power are all that follows the core. -/
theorem AdcSt.power_eq (now : Nat) (x : AdcSt) : ∃ pwrAt pwrLog, x.power now = { x with pwrAt, pwrLog } := by
  unfold AdcSt.power
  split
  · split <;> exact ⟨_, _, rfl⟩
  · split <;> exact ⟨_, _, rfl⟩

end

/-! ### PWR, WAIT and BUSY -/

/-- Fields of a list, at places of `l`, take values. -/
theorem PlacesKept.putAll {l : List Nat} {s₀ s : State} {fs : List Field} {ws : List Nat} (h : PlacesKept l s₀ s)
    (hfs : (fs.map Field.key).map placeOf ⊆ l) : PlacesKept l s₀ (s.putAll (fs.zip ws)) :=
  ⟨fun G hG => (get_putAll_zip_other (fun hm => hG (hfs (List.mem_map_of_mem hm))) ws).trans (h.value G hG), (State.putAll_mem _ _).trans h.mem⟩

/-- The fields of STATUS that show a core, and what they show. -/
def shownFields (c : Nat) : List Field := [R.ADC_STATUS_PWR c, R.ADC_STATUS_WAIT c, R.ADC_STATUS_BUSY c]

/-- What PWR, WAIT and BUSY show of a core. -/
def AdcSt.shown (x : AdcSt) : List Nat := [b2n x.powered, b2n x.wait.isSome, b2n (x.run.isSome || x.fin.isSome || x.recal)]

/-- The places of PWR, WAIT and BUSY. -/
def shownPlaces : List Nat := [32 * 0xC + 10, 32 * 0xC + 9, 32 * 0xC + 8]

theorem shownFields_places (c : Nat) : ((shownFields c).map Field.key).map placeOf = shownPlaces := by
  simp (disch := decide) only [shownFields, List.map_cons, List.map_nil, R.ADC_STATUS_PWR, R.ADC_STATUS_WAIT, R.ADC_STATUS_BUSY, placeOf_page,
    shownPlaces]

theorem shownFields_nodup (c : Nat) : ((shownFields c).map Field.key).Nodup := List.Nodup.of_map placeOf (by rw [shownFields_places]; decide)

/-- `AdcShown c x s t`: of `s`, `t` has moved core `c` to `x`, up to the spans of power, and the fields that show it, and nothing else but cores. -/
structure AdcShown (c : Nat) (x : AdcSt) (s t : State) : Prop where
  core : ∃ pwrAt pwrLog, t.adc c = { x with pwrAt, pwrLog }
  pwr : t.get (R.ADC_STATUS_PWR c) = b2n x.powered
  wait : t.get (R.ADC_STATUS_WAIT c) = b2n x.wait.isSome
  busy : t.get (R.ADC_STATUS_BUSY c) = b2n (x.run.isSome || x.fin.isSome || x.recal)
  kept : PlacesKept shownPlaces s t
  shape : ∃ regs adcs, t = { s with regs, adcs }

section
variable {s t : State} {c : Nat} {x : AdcSt}

theorem AdcShown.mem (h : AdcShown c x s t) : t.mem = s.mem := h.kept.mem

theorem AdcShown.time (h : AdcShown c x s t) : t.time = s.time := by obtain ⟨_, _, rfl⟩ := h.shape; rfl

theorem AdcShown.elapsed (h : AdcShown c x s t) : t.elapsed = s.elapsed := by obtain ⟨_, _, rfl⟩ := h.shape; rfl

theorem AdcShown.flt (h : AdcShown c x s t) : t.flt = s.flt := by obtain ⟨_, _, rfl⟩ := h.shape; rfl

/-- The core as it stands after any look at a part that its spans of power have no share in. -/
theorem AdcShown.proj {α : Type} {f : AdcSt → α} (h : AdcShown c x s t) (hf : ∀ pwrAt pwrLog, f { x with pwrAt, pwrLog } = f x := by intros; rfl) :
    f (t.adc c) = f x := by
  obtain ⟨_, _, hcore⟩ := h.core
  rw [hcore, hf]

variable (hk : keysRise none s.regs = true) (hr : keysRise none s.adcs = true)

include hr in
theorem adcShow_rise : keysRise none (s.adcShow c).adcs = true := by
  have hadcs : (s.adcShow c).adcs = (s.setAdc c ((s.adc c).power s.elapsed)).adcs := State.putAll_adcs _ _
  rw [hadcs]
  exact adcs_setAdc_rise hr c _

include hk hr

theorem adcShow_shows (c : Nat) : AdcShown c (s.adc c) s (s.adcShow c) := by
  have hadc : (s.adcShow c).adc c = (s.adc c).power s.elapsed := (adc_congr (State.putAll_adcs _ _) c).trans (adc_setAdc_same hr c _)
  obtain ⟨pwrAt, pwrLog, hpower⟩ := AdcSt.power_eq s.elapsed (s.adc c)
  have heq : s.adcShow c = (s.setAdc c ((s.adc c).power s.elapsed)).putAll ((shownFields c).zip (s.adc c).shown) := by
    unfold State.adcShow
    rw [hpower]
    rfl
  have hset : ∀ {F : Field} {v : Nat}, (F, v) ∈ (shownFields c).zip (s.adc c).shown → (s.adcShow c).get F = v % 2 ^ F.w := by
    rw [heq]
    exact get_putAll_zip_mem (s := s.setAdc c _) hk (shownFields_nodup c)
  have hbit : ∀ b : Bool, b2n b % 2 ^ 1 = b2n b := by decide
  refine ⟨⟨pwrAt, pwrLog, hadc.trans hpower⟩, (hset ?_).trans (hbit _), (hset ?_).trans (hbit _), (hset ?_).trans (hbit _), ?_, ?_⟩
  · exact List.mem_cons_self
  · exact List.mem_cons_of_mem _ List.mem_cons_self
  · exact List.mem_cons_of_mem _ (List.mem_cons_of_mem _ List.mem_cons_self)
  · rw [heq]
    exact PlacesKept.putAll (s := s.setAdc c _) ⟨fun _ _ => rfl, rfl⟩ (shownFields_places c ▸ List.Subset.refl _)
  · exact ⟨_, _, rfl⟩

/-- A core that is replaced and then shown. -/
theorem setAdc_shows (c : Nat) (x : AdcSt) : AdcShown c x s ((s.setAdc c x).adcShow c) := by
  have h := adcShow_shows (s := s.setAdc c x) hk (adcs_setAdc_rise hr c x) c
  rw [adc_setAdc_same hr] at h
  obtain ⟨_, _, hshape⟩ := h.shape
  exact ⟨h.core, h.pwr, h.wait, h.busy, ⟨h.kept.value, h.kept.mem⟩, _, _, hshape⟩

/-- A request that starts now runs, and its first sample comes after its T_SU (R428, R429). -/
theorem adcStart_shows (c : Nat) (waited : Bool) (r : AdcReq) : AdcShown c { s.adc c with run := some { r with
      ts := (s.time + s.devOf (el (s.adcSetup c waited))) % 2 ^ 96, at_ := s.elapsed + el (s.adcSetup c waited) } } s (s.adcStart c waited r) :=
  setAdc_shows hk hr c _

end

end Sys2Proof.Machine
end

section
namespace Sys2Proof.Machine

/-! ## Triggers (R426 to R428, R437) -/

section
variable {s t : State} {c src k : Nat}

/-- A core as a trigger finds it: the trigger is noted, and a recalibration that has started on its edge is sent back. -/
def State.adcTaken (c src : Nat) (s : State) : State :=
  s.setAdc c { s.adc c with
    trigAt := some (s.elapsed, src)
    recal := (s.adc c).recal && decide ((s.adc c).recalAt ≠ s.elapsed)
    calDue := (s.adc c).calDue || (s.adc c).recal && decide ((s.adc c).recalAt = s.elapsed) }

/-- The request of a trigger starts, waits or is dropped. -/
def State.adcPlace (c src : Nat) (s : State) : State :=
  if (s.adc c).run.isNone && (s.adc c).wait.isNone && !(s.adc c).recal then
    s.adcStart c (decide ((s.adc c).endAt = some s.elapsed)) (s.adcReqNow c src)
  else if (s.adc c).wait.isNone then (s.setAdc c { s.adc c with wait := some (s.adcReqNow c src) }).adcShow c
  else s.adcOverrun c

theorem adcTrig_eq (c src : Nat) (s : State) : s.adcTrig c src = if (s.adc c).stopAt = some s.elapsed then s
    else if s.adcTwin c src then s.adcOverrun c else (s.adcTaken c src).adcPlace c src := rfl

theorem adcTrig_stopped (h : (s.adc c).stopAt = some s.elapsed) : s.adcTrig c src = s := if_pos h

theorem adcTrig_twin (hstop : (s.adc c).stopAt ≠ some s.elapsed) (h : (s.adc c).trigAt = some (s.elapsed, k)) (hne : k ≠ src) :
    s.adcTrig c src = s.adcOverrun c := by
  rw [adcTrig_eq, if_neg hstop, if_pos (by simp [State.adcTwin, h, hne])]

/-- A trigger that meets neither a STOP nor a trigger of the other kind on its edge. -/
abbrev TriggerTaken (s : State) (c src : Nat) : Prop :=
  (s.adc c).stopAt ≠ some s.elapsed ∧ ∀ k, (s.adc c).trigAt = some (s.elapsed, k) → k = src

theorem adcTrig_taken (h : TriggerTaken s c src) : s.adcTrig c src = (s.adcTaken c src).adcPlace c src := by
  obtain ⟨hstop, hkind⟩ := h
  have htwin : s.adcTwin c src = false := by
    unfold State.adcTwin
    split
    · next e k hk =>
      refine decide_eq_false fun ⟨he, hne⟩ => hne (hkind k ?_)
      rw [hk, he]
    · rfl
  rw [adcTrig_eq, if_neg hstop, htwin]
  rfl

theorem adc_adcTaken (hr : keysRise none s.adcs = true) (c src : Nat) : (s.adcTaken c src).adc c = { s.adc c with
    trigAt := some (s.elapsed, src)
    recal := (s.adc c).recal && decide ((s.adc c).recalAt ≠ s.elapsed)
    calDue := (s.adc c).calDue || (s.adc c).recal && decide ((s.adc c).recalAt = s.elapsed) } := adc_setAdc_same hr c _

/-- T_SU of a core on which nothing runs. -/
theorem adcSetup_idle (h : (s.adc c).run = none) (waited : Bool) :
    s.adcSetup c waited = if s.on (R.ADC_STATUS_CALD c) then (if waited then 200 else 1200) else 60000 := by
  simp [State.adcSetup, State.adcCald, h]

/-! ### An overrun -/

theorem adcOverrun_shape (c : Nat) (s : State) : ∃ regs host adcs, s.adcOverrun c = { s with regs, host, adcs } := by
  obtain ⟨_, _, _, hraise⟩ := raise_shape (R.ADC_STATUS_OVERRUN c) s
  unfold State.adcOverrun
  dsimp only
  rw [hraise]
  exact ⟨_, _, _, rfl⟩

theorem adcOverrun_adc (hr : keysRise none s.adcs = true) (c : Nat) : ∃ ovrAt, (s.adcOverrun c).adc c = { s.adc c with ovrAt } := by
  have hadcs : ((s.raise (R.ADC_STATUS_OVERRUN c)).addTo (R.ADC_CNT_OVR c) 1).adcs = s.adcs := State.raise_adcs _ _
  have hrise : keysRise none ((s.raise (R.ADC_STATUS_OVERRUN c)).addTo (R.ADC_CNT_OVR c) 1).adcs = true := by rwa [hadcs]
  exact ⟨_, adc_setAdc_same hrise c _⟩

/-- A dropped trigger is flagged and counted (R427). -/
theorem adcOverrun_shows (hserv : s.inService = true) (ht : t = s.adcOverrun c) : t.get (R.ADC_STATUS_OVERRUN c) = 1 ∧ t.mem = s.mem
    ∧ t.get (R.ADC_CNT_OVR c) = (s.get (R.ADC_CNT_OVR c) + 1) % 2 ^ (R.ADC_CNT_OVR c).w := by
  subst ht
  refine ⟨(get_put_page (by decide) _ _).trans (get_raise_page_same (by decide) s), State.raise_mem _ _, ?_⟩
  have hraised : (s.raise (R.ADC_STATUS_OVERRUN c)).get (R.ADC_CNT_OVR c) = s.get (R.ADC_CNT_OVR c) := get_raise_page (by decide) (by decide) s
  exact (get_put_same ((Keeps.refl s).raise.regsRise hserv) _ _).trans (by rw [hraised])

end

section
variable {s t : State} {c src : Nat} (hk : keysRise none s.regs = true) (hr : keysRise none s.adcs = true) (ht : t = s.adcTrig c src)
include hk hr ht

/-! ### What becomes of a trigger -/

/-- On an idle core its request starts. -/
theorem adcTrig_starts (h : TriggerTaken s c src) (hrun : (s.adc c).run = none) (hwait : (s.adc c).wait = none) (hcal : (s.adc c).recal = false) :
    (t.adc c).wait = none ∧ (t.adc c).trigs = (s.adc c).trigs ∧ t.get (R.ADC_STATUS_BUSY c) = 1 ∧ t.get (R.ADC_STATUS_PWR c) = 1 ∧ t.mem = s.mem
      ∧ ∃ r, (t.adc c).run = some r ∧ r.ch = s.get (R.ADC_REQ_CH c) ∧ r.raw = s.on (R.ADC_REQ_MODE c) ∧ r.count = s.get (R.ADC_REQ_COUNT c)
        ∧ r.bias = s.get (R.ADC_REQ_BIAS c)
        ∧ r.at_ = s.elapsed + (if s.on (R.ADC_STATUS_CALD c) then (if (s.adc c).endAt = some s.elapsed then 200 else 1200) else 60000) * 2 ^ 32
        ∧ r.ts = (s.time + s.devOf (r.at_ - s.elapsed)) % 2 ^ 96 := by
  have htaken := adc_adcTaken hr c src
  have hshown := adcStart_shows (s := s.adcTaken c src) hk (adcs_setAdc_rise hr c _) c
    (decide ((s.adc c).endAt = some s.elapsed)) ((s.adcTaken c src).adcReqNow c src)
  have hstarts : t = (s.adcTaken c src).adcStart c (decide ((s.adc c).endAt = some s.elapsed)) ((s.adcTaken c src).adcReqNow c src) := by
    rw [ht, adcTrig_taken h, State.adcPlace, htaken, if_pos (by simp [hrun, hwait, hcal])]
    rfl
  rw [adcSetup_idle (by rw [htaken]; exact hrun), htaken, ← hstarts] at hshown
  refine ⟨(hshown.proj (f := (·.wait))).trans hwait, hshown.proj (f := (·.trigs)), hshown.busy, hshown.pwr, hshown.mem, _, hshown.proj (f := (·.run)),
    rfl, rfl, rfl, rfl, ?_, ?_⟩
  · simp only [decide_eq_true_eq, el]
    rfl
  · exact (congrArg (fun d => (s.time + s.devOf d) % 2 ^ 96) (Nat.add_sub_cancel_left s.elapsed _)).symm

/-- On a core that runs a request or a recalibration it waits. -/
theorem adcTrig_waits (h : TriggerTaken s c src) (hbusy : (s.adc c).run ≠ none ∨ (s.adc c).recal = true ∧ (s.adc c).recalAt ≠ s.elapsed)
    (hwait : (s.adc c).wait = none) : (t.adc c).run = (s.adc c).run ∧ (t.adc c).wait = some { s.adcReq c with trig := s.elapsed, src := src }
      ∧ t.get (R.ADC_STATUS_WAIT c) = 1 ∧ t.mem = s.mem := by
  have htaken := adc_adcTaken hr c src
  have hidle : ((s.adc c).run.isNone && (s.adc c).wait.isNone && !((s.adc c).recal && decide ((s.adc c).recalAt ≠ s.elapsed))) = false := by
    obtain hrun | ⟨hcal, hedge⟩ := hbusy
    · simp [hrun]
    · simp [hcal, hedge]
  have hshown := setAdc_shows (s := s.adcTaken c src) hk (adcs_setAdc_rise hr c _) c
    { (s.adcTaken c src).adc c with wait := some ((s.adcTaken c src).adcReqNow c src) }
  have hwaits : t = ((s.adcTaken c src).setAdc c { (s.adcTaken c src).adc c with wait := some ((s.adcTaken c src).adcReqNow c src) }).adcShow c := by
    rw [ht, adcTrig_taken h, State.adcPlace, htaken, if_neg (by rw [hidle]; decide), if_pos (by rw [hwait]; rfl)]
  rw [← hwaits, htaken] at hshown
  exact ⟨hshown.proj (f := (·.run)), hshown.proj (f := (·.wait)), hshown.wait, hshown.mem⟩

omit hk in
/-- Where a request waits already it is dropped. -/
theorem adcTrig_overruns (h : TriggerTaken s c src) (hwait : (s.adc c).wait ≠ none) :
    t = (s.adcTaken c src).adcOverrun c ∧ (t.adc c).run = (s.adc c).run ∧ (t.adc c).wait = (s.adc c).wait := by
  have htaken := adc_adcTaken hr c src
  have hfull : (s.adc c).wait.isNone = false := by simpa [Option.isSome_iff_ne_none] using hwait
  have hdrops : t = (s.adcTaken c src).adcOverrun c := by
    rw [ht, adcTrig_taken h, State.adcPlace, htaken, if_neg (by simp [hfull]), if_neg (by rw [hfull]; decide)]
  have hrise : keysRise none (s.adcTaken c src).adcs = true := adcs_setAdc_rise hr c _
  obtain ⟨_, hadc⟩ := adcOverrun_adc hrise c
  rw [htaken, ← hdrops] at hadc
  exact ⟨hdrops, by rw [hadc], by rw [hadc]⟩

/-- Whatever becomes of a trigger, the last phase trigger, memory and device time stay. -/
theorem adcTrig_kept : (t.adc c).trigCyc = (s.adc c).trigCyc ∧ t.mem = s.mem ∧ t.time = s.time := by
  have hrise : keysRise none (s.adcTaken c src).adcs = true := adcs_setAdc_rise hr c _
  have htaken := congrArg AdcSt.trigCyc (adc_adcTaken hr c src)
  have hover : ∀ {u : State}, keysRise none u.adcs = true → ((u.adcOverrun c).adc c).trigCyc = (u.adc c).trigCyc
      ∧ (u.adcOverrun c).mem = u.mem ∧ (u.adcOverrun c).time = u.time := by
    intro u hu
    obtain ⟨_, hadc⟩ := adcOverrun_adc hu c
    obtain ⟨_, _, _, hshape⟩ := adcOverrun_shape c u
    exact ⟨by rw [hadc], by rw [hshape], by rw [hshape]⟩
  rw [ht, adcTrig_eq]
  split_ifs
  · exact ⟨rfl, rfl, rfl⟩
  · exact hover hr
  · unfold State.adcPlace
    split_ifs
    · have hshown := adcStart_shows (s := s.adcTaken c src) hk hrise c (decide (((s.adcTaken c src).adc c).endAt = some (s.adcTaken c src).elapsed))
        ((s.adcTaken c src).adcReqNow c src)
      exact ⟨(hshown.proj (f := (·.trigCyc))).trans htaken, hshown.mem, hshown.time⟩
    · have hshown := setAdc_shows (s := s.adcTaken c src) hk hrise c
        { (s.adcTaken c src).adc c with wait := some ((s.adcTaken c src).adcReqNow c src) }
      exact ⟨(hshown.proj (f := (·.trigCyc))).trans htaken, hshown.mem, hshown.time⟩
    · obtain ⟨hcyc, hmem, htime⟩ := hover hrise
      exact ⟨hcyc.trans htaken, hmem, htime⟩

end

/-! ### The commands that trigger a core -/

section
variable {s : State} {c src : Nat} {y : AdcSt} {d : Instr} (hserv : s.inService = true) (hup : s.adcUp c = true) (hr : keysRise none s.adcs = true)

include hserv hup hr in
/-- GO and the trigger of a posted flag trigger an enabled core alike; the second has taken the post from the core (R426). -/
theorem exec_adcTriggers (hd : d = .adcGo c ∧ src = 0 ∧ y = s.adc c
      ∨ d = .adcTrigger c ∧ s.get (R.ADC_TRIG_SRC c) = 1 ∧ src = 1 ∧ ∃ n, (s.adc c).trigs = n + 1 ∧ y = { s.adc c with trigs := n }) :
    ∃ adcs, keysRise none adcs = true ∧ State.adc { s with adcs } c = y
      ∧ exec d s = .next (if s.on (R.ADC_CTRL_EN c) then State.adcTrig c src { s with adcs } else s) := by
  rcases hd with ⟨rfl, rfl, rfl⟩ | ⟨rfl, hsrc, rfl, n, hn, rfl⟩
  · refine ⟨s.adcs, hr, rfl, congrArg Host.Outcome.next ((commanded_adcCtrl hserv hup _).trans ?_)⟩
    rw [adcGoEffect, hup, Bool.true_and]
  · refine ⟨_, adcs_setAdc_rise hr c { s.adc c with trigs := n }, adc_setAdc_same hr c _, congrArg Host.Outcome.next ?_⟩
    rw [adcTriggerEffect, hup, Bool.true_and, if_pos hsrc, hn]
    rfl

theorem exec_adcTrigger_unposted (hsrc : s.get (R.ADC_TRIG_SRC c) = 1) (hn : (s.adc c).trigs = 0) : exec (.adcTrigger c) s = .next s := by
  refine congrArg Host.Outcome.next ?_
  simp [adcTriggerEffect, hsrc, hn]

theorem exec_adcTrigger_phasePast (hsrc : s.get (R.ADC_TRIG_SRC c) = 2)
    (h : s.phaseDue (s.adc c).trigCyc (s.get (R.ADC_TRIG_PH c)) = false) : exec (.adcTrigger c) s = .next s := by
  refine congrArg Host.Outcome.next ?_
  simp [adcTriggerEffect, hsrc, h]

/-- Coming to an instant of the running cycle moves the two clocks only. -/
theorem reachOfs_shape (ofs : Nat) (s : State) : ∃ time elapsed, s.reachOfs ofs = { s with time, elapsed }
    ∧ time = (s.time + (s.arm.cycStart + ofs - s.cycTime)) % 2 ^ 96 := ⟨_, _, rfl, rfl⟩

/-- The clocks have come to phase `ph` of the running cycle, and the core has noted its trigger. -/
def State.adcPhased (c ph time elapsed : Nat) (s : State) : State :=
  State.setAdc c { s.adc c with trigCyc := some (s.arm.cycNo, ph) } { s with time, elapsed }

include hserv hup hr in
/-- The phase trigger is noted for its cycle, and device time comes to its instant (R426). -/
theorem adcTrigger_phase_shows (hsrc : s.get (R.ADC_TRIG_SRC c) = 2) (hon : s.on (R.ADC_CTRL_EN c) = true)
    (hph : s.get (R.ADC_TRIG_PH c) < s.get R.ARM_CYC_LEN_LEN) (h : s.phaseDue (s.adc c).trigCyc (s.get (R.ADC_TRIG_PH c)) = true) {t : State}
    (ht : t = adcTriggerEffect c s) : (t.adc c).trigCyc = some (s.arm.cycNo, s.get (R.ADC_TRIG_PH c)) ∧ t.mem = s.mem
      ∧ t.time = (s.time + (s.arm.cycStart + 10 * s.get (R.ADC_TRIG_PH c) * 2 ^ 32 - s.cycTime)) % 2 ^ 96 := by
  obtain ⟨time, elapsed, hreach, htime⟩ := reachOfs_shape (el (10 * s.get (R.ADC_TRIG_PH c))) s
  have heff : adcTriggerEffect c s = (s.adcPhased c (s.get (R.ADC_TRIG_PH c)) time elapsed).adcTrig c 2 := by
    simp [adcTriggerEffect, State.adcPhased, hup, hon, hsrc, hph, h, hreach]
  have hk : keysRise none (s.adcPhased c (s.get (R.ADC_TRIG_PH c)) time elapsed).regs = true := inService_regsRise hserv
  have hrise : keysRise none (s.adcPhased c (s.get (R.ADC_TRIG_PH c)) time elapsed).adcs = true := keysRise_tset hr c _
  obtain ⟨hcyc, hmem, hkept⟩ := adcTrig_kept hk hrise (ht.trans heff)
  exact ⟨hcyc.trans (congrArg AdcSt.trigCyc (tget_tset_same hr c _)), hmem, hkept.trans htime⟩

end

end Sys2Proof.Machine
end

section
namespace Sys2Proof.Machine

/-! ## The last sample of a request (R428, R434) -/

section
variable {s t : State} {c : Nat}

/-- The start-up of the first request moves the correction, the free values and CALD only. -/
theorem adcFirstCal_adcs (c : Nat) (s : State) : (s.adcFirstCal c).adcs = s.adcs
    ∨ ∃ ofs gain, (s.adcFirstCal c).adcs = (s.setAdc c { s.adc c with ofs, gain }).adcs := by
  unfold State.adcFirstCal
  split
  · exact .inl rfl
  · exact .inr ⟨_, _, rfl⟩

theorem adcFirstCal_rise (hr : keysRise none s.adcs = true) (c : Nat) : keysRise none (s.adcFirstCal c).adcs = true := by
  obtain h | ⟨_, _, h⟩ := adcFirstCal_adcs c s
  · rwa [h]
  · rw [h]
    exact adcs_setAdc_rise hr c _

theorem adcFirstCal_adc (hr : keysRise none s.adcs = true) (c : Nat) : ∃ ofs gain, (s.adcFirstCal c).adc c = { s.adc c with ofs, gain } := by
  obtain h | ⟨_, _, h⟩ := adcFirstCal_adcs c s
  · exact ⟨_, _, adc_congr h c⟩
  · exact ⟨_, _, (adc_congr h c).trans (adc_setAdc_same hr c _)⟩

theorem adcFirstCal_kept (c : Nat) (s : State) : (s.adcFirstCal c).mem = s.mem ∧ (s.adcFirstCal c).elapsed = s.elapsed := by
  unfold State.adcFirstCal
  split <;> exact ⟨rfl, rfl⟩

/-- After it the core is calibrated. -/
theorem on_adcFirstCal (c : Nat) (s : State) : (s.adcFirstCal c).on (R.ADC_STATUS_CALD c) = true := by
  unfold State.adcFirstCal
  split
  · assumption
  · exact decide_eq_true (ne_of_eq_of_ne (get_put_value (F := R.ADC_STATUS_CALD c) (v := 1) Nat.one_ne_zero) Nat.one_ne_zero)

/-- The core is free, or runs the request that has waited, whose first sample comes 0.2 µs later on a calibrated core. -/
theorem adcNext_shows (hk : keysRise none s.regs = true) (hr : keysRise none s.adcs = true) (c : Nat) :
    ∃ run, AdcShown c { s.adc c with run, wait := none } s (s.adcNext c) ∧ ((s.adc c).wait = none → run = (s.adc c).run)
      ∧ ∀ w, (s.adc c).wait = some w → s.on (R.ADC_STATUS_CALD c) = true → ∃ ts, run = some { w with ts, at_ := s.elapsed + el 200 } := by
  unfold State.adcNext
  split
  · next hwait =>
    have hsame : { s.adc c with wait := none } = s.adc c := by rw [← hwait]
    exact ⟨(s.adc c).run, hsame ▸ adcShow_shows hk hr c, fun _ => rfl, fun w hw => absurd (hwait.symm.trans hw) nofun⟩
  · next w hwait =>
    have hstart := adcStart_shows (s := s.setAdc c { s.adc c with wait := none }) hk (adcs_setAdc_rise hr c _) c true w
    rw [adc_setAdc_same hr] at hstart
    obtain ⟨_, _, hshape⟩ := hstart.shape
    refine ⟨_, ⟨hstart.core, hstart.pwr, hstart.wait, hstart.busy, ⟨hstart.kept.value, hstart.kept.mem⟩, _, _, hshape⟩,
      fun hnone => absurd (hnone.symm.trans hwait) nofun, fun w' hw' hcald => ?_⟩
    have hsetup : (s.setAdc c { s.adc c with wait := none }).adcSetup c true = 200 := if_pos (Bool.or_eq_true_iff.mpr (.inl hcald))
    cases hwait.symm.trans hw'
    rw [hsetup]
    exact ⟨_, rfl⟩

theorem adcLastEffect_idle (h : (s.adc c).run = none) : adcLastEffect c s = s := by rw [adcLastEffect, h]

/-- The last sample frees the core, whose burst is finished and which is calibrated; a waiting request starts (R428). -/
theorem adcLastEffect_shows (hserv : s.inService = true) (hup : s.adcUp c = true) (hr : keysRise none s.adcs = true) {r : AdcReq}
    (hrun : (s.adc c).run = some r) (ht : t = adcLastEffect c s) :
    (t.adc c).wait = none ∧ (t.adc c).fin = some r ∧ t.get (R.ADC_STATUS_CALD c) ≠ 0 ∧ t.mem = s.mem
      ∧ t.elapsed = max s.elapsed (r.at_ + 4 * r.count * 2 ^ 32) ∧ ((s.adc c).wait = none → (t.adc c).run = none)
      ∧ ∀ w, (s.adc c).wait = some w → ∃ q, (t.adc c).run = some q ∧ q.ch = w.ch ∧ q.raw = w.raw ∧ q.count = w.count ∧ q.bias = w.bias
        ∧ q.at_ = t.elapsed + 200 * 2 ^ 32 := by
  obtain ⟨u, hu⟩ : ∃ u, u = (s.pass r.lastAt).adcFirstCal c := ⟨_, rfl⟩
  have heff : t = (u.setAdc c { u.adc c with run := none, fin := some r, endAt := some u.elapsed }).adcNext c := by
    rw [ht, hu, adcLastEffect, hrun]
    exact if_pos hup
  have hrise : keysRise none (s.pass r.lastAt).adcs = true := by rwa [State.pass_adcs]
  have hurise : keysRise none u.adcs = true := hu ▸ adcFirstCal_rise hrise c
  have huk : keysRise none u.regs = true := hu ▸ (Keeps.refl s).pass.adcFirstCal.regsRise hserv
  have hcald : u.on (R.ADC_STATUS_CALD c) = true := hu ▸ on_adcFirstCal c _
  obtain ⟨hmem, helapsed⟩ := adcFirstCal_kept c (s.pass r.lastAt)
  rw [← hu] at hmem helapsed
  have hwait : (u.adc c).wait = (s.adc c).wait := by
    obtain ⟨_, _, hadc⟩ := adcFirstCal_adc hrise c
    rw [hu, hadc, adc_congr (State.pass_adcs _ _)]
  have hlast : u.elapsed = max s.elapsed (r.at_ + 4 * r.count * 2 ^ 32) := helapsed
  obtain ⟨run, hnext, hfree, hstart⟩ := adcNext_shows (s := u.setAdc c { u.adc c with run := none, fin := some r, endAt := some u.elapsed }) huk
    (adcs_setAdc_rise hurise c _) c
  rw [adc_setAdc_same hurise] at hnext hfree hstart
  rw [← heff] at hnext
  refine ⟨hnext.proj (f := (·.wait)), hnext.proj (f := (·.fin)), ?_, hnext.mem.trans hmem, hnext.elapsed.trans hlast, fun hnone => ?_, fun w hw => ?_⟩
  · rw [show t.get (R.ADC_STATUS_CALD c) = u.get (R.ADC_STATUS_CALD c) from hnext.kept.page (by decide)]
    exact of_decide_eq_true hcald
  · exact (hnext.proj (f := (·.run))).trans (hfree (hwait.trans hnone))
  · obtain ⟨_, hq⟩ := hstart w (hwait.trans hw) hcald
    exact ⟨_, (hnext.proj (f := (·.run))).trans hq, rfl, rfl, rfl, rfl, congrArg (· + 200 * 2 ^ 32) hnext.elapsed.symm⟩

end

end Sys2Proof.Machine
end

section
namespace Sys2Proof.Machine

/-! ## What the posts of a burst leave alone (R430) -/

/-- `PostKept s₀ s`: `s`, made from `s₀` by posts to the scheduler, has other values on the page of the scheduler only; memory, elapsed time and the
bursts whose results are due stay. -/
structure PostKept (s₀ s : State) : Prop where
  value : ∀ F : Field, F.key / 0x20000 ≠ 5 → s.get F = s₀.get F
  mem : s.mem = s₀.mem
  elapsed : s.elapsed = s₀.elapsed
  fin : ∀ c, (s.adc c).fin = (s₀.adc c).fin

section
variable {s₀ s : State}

theorem PostKept.refl (s : State) : PostKept s s := ⟨fun _ _ => rfl, rfl, rfl, fun _ => rfl⟩

/-- A field of a core's page is kept. -/
theorem PostKept.adcPage {c o lo w rst : Nat} {acc : Access} (h : PostKept s₀ s) :
    s.get ⟨0x93000 + 0x1000 * c + o, lo, w, rst, acc⟩ = s₀.get ⟨0x93000 + 0x1000 * c + o, lo, w, rst, acc⟩ :=
  h.value _ (by simp only [Field.key]; omega)

theorem PostKept.put {F : Field} {v : Nat} (h : PostKept s₀ s) (hF : F.key / 0x20000 = 5) : PostKept s₀ (s.put F v) :=
  ⟨fun G hG => (get_put_other (fun e => hG (by rw [e, hF])) v s).trans (h.value G hG), h.mem, h.elapsed, h.fin⟩

theorem PostKept.raise {F : Field} (h : PostKept s₀ s) (hF : F.key / 0x20000 = 5) (hirq : 32 * (pageOf F.addr + 0x14) / 0x20000 = 5) :
    PostKept s₀ (s.raise F) :=
  ⟨fun G hG => (get_raise_other (fun e => hG (by rw [e, hF])) (fun e => hG (by rw [e, hirq])) s).trans (h.value G hG),
    (State.raise_mem _ _).trans h.mem, (State.raise_elapsed _ _).trans h.elapsed,
    fun c => (congrArg AdcSt.fin (adc_congr (State.raise_adcs _ _) c)).trans (h.fin c)⟩

theorem PostKept.update {host : HostSt} {sched : SchedSt} {flt : FltSt} (h : PostKept s₀ s) : PostKept s₀ { s with host, sched, flt } :=
  ⟨h.value, h.mem, h.elapsed, h.fin⟩

/-- A filled operand moves the store, and MATCH_FILL with it. -/
theorem PostKept.fillOperand {k tag idx v : Nat} {x : TaskSt} (h : PostKept s₀ s) : PostKept s₀ (s.fillOperand k x tag idx v) := by
  have hfill : ∀ {u : State}, PostKept s₀ u → PostKept s₀ u.fillUpdate := fun hu => (hu.put (by decide)).put (by decide)
  unfold State.fillOperand
  dsimp only
  split
  · exact hfill (h.update.update : PostKept s₀ ((s.setFill _ _).setTask _ _))
  · exact hfill (h.update : PostKept s₀ (s.setFill _ _))

/-- Whatever the store makes of an operand. -/
theorem PostKept.postOperandAt {o : Stalled} (h : PostKept s₀ s) : PostKept s₀ (s.postOperandAt false o).1 := by
  have horphan : PostKept s₀ s.orphan := ((h.put (by decide)).raise (by decide) (by decide)).update
  have hfill : ∀ ops, PostKept s₀ (s.setFill o.tag ops) := fun _ => h.update
  have hstalls : ∀ l, PostKept s₀ (s.setStalls l) := fun _ => h.update
  unfold State.postOperandAt
  split
  · exact horphan
  · split
    · exact horphan
    · split
      · exact ((hfill _).put (F := R.SCHED_MATCH_CNT_DUP) (by decide)).raise (F := R.SCHED_STAT_DUP) (by decide) (by decide)
      · split
        · exact (hstalls _).raise (F := R.SCHED_STAT_MATCH_STALL) (by decide) (by decide)
        · exact h.fillOperand

theorem PostKept.overLink {a b : Nat} {f : State → State} (h : PostKept s₀ s) (hf : PostKept s₀ s → PostKept s₀ (f s)) :
    PostKept s₀ (s.overLink a b f) := by
  unfold State.overLink
  split
  · exact h.update
  · exact hf h

theorem PostKept.postOperandFrom {g tag idx v : Nat} (h : PostKept s₀ s) : PostKept s₀ (s.postOperandFrom g tag idx v) := by
  refine h.overLink fun h => ?_
  unfold State.postOperand
  split
  · exact h.postOperandAt
  · exact h

/-- A post of flags counts at most a trigger in a core. -/
theorem fin_postToAdc (f j c : Nat) (s : State) : ((s.postToAdc f j).adc c).fin = (s.adc c).fin := by
  unfold State.postToAdc
  split
  · by_cases hj : c = j
    · subst hj
      have hne : { s.adc c with trigs := (s.adc c).trigs + 1 } ≠ ({} : AdcSt) := fun e => absurd (congrArg AdcSt.trigs e) (Nat.succ_ne_zero _)
      exact (congrArg AdcSt.fin (tget_tset_value (t := s.adcs) hne c)).trans rfl
    · exact congrArg AdcSt.fin (tget_tset_other hj _)
  · rfl

theorem fin_postFlags (f c : Nat) (s : State) : ((s.postFlags f).adc c).fin = (s.adc c).fin := by
  by_cases hup : s.up 5 = true
  · obtain ⟨_, _, htasks, -⟩ := postToTasks_shape f s
    obtain ⟨_, hloops⟩ := postToLoops_shape f (s.postToTasks f)
    have hadcs : ((s.postToTasks f).postToLoops f).adcs = s.adcs := by rw [hloops, htasks]
    rw [postFlags_eq hup, ← adc_congr hadcs]
    exact forAll_induction (P := fun u => (u.adc c).fin = (((s.postToTasks f).postToLoops f).adc c).fin) rfl
      fun j _ u hu => (fin_postToAdc f j c u).trans hu
  · rw [State.postFlags, if_neg hup]

theorem PostKept.postFlagFrom {g j : Nat} (h : PostKept s₀ s) : PostKept s₀ (s.postFlagFrom g j) := by
  refine h.overLink fun h => ?_
  obtain ⟨_, _, _, _, hshape, hget⟩ := postFlags_shape (2 ^ j) s
  refine ⟨fun F hF => (hget F fun e => hF (e ▸ by decide)).trans (h.value F hF), (postFlags_mem _ s).trans h.mem, ?_,
    fun c => (fin_postFlags _ c s).trans (h.fin c)⟩
  have helapsed : (s.postFlag j).elapsed = s.elapsed := by rw [State.postFlag, hshape]
  exact helapsed.trans h.elapsed

theorem adcPost_kept (c avg : Nat) (s : State) : PostKept s (s.adcPost c avg) := by
  unfold State.adcPost
  extract_lets s1
  have h1 : PostKept s s1 := by
    unfold s1
    split
    · exact (PostKept.refl s).postOperandFrom
    · exact .refl s
  split
  · exact h1.postFlagFrom
  · exact h1

end

end Sys2Proof.Machine
end

section
namespace Sys2Proof.Machine

/-! ## The results of a burst (R425, R429, R433) -/

section
variable {s s₀ t : State} {c : Nat} {r : AdcReq} {codes : List Nat}

theorem length_leBytes (n v : Nat) : (leBytes n v).length = n := by
  induction n generalizing v with
  | zero => rfl
  | succ n ih => rw [leBytes, List.length_cons, ih]

/-- The codes of a burst go to its core's buffer and nowhere else (R429). -/
theorem adcWrite_read {a : Nat} (h : a < adcBuf c ∨ adcBuf c + 2 * codes.length ≤ a) : (s.adcWrite c codes).mem.read a = s.mem.read a := by
  have hlength : (codes.flatMap (leBytes 2)).length = 2 * codes.length := by
    simp [List.length_flatMap, length_leBytes, Nat.mul_comm]
  unfold State.adcWrite State.writeFrom State.overLink
  split
  · rfl
  · exact mem_writeBytes_other (by rwa [hlength])

theorem adcWrite_shape (c : Nat) (codes : List Nat) (s : State) : (s.adcWrite c codes).adcs = s.adcs ∧ (s.adcWrite c codes).elapsed = s.elapsed := by
  unfold State.adcWrite State.writeFrom State.overLink
  split
  · exact ⟨rfl, rfl⟩
  · exact ⟨State.writeBytes_adcs _ _ _, State.writeBytes_elapsed _ _ _⟩

/-- In RAW mode the codes are written. -/
def State.adcStored (c : Nat) (r : AdcReq) (codes : List Nat) (s : State) : State := if r.raw then s.adcWrite c codes else s

theorem Keeps.adcStored (h : Keeps s₀ s) : Keeps s₀ (s.adcStored c r codes) := h.thenIf (·.adcWrite)

theorem adcStored_shape (c : Nat) (r : AdcReq) (codes : List Nat) (s : State) :
    (s.adcStored c r codes).adcs = s.adcs ∧ (s.adcStored c r codes).elapsed = s.elapsed := by
  unfold State.adcStored
  split
  · exact adcWrite_shape c codes s
  · exact ⟨rfl, rfl⟩

theorem adcStored_read {a : Nat} (h : a < adcBuf c ∨ adcBuf c + 2 * codes.length ≤ a) : (s.adcStored c r codes).mem.read a = s.mem.read a := by
  unfold State.adcStored
  split
  · exact adcWrite_read h
  · rfl

/-- The fields that show the results of a burst. -/
def resultFields (c : Nat) : List Field := [R.ADC_AVG_AVG c, R.ADC_LAST_CH c, R.ADC_LAST_COUNT c, R.ADC_LAST_CODE c, R.ADC_TS_TS c]

/-- What they show. -/
def resultWords (r : AdcReq) (codes : List Nat) : List Nat :=
  [adcMean (r.count + 1) codes, r.ch, r.count, codes.getLast?.getD 0, tag32 (r.ts / 2 ^ 32)]

theorem resultFields_places (c : Nat) :
    ((resultFields c).map Field.key).map placeOf = [32 * 0x50, 32 * 0x54 + 28, 32 * 0x54 + 16, 32 * 0x54, 32 * 0x58] := by
  simp (disch := decide) only [resultFields, List.map_cons, List.map_nil, R.ADC_AVG_AVG, R.ADC_LAST_CH, R.ADC_LAST_COUNT, R.ADC_LAST_CODE,
    R.ADC_TS_TS, placeOf_page, Nat.add_zero]

theorem resultFields_nodup (c : Nat) : ((resultFields c).map Field.key).Nodup := List.Nodup.of_map placeOf (by rw [resultFields_places]; decide)

/-- The results of a burst before they are judged and posted. -/
def State.adcWritten (c : Nat) (r : AdcReq) (codes : List Nat) (s : State) : State :=
  (s.adcStored c r codes).putAll ((resultFields c).zip (resultWords r codes))

theorem adcWritten_shows (hk : keysRise none (s.adcStored c r codes).regs = true) :
    (s.adcWritten c r codes).get (R.ADC_AVG_AVG c) = codes.sum * 2 ^ 16 / (r.count + 1) % 2 ^ (R.ADC_AVG_AVG c).w
      ∧ (s.adcWritten c r codes).get (R.ADC_LAST_CODE c) = codes.getLast?.getD 0 % 2 ^ 14
      ∧ (s.adcWritten c r codes).get (R.ADC_TS_TS c) = r.ts / 2 ^ 32 % 2 ^ 32 := by
  have hset : ∀ {F : Field} {v : Nat}, (F, v) ∈ (resultFields c).zip (resultWords r codes) → (s.adcWritten c r codes).get F = v % 2 ^ F.w :=
    get_putAll_zip_mem hk (resultFields_nodup c)
  exact ⟨hset (.head _), hset (.tail _ (.tail _ (.tail _ (.head _)))),
    (hset (.tail _ (.tail _ (.tail _ (.tail _ (.head _)))))).trans (Nat.mod_mod _ _)⟩

/-- The burst is flagged and counted. -/
def State.adcCounted (c : Nat) (r : AdcReq) (codes : List Nat) (s : State) : State :=
  ((s.adcWritten c r codes).raise (R.ADC_STATUS_DONE c)).addTo (R.ADC_CNT_BURSTS c) 1

theorem adcResults_eq (c : Nat) (r : AdcReq) (codes : List Nat) (s : State) : s.adcResults c r codes
    = ((s.adcCounted c r codes).adcJudge c r (adcMean (r.count + 1) codes) codes).adcPost c (adcMean (r.count + 1) codes) := rfl

theorem adcJudge_kept (c : Nat) (r : AdcReq) (avg : Nat) (codes : List Nat) (s : State) :
    PlacesKept [32 * 0xC + 3, 32 * 0xC + 6, 32 * 0x14] s (s.adcJudge c r avg codes) :=
  .ite (((PlacesKept.refl s).raise (place_mem (by decide)) (by decide)).event)
    (.ite ((PlacesKept.refl s).raise (place_mem (by decide)) (by decide)) (.refl s))

theorem adcJudge_shape (c : Nat) (r : AdcReq) (avg : Nat) (codes : List Nat) (s : State) :
    (s.adcJudge c r avg codes).adcs = s.adcs ∧ (s.adcJudge c r avg codes).elapsed = s.elapsed := by
  unfold State.adcJudge
  dsimp only
  split_ifs
  · exact ⟨State.raise_adcs _ _, State.raise_elapsed _ _⟩
  · exact ⟨State.raise_adcs _ _, State.raise_elapsed _ _⟩
  · exact ⟨rfl, rfl⟩

/-- What a burst shows once its results are written. -/
theorem adcResults_shows (hserv : s₀.inService = true) (h : Keeps s₀ s) (ht : t = s.adcResults c r codes) :
    (t.adc c).fin = (s.adc c).fin ∧ t.get (R.ADC_STATUS_DONE c) = 1
      ∧ t.get (R.ADC_AVG_AVG c) = codes.sum * 2 ^ 16 / (r.count + 1) % 2 ^ (R.ADC_AVG_AVG c).w ∧ t.get (R.ADC_TS_TS c) = r.ts / 2 ^ 32 % 2 ^ 32
      ∧ t.elapsed = s.elapsed ∧ t.get (R.ADC_LAST_CODE c) = codes.getLast?.getD 0 % 2 ^ 14 ∧ t.mem = (s.adcStored c r codes).mem := by
  obtain ⟨u, hu⟩ : ∃ u, u = (s.adcCounted c r codes).adcJudge c r (adcMean (r.count + 1) codes) codes := ⟨_, rfl⟩
  have hpost : PostKept u t := by
    rw [ht, adcResults_eq, ← hu]
    exact adcPost_kept c _ u
  have hjudge := adcJudge_kept c r (adcMean (r.count + 1) codes) codes (s.adcCounted c r codes)
  obtain ⟨hadcs, helapsed⟩ := adcJudge_shape c r (adcMean (r.count + 1) codes) codes (s.adcCounted c r codes)
  rw [← hu] at hjudge hadcs helapsed
  have hcounted : PlacesKept [32 * 0xC + 1, 32 * 0x60 + 8, 32 * 0x14] (s.adcWritten c r codes) (s.adcCounted c r codes) :=
    ((PlacesKept.refl _).raise (place_mem (by decide)) (by decide)).put (place_mem (by decide))
  obtain ⟨havg, hcode, hts⟩ := adcWritten_shows (h.adcStored.regsRise hserv) (r := r) (codes := codes)
  obtain ⟨hstored, hsame⟩ := adcStored_shape c r codes s
  refine ⟨(hpost.fin c).trans (congrArg AdcSt.fin (adc_congr ?_ c)), ?_, ?_, ?_, ?_, ?_, ?_⟩
  · exact hadcs.trans ((State.raise_adcs _ _).trans ((State.putAll_adcs _ _).trans hstored))
  · exact hpost.adcPage.trans ((hjudge.page (by decide)).trans ((get_put_page (by decide) _ _).trans (get_raise_page_same (by decide) _)))
  · exact hpost.adcPage.trans ((hjudge.page (by decide)).trans ((hcounted.page (by decide)).trans havg))
  · exact hpost.adcPage.trans ((hjudge.page (by decide)).trans ((hcounted.page (by decide)).trans hts))
  · exact hpost.elapsed.trans (helapsed.trans ((State.raise_elapsed _ _).trans ((State.putAll_elapsed _ _).trans hsame)))
  · exact hpost.adcPage.trans ((hjudge.page (by decide)).trans ((hcounted.page (by decide)).trans hcode))
  · exact hpost.mem.trans (hjudge.mem.trans (hcounted.mem.trans (State.putAll_mem _ _)))

/-- The last code, clipped to full scale (R425). -/
theorem last_clipped (codes : List Nat) : (codes.map (fun k => min k 16383)).getLast?.getD 0 % 2 ^ 14 = min (codes.getLast?.getD 0) 16383 := by
  rw [List.getLast?_map]
  cases codes.getLast? with
  | none => rfl
  | some k => exact Nat.mod_eq_of_lt (by simp only [Option.map_some, Option.getD_some]; omega)

/-- Without a finished burst of as many codes nothing is done. -/
theorem adcDoneEffect_ignored (h : ∀ r, (s.adc c).fin = some r → codes.length ≠ r.count + 1) : adcDoneEffect c codes s = s := by
  unfold adcDoneEffect
  split
  · rfl
  · next r hr => exact if_neg (by simp [h r hr])

/-- The results of a finished burst (R428, R429). -/
theorem adcDoneEffect_shows (hserv : s.inService = true) (hup : s.adcUp c = true) (hr : keysRise none s.adcs = true) (hfin : (s.adc c).fin = some r)
    (hlen : codes.length = r.count + 1) (ht : t = adcDoneEffect c codes s) :
    (t.adc c).fin = none ∧ t.get (R.ADC_STATUS_DONE c) = 1
      ∧ t.get (R.ADC_AVG_AVG c) = (codes.map (fun k => min k 16383)).sum * 2 ^ 16 / (r.count + 1) % 2 ^ (R.ADC_AVG_AVG c).w
      ∧ t.get (R.ADC_TS_TS c) = r.ts / 2 ^ 32 % 2 ^ 32 ∧ t.elapsed = max s.elapsed (r.at_ + (4 * r.count + 44) * 2 ^ 32)
      ∧ t.get (R.ADC_LAST_CODE c) = min (codes.getLast?.getD 0) 16383
      ∧ (r.raw = false → t.mem = s.mem) ∧ ∀ a, (a < adcBuf c ∨ adcBuf c + 2 * (r.count + 1) ≤ a) → t.mem.read a = s.mem.read a := by
  obtain ⟨u, hu⟩ : ∃ u, u = ((s.pass (r.lastAt + el 44)).setAdc c { s.adc c with fin := none }).adcShow c := ⟨_, rfl⟩
  have heff : t = u.adcResults c r (codes.map (fun k => min k 16383)) := by
    rw [ht, hu, adcDoneEffect, hfin]
    exact if_pos (by simp [hup, hlen])
  have hkeeps : Keeps s u := hu ▸ (Keeps.refl s).pass.setAdc.adcShow
  have hshown : AdcShown c { s.adc c with fin := none } (s.pass (r.lastAt + el 44)) u :=
    hu ▸ setAdc_shows ((Keeps.refl s).pass.regsRise hserv) (by rwa [State.pass_adcs]) c _
  have hlast : (s.pass (r.lastAt + el 44)).elapsed = max s.elapsed (r.at_ + (4 * r.count + 44) * 2 ^ 32) := by
    simp only [State.pass, AdcReq.lastAt, el]
    omega
  have hmem : u.mem = s.mem := hshown.mem.trans (State.pass_mem _ _)
  obtain ⟨hfin', hdone, havg, hts, helapsed, hcode, hstored⟩ := adcResults_shows hserv hkeeps heff
  refine ⟨hfin'.trans (hshown.proj (f := (·.fin))), hdone, havg, hts, helapsed.trans (hshown.elapsed.trans hlast), hcode.trans (last_clipped codes),
    fun hraw => ?_, fun a ha => ?_⟩
  · rw [hstored, State.adcStored, hraw]
    exact hmem
  · rw [hstored, adcStored_read (by rwa [List.length_map, hlen]), hmem]

end

end Sys2Proof.Machine
end

section
namespace Sys2Proof.Machine

/-! ## STOP and calibration (R431, R434 to R436) -/

section
variable {s s₀ t : State} {c : Nat}

/-! ### STOP -/

theorem adcPartial_adcs (c : Nat) (r : AdcReq) (s : State) : (s.adcPartial c r).adcs = s.adcs := by
  unfold State.adcPartial
  split
  · extract_lets n ws
    obtain ⟨hadcs, -⟩ := adcWrite_shape c ws s
    exact (State.useFree_adcs _ n).trans hadcs
  · rfl

/-- What a STOP makes of the triggers on its edge keeps the table of cores sorted. -/
theorem adcUndo_rise (hr : keysRise none s.adcs = true) (c : Nat) : keysRise none (s.adcUndo c).adcs = true := by
  have hunpend : ∀ (F : Field) (u : State), (u.unpend F).adcs = u.adcs := fun F u => by unfold State.unpend; split <;> rfl
  unfold State.adcUndo
  extract_lets x stays s1 F
  have h1 : keysRise none s1.adcs = true := adcShow_rise (adcs_setAdc_rise hr c _)
  split
  · split
    · extract_lets s2 s3
      have h3 : s3.adcs = s1.adcs := by
        unfold s3
        split
        · rfl
        · exact hunpend F s2
      rwa [h3]
    · exact h1
  · exact h1

/-- STOP first settles what the requests that it cuts off have calibrated and written, and then drops them. -/
theorem adcStop_eq (hserv : s₀.inService = true) (h : Keeps s₀ s) (hr : keysRise none s.adcs = true) (c : Nat) :
    ∃ u : State, s.adcStop c = (u.setAdc c { u.adc c with run := none, wait := none, fin := none, stopAt := some u.elapsed }).adcShow c
      ∧ keysRise none u.regs = true ∧ keysRise none u.adcs = true := by
  unfold State.adcStop
  extract_lets x s0 s1
  have h0 : Keeps s₀ s0 ∧ s0.adcs = s.adcs := by
    unfold s0
    split
    · exact ⟨h.adcPartial, adcPartial_adcs c _ s⟩
    · exact ⟨h, rfl⟩
  obtain ⟨hkeeps, hadcs⟩ := h0
  have hrise : keysRise none s0.adcs = true := by rwa [hadcs]
  have h1 : Keeps s₀ s1 ∧ keysRise none s1.adcs = true := by
    unfold s1
    split
    · refine ⟨(hkeeps.thenIf (·.adcFirstCal)).adcPartial, ?_⟩
      rw [adcPartial_adcs]
      split
      · exact adcFirstCal_rise hrise c
      · exact hrise
    · exact ⟨hkeeps, hrise⟩
  obtain ⟨hkeeps1, hrise1⟩ := h1
  exact ⟨s1, rfl, hkeeps1.regsRise hserv, hrise1⟩

/-- STOP ends the running, the waiting and the finished request (R431). -/
theorem adcStopEffect_shows (hserv : s.inService = true) (hup : s.adcUp c = true) (hr : keysRise none s.adcs = true) (ht : t = adcStopEffect c s) :
    (t.adc c).run = none ∧ (t.adc c).wait = none ∧ (t.adc c).fin = none ∧ t.get (R.ADC_STATUS_WAIT c) = 0 := by
  obtain ⟨u, hu, hk, hrise⟩ := adcStop_eq hserv (Keeps.refl s).adcUndo (adcUndo_rise hr c) c
  have hshown := setAdc_shows hk hrise c { u.adc c with run := none, wait := none, fin := none, stopAt := some u.elapsed }
  have heff : t = (s.adcUndo c).adcStop c := ht.trans (if_pos hup)
  rw [← hu, ← heff] at hshown
  exact ⟨hshown.proj (f := (·.run)), hshown.proj (f := (·.wait)), hshown.proj (f := (·.fin)), hshown.wait⟩

/-! ### A recalibration falls due -/

theorem exec_calNow (hserv : s.inService = true) (hup : s.adcUp c = true) : exec (.calNow c) s = .next (s.setAdc c { s.adc c with calDue := true }) :=
  congrArg Host.Outcome.next ((commanded_adcCtrl hserv hup _).trans (if_pos hup))

theorem adcCalDueEffect_due (hup : s.adcUp c = true) (hper : s.on (R.ADC_CFG_CAL_PER c) = true) (hcald : s.on (R.ADC_STATUS_CALD c) = true) :
    adcCalDueEffect c s = s.setAdc c { s.adc c with calDue := true } := if_pos (by simp [hup, hper, State.adcCald, hcald])

theorem adcCalDueEffect_off (hper : s.on (R.ADC_CFG_CAL_PER c) = false) : adcCalDueEffect c s = s := if_neg (by simp [hper])

/-! ### It meets an idle core -/

/-- A due recalibration on an idle core, and none postponed. -/
structure RecalMeets (x : AdcSt) : Prop where
  due : x.calDue = true
  run : x.run = none
  wait : x.wait = none
  recal : x.recal = false
  retry : x.retry = false

theorem adcRecal_starts (h : RecalMeets (s.adc c)) (hcool : (s.adc c).poweredIn s.elapsed ≤ el 2500000) :
    s.adcRecal c = (s.setAdc c { s.adc c with recal := true, calDue := false, recalAt := s.elapsed }).adcShow c := by
  unfold State.adcRecal
  rw [if_pos (by simp [h.due, h.run, h.wait, h.recal, h.retry]), if_pos hcool]

theorem adcRecal_postpones (h : RecalMeets (s.adc c)) (hhot : el 2500000 < (s.adc c).poweredIn s.elapsed) :
    s.adcRecal c = (s.setAdc c { s.adc c with retry := true, dutyAt := s.elapsed }).raise (R.ADC_STATUS_DUTY c) := by
  unfold State.adcRecal
  rw [if_pos (by simp [h.due, h.run, h.wait, h.recal, h.retry]), if_neg (Nat.not_le.mpr hhot)]

/-- A cool core starts it (R434). -/
theorem adcRecal_cool_shows (hk : keysRise none s.regs = true) (hr : keysRise none s.adcs = true) (h : RecalMeets (s.adc c))
    (hcool : (s.adc c).poweredIn s.elapsed ≤ el 2500000) (ht : t = s.adcRecal c) : t.elapsed = s.elapsed ∧ (t.adc c).recal = true
      ∧ (t.adc c).calDue = false ∧ (t.adc c).retry = false ∧ (t.adc c).recalAt = s.elapsed ∧ t.get (R.ADC_STATUS_BUSY c) = 1 ∧ t.mem = s.mem := by
  have hshown := setAdc_shows hk hr c { s.adc c with recal := true, calDue := false, recalAt := s.elapsed }
  rw [← adcRecal_starts h hcool, ← ht] at hshown
  refine ⟨hshown.elapsed, hshown.proj (f := (·.recal)), hshown.proj (f := (·.calDue)), (hshown.proj (f := (·.retry))).trans h.retry,
    hshown.proj (f := (·.recalAt)), ?_, hshown.mem⟩
  rw [hshown.busy, Bool.or_true]
  rfl

/-- A hot core postpones it with DUTY (R435). -/
theorem adcRecal_hot_shows (hr : keysRise none s.adcs = true) (h : RecalMeets (s.adc c)) (hhot : el 2500000 < (s.adc c).poweredIn s.elapsed)
    (ht : t = s.adcRecal c) : t.elapsed = s.elapsed ∧ t.adc c = { s.adc c with retry := true, dutyAt := s.elapsed }
      ∧ t.get (R.ADC_STATUS_DUTY c) = 1 ∧ t.mem = s.mem := by
  rw [ht, adcRecal_postpones h hhot]
  exact ⟨State.raise_elapsed _ _, (adc_congr (State.raise_adcs _ _) c).trans (adc_setAdc_same hr c _), get_raise_page_same (by decide) _,
    State.raise_mem _ _⟩

theorem adcRetryEffect_ignored (h : (s.adc c).retry = false) (w : Nat) : adcRetryEffect c w s = s := if_neg (by simp [h])

section
variable (hserv : s.inService = true) (hup : s.adcUp c = true) (hr : keysRise none s.adcs = true) {w e : Nat}
include hserv hup hr

/-- ADC_RECAL_START looks at the core after the time that it names. -/
theorem adcRecalStart_shows (h : RecalMeets (s.adc c)) (he : e = s.elapsed + w * 2 ^ 32) :
    ((s.adc c).poweredIn e ≤ 2500000 * 2 ^ 32 → Reaches (.adcRecalStart c w) s (fun t => t.elapsed = e ∧ (t.adc c).recal = true
        ∧ (t.adc c).calDue = false ∧ (t.adc c).recalAt = e ∧ t.get (R.ADC_STATUS_BUSY c) = 1 ∧ t.mem = s.mem))
      ∧ (2500000 * 2 ^ 32 < (s.adc c).poweredIn e → Reaches (.adcRecalStart c w) s (fun t => t.elapsed = e
        ∧ t.adc c = { s.adc c with retry := true, dutyAt := e } ∧ t.get (R.ADC_STATUS_DUTY c) = 1 ∧ t.mem = s.mem)) := by
  have hadc : (s.pass e).adc c = s.adc c := adc_congr (State.pass_adcs _ e) c
  have helapsed : (s.pass e).elapsed = e := max_eq_right (he ▸ Nat.le_add_right _ _)
  have hk : keysRise none (s.pass e).regs = true := (Keeps.refl s).pass.regsRise hserv
  have hrise : keysRise none (s.pass e).adcs = true := by rwa [State.pass_adcs]
  have hmeets : RecalMeets ((s.pass e).adc c) := hadc ▸ h
  have hexec : exec (.adcRecalStart c w) s = .next ((s.pass e).adcRecal c) := congrArg Host.Outcome.next (he ▸ if_pos hup)
  refine ⟨fun hcool => ⟨_, hexec, ?_⟩, fun hhot => ⟨_, hexec, ?_⟩⟩
  · obtain ⟨hnow, hrecal, hdue, -, hat, hbusy, hmem⟩ := adcRecal_cool_shows hk hrise hmeets (by rw [hadc, helapsed]; exact hcool) rfl
    exact ⟨hnow.trans helapsed, hrecal, hdue, hat.trans helapsed, hbusy, hmem.trans (State.pass_mem _ e)⟩
  · obtain ⟨hnow, hcore, hduty, hmem⟩ := adcRecal_hot_shows hrise hmeets (by rw [hadc, helapsed]; exact hhot) rfl
    exact ⟨hnow.trans helapsed, by rw [hcore, hadc, helapsed], hduty, hmem.trans (State.pass_mem _ e)⟩

/-- ADC_CAL_RETRY looks at it again, at least 1 ms after the postponement (R435). -/
theorem adcCalRetry_shows (h : RecalMeets { s.adc c with retry := false }) (hretry : (s.adc c).retry = true)
    (he : e = max (s.elapsed + w * 2 ^ 32) ((s.adc c).dutyAt + 1000000 * 2 ^ 32)) :
    Reaches (.adcCalRetry c w) s (fun t => t.elapsed = e ∧ t.mem = s.mem
      ∧ ((s.adc c).poweredIn e ≤ 2500000 * 2 ^ 32 → (t.adc c).recal = true ∧ (t.adc c).retry = false ∧ (t.adc c).recalAt = e)
      ∧ (2500000 * 2 ^ 32 < (s.adc c).poweredIn e →
        (t.adc c).recal = false ∧ (t.adc c).retry = true ∧ (t.adc c).dutyAt = e ∧ t.get (R.ADC_STATUS_DUTY c) = 1)) := by
  obtain ⟨u, hu⟩ : ∃ u, u = (s.pass e).setAdc c { s.adc c with retry := false } := ⟨_, rfl⟩
  have hpassed : keysRise none (s.pass e).adcs = true := by rwa [State.pass_adcs]
  have hadc : u.adc c = { s.adc c with retry := false } := hu ▸ adc_setAdc_same hpassed c _
  have helapsed : u.elapsed = e := by
    rw [hu]
    exact max_eq_right (he ▸ (Nat.le_add_right _ _).trans (le_max_left _ _))
  have hk : keysRise none u.regs = true := hu ▸ (Keeps.refl s).pass.setAdc.regsRise hserv
  have hrise : keysRise none u.adcs = true := hu ▸ adcs_setAdc_rise hpassed c _
  have hmem : u.mem = s.mem := hu ▸ State.pass_mem _ e
  have hmeets : RecalMeets (u.adc c) := hadc ▸ h
  have hsame : (u.adc c).poweredIn u.elapsed = (s.adc c).poweredIn e := by rw [hadc, helapsed]; rfl
  have heff : adcRetryEffect c w s = u.adcRecal c := by
    rw [hu, he]
    exact if_pos (by rw [hup, hretry]; rfl)
  refine ⟨_, congrArg Host.Outcome.next heff, ?_⟩
  by_cases hcool : (s.adc c).poweredIn e ≤ 2500000 * 2 ^ 32
  · obtain ⟨hnow, hrecal, -, hagain, hat, -, hkept⟩ := adcRecal_cool_shows hk hrise hmeets (by rw [hsame]; exact hcool) rfl
    exact ⟨hnow.trans helapsed, hkept.trans hmem, fun _ => ⟨hrecal, hagain, hat.trans helapsed⟩, fun hhot => absurd hcool (Nat.not_le.mpr hhot)⟩
  · obtain ⟨hnow, hcore, hduty, hkept⟩ := adcRecal_hot_shows hrise hmeets (by rw [hsame]; exact Nat.not_le.mp hcool) rfl
    refine ⟨hnow.trans helapsed, hkept.trans hmem, fun hcool' => absurd hcool' hcool, fun _ => ⟨?_, ?_, ?_, hduty⟩⟩
    · rw [hcore]
      exact hmeets.recal
    · rw [hcore]
    · rw [hcore]
      exact helapsed

end

/-! ### It completes -/

/-- The correction differs from that of the core by more than `lim` codes (R436). -/
def AdcSt.drifts (x : AdcSt) (lim : Nat) (o g : Int) : Bool := decide (lim < (o - x.ofs).natAbs) || decide (lim < (g - x.gain).natAbs)

/-- Time has come to 20 µs after the start of the recalibration, and the core has its correction. -/
def State.recalEnded (c : Nat) (o g : Int) (s : State) : State :=
  ((s.pass ((s.adc c).recalAt + el 20000)).setAdc c { s.adc c with recal := false, ofs := o, gain := g }).adcShow c

/-- A correction that has drifted is flagged and reported. -/
def State.driftJudged (c : Nat) (far : Bool) (s : State) : State :=
  if far then (s.raise (R.ADC_STATUS_CAL_ERR c)).event .adc (adcUnit c) 0 else s

theorem Keeps.recalEnded {o g : Int} (h : Keeps s₀ s) : Keeps s₀ (s.recalEnded c o g) := h.pass.setAdc.adcShow

theorem Keeps.driftJudged {far : Bool} (h : Keeps s₀ s) : Keeps s₀ (s.driftJudged c far) := h.thenIf (·.raise.event)

theorem driftJudged_shape (c : Nat) (far : Bool) (s : State) : (s.driftJudged c far).adcs = s.adcs ∧ (s.driftJudged c far).mem = s.mem
    ∧ (s.driftJudged c far).elapsed = s.elapsed := by
  cases far
  · exact ⟨rfl, rfl, rfl⟩
  · exact ⟨State.raise_adcs _ _, State.raise_mem _ _, State.raise_elapsed _ _⟩

theorem driftJudged_far (c : Nat) (s : State) : (s.driftJudged c true).get (R.ADC_STATUS_CAL_ERR c) = 1
    ∧ { cls := .adc, unit := adcUnit c } ∈ (s.driftJudged c true).flt.inbox :=
  ⟨get_raise_page_same (by decide) s, List.mem_append_right _ List.mem_cons_self⟩

theorem adcRecalDoneEffect_eq (hup : s.adcUp c = true) (hrecal : (s.adc c).recal = true) (o g : Int) : adcRecalDoneEffect c o g s
    = ((s.recalEnded c o g).driftJudged c ((s.adc c).drifts (s.get (R.ADC_CFG_DRIFT_LIM c)) o g)).adcNext c := if_pos (by rw [hup, hrecal]; rfl)

/-- A recalibration ends 20 µs after its start; a correction that drifts too far is flagged and reported (R434, R436). -/
theorem adcRecalDoneEffect_shows (hserv : s.inService = true) (hup : s.adcUp c = true) (hr : keysRise none s.adcs = true) {o g : Int}
    (hrecal : (s.adc c).recal = true) (ht : t = adcRecalDoneEffect c o g s) :
    (t.adc c).recal = false ∧ (t.adc c).ofs = o ∧ (t.adc c).gain = g ∧ (t.adc c).wait = none ∧ t.mem = s.mem
      ∧ t.elapsed = max s.elapsed ((s.adc c).recalAt + 20000 * 2 ^ 32)
      ∧ ((s.get (R.ADC_CFG_DRIFT_LIM c) < (o - (s.adc c).ofs).natAbs ∨ s.get (R.ADC_CFG_DRIFT_LIM c) < (g - (s.adc c).gain).natAbs) →
          t.get (R.ADC_STATUS_CAL_ERR c) = 1 ∧ { cls := .adc, unit := adcUnit c } ∈ t.flt.inbox) := by
  have hpassed : keysRise none (s.pass ((s.adc c).recalAt + el 20000)).adcs = true := by rwa [State.pass_adcs]
  have hended : AdcShown c { s.adc c with recal := false, ofs := o, gain := g } (s.pass ((s.adc c).recalAt + el 20000)) (s.recalEnded c o g) :=
    setAdc_shows ((Keeps.refl s).pass.regsRise hserv) hpassed c _
  have hrise : keysRise none (s.recalEnded c o g).adcs = true := adcShow_rise (adcs_setAdc_rise hpassed c _)
  obtain ⟨far, hfar⟩ : ∃ far, far = (s.adc c).drifts (s.get (R.ADC_CFG_DRIFT_LIM c)) o g := ⟨_, rfl⟩
  obtain ⟨hadcs, hmem, helapsed⟩ := driftJudged_shape c far (s.recalEnded c o g)
  obtain ⟨run, hnext, -, -⟩ := adcNext_shows ((Keeps.refl s).recalEnded.driftJudged.regsRise hserv) (by rwa [hadcs]) c
  rw [hfar, ← adcRecalDoneEffect_eq hup hrecal, ← ht, ← hfar, adc_congr hadcs] at hnext
  refine ⟨?_, ?_, ?_, hnext.proj (f := (·.wait)), ?_, ?_, fun hdrift => ?_⟩
  · exact (hnext.proj (f := (·.recal))).trans (hended.proj (f := (·.recal)))
  · exact (hnext.proj (f := (·.ofs))).trans (hended.proj (f := (·.ofs)))
  · exact (hnext.proj (f := (·.gain))).trans (hended.proj (f := (·.gain)))
  · exact hnext.mem.trans (hmem.trans (hended.mem.trans (State.pass_mem _ _)))
  · exact hnext.elapsed.trans (helapsed.trans hended.elapsed)
  · obtain rfl : far = true := hfar.trans (by simpa [AdcSt.drifts] using hdrift)
    obtain ⟨hflag, hevent⟩ := driftJudged_far c (s.recalEnded c o g)
    exact ⟨(hnext.kept.page (by decide)).trans hflag, hnext.flt ▸ hevent⟩

end

end Sys2Proof.Machine
end

section
namespace Sys2Proof.Machine

/-! ## The statement of the converters -/

/-- Settles O40: GO and a posted flag trigger a core alike (`exec_adcTriggers`), whose request starts, waits or is dropped (`adcTrig_starts`,
`adcTrig_waits`, `adcTrig_overruns`, `adcTrig_twin`, `adcTrig_stopped`); the phase trigger, the last sample, a burst's results, STOP and the
recalibration are as their effects show them (`adcTrigger_phase_shows`, `adcLastEffect_shows`, `adcDoneEffect_shows`, `adcStopEffect_shows`,
`adcRecal_cool_shows`, `adcRecal_hot_shows`, `adcRecalDoneEffect_shows`). -/
theorem analogConverters : Obligations.AnalogConverters := by
  intro s c hserv hup hr
  have hk := inService_regsRise hserv
  refine ⟨fun d src y hd => ?_, exec_adcTrigger_unposted,
    fun hsrc hon hph hrun => ⟨exec_adcTrigger_phasePast hsrc, fun hdue => ⟨_, rfl, adcTrigger_phase_shows hserv hup hr hsrc hon hph hdue rfl⟩⟩,
    fun hrun => congrArg Host.Outcome.next (adcLastEffect_idle hrun), fun r hrun => ⟨_, rfl, adcLastEffect_shows hserv hup hr hrun rfl⟩,
    fun r codes hfin hlen _ => ⟨_, rfl, adcDoneEffect_shows hserv hup hr hfin hlen rfl⟩,
    fun codes h => congrArg Host.Outcome.next (adcDoneEffect_ignored h),
    ⟨_, congrArg Host.Outcome.next (commanded_adcCtrl hserv hup _), adcStopEffect_shows hserv hup hr rfl⟩,
    ⟨_, exec_calNow hserv hup, adc_setAdc_same hr c _, rfl, rfl⟩,
    fun hper hcald => ⟨_, congrArg Host.Outcome.next (adcCalDueEffect_due hup hper hcald), adc_setAdc_same hr c _, rfl, rfl⟩,
    fun hper => congrArg Host.Outcome.next (adcCalDueEffect_off hper),
    fun hdue hrun hwait hcal => ⟨fun w e he hretry => ?_, fun w e he hretry => ?_⟩,
    fun hretry w => congrArg Host.Outcome.next (adcRetryEffect_ignored hretry w),
    fun o g hcal => ⟨_, rfl, adcRecalDoneEffect_shows hserv hup hr hcal rfl⟩⟩
  · obtain ⟨adcs, hrise, hy, hexec⟩ := exec_adcTriggers hserv hup hr hd
    subst hy
    refine ⟨fun hoff => hexec.trans (by rw [hoff]; rfl), fun hon hstop => ?_, fun hon hstop => ?_⟩
    · rw [hon, if_pos rfl, adcTrig_stopped hstop] at hexec
      exact ⟨_, hexec, rfl, rfl, rfl⟩
    · rw [hon, if_pos rfl] at hexec
      refine ⟨fun hkind => ⟨fun hrun hwait hcal => ⟨_, hexec, adcTrig_starts hk hrise rfl ⟨hstop, hkind⟩ hrun hwait hcal⟩,
        fun hbusy hwait => ⟨_, hexec, adcTrig_waits hk hrise rfl ⟨hstop, hkind⟩ hbusy hwait⟩, fun hwait => ⟨_, hexec, ?_⟩⟩,
        fun k htrig hne => ⟨_, hexec, ?_⟩⟩
      · obtain ⟨hdrops, hrun', hwait'⟩ := adcTrig_overruns hrise rfl ⟨hstop, hkind⟩ hwait
        exact ⟨hrun', hwait', adcOverrun_shows (s := State.adcTaken c src { s with adcs }) hserv hdrops⟩
      · obtain ⟨_, hadc⟩ := adcOverrun_adc (s := { s with adcs }) hrise c
        rw [adcTrig_twin hstop htrig hne, hadc]
        exact ⟨rfl, rfl, adcOverrun_shows (s := { s with adcs }) hserv rfl⟩
  · exact adcRecalStart_shows hserv hup hr ⟨hdue, hrun, hwait, hcal, hretry⟩ he
  · exact adcCalRetry_shows hserv hup hr ⟨hdue, hrun, hwait, hcal, rfl⟩ hretry he

end Sys2Proof.Machine
end

section
namespace Sys2Proof.Machine

/-! ## ENDW on the edge at which its item has been aborted

At TB the abort ends the item and leaves behind what ENDW on the same edge takes back (R492). The core runs no item then, and ENDW acts all the
same. -/

/-- In service, with core 0 idle: an abort at TB has ended its item of task 1 on this very edge. -/
def abortedAtBound : State :=
  { glades := (List.range 44).map (fun g => (g, { inReset := false }))
    host := { phase := .applied }
    sched := { bound := some { at_ := 0, u := 0, item := { task := 1 }, kept := [], bits := {}, traceN := 0, bytes := [] } } }

theorem abortedAtBound_idle : abortedAtBound.coreRuns 0 = false := by decide

theorem exec_pxEndw_abortedAtBound : ∃ t, exec (.pxEndw 0) abortedAtBound = .next t ∧ t.sched.bound = none := by
  refine ⟨_, rfl, ?_⟩
  decide

/-- Refutes O41: on the edge of an abort at TB the core runs no item, and ENDW takes the abort back. -/
theorem not_xpxArithmetic : ¬ Obligations.XpxArithmetic := by
  intro h
  obtain ⟨-, hidle, -⟩ := h abortedAtBound 0 0 0 0 0 (by decide) (by decide) (by decide)
  have hendw : exec (.pxEndw 0) abortedAtBound = .next abortedAtBound := hidle abortedAtBound_idle _ (by simp)
  obtain ⟨t, hexec, hbound⟩ := exec_pxEndw_abortedAtBound
  cases hexec.symm.trans hendw
  exact absurd hbound (by decide)

end Sys2Proof.Machine
end

section
namespace Sys2Proof.Machine

/-! ## A pair that sees the peer's frames before any heartbeat

In role NONE the split is only raised as a bit: unlike in STANDBY, nothing is kept for a heartbeat of the same instant to take back. -/

/-- A device of a pair in service, in role NONE, that has seen a frame of its peer and no heartbeat. -/
def framesWithoutHeartbeat : State :=
  { glades := (List.range 44).map (fun g => (g, { inReset := false }))
    host := { phase := .applied }
    variant := .m
    regs := [(R.AMBER_CFG_EN.key, 1)]
    amber := { frameAt := some 0 } }

theorem roleAssignment_framesWithoutHeartbeat_alarm : (roleAssignmentEffect framesWithoutHeartbeat).amber.alarm = none := by decide

/-- Refutes O52: ROLE_ASSIGNMENT in NONE that sees frames without a heartbeat records no alarm to take back. -/
theorem not_pairMessagesAndRoles : ¬ Obligations.PairMessagesAndRoles := by
  intro h
  obtain ⟨-, -, -, -, -, -, -, hnone⟩ := h framesWithoutHeartbeat 0 (by decide) (by decide) (by decide)
  obtain ⟨-, hquiet⟩ := hnone (by decide) (by decide) (by decide)
  obtain ⟨hframes, -⟩ := hquiet (by decide)
  obtain ⟨t, hexec, -, ⟨b, hamber⟩, -⟩ := hframes (by decide) (by decide)
  cases hexec
  have halarm : (roleAssignmentEffect framesWithoutHeartbeat).amber.alarm = some b := congrArg AmberSt.alarm hamber
  rw [roleAssignment_framesWithoutHeartbeat_alarm] at halarm
  cases halarm

end Sys2Proof.Machine
end

section
namespace Sys2Proof.Machine

/-! ## A register field that is listed twice

The statements about the safety island take any state, one whose list of registers names a field twice among them. `State.put` of the reset value
takes only the first entry away, and the field then reads as the second. -/

/-- An input that is not used. -/
def unusedInput : SafeInputCfg :=
  { func := .unused, antiv := false, tpA := none, tpB := none, auto := false, discUs := 10000, ossdUs := 0 }

/-- A button of a two-hand device. -/
def handButton : SafeInputCfg := { unusedInput with func := .twohand, antiv := true }

/-- An output that no function releases. -/
def bareOutput : SafeOutputCfg := { funcs := [], remote := [], edmOnUs := 10000, edmOffUs := 10000, blkArm := false }

/-- A valid parameter set whose identity is 0, with one two-hand device and nothing else. -/
def oneHandPset : SafePset :=
  { ident := 0, crc := 0, crcOk := true, inputs := handButton :: handButton :: List.replicate 10 unusedInput
    outputs := List.replicate 4 bareOutput, conns := [], tpwUs := 100, tppUs := 20000, irqMask := 0 }

/-- In service, the register field with this key listed twice with the value 1, and the island as given. -/
def listedTwice (key : Nat) (safe : SafeSt) : State :=
  { glades := (List.range 44).map (fun g => (g, { inReset := false }))
    host := { phase := .applied }
    regs := [(key, 1), (key, 1)]
    safe := safe }

/-- The island in START with a valid set of identity 0, whose register is listed twice. -/
def psetIdTwice : State := listedTwice R.SAFE_PSET_ID_VAL.key { pset := some oneHandPset }

theorem safeStart_psetIdTwice : (safeStartEffect true psetIdTwice).get R.SAFE_PSET_ID_VAL = 1 := by decide

/-- Refutes O54: with PSET_ID listed twice, the identity 0 of the set that START accepts does not show. -/
theorem not_safetyInputs : ¬ Obligations.SafetyInputs := by
  intro h
  obtain ⟨-, hstart, -⟩ := h psetIdTwice (by decide) (by decide) (by decide)
  obtain ⟨hvalid, -⟩ := hstart (by decide) (by decide) oneHandPset (by decide) true
  obtain ⟨t, hexec, -, hid, -⟩ := hvalid (by decide)
  cases hexec
  rw [safeStart_psetIdTwice] at hid
  exact absurd hid (by decide)

/-- The island in RUN with pair 0 ACTIVE at time 0, and DEM_TS listed twice. -/
def demandTimeTwice : State := listedTwice R.SAFE_DEM_TS_TS.key { mode := .run, pset := some oneHandPset, pairs := [(0, .active)] }

/-- Both buttons of pair 0 let go: channel A high and channel B low. -/
theorem sample_demandTimeTwice : (safeSampleEffect 3 0 none true false demandTimeTwice).get R.SAFE_DEM_TS_TS = 1 := by decide

/-- Refutes O55: with DEM_TS listed twice, the time 0 at which the buttons are let go does not show. -/
theorem not_twoHandControl : ¬ Obligations.TwoHandControl := by
  intro h
  obtain ⟨-, hsample, -⟩ := h demandTimeTwice 0 (by decide) (by decide) (by decide) (by decide) (by decide)
  obtain ⟨t, hexec, hpair⟩ := hsample 3 0 none true false
  cases hexec
  obtain ⟨-, -, hactive, -⟩ := hpair _ _ rfl rfl
  obtain ⟨-, hlet⟩ := hactive (by decide)
  obtain ⟨-, -, hstamp, -⟩ := hlet (by decide)
  rw [sample_demandTimeTwice] at hstamp
  exact absurd hstamp (by decide)

/-- A Garnet connection on Ethernet port 0. -/
def ethConn : SafeConnCfg :=
  { cid := 1, ethPorts := 1, peerMac := 0, sess := none, perUs := 500, wdUs := 1000, errLim := 1, txMap := List.replicate 16 0 }

/-- The island in RUN with connection 0 running. -/
def runningConn : SafeSt := { mode := .run, pset := some { oneHandPset with conns := [(0, ethConn)] }, conns := [(0, { mode := .run })] }

/-- Connection 0 runs; its watchdog counter stands at 65535 and is listed twice. -/
def watchdogCountTwice : State :=
  { listedTwice 0 runningConn with regs := [((R.SAFE_CONN_CNT_WDX 0).key, 65535), ((R.SAFE_CONN_CNT_WDX 0).key, 65535)] }

theorem garnetWd_watchdogCountTwice : (garnetWdEffect 0 watchdogCountTwice).get (R.SAFE_CONN_CNT_WDX 0) = 65535 := by decide

/-- Refutes O57: with the counter of the watchdog listed twice, its wrap from 65535 to 0 does not show. -/
theorem not_garnetChannel : ¬ Obligations.GarnetChannel := by
  intro h
  obtain ⟨-, hruns⟩ := h watchdogCountTwice 0 ethConn (by decide) (by decide) (by decide) (by decide)
  obtain ⟨-, -, -, hwatchdog, -⟩ := hruns (by decide) _ rfl
  obtain ⟨t, hexec, -, -, -, hcount, -⟩ := hwatchdog (by decide)
  cases hexec
  rw [garnetWd_watchdogCountTwice] at hcount
  exact absurd hcount (by decide)

end Sys2Proof.Machine
end

section
namespace Sys2Proof.Machine

/-! ## SEND.FREE follows every change of a session

A session that takes the next sequence number is written back, and SEND.FREE is then loaded with its free places, whatever it showed before. -/

/-- An operand session of the device with itself. -/
def operandSession : SessSt :=
  { decl := { num := 0, peer := 0, peerSess := 0, operand := true, txBuf := 0, rxBuf := 0, tag := 0, flag := none, rtoUs := 0, island := none }
    enabled := true
    out := [⟨0, 1, 0, 0, 0⟩] }

/-- In service, port 0 up, session 0 with one message outstanding and SEND.FREE still at its reset value. -/
def oneOutstanding : State :=
  { glades := (List.range 44).map (fun g => (g, { inReset := false }))
    host := { phase := .applied }
    regs := [((R.CANOPY_CTRL_EN 0).key, 1)]
    canopy := { ports := [(0, { up := true })], sess := [(0, operandSession)] } }

/-- A message with the MCRC that it should carry. -/
def withMcrc (m : CMsg) : CMsg := { m with mcrc := m.mcrcOf }

theorem withMcrc_mcrcOk (m : CMsg) : (withMcrc m).mcrcOk = true := decide_eq_true rfl

/-- DATA of one byte, which is no whole word, from the device to its own session 0. -/
def oddData : CMsg :=
  withMcrc { mtype := 0, dst := 0, src := 0, hops := 0, sess := 0, seq := 0, tag := 0, aux := 256, payload := [] }

theorem dataReceived_oneOutstanding_free : (dataReceivedEffect 0 oddData oneOutstanding).get (R.CANOPY_SEND_FREE 0) = 7 := by
  rw [dataReceivedEffect, oddData, withMcrc_mcrcOk]
  decide

/-- Refutes O51: the refused operand message leaves the registers changed, where SEND.FREE did not show the session's free places. -/
theorem not_canopySessions : ¬ Obligations.CanopySessions := by
  intro h
  have hmcrc : oddData.mcrcOk = true := by rw [oddData, withMcrc_mcrcOk]
  obtain ⟨-, -, hport⟩ := h oneOutstanding 0 (by decide) (by decide) (by decide) (by decide) (by decide)
  obtain ⟨hdata, -⟩ := hport 0 (by decide) (by decide)
  obtain ⟨-, hsess⟩ := hdata oddData hmcrc rfl rfl rfl rfl
  obtain ⟨-, hodd, -⟩ := hsess operandSession rfl rfl rfl
  obtain ⟨t, hexec, -, hregs, -⟩ := hodd rfl (by decide) rfl rfl (by decide)
  have heffect : exec (.dataReceived 0 oddData) oneOutstanding = .next (dataReceivedEffect 0 oddData oneOutstanding) := rfl
  obtain rfl : dataReceivedEffect 0 oddData oneOutstanding = t := Host.Outcome.next.inj (heffect.symm.trans hexec)
  have hfree : (dataReceivedEffect 0 oddData oneOutstanding).get (R.CANOPY_SEND_FREE 0) = oneOutstanding.get (R.CANOPY_SEND_FREE 0) := by
    rw [State.get, State.get, hregs]
  rw [dataReceived_oneOutstanding_free] at hfree
  exact absurd hfree (by decide)

end Sys2Proof.Machine
end

section
namespace Sys2Proof.Machine

/-! ## A supply voltage beyond its field

The statement about the ageing monitor takes any value of VDD, one that its 12 bits cannot hold among them: a step of VDD is then cut to the field. -/

/-- In service, the monitors on, with a regulator that gave its exponent and a VDD of 4106 mV. -/
def vddBeyondField : State :=
  { glades := (List.range 44).map (fun g => (g, { inReset := false }))
    host := { phase := .applied }
    regs := [(R.AGE_CTRL_EN.key, 1), (R.AGE_AVS_VDD.key, 4106)]
    age := { vout := some 0 } }

theorem marginHigh_vddBeyondField : (marginHighEffect true vddBeyondField).get R.AGE_AVS_VDD = 0 := by decide

/-- Refutes O60: from 4106 mV a step down of 10 mV comes to 4096 mV, which VDD shows as 0. -/
theorem not_ageingMonitor : ¬ Obligations.AgeingMonitor := by
  intro h
  obtain ⟨-, -, hhigh, -⟩ := h vddBeyondField (by decide) (by decide) (by decide)
  obtain ⟨-, -, hstep⟩ := hhigh true
  obtain ⟨hack, -⟩ := hstep 0 rfl (by decide) (by decide) (by decide) (by decide)
  obtain ⟨t, hexec, hvdd, -⟩ := hack rfl
  obtain rfl : marginHighEffect true vddBeyondField = t := Host.Outcome.next.inj hexec
  rw [marginHigh_vddBeyondField] at hvdd
  exact absurd hvdd (by decide)

end Sys2Proof.Machine
end

section
namespace Sys2Proof.Machine

/-! ## The level of an event (R24, R733) -/

theorem rawLevel_l0 {s : State} {e : Event} (h : e.req = .l0) : s.rawLevel e = 0 := by
  simp [State.rawLevel, h]

theorem rawLevel_base {s : State} {e : Event} (h : e.req = .base) :
    s.rawLevel e = max (if e.cls = .clk ∧ e.glade = true then s.lossLevel (e.unit / 256) else 0) (s.get (R.FLT_BASE_LVL (classCode e.cls))) := by
  simp [State.rawLevel, h]

theorem rawLevel_atLeast {s : State} {e : Event} {l : Nat} (h : e.req = .atLeast l) :
    s.rawLevel e = max (if e.cls = .clk ∧ e.glade = true then s.lossLevel (e.unit / 256) else 0)
      (max l (s.get (R.FLT_BASE_LVL (classCode e.cls)))) := by
  simp [State.rawLevel, h]

theorem escalates_of_rawLevel_zero {s : State} {e : Event} (h : s.rawLevel e = 0) : s.escalates e = false := by
  simp [State.escalates, h]

theorem escalates_of_closed {s : State} {e : Event} (h : (s.record (classCode e.cls)).used = false) : s.escalates e = false := by
  simp [State.escalates, h]

theorem escalates_of_open {s : State} {e : Event} (hraw : 1 ≤ s.rawLevel e) (h : (s.record (classCode e.cls)).used = true) (hg : e.group = none) :
    s.escalates e = true := by
  simp [State.escalates, h, hg, hraw]

theorem escalates_of_group {s : State} {e : Event} {g : Nat} (h : e.group = some g) (hr : (s.record (classCode e.cls)).group = some g) :
    s.escalates e = false := by
  simp [State.escalates, h, hr]

theorem takenLevel_of_not_escalates {s : State} {e : Event} (h : s.escalates e = false) :
    s.takenLevel e = if s.rawLevel e = 2 ∧ s.fenceTarget e = .notFenceable then 3 else s.rawLevel e := by
  simp [State.takenLevel, h]

theorem takenLevel_of_escalates {s : State} {e : Event} (h : s.escalates e = true) :
    s.takenLevel e = if min (s.rawLevel e + 1) 4 = 2 ∧ s.fenceTarget e = .notFenceable then 3 else min (s.rawLevel e + 1) 4 := by
  simp [State.takenLevel, h]

/-- Settles O10: the three forms of a request give the raw level, and the record of the class decides the escalation. -/
theorem eventLevelRule : Obligations.EventLevelRule := by
  intro s e
  refine ⟨fun h0 => ?_, fun raw hraw => ?_⟩
  · have hraw := rawLevel_l0 (s := s) h0
    have hesc := escalates_of_rawLevel_zero hraw
    exact ⟨by rw [takenLevel_of_not_escalates hesc, hraw]; simp, hesc⟩
  · have heq : s.rawLevel e = raw := by
      rcases hraw with ⟨hreq, hlevel⟩ | ⟨hreq, hlevel⟩ | ⟨l, hreq, hlevel⟩
      · rw [rawLevel_l0 hreq, hlevel]
      · rw [rawLevel_base hreq, hlevel]
      · rw [rawLevel_atLeast hreq, hlevel]
    refine ⟨fun hclosed => ?_, fun h1 hopen hgroup => ?_, fun g hgroup hrecord => escalates_of_group hgroup hrecord⟩
    · rw [takenLevel_of_not_escalates (escalates_of_closed hclosed), heq]
    · have hesc := escalates_of_open (heq.symm ▸ h1) hopen hgroup
      exact ⟨hesc, by rw [takenLevel_of_escalates hesc, heq]⟩

end Sys2Proof.Machine
end

section
namespace Sys2Proof.Machine

/-! ## Glades that leave reset (R16, R866) -/

theorem glade_setGlade_same {g : Nat} {x : GladeSt} {s : State} (hx : x ≠ {}) : (s.setGlade g x).glade g = x :=
  tget_tset_value hx g

theorem glade_setGlade_other {g k : Nat} (h : k ≠ g) (x : GladeSt) (s : State) : (s.setGlade g x).glade k = s.glade k :=
  tget_tset_other h x

/-- A glade that has left reset is not one as it stands at reset. -/
theorem out_ne_default (x : GladeSt) : ({ x with inReset := false } : GladeSt) ≠ {} := fun h => Bool.false_ne_true (congrArg GladeSt.inReset h)

/-- A present glade with its clock leaves reset. -/
theorem gladeOut_out {g : Nat} {s : State} (hp : gladePresent s.variant g = true) (hc : (s.glade g).clkBad = false) :
    ((s.gladeOut g).glade g).inReset = false := by
  unfold State.gladeOut
  split
  · rw [glade_setGlade_same (out_ne_default _)]
  · next h =>
    simp only [hp, hc, Bool.not_false, Bool.and_true, Bool.true_and, Bool.not_eq_true] at h
    exact h

theorem gladeOut_other {g k : Nat} (h : k ≠ g) (s : State) : (s.gladeOut g).glade k = s.glade k := by
  unfold State.gladeOut
  split
  · exact glade_setGlade_other h _ s
  · rfl

theorem gladeOut_absent {g : Nat} {s : State} (h : gladePresent s.variant g = false) : s.gladeOut g = s := by
  simp [State.gladeOut, h]

theorem gladeOut_variant (g : Nat) (s : State) : (s.gladeOut g).variant = s.variant := by
  unfold State.gladeOut
  split <;> rfl

theorem gladeOut_clkBad (g k : Nat) (s : State) : ((s.gladeOut g).glade k).clkBad = (s.glade k).clkBad := by
  unfold State.gladeOut
  split
  · by_cases hk : k = g
    · rw [hk, glade_setGlade_same (out_ne_default _)]
    · rw [glade_setGlade_other hk]
  · rfl

/-- A glade that has left reset does not come back by another's leaving. -/
theorem gladeOut_keeps_out {g k : Nat} {s : State} (h : (s.glade k).inReset = false) : ((s.gladeOut g).glade k).inReset = false := by
  unfold State.gladeOut
  split
  · by_cases hk : k = g
    · rw [hk, glade_setGlade_same (out_ne_default _)]
    · rw [glade_setGlade_other hk, h]
  · exact h

/-- `LeftReset l s₀ s`: of glades with their clock, those of `l` that are present have left reset since `s₀`, and the others stand as they stood. -/
structure LeftReset (l : List Nat) (s₀ s : State) : Prop where
  variant : s.variant = s₀.variant
  clkBad : ∀ k, (s.glade k).clkBad = (s₀.glade k).clkBad
  out : ∀ g ∈ l, gladePresent s₀.variant g = true → (s₀.glade g).clkBad = false → (s.glade g).inReset = false
  kept : ∀ k, (k ∉ l ∨ gladePresent s₀.variant k = false) → s.glade k = s₀.glade k

theorem LeftReset.step {l : List Nat} {s₀ s : State} {g : Nat} (h : LeftReset l s₀ s) : LeftReset (l ++ [g]) s₀ (s.gladeOut g) where
  variant := (gladeOut_variant g s).trans h.variant
  clkBad k := (gladeOut_clkBad g k s).trans (h.clkBad k)
  out k hk hp hc := by
    rcases List.mem_append.mp hk with hl | hg
    · exact gladeOut_keeps_out (h.out k hl hp hc)
    · obtain rfl : k = g := List.mem_singleton.mp hg
      exact gladeOut_out (h.variant.symm ▸ hp) ((h.clkBad k).trans hc)
  kept k hk := by
    rcases hk with hk | hk
    · simp only [List.mem_append, List.mem_singleton, not_or] at hk
      exact (gladeOut_other hk.2 s).trans (h.kept k (.inl hk.1))
    · by_cases hg : k = g
      · subst hg
        rw [gladeOut_absent (h.variant.symm ▸ hk), h.kept k (.inr hk)]
      · exact (gladeOut_other hg s).trans (h.kept k (.inr hk))

theorem leftReset_forAll (l : List Nat) (s : State) : LeftReset l s (forAll l State.gladeOut s) := by
  induction l using List.reverseRecOn with
  | nil => exact ⟨rfl, fun _ => rfl, fun _ hg => absurd hg List.not_mem_nil, fun _ _ => rfl⟩
  | append_singleton l g ih =>
    rw [forAll, List.foldl_append]
    exact ih.step

theorem glade_setPhase (p : StartPhase) (g : Nat) (s : State) : (s.setPhase p).glade g = s.glade g := rfl

/-- With no glade ever touched, every glade stands as at reset. -/
theorem glade_of_nil {s : State} (h : s.glades = []) (g : Nat) : s.glade g = {} := by
  simp [State.glade, h, tget, lookupKey]

/-- Settles O6: the loops over the glades leave out of reset exactly the present ones that they name. -/
theorem gladesLeaveReset : Obligations.GladesLeaveReset := by
  refine ⟨fun s hphase hglades hvsafe => ?_, fun s hphase hclk => ?_, fun s g hphase hvsafe => ?_, fun s g hphase hvsafe hp hc => ?_⟩
  · have hleft := leftReset_forAll [1, 2, 3] s
    refine ⟨(forAll [1, 2, 3] State.gladeOut s).setPhase .released, ?_, rfl, fun g => ⟨fun hout => ?_, fun hg => ?_⟩⟩
    · change Host.Outcome.next (porReleaseEffect s) = _
      simp [porReleaseEffect, hphase, hvsafe]
    · by_contra hg
      have hkept : (forAll [1, 2, 3] State.gladeOut s).glade g = {} := by
        rw [hleft.kept g (.inl (by simpa using hg)), glade_of_nil hglades]
      have hin : (forAll [1, 2, 3] State.gladeOut s).glade g = { inReset := true } := hkept
      rw [glade_setPhase, hin] at hout
      exact Bool.noConfusion hout
    · have hle : g ≤ 10 := by omega
      exact hleft.out g (by simpa using hg) (by simp [gladePresent, hle]) (by rw [glade_of_nil hglades])
  · have hleft := leftReset_forAll (List.range 44) s
    refine ⟨(forAll (List.range 44) State.gladeOut s).setPhase .locked, ?_, rfl, fun g hg => ⟨fun hp => ?_, fun hp => ?_⟩⟩
    · change Host.Outcome.next (pllLockedEffect s) = _
      simp [pllLockedEffect, hphase]
    · rw [glade_setPhase]
      exact hleft.out g (List.mem_range.mpr hg) hp (hclk g)
    · rw [glade_setPhase]
      exact hleft.kept g (.inr hp)
  · constructor
    · change Host.Outcome.next (porReleaseEffect s) = _
      simp [porReleaseEffect, hvsafe]
    · change Host.Outcome.next (gladeExitEffect g s) = _
      simp [gladeExitEffect, hvsafe]
  · refine ⟨s.gladeOut g, ?_, gladeOut_out hp hc, fun k hk => gladeOut_other hk s⟩
    change Host.Outcome.next (gladeExitEffect g s) = _
    simp [gladeExitEffect, hphase, hvsafe]

end Sys2Proof.Machine
end

section
namespace Sys2Proof.Machine

/-! ## A list of fields with their values -/

section
variable {l : List (Field × Nat)} {s : State}

/-- A field outside the list keeps its value. -/
theorem get_putAll_other {G : Field} (h : G.key ∉ l.map (fun e => e.1.key)) (s : State) : (s.putAll l).get G = s.get G := by
  rw [← List.zip_unzip l]
  exact get_putAll_zip_other (by simpa [Function.comp_def] using h) _

/-- Of different fields each shows the value that stands beside it. -/
theorem get_putAll_mem (hk : keysRise none s.regs = true) (hd : (l.map (fun e => e.1.key)).Nodup) {F : Field} {v : Nat} (h : (F, v) ∈ l) :
    (s.putAll l).get F = v % 2 ^ F.w := by
  rw [← List.zip_unzip l] at h ⊢
  exact get_putAll_zip_mem hk (by simpa [Function.comp_def] using hd) h

theorem regs_putAll_rise (h : keysRise none s.regs = true) : keysRise none (s.putAll l).regs = true := by
  induction l generalizing s with
  | nil => exact h
  | cons e t ih =>
    obtain ⟨F, v⟩ := e
    exact ih (regs_put_rise h F v)

end

/-! ## Power-on reset (R864) -/

/-- What a power-on reset leaves beside the fields that NVM and OTP hold. -/
def State.cleared (s : State) : State :=
  { pending := s.pending
    variant := s.variant
    free := s.free
    mem := s.mem.filter (fun c => decide (nvmBase ≤ c.1 ∧ c.1 < 2 ^ 32))
    memBad := s.memBad.filter (fun a => decide (nvmBase ≤ 8 * a ∧ 8 * a < 2 ^ 32))
    nvm := { newest := s.nvm.newest, wear := s.nvm.wear, imgWear := s.nvm.imgWear, pref := s.nvm.pref, badCopy := s.nvm.badCopy }
    sec := { revoked := s.sec.revoked, boots := s.sec.boots } }

/-- The fields that stand after it, with what they show. -/
def State.storedValues (s : State) : List (Field × Nat) := (R.NVM_BOOT_PREF, s.nvm.pref) :: storedFields.map (fun F => (F, s.get F))

theorem powerOn_eq (s : State) : s.powerOn = s.cleared.putAll s.storedValues := rfl

theorem storedValues_keys (s : State) : s.storedValues.map (fun e => e.1.key) = (R.NVM_BOOT_PREF :: storedFields).map Field.key := rfl

theorem get_powerOn_stored {s : State} {F : Field} (h : F ∈ storedFields) : s.powerOn.get F = s.get F % 2 ^ F.w := by
  rw [powerOn_eq]
  refine get_putAll_mem rfl ?_ (List.mem_cons_of_mem _ (List.mem_map_of_mem (f := fun F => (F, s.get F)) h))
  rw [storedValues_keys]
  decide

theorem get_powerOn_slot (s : State) : s.powerOn.get R.SEC_STATUS_SLOT = 2 := by
  rw [powerOn_eq, get_putAll_other]
  · rfl
  · rw [storedValues_keys]
    decide

/-- A byte of memory that a filter lets through, whatever it lets through else. -/
theorem read_filter {m : Memory} {f : Nat × Byte → Bool} {a : Nat} (h : ∀ b, f (a, b) = true) : Memory.read (m.filter f) a = m.read a := by
  unfold Memory.read tget
  congr 1
  induction m with
  | nil => rfl
  | cons e t ih =>
    obtain ⟨k, b⟩ := e
    by_cases hk : a = k
    · subst hk
      simp [h b, lookupKey]
    · rw [List.filter_cons]
      split <;> simp [lookupKey, hk, ih]

theorem read_powerOn {s : State} {a : Nat} (h : nvmBase ≤ a) (h' : a < 2 ^ 32) : s.powerOn.mem.read a = s.mem.read a := by
  rw [powerOn_eq, State.putAll_mem]
  exact read_filter fun b => by simpa using ⟨h, h'⟩

/-- After a reset no glade runs. -/
theorem up_of_glades_nil {s : State} (h : s.glades = []) (g : Nat) : (s.glade g).inReset = true ∧ s.up g = false := by
  have hdefault : s.glade g = {} := glade_of_nil h g
  simp [State.up, hdefault]

/-- Settles O5: what the cleared state holds beside the stored fields is empty. -/
theorem powerOnResetScope : Obligations.PowerOnResetScope := by
  intro s lowNs vsafeLow
  refine ⟨fun hacts => ?_, fun hv hshort => ?_⟩
  · refine ⟨{ s.powerOn with host := { s.powerOn.host with vsafeLow := vsafeLow } }, ?_, up_of_glades_nil ?_, ?_, ?_, ?_, ?_, ?_, ?_,
      fun a h h' => read_powerOn h h', get_powerOn_stored (F := R.SEC_STATUS_CNT) (by decide),
      get_powerOn_stored (F := R.NVM_SEQ_STORE_SEQ) (by decide), get_powerOn_stored (F := R.AGE_LOG_WR_IDX) (by decide), get_powerOn_slot s,
      ?_, ?_, rfl⟩
    · change Host.Outcome.next (powerOnEffect lowNs vsafeLow s) = _
      have hreset : (vsafeLow || decide (10000 ≤ lowNs)) = true := by simpa using hacts
      rw [powerOnEffect, hreset]
      rfl
    all_goals rw [powerOn_eq]; simp [State.cleared]
  · change Host.Outcome.next (powerOnEffect lowNs vsafeLow s) = _
    have hshorter : (vsafeLow || decide (10000 ≤ lowNs)) = false := by simpa [hv] using hshort
    rw [powerOnEffect, hshorter, hv]
    rfl

end Sys2Proof.Machine
end

section
namespace Sys2Proof.Machine

/-! ## UNLOCK (R827) -/

section
variable {s : State} {w : Writer}

/-- The page of SYS is the host glade's, which runs in service. -/
theorem commandedFrom_sysPage (h : s.inService = true) {addr : Nat} (ha : addr / 0x1000 = 0) (a : Nat) (f : State → State) :
    s.commandedFrom a addr f = f s :=
  commandedFrom_inService h (g := 0) (by simp [pageGlade, ha]) (inService_common h (by decide)) (by simp [pageAbsent, ha]) a f

/-- In service a write to UNLOCK that its writer may make has its effect. -/
theorem exec_unlockWrite (h : s.inService = true) (hgrant : s.pageGranted w 0x40 = true) (v : Nat) :
    exec (.unlockWrite w v) s = .next (unlockEffect w v s) := by
  have hpage := commandedFrom_sysPage h (addr := 0x40) (by decide) (writerGlade w) (unlockEffect w v)
  change Host.Outcome.next (s.granted w 0x40 fun a => a.commandedFrom (writerGlade w) 0x40 (unlockEffect w v)) = _
  rw [State.granted, if_pos hgrant, hpage]

theorem unlockEffect_none (h : s.up 0 = true) (hnone : s.host.unlk = none) (v : Nat) :
    unlockEffect w v s = if v = 0x554E4C4B then { s with host := { s.host with unlk := some w } } else s.unlockRefuse v := by
  simp [unlockEffect, h, hnone]

theorem unlockEffect_some (h : s.up 0 = true) {u : Writer} (hsome : s.host.unlk = some u) (v : Nat) :
    unlockEffect w v s = if s.unlockOk u w v = true
      then ({ s with host := { s.host with unlk := none } }).put ⟨0x1000 * (v - 0x80000000) + 0x18, 0, 1, 0, .rw⟩ 0 else s.unlockRefuse v := by
  simp [unlockEffect, h, hsome]

/-- A bit of HSTAT that is raised moves itself and the interrupt word of SYS. -/
theorem regsKeptBut_raiseUnlkRef (s : State) : RegsKeptBut [R.SYS_HSTAT_UNLK_REF, R.SYS_IRQ_STAT_PEND] s (s.raise R.SYS_HSTAT_UNLK_REF) := by
  intro G hG
  have hown : G.key ≠ R.SYS_HSTAT_UNLK_REF.key := hG _ (by simp)
  have hirq : G.key ≠ R.SYS_IRQ_STAT_PEND.key := hG _ (by simp)
  exact get_raise_other hown hirq s

/-- What a refused write to UNLOCK leaves: disarmed, flagged, with the address, and reported. -/
structure UnlockRefused (v : Nat) (s t : State) : Prop where
  disarmed : t.host.unlk = none
  flagged : t.get R.SYS_HSTAT_UNLK_REF = 1
  addr : t.get R.SYS_ERR_ADDR_ADDR = 0x40
  regs : RegsKeptBut [R.SYS_HSTAT_UNLK_REF, R.SYS_ERR_ADDR_ADDR, R.SYS_IRQ_STAT_PEND] s t
  event : { cls := .config, unit := addrUnit (unlockBase v), req := .l0, aux := unlockBase v } ∈ t.flt.inbox

theorem unlockRefused (v : Nat) (s : State) : UnlockRefused v s (s.unlockRefuse v) := by
  let s1 : State := { s with host := { s.host with unlk := none } }
  have hget (G : Field) : (s.unlockRefuse v).get G = ((s1.raise R.SYS_HSTAT_UNLK_REF).put R.SYS_ERR_ADDR_ADDR 0x40).get G := rfl
  refine ⟨?_, ?_, ?_, fun G hG => ?_, List.mem_append_right _ (List.mem_singleton.mpr rfl)⟩
  · obtain ⟨regs, m0, m1, hraise⟩ := raise_shape R.SYS_HSTAT_UNLK_REF s1
    change (s1.raise R.SYS_HSTAT_UNLK_REF).host.unlk = none
    rw [hraise]
  · rw [hget, get_put_other (by decide), get_raise_same (by decide) (by decide) rfl]
  · rw [hget, get_put_value (by decide)]
    decide
  · have haddr : G.key ≠ R.SYS_ERR_ADDR_ADDR.key := hG _ (by simp)
    rw [hget, get_put_other haddr]
    refine regsKeptBut_raiseUnlkRef s1 G fun F hF => hG F ?_
    simp only [List.mem_cons, List.not_mem_nil, or_false] at hF ⊢
    tauto

theorem sameWriter_self (w : Writer) : sameWriter w w = true := by
  cases w <;> simp [sameWriter]

/-- The value that names page `p` as a second write. -/
theorem unlockBase_page {p : Nat} (h : pageExists p = true) : unlockBase (0x80000000 + p) = 0x1000 * p := by
  simp [unlockBase, h]

theorem unlockOk_page {p : Nat} (h : pageExists p = true) : s.unlockOk w w (0x80000000 + p) = (decide (p ≠ 0xC0) && decide (s.arm.mode ≠ .run)) := by
  have hsafe : (0x80000000 + p ≠ 0x800000C0) = (p ≠ 0xC0) := propext (by omega)
  simp only [State.unlockOk, sameWriter_self, h, hsafe, Nat.le_add_right, decide_true, Nat.add_sub_cancel_left, Bool.true_and]

/-- A write that is no second write of the same writer naming a page is not taken. -/
theorem unlockOk_false {u : Writer} {v : Nat}
    (h : sameWriter u w = false ∨ v = 0x554E4C4B ∨ v < 0x80000000 ∨ pageExists (v - 0x80000000) = false) : s.unlockOk u w v = false := by
  unfold State.unlockOk
  obtain h | rfl | h | h := h
  · simp [h]
  · simp
  · simp [Nat.not_le.mpr h]
  · simp [h]

/-- The LOCK bit of a page, put to 0 in a sorted store, is off. -/
theorem pageLocked_unlocked (h : keysRise none s.regs = true) (p : Nat) :
    (s.put ⟨0x1000 * p + 0x18, 0, 1, 0, .rw⟩ 0).pageLocked (0x1000 * p) = false := by
  have hkey : 32 * (pageOf (0x1000 * p) + 0x18) + 0 = (⟨0x1000 * p + 0x18, 0, 1, 0, .rw⟩ : Field).key := by
    simp only [pageOf, Field.key]
    omega
  simp only [State.pageLocked, State.bitAt, hkey]
  simp [State.put, lookupKey_eraseKey_same h]

end

/-! ## The PCIe link (R834, R843) -/

section
variable {s : State} (h : s.inService = true)
include h

theorem exec_eoi0 : exec .eoi0 s = .next (eoi0Effect s) := by
  change Host.Outcome.next (s.commandedFrom 0 0x08 eoi0Effect) = _
  rw [commandedFrom_sysPage h (by decide)]

theorem exec_eoi1 : exec .eoi1 s = .next (eoi1Effect s) := by
  change Host.Outcome.next (s.commandedFrom 0 0x08 eoi1Effect) = _
  rw [commandedFrom_sysPage h (by decide)]

theorem eoi0Effect_shows : (eoi0Effect s).host.msix0 = s.host.msix0 + b2n s.vec0 ∧ (eoi0Effect s).regs = s.regs := by
  unfold eoi0Effect
  rw [inService_common h (by decide)]
  cases s.vec0 <;> exact ⟨rfl, rfl⟩

theorem eoi1Effect_shows : (eoi1Effect s).host.msix1 = s.host.msix1 + b2n s.vec1 ∧ (eoi1Effect s).regs = s.regs := by
  unfold eoi1Effect
  rw [inService_common h (by decide)]
  cases s.vec1 <;> exact ⟨rfl, rfl⟩

/-- The fields of the link in STATUS, with their values. -/
def linkFields (speed width alone : Nat) : List (Field × Nat) :=
  [(R.SYS_STATUS_SPEED, speed), (R.SYS_STATUS_WIDTH, width), (R.SYS_STATUS_STANDALONE, alone)]

theorem get_linkFields (speed width alone : Nat) {F : Field} {v : Nat} (hF : (F, v) ∈ linkFields speed width alone) :
    (s.putAll (linkFields speed width alone)).get F = v % 2 ^ F.w :=
  get_putAll_mem (inService_regsRise h) (by simpa [linkFields] using by decide) hF

/-- PERST_N takes the link down and leaves the SPI port alone. -/
theorem pcieReset_shows : (pcieResetEffect false s).get R.SYS_STATUS_SPEED = 0 ∧ (pcieResetEffect false s).get R.SYS_STATUS_WIDTH = 0
    ∧ (pcieResetEffect false s).get R.SYS_STATUS_STANDALONE = 1 := by
  obtain ⟨-, -, hl4, -⟩ := State.inService_iff.mp h
  have heffect : pcieResetEffect false s = s.putAll (linkFields 0 0 1) := by simp [pcieResetEffect, hl4, linkFields]
  rw [heffect]
  exact ⟨get_linkFields h 0 0 1 (v := 0) (by simp [linkFields]), get_linkFields h 0 0 1 (v := 0) (by simp [linkFields]),
    get_linkFields h 0 0 1 (v := 1) (by simp [linkFields])⟩

/-- A trained link shows its speed and width. -/
theorem pcieUp_shows {speed width : Nat} (h1 : 1 ≤ speed) (h2 : speed ≤ 3) (h3 : 1 ≤ width) (h4 : width ≤ 4) :
    (pcieUpEffect speed width s).get R.SYS_STATUS_SPEED = speed ∧ (pcieUpEffect speed width s).get R.SYS_STATUS_WIDTH = width := by
  have heffect : pcieUpEffect speed width s = s.putAll (linkFields speed width 0) := by
    simp [pcieUpEffect, inService_common h, h1, h2, h3, h4, linkFields]
  have hspeed : speed % 2 ^ R.SYS_STATUS_SPEED.w = speed := Nat.mod_eq_of_lt (by simp only [R.SYS_STATUS_SPEED]; omega)
  have hwidth : width % 2 ^ R.SYS_STATUS_WIDTH.w = width := Nat.mod_eq_of_lt (by simp only [R.SYS_STATUS_WIDTH]; omega)
  rw [heffect]
  exact ⟨(get_linkFields h speed width 0 (by simp [linkFields])).trans hspeed, (get_linkFields h speed width 0 (by simp [linkFields])).trans hwidth⟩

/-- A lost link shows speed 0, and with its reference clock lost the device stands alone. -/
theorem pcieDown_shows (lost : Bool) : (pcieDownEffect lost s).get R.SYS_STATUS_SPEED = 0
    ∧ (lost = true → (pcieDownEffect lost s).get R.SYS_STATUS_STANDALONE = 1) := by
  obtain ⟨-, -, hl4, -⟩ := State.inService_iff.mp h
  let s1 := (s.put R.SYS_STATUS_SPEED 0).put R.SYS_STATUS_WIDTH 0
  have hspeed : s1.get R.SYS_STATUS_SPEED = 0 := by
    rw [get_put_other (by decide), get_put_same (inService_regsRise h)]
    decide
  have heffect : pcieDownEffect lost s = if lost = true then s1.put R.SYS_STATUS_STANDALONE 1 else s1 := by
    simp [pcieDownEffect, hl4, s1]
  rw [heffect]
  split
  · exact ⟨(get_put_other (by decide) 1 s1).trans hspeed, fun _ => get_put_value (by decide)⟩
  · next hlost => exact ⟨hspeed, fun h => absurd h hlost⟩

end

theorem pcieUp_of_speed {s : State} : s.pcieUp = decide (s.get R.SYS_STATUS_SPEED ≠ 0) := rfl

/-- Settles O16: the state of the arming and the value written decide between arming, the LOCK bit and the refusal. -/
theorem unlockAndInterruptMessages : Obligations.UnlockAndInterruptMessages := by
  refine ⟨fun s w h hgrant hnone => ⟨?_, fun v hv => ?_⟩, fun s u w v h hgrant hsome hother => ?_, fun s w p h hgrant hsome hp => ⟨?_, ?_⟩, fun s h => ?_⟩
  · refine ⟨{ s with host := { s.host with unlk := some w } }, ?_, rfl, rfl⟩
    rw [exec_unlockWrite h hgrant, unlockEffect_none (inService_common h (by decide)) hnone, if_pos rfl]
  · have hrefused := unlockRefused v s
    refine ⟨s.unlockRefuse v, ?_, hrefused.disarmed, hrefused.flagged, hrefused.regs, hrefused.event⟩
    rw [exec_unlockWrite h hgrant, unlockEffect_none (inService_common h (by decide)) hnone, if_neg hv]
  · have hrefused := unlockRefused v s
    refine ⟨s.unlockRefuse v, ?_, hrefused.disarmed, hrefused.flagged, hrefused.regs, hrefused.event⟩
    rw [exec_unlockWrite h hgrant, unlockEffect_some (inService_common h (by decide)) hsome, unlockOk_false hother, if_neg Bool.false_ne_true]
  · intro hsafe hrun
    have hok : s.unlockOk w w (0x80000000 + p) = true := by simp [unlockOk_page hp, hsafe, hrun]
    refine ⟨({ s with host := { s.host with unlk := none } }).put ⟨0x1000 * p + 0x18, 0, 1, 0, .rw⟩ 0, ?_,
      pageLocked_unlocked (inService_regsRise h) p, rfl, regsKeptBut_put _ _ _⟩
    rw [exec_unlockWrite h hgrant, unlockEffect_some (inService_common h (by decide)) hsome, if_pos hok, Nat.add_sub_cancel_left]
  · intro hrefuse
    have hok : s.unlockOk w w (0x80000000 + p) = false := by
      rw [unlockOk_page hp]
      obtain hsafe | hrun := hrefuse
      · simp [hsafe]
      · simp [hrun]
    have hrefused := unlockRefused (0x80000000 + p) s
    refine ⟨s.unlockRefuse (0x80000000 + p), ?_, hrefused.disarmed, hrefused.flagged, hrefused.addr, ?_⟩
    · rw [exec_unlockWrite h hgrant, unlockEffect_some (inService_common h (by decide)) hsome, hok, if_neg Bool.false_ne_true]
    · have hevent := hrefused.event
      rwa [unlockBase_page hp] at hevent
  · refine ⟨⟨{ s with host := { s.host with unlk := none } }, ?_, rfl, rfl⟩, ⟨_, exec_eoi0 h, eoi0Effect_shows h⟩, ⟨_, exec_eoi1 h, eoi1Effect_shows h⟩,
      ⟨_, rfl, pcieReset_shows h⟩, rfl, fun sp wd h1 h2 h3 h4 => ?_, fun lost => ?_⟩
    · change Host.Outcome.next (unlockExpiredEffect s) = _
      simp [unlockExpiredEffect, inService_common h]
    · obtain ⟨hspeed, hwidth⟩ := pcieUp_shows h h1 h2 h3 h4
      exact ⟨_, rfl, hspeed, hwidth, by rw [pcieUp_of_speed, hspeed]; simpa using Nat.ne_of_gt h1⟩
    · obtain ⟨hspeed, halone⟩ := pcieDown_shows h lost
      exact ⟨_, rfl, hspeed, by rw [pcieUp_of_speed, hspeed]; rfl, halone⟩

end Sys2Proof.Machine
end

section
namespace Sys2Proof.Machine

/-! ## Reads and writes on the bus in service (R822, R829) -/

section
variable {s : State}

theorem inService_reaches (h : s.inService = true) (addr : Nat) : s.hostReaches addr = true :=
  (Bool.and_eq_true_iff.mp (inService_mayWrite h addr)).1

/-- A read of a page that the variant has, in service. -/
theorem readWord_inService (h : s.inService = true) {addr g : Nat} (hmsix : msixArea addr = false) (hpage : pageGlade addr = some g)
    (hp : gladePresent s.variant g = true) (ha : pageAbsent s.variant addr = false) : s.readWord addr = (s.readAction addr).map some id := by
  obtain ⟨-, hfenced, -⟩ := up_parts (inService_up h hp (gladePresent_lt hp))
  simp [State.readWord, inService_l4 h, hmsix, inService_reaches h, hpage, hp, ha, hfenced, inService_link h]

theorem statusReadEffect_inService (h : s.inService = true) {addr g : Nat} (hmsix : msixArea addr = false) (hpage : pageGlade addr = some g)
    (hp : gladePresent s.variant g = true) (ha : pageAbsent s.variant addr = false) :
    statusReadEffect addr true s = (s.readAction addr).2.answer [(s.readAction addr).1] false := by
  rw [statusReadEffect, inService_common h (by decide), inService_l4 h, readWord_inService h hmsix hpage hp ha]
  rfl

/-- A write of a host, in service. -/
theorem busWrite_spi (h : s.inService = true) (addr v : Nat) : s.busWrite .spi addr v = s.regWrite .spi addr v := by
  obtain ⟨hpath, -⟩ := inService_spi h addr
  simp [State.busWrite, inService_l4 h, hpath, inService_mayWrite h]

/-- What a read clears is a list of fields put to 0. -/
theorem clearRead_eq (addr : Nat) (s : State) : s.clearRead addr
    = s.putAll (((fieldsAt addr).filter (fun F => decide (F.acc = .rc) && readClears s.variant addr F.lo)).map (fun F => (F, 0))) := by
  unfold State.clearRead
  generalize (fieldsAt addr).filter _ = l
  induction l generalizing s with
  | nil => rfl
  | cons F t ih => exact ih (s.put F 0)

end

/-! ## SPI frames (R835, R836) -/

section
variable {s : State} (h : s.inService = true)
include h

/-- A frame at an offset that is no multiple of 4 sets ERR and does nothing else. -/
theorem spiWriteEffect_misaligned {ofs : Nat} (ho : ofs % 4 ≠ 0) (bs : List Byte) (parityOk : Bool) :
    spiWriteEffect ofs bs parityOk s = s.setSpiErr true := by
  simp [spiWriteEffect, inService_l4 h, inService_common h, ho]

theorem spiReadEffect_misaligned {ofs : Nat} (ho : ofs % 4 ≠ 0) (n : Nat) (parityOk : Bool) :
    spiReadEffect ofs n parityOk s = s.setSpiErr true := by
  simp [spiReadEffect, inService_l4 h, inService_common h, ho]

/-- A frame with one whole word writes that word; what follows it is dropped. -/
theorem spiWriteEffect_word {ofs : Nat} (ho : ofs % 4 = 0) (b0 b1 b2 b3 : Byte) {rest : List Byte} (hrest : rest.length < 4) :
    spiWriteEffect ofs (b0 :: b1 :: b2 :: b3 :: rest) true s
      = s.busWrite .spi ofs (2 ^ 24 * b0.toNat + 2 ^ 16 * b1.toNat + 2 ^ 8 * b2.toNat + b3.toNat) := by
  have hdrop : spiWords rest = [] := by
    match rest, hrest with
    | [], _ => rfl
    | [_], _ => rfl
    | [_, _], _ => rfl
    | [_, _, _], _ => rfl
  have hword : beNat [b0, b1, b2, b3] = 2 ^ 24 * b0.toNat + 2 ^ 16 * b1.toNat + 2 ^ 8 * b2.toNat + b3.toNat := by
    simp only [beNat, List.foldl_cons, List.foldl_nil]
    omega
  simp [spiWriteEffect, inService_l4 h, inService_common h, ho, spiWords, hdrop, State.spiWriteList, hword]

theorem registerWriteEffect_spi (addr v : Nat) : registerWriteEffect .spi addr v 15 true s = s.busWrite .spi addr v := by
  obtain ⟨hpath, hgrant⟩ := inService_spi h addr
  simp [registerWriteEffect, inService_l4 h, hpath, hgrant]

/-- A frame that reads one word answers as a register read of that offset, beside ERR. -/
theorem spiReadEffect_word {ofs : Nat} (ho : ofs % 4 = 0) :
    ∃ b, spiReadEffect ofs 1 true s = (statusReadEffect ofs true s).setSpiErr b := by
  unfold spiReadEffect statusReadEffect
  simp only [inService_l4 h, inService_common h (show 0 ≤ 10 by decide), ho, State.spiReadList]
  obtain ⟨_ | x, t⟩ := s.readWord ofs
  · exact ⟨_, rfl⟩
  · exact ⟨_, rfl⟩

theorem spiStatusEffect_eq : spiStatusEffect s = (s.answer [2 * b2n s.host.spiErr + 8 * b2n s.pcieUp] false).setSpiErr false := by
  simp [spiStatusEffect, State.spiStatusByte, inService_l4 h, inService_common h, b2n]

theorem spiDwriteEffect_unknown {f : SpiFrame} (hf : f.opcode ∉ [0x03, 0x02, 0x0B, 0x0A, 0x05]) : spiDwriteEffect f s = s.setSpiErr true := by
  simp only [List.mem_cons, List.not_mem_nil, or_false, not_or] at hf
  obtain ⟨h3, h2, hb, ha, h5⟩ := hf
  simp [spiDwriteEffect, inService_l4 h, inService_common h, h3, h2, hb, ha, h5]

/-- A read of ASTAT in -X returns the word and clears its bits. -/
theorem readAction_astat (hv : s.variant = .x) :
    (s.readAction 0x7040).1 = s.wordAt 0x7040 ∧ (s.readAction 0x7040).2.get R.AGE_ASTAT_MARGIN = 0 := by
  have haction : s.readAction 0x7040 = (s.wordAt 0x7040, s.clearRead 0x7040) := by simp [State.readAction, R.TIME_NOW_LO_VAL, R.DPORT_DP_DATA_DATA]
  rw [haction, clearRead_eq, hv]
  exact ⟨rfl, get_putAll_mem (v := 0) (l := ((fieldsAt 0x7040).filter fun F => decide (F.acc = .rc) && readClears .x 0x7040 F.lo).map fun F => (F, 0))
    (inService_regsRise h) (by decide) (by decide)⟩

end

/-! ## The data port on device memory (R837 to R840) -/

section
variable {s : State} {a : Nat}

theorem dpPlace_device (ha : a < 0xD00000) : s.dpPlace a = .mem a := by
  have hspace : bits a 30 2 = 0 := by simp only [bits]; omega
  have hend : ¬ 0xD30000 ≤ a := by omega
  simp [State.dpPlace, hspace, hend]

theorem memUnit_device (ha : a < 2 ^ 24) : memUnit a = 0x0003 := by
  simp (disch := omega) only [memUnit, if_neg]

theorem dpReaches_inService (h : s.inService = true) : s.dpReaches a = true := by
  obtain ⟨-, hreturned, -⟩ := State.inService_iff.mp h
  simp [State.dpReaches, hreturned]

theorem memCut_inService (h : s.inService = true) : s.memCut a = false := by
  simp [State.memCut, inService_link h]

/-- A byte in an uncorrectable word is not read: code 4 (R832). -/
theorem dpReadByte_bad (h : s.inService = true) (ha : a < 0xD00000) (hbad : s.memBad.contains (a / 8) = true) :
    s.dpReadByte a = ((0xFF, 4), s) := by
  simp only [State.dpReadByte, dpReaches_inService h, dpPlace_device ha, memCut_inService h, hbad]
  rfl

end

theorem dpAdvance_device {a n : Nat} (ha : a + n ≤ 0xD00000) : dpAdvance a n = a + n := by
  have hspace : bits a 30 2 = 0 := by simp only [bits]; omega
  have hwidth : ofsWidth a = 24 := by simp [ofsWidth, hspace]
  simp only [dpAdvance, hwidth]
  omega

/-- Bytes none of which can be read read as all ones, with the code and address of the first. -/
theorem dpReadList_bad {s : State} {c : Nat} (hc : c ≠ 0) (a : Nat) (l : List Nat) (h : ∀ x ∈ a :: l, s.dpReadByte x = ((0xFF, c), s)) :
    State.dpReadList (a :: l) s = (List.replicate (l.length + 1) 0xFF, some (c, a), s) := by
  induction l generalizing a with
  | nil => simp [State.dpReadList, h a (by simp), hc]
  | cons b t ih =>
    have htail := ih b fun x hx => h x (List.mem_cons_of_mem a hx)
    simp [State.dpReadList, h a (by simp), hc] at htail ⊢
    simp [htail, List.replicate_succ]

section
variable {s : State}

/-- What a failed access shows. -/
theorem dpFail_shows {code a : Nat} (hcode : code < 16) (ha : a < 2 ^ 32) (hk : keysRise none s.regs = true) :
    (s.dpFail code a).get R.DPORT_DP_STAT_CODE = code ∧ (s.dpFail code a).get R.DPORT_DP_ERRADDR_ADDR = a ∧ (s.dpFail code a).get R.DPORT_DP_STAT_ERR = 1
      ∧ (s.dpFail code a).mem = s.mem := by
  let s1 := ((s.put R.DPORT_DP_STAT_CODE code).put R.DPORT_DP_ERRADDR_ADDR a).addTo R.DPORT_DP_STAT_ERRCNT 1
  have hget (G : Field) : (s.dpFail code a).get G = (s1.raise R.DPORT_DP_STAT_ERR).get G := by
    unfold State.dpFail
    dsimp only
    split <;> rfl
  have hcnt (G : Field) (hG : G.key ≠ R.DPORT_DP_STAT_ERRCNT.key) :
      s1.get G = ((s.put R.DPORT_DP_STAT_CODE code).put R.DPORT_DP_ERRADDR_ADDR a).get G := get_put_other hG _ _
  refine ⟨?_, ?_, ?_, ?_⟩
  · rw [hget, get_raise_other (by decide) (by decide), hcnt _ (by decide), get_put_other (by decide), get_put_same hk]
    exact Nat.mod_eq_of_lt hcode
  · rw [hget, get_raise_other (by decide) (by decide), hcnt _ (by decide), get_put_same (regs_put_rise hk _ _)]
    exact Nat.mod_eq_of_lt ha
  · rw [hget, get_raise_same (by decide) (by decide) rfl]
  · unfold State.dpFail
    dsimp only
    split <;> simp [State.event, State.event0]

theorem dpFail_reports {a : Nat} (hplace : s.dpPlace a = .mem a) :
    { cls := .mem, unit := memUnit a } ∈ (s.dpFail 4 a).flt.inbox := by
  simp only [State.dpFail, hplace]
  exact List.mem_append_right _ (List.mem_singleton.mpr rfl)

/-- Moving DP_ADDR on moves nothing else. -/
theorem get_setDpAddr_other {G : Field} (hG : G.key ≠ R.DPORT_DP_ADDR_ADDR.key) (a : Nat) (s : State) : (s.setDpAddr a).get G = s.get G :=
  get_put_other hG a s

/-- DP_ADDR moved on, where INC is set. -/
def State.dpNextAddr (inc : Bool) (a : Nat) (s : State) : State := if inc then s.setDpAddr a else s

theorem get_dpNextAddr_other {G : Field} (hG : G.key ≠ R.DPORT_DP_ADDR_ADDR.key) (inc : Bool) (a : Nat) (s : State) :
    (s.dpNextAddr inc a).get G = s.get G := by
  unfold State.dpNextAddr
  split
  · exact get_setDpAddr_other hG a s
  · rfl

@[simp] theorem dpNextAddr_mem (inc : Bool) (a : Nat) (s : State) : (s.dpNextAddr inc a).mem = s.mem := by
  unfold State.dpNextAddr
  split <;> rfl

@[simp] theorem dpNextAddr_flt (inc : Bool) (a : Nat) (s : State) : (s.dpNextAddr inc a).flt = s.flt := by
  unfold State.dpNextAddr
  split <;> rfl

theorem dpRead_eq {len align : Nat} {burst : Bool} (ha : s.dpAddr % align = 0) : s.dpRead len align burst =
    let r := State.dpReadList ((List.range len).map (dpByteAddr (s.on R.DPORT_DP_CTRL_INC || !burst) s.dpAddr)) s
    (r.1, (match r.2.1 with | some e => r.2.2.dpFail e.1 e.2 | none => r.2.2).dpNextAddr (s.on R.DPORT_DP_CTRL_INC) (dpAdvance s.dpAddr len)) := by
  simp only [State.dpRead, ha, ne_eq, not_true_eq_false, if_false]
  rfl

end

/-- A read of DP_DATA is a read by the data port. -/
theorem exec_dpDataRead {s : State} (h : s.inService = true) : exec .dpDataRead s = .next (s.dpDataRead.2.answer [s.dpDataRead.1] false) := by
  have haction : s.readAction 0x6044 = s.dpDataRead := by simp [State.readAction, R.TIME_NOW_LO_VAL, R.DPORT_DP_DATA_DATA]
  have hread := statusReadEffect_inService h (addr := 0x6044) (g := 0) (by decide) (by decide) (by simp [gladePresent]) (by cases s.variant <;> decide)
  change Host.Outcome.next (statusReadEffect 0x6044 true s) = _
  rw [hread, haction]

theorem dpDataRead_stride4 {s : State} (hstride : s.get R.DPORT_DP_CTRL_STRIDE = 1) :
    s.dpDataRead = (leNats ((s.dpRead 4 4 false).1.take 4), (s.dpRead 4 4 false).2) := by
  simp [State.dpDataRead, State.dpSize, hstride]

/-- The data port reads an uncorrectable word: four times all ones, with code 4 at its address. -/
theorem dpRead_bad {s : State} (h : s.inService = true) {a : Nat} (haddr : s.dpAddr = a) (ha4 : a % 4 = 0) (ha : a + 4 ≤ 0xD00000)
    (hbad : s.memBad.contains (a / 8) = true) :
    s.dpRead 4 4 false = (List.replicate 4 0xFF, (s.dpFail 4 a).dpNextAddr (s.on R.DPORT_DP_CTRL_INC) (dpAdvance a 4)) := by
  have hbyte (j : Nat) (hj : j < 4) : s.dpReadByte (dpAdvance a j) = ((0xFF, 4), s) := by
    rw [dpAdvance_device (by omega)]
    exact dpReadByte_bad h (by omega) (by rwa [show (a + j) / 8 = a / 8 by omega])
  have hlist : State.dpReadList ((List.range 4).map (dpByteAddr true a)) s = (List.replicate 4 0xFF, some (4, dpAdvance a 0), s) := by
    refine dpReadList_bad (by decide) (dpAdvance a 0) [dpAdvance a 1, dpAdvance a 2, dpAdvance a 3] fun x hx => ?_
    simp only [List.mem_cons, List.not_mem_nil, or_false] at hx
    obtain rfl | rfl | rfl | rfl := hx <;> exact hbyte _ (by decide)
  rw [dpRead_eq (by rw [haddr]; exact ha4), haddr]
  simp only [Bool.not_false, Bool.or_true, hlist]
  rw [dpAdvance_device (a := a) (n := 0) (by omega)]
  rfl

/-- Settles O18: frames come down to register reads and writes, and the data port and the scrubber to the words that cannot be corrected. -/
theorem spiFramesAndScrubber : Obligations.SpiFramesAndScrubber := by
  refine ⟨fun s ofs bs h ho => ⟨?_, fun n => ?_⟩, fun s ofs b0 b1 b2 b3 rest h ho hrest => ?_, fun s h hv => ?_, fun s ofs h ho => ?_,
    fun s f h hf => ?_, fun s a h hstride haddr ha4 ha hbad => ?_, fun s h => ?_, fun s a ha => ⟨rfl, ?_, ?_⟩⟩
  · exact ⟨s.setSpiErr true, congrArg Host.Outcome.next (spiWriteEffect_misaligned h ho bs true), rfl, rfl, rfl⟩
  · exact ⟨s.setSpiErr true, congrArg Host.Outcome.next (spiReadEffect_misaligned h ho n true), rfl, rfl⟩
  · exact congrArg Host.Outcome.next ((spiWriteEffect_word h ho b0 b1 b2 b3 hrest).trans (registerWriteEffect_spi h ofs _).symm)
  · obtain ⟨hword, hclear⟩ := readAction_astat h hv
    obtain ⟨b, hread⟩ := spiReadEffect_word h (ofs := 0x7040) (by decide)
    have hstatus := statusReadEffect_inService h (addr := 0x7040) (g := 1) (by decide) (by decide) (by simp [gladePresent]) (by rw [hv]; decide)
    rw [hstatus] at hread
    exact ⟨_, congrArg Host.Outcome.next hread, congrArg (fun x => [x]) hword, hclear⟩
  · obtain ⟨b, hread⟩ := spiReadEffect_word h ho
    exact ⟨_, _, rfl, congrArg Host.Outcome.next hread, rfl, rfl, rfl, rfl⟩
  · exact ⟨s.setSpiErr true, congrArg Host.Outcome.next (spiDwriteEffect_unknown h hf), rfl, rfl, rfl, rfl⟩
  · have hread := dpRead_bad h haddr ha4 ha hbad
    obtain ⟨hcode, herr, -, hmem⟩ := dpFail_shows (s := s) (code := 4) (a := a) (by decide) (by omega) (inService_regsRise h)
    have hevent := dpFail_reports (s := s) (dpPlace_device (a := a) (by omega))
    rw [memUnit_device (by omega)] at hevent
    refine ⟨_, exec_dpDataRead h, ?_⟩
    rw [dpDataRead_stride4 hstride, hread]
    exact ⟨(get_dpNextAddr_other (by decide) _ _ _).trans hcode, (get_dpNextAddr_other (by decide) _ _ _).trans herr, rfl,
      (dpNextAddr_mem _ _ _).trans hmem, (dpNextAddr_flt (s.on R.DPORT_DP_CTRL_INC) (dpAdvance a 4) (s.dpFail 4 a)).symm ▸ hevent⟩
  · exact ⟨_, congrArg Host.Outcome.next (spiStatusEffect_eq h), rfl, rfl, rfl⟩
  · refine ⟨_, rfl, ?_, rfl⟩
    change s.flt.inbox ++ [_] = _
    rw [memUnit_device ha]
  · refine ⟨_, rfl, ?_, contains_addKey (a / 8) s.memBad, rfl⟩
    change s.flt.inbox ++ [_] = _
    rw [memUnit_device ha]

end Sys2Proof.Machine
end

section
namespace Sys2Proof.Machine

/-! ## Runs of bytes in memory -/

theorem Memory.readN_eq_map (m : Memory) (a n : Nat) : Memory.readN m a n = (List.range n).map fun j => m.read (a + j) := by
  induction n generalizing a with
  | zero => rfl
  | succ n ih =>
    have hnext (j : Nat) : a + 1 + j = a + (j + 1) := by omega
    simp [Memory.readN, ih, List.range_succ_eq_map, hnext]

theorem Memory.readN_writeN_same {m : Memory} (h : m.wf = true) (a : Nat) (bs : List Byte) : Memory.readN (m.writeN a bs) a bs.length = bs := by
  rw [Memory.readN_eq_map]
  refine List.ext_getElem (by simp) fun k _ hk => ?_
  simpa using Memory.read_writeN_same h (List.getElem?_eq_getElem hk)

theorem getElem?_leBytes {n k : Nat} (h : k < n) (v : Nat) : (leBytes n v)[k]? = some (BitVec.ofNat 8 (v / 256 ^ k)) := by
  induction n generalizing k v with
  | zero => omega
  | succ n ih =>
    cases k with
    | zero => simp [leBytes]
    | succ k => rw [leBytes, List.getElem?_cons_succ, ih (by omega), Nat.div_div_eq_div_mul, Nat.pow_succ']

/-! ## The data port writes and reads device memory (R837 to R839) -/

section
variable {s : State} (h : s.inService = true) (hbad : s.memBad = [])
include h hbad

theorem dpWriteByte_device {a : Nat} (ha : a < 0xD00000) (m : Memory) (b : Byte) (whole : Bool) :
    State.dpWriteByte a b whole { s with mem := m } = (0, { s with mem := m.write a b }) := by
  let t : State := { s with mem := m }
  have hreach : t.dpReaches a = true := dpReaches_inService (s := s) h (a := a)
  have hplace : t.dpPlace a = .mem a := dpPlace_device ha
  have hcut : t.memCut a = false := memCut_inService (s := s) h (a := a)
  have hmay : t.dpMayWrite a = true := by
    unfold State.dpMayWrite
    rw [if_neg (by rw [nvmBase]; omega), if_neg (by omega)]
  have hput : t.memPut a b whole = { s with mem := m.write a b } := by
    have hkept : (if whole then dropKey (a / 8) s.memBad else s.memBad) = s.memBad := by
      rw [hbad]
      split <;> rfl
    unfold State.memPut
    rw [if_neg (by rw [nvmBase]; omega)]
    change { s with mem := m.write a b, memBad := if whole then dropKey (a / 8) s.memBad else s.memBad } = _
    rw [hkept]
  have hgood : (t.memBad.contains (a / 8) && !whole) = false := by simp [t, hbad]
  change State.dpWriteByte a b whole t = _
  simp only [State.dpWriteByte, hreach, hplace, hmay, hcut, hgood, hput, Bool.not_true, Bool.false_eq_true, if_false]

theorem dpWriteList_device (whole : Nat → Bool) {a : Nat} {bs : List Byte} (ha : a + bs.length ≤ 0xD00000) (m : Memory) :
    State.dpWriteList whole (bs.mapIdx fun j b => (a + j, b)) { s with mem := m } = (none, { s with mem := m.writeN a bs }) := by
  induction bs generalizing a m with
  | nil => rfl
  | cons b t ih =>
    simp only [List.length_cons] at ha
    have htail := ih (a := a + 1) (by omega) (m.write a b)
    have hnext : (fun j b => (a + (j + 1), b) : Nat → Byte → Nat × Byte) = fun j b => (a + 1 + j, b) := by
      funext j b
      rw [show a + (j + 1) = a + 1 + j by omega]
    rw [List.mapIdx_cons, hnext]
    simp [State.dpWriteList, dpWriteByte_device h hbad (a := a) (by omega), htail, Memory.writeN]

theorem dpReadByte_device {a : Nat} (ha : a < 0xD00000) : s.dpReadByte a = (((s.mem.read a).toNat, 0), s) := by
  have hopen : s.openByte a = false := by
    have hbase (k v : Nat) : ¬ copyBase k v ≤ a := by
      simp only [copyBase, nvmBase]
      split <;> omega
    simp [State.openByte, hbase]
  simp [State.dpReadByte, dpReaches_inService h, dpPlace_device ha, memCut_inService h, hbad, State.readByte, hopen]

theorem dpReadList_device {l : List Nat} (hl : ∀ a ∈ l, a < 0xD00000) : State.dpReadList l s = (l.map fun a => (s.mem.read a).toNat, none, s) := by
  induction l with
  | nil => rfl
  | cons a t ih =>
    have htail := ih fun x hx => hl x (List.mem_cons_of_mem a hx)
    simp [State.dpReadList, dpReadByte_device h hbad (hl a (by simp)), htail]

variable (hinc : s.on R.DPORT_DP_CTRL_INC = true) {a : Nat} (haddr : s.dpAddr = a)
include hinc haddr

/-- A write to device memory stores its bytes from DP_ADDR upwards and moves DP_ADDR on. -/
theorem dpWrite_device {align : Nat} (halign : a % align = 0) {bs : List Byte} (ha : a + bs.length ≤ 0xD00000) (burst : Bool) :
    s.dpWrite bs align burst = State.setDpAddr (a + bs.length) { s with mem := s.mem.writeN a bs } := by
  have hlist : (bs.mapIdx fun j b => (dpByteAddr true a j, b)) = bs.mapIdx fun j b => (a + j, b) := by
    refine List.ext_getElem (by simp) fun j hj _ => ?_
    have hlt : j < bs.length := by simpa using hj
    simp [dpByteAddr, dpAdvance_device (a := a) (n := j) (by omega)]
  have huncut : ((bs.mapIdx fun j b => (a + j, b)).any fun e => s.dpCut e.1) = false := by
    refine List.any_eq_false.mpr fun e he => ?_
    obtain ⟨j, hj, rfl⟩ := List.mem_mapIdx.mp he
    simp [State.dpCut, dpPlace_device (s := s) (a := a + j) (by omega), memCut_inService h]
  have hwrites (whole : Nat → Bool) := dpWriteList_device h hbad whole (a := a) (bs := bs) ha s.mem
  simp only [State.dpWrite, haddr, halign, ne_eq, not_true_eq_false, if_false, hinc, Bool.true_or, if_true, hlist, huncut, Bool.false_eq_true,
    hwrites, dpAdvance_device ha]

theorem dpRead_device {align : Nat} (halign : a % align = 0) {n : Nat} (ha : a + n ≤ 0xD00000) (burst : Bool) :
    s.dpRead n align burst = ((Memory.readN s.mem a n).map BitVec.toNat, s.setDpAddr (a + n)) := by
  have hlist : (List.range n).map (dpByteAddr true a) = (List.range n).map (a + ·) := by
    refine List.map_congr_left fun j hj => ?_
    have hlt := List.mem_range.mp hj
    simp [dpByteAddr, dpAdvance_device (a := a) (n := j) (by omega)]
  have hreads := dpReadList_device h hbad (l := (List.range n).map (a + ·)) fun x hx => by
    obtain ⟨j, hj, rfl⟩ := List.mem_map.mp hx
    have hlt := List.mem_range.mp hj
    omega
  rw [dpRead_eq (by rw [haddr]; exact halign), haddr, hinc]
  simp only [Bool.true_or, hlist, hreads, State.dpNextAddr, if_true, dpAdvance_device ha, Memory.readN_eq_map, List.map_map]
  rfl

end

section
variable {s : State} (h : s.inService = true)
include h

theorem get_setDpAddr_same {a : Nat} (ha : a < 2 ^ 32) {t : State} (ht : t.regs = s.regs) : (t.setDpAddr a).get R.DPORT_DP_ADDR_ADDR = a :=
  (get_put_same (ht ▸ inService_regsRise h) _ _).trans (Nat.mod_eq_of_lt ha)

/-- A write to the page of the data port, in service. -/
theorem busWrite_dport {addr : Nat} (haddr : addr / 0x1000 = 6) (hmsix : msixArea addr = false) (v : Nat) :
    s.busWrite .spi addr v = s.writeDport (addr % 0x1000) v := by
  have hpage : pageGlade addr = some 0 := by simp [pageGlade, haddr]
  have habs : pageAbsent s.variant addr = false := by simp [pageAbsent, haddr]
  rw [busWrite_spi h]
  have htaken := takenBy_up (inService_common h (show 0 ≤ 10 by decide)) habs fun x => x.writeDport (addr % 0x1000) v
  simp [State.regWrite, hmsix, hpage, State.gatedWrite, inService_link h, haddr, htaken]

theorem exec_dpDataWrite (hstride : s.get R.DPORT_DP_CTRL_STRIDE = 1) (v : Nat) :
    exec (.dpDataWrite v) s = .next (s.dpWrite (leBytes 4 (v % 2 ^ 32)) 4 false) := by
  change Host.Outcome.next (s.busWrite .spi 0x6044 v) = _
  rw [busWrite_dport h (by decide) (by decide)]
  simp [State.writeDport, State.dpDataWrite, State.dpSize, hstride]

theorem exec_dpAddrWrite (hwait : s.host.dpWait = []) (v : Nat) : exec (.dpAddrWrite v) s = .next (s.setDpAddr v) := by
  change Host.Outcome.next (s.busWrite .spi 0x6040 v) = _
  rw [busWrite_dport h (by decide) (by decide)]
  simp [State.writeDport, State.dpAddrWrite, hwait, State.setDpAddr]

/-! ### Bursts -/

theorem burstWrite_inService (unit : Nat) (bs : List Byte) : s.burstWrite unit bs true = s.dpWrite bs 4 true := by
  simp [State.burstWrite, inService_l4 h, inService_common h, inService_mayWrite h]

theorem burstWrite_parity (unit : Nat) (bs : List Byte) : s.burstWrite unit bs false = s.burstParity unit := by
  simp [State.burstWrite, inService_l4 h, inService_common h]

theorem burstRead_inService (n : Nat) : s.burstRead n true = (s.dpRead n 4 true).2.answer (s.dpRead n 4 true).1 false := by
  simp [State.burstRead, inService_l4 h, inService_common h]

theorem burstRead_parity (n : Nat) : s.burstRead n false = (s.answer (List.replicate n 0xFF) true).burstParity 0x0002 := by
  simp [State.burstRead, inService_l4 h, inService_common h]

end

/-- A burst whose parity fails moves nothing and sets HPAR. -/
theorem burstParity_shows (unit : Nat) (s : State) : (s.burstParity unit).mem = s.mem ∧ (s.burstParity unit).host.rdata = s.host.rdata
    ∧ (s.burstParity unit).host.readErr = s.host.readErr ∧ (s.burstParity unit).get R.SYS_HSTAT_HPAR = 1
    ∧ (s.burstParity unit).get R.DPORT_DP_ADDR_ADDR = s.get R.DPORT_DP_ADDR_ADDR := by
  have hget (G : Field) : (s.burstParity unit).get G = ((s.raise R.SYS_HSTAT_HPAR).put R.SYS_ERR_ADDR_ADDR (s.freeNat 32)).get G := rfl
  obtain ⟨regs, m0, m1, hraise⟩ := raise_shape R.SYS_HSTAT_HPAR s
  have hhost : (s.burstParity unit).host = (s.raise R.SYS_HSTAT_HPAR).host := rfl
  refine ⟨?_, ?_, ?_, ?_, ?_⟩
  · exact State.raise_mem s R.SYS_HSTAT_HPAR
  · rw [hhost, hraise]
  · rw [hhost, hraise]
  · rw [hget, get_put_other (by decide), get_raise_same (by decide) (by decide) rfl]
  · rw [hget, get_put_other (by decide), get_raise_other (by decide) (by decide)]

/-- Device memory after a write of bytes at DP_ADDR, and DP_ADDR moved on. -/
theorem setDpAddr_writeN {s : State} (h : s.inService = true) {a : Nat} {bs : List Byte} (ha : a + bs.length ≤ 0xD00000) :
    let t := State.setDpAddr (a + bs.length) { s with mem := s.mem.writeN a bs }
    Memory.readN t.mem a bs.length = bs ∧ (∀ x, x < a ∨ a + bs.length ≤ x → t.mem.read x = s.mem.read x)
      ∧ t.get R.DPORT_DP_ADDR_ADDR = a + bs.length := by
  obtain ⟨-, -, -, -, -, -, hcanonical⟩ := State.inService_iff.mp h
  exact ⟨Memory.readN_writeN_same (State.canonical_iff.mp hcanonical).1 a bs, fun x hx => Memory.read_writeN_other hx,
    get_setDpAddr_same h (by omega) rfl⟩

/-- Settles O17: on device memory the bytes of an access lie at DP_ADDR and after it, so a write is a run of writes there. -/
theorem dataPortMovesBytes : Obligations.DataPortMovesBytes := by
  intro s a h hinc hstride hnext haddr hbad
  have hon : s.on R.DPORT_DP_CTRL_INC = true := by simp [State.on, hinc]
  obtain ⟨-, -, -, -, -, -, hcanonical⟩ := State.inService_iff.mp h
  have hwf := (State.canonical_iff.mp hcanonical).1
  refine ⟨fun v hwait => ⟨_, exec_dpAddrWrite h hwait v, get_put_same (inService_regsRise h) _ _, rfl⟩, fun ha4 ha => ⟨fun v => ?_, ?_⟩,
    fun ha4 ha v => ?_, fun bs ha4 ha => ⟨?_, fun hpcie => ?_, fun hpcie p => ⟨?_, fun n => ?_⟩⟩, fun n ha4 ha => ⟨?_, fun hpcie => ?_⟩,
    fun bs c hc => ?_, fun n c hc => ?_⟩
  · have hlen := length_leBytes 4 (v % 2 ^ 32)
    have hwrite := dpWrite_device h hbad hon haddr ha4 (bs := leBytes 4 (v % 2 ^ 32)) (by rw [hlen]; exact ha) false
    obtain ⟨-, hother, hmoved⟩ := setDpAddr_writeN h (bs := leBytes 4 (v % 2 ^ 32)) (a := a) (by rw [hlen]; exact ha)
    refine ⟨_, (exec_dpDataWrite h hstride v).trans (congrArg _ hwrite), fun j hj => ?_, hlen ▸ hother, hlen ▸ hmoved⟩
    have hbyte := Memory.read_writeN_same hwf (a := a) (getElem?_leBytes hj (v % 2 ^ 32))
    change ((s.mem.writeN a (leBytes 4 (v % 2 ^ 32))).read (a + j)).toNat = _
    rw [hbyte, BitVec.toNat_ofNat]
    obtain rfl | rfl | rfl | rfl : j = 0 ∨ j = 1 ∨ j = 2 ∨ j = 3 := by omega
    all_goals omega
  · have hread := dpRead_device h hbad hon haddr ha4 ha false
    refine ⟨_, exec_dpDataRead h, ?_⟩
    rw [dpDataRead_stride4 hstride, hread]
    have hbytes : leNats (((Memory.readN s.mem a 4).map BitVec.toNat).take 4) = leNat (Memory.readN s.mem a 4) := by
      simp [leNats, Memory.readN]
    exact ⟨congrArg (fun x => [x]) hbytes, rfl, get_setDpAddr_same h (by omega) rfl⟩
  · obtain ⟨hcode, herr, hstat, hmem⟩ := dpFail_shows (s := s) (code := 5) (a := a) (by decide) (by omega) (inService_regsRise h)
    have hwrite : s.dpWrite (leBytes 4 (v % 2 ^ 32)) 4 false = (s.dpFail 5 a).setDpAddr (dpAdvance a (leBytes 4 (v % 2 ^ 32)).length) := by
      have hdp : s.dpAddr = a := haddr
      simp [State.dpWrite, hdp, ha4, hon]
    exact ⟨_, (exec_dpDataWrite h hstride v).trans (congrArg _ hwrite), hmem, (get_setDpAddr_other (by decide) _ _).trans hcode,
      (get_setDpAddr_other (by decide) _ _).trans herr, (get_setDpAddr_other (by decide) _ _).trans hstat⟩
  · have hburst := (burstWrite_inService h 0x0001 bs).trans (dpWrite_device h hbad hon haddr ha4 ha true)
    exact ⟨_, congrArg Host.Outcome.next hburst, setDpAddr_writeN h ha⟩
  · have hburst := (burstWrite_inService h 0x0000 bs).trans (dpWrite_device h hbad hon haddr ha4 ha true)
    have heffect : dpBurstWriteEffect bs true s = _ := (if_pos hpcie).trans hburst
    exact ⟨_, congrArg Host.Outcome.next heffect, setDpAddr_writeN h ha⟩
  · have heffect : dpBurstWriteEffect bs p s = s := if_neg (by rw [hpcie]; decide)
    exact congrArg Host.Outcome.next heffect
  · have heffect : dpBurstReadEffect n p s = s := if_neg (by rw [hpcie]; decide)
    exact congrArg Host.Outcome.next heffect
  · have hburst := burstRead_inService h n
    rw [dpRead_device h hbad hon haddr ha4 ha true] at hburst
    have hmem : (s.burstRead n true).mem = s.mem := congrArg (fun x => x.mem) hburst
    exact ⟨_, rfl, congrArg (fun x => x.host.rdata) hburst, hmem⟩
  · have hburst := burstRead_inService h n
    rw [dpRead_device h hbad hon haddr ha4 ha true] at hburst
    have heffect : dpBurstReadEffect n true s = _ := (if_pos hpcie).trans hburst
    exact ⟨_, congrArg Host.Outcome.next heffect, rfl, rfl⟩
  · have hparity (unit : Nat) := burstParity_shows unit s
    obtain rfl | ⟨rfl, hpcie⟩ := hc
    · obtain ⟨hmem, -, -, hflag, hkept⟩ := hparity 0x0001
      exact ⟨_, congrArg Host.Outcome.next (burstWrite_parity h 0x0001 bs), hmem, hflag, hkept⟩
    · obtain ⟨hmem, -, -, hflag, hkept⟩ := hparity 0x0000
      have heffect : dpBurstWriteEffect bs false s = _ := (if_pos hpcie).trans (burstWrite_parity h 0x0000 bs)
      exact ⟨_, congrArg Host.Outcome.next heffect, hmem, hflag, hkept⟩
  · obtain ⟨hmem, hdata, herr, hflag, -⟩ := burstParity_shows 0x0002 (s.answer (List.replicate n 0xFF) true)
    obtain rfl | ⟨rfl, hpcie⟩ := hc
    · have hburst := burstRead_parity h n
      refine ⟨_, rfl, (congrArg (fun x => x.host.rdata) hburst).trans hdata, (congrArg (fun x => x.host.readErr) hburst).trans herr,
        (congrArg State.mem hburst).trans hmem, (congrArg (fun x => x.get R.SYS_HSTAT_HPAR) hburst).trans hflag⟩
    · have heffect : dpBurstReadEffect n false s = _ := (if_pos hpcie).trans (burstRead_parity h n)
      exact ⟨_, congrArg Host.Outcome.next heffect, hdata, herr, hmem, hflag⟩

end Sys2Proof.Machine
end

section
namespace Sys2Proof.Machine

/-! ## Bytes cleared and copied -/

/-- A table filtered by its keys shows what it showed at the keys that pass. -/
theorem lookupKey_filter {α : Type} (p : Nat → Bool) (l : List (Nat × α)) (k : Nat) :
    lookupKey (l.filter fun e => p e.1) k = if p k = true then lookupKey l k else none := by
  induction l with
  | nil => simp [lookupKey]
  | cons e t ih =>
    obtain ⟨n, v⟩ := e
    by_cases hn : p n = true
    · rw [List.filter_cons_of_pos (by exact hn), lookupKey, lookupKey, ih]
      split
      · next hk => rw [hk, if_pos hn]
      · rfl
    · rw [List.filter_cons_of_neg (by exact hn), ih, lookupKey]
      by_cases hk : k = n
      · rw [if_neg (hk ▸ hn), if_neg (hk ▸ hn)]
      · rw [if_neg hk]

theorem Memory.read_zeroN (m : Memory) (a n x : Nat) : (m.zeroN a n).read x = if a ≤ x ∧ x < a + n then 0 else m.read x := by
  have hlookup := lookupKey_filter (fun k => decide (k < a) || decide (a + n ≤ k)) m x
  change (lookupKey (m.filter fun e => decide (e.1 < a) || decide (a + n ≤ e.1)) x).getD 0 = _
  rw [hlookup]
  by_cases hx : a ≤ x ∧ x < a + n
  · rw [if_pos hx, if_neg (by simpa using hx)]
    rfl
  · rw [if_neg hx, if_pos (by simp; omega)]
    rfl

theorem Memory.read_zeroN_other {m : Memory} {a n x : Nat} (h : x < a ∨ a + n ≤ x) : (m.zeroN a n).read x = m.read x := by
  rw [Memory.read_zeroN, if_neg (by omega)]

/-- Single writes leave alone every address that none of them names. -/
theorem Memory.read_foldl_write_other {β : Type} {l : List β} {f : β → Nat} {g : β → Byte} {x : Nat} (h : ∀ c ∈ l, f c ≠ x) (m : Memory) :
    (l.foldl (fun a c => Memory.write a (f c) (g c)) m).read x = m.read x :=
  List.foldlRecOn (motive := fun a : Memory => a.read x = m.read x) l _ rfl fun _ ha c hc => (Memory.read_write_other (h c hc).symm _).trans ha

/-- Cells moved from `src` to `dst` read at their new place as they read at the old one. -/
theorem Memory.read_foldl_moved {src dst i : Nat} {l m : Memory} (hl : keysRise none l = true) (hsrc : ∀ c ∈ l, src ≤ c.1) (hm : m.wf = true) :
    (l.foldl (fun a c => Memory.write a (c.1 - src + dst) c.2) m).read (dst + i) = (lookupKey l (src + i)).getD (m.read (dst + i)) := by
  induction l generalizing m with
  | nil => rfl
  | cons c t ih =>
    obtain ⟨k, b⟩ := c
    have hk : src ≤ k := hsrc (k, b) (by simp)
    have hrise : keysRise (some k) t = true := by simpa [keysRise] using hl
    rw [List.foldl_cons, ih (keysRise_weaken hrise) (fun c hc => hsrc c (List.mem_cons_of_mem _ hc)) (Memory.write_wf hm _ _), lookupKey]
    split
    · next heq =>
      rw [lookupKey_below (Nat.le_of_eq heq) hrise, show k - src + dst = dst + i by omega, Memory.read_write_same hm]
      rfl
    · next hne => rw [Memory.read_write_other (by omega)]

/-- A copy reads as its source read. -/
theorem Memory.read_copyN_same {m : Memory} (hm : m.wf = true) {src n dst i : Nat} (hi : i < n) :
    (m.copyN src n dst).read (dst + i) = m.read (src + i) := by
  have hlookup := lookupKey_filter (fun k => decide (src ≤ k ∧ k < src + n)) m (src + i)
  have hrise := keysRise_filter (f := fun c => decide (src ≤ c.1 ∧ c.1 < src + n)) (Tab.wf_iff.mp hm).1
  unfold Memory.copyN
  rw [Memory.read_foldl_moved hrise (fun c hc => by simpa using (of_decide_eq_true (List.mem_filter.mp hc).2).1) (Memory.zeroN_wf hm dst n),
    Memory.read_zeroN, if_pos (by omega), hlookup, if_pos (by simpa using hi)]
  rfl

theorem Memory.read_copyN_other {m : Memory} {src n dst x : Nat} (h : x < dst ∨ dst + n ≤ x) : (m.copyN src n dst).read x = m.read x := by
  unfold Memory.copyN
  rw [Memory.read_foldl_write_other (f := fun c : Nat × Byte => c.1 - src + dst) (g := fun c => c.2) ?_ _, Memory.read_zeroN_other h]
  intro c hc
  obtain ⟨hlo, hhi⟩ := of_decide_eq_true (List.mem_filter.mp hc).2
  omega

theorem length_fixBytes (n : Nat) (l : List Byte) : (fixBytes n l).length = n := by
  simp [fixBytes]

/-! ## Hardware accesses to memory (R768, R832) -/

section
variable {s : State}

/-- A hardware read posts events and does nothing else. -/
theorem eccRead_eq (a n unit : Nat) (s : State) : s.eccRead a n unit = { s with flt := (s.eccRead a n unit).flt } := State.memEvents_eq _ _ _

theorem eccRead_good {a n : Nat} (h : s.badIn a n = []) (unit : Nat) : s.eccRead a n unit = s := by
  rw [State.eccRead, h]
  rfl

theorem readEcc_good {a n : Nat} (h : s.badIn a n = []) : s.readEcc a n = (Memory.readN s.mem a n, s) := by
  rw [State.readEcc, h]

theorem badIn_nil (h : s.memBad = []) (a n : Nat) : s.badIn a n = [] := by
  rw [State.badIn, h]
  rfl

/-- Whole words written leave no uncorrectable word among themselves. -/
theorem badIn_clearBad {a n : Nat} (ha : a % 8 = 0) (hn : n % 8 = 0) : (s.clearBad a n).badIn a n = [] := by
  refine List.filter_eq_nil_iff.mpr fun w hw => ?_
  have hkept := (List.mem_filter.mp hw).2
  simp only [Bool.not_eq_true', decide_eq_false_iff_not] at hkept
  simp only [decide_eq_true_eq]
  omega

/-- A write of whole words is a write of its bytes, whatever stood there. -/
theorem writeBytes_aligned {a : Nat} {bs : List Byte} (ha : a % 8 = 0) (hn : bs.length % 8 = 0) :
    s.writeBytes a bs = { s.clearBad a bs.length with mem := s.mem.writeN a bs } := by
  unfold State.writeBytes
  dsimp only
  rw [badIn_clearBad ha hn]
  rfl

/-- A hardware copy moves memory, its bad words, the free values taken and the collector's inbox. -/
theorem eccCopy_eq (src n dst unit : Nat) (s : State) : s.eccCopy src n dst unit
    = { s with mem := (s.eccCopy src n dst unit).mem, memBad := (s.eccCopy src n dst unit).memBad, free := (s.eccCopy src n dst unit).free,
               flt := (s.eccCopy src n dst unit).flt } := by
  have hfold (l : List Nat) (x : State) : ∃ mem memBad free flt,
      l.foldl (fun t w => (t.writeBytes (dst + (8 * w - src)) (leBytes 8 (t.freeNat 64))).useFree 1) x = { x with mem, memBad, free, flt } := by
    induction l generalizing x with
    | nil => exact ⟨_, _, _, _, rfl⟩
    | cons w t ih =>
      obtain ⟨mem, memBad, free, flt, heq⟩ := ih ((x.writeBytes (dst + (8 * w - src)) (leBytes 8 (x.freeNat 64))).useFree 1)
      exact ⟨mem, memBad, free, flt, by rw [List.foldl_cons, heq, State.writeBytes_eq]; rfl⟩
  unfold State.eccCopy
  dsimp only
  obtain ⟨mem, memBad, free, flt, heq⟩ := hfold ((s.badIn src n).filter fun w => decide (src ≤ 8 * w ∧ 8 * w + 8 ≤ src + n))
    (({ s with mem := Memory.copyN s.mem src n dst }.clearBad dst n).eccRead src n unit)
  rw [heq, eccRead_eq]
  rfl

theorem eccCopy_other {src n dst x : Nat} (h : x < dst ∨ dst + n ≤ x) (unit : Nat) (s : State) : (s.eccCopy src n dst unit).mem.read x = s.mem.read x := by
  unfold State.eccCopy
  dsimp only
  refine List.foldlRecOn (motive := fun t : State => t.mem.read x = s.mem.read x) _ _ ?_ fun t ht w hw => ?_
  · rw [eccRead_eq]
    exact Memory.read_copyN_other h
  · obtain ⟨hlo, hhi⟩ := of_decide_eq_true (List.mem_filter.mp hw).2
    refine (mem_writeBytes_other ?_).trans ht
    rw [length_leBytes]
    omega

/-- Where every word of the source can be corrected, the copy reads as the source. -/
theorem eccCopy_good {src n dst : Nat} (hbad : s.badIn src n = []) (unit : Nat) : (s.eccCopy src n dst unit).mem = s.mem.copyN src n dst := by
  unfold State.eccCopy
  rw [hbad]
  exact congrArg State.mem (eccRead_eq src n unit _)

end

/-! ## A service-life record (R787) -/

section
variable {s : State} {t : LifeType} {measure unit before after : Nat}

/-- Where the next record goes. -/
def State.lifeAt (s : State) : Nat := logBase + 32 * s.get R.AGE_LOG_WR_IDX

/-- The words of a record that come before its check word. -/
def State.lifeWords (s : State) (t : LifeType) (measure unit before after : Nat) : List Nat :=
  [t.code * 2 ^ 28 + measure * 2 ^ 24 + unit % 65536, s.nowNs % 2 ^ 32, s.nowNs / 2 ^ 32 % 2 ^ 32,
    s.get R.ARM_CYC_CNT_COUNT, s.get R.AGE_HOURS_HOURS, before % 2 ^ 32, after % 2 ^ 32]

/-- The 32 bytes of a record. -/
def State.lifeBytes (s : State) (t : LifeType) (measure unit before after : Nat) : List Byte :=
  let ws := s.lifeWords t measure unit before after
  (ws ++ [crc32c (ws.flatMap (leBytes 4))]).flatMap (leBytes 4)

theorem length_lifeBytes : (s.lifeBytes t measure unit before after).length = 32 := by
  simp [State.lifeBytes, State.lifeWords, length_leBytes]

theorem lifeAt_aligned (s : State) : s.lifeAt % 8 = 0 := by
  unfold State.lifeAt logBase nvmBase
  omega

/-- What a record moves: memory at its place and the registers of its page. -/
theorem lifeRecord_mem : (s.lifeRecord t measure unit before after).mem = s.mem.writeN s.lifeAt (s.lifeBytes t measure unit before after) := by
  have hwrite : (s.writeBytes s.lifeAt (s.lifeBytes t measure unit before after)).mem = s.mem.writeN s.lifeAt (s.lifeBytes t measure unit before after) := by
    rw [writeBytes_aligned (lifeAt_aligned s) (by rw [length_lifeBytes])]
  rw [← hwrite]
  unfold State.lifeRecord
  cases t <;> dsimp only <;> split <;> simp <;> rfl

theorem lifeRecord_flt : (s.lifeRecord t measure unit before after).flt = s.flt := by
  have hwrite : (s.writeBytes s.lifeAt (s.lifeBytes t measure unit before after)).flt = s.flt := by
    rw [writeBytes_aligned (lifeAt_aligned s) (by rw [length_lifeBytes])]
    rfl
  refine Eq.trans ?_ hwrite
  unfold State.lifeRecord
  cases t <;> dsimp only <;> split <;> simp <;> rfl

/-- The index of the next record, moved on by a record (R817). -/
theorem get_lifeRecord_index (hrise : keysRise none s.regs = true) (t : LifeType) (measure unit before after : Nat) :
    (s.lifeRecord t measure unit before after).get R.AGE_LOG_WR_IDX = (s.get R.AGE_LOG_WR_IDX + 1) % 8192 := by
  have hmoved (a : Nat) (ws : List Nat) (i : Nat) : ((s.writeWords a ws).put R.AGE_LOG_WR_IDX i).get R.AGE_LOG_WR_IDX = i % 8192 :=
    get_put_same (by rw [State.writeWords, State.writeBytes_regs]; exact hrise) _ _
  unfold State.lifeRecord
  extract_lets i ws s1 s2
  have h2 : s2.get R.AGE_LOG_WR_IDX = (s.get R.AGE_LOG_WR_IDX + 1) % 8192 := by
    unfold s2
    split
    · exact (get_put_other (by decide) _ _).trans (hmoved _ _ _)
    · exact hmoved _ _ _
  cases t with
  | spare => exact (get_raise_other (by decide) (by decide) _).trans h2
  | margin => exact (get_raise_other (by decide) (by decide) _).trans h2
  | noSpare => exact (get_raise_other (by decide) (by decide) _).trans h2
  | budget => exact (get_raise_other (by decide) (by decide) _).trans h2
  | refresh => exact h2
  | ret => exact h2

/-- The registers that a record moves beside ASTAT. -/
theorem get_lifeRecord_refresh {G : Field} (hidx : G.key ≠ R.AGE_LOG_WR_IDX.key) (hwrapped : G.key ≠ R.AGE_LOG_WR_WRAPPED.key) (s : State) :
    (s.lifeRecord .refresh measure unit before after).get G = s.get G := by
  have hwrite (a : Nat) (ws : List Nat) (i : Nat) : ((s.writeWords a ws).put R.AGE_LOG_WR_IDX i).get G = s.get G := by
    rw [get_put_other hidx, State.writeWords, State.get, State.writeBytes_regs]
    rfl
  unfold State.lifeRecord
  dsimp only
  split
  · rw [get_put_other hwrapped, hwrite]
  · exact hwrite _ _ _

end

end Sys2Proof.Machine
end

section
namespace Sys2Proof.Machine

/-! ## The pages of the security glade in service -/

section
variable {s : State} (h : s.inService = true)
include h

theorem secUp_inService : s.secUp = true := by
  simp [State.secUp, inService_common h (show 2 ≤ 10 by decide), inService_l4 h]

/-- A write with an action of its own to the SEC or NVM page. -/
theorem commanded_security {addr : Nat} (ha : addr / 0x1000 = 2 ∨ addr / 0x1000 = 3) (f : State → State) : s.commanded addr f = f s := by
  have hpage : pageGlade addr = some 2 := by
    obtain ha | ha := ha <;> simp [pageGlade, ha]
  have habs : pageAbsent s.variant addr = false := by
    obtain ha | ha := ha <;> simp [pageAbsent, ha]
  exact commanded_inService h hpage (inService_common h (by decide)) habs f

end

/-! ## Settings stored and loaded (R775 to R778) -/

theorem partSize_settingsU : partSize 0 = 0x60000 := rfl
theorem partSize_settingsP : partSize 1 = 0x20000 := rfl
theorem ramOfs_settingsU : ramOfs 0 = 0 := rfl
theorem ramOfs_settingsP : ramOfs 1 = 0x60000 := rfl

theorem nvmBase_le_copyBase (p c : Nat) : nvmBase ≤ copyBase p c := by
  rw [copyBase, Nat.add_assoc]
  exact Nat.le_add_right _ _

section
variable {s : State}

theorem newestCopy_of_nvm {t : State} (h : t.nvm = s.nvm) (p : Nat) : t.newestCopy p = s.newestCopy p := by
  rw [State.newestCopy, h, State.newestCopy]

theorem readQbuf_eq (s : State) : s.readQbuf = { s with flt := s.readQbuf.flt } := eccRead_eq _ _ _ _

theorem readSettings_eq (s : State) : s.readSettings = { s with flt := s.readSettings.flt } := by
  unfold State.readSettings
  rw [eccRead_eq, readQbuf_eq]

theorem readSettings_good (hq : s.badIn (qbuf + 0x400) 0x400 = []) (hset : s.badIn (ramBase + ramOfs 1) (partSize 1) = []) : s.readSettings = s := by
  rw [State.readSettings, State.readQbuf, eccRead_good hq, eccRead_good hset]

/-- A wear count moves the counts and the collector's inbox. -/
theorem wearOne_eq (k : Nat) (s : State) :
    s.wearOne k = { s with nvm := { s.nvm with wear := tset 0 s.nvm.wear k (tget 0 s.nvm.wear k + 1) }, flt := (s.wearOne k).flt } := by
  unfold State.wearOne
  dsimp only
  split <;> rfl

theorem storeBytes_nvm (p c : Nat) (s : State) : (s.storeBytes p c).nvm = s.nvm := by
  unfold State.storeBytes
  split
  · rw [State.writeBytes_nvm]
    rfl
  · rw [eccCopy_eq]

theorem storeBytes_other {p c a : Nat} (ha : a < copyBase p c ∨ copyBase p c + partSize p ≤ a) (s : State) :
    (s.storeBytes p c).mem.read a = s.mem.read a := by
  unfold State.storeBytes
  split
  · next hp =>
    subst hp
    refine (mem_writeBytes_other ?_).trans rfl
    rw [length_fixBytes]
    exact ha
  · exact eccCopy_other ha _ s

theorem storeBytes_same {p c i : Nat} (hp : p ≠ 2) (hmem : s.mem.wf = true) (hbad : s.badIn (ramBase + ramOfs p) (partSize p) = []) (hi : i < partSize p) :
    (s.storeBytes p c).mem.read (copyBase p c + i) = s.mem.read (ramBase + ramOfs p + i) := by
  rw [State.storeBytes, if_neg hp, eccCopy_good hbad, Memory.read_copyN_same hmem hi]

/-- What an accepted STORE leaves: the erased copy counted, and the RAM copy in it. -/
theorem storeBegin_shows {p c : Nat} (hc : c = 1 - s.newestCopy p) (hwear : keysRise none s.nvm.wear = true) (hmem : s.mem.wf = true) :
    let t := s.storeBegin p
    t.nvm.store = some (p, c) ∧ t.nvm.newest = s.nvm.newest ∧ tget 0 t.nvm.wear (2 * p + c) = tget 0 s.nvm.wear (2 * p + c) + 1
      ∧ (p ≠ 2 → s.badIn (ramBase + ramOfs p) (partSize p) = [] → ∀ i, i < partSize p → t.mem.read (copyBase p c + i) = s.mem.read (ramBase + ramOfs p + i))
      ∧ ∀ a, (a < copyBase p c ∨ copyBase p c + partSize p ≤ a) → t.mem.read a = s.mem.read a := by
  subst hc
  unfold State.storeBegin
  dsimp only
  rw [wearOne_eq, storeBytes_nvm]
  have hworn := tget_tset_same (d := 0) hwear (2 * p + (1 - s.newestCopy p)) (tget 0 s.nvm.wear (2 * p + (1 - s.newestCopy p)) + 1)
  exact ⟨rfl, rfl, hworn, fun hp hbad i hi => storeBytes_same (s := State.modNvm _ _) hp hmem hbad hi, fun a ha => storeBytes_other ha _⟩

/-- One partition loaded: its mirror in the RAM copy, and nothing else of memory. -/
theorem loadPart_eq (p : Nat) (s : State) : s.loadPart p
    = { s with mem := (s.loadPart p).mem, memBad := (s.loadPart p).memBad, free := (s.loadPart p).free, flt := (s.loadPart p).flt } := eccCopy_eq _ _ _ _ _

theorem loadPart_other {p a : Nat} (ha : a < ramBase + ramOfs p ∨ ramBase + ramOfs p + partSize p ≤ a) (s : State) :
    (s.loadPart p).mem.read a = s.mem.read a := eccCopy_other ha _ s

theorem loadPart_same {p i : Nat} (hmem : s.mem.wf = true) (hbad : s.badIn (copyBase p (s.newestCopy p)) (partSize p) = []) (hi : i < partSize p) :
    (s.loadPart p).mem.read (ramBase + ramOfs p + i) = s.mem.read (copyBase p (s.newestCopy p) + i) := by
  rw [State.loadPart, eccCopy_good hbad, Memory.read_copyN_same hmem hi]

/-- A load without an uncorrectable word marks none. -/
theorem loadPart_badIn {p a n : Nat} (hgood : s.badIn (copyBase p (s.newestCopy p)) (partSize p) = []) (hbad : s.badIn a n = []) :
    (s.loadPart p).badIn a n = [] := by
  have hsub : ∀ w ∈ (s.loadPart p).memBad, w ∈ s.memBad := by
    unfold State.loadPart State.eccCopy
    rw [hgood]
    dsimp only [List.filter_nil, List.foldl_nil]
    rw [eccRead_eq]
    exact fun w hw => (List.mem_filter.mp hw).1
  refine List.filter_eq_nil_iff.mpr fun w hw => ?_
  exact List.filter_eq_nil_iff.mp hbad w (hsub w hw)

theorem loadBoth_other {a : Nat} (ha : a < ramBase ∨ ramBase + 0x80000 ≤ a) (s : State) : ((s.loadPart 0).loadPart 1).mem.read a = s.mem.read a := by
  rw [ramBase] at ha
  have h1 : a < ramBase + ramOfs 1 ∨ ramBase + ramOfs 1 + partSize 1 ≤ a := by
    rw [ramOfs_settingsP, partSize_settingsP, ramBase]
    omega
  have h0 : a < ramBase + ramOfs 0 ∨ ramBase + ramOfs 0 + partSize 0 ≤ a := by
    rw [ramOfs_settingsU, partSize_settingsU, ramBase]
    omega
  rw [loadPart_other h1, loadPart_other h0]

/-- Both settings partitions loaded: each mirror reads as its newest copy. -/
theorem loadBoth_same (hmem : s.mem.wf = true) (h0 : s.badIn (copyBase 0 (s.newestCopy 0)) (partSize 0) = [])
    (h1 : s.badIn (copyBase 1 (s.newestCopy 1)) (partSize 1) = []) {p i : Nat} (hp : p < 2) (hi : i < partSize p) :
    ((s.loadPart 0).loadPart 1).mem.read (ramBase + ramOfs p + i) = s.mem.read (copyBase p (s.newestCopy p) + i) := by
  have hnewest : (s.loadPart 0).newestCopy 1 = s.newestCopy 1 := newestCopy_of_nvm (by rw [loadPart_eq]) 1
  have hwf : (s.loadPart 0).mem.wf = true := by
    rw [State.loadPart, eccCopy_good h0]
    exact Memory.copyN_wf hmem _ _ _
  obtain rfl | rfl : p = 0 ∨ p = 1 := by omega
  · have hfirst := partSize_settingsU ▸ hi
    rw [loadPart_other (by rw [ramOfs_settingsU, ramOfs_settingsP]; omega), loadPart_same hmem h0 hi]
  · have hlow : copyBase 1 (s.newestCopy 1) + i ≥ ramBase + ramOfs 0 + partSize 0 := by
      have hbase := nvmBase_le_copyBase 1 (s.newestCopy 1)
      rw [nvmBase] at hbase
      rw [ramOfs_settingsU, partSize_settingsU, ramBase]
      omega
    rw [loadPart_same hwf (by rw [hnewest]; exact loadPart_badIn h0 h1) hi, hnewest, loadPart_other (Or.inr hlow)]

/-! ## The end of a STORE (R777, R790) -/

theorem dumpNow_other {a : Nat} (ha : a < histBase ∨ histBase + 0x70000 ≤ a) (s : State) : s.dumpNow.mem.read a = s.mem.read a := by
  unfold State.dumpNow
  dsimp only
  refine (Memory.read_foldl_write_other (f := fun c : Nat × Byte => histBase + c.1) (g := fun c => c.2) (fun c hc => ?_) _).trans
    (Memory.read_zeroN_other ha)
  have hlt := of_decide_eq_true (List.mem_filter.mp hc).2
  omega

/-- What a waiting dump moves: memory, its bad words, and its own mark. -/
theorem dumpAfter_eq (s : State) :
    s.dumpAfter = { s with mem := s.dumpAfter.mem, memBad := s.dumpAfter.memBad, nvm := { s.nvm with dumpDue := false } } := by
  unfold State.dumpAfter
  split
  · rfl
  · next hdue =>
    have hno : false = s.nvm.dumpDue := (Bool.eq_false_iff.mpr hdue).symm
    rw [hno]

theorem dumpAfter_mem (s : State) : (s.nvm.dumpDue = false → s.dumpAfter.mem = s.mem)
    ∧ ∀ a, (a < histBase ∨ histBase + 0x70000 ≤ a) → s.dumpAfter.mem.read a = s.mem.read a := by
  unfold State.dumpAfter
  split
  · next hdue => exact ⟨fun hno => absurd hdue (by simp [hno]), fun a ha => dumpNow_other ha _⟩
  · exact ⟨fun _ => rfl, fun _ _ => rfl⟩

end

/-! ## STORE, case by case -/

section
variable {s : State} (h : s.inService = true) {p : Nat}
include h

theorem exec_store (p : Nat) : exec (.store p) s = .next (storeEffect p s) :=
  congrArg Host.Outcome.next (commanded_security h (Or.inr (by decide)) (storeEffect p))

theorem storeEffect_absent (hp : 2 < p) : storeEffect p s = s.config R.NVM_CTRL_PART.addr := by
  simp [storeEffect, secUp_inService h, hp]

theorem storeEffect_busy (hp : p ≤ 2) (hbusy : s.nvmBusy = true) :
    storeEffect p s = ((s.put R.NVM_CTRL_PART p).put R.NVM_RESULT_CODE 4).config R.NVM_CTRL_STORE.addr := by
  simp [storeEffect, secUp_inService h, Nat.not_lt.mpr hp, hbusy]

theorem storeEffect_unsigned (hbusy : s.nvmBusy = false) (hset : s.settingsOk = false) : storeEffect 1 s
    = (((((s.put R.NVM_CTRL_PART 1).readSettings.put R.NVM_RESULT_CODE 1).raise R.SEC_EVT_STORE_SIG).raise R.NVM_NSTAT_STORE_FAIL).secEvent) := by
  simp [storeEffect, secUp_inService h, hbusy, hset]

theorem storeEffect_worn (hp : p ≤ 2) (hbusy : s.nvmBusy = false) (hset : p ≠ 1 ∨ s.settingsOk = true)
    (hwear : 100000 ≤ tget 0 s.nvm.wear (2 * p + (1 - s.newestCopy p)) + 1) :
    storeEffect p s = ((s.put R.NVM_CTRL_PART p).put R.NVM_RESULT_CODE 3).raise R.NVM_NSTAT_ENDUR := by
  have hsigned : ¬ (p = 1 ∧ s.settingsOk = false) := fun ⟨hp, hno⟩ => hset.elim (absurd hp) (absurd · (by simp [hno]))
  simp [storeEffect, secUp_inService h, Nat.not_lt.mpr hp, hbusy, hsigned, hwear]

theorem storeEffect_accepted (hp : p ≤ 2) (hbusy : s.nvmBusy = false) (hset : p ≠ 1 ∨ s.settingsOk = true)
    (hwear : tget 0 s.nvm.wear (2 * p + (1 - s.newestCopy p)) + 1 < 100000) :
    storeEffect p s = (s.put R.NVM_CTRL_PART p).storeBegin p := by
  have hsigned : ¬ (p = 1 ∧ s.settingsOk = false) := fun ⟨hp, hno⟩ => hset.elim (absurd hp) (absurd · (by simp [hno]))
  simp [storeEffect, secUp_inService h, Nat.not_lt.mpr hp, hbusy, hsigned, Nat.not_le.mpr hwear]

/-- What a STORE of settings P without a right signature shows (R776). -/
theorem storeUnsigned_shows (hbusy : s.nvmBusy = false) (hset : s.settingsOk = false) :
    let t := storeEffect 1 s
    t.nvm = s.nvm ∧ t.get R.NVM_RESULT_CODE = 1 ∧ t.get R.SEC_EVT_STORE_SIG = 1 ∧ t.get R.NVM_NSTAT_STORE_FAIL = 1
      ∧ t.mem = s.mem ∧ { cls := .sec, unit := 0x0200 } ∈ t.flt.inbox ∧ (s.badIn (qbuf + 0x400) 0x400 = [] → s.badIn (ramBase + ramOfs 1) (partSize 1) = [] →
        t.flt.inbox = s.flt.inbox ++ [{ cls := .sec, unit := 0x0200 }]) := by
  let s1 := ((s.put R.NVM_CTRL_PART 1).readSettings.put R.NVM_RESULT_CODE 1).raise R.SEC_EVT_STORE_SIG
  have hrise := inService_regsRise h
  have hregs : (s.put R.NVM_CTRL_PART 1).readSettings.regs = (s.put R.NVM_CTRL_PART 1).regs := by rw [readSettings_eq]
  have hget (G : Field) : (storeEffect 1 s).get G = (s1.raise R.NVM_NSTAT_STORE_FAIL).get G := by
    rw [storeEffect_unsigned h hbusy hset]
    rfl
  have hinbox : (storeEffect 1 s).flt.inbox = (s.put R.NVM_CTRL_PART 1).readSettings.flt.inbox ++ [{ cls := .sec, unit := 0x0200 }] := by
    rw [storeEffect_unsigned h hbusy hset]
    change (s1.raise R.NVM_NSTAT_STORE_FAIL).flt.inbox ++ _ = _
    rw [State.raise_flt, State.raise_flt]
    rfl
  have hkept : (storeEffect 1 s).nvm = s.nvm ∧ (storeEffect 1 s).mem = s.mem := by
    rw [storeEffect_unsigned h hbusy hset, readSettings_eq]
    simp [State.secEvent]
  refine ⟨hkept.1, ?_, ?_, ?_, hkept.2, ?_, fun hq hram => ?_⟩
  · rw [hget, get_raise_other (by decide) (by decide), get_raise_other (by decide) (by decide), get_put_same (hregs ▸ regs_put_rise hrise _ _)]
    rfl
  · rw [hget, get_raise_other (by decide) (by decide), get_raise_same (by decide) (by decide) rfl]
  · rw [hget, get_raise_same (by decide) (by decide) rfl]
  · rw [hinbox]
    exact List.mem_append_right _ (List.mem_singleton.mpr rfl)
  · rw [hinbox, readSettings_good (s := s.put R.NVM_CTRL_PART 1) hq hram]
    rfl

end

section
variable {s : State} (h : s.inService = true) {p c : Nat}

/-- An ended STORE of settings P counts (R776). -/
def State.storeCounted (p : Nat) (s : State) : State := if p = 1 then s.addTo R.NVM_SEQ_STORE_SEQ 1 else s

/-- A STORE that has ended, before a dump that waits for it. -/
def State.storeEnded (ok : Bool) (p c : Nat) (s : State) : State :=
  if ok then
    (((s.storeCounted p).modNvm (fun x => { x with store := none, newest := tset 0 x.newest p c, pref := if p = 2 then x.prefNew else x.pref })).put
      R.NVM_RESULT_CODE 0).raise R.NVM_NSTAT_STORE_DONE
  else
    (((s.storeCounted p).modNvm (fun x => { x with store := none, badCopy := addKey (2 * p + c) x.badCopy })).put R.NVM_RESULT_CODE 2).raise
      R.NVM_NSTAT_STORE_FAIL

include h

theorem storeDoneEffect_eq (hstore : s.nvm.store = some (p, c)) (ok : Bool) : storeDoneEffect ok s = (s.storeEnded ok p c).dumpAfter := by
  simp only [storeDoneEffect, hstore, inService_common h (show 2 ≤ 10 by decide), if_true]
  rfl

theorem storeCounted_shows (p : Nat) : (s.storeCounted p).nvm = s.nvm ∧ (s.storeCounted p).mem = s.mem ∧ keysRise none (s.storeCounted p).regs = true := by
  unfold State.storeCounted
  split
  · exact ⟨rfl, rfl, regs_put_rise (inService_regsRise h) _ _⟩
  · exact ⟨rfl, rfl, inService_regsRise h⟩

theorem storeEnded_done (hnewest : keysRise none s.nvm.newest = true) :
    let t := s.storeEnded true p c
    tget 0 t.nvm.newest p = c ∧ t.nvm.store = none ∧ t.nvm.dumpDue = s.nvm.dumpDue ∧ t.mem = s.mem ∧ t.get R.NVM_RESULT_CODE = 0 ∧ t.get R.NVM_NSTAT_STORE_DONE = 1 := by
  have hlatest := tget_tset_same (d := 0) hnewest p c
  obtain ⟨hnvm, hmem, hrise⟩ := storeCounted_shows h p
  unfold State.storeEnded
  rw [if_pos rfl]
  refine ⟨?_, ?_, ?_, ?_, (get_raise_other (by decide) (by decide) _).trans (get_put_same (by exact hrise) _ _), get_raise_same (by decide) (by decide) rfl _⟩
  · simpa [State.modNvm, hnvm] using hlatest
  · simp [State.modNvm]
  · simp [State.modNvm, hnvm]
  · simpa [State.modNvm] using hmem

theorem storeEnded_failed : let t := s.storeEnded false p c
    t.nvm.newest = s.nvm.newest ∧ t.nvm.store = none ∧ t.nvm.dumpDue = s.nvm.dumpDue ∧ t.mem = s.mem ∧ t.get R.NVM_RESULT_CODE = 2 ∧ t.get R.NVM_NSTAT_STORE_FAIL = 1 := by
  obtain ⟨hnvm, hmem, hrise⟩ := storeCounted_shows h p
  unfold State.storeEnded
  rw [if_neg (by decide)]
  refine ⟨?_, ?_, ?_, ?_, (get_raise_other (by decide) (by decide) _).trans (get_put_same (by exact hrise) _ _), get_raise_same (by decide) (by decide) rfl _⟩
  · simp [State.modNvm, hnvm]
  · simp [State.modNvm]
  · simp [State.modNvm, hnvm]
  · simpa [State.modNvm] using hmem

end

/-! ## Images and the retention refresh (R779, R780) -/

section
variable {s : State}

theorem readSlot_eq (k : Nat) (s : State) : s.readSlot k = { s with flt := (s.readSlot k).flt } := eccRead_eq _ _ _ _

/-- A slot judged: its verification is over, and its flag shows the verdict. -/
def State.judged (F : Field) (s : State) : State :=
  ((s.readSlot s.writable).modNvm (fun x => { x with verify := false, imgWr := false, erased := [] })).raise F

theorem imgVerifiedEffect_good (h : s.inService = true) (hverify : s.nvm.verify = true) {v : Nat} (hv : s.slotCheck s.writable = .inl v) :
    imgVerifiedEffect s.writable s = s.judged R.NVM_NSTAT_IMG_OK := by
  simp only [imgVerifiedEffect, inService_common h (show 2 ≤ 10 by decide), hverify, Bool.and_self, decide_true, if_true, hv]
  rfl

theorem imgVerifiedEffect_bad (h : s.inService = true) (hverify : s.nvm.verify = true) {F : Field} (hF : s.slotCheck s.writable = .inr F) :
    imgVerifiedEffect s.writable s = s.judged R.NVM_NSTAT_IMG_BAD := by
  simp only [imgVerifiedEffect, inService_common h (show 2 ≤ 10 by decide), hverify, Bool.and_self, decide_true, if_true, hF]
  rfl

theorem judged_shows (F : Field) (s : State) :
    let t := s.judged F
    t.nvm = { s.nvm with verify := false, imgWr := false, erased := [] } ∧ t.mem = s.mem
      ∧ (s.badIn (slotBase s.writable) (imageSize (s.slotHeader s.writable)) = [] → t.flt = s.flt)
      ∧ ∀ G : Field, G.key ≠ F.key → G.key ≠ 32 * (pageOf F.addr + 0x14) → t.get G = s.get G := by
  unfold State.judged
  refine ⟨?_, ?_, fun hgood => ?_, fun G hG hirq => ?_⟩
  · rw [readSlot_eq]
    simp [State.modNvm]
  · rw [readSlot_eq]
    simp [State.modNvm]
  · rw [State.readSlot, eccRead_good hgood]
    simp [State.modNvm]
  · rw [get_raise_other hG hirq, readSlot_eq]
    rfl

/-- A sector rewritten: counted and logged, with no event. -/
theorem refreshed_shows (hrise : keysRise none s.regs = true) :
    let t := s.refreshed
    t.get R.NVM_WEAR_REFRESH = (s.get R.NVM_WEAR_REFRESH + 1) % 256 ∧ t.get R.AGE_LOG_WR_IDX = (s.get R.AGE_LOG_WR_IDX + 1) % 8192 ∧ t.flt = s.flt
      ∧ ∀ a, (a < logBase + 32 * s.get R.AGE_LOG_WR_IDX ∨ logBase + 32 * s.get R.AGE_LOG_WR_IDX + 32 ≤ a) → t.mem.read a = s.mem.read a := by
  let s1 := (s.modNvm (fun x => { x with refreshAt := some s.elapsed })).addTo R.NVM_WEAR_REFRESH 1
  have hidx : s1.get R.AGE_LOG_WR_IDX = s.get R.AGE_LOG_WR_IDX := get_put_other (by decide) _ _
  refine ⟨?_, ?_, lifeRecord_flt (s := s1), fun a ha => ?_⟩
  · refine (get_lifeRecord_refresh (by decide) (by decide) s1).trans ?_
    exact get_put_same (F := R.NVM_WEAR_REFRESH) hrise _
  · refine (get_lifeRecord_index (s := s1) (regs_put_rise hrise _ _) .refresh _ _ _ _).trans ?_
    rw [hidx]
  · have hmem := lifeRecord_mem (s := s1) (t := .refresh) (measure := s.freeNat 4) (unit := nvmUnit) (before := (Config.freeValue 32 (s.free + 1)).toNat)
      (after := (Config.freeValue 32 (s.free + 2)).toNat)
    change (s1.lifeRecord .refresh _ _ _ _).mem.read a = _
    rw [hmem, Memory.read_writeN_other]
    · rfl
    · rw [length_lifeBytes, State.lifeAt, hidx]
      exact ha

end

section
variable {s : State} {k : Nat} {r : EccResult}

theorem refreshEffect_none (hk : 2048 ≤ k ∨ s.refreshWaits k = true) : refreshEffect k r s = s := by
  obtain hk | hk := hk
  · simp [refreshEffect, Nat.not_lt.mpr hk]
  · simp [refreshEffect, hk]

variable (h : s.inService = true)
include h

theorem refreshEffect_bad (hk : k < 2048) (hwait : s.refreshWaits k = false) (hbad : r = .uncorrectable ∨ s.badIn (nvmBase + 4096 * k) 4096 ≠ []) :
    refreshEffect k r s = ((s.modNvm (fun x => { x with refreshAt := some s.elapsed })).raise R.NVM_NSTAT_REFRESH_ERR).event .mem nvmUnit 0 := by
  simp only [refreshEffect, inService_common h (show 2 ≤ 10 by decide), hk, hwait, decide_true, Bool.not_false, Bool.and_self, if_true, if_pos hbad]

theorem refreshEffect_good (hk : k < 2048) (hwait : s.refreshWaits k = false) (hr : r ≠ .uncorrectable) (hbad : s.badIn (nvmBase + 4096 * k) 4096 = []) :
    refreshEffect k r s = if r = .corrected then s.refreshed.event0 .mem nvmUnit 0 else s.refreshed := by
  have hgood : ¬ (r = .uncorrectable ∨ s.badIn (nvmBase + 4096 * k) 4096 ≠ []) := not_or.mpr ⟨hr, not_not.mpr hbad⟩
  simp only [refreshEffect, inService_common h (show 2 ≤ 10 by decide), hk, hwait, decide_true, Bool.not_false, Bool.and_self, if_true, if_neg hgood]

end

/-- Settles O59: the NVM controller, one case of a command after the other. -/
theorem nvmController : Obligations.NvmController := by
  intro s h hwear hnewest
  have hrise := inService_regsRise h
  obtain ⟨-, -, -, -, -, -, hcanonical⟩ := State.inService_iff.mp h
  have hmem := (State.canonical_iff.mp hcanonical).1
  refine ⟨fun p => ⟨fun hp => ?_, fun hp => ⟨fun hbusy => ?_, fun hbusy hp1 hset => ?_, fun hbusy hset c hc => ⟨fun hworn => ?_, fun hworn => ?_⟩⟩⟩,
    fun ok => ⟨fun hnone => ?_, fun p c hstore hp => ⟨fun hok => ?_, fun hok => ?_⟩⟩, ?_, fun hverify => ?_, fun hverify => ?_,
    fun k => ⟨fun hno => ?_, fun hverify hk => ?_⟩, fun v => ⟨fun himg hverify => ?_, fun hbusy => ?_⟩,
    fun k r => ⟨fun hno => ?_, fun hk hwait => ⟨fun hbad => ?_, fun hr hgood => ?_⟩⟩⟩
  · rw [Reaches, exec_store h, storeEffect_absent h hp]
    exact ⟨_, rfl, rfl, rfl, rfl, R.NVM_CTRL_PART.addr, List.mem_append_right _ (List.mem_singleton.mpr rfl)⟩
  · rw [Reaches, exec_store h, storeEffect_busy h hp hbusy]
    exact ⟨_, rfl, rfl, get_put_same (s := s.put R.NVM_CTRL_PART p) (regs_put_rise hrise _ _) R.NVM_RESULT_CODE 4, rfl, List.mem_append_right _ (List.mem_singleton.mpr rfl)⟩
  · subst hp1
    exact ⟨_, exec_store h 1, storeUnsigned_shows h hbusy hset⟩
  · subst hc
    rw [Reaches, exec_store h, storeEffect_worn h hp hbusy hset hworn]
    exact ⟨_, rfl, by simp, (get_raise_other (by decide) (by decide) _).trans (get_put_same (regs_put_rise hrise _ _) _ _),
      get_raise_same (by decide) (by decide) rfl _, by simp⟩
  · subst hc
    rw [Reaches, exec_store h, storeEffect_accepted h hp hbusy hset hworn]
    exact ⟨_, rfl, storeBegin_shows (s := s.put R.NVM_CTRL_PART p) rfl hwear hmem⟩
  · have heffect : storeDoneEffect ok s = s := by rw [storeDoneEffect, hnone]
    exact congrArg Host.Outcome.next heffect
  · subst hok
    obtain ⟨hlatest, hdone, hdue, hkept, hcode, hflag⟩ := storeEnded_done h (p := p) (c := c) hnewest
    obtain ⟨hnodump, hdump⟩ := dumpAfter_mem (s.storeEnded true p c)
    rw [hkept] at hnodump hdump
    refine ⟨_, congrArg Host.Outcome.next (storeDoneEffect_eq h hstore true), ?_⟩
    rw [dumpAfter_eq]
    exact ⟨hlatest, hdone, hcode, hflag, fun hno => hnodump (hdue.trans hno), fun _ => ⟨rfl, hdump⟩⟩
  · subst hok
    obtain ⟨hlatest, hdone, hdue, hkept, hcode, hflag⟩ := storeEnded_failed h (p := p) (c := c)
    obtain ⟨hnodump, -⟩ := dumpAfter_mem (s.storeEnded false p c)
    rw [hkept] at hnodump
    refine ⟨_, congrArg Host.Outcome.next (storeDoneEffect_eq h hstore false), ?_⟩
    rw [dumpAfter_eq]
    exact ⟨hlatest, hdone, hcode, hflag, fun hno => hnodump (hdue.trans hno)⟩
  · have heffect : reloadEffect s = (s.loadPart 0).loadPart 1 := by rw [reloadEffect, secUp_inService h, if_pos rfl]
    have hparts : ((s.loadPart 0).loadPart 1).regs = s.regs ∧ ((s.loadPart 0).loadPart 1).nvm = s.nvm := by
      rw [loadPart_eq 1, loadPart_eq 0]
      exact ⟨rfl, rfl⟩
    refine ⟨_, congrArg Host.Outcome.next ((commanded_security h (Or.inr (by decide)) reloadEffect).trans heffect), hparts.1, hparts.2,
      fun p hp h0 h1 _ _ i hi => loadBoth_same hmem h0 h1 hp hi, fun a ha => loadBoth_other ha s⟩
  · have heffect : imgCommitEffect s = s := by simp [imgCommitEffect, hverify]
    exact congrArg Host.Outcome.next ((commanded_security h (Or.inr (by decide)) imgCommitEffect).trans heffect)
  · have heffect : imgCommitEffect s = s.modNvm (fun x => { x with verify := true }) := by simp [imgCommitEffect, hverify, secUp_inService h]
    exact ⟨_, congrArg Host.Outcome.next ((commanded_security h (Or.inr (by decide)) imgCommitEffect).trans heffect), rfl, rfl, rfl⟩
  · have heffect : imgVerifiedEffect k s = s := by
      obtain hno | hno := hno <;> simp [imgVerifiedEffect, hno]
    exact congrArg Host.Outcome.next heffect
  · subst hk
    cases hcheck : s.slotCheck s.writable with
    | inl v =>
      obtain ⟨hnvm, hmem, hgood, hother⟩ := judged_shows R.NVM_NSTAT_IMG_OK s
      exact ⟨_, congrArg Host.Outcome.next (imgVerifiedEffect_good h hverify hcheck), hnvm, hmem,
        ⟨get_raise_same (by decide) (by decide) rfl _, hother _ (by decide) (by decide)⟩, hgood⟩
    | inr F =>
      obtain ⟨hnvm, hmem, hgood, hother⟩ := judged_shows R.NVM_NSTAT_IMG_BAD s
      exact ⟨_, congrArg Host.Outcome.next (imgVerifiedEffect_bad h hverify hcheck), hnvm, hmem,
        ⟨get_raise_same (by decide) (by decide) rfl _, hother _ (by decide) (by decide)⟩, hgood⟩
  · have heffect : bootPrefEffect v s = s.put R.NVM_BOOT_PREF v := by simp [bootPrefEffect, secUp_inService h, himg, hverify]
    exact ⟨_, congrArg Host.Outcome.next ((commanded_security h (Or.inr (by decide)) (bootPrefEffect v)).trans heffect), get_put_same hrise _ _,
      regsKeptBut_put _ _ s, rfl, rfl⟩
  · have heffect : bootPrefEffect v s = s.config R.NVM_BOOT_PREF.addr := by
      obtain hbusy | hbusy := hbusy <;> simp [bootPrefEffect, secUp_inService h, hbusy]
    exact ⟨_, congrArg Host.Outcome.next ((commanded_security h (Or.inr (by decide)) (bootPrefEffect v)).trans heffect), rfl, rfl, rfl, rfl⟩
  · exact congrArg Host.Outcome.next (refreshEffect_none hno)
  · refine ⟨_, congrArg Host.Outcome.next (refreshEffect_bad h hk hwait hbad), ?_, ?_, ?_, ?_⟩
    · exact get_raise_same (F := R.NVM_NSTAT_REFRESH_ERR) (by decide) (by decide) rfl _
    · change ((State.modNvm _ s).raise R.NVM_NSTAT_REFRESH_ERR).flt.inbox ++ _ = _
      rw [State.raise_flt]
      rfl
    · exact State.raise_mem (State.modNvm _ s) _
    · exact get_raise_other (F := R.NVM_NSTAT_REFRESH_ERR) (by decide) (by decide) (State.modNvm _ s)
  · obtain ⟨hcount, hidx, hflt, hkept⟩ := refreshed_shows hrise (s := s)
    refine ⟨_, congrArg Host.Outcome.next (refreshEffect_good h hk hwait hr hgood), ?_⟩
    split
    · refine ⟨hcount, hidx, ?_, hkept⟩
      change s.refreshed.flt.inbox ++ _ = _
      rw [hflt]
      rfl
    · exact ⟨hcount, hidx, (congrArg FltSt.inbox hflt).trans (List.append_nil _).symm, hkept⟩

end Sys2Proof.Machine
end

section
namespace Sys2Proof.Machine

/-! ## Quotes (R772) -/

theorem length_msBytes (n v : Nat) : (msBytes n v).length = n := by
  simp [msBytes, length_leBytes]

theorem length_sha512 (m : List Byte) : (sha512 m).length = 64 := by
  simp [sha512, length_msBytes]

section
variable {s : State}

theorem length_quoteBody (nonce image settings : List Byte) : (s.quoteBody nonce image settings).length = 256 := by
  simp [State.quoteBody, length_sha512, length_fixBytes]

theorem take_quoteBody (nonce image settings : List Byte) : (s.quoteBody nonce image settings).take 64 = fixBytes 64 nonce := by
  unfold State.quoteBody
  rw [List.append_assoc, List.append_assoc, List.take_left' (length_fixBytes 64 nonce)]

/-- A hardware read moves the collector's inbox and the free values taken. -/
theorem readEcc_eq (a n : Nat) (s : State) : (s.readEcc a n).2 = { s with free := (s.readEcc a n).2.free, flt := (s.readEcc a n).2.flt } := by
  unfold State.readEcc
  split
  · rfl
  · rw [eccRead_eq]
    rfl

/-- A quote written: the body and the signature at QBUF (R772). -/
def State.quoteWritten (body : List Byte) (s : State) : State :=
  (((s.writeBytes (qbuf + 0x40) body).writeBytes (qbuf + 0x200) (fixBytes 512 (Config.quoteSig body))).modSec
    (fun x => { x with nonce := none, quote := body })).raise R.SEC_EVT_QUOTE_DONE

theorem quoteWritten_sec (body : List Byte) : (s.quoteWritten body).sec = { s.sec with nonce := none, quote := body } := by
  simp [State.quoteWritten, State.modSec]

theorem quoteWritten_flag (body : List Byte) : (s.quoteWritten body).get R.SEC_EVT_QUOTE_DONE = 1 :=
  get_raise_same (by decide) (by decide) rfl _

theorem quoteWritten_mem {body : List Byte} (hbody : body.length = 256) :
    (s.quoteWritten body).mem = (s.mem.writeN (qbuf + 0x40) body).writeN (qbuf + 0x200) (fixBytes 512 (Config.quoteSig body)) := by
  unfold State.quoteWritten
  rw [State.raise_mem]
  simp only [State.modSec]
  rw [writeBytes_aligned (by decide) (by rw [length_fixBytes]), writeBytes_aligned (by decide) (by rw [hbody])]

theorem quoteWritten_other {body : List Byte} (hbody : body.length = 256) {a : Nat} (h1 : a < qbuf + 0x40 ∨ qbuf + 0x140 ≤ a)
    (h2 : a < qbuf + 0x200 ∨ qbuf + 0x400 ≤ a) : (s.quoteWritten body).mem.read a = s.mem.read a := by
  rw [quoteWritten_mem hbody, Memory.read_writeN_other (by rw [length_fixBytes]; exact h2), Memory.read_writeN_other (by rw [hbody]; exact h1)]

theorem readN_congr {m m' : Memory} {a n : Nat} (h : ∀ x, a ≤ x → x < a + n → m.read x = m'.read x) : Memory.readN m a n = Memory.readN m' a n := by
  rw [Memory.readN_eq_map, Memory.readN_eq_map]
  refine List.map_congr_left fun j hj => h _ (Nat.le_add_right a j) ?_
  have hlt := List.mem_range.mp hj
  omega

theorem quoteWritten_body {body : List Byte} (hbody : body.length = 256) (hwf : s.mem.wf = true) :
    Memory.readN (s.quoteWritten body).mem (qbuf + 0x40) 256 = body := by
  have hkept : Memory.readN (s.quoteWritten body).mem (qbuf + 0x40) 256 = Memory.readN (s.mem.writeN (qbuf + 0x40) body) (qbuf + 0x40) 256 := by
    rw [quoteWritten_mem hbody]
    refine readN_congr fun x _ hx => Memory.read_writeN_other (Or.inl ?_)
    omega
  have hsame := Memory.readN_writeN_same hwf (qbuf + 0x40) body
  rw [hbody] at hsame
  exact hkept.trans hsame

variable (h : s.inService = true) {n : List Byte} (hn : s.sec.nonce = some n)
include h hn

/-- The end of a quote: after its hardware reads it is written over what they gave. -/
theorem quoteDoneEffect_shows : ∃ t : State, ∃ img set : List Byte, t.regs = s.regs ∧ t.mem = s.mem ∧ t.sec = s.sec
    ∧ quoteDoneEffect s = t.quoteWritten (t.quoteBody n img set)
    ∧ (s.memBad = [] → img = (if s.booted = true then Memory.readN s.mem (slotBase (s.get R.SEC_STATUS_SLOT)) (4096 + s.sec.imgLen) else [])
      ∧ set = Memory.readN s.mem (copyBase 0 (s.newestCopy 0)) (partSize 0) ++ Memory.readN s.mem (copyBase 1 (s.newestCopy 1)) (partSize 1)) := by
  let img := if s.booted then s.readEcc (slotBase (s.get R.SEC_STATUS_SLOT)) (4096 + s.sec.imgLen) else ([], s)
  let u := img.2.readStored 0
  let p := u.2.readStored 1
  have himg : ∃ free flt, img.2 = { s with free, flt } := by
    unfold img
    split
    · exact ⟨_, _, readEcc_eq _ _ s⟩
    · exact ⟨_, _, rfl⟩
  obtain ⟨free0, flt0, himg⟩ := himg
  have hu : u.2 = { s with free := u.2.free, flt := u.2.flt } := by
    have hread : u.2 = { img.2 with free := u.2.free, flt := u.2.flt } := readEcc_eq _ _ img.2
    rw [hread, himg]
  have hp : p.2 = { s with free := p.2.free, flt := p.2.flt } := by
    have hread : p.2 = { u.2 with free := p.2.free, flt := p.2.flt } := readEcc_eq _ _ u.2
    rw [hread, hu]
  have heffect : quoteDoneEffect s = p.2.quoteWritten (p.2.quoteBody n img.1 (u.1 ++ p.1)) := by
    simp only [quoteDoneEffect, hn, inService_common h (show 2 ≤ 10 by decide), if_true]
    rfl
  refine ⟨p.2, img.1, u.1 ++ p.1, by rw [hp], by rw [hp], by rw [hp], heffect, fun hbad => ?_⟩
  have hi : img = (if s.booted = true then Memory.readN s.mem (slotBase (s.get R.SEC_STATUS_SLOT)) (4096 + s.sec.imgLen) else [], s) := by
    unfold img
    split
    · exact readEcc_good (badIn_nil hbad _ _)
    · rfl
  have hu : u = (Memory.readN s.mem (copyBase 0 (s.newestCopy 0)) (partSize 0), s) := by
    unfold u
    rw [hi]
    exact readEcc_good (badIn_nil hbad _ _)
  have hp : p = (Memory.readN s.mem (copyBase 1 (s.newestCopy 1)) (partSize 1), s) := by
    unfold p
    rw [hu]
    exact readEcc_good (badIn_nil hbad _ _)
  rw [hi, hu, hp]
  exact ⟨rfl, rfl⟩

end

/-! ## Return preparation (R788, R790, R800) -/

section
variable {s : State}

/-- `WornFrom x y`: `y` is `x` after erases that have been counted, with the events where a count comes to its limit. -/
def WornFrom (x y : State) : Prop := ∃ wear imgWear flt, y = { x with nvm := { x.nvm with wear, imgWear }, flt }

theorem WornFrom.refl (x : State) : WornFrom x x := ⟨_, _, _, rfl⟩

theorem WornFrom.trans {x y z : State} (h : WornFrom x y) (k : WornFrom y z) : WornFrom x z := by
  obtain ⟨wear, imgWear, flt, rfl⟩ := h
  obtain ⟨wear', imgWear', flt', rfl⟩ := k
  exact ⟨wear', imgWear', flt', rfl⟩

theorem wornFrom_wearOne (k : Nat) (x : State) : WornFrom x (x.wearOne k) := ⟨_, _, _, wearOne_eq k x⟩

theorem wornFrom_wearSectors (l : List Nat) (x : State) : WornFrom x (x.wearSectors l) := by
  unfold State.wearSectors
  dsimp only
  split <;> exact ⟨_, _, _, rfl⟩

/-- The first four bytes of a record are its first word. -/
theorem getElem?_lifeBytes {t : LifeType} {measure unit before after k : Nat} (hk : k < 4) : (s.lifeBytes t measure unit before after)[k]?
    = some (BitVec.ofNat 8 ((t.code * 2 ^ 28 + measure * 2 ^ 24 + unit % 65536) / 256 ^ k)) := by
  unfold State.lifeBytes State.lifeWords
  dsimp only
  rw [List.cons_append, List.flatMap_cons, List.getElem?_append_left (by rw [length_leBytes]; exact hk), getElem?_leBytes hk]

/-- Return preparation done, with the memory and the settings it clears, and the erases counted. -/
def State.returnCleared (img : Bool) (s : State) : State :=
  let m1 := Memory.zeroN s.mem (copyBase 0 0) (histBase - copyBase 0 0)
  { (s.clearBad (copyBase 0 0) (histBase - copyBase 0 0)).clearBad (slotBase 0) (if img then 0x600000 else 0) with
    mem := if img then Memory.zeroN m1 (slotBase 0) 0x600000 else m1
    nvm := { s.nvm with pref := 0, badCopy := [] }
    sec := { s.sec with retImg := none, revoked := true } }

/-- The return record written, and the part marked as prepared (R788). -/
def State.returnMarked (r : List Byte) (s : State) : State :=
  (((s.clearBad retBase 0x4000).writeBytes retBase (fixBytes 0x4000 r)).put R.SEC_STATUS_RETURNED 1).raise R.SEC_EVT_RET_DONE

/-- The log's record of a return preparation that began in `s` (R787). -/
def State.returnLogged (s x : State) : State :=
  (x.lifeRecord .ret (s.freeNat 4) onyxUnit (Config.freeValue 32 (s.free + 1)).toNat (Config.freeValue 32 (s.free + 2)).toNat).useFree 3

theorem returnDoneEffect_eq (h : s.inService = true) {img : Bool} (himg : s.sec.retImg = some img) :
    ∃ x r, WornFrom (s.returnCleared img) x ∧ returnDoneEffect s = (s.returnLogged x).returnMarked r := by
  let s1 := forAll [0, 1, 2, 3, 4, 5] State.wearOne (s.returnCleared img)
  let x := if img then s1.wearSectors (List.range 1536) else s1
  have hworn : WornFrom (s.returnCleared img) x := by
    have h1 : WornFrom (s.returnCleared img) s1 := forAll_induction (WornFrom.refl _) fun k _ y hy => hy.trans (wornFrom_wearOne k y)
    unfold x
    split
    · exact h1.trans (wornFrom_wearSectors _ _)
    · exact h1
  let y := s.returnLogged x
  refine ⟨x, Config.returnRecord y.nowNs y.sec.boots (y.get R.NVM_SEQ_STORE_SEQ) y.nvm.wear y.nvm.imgWear y.sec.quote, hworn, ?_⟩
  simp only [returnDoneEffect, himg, inService_common h (show 2 ≤ 10 by decide), if_true]
  rfl

theorem returnMarked_mem (r : List Byte) (s : State) : (s.returnMarked r).mem = s.mem.writeN retBase (fixBytes 0x4000 r) := by
  unfold State.returnMarked
  rw [State.raise_mem, State.put_mem, writeBytes_aligned (by decide) (by rw [length_fixBytes])]
  rfl

theorem get_returnMarked_other {G : Field} (hdone : G.key ≠ R.SEC_EVT_RET_DONE.key) (hirq : G.key ≠ 32 * (pageOf R.SEC_EVT_RET_DONE.addr + 0x14))
    (hmark : G.key ≠ R.SEC_STATUS_RETURNED.key) (r : List Byte) (s : State) : (s.returnMarked r).get G = s.get G := by
  unfold State.returnMarked
  rw [get_raise_other hdone hirq, get_put_other hmark, State.get, State.writeBytes_regs]
  rfl

theorem returnMarked_shows (r : List Byte) (s : State) : (s.returnMarked r).returned = true ∧ (s.returnMarked r).get R.SEC_EVT_RET_DONE = 1
    ∧ (s.returnMarked r).sec = s.sec ∧ (s.returnMarked r).nvm = s.nvm := by
  have hmark : (s.returnMarked r).get R.SEC_STATUS_RETURNED = 1 := (get_raise_other (by decide) (by decide) _).trans (get_put_value (by decide))
  refine ⟨by simp [State.returned, State.on, hmark], get_raise_same (by decide) (by decide) rfl _, ?_, ?_⟩
  · simp [State.returnMarked, State.clearBad]
  · simp [State.returnMarked, State.clearBad]

theorem lifeRecord_sec (t : LifeType) (measure unit before after : Nat) (s : State) :
    (s.lifeRecord t measure unit before after).sec = s.sec ∧ (s.lifeRecord t measure unit before after).nvm = s.nvm := by
  unfold State.lifeRecord State.writeWords
  cases t <;> dsimp only <;> split <;> exact ⟨by simp, by simp⟩

/-- What lies outside the place of the record and the return record is as the clearing left it. -/
theorem returned_other (x : State) (r : List Byte) {a : Nat} (hlog : a < x.lifeAt ∨ x.lifeAt + 32 ≤ a) (ha : a < retBase) :
    ((s.returnLogged x).returnMarked r).mem.read a = x.mem.read a := by
  rw [returnMarked_mem, Memory.read_writeN_other (Or.inl ha)]
  have hrecord : (s.returnLogged x).mem = x.mem.writeN x.lifeAt _ := lifeRecord_mem
  rw [hrecord, Memory.read_writeN_other (by rw [length_lifeBytes]; exact hlog)]

theorem returned_record {x : State} (hwf : x.mem.wf = true) (r : List Byte) {k : Nat} (hk : k < 4) (hplace : x.lifeAt + 32 ≤ retBase) :
    ((s.returnLogged x).returnMarked r).mem.read (x.lifeAt + k) = BitVec.ofNat 8 ((6 * 2 ^ 28 + s.freeNat 4 * 2 ^ 24 + 0x0200) / 256 ^ k) := by
  rw [returnMarked_mem, Memory.read_writeN_other (Or.inl (by omega))]
  have hrecord : (s.returnLogged x).mem = x.mem.writeN x.lifeAt _ := lifeRecord_mem
  rw [hrecord, Memory.read_writeN_same hwf (getElem?_lifeBytes hk)]
  rfl

theorem returnCleared_read (img : Bool) (a : Nat) (s : State) : (s.returnCleared img).mem.read a
    = if copyBase 0 0 ≤ a ∧ a < histBase then 0 else if img = true ∧ slotBase 0 ≤ a ∧ a < copyBase 0 0 then 0 else s.mem.read a := by
  have hsettings : copyBase 0 0 + (histBase - copyBase 0 0) = histBase := by decide
  have hslots : slotBase 0 + 0x600000 = copyBase 0 0 := by decide
  unfold State.returnCleared
  dsimp only
  cases img with
  | false => simp [Memory.read_zeroN, hsettings]
  | true =>
    rw [if_pos rfl, Memory.read_zeroN, Memory.read_zeroN, hsettings, hslots]
    by_cases h1 : copyBase 0 0 ≤ a ∧ a < histBase <;> by_cases h2 : slotBase 0 ≤ a ∧ a < copyBase 0 0 <;> simp [h1, h2]

theorem returnCleared_wf (h : s.mem.wf = true) (img : Bool) : (s.returnCleared img).mem.wf = true := by
  unfold State.returnCleared
  dsimp only
  split
  · exact Memory.zeroN_wf (Memory.zeroN_wf h _ _) _ _
  · exact Memory.zeroN_wf h _ _

theorem freeNat_lt (w : Nat) (s : State) : s.freeNat w < 2 ^ w := (Config.freeValue w s.free).isLt

end

/-! ## The SEC page, command by command -/

section
variable {s : State} (h : s.inService = true)
include h

/-- A command of the SEC page has its effect. -/
theorem next_security {addr : Nat} (ha : addr / 0x1000 = 2) {f : State → State} {t : State} (hf : f s = t) :
    Host.Outcome.next (s.commanded addr f) = (Host.Outcome.next t : Host.Outcome State Fault Refusal) :=
  congrArg Host.Outcome.next ((commanded_security h (Or.inl ha) f).trans hf)

theorem dbgChalEffect_eq (hlocked : s.on R.SEC_STATUS_DBG_LOCKED = false) (c : List Byte) :
    dbgChalEffect c s = (s.writeBytes (qbuf + 0x40) (fixBytes 64 c)).modSec (fun x => { x with chal := some (fixBytes 64 c) }) := by
  simp [dbgChalEffect, secUp_inService h, hlocked]

/-- The right answer to a challenge opens debug. -/
theorem dbgAuthEffect_right (hok : s.debugOk = true) :
    dbgAuthEffect s = (s.readQbuf.modSec (fun x => { x with chal := none })).put R.SEC_STATUS_DBG_OPEN 1 := by
  simp [dbgAuthEffect, secUp_inService h, hok]

/-- A failed answer: counted, flagged and reported, the third with debug locked out. -/
def State.authFailed (s : State) : State :=
  let n := min 3 (s.sec.dbgFails + 1)
  let s2 := ((s.modSec (fun x => { x with chal := none, dbgFails := n })).raise R.SEC_EVT_DBG_FAIL).secEvent
  if n = 3 then s2.put R.SEC_STATUS_DBG_LOCKED 1 else s2

theorem dbgAuthEffect_wrong (hno : s.debugOk = false) (hbad : s.memBad = []) : dbgAuthEffect s = s.authFailed := by
  have hread : s.readQbuf = s := eccRead_good (badIn_nil hbad _ _) _
  simp only [dbgAuthEffect, secUp_inService h, hno, hread, satTo_eq_min, if_true, Bool.false_eq_true, if_false]
  rfl

omit h in
theorem authFailed_shows (s : State) : let t := s.authFailed
    t.get R.SEC_STATUS_DBG_OPEN = s.get R.SEC_STATUS_DBG_OPEN ∧ t.sec = { s.sec with chal := none, dbgFails := min 3 (s.sec.dbgFails + 1) }
      ∧ t.get R.SEC_EVT_DBG_FAIL = 1 ∧ t.flt.inbox = s.flt.inbox ++ [{ cls := .sec, unit := 0x0200 }]
      ∧ (2 ≤ s.sec.dbgFails → t.get R.SEC_STATUS_DBG_LOCKED = 1) ∧ t.mem = s.mem := by
  let s1 := s.modSec (fun x => { x with chal := none, dbgFails := min 3 (s.sec.dbgFails + 1) })
  let s2 := (s1.raise R.SEC_EVT_DBG_FAIL).secEvent
  have hopen : s2.get R.SEC_STATUS_DBG_OPEN = s.get R.SEC_STATUS_DBG_OPEN := get_raise_other (F := R.SEC_EVT_DBG_FAIL) (by decide) (by decide) s1
  have hfail : s2.get R.SEC_EVT_DBG_FAIL = 1 := get_raise_same (F := R.SEC_EVT_DBG_FAIL) (by decide) (by decide) rfl s1
  have hsec : s2.sec = s1.sec := State.raise_sec s1 _
  have hinbox : s2.flt.inbox = s.flt.inbox ++ [{ cls := .sec, unit := 0x0200 }] := by
    change (s1.raise R.SEC_EVT_DBG_FAIL).flt.inbox ++ _ = _
    rw [State.raise_flt]
    rfl
  have hmem : s2.mem = s.mem := State.raise_mem s1 _
  have heq : s.authFailed = if min 3 (s.sec.dbgFails + 1) = 3 then s2.put R.SEC_STATUS_DBG_LOCKED 1 else s2 := rfl
  dsimp only
  rw [heq]
  split
  · exact ⟨(get_put_other (by decide) _ _).trans hopen, hsec, (get_put_other (by decide) _ _).trans hfail, hinbox, fun _ => get_put_value (by decide), hmem⟩
  · exact ⟨hopen, hsec, hfail, hinbox, fun hlast => by omega, hmem⟩

omit h in
theorem debugOk_without (hno : s.sec.chal = none ∨ s.sec.revoked = true) : s.debugOk = false := by
  unfold State.debugOk
  split
  · rfl
  · next c hc =>
    obtain hno | hno := hno
    · exact absurd hc (by simp [hno])
    · simp [State.keyIs, hno]

theorem retArmEffect_eq (v : Nat) :
    retArmEffect v s = s.arming (decide (v = 0x52455450 ∨ v = 0x52455451)) (decide (v = 0x52455451)) := by
  unfold retArmEffect
  rw [if_pos (secUp_inService h)]
  split
  · next hv => subst hv; rfl
  · split
    · next hv => subst hv; rfl
    · next h1 h2 => simp [h1, h2]

theorem arming_shows (b img : Bool) : (s.arming b img).sec = { s.sec with armed := b } ∧ (s.arming b img).get R.SEC_RET_ARM_IMG = b2n img
    ∧ RegsKeptBut [R.SEC_RET_ARM_IMG] s (s.arming b img) ∧ (s.arming b img).mem = s.mem := by
  refine ⟨rfl, (get_put_same (s := s.modSec _) (inService_regsRise h) _ _).trans ?_, fun G hG => get_put_other (hG _ (by simp)) _ _, rfl⟩
  cases img <;> rfl

theorem returnPrepEffect_armed (harmed : s.sec.armed = true) (hoff : s.arm.mode = .off) (hidle : s.nvmBusy = false) :
    returnPrepEffect s = (s.modSec (fun x => { x with retImg := some (s.on R.SEC_RET_ARM_IMG) })).arming false false := by
  simp [returnPrepEffect, State.returnPrepIn, secUp_inService h, harmed, hoff, hidle]

theorem returnPrepEffect_refused (hno : s.sec.armed = false ∨ s.arm.mode ≠ .off ∨ s.nvmBusy = true) :
    returnPrepEffect s = s.config R.SEC_CTRL_RETURN_PREP.addr := by
  have hjudged : (s.sec.armed && decide (s.arm.mode = .off) && !s.nvmBusy) = false := by
    obtain hno | hno | hno := hno <;> simp [hno]
  simp only [returnPrepEffect, State.returnPrepIn, secUp_inService h, hjudged, if_true, Bool.false_eq_true, if_false]
  exact configOnce_quiet rfl _

/-- What return preparation leaves (R788): settings and boot configuration cleared, the record in the log, and the history kept. -/
theorem returnDone_shows {img : Bool} (himg : s.sec.retImg = some img) :
    let t := returnDoneEffect s
    t.returned = true ∧ t.get R.SEC_EVT_RET_DONE = 1 ∧ t.sec = { s.sec with retImg := none, revoked := true } ∧ t.nvm.pref = 0
      ∧ (s.get R.AGE_LOG_WR_IDX < 8192 → ∀ a, copyBase 0 0 ≤ a → a < histBase → t.mem.read a = 0)
      ∧ (s.get R.AGE_LOG_WR_IDX < 8192 → ∀ r, r = logBase + 32 * s.get R.AGE_LOG_WR_IDX → t.get R.AGE_LOG_WR_IDX = (s.get R.AGE_LOG_WR_IDX + 1) % 8192
        ∧ (∀ a, histBase ≤ a → a < retBase → (a < r ∨ r + 32 ≤ a) → t.mem.read a = s.mem.read a)
        ∧ t.rd r 2 = 0x0200 ∧ (t.mem.read (r + 3)).toNat / 16 = 6)
      ∧ (s.get R.AGE_LOG_WR_IDX < 8192 → ∀ a, slotBase 0 ≤ a → a < copyBase 0 0 → t.mem.read a = if img = true then 0 else s.mem.read a) := by
  obtain ⟨x, r, ⟨wear, imgWear, flt, rfl⟩, heffect⟩ := returnDoneEffect_eq h himg
  let x : State := { s.returnCleared img with nvm := { (s.returnCleared img).nvm with wear, imgWear }, flt }
  obtain ⟨hreturned, hdone, hsec, hnvm⟩ := returnMarked_shows r (s.returnLogged x)
  have hlogged : (s.returnLogged x).sec = x.sec ∧ (s.returnLogged x).nvm = x.nvm := lifeRecord_sec _ _ _ _ _ x
  obtain ⟨-, -, -, -, -, -, hcanonical⟩ := State.inService_iff.mp h
  have hwf : x.mem.wf = true := returnCleared_wf (State.canonical_iff.mp hcanonical).1 img
  have hplace : x.lifeAt = logBase + 32 * s.get R.AGE_LOG_WR_IDX := rfl
  have hlog : logBase = 0xC0780000 := rfl
  have hret : retBase = 0xC07C0000 := rfl
  have hhist : histBase = 0xC0710000 := rfl
  have hcopy : copyBase 0 0 = 0xC0600000 := rfl
  have hread (a : Nat) : x.mem.read a = _ := returnCleared_read img a s
  rw [heffect]
  refine ⟨hreturned, hdone, hsec.trans hlogged.1, (congrArg NvmSt.pref (hnvm.trans hlogged.2)).trans rfl, fun hidx a ha1 ha2 => ?_, fun hidx r' hr' => ?_,
    fun hidx a ha1 ha2 => ?_⟩
  · rw [returned_other x r (by omega) (by omega), hread, if_pos ⟨ha1, ha2⟩]
  · subst hr'
    have hbyte {k : Nat} (hk : k < 4) := returned_record (s := s) hwf r hk (by omega)
    have hfree := freeNat_lt 4 s
    rw [hplace] at hbyte
    refine ⟨?_, fun a ha1 ha2 ha3 => ?_, ?_, ?_⟩
    · refine (get_returnMarked_other (by decide) (by decide) (by decide) r _).trans ?_
      have hrise := inService_regsRise h
      exact get_lifeRecord_index (s := x) hrise .ret _ _ _ _
    · rw [returned_other x r (hplace ▸ ha3) ha2, hread, if_neg (by omega), if_neg (by omega)]
    · have h0 := hbyte (k := 0) (by decide)
      have h1 := hbyte (k := 1) (by decide)
      simp only [State.rd, Memory.readN, leNat]
      rw [Nat.add_zero] at h0
      rw [h0, h1, BitVec.toNat_ofNat, BitVec.toNat_ofNat]
      omega
    · rw [hbyte (k := 3) (by decide), BitVec.toNat_ofNat]
      omega
  · rw [returned_other x r (by omega) (by omega), hread, if_neg (by omega)]
    cases img <;> simp [ha1, ha2]

end

/-- Settles O58: the root of trust, one command after the other. -/
theorem rootOfTrust : Obligations.RootOfTrust := by
  intro s h
  have hrise := inService_regsRise h
  obtain ⟨-, -, -, -, -, -, hcanonical⟩ := State.inService_iff.mp h
  have hwf := (State.canonical_iff.mp hcanonical).1
  have hup := inService_common h (show 2 ≤ 10 by decide)
  refine ⟨fun hno hbad => ?_, fun hno => ?_, fun n hn => ⟨?_, fun img set hbad himg hset => ?_, ?_⟩, fun c => ⟨fun hlocked => ?_, fun hlocked => ?_⟩,
    fun hok => ?_, fun hno hbad => ?_, debugOk_without, ?_, fun hslot => ?_, fun hslot => ?_, fun v => ?_, fun harmed => ?_, fun harmed => ?_,
    fun harmed hoff hidle => ?_, fun hno => ?_, fun hnone => ?_, fun img himg => ⟨_, rfl, returnDone_shows h himg⟩⟩
  · have heffect : quoteEffect s = s.modSec (fun x => { x with nonce := some (Memory.readN s.mem qbuf 64) }) := by
      simp only [quoteEffect, secUp_inService h, hno, if_true, readEcc_good (badIn_nil hbad _ _)]
    exact ⟨_, next_security h (by decide) heffect, rfl, rfl, rfl⟩
  · have heffect : quoteDoneEffect s = s := by rw [quoteDoneEffect, hno]
    exact congrArg Host.Outcome.next heffect
  · have heffect : quoteEffect s = s.config R.SEC_CTRL_QUOTE.addr := by simp only [quoteEffect, secUp_inService h, hn, if_true]
    exact ⟨_, next_security h (by decide) heffect, rfl, rfl, List.mem_append_right _ (List.mem_singleton.mpr rfl)⟩
  · obtain ⟨t, img', set', hregs, hmem, hsec, heffect, hread⟩ := quoteDoneEffect_shows h hn
    obtain ⟨himg', hset'⟩ := hread hbad
    have hbody : t.quoteBody n img' set' = s.quoteBody n img set := by
      rw [himg', hset', ← himg, ← hset]
      simp only [State.quoteBody, State.get, hregs, hsec]
    refine ⟨_, congrArg Host.Outcome.next heffect, ?_, ?_, take_quoteBody n img set⟩
    · rw [quoteWritten_sec, hsec, hbody]
    · rw [hbody]
      exact quoteWritten_body (length_quoteBody n img set) (hmem ▸ hwf)
  · obtain ⟨t, img, set, -, hmem, -, heffect, -⟩ := quoteDoneEffect_shows h hn
    exact ⟨_, congrArg Host.Outcome.next heffect, quoteWritten_flag _, fun a h1 h2 => (quoteWritten_other (length_quoteBody n img set) h1 h2).trans (by rw [hmem])⟩
  · have heffect : dbgChalEffect c s = s := by simp [dbgChalEffect, hlocked]
    exact next_security h (by decide) heffect
  · have hlen := length_fixBytes 64 c
    have hwritten : (s.writeBytes (qbuf + 0x40) (fixBytes 64 c)).mem = s.mem.writeN (qbuf + 0x40) (fixBytes 64 c) := by
      rw [writeBytes_aligned (by decide) (by rw [hlen])]
    have hback := Memory.readN_writeN_same hwf (qbuf + 0x40) (fixBytes 64 c)
    refine ⟨_, next_security h (by decide) (dbgChalEffect_eq h hlocked c), ?_, State.writeBytes_regs _ _ _, ?_, fun a ha => ?_⟩
    · simp [State.modSec]
    · change Memory.readN (s.writeBytes (qbuf + 0x40) (fixBytes 64 c)).mem _ _ = _
      rw [hwritten]
      rwa [hlen] at hback
    · change (s.writeBytes (qbuf + 0x40) (fixBytes 64 c)).mem.read a = _
      rw [hwritten, Memory.read_writeN_other (by rw [hlen]; exact ha)]
  · have heffect := dbgAuthEffect_right h hok
    rw [readQbuf_eq] at heffect
    exact ⟨_, next_security h (by decide) heffect, get_put_value (by decide), rfl, regsKeptBut_put _ _ s, rfl⟩
  · exact ⟨_, next_security h (by decide) (dbgAuthEffect_wrong h hno hbad), authFailed_shows s⟩
  · have heffect : dbgCloseEffect s = s.put R.SEC_STATUS_DBG_OPEN 0 := by simp [dbgCloseEffect, secUp_inService h]
    exact ⟨_, next_security h (by decide) heffect, get_put_same hrise _ _, regsKeptBut_put _ _ s, rfl, rfl⟩
  · have heffect : commitSvnEffect s = s.put R.SEC_STATUS_CNT (max (s.get R.SEC_STATUS_CNT) (s.get R.SEC_STATUS_SVN)) := by
      simp [commitSvnEffect, secUp_inService h, State.booted, hslot]
    exact ⟨_, next_security h (by decide) heffect, get_put_same hrise _ _, regsKeptBut_put _ _ s, rfl⟩
  · have heffect : commitSvnEffect s = s := by simp [commitSvnEffect, State.booted, Nat.not_lt.mpr hslot]
    exact next_security h (by decide) heffect
  · obtain ⟨hsec, hget, hregs, hmem⟩ := arming_shows h (decide (v = 0x52455450 ∨ v = 0x52455451)) (decide (v = 0x52455451))
    exact ⟨_, next_security h (by decide) (retArmEffect_eq h v), hsec, hget.trans (by simp [b2n]), hregs, hmem⟩
  · have heffect : retExpiredEffect s = s := by simp [retExpiredEffect, harmed]
    exact congrArg Host.Outcome.next heffect
  · have heffect : retExpiredEffect s = s.arming false false := by simp [retExpiredEffect, hup, harmed]
    exact ⟨_, congrArg Host.Outcome.next heffect, rfl, rfl⟩
  · exact ⟨_, next_security h (by decide) (returnPrepEffect_armed h harmed hoff hidle), rfl, rfl⟩
  · exact ⟨_, next_security h (by decide) (returnPrepEffect_refused h hno), rfl, rfl, rfl, rfl⟩
  · have heffect : returnDoneEffect s = s := by rw [returnDoneEffect, hnone]
    exact congrArg Host.Outcome.next heffect

end Sys2Proof.Machine
end

section
-- One proof after the other: side by side, their many threads would take more memory than the check has.
set_option Elab.async false
namespace Sys2Proof.Machine

/-! ## What a function moves

A foot names what may move: a mask, which puts the parts that may move to a default, and the keys of the register fields that may. That a
function keeps to its foot is one equation of masked states and the reads outside the keys, and it composes along the function's text.
-/

/-- The state without what nearly every function moves: registers, standing conditions, message counters and the collector's inbox. -/
def State.bare (s : State) : State :=
  { s with regs := [], conds := [], flt := { s.flt with inbox := [], inboxAt := [] }, host := { s.host with msix0 := 0, msix1 := 0 } }

/-- What may move. -/
structure Foot where
  mask : State → State
  keys : Nat → Bool
  bare : ∀ s : State, mask s.bare = mask s

/-- `Within F s t`: between `s` and `t` nothing has moved beside the foot `F`. -/
structure Within (F : Foot) (s t : State) : Prop where
  mask : F.mask t = F.mask s
  keys : ∀ G : Field, F.keys G.key = false → t.get G = s.get G

/-- A status bit may be raised, with the IRQ_STAT word of its page (R4). -/
def Foot.MayRaise (F : Foot) (G : Field) : Prop := F.keys G.key = true ∧ F.keys (32 * (pageOf G.addr + 0x14)) = true

/-- One foot lies in another. -/
structure Foot.Sub (A B : Foot) : Prop where
  mask : ∀ s : State, B.mask (A.mask s) = B.mask s
  keys : ∀ k, B.keys k = false → A.keys k = false

section
variable {F : Foot} {s₀ s t : State}

theorem Within.refl (F : Foot) (s : State) : Within F s s := ⟨rfl, fun _ _ => rfl⟩

theorem Within.trans {u : State} (h : Within F s t) (k : Within F t u) : Within F s u :=
  ⟨k.mask.trans h.mask, fun G hG => (k.keys G hG).trans (h.keys G hG)⟩

/-- What keeps to a foot keeps to a wider one. -/
theorem Within.widen {A : Foot} (h : Within A s t) (hsub : A.Sub F) : Within F s t :=
  ⟨(hsub.mask t).symm.trans ((congrArg F.mask h.mask).trans (hsub.mask s)), fun G hG => h.keys G (hsub.keys _ hG)⟩

theorem Within.then {A : Foot} (h : Within F s₀ s) (k : Within A s t) (hsub : A.Sub F) : Within F s₀ t := h.trans (k.widen hsub)

/-- A part of the mask moves. -/
theorem Within.move (h : Within F s₀ s) (hmask : F.mask t = F.mask s := by rfl) (hregs : t.regs = s.regs := by rfl) : Within F s₀ t :=
  h.trans ⟨hmask, fun G _ => by rw [State.get, hregs, State.get]⟩

theorem Within.ite {c : Prop} [Decidable c] (hs : Within F s₀ s) (ht : Within F s₀ t) : Within F s₀ (if c then s else t) := by
  split <;> assumption

theorem Within.thenIf {c : Prop} [Decidable c] (h : Within F s₀ s) (k : Within F s₀ s → Within F s₀ t) : Within F s₀ (if c then t else s) :=
  .ite (k h) h

theorem Within.elseIf {c : Prop} [Decidable c] (h : Within F s₀ s) (k : Within F s₀ s → Within F s₀ t) : Within F s₀ (if c then s else t) :=
  .ite h (k h)

theorem Within.foldl {β : Type} {f : State → β → State} {l : List β} (h : Within F s₀ s) (hf : ∀ {x n}, Within F s₀ x → Within F s₀ (f x n)) :
    Within F s₀ (l.foldl f s) :=
  List.foldlRecOn l f h fun _ hx _ _ => hf hx

theorem Within.forAll {l : List Nat} {f : Nat → State → State} (h : Within F s₀ s) (hf : ∀ {n x}, Within F s₀ x → Within F s₀ (f n x)) :
    Within F s₀ (Machine.forAll l f s) :=
  h.foldl hf

/-- What `bare` leaves out lies in every foot. -/
theorem Foot.mask_of_bare (hbare : t.bare = s.bare) : F.mask t = F.mask s := by
  rw [← F.bare, hbare, F.bare]

theorem Within.put {G : Field} {v : Nat} (h : Within F s₀ s) (hk : F.keys G.key = true := by rfl) : Within F s₀ (s.put G v) :=
  h.trans ⟨Foot.mask_of_bare rfl, fun H hH => get_put_other (F := G) (G := H) (fun he => Bool.false_ne_true (hH.symm.trans (he ▸ hk))) v s⟩

theorem Within.addTo {G : Field} {n : Nat} (h : Within F s₀ s) (hk : F.keys G.key = true := by rfl) : Within F s₀ (s.addTo G n) := h.put hk
theorem Within.putS {G : Field} {v : Int} (h : Within F s₀ s) (hk : F.keys G.key = true := by rfl) : Within F s₀ (s.putS G v) := h.put hk

theorem Within.putAll {l : List (Field × Nat)} (h : Within F s₀ s) (hk : ∀ k ∈ l.map (·.1.key), F.keys k = true := by exact fun _ _ => rfl) :
    Within F s₀ (s.putAll l) := by
  induction l generalizing s with
  | nil => exact h
  | cons e t ih =>
    obtain ⟨G, v⟩ := e
    exact ih (h.put (hk _ List.mem_cons_self)) fun k hk' => hk k (List.mem_cons_of_mem _ hk')

theorem Within.raise {G : Field} (h : Within F s₀ s) (hk : F.MayRaise G := by exact ⟨rfl, rfl⟩) : Within F s₀ (s.raise G) := by
  obtain ⟨regs, m0, m1, heq⟩ := raise_shape G s
  refine h.trans ⟨Foot.mask_of_bare ?_, fun H hH => get_raise_other (F := G) (G := H) (fun he => Bool.false_ne_true (hH.symm.trans (he ▸ hk.1))) (fun he => Bool.false_ne_true (hH.symm.trans (he ▸ hk.2))) s⟩
  rw [heq]
  rfl

theorem Within.flagIf {b : Bool} {G : Field} (h : Within F s₀ s) (hk : F.MayRaise G := by exact ⟨rfl, rfl⟩) :
    Within F s₀ (s.flagIf b G) := h.thenIf (·.raise hk)

/-- Standing conditions lie in every foot. -/
theorem Within.setConds {conds : List Nat} (h : Within F s₀ s) : Within F s₀ { s with conds } := h.move (Foot.mask_of_bare rfl)

theorem Within.cond {G : Field} {b : Bool} (h : Within F s₀ s) (hk : F.MayRaise G := by exact ⟨rfl, rfl⟩) : Within F s₀ (s.cond G b) := by
  unfold State.cond
  extract_lets s1
  have h1 : Within F s₀ s1 := h.setConds
  split
  · exact h.elseIf fun h => h.setConds.raise hk
  · split
    · exact h1
    · exact h1.put hk.1

theorem Within.post {e : Event} (h : Within F s₀ s) : Within F s₀ (s.post e) := h.move (Foot.mask_of_bare rfl)
theorem Within.event {c : FaultClass} {unit aux : Nat} (h : Within F s₀ s) : Within F s₀ (s.event c unit aux) := h.post
theorem Within.event0 {c : FaultClass} {unit aux : Nat} (h : Within F s₀ s) : Within F s₀ (s.event0 c unit aux) := h.post
theorem Within.eventOpen {c : FaultClass} {unit aux : Nat} (h : Within F s₀ s) : Within F s₀ (s.eventOpen c unit aux) := h.post
theorem Within.config {addr : Nat} (h : Within F s₀ s) : Within F s₀ (s.config addr) := h.post

end

theorem beq_page_false {k p : Nat} (h : k / 0x20000 ≠ p) : (k / 0x20000).beq p = false :=
  Bool.eq_false_iff.mpr fun heq => h (Nat.eq_of_beq_eq_true heq)

/-- Every key may move. -/
abbrev anyKey : Nat → Bool := fun _ => true

/-! ### A lane and a Canopy port that stop (R268, R277, R610) -/

/-- A lane that stops moves the lanes, the Canopy ports, free values and its registers. -/
def laneFoot : Foot := ⟨fun s => { s.bare with lanes := [], canopy := {}, free := 0 }, anyKey, fun _ => rfl⟩

section
variable {s₀ s : State}

theorem Within.portDown {p : Nat} (h : Within laneFoot s₀ s) : Within laneFoot s₀ (s.portDown p) :=
  h.thenIf fun h => (Within.put (h.move (t := s.setPort p _))).raise.eventOpen

theorem Within.trackTaps {l : Nat} (h : Within laneFoot s₀ s) : Within laneFoot s₀ (s.trackTaps l) := by
  have hput : ∀ taps, Within laneFoot s₀ (s.putAll taps) := fun _ => h.putAll
  have hmark : ∀ {x : State} {y : LaneSt}, Within laneFoot s₀ x → Within laneFoot s₀ ((x.setLane l y).useFree 1) := fun hx => hx.move
  unfold State.trackTaps
  split
  · exact hmark (hput _)
  · exact h

theorem Within.scanAbort {l : Nat} (h : Within laneFoot s₀ s) : Within laneFoot s₀ (s.scanAbort l) :=
  h.elseIf fun h => (h.move (t := s.setLane l _)).put.raise

theorem Within.alignLost {p : Nat} (h : Within laneFoot s₀ s) : Within laneFoot s₀ (s.alignLost p) :=
  h.thenIf fun h => (h.forAll fun hx => hx.put.raise).event.portDown

theorem Within.laneUnlock {l : Nat} {dst : LaneMode} (h : Within laneFoot s₀ s) : Within laneFoot s₀ (s.laneUnlock l dst) := by
  unfold State.laneUnlock
  extract_lets s1 _ s2 p
  have h1 : Within laneFoot s₀ s1 := h.trackTaps.scanAbort
  clear_value s1
  have h2 : Within laneFoot s₀ s2 := h1.move
  exact h2.thenIf fun h2 => (h2.move (t := s2.setPort p _)).alignLost

theorem Within.laneOff {l : Nat} (h : Within laneFoot s₀ s) : Within laneFoot s₀ (s.laneOff l) := h.laneUnlock

end

/-! ### The PTP engine decides again (R557, R558) -/

/-- The state decision moves the engine's ports and its registers on the NETSV page. -/
def ptpFoot : Foot :=
  ⟨fun s => { s.bare with net := { s.net with ptp := [], parent := none } }, fun k => (k / 0x20000).beq 0xA4, fun _ => rfl⟩

section
variable {s₀ s : State}

theorem Within.ptpRun (h : Within ptpFoot s₀ s) : Within ptpFoot s₀ s.ptpRun := by
  unfold State.ptpRun
  extract_lets s1 par s2 s3
  have h1 : Within ptpFoot s₀ s1 := h.forAll fun hx => hx.move
  have h2 : Within ptpFoot s₀ s2 := h1.move
  have h3 : Within ptpFoot s₀ s3 := h2.thenIf (·.raise)
  split
  · exact h3.putS.put
  · exact h3

theorem Within.ptpFault {p : Nat} (h : Within ptpFoot s₀ s) : Within ptpFoot s₀ (s.ptpFault p) := by
  unfold State.ptpFault
  extract_lets _ s1
  have h1 : Within ptpFoot s₀ s1 := (h.move (t := s.setPtp p _)).ptpRun
  exact h.thenIf fun _ => (h1.raise).event

end

/-! ### The conditions and the rings (R44, R57, R225, R251, R902) -/

/-- The registers of the units' pages: every page but those of the host interface, the collector, security, NVM, time, the scheduler, the data
port and ageing. -/
abbrev unitKeys : Nat → Bool := fun k => Nat.ble 8 (k / 0x20000)

theorem unitKeys_of_le {k : Nat} (h : 0x100000 ≤ k) : unitKeys k = true := Nat.ble_eq_true_of_le (by omega)

/-- A field of a page from 0x8000 up may be raised. -/
theorem mayRaise_unit {F : Foot} {G : Field} (hF : F.keys = unitKeys) (hG : 0x8000 ≤ G.addr) : F.MayRaise G := by
  refine ⟨?_, ?_⟩ <;> rw [hF] <;> refine unitKeys_of_le ?_
  · simp only [Field.key]
    omega
  · simp only [pageOf]
    omega

/-- What conditions judged again may move: rings and the pair's part. -/
def condFoot : Foot := ⟨fun s => { s.bare with rings := [], amber := {} }, unitKeys, fun _ => rfl⟩

section
variable {s₀ s : State}

theorem Within.condRing {F : Foot} {n o lo : Nat} {b : Bool} (h : Within F s₀ s) (hF : F.keys = unitKeys := by rfl) :
    Within F s₀ (s.cond ⟨0x10000 + 0x1000 * n + o, lo, 1, 0, .rc⟩ b) :=
  h.cond (mayRaise_unit hF (by simp only; omega))

theorem Within.protConds (h : Within condFoot s₀ s) : Within condFoot s₀ s.protConds := h.cond.cond
theorem Within.budgetCheck (h : Within condFoot s₀ s) : Within condFoot s₀ s.budgetCheck := h.cond

theorem Within.ringBudget {n : Nat} (h : Within condFoot s₀ s) : Within condFoot s₀ (s.ringBudget n) := by
  unfold State.ringBudget
  extract_lets r bad s1 _ s2
  have h2 : Within condFoot s₀ s2 := h.condRing.move
  exact h2.thenIf (·.eventOpen)

theorem Within.ringLoss {rtMax n : Nat} (h : Within condFoot s₀ s) : Within condFoot s₀ (s.ringLoss rtMax n) := by
  unfold State.ringLoss
  extract_lets short ev s1 _ s2
  have h1 : Within condFoot s₀ s1 := h.condRing
  have h2 : Within condFoot s₀ s2 := h1.elseIf fun h1 => h1.move
  exact h2.thenIf (·.config)

theorem Within.ringsLoss (h : Within condFoot s₀ s) : Within condFoot s₀ s.ringsLoss := h.forAll (·.ringLoss)
theorem Within.ringsRecheck (h : Within condFoot s₀ s) : Within condFoot s₀ s.ringsRecheck := (h.forAll (·.ringBudget)).ringsLoss

theorem Within.regionCheck (h : Within condFoot s₀ s) : Within condFoot s₀ s.regionCheck := by
  unfold State.regionCheck
  refine h.thenIf fun h => ?_
  extract_lets big s1 _ s2
  have h1 : Within condFoot s₀ s1 := ((h.put (G := R.AMBER_REGION_HW8)).put (G := R.AMBER_REGION_SIZE)).cond
  clear_value s1
  have h2 : Within condFoot s₀ s2 := h1.move
  exact h2.thenIf (·.eventOpen)

theorem Within.loopConds (h : Within condFoot s₀ s) : Within condFoot s₀ s.loopConds :=
  h.forAll fun {_ n} hx => hx.cond (mayRaise_unit rfl (by simp only [R.U_STAT_NOTRIG]; omega))

theorem Within.condsAgain (h : Within condFoot s₀ s) : Within condFoot s₀ s.condsAgain :=
  h.protConds.budgetCheck.ringsRecheck.regionCheck.loopConds

end

/-- What a ring that goes down may move: rings, slave records, protection, the pair's part, messages queued. -/
def ringFoot : Foot := ⟨fun s => { s.bare with rings := [], rank := {}, enc := {}, amber := {}, canopy := {} }, unitKeys, fun _ => rfl⟩

theorem condFoot_sub_ringFoot : condFoot.Sub ringFoot := ⟨fun _ => rfl, fun _ hk => hk⟩

section
variable {s₀ s : State}

theorem Within.raiseRing {n o lo : Nat} (h : Within ringFoot s₀ s) : Within ringFoot s₀ (s.raise ⟨0x10000 + 0x1000 * n + o, lo, 1, 0, .rc⟩) :=
  h.raise (mayRaise_unit rfl (by simp only; omega))

theorem Within.putRing {n o lo w rst v : Nat} {acc : Access} (h : Within ringFoot s₀ s) :
    Within ringFoot s₀ (s.put ⟨0x10000 + 0x1000 * n + o, lo, w, rst, acc⟩ v) :=
  h.put (unitKeys_of_le (by simp only [Field.key]; omega))

theorem Within.svcHostDone {n res : Nat} (h : Within ringFoot s₀ s) : Within ringFoot s₀ (s.svcHostDone n res) := h.putRing.putRing.raiseRing

theorem Within.svcAbort {n : Nat} (h : Within ringFoot s₀ s) : Within ringFoot s₀ (s.svcAbort n) := by
  unfold State.svcAbort
  extract_lets r busy s1
  have h1 : Within ringFoot s₀ s1 := h.move
  exact .ite h1.svcHostDone h1

theorem Within.leakBegin (h : Within ringFoot s₀ s) : Within ringFoot s₀ s.leakBegin := by
  unfold State.leakBegin
  extract_lets pool s1 s2
  have h2 : Within ringFoot s₀ s2 := (h.forAll fun hx => hx.move).forAll fun hx => hx.move
  exact (h2.move.put (G := R.CMDENC_LEAK_STAT_FAILS)).put

theorem Within.leakCheckEnd (h : Within ringFoot s₀ s) : Within ringFoot s₀ s.leakCheckEnd := by
  unfold State.leakCheckEnd
  extract_lets _ s1
  refine h.thenIf fun h => ?_
  have h1 : Within ringFoot s₀ s1 := ((h.move.addTo (G := R.CMDENC_LEAK_STAT_ROUND)).raise).put
  exact h1.thenIf (·.leakBegin)

theorem Within.leakLeave {n : Nat} (h : Within ringFoot s₀ s) : Within ringFoot s₀ (s.leakLeave n) :=
  (h.forAll fun hx => hx.thenIf fun hx => hx.move).leakCheckEnd

theorem Within.sendStatic (h : Within ringFoot s₀ s) : Within ringFoot s₀ s.sendStatic :=
  h.thenIf fun h => h.foldl fun hx => hx.thenIf fun hx => hx.move

theorem Within.topologyChanged (h : Within ringFoot s₀ s) : Within ringFoot s₀ s.topologyChanged :=
  h.thenIf fun h => (h.move.then (.regionCheck (.refl condFoot _)) condFoot_sub_ringFoot).sendStatic

theorem Within.ringOut {n : Nat} (h : Within ringFoot s₀ s) : Within ringFoot s₀ (s.ringOut n) := h.leakLeave.then (Within.refl condFoot _).budgetCheck.ringsLoss.regionCheck condFoot_sub_ringFoot

theorem Within.ringDown {n : Nat} (h : Within ringFoot s₀ s) : Within ringFoot s₀ (s.ringDown n) := by
  unfold State.ringDown
  extract_lets was s1 s2
  have h1 : Within ringFoot s₀ s1 := h.svcAbort
  have h2 : Within ringFoot s₀ s2 := (Within.move h1).condRing
  exact .ite h2.ringOut (h2.then (Within.refl condFoot s2).ringLoss.budgetCheck condFoot_sub_ringFoot)

theorem Within.unfenceRing {n : Nat} (h : Within ringFoot s₀ s) : Within ringFoot s₀ (s.unfenceRing n) := by
  unfold State.unfenceRing
  extract_lets s1 s2
  have h2 : Within ringFoot s₀ s2 := h.ringDown.forAll fun hx => hx.thenIf fun hx => hx.move
  clear_value s2
  exact h2.move.topologyChanged

end

/-! ### GOOSE publications (R551) -/

/-- A publication that sends moves the publications and what the ports have sent. -/
def pubFoot : Foot :=
  ⟨fun s => { s.bare with net := { s.net with pubs := [], sentOn := [], txSeq := [] } }, fun k => (k / 0x20000).beq 0xA4, fun _ => rfl⟩

section
variable {s₀ s : State}

theorem Within.ethSend {mask dst etype : Nat} {tagged : Bool} {body : EthBody} (h : Within pubFoot s₀ s) :
    Within pubFoot s₀ (s.ethSend mask dst etype tagged body) :=
  (h.forAll fun hx => hx.thenIf fun hx => hx.move).forAll fun hx => hx.move

theorem Within.pubSend {k : Nat} {x : PubSt} (h : Within pubFoot s₀ s) : Within pubFoot s₀ (s.pubSend k x) :=
  (h.move (t := s.setPub k x)).ethSend

theorem Within.pubNew {k : Nat} (h : Within pubFoot s₀ s) : Within pubFoot s₀ (s.pubNew k) := by
  unfold State.pubNew
  split
  · exact h
  · exact h.thenIf fun h => h.pubSend.flagIf

end

end Sys2Proof.Machine
end

section
namespace Sys2Proof.Machine

/-! ## Boards and modules (R870, R871) -/

section
variable {s : State}

theorem contains_addKey_other {k n : Nat} {l : List Nat} (h : l.contains k = true) : (addKey n l).contains k = true := by
  induction l with
  | nil => simp at h
  | cons m t ih =>
    simp only [List.contains_cons, Bool.or_eq_true] at h
    unfold addKey
    split
    · simp only [List.contains_cons, Bool.or_eq_true]
      exact Or.inr h
    · split
      · simp only [List.contains_cons, Bool.or_eq_true]
        exact h
      · simp only [List.contains_cons, Bool.or_eq_true]
        exact h.imp_right ih

/-- What holds a lane leaves in the list of those held. -/
theorem laneHeld_holdLane (l : Nat) (s : State) : (s.holdLane l).host.laneHeld = addKey l s.host.laneHeld :=
  congrArg (fun x => x.host.laneHeld) (Within.refl laneFoot
    (({ s with host := { s.host with laneHeld := addKey l s.host.laneHeld } } : State).put (R.LANE_CTRL_EN l) 0)).laneOff.mask

/-- Every lane of a list is held in the end. -/
theorem laneHeld_forAll {ls : List Nat} {l : Nat} (h : l ∈ ls ∨ s.host.laneHeld.contains l = true) :
    (forAll ls State.holdLane s).host.laneHeld.contains l = true := by
  induction ls generalizing s with
  | nil => exact h.resolve_left (by simp)
  | cons n t ih =>
    refine ih (s := s.holdLane n) ?_
    rw [laneHeld_holdLane]
    rcases h with h | h
    · obtain rfl | h := List.mem_cons.mp h
      · exact Or.inr (contains_addKey _ _)
      · exact Or.inl h
    · exact Or.inr (contains_addKey_other h)

theorem InboxKept.holdLane {s₀ : State} {l : Nat} (h : InboxKept s₀ s) : InboxKept s₀ (s.holdLane l) := by
  unfold State.holdLane
  exact h.update.put.laneOff

/-- The state decision of the PTP engine posts no event. -/
theorem ptpRun_flt (s : State) : s.ptpRun.flt = s.flt := by
  unfold State.ptpRun
  extract_lets s1 par s2 s3
  have h1 : s1.flt = s.flt := forAll_induction (P := fun x => x.flt = s.flt) rfl fun _ _ _ hx => hx
  have h3 : s3.flt = s.flt := by
    unfold s3
    split
    · exact (State.raise_flt s2 _).trans h1
    · exact h1
  clear_value s3
  split
  · exact h3
  · exact h3

theorem mem_inbox_ptpFault {e : Event} (h : e ∈ s.flt.inbox) (p : Nat) : e ∈ (s.ptpFault p).flt.inbox := by
  unfold State.ptpFault
  extract_lets _ s1
  have h1 : s1.flt = s.flt := ptpRun_flt (s.setPtp p _)
  clear_value s1
  split
  · refine List.mem_append_left _ ?_
    rw [State.raise_flt, h1]
    exact h
  · exact h

/-- A port held disabled: out of EN, in the list, and the events that waited still wait. -/
theorem holdPort_shows {p : Nat} (hp : p < 4) (h : keysRise none s.regs = true) :
    (s.holdPort p).get (R.ETH_CTRL_EN p) = 0 ∧ (s.holdPort p).host.sfpBad.contains p = true ∧ ∀ e ∈ s.flt.inbox, e ∈ (s.holdPort p).flt.inbox := by
  unfold State.holdPort
  extract_lets _ s1
  let s2 := s1.put (R.ETH_CTRL_EN p) 0
  have hoff : s2.get (R.ETH_CTRL_EN p) = 0 := get_put_same (s := s1) h _ _
  have hfault := (Within.refl ptpFoot s2).ptpFault (p := p)
  have hpage : ptpFoot.keys (R.ETH_CTRL_EN p).key = false := by
    refine beq_page_false ?_
    simp only [R.ETH_CTRL_EN, Field.key]
    omega
  split
  · exact ⟨(hfault.keys _ hpage).trans hoff, (congrArg (fun x => x.host.sfpBad.contains p) hfault.mask).trans (contains_addKey p _),
      fun e he => mem_inbox_ptpFault (s := s2) he p⟩
  · exact ⟨hoff, contains_addKey p _, fun e he => he⟩

theorem inService_unitUp (h : s.inService = true) {u : Nat} (hu : u / 256 ≤ 10) : s.unitUp u = true := by
  obtain ⟨-, -, -, hunits, -⟩ := State.inService_iff.mp h
  simp [State.unitUp, inService_common h hu, State.unitFenced, hunits, tget, lookupKey]

end

/-- Settles O9: a wrong board holds every lane of its range, a wrong module its port, and nothing takes their events back. -/
theorem boardsAndModulesIdentified : Obligations.BoardsAndModulesIdentified := by
  refine ⟨fun s bus bytes hup hphase hnone => ?_, fun s e bytes hup hphase hfind => ⟨fun hmatch => ?_, fun hmatch => ?_⟩,
    fun s p b h hp hon => ⟨fun hb => ?_, fun hb => ?_⟩⟩
  · have hfind : s.host.boards.find? (fun e => decide (e.bus = bus)) = none := List.find?_eq_none.mpr fun e he => by simpa using hnone e he
    have heffect : boardEffect bus bytes s = s := by simp [boardEffect, hfind]
    exact congrArg Host.Outcome.next heffect
  · have heffect : boardEffect e.bus bytes s = s := by simp [boardEffect, hfind, hmatch]
    exact congrArg Host.Outcome.next heffect
  · have heffect : boardEffect e.bus bytes s
        = forAll ((List.range 116).filter fun l => decide (e.first ≤ l ∧ l < e.first + e.cnt)) State.holdLane (s.event .config 0x0000 e.bus) := by
      simp [boardEffect, hup, hphase, hfind, hmatch]
    refine ⟨_, congrArg Host.Outcome.next heffect, ?_, fun l hl hlo hhi => laneHeld_forAll (Or.inl ?_)⟩
    · refine ((InboxKept.refl (s.event .config 0x0000 e.bus)).forAll InboxKept.holdLane).inbox _ ?_ FaultClass.noConfusion
      exact List.mem_append_right _ (List.mem_singleton.mpr rfl)
    · exact List.mem_filter.mpr ⟨List.mem_range.mpr hl, decide_eq_true ⟨hlo, hhi⟩⟩
  · have heffect : sfpEffect p b s = s := by simp [sfpEffect, hb]
    exact congrArg Host.Outcome.next heffect
  · obtain ⟨hphase, -⟩ := State.inService_iff.mp h
    have heth : s.ethUp p = true := by
      rw [State.ethUp, decide_eq_true hp, inService_unitUp h (by simp only [ethUnit]; omega)]
      rfl
    have heffect : sfpEffect p b s = (s.event .net (0x0700 + p) 0).holdPort p := by simp [sfpEffect, heth, hp, hphase, hon, hb]
    obtain ⟨hoff, hheld, hinbox⟩ := holdPort_shows (s := s.event .net (0x0700 + p) 0) hp (inService_regsRise h)
    exact ⟨_, congrArg Host.Outcome.next heffect, hoff, hheld, hinbox _ (List.mem_append_right _ (List.mem_singleton.mpr rfl))⟩

end Sys2Proof.Machine
end

section
namespace Sys2Proof.Machine

/-! ## The collector's page (R2, R738) -/

section
variable {s : State}

/-- A write with an action of its own to the page of a collector that runs, over a link that is whole. -/
theorem commanded_collector (hup : s.up 1 = true) (hl4 : s.flt.l4 = false) {addr : Nat} (hmay : s.hostMayWrite addr = true)
    (hlink : s.linkCut 0 1 = false) (ha : addr / 0x1000 = 1) (f : State → State) : s.commanded addr f = f s := by
  have hpage : pageGlade addr = some 1 := by simp [pageGlade, ha]
  have habs : pageAbsent s.variant addr = false := by simp [pageAbsent, ha]
  simp [State.commanded, State.commandedFrom, State.gatedWrite, hl4, hmay, hpage, hlink, takenBy_up hup habs]

theorem commanded_collector_inService (h : s.inService = true) {addr : Nat} (ha : addr / 0x1000 = 1) (f : State → State) : s.commanded addr f = f s :=
  commanded_collector (inService_common h (by decide)) (inService_l4 h) (inService_mayWrite h addr) (inService_link h 0 1) ha f

/-! ## Causes that end, acknowledgements and the history (R741, R744, R745) -/

theorem causeClearedEffect_eq (hup : s.up 1 = true) (hfrozen : s.flt.frozen = false) (cls : FaultClass) (c : CauseOf) :
    ∃ rails, causeClearedEffect cls c s = { s with flt := { s.flt with
      rails, recs := s.flt.recs.map (Prod.map id (causeEnds s.elNs (classCode cls) c)), hist := s.flt.hist.map (Prod.map id (causeEnds s.elNs (classCode cls) c)) } } := by
  obtain ⟨rails, hrails⟩ : ∃ rails, s.railBack cls c = { s with flt := { s.flt with rails } } := by
    unfold State.railBack
    split <;> exact ⟨_, rfl⟩
  refine ⟨rails, ?_⟩
  unfold causeClearedEffect
  rw [hrails]
  dsimp only
  rw [if_pos]
  · rfl
  · rw [hfrozen]
    exact Bool.and_eq_true_iff.mpr ⟨hup, rfl⟩

theorem causeEnds_ends {r : FaultRec} {cls : Nat} {c : CauseOf} (hused : r.used = true) (hstanding : r.standing = true) (hcls : r.cls = cls)
    (hunit : r.unit = c.unit) (haux : r.aux = c.aux) (hsrc : r.src = c.src) (now : Nat) :
    causeEnds now cls c r = { r with standing := false, endNs := now } := by
  simp [causeEnds, FaultRec.isOf, hused, hstanding, hcls, hunit, haux, hsrc]

theorem causeEnds_other {r : FaultRec} {cls : Nat} {c : CauseOf} (h : r.cls ≠ cls ∨ r.unit ≠ c.unit ∨ r.aux ≠ c.aux ∨ r.src ≠ c.src) (now : Nat) :
    causeEnds now cls c r = r := by
  have hother : r.isOf cls c = false := by
    unfold FaultRec.isOf
    refine decide_eq_false fun ⟨hcls, hunit, haux, hsrc⟩ => ?_
    obtain h | h | h | h := h
    exacts [h hcls, h hunit, h haux, h hsrc]
  simp [causeEnds, hother]

/-- One bit of ACK names one class. -/
theorem ackClasses_single {c : Nat} (h1 : 1 ≤ c) (h2 : c ≤ 22) :
    ((List.range 22).filterMap fun j => if bitOf (2 ^ c) (j + 1) then some (j + 1) else none) = [c] := by
  have hall : ∀ c ∈ List.range 23, 1 ≤ c → ((List.range 22).filterMap fun j => if bitOf (2 ^ c) (j + 1) then some (j + 1) else none) = [c] := by decide
  exact hall c (List.mem_range.mpr (by omega)) h1

theorem faultAckEffect_single (h : s.inService = true) {c : Nat} (h1 : 1 ≤ c) (h2 : c ≤ 22) : faultAckEffect (2 ^ c) s = (s.ackClass c).pubNew 0 := by
  simp only [faultAckEffect, inService_common h (show 1 ≤ 10 by decide), inService_l4 h, ackClasses_single h1 h2, Bool.not_false, Bool.and_self, if_true]
  rfl

/-- A publication leaves the collector's records and registers. -/
theorem pubNew_collector (k : Nat) (s : State) : (s.pubNew k).flt.recs = s.flt.recs ∧ (s.pubNew k).get R.FLT_STATUS_ACK_REF = s.get R.FLT_STATUS_ACK_REF := by
  have hpub := (Within.refl pubFoot s).pubNew (k := k)
  exact ⟨congrArg (fun x => x.flt.recs) hpub.mask, hpub.keys _ rfl⟩

theorem ackClass_closes {c : Nat} (hrise : keysRise none s.flt.recs = true) (hused : (s.record c).used = true)
    (hclose : (s.record c).level < 3 ∨ (s.record c).standing = false) : tget {} (s.ackClass c).flt.recs c = {} := by
  have hstands : (decide (3 ≤ (s.record c).level) && (s.record c).standing) = false := by
    obtain h | h := hclose
    · simp [h]
    · simp [h]
  have heffect : s.ackClass c = s.modFlt (fun f => { f with recs := eraseKey c f.recs }) := by
    simp [State.ackClass, hused, hstands]
  rw [heffect]
  change (lookupKey (eraseKey c s.flt.recs) c).getD {} = {}
  rw [lookupKey_eraseKey_same hrise]
  rfl

theorem ackClass_refused {c : Nat} (hused : (s.record c).used = true) (hlevel : 3 ≤ (s.record c).level) (hstanding : (s.record c).standing = true) :
    s.ackClass c = (s.raise R.FLT_STATUS_ACK_REF).config R.FLT_ACK_ACK.addr := by
  simp [State.ackClass, hused, hlevel, hstanding]

/-- The fields of the record window, with the words latched there (R761). -/
def recWindow (ws : List Nat) : List (Field × Nat) :=
  [(R.FLT_REC_WORD 0, ws.getD 0 0), (R.FLT_REC_WORD 1, ws.getD 1 0), (R.FLT_REC_WORD 2, ws.getD 2 0), (R.FLT_REC_WORD 3, ws.getD 3 0)]

theorem recIdxEffect_eq (h : s.inService = true) (v : Nat) :
    recIdxEffect v s = (s.put R.FLT_REC_IDX_CLASS v).putAll (recWindow (s.recWords false (s.record (v % 32)))) := by
  simp only [recIdxEffect, inService_common h (show 1 ≤ 10 by decide), inService_l4 h, Bool.not_false, Bool.and_self, if_true]
  rfl

theorem recWindow_keys (ws : List Nat) : (recWindow ws).map (fun e => e.1.key)
    = [(R.FLT_REC_WORD 0).key, (R.FLT_REC_WORD 1).key, (R.FLT_REC_WORD 2).key, (R.FLT_REC_WORD 3).key] := rfl

theorem get_recWindow (hrise : keysRise none s.regs = true) (v : Nat) {ws : List Nat} {F : Field} {x : Nat} (hF : (F, x) ∈ recWindow ws) :
    ((s.put R.FLT_REC_IDX_CLASS v).putAll (recWindow ws)).get F = x % 2 ^ F.w :=
  get_putAll_mem (regs_put_rise hrise _ _) (by rw [recWindow_keys]; decide) hF

theorem recWords_closed {hist : Bool} {r : FaultRec} (h : r.used = false) : s.recWords hist r = [0, 0, 0, 0] := by
  simp [State.recWords, h]

/-- The words of an open record whose fields lie in their bits. -/
theorem recWords_open (hfrozen : s.flt.frozen = false) {r : FaultRec} (h : r.used = true) (hunit : r.unit < 2 ^ 16) : s.recWords false r
    = [r.cls * 2 ^ 27 + r.level * 2 ^ 24 + b2n r.esc * 2 ^ 23 + b2n r.standing * 2 ^ 22 + b2n r.fenced * 2 ^ 21 + b2n r.glade * 2 ^ 20 + r.unit,
       r.tsNs % 2 ^ 32, r.aux % 2 ^ 32,
       r.rep * 2 ^ 24 + min 0xFFFFFF (((if r.standing = true then s.elNs else r.endNs) - r.tsEl) / 1000)] := by
  simp only [State.recWords, State.durOf, h, hfrozen, Nat.mod_eq_of_lt hunit, satTo_eq_min, if_true, Bool.false_eq_true, if_false]

theorem b2n_le (b : Bool) : b2n b ≤ 1 := by
  cases b <;> decide

end

/-! ## UNFENCE (R17, R742) -/

section
variable {s : State}

/-- What a returned unit moves beside its mark: its ring, its lane or its channel. -/
def returnFoot : Foot :=
  ⟨fun s => { s.bare with rings := [], rank := {}, enc := {}, amber := {}, canopy := {}, lanes := [], pwm := {} }, unitKeys, fun _ => rfl⟩

theorem ringFoot_sub_returnFoot : ringFoot.Sub returnFoot := ⟨fun _ => rfl, fun _ h => h⟩

theorem Within.returnRing {s₀ : State} {n l : Nat} (h : Within returnFoot s₀ s) : Within returnFoot s₀ ((s.unfenceRing n).unfenceLane l) := by
  have hring : Within returnFoot s₀ (s.unfenceRing n) := h.then (Within.refl ringFoot s).unfenceRing ringFoot_sub_returnFoot
  generalize s.unfenceRing n = x at hring
  exact hring.move

theorem Within.ptpFaults {s₀ old : State} (h : Within returnFoot s₀ s) : Within returnFoot s₀ (State.ptpFaults old s) :=
  h.forAll fun hx => hx.raise.event

/-- A unit of a kind has the number of its kind, where UNFENCE takes another with it. -/
def KindPlaced (u : Nat) : UnitKind → Prop
  | .ring n => u = ringUnit n
  | .lane l => l < 96 → u = laneUnit l
  | _ => True

theorem kindPlaced_ite {u : Nat} {c : Prop} [Decidable c] {a b : UnitKind} (ha : c → KindPlaced u a) (hb : ¬ c → KindPlaced u b) :
    KindPlaced u (if c then a else b) := by
  split
  · next h => exact ha h
  · next h => exact hb h

theorem unitKind_placed (v : Variant) (u : Nat) : KindPlaced u (unitKind v u) := by
  refine kindPlaced_ite (fun _ => trivial) fun _ => kindPlaced_ite (fun h => ?_) fun hring => kindPlaced_ite (fun h hl => ?_) fun _ =>
    kindPlaced_ite (fun _ => trivial) fun _ => kindPlaced_ite (fun h hl => ?_) fun _ => kindPlaced_ite (fun _ => trivial) fun _ =>
    kindPlaced_ite (fun _ => trivial) fun _ => kindPlaced_ite (fun h hl => ?_) fun _ => kindPlaced_ite (fun _ => trivial) fun _ =>
    kindPlaced_ite (fun _ => trivial) fun _ => kindPlaced_ite (fun _ => trivial) fun _ => kindPlaced_ite (fun _ => trivial) fun _ =>
    kindPlaced_ite (fun _ => trivial) fun _ => kindPlaced_ite (fun _ => trivial) fun _ => trivial
  · change u = ringUnit _
    unfold ringUnit
    omega
  · unfold laneUnit
    rw [if_pos hl]
    omega
  · omega
  · omega

/-- The unit that returns with unit `u`: with a ring its lane, with a cell lane its ring (R271). -/
inductive ReturnedWith (u : Nat) : Nat → Prop
  | lane (n : Nat) (h : u = ringUnit n) : ReturnedWith u (laneUnit n)
  | ring (n : Nat) (h : u = laneUnit n) : ReturnedWith u (ringUnit n)

/-- A unit that returns: its mark is gone, with that of the unit that returns with it, and else its own parts alone move. -/
theorem returnUnit_shows {u : Nat} (hu : unitKind s.variant u ≠ .other) :
    ∃ w, ReturnedWith u w ∧ Within returnFoot ((s.markUnit u 0).markUnit w 0) (s.returnUnit u) ∨ Within returnFoot (s.markUnit u 0) (s.returnUnit u) := by
  have hplaced := unitKind_placed s.variant u
  unfold State.returnUnit
  generalize unitKind s.variant u = kind at hu hplaced
  have hmark := Within.refl returnFoot (s.markUnit u 0)
  cases kind with
  | ring n => exact ⟨laneUnit n, Or.inl ⟨.lane n hplaced, (Within.refl returnFoot _).returnRing⟩⟩
  | lane l =>
    dsimp only
    split
    · next hl => exact ⟨ringUnit l, Or.inl ⟨.ring l (hplaced hl), (Within.refl returnFoot _).returnRing⟩⟩
    · exact ⟨u, Or.inr hmark.move⟩
  | channel c => exact ⟨u, Or.inr (Within.ite hmark.move hmark.move)⟩
  | ptp => exact ⟨u, Or.inr hmark.ptpFaults⟩
  | other => exact absurd rfl hu
  | core _ => exact ⟨u, Or.inr hmark⟩
  | port _ => exact ⟨u, Or.inr hmark⟩
  | checkpoint => exact ⟨u, Or.inr hmark⟩
  | eth _ => exact ⟨u, Or.inr hmark⟩
  | servo => exact ⟨u, Or.inr hmark⟩
  | loop _ => exact ⟨u, Or.inr hmark⟩
  | pos _ => exact ⟨u, Or.inr hmark⟩
  | adc _ => exact ⟨u, Or.inr hmark⟩

theorem ringUnit_ne_laneUnit (n : Nat) : ringUnit n ≠ laneUnit n := by
  unfold ringUnit laneUnit
  split
  · omega
  · split <;> omega

/-- What unit marks show after a unit has returned. -/
theorem returnUnit_units {u : Nat} (hu : unitKind s.variant u ≠ .other) (hrise : keysRise none s.flt.units = true) :
    (s.returnUnit u).unitFenced u = false
      ∧ (∀ w, w ≠ u → (∀ n, ¬(u = ringUnit n ∧ w = laneUnit n) ∧ ¬(u = laneUnit n ∧ w = ringUnit n)) → (s.returnUnit u).unitFenced w = s.unitFenced w)
      ∧ (s.returnUnit u).get R.FLT_UNFENCE_RESULT = s.get R.FLT_UNFENCE_RESULT := by
  have hself := tget_tset_same (d := 0) hrise u 0
  obtain ⟨v, ⟨hv, hwithin⟩ | hwithin⟩ := returnUnit_shows hu
  · have hunits : (s.returnUnit u).flt.units = tset 0 (tset 0 s.flt.units u 0) v 0 := congrArg (fun x => x.flt.units) hwithin.mask
    refine ⟨?_, fun w hw hpair => ?_, hwithin.keys _ rfl⟩
    · have hother : u = v ∨ tget 0 (tset 0 (tset 0 s.flt.units u 0) v 0) u = tget 0 (tset 0 s.flt.units u 0) u :=
        (eq_or_ne u v).imp_right fun hne => tget_tset_other hne 0
      obtain rfl | hother := hother
      · cases hv with
        | lane n h => exact absurd h (ringUnit_ne_laneUnit n).symm
        | ring n h => exact absurd h (ringUnit_ne_laneUnit n)
      · simp [State.unitFenced, hunits, hother, hself]
    · have hwv : w ≠ v := by
        cases hv with
        | lane n h => exact fun he => (hpair n).1 ⟨h, he⟩
        | ring n h => exact fun he => (hpair n).2 ⟨h, he⟩
      simp [State.unitFenced, hunits, tget_tset_other hwv, tget_tset_other hw]
  · have hunits : (s.returnUnit u).flt.units = tset 0 s.flt.units u 0 := congrArg (fun x => x.flt.units) hwithin.mask
    exact ⟨by simp [State.unitFenced, hunits, hself], fun w hw _ => by simp [State.unitFenced, hunits, tget_tset_other hw], hwithin.keys _ rfl⟩

/-- The pages of a glade from 10 up lie from 0x10 up. -/
theorem le_of_pageGlade {addr g : Nat} (h : pageGlade addr = some g) (hg : 10 ≤ g) : 0x10000 ≤ addr := by
  by_contra hlt
  have hpage : addr / 0x1000 ≤ 15 := by omega
  unfold pageGlade at h
  generalize addr / 0x1000 = p at h hpage
  interval_cases p <;> simp at h <;> omega

/-- Resetting the pages of a glade from 10 up leaves the glades, the collector and the collector's registers. -/
theorem resetPages_shows {g : Nat} (hg : 10 ≤ g) (s : State) : (s.resetPages g).glades = s.glades
    ∧ (s.resetPages g).get R.FLT_UNFENCE_RESULT = s.get R.FLT_UNFENCE_RESULT := by
  let s1 : State := { s with
    regs := s.regs.filter (fun e => pageGlade (e.1 / 32) != some g)
    conds := s.conds.filter (fun k => pageGlade (k / 32) != some g) }
  have hresult : s1.get R.FLT_UNFENCE_RESULT = s.get R.FLT_UNFENCE_RESULT := by
    have hlookup := lookupKey_filter (fun k => pageGlade (k / 32) != some g) s.regs R.FLT_UNFENCE_RESULT.key
    have hpage : pageGlade (R.FLT_UNFENCE_RESULT.key / 32) = some 1 := by decide
    rw [hpage, if_pos (by simp; omega)] at hlookup
    exact congrArg (fun o => o.getD R.FLT_UNFENCE_RESULT.rst) hlookup
  refine List.foldlRecOn (motive := fun x : State => x.glades = s.glades ∧ x.get R.FLT_UNFENCE_RESULT = s.get R.FLT_UNFENCE_RESULT) s1.host.setP _
    ⟨rfl, hresult⟩ fun x hx e _ => ?_
  obtain ⟨hglades, hget⟩ := hx
  split
  · next hpage =>
    split
    · next F hF =>
      have haddr : F.addr = e.1 := by simpa using (List.mem_filter.mp (List.mem_of_find?_eq_some hF)).2
      have hplace := le_of_pageGlade hpage hg
      refine ⟨hglades, (get_put_other ?_ e.2.2 x).trans hget⟩
      have hkey : R.FLT_UNFENCE_RESULT.key = 32 * 0x1058 + 28 := rfl
      rw [hkey, Field.key, haddr]
      omega
    · exact ⟨hglades, hget⟩
  · exact ⟨hglades, hget⟩

/-- A returned glade: it runs, unfenced. -/
theorem returnGlade_shows {g : Nat} (hg : 10 ≤ g) (s : State) : (s.returnGlade g).gladeFenced g = false ∧ ((s.returnGlade g).glade g).inReset = false
    ∧ (s.returnGlade g).get R.FLT_UNFENCE_RESULT = s.get R.FLT_UNFENCE_RESULT := by
  obtain ⟨-, hget⟩ := resetPages_shows hg s
  unfold State.returnGlade
  extract_lets s1 _ s2 s3
  have hglade : s2.glade g = { inReset := false } := glade_setGlade_same (x := { inReset := false }) (by simp)
  have hresult : s2.get R.FLT_UNFENCE_RESULT = s.get R.FLT_UNFENCE_RESULT := hget
  clear_value s2
  have h3 : Within returnFoot s2 s3 := by
    have hback : ∀ {x : State} {y : Tab LaneSt} (n : Nat), Within returnFoot s2 x → Within returnFoot s2 { x.unfenceRing n with lanes := y } := fun {x _} n hx => by
      have hring : Within returnFoot s2 (x.unfenceRing n) := hx.then (Within.refl ringFoot x).unfenceRing ringFoot_sub_returnFoot
      generalize x.unfenceRing n = z at hring
      exact hring.move
    unfold s3
    split
    · refine forAll_induction (P := Within returnFoot s2) (Within.refl returnFoot s2) fun n _ x hx => ?_
      dsimp only
      split
      · exact hx
      · exact hback _ hx
    · exact Within.refl returnFoot s2
  have hend : Within returnFoot s2 s3.condsAgain := h3.then ((Within.refl condFoot s3).condsAgain.widen condFoot_sub_ringFoot) ringFoot_sub_returnFoot
  have hkept : s3.condsAgain.glade g = { inReset := false } := (congrArg (fun x => x.glade g) hend.mask).trans hglade
  exact ⟨by rw [State.gladeFenced, hkept]; rfl, by rw [hkept], (hend.keys _ rfl).trans hresult⟩

/-- The clock of a glade that is judged as good has been good for 1 ms (R742). -/
theorem clockBack_eq (g : Nat) (good : Bool) (s : State) : ∃ elapsed time, s.clockBack g good = { s with elapsed, time }
    ∧ (good = true → (s.glade g).clkBad = true → (s.glade g).badAt + el (10 ^ 6) ≤ elapsed) := by
  unfold State.clockBack
  split
  · exact ⟨_, _, rfl, fun _ _ => Nat.le_max_right _ _⟩
  · next h => exact ⟨_, _, rfl, fun hgood hbad => absurd (Bool.and_eq_true_iff.mpr ⟨hgood, hbad⟩) h⟩

variable (hup : s.up 1 = true) (hl4 : s.flt.l4 = false)

/-- The write to UNFENCE with its result. -/
def State.unfenceJudged (task : Bool) (ident r : Nat) (s : State) : State :=
  (s.putAll [(R.FLT_UNFENCE_TASK, b2n task), (R.FLT_UNFENCE_ID, ident)]).put R.FLT_UNFENCE_RESULT r

theorem get_unfenceJudged (hrise : keysRise none s.regs = true) (task : Bool) (ident : Nat) {r : Nat} (hr : r < 4) :
    (s.unfenceJudged task ident r).get R.FLT_UNFENCE_RESULT = r :=
  (get_put_same (regs_putAll_rise hrise) _ _).trans (Nat.mod_eq_of_lt hr)

include hup hl4

theorem unfenceEffect_task (k : Nat) (good : Bool) {r : Nat} (hr : s.taskResult k = r) : unfenceEffect true k good s
    = if r ≠ 0 then (s.unfenceJudged true k r).config R.FLT_UNFENCE_GO.addr
      else ((s.unfenceJudged true k r).modFlt (fun f => { f with tasks := tset 0 f.tasks k 0 })).unfenceTask k := by
  subst hr
  simp only [unfenceEffect, hup, hl4, Bool.not_false, Bool.and_self, if_true]
  rfl

theorem unfenceEffect_glade (good : Bool) {u r : Nat} (hfenced : s.gladeFenced (u / 256) = true) (hr : s.gladeResult (u / 256) good = r) :
    unfenceEffect false u good s
    = if r ≠ 0 then (s.unfenceJudged false u r).config R.FLT_UNFENCE_GO.addr else (s.unfenceJudged false u r).returnGlade (u / 256) := by
  subst hr
  simp only [unfenceEffect, hup, hl4, Bool.not_false, Bool.and_self, if_true, Bool.false_eq_true, if_false, hfenced]
  rfl

theorem unfenceEffect_unit (good : Bool) {u r : Nat} (hfenced : s.gladeFenced (u / 256) = false) (hr : s.unitResult u = r) :
    unfenceEffect false u good s
    = if r ≠ 0 then (s.unfenceJudged false u r).config R.FLT_UNFENCE_GO.addr else (s.unfenceJudged false u r).returnUnit u := by
  subst hr
  simp only [unfenceEffect, hup, hl4, Bool.not_false, Bool.and_self, if_true, Bool.false_eq_true, if_false, hfenced]
  rfl

end

section
variable {s : State}

theorem gladeReturns_iff (g : Nat) : gladeReturns g = true ↔ g = 10 ∨ 16 ≤ g := by
  simp [gladeReturns]

theorem gladeResult_stays {g : Nat} (h : g ≠ 10) (hg : g < 16) (good : Bool) : s.gladeResult g good = 1 := by
  have : gladeReturns g = false := by simp [gladeReturns, h, hg]
  simp [State.gladeResult, this]

theorem gladeResult_held {g : Nat} (h : g = 10 ∨ 16 ≤ g) (hused : (s.record (s.glade g).fencedBy).used = true) (good : Bool) : s.gladeResult g good = 2 := by
  simp [State.gladeResult, (gladeReturns_iff g).mpr h, State.fenceHeld, hused]

theorem fenceHeld_glade {g : Nat} (hused : (s.record (s.glade g).fencedBy).used = false) (hquiet : ∀ e ∈ s.flt.inbox, e.glade = false) :
    s.fenceHeld (s.glade g).fencedBy (fun e => e.glade && decide (e.unit / 256 = g)) = false := by
  have hnone : s.flt.inbox.any (fun e => e.glade && decide (e.unit / 256 = g)) = false :=
    List.any_eq_false.mpr fun e he => by simp [hquiet e he]
  simp [State.fenceHeld, hused, hnone]

theorem gladeResult_clock {g : Nat} (h : g = 10 ∨ 16 ≤ g) (hused : (s.record (s.glade g).fencedBy).used = false) (hquiet : ∀ e ∈ s.flt.inbox, e.glade = false) :
    s.gladeResult g false = 3 := by
  simp [State.gladeResult, (gladeReturns_iff g).mpr h, fenceHeld_glade hused hquiet]

theorem gladeResult_runs {g : Nat} (h : g = 10 ∨ 16 ≤ g) (hused : (s.record (s.glade g).fencedBy).used = false) (hquiet : ∀ e ∈ s.flt.inbox, e.glade = false)
    (hclock : (s.glade g).clkBad = true → (s.glade g).badAt + el (10 ^ 6) ≤ s.elapsed) : s.gladeResult g true = 0 := by
  simpa [State.gladeResult, (gladeReturns_iff g).mpr h, fenceHeld_glade hused hquiet] using hclock

theorem unitResult_returns {u : Nat} (hfenced : s.unitFenced u = true) (hworn : s.wornOut u = false) (hused : (s.record (tget 0 s.flt.units u)).used = false)
    (hquiet : ∀ e ∈ s.flt.inbox, e.unit ≠ u) : s.unitResult u = 0 := by
  have hclass : tget 0 s.flt.units u ≠ 0 := by simpa [State.unitFenced] using hfenced
  have hnone : s.flt.inbox.any (fun e => decide (e.unit = u)) = false := List.any_eq_false.mpr fun e he => by simp [hquiet e he]
  simp [State.unitResult, hclass, hworn, State.fenceHeld, hused, hnone]

theorem unitResult_held {u : Nat} (hfenced : s.unitFenced u = true) (hworn : s.wornOut u = false) (hused : (s.record (tget 0 s.flt.units u)).used = true) :
    s.unitResult u = 2 := by
  have hclass : tget 0 s.flt.units u ≠ 0 := by simpa [State.unitFenced] using hfenced
  simp [State.unitResult, hclass, hworn, State.fenceHeld, hused]

theorem unitResult_refused {u : Nat} (h : s.unitFenced u = false ∨ s.wornOut u = true) : s.unitResult u = 1 := by
  obtain h | h := h
  · have hclass : tget 0 s.flt.units u = 0 := by simpa [State.unitFenced] using h
    simp [State.unitResult, hclass]
  · simp [State.unitResult, h]

end

/-! ## The statement's clauses -/

section
variable {s : State}

/-- R744: a cause that goes away ends in its record and in no other. -/
theorem faultCauseCleared_ends (hup : s.up 1 = true) (hfrozen : s.flt.frozen = false) (cls : FaultClass) (unit : CauseOf) :
    Reaches (.faultCauseCleared cls unit) s (fun t =>
      (∀ c, (s.record c).used = true → (s.record c).standing = true → (s.record c).cls = classCode cls → (s.record c).unit = unit.unit → (s.record c).aux = unit.aux
          → (s.record c).src = unit.src →
        t.record c = { s.record c with standing := false, endNs := s.elNs })
      ∧ (∀ c, ((s.record c).cls ≠ classCode cls ∨ (s.record c).unit ≠ unit.unit ∨ (s.record c).aux ≠ unit.aux ∨ (s.record c).src ≠ unit.src) →
          t.record c = s.record c) ∧ t.regs = s.regs) := by
  obtain ⟨rails, heq⟩ := causeClearedEffect_eq hup hfrozen cls unit
  have hrec : ∀ c, (causeClearedEffect cls unit s).record c = causeEnds s.elNs (classCode cls) unit (s.record c) := fun c => by
    rw [heq]
    exact tget_map (f := causeEnds s.elNs (classCode cls) unit) (d := {}) rfl s.flt.recs c
  refine ⟨_, rfl, fun c hused hstanding hcls hunit haux hsrc => ?_, fun c hother => ?_, by rw [heq]⟩
  · rw [hrec, causeEnds_ends hused hstanding hcls hunit haux hsrc]
  · rw [hrec, causeEnds_other hother]

/-- R741: an acknowledgement closes a record, or is refused for one whose cause stands. -/
theorem faultAck_answers (h : s.inService = true) {c : Nat} (hrise : keysRise none s.flt.recs = true) (h1 : 1 ≤ c) (h2 : c ≤ 22) (hused : (s.record c).used = true) :
    Reaches (.faultAck (2 ^ c)) s (fun t =>
      ((s.record c).level < 3 ∨ (s.record c).standing = false → (t.record c).used = false)
      ∧ (3 ≤ (s.record c).level → (s.record c).standing = true → t.record c = s.record c ∧ t.get R.FLT_STATUS_ACK_REF = 1)) := by
  obtain ⟨hrecs, hget⟩ := pubNew_collector 0 (s.ackClass c)
  refine ⟨(s.ackClass c).pubNew 0, ?_, fun hclose => ?_, fun hlevel hstanding => ?_⟩
  · change Host.Outcome.next (s.commanded 0x1050 _) = _
    rw [commanded_collector_inService h rfl, faultAckEffect_single h h1 h2]
  · rw [State.record, hrecs, ackClass_closes hrise hused hclose]
  · rw [State.record, hrecs, hget, ackClass_refused hused hlevel hstanding]
    exact ⟨rfl, get_raise_same (by decide) (by decide) rfl s⟩

/-- R745: HIST_CLR empties the history. -/
theorem histClr_empties (h : s.inService = true) :
    Reaches .histClr s (fun t => t.flt.hist = [] ∧ t.get R.FLT_HIST_WR_IDX = 0 ∧ t.get R.FLT_HIST_WR_WRAPPED = 0 ∧ t.flt.recs = s.flt.recs
      ∧ RegsKeptBut [R.FLT_HIST_WR_IDX, R.FLT_HIST_WR_WRAPPED] s t) := by
  have heffect : histClrEffect s = (s.modFlt (fun f => { f with hist := [] })).putAll [(R.FLT_HIST_WR_IDX, 0), (R.FLT_HIST_WR_WRAPPED, 0)] := by
    simp [histClrEffect, inService_common h (show 1 ≤ 10 by decide), inService_l4 h]
  refine ⟨histClrEffect s, congrArg _ (commanded_collector_inService h rfl _), ?_⟩
  rw [heffect]
  have hrise : keysRise none (s.modFlt (fun f => { f with hist := [] })).regs = true := inService_regsRise h
  refine ⟨rfl, ?_, ?_, rfl, fun G hG => ?_⟩
  · exact get_putAll_mem (v := 0) hrise (by decide) (List.mem_cons_self ..)
  · exact get_putAll_mem (v := 0) hrise (by decide) (.tail _ (List.mem_cons_self ..))
  · exact get_putAll_other (by simpa using ⟨hG _ (List.mem_cons_self ..), hG _ (by simp)⟩) _

/-- R761: a write to REC_IDX latches the record that it names. -/
theorem recIdx_latches (h : s.inService = true) (hfrozen : s.flt.frozen = false) (v : Nat) :
    Reaches (.recIdxWrite v) s (fun t => t.get R.FLT_REC_IDX_CLASS = v % 32 ∧ t.flt = s.flt
      ∧ ((s.record (v % 32)).used = false → ∀ k, k < 4 → t.get (R.FLT_REC_WORD k) = 0)
      ∧ (∀ r, r = s.record (v % 32) → r.used = true → r.cls < 32 → r.level < 8 → r.unit < 2 ^ 16 → r.rep < 256 →
          t.get (R.FLT_REC_WORD 0) = r.cls * 2 ^ 27 + r.level * 2 ^ 24 + b2n r.esc * 2 ^ 23 + b2n r.standing * 2 ^ 22 + b2n r.fenced * 2 ^ 21
              + b2n r.glade * 2 ^ 20 + r.unit
          ∧ t.get (R.FLT_REC_WORD 1) = r.tsNs % 2 ^ 32 ∧ t.get (R.FLT_REC_WORD 2) = r.aux % 2 ^ 32
          ∧ t.get (R.FLT_REC_WORD 3) = r.rep * 2 ^ 24 + min 0xFFFFFF (((if r.standing = true then s.elNs else r.endNs) - r.tsEl) / 1000))
      ∧ RegsKeptBut [R.FLT_REC_IDX_CLASS, R.FLT_REC_WORD 0, R.FLT_REC_WORD 1, R.FLT_REC_WORD 2, R.FLT_REC_WORD 3] s t) := by
  have hrise := inService_regsRise h
  refine ⟨_, congrArg Host.Outcome.next ((commanded_collector_inService h rfl (recIdxEffect v)).trans (recIdxEffect_eq h v)), ?_⟩
  generalize hws : s.recWords false (s.record (v % 32)) = ws
  refine ⟨?_, rfl, fun hused k hk => ?_, fun r hr hused hcls hlevel hunit hrep => ?_, fun G hG => ?_⟩
  · rw [get_putAll_other (by rw [recWindow_keys]; decide), get_put_same hrise]
    rfl
  · rw [recWords_closed hused] at hws
    subst hws
    obtain rfl | rfl | rfl | rfl : k = 0 ∨ k = 1 ∨ k = 2 ∨ k = 3 := by omega
    all_goals exact get_recWindow hrise v (x := 0) (by simp [recWindow])
  · subst hr
    rw [recWords_open hfrozen hused hunit] at hws
    subst hws
    have hesc := b2n_le (s.record (v % 32)).esc
    have hstanding := b2n_le (s.record (v % 32)).standing
    have hfenced := b2n_le (s.record (v % 32)).fenced
    have hglade := b2n_le (s.record (v % 32)).glade
    refine ⟨(get_recWindow hrise v (List.mem_cons_self ..)).trans (Nat.mod_eq_of_lt ?_), (get_recWindow hrise v (.tail _ (List.mem_cons_self ..))).trans ?_,
      (get_recWindow hrise v (.tail _ (.tail _ (List.mem_cons_self ..)))).trans ?_, (get_recWindow hrise v (.tail _ (.tail _ (.tail _ (List.mem_cons_self ..))))).trans (Nat.mod_eq_of_lt ?_)⟩
    · change _ < 2 ^ 32
      simp only [List.getD_cons_zero]
      omega
    · exact Nat.mod_mod _ _
    · exact Nat.mod_mod _ _
    · change _ < 2 ^ 32
      simp only [List.getD_cons_succ, List.getD_cons_zero]
      omega
  · refine (get_putAll_other ?_ _).trans (get_put_other (hG _ (List.mem_cons_self ..)) _ _)
    rw [recWindow_keys]
    simpa using ⟨hG _ (by simp), hG _ (by simp), hG _ (by simp), hG _ (by simp)⟩

end

section
variable {s : State} (hup : s.up 1 = true) (hl4 : s.flt.l4 = false) (hmay : s.hostMayWrite 0x1058 = true) (hlink : s.linkCut 0 1 = false)
  (hregs : keysRise none s.regs = true)
include hup hl4 hmay hlink hregs

/-- R742: UNFENCE of a unit. -/
theorem unfence_unit (hunits : keysRise none s.flt.units = true) (good : Bool) {u : Nat} (hkind : unitKind s.variant u ≠ .other)
    (hglade : s.gladeFenced (u / 256) = false) (hclk : (s.glade (u / 256)).clkBad = false) :
    Reaches (.unfence false u good) s (fun t =>
      (s.unitFenced u = true → s.wornOut u = false → (s.record (tget 0 s.flt.units u)).used = false → (∀ e ∈ s.flt.inbox, e.unit ≠ u) →
        t.get R.FLT_UNFENCE_RESULT = 0 ∧ t.unitFenced u = false
          ∧ ∀ w, w ≠ u → (∀ n, ¬(u = ringUnit n ∧ w = laneUnit n) ∧ ¬(u = laneUnit n ∧ w = ringUnit n)) → t.unitFenced w = s.unitFenced w)
      ∧ (s.unitFenced u = true → s.wornOut u = false → (s.record (tget 0 s.flt.units u)).used = true →
        t.get R.FLT_UNFENCE_RESULT = 2 ∧ t.flt.units = s.flt.units ∧ { cls := .config, unit := 0x0100, req := .l0, aux := 0x1058 } ∈ t.flt.inbox)
      ∧ (s.unitFenced u = false ∨ s.wornOut u = true → t.get R.FLT_UNFENCE_RESULT = 1 ∧ t.flt.units = s.flt.units)) := by
  have hclock : s.clockBack (u / 256) good = s := by simp [State.clockBack, hclk]
  refine ⟨unfenceEffect false u good s, ?_, fun hfenced hworn hused hquiet => ?_, fun hfenced hworn hused => ?_, fun href => ?_⟩
  · change Host.Outcome.next ((s.clockBack (u / 256) good).commanded 0x1058 _) = _
    rw [hclock, commanded_collector hup hl4 hmay hlink rfl]
  · rw [unfenceEffect_unit hup hl4 good hglade (unitResult_returns hfenced hworn hused hquiet), if_neg (by simp)]
    obtain ⟨hself, hothers, hresult⟩ := returnUnit_units (s := s.unfenceJudged false u 0) hkind hunits
    exact ⟨hresult.trans (get_unfenceJudged hregs false u (by decide)), hself, hothers⟩
  · rw [unfenceEffect_unit hup hl4 good hglade (unitResult_held hfenced hworn hused), if_pos (by simp)]
    exact ⟨get_unfenceJudged hregs false u (r := 2) (by decide), rfl, List.mem_append_right _ (List.mem_singleton.mpr rfl)⟩
  · rw [unfenceEffect_unit hup hl4 good hglade (unitResult_refused href), if_pos (by simp)]
    exact ⟨get_unfenceJudged hregs false u (r := 1) (by decide), rfl⟩

/-- R742: UNFENCE of a task. -/
theorem unfence_task (htasks : keysRise none s.flt.tasks = true) (good : Bool) {k : Nat} (hfenced : s.taskFenced k = true) :
    Reaches (.unfence true k good) s (fun t =>
      (s.fenceHeld (tget 0 s.flt.tasks k) (fun e => decide (e.cls = .sched) && decide (e.aux = k) && decide (e.unit = schedUnit ∨ e.unit = storeUnit)) = false →
        t.get R.FLT_UNFENCE_RESULT = 0 ∧ t.taskFenced k = false)
      ∧ ((s.record (tget 0 s.flt.tasks k)).used = true → t.get R.FLT_UNFENCE_RESULT = 2 ∧ t.taskFenced k = true)) := by
  have hclass : tget 0 s.flt.tasks k ≠ 0 := by simpa [State.taskFenced] using hfenced
  refine ⟨unfenceEffect true k good s, congrArg _ (commanded_collector hup hl4 hmay hlink rfl _), fun hheld => ?_, fun hused => ?_⟩
  · have hr : s.taskResult k = 0 := by simp only [State.taskResult, hclass, hheld, if_false, Bool.false_eq_true]
    rw [unfenceEffect_task hup hl4 k good hr, if_neg (by simp)]
    generalize hx : (s.unfenceJudged true k 0).modFlt (fun f => { f with tasks := tset 0 f.tasks k 0 }) = x
    have hwithin : (x.unfenceTask k).regs = x.regs ∧ (x.unfenceTask k).flt = x.flt := by
      unfold State.unfenceTask State.modTask
      split <;> exact ⟨rfl, rfl⟩
    obtain ⟨hr, hf⟩ := hwithin
    subst hx
    refine ⟨?_, ?_⟩
    · rw [State.get, hr]
      exact get_unfenceJudged hregs true k (r := 0) (by decide)
    · rw [State.taskFenced, hf]
      exact decide_eq_false (not_not.mpr (tget_tset_same htasks k 0))
  · have hr : s.taskResult k = 2 := by simp [State.taskResult, hclass, State.fenceHeld, hused]
    rw [unfenceEffect_task hup hl4 k good hr, if_pos (by simp)]
    exact ⟨get_unfenceJudged hregs true k (r := 2) (by decide), hfenced⟩

/-- R742: UNFENCE of a whole glade. -/
theorem unfence_glade (good : Bool) {g : Nat} (hfenced : s.gladeFenced g = true) (hquiet : ∀ e ∈ s.flt.inbox, e.glade = false) :
    Reaches (.unfence false (256 * g) good) s (fun t =>
      (g ≠ 10 → g < 16 → t.get R.FLT_UNFENCE_RESULT = 1 ∧ t.gladeFenced g = true)
      ∧ (g = 10 ∨ 16 ≤ g → (s.record (s.glade g).fencedBy).used = true → t.get R.FLT_UNFENCE_RESULT = 2 ∧ t.gladeFenced g = true)
      ∧ (g = 10 ∨ 16 ≤ g → (s.record (s.glade g).fencedBy).used = false → good = false →
          t.get R.FLT_UNFENCE_RESULT = 3 ∧ t.gladeFenced g = true)
      ∧ (g = 10 ∨ 16 ≤ g → (s.record (s.glade g).fencedBy).used = false → good = true →
          t.get R.FLT_UNFENCE_RESULT = 0 ∧ t.gladeFenced g = false ∧ (t.glade g).inReset = false)) := by
  have hg : 256 * g / 256 = g := by omega
  obtain ⟨elapsed, time, hclock, hwaited⟩ := clockBack_eq g good s
  let x : State := { s with elapsed, time }
  have hupx : x.up 1 = true := hup
  have heffect : ∀ {r}, x.gladeResult g good = r → unfenceEffect false (256 * g) good x
      = if r ≠ 0 then (x.unfenceJudged false (256 * g) r).config R.FLT_UNFENCE_GO.addr else (x.unfenceJudged false (256 * g) r).returnGlade g := fun {r} hr => by
    rw [← hg] at hr
    rw [unfenceEffect_glade hupx hl4 good (hg.symm ▸ hfenced) hr, hg]
  have hrefused : ∀ {r}, x.gladeResult g good = r → r ≠ 0 → r < 4 →
      (unfenceEffect false (256 * g) good x).get R.FLT_UNFENCE_RESULT = r ∧ (unfenceEffect false (256 * g) good x).gladeFenced g = true := fun {r} hr h0 h4 => by
    rw [heffect hr, if_pos h0]
    exact ⟨get_unfenceJudged hregs false _ h4, hfenced⟩
  refine ⟨unfenceEffect false (256 * g) good x, ?_, fun h10 h16 => hrefused (gladeResult_stays (s := x) h10 h16 good) (by decide) (by decide),
    fun h10 hused => hrefused (gladeResult_held (s := x) h10 hused good) (by decide) (by decide), fun h10 hused hbad => ?_, fun h10 hused hgood => ?_⟩
  · change Host.Outcome.next ((s.clockBack (256 * g / 256) good).commanded 0x1058 _) = _
    rw [hg, hclock]
    exact congrArg _ (commanded_collector hupx hl4 hmay hlink rfl _)
  · subst hbad
    exact hrefused (gladeResult_clock (s := x) h10 hused hquiet) (by decide) (by decide)
  · subst hgood
    rw [heffect (gladeResult_runs (s := x) h10 hused hquiet (hwaited rfl)), if_neg (by simp)]
    obtain ⟨hout, hruns, hresult⟩ := returnGlade_shows (g := g) (by omega) (x.unfenceJudged false (256 * g) 0)
    exact ⟨hresult.trans (get_unfenceJudged hregs false _ (by decide)), hout, hruns⟩

end

/-- Settles O12: a cause ends in its own record, an acknowledgement closes a record whose cause has ended, and UNFENCE answers by what still holds the fence. -/
theorem recordsAcknowledgedAndRead : Obligations.RecordsAcknowledgedAndRead := by
  unfold Obligations.RecordsAcknowledgedAndRead
  refine ⟨fun s cls unit hup hfrozen => faultCauseCleared_ends hup hfrozen cls unit, fun s c h hrise h1 h2 hused => faultAck_answers h hrise h1 h2 hused,
    fun s h => histClr_empties h, fun s v h hfrozen => recIdx_latches h hfrozen v, fun s good hup hl4 hmay hlink hcanon hunits htasks => ?_⟩
  obtain ⟨-, hregs⟩ := Bool.and_eq_true_iff.mp hcanon
  exact ⟨fun u _ hkind hglade hclk => unfence_unit hup hl4 hmay hlink hregs hunits good hkind hglade hclk,
    fun k _ hfenced => unfence_task hup hl4 hmay hlink hregs htasks good hfenced,
    fun g _ hfenced hquiet => unfence_glade hup hl4 hmay hlink hregs good hfenced hquiet⟩

end Sys2Proof.Machine
end

section
namespace Sys2Proof.Machine

/-! ## The ports of the PTP engine (R556 to R558) -/

/-- A servo that takes an offset moves itself, the time page, the end of the cycle and what samples later. -/
def servoFoot : Foot :=
  ⟨fun s => { s.bare with servo := {}, arm := {}, adcs := [] }, fun k => (k / 0x20000).beq 4, fun _ => rfl⟩

section
variable {s₀ s : State}

theorem Within.retimeAdc (h : Within servoFoot s₀ s) : Within servoFoot s₀ s.retimeAdc := h.move

theorem Within.setInc {inc : Nat} (h : Within servoFoot s₀ s) : Within servoFoot s₀ (s.setInc inc) := by
  unfold State.setInc
  extract_lets _ s1
  have h1 : Within servoFoot s₀ s1 := (h.move (t := { s with servo := { s.servo with inc := inc } })).put.put
  exact (h1.thenIf fun h => h.move).retimeAdc

theorem Within.applyRate {rate : Int} (h : Within servoFoot s₀ s) : Within servoFoot s₀ (s.applyRate rate) :=
  (h.move (t := { s with servo := { s.servo with rate := rate } })).putS.setInc

theorem Within.offsetLock {off : Int} (h : Within servoFoot s₀ s) : Within servoFoot s₀ (s.offsetLock off) := by
  unfold State.offsetLock
  extract_lets s1 n _ s2
  have h1 : Within servoFoot s₀ s1 := h.put
  have h2 : Within servoFoot s₀ s2 := h1.move
  exact .ite (h2.thenIf fun h => h.put) (h1.move (t := { s1 with servo := { s1.servo with lockCnt := 0 } })).put

theorem Within.servoCompute {off : Int} (h : Within servoFoot s₀ s) : Within servoFoot s₀ (s.servoCompute off) :=
  (h.move (t := { s with servo := { s.servo with acc := _ } })).flagIf.applyRate

theorem Within.servoTake {off : Int} (h : Within servoFoot s₀ s) : Within servoFoot s₀ (s.servoTake off) := by
  unfold State.servoTake
  extract_lets small s1 s2
  have h2 : Within servoFoot s₀ s2 := (h.putS.offsetLock).thenIf fun h => h.put
  exact .ite h2.move h2.servoCompute

theorem Within.servoOffset {src : Nat} {off : Int} (h : Within servoFoot s₀ s) : Within servoFoot s₀ (s.servoOffset src off) := by
  refine h.thenIf fun h => ?_
  have htake : Within servoFoot s₀ (s.servoTake off) := h.servoTake
  generalize s.servoTake off = t at htake
  exact htake.move

end

/-- The state without what sending a frame moves. -/
def State.sentPart (s : State) : State := { s with net := { s.net with sentOn := [], txSeq := [] } }

section
variable {s : State}

theorem forAll_sentPart {l : List Nat} {f : Nat → State → State} (hf : ∀ n s, (f n s).sentPart = s.sentPart) (s : State) :
    (forAll l f s).sentPart = s.sentPart :=
  forAll_induction (P := fun t => t.sentPart = s.sentPart) rfl fun n _ x hx => (hf n x).trans hx

/-- A frame that leaves moves what the ports have sent and the numbers of the pairs, and nothing else (R543). -/
theorem ethSend_sentPart (mask dst etype : Nat) (tagged : Bool) (body : EthBody) (s : State) : (s.ethSend mask dst etype tagged body).sentPart = s.sentPart := by
  refine Eq.trans (forAll_sentPart (fun n x => ?_) _) (forAll_sentPart (fun p x => ?_) s)
  · rfl
  unfold State.portSend
  split <;> rfl

theorem ptpOut_sentPart (p : Nat) (l : List PtpTx) (s : State) : (s.ptpOut p l).sentPart = (s.setPtp p { s.ptpPort p with out := l }).sentPart :=
  List.foldlRecOn (motive := fun t : State => t.sentPart = (s.setPtp p { s.ptpPort p with out := l }).sentPart) l _ rfl
    fun _ hx _ _ => (ethSend_sentPart ..).trans hx

theorem ptpPort_setPtp_same (hrise : keysRise none s.net.ptp = true) (p : Nat) (x : PtpPort) : (s.setPtp p x).ptpPort p = x := tget_tset_same hrise p x

theorem ptpPort_setPtp_other {p q : Nat} (h : q ≠ p) (x : PtpPort) : (s.setPtp p x).ptpPort q = s.ptpPort q := tget_tset_other h x

theorem ptp_setPtp_rise (hrise : keysRise none s.net.ptp = true) (p : Nat) (x : PtpPort) : keysRise none (s.setPtp p x).net.ptp = true := keysRise_tset hrise p x

/-- What two states share that differ by sent frames. -/
theorem sentPart_reads {t : State} (h : t.sentPart = s.sentPart) : (∀ p, t.ptpPort p = s.ptpPort p) ∧ t.net.supers = s.net.supers ∧ t.regs = s.regs ∧ t.mem = s.mem := by
  have hports := fun p => congrArg (fun x : State => x.ptpPort p) h
  have hsupers := congrArg (fun x : State => x.net.supers) h
  have hregs := congrArg (fun x : State => x.regs) h
  have hmem := congrArg (fun x : State => x.mem) h
  exact ⟨hports, hsupers, hregs, hmem⟩

/-- A port that sends has the messages in OUT, and nothing else has moved beside the frames. -/
theorem ptpOut_shows (hrise : keysRise none s.net.ptp = true) (p : Nat) (x : PtpPort) (l : List PtpTx) :
    ((s.setPtp p x).ptpOut p l).ptpPort p = { x with out := l } ∧ ((s.setPtp p x).ptpOut p l).regs = s.regs ∧ ((s.setPtp p x).ptpOut p l).mem = s.mem := by
  obtain ⟨hports, -, hregs, hmem⟩ := sentPart_reads (ptpOut_sentPart p l (s.setPtp p x))
  refine ⟨?_, hregs, hmem⟩
  rw [hports, ptpPort_setPtp_same (ptp_setPtp_rise hrise p x), ptpPort_setPtp_same hrise]

/-- The decision on the ports moves their states alone (R558). -/
theorem ptpPort_ptpRun (hrise : keysRise none s.net.ptp = true) (p : Nat) :
    keysRise none s.ptpRun.net.ptp = true ∧ ∃ st, s.ptpRun.ptpPort p = { s.ptpPort p with st } := by
  have hdecided : ∀ l, keysRise none (forAll l (fun p a => a.setPtp p { a.ptpPort p with st := s.ptpDecide p }) s).net.ptp = true
      ∧ ∃ st, (forAll l (fun p a => a.setPtp p { a.ptpPort p with st := s.ptpDecide p }) s).ptpPort p = { s.ptpPort p with st } := fun l => by
    refine forAll_induction (P := fun t : State => keysRise none t.net.ptp = true ∧ ∃ st, t.ptpPort p = { s.ptpPort p with st }) ⟨hrise, _, rfl⟩
      fun q _ x ⟨hx, st, hst⟩ => ⟨ptp_setPtp_rise hx _ _, ?_⟩
    by_cases hq : p = q
    · subst hq
      exact ⟨_, (ptpPort_setPtp_same hx _ _).trans (by rw [hst])⟩
    · exact ⟨st, (ptpPort_setPtp_other hq _).trans hst⟩
  unfold State.ptpRun
  extract_lets s1 par s2 s3
  obtain ⟨hrise1, hst1⟩ := hdecided s.ptpPorts
  have h3 : s3.net.ptp = s1.net.ptp := by
    change (if par ≠ s.net.parent then s2.raise R.NETSV_NSTAT_PTP_PARENT else s2).net.ptp = s1.net.ptp
    split <;> simp [s2, State.modNet]
  have hkeep : ∀ t : State, t.net.ptp = s3.net.ptp → keysRise none t.net.ptp = true ∧ ∃ st, t.ptpPort p = { s.ptpPort p with st } := fun t ht => by
    rw [State.ptpPort, ht, h3]
    exact ⟨hrise1, hst1⟩
  split
  · exact hkeep _ rfl
  · exact hkeep _ rfl

theorem ptpRun_mem (s : State) : s.ptpRun.mem = s.mem := by
  have hrun := (Within.refl ptpFoot s).ptpRun
  generalize s.ptpRun = t at hrun
  exact congrArg (fun x => x.mem) hrun.mask

/-- A port whose data sets are put in place keeps them through the decision. -/
theorem ptpHeard_shows (hrise : keysRise none s.net.ptp = true) (p : Nat) (x : PtpPort) : keysRise none (s.setPtp p x).ptpRun.net.ptp = true
    ∧ ((s.setPtp p x).ptpRun.ptpPort p).heard = x.heard ∧ ((s.setPtp p x).ptpRun.ptpPort p).best = x.best ∧ (s.setPtp p x).ptpRun.mem = s.mem := by
  obtain ⟨hkeys, st, hst⟩ := ptpPort_ptpRun (ptp_setPtp_rise hrise p x) p
  rw [hst, ptpPort_setPtp_same hrise]
  exact ⟨hkeys, rfl, rfl, ptpRun_mem _⟩

end

/-! ## The statement's clauses -/

section
variable {s : State} {p : Nat}

/-- R557: a Sync that does not reach the servo changes nothing. -/
theorem ptpSync_ignored {h : PtpHead} (hignored : s.ptpSlave h.port = false ∨ h.domain ≠ s.get R.NETSV_PTP_CFG_DOMAIN ∨ s.isCopy h.port h.srcMac h.red = true)
    (t1 corr t2 : Int) : exec (.ptpSyncReceived h t1 corr t2) s = .next s := by
  change Host.Outcome.next (ptpSyncEffect h t1 corr t2 s) = _
  have hno : (s.ptpSlave h.port && s.ptpTakes h false) = false := by
    obtain hslave | hdomain | hcopy := hignored
    · simp [hslave]
    · simp [State.ptpTakes, hdomain]
    · simp [State.ptpTakes, hcopy]
  simp [ptpSyncEffect, hno]

/-- R557: a Sync at the slave port is an offset for the servo. -/
theorem ptpSync_offset {h : PtpHead} (hslave : s.ptpSlave h.port = true) (hdomain : h.domain = s.get R.NETSV_PTP_CFG_DOMAIN)
    (hcopy : s.isCopy h.port h.srcMac h.red = false) (t1 corr t2 : Int) :
    Reaches (.ptpSyncReceived h t1 corr t2) s (fun t => t.mem = s.mem ∧ t.net = s.net
      ∧ exec (.servoOffset 1 (t1 + corr - t2 + ((s.ptpPort h.port).mld * 2 ^ 12 : Nat))) s = .next t) := by
  have heffect : ptpSyncEffect h t1 corr t2 s = s.servoOffset 1 (syncOffset t1 corr t2 (s.ptpPort h.port).mld) := by
    simp [ptpSyncEffect, hslave, State.ptpTakes, hdomain, hcopy]
  have hservo := (Within.refl servoFoot s).servoOffset (src := 1) (off := syncOffset t1 corr t2 (s.ptpPort h.port).mld)
  exact ⟨_, congrArg Host.Outcome.next heffect, congrArg (fun x => x.mem) hservo.mask, congrArg (fun x => x.net) hservo.mask, rfl⟩

theorem ptpMessage_copy {h : PtpHead} (hp : h.port = p) (hcopy : s.isCopy p h.srcMac h.red = true) (m : PtpMsg) :
    exec (.ptpMessageReceived h m) s = .next s := by
  subst hp
  change Host.Outcome.next (ptpMessageEffect h m s) = _
  simp [ptpMessageEffect, State.ptpTakes, hcopy]

theorem ptpAnnounce_otherDomain {h : PtpHead} (hdomain : h.domain ≠ s.get R.NETSV_PTP_CFG_DOMAIN) (d : AnnounceData) :
    exec (.ptpMessageReceived h (.announce d)) s = .next s := by
  change Host.Outcome.next (ptpMessageEffect h (.announce d) s) = _
  simp [ptpMessageEffect, State.ptpTakes, hdomain]

section
variable (hup : s.ptpUp = true) (hport : s.ptpPorts.contains p = true) (hlink : s.linkUp p = true)
include hup hport hlink

/-- R556: an Announce of the domain joins the data sets of its port. -/
theorem ptpAnnounce_joins (hrise : keysRise none s.net.ptp = true) {h : PtpHead} (hp : h.port = p) (hdomain : h.domain = s.get R.NETSV_PTP_CFG_DOMAIN)
    (hcopy : s.isCopy p h.srcMac h.red = false) (d : AnnounceData) :
    Reaches (.ptpMessageReceived h (.announce d)) s (fun t => (t.ptpPort p).heard = hearAnnounce h.sender d (s.ptpPort p).heard
      ∧ (t.ptpPort p).best = bestOf (hearAnnounce h.sender d (s.ptpPort p).heard) ∧ t.mem = s.mem) := by
  subst hp
  have heffect : ptpMessageEffect h (.announce d) s = (s.setPtp h.port { s.ptpPort h.port with
      heard := hearAnnounce h.sender d (s.ptpPort h.port).heard, best := bestOf (hearAnnounce h.sender d (s.ptpPort h.port).heard) }).ptpRun := by
    simp [ptpMessageEffect, State.ptpTakes, hup, List.contains_iff_mem.mp hport, hlink, hcopy, hdomain]
  obtain ⟨-, hheard⟩ := ptpHeard_shows hrise h.port { s.ptpPort h.port with
    heard := hearAnnounce h.sender d (s.ptpPort h.port).heard, best := bestOf (hearAnnounce h.sender d (s.ptpPort h.port).heard) }
  exact ⟨_, congrArg Host.Outcome.next heffect, hheard⟩

/-- R556: a Pdelay request is answered by its response and follow-up. -/
theorem ptpPdelayReq_answered (hrise : keysRise none s.net.ptp = true) {h : PtpHead} (hp : h.port = p) (hcopy : s.isCopy p h.srcMac h.red = false) :
    Reaches (.ptpMessageReceived h .pdelayReq) s (fun t =>
      t.ptpPort p = { s.ptpPort p with resps := (s.ptpPort p).resps + 1, out := [.pdelayResp s.stamp, .pdelayFollowUp s.stamp] } ∧ t.regs = s.regs ∧ t.mem = s.mem) := by
  subst hp
  have heffect : ptpMessageEffect h .pdelayReq s = (s.setPtp h.port { s.ptpPort h.port with resps := (s.ptpPort h.port).resps + 1 }).ptpOut h.port
      [.pdelayResp s.stamp, .pdelayFollowUp s.stamp] := by
    simp [ptpMessageEffect, State.ptpTakes, hup, List.contains_iff_mem.mp hport, hlink, hcopy]
  exact ⟨_, congrArg Host.Outcome.next heffect, ptpOut_shows hrise ..⟩

/-- R556: a response gives the mean link delay of its four times. -/
theorem ptpPdelayResp_measures (hrise : keysRise none s.net.ptp = true) {h : PtpHead} (hp : h.port = p) (hcopy : s.isCopy p h.srcMac h.red = false) (t1 t2 t3 t4 : Int) :
    Reaches (.ptpMessageReceived h (.pdelayResp t1 t2 t3 t4)) s (fun t =>
      t.ptpPort p = { s.ptpPort p with mld := meanDelay (s.ptpPort p).prev t1 t2 t3 t4, prev := some (t3, t4) } ∧ t.mem = s.mem) := by
  subst hp
  refine ⟨_, rfl, ?_⟩
  simp only [ptpMessageEffect, State.ptpTakes, hup, hport, hlink, hcopy, Bool.not_false, Bool.true_or, Bool.and_self, if_true]
  split
  · exact ⟨ptpPort_setPtp_same hrise _ _, rfl⟩
  · exact ⟨ptpPort_setPtp_same hrise _ _, rfl⟩

/-- R556: a peer-delay request leaves every port. -/
theorem ptpPdelay_sent (hrise : keysRise none s.net.ptp = true) : Reaches (.ptpIntervalSend p .pdelay) s (fun t =>
    t.ptpPort p = { s.ptpPort p with pdls := (s.ptpPort p).pdls + 1, out := [.pdelayReq] } ∧ t.regs = s.regs ∧ t.mem = s.mem) := by
  refine ⟨_, rfl, ?_⟩
  simp only [ptpSendEffect, hup, hport, hlink, Bool.and_self, if_true]
  exact ptpOut_shows hrise ..

/-- R556: Sync with its Follow_Up and Announce leave a MASTER port. -/
theorem ptpMaster_sends (hrise : keysRise none s.net.ptp = true) (hst : (s.ptpPort p).st = 6) :
    Reaches (.ptpIntervalSend p .sync) s (fun t => t.ptpPort p = { s.ptpPort p with syncs := (s.ptpPort p).syncs + 1, out := [.sync (s.get R.NETSV_PTP_CFG_DOMAIN), .followUp (s.get R.NETSV_PTP_CFG_DOMAIN) s.stamp] } ∧ t.regs = s.regs)
      ∧ Reaches (.ptpIntervalSend p .announce) s (fun t => t.ptpPort p = { s.ptpPort p with anns := (s.ptpPort p).anns + 1, out := [.announce s.ptpAnnounced] } ∧ t.regs = s.regs) := by
  constructor
  all_goals
    refine ⟨_, rfl, ?_⟩
    simp only [ptpSendEffect, hup, hport, hlink, hst, Bool.and_self, if_true]
    obtain ⟨hshown, hregs, -⟩ := ptpOut_shows hrise ..
    exact ⟨hshown, hregs⟩

/-- R556: a receipt timeout forgets the Announce. -/
theorem ptpTimeout_forgets (hrise : keysRise none s.net.ptp = true) :
    Reaches (.ptpAnnounceReceiptTimeout p) s (fun t => (t.ptpPort p).best = none ∧ (t.ptpPort p).heard = [] ∧ t.mem = s.mem) := by
  obtain ⟨hkeys, hheard, hbest, hmem⟩ := ptpHeard_shows hrise p { s.ptpPort p with best := none, heard := [] }
  have heffect : ∀ t, (s.setPtp p { s.ptpPort p with best := none, heard := [] }).ptpRun = t →
      ptpTimeoutEffect p s = if t.ptpBest.isNone && !t.on R.NETSV_PTP_CFG_SLAVE_ONLY then t.setPtp p { t.ptpPort p with st := 6 } else t := fun t ht => by
    subst ht
    simp only [ptpTimeoutEffect, hup, hport, hlink, Bool.and_self, if_true]
  generalize (s.setPtp p { s.ptpPort p with best := none, heard := [] }).ptpRun = t at hkeys hheard hbest hmem heffect
  refine ⟨_, congrArg Host.Outcome.next (heffect t rfl), ?_⟩
  split
  · rw [ptpPort_setPtp_same hkeys]
    exact ⟨hbest, hheard, hmem⟩
  · exact ⟨hbest, hheard, hmem⟩

end

theorem ptpInterval_notMaster (hst : (s.ptpPort p).st ≠ 6) :
    exec (.ptpIntervalSend p .sync) s = .next s ∧ exec (.ptpIntervalSend p .announce) s = .next s := by
  constructor
  · change Host.Outcome.next (ptpSendEffect p .sync s) = _
    simp [ptpSendEffect, hst]
  · change Host.Outcome.next (ptpSendEffect p .announce s) = _
    simp [ptpSendEffect, hst]

/-- An engine that is not enabled, or does not run, does nothing. -/
theorem ptpStopped (hup : s.ptpUp = false) (h : PtpHead) (m : PtpMsg) (k : PtpSend) :
    exec (.ptpMessageReceived h m) s = .next s ∧ exec (.ptpIntervalSend p k) s = .next s ∧ exec (.ptpAnnounceReceiptTimeout p) s = .next s := by
  refine ⟨?_, ?_, ?_⟩
  · change Host.Outcome.next (ptpMessageEffect h m s) = _
    simp [ptpMessageEffect, hup]
  · change Host.Outcome.next (ptpSendEffect p k s) = _
    simp [ptpSendEffect, hup]
  · change Host.Outcome.next (ptpTimeoutEffect p s) = _
    simp [ptpTimeoutEffect, hup]

end

/-- Settles O49: each message and interval by its own branch of the engine, whose decision on the ports moves nothing of a port beside its state. -/
theorem ptpMessages : Obligations.PtpMessages := by
  unfold Obligations.PtpMessages
  refine fun s p _ hrise => ⟨fun h t1 corr t2 hp => ?_, fun hup hport hlink => ?_, fun hup h m k => ptpStopped hup h m k⟩
  · subst hp
    exact ⟨fun hignored => ptpSync_ignored hignored t1 corr t2, fun hslave hdomain hcopy => ptpSync_offset hslave hdomain hcopy t1 corr t2⟩
  · exact ⟨fun h m hp hcopy => ptpMessage_copy hp hcopy m,
      fun h d hp => ⟨fun hdomain => ptpAnnounce_otherDomain hdomain d, fun hdomain hcopy => ptpAnnounce_joins hup hport hlink hrise hp hdomain hcopy d⟩,
      fun h hp hcopy => ⟨ptpPdelayReq_answered hup hport hlink hrise hp hcopy, fun t1 t2 t3 t4 => ptpPdelayResp_measures hup hport hlink hrise hp hcopy t1 t2 t3 t4⟩,
      ptpPdelay_sent hup hport hlink hrise, fun hst => ptpMaster_sends hup hport hlink hrise hst, fun hst => ptpInterval_notMaster hst,
      ptpTimeout_forgets hup hport hlink hrise⟩

end Sys2Proof.Machine
end

section
namespace Sys2Proof.Machine

/-! ## The pages of the Ethernet ports (R539, R819) -/

/-- The status bits of a port. -/
def ethStats (p : Nat) : List Field :=
  [R.ETH_PSTAT_LINK_DN p, R.ETH_PSTAT_AN_FAIL p, R.ETH_PSTAT_FCS p, R.ETH_PSTAT_SIZE p, R.ETH_PSTAT_TYPE_DROP p, R.ETH_PSTAT_WRONG_LAN p, R.ETH_PSTAT_UNPAIRED p]

/-- The fields of a port, with the counters of its pair, that stand beside its status bits. -/
def ethPlain (p : Nat) : List Field :=
  [R.ETH_STATUS_AN_DONE p, R.ETH_RX_CNT_FRAMES p, R.ETH_ERR_CNT_FCS p, R.ETH_ERR_CNT_DROP p, R.ETH_PAIR_CNT_DUP (pairLead p), R.ETH_PAIR_CNT_UNPAIRED p]

section
variable {s : State} {p : Nat}

theorem get_raise_ethStat (hp : p < 4) {F : Field} (hF : F ∈ ethStats p) (s : State) : (s.raise F).get F = 1 := by
  have hself : F.key ≠ 32 * (pageOf F.addr + 0x14) ∧ F.w ≠ 0 ∧ F.rst = 0 := by
    have hall : ∀ p < 4, ∀ F ∈ ethStats p, F.key ≠ 32 * (pageOf F.addr + 0x14) ∧ F.w ≠ 0 ∧ F.rst = 0 := by decide
    exact hall p hp F hF
  obtain ⟨hkey, hw, hrst⟩ := hself
  exact get_raise_same hkey hw hrst s

theorem get_raise_ethPlain (hp : p < 4) {F G : Field} (hF : F ∈ ethStats p) (hG : G ∈ ethPlain p) (s : State) : (s.raise F).get G = s.get G := by
  have hapart : ∀ p < 4, ∀ F ∈ ethStats p, ∀ G ∈ ethPlain p, G.key ≠ F.key ∧ G.key ≠ 32 * (pageOf F.addr + 0x14) := by decide
  obtain ⟨hkey, hirq⟩ := hapart p hp F hF G hG
  exact get_raise_other hkey hirq s

theorem get_addTo_same (h : keysRise none s.regs = true) (F : Field) (n : Nat) : (s.addTo F n).get F = (s.get F + n) % 2 ^ F.w := get_put_same h F _

theorem inService_ethUp (h : s.inService = true) (hp : p < 4) : s.ethUp p = true := by
  rw [State.ethUp, decide_eq_true hp, inService_unitUp h (by simp only [ethUnit]; omega)]
  rfl

theorem commanded_ethPage (h : s.inService = true) (hp : p < 4) {addr : Nat} (ha : addr / 0x1000 = 0xA0 + p) (f : State → State) : s.commanded addr f = f s := by
  have hpage : ∀ p < 4, ∀ a, a / 0x1000 = 0xA0 + p → pageGlade a = some 7 ∧ pageAbsent s.variant a = false := fun p hp a ha => by
    obtain rfl | rfl | rfl | rfl : p = 0 ∨ p = 1 ∨ p = 2 ∨ p = 3 := by omega
    all_goals simp [pageGlade, pageAbsent, ha]
  obtain ⟨hglade, habsent⟩ := hpage p hp addr ha
  exact commanded_inService h hglade (inService_common h (by decide)) habsent f

/-- A link that goes down: AN_DONE is cleared, LINK_DN set, and a standing event posted (R541). -/
theorem linkDown_shows (h : s.inService = true) (hp : p < 4) : (s.linkDown p).get (R.ETH_STATUS_AN_DONE p) = 0 ∧ (s.linkDown p).get (R.ETH_PSTAT_LINK_DN p) = 1
    ∧ { cls := .net, unit := 0x0700 + p, standing := true } ∈ (s.linkDown p).flt.inbox ∧ (s.linkDown p).mem = s.mem := by
  let s1 := (s.put (R.ETH_STATUS_AN_DONE p) 0).raise (R.ETH_PSTAT_LINK_DN p)
  have hfault := (Within.refl ptpFoot (s1.eventOpen .net (ethUnit p) 0)).ptpFault (p := p)
  have hkey : ∀ o lo, o < 0x1000 → lo < 32 → ptpFoot.keys (32 * (0xA0000 + 0x1000 * p + o) + lo) = false := fun o lo ho hlo => beq_page_false (by omega)
  have hdone : s1.get (R.ETH_STATUS_AN_DONE p) = 0 := by
    refine (get_raise_ethPlain hp (by simp [ethStats]) (by simp [ethPlain]) _).trans ?_
    exact get_put_same (inService_regsRise h) _ _
  have hdown : s1.get (R.ETH_PSTAT_LINK_DN p) = 1 := get_raise_ethStat hp (by simp [ethStats]) _
  refine ⟨(hfault.keys (R.ETH_STATUS_AN_DONE p) (hkey 0xC 2 (by decide) (by decide))).trans hdone, (hfault.keys (R.ETH_PSTAT_LINK_DN p) (hkey 0x4C 0 (by decide) (by decide))).trans hdown,
    mem_inbox_ptpFault (s := s1.eventOpen .net (ethUnit p) 0) (List.mem_append_right _ (List.mem_singleton.mpr rfl)) p, ?_⟩
  have hmem := congrArg (fun x => x.mem) hfault.mask
  exact hmem.trans (State.raise_mem _ _)

/-! ### Frames (R539, R543, R544) -/

/-- What the checks before the duplicate table leave of an accepted frame. -/
theorem pairTake_keeps (p : Nat) (f : EthFrame) (s : State) (hp : p < 4) : (s.pairTake p f).mem = s.mem
    ∧ (s.pairTake p f).get (R.ETH_RX_CNT_FRAMES p) = s.get (R.ETH_RX_CNT_FRAMES p) := by
  let P (x : State) : Prop := x.mem = s.mem ∧ x.get (R.ETH_RX_CNT_FRAMES p) = s.get (R.ETH_RX_CNT_FRAMES p)
  change P _
  have hcount : (R.ETH_RX_CNT_FRAMES p).key ≠ (R.ETH_PAIR_CNT_DUP (pairLead p)).key := by
    simp only [R.ETH_RX_CNT_FRAMES, R.ETH_PAIR_CNT_DUP, Field.key, pairLead]
    omega
  have hjudge : ∀ x q, P x → P (x.pairJudge p q f) := fun x q hx => by
    unfold State.pairJudge
    extract_lets
    split
    · exact ⟨hx.1, (get_put_other hcount _ _).trans hx.2⟩
    · exact hx
  unfold State.pairTake
  extract_lets mode s1 s2
  have h1 : P s1 := by
    unfold s1 State.flagIf
    split
    · exact ⟨State.raise_mem _ _, get_raise_ethPlain hp (by simp [ethStats]) (by simp [ethPlain]) s⟩
    · exact ⟨rfl, rfl⟩
  have h2 : P s2 := by
    unfold s2
    split
    · split
      · exact h1
      · exact h1
    · exact h1
    · exact h1
  split
  · exact h1
  · split
    · exact h2
    · exact hjudge _ _ h2

theorem pairTake_own {f : EthFrame} (hown : s.isOwn p f.srcMac f.red = true) : (s.pairTake p f).net = s.net := by
  unfold State.pairTake
  extract_lets mode s1
  rw [if_pos hown]
  unfold s1 State.flagIf
  split
  · exact State.raise_net _ _
  · rfl

/-- A frame with a PRP trailer on a PRP pair meets the table after its LAN is checked. -/
theorem pairTake_prp {f : EthFrame} {q lan : Nat} (hred : f.red = .prp q lan) (hmode : s.pairMode p = 1) :
    s.pairTake p f = (s.flagIf (wrongLan 1 p f.red) (R.ETH_PSTAT_WRONG_LAN p)).pairJudge p q f := by
  have hown : s.isOwn p f.srcMac f.red = false := by simp [State.isOwn, hred]
  have hkey : dupKey (s.pairMode p) f.red = some q := by simp [dupKey, hred, hmode]
  unfold State.pairTake
  extract_lets mode s1 s2
  have h2 : s2 = s1 := by
    unfold s2
    rw [hred]
  rw [if_neg (by simp [hown]), hkey, h2]
  unfold s1 mode
  rw [hmode]

theorem pairJudge_seen {f : EthFrame} {q : Nat} (hregs : keysRise none s.regs = true) (hseen : ∃ e ∈ tget [] s.net.dups (p / 2), e.srcMac = f.srcMac ∧ e.seq = q) :
    (s.pairJudge p q f).get (R.ETH_PAIR_CNT_DUP (pairLead p)) = (s.get (R.ETH_PAIR_CNT_DUP (pairLead p)) + 1) % 2 ^ (R.ETH_PAIR_CNT_DUP (pairLead p)).w := by
  have hany : (tget [] s.net.dups (p / 2)).any (fun e => decide (e.srcMac = f.srcMac ∧ e.seq = q)) = true := by simpa using hseen
  unfold State.pairJudge
  extract_lets k bit t _
  rw [if_pos hany]
  exact get_addTo_same (s := s.modNet _) hregs _ _

theorem pairJudge_new {f : EthFrame} {q : Nat} (hdups : keysRise none s.net.dups = true) (hnew : ∀ e ∈ tget [] s.net.dups (p / 2), ¬(e.srcMac = f.srcMac ∧ e.seq = q)) :
    tget [] (s.pairJudge p q f).net.dups (p / 2)
      = ({ srcMac := f.srcMac, seq := q, lans := if p % 2 = 0 then 1 else 2, first := if p % 2 = 0 then 1 else 2 } :: tget [] s.net.dups (p / 2)).take 1024 := by
  have hany : (tget [] s.net.dups (p / 2)).any (fun e => decide (e.srcMac = f.srcMac ∧ e.seq = q)) = false :=
    List.any_eq_false.mpr fun e he => by simpa using hnew e he
  unfold State.pairJudge
  extract_lets k bit t _
  rw [if_neg (by rw [hany]; exact Bool.false_ne_true)]
  exact tget_tset_same (d := []) (t := s.net.dups) hdups (p / 2) ((⟨f.srcMac, q, bit, bit⟩ :: t).take 1024)

theorem flagIf_shows (b : Bool) (F : Field) (hsafe : s.canonical = true) : (s.flagIf b F).net = s.net ∧ keysRise none (s.flagIf b F).regs = true := by
  unfold State.flagIf
  split
  · exact ⟨State.raise_net _ _, regs_raise_rise hsafe F⟩
  · exact ⟨rfl, (State.canonical_iff.mp hsafe).2⟩

/-- A rejected frame counts, with its flag. -/
theorem ethRejected_shows (h : s.inService = true) (hp : p < 4) {C F : Field} (hF : F ∈ ethStats p) (hC : C ∈ ethPlain p) : ((s.addTo C 1).raise F).net = s.net ∧ ((s.addTo C 1).raise F).get F = 1
    ∧ ((s.addTo C 1).raise F).mem = s.mem ∧ ((s.addTo C 1).raise F).get C = (s.get C + 1) % 2 ^ C.w :=
  ⟨State.raise_net _ _, get_raise_ethStat hp hF _, State.raise_mem _ _, (get_raise_ethPlain hp hF hC _).trans (get_addTo_same (inService_regsRise h) C 1)⟩

section
variable (h : s.inService = true) (hp : p < 4) (hen : s.on (R.ETH_CTRL_EN p) = true)
include h hp hen

theorem ethFrameEffect_eq (f : EthFrame) : ethFrameEffect p f s
    = if !f.fcsOk then (s.addTo (R.ETH_ERR_CNT_FCS p) 1).raise (R.ETH_PSTAT_FCS p)
      else if f.size < 64 ∨ 1522 < f.size then (s.addTo (R.ETH_ERR_CNT_DROP p) 1).raise (R.ETH_PSTAT_SIZE p)
      else if !ethTypes.contains f.etype then (s.addTo (R.ETH_ERR_CNT_DROP p) 1).raise (R.ETH_PSTAT_TYPE_DROP p)
      else (s.addTo (R.ETH_RX_CNT_FRAMES p) 1).pairTake p f := by
  rw [ethFrameEffect, inService_ethUp h hp, hen]
  rfl

theorem ethFrame_badFcs {f : EthFrame} (hfcs : f.fcsOk = false) :
    Reaches (.ethFrameReceived p f) s (fun t => t.net = s.net ∧ t.get (R.ETH_PSTAT_FCS p) = 1 ∧ t.mem = s.mem
      ∧ t.get (R.ETH_ERR_CNT_FCS p) = (s.get (R.ETH_ERR_CNT_FCS p) + 1) % 2 ^ (R.ETH_ERR_CNT_FCS p).w) := by
  refine ⟨_, congrArg Host.Outcome.next ((ethFrameEffect_eq h hp hen f).trans (if_pos (by simp [hfcs]))), ?_⟩
  exact ethRejected_shows h hp (by simp [ethStats]) (by simp [ethPlain])

theorem ethFrame_badSize {f : EthFrame} (hfcs : f.fcsOk = true) (hsize : f.size < 64 ∨ 1522 < f.size) :
    Reaches (.ethFrameReceived p f) s (fun t => t.net = s.net ∧ t.get (R.ETH_PSTAT_SIZE p) = 1
      ∧ t.get (R.ETH_ERR_CNT_DROP p) = (s.get (R.ETH_ERR_CNT_DROP p) + 1) % 2 ^ (R.ETH_ERR_CNT_DROP p).w) := by
  refine ⟨_, congrArg Host.Outcome.next ((ethFrameEffect_eq h hp hen f).trans ((if_neg (by simp [hfcs])).trans (if_pos hsize))), ?_⟩
  obtain ⟨hnet, hflag, -, hcount⟩ := ethRejected_shows h hp (C := R.ETH_ERR_CNT_DROP p) (F := R.ETH_PSTAT_SIZE p) (by simp [ethStats]) (by simp [ethPlain])
  exact ⟨hnet, hflag, hcount⟩

theorem ethFrame_badType {f : EthFrame} (hfcs : f.fcsOk = true) (hlo : 64 ≤ f.size) (hhi : f.size ≤ 1522) (htype : f.etype ∉ ethTypes) :
    Reaches (.ethFrameReceived p f) s (fun t => t.net = s.net ∧ t.get (R.ETH_PSTAT_TYPE_DROP p) = 1) := by
  refine ⟨_, congrArg Host.Outcome.next ((ethFrameEffect_eq h hp hen f).trans ((if_neg (by simp [hfcs])).trans ((if_neg (by omega)).trans (if_pos (by simpa using htype))))), ?_⟩
  obtain ⟨hnet, hflag, -, -⟩ := ethRejected_shows h hp (C := R.ETH_ERR_CNT_DROP p) (F := R.ETH_PSTAT_TYPE_DROP p) (by simp [ethStats]) (by simp [ethPlain])
  exact ⟨hnet, hflag⟩

theorem ethFrame_accepted (hdups : keysRise none s.net.dups = true) {f : EthFrame} (hfcs : f.fcsOk = true) (hlo : 64 ≤ f.size) (hhi : f.size ≤ 1522)
    (htype : f.etype ∈ ethTypes) :
    Reaches (.ethFrameReceived p f) s (fun t => t.mem = s.mem ∧ t.get (R.ETH_RX_CNT_FRAMES p) = (s.get (R.ETH_RX_CNT_FRAMES p) + 1) % 2 ^ (R.ETH_RX_CNT_FRAMES p).w
      ∧ (∀ q, f.red = .hsr q → s.pairMode p = 2 → (f.srcMac = s.portMac p ∨ f.srcMac = s.portMac (partner p)) → t.net = s.net)
      ∧ (∀ q lan, f.red = .prp q lan → s.pairMode p = 1 →
          ((∃ e ∈ tget [] s.net.dups (p / 2), e.srcMac = f.srcMac ∧ e.seq = q) → t.get (R.ETH_PAIR_CNT_DUP (pairLead p)) = (s.get (R.ETH_PAIR_CNT_DUP (pairLead p)) + 1) % 2 ^ (R.ETH_PAIR_CNT_DUP (pairLead p)).w)
          ∧ ((∀ e ∈ tget [] s.net.dups (p / 2), ¬(e.srcMac = f.srcMac ∧ e.seq = q)) →
              tget [] t.net.dups (p / 2) = ({ srcMac := f.srcMac, seq := q, lans := if p % 2 = 0 then 1 else 2, first := if p % 2 = 0 then 1 else 2 } :: tget [] s.net.dups (p / 2)).take 1024))) := by
  let x := s.addTo (R.ETH_RX_CNT_FRAMES p) 1
  have hx : x.canonical = true := (Keeps.refl s).addTo.canonical (State.inService_iff.mp h).2.2.2.2.2.2
  have hread : ∀ G : Field, G.key ≠ (R.ETH_RX_CNT_FRAMES p).key → x.get G = s.get G := fun G hG => get_put_other hG _ s
  have hmode : x.pairMode p = s.pairMode p := hread _ (by simp only [R.ETH_RX_CNT_FRAMES, R.ETH_CFG_PAIR, Field.key, pairLead]; omega)
  have hmac : ∀ k, x.portMac k = s.portMac k := fun k => by
    rw [State.portMac, State.portMac, hread _ (by simp only [R.ETH_RX_CNT_FRAMES, R.ETH_MAC_HI_MAC, Field.key]; omega),
      hread _ (by simp only [R.ETH_RX_CNT_FRAMES, R.ETH_MAC_LO_MAC, Field.key]; omega)]
  have heffect : ethFrameEffect p f s = x.pairTake p f := by
    rw [ethFrameEffect_eq h hp hen, hfcs, if_neg (by simp), if_neg (by omega), if_neg (by simpa using htype)]
  obtain ⟨hmem, hcount⟩ := pairTake_keeps p f x hp
  refine ⟨_, congrArg Host.Outcome.next heffect, hmem, hcount.trans (get_addTo_same (inService_regsRise h) _ 1), fun q hred hpair hown => ?_,
    fun q lan hred hpair => ⟨fun hseen => ?_, fun hnew => ?_⟩⟩
  · exact pairTake_own (s := x) (by simp [State.isOwn, hred, hmode, hpair, hmac, hown])
  · rw [pairTake_prp (s := x) hred (hmode.trans hpair)]
    obtain ⟨hnet, hregs⟩ := flagIf_shows (wrongLan 1 p f.red) (R.ETH_PSTAT_WRONG_LAN p) hx
    rw [pairJudge_seen hregs (by rw [hnet]; exact hseen)]
    have hkept : (x.flagIf (wrongLan 1 p f.red) (R.ETH_PSTAT_WRONG_LAN p)).get (R.ETH_PAIR_CNT_DUP (pairLead p)) = s.get (R.ETH_PAIR_CNT_DUP (pairLead p)) := by
      refine Eq.trans ?_ (hread _ (by simp only [R.ETH_RX_CNT_FRAMES, R.ETH_PAIR_CNT_DUP, Field.key, pairLead]; omega))
      unfold State.flagIf
      split
      · exact get_raise_ethPlain hp (by simp [ethStats]) (by simp [ethPlain]) x
      · rfl
    rw [hkept]
  · rw [pairTake_prp (s := x) hred (hmode.trans hpair)]
    obtain ⟨hnet, -⟩ := flagIf_shows (wrongLan 1 p f.red) (R.ETH_PSTAT_WRONG_LAN p) hx
    have hdupsEq : (x.flagIf (wrongLan 1 p f.red) (R.ETH_PSTAT_WRONG_LAN p)).net.dups = s.net.dups := congrArg (fun n => n.dups) hnet
    rw [pairJudge_new (by rw [hdupsEq]; exact hdups) (by rw [hdupsEq]; exact hnew), hdupsEq]

/-! ### Links and modules (R540 to R542) -/

theorem ethLinkDown_shows : Reaches (.ethLinkDown p) s (fun t => t.get (R.ETH_STATUS_AN_DONE p) = 0 ∧ t.get (R.ETH_PSTAT_LINK_DN p) = 1
    ∧ { cls := .net, unit := 0x0700 + p, standing := true } ∈ t.flt.inbox ∧ t.mem = s.mem) := by
  have heffect : ethLinkDownEffect p s = s.linkDown p := by
    rw [ethLinkDownEffect, inService_ethUp h hp, hen]
    rfl
  exact ⟨_, congrArg Host.Outcome.next heffect, linkDown_shows h hp⟩

theorem anRestart_shows (han : s.anRuns p = true) : Reaches (.anRestart p) s (fun t => t.get (R.ETH_STATUS_AN_DONE p) = 0 ∧ t.mem = s.mem
    ∧ (s.linkUp p = false → RegsKeptBut [R.ETH_STATUS_AN_DONE p] s t ∧ t.flt = s.flt)
    ∧ (s.linkUp p = true → t.get (R.ETH_PSTAT_LINK_DN p) = 1 ∧ { cls := .net, unit := 0x0700 + p, standing := true } ∈ t.flt.inbox)) := by
  have heffect : anRestartEffect p s = if s.linkUp p then s.linkDown p else s.put (R.ETH_STATUS_AN_DONE p) 0 := by
    rw [anRestartEffect, inService_ethUp h hp, hen, han]
    rfl
  refine ⟨_, congrArg Host.Outcome.next ((commanded_ethPage h hp (by omega) _).trans heffect), ?_⟩
  cases hlink : s.linkUp p with
  | true =>
    obtain ⟨hdone, hdown, hevent, hmem⟩ := linkDown_shows h hp
    exact ⟨hdone, hmem, fun hno => absurd hno (by simp), fun _ => ⟨hdown, hevent⟩⟩
  | false => exact ⟨get_put_same (inService_regsRise h) _ _, rfl, fun _ => ⟨regsKeptBut_put _ _ _, rfl⟩, fun hno => absurd hno (by simp)⟩

theorem anDone_shows (han : s.anRuns p = true) :
    Reaches (.autoNegotiationDone p true) s (fun t => t.get (R.ETH_STATUS_AN_DONE p) = 1 ∧ RegsKeptBut [R.ETH_STATUS_AN_DONE p] s t ∧ t.mem = s.mem)
      ∧ Reaches (.autoNegotiationDone p false) s (fun t => t.get (R.ETH_PSTAT_AN_FAIL p) = 1 ∧ t.get (R.ETH_STATUS_AN_DONE p) = s.get (R.ETH_STATUS_AN_DONE p) ∧ t.mem = s.mem) := by
  have heffect : ∀ full, anDoneEffect p full s = if full then s.put (R.ETH_STATUS_AN_DONE p) 1 else s.raise (R.ETH_PSTAT_AN_FAIL p) := fun full => by
    rw [anDoneEffect, inService_ethUp h hp, hen, han]
    rfl
  exact ⟨⟨_, congrArg Host.Outcome.next (heffect true), get_put_same (inService_regsRise h) _ _, regsKeptBut_put _ _ _, rfl⟩,
    _, congrArg Host.Outcome.next (heffect false), get_raise_ethStat hp (by simp [ethStats]) s,
      get_raise_ethPlain hp (by simp [ethStats]) (by simp [ethPlain]) s, State.raise_mem _ _⟩

end

/-- A disabled port does nothing. -/
theorem ethDisabled (h : s.inService = true) (hp : p < 4) (hen : s.on (R.ETH_CTRL_EN p) = false) (f : EthFrame) :
    exec (.ethFrameReceived p f) s = .next s ∧ exec (.ethLinkDown p) s = .next s ∧ exec (.anRestart p) s = .next s := by
  refine ⟨congrArg Host.Outcome.next ?_, congrArg Host.Outcome.next ?_, congrArg Host.Outcome.next ((commanded_ethPage h hp (by omega) _).trans ?_)⟩
  · simp [ethFrameEffect, hen]
  · simp [ethLinkDownEffect, hen]
  · simp [anRestartEffect, hen]

/-- The fields of SFP_CMD lie apart. -/
theorem sfpCmd_apart (hp : p < 4) :
    ([R.ETH_SFP_CMD_BUSY p, R.ETH_SFP_CMD_RESULT p, R.ETH_SFP_CMD_DEV p, R.ETH_SFP_CMD_ADDR p, R.ETH_SFP_CMD_DATA p].map Field.key).Pairwise (· ≠ ·) := by
  have hall : ∀ p < 4, ([R.ETH_SFP_CMD_BUSY p, R.ETH_SFP_CMD_RESULT p, R.ETH_SFP_CMD_DEV p, R.ETH_SFP_CMD_ADDR p, R.ETH_SFP_CMD_DATA p].map Field.key).Pairwise (· ≠ ·) := by
    decide
  exact hall p hp

section
variable (h : s.inService = true) (hp : p < 4)
include h hp

/-- R542: a write to SFP_CMD starts a read where none runs. -/
theorem sfpRead_shows (v : Nat) :
    (s.on (R.ETH_SFP_CMD_BUSY p) = false → Reaches (.sfpRead p v) s (fun t => t.get (R.ETH_SFP_CMD_BUSY p) = 1 ∧ t.get (R.ETH_SFP_CMD_ADDR p) = v / 2 ^ 8 % 256 ∧ t.mem = s.mem ∧ t.flt = s.flt))
      ∧ (s.on (R.ETH_SFP_CMD_BUSY p) = true → Reaches (.sfpRead p v) s (fun t => t.get (R.ETH_SFP_CMD_BUSY p) = s.get (R.ETH_SFP_CMD_BUSY p)
        ∧ { cls := .config, unit := 0x0700 + p, req := .l0, aux := 0xA005C + 0x1000 * p } ∈ t.flt.inbox)) := by
  let x := (s.put (R.ETH_SFP_CMD_DEV p) (bits v 24 1)).put (R.ETH_SFP_CMD_ADDR p) (bits v 8 8)
  have hrun : exec (.sfpRead p v) s = .next (if s.on (R.ETH_SFP_CMD_BUSY p) then x.config (R.ETH_SFP_CMD_GO p).addr else x.put (R.ETH_SFP_CMD_BUSY p) 1) := by
    refine congrArg Host.Outcome.next ((commanded_ethPage h hp (by omega) _).trans ?_)
    rw [sfpReadEffect, inService_ethUp h hp]
    rfl
  have hdev : keysRise none (s.put (R.ETH_SFP_CMD_DEV p) (bits v 24 1)).regs = true := regs_put_rise (inService_regsRise h) _ _
  have hx : keysRise none x.regs = true := regs_put_rise hdev _ _
  have hapart := sfpCmd_apart hp
  simp only [List.map_cons, List.map_nil, List.pairwise_cons] at hapart
  obtain ⟨hbusy, -, hdevs, -⟩ := hapart
  refine ⟨fun hidle => ⟨_, hrun.trans (congrArg Host.Outcome.next (if_neg (by simp [hidle]))), get_put_same hx _ _, ?_, rfl, rfl⟩,
    fun hbusyNow => ⟨_, hrun.trans (congrArg Host.Outcome.next (if_pos hbusyNow)), ?_, ?_⟩⟩
  · rw [get_put_other (hbusy _ (by simp)).symm, get_put_same hdev]
    simp [bits, R.ETH_SFP_CMD_ADDR]
  · exact (get_put_other (hbusy _ (by simp)) _ _).trans (get_put_other (hbusy _ (by simp)) _ _)
  · have hunit : addrUnit (R.ETH_SFP_CMD_GO p).addr = 0x0700 + p ∧ (R.ETH_SFP_CMD_GO p).addr = 0xA005C + 0x1000 * p := by
      have hall : ∀ p < 4, addrUnit (R.ETH_SFP_CMD_GO p).addr = 0x0700 + p ∧ (R.ETH_SFP_CMD_GO p).addr = 0xA005C + 0x1000 * p := by decide
      exact hall p hp
    rw [← hunit.1, ← hunit.2]
    exact List.mem_append_right _ (List.mem_singleton.mpr rfl)

theorem sfpReadDone_shows (hbusy : s.on (R.ETH_SFP_CMD_BUSY p) = true) {r : Nat} (hr : r < 4) (d : Nat) :
    Reaches (.sfpReadDone p r d) s (fun t => t.get (R.ETH_SFP_CMD_BUSY p) = 0 ∧ t.get (R.ETH_SFP_CMD_RESULT p) = r
      ∧ (r = 0 → t.get (R.ETH_SFP_CMD_DATA p) = d % 256) ∧ (r ≠ 0 → t.get (R.ETH_SFP_CMD_DATA p) = s.get (R.ETH_SFP_CMD_DATA p)) ∧ t.mem = s.mem) := by
  let x := (s.put (R.ETH_SFP_CMD_BUSY p) 0).put (R.ETH_SFP_CMD_RESULT p) r
  have heffect : sfpDoneEffect p r d s = if r = 0 then x.put (R.ETH_SFP_CMD_DATA p) d else x := by
    rw [sfpDoneEffect, inService_ethUp h hp, hbusy]
    rfl
  have hidle : keysRise none (s.put (R.ETH_SFP_CMD_BUSY p) 0).regs = true := regs_put_rise (inService_regsRise h) _ _
  have hx : keysRise none x.regs = true := regs_put_rise hidle _ _
  have hapart := sfpCmd_apart hp
  simp only [List.map_cons, List.map_nil, List.pairwise_cons] at hapart
  obtain ⟨hbusys, hress, -⟩ := hapart
  have hxbusy : x.get (R.ETH_SFP_CMD_BUSY p) = 0 := by
    rw [get_put_other (hbusys _ (by simp)), get_put_same (inService_regsRise h)]
    rfl
  have hxres : x.get (R.ETH_SFP_CMD_RESULT p) = r := (get_put_same hidle _ _).trans (Nat.mod_eq_of_lt hr)
  refine ⟨_, congrArg Host.Outcome.next heffect, ?_⟩
  split
  · next h0 =>
    exact ⟨(get_put_other (hbusys _ (by simp)) _ _).trans hxbusy, (get_put_other (hress _ (by simp)) _ _).trans hxres, fun _ => get_put_same hx _ _,
      fun hne => absurd h0 hne, rfl⟩
  · next h0 =>
    exact ⟨hxbusy, hxres, fun h => absurd h h0, fun _ => (get_put_other (hress _ (by simp)).symm _ _).trans (get_put_other (hbusys _ (by simp)).symm _ _), rfl⟩

omit h hp in
theorem sfpReadDone_idle (hbusy : s.on (R.ETH_SFP_CMD_BUSY p) = false) (r d : Nat) : exec (.sfpReadDone p r d) s = .next s := by
  refine congrArg Host.Outcome.next ?_
  simp [sfpDoneEffect, hbusy]

end

/-! ### The pairs (R543, R544) -/

theorem prpSupervision_shows (h : s.inService = true) {k : Nat} (hk : k < 2) (hmode : s.get (R.ETH_CFG_PAIR (2 * k)) ≠ 0) (hrise : keysRise none s.net.supers = true) :
    Reaches (.prpSupervisionSend k) s (fun t => tget 0 t.net.supers k = tget 0 s.net.supers k + 1 ∧ t.regs = s.regs ∧ t.mem = s.mem) := by
  let x := s.modNet (fun n => { n with supers := tset 0 n.supers k (tget 0 n.supers k + 1) })
  have heffect : prpSuperEffect k s = x.ethSend (2 ^ (2 * k)) superMac 0x88FB false .supervision := by
    simp [prpSuperEffect, inService_common h (show 7 ≤ 10 by decide), hk, hmode, x]
  obtain ⟨-, hsupers, hregs, hmem⟩ := sentPart_reads (ethSend_sentPart (2 ^ (2 * k)) superMac 0x88FB false .supervision x)
  refine ⟨_, congrArg Host.Outcome.next heffect, ?_, hregs, hmem⟩
  rw [hsupers]
  exact tget_tset_same (d := 0) hrise k (tget 0 s.net.supers k + 1)

theorem prpExpired_absent {k m q : Nat} (hnone : ∀ e ∈ tget [] s.net.dups k, ¬(e.srcMac = m ∧ e.seq = q)) : exec (.prpEntryExpired k m q) s = .next s := by
  have hfind : (tget [] s.net.dups k).find? (fun e => decide (e.srcMac = m ∧ e.seq = q)) = none := List.find?_eq_none.mpr fun e he => by simpa using hnone e he
  refine congrArg Host.Outcome.next ?_
  simp only [prpExpiredEffect, hfind]

/-- R544: an entry that ends leaves the table, and counts where one LAN alone has shown it. -/
theorem prpExpired_shows (h : s.inService = true) (hdups : keysRise none s.net.dups = true) {k : Nat} (hk : k < 2) {e : DupEntry} {l : List DupEntry}
    (htable : tget [] s.net.dups k = e :: l) :
    Reaches (.prpEntryExpired k e.srcMac e.seq) s (fun t => (∀ x ∈ tget [] t.net.dups k, ¬(x.srcMac = e.srcMac ∧ x.seq = e.seq)) ∧ t.mem = s.mem
      ∧ (e.lans = 3 → t.regs = s.regs) ∧ (e.lans ≠ 3 → t.get (R.ETH_PSTAT_UNPAIRED (2 * k)) = 1
        ∧ t.get (R.ETH_PAIR_CNT_UNPAIRED (2 * k)) = (s.get (R.ETH_PAIR_CNT_UNPAIRED (2 * k)) + 1) % 2 ^ (R.ETH_PAIR_CNT_UNPAIRED (2 * k)).w)) := by
  let rest := (e :: l).filter (fun x => !decide (x.srcMac = e.srcMac ∧ x.seq = e.seq))
  let y := s.modNet (fun n => { n with dups := tset [] n.dups k rest })
  have hfind : (e :: l).find? (fun x => decide (x.srcMac = e.srcMac ∧ x.seq = e.seq)) = some e := by simp
  have heffect : prpExpiredEffect k e.srcMac e.seq s
      = if e.lans = 3 then y else (y.addTo (R.ETH_PAIR_CNT_UNPAIRED (2 * k)) 1).raise (R.ETH_PSTAT_UNPAIRED (2 * k)) := by
    simp only [prpExpiredEffect, htable, hfind, inService_common h (show 7 ≤ 10 by decide), if_true]
    rfl
  have hgone : ∀ x ∈ tget [] y.net.dups k, ¬(x.srcMac = e.srcMac ∧ x.seq = e.seq) := fun x hx => by
    have hrest : tget [] y.net.dups k = rest := tget_tset_same hdups k rest
    rw [hrest] at hx
    simpa only [Bool.not_eq_true', decide_eq_false_iff_not] using (List.mem_filter.mp hx).2
  refine ⟨_, congrArg Host.Outcome.next heffect, ?_⟩
  split
  · next h3 => exact ⟨hgone, rfl, fun _ => rfl, fun hne => absurd h3 hne⟩
  · next h3 =>
    have hp : 2 * k < 4 := by omega
    refine ⟨?_, State.raise_mem _ _, fun he => absurd he h3, fun _ => ⟨get_raise_ethStat hp (by simp [ethStats]) _, ?_⟩⟩
    · rw [State.raise_net]
      exact hgone
    · refine (get_raise_ethPlain hp (by simp [ethStats]) (by simp [ethPlain]) _).trans ?_
      exact get_addTo_same (s := y) (inService_regsRise h) _ 1

end

/-- Settles O46: frames by the order of their checks, links and modules by their register writes, and the pairs' tables entry by entry. -/
theorem ethernetPorts : Obligations.EthernetPorts := by
  unfold Obligations.EthernetPorts
  refine fun s p h hp hdups => ⟨fun hen f => ethDisabled h hp hen f, fun hen f => ⟨fun hfcs => ethFrame_badFcs h hp hen hfcs,
      fun hfcs hsize => ethFrame_badSize h hp hen hfcs hsize, fun hfcs hlo hhi htype => ethFrame_badType h hp hen hfcs hlo hhi htype,
      fun hfcs hlo hhi htype => ethFrame_accepted h hp hen hdups hfcs hlo hhi htype⟩,
    fun hen => ⟨ethLinkDown_shows h hp hen, fun hanEn hrate => ?_⟩, fun v => sfpRead_shows h hp v, fun hidle r d => sfpReadDone_idle hidle r d,
    fun hbusy r d hr => sfpReadDone_shows h hp hbusy hr d, fun k hk hmode hrise => prpSupervision_shows h hk hmode hrise,
    fun k m q hnone => prpExpired_absent hnone, fun k e l hk htable => prpExpired_shows h hdups hk htable⟩
  have han : s.anRuns p = true := by
    rw [State.anRuns, hanEn, hrate]
    rfl
  exact ⟨anRestart_shows h hp hen han, anDone_shows h hp hen han⟩

end Sys2Proof.Machine
end

section
namespace Sys2Proof.Machine

/-! ## Staging slots through the operations of the scheduler (R470, R471, R518) -/

theorem core_setCore_same {s : State} (h : keysRise none s.sched.cores = true) (u : Nat) (c : CoreSt) : (s.setCore u c).core u = c := tget_tset_same h u c

theorem core_setCore_other {s : State} {u k : Nat} (h : u ≠ k) (c : CoreSt) : (s.setCore k c).core u = s.core u := tget_tset_other h c

/-- `StagedKept u s₀ s`: `s`, made from `s₀` by the scheduler, has the staging slot of core `u` and memory as they stood. -/
structure StagedKept (u : Nat) (s₀ s : State) : Prop where
  mem : s.mem = s₀.mem
  rise : keysRise none s.sched.cores = true
  staged : (s.core u).staged = (s₀.core u).staged

section
variable {u : Nat} {s₀ s t : State}

theorem StagedKept.refl (h : keysRise none s.sched.cores = true) : StagedKept u s s := ⟨rfl, h, rfl⟩

/-- Neither memory nor the cores move. -/
theorem StagedKept.of_cores (h : StagedKept u s₀ s) (hmem : t.mem = s.mem := by rfl) (hcores : t.sched.cores = s.sched.cores := by rfl) : StagedKept u s₀ t :=
  ⟨hmem.trans h.mem, hcores ▸ h.rise, by rw [State.core, hcores]; exact h.staged⟩

theorem StagedKept.raise {F : Field} (h : StagedKept u s₀ s) : StagedKept u s₀ (s.raise F) :=
  h.of_cores (State.raise_mem _ _) (by rw [State.raise_sched])

theorem StagedKept.flagIf {b : Bool} {F : Field} (h : StagedKept u s₀ s) : StagedKept u s₀ (s.flagIf b F) := by
  unfold State.flagIf
  split
  · exact h.raise
  · exact h

/-- A core's register file moves beside its staging slot. -/
theorem StagedKept.setX {k r v : Nat} (h : StagedKept u s₀ s) : StagedKept u s₀ (s.setX k r v) := by
  unfold State.setX
  split
  · exact h
  · refine ⟨h.mem, keysRise_tset h.rise _ _, Eq.trans ?_ h.staged⟩
    by_cases hk : u = k
    · subst hk
      rw [core_setCore_same h.rise]
    · rw [core_setCore_other hk]

theorem StagedKept.setSess {k : Nat} {x : SessSt} (h : StagedKept u s₀ s) : StagedKept u s₀ (s.setSess k x) := h.of_cores

theorem StagedKept.overLink {a b : Nat} {f : State → State} (h : StagedKept u s₀ s) (hf : StagedKept u s₀ s → StagedKept u s₀ (f s)) :
    StagedKept u s₀ (s.overLink a b f) := by
  unfold State.overLink
  split
  · exact h.of_cores
  · exact hf h

theorem StagedKept.postReply {dest : Option (Nat × Nat)} {r : PostResult} (h : StagedKept u s₀ s) : StagedKept u s₀ (s.postReply dest r) := by
  unfold State.postReply
  split
  · exact h.setX
  · exact h.setX
  · exact h
  · exact h

theorem StagedKept.ackMsg {m : CMsg} {res : Nat} (h : StagedKept u s₀ s) : StagedKept u s₀ (s.ackMsg m res) := by
  unfold State.ackMsg State.sendMsg
  split
  · exact h.of_cores
  · exact h

theorem StagedKept.postFlags {f : Nat} (h : StagedKept u s₀ s) : StagedKept u s₀ (s.postFlags f) := by
  unfold State.postFlags
  split
  · refine forAll_induction (forAll_induction (forAll_induction h fun k _ x hx => ?_) fun k _ x hx => ?_) fun k _ x hx => ?_
    · obtain ⟨regs, tasks, hshape, -⟩ := postFlagsTo_shape f k x
      rw [hshape]
      exact hx.of_cores
    · obtain ⟨loops, hshape⟩ := postToLoop_shape f k x
      rw [hshape]
      exact hx.of_cores
    · obtain ⟨adcs, hshape⟩ := postToAdc_shape f k x
      rw [hshape]
      exact hx.of_cores
  · exact h

theorem StagedKept.delivered {k : Nat} {x : SessSt} {m : CMsg} (h : StagedKept u s₀ s) : StagedKept u s₀ (s.delivered k x m) := by
  unfold State.delivered
  extract_lets late s1 s2
  have h1 : StagedKept u s₀ s1 := h.setSess.flagIf
  clear_value s1
  have h2 : StagedKept u s₀ s2 := by
    unfold s2
    split
    · exact h1.overLink StagedKept.postFlags
    · exact h1
  exact h2.ackMsg

theorem StagedKept.heldWord {k : Nat} {ok : Bool} (h : StagedKept u s₀ s) : StagedKept u s₀ (s.heldWord k ok) := by
  unfold State.heldWord
  split
  · exact h
  · split
    · exact h
    · extract_lets
      split
      · exact h.setSess
      · split
        · exact h.delivered
        · exact h.setSess.ackMsg

theorem StagedKept.postAnswer {o : Stalled} {r : PostResult} (h : StagedKept u s₀ s) : StagedKept u s₀ (s.postAnswer o r) := by
  unfold State.postAnswer
  split
  · exact h.postReply.heldWord
  · exact h.postReply.heldWord
  · exact h
  · exact h.postReply

theorem StagedKept.postOperandAt {again : Bool} {o : Stalled} (h : StagedKept u s₀ s) : StagedKept u s₀ (s.postOperandAt again o).1 := by
  have horphan : StagedKept u s₀ (((s.addTo R.SCHED_MATCH_CNT_ORPHAN 1).raise R.SCHED_STAT_ORPHAN).event0 .sched storeUnit 0) :=
    (h.of_cores (t := s.addTo R.SCHED_MATCH_CNT_ORPHAN 1)).raise.of_cores
  unfold State.postOperandAt
  split
  · exact horphan
  · split
    · exact horphan
    · split
      · exact StagedKept.raise (F := R.SCHED_STAT_DUP) (h.of_cores (t := (s.setFill o.tag (insertKey o.idx o.val (tget [] s.sched.fill o.tag))).addTo R.SCHED_MATCH_CNT_DUP 1))
      · split
        · extract_lets s1
          have h1 : StagedKept u s₀ s1 := h.of_cores
          dsimp only
          split
          · exact h1
          · exact h1.raise
        · unfold State.fillOperand
          extract_lets
          dsimp only
          split
          · exact h.of_cores
          · exact h.of_cores

theorem StagedKept.postStalled {again : Bool} {o : Stalled} (h : StagedKept u s₀ s) : StagedKept u s₀ (s.postStalled again o) := h.postOperandAt.postAnswer

theorem StagedKept.dropOperand {o : Stalled} (h : StagedKept u s₀ s) : StagedKept u s₀ (s.dropOperand o) := by
  unfold State.dropOperand
  extract_lets s1 s2
  have h2 : StagedKept u s₀ s2 := (h.postAnswer.of_cores (t := (s.postAnswer o .dropped).addTo R.SCHED_MATCH_CNT_OVF 1)).raise
  exact h2.of_cores

end

section
variable {s : State}

/-- A drop that lies in the past is not taken back (R492). -/
theorem undrop_past (h : ∀ d, s.sched.drop = some d → d.at_ < s.elapsed) : s.undrop = s := by
  unfold State.undrop
  split
  · rfl
  · next d hd => rw [if_neg (Nat.ne_of_lt (h d hd))]

theorem StagedKept.drainStalls {u : Nat} {s₀ : State} (h : StagedKept u s₀ s) (hdrop : ∀ d, s.sched.drop = some d → d.at_ < s.elapsed) :
    StagedKept u s₀ s.drainStalls := by
  unfold State.drainStalls
  rw [undrop_past hdrop]
  dsimp only
  have hfold := List.foldlRecOn (motive := StagedKept u s₀) s.sched.stalls
    (fun a o => if o.at_ + el 1000 < a.elapsed then a.dropOperand o else a.postStalled true o) (h.of_cores (t := s.setStalls []))
    fun a ha o _ => by
      split
      · exact ha.dropOperand
      · exact ha.postStalled
  exact hfold.of_cores

theorem task_fillUpdate (j : Nat) (s : State) : s.fillUpdate.task j = s.task j := rfl

theorem mem_fillUpdate (s : State) : s.fillUpdate.mem = s.mem := rfl

/-- With no operand that waits, draining moves the stalls and MATCH_FILL alone. -/
theorem drainStalls_none (hdrop : ∀ d, s.sched.drop = some d → d.at_ < s.elapsed) (hnone : s.sched.stalls = []) :
    s.drainStalls = (s.setStalls []).fillUpdate := by
  unfold State.drainStalls
  rw [undrop_past hdrop]
  simp only [hnone, List.foldl_nil]

/-- What one core's slot makes of the drop of staged items. -/
def State.dropSlot (t : Nat) (ok : WorkItem → Bool) (u : Nat) (a : State) : State :=
  match (a.core u).staged with
  | some w =>
    if w.task = t && ok w then
      if w.asgAt = a.elapsed then (a.setCore u { a.core u with staged := none, done := false }).modTask t (fun x => { x with disp := (x.disp + 65535) % 65536 })
      else a.setCore u { a.core u with staged := none, done := false }
    else a
  | none => a

theorem dropStaged_eq (t : Nat) (ok : WorkItem → Bool) (s : State) : s.dropStaged t ok = forAll s.coreList (State.dropSlot t ok) s := rfl

theorem dropSlot_rise {x : State} (hx : keysRise none x.sched.cores = true) (t : Nat) (ok : WorkItem → Bool) (m : Nat) :
    keysRise none (x.dropSlot t ok m).sched.cores = true := by
  unfold State.dropSlot
  split
  · split
    · split
      · unfold State.modTask
        split <;> exact keysRise_tset hx _ _
      · exact keysRise_tset hx _ _
    · exact hx
  · exact hx

theorem dropStaged_rise (hx : keysRise none s.sched.cores = true) (t : Nat) (ok : WorkItem → Bool) : keysRise none (s.dropStaged t ok).sched.cores = true :=
  forAll_induction (P := fun x => keysRise none x.sched.cores = true) hx fun m _ _ hx => dropSlot_rise hx t ok m

/-- Staged items that match leave their slots. -/
theorem staged_dropStaged {u : Nat} (hu : u < 9 * s.variant.groves) (hrise : keysRise none s.sched.cores = true) (t : Nat) (ok : WorkItem → Bool) :
    ((s.dropStaged t ok).core u).staged = (s.core u).staged.filter (fun w => !(decide (w.task = t) && ok w)) := by
  rw [dropStaged_eq]
  refine forAll_at (Q := fun x => keysRise none x.sched.cores = true) (g := fun x => (x.core u).staged) (h := fun c => c.filter (fun w => !(decide (w.task = t) && ok w)))
    List.nodup_range (List.mem_range.mpr hu) hrise (fun m x hx => dropSlot_rise hx t ok m) (fun x hx => ?_) fun m x hm => ?_
  · unfold State.dropSlot
    split
    · next w hw =>
      rw [hw]
      have hgone : ((x.setCore u { x.core u with staged := none, done := false }).core u).staged = none := by rw [core_setCore_same hx]
      rw [Option.filter_some]
      cases hok : decide (w.task = t) && ok w with
      | true =>
        simp only [Bool.not_true, Bool.false_eq_true, if_true, if_false]
        split
        · unfold State.modTask
          split <;> exact hgone
        · exact hgone
      | false =>
        simp only [Bool.not_false, Bool.false_eq_true, if_true, if_false]
        exact hw
    · next hnone =>
      rw [hnone]
      rfl
  · unfold State.dropSlot
    have hother (c : CoreSt) : ((x.setCore m c).core u).staged = (x.core u).staged := by rw [core_setCore_other hm.symm]
    split
    · split
      · split
        · unfold State.modTask
          split <;> exact hother _
        · exact hother _
      · rfl
    · rfl

/-- Slots that hold no match stay, and with them all else. -/
theorem dropStaged_none {t : Nat} {ok : WorkItem → Bool} (h : ∀ u w, (s.core u).staged = some w → w.task = t → ok w = false) : s.dropStaged t ok = s := by
  refine forAll_induction (P := fun x => x = s) rfl fun u _ x hx => ?_
  subst hx
  dsimp only
  split
  · next w hw =>
    rw [if_neg]
    simpa using h u w hw
  · rfl

theorem dropStaged_shape (t : Nat) (ok : WorkItem → Bool) (s : State) : ∃ tasks cores, s.dropStaged t ok = { s with sched := { s.sched with tasks, cores } } := by
  refine forAll_induction (P := fun x => ∃ tasks cores, x = { s with sched := { s.sched with tasks, cores } }) ⟨_, _, rfl⟩ fun u _ x hx => ?_
  obtain ⟨tasks, cores, rfl⟩ := hx
  dsimp only
  split
  · split
    · split
      · unfold State.modTask
        split <;> exact ⟨_, _, rfl⟩
      · exact ⟨_, _, rfl⟩
    · exact ⟨_, _, rfl⟩
  · exact ⟨_, _, rfl⟩

/-! ## Task control (R518) -/

theorem commanded_schedPage (h : s.inService = true) {addr : Nat} (ha : addr / 0x1000 = 5) (f : State → State) : s.commanded addr f = f s :=
  commanded_inService h (g := 5) (by simp [pageGlade, ha]) (inService_common h (by decide)) (by simp [pageAbsent, ha]) f

section
variable (h : s.inService = true) {k : Nat} {x : TaskSt} (hidx : s.get R.SCHED_TASK_IDX_IDX = k)
include h hidx

theorem taskControl_fenced (hfenced : s.taskFenced k = true) : ∀ c ∈ [Instr.taskEnable, .taskDisable],
    Reaches c s (fun t => t.sched = s.sched ∧ t.regs = s.regs ∧ { cls := .config, unit := 0x0504, req := .l0, aux := 0x5080 } ∈ t.flt.inbox) := by
  subst hidx
  have hshown : (s.config 0x5080).sched = s.sched ∧ (s.config 0x5080).regs = s.regs
      ∧ { cls := .config, unit := 0x0504, req := .l0, aux := 0x5080 } ∈ (s.config 0x5080).flt.inbox :=
    ⟨rfl, rfl, List.mem_append_right _ (List.mem_singleton.mpr rfl)⟩
  have henable : taskEnableEffect s = s.config 0x5080 := by simp [taskEnableEffect, inService_common h (show 5 ≤ 10 by decide), hfenced]
  have hdisable : taskDisableEffect s = s.config 0x5080 := by simp [taskDisableEffect, inService_common h (show 5 ≤ 10 by decide), hfenced]
  refine List.forall_mem_cons.mpr ⟨?_, List.forall_mem_singleton.mpr ?_⟩
  · exact ⟨_, congrArg Host.Outcome.next ((commanded_schedPage h rfl _).trans henable), hshown⟩
  · exact ⟨_, congrArg Host.Outcome.next ((commanded_schedPage h rfl _).trans hdisable), hshown⟩

variable (hx : s.task k = some x) (hfree : s.taskFenced k = false)
include hx hfree

theorem taskEnable_shows : Reaches .taskEnable s (fun t => t.task k = some { x with enabled := true, pend := 0, ready := false } ∧ t.regs = s.regs ∧ t.mem = s.mem
    ∧ ∀ j, j ≠ k → t.task j = s.task j) := by
  have heffect : taskEnableEffect s = s.setTask k { x with enabled := true, pend := 0, ready := false } := by
    simp [taskEnableEffect, inService_common h (show 5 ≤ 10 by decide), hidx, hfree, State.modTask, hx]
  exact ⟨_, congrArg Host.Outcome.next ((commanded_schedPage h rfl _).trans heffect), task_setTask_same _ _ _, rfl, rfl, fun j hj => task_setTask_other hj _ _⟩

/-- The disabled task, before what was dispatched on this edge is taken back. -/
def State.disabled (k : Nat) (x : TaskSt) (s : State) : State := s.setTask k { x with enabled := false, pend := 0, ready := false, insts := [] }

/-- The store without the filling instances of a task's tags. -/
def State.emptied (x : TaskSt) (s : State) : State := { s with sched := { s.sched with fill := s.sched.fill.filter (fun e => !taskOwns x.decl e.1) } }

theorem taskDisable_eq : exec .taskDisable s
    = .next (((s.disabled k x).dropStaged k (fun w => decide (w.asgAt = s.elapsed))).emptied x).drainStalls := by
  refine congrArg Host.Outcome.next ((commanded_schedPage h rfl _).trans ?_)
  simp only [taskDisableEffect, inService_common h (show 5 ≤ 10 by decide), hidx, hfree, hx, if_true, Bool.false_eq_true, if_false]
  rfl

theorem taskDisable_unstages (hcores : keysRise none s.sched.cores = true) (hdrop : ∀ d, s.sched.drop = some d → d.at_ < s.elapsed) {u : Nat} {w : WorkItem}
    (hu : u < 9 * s.variant.groves) (hw : (s.core u).staged = some w) (htask : w.task = k) (hasg : w.asgAt = s.elapsed) :
    Reaches .taskDisable s (fun t => (t.core u).staged = none ∧ t.mem = s.mem) := by
  have hgone := staged_dropStaged (s := s.disabled k x) hu hcores k (fun w => decide (w.asgAt = s.elapsed))
  have hstaged : ((s.disabled k x).core u).staged = some w := hw
  rw [hstaged, Option.filter_some, if_neg (by simp [htask, hasg])] at hgone
  obtain ⟨tasks, cores, hshape⟩ := dropStaged_shape k (fun w => decide (w.asgAt = s.elapsed)) (s.disabled k x)
  have hrise : keysRise none ((s.disabled k x).dropStaged k (fun w => decide (w.asgAt = s.elapsed))).sched.cores = true :=
    dropStaged_rise (s := s.disabled k x) hcores _ _
  have hkept := (StagedKept.refl (u := u) (s := ((s.disabled k x).dropStaged k (fun w => decide (w.asgAt = s.elapsed))).emptied x) hrise).drainStalls
    (by rw [hshape]; exact hdrop)
  exact ⟨_, taskDisable_eq h hidx hx hfree, hkept.staged.trans hgone, hkept.mem.trans (by rw [hshape]; rfl)⟩

theorem taskDisable_quiet (hdrop : ∀ d, s.sched.drop = some d → d.at_ < s.elapsed) (hstalls : s.sched.stalls = [])
    (hnone : ∀ u w, (s.core u).staged = some w → w.task = k → w.asgAt ≠ s.elapsed) :
    Reaches .taskDisable s (fun t => t.task k = some { x with enabled := false, pend := 0, ready := false, insts := [] } ∧ t.mem = s.mem ∧ ∀ j, j ≠ k → t.task j = s.task j) := by
  have hkept : (s.disabled k x).dropStaged k (fun w => decide (w.asgAt = s.elapsed)) = s.disabled k x :=
    dropStaged_none (s := s.disabled k x) fun u w hw htask => decide_eq_false (hnone u w hw htask)
  have hdrain : ((s.disabled k x).emptied x).drainStalls = (((s.disabled k x).emptied x).setStalls []).fillUpdate := drainStalls_none hdrop hstalls
  have hrun := taskDisable_eq h hidx hx hfree
  rw [hkept, hdrain] at hrun
  refine ⟨_, hrun, (task_fillUpdate _ _).trans (task_setTask_same k _ s), mem_fillUpdate _, fun j hj => (task_fillUpdate _ _).trans (task_setTask_other hj _ s)⟩

end

/-! ## The task window (R509 to R517) -/

/-- The window of a task with what TASK_IDX latches in it. -/
def State.window (s : State) (t : Nat) : List (Field × Nat) := ((s.task t).map (s.taskWindow t)).getD emptyWindow

theorem taskIdxEffect_eq (h : s.inService = true) (v : Nat) : taskIdxEffect v s
    = (s.put R.SCHED_TASK_IDX_IDX (v % 512)).putAll ((s.put R.SCHED_TASK_IDX_IDX (v % 512)).window (v % 512)) := by
  simp only [taskIdxEffect, inService_common h (show 5 ≤ 10 by decide), if_true, State.window]
  split
  · next x hx => rw [hx]; rfl
  · next hx => rw [hx]; rfl

/-- The fields of the window, and TASK_IDX beside them. -/
theorem window_keys (s : State) (t : Nat) : (s.window t).map (fun e => e.1.key) = emptyWindow.map (fun e => e.1.key) := by
  unfold State.window
  cases s.task t <;> rfl

theorem emptyWindow_keys : (emptyWindow.map (fun e => e.1.key)).Nodup ∧ R.SCHED_TASK_IDX_IDX.key ∉ emptyWindow.map (fun e => e.1.key) := by decide

theorem putAll_sched (l : List (Field × Nat)) (s : State) : (s.putAll l).sched = s.sched ∧ (s.putAll l).mem = s.mem := by
  induction l generalizing s with
  | nil => exact ⟨rfl, rfl⟩
  | cons e t ih => exact ih (s.put e.1 e.2)

theorem taskIdx_latches (h : s.inService = true) (v : Nat) : Reaches (.taskIdxWrite v) s (fun t => t.get R.SCHED_TASK_IDX_IDX = v % 512 ∧ t.sched = s.sched ∧ t.mem = s.mem
    ∧ (s.task (v % 512) = none → t.get R.SCHED_TASK_INFO_EN = 0 ∧ t.get R.SCHED_TASK_INFO_PRIO = 0 ∧ t.get R.SCHED_TASK_TIME_TB = 0)
    ∧ (∀ x, s.task (v % 512) = some x → t.get R.SCHED_TASK_INFO_EN = b2n x.enabled ∧ t.get R.SCHED_TASK_INFO_FENCED = b2n (s.taskFenced (v % 512))
        ∧ t.get R.SCHED_TASK_INFO_PRIO = x.decl.prio % 4 ∧ t.get R.SCHED_TASK_TIME_TB = x.decl.tb % 65536)) := by
  let y := s.put R.SCHED_TASK_IDX_IDX (v % 512)
  have hy : keysRise none y.regs = true := regs_put_rise (inService_regsRise h) _ _
  have hidx : y.get R.SCHED_TASK_IDX_IDX = v % 512 := (get_put_same (inService_regsRise h) _ _).trans (Nat.mod_mod _ _)
  obtain ⟨hnodup, hidxOut⟩ := emptyWindow_keys
  have hkeys := window_keys y (v % 512)
  have hread : ∀ {F : Field} {n : Nat}, (F, n) ∈ y.window (v % 512) → (y.putAll (y.window (v % 512))).get F = n % 2 ^ F.w :=
    fun hF => get_putAll_mem hy (hkeys ▸ hnodup) hF
  obtain ⟨hsched, hmem⟩ := putAll_sched (y.window (v % 512)) y
  refine ⟨_, congrArg Host.Outcome.next ((commanded_schedPage h rfl _).trans (taskIdxEffect_eq h v)), (get_putAll_other (hkeys ▸ hidxOut) y).trans hidx, hsched, hmem,
    fun hnone => ?_, fun x hx => ?_⟩
  · have hwindow : y.window (v % 512) = emptyWindow := congrArg (fun o => (o.map (y.taskWindow (v % 512))).getD emptyWindow) (show y.task (v % 512) = none from hnone)
    have hzero : ∀ F : Field, (F, 0) ∈ emptyWindow → (y.putAll (y.window (v % 512))).get F = 0 := fun F hF => (hread (hwindow ▸ hF)).trans (Nat.zero_mod _)
    exact ⟨hzero _ (by simp [emptyWindow]), hzero _ (by simp [emptyWindow]), hzero _ (by simp [emptyWindow])⟩
  · have hwindow : y.window (v % 512) = y.taskWindow (v % 512) x :=
      congrArg (fun o => (o.map (y.taskWindow (v % 512))).getD emptyWindow) (show y.task (v % 512) = some x from hx)
    have hbit : ∀ b : Bool, b2n b % 2 ^ 1 = b2n b := by decide
    have hvalue : ∀ {F : Field} {n : Nat}, (F, n) ∈ y.taskWindow (v % 512) x → (y.putAll (y.window (v % 512))).get F = n % 2 ^ F.w := fun hF => hread (hwindow ▸ hF)
    exact ⟨(hvalue (n := b2n x.enabled) (by simp [State.taskWindow])).trans (hbit _), (hvalue (n := b2n (y.taskFenced (v % 512))) (by simp [State.taskWindow])).trans (hbit _),
      hvalue (by simp [State.taskWindow]), hvalue (by simp [State.taskWindow])⟩

/-! ## Buffer moves (R483 to R485) -/

section
variable {hd : Nat} {dest : BufLoc} {b : BufSt}

/-- The buffer of a handle, after its entry is replaced. -/
theorem find_setBuf (hfind : s.sched.bufs.find? (fun b => decide (b.decl.handle = hd)) = some b) {f : BufSt → BufSt} (hf : ∀ x, (f x).decl.handle = x.decl.handle) :
    (s.setBuf hd f).sched.bufs.find? (fun b => decide (b.decl.handle = hd)) = some (f b) := by
  change (s.sched.bufs.map (fun b => if b.decl.handle = hd then f b else b)).find? _ = _
  have hsame : (fun b : BufSt => decide (b.decl.handle = hd)) ∘ (fun b => if b.decl.handle = hd then f b else b) = fun b => decide (b.decl.handle = hd) := by
    funext x
    simp only [Function.comp_apply]
    split
    · rw [hf]
    · rfl
  have hb : b.decl.handle = hd := by simpa using List.find?_some hfind
  rw [List.find?_map, hsame, hfind, Option.map_some, if_pos hb]

/-- With no access that waits for a move, nothing lands. -/
theorem dpLand_quiet (hwait : s.host.dpWait = []) (hnext : s.host.dpNext = none) (hd : Nat) (dest : BufLoc) : s.dpLand hd dest = s := by
  unfold State.dpLand
  extract_lets l whole bad _ s0 s1
  have hl : l = [] := by simp [l, hwait]
  have hwhole : ∀ w, whole w = false := fun w => by simpa [whole, hl] using ⟨0, by decide⟩
  have hbad : bad = [] := by simp [bad, hl]
  have h0 : s0 = s := by
    have hmemBad : s.memBad.filter (fun w => !whole w) = s.memBad := List.filter_eq_self.mpr fun w _ => by simp [hwhole]
    simp only [s0, hl, List.filter_nil, List.foldl_nil, hmemBad, hwait]
    rw [← hwait]
  have h1 : s1 = s := by simp only [s1, hbad, List.foldl_nil, h0]
  rw [h1, hwait, hnext]

theorem traceMove_off (h : s.on R.SCHED_TRACE_CTRL_EN = false) (b : BufSt) (dest : BufLoc) : s.traceMove b dest = s := by
  unfold State.traceMove State.traceWrite
  split
  · rw [if_neg (by simp [h])]
  · rfl

variable (hfind : s.sched.bufs.find? (fun b => decide (b.decl.handle = hd)) = some b)
include hfind

theorem bufferMove_refused (hmay : s.mayMove b dest = false) : exec (.bufferMoveStart hd dest) s = .next s := by
  refine congrArg Host.Outcome.next ?_
  simp [bufMoveEffect, hfind, hmay]

theorem bufMoveEffect_eq (h : s.inService = true) (hmay : s.mayMove b dest = true) (htrace : s.on R.SCHED_TRACE_CTRL_EN = false) :
    bufMoveEffect hd dest s = if b.lost then s.recreate b dest else s.setBuf hd (fun x => { x with move := some dest }) := by
  simp only [bufMoveEffect, hfind, inService_common h (show 5 ≤ 10 by decide), hmay, traceMove_off htrace, Bool.and_self, if_true]

/-- A buffer that may migrate begins to move. -/
theorem bufferMove_starts (h : s.inService = true) (hmay : s.mayMove b dest = true) (htrace : s.on R.SCHED_TRACE_CTRL_EN = false) (hlost : b.lost = false) :
    Reaches (.bufferMoveStart hd dest) s (fun t => t.mem = s.mem ∧ t.regs = s.regs
      ∧ t.sched.bufs.find? (fun b => decide (b.decl.handle = hd)) = some { b with move := some dest }) := by
  refine ⟨_, congrArg Host.Outcome.next ((bufMoveEffect_eq hfind h hmay htrace).trans (if_neg (by simp [hlost]))), rfl, rfl, ?_⟩
  exact find_setBuf hfind fun _ => rfl

/-- A lost buffer is created again, filled with zeros. -/
theorem bufferMove_recreates (h : s.inService = true) (hmay : s.mayMove b dest = true) (htrace : s.on R.SCHED_TRACE_CTRL_EN = false)
    (hwait : s.host.dpWait = []) (hnext : s.host.dpNext = none) (hlost : b.lost = true) :
    Reaches (.bufferMoveStart hd dest) s (fun t => t.get R.SCHED_STAT_BUF_LOST = 1 ∧
      (∀ a, t.mem.read a = if locBase dest ≤ a ∧ a < locBase dest + b.decl.size then 0 else s.mem.read a)
      ∧ t.sched.bufs.find? (fun b => decide (b.decl.handle = hd)) = some { b with decl := { b.decl with loc := dest }, lost := false }) := by
  have hb : b.decl.handle = hd := by simpa using List.find?_some hfind
  let y := (s.setBuf hd (fun x => { x with decl := { x.decl with loc := dest }, lost := false })).zeroMem (locBase dest) b.decl.size
  have hland : y.dpLand hd dest = y := dpLand_quiet (s := y) hwait hnext hd dest
  have heffect : s.recreate b dest = (y.raise R.SCHED_STAT_BUF_LOST).taskEvent (y.firstUser hd) := by
    unfold State.recreate
    rw [hb]
    dsimp only
    rw [hland]
  refine ⟨_, congrArg Host.Outcome.next ((bufMoveEffect_eq hfind h hmay htrace).trans ((if_pos hlost).trans heffect)), ?_, fun a => ?_, ?_⟩
  · exact get_raise_same (F := R.SCHED_STAT_BUF_LOST) (by decide) (by decide) rfl y
  · have hmem : ((y.raise R.SCHED_STAT_BUF_LOST).taskEvent (y.firstUser hd)).mem = s.mem.zeroN (locBase dest) b.decl.size := State.raise_mem _ _
    rw [hmem, Memory.read_zeroN]
  · have hsched : ((y.raise R.SCHED_STAT_BUF_LOST).taskEvent (y.firstUser hd)).sched = y.sched := State.raise_sched _ _
    rw [hsched]
    exact find_setBuf hfind fun _ => rfl

theorem bufferMoveDone_idle (hmove : b.move = none) : exec (.bufferMoveDone hd) s = .next s := by
  refine congrArg Host.Outcome.next ?_
  simp [bufMoveDoneEffect, hfind, hmove]

/-- A completed move has the buffer's bytes at its new place. -/
theorem bufferMoveDone_lands (h : s.inService = true) (hmove : b.move = some dest) (hwait : s.host.dpWait = []) (hnext : s.host.dpNext = none) :
    Reaches (.bufferMoveDone hd) s (fun t => (∀ a, (a < locBase dest ∨ locBase dest + b.decl.size ≤ a) → t.mem.read a = s.mem.read a)
      ∧ (s.memBad = [] → ∀ j, j < b.decl.size → t.mem.read (locBase dest + j) = s.mem.read (locBase b.decl.loc + j)) ∧ t.regs = s.regs
      ∧ t.sched.bufs.find? (fun b => decide (b.decl.handle = hd)) = some { b with decl := { b.decl with loc := dest }, move := none }) := by
  let y := s.setBuf hd (fun x => { x with decl := { x.decl with loc := dest }, move := none })
  have hcopy := eccCopy_eq (locBase b.decl.loc) b.decl.size (locBase dest) (locUnit b.decl.loc) y
  have hother := fun x (hx : x < locBase dest ∨ locBase dest + b.decl.size ≤ x) => eccCopy_other (src := locBase b.decl.loc) hx (locUnit b.decl.loc) y
  have hgood := fun hbad => eccCopy_good (s := y) (src := locBase b.decl.loc) (n := b.decl.size) (dst := locBase dest) hbad (locUnit b.decl.loc)
  have heffect : bufMoveDoneEffect hd s = State.dpLand hd dest (y.eccCopy (locBase b.decl.loc) b.decl.size (locBase dest) (locUnit b.decl.loc)) := by
    simp only [bufMoveDoneEffect, hfind, hmove]
    rfl
  generalize y.eccCopy (locBase b.decl.loc) b.decl.size (locBase dest) (locUnit b.decl.loc) = z at hcopy hother hgood heffect
  have hland : z.dpLand hd dest = z := dpLand_quiet (by rw [hcopy]; exact hwait) (by rw [hcopy]; exact hnext) hd dest
  refine ⟨_, congrArg Host.Outcome.next (heffect.trans hland), hother, fun hclean j hj => ?_, by rw [hcopy]; rfl, ?_⟩
  · rw [hgood (badIn_nil (s := y) hclean _ _)]
    obtain ⟨hwf, -⟩ := State.canonical_iff.mp (State.inService_iff.mp h).2.2.2.2.2.2
    exact Memory.read_copyN_same hwf hj
  · rw [hcopy]
    exact find_setBuf hfind fun _ => rfl

end

theorem traceSnap_asks (h : s.inService = true) : Reaches .traceSnap s (fun t => t.sched = { s.sched with snap := true } ∧ t.regs = s.regs ∧ t.mem = s.mem) := by
  have heffect : traceSnapEffect s = { s with sched := { s.sched with snap := true } } := by simp [traceSnapEffect, inService_common h (show 5 ≤ 10 by decide)]
  exact ⟨_, congrArg Host.Outcome.next ((commanded_schedPage h rfl _).trans heffect), rfl, rfl, rfl⟩

end

/-- Settles O44: task control by the fenced and the free case, the window field by field, and moves by the memory they copy or clear. -/
theorem tasksAndBuffers : Obligations.TasksAndBuffers := by
  unfold Obligations.TasksAndBuffers
  refine fun s h _ hcores hdrop => ⟨fun k x hidx hx => ⟨fun hfenced => taskControl_fenced h hidx hfenced, fun hfree => ⟨taskEnable_shows h hidx hx hfree,
      fun u w hu hw htask hasg => taskDisable_unstages h hidx hx hfree hcores hdrop hu hw htask hasg,
      fun hstalls hnone => taskDisable_quiet h hidx hx hfree hdrop hstalls hnone⟩⟩,
    fun v => taskIdx_latches h v, fun hd dest b hfind => ⟨fun hmay => bufferMove_refused hfind hmay, fun hmay htrace hwait hnext =>
      ⟨fun hlost => bufferMove_starts hfind h hmay htrace hlost, fun hlost => bufferMove_recreates hfind h hmay htrace hwait hnext hlost⟩,
      fun hmove => bufferMoveDone_idle hfind hmove, fun hmove hwait hnext => bufferMoveDone_lands hfind h hmove hwait hnext⟩, traceSnap_asks h⟩

end Sys2Proof.Machine
end

section
-- One proof after the other: side by side, their many threads would take more memory than the check has.
set_option Elab.async false
namespace Sys2Proof.Machine

/-! ## What device time moves (R528 to R538, R560) -/

/-- What changes of device time, its compares and its servo move, with the register fields among `keys`. -/
def timeMove (keys : Nat → Bool) : Foot :=
  ⟨fun s => { s.bare with servo := {}, arm := {}, adcs := [], loops := [], enc := {}, sched := {}, host := { s.host with msix0 := 0, msix1 := 0, discards := [] } },
    keys, fun _ => rfl⟩

section
variable {keys : Nat → Bool} {s₀ s : State}

theorem Within.flagPost {g j : Nat} (h : Within (timeMove keys) s₀ s) (hk : keys R.SCHED_CNT_COAL_COUNT.key = true) : Within (timeMove keys) s₀ (s.postFlagFrom g j) := by
  unfold State.postFlagFrom State.overLink
  split
  · exact h.move
  · obtain ⟨regs, sched, loops, adcs, hshape, hget⟩ := postFlags_shape (2 ^ j) s
    refine h.trans ⟨?_, fun G hG => hget G fun he => ?_⟩
    · rw [State.postFlag, hshape]
      rfl
    · exact Bool.false_ne_true (hG.symm.trans (he ▸ hk))

/-- A compare that fires writes neither VALID nor what SET reads. -/
theorem Within.tcmpFire {c : Nat} {late : Bool} (h : Within (timeMove keys) s₀ s) (hk : ∀ k, k ≠ R.TIME_STATUS_VALID.key → keys k = true) :
    Within (timeMove keys) s₀ (s.tcmpFire c late) := by
  have harmed : keys (R.TIME_TCMP_CFG_ARMED c).key = true := hk _ (by simp only [R.TIME_TCMP_CFG_ARMED, R.TIME_STATUS_VALID, Field.key]; omega)
  have hlate : (timeMove keys).MayRaise (R.TIME_TCMP_CFG_LATE c) :=
    ⟨hk _ (by simp only [R.TIME_TCMP_CFG_LATE, R.TIME_STATUS_VALID, Field.key]; omega),
      hk _ (by simp only [R.TIME_TCMP_CFG_LATE, R.TIME_STATUS_VALID, Field.key, pageOf]; omega)⟩
  have hstat : ∀ F ∈ [R.TIME_TSTAT_FIRE, R.TIME_TSTAT_LATE], (timeMove keys).MayRaise F := by
    refine List.forall_mem_cons.mpr ⟨?_, List.forall_mem_singleton.mpr ?_⟩
    · exact ⟨hk _ (by decide), hk _ (by decide)⟩
    · exact ⟨hk _ (by decide), hk _ (by decide)⟩
  unfold State.tcmpFire
  extract_lets s1 s2 bits j s3
  have h1 : Within (timeMove keys) s₀ s1 := (h.put harmed).raise (hstat _ (by simp))
  have h2 : Within (timeMove keys) s₀ s2 := h1.thenIf fun h => (h.raise hlate).raise (hstat _ (by simp))
  have h3 : Within (timeMove keys) s₀ s3 := h2.flagPost (hk _ (by decide))
  clear_value s2 s3
  split
  · exact h3.move
  · exact h2.move

theorem Within.tcmpJudge {c : Nat} (h : Within (timeMove keys) s₀ s) (hk : ∀ k, k ≠ R.TIME_STATUS_VALID.key → keys k = true) :
    Within (timeMove keys) s₀ (s.tcmpJudge c) := h.thenIf fun h => h.tcmpFire hk

end

/-- Every register field may move. -/
def anyField : Nat → Bool := fun _ => true

section
variable {s₀ s : State}

theorem Within.modTask {t : Nat} {f : TaskSt → TaskSt} (h : Within (timeMove anyField) s₀ s) : Within (timeMove anyField) s₀ (s.modTask t f) := by
  unfold State.modTask
  split
  · exact h.move
  · exact h

theorem Within.unpostFlag {b : FlagBack} (h : Within (timeMove anyField) s₀ s) : Within (timeMove anyField) s₀ (s.unpostFlag b) := by
  unfold State.unpostFlag
  split
  · exact h
  · exact (((h.foldl Within.modTask).forAll Within.move).forAll Within.move).addTo

theorem Within.unpend {F : Field} (h : Within (timeMove anyField) s₀ s) : Within (timeMove anyField) s₀ (s.unpend F) := by
  unfold State.unpend
  split
  · exact h.put
  · exact h

theorem Within.unraise {b : BitsBack} (h : Within (timeMove anyField) s₀ s) : Within (timeMove anyField) s₀ (s.unraise b) := by
  unfold State.unraise
  extract_lets s1
  have h1 : Within (timeMove anyField) s₀ s1 := h.foldl fun hx => .ite hx.put hx.put.unpend
  exact h1.move

theorem Within.unfire {b : FireBack} (h : Within (timeMove anyField) s₀ s) : Within (timeMove anyField) s₀ (s.unfire b) := by
  unfold State.unfire
  extract_lets s1
  have h1 : Within (timeMove anyField) s₀ s1 := by
    unfold s1
    split
    · exact h.unpostFlag
    · exact h
  exact h1.unraise.put

theorem Within.unfireAll {keep : Nat → Bool} (h : Within (timeMove anyField) s₀ s) : Within (timeMove anyField) s₀ (s.unfireAll keep) := by
  unfold State.unfireAll
  extract_lets l _ s1
  have h1 : Within (timeMove anyField) s₀ s1 := h.move
  exact (h1.foldl Within.unfire).foldl fun hx => hx.tcmpFire fun _ _ => rfl

theorem Within.planEnd (h : Within (timeMove anyField) s₀ s) : Within (timeMove anyField) s₀ s.planEnd := h.move

theorem Within.shiftCycle {d : Int} (h : Within (timeMove anyField) s₀ s) : Within (timeMove anyField) s₀ (s.shiftCycle d) := by
  refine h.thenIf fun h => ?_
  have hshift : Within (timeMove anyField) s₀ { s with arm := { s.arm with cycStart := (((s.arm.cycStart : Int) + d) % 2 ^ 96).toNat } } := h.move
  exact hshift.planEnd.cond

end

/-- What stays through them. -/
theorem timeMove_reads {keys : Nat → Bool} {s t : State} (h : Within (timeMove keys) s t) : t.time = s.time ∧ t.elapsed = s.elapsed ∧ t.mem = s.mem := by
  have htime := congrArg (fun x : State => x.time) h.mask
  have helapsed := congrArg (fun x : State => x.elapsed) h.mask
  have hmem := congrArg (fun x : State => x.mem) h.mask
  exact ⟨htime, helapsed, hmem⟩

/-! ## SET (R528, R560) -/

section
variable {s : State}

/-- A valid time stays valid while every compare is judged. -/
theorem judgeAll_valid (h : s.get R.TIME_STATUS_VALID = 1) : (forAll [0, 1, 2, 3] State.tcmpJudge s).time = s.time
    ∧ (forAll [0, 1, 2, 3] State.tcmpJudge s).get R.TIME_STATUS_VALID = 1 ∧ (forAll [0, 1, 2, 3] State.tcmpJudge s).mem = s.mem := by
  have hjudge : Within (timeMove fun k => decide (k ≠ R.TIME_STATUS_VALID.key)) s (forAll [0, 1, 2, 3] State.tcmpJudge s) :=
    (Within.refl _ s).forAll fun hx => hx.tcmpJudge fun k hk => decide_eq_true hk
  obtain ⟨htime, -, hmem⟩ := timeMove_reads hjudge
  exact ⟨htime, (hjudge.keys _ (by decide)).trans h, hmem⟩

theorem shiftCycle_reads (d : Int) (s : State) : ((s.shiftCycle d).retimeAdc).time = s.time ∧ ((s.shiftCycle d).retimeAdc).mem = s.mem := by
  obtain ⟨htime, -, hmem⟩ := timeMove_reads (Within.refl (timeMove anyField) s).shiftCycle
  exact ⟨htime, hmem⟩

/-- Device time becomes what it is set to, and is valid. -/
theorem stepTo_shows (t : Nat) (s : State) : (s.stepTo t).time = t % 2 ^ 96 ∧ (s.stepTo t).get R.TIME_STATUS_VALID = 1 ∧ (s.stepTo t).mem = s.mem := by
  unfold State.stepTo
  extract_lets s1 d s2
  obtain ⟨-, -, hmem1⟩ := timeMove_reads (show Within (timeMove anyField) s s1 from (Within.refl _ s).unfireAll)
  have htime2 : s2.time = t % 2 ^ 96 := rfl
  have hmem2 : s2.mem = s1.mem := rfl
  clear_value s2
  obtain ⟨htime3, hmem3⟩ := shiftCycle_reads d s2
  obtain ⟨htime, hvalid, hmem⟩ := judgeAll_valid (s := ((s2.shiftCycle d).retimeAdc).put R.TIME_STATUS_VALID 1) (get_put_value (by decide))
  exact ⟨htime.trans (htime3.trans htime2), hvalid, hmem.trans (hmem3.trans (hmem2.trans hmem1))⟩

/-- What a servo step of this tick leaves of what SET reads, when it is taken back. -/
theorem undoStep_reads (hflag : ∀ d, s.servo.done = some d → d.at_ = s.elapsed → ∀ e ∈ d.flag.bits, e.1 = R.TIME_TSTAT_STEP) :
    s.undoStep.get R.TIME_SET_HI_VAL = s.get R.TIME_SET_HI_VAL ∧ s.undoStep.get R.TIME_SET_LO_VAL = s.get R.TIME_SET_LO_VAL
      ∧ s.undoStep.elapsed = s.elapsed ∧ s.undoStep.mem = s.mem := by
  let P (x : State) : Prop := x.get R.TIME_SET_HI_VAL = s.get R.TIME_SET_HI_VAL ∧ x.get R.TIME_SET_LO_VAL = s.get R.TIME_SET_LO_VAL ∧ x.elapsed = s.elapsed ∧ x.mem = s.mem
  have hput : ∀ {x : State} {F : Field} {v : Nat}, P x → F.key ≠ R.TIME_SET_HI_VAL.key → F.key ≠ R.TIME_SET_LO_VAL.key → P (x.put F v) := fun hx hhi hlo =>
    ⟨(get_put_other hhi.symm _ _).trans hx.1, (get_put_other hlo.symm _ _).trans hx.2.1, hx.2.2⟩
  have hunpend : ∀ {x : State}, P x → P (x.unpend R.TIME_TSTAT_STEP) := fun {x} hx => by
    unfold State.unpend
    split
    · exact hput hx (by decide) (by decide)
    · exact hx
  have hbits : ∀ (l : List (Field × Bool × Bool)) {x : State}, (∀ e ∈ l, e.1 = R.TIME_TSTAT_STEP) → P x →
      P (l.foldl (fun a e => if e.2.2 then a.put e.1 (b2n e.2.1) else (a.put e.1 (b2n e.2.1)).unpend e.1) x) := fun l {x} hl hx =>
    List.foldlRecOn (motive := P) l _ hx fun y hy e he => by
      have hstep : P (y.put R.TIME_TSTAT_STEP (b2n e.2.1)) := hput hy (by decide) (by decide)
      rw [hl e he]
      split
      · exact hstep
      · exact hunpend hstep
  change P _
  unfold State.undoStep
  split
  · exact ⟨rfl, rfl, rfl, rfl⟩
  · next d hd =>
    split
    · next hnow =>
      extract_lets e s1 _
      have h1 : P s1 := ⟨rfl, rfl, rfl, rfl⟩
      have h2 : P ({ s1 with servo := { s1.servo with done := none, lockCnt := d.cnt } }.putAll [(R.TIME_STATUS_LOCKED, b2n d.locked), (R.TIME_STATUS_STEP_HELD, b2n d.held)]) :=
        hput (hput h1 (by decide) (by decide)) (by decide) (by decide)
      have h3 := hbits d.flag.bits (hflag d hd hnow) h2
      exact hput h3 (by decide) (by decide)
    · exact ⟨rfl, rfl, rfl, rfl⟩

theorem commanded_timePage (h : s.inService = true) {addr : Nat} (ha : addr / 0x1000 = 4) (f : State → State) : s.commanded addr f = f s :=
  commanded_inService h (g := 4) (by simp [pageGlade, ha]) (inService_common h (by decide)) (by simp [pageAbsent, ha]) f

theorem inService_timeUp (h : s.inService = true) : s.timeUp = true := inService_common h (by decide)

/-- A step that falls due gives way to SET, which reads what it did before. -/
theorem stepDropped_reads (s : State) : ∃ servo, (if s.stepDue then { s with servo := { s.servo with pend := none } } else s) = { s with servo } := by
  split
  · exact ⟨_, rfl⟩
  · exact ⟨_, rfl⟩

/-- R528: SET loads the counter and makes it valid. -/
theorem timeSetEffect_shows (h : s.timeUp = true) (hflag : ∀ d, s.servo.done = some d → d.at_ = s.elapsed → ∀ e ∈ d.flag.bits, e.1 = R.TIME_TSTAT_STEP) :
    (timeSetEffect s).time = (s.get R.TIME_SET_HI_VAL * 2 ^ 32 + s.get R.TIME_SET_LO_VAL) * 2 ^ 32 % 2 ^ 96 ∧ (timeSetEffect s).get R.TIME_STATUS_VALID = 1
      ∧ (timeSetEffect s).servo.setAt = some s.elapsed ∧ (timeSetEffect s).mem = s.mem := by
  obtain ⟨hhi, hlo, helapsed, hmem⟩ := undoStep_reads hflag
  unfold timeSetEffect
  rw [if_pos h]
  generalize s.undoStep = s2 at hhi hlo helapsed hmem
  obtain ⟨servo, hs3⟩ := stepDropped_reads s2
  simp only [hs3]
  have hset : ∀ F : Field, State.get { s2 with servo } F = s2.get F := fun _ => rfl
  obtain ⟨htime, hvalid, hmem4⟩ := stepTo_shows ((s.get R.TIME_SET_HI_VAL * 2 ^ 32 + s.get R.TIME_SET_LO_VAL) * 2 ^ 32) { s2 with servo }
  rw [hset, hset, hhi, hlo]
  generalize State.stepTo _ _ = s4 at htime hvalid hmem4
  exact ⟨htime, hvalid, congrArg some helapsed, hmem4.trans hmem⟩

theorem timeSet_shows (h : s.inService = true) (hflag : ∀ d, s.servo.done = some d → d.at_ = s.elapsed → ∀ e ∈ d.flag.bits, e.1 = R.TIME_TSTAT_STEP) :
    Reaches .timeSet s (fun t => t.time = (s.get R.TIME_SET_HI_VAL * 2 ^ 32 + s.get R.TIME_SET_LO_VAL) * 2 ^ 32 % 2 ^ 96 ∧ t.get R.TIME_STATUS_VALID = 1
      ∧ t.servo.setAt = some s.elapsed ∧ t.mem = s.mem) :=
  ⟨_, congrArg Host.Outcome.next (commanded_timePage h rfl _), timeSetEffect_shows (inService_timeUp h) hflag⟩

end

/-! ## INC_NS and the compares (R529 to R532) -/

section
variable {s : State}

theorem servo_setInc (inc : Nat) (s : State) : (s.setInc inc).servo = { s.servo with inc } := by
  unfold State.setInc
  extract_lets _ s1
  change (if s1.arm.running then s1.planEnd else s1).servo = _
  split
  · rfl
  · rfl

theorem setInc_regs (inc : Nat) (s : State) : (s.setInc inc).regs = ((s.put R.TIME_INC_NS_NS (inc / 2 ^ 32)).put R.TIME_INC_FR_FR inc).regs := by
  unfold State.setInc
  extract_lets _ s1
  change (if s1.arm.running then s1.planEnd else s1).regs = _
  split
  · rfl
  · rfl

theorem incNs_ignored (h : s.inService = true) (hsrc : s.on R.TIME_SRV_CFG_SRC = true) (v : Nat) : exec (.incNsWrite v) s = .next s := by
  refine congrArg Host.Outcome.next ((commanded_timePage h rfl _).trans ?_)
  simp [incNsEffect, hsrc]

/-- R529: INC_NS loads the increment while the servo is off. -/
theorem incNs_loads (h : s.inService = true) (hfr : s.get R.TIME_INC_FR_FR < 2 ^ 32) (hsrc : s.on R.TIME_SRV_CFG_SRC = false) (v : Nat) :
    Reaches (.incNsWrite v) s (fun t => t.servo.inc = v % 256 * 2 ^ 32 + s.get R.TIME_INC_FR_FR
      ∧ t.get R.TIME_INC_NS_NS = v % 256 ∧ RegsKeptBut [R.TIME_INC_NS_NS, R.TIME_INC_FR_FR] s t ∧ t.mem = s.mem) := by
  have heffect : incNsEffect v s = s.setInc (v % 256 * 2 ^ 32 + s.get R.TIME_INC_FR_FR) := by simp [incNsEffect, hsrc, inService_timeUp h]
  refine ⟨_, congrArg Host.Outcome.next ((commanded_timePage h rfl _).trans heffect), by rw [servo_setInc], ?_, fun G hG => ?_,
    (timeMove_reads ((Within.refl servoFoot s).setInc.widen ⟨fun _ => rfl, fun _ hk => nomatch hk⟩ : Within (timeMove anyField) s _)).2.2⟩
  · rw [get_congr (setInc_regs _ s), get_put_other (by decide), get_put_same (inService_regsRise h)]
    change (v % 256 * 2 ^ 32 + s.get R.TIME_INC_FR_FR) / 2 ^ 32 % 2 ^ 8 = _
    omega
  · rw [get_congr (setInc_regs _ s), get_put_other (hG _ (by simp)), get_put_other (hG _ (by simp))]

/-- A compare whose new target is known, before it is judged. -/
theorem tcmpTgt_noTakeBack (h : s.inService = true) {c : Nat} (hc : c < 4) (v : Nat) (hfired : ∀ b ∈ s.servo.fired, b.at_ ≠ s.elapsed ∨ b.ch ≠ c) :
    exec (.tcmpTgtWrite c v) s = .next (if (s.put (R.TIME_TCMP_TGT_TGT c) v).on (R.TIME_TCMP_CFG_EN c)
      then ((s.put (R.TIME_TCMP_TGT_TGT c) v).put (R.TIME_TCMP_CFG_ARMED c) 1).tcmpJudge c else s.put (R.TIME_TCMP_TGT_TGT c) v) := by
  refine congrArg Host.Outcome.next ((commanded_timePage h (by omega) _).trans ?_)
  have hnone : s.servo.fired.any (fun b => decide (b.at_ = s.elapsed ∧ b.ch = c)) = false :=
    List.any_eq_false.mpr fun b hb => by simpa only [decide_eq_true_eq, not_and_or] using hfired b hb
  simp only [tcmpTgtEffect, inService_timeUp h, hc, hnone, decide_true, Bool.and_self, if_true, Bool.false_eq_true, if_false]

end

end Sys2Proof.Machine
end

section
-- One proof after the other: side by side, their many threads would take more memory than the check has.
set_option Elab.async false
namespace Sys2Proof.Machine

/-! ## The compares (R530 to R532, R560) -/

section
variable {s : State}

theorem postFlagFrom_get {G : Field} (hG : G.key ≠ R.SCHED_CNT_COAL_COUNT.key) (g j : Nat) (s : State) : (s.postFlagFrom g j).get G = s.get G := by
  have hpost : Within (timeMove fun k => decide (k = R.SCHED_CNT_COAL_COUNT.key)) s (s.postFlagFrom g j) := (Within.refl _ s).flagPost (decide_eq_true rfl)
  exact hpost.keys G (decide_eq_false hG)

/-- R530: a channel that fires on its tick is no longer armed. -/
theorem tcmpFire_shows (hrise : keysRise none s.regs = true) {c : Nat} (hc : c < 4) : (s.tcmpFire c false).get (R.TIME_TCMP_CFG_ARMED c) = 0
    ∧ (s.tcmpFire c false).get R.TIME_TSTAT_FIRE = 1 ∧ (s.tcmpFire c false).mem = s.mem ∧ (s.tcmpFire c false).time = s.time := by
  obtain ⟨htime, -, hmem⟩ := timeMove_reads (show Within (timeMove anyField) s (s.tcmpFire c false) from (Within.refl _ s).tcmpFire fun _ _ => rfl)
  have harmed : (R.TIME_TCMP_CFG_ARMED c).key ≠ R.TIME_TSTAT_FIRE.key ∧ (R.TIME_TCMP_CFG_ARMED c).key ≠ 32 * (pageOf R.TIME_TSTAT_FIRE.addr + 0x14)
      ∧ (R.TIME_TCMP_CFG_ARMED c).key ≠ R.SCHED_CNT_COAL_COUNT.key := by
    simp only [R.TIME_TCMP_CFG_ARMED, R.TIME_TSTAT_FIRE, R.SCHED_CNT_COAL_COUNT, Field.key, pageOf]
    omega
  have hregs : ∀ G : Field, G.key ≠ R.SCHED_CNT_COAL_COUNT.key →
      (s.tcmpFire c false).get G = ((s.put (R.TIME_TCMP_CFG_ARMED c) 0).raise R.TIME_TSTAT_FIRE).get G := fun G hG => by
    unfold State.tcmpFire
    simp only [Bool.false_eq_true, if_false]
    split
    · exact postFlagFrom_get hG _ _ _
    · rfl
  refine ⟨?_, ?_, hmem, htime⟩
  · rw [hregs _ harmed.2.2, get_raise_other harmed.1 harmed.2.1, get_put_same hrise, Nat.zero_mod]
  · rw [hregs _ (by decide), get_raise_same (by decide) (by decide) rfl]

theorem reach_shows (t : Nat) (s : State) : (s.reach t).time = (s.time + (t - s.time)) % 2 ^ 96 ∧ (s.reach t).regs = s.regs ∧ (s.reach t).mem = s.mem := ⟨rfl, rfl, rfl⟩

theorem timeCompareFire_off {c : Nat} (h : s.on (R.TIME_TCMP_CFG_ARMED c) = false) : exec (.timeCompareFire c) s = .next s := by
  change Host.Outcome.next (tcmpFireEffect c s) = _
  simp [tcmpFireEffect, h]

theorem timeCompareFire_shows (h : s.inService = true) {c : Nat} (hc : c < 4) (harmed : s.on (R.TIME_TCMP_CFG_ARMED c) = true) :
    Reaches (.timeCompareFire c) s (fun t => t.get (R.TIME_TCMP_CFG_ARMED c) = 0 ∧ t.get R.TIME_TSTAT_FIRE = 1 ∧ t.mem = s.mem
      ∧ t.time = (s.time + ((s.nowNs + (s.tcmpD c).toNat) * 2 ^ 32 - s.time)) % 2 ^ 96) := by
  have heffect : tcmpFireEffect c s = (s.reach ((s.nowNs + (s.tcmpD c).toNat) * 2 ^ 32)).tcmpFire c false := by
    simp [tcmpFireEffect, inService_timeUp h, hc, harmed]
  refine ⟨_, congrArg Host.Outcome.next heffect, ?_⟩
  obtain ⟨htime, hreach, hmem⟩ := reach_shows ((s.nowNs + (s.tcmpD c).toNat) * 2 ^ 32) s
  generalize s.reach _ = t at hreach hmem htime
  obtain ⟨hoff, hfire, hmemFire, htimeFire⟩ := tcmpFire_shows (hreach ▸ inService_regsRise h) hc
  exact ⟨hoff, hfire, hmemFire.trans hmem, htimeFire.trans htime⟩

/-- The target and the marks of a channel are fields of their own. -/
theorem tcmpKeys_apart {c : Nat} (hc : c < 4) : (R.TIME_TCMP_CFG_EN c).key ≠ (R.TIME_TCMP_TGT_TGT c).key ∧ (R.TIME_TCMP_TGT_TGT c).key ≠ (R.TIME_TCMP_CFG_ARMED c).key
    ∧ (R.TIME_TCMP_CFG_EN c).key ≠ (R.TIME_TCMP_CFG_ARMED c).key ∧ (R.TIME_TCMP_CFG_EN c).key ≠ R.TIME_TSTAT_FIRE.key
    ∧ (R.TIME_TCMP_CFG_EN c).key ≠ 32 * (pageOf R.TIME_TSTAT_FIRE.addr + 0x14) ∧ R.TIME_TSTAT_FIRE.key ≠ (R.TIME_TCMP_TGT_TGT c).key
    ∧ R.TIME_TSTAT_FIRE.key ≠ (R.TIME_TCMP_CFG_ARMED c).key := by
  simp only [R.TIME_TCMP_CFG_EN, R.TIME_TCMP_TGT_TGT, R.TIME_TCMP_CFG_ARMED, R.TIME_TSTAT_FIRE, Field.key, pageOf]
  omega

/-- R532: an enabled channel whose target lies ahead is armed and waits. -/
theorem tcmpArm_ahead (hrise : keysRise none s.regs = true) {c v : Nat} (hc : c < 4) (hen : s.on (R.TIME_TCMP_CFG_EN c) = true)
    (hahead : 0 < signedOf 32 ((v % 2 ^ 32 + 2 ^ 32 - s.nowNs % 2 ^ 32) % 2 ^ 32)) :
    (if (s.put (R.TIME_TCMP_TGT_TGT c) v).on (R.TIME_TCMP_CFG_EN c) then ((s.put (R.TIME_TCMP_TGT_TGT c) v).put (R.TIME_TCMP_CFG_ARMED c) 1).tcmpJudge c
      else s.put (R.TIME_TCMP_TGT_TGT c) v) = (s.put (R.TIME_TCMP_TGT_TGT c) v).put (R.TIME_TCMP_CFG_ARMED c) 1 := by
  obtain ⟨hEnTgt, hTgtArmed, -⟩ := tcmpKeys_apart hc
  have htgt : ((s.put (R.TIME_TCMP_TGT_TGT c) v).put (R.TIME_TCMP_CFG_ARMED c) 1).get (R.TIME_TCMP_TGT_TGT c) = v % 2 ^ 32 :=
    (get_put_other hTgtArmed _ _).trans (get_put_same hrise _ _)
  have hd : ¬ ((s.put (R.TIME_TCMP_TGT_TGT c) v).put (R.TIME_TCMP_CFG_ARMED c) 1).tcmpD c ≤ 0 := by
    rw [State.tcmpD, htgt]
    exact Int.not_le.mpr hahead
  rw [if_pos ((on_congr (get_put_other hEnTgt _ _)).trans hen), State.tcmpJudge, decide_eq_false hd, Bool.and_false, if_neg Bool.false_ne_true]

theorem tcmpTgt_off (h : s.inService = true) {c : Nat} (hc : c < 4) (v : Nat) (hen : s.on (R.TIME_TCMP_CFG_EN c) = false)
    (hfired : ∀ b ∈ s.servo.fired, b.at_ ≠ s.elapsed ∨ b.ch ≠ c) :
    Reaches (.tcmpTgtWrite c v) s (fun t => t.get (R.TIME_TCMP_TGT_TGT c) = v % 2 ^ 32 ∧ RegsKeptBut [R.TIME_TCMP_TGT_TGT c] s t ∧ t.mem = s.mem) := by
  obtain ⟨hEnTgt, -⟩ := tcmpKeys_apart hc
  refine ⟨_, (tcmpTgt_noTakeBack h hc v hfired).trans (congrArg _ (if_neg ?_)), get_put_same (inService_regsRise h) _ _, regsKeptBut_put _ _ _, rfl⟩
  rw [on_congr (get_put_other hEnTgt _ _), hen]
  exact Bool.false_ne_true

theorem tcmpTgt_arms (h : s.inService = true) {c : Nat} (hc : c < 4) {v : Nat} (hen : s.on (R.TIME_TCMP_CFG_EN c) = true)
    (hfired : ∀ b ∈ s.servo.fired, b.at_ ≠ s.elapsed ∨ b.ch ≠ c) (hahead : 0 < signedOf 32 ((v % 2 ^ 32 + 2 ^ 32 - s.nowNs % 2 ^ 32) % 2 ^ 32)) :
    Reaches (.tcmpTgtWrite c v) s (fun t => t.get (R.TIME_TCMP_CFG_ARMED c) = 1 ∧ t.get (R.TIME_TCMP_TGT_TGT c) = v % 2 ^ 32 ∧ t.mem = s.mem) := by
  obtain ⟨-, hTgtArmed, -⟩ := tcmpKeys_apart hc
  exact ⟨_, (tcmpTgt_noTakeBack h hc v hfired).trans (congrArg _ (tcmpArm_ahead (inService_regsRise h) hc hen hahead)), get_put_value Nat.one_ne_zero,
    (get_put_other hTgtArmed _ _).trans (get_put_same (inService_regsRise h) _ _), rfl⟩

/-- The FIRE bit and its interrupt are taken back. -/
theorem unraiseFire_shows (hrise : keysRise none s.regs = true) {b : BitsBack} (hbits : b.bits = [(R.TIME_TSTAT_FIRE, false, false)]) :
    keysRise none (s.unraise b).regs = true ∧ (s.unraise b).get R.TIME_TSTAT_FIRE = 0
      ∧ RegsKeptBut [R.TIME_TSTAT_FIRE, ⟨pageOf R.TIME_TSTAT_FIRE.addr + 0x14, 0, 32, 0, .rc⟩] s (s.unraise b)
      ∧ (s.unraise b).time = s.time ∧ (s.unraise b).mem = s.mem := by
  have hregs : (s.unraise b).regs = ((s.put R.TIME_TSTAT_FIRE 0).unpend R.TIME_TSTAT_FIRE).regs := by
    unfold State.unraise
    rw [hbits]
    rfl
  obtain ⟨htime, -, hmem⟩ := timeMove_reads (show Within (timeMove anyField) s (s.unraise b) from (Within.refl _ s).unraise)
  rw [hregs]
  generalize s.unraise b = t at hregs htime hmem
  have hfire : (s.put R.TIME_TSTAT_FIRE 0).get R.TIME_TSTAT_FIRE = 0 := get_put_same hrise _ _
  have hkept : RegsKeptBut [R.TIME_TSTAT_FIRE, ⟨pageOf R.TIME_TSTAT_FIRE.addr + 0x14, 0, 32, 0, .rc⟩] s (s.put R.TIME_TSTAT_FIRE 0) := fun G hG =>
    get_put_other (hG _ (by simp)) _ _
  have hrise1 := regs_put_rise hrise R.TIME_TSTAT_FIRE 0
  have hunpend : ∀ x : State, keysRise none x.regs = true → keysRise none (x.unpend R.TIME_TSTAT_FIRE).regs = true
      ∧ ∀ G : Field, G.key ≠ Field.key ⟨pageOf R.TIME_TSTAT_FIRE.addr + 0x14, 0, 32, 0, .rc⟩ → (x.unpend R.TIME_TSTAT_FIRE).get G = x.get G := fun x hx => by
    unfold State.unpend
    split
    · exact ⟨regs_put_rise hx _ _, fun G hG => get_put_other hG _ _⟩
    · exact ⟨hx, fun _ _ => rfl⟩
  obtain ⟨hrise2, hget⟩ := hunpend _ hrise1
  refine ⟨hrise2, ?_, fun G hG => ?_, htime, hmem⟩
  · rw [get_congr hregs, hget _ (by decide), hfire]
  · rw [get_congr hregs, hget _ (hG _ (by simp)), hkept G hG]

/-- R560: the one firing of this tick is taken back. -/
theorem unfireAll_one {c : Nat} {b : FireBack} (hb : s.servo.fired = [b]) (hnow : b.at_ = s.elapsed) (hch : b.ch = c) (hflag : b.flag = none) :
    s.unfireAll (fun k => decide (k ≠ c)) = (State.unraise b.bits { s with servo := { s.servo with fired := [] } }).put (R.TIME_TCMP_CFG_ARMED c) 1 := by
  have hhere : s.servo.fired.filter (fun x => decide (x.at_ = s.elapsed)) = [b] := by simp [hb, hnow]
  have hagain : ([b].reverse.filter (fun x => decide (x.ch ≠ c))) = [] := by simp [hch]
  unfold State.unfireAll
  rw [hhere]
  change (List.filter _ [b].reverse).foldl _ _ = _
  rw [hagain]
  simp only [List.foldl_cons, List.foldl_nil, State.unfire, hflag, hch]

theorem tcmpTgt_takesBack (h : s.inService = true) {c v : Nat} (hc : c < 4) {b : FireBack} (hb : s.servo.fired = [b]) (hnow : b.at_ = s.elapsed) (hch : b.ch = c)
    (hflag : b.flag = none) (hbits : b.bits.bits = [(R.TIME_TSTAT_FIRE, false, false)]) (hen : s.on (R.TIME_TCMP_CFG_EN c) = true)
    (hahead : 0 < signedOf 32 ((v % 2 ^ 32 + 2 ^ 32 - s.nowNs % 2 ^ 32) % 2 ^ 32)) :
    Reaches (.tcmpTgtWrite c v) s (fun t => t.get (R.TIME_TCMP_CFG_ARMED c) = 1 ∧ t.get R.TIME_TSTAT_FIRE = 0 ∧ t.mem = s.mem) := by
  obtain ⟨-, -, hEnArmed, hEnFire, hEnIrq, hFireTgt, hFireArmed⟩ := tcmpKeys_apart hc
  have hany : s.servo.fired.any (fun b => decide (b.at_ = s.elapsed ∧ b.ch = c)) = true := by simp [hb, hnow, hch]
  have hrise : keysRise none ({ s with servo := { s.servo with fired := [] } } : State).regs = true := inService_regsRise h
  obtain ⟨hriseA, hfire, hkept, htime, hmem⟩ := unraiseFire_shows hrise hbits
  have hback := unfireAll_one hb hnow hch hflag
  generalize State.unraise b.bits _ = A at hriseA hfire hkept htime hmem hback
  have hriseB := regs_put_rise (regs_put_rise hriseA (R.TIME_TCMP_CFG_ARMED c) 1) (R.TIME_TCMP_CFG_ARMED c) 0
  have henA : A.get (R.TIME_TCMP_CFG_EN c) = s.get (R.TIME_TCMP_CFG_EN c) := hkept _ (by simpa using ⟨hEnFire, hEnIrq⟩)
  have henB : ((A.put (R.TIME_TCMP_CFG_ARMED c) 1).put (R.TIME_TCMP_CFG_ARMED c) 0).on (R.TIME_TCMP_CFG_EN c) = true := by
    rw [on_congr (((get_put_other hEnArmed _ _).trans (get_put_other hEnArmed _ _)).trans henA), hen]
  have hfireB : ((A.put (R.TIME_TCMP_CFG_ARMED c) 1).put (R.TIME_TCMP_CFG_ARMED c) 0).get R.TIME_TSTAT_FIRE = 0 :=
    ((get_put_other hFireArmed _ _).trans (get_put_other hFireArmed _ _)).trans hfire
  have hnowB : ((A.put (R.TIME_TCMP_CFG_ARMED c) 1).put (R.TIME_TCMP_CFG_ARMED c) 0).nowNs = s.nowNs := congrArg (· / 2 ^ 32) htime
  have hmemB : ((A.put (R.TIME_TCMP_CFG_ARMED c) 1).put (R.TIME_TCMP_CFG_ARMED c) 0).mem = s.mem := hmem
  have heffect : tcmpTgtEffect c v s = (((A.put (R.TIME_TCMP_CFG_ARMED c) 1).put (R.TIME_TCMP_CFG_ARMED c) 0).put (R.TIME_TCMP_TGT_TGT c) v).put (R.TIME_TCMP_CFG_ARMED c) 1 := by
    rw [← tcmpArm_ahead hriseB hc henB (hnowB.symm ▸ hahead)]
    simp only [tcmpTgtEffect, inService_timeUp h, hc, hany, hback, decide_true, Bool.and_self, if_true]
  generalize (A.put (R.TIME_TCMP_CFG_ARMED c) 1).put (R.TIME_TCMP_CFG_ARMED c) 0 = B at hfireB hmemB heffect
  exact ⟨_, congrArg Host.Outcome.next ((commanded_timePage h (by omega) _).trans heffect), get_put_value Nat.one_ne_zero,
    ((get_put_other hFireArmed _ _).trans (get_put_other hFireTgt _ _)).trans hfireB, hmemB⟩

end

end Sys2Proof.Machine
end

section
-- One proof after the other: side by side, their many threads would take more memory than the check has.
set_option Elab.async false
namespace Sys2Proof.Machine

/-! ## The servo (R533 to R536, R560) -/

section
variable {s : State} {off : Int}

theorem clampInt_eq (lo hi i : Int) (h : lo ≤ hi) : clampInt lo hi i = max lo (min hi i) := by
  unfold clampInt
  split
  · omega
  · split <;> omega

/-- R536: the run of small offsets moves its own count and the marks HOLDOVER and LOCKED. -/
theorem offsetLock_shows (off : Int) (s : State) : (∃ lockCnt, (s.offsetLock off).servo = { s.servo with lockCnt })
    ∧ RegsKeptBut [R.TIME_STATUS_HOLDOVER, R.TIME_STATUS_LOCKED] s (s.offsetLock off) := by
  have hheld : RegsKeptBut [R.TIME_STATUS_HOLDOVER, R.TIME_STATUS_LOCKED] s (s.put R.TIME_STATUS_HOLDOVER 0) := fun G hG => get_put_other (hG _ (by simp)) _ _
  have hlocked : ∀ (v : Nat) (servo : ServoSt),
      RegsKeptBut [R.TIME_STATUS_HOLDOVER, R.TIME_STATUS_LOCKED] s ({ s.put R.TIME_STATUS_HOLDOVER 0 with servo }.put R.TIME_STATUS_LOCKED v) := fun v servo G hG =>
    (get_put_other (hG _ (by simp)) _ _).trans (hheld G hG)
  unfold State.offsetLock
  extract_lets s1 n _ s2
  split
  · split
    · exact ⟨⟨n, rfl⟩, hlocked 1 _⟩
    · exact ⟨⟨n, rfl⟩, hheld⟩
  · exact ⟨⟨0, rfl⟩, hlocked 0 _⟩

theorem servo_flagIf (b : Bool) (F : Field) (s : State) : (s.flagIf b F).servo = s.servo := by
  obtain ⟨regs, msix0, msix1, hraise⟩ := raise_shape F s
  unfold State.flagIf
  split
  · rw [hraise]
  · rfl

theorem servo_applyRate (rate : Int) (s : State) : (s.applyRate rate).servo = { s.servo with rate, inc := incOf rate } := servo_setInc _ _

/-- R534: the rate and TIME_INC after one computation. -/
theorem servoCompute_shows (off : Int) (s : State) : (s.servoCompute off).servo.acc = s.servo.acc + (s.get R.TIME_SRV_GAIN_KI : Nat) * off / 2 ^ 16
    ∧ (s.servoCompute off).servo.pend = s.servo.pend
    ∧ (s.servoCompute off).servo.rate = max (-rateLimit) (min rateLimit
        ((s.get R.TIME_SRV_GAIN_KP : Nat) * off / 2 ^ 12 + (s.servo.acc + (s.get R.TIME_SRV_GAIN_KI : Nat) * off / 2 ^ 16)))
    ∧ (s.servoCompute off).servo.inc = incOf (s.servoCompute off).servo.rate := by
  rw [← clampInt_eq _ _ _ (by decide)]
  unfold State.servoCompute
  extract_lets acc r _ s1
  rw [servo_applyRate]
  have hflag := servo_flagIf (decide (rateLimit < r ∨ r < -rateLimit)) R.TIME_TSTAT_CLAMP s1
  generalize s1.flagIf _ R.TIME_TSTAT_CLAMP = s2 at hflag
  have hacc : s2.servo.acc = s1.servo.acc := congrArg (fun x : ServoSt => x.acc) hflag
  have hpend : s2.servo.pend = s1.servo.pend := congrArg (fun x : ServoSt => x.pend) hflag
  exact ⟨hacc, hpend, rfl, rfl⟩

/-- What an offset has done before it is judged: the servo's count and the fields of `offsetFields`. -/
theorem offsetShown_shows (off : Int) (small : Bool) (s : State) :
    ∃ x : State, (let s1 := (s.putS R.TIME_OFFSET_OFF (clampInt (-2 ^ 31) (2 ^ 31 - 1) (off / 2 ^ 16))).offsetLock off
        if small then s1.put R.TIME_STATUS_STEP_HELD 0 else s1) = x ∧ (∃ lockCnt, x.servo = { s.servo with lockCnt }) ∧ RegsKeptBut offsetFields s x := by
  refine ⟨_, rfl, ?_⟩
  obtain ⟨⟨n, hservo⟩, hkept⟩ := offsetLock_shows off (s.putS R.TIME_OFFSET_OFF (clampInt (-2 ^ 31) (2 ^ 31 - 1) (off / 2 ^ 16)))
  have hkept1 : RegsKeptBut offsetFields s ((s.putS R.TIME_OFFSET_OFF (clampInt (-2 ^ 31) (2 ^ 31 - 1) (off / 2 ^ 16))).offsetLock off) := fun G hG =>
    (hkept G fun F hF => hG F (by simp [offsetFields] at hF ⊢; tauto)).trans (get_put_other (hG _ (by simp [offsetFields])) _ _)
  dsimp only
  generalize State.offsetLock off _ = s1 at hservo hkept1
  split
  · exact ⟨⟨n, hservo⟩, fun G hG => (get_put_other (hG _ (by simp [offsetFields])) _ _).trans (hkept1 G hG)⟩
  · exact ⟨⟨n, hservo⟩, hkept1⟩

theorem servoTake_shows (hvalid : s.on R.TIME_STATUS_VALID = true) (hpend : s.servo.pend = none) :
    (off.natAbs ≤ s.get R.TIME_STEP_THR_THR * 2 ^ 16 → (s.servoTake off).servo.acc = s.servo.acc + (s.get R.TIME_SRV_GAIN_KI : Nat) * off / 2 ^ 16
        ∧ (s.servoTake off).servo.pend = none
        ∧ (s.servoTake off).servo.rate = max (-rateLimit) (min rateLimit
            ((s.get R.TIME_SRV_GAIN_KP : Nat) * off / 2 ^ 12 + (s.servo.acc + (s.get R.TIME_SRV_GAIN_KI : Nat) * off / 2 ^ 16)))
        ∧ (s.servoTake off).servo.inc = incOf (s.servoTake off).servo.rate)
      ∧ (s.get R.TIME_STEP_THR_THR * 2 ^ 16 < off.natAbs → (s.servoTake off).servo.pend = some off ∧ (s.servoTake off).servo.rate = s.servo.rate) := by
  obtain ⟨x, hx, ⟨n, hservo⟩, hkept⟩ := offsetShown_shows off (decide (off.natAbs ≤ s.get R.TIME_STEP_THR_THR * 2 ^ 16)) s
  have hvalidX : x.on R.TIME_STATUS_VALID = true := (on_congr (hkept _ (by decide))).trans hvalid
  have hpendX : x.servo.pend.isSome = false := by simp [hservo, hpend]
  have htake : s.servoTake off = if x.servo.pend.isSome || !x.on R.TIME_STATUS_VALID || !decide (off.natAbs ≤ s.get R.TIME_STEP_THR_THR * 2 ^ 16)
      then { x with servo := { x.servo with pend := some off } } else x.servoCompute off := by rw [← hx]; rfl
  rw [htake, hvalidX, hpendX]
  constructor
  · intro hsmall
    obtain ⟨hacc, hpendC, hrate, hinc⟩ := servoCompute_shows off x
    rw [hkept _ (by decide), hservo] at hacc
    rw [hkept R.TIME_SRV_GAIN_KI (by decide), hkept R.TIME_SRV_GAIN_KP (by decide), hservo] at hrate
    simp only [hsmall, decide_true, Bool.not_true, Bool.or_self, Bool.false_eq_true, if_false]
    exact ⟨hacc, hpendC.trans (by simp [hservo, hpend]), hrate, hinc⟩
  · intro hlarge
    simp only [Nat.not_le.mpr hlarge, decide_false, Bool.not_false, Bool.or_true, if_true, hservo]
    exact ⟨trivial, trivial⟩

theorem servoOffset_ignored {src : Nat} (hignored : src = 0 ∨ s.get R.TIME_SRV_CFG_SRC ≠ src) (off : Int) : exec (.servoOffset src off) s = .next s := by
  change Host.Outcome.next (s.servoOffset src off) = _
  unfold State.servoOffset
  rw [if_neg]
  obtain hsrc | hsrc := hignored <;> simp [hsrc]

/-- R534: an offset of the selected source reaches the servo; time does not move. -/
theorem servoOffset_shows (h : s.inService = true) {src : Nat} (hne : src ≠ 0) (hsrc : s.get R.TIME_SRV_CFG_SRC = src) (off : Int) :
    ∃ t, exec (.servoOffset src off) s = .next t ∧ (∃ took, t.servo = { (s.servoTake off).servo with took }) ∧ t.time = s.time ∧ t.mem = s.mem := by
  have heffect : s.servoOffset src off = { s.servoTake off with servo := { (s.servoTake off).servo with took := some (State.offsetBack s (s.servoTake off)) } } := by
    simp [State.servoOffset, inService_timeUp h, inService_unit h, hne, hsrc]
  have hfoot : Within servoFoot s (s.servoTake off) := (Within.refl _ s).servoTake
  have htime := congrArg (fun x : State => x.time) hfoot.mask
  have hmem := congrArg (fun x : State => x.mem) hfoot.mask
  refine ⟨_, congrArg Host.Outcome.next heffect, ?_⟩
  generalize s.servoTake off = t at htime hmem
  exact ⟨⟨_, rfl⟩, htime, hmem⟩

theorem servoOffset_judged (h : s.inService = true) {src : Nat} (hne : src ≠ 0) (hsrc : s.get R.TIME_SRV_CFG_SRC = src) (hvalid : s.on R.TIME_STATUS_VALID = true)
    (hpend : s.servo.pend = none) (off : Int) :
    (off.natAbs ≤ s.get R.TIME_STEP_THR_THR * 2 ^ 16 →
        Reaches (.servoOffset src off) s (fun t => t.servo.acc = s.servo.acc + (s.get R.TIME_SRV_GAIN_KI : Nat) * off / 2 ^ 16 ∧ t.servo.pend = none
          ∧ t.servo.rate = max (-rateLimit) (min rateLimit ((s.get R.TIME_SRV_GAIN_KP : Nat) * off / 2 ^ 12 + (s.servo.acc + (s.get R.TIME_SRV_GAIN_KI : Nat) * off / 2 ^ 16)))
          ∧ t.servo.inc = incOf t.servo.rate ∧ t.time = s.time ∧ t.mem = s.mem))
      ∧ (s.get R.TIME_STEP_THR_THR * 2 ^ 16 < off.natAbs →
        Reaches (.servoOffset src off) s (fun t => t.servo.pend = some off ∧ t.servo.rate = s.servo.rate ∧ t.time = s.time ∧ t.mem = s.mem)) := by
  obtain ⟨t, hexec, ⟨took, hservo⟩, htime, hmem⟩ := servoOffset_shows h hne hsrc off
  obtain ⟨hsmall, hlarge⟩ := servoTake_shows (off := off) hvalid hpend
  refine ⟨fun hle => ⟨t, hexec, ?_⟩, fun hlt => ⟨t, hexec, ?_⟩⟩
  · obtain ⟨hacc, hpendT, hrate, hinc⟩ := hsmall hle
    rw [hservo]
    exact ⟨hacc, hpendT, hrate, hinc, htime, hmem⟩
  · obtain ⟨hpendT, hrate⟩ := hlarge hlt
    rw [hservo]
    exact ⟨hpendT, hrate, htime, hmem⟩

/-- R536: no offset for HOLD_TMO posts a standing TIME event. -/
theorem holdover_shows (h : s.inService = true) (hsrc : s.on R.TIME_SRV_CFG_SRC = true) (hhold : s.on R.TIME_STATUS_HOLDOVER = false) :
    Reaches .holdoverTimeout s (fun t => t.get R.TIME_STATUS_HOLDOVER = 1 ∧ t.get R.TIME_TSTAT_HOLD = 1 ∧ t.servo = s.servo
      ∧ t.flt.inbox = s.flt.inbox ++ [{ cls := .time, unit := 0x0401, standing := true }]) := by
  have heffect : holdoverEffect s = ((s.put R.TIME_STATUS_HOLDOVER 1).raise R.TIME_TSTAT_HOLD).eventOpen .time servoUnit 0 := by
    simp [holdoverEffect, inService_timeUp h, inService_unit h, hsrc, hhold]
  refine ⟨_, congrArg Host.Outcome.next heffect, ?_, ?_, ?_, ?_⟩
  · exact (get_raise_other (by decide) (by decide) _).trans (get_put_value (by decide))
  · exact get_raise_same (by decide) (by decide) rfl _
  · obtain ⟨regs, msix0, msix1, hraise⟩ := raise_shape R.TIME_TSTAT_HOLD (s.put R.TIME_STATUS_HOLDOVER 1)
    rw [hraise]
    rfl
  · obtain ⟨regs, msix0, msix1, hraise⟩ := raise_shape R.TIME_TSTAT_HOLD (s.put R.TIME_STATUS_HOLDOVER 1)
    rw [hraise]
    rfl

theorem holdover_once (h : s.on R.TIME_STATUS_HOLDOVER = true) : exec .holdoverTimeout s = .next s := by
  change Host.Outcome.next (holdoverEffect s) = _
  simp [holdoverEffect, h]

end

end Sys2Proof.Machine
end

section
-- One proof after the other: side by side, their many threads would take more memory than the check has.
set_option Elab.async false
namespace Sys2Proof.Machine

/-! ## A write of SRC (R536, R560) and PPS (R537, R538) -/

section
variable {s : State}

theorem unraise_rise (b : BitsBack) {s : State} (h : keysRise none s.regs = true) : keysRise none (s.unraise b).regs = true := by
  have hunpend : ∀ (F : Field) {x : State}, keysRise none x.regs = true → keysRise none (x.unpend F).regs = true := fun F x hx => by
    unfold State.unpend
    split
    · exact regs_put_rise hx _ _
    · exact hx
  refine List.foldlRecOn (motive := fun x : State => keysRise none x.regs = true) b.bits _ h fun x hx e _ => ?_
  split
  · exact regs_put_rise hx _ _
  · exact hunpend _ (regs_put_rise hx _ _)

theorem setInc_rise (inc : Nat) {s : State} (h : keysRise none s.regs = true) : keysRise none (s.setInc inc).regs = true := by
  rw [setInc_regs]
  exact regs_put_rise (regs_put_rise h _ _) _ _

/-- An offset of this tick taken back: what the servo had before it. -/
theorem offsetUndo_shows (h : keysRise none s.regs = true) : keysRise none s.offsetUndo.regs = true ∧ s.offsetUndo.mem = s.mem
    ∧ ((∀ b, s.servo.took = some b → b.at_ ≠ s.elapsed) → s.offsetUndo.servo = s.servo)
    ∧ ∀ b, s.servo.took = some b → b.at_ = s.elapsed → s.offsetUndo.servo.acc = b.acc ∧ s.offsetUndo.servo.rate = b.rate ∧ s.offsetUndo.servo.pend = b.pend := by
  unfold State.offsetUndo
  split
  · next hnone => exact ⟨h, rfl, fun _ => rfl, fun b hb => by rw [hnone] at hb; cases hb⟩
  · next b hb =>
    split
    · next hnow =>
      have hrise : keysRise none (((s.putAll b.regs).unraise b.clamp).setInc b.inc).regs = true := setInc_rise _ (unraise_rise _ (regs_putAll_rise h))
      have hmem1 : ((s.putAll b.regs).unraise b.clamp).mem = s.mem :=
        (timeMove_reads (show Within (timeMove anyField) (s.putAll b.regs) _ from (Within.refl _ _).unraise)).2.2.trans
          (timeMove_reads (show Within (timeMove anyField) s _ from (Within.refl _ s).putAll fun _ _ => rfl)).2.2
      have hmem : (((s.putAll b.regs).unraise b.clamp).setInc b.inc).mem = s.mem :=
        (timeMove_reads ((Within.refl servoFoot _).setInc.widen ⟨fun _ => rfl, fun _ hk => nomatch hk⟩ : Within (timeMove anyField) _ _)).2.2.trans hmem1
      generalize ((s.putAll b.regs).unraise b.clamp).setInc b.inc = t at hrise hmem
      refine ⟨hrise, hmem, fun hno => absurd hnow (hno b hb), fun b' hb' _ => ?_⟩
      cases hb.symm.trans hb'
      exact ⟨rfl, rfl, rfl⟩
    · next hnow => exact ⟨h, rfl, fun _ => rfl, fun b' hb' hnow' => absurd hnow' (by cases hb.symm.trans hb'; exact hnow)⟩

/-- SRC as it is left once the servo is what it shall be. -/
theorem srcWritten_shows {x : State} (hrise : keysRise none x.regs = true) (v : Nat) :
    ∃ t, (if v % 4 = 0 then (x.put R.TIME_SRV_CFG_SRC v).put R.TIME_STATUS_HOLDOVER 0 else x.put R.TIME_SRV_CFG_SRC v) = t
      ∧ t.get R.TIME_SRV_CFG_SRC = v % 4 ∧ t.mem = x.mem ∧ (v % 4 = 0 → t.get R.TIME_STATUS_HOLDOVER = 0) ∧ t.servo = x.servo := by
  have hsrc : (x.put R.TIME_SRV_CFG_SRC v).get R.TIME_SRV_CFG_SRC = v % 4 := get_put_same hrise _ _
  refine ⟨_, rfl, ?_⟩
  split
  · exact ⟨(get_put_other (by decide) _ _).trans hsrc, rfl, fun _ => get_put_same (regs_put_rise hrise _ _) _ _, rfl⟩
  · next hne => exact ⟨hsrc, rfl, fun h0 => absurd h0 hne, rfl⟩

theorem srvSrc_shows (h : s.inService = true) (hpair : s.pairOp = false) (v : Nat) : Reaches (.srvSrcWrite v) s (fun t => t.get R.TIME_SRV_CFG_SRC = v % 4 ∧ t.mem = s.mem
    ∧ (v % 4 = 0 → t.get R.TIME_STATUS_HOLDOVER = 0)
    ∧ ((∀ b, s.servo.took = some b → b.at_ ≠ s.elapsed) → t.servo = s.servo)
    ∧ (v % 4 ≠ s.get R.TIME_SRV_CFG_SRC → ∀ b, s.servo.took = some b → b.at_ = s.elapsed → t.servo.acc = b.acc ∧ t.servo.rate = b.rate ∧ t.servo.pend = b.pend)) := by
  have hnopair : (s.variant.hasPair && s.on R.AMBER_CFG_EN) = false := hpair
  obtain ⟨hriseU, hmemU, hkeptU, hbackU⟩ := offsetUndo_shows (inService_regsRise h)
  have hfrom : ∃ x : State, srvSrcEffect v s = (if v % 4 = 0 then (x.put R.TIME_SRV_CFG_SRC v).put R.TIME_STATUS_HOLDOVER 0 else x.put R.TIME_SRV_CFG_SRC v)
      ∧ keysRise none x.regs = true ∧ x.mem = s.mem ∧ ((∀ b, s.servo.took = some b → b.at_ ≠ s.elapsed) → x.servo = s.servo)
      ∧ (v % 4 ≠ s.get R.TIME_SRV_CFG_SRC → ∀ b, s.servo.took = some b → b.at_ = s.elapsed → x.servo.acc = b.acc ∧ x.servo.rate = b.rate ∧ x.servo.pend = b.pend) := by
    by_cases hsame : v % 4 = s.get R.TIME_SRV_CFG_SRC
    · refine ⟨s, ?_, inService_regsRise h, rfl, fun _ => rfl, fun hne => absurd hsame hne⟩
      rw [srvSrcEffect, hnopair, Bool.false_and, if_neg Bool.false_ne_true, if_pos (inService_timeUp h), if_pos hsame]
    · refine ⟨s.offsetUndo, ?_, hriseU, hmemU, hkeptU, fun _ => hbackU⟩
      rw [srvSrcEffect, hnopair, Bool.false_and, if_neg Bool.false_ne_true, if_pos (inService_timeUp h), if_neg hsame]
  obtain ⟨x, heffect, hrise, hmem, hkept, hback⟩ := hfrom
  obtain ⟨t, ht, hsrc, hmemT, hhold, hservo⟩ := srcWritten_shows hrise v
  refine ⟨t, congrArg Host.Outcome.next ((commanded_timePage h rfl _).trans (heffect.trans ht)), hsrc, hmemT.trans hmem, hhold, fun hno => hservo.trans (hkept hno), ?_⟩
  rw [hservo]
  exact hback

theorem ppsIn_off (h : s.on R.TIME_PPS_CFG_IN_EN = false) : exec .ppsInEdge s = .next s ∧ exec .ppsMissTimeout s = .next s := by
  change Host.Outcome.next (ppsInEffect s) = _ ∧ Host.Outcome.next (ppsMissEffect s) = _
  simp [ppsInEffect, ppsMissEffect, h]

/-- R537: an edge less than 0.9 s after the last accepted one is ignored. -/
theorem ppsIn_early {p : Nat} (hat : s.servo.ppsAt = some p) (hearly : s.elapsed < p + 900000000 * 2 ^ 32) : exec .ppsInEdge s = .next s := by
  have hlt : s.elapsed < p + el 900000000 := hearly
  change Host.Outcome.next (ppsInEffect s) = _
  simp [ppsInEffect, hat, hlt]

theorem servoTake_ppsAt (off : Int) (s : State) : (s.servoTake off).servo.ppsAt = s.servo.ppsAt := by
  obtain ⟨x, hx, ⟨n, hservo⟩, -⟩ := offsetShown_shows off (decide (off.natAbs ≤ s.get R.TIME_STEP_THR_THR * 2 ^ 16)) s
  have hat : x.servo.ppsAt = s.servo.ppsAt := by rw [hservo]
  have htake : s.servoTake off = if x.servo.pend.isSome || !x.on R.TIME_STATUS_VALID || !decide (off.natAbs ≤ s.get R.TIME_STEP_THR_THR * 2 ^ 16)
      then { x with servo := { x.servo with pend := some off } } else x.servoCompute off := by rw [← hx]; rfl
  rw [htake]
  split
  · exact hat
  · unfold State.servoCompute
    extract_lets acc r _ x1
    rw [servo_applyRate]
    exact (congrArg (fun y : ServoSt => y.ppsAt) (servo_flagIf _ _ x1)).trans hat

/-- An offset that the servo takes leaves the PPS registers and the last edge. -/
theorem servoOffset_pps (src : Nat) (off : Int) (s : State) : (s.servoOffset src off).servo.ppsAt = s.servo.ppsAt := by
  unfold State.servoOffset
  split
  · exact servoTake_ppsAt off s
  · rfl

theorem servoTake_ppsTs (off : Int) (s : State) : (s.servoTake off).get R.TIME_PPS_TS_TS = s.get R.TIME_PPS_TS_TS := by
  obtain ⟨x, hx, -, hkept⟩ := offsetShown_shows off (decide (off.natAbs ≤ s.get R.TIME_STEP_THR_THR * 2 ^ 16)) s
  have hts : x.get R.TIME_PPS_TS_TS = s.get R.TIME_PPS_TS_TS := hkept _ (by decide)
  have htake : s.servoTake off = if x.servo.pend.isSome || !x.on R.TIME_STATUS_VALID || !decide (off.natAbs ≤ s.get R.TIME_STEP_THR_THR * 2 ^ 16)
      then { x with servo := { x.servo with pend := some off } } else x.servoCompute off := by rw [← hx]; rfl
  have hflag : ∀ (b : Bool) (y : State), (y.flagIf b R.TIME_TSTAT_CLAMP).get R.TIME_PPS_TS_TS = y.get R.TIME_PPS_TS_TS := fun b y => by
    unfold State.flagIf
    split
    · exact get_raise_other (by decide) (by decide) _
    · rfl
  rw [htake]
  split
  · exact hts
  · unfold State.servoCompute State.applyRate
    rw [get_congr (setInc_regs _ _), get_put_other (by decide), get_put_other (by decide)]
    exact (get_put_other (by decide) _ _).trans ((hflag _ _).trans hts)

theorem servoOffset_ppsTs (src : Nat) (off : Int) (s : State) : (s.servoOffset src off).get R.TIME_PPS_TS_TS = s.get R.TIME_PPS_TS_TS := by
  unfold State.servoOffset
  split
  · exact servoTake_ppsTs off s
  · rfl

theorem servoOffset_time (src : Nat) (off : Int) (s : State) : (s.servoOffset src off).time = s.time ∧ (s.servoOffset src off).mem = s.mem := by
  have hfoot : Within servoFoot s (s.servoOffset src off) := (Within.refl _ s).servoOffset
  generalize s.servoOffset src off = t at hfoot
  have htime := congrArg (fun x : State => x.time) hfoot.mask
  have hmem := congrArg (fun x : State => x.mem) hfoot.mask
  exact ⟨htime, hmem⟩

/-- R537: PPS_MISS ends with an accepted edge. -/
theorem ppsMissOver_shows (s : State) : (s.cond R.TIME_TSTAT_PPS_MISS false).servo = s.servo ∧ (s.cond R.TIME_TSTAT_PPS_MISS false).time = s.time
    ∧ (s.cond R.TIME_TSTAT_PPS_MISS false).mem = s.mem ∧ (s.cond R.TIME_TSTAT_PPS_MISS false).get R.TIME_PPS_TS_TS = s.get R.TIME_PPS_TS_TS := by
  unfold State.cond
  rw [if_neg Bool.false_ne_true]
  split
  · exact ⟨rfl, rfl, rfl, rfl⟩
  · exact ⟨rfl, rfl, rfl, get_put_other (by decide) _ _⟩

theorem ppsIn_accepted (h : s.inService = true) (hen : s.on R.TIME_PPS_CFG_IN_EN = true) (hlate : ∀ p, s.servo.ppsAt = some p → p + 900000000 * 2 ^ 32 ≤ s.elapsed) :
    Reaches .ppsInEdge s (fun t => t.servo.ppsAt = some s.elapsed ∧ t.get R.TIME_PPS_TS_TS = s.nowNs % 2 ^ 32 ∧ t.time = s.time ∧ t.mem = s.mem) := by
  let off := ppsOffset ((s.time : Int) - (s.get R.TIME_PPS_CFG_IN_DLY * 2 ^ 32 : Nat))
  have hon : (s.timeUp && s.on R.TIME_PPS_CFG_IN_EN) = true := by rw [inService_timeUp h, hen]; rfl
  have hnot : ¬ (match s.servo.ppsAt with | none => false | some p => decide (s.elapsed < p + el 900000000)) = true := by
    cases hat : s.servo.ppsAt with
    | none => exact Bool.false_ne_true
    | some p =>
      have hle : p + el 900000000 ≤ s.elapsed := hlate p hat
      simpa only [decide_eq_true_eq, Nat.not_lt] using hle
  have heffect : ppsInEffect s
      = (({ s with servo := { s.servo with ppsAt := some s.elapsed } }.put R.TIME_PPS_TS_TS (tag32 s.nowNs)).cond R.TIME_TSTAT_PPS_MISS false).servoOffset 3 off := by
    unfold ppsInEffect
    rw [if_pos hon]
    exact if_neg hnot
  obtain ⟨hservo, htime, hmem, hts⟩ := ppsMissOver_shows ({ s with servo := { s.servo with ppsAt := some s.elapsed } }.put R.TIME_PPS_TS_TS (tag32 s.nowNs))
  have hput : ({ s with servo := { s.servo with ppsAt := some s.elapsed } }.put R.TIME_PPS_TS_TS (tag32 s.nowNs)).get R.TIME_PPS_TS_TS = s.nowNs % 2 ^ 32 :=
    (get_put_same (inService_regsRise h) _ _).trans (Nat.mod_mod _ _)
  refine ⟨_, congrArg Host.Outcome.next heffect, ?_⟩
  rw [hput] at hts
  replace hservo := congrArg (fun x : ServoSt => x.ppsAt) hservo
  generalize State.cond _ _ _ = x at hservo htime hmem hts
  obtain ⟨htimeO, hmemO⟩ := servoOffset_time 3 off x
  exact ⟨(servoOffset_pps 3 off x).trans hservo, (servoOffset_ppsTs 3 off x).trans hts, htimeO.trans htime, hmemO.trans hmem⟩

/-- R537: no edge for 1.1 s sets PPS_MISS. -/
theorem ppsMiss_shows (h : s.inService = true) (hen : s.on R.TIME_PPS_CFG_IN_EN = true) (hconds : s.conds = []) :
    Reaches .ppsMissTimeout s (fun t => t.get R.TIME_TSTAT_PPS_MISS = 1 ∧ t.servo = s.servo ∧ t.mem = s.mem
      ∧ t.elapsed = max s.elapsed (max (s.servo.ppsAt.getD 0) s.servo.ppsFrom + 1100000000 * 2 ^ 32)) := by
  have heffect : ppsMissEffect s = (s.pass (s.ppsAwaited + el 1100000000)).cond R.TIME_TSTAT_PPS_MISS true := by simp [ppsMissEffect, inService_timeUp h, hen]
  have hcond : ∀ x : State, x.conds = [] → x.cond R.TIME_TSTAT_PPS_MISS true
      = State.raise R.TIME_TSTAT_PPS_MISS { x with conds := addKey R.TIME_TSTAT_PPS_MISS.key x.conds } := fun x hx => by
    simp [State.cond, hx]
  obtain ⟨regs, msix0, msix1, hraise⟩ := raise_shape R.TIME_TSTAT_PPS_MISS
    { s.pass (s.ppsAwaited + el 1100000000) with conds := addKey R.TIME_TSTAT_PPS_MISS.key (s.pass (s.ppsAwaited + el 1100000000)).conds }
  refine ⟨_, congrArg Host.Outcome.next (heffect.trans (hcond _ hconds)), get_raise_same (by decide) (by decide) rfl _, ?_⟩
  rw [hraise]
  exact ⟨rfl, rfl, rfl⟩

/-- R538: the next whole second in ns, no earlier than now. -/
theorem nextSecond_bounds {n m : Nat} (hm : (n + 999999999) / 10 ^ 9 * 10 ^ 9 = m) : n ≤ m ∧ m < n + 10 ^ 9 ∧ m % 10 ^ 9 = 0 := by omega

/-- The ns count after time has come to a count `m` that lies less than a second ahead. -/
theorem reach_nowNs {m : Nat} (hm : s.nowNs ≤ m) (hlt : m < 2 ^ 64) : (s.reach (m * 2 ^ 32)).nowNs = m := by
  obtain ⟨htime, -⟩ := reach_shows (m * 2 ^ 32) s
  rw [State.nowNs, htime]
  unfold State.nowNs at hm
  generalize s.time = t at hm
  norm_num at hm hlt ⊢
  omega

theorem ppsRiseEffect_eq (h : s.inService = true) (hen : s.on R.TIME_PPS_CFG_OUT_EN = true) (hvalid : s.on R.TIME_STATUS_VALID = true) {m : Nat}
    (hm : (s.nowNs + 999999999) / 10 ^ 9 * 10 ^ 9 = m) : ∃ t, ppsRiseEffect s = { t with servo := { t.servo with ppsOut := true, ppsRise := t.elapsed } }
      ∧ t = s.reach (m * 2 ^ 32) := by
  have hon : (s.timeUp && s.on R.TIME_PPS_CFG_OUT_EN && s.on R.TIME_STATUS_VALID) = true := by rw [inService_timeUp h, hen, hvalid]; rfl
  refine ⟨_, ?_, rfl⟩
  unfold ppsRiseEffect
  rw [if_pos hon, hm]

theorem ppsRise_to (h : s.inService = true) (hen : s.on R.TIME_PPS_CFG_OUT_EN = true) (hvalid : s.on R.TIME_STATUS_VALID = true) {m : Nat}
    (hm : (s.nowNs + 999999999) / 10 ^ 9 * 10 ^ 9 = m) :
    Reaches .ppsOutRise s (fun t => t.servo.ppsOut = true ∧ t.servo.ppsRise = t.elapsed ∧ t.time = (s.time + (m * 2 ^ 32 - s.time)) % 2 ^ 96
      ∧ (s.nowNs + 10 ^ 9 < 2 ^ 64 → s.nowNs < t.nowNs + 1 ∧ t.nowNs < s.nowNs + 10 ^ 9 ∧ t.nowNs % 10 ^ 9 = 0) ∧ t.regs = s.regs ∧ t.mem = s.mem) := by
  obtain ⟨t, heffect, ht⟩ := ppsRiseEffect_eq h hen hvalid hm
  obtain ⟨hge, hlt, hmod⟩ := nextSecond_bounds hm
  obtain ⟨htime, hregs, hmem⟩ := reach_shows (m * 2 ^ 32) s
  rw [← ht] at htime hregs hmem
  refine ⟨_, congrArg Host.Outcome.next heffect, rfl, rfl, htime, fun hsmall => ?_, hregs, hmem⟩
  have hnow : t.nowNs = m := ht ▸ reach_nowNs hge (hlt.trans hsmall)
  change s.nowNs < t.nowNs + 1 ∧ t.nowNs < s.nowNs + 10 ^ 9 ∧ t.nowNs % 10 ^ 9 = 0
  rw [hnow]
  exact ⟨Nat.lt_succ_of_le hge, hlt, hmod⟩

theorem ppsFall_low (h : s.servo.ppsOut = false) : exec .ppsOutFall s = .next s := by
  change Host.Outcome.next (ppsFallEffect s) = _
  simp [ppsFallEffect, h]

theorem ppsFall_shows (h : s.inService = true) (hout : s.servo.ppsOut = true) : Reaches .ppsOutFall s (fun t => t.servo = { s.servo with ppsOut := false } ∧ t.regs = s.regs
    ∧ t.mem = s.mem ∧ t.elapsed = max s.elapsed (s.servo.ppsRise + s.get R.TIME_PPS_CFG_OUT_W * 10 ^ 6 * 2 ^ 32)) := by
  have hon : (s.timeUp && s.servo.ppsOut) = true := by rw [inService_timeUp h, hout]; rfl
  exact ⟨_, congrArg Host.Outcome.next (if_pos hon), rfl, rfl, rfl, rfl⟩

end

/-- Settles O45: each command of the time glade by its own rule; what a SET, a servo step or a firing moves besides is a foot that keeps memory and, but for SET, time. -/
theorem deviceTime : Obligations.DeviceTime := by
  unfold Obligations.DeviceTime
  intro s h
  refine ⟨timeSet_shows h, fun v hfr hsrc => incNs_loads h hfr hsrc v, fun v hsrc => incNs_ignored h hsrc v, fun c v hc => ?_,
    fun _ off hignored => servoOffset_ignored hignored off, fun _ off hne hsrc hvalid hpend => servoOffset_judged h hne hsrc hvalid hpend off,
    holdover_shows h, holdover_once, fun v hpair => srvSrc_shows h hpair v, ppsIn_off, ppsIn_accepted h, fun _ hat hearly => ppsIn_early hat hearly,
    ppsMiss_shows h, fun hen hvalid => ppsRise_to h hen hvalid rfl, ppsFall_low, ppsFall_shows h⟩
  exact ⟨tcmpTgt_off h hc v, fun _ hb hnow hch hflag hbits hen hahead => tcmpTgt_takesBack h hc hb hnow hch hflag hbits hen hahead,
    fun hen hfired hahead => tcmpTgt_arms h hc hen hfired hahead, timeCompareFire_off, timeCompareFire_shows h hc⟩

end Sys2Proof.Machine
end

section
-- One proof after the other: side by side, their many threads would take more memory than the check has.
set_option Elab.async false
namespace Sys2Proof.Machine

/-! ## The outputs of the safety island (R696, R697) -/

/-- An entry to BLOCKED moves the arm, the encoder, the ranking and the rings, and of the registers ARM.LVL. -/
def blockFoot : Foot :=
  ⟨fun s => { s.bare with arm := {}, enc := {}, rank := {}, rings := [] }, fun k => [R.ARM_LVL_N_START.key, R.ARM_LVL_N_END.key].contains k, fun _ => rfl⟩

section
variable {s₀ s : State}

theorem Within.armImmediate {m : ArmMode} (h : Within blockFoot s₀ s) : Within blockFoot s₀ (s.armImmediate m) := by
  unfold State.armImmediate
  extract_lets _ _ s1
  have h1 : Within blockFoot s₀ s1.lvlShow := (h.move (t := s1)).elseIf fun h => h.putAll (by decide)
  obtain ⟨enc, recs, hslots⟩ := blockSlots_shape s1.lvlShow
  obtain ⟨rings, hask⟩ := askBlockFrames_shape s1.lvlShow.blockSlots
  generalize s1.lvlShow = s2 at h1 hslots hask
  rw [hask, hslots]
  exact h1.move

theorem Within.armBlock (h : Within blockFoot s₀ s) : Within blockFoot s₀ s.armBlock := by
  unfold State.armBlock
  split
  · exact h.armImmediate
  · exact h.armImmediate
  · exact h
  · exact h
  · exact h

theorem Within.goBlock (h : Within blockFoot s₀ s) : Within blockFoot s₀ s.goBlock := by
  refine h.thenIf fun h => ?_
  split
  · exact (h.move (t := { s with arm := { s.arm with pend := none, pendLate := false } })).armBlock
  · exact (h.move (t := { s with arm := { s.arm with pend := none, pendLate := false } })).armBlock
  · exact h
  · exact h
  · exact h

end

section
variable {s : State}

/-- GO_BLOCK leaves the island as it is. -/
theorem goBlock_safe (s : State) : s.goBlock.safe = s.safe ∧ s.goBlock.mem = s.mem ∧ ∀ G : Field, blockFoot.keys G.key = false → s.goBlock.get G = s.get G := by
  have hfoot : Within blockFoot s s.goBlock := (Within.refl _ s).goBlock
  generalize s.goBlock = t at hfoot
  have hsafe := congrArg (fun x : State => x.safe) hfoot.mask
  have hmem := congrArg (fun x : State => x.mem) hfoot.mask
  exact ⟨hsafe, hmem, hfoot.keys⟩

/-- `OutsMoved s t`: of the island, its outputs alone have moved, and of its page the stamp of a switch-off. -/
structure OutsMoved (s t : State) : Prop where
  outs : ∃ outs, t.safe = { s.safe with outs }
  rise : keysRise none t.safe.outs = true
  mem : t.mem = s.mem
  keys : ∀ G : Field, blockFoot.keys G.key = false → G.key ≠ R.SAFE_OFF_TS_TS.key → t.get G = s.get G

theorem OutsMoved.refl (h : keysRise none s.safe.outs = true) : OutsMoved s s := ⟨⟨_, rfl⟩, h, rfl, fun _ _ _ => rfl⟩

theorem OutsMoved.trans {t u : State} (h : OutsMoved s t) (k : OutsMoved t u) : OutsMoved s u := by
  obtain ⟨⟨o, hsafe⟩, -, hmem, hkeys⟩ := h
  obtain ⟨⟨o', hsafe'⟩, hrise', hmem', hkeys'⟩ := k
  exact ⟨⟨o', by rw [hsafe', hsafe]⟩, hrise', hmem'.trans hmem, fun G hG hoff => (hkeys' G hG hoff).trans (hkeys G hG hoff)⟩

theorem OutsMoved.setOut {t : State} (h : OutsMoved s t) (k : Nat) (x : SafeOut) : OutsMoved s (t.setOut k x) :=
  h.trans ⟨⟨_, rfl⟩, keysRise_tset h.rise _ _, rfl, fun _ _ _ => rfl⟩

theorem sOut_setOut_same (h : keysRise none s.safe.outs = true) (k : Nat) (x : SafeOut) : (s.setOut k x).sOut k = x := tget_tset_same h k x

theorem sOut_setOut_other {j k : Nat} (h : j ≠ k) (x : SafeOut) : (s.setOut k x).sOut j = s.sOut j := tget_tset_other h x

theorem outOff_low {k : Nat} (h : (s.sOut k).on = false) : s.outOff k = s := by simp [State.outOff, h]

/-- R697: an output switched off, and no other output moved. -/
theorem outOff_shows (h : keysRise none s.safe.outs = true) (k : Nat) :
    OutsMoved s (s.outOff k) ∧ ((s.outOff k).sOut k).on = false ∧ ∀ j, j ≠ k → (s.outOff k).sOut j = s.sOut j := by
  cases hon : (s.sOut k).on with
  | false =>
    rw [outOff_low hon]
    exact ⟨.refl h, hon, fun _ _ => rfl⟩
  | true =>
    have hset : OutsMoved s (s.setOut k { s.sOut k with on := false, edmOn := false }) := (OutsMoved.refl h).setOut _ _
    have hoff : (s.setOut k { s.sOut k with on := false, edmOn := false }).sOut k = { s.sOut k with on := false, edmOn := false } := sOut_setOut_same h _ _
    have hother : ∀ j, j ≠ k → (s.setOut k { s.sOut k with on := false, edmOn := false }).sOut j = s.sOut j := fun j hj => sOut_setOut_other hj _
    have heffect : ∃ x, (x = (s.setOut k { s.sOut k with on := false, edmOn := false }).put R.SAFE_OFF_TS_TS s.safeStamp) ∧ (s.outOff k = x ∨ s.outOff k = x.goBlock) := by
      refine ⟨_, rfl, ?_⟩
      unfold State.outOff
      rw [if_pos hon]
      dsimp only
      split
      · exact .inl rfl
      · split
        · exact .inr rfl
        · exact .inl rfl
    generalize s.setOut k { s.sOut k with on := false, edmOn := false } = y at hset hoff hother heffect
    obtain ⟨x, hx, hout⟩ := heffect
    have hput : OutsMoved y x := hx ▸ ⟨⟨_, rfl⟩, hset.rise, rfl, fun G _ hG => get_put_other hG _ _⟩
    have hsafe : x.safe = y.safe := hx ▸ rfl
    have hmoved : OutsMoved y (s.outOff k) ∧ (s.outOff k).safe = y.safe := by
      obtain hout | hout := hout
      · exact hout ▸ ⟨hput, hsafe⟩
      · obtain ⟨hsafeB, hmemB, hkeysB⟩ := goBlock_safe x
        rw [hout]
        exact ⟨hput.trans ⟨⟨_, hsafeB⟩, hsafeB ▸ hput.rise, hmemB, fun G hG _ => hkeysB G hG⟩, hsafeB.trans hsafe⟩
    obtain ⟨hmoved, hsafeOff⟩ := hmoved
    have hread : ∀ j, (s.outOff k).sOut j = y.sOut j := fun j => congrArg (fun z : SafeSt => tget ({} : SafeOut) z.outs j) hsafeOff
    exact ⟨hset.trans hmoved, by rw [hread, hoff], fun j hj => (hread j).trans (hother j hj)⟩

/-- Every output of the island is off. -/
def State.allOff (s : State) : Prop := ∀ k, k < 4 → (s.sOut k).on = false

/-- R687: a loop that switches outputs off. -/
theorem forAll_outOff (l : List Nat) (h : keysRise none s.safe.outs = true) :
    OutsMoved s (forAll l State.outOff s) ∧ (∀ k, (s.sOut k).on = false → ((forAll l State.outOff s).sOut k).on = false)
      ∧ ∀ k ∈ l, ((forAll l State.outOff s).sOut k).on = false := by
  induction l generalizing s with
  | nil => exact ⟨.refl h, fun _ hk => hk, fun _ hk => nomatch hk⟩
  | cons n l ih =>
    obtain ⟨hmoved, hoff, hother⟩ := outOff_shows h n
    obtain ⟨hrest, hstays, hall⟩ := ih hmoved.rise
    have hkeep : ∀ k, (s.sOut k).on = false → ((s.outOff n).sOut k).on = false := fun k hk => by
      by_cases hkn : k = n
      · exact hkn ▸ hoff
      · rw [hother k hkn, hk]
    refine ⟨hmoved.trans hrest, fun k hk => hstays k (hkeep k hk), fun k hk => ?_⟩
    obtain rfl | hk := List.mem_cons.mp hk
    · exact hstays k hoff
    · exact hall k hk

theorem outsOff_shows (h : keysRise none s.safe.outs = true) : OutsMoved s s.outsOff ∧ s.outsOff.allOff := by
  obtain ⟨hmoved, -, hall⟩ := forAll_outOff (s := s) [0, 1, 2, 3] h
  exact ⟨hmoved, fun k hk => hall k (by simp; omega)⟩

/-! ## Lock-outs (R687, R709, R710) -/

/-- What raising a bit keeps of the island. -/
theorem raise_safe (F : Field) (s : State) : (s.raise F).safe = s.safe ∧ (s.raise F).mem = s.mem := by
  obtain ⟨regs, msix0, msix1, hraise⟩ := raise_shape F s
  exact hraise ▸ ⟨rfl, rfl⟩

/-- R687: RUN goes to LOCKOUT, with every output off. -/
theorem lockOut_shows (h : keysRise none s.safe.outs = true) (code idx : Nat) :
    (∃ locks outs, (s.lockOut code idx).safe = { s.safe with
        mode := .lockout, causes := [(code, idx)], cnt5 := if 1 ≤ code ∧ code ≤ 5 then s.safe.cnt5 + 1 else s.safe.cnt5
        perm := s.safe.perm || decide (3 ≤ if 1 ≤ code ∧ code ≤ 5 then s.safe.cnt5 + 1 else s.safe.cnt5), locks, outs })
      ∧ keysRise none (s.lockOut code idx).safe.outs = true ∧ (s.lockOut code idx).allOff ∧ (s.lockOut code idx).get R.SAFE_SSTAT_LOCKOUT = 1
      ∧ (s.lockOut code idx).mem = s.mem
      ∧ ∀ G : Field, blockFoot.keys G.key = false → G.key ∉ [R.SAFE_OFF_TS_TS.key, R.SAFE_SSTAT_LOCKOUT.key, 32 * (pageOf R.SAFE_SSTAT_LOCKOUT.addr + 0x14)] →
          (s.lockOut code idx).get G = s.get G := by
  unfold State.lockOut
  extract_lets n perm _ s1
  obtain ⟨⟨⟨outs, hsafe⟩, hrise, hmem, hkeys⟩, hoff⟩ := outsOff_shows (s := s1) h
  obtain ⟨hsafeR, hmemR⟩ := raise_safe R.SAFE_SSTAT_LOCKOUT s1.outsOff
  have hflag : (s1.outsOff.raise R.SAFE_SSTAT_LOCKOUT).get R.SAFE_SSTAT_LOCKOUT = 1 := get_raise_same (by decide) (by decide) rfl _
  have hkept : ∀ G : Field, G.key ≠ R.SAFE_SSTAT_LOCKOUT.key → G.key ≠ 32 * (pageOf R.SAFE_SSTAT_LOCKOUT.addr + 0x14) →
      (s1.outsOff.raise R.SAFE_SSTAT_LOCKOUT).get G = s1.outsOff.get G := fun G hG hirq => get_raise_other hG hirq _
  have hs1 : ∀ G : Field, s1.get G = s.get G := fun _ => rfl
  have hmem1 : s1.mem = s.mem := rfl
  generalize s1.outsOff = s2 at hsafe hrise hmem hkeys hoff hsafeR hmemR hflag hkept
  generalize s2.raise R.SAFE_SSTAT_LOCKOUT = s3 at hsafeR hmemR hflag hkept
  refine ⟨⟨_, outs, hsafeR.trans hsafe⟩, hsafeR ▸ hrise, fun k hk => ?_, hflag, hmemR.trans (hmem.trans hmem1), fun G hG hne => ?_⟩
  · exact (congrArg (fun z : SafeSt => (tget ({} : SafeOut) z.outs k).on) hsafeR).trans (hoff k hk)
  · simp only [List.mem_cons, List.not_mem_nil, or_false, not_or] at hne
    obtain ⟨hts, hlock, hirq⟩ := hne
    exact (hkept G hlock hirq).trans ((hkeys G hG hts).trans (hs1 G))

/-- `LockKept s t`: a lock-out goes on, and further causes may have joined it. -/
structure LockKept (s t : State) : Prop where
  mode : t.safe.mode = .lockout
  causes : ∃ l, t.safe.causes = s.safe.causes ++ l
  cnt5 : t.safe.cnt5 = s.safe.cnt5
  perm : t.safe.perm = s.safe.perm
  outs : t.safe.outs = s.safe.outs
  mem : t.mem = s.mem
  flag : t.get R.SAFE_SSTAT_LOCKOUT = s.get R.SAFE_SSTAT_LOCKOUT

theorem LockKept.refl (h : s.safe.mode = .lockout) : LockKept s s := ⟨h, ⟨[], (List.append_nil _).symm⟩, rfl, rfl, rfl, rfl, rfl⟩

theorem LockKept.trans {t u : State} (h : LockKept s t) (k : LockKept t u) : LockKept s u := by
  obtain ⟨l, hl⟩ := h.causes
  obtain ⟨l', hl'⟩ := k.causes
  exact ⟨k.mode, ⟨l ++ l', by rw [hl', hl, List.append_assoc]⟩, k.cnt5.trans h.cnt5, k.perm.trans h.perm, k.outs.trans h.outs, k.mem.trans h.mem, k.flag.trans h.flag⟩

theorem LockKept.allOff {t : State} (h : LockKept s t) (hoff : s.allOff) : t.allOff := fun k hk =>
  (congrArg (fun o : Tab SafeOut => (tget ({} : SafeOut) o k).on) h.outs).trans (hoff k hk)

/-- The bits of the causes are not LOCKOUT. -/
theorem causeBit_apart {code : Nat} {F : Field} (h : causeBit code = some F) :
    R.SAFE_SSTAT_LOCKOUT.key ≠ F.key ∧ R.SAFE_SSTAT_LOCKOUT.key ≠ 32 * (pageOf F.addr + 0x14) := by
  unfold causeBit at h
  split at h
  · cases h; decide
  · split at h
    · cases h; decide
    · split at h
      · cases h; decide
      · split at h
        · cases h; decide
        · cases h

/-- R710: in LOCKOUT a cause joins the standing ones. -/
theorem safeCause_locked (h : s.safe.mode = .lockout) (code idx : Nat) : LockKept s (s.safeCause code idx) := by
  unfold State.safeCause
  extract_lets flag mark
  simp only [h]
  split
  · exact ⟨h, ⟨[], (List.append_nil _).symm⟩, rfl, rfl, rfl, rfl, rfl⟩
  · have hflag : ∀ t : State, (flag t).safe = t.safe ∧ (flag t).mem = t.mem ∧ (flag t).get R.SAFE_SSTAT_LOCKOUT = t.get R.SAFE_SSTAT_LOCKOUT := fun t => by
      unfold flag
      split
      · next F hF =>
        obtain ⟨hsafe, hmem⟩ := raise_safe F t
        obtain ⟨hne, hirq⟩ := causeBit_apart hF
        exact ⟨hsafe, hmem, get_raise_other hne hirq _⟩
      · exact ⟨rfl, rfl, rfl⟩
    obtain ⟨hsafe, hmem, hget⟩ := hflag { s with safe := { s.safe with causes := s.safe.causes ++ [(code, idx)] } }
    generalize flag { s with safe := { s.safe with causes := s.safe.causes ++ [(code, idx)] } } = t at hsafe hmem hget
    unfold mark
    replace hsafe : t.safe = { s.safe with causes := s.safe.causes ++ [(code, idx)] } := hsafe
    have hmode := congrArg (fun z : SafeSt => z.mode) hsafe
    have hcauses := congrArg (fun z : SafeSt => z.causes) hsafe
    have hcnt5 := congrArg (fun z : SafeSt => z.cnt5) hsafe
    have hperm := congrArg (fun z : SafeSt => z.perm) hsafe
    have houts := congrArg (fun z : SafeSt => z.outs) hsafe
    exact ⟨hmode.trans h, ⟨[(code, idx)], hcauses⟩, hcnt5, hperm, houts, hmem, hget⟩

theorem causeIf_locked (h : s.safe.mode = .lockout) (b : Bool) (code idx : Nat) : LockKept s (s.causeIf b code idx) := by
  unfold State.causeIf
  split
  · exact safeCause_locked h code idx
  · exact .refl h

/-- In RUN a cause locks the island out. -/
theorem safeCause_run (h : s.safe.mode = .run) (hrise : keysRise none s.safe.outs = true) (code idx : Nat) :
    LockedOut code idx (s.safeCause code idx) ∧ (s.safeCause code idx).mem = s.mem ∧ keysRise none (s.safeCause code idx).safe.outs = true
      ∧ (s.safeCause code idx).safe.cnt5 = (if 1 ≤ code ∧ code ≤ 5 then s.safe.cnt5 + 1 else s.safe.cnt5)
      ∧ (s.safeCause code idx).safe.perm = (s.safe.perm || decide (3 ≤ if 1 ≤ code ∧ code ≤ 5 then s.safe.cnt5 + 1 else s.safe.cnt5))
      ∧ ∀ F, causeBit code = some F → F.key ≠ 32 * (pageOf F.addr + 0x14) → F.w ≠ 0 → F.rst = 0 → blockFoot.keys F.key = false →
          F.key ∉ [R.SAFE_OFF_TS_TS.key, R.SAFE_SSTAT_LOCKOUT.key, 32 * (pageOf R.SAFE_SSTAT_LOCKOUT.addr + 0x14)] → (s.safeCause code idx).get F = 1 := by
  unfold State.safeCause
  extract_lets flag mark
  simp only [h]
  have hflag : (flag s).safe = s.safe ∧ (flag s).mem = s.mem
      ∧ ∀ F, causeBit code = some F → F.key ≠ 32 * (pageOf F.addr + 0x14) → F.w ≠ 0 → F.rst = 0 → (flag s).get F = 1 := by
    unfold flag
    split
    · next F hF =>
      obtain ⟨hsafe, hmem⟩ := raise_safe F s
      exact ⟨hsafe, hmem, fun G hG hirq hw hrst => by cases hF.symm.trans hG; exact get_raise_same hirq hw hrst _⟩
    · next hF => exact ⟨rfl, rfl, fun G hG => by rw [hF] at hG; cases hG⟩
  obtain ⟨hsafeF, hmemF, hgetF⟩ := hflag
  generalize flag s = x at hsafeF hmemF hgetF
  obtain ⟨⟨locks, outs, hsafe⟩, hriseL, hoff, hlock, hmem, hkeys⟩ := lockOut_shows (s := x) (hsafeF ▸ hrise) code idx
  rw [hsafeF] at hsafe
  generalize x.lockOut code idx = y at hsafe hriseL hoff hlock hmem hkeys
  unfold mark
  exact ⟨⟨congrArg (fun z : SafeSt => z.mode) hsafe, congrArg (fun z : SafeSt => z.causes) hsafe, hoff, hlock⟩, hmem.trans hmemF, hriseL,
    congrArg (fun z : SafeSt => z.cnt5) hsafe, congrArg (fun z : SafeSt => z.perm) hsafe,
    fun F hF hirq hw hrst hpage hne => (hkeys F hpage hne).trans (hgetF F hF hirq hw hrst)⟩

end

end Sys2Proof.Machine
end

section
-- One proof after the other: side by side, their many threads would take more memory than the check has.
set_option Elab.async false
namespace Sys2Proof.Machine

/-! ## A press of SAFE_RST (R693, R694) -/

section
variable {s : State}

theorem wait_setConn_same (h : keysRise none s.safe.conns = true) (c : Nat) (x : SafeConn) : ((s.setConn c x).sConn c).wait = x.wait :=
  congrArg (fun y : SafeConn => y.wait) (tget_tset_same h c x)

theorem wait_setConn_other {c d : Nat} (h : c ≠ d) (x : SafeConn) : ((s.setConn d x).sConn c).wait = (s.sConn c).wait :=
  congrArg (fun y : SafeConn => y.wait) (tget_tset_other h x)

theorem restartInputs_shows (h : keysRise none s.safe.ins = true) :
    (∃ ins, forAll (List.range 12) (fun i t => t.setIn i (t.sIn i).restart) s = { s with safe := { s.safe with ins } })
      ∧ ∀ i, i < 12 → (forAll (List.range 12) (fun i t => t.setIn i (t.sIn i).restart) s).sIn i = (s.sIn i).restart := by
  refine ⟨forAll_induction (P := fun x => ∃ ins, x = { s with safe := { s.safe with ins } }) ⟨_, rfl⟩ ?_, fun i hi => ?_⟩
  · rintro n - x ⟨ins, rfl⟩
    exact ⟨_, rfl⟩
  · exact forAll_at (Q := fun x => keysRise none x.safe.ins = true) (g := fun x => x.sIn i) (h := SafeIn.restart) List.nodup_range (List.mem_range.mpr hi) h
      (fun _ _ hx => keysRise_tset hx _ _) (fun _ hx => tget_tset_same hx _ _) (fun _ _ hne => tget_tset_other (Ne.symm hne) _)

theorem waitsEnd_shows (h : keysRise none s.safe.conns = true) {u : State}
    (hu : u = forAll (s.safe.conns.map (·.1)) (fun c t => t.setConn c { t.sConn c with wait := false }) s) :
    (∃ conns, u = { s with safe := { s.safe with conns } }) ∧ ∀ c, (u.sConn c).wait = false ∨ lookupKey s.safe.conns c = none := by
  subst hu
  refine ⟨forAll_induction (P := fun x => ∃ conns, x = { s with safe := { s.safe with conns } }) ⟨_, rfl⟩ ?_, fun c => ?_⟩
  · rintro n - x ⟨conns, rfl⟩
    exact ⟨_, rfl⟩
  · cases hc : lookupKey s.safe.conns c with
    | none => exact .inr rfl
    | some x =>
      refine .inl (forAll_at (Q := fun x => keysRise none x.safe.conns = true) (g := fun x => (x.sConn c).wait) (h := fun _ => false) (keys_nodup h)
        (mem_keys_of_lookupKey hc) h (fun _ _ hx => keysRise_tset hx _ _) (fun u hx => ?_) (fun m u hne => ?_))
      · exact wait_setConn_same hx c _
      · exact wait_setConn_other (Ne.symm hne) _

/-- R694: each input restarts, each connection stops waiting, and the outputs stay. -/
theorem restartAll_shows (h : keysRise none s.safe.ins = true) (hconns : keysRise none s.safe.conns = true) :
    (∃ ins conns, s.restartAll = { s with safe := { s.safe with ins, conns } }) ∧ (∀ i, i < 12 → s.restartAll.sIn i = (s.sIn i).restart)
      ∧ ∀ c, (s.restartAll.sConn c).wait = false ∨ lookupKey s.safe.conns c = none := by
  obtain ⟨⟨ins, hs1⟩, hat⟩ := restartInputs_shows h
  unfold State.restartAll
  generalize forAll (List.range 12) (fun i t => t.setIn i (t.sIn i).restart) s = s1 at hs1 hat
  have hconns1 : s1.safe.conns = s.safe.conns := by rw [hs1]
  obtain ⟨⟨conns, hu⟩, hwait⟩ := waitsEnd_shows (s := s1) (hconns1 ▸ hconns) rfl
  dsimp only
  generalize forAll (s1.safe.conns.map (·.1)) (fun c t => t.setConn c { t.sConn c with wait := false }) s1 = u at hu hwait
  rw [hconns1] at hwait
  refine ⟨⟨ins, conns, ?_⟩, fun i hi => ?_, hwait⟩
  · rw [hu, hs1]
  · rw [hu]
    exact hat i hi

/-- A valid reset that is accepted: RUN goes on with every input restarted. -/
theorem acceptedReset_shows (h : keysRise none s.safe.ins = true) (hconns : keysRise none s.safe.conns = true) {u : State} (hu : u = s.restartAll.raise R.SAFE_SSTAT_RST_ACC) :
    u.safe.mode = s.safe.mode ∧ u.safe.causes = s.safe.causes ∧ u.get R.SAFE_SSTAT_RST_ACC = 1 ∧ u.safe.outs = s.safe.outs ∧ u.mem = s.mem
      ∧ (∀ i, i < 12 → u.sIn i = (s.sIn i).restart) ∧ ∀ c, (u.sConn c).wait = false ∨ lookupKey s.safe.conns c = none := by
  obtain ⟨⟨ins, conns, hshape⟩, hins, hwait⟩ := restartAll_shows h hconns
  obtain ⟨hsafe, hmem⟩ := raise_safe R.SAFE_SSTAT_RST_ACC s.restartAll
  have hflag : u.get R.SAFE_SSTAT_RST_ACC = 1 := hu ▸ get_raise_same (by decide) (by decide) rfl _
  rw [← hu] at hsafe hmem
  clear hu
  have hsIn : ∀ i, u.sIn i = s.restartAll.sIn i := fun i => congrArg (fun z : SafeSt => tget ({} : SafeIn) z.ins i) hsafe
  have hsConn : ∀ c, u.sConn c = s.restartAll.sConn c := fun c => congrArg (fun z : SafeSt => tget ({} : SafeConn) z.conns c) hsafe
  refine ⟨?_, ?_, hflag, ?_, ?_, fun i hi => (hsIn i).trans (hins i hi), fun c => (hsConn c).symm ▸ hwait c⟩
  · rw [hsafe, hshape]
  · rw [hsafe, hshape]
  · rw [hsafe, hshape]
  · rw [hmem, hshape]

/-- R693: what the release of SAFE_RST shows. -/
theorem safeRst_eq (h : s.safeRuns = true) (n : Nat) (ok : Bool) : safeRstEffect n ok s =
    (let s1 : State := { s with safe := { s.safe with rstLvl := false, rstArm := true } }
      if s.safe.rstArm = false then s1 else if 5000000 < n then s1.raise R.SAFE_SSTAT_RST_LONG else if n < 50000 then s1 else s1.validReset ok) := by
  unfold safeRstEffect
  rw [if_pos h]
  cases s.safe.rstArm <;> rfl

/-- SAFE_RST has been low before, and its level falls. -/
theorem rstFallen_eq (harm : s.safe.rstArm = true) : ({ s with safe := { s.safe with rstLvl := false, rstArm := true } } : State) = { s with safe := { s.safe with rstLvl := false } } := by
  rw [← harm]

theorem safeRst_ignored (h : s.safeRuns = true) {n : Nat} (hignored : s.safe.rstArm = false ∨ n < 50000) (ok : Bool) :
    Reaches (.safeRstRelease n ok) s (fun t => t = { s with safe := { s.safe with rstLvl := false, rstArm := true } }) := by
  refine ⟨_, congrArg Host.Outcome.next (safeRst_eq h n ok), ?_⟩
  dsimp only
  split
  · rfl
  · next harm =>
    have hn : n < 50000 := hignored.resolve_left harm
    rw [if_neg (by omega), if_pos hn]

theorem safeRst_long (h : s.safeRuns = true) {n : Nat} (harm : s.safe.rstArm = true) (hn : 5000000 < n) (ok : Bool) :
    Reaches (.safeRstRelease n ok) s (fun t => t.safe = { s.safe with rstLvl := false } ∧ t.get R.SAFE_SSTAT_RST_LONG = 1 ∧ t.mem = s.mem) := by
  have heffect : safeRstEffect n ok s = State.raise R.SAFE_SSTAT_RST_LONG { s with safe := { s.safe with rstLvl := false } } := by
    rw [safeRst_eq h, ← rstFallen_eq harm]
    simp only [harm, Bool.true_eq_false, if_false, hn, if_true]
  obtain ⟨hsafe, hmem⟩ := raise_safe R.SAFE_SSTAT_RST_LONG { s with safe := { s.safe with rstLvl := false } }
  exact ⟨_, congrArg Host.Outcome.next heffect, hsafe, get_raise_same (by decide) (by decide) rfl _, hmem⟩

theorem safeRst_valid (h : s.safeRuns = true) {n : Nat} (harm : s.safe.rstArm = true) (hge : 50000 ≤ n) (hle : n ≤ 5000000) (ok : Bool) :
    exec (.safeRstRelease n ok) s = .next (State.validReset ok { s with safe := { s.safe with rstLvl := false } }) := by
  refine congrArg Host.Outcome.next ?_
  rw [safeRst_eq h, ← rstFallen_eq harm]
  simp only [harm, Bool.true_eq_false, if_false, Nat.not_lt.mpr hge, Nat.not_lt.mpr hle]

/-- R710: a lock-out ends at a valid reset, if it may. -/
theorem validReset_lockout (hmode : s.safe.mode = .lockout) (ok : Bool) : s.validReset ok =
    if (!s.safe.perm && !s.safe.fresh && s.safe.causes.all (s.causeGone ok)) = true
      then (({ s with safe := { s.safe with mode := .run, causes := [] } } : State).restartAll).raise R.SAFE_SSTAT_RST_ACC else s := by
  unfold State.validReset
  rw [hmode]

theorem validReset_run (hmode : s.safe.mode = .run) (ok : Bool) : s.validReset ok = s.restartAll.raise R.SAFE_SSTAT_RST_ACC := by
  unfold State.validReset
  rw [hmode]

/-- R687, R694, R710: a press long enough and not too long. -/
theorem safeRst_shows (hins : keysRise none s.safe.ins = true) (hconns : keysRise none s.safe.conns = true) (h : s.safeRuns = true) {n : Nat} (harm : s.safe.rstArm = true)
    (hge : 50000 ≤ n) (hle : n ≤ 5000000) (ok : Bool) :
    (s.safe.mode = .lockout →
        (s.safe.perm = false → s.safe.fresh = false → (∀ e ∈ s.safe.causes, s.causeGone ok e = true) →
          Reaches (.safeRstRelease n ok) s (fun t => t.safe.mode = .run ∧ t.safe.causes = [] ∧ t.get R.SAFE_SSTAT_RST_ACC = 1 ∧ t.safe.outs = s.safe.outs ∧ t.mem = s.mem
            ∧ (∀ i, i < 12 → t.sIn i = (s.sIn i).restart) ∧ (∀ c, (t.sConn c).wait = false ∨ lookupKey s.safe.conns c = none)))
        ∧ ((s.safe.perm = true ∨ s.safe.fresh = true ∨ ∃ e ∈ s.safe.causes, s.causeGone ok e = false) →
          Reaches (.safeRstRelease n ok) s (fun t => t = { s with safe := { s.safe with rstLvl := false } })))
      ∧ (s.safe.mode = .run → Reaches (.safeRstRelease n ok) s (fun t => t.safe.mode = .run ∧ t.get R.SAFE_SSTAT_RST_ACC = 1 ∧ t.safe.outs = s.safe.outs ∧ t.mem = s.mem
          ∧ ∀ i, i < 12 → t.sIn i = (s.sIn i).restart)) := by
  have hexec := safeRst_valid h harm hge hle ok
  have hgone : ∀ e, State.causeGone { s with safe := { s.safe with rstLvl := false } } ok e = s.causeGone ok e := fun _ => rfl
  refine ⟨fun hmode => ⟨fun hperm hfresh hall => ?_, fun hheld => ?_⟩, fun hmode => ?_⟩
  · have hmay : (!s.safe.perm && !s.safe.fresh && s.safe.causes.all (State.causeGone { s with safe := { s.safe with rstLvl := false } } ok)) = true := by
      simp only [hperm, hfresh, Bool.not_false, Bool.true_and, List.all_eq_true]
      exact hall
    obtain ⟨hrun, hcauses, hacc, houts, hmem, hrestart, hwait⟩ :=
      acceptedReset_shows (s := { s with safe := { s.safe with rstLvl := false, mode := .run, causes := [] } }) hins hconns rfl
    exact ⟨_, hexec.trans (congrArg _ ((validReset_lockout (s := { s with safe := { s.safe with rstLvl := false } }) hmode ok).trans (if_pos hmay))),
      hrun, hcauses, hacc, houts, hmem, hrestart, hwait⟩
  · have hnot : ¬ (!s.safe.perm && !s.safe.fresh && s.safe.causes.all (State.causeGone { s with safe := { s.safe with rstLvl := false } } ok)) = true := by
      obtain hperm | hfresh | ⟨e, he, hstill⟩ := hheld
      · simp [hperm]
      · simp [hfresh]
      · simp only [Bool.and_eq_true, List.all_eq_true, hgone, not_and]
        exact fun _ hall => Bool.false_ne_true (hstill.symm.trans (hall e he))
    exact ⟨_, hexec.trans (congrArg _ ((validReset_lockout (s := { s with safe := { s.safe with rstLvl := false } }) hmode ok).trans (if_neg hnot))), rfl⟩
  · obtain ⟨hrun, -, hacc, houts, hmem, hrestart, -⟩ := acceptedReset_shows (s := { s with safe := { s.safe with rstLvl := false } }) hins hconns rfl
    exact ⟨_, hexec.trans (congrArg _ (validReset_run (s := { s with safe := { s.safe with rstLvl := false } }) hmode ok)), hrun.trans hmode, hacc, houts, hmem, hrestart⟩

end

end Sys2Proof.Machine
end

section
-- One proof after the other: side by side, their many threads would take more memory than the check has.
set_option Elab.async false
namespace Sys2Proof.Machine

/-! ## The logic cycle (R684, R696, R697) -/

section
variable {s : State}

/-- R697: the pins of the four outputs as the island has read them. -/
theorem readPins_shows (h : keysRise none s.safe.outs = true) (c : SafeChecks) {r : State} (hr : r = forAll [0, 1, 2, 3] (State.readPins c) s) :
    (∃ outs, r = { s with safe := { s.safe with outs } }) ∧ keysRise none r.safe.outs = true
      ∧ ∀ k, k < 4 → r.sOut k = { s.sOut k with rdA := bitOf c.readA k, rdB := bitOf c.readB k, edm := bitOf c.edm k } := by
  subst hr
  refine ⟨forAll_induction (P := fun x => ∃ outs, x = { s with safe := { s.safe with outs } }) ⟨_, rfl⟩ ?_,
    forAll_induction (P := fun x => keysRise none x.safe.outs = true) h fun n _ x hx => keysRise_tset hx _ _, fun k hk => ?_⟩
  · rintro n - x ⟨outs, rfl⟩
    exact ⟨_, rfl⟩
  · exact forAll_at (Q := fun x => keysRise none x.safe.outs = true) (g := fun x => x.sOut k)
      (h := fun y => { y with rdA := bitOf c.readA k, rdB := bitOf c.readB k, edm := bitOf c.edm k }) (by decide) (by simp; omega) h
      (fun _ _ hx => keysRise_tset hx _ _) (fun _ hx => tget_tset_same hx _ _) (fun _ _ hne => tget_tset_other (Ne.symm hne) _)

/-- What the island requests of an output does not hang on the outputs. -/
theorem onReq_outs {t : State} {outs : Tab SafeOut} (h : t.safe = { s.safe with outs }) (k : Nat) : t.onReq k = s.onReq k := by
  have hreq := congrArg (fun z : SafeSt => ({ s with safe := z } : State).onReq k) h
  exact hreq

/-- Out of RUN no output is requested. -/
theorem onReq_locked (h : s.safe.mode = .lockout) (k : Nat) : s.onReq k = false := by
  unfold State.onReq
  split
  · rfl
  · simp [h]

/-- R696, R697: one output in a logic cycle. -/
theorem outStep_shows (h : keysRise none s.safe.outs = true) (k : Nat) : OutsMoved s (s.outStep k) ∧ (∀ j, j ≠ k → (s.outStep k).sOut j = s.sOut j)
    ∧ ((s.outStep k).sOut k).on = (s.onReq k && ((s.sOut k).on || (s.sOut k).edm)) := by
  unfold State.outStep
  extract_lets x
  cases hreq : s.onReq k with
  | false =>
    obtain ⟨hmoved, hoff, hother⟩ := outOff_shows h k
    exact ⟨hmoved, hother, hoff⟩
  | true =>
    simp only [if_true, Bool.true_and]
    split
    · next hgo =>
      obtain ⟨hoff, hedm⟩ := Bool.and_eq_true_iff.mp hgo
      refine ⟨(OutsMoved.refl h).setOut k _, fun j hj => sOut_setOut_other hj _, ?_⟩
      rw [sOut_setOut_same h]
      exact (Bool.or_eq_true_iff.mpr (.inr hedm)).symm
    · next hno =>
      refine ⟨.refl h, fun _ _ => rfl, ?_⟩
      change x.on = (x.on || x.edm)
      cases hon : x.on with
      | true => rfl
      | false =>
        cases hedm : x.edm with
        | false => rfl
        | true => exact absurd (by rw [hon, hedm]; rfl) hno

theorem forAll_outStep {l : List Nat} (hl : l.Nodup) (h : keysRise none s.safe.outs = true) : OutsMoved s (forAll l State.outStep s)
    ∧ (∀ j, j ∉ l → (forAll l State.outStep s).sOut j = s.sOut j)
    ∧ ∀ k ∈ l, ((forAll l State.outStep s).sOut k).on = (s.onReq k && ((s.sOut k).on || (s.sOut k).edm)) := by
  induction l generalizing s with
  | nil => exact ⟨.refl h, fun _ _ => rfl, fun _ hk => nomatch hk⟩
  | cons n l ih =>
    obtain ⟨hn, hl⟩ := List.nodup_cons.mp hl
    obtain ⟨hmoved, hother, hat⟩ := outStep_shows h n
    obtain ⟨hrest, hkeep, hall⟩ := ih hl hmoved.rise
    obtain ⟨outs, hsafe⟩ := hmoved.outs
    refine ⟨hmoved.trans hrest, fun j hj => ?_, fun k hk => ?_⟩
    · exact (hkeep j fun hjl => hj (List.mem_cons_of_mem n hjl)).trans (hother j fun hjn => hj (hjn ▸ List.mem_cons_self))
    · obtain rfl | hkl := List.mem_cons.mp hk
      · exact (congrArg (fun y : SafeOut => y.on) (hkeep k hn)).trans hat
      · have hkn : k ≠ n := fun he => hn (he ▸ hkl)
        exact (hall k hkl).trans (by rw [onReq_outs hsafe, hother k hkn])

/-- With the island locked out and every output off, the outputs rest. -/
theorem outSteps_locked (h : s.safe.mode = .lockout) (hoff : s.allOff) : forAll [0, 1, 2, 3] State.outStep s = s :=
  forAll_induction (P := fun x => x = s) rfl fun k hk x hx => by
    subst hx
    have hk4 : k < 4 := by simp at hk; omega
    rw [State.outStep, onReq_locked h, if_neg Bool.false_ne_true, outOff_low (hoff k hk4)]

theorem causeIf_false (code idx : Nat) (s : State) : s.causeIf false code idx = s := rfl

/-- The checks of a logic cycle, after the pins are read. -/
def checksJudged (c : SafeChecks) (r : State) : State :=
  ((((r.causeIf (!c.lockstepOk) 1 0).causeIf (!c.oscOk) 2 0).causeIf (!c.vsafeOk) 3 0).causeIf (!c.psetOk) 4 0).causeIf (!c.memOk) 5 0

/-- The readbacks of a logic cycle judged by what was commanded in `r`. -/
def readsJudged (r s : State) : State := forAll [0, 1, 2, 3] (fun k a => a.causeIf (r.sOut k).wrong 8 k) s

theorem safeLogic_eq (h : s.safeRuns = true) (c : SafeChecks) {r : State} (hr : r = forAll [0, 1, 2, 3] (State.readPins c) s) :
    ∃ x, x = forAll [0, 1, 2, 3] State.outStep (readsJudged r (checksJudged c r)) ∧ exec (.safeLogicCycle c) s = .next { x with safe := { x.safe with fresh := false } } := by
  subst hr
  exact ⟨_, rfl, congrArg Host.Outcome.next (if_pos h)⟩

/-- A lock-out survives the readbacks. -/
theorem readsJudged_locked (r : State) (h : s.safe.mode = .lockout) : LockKept s (readsJudged r s) :=
  forAll_induction (P := fun x => LockKept s x) (.refl h) fun k _ _ hx => hx.trans (causeIf_locked hx.mode _ 8 k)

/-- R697: an island without a cause keeps its mode, and each output follows its request. -/
theorem safeLogic_clean (hrise : keysRise none s.safe.outs = true) (h : s.safeRuns = true) (hmode : s.safe.mode = .run) (c : SafeChecks) (h1 : c.lockstepOk = true)
    (h2 : c.oscOk = true) (h3 : c.vsafeOk = true) (h4 : c.psetOk = true) (h5 : c.memOk = true)
    (hreads : ∀ k, k < 4 → bitOf c.readA k = (s.sOut k).on ∧ bitOf c.readB k = (s.sOut k).on) :
    Reaches (.safeLogicCycle c) s (fun t => t.safe.mode = .run ∧ t.safe.causes = s.safe.causes ∧ t.safe.ins = s.safe.ins ∧ t.safe.fresh = false ∧ t.mem = s.mem
      ∧ ∀ k, k < 4 → ((s.onReq k = false → (t.sOut k).on = false) ∧ (s.onReq k = true → (t.sOut k).on = ((s.sOut k).on || bitOf c.edm k)))) := by
  obtain ⟨r, hr⟩ : ∃ r, r = forAll [0, 1, 2, 3] (State.readPins c) s := ⟨_, rfl⟩
  obtain ⟨⟨outs, hshape⟩, hriseR, hpins⟩ := readPins_shows hrise c hr
  obtain ⟨x, hx, hexec⟩ := safeLogic_eq h c hr
  clear hr
  have hchecks : checksJudged c r = r := by simp only [checksJudged, h1, h2, h3, h4, h5, Bool.not_true, causeIf_false]
  have hjudged : readsJudged r r = r := forAll_induction (P := fun y => y = r) rfl fun k hk y hy => by
    have hk4 : k < 4 := by simp at hk; omega
    obtain ⟨hA, hB⟩ := hreads k hk4
    have hright : (r.sOut k).wrong = false := by simp [SafeOut.wrong, hpins k hk4, hA, hB]
    rw [hy, hright, causeIf_false]
  rw [hchecks, hjudged] at hx
  obtain ⟨hmoved, -, hall⟩ := forAll_outStep (s := r) (l := [0, 1, 2, 3]) (by decide) hriseR
  rw [← hx] at hmoved hall
  obtain ⟨⟨outsX, hsafe⟩, -, hmem, -⟩ := hmoved
  have hsafeS : x.safe = { s.safe with outs := outsX } := by rw [hsafe, hshape]
  have hmemS : x.mem = s.mem := by rw [hmem, hshape]
  have hmodeS := congrArg (fun z : SafeSt => z.mode) hsafeS
  have hcauses := congrArg (fun z : SafeSt => z.causes) hsafeS
  have hins := congrArg (fun z : SafeSt => z.ins) hsafeS
  refine ⟨_, hexec, hmodeS.trans hmode, hcauses, hins, rfl, hmemS, fun k hk => ?_⟩
  have hreq : r.onReq k = s.onReq k := onReq_outs (outs := outs) (by rw [hshape]) k
  have hon : (x.sOut k).on = (s.onReq k && ((s.sOut k).on || bitOf c.edm k)) := by rw [hall k (by simp; omega), hreq, hpins k hk]
  refine ⟨fun hno => ?_, fun hyes => ?_⟩
  · exact hon.trans (by rw [hno, Bool.false_and])
  · exact hon.trans (by rw [hyes, Bool.true_and])

/-- R709: a lockstep error locks the island out. -/
theorem safeLogic_lockstep (hrise : keysRise none s.safe.outs = true) (h : s.safeRuns = true) (hmode : s.safe.mode = .run) (c : SafeChecks) (hbad : c.lockstepOk = false) :
    Reaches (.safeLogicCycle c) s (fun t => t.safe.mode = .lockout ∧ t.safe.causes.head? = some (1, 0) ∧ t.safe.cnt5 = s.safe.cnt5 + 1
      ∧ (s.safe.cnt5 = 2 → t.safe.perm = true) ∧ t.get R.SAFE_SSTAT_LOCKOUT = 1 ∧ t.mem = s.mem ∧ ∀ k, k < 4 → (t.sOut k).on = false) := by
  obtain ⟨r, hr⟩ : ∃ r, r = forAll [0, 1, 2, 3] (State.readPins c) s := ⟨_, rfl⟩
  obtain ⟨⟨outs, hshape⟩, hriseR, -⟩ := readPins_shows hrise c hr
  obtain ⟨x, hx, hexec⟩ := safeLogic_eq h c hr
  clear hr
  have hsafeR : r.safe = { s.safe with outs } := by rw [hshape]
  have hmemR : r.mem = s.mem := by rw [hshape]
  have hmodeR : r.safe.mode = .run := (congrArg (fun z : SafeSt => z.mode) hsafeR).trans hmode
  obtain ⟨⟨hlock, hcause, hoff, hflag⟩, hmem, -, hcnt, hperm, -⟩ := safeCause_run hmodeR hriseR 1 0
  have hfirst : r.causeIf (!c.lockstepOk) 1 0 = r.safeCause 1 0 := by simp [State.causeIf, hbad]
  have hkept : LockKept (r.safeCause 1 0) (readsJudged r (checksJudged c r)) := by
    rw [checksJudged, hfirst]
    have k2 := causeIf_locked hlock (!c.oscOk) 2 0
    have k3 := k2.trans (causeIf_locked k2.mode (!c.vsafeOk) 3 0)
    have k4 := k3.trans (causeIf_locked k3.mode (!c.psetOk) 4 0)
    have k5 := k4.trans (causeIf_locked k4.mode (!c.memOk) 5 0)
    exact k5.trans (readsJudged_locked r k5.mode)
  generalize readsJudged r (checksJudged c r) = y at hx hkept
  have hoffY : y.allOff := hkept.allOff hoff
  rw [outSteps_locked hkept.mode hoffY] at hx
  subst hx
  have hcntR : r.safe.cnt5 = s.safe.cnt5 := by rw [hshape]
  obtain ⟨l, hl⟩ := hkept.causes
  refine ⟨_, hexec, hkept.mode, ?_, ?_, fun h2 => ?_, hkept.flag.trans hflag, (hkept.mem.trans hmem).trans hmemR, hoffY⟩
  · change x.safe.causes.head? = _
    rw [hl, hcause]
    rfl
  · exact hkept.cnt5.trans (hcnt.trans (by rw [hcntR]; rfl))
  · refine hkept.perm.trans (hperm.trans ?_)
    rw [hcntR, h2]
    exact Bool.or_true _

/-- The island in RUN, or locked out with every output off. -/
def State.runsOrOff (s : State) : Prop := keysRise none s.safe.outs = true ∧ (s.safe.mode = .run ∨ s.safe.mode = .lockout ∧ s.allOff)

/-- A cause leaves the island in RUN, where it does not stand, or locks it out. -/
theorem causeIf_runsOrOff (h : s.runsOrOff) (b : Bool) (code idx : Nat) : (s.causeIf b code idx).runsOrOff ∧ (s.causeIf b code idx).mem = s.mem
    ∧ (b = true ∨ s.safe.mode = .lockout → (s.causeIf b code idx).safe.mode = .lockout) := by
  obtain ⟨hrise, hmode⟩ := h
  cases b with
  | false =>
    refine ⟨⟨hrise, hmode⟩, rfl, fun hstands => ?_⟩
    exact hstands.resolve_left Bool.false_ne_true
  | true =>
    change (s.safeCause code idx).runsOrOff ∧ (s.safeCause code idx).mem = s.mem ∧ (_ → (s.safeCause code idx).safe.mode = .lockout)
    obtain hrun | ⟨hlock, hoff⟩ := hmode
    · obtain ⟨⟨hlock, -, hoff, -⟩, hmem, hriseC, -⟩ := safeCause_run hrun hrise code idx
      exact ⟨⟨hriseC, .inr ⟨hlock, hoff⟩⟩, hmem, fun _ => hlock⟩
    · have hkept := safeCause_locked hlock code idx
      exact ⟨⟨hkept.outs ▸ hrise, .inr ⟨hkept.mode, hkept.allOff hoff⟩⟩, hkept.mem, fun _ => hkept.mode⟩

/-- The readbacks judged one after the other: one that differs locks the island out. -/
theorem readsJudged_off (r : State) (h : s.runsOrOff) (l : List Nat) {t : State} (ht : t = forAll l (fun k a => a.causeIf (r.sOut k).wrong 8 k) s) :
    t.runsOrOff ∧ t.mem = s.mem ∧ (s.safe.mode = .lockout ∨ (∃ k ∈ l, (r.sOut k).wrong = true) → t.safe.mode = .lockout) := by
  induction l generalizing s with
  | nil => exact ht ▸ ⟨h, rfl, fun hstands => hstands.resolve_right fun ⟨_, hk, _⟩ => nomatch hk⟩
  | cons n l ih =>
    obtain ⟨hoff, hmem, hlock⟩ := causeIf_runsOrOff h (r.sOut n).wrong 8 n
    obtain ⟨hoffT, hmemT, hlockT⟩ := ih hoff ht
    refine ⟨hoffT, hmemT.trans hmem, fun hstands => hlockT ?_⟩
    obtain hs | ⟨k, hk, hwrong⟩ := hstands
    · exact .inl (hlock (.inr hs))
    · obtain rfl | hkl := List.mem_cons.mp hk
      · exact .inl (hlock (.inl hwrong))
      · exact .inr ⟨k, hkl, hwrong⟩

/-- R697: a readback that differs locks the island out. -/
theorem safeLogic_readback (hrise : keysRise none s.safe.outs = true) (h : s.safeRuns = true) (hmode : s.safe.mode = .run) (c : SafeChecks) {k : Nat} (hk : k < 4)
    (hdiffers : bitOf c.readA k ≠ (s.sOut k).on) :
    Reaches (.safeLogicCycle c) s (fun t => t.safe.mode = .lockout ∧ t.mem = s.mem ∧ ∀ j, j < 4 → (t.sOut j).on = false) := by
  obtain ⟨r, hr⟩ : ∃ r, r = forAll [0, 1, 2, 3] (State.readPins c) s := ⟨_, rfl⟩
  obtain ⟨⟨outs, hshape⟩, hriseR, hpins⟩ := readPins_shows hrise c hr
  obtain ⟨x, hx, hexec⟩ := safeLogic_eq h c hr
  clear hr
  have hmodeR : r.safe.mode = .run := by rw [hshape]; exact hmode
  have hmemR : r.mem = s.mem := by rw [hshape]
  have hwrong : (r.sOut k).wrong = true := by simp [SafeOut.wrong, hpins k hk, hdiffers]
  have hchecks : (checksJudged c r).runsOrOff ∧ (checksJudged c r).mem = r.mem := by
    unfold checksJudged
    obtain ⟨o1, m1, -⟩ := causeIf_runsOrOff (s := r) ⟨hriseR, .inl hmodeR⟩ (!c.lockstepOk) 1 0
    obtain ⟨o2, m2, -⟩ := causeIf_runsOrOff o1 (!c.oscOk) 2 0
    obtain ⟨o3, m3, -⟩ := causeIf_runsOrOff o2 (!c.vsafeOk) 3 0
    obtain ⟨o4, m4, -⟩ := causeIf_runsOrOff o3 (!c.psetOk) 4 0
    obtain ⟨o5, m5, -⟩ := causeIf_runsOrOff o4 (!c.memOk) 5 0
    exact ⟨o5, m5.trans (m4.trans (m3.trans (m2.trans m1)))⟩
  obtain ⟨hoffC, hmemC⟩ := hchecks
  generalize checksJudged c r = y at hx hoffC hmemC
  obtain ⟨⟨hriseJ, hoffJ⟩, hmemJ, hlockJ⟩ := readsJudged_off r hoffC [0, 1, 2, 3] (t := readsJudged r y) rfl
  have hlock := hlockJ (.inr ⟨k, by simp; omega, hwrong⟩)
  generalize readsJudged r y = z at hx hriseJ hoffJ hmemJ hlock
  obtain ⟨-, hoff⟩ := hoffJ.resolve_left (by rw [hlock]; decide)
  rw [outSteps_locked hlock hoff] at hx
  subst hx
  exact ⟨_, hexec, hlock, hmemJ.trans (hmemC.trans hmemR), hoff⟩

/-- In START a logic cycle reads the pins only. -/
theorem safeLogic_start (hrise : keysRise none s.safe.outs = true) (h : s.safeRuns = false) (h3 : s.up 3 = true) (hmode : s.safe.mode = .start) (c : SafeChecks) :
    Reaches (.safeLogicCycle c) s (fun t => t.regs = s.regs ∧ t.mem = s.mem ∧ t.flt = s.flt ∧ t.safe.mode = .start
      ∧ ∀ j, j < 4 → t.sOut j = { s.sOut j with rdA := bitOf c.readA j, rdB := bitOf c.readB j, edm := bitOf c.edm j }) := by
  obtain ⟨r, hr⟩ : ∃ r, r = forAll [0, 1, 2, 3] (State.readPins c) s := ⟨_, rfl⟩
  obtain ⟨⟨outs, hshape⟩, -, hpins⟩ := readPins_shows hrise c hr
  have heffect : safeLogicEffect c s = r := by
    rw [safeLogicEffect, h, h3, hmode, hr]
    rfl
  refine ⟨r, congrArg Host.Outcome.next heffect, ?_, ?_, ?_, ?_, hpins⟩
  · rw [hshape]
  · rw [hshape]
  · rw [hshape]
  · rw [hshape]
    exact hmode

end

end Sys2Proof.Machine
end

section
-- One proof after the other: side by side, their many threads would take more memory than the check has.
set_option Elab.async false
namespace Sys2Proof.Machine

/-! ## The feedback times and the output test pulse (R697, R698) -/

section
variable {s : State} {k : Nat}

theorem edmOn_eq (h : s.safeRuns = true) (hon : (s.sOut k).on = true) (hedm : (s.sOut k).edmOn = true) (b : Bool) :
    exec (.edmOnTimeout k b) s = .next ((s.setOut k { s.sOut k with edmOn := false, edm := b }).causeIf b 9 k) :=
  congrArg Host.Outcome.next (if_pos (by rw [h, hon, hedm]; rfl))

theorem edmOn_low (hon : (s.sOut k).on = false) (b : Bool) : exec (.edmOnTimeout k b) s = .next s :=
  congrArg Host.Outcome.next (if_neg (by simp [hon]))

theorem edmOff_eq (h : s.safeRuns = true) (hk : k < 4) (hon : (s.sOut k).on = false) (b : Bool) :
    exec (.edmOffTimeout k b) s = .next ((s.setOut k { s.sOut k with edm := b }).causeIf (!b) 9 k) :=
  congrArg Host.Outcome.next (if_pos (by rw [h, hon, decide_eq_true hk]; rfl))

theorem edmOff_high (hon : (s.sOut k).on = true) (b : Bool) : exec (.edmOffTimeout k b) s = .next s :=
  congrArg Host.Outcome.next (if_neg (by simp [hon]))

theorem outputTest_eq (h : s.safeRuns = true) (hon : (s.sOut k).on = true) (d b : Bool) :
    exec (.outputTestPulse k d b) s = .next ((s.setOut k (if d then { s.sOut k with rdB := !b } else { s.sOut k with rdA := !b })).causeIf (!b) 8 k) :=
  congrArg Host.Outcome.next (if_pos (by rw [h, hon]; rfl))

theorem outputTest_low (hon : (s.sOut k).on = false) (d b : Bool) : exec (.outputTestPulse k d b) s = .next s :=
  congrArg Host.Outcome.next (if_neg (by simp [hon]))

/-- A cause that an output's pin shows in RUN: the island is locked out for it, with the bit of the cause. -/
theorem pinCause_locks (hrise : keysRise none s.safe.outs = true) (hmode : s.safe.mode = .run) (k : Nat) (x : SafeOut) {code : Nat} {F : Field} (hF : causeBit code = some F)
    (hcode : code = 8 ∨ code = 9) :
    LockedOut code k ((s.setOut k x).causeIf true code k) ∧ ((s.setOut k x).causeIf true code k).get F = 1 ∧ ((s.setOut k x).causeIf true code k).mem = s.mem := by
  obtain ⟨hlocked, hmem, -, -, -, hbit⟩ := safeCause_run (s := s.setOut k x) hmode (keysRise_tset hrise _ _) code k
  refine ⟨hlocked, ?_, hmem⟩
  obtain rfl | rfl := hcode
  · cases hF
    exact hbit _ rfl (by decide) (by decide) rfl rfl (by decide)
  · cases hF
    exact hbit _ rfl (by decide) (by decide) rfl rfl (by decide)

end

/-- Settles O56: SAFE_RST by `safeRst_shows`, a logic cycle by its four outcomes, and the pins of an output by `pinCause_locks`. -/
theorem safetyLogicAndReset : Obligations.SafetyLogicAndReset := by
  unfold Obligations.SafetyLogicAndReset
  intro s hins houts hconns
  refine ⟨fun hidle n ok c k b d => ⟨?_, ?_, ?_, ?_, fun hnot => ?_, fun h3 hstart => safeLogic_start houts hidle h3 hstart c⟩, fun h => ⟨fun n ok =>
      ⟨fun hignored => safeRst_ignored h hignored ok, fun harm hn => safeRst_long h harm hn ok, fun harm hge hle => safeRst_shows hins hconns h harm hge hle ok⟩,
    fun c hmode => ⟨safeLogic_clean houts h hmode c, safeLogic_lockstep houts h hmode c, fun k hk hdiffers => safeLogic_readback houts h hmode c hk hdiffers⟩,
    fun k b hk => ⟨fun hon hedm => ⟨fun hb => ?_, fun hb hmode => ?_⟩, fun hon => edmOn_low hon b, fun hon => edmOff_high hon b, fun hon => ⟨fun hb => ?_, fun hb hmode => ?_⟩,
      fun hon d => outputTest_low hon d b, fun hon d => ⟨fun hb => ?_, fun hb hmode => ?_⟩⟩⟩⟩
  · exact congrArg Host.Outcome.next (if_neg (by simp [hidle]))
  · exact congrArg Host.Outcome.next (if_neg (by simp [hidle]))
  · exact congrArg Host.Outcome.next (if_neg (by simp [hidle]))
  · exact congrArg Host.Outcome.next (if_neg (by simp [hidle]))
  · have hoff : (s.up 3 && decide (s.safe.mode = .start)) = false := by
      obtain h3 | hmode := hnot <;> simp [*]
    refine congrArg Host.Outcome.next ?_
    rw [safeLogicEffect, hidle, hoff]
    rfl
  · subst hb
    exact ⟨_, edmOn_eq h hon hedm false, sOut_setOut_same houts k _, rfl, rfl, rfl⟩
  · subst hb
    exact ⟨_, edmOn_eq h hon hedm true, pinCause_locks houts hmode k _ rfl (.inr rfl)⟩
  · subst hb
    exact ⟨_, edmOff_eq h hk hon true, sOut_setOut_same houts k _, rfl, rfl, rfl⟩
  · subst hb
    obtain ⟨hlocked, -, hmem⟩ := pinCause_locks houts hmode k { s.sOut k with edm := false } (code := 9) rfl (.inr rfl)
    exact ⟨_, edmOff_eq h hk hon false, hlocked, hmem⟩
  · subst hb
    refine ⟨_, outputTest_eq h hon d true, ?_, rfl, rfl, rfl⟩
    refine (congrArg (fun x : SafeOut => x.on) (sOut_setOut_same houts k _)).trans ?_
    cases d
    · exact hon
    · exact hon
  · subst hb
    exact ⟨_, outputTest_eq h hon d false, pinCause_locks houts hmode k _ rfl (.inl rfl)⟩

end Sys2Proof.Machine
end

section
-- One proof after the other: side by side, their many threads would take more memory than the check has.
set_option Elab.async false
namespace Sys2Proof.Machine

/-! ## GOOSE publications (R550 to R553, R603) -/

section
variable {s : State}

/-- A publication that is sent stands as sent, and no other has moved. -/
theorem pubSend_shows (k : Nat) (x : PubSt) (s : State) : lookupKey (s.pubSend k x).net.pubs k = some x
    ∧ (∀ j, j ≠ k → lookupKey (s.pubSend k x).net.pubs j = lookupKey s.net.pubs j) ∧ (s.pubSend k x).regs = s.regs ∧ (s.pubSend k x).mem = s.mem := by
  have hsent := ethSend_sentPart x.decl.ports x.decl.dst 0x88B8 true (.goose
    { appid := x.decl.appid, gocbRef := x.decl.gocbRef, datSet := x.decl.datSet, goID := x.decl.goID, confRev := x.decl.confRev, tal := x.tal
      stNum := x.stNum, sqNum := x.sqNum, members := x.members.getD [] }) (s.setPub k x)
  have hpubs : (s.setPub k x).net.pubs = insertKey k x s.net.pubs := rfl
  obtain ⟨-, -, hregs, hmem⟩ := sentPart_reads hsent
  replace hsent := congrArg (fun y : State => y.net.pubs) hsent
  unfold State.pubSend
  dsimp only
  generalize State.ethSend _ _ _ _ _ _ = t at hsent hregs hmem
  replace hsent : t.net.pubs = insertKey k x s.net.pubs := hsent.trans hpubs
  refine ⟨?_, fun j hj => ?_, hregs, hmem⟩
  · rw [hsent, lookupKey_insertKey_same]
  · rw [hsent, lookupKey_insertKey_other hj]

/-- R552: what a publication that has a new state sends. -/
def State.pubNext (s : State) (k : Nat) (x : PubSt) : PubSt :=
  { x with members := some (s.pubMembers k), stNum := x.stNum + 1, sqNum := 0, ivl := s.get R.NETSV_GP_CFG_MIN_T, since := 0
           tal := 2 * s.get R.NETSV_GP_CFG_MIN_T, frames := x.frames + 1 }

/-- R552: what a publication that repeats sends. -/
def State.pubAgain (s : State) (x : PubSt) : PubSt :=
  let i := min (2 * x.ivl) (10 * s.get R.NETSV_GP_CFG_MAX_T)
  { x with sqNum := x.sqNum + 1, since := x.since + x.ivl, ivl := i, tal := 2 * i, frames := x.frames + 1 }

theorem pubNew_changed {k : Nat} {x : PubSt} (hx : lookupKey s.net.pubs k = some x) (hon : s.pubOn k = true) (hne : x.members ≠ some (s.pubMembers k)) :
    s.pubNew k = (s.pubSend k (s.pubNext k x)).flagIf (decide (k = 0) && decide ((s.pubMembers k).head? = some 1)) R.NETSV_NSTAT_TRIP_PUB := by
  unfold State.pubNew
  rw [hx]
  exact if_pos (by rw [hon, decide_eq_true hne]; rfl)

theorem pubNew_quiet {k : Nat} (h : s.pubOn k = false ∨ ∃ x, lookupKey s.net.pubs k = some x ∧ x.members = some (s.pubMembers k)) : s.pubNew k = s := by
  unfold State.pubNew
  split
  · rfl
  · next y hy =>
    refine if_neg ?_
    obtain hoff | ⟨x, hx, hsame⟩ := h
    · simp [hoff]
    · cases hx.symm.trans hy
      simp [hsame]

theorem flagIf_net (b : Bool) (F : Field) (s : State) : (s.flagIf b F).net = s.net ∧ (s.flagIf b F).mem = s.mem := by
  obtain ⟨regs, msix0, msix1, hraise⟩ := raise_shape F s
  unfold State.flagIf
  split
  · rw [hraise]
    exact ⟨rfl, rfl⟩
  · exact ⟨rfl, rfl⟩

/-- R552, R553: a new state of a publication. -/
theorem pubNew_shows {k : Nat} {x : PubSt} (hx : lookupKey s.net.pubs k = some x) (hon : s.pubOn k = true) (hne : x.members ≠ some (s.pubMembers k)) :
    (s.pubNew k).mem = s.mem ∧ (∀ j, j ≠ k → lookupKey (s.pubNew k).net.pubs j = lookupKey s.net.pubs j) ∧ lookupKey (s.pubNew k).net.pubs k = some (s.pubNext k x) := by
  obtain ⟨hsame, hother, -, hmem⟩ := pubSend_shows k (s.pubNext k x) s
  obtain ⟨hnet, hmemF⟩ := flagIf_net (decide (k = 0) && decide ((s.pubMembers k).head? = some 1)) R.NETSV_NSTAT_TRIP_PUB (s.pubSend k (s.pubNext k x))
  rw [pubNew_changed hx hon hne, hnet, hmemF]
  exact ⟨hmem, hother, hsame⟩

theorem gooseRepeat_none {k : Nat} (h : s.pubOn k = false ∨ lookupKey s.net.pubs k = none) : exec (.gooseRepeat k) s = .next s := by
  refine congrArg Host.Outcome.next ?_
  unfold gooseRepeatEffect
  split
  · rfl
  · next x hx =>
    obtain hoff | hnone := h
    · exact if_neg (by simp [hoff])
    · rw [hx] at hnone
      cases hnone

/-- R552: an unchanged publication repeats with the next sqNum at twice the interval. -/
theorem gooseRepeat_same {k : Nat} {x : PubSt} (hx : lookupKey s.net.pubs k = some x) (hon : s.pubOn k = true) (hsame : x.members = some (s.pubMembers k)) :
    Reaches (.gooseRepeat k) s (fun t => t.mem = s.mem ∧ t.regs = s.regs ∧ (∀ j, j ≠ k → lookupKey t.net.pubs j = lookupKey s.net.pubs j)
      ∧ ∃ y, lookupKey t.net.pubs k = some y ∧ y.sqNum = x.sqNum + 1 ∧ y.stNum = x.stNum ∧ y.ivl = min (2 * x.ivl) (10 * s.get R.NETSV_GP_CFG_MAX_T) ∧ y.frames = x.frames + 1) := by
  have heffect : gooseRepeatEffect k s = (s.pubSend k (s.pubAgain x)).gooseStop k (x.since + x.ivl) := by
    unfold gooseRepeatEffect
    rw [hx]
    exact (if_pos (by rw [hon, hsame]; rfl)).trans (if_pos hsame)
  obtain ⟨hat, hother, hregs, hmem⟩ := pubSend_shows k (s.pubAgain x) s
  have hstop : ∀ u : State, ∃ glades, u.gooseStop k (x.since + x.ivl) = { u with glades } := fun u => by
    unfold State.gooseStop
    split
    · exact ⟨_, rfl⟩
    · exact ⟨_, rfl⟩
  obtain ⟨glades, hglades⟩ := hstop (s.pubSend k (s.pubAgain x))
  refine ⟨_, congrArg Host.Outcome.next (heffect.trans hglades), ?_⟩
  generalize s.pubSend k (s.pubAgain x) = t at hat hother hregs hmem
  exact ⟨hmem, hregs, hother, s.pubAgain x, hat, rfl, rfl, rfl, rfl⟩

theorem gooseRepeat_changed {k : Nat} {x : PubSt} (hx : lookupKey s.net.pubs k = some x) (hon : s.pubOn k = true) (hne : x.members ≠ some (s.pubMembers k))
    (hsome : x.members ≠ none) : gooseRepeatEffect k s = s.pubNew k := by
  unfold gooseRepeatEffect
  rw [hx]
  simp only [hon, Option.isSome_iff_ne_none.mpr hsome, Bool.and_self, if_true, hne, if_false]

theorem commanded_netsvPage (h : s.inService = true) {addr : Nat} (ha : addr / 0x1000 = 0xA4) (f : State → State) : s.commanded addr f = f s :=
  commanded_inService h (g := 7) (by simp [pageGlade, ha]) (inService_common h (by decide)) (by simp [pageAbsent, ha]) f

/-- R603: GP_DATA takes the word written, and publication 0 is not its concern. -/
theorem gpData_shows (h : s.inService = true) (v : Nat) : Reaches (.gpDataWrite v) s (fun t => t.get R.NETSV_GP_DATA_DATA = v % 2 ^ R.NETSV_GP_DATA_DATA.w
    ∧ t.mem = s.mem ∧ lookupKey t.net.pubs 0 = lookupKey s.net.pubs 0) := by
  have hloop : ∀ l : List Nat, 0 ∉ l → ∀ u : State, (forAll l State.pubNew u).get R.NETSV_GP_DATA_DATA = u.get R.NETSV_GP_DATA_DATA ∧ (forAll l State.pubNew u).mem = u.mem
      ∧ lookupKey (forAll l State.pubNew u).net.pubs 0 = lookupKey u.net.pubs 0 := fun l hl u => by
    refine forAll_induction (P := fun x => x.get R.NETSV_GP_DATA_DATA = u.get R.NETSV_GP_DATA_DATA ∧ x.mem = u.mem ∧ lookupKey x.net.pubs 0 = lookupKey u.net.pubs 0)
      ⟨rfl, rfl, rfl⟩ fun k hk x ⟨hget, hmem, hpub⟩ => ?_
    have hk0 : k ≠ 0 := fun he => hl (he ▸ hk)
    by_cases hquiet : x.pubOn k = false ∨ ∃ y, lookupKey x.net.pubs k = some y ∧ y.members = some (x.pubMembers k)
    · rw [pubNew_quiet hquiet]
      exact ⟨hget, hmem, hpub⟩
    · obtain ⟨hon, hchanged⟩ := not_or.mp hquiet
      cases hy : lookupKey x.net.pubs k with
      | none =>
        have hnone : x.pubNew k = x := by simp [State.pubNew, hy]
        rw [hnone]
        exact ⟨hget, hmem, hpub⟩
      | some y =>
        obtain ⟨-, hother, hregs, hmemS⟩ := pubSend_shows k (x.pubNext k y) x
        have hnew : x.pubNew k = x.pubSend k (x.pubNext k y) := by
          rw [pubNew_changed hy (by simpa using hon) fun he => hchanged ⟨y, hy, he⟩, decide_eq_false hk0]
          rfl
        rw [hnew]
        exact ⟨(get_congr hregs).trans hget, hmemS.trans hmem, (hother 0 (Ne.symm hk0)).trans hpub⟩
  obtain ⟨hget, hmem, hpub⟩ := hloop ([1, 2, 3].filter fun k => decide (bits v (8 * (k - 1)) 8 ≠ bits (s.get R.NETSV_GP_DATA_DATA) (8 * (k - 1)) 8)) (by simp)
    (s.put R.NETSV_GP_DATA_DATA v)
  refine ⟨_, congrArg Host.Outcome.next ((commanded_netsvPage h rfl _).trans (if_pos (inService_common h (by decide)))), ?_, hmem, hpub⟩
  exact hget.trans (get_put_same (inService_regsRise h) _ _)

end

end Sys2Proof.Machine
end

section
-- One proof after the other: side by side, their many threads would take more memory than the check has.
set_option Elab.async false
namespace Sys2Proof.Machine

/-! ## GOOSE subscriptions (R554, R555)

A frame meets the subscriptions one after the other, and one of them may block the arm or post a flag before another is met. What a subscription leaves of
what the others read and of what has already happened is the relation `GooseMoved`.
-/

/-- What GOOSE subscriptions move: themselves, the arm that they block, and what a posted flag moves. -/
def subFoot : Foot :=
  ⟨fun s => { s.bare with arm := {}, enc := {}, rank := {}, rings := [], sched := {}, loops := [], adcs := [], net := { s.net with subs := [] }
                          host := { s.host with msix0 := 0, msix1 := 0, discards := [] } },
    fun k => [R.ARM_LVL_N_START.key, R.ARM_LVL_N_END.key, R.SCHED_CNT_COAL_COUNT.key, R.NETSV_NSTAT_GS_CONFREV.key, R.NETSV_NSTAT_GS_TRIP.key, R.NETSV_NSTAT_GS_LOST.key,
      32 * 0xA4014].contains k, fun _ => rfl⟩

/-- The event bits of the subscriptions. -/
def gooseBits : List Field := [R.NETSV_NSTAT_GS_CONFREV, R.NETSV_NSTAT_GS_TRIP, R.NETSV_NSTAT_GS_LOST]

/-- `GooseMoved s t`: the subscriptions have been met; what was flagged, posted or blocked stays so. -/
structure GooseMoved (s t : State) : Prop where
  foot : Within subFoot s t
  bits : ∀ G ∈ gooseBits, s.get G = 1 → t.get G = 1
  inbox : ∀ e ∈ s.flt.inbox, e ∈ t.flt.inbox
  blocked : s.arm.mode = .blocked → t.arm.mode = .blocked
  run : s.arm.mode = .run → t.arm.mode = .run ∨ t.arm.mode = .blocked

section
variable {s₀ s t : State}

theorem GooseMoved.refl (s : State) : GooseMoved s s := ⟨.refl _ _, fun _ _ h => h, fun _ h => h, id, .inl⟩

theorem GooseMoved.trans {u : State} (h : GooseMoved s t) (k : GooseMoved t u) : GooseMoved s u :=
  ⟨h.foot.trans k.foot, fun G hG hs => k.bits G hG (h.bits G hG hs), fun e he => k.inbox e (h.inbox e he), fun hs => k.blocked (h.blocked hs),
    fun hs => (h.run hs).elim k.run fun hb => .inr (k.blocked hb)⟩

theorem GooseMoved.setSub {j : Nat} {x : SubSt} (h : GooseMoved s₀ s) : GooseMoved s₀ (s.setSub j x) :=
  h.trans ⟨(Within.refl _ s).move, fun _ _ hs => hs, fun _ he => he, id, .inl⟩

theorem GooseMoved.post {e : Event} (h : GooseMoved s₀ s) : GooseMoved s₀ (s.post e) :=
  h.trans ⟨(Within.refl _ s).post, fun _ _ hs => hs, fun _ he => List.mem_append_left _ he, id, .inl⟩

/-- A raised event bit of the subscriptions is set, and every other keeps its value. -/
theorem gooseBits_raise {F G : Field} (hF : F ∈ gooseBits) (hG : G ∈ gooseBits) (hs : G = F ∨ s.get G = 1) : (s.raise F).get G = 1 := by
  have hapart : ∀ F ∈ gooseBits, ∀ G ∈ gooseBits, G.key ≠ 32 * (pageOf F.addr + 0x14) := by decide
  have hbit : ∀ F ∈ gooseBits, F.w ≠ 0 ∧ F.rst = 0 := by decide
  have hinj : ∀ F ∈ gooseBits, ∀ G ∈ gooseBits, G.key = F.key → G = F := by
    simp [gooseBits, R.NETSV_NSTAT_GS_CONFREV, R.NETSV_NSTAT_GS_TRIP, R.NETSV_NSTAT_GS_LOST, Field.key]
  have hirq := hapart F hF G hG
  have hkey := hinj F hF G hG
  obtain ⟨hw, hrst⟩ := hbit F hF
  by_cases he : G = F
  · subst he
    exact get_raise_same hirq hw hrst _
  · exact (get_raise_other (fun hk => he (hkey hk)) hirq _).trans (hs.resolve_left he)

theorem GooseMoved.raise {F : Field} (h : GooseMoved s₀ s) (hF : F ∈ gooseBits) : GooseMoved s₀ (s.raise F) := by
  have hmay : subFoot.MayRaise F := by
    have hall : ∀ F ∈ gooseBits, subFoot.keys F.key = true ∧ subFoot.keys (32 * (pageOf F.addr + 0x14)) = true := by decide
    exact hall F hF
  obtain ⟨regs, msix0, msix1, hraise⟩ := raise_shape F s
  refine h.trans ⟨(Within.refl _ s).raise hmay, fun G hG hs => gooseBits_raise hF hG (.inr hs), fun e he => ?_, fun hb => ?_, fun hr => ?_⟩
  · rw [hraise]
    exact he
  · rw [hraise]
    exact hb
  · rw [hraise]
    exact .inl hr

/-- GO_BLOCK takes a running arm to BLOCKED. -/
theorem goBlock_mode (s : State) : (s.arm.mode = .blocked → s.goBlock.arm.mode = .blocked)
    ∧ (s.arm.mode = .run → s.goBlock.arm.mode = .run ∨ s.goBlock.arm.mode = .blocked) ∧ (s.up 5 = true → s.arm.mode = .run → s.goBlock.arm.mode = .blocked) := by
  refine ⟨fun hb => ?_, fun hr => ?_, fun h5 hr => (goBlock_blocks h5 (.inr hr)).1⟩
  · rw [goBlock_idle (.inr (.inl hb)), hb]
  · cases h5 : s.up 5 with
    | false =>
      have hstay : s.goBlock = s := if_neg (by simp [h5])
      exact .inl (by rw [hstay, hr])
    | true => exact .inr (goBlock_blocks h5 (.inr hr)).1

theorem blockFoot_sub_subFoot : blockFoot.Sub subFoot := by
  refine ⟨fun _ => rfl, fun k hk => ?_⟩
  simp only [subFoot, blockFoot, List.contains_cons, Bool.or_eq_false_iff] at hk ⊢
  exact ⟨hk.1, hk.2.1, rfl⟩

theorem goBlock_inbox (s : State) : s.goBlock.flt.inbox = s.flt.inbox := by
  by_cases hm : s.up 5 = true ∧ (s.arm.mode = .charge ∨ s.arm.mode = .run)
  · obtain ⟨u, regs, enc, recs, hgo, hu⟩ := armImmediate_blocked { s with arm := { s.arm with pend := none, pendLate := false } }
    obtain ⟨rings, hask⟩ := askBlockFrames_shape u
    rw [goBlock_commands hm.1 hm.2, hgo, hask, hu]
  · have hstay : s.goBlock = s := by
      unfold State.goBlock
      split
      · next h5 => cases hmode : s.arm.mode <;> simp_all
      · rfl
    rw [hstay]

theorem GooseMoved.goBlock (h : GooseMoved s₀ s) : GooseMoved s₀ s.goBlock := by
  have hfoot : Within blockFoot s s.goBlock := (Within.refl _ s).goBlock
  obtain ⟨hb, hr, -⟩ := goBlock_mode s
  refine h.trans ⟨hfoot.widen blockFoot_sub_subFoot, fun G hG hs => ?_, fun e he => ?_, hb, hr⟩
  · have hall : ∀ G ∈ gooseBits, blockFoot.keys G.key = false := by decide
    exact (hfoot.keys G (hall G hG)).trans hs
  · rw [goBlock_inbox]
    exact he

theorem GooseMoved.flagPost {j : Nat} (h : GooseMoved s₀ s) : GooseMoved s₀ (s.postFlagFrom 7 j) := by
  have hmoved : ∃ regs sched loops adcs discards, s.postFlagFrom 7 j = { s with regs, sched, loops, adcs, host := { s.host with discards } } := by
    obtain ⟨regs, sched, loops, adcs, hshape, -⟩ := postFlags_shape (2 ^ j) s
    unfold State.postFlagFrom State.overLink
    split
    · exact ⟨_, _, _, _, _, rfl⟩
    · exact ⟨regs, sched, loops, adcs, _, hshape⟩
  have hget : ∀ G : Field, G.key ≠ R.SCHED_CNT_COAL_COUNT.key → (s.postFlagFrom 7 j).get G = s.get G := fun G hG => postFlagFrom_get hG 7 j s
  obtain ⟨regs, sched, loops, adcs, discards, hshape⟩ := hmoved
  rw [hshape] at hget ⊢
  refine h.trans ⟨⟨rfl, fun G hG => hget G fun he => ?_⟩, fun G hG hs => (hget G ?_).trans hs, fun _ he => he, id, .inl⟩
  · rw [he] at hG
    exact absurd hG (by decide)
  · have hall : ∀ G ∈ gooseBits, G.key ≠ R.SCHED_CNT_COAL_COUNT.key := by decide
    exact hall G hG

theorem GooseMoved.subAct {d : SubDecl} {test : Bool} (h : GooseMoved s₀ s) : GooseMoved s₀ (s.subAct d test) := by
  unfold State.subAct
  split
  · exact h.flagPost
  · split
    · exact (h.goBlock.raise (by decide)).post
    · exact h

theorem GooseMoved.subTake {f : GooseFrame} {j : Nat} (h : GooseMoved s₀ s) : GooseMoved s₀ (s.subTake f j) := by
  unfold State.subTake
  split
  · exact h
  · next x _ =>
    extract_lets d
    split
    · split
      · exact (h.setSub.raise (by decide)).post
      · extract_lets s1
        have h1 : GooseMoved s₀ s1 := h.setSub
        clear_value s1
        split
        · split
          · exact h1.subAct
          · exact h1
        · split
          · exact h.setSub
          · exact h
    · exact h

end

end Sys2Proof.Machine
end

section
-- One proof after the other: side by side, their many threads would take more memory than the check has.
set_option Elab.async false
namespace Sys2Proof.Machine

/-! ## A frame and a silence meet their subscription (R554, R555) -/

section
variable {s t : State} {j : Nat}

/-- What the subscriptions leave of the rest. -/
theorem GooseMoved.reads (h : GooseMoved s t) : t.mem = s.mem ∧ (∀ g, t.up g = s.up g) ∧ t.subOn j = s.subOn j ∧ t.on R.NETSV_SV_CFG_SIM_OK = s.on R.NETSV_SV_CFG_SIM_OK := by
  have hmem := congrArg (fun x : State => x.mem) h.foot.mask
  have hup := fun g => congrArg (fun x : State => x.up g) h.foot.mask
  have hunit := congrArg (fun x : State => x.unitUp gooseUnit) h.foot.mask
  have hvariant := congrArg (fun x : State => x.variant.hasPair) h.foot.mask
  have hrole := congrArg (fun x : State => decide (x.amber.role = .standby)) h.foot.mask
  have hsubs : t.get (R.NETSV_GS_EN_EN (j / 32)) = s.get (R.NETSV_GS_EN_EN (j / 32)) := h.foot.keys _ (by
    simp [subFoot, Field.key, R.NETSV_GS_EN_EN, R.ARM_LVL_N_START, R.ARM_LVL_N_END, R.SCHED_CNT_COAL_COUNT, R.NETSV_NSTAT_GS_CONFREV, R.NETSV_NSTAT_GS_TRIP,
      R.NETSV_NSTAT_GS_LOST]
    omega)
  have hpair : t.on R.AMBER_CFG_EN = s.on R.AMBER_CFG_EN := on_congr (h.foot.keys _ (by decide))
  have hgs : t.on R.NETSV_CTRL_GS_EN = s.on R.NETSV_CTRL_GS_EN := on_congr (h.foot.keys _ (by decide))
  refine ⟨hmem, hup, ?_, on_congr (h.foot.keys _ (by decide))⟩
  replace hunit : t.unitUp gooseUnit = s.unitUp gooseUnit := hunit
  replace hvariant : t.variant.hasPair = s.variant.hasPair := hvariant
  replace hrole : decide (t.amber.role = .standby) = decide (s.amber.role = .standby) := hrole
  unfold State.subOn State.isStandby State.pairOp
  rw [hunit, hvariant, hpair, hrole, hgs, hsubs]

theorem subAct_net (d : SubDecl) (test : Bool) (s : State) : (s.subAct d test).net = s.net := by
  unfold State.subAct
  split
  · unfold State.postFlagFrom State.overLink
    split
    · rfl
    · obtain ⟨regs, sched, loops, adcs, hshape, -⟩ := postFlags_shape (2 ^ d.flag) s
      rw [State.postFlag, hshape]
  · split
    · have hfoot : Within blockFoot s s.goBlock := (Within.refl _ s).goBlock
      generalize s.goBlock = u at hfoot
      have hnet := congrArg (fun x : State => x.net) hfoot.mask
      obtain ⟨regs, msix0, msix1, hraise⟩ := raise_shape R.NETSV_NSTAT_GS_TRIP u
      rw [hraise]
      exact hnet
    · rfl

/-- The subscriptions but for number `j`. -/
theorem setSub_reads (i : Nat) (x : SubSt) (s : State) : lookupKey (s.setSub i x).net.subs i = some x
    ∧ ∀ j, j ≠ i → lookupKey (s.setSub i x).net.subs j = lookupKey s.net.subs j :=
  ⟨lookupKey_insertKey_same i x s.net.subs, fun _ hj => lookupKey_insertKey_other hj x s.net.subs⟩

theorem raise_net (F : Field) (s : State) : (s.raise F).net = s.net := by
  obtain ⟨regs, msix0, msix1, hraise⟩ := raise_shape F s
  rw [hraise]

/-- One subscription met leaves the others. -/
theorem subTake_other (f : GooseFrame) {i : Nat} (hij : j ≠ i) (s : State) : lookupKey (s.subTake f i).net.subs j = lookupKey s.net.subs j := by
  have hset : ∀ x, lookupKey (s.setSub i x).net.subs j = lookupKey s.net.subs j := fun x => (setSub_reads i x s).2 j hij
  unfold State.subTake
  split
  · rfl
  · next x _ =>
    extract_lets d
    split
    · split
      · exact (congrArg (fun n : NetSt => lookupKey n.subs j) (raise_net R.NETSV_NSTAT_GS_CONFREV _)).trans (hset _)
      · split
        · extract_lets s1
          have h1 : lookupKey s1.net.subs j = lookupKey s.net.subs j := hset _
          clear_value s1
          split
          · exact (congrArg (fun n : NetSt => lookupKey n.subs j) (subAct_net _ _ s1)).trans h1
          · exact h1
        · split
          · exact hset _
          · rfl
    · rfl

/-- A loop over subscriptions that leaves out number `j`. -/
theorem forAll_subTake (f : GooseFrame) {l : List Nat} (hj : j ∉ l) (s : State) :
    GooseMoved s (forAll l (State.subTake f) s) ∧ lookupKey (forAll l (State.subTake f) s).net.subs j = lookupKey s.net.subs j :=
  forAll_induction (P := fun t => GooseMoved s t ∧ lookupKey t.net.subs j = lookupKey s.net.subs j) ⟨.refl s, rfl⟩
    fun _ hn x ⟨hmoved, hsub⟩ => ⟨hmoved.subTake, (subTake_other f (ne_of_mem_of_not_mem hn hj).symm x).trans hsub⟩

/-- R554: a frame that is not a copy meets each subscription once. -/
theorem gooseFrame_meets (hrise : keysRise none s.net.subs = true) {x : SubSt} (hx : lookupKey s.net.subs j = some x) (f : GooseFrame) (hcopy : s.isCopy f.port f.srcMac f.red = false) :
    ∃ u t, GooseMoved s u ∧ lookupKey u.net.subs j = some x ∧ GooseMoved (u.subTake f j) t ∧ lookupKey t.net.subs j = lookupKey (u.subTake f j).net.subs j
      ∧ exec (.gooseFrameReceived f) s = .next t := by
  obtain ⟨l1, l2, hl⟩ := List.append_of_mem (mem_keys_of_lookupKey hx)
  have hnodup : (l1 ++ j :: l2).Nodup := hl ▸ keys_nodup hrise
  obtain ⟨hj1, hj2⟩ : j ∉ l1 ∧ j ∉ l2 := by
    have hperm : (j :: (l1 ++ l2)).Nodup := List.perm_middle.nodup hnodup
    exact ⟨fun h => (List.nodup_cons.mp hperm).1 (List.mem_append_left _ h), fun h => (List.nodup_cons.mp hperm).1 (List.mem_append_right _ h)⟩
  obtain ⟨hbefore, hsub⟩ := forAll_subTake f hj1 s
  obtain ⟨hafter, hsub'⟩ := forAll_subTake f hj2 (State.subTake f j (forAll l1 (State.subTake f) s))
  refine ⟨_, _, hbefore, hsub.trans hx, hafter, hsub', congrArg Host.Outcome.next ?_⟩
  unfold gooseFrameEffect
  rw [hcopy, if_neg Bool.false_ne_true, hl]
  exact List.foldl_append

/-- R554: a frame of another confRev marks the subscription. -/
theorem subTake_confRev {x : SubSt} (hx : lookupKey s.net.subs j = some x) (hon : s.subOn j = true) {f : GooseFrame}
    (hmatch : x.decl.dst = f.dst ∧ x.decl.appid = f.appid ∧ x.decl.gocbRef = f.gocbRef ∧ x.decl.datSet = f.datSet) (hrev : x.decl.confRev ≠ f.confRev) :
    lookupKey (s.subTake f j).net.subs j = some { x with confRev := true } ∧ (s.subTake f j).get R.NETSV_NSTAT_GS_CONFREV = 1
      ∧ { cls := .net, unit := 0x0711, req := .l0 } ∈ (s.subTake f j).flt.inbox := by
  have htake : s.subTake f j = ((s.setSub j { x with confRev := true }).raise R.NETSV_NSTAT_GS_CONFREV).event0 .net gooseUnit 0 := by
    unfold State.subTake
    simp only [hx, hon, hmatch, and_self, decide_true, Bool.and_self, if_true, hrev, if_false]
  have hsub := (setSub_reads j { x with confRev := true } s).1
  have hbit : ((s.setSub j { x with confRev := true }).raise R.NETSV_NSTAT_GS_CONFREV).get R.NETSV_NSTAT_GS_CONFREV = 1 := get_raise_same (by decide) (by decide) rfl _
  rw [htake]
  refine ⟨(congrArg (fun n : NetSt => lookupKey n.subs j) (raise_net R.NETSV_NSTAT_GS_CONFREV _)).trans hsub, hbit, List.mem_append_right _ (List.mem_singleton.mpr rfl)⟩

/-- R555: what blocks the arm blocks it, and says so. -/
theorem subAct_blocks {d : SubDecl} (h5 : s.up 5 = true) (hact : d.action = 2) (hmode : s.arm.mode = .run ∨ s.arm.mode = .blocked) :
    (s.subAct d false).arm.mode = .blocked ∧ (s.subAct d false).get R.NETSV_NSTAT_GS_TRIP = 1 := by
  obtain ⟨hb, -, hr⟩ := goBlock_mode s
  have hblocked : s.goBlock.arm.mode = .blocked := hmode.elim (hr h5) hb
  have heffect : s.subAct d false = (s.goBlock.raise R.NETSV_NSTAT_GS_TRIP).event .net gooseUnit 0 := by
    unfold State.subAct
    rw [if_neg (by omega), if_pos ⟨hact, rfl⟩]
  have hbit : (s.goBlock.raise R.NETSV_NSTAT_GS_TRIP).get R.NETSV_NSTAT_GS_TRIP = 1 := get_raise_same (by decide) (by decide) rfl _
  obtain ⟨regs, msix0, msix1, hraise⟩ := raise_shape R.NETSV_NSTAT_GS_TRIP s.goBlock
  have hmodeR : (s.goBlock.raise R.NETSV_NSTAT_GS_TRIP).arm.mode = .blocked := by rw [hraise]; exact hblocked
  rw [heffect]
  exact ⟨hmodeR, hbit⟩

/-- R554, R555: a frame of the subscription's form gives its member where its numbers are newer, and clears CONFREV. -/
theorem subTake_member {x : SubSt} (hx : lookupKey s.net.subs j = some x) (hon : s.subOn j = true) {f : GooseFrame}
    (hmatch : x.decl.dst = f.dst ∧ x.decl.appid = f.appid ∧ x.decl.gocbRef = f.gocbRef ∧ x.decl.datSet = f.datSet) (hrev : x.decl.confRev = f.confRev) {b : Bool}
    (hb : f.members[x.decl.pos]? = some (some b)) (hnds : f.ndsCom = false) (hsim : f.sim = false) :
    (newerNums x.nums f.stNum f.sqNum = true →
        lookupKey (s.subTake f j).net.subs j
            = some { x with lost := false, val := b, eff := b, confRev := false, test := f.test, nums := some (f.stNum, f.sqNum), talMs := f.talMs }
          ∧ (b = true → x.eff = false → x.decl.action = 2 → f.test = false → s.up 5 = true → (s.arm.mode = .run ∨ s.arm.mode = .blocked) →
              (s.subTake f j).arm.mode = .blocked ∧ (s.subTake f j).get R.NETSV_NSTAT_GS_TRIP = 1))
      ∧ (newerNums x.nums f.stNum f.sqNum = false → lookupKey (s.subTake f j).net.subs j = some { x with confRev := false }) := by
  constructor
  · intro hnew
    obtain ⟨y, hy⟩ : ∃ y : SubSt, y = { x with lost := false, val := b, eff := b, confRev := false, test := f.test, nums := some (f.stNum, f.sqNum), talMs := f.talMs } := ⟨_, rfl⟩
    have htake : s.subTake f j = if b && !x.eff then (s.setSub j y).subAct x.decl f.test else s.setSub j y := by
      unfold State.subTake
      simp only [hx, hon, hmatch, and_self, decide_true, Bool.and_self, if_true, hrev, hb, Option.join_some, hnds, hsim, Bool.not_false, Bool.true_or, hnew, hy]
    rw [htake, ← hy]
    have hsub : lookupKey (s.setSub j y).net.subs j = some y := (setSub_reads j y s).1
    refine ⟨?_, fun hrises hlow hact htest h5 hmode => ?_⟩
    · split
      · rw [subAct_net]
        exact hsub
      · exact hsub
    · rw [hrises, hlow, htest]
      exact subAct_blocks (s := s.setSub j y) h5 hact hmode
  · intro hold
    have htake : s.subTake f j = if x.confRev then s.setSub j { x with confRev := false } else s := by
      unfold State.subTake
      simp only [hx, hon, hmatch, and_self, decide_true, Bool.and_self, if_true, hrev, hb, Option.join_some, hnds, hsim, Bool.not_false, Bool.true_or, hold, Bool.and_false,
        Bool.false_eq_true, if_false]
    rw [htake]
    split
    · exact (setSub_reads j _ s).1
    · next hclear =>
      rw [hx]
      cases x
      simp only [Bool.not_eq_true] at hclear
      rw [hclear]

theorem gooseTimeout_quiet {x : SubSt} (hx : lookupKey s.net.subs j = some x) (hlost : x.lost = true) : exec (.gooseSubTimeout j) s = .next s := by
  refine congrArg Host.Outcome.next ?_
  unfold gooseSubTimeoutEffect
  rw [hx]
  exact if_neg (by simp [hlost])

/-- R554: a silent subscription is LOST. -/
def State.subSilent (j : Nat) (x : SubSt) (s : State) : State :=
  ((s.setSub j { x with lost := true, eff := x.eff || x.decl.failBlk }).raise R.NETSV_NSTAT_GS_LOST).post { cls := .net, unit := gooseUnit, standing := true, src := j }

theorem subSilent_shows (x : SubSt) (s : State) : GooseMoved s (s.subSilent j x)
    ∧ lookupKey (s.subSilent j x).net.subs j = some { x with lost := true, eff := x.eff || x.decl.failBlk } ∧ (s.subSilent j x).get R.NETSV_NSTAT_GS_LOST = 1
    ∧ { cls := .net, unit := 0x0711, standing := true, src := j } ∈ (s.subSilent j x).flt.inbox := by
  have hsub := (setSub_reads j { x with lost := true, eff := x.eff || x.decl.failBlk } s).1
  have hbit : ((s.setSub j { x with lost := true, eff := x.eff || x.decl.failBlk }).raise R.NETSV_NSTAT_GS_LOST).get R.NETSV_NSTAT_GS_LOST = 1 :=
    get_raise_same (by decide) (by decide) rfl _
  exact ⟨((GooseMoved.refl s).setSub.raise (by decide)).post, (congrArg (fun n : NetSt => lookupKey n.subs j) (raise_net R.NETSV_NSTAT_GS_LOST _)).trans hsub, hbit,
    List.mem_append_right _ (List.mem_singleton.mpr rfl)⟩

theorem gooseTimeout_lost {x : SubSt} (h : s.inService = true) (hx : lookupKey s.net.subs j = some x) (hon : s.subOn j = true) (hheard : x.lost = false) :
    Reaches (.gooseSubTimeout j) s (fun t => lookupKey t.net.subs j = some { x with lost := true, eff := x.eff || x.decl.failBlk } ∧ t.mem = s.mem
      ∧ t.get R.NETSV_NSTAT_GS_LOST = 1 ∧ { cls := .net, unit := 0x0711, standing := true, src := j } ∈ t.flt.inbox
      ∧ (x.decl.failBlk = true → x.eff = false → x.decl.action = 2 → s.arm.mode = .run → t.arm.mode = .blocked)) := by
  have heffect : gooseSubTimeoutEffect j s = if x.decl.failBlk && !x.eff then (s.subSilent j x).subAct x.decl false else s.subSilent j x := by
    unfold gooseSubTimeoutEffect
    rw [hx]
    exact if_pos (by rw [hon, hheard]; rfl)
  obtain ⟨hmoved, hsub, hbit, hmem⟩ := subSilent_shows (j := j) x s
  refine ⟨_, congrArg Host.Outcome.next heffect, ?_⟩
  generalize s.subSilent j x = u at hmoved hsub hbit hmem
  have hact : GooseMoved u (u.subAct x.decl false) := (GooseMoved.refl u).subAct
  have hupU : u.up 5 = true := (hmoved.reads (j := j)).2.1 5 |>.trans (inService_common h (by decide))
  split
  · refine ⟨?_, ((hmoved.trans hact).reads (j := j)).1, hact.bits _ (by decide) hbit, hact.inbox _ hmem, fun _ _ hact2 hrun => (subAct_blocks hupU hact2 (hmoved.run hrun)).1⟩
    rw [subAct_net]
    exact hsub
  · next hno =>
    exact ⟨hsub, (hmoved.reads (j := j)).1, hbit, hmem, fun hfail hlow => absurd (by rw [hfail, hlow]; rfl) hno⟩

end

/-- Settles O48: publications by `pubNew_shows` and `gooseRepeat_same`, a frame by the one moment at which it meets the subscription, and a silence by `subSilent_shows`. -/
theorem goose : Obligations.Goose := by
  unfold Obligations.Goose
  intro s h hsubs hpubs
  refine ⟨fun k x hx hon => ⟨fun hsame => ⟨congrArg Host.Outcome.next (pubNew_quiet (.inr ⟨x, hx, hsame⟩)), gooseRepeat_same hx hon hsame⟩, fun hne c hc => ?_⟩,
    fun k hoff => ⟨congrArg Host.Outcome.next (pubNew_quiet (.inl hoff)), gooseRepeat_none (.inl hoff)⟩, gpData_shows h,
    fun j x f hx hon hdst happid hgocb hdat => ⟨fun hcopy => congrArg Host.Outcome.next (if_pos hcopy), fun hcopy hrev => ?_, fun b hcopy hrev hb hnds hsim => ?_⟩,
    fun j x hx hon => ⟨gooseTimeout_quiet hx, gooseTimeout_lost h hx hon⟩⟩
  · obtain ⟨hmem, hother, hat⟩ := pubNew_shows hx hon hne
    have hexec : exec c s = .next (s.pubNew k) := by
      obtain rfl | ⟨rfl, hsome⟩ := hc
      · rfl
      · exact congrArg Host.Outcome.next (gooseRepeat_changed hx hon hne hsome)
    exact ⟨_, hexec, hmem, hother, s.pubNext k x, hat, rfl, rfl, rfl, rfl, rfl⟩
  · obtain ⟨u, t, hbefore, hu, hafter, hsub, hexec⟩ := gooseFrame_meets hsubs hx f hcopy
    obtain ⟨-, -, honU, -⟩ := hbefore.reads (j := j)
    obtain ⟨hat, hbit, hmem⟩ := subTake_confRev hu (honU.trans hon) ⟨hdst, happid, hgocb, hdat⟩ hrev
    exact ⟨t, hexec, hsub.trans hat, hafter.bits _ (by decide) hbit, hafter.inbox _ hmem, ((hbefore.subTake.trans hafter).reads (j := j)).1⟩
  · obtain ⟨u, t, hbefore, hu, hafter, hsub, hexec⟩ := gooseFrame_meets hsubs hx f hcopy
    obtain ⟨-, hupU, honU, -⟩ := hbefore.reads (j := j)
    have hmem := ((hbefore.subTake.trans hafter).reads (j := j)).1
    obtain ⟨hnewer, holder⟩ := subTake_member hu (honU.trans hon) ⟨hdst, happid, hgocb, hdat⟩ hrev hb hnds hsim
    refine ⟨fun hnew => ?_, fun hold => ⟨t, hexec, hsub.trans (holder hold), hmem⟩⟩
    obtain ⟨hat, hblocks⟩ := hnewer hnew
    refine ⟨t, hexec, hmem, hsub.trans hat, fun hrises hlow hact htest hrun => ?_⟩
    obtain ⟨hmode, hbit⟩ := hblocks hrises hlow hact htest ((hupU 5).trans (inService_common h (by decide))) (hbefore.run hrun)
    exact ⟨hafter.blocked hmode, hafter.bits _ (by decide) hbit⟩

end Sys2Proof.Machine
end

section
-- One proof after the other: side by side, their many threads would take more memory than the check has.
set_option Elab.async false
namespace Sys2Proof.Machine

/-! ## Sampled values delivered (R547, R548) -/

/-- What a delivered channel moves: anything but memory, the network's own state and the bits 2 of its page, SV_QBAD among them. -/
def deliverFoot : Foot :=
  ⟨fun s => { mem := s.mem, net := s.net }, fun k => !((k / 0x20000).beq 0xA4 && (k % 32).beq 2), fun _ => rfl⟩

section
variable {s₀ s : State}

theorem Within.svToLoops {ch v : Nat} (h : Within deliverFoot s₀ s) : Within deliverFoot s₀ (s.svToLoops ch v) := by
  refine h.forAll fun {k x} hx => hx.thenIf fun hx => ?_
  extract_lets b
  have hb : Within deliverFoot s₀ b := hx.thenIf fun hx => hx.put (by
    have hbit : (R.U_MEAS_Y k).key % 32 = 0 := by
      simp only [R.U_MEAS_Y, Field.key]
      omega
    change (!(((R.U_MEAS_Y k).key / 0x20000).beq 0xA4 && ((R.U_MEAS_Y k).key % 32).beq 2)) = true
    rw [hbit]
    exact congrArg not (Bool.and_false _))
  exact (hb.move (t := b.setLoop k { b.loop k with news := addKey ch (b.loop k).news })).thenIf fun h => h.move

theorem Within.routeArm {c v : Nat} (h : Within deliverFoot s₀ s) : Within deliverFoot s₀ (s.routeArm c v) := by
  refine h.thenIf fun h => ?_
  unfold State.overLink
  refine .ite h.move ?_
  refine h.thenIf fun h => .ite (.ite ?_ h.putS) h.putS
  exact (h.put (G := R.ARM_I_ARM_I)).move

theorem Within.postOperand {g tag idx v : Nat} (h : Within deliverFoot s₀ s) : Within deliverFoot s₀ (s.postOperandFrom g tag idx v) := by
  have horphan : Within deliverFoot s₀ (((s.addTo R.SCHED_MATCH_CNT_ORPHAN 1).raise R.SCHED_STAT_ORPHAN).event0 .sched storeUnit 0) :=
    ((h.addTo (by decide)).raise ⟨by decide, by decide⟩).event0
  have hfilled : ∀ x : State, Within deliverFoot s₀ x → Within deliverFoot s₀ x.fillUpdate := fun x hx => (hx.put (by decide)).put (by decide)
  unfold State.postOperandFrom State.overLink
  refine .ite h.move (h.thenIf fun h => ?_)
  change Within deliverFoot s₀ (s.postOperandAt false { dest := none, tag := tag, idx := idx, val := v }).1
  unfold State.postOperandAt
  split
  · exact horphan
  · split
    · exact horphan
    · split
      · exact ((h.move (t := s.setFill tag (insertKey idx v (tget [] s.sched.fill tag)))).addTo (G := R.SCHED_MATCH_CNT_DUP) (by decide)).raise (G := R.SCHED_STAT_DUP) ⟨by decide, by decide⟩
      · split
        · exact (h.move (t := s.setStalls _)).raise (G := R.SCHED_STAT_MATCH_STALL) ⟨by decide, by decide⟩
        · unfold State.fillOperand
          extract_lets ops
          dsimp only
          split
          · exact hfilled _ h.move
          · exact hfilled _ h.move

theorem Within.deliverPost {g j : Nat} (h : Within deliverFoot s₀ s) : Within deliverFoot s₀ (s.postFlagFrom g j) := by
  unfold State.postFlagFrom State.overLink
  split
  · exact h.move
  · obtain ⟨regs, sched, loops, adcs, hshape, hget⟩ := postFlags_shape (2 ^ j) s
    refine h.trans ⟨?_, fun G hG => hget G fun he => ?_⟩
    · rw [State.postFlag, hshape]
      rfl
    · rw [he] at hG
      exact absurd hG (by decide)

theorem Within.svDeliver {c v : Nat} {d : ChannelDecl} (h : Within deliverFoot s₀ s) : Within deliverFoot s₀ (s.svDeliver c v d) := by
  unfold State.svDeliver
  extract_lets s1 s2
  have h1 : Within deliverFoot s₀ s1 := Within.routeArm (.ite h.move h.svToLoops)
  clear_value s1
  have h2 : Within deliverFoot s₀ s2 := h1.thenIf fun h => h.postOperand
  exact h2.thenIf fun h => h.deliverPost

end

/-- R547: what an ASDU makes of a channel. -/
def ChanSt.heard (bad : Bool) (a : Asdu) (x : ChanSt) : ChanSt :=
  match a.entries[x.decl.entry]? with
  | none => { x with qbad := true }
  | some (v, q) => if bad || !svGood q then { x with qbad := true } else { x with val := svValue v x.decl.mul, got := true, qbad := false }

/-- `ChansMoved s t`: of the network's state, the channels alone have moved. -/
structure ChansMoved (s t : State) : Prop where
  net : ∃ chans, t.net = { s.net with chans }
  mem : t.mem = s.mem
  qbad : t.get R.NETSV_NSTAT_SV_QBAD = s.get R.NETSV_NSTAT_SV_QBAD

section
variable {s : State} {c : Nat}

theorem ChansMoved.refl (s : State) : ChansMoved s s := ⟨⟨_, rfl⟩, rfl, rfl⟩

theorem ChansMoved.trans {t u : State} (h : ChansMoved s t) (k : ChansMoved t u) : ChansMoved s u := by
  obtain ⟨⟨chans, hnet⟩, hmem, hqbad⟩ := h
  obtain ⟨⟨chans', hnet'⟩, hmem', hqbad'⟩ := k
  exact ⟨⟨chans', by rw [hnet', hnet]⟩, hmem'.trans hmem, hqbad'.trans hqbad⟩

/-- R547: one channel of an accepted ASDU. -/
theorem svChannel_shows (bad : Bool) (a : Asdu) (c : Nat) (x : ChanSt) (s : State) : ChansMoved s (s.svChannel bad a c x)
    ∧ lookupKey (s.svChannel bad a c x).net.chans c = some (x.heard bad a) ∧ ∀ d, d ≠ c → lookupKey (s.svChannel bad a c x).net.chans d = lookupKey s.net.chans d := by
  have hset : ∀ y : ChanSt, ChansMoved s (s.setChan c y) ∧ lookupKey (s.setChan c y).net.chans c = some y
      ∧ ∀ d, d ≠ c → lookupKey (s.setChan c y).net.chans d = lookupKey s.net.chans d := fun y =>
    ⟨⟨⟨_, rfl⟩, rfl, rfl⟩, lookupKey_insertKey_same c y s.net.chans, fun d hd => lookupKey_insertKey_other hd y s.net.chans⟩
  unfold State.svChannel ChanSt.heard
  cases a.entries[x.decl.entry]? with
  | none => exact hset _
  | some e =>
    obtain ⟨v, q⟩ := e
    dsimp only
    split
    · exact hset _
    · obtain ⟨hmoved, hsame, hother⟩ := hset { x with val := svValue v x.decl.mul, got := true, qbad := false }
      generalize s.setChan c { x with val := svValue v x.decl.mul, got := true, qbad := false } = u at hmoved hsame hother
      have hfoot : Within deliverFoot u (u.svDeliver c (svValue v x.decl.mul) x.decl) := (Within.refl _ u).svDeliver
      generalize u.svDeliver c (svValue v x.decl.mul) x.decl = t at hfoot
      have hnet := congrArg (fun y : State => y.net) hfoot.mask
      have hmem := congrArg (fun y : State => y.mem) hfoot.mask
      replace hnet : t.net = u.net := hnet
      have hkept : ChansMoved u t := ⟨⟨u.net.chans, hnet⟩, hmem, hfoot.keys _ rfl⟩
      rw [hnet]
      exact ⟨hmoved.trans hkept, hsame, hother⟩

/-- The channels of an ASDU, one after the other. -/
theorem svChannels_others (bad : Bool) (a : Asdu) {l : List (Nat × ChanSt)} (hc : c ∉ l.map (·.1)) (s : State) :
    ChansMoved s (l.foldl (fun acc e => acc.svChannel bad a e.1 e.2) s)
      ∧ lookupKey (l.foldl (fun acc e => acc.svChannel bad a e.1 e.2) s).net.chans c = lookupKey s.net.chans c :=
  List.foldlRecOn (motive := fun t : State => ChansMoved s t ∧ lookupKey t.net.chans c = lookupKey s.net.chans c) l _ ⟨.refl s, rfl⟩
    fun x ⟨hmoved, hat⟩ e he => by
      obtain ⟨hstep, -, hother⟩ := svChannel_shows bad a e.1 e.2 x
      exact ⟨hmoved.trans hstep, (hother c fun hce => hc (hce ▸ List.mem_map_of_mem he)).trans hat⟩

theorem svChannels_moved (bad : Bool) (a : Asdu) (l : List (Nat × ChanSt)) (s : State) : ChansMoved s (l.foldl (fun acc e => acc.svChannel bad a e.1 e.2) s) :=
  List.foldlRecOn (motive := ChansMoved s) l _ (.refl s) fun x hx e _ => hx.trans (svChannel_shows bad a e.1 e.2 x).1

theorem svChannels_at (bad : Bool) (a : Asdu) {l : List (Nat × ChanSt)} (hnodup : (l.map (·.1)).Nodup) {z : ChanSt} (hz : (c, z) ∈ l) (s : State) :
    lookupKey (l.foldl (fun acc e => acc.svChannel bad a e.1 e.2) s).net.chans c = some (z.heard bad a) := by
  induction l generalizing s with
  | nil => cases hz
  | cons e l ih =>
    obtain ⟨he, hl⟩ := List.nodup_cons.mp hnodup
    obtain rfl | hz := List.mem_cons.mp hz
    · obtain ⟨-, hat⟩ := svChannels_others bad a he (s.svChannel bad a c z)
      obtain ⟨-, hsame, -⟩ := svChannel_shows bad a c z s
      exact hat.trans hsame
    · exact ih hl hz (s.svChannel bad a e.1 e.2)

/-! ## The subscriber (R545 to R549, R598 to R605) -/

/-- What a table shows for a key stands in it. -/
theorem mem_of_lookupKey {α : Type} {l : List (Nat × α)} {n : Nat} {v : α} (h : lookupKey l n = some v) : (n, v) ∈ l := by
  induction l with
  | nil => cases h
  | cons e t ih =>
    obtain ⟨k, w⟩ := e
    unfold lookupKey at h
    split at h
    · next hk =>
      cases h
      exact hk ▸ List.mem_cons_self
    · exact List.mem_cons_of_mem _ (ih h)

/-- R547, R549: what an accepted ASDU makes of its stream. -/
def StreamSt.heard (x : StreamSt) (a : Asdu) (gap : Nat) (q : Bool) : StreamSt :=
  { x with lost := false, synch := a.synch % 4, last := some a.smpCnt, seen := (a.smpCnt :: x.seen).take (max 1 (x.decl.rate / 2))
           miss := (x.miss + gap) % 65536, qbad := (x.qbad + b2n q) % 65536 }

theorem svTake_shows (hchans : keysRise none s.net.chans = true) (j : Nat) (x : StreamSt) (cnts : List Nat) (a : Asdu) :
    (s.svTake j x cnts a).mem = s.mem
      ∧ (∃ y, lookupKey (s.svTake j x cnts a).net.streams j = some y ∧ y.lost = false ∧ y.last = some a.smpCnt ∧ y.decl = x.decl
          ∧ y.miss = (x.miss + svGap x.decl.rate x.last a.smpCnt cnts) % 65536)
      ∧ ∀ c z, lookupKey s.net.chans c = some z → z.decl.stream = j →
          lookupKey (s.svTake j x cnts a).net.chans c = some (z.heard (decide (a.synch < x.decl.synchReq)) a)
            ∧ ((∃ v q, a.entries[z.decl.entry]? = some (v, q) ∧ svGood q = false) → (s.svTake j x cnts a).get R.NETSV_NSTAT_SV_QBAD = 1) := by
  unfold State.svTake
  extract_lets cs gap bad q x1 s1
  have hstream : lookupKey (s.setStream j x1).net.streams j = some x1 := lookupKey_insertKey_same j x1 s.net.streams
  obtain ⟨hnetM, hmemM⟩ := flagIf_net (decide (0 < gap)) R.NETSV_NSTAT_SV_MISS (s.setStream j x1)
  obtain ⟨hnetB, hmemB⟩ := flagIf_net bad R.NETSV_NSTAT_SV_SYNCH ((s.setStream j x1).flagIf (decide (0 < gap)) R.NETSV_NSTAT_SV_MISS)
  obtain ⟨hnetQ, hmemQ⟩ := flagIf_net q R.NETSV_NSTAT_SV_QBAD s1
  have hbit : q = true → (s1.flagIf q R.NETSV_NSTAT_SV_QBAD).get R.NETSV_NSTAT_SV_QBAD = 1 := fun hq => by
    rw [hq]
    exact get_raise_same (F := R.NETSV_NSTAT_SV_QBAD) (by decide) (by decide) rfl _
  have hs1 : s1.net = (s.setStream j x1).net ∧ s1.mem = s.mem := ⟨hnetB.trans hnetM, hmemB.trans hmemM⟩
  clear_value s1
  have hmoved := svChannels_moved bad a cs (s1.flagIf q R.NETSV_NSTAT_SV_QBAD)
  have hat : ∀ c z, (c, z) ∈ cs → _ := fun c z hz => svChannels_at bad a (c := c) (z := z) (l := cs) (by
    have hnodup := keys_nodup hchans
    exact hnodup.sublist (List.filter_sublist.map _)) hz (s1.flagIf q R.NETSV_NSTAT_SV_QBAD)
  generalize cs.foldl (fun acc e => acc.svChannel bad a e.1 e.2) (s1.flagIf q R.NETSV_NSTAT_SV_QBAD) = t at hmoved hat
  obtain ⟨⟨chans, hnet⟩, hmem, hqbad⟩ := hmoved
  refine ⟨hmem.trans (hmemQ.trans hs1.2), ⟨x1, ?_, rfl, rfl, rfl, rfl⟩, fun c z hz hstr => ?_⟩
  · rw [hnet, hnetQ, hs1.1]
    exact hstream
  · have hcs : (c, z) ∈ cs := List.mem_filter.mpr ⟨mem_of_lookupKey hz, decide_eq_true hstr⟩
    refine ⟨hat c z hcs, fun ⟨v, w, hentry, hbadq⟩ => hqbad.trans (hbit ?_)⟩
    have hany : svAnyBad a cs = true := List.any_eq_true.mpr ⟨(c, z), hcs, by simp [hentry, hbadq]⟩
    exact Bool.or_eq_true_iff.mpr (.inr hany)

end

end Sys2Proof.Machine
end

section
-- One proof after the other: side by side, their many threads would take more memory than the check has.
set_option Elab.async false
namespace Sys2Proof.Machine

/-! ## The statement's clauses -/

section
variable {s : State}

/-- R545 to R547: what an SV frame of an enabled stream does. -/
theorem svFrameEffect_eq {f : SvFrame} {j : Nat} {x : StreamSt} {a : Asdu} (hup : s.svUp = true)
    (hfind : s.net.streams.find? (fun e => streamMatch e.2.decl f && s.streamOn e.1) = some (j, x)) (htop : topAsdu f.asdus = some a) (hge : 1 ≤ f.asdus.length)
    (hle : f.asdus.length ≤ 8) (heth : s.ethUp f.port = true) :
    svFrameEffect f s = if !s.isCopy f.port f.srcMac f.red && (!f.sim || s.on R.NETSV_SV_CFG_SIM_OK)
      then (if x.seen.contains a.smpCnt || !f.asdus.all (asduOk x.decl) then s else s.svTake j x (f.asdus.map (·.smpCnt)) a) else s := by
  unfold svFrameEffect
  rw [hup, heth, hfind, htop, decide_eq_true ⟨hge, hle⟩]
  simp only [Bool.true_and, Bool.and_true]

theorem svTimeout_quiet {j : Nat} {x : StreamSt} (hx : lookupKey s.net.streams j = some x) (hlost : x.lost = true) : exec (.svStreamTimeout j) s = .next s := by
  refine congrArg Host.Outcome.next ?_
  unfold svTimeoutEffect
  rw [hx]
  exact if_neg (by simp [hlost])

/-- R549: a silent stream is LOST. -/
theorem svTimeout_lost (hup : s.svUp = true) {j : Nat} {x : StreamSt} (hx : lookupKey s.net.streams j = some x) (hon : s.streamOn j = true) (hheard : x.lost = false) :
    Reaches (.svStreamTimeout j) s (fun t => lookupKey t.net.streams j = some { x with lost := true, seen := [] } ∧ t.get R.NETSV_NSTAT_SV_LOST = 1 ∧ t.mem = s.mem
      ∧ (s.streamKey j x = true → s.arm.mode ≠ .off → t.flt.inbox = s.flt.inbox ++ [{ cls := .net, unit := 0x0710, req := .atLeast 3, standing := true, src := j }])
      ∧ ((s.streamKey j x = false ∨ s.arm.mode = .off) → t.flt.inbox = s.flt.inbox ++ [{ cls := .net, unit := 0x0710, standing := true, src := j }])) := by
  have heffect : svTimeoutEffect j s = if s.streamKey j x && decide (s.arm.mode ≠ .off)
      then ((s.setStream j { x with lost := true, seen := [] }).raise R.NETSV_NSTAT_SV_LOST).post { cls := .net, unit := subUnit, req := .atLeast 3, standing := true, src := j }
      else ((s.setStream j { x with lost := true, seen := [] }).raise R.NETSV_NSTAT_SV_LOST).post { cls := .net, unit := subUnit, standing := true, src := j } := by
    unfold svTimeoutEffect
    rw [hx]
    exact if_pos (by rw [hup, hon, hheard]; rfl)
  have hstream : lookupKey (s.setStream j { x with lost := true, seen := [] }).net.streams j = some { x with lost := true, seen := [] } :=
    lookupKey_insertKey_same j _ s.net.streams
  have hbit : ((s.setStream j { x with lost := true, seen := [] }).raise R.NETSV_NSTAT_SV_LOST).get R.NETSV_NSTAT_SV_LOST = 1 :=
    get_raise_same (by decide) (by decide) rfl _
  have hraised : ((s.setStream j { x with lost := true, seen := [] }).raise R.NETSV_NSTAT_SV_LOST).net = (s.setStream j { x with lost := true, seen := [] }).net
      ∧ ((s.setStream j { x with lost := true, seen := [] }).raise R.NETSV_NSTAT_SV_LOST).mem = s.mem
      ∧ ((s.setStream j { x with lost := true, seen := [] }).raise R.NETSV_NSTAT_SV_LOST).flt.inbox = s.flt.inbox := by
    obtain ⟨regs, msix0, msix1, hraise⟩ := raise_shape R.NETSV_NSTAT_SV_LOST (s.setStream j { x with lost := true, seen := [] })
    rw [hraise]
    exact ⟨rfl, rfl, rfl⟩
  refine ⟨_, congrArg Host.Outcome.next heffect, ?_⟩
  generalize (s.setStream j { x with lost := true, seen := [] }).raise R.NETSV_NSTAT_SV_LOST = u at hbit hraised
  obtain ⟨hnet, hmem, hinbox⟩ := hraised
  rw [← hnet] at hstream
  split
  · next hneeded =>
    obtain ⟨hkey, hmode⟩ := Bool.and_eq_true_iff.mp hneeded
    refine ⟨hstream, hbit, hmem, fun _ _ => congrArg (· ++ _) hinbox, fun hnot => ?_⟩
    obtain hkey' | hoff := hnot
    · rw [hkey] at hkey'
      cases hkey'
    · exact absurd hoff (of_decide_eq_true hmode)
  · next hnot =>
    refine ⟨hstream, hbit, hmem, fun hkey hmode => absurd ?_ hnot, fun _ => congrArg (· ++ _) hinbox⟩
    rw [hkey, decide_eq_true hmode]
    rfl

theorem sv_off (hoff : s.on R.NETSV_CTRL_SV_EN = false) (f : SvFrame) (j : Nat) : exec (.svFrameReceived f) s = .next s ∧ exec (.svStreamTimeout j) s = .next s := by
  have hdown : s.svUp = false := by simp [State.svUp, hoff]
  refine ⟨congrArg Host.Outcome.next ?_, congrArg Host.Outcome.next ?_⟩
  · unfold svFrameEffect
    exact if_neg (by simp [hdown])
  · unfold svTimeoutEffect
    split
    · rfl
    · exact if_neg (by simp [hdown])

/-! ### The three windows (R598, R600, R605) -/

/-- A window that shows an index and what a table holds for it: the fields written read back, and nothing else has moved. -/
theorem window_shows (hrise : keysRise none s.regs = true) {l : List (Field × Nat)} (hnodup : (l.map (fun e => e.1.key)).Nodup) :
    (∀ e ∈ l, (s.putAll l).get e.1 = e.2 % 2 ^ e.1.w) ∧ (s.putAll l).net = s.net ∧ (s.putAll l).mem = s.mem :=
  ⟨fun e he => get_putAll_mem hrise hnodup (F := e.1) (v := e.2) he, State.putAll_net s l, State.putAll_mem s l⟩

theorem svsInfo_shows (h : s.inService = true) (v : Nat) : Reaches (.svsInfoWrite v) s (fun t => t.get R.NETSV_SVS_INFO_IDX = v % 64 ∧ t.net = s.net ∧ t.mem = s.mem
    ∧ (lookupKey s.net.streams (v % 64) = none → t.get R.NETSV_SVS_INFO_LOST = 0 ∧ t.get R.NETSV_SVS_CNT_MISS = 0)
    ∧ (∀ x, lookupKey s.net.streams (v % 64) = some x → t.get R.NETSV_SVS_INFO_LOST = b2n x.lost ∧ t.get R.NETSV_SVS_CNT_MISS = x.miss % 2 ^ R.NETSV_SVS_CNT_MISS.w)) := by
  have heffect : ∃ lost crit synch cnt miss qbad, svsInfoEffect v s = s.putAll [(R.NETSV_SVS_INFO_IDX, v % 64), (R.NETSV_SVS_INFO_LOST, lost), (R.NETSV_SVS_INFO_CRIT, crit),
        (R.NETSV_SVS_INFO_SYNCH, synch), (R.NETSV_SVS_INFO_SMPCNT, cnt), (R.NETSV_SVS_CNT_MISS, miss), (R.NETSV_SVS_CNT_QBAD, qbad)]
      ∧ (lookupKey s.net.streams (v % 64) = none → lost = 0 ∧ miss = 0) ∧ ∀ x, lookupKey s.net.streams (v % 64) = some x → lost = b2n x.lost ∧ miss = x.miss := by
    have hup : s.up 7 = true := inService_common h (by decide)
    unfold svsInfoEffect
    rw [if_pos hup]
    dsimp only
    cases lookupKey s.net.streams (v % 64) with
    | none => exact ⟨0, 0, 0, 0, 0, 0, rfl, fun _ => ⟨rfl, rfl⟩, fun _ hx => nomatch hx⟩
    | some x => exact ⟨_, _, _, _, _, _, rfl, (fun hx => nomatch hx), fun y hy => by cases hy; exact ⟨rfl, rfl⟩⟩
  obtain ⟨lost, crit, synch, cnt, miss, qbad, heffect, hnone, hsome⟩ := heffect
  obtain ⟨hread, hnet, hmem⟩ := window_shows (inService_regsRise h) (l := [(R.NETSV_SVS_INFO_IDX, v % 64), (R.NETSV_SVS_INFO_LOST, lost), (R.NETSV_SVS_INFO_CRIT, crit),
    (R.NETSV_SVS_INFO_SYNCH, synch), (R.NETSV_SVS_INFO_SMPCNT, cnt), (R.NETSV_SVS_CNT_MISS, miss), (R.NETSV_SVS_CNT_QBAD, qbad)]) (by simp only [List.map_cons, List.map_nil]; decide)
  refine ⟨_, congrArg Host.Outcome.next ((commanded_netsvPage h rfl _).trans heffect), ?_⟩
  generalize s.putAll _ = t at hread hnet hmem
  have hidx := hread (R.NETSV_SVS_INFO_IDX, v % 64) (by simp)
  have hlost := hread (R.NETSV_SVS_INFO_LOST, lost) (by simp)
  have hmiss := hread (R.NETSV_SVS_CNT_MISS, miss) (by simp)
  refine ⟨hidx.trans (Nat.mod_mod v 64), hnet, hmem, fun hx => ?_, fun x hx => ?_⟩
  · obtain ⟨rfl, rfl⟩ := hnone hx
    exact ⟨hlost, hmiss⟩
  · obtain ⟨rfl, rfl⟩ := hsome x hx
    exact ⟨hlost.trans (Nat.mod_eq_of_lt (b2n_lt x.lost)), hmiss⟩

theorem svcInfo_shows (h : s.inService = true) (v : Nat) : Reaches (.svcInfoWrite v) s (fun t => t.get R.NETSV_SVC_INFO_IDX = v % 256 ∧ t.net = s.net ∧ t.mem = s.mem
    ∧ (lookupKey s.net.chans (v % 256) = none → t.get R.NETSV_SVC_INFO_STALE = 1 ∧ t.get R.NETSV_SVC_VAL_VAL = 0)
    ∧ (∀ x, lookupKey s.net.chans (v % 256) = some x → t.get R.NETSV_SVC_VAL_VAL = x.val % 2 ^ 32)) := by
  have heffect : ∃ stale qbad stream entry val, svcInfoEffect v s = s.putAll [(R.NETSV_SVC_INFO_IDX, v % 256), (R.NETSV_SVC_INFO_STALE, stale), (R.NETSV_SVC_INFO_QBAD, qbad),
        (R.NETSV_SVC_INFO_STREAM, stream), (R.NETSV_SVC_INFO_ENTRY, entry), (R.NETSV_SVC_VAL_VAL, val)]
      ∧ (lookupKey s.net.chans (v % 256) = none → stale = 1 ∧ val = 0) ∧ ∀ x, lookupKey s.net.chans (v % 256) = some x → val = x.val := by
    have hup : s.up 7 = true := inService_common h (by decide)
    unfold svcInfoEffect
    rw [if_pos hup]
    dsimp only
    cases lookupKey s.net.chans (v % 256) with
    | none => exact ⟨1, 0, 0, 0, 0, rfl, fun _ => ⟨rfl, rfl⟩, fun _ hx => nomatch hx⟩
    | some x => exact ⟨_, _, _, _, _, rfl, (fun hx => nomatch hx), fun y hy => by cases hy; rfl⟩
  obtain ⟨stale, qbad, stream, entry, val, heffect, hnone, hsome⟩ := heffect
  obtain ⟨hread, hnet, hmem⟩ := window_shows (inService_regsRise h) (l := [(R.NETSV_SVC_INFO_IDX, v % 256), (R.NETSV_SVC_INFO_STALE, stale), (R.NETSV_SVC_INFO_QBAD, qbad),
    (R.NETSV_SVC_INFO_STREAM, stream), (R.NETSV_SVC_INFO_ENTRY, entry), (R.NETSV_SVC_VAL_VAL, val)]) (by simp only [List.map_cons, List.map_nil]; decide)
  refine ⟨_, congrArg Host.Outcome.next ((commanded_netsvPage h rfl _).trans heffect), ?_⟩
  generalize s.putAll _ = t at hread hnet hmem
  have hidx := hread (R.NETSV_SVC_INFO_IDX, v % 256) (by simp)
  have hstale := hread (R.NETSV_SVC_INFO_STALE, stale) (by simp)
  have hval := hread (R.NETSV_SVC_VAL_VAL, val) (by simp)
  refine ⟨hidx.trans (Nat.mod_mod v 256), hnet, hmem, fun hx => ?_, fun x hx => ?_⟩
  · obtain ⟨rfl, rfl⟩ := hnone hx
    exact ⟨hstale, hval⟩
  · obtain rfl := hsome x hx
    exact hval

theorem gsInfo_shows (h : s.inService = true) (v : Nat) : Reaches (.gsInfoWrite v) s (fun t => t.get R.NETSV_GS_INFO_IDX = v % 128 ∧ t.net = s.net ∧ t.mem = s.mem
    ∧ (lookupKey s.net.subs (v % 128) = none → t.get R.NETSV_GS_INFO_VAL = 0)
    ∧ (∀ x, lookupKey s.net.subs (v % 128) = some x → t.get R.NETSV_GS_INFO_VAL = b2n x.val ∧ t.get R.NETSV_GS_INFO_LOST = b2n x.lost)) := by
  have heffect : ∃ lost val rev test num, gsInfoEffect v s = s.putAll [(R.NETSV_GS_INFO_IDX, v % 128), (R.NETSV_GS_INFO_LOST, lost), (R.NETSV_GS_INFO_VAL, val),
        (R.NETSV_GS_INFO_CONFREV, rev), (R.NETSV_GS_INFO_TEST, test), (R.NETSV_GS_INFO_STNUM, num)]
      ∧ (lookupKey s.net.subs (v % 128) = none → val = 0) ∧ ∀ x, lookupKey s.net.subs (v % 128) = some x → val = b2n x.val ∧ lost = b2n x.lost := by
    have hup : s.up 7 = true := inService_common h (by decide)
    unfold gsInfoEffect
    rw [if_pos hup]
    dsimp only
    cases lookupKey s.net.subs (v % 128) with
    | none => exact ⟨0, 0, 0, 0, 0, rfl, fun _ => rfl, fun _ hx => nomatch hx⟩
    | some x => exact ⟨_, _, _, _, _, rfl, (fun hx => nomatch hx), fun y hy => by cases hy; exact ⟨rfl, rfl⟩⟩
  obtain ⟨lost, val, rev, test, num, heffect, hnone, hsome⟩ := heffect
  obtain ⟨hread, hnet, hmem⟩ := window_shows (inService_regsRise h) (l := [(R.NETSV_GS_INFO_IDX, v % 128), (R.NETSV_GS_INFO_LOST, lost), (R.NETSV_GS_INFO_VAL, val),
    (R.NETSV_GS_INFO_CONFREV, rev), (R.NETSV_GS_INFO_TEST, test), (R.NETSV_GS_INFO_STNUM, num)]) (by simp only [List.map_cons, List.map_nil]; decide)
  refine ⟨_, congrArg Host.Outcome.next ((commanded_netsvPage h rfl _).trans heffect), ?_⟩
  generalize s.putAll _ = t at hread hnet hmem
  have hidx := hread (R.NETSV_GS_INFO_IDX, v % 128) (by simp)
  have hlost := hread (R.NETSV_GS_INFO_LOST, lost) (by simp)
  have hval := hread (R.NETSV_GS_INFO_VAL, val) (by simp)
  refine ⟨hidx.trans (Nat.mod_mod v 128), hnet, hmem, fun hx => ?_, fun x hx => ?_⟩
  · obtain rfl := hnone hx
    exact hval
  · obtain ⟨rfl, rfl⟩ := hsome x hx
    exact ⟨hval.trans (Nat.mod_eq_of_lt (b2n_lt x.val)), hlost.trans (Nat.mod_eq_of_lt (b2n_lt x.lost))⟩

end

/-- Settles O47: a frame by `svTake_shows`, a silence by `svTimeout_lost`, and the windows by what they latch. -/
theorem sampledValues : Obligations.SampledValues := by
  unfold Obligations.SampledValues
  intro s h hstreams hchans
  refine ⟨fun hup => ⟨fun f j x a hfind htop hge hle heth => ?_, fun j x hx hon => ⟨svTimeout_quiet hx, svTimeout_lost hup hx hon⟩⟩, sv_off,
    fun v => ⟨svsInfo_shows h v, svcInfo_shows h v, gsInfo_shows h v⟩⟩
  have heffect := svFrameEffect_eq hup hfind htop hge hle heth
  refine ⟨fun hcopy => congrArg Host.Outcome.next ?_, fun hform => congrArg Host.Outcome.next ?_, fun hcopy hform =>
    ⟨fun hsim hok => congrArg Host.Outcome.next ?_, fun hsim hseen => congrArg Host.Outcome.next ?_, fun hsim hnew =>
      ⟨s.svTake j x (f.asdus.map (·.smpCnt)) a, congrArg Host.Outcome.next (heffect.trans ?_), ?_⟩⟩⟩
  · rw [heffect, hcopy]
    rfl
  · rw [heffect, hform]
    simp
  · rw [heffect, hsim, hok]
    simp
  · rw [heffect, List.contains_iff_mem.mpr hseen]
    simp
  · rw [hcopy, hsim, hform]
    simp [hnew]
  · obtain ⟨hmem, hstream, hchan⟩ := svTake_shows hchans j x (f.asdus.map (·.smpCnt)) a
    refine ⟨hmem, hstream, fun c z v q hz hstr hentry => ?_⟩
    obtain ⟨hat, hbit⟩ := hchan c z hz hstr
    refine ⟨fun hgood hsynch => hat.trans ?_, fun hbad => ⟨hat.trans ?_, hbit ⟨v, q, hentry, hbad⟩⟩⟩
    · simp [ChanSt.heard, hentry, hgood, Nat.not_lt.mpr hsynch]
    · simp [ChanSt.heard, hentry, hbad]

end Sys2Proof.Machine
end

section
-- One proof after the other: side by side, their many threads would take more memory than the check has.
set_option Elab.async false
namespace Sys2Proof.Machine

/-! ## The image is applied (R466, R685, R868) -/

/-- What the copy of the code image moves: memory. -/
def codeFoot : Foot := ⟨fun s => { s.bare with mem := {}, memBad := [] }, fun _ => false, fun _ => rfl⟩

/-- What the lanes' repeat marks move with the pair's part. -/
def markFoot : Foot := ⟨fun s => { s.bare with lanes := [], amber := {} }, fun _ => false, fun _ => rfl⟩

/-- What the end of step 6 moves beside the phase: the lanes' repeat marks, the conditions, and what the publications send. -/
def endFoot : Foot :=
  ⟨fun s => { s.bare with rings := [], amber := {}, lanes := [], net := { s.net with pubs := [], sentOn := [], txSeq := [] } }, unitKeys, fun _ => rfl⟩

theorem markFoot_sub_endFoot : markFoot.Sub endFoot := ⟨fun _ => rfl, fun _ _ => rfl⟩

theorem condFoot_sub_endFoot : condFoot.Sub endFoot := ⟨fun _ => rfl, fun _ hk => hk⟩

theorem pubFoot_sub_endFoot : pubFoot.Sub endFoot :=
  ⟨fun _ => rfl, fun k hk => beq_page_false fun he => Bool.false_ne_true (hk.symm.trans (unitKeys_of_le (by omega)))⟩

/-- Every publication has the declaration that it had. -/
def PubDecls (s t : State) : Prop := ∀ k, (lookupKey t.net.pubs k).map (fun x => x.decl) = (lookupKey s.net.pubs k).map (fun x => x.decl)

section
variable {s₀ s : State} {img : Image}

theorem Within.eccRead {a n unit : Nat} {F : Foot} (h : Within F s₀ s) : Within F s₀ (s.eccRead a n unit) := h.foldl (·.event)

theorem Within.writeBytes {a : Nat} {bs : List Byte} (h : Within codeFoot s₀ s) : Within codeFoot s₀ (s.writeBytes a bs) := by
  unfold State.writeBytes
  extract_lets s1
  have h1 : Within codeFoot s₀ s1 := h.move
  split
  · exact h1.move
  · exact (h1.move (t := { s1 with mem := _ })).foldl (·.event)

theorem Within.copyCode {n : Nat} (h : Within codeFoot s₀ s) : Within codeFoot s₀ (s.copyCode n) := h.eccRead.forAll (·.writeBytes)

/-- An accepted task set stands in the scheduler, and TSET shows it (R466). -/
theorem loadTasks_accepted (h : taskSetOk s.variant img = true) :
    (s.loadTasks img).get R.SCHED_STATUS_TSET = 1
      ∧ (s.loadTasks img).sched.tasks = img.tasks.foldl (fun a d => insertKey d.num { decl := d, enabled := d.enabled } a) [] := by
  rw [State.loadTasks, if_pos h]
  exact ⟨get_put_value (F := R.SCHED_STATUS_TSET) (v := 1) (by decide), rfl⟩

/-- A refused task set leaves the scheduler as it was, TSET 0, and a CONFIG event that waits (R466). -/
theorem loadTasks_refused (hcan : s.canonical = true) (h : taskSetOk s.variant img = false) :
    (s.loadTasks img).get R.SCHED_STATUS_TSET = 0 ∧ (s.loadTasks img).sched = s.sched
      ∧ { cls := .config, unit := 0x0504 } ∈ (s.loadTasks img).flt.inbox := by
  rw [State.loadTasks, if_neg (by rw [h]; exact Bool.false_ne_true)]
  have hcopy : Within codeFoot s (s.copyCode img.codeSize) := (Within.refl _ s).copyCode
  have hrise := (Keeps.copyCode (n := img.codeSize) (Keeps.refl s)).canonical hcan
  generalize s.copyCode img.codeSize = s1 at hcopy hrise
  have hsched := congrArg (fun x : State => x.sched) hcopy.mask
  have htset := get_put_same (Bool.and_eq_true_iff.mp hrise).2 R.SCHED_STATUS_TSET 0
  refine ⟨htset, hsched, ?_⟩
  exact List.mem_append_right _ (List.mem_singleton_self _)

theorem pubDecls_trans {t u : State} (h : PubDecls s t) (k : PubDecls t u) : PubDecls s u := fun n => (k n).trans (h n)

theorem pubDecls_of_pubs {t : State} (h : t.net.pubs = s.net.pubs) : PubDecls s t := fun k => by rw [h]

/-- A publication that sends its state again keeps its declaration, and the others stay. -/
theorem pubNew_pubDecls (k : Nat) (s : State) : PubDecls s (s.pubNew k) := by
  intro j
  cases hx : lookupKey s.net.pubs k with
  | none => rw [State.pubNew, hx]
  | some x =>
    by_cases hsend : s.pubOn k = true ∧ x.members ≠ some (s.pubMembers k)
    · obtain ⟨-, hother, hsame⟩ := pubNew_shows hx hsend.1 hsend.2
      by_cases hjk : j = k
      · rw [hjk, hsame, hx]
        rfl
      · rw [hother j hjk]
    · rw [pubNew_quiet]
      by_cases hon : s.pubOn k = true
      · exact .inr ⟨x, hx, not_ne_iff.mp fun hne => hsend ⟨hon, hne⟩⟩
      · exact .inl (Bool.eq_false_iff.mpr hon)

/-- The publications that are on send their state. -/
theorem pubsNew_pubDecls (l : List Nat) (s : State) : PubDecls s (forAll l State.pubNew s) :=
  forAll_induction (P := PubDecls s) (pubDecls_of_pubs rfl) fun k _ x hx => pubDecls_trans hx (pubNew_pubDecls k x)

/-- Step 6 has ended, before the lanes' marks, the conditions and the publications follow. -/
def State.stepSixEnded (img : Image) (s : State) : State := ({ s with host := { s.host with boards := img.boards } }).setPhase .applied

/-- The lanes' repeat marks follow pair operation. -/
theorem Within.setRepeat {b : Bool} (h : Within markFoot s₀ s) : Within markFoot s₀ (s.setRepeat b) := h.forAll fun hx => hx.move

/-- What the end of step 6 keeps: all beside its foot, the publications' declarations, and the events that wait. -/
theorem applyEnd_shows (img : Image) (s : State) :
    Within endFoot (s.stepSixEnded img) (s.applyEnd img) ∧ PubDecls s (s.applyEnd img)
      ∧ (∀ e ∈ s.flt.inbox, e.cls ≠ .intlk → e ∈ (s.applyEnd img).flt.inbox) := by
  unfold State.applyEnd
  extract_lets _ s1 s2
  have h2 : Within markFoot s1 s2 := .ite (Within.move (.refl _ s1)).setRepeat (Within.refl _ s1).setRepeat
  have hpubs2 := congrArg (fun x : State => x.net.pubs) h2.mask
  have hbox2 : InboxKept s1 s2 := .ite (InboxKept.refl s1).modAmber.setRepeat (InboxKept.refl s1).setRepeat
  have h3 : Within condFoot s2 s2.condsAgain := (Within.refl condFoot s2).condsAgain
  have hbox := (hbox2.condsAgain.forAll (l := [0, 1, 2, 3].filter (fun k => s2.pubOn k)) (f := State.pubNew) InboxKept.pubNew).inbox
  clear_value s2
  generalize s2.condsAgain = s3 at h3 hbox
  have hpubs3 := congrArg (fun x : State => x.net.pubs) h3.mask
  have h4 : Within pubFoot s3 (forAll ([0, 1, 2, 3].filter (fun k => s2.pubOn k)) State.pubNew s3) := (Within.refl pubFoot s3).forAll (·.pubNew)
  refine ⟨?_, pubDecls_trans (pubDecls_of_pubs (hpubs3.trans hpubs2)) (pubsNew_pubDecls _ s3), hbox⟩
  exact ((h2.widen markFoot_sub_endFoot).then h3 condFoot_sub_endFoot).then h4 pubFoot_sub_endFoot

/-- What stands before the image's sections are in: the tasks, then the settings. -/
def State.settingsIn (img : Image) (s : State) : State := (((s.loadTasks img).applyRegs img.regs).applyP s.settingsP).applyU s.settingsU

theorem settingsIn_variant (img : Image) (s : State) : (s.settingsIn img).variant = s.variant :=
  (Keeps.refl s).loadTasks.applyRegs.applyP.applyU.variant

/-- Without settings, only the tasks move what the scheduler, its register and the collector show. -/
theorem settingsIn_none (hregs : img.regs = []) (hP : s.settingsP = []) (hU : s.settingsU = []) :
    s.settingsIn img = { s.loadTasks img with host := { (s.loadTasks img).host with setP := [] } } := by
  rw [State.settingsIn, hregs, hP, hU]
  rfl

theorem exec_imageApply (hphase : s.host.phase = .verified) (h0 : s.up 0 = true) (h2 : s.up 2 = true) (hl4 : s.flt.l4 = false) :
    exec (.imageApply img) s = .next (((s.settingsIn img).applyNet img).applyEnd img) :=
  congrArg Host.Outcome.next (if_pos (by simp [hphase, h0, h2, hl4]))

end

/-- Settles O8: the sections stand before the step ends, and what ends it moves none of them. -/
theorem imageSectionsApplied : Obligations.ImageSectionsApplied := by
  unfold Obligations.ImageSectionsApplied
  intro s img hcan hphase h0 h2 hl4
  refine ⟨_, exec_imageApply hphase h0 h2 hl4, ?_⟩
  have hvar := settingsIn_variant img s
  have htasks := settingsIn_none (img := img) (s := s)
  have hok := loadTasks_accepted (s := s) (img := img)
  have hno := loadTasks_refused (img := img) hcan
  generalize s.settingsIn img = s1 at hvar htasks
  generalize s.loadTasks img = sl at htasks hok hno
  obtain ⟨hend, hdecls, hbox⟩ := applyEnd_shows img (s1.applyNet img)
  generalize (s1.applyNet img).applyEnd img = t at hend hdecls hbox
  have hphase := congrArg (fun x : State => x.host.phase) hend.mask
  have hstreams := congrArg (fun x : State => x.net.streams) hend.mask
  have hsubs := congrArg (fun x : State => x.net.subs) hend.mask
  have hsess := congrArg (fun x : State => x.canopy.sess) hend.mask
  have hpset := congrArg (fun x : State => x.safe.pset) hend.mask
  have hsched := congrArg (fun x : State => x.sched) hend.mask
  have htset := hend.keys R.SCHED_STATUS_TSET (by decide)
  refine ⟨hphase, hstreams, hsubs, hsess, hdecls, ?_, fun hregs hP hU => ?_⟩
  · rw [← hvar]
    exact hpset
  · cases htasks hregs hP hU
    refine ⟨fun h => ?_, fun h => ?_⟩
    · obtain ⟨hone, hset⟩ := hok h
      exact ⟨htset.trans hone, (congrArg SchedSt.tasks hsched).trans hset⟩
    · obtain ⟨hzero, hkept, hevent⟩ := hno h
      exact ⟨htset.trans hzero, hsched.trans hkept, hbox _ hevent (by decide)⟩

end Sys2Proof.Machine
end

section
-- One proof after the other: side by side, their many threads would take more memory than the check has.
set_option Elab.async false
namespace Sys2Proof.Machine

/-! ## A pair hold of this tick that names the event counter

An L3 engages the hold latch (R363), which takes a RESUME of the same tick back, with the pair holds of that tick and the bits that each
of them notes (R366). The statement takes every state in service, so a pair hold may note the counter of events itself.
-/

/-- A device in service whose RESUME and pair hold came on the tick in progress; the pair hold notes the counter of events, as it was. -/
def holdOnCounter : State :=
  { glades := (List.range 44).map (fun g => (g, { inReset := false }))
    host := { phase := .applied }
    pwm :=
      { holds := [{ at_ := 0, pair := 0, bits := { bits := [(R.FLT_CNT_EVENTS, false, true)] } }]
        resumed := some { at_ := 0, chs := [], out := 0, pcnt := [], holds := [] } } }

/-- An event of the safety class that is to be taken at least at L3. -/
def eventAtL3 : Event := { cls := .safe, unit := 0x0300, req := .atLeast 3 }

theorem exec_faultEvent (e : Option Event) (s : State) : exec (.faultEvent e) s = .next (faultEventEffect e s) := rfl

set_option maxRecDepth 4000 in
theorem holdOnCounter_uncounted : (faultEventEffect (some eventAtL3) holdOnCounter).get R.FLT_CNT_EVENTS = 0 := by decide

/-- Refutes O11: the L3 event is counted, and the hold latch that it engages puts the counter back. -/
theorem not_faultEventRecorded : ¬ Obligations.FaultEventRecorded := by
  intro h
  obtain ⟨hrecords, -⟩ := h
  obtain ⟨t, hexec, hcount, -⟩ := hrecords holdOnCounter eventAtL3 (by decide) rfl rfl (by decide)
  have ht := Host.Outcome.next.inj ((exec_faultEvent _ _).symm.trans hexec)
  have hzero : holdOnCounter.get R.FLT_CNT_EVENTS = 0 := by decide
  rw [← ht, holdOnCounter_uncounted, hzero] at hcount
  exact absurd hcount (by decide)

end Sys2Proof.Machine
end
